-- ==== Sys2Proof/Word.lean ====
section
/-! DEFINITION. The word types and their plainest arithmetic (00 R11: little-endian, bit 0 least
significant). A register field is held as the natural number its bits spell; a signed field as the
two's complement number of its width. -/

namespace Sys2Proof

/-- One byte of a memory or of a message. -/
abbrev Byte := BitVec 8

/-- The signed number that `raw` spells in a field of `w` bits. -/
def toSigned (w raw : Nat) : Int :=
  if 2 ^ (w - 1) ≤ raw % 2 ^ w then (raw % 2 ^ w : Int) - 2 ^ w else (raw % 2 ^ w : Int)

/-- The bits that spell the signed number `i` in a field of `w` bits. -/
def ofSigned (w : Nat) (i : Int) : Nat := (i % (2 ^ w : Int)).toNat

/-- Bits `lo + n - 1` to `lo` of `x`. -/
def bitField (x lo n : Nat) : Nat := x / 2 ^ lo % 2 ^ n

/-- Bit `i` of `x`. -/
def bitOf (x i : Nat) : Bool := x / 2 ^ i % 2 = 1

/-- `x` with bit `i` set or cleared. -/
def setBit (x i : Nat) (b : Bool) : Nat :=
  match bitOf x i, b with
  | true, false => x - 2 ^ i
  | false, true => x + 2 ^ i
  | _, _ => x

/-- A truth value as a one-bit field. -/
def bit01 (b : Bool) : Nat := if b then 1 else 0

/-- `x + 1`, stopping at `m` (the saturating counters of the manual). -/
def satInc (m x : Nat) : Nat := if x < m then x + 1 else m

/-- `x + d`, stopping at `m`. -/
def satAdd (m x d : Nat) : Nat := if x + d < m then x + d else m

/-- The `n` bytes of `x`, least significant first (R11). -/
def leBytes : Nat → Nat → List Nat
  | 0, _ => []
  | n + 1, x => x % 256 :: leBytes n (x / 256)

/-- The number that little-endian bytes spell (R11). -/
def leValue : List Nat → Nat
  | [] => 0
  | b :: bs => b + 256 * leValue bs

/-- Lookup in an association list: the first entry with the key. -/
def look {α : Type} : List (Nat × α) → Nat → Option α
  | [], _ => none
  | (k', v) :: t, k => if k' = k then some v else look t k

/-- Insertion by rising key; an entry with the same key is replaced. -/
def ins {α : Type} : List (Nat × α) → Nat → α → List (Nat × α)
  | [], k, v => [(k, v)]
  | (k', v') :: t, k, v =>
    if k < k' then (k, v) :: (k', v') :: t
    else if k' = k then (k, v) :: t
    else (k', v') :: ins t k v

/-- The association list without the keys that `p` names. -/
def dropKeys {α : Type} (l : List (Nat × α)) (p : Nat → Bool) : List (Nat × α) :=
  l.filter (fun e => !(p e.1))

/-- The sum of a list of numbers. -/
def sumNat (l : List Nat) : Nat := l.foldl (· + ·) 0

/-- The least element of a list, or `d` for the empty list. -/
def minNat (d : Nat) : List Nat → Nat
  | [] => d
  | x :: xs => xs.foldl min x

end Sys2Proof
end

