-- ==== Sys2Proof/Syntax.lean ====
section
/-! DEFINITION. The commands of the module (spec/opcode_table.json) and the records their operands
are made of. -/

namespace Sys2Proof

/-- An event on its way to the mirror (02 R63 to R66): its stamp, the elapsed time since the instant the
stamp records, its code, entering island and unit, the steps its unit had made (R594) and its content. -/
structure EventIn where
  stamp : Int
  age : Nat
  code : Nat
  island : Nat
  unit : Nat
  steps : Nat
  escalated : Bool := false
  fault : Bool := false
  payload : List Int := []
deriving DecidableEq, Repr

/-- The content a data-plane writer fills into a board side (02, "The setpoint board"): singles. -/
structure SideIn where
  seq : Nat
  computed : Int
  sps : List Nat
  ffs : List Nat
  obsOk : Bool := false
  authHalf : Bool := false
  dstep : Nat := 0
deriving DecidableEq, Repr

/-- A one-shot entry as it is inserted (03 Table 3.13). -/
structure EntryIn where
  instant : Int
  action : Nat
  flags : Nat
  payload : Nat
deriving DecidableEq, Repr

/-- A CLASSMAP entry (14 Table 14.4): the first match in entry order applies. -/
structure ClassMapS where
  carrier : Nat
  limit : Nat
  prefixLen : Nat := 0
  addr : Nat := 0
deriving DecidableEq, Repr

/-- A DATAID record (14 Table 14.4, 13 R464). -/
structure DataIdS where
  id : Nat
  service : Nat             -- the message it protects: its SERVICE and KIND
  kind : Nat
  crcsel : Nat
  maxGap : Nat := 2
  timeout : Nat             -- ms
  reaction : Nat
  fnMask : Nat := 0
deriving DecidableEq, Repr

/-- An input descriptor of a crop pack (04 Table 4.15). -/
structure DescS where
  cls : Nat
  ordinal : Nat
  required : Bool := false
  freeOk : Bool := false             -- a free-running source is accepted
  unit : Nat := 0                    -- pack unit code of the expected value
  periodMax : Nat
  fnMask : Nat := 0
  lieLimit : Nat := 0                -- single; 0: the pack's default
deriving DecidableEq, Repr

/-- An entry of a pack's tensor directory (04 Table 4.16). -/
structure PackTensorS where
  id : Nat
  dtype : Nat                        -- 1 int8, 2 int16
  offset : Nat
  length : Nat
  scale : Nat                        -- single
deriving DecidableEq, Repr

/-- A crop pack: what its header, descriptors and directory say (04 Tables 4.14 to 4.16). -/
structure PackS where
  vendor : Nat
  packId : Nat
  crop : Nat
  version : Nat := 0                 -- VER_MAJOR in bits 15-8, VER_MINOR in bits 7-0
  name : List Nat := []              -- up to 32 bytes
  ops : Nat := 0                     -- per step, in units of a million
  tensors : List PackTensorS := []
  warmMin : Nat := 0                 -- 0.5 s units
  lieLimit : Nat := 0                -- single
  innovLimit : Nat := 0              -- single
  inputs : List DescS := []
deriving DecidableEq, Repr

/-- What a Hamper record says (14 Table 14.4). -/
inductive RecVal where
  | role (role size workers : Nat)
  | tree (upstream port : Nat)
  | name (name : Nat)
  | classMap (l : List ClassMapS)
  | certPol (l : List (Nat × Nat))
  | dataId (d : DataIdS)
  | prot (bytes : List Nat)
  | slots (owners : List Nat)
  | obj (value : List (Nat × Nat))     -- sub-index -> field value
  | bytes (l : List Nat)               -- every other type
deriving DecidableEq, Repr

/-- A configuration record of a Hamper image (14 Table 14.3): whether its CRC is right and whether a reserved field or
its padding holds anything but 0. -/
structure RecIn where
  typ : Nat
  skippable : Bool := false
  unit : Nat                           -- 255: every unit
  inst : Nat
  len : Nat
  val : RecVal
  crcOk : Bool := true
  reserved : Bool := false
deriving DecidableEq, Repr

/-- A pack record: its position, the SHA-256 of its value, the header's and trailer's fields that 04 R175 and R176
check (Tables 4.14 and 4.17), whether the two CRCs and the signature are right, and what its pack says. -/
structure PackIn where
  pos : Nat := 0
  digest : Nat := 0
  minFw : Nat
  pack : PackS
  magic : Nat := 0x4B415043          -- bytes 0x43 0x50 0x41 0x4B, little-endian
  fmtMajor : Nat := 1
  fmtMinor : Nat := 0
  hdrLen : Nat := 128
  packLen : Nat := 200 + 24 * pack.inputs.length + 16 * pack.tensors.length
  hdrCrcOk : Bool := true
  bodyCrcOk : Bool := true
  keyId : Nat := 1
  sigOk : Bool := true               -- under the key KEY_ID names
  cells : Nat := 4096
  features : Nat := 192
  stepNs : Nat := 2000000
  inputOff : Nat := 128
  tensorOff : Nat := 128 + 24 * pack.inputs.length
deriving DecidableEq, Repr

/-- A record's bytes with its framing, padding and CRC (14 Table 14.3), for a value of `len` bytes. -/
def framedBytes (len : Nat) : Nat := 12 + (len + 3) / 4 * 4 + 4

/-- The bytes of several records. -/
def recordsBytes (lens : List Nat) : Nat := lens.foldl (fun n l => n + framedBytes l) 0

/-- A Hamper image (14 R472): its records, the fields of its header and signature block (Tables 14.1 and 14.2), and what
its two CRCs and the signatures show: PUBKEY is the root key, CERT verifies under it, SIG verifies under PUBKEY. -/
structure ImageIn where
  machineId : Nat
  generation : Nat
  minFw : Nat := 0
  recs : List RecIn
  packs : List PackIn := []
  cfgLen : Nat := recordsBytes (recs.map (fun r => r.len))
  imageLen : Nat := 320 + cfgLen + recordsBytes (packs.map (fun p => p.packLen))
  nrec : Nat := recs.length + packs.length
  magic : Nat := 0x52504D48            -- bytes 0x48 0x4D 0x50 0x52, little-endian
  fmtMajor : Nat := 1
  fmtMinor : Nat := 0
  hdrLen : Nat := 64
  hdrCrcOk : Bool := true
  reserved : Bool := false             -- a reserved field of the header or the block is not 0
  blkCrcOk : Bool := true
  keyId : Nat := 1
  rootKey : Bool := true
  certOk : Bool := false
  sigOk : Bool := true
deriving DecidableEq, Repr

/-- A Hamper key with the image in it (14 R469). -/
structure KeyIn where
  uid : Nat
  image : ImageIn
deriving DecidableEq, Repr

/-- A section of a firmware image (17 Table 17.1): its kind, its digest and the blocks it stands in. -/
structure SectionIn where
  kind : Nat
  offset : Nat
  length : Nat
  crc : Nat
  digest : Nat
deriving DecidableEq, Repr

/-- A firmware manifest (17 Table 17.1), field by field; `reserved` is what its reserved fields hold, `sigOk` whether its
signature verifies. -/
structure ManifestIn where
  magic : Nat := 0x464D5055            -- bytes 0x55 0x50 0x4D 0x46, little-endian
  fmtMajor : Nat := 1
  fmtMinor : Nat := 0
  version : Nat
  secFloor : Nat
  imageLen : Nat
  nblocks : Nat
  hwId : Nat := 0x4180
  built : Int := 0
  reserved : Nat := 0
  sections : List SectionIn
  keyId : Nat := 2
  sig : Nat := 0
  sigOk : Bool := true
deriving DecidableEq, Repr

/-- A Rucksack (14 Table 14.12): its header's fields, the Hamper part, the manifest of its firmware section, and whether
its CRC is right. -/
structure RuckIn where
  unit : Nat
  image : ImageIn
  man : ManifestIn
  serial : Nat
  fwLen : Nat
  fwDigest : Nat := 0                  -- SHA-256 of its WORKER section
  magic : Nat := 0x4B435552            -- bytes 0x52 0x55 0x43 0x4B, little-endian
  fmt : Nat := 1
  crcOk : Bool := true
deriving DecidableEq, Repr

/-- A foreground test request (15 Table 15.12); THRESH a single. -/
structure TestIn where
  test : Nat
  kind : Nat
  chan : Nat
  unit : Nat
  limit : Nat
  thresh : Nat
deriving DecidableEq, Repr

/-- What a start shows (15 Table 15.14): firmware slots with a failing section, physical engines that fail
their known-answer test, the power die's temperature in °C, whether the Thermos charged and passed its test
with the capacity in %, READ_MS, control block copies whose CRC fails (16 R536), and the stored and
computed check of a retention record whose CRC fails (07 R275). -/
structure StartIn where
  badSlots : List Nat := []
  failing : List Nat := []
  tmod : Int := 25
  thermosOk : Bool := true
  capacity : Nat := 100
  readMs : Nat := 0
  badCtrl : List Nat := []
  retainBad : Option (Nat × Nat) := none
deriving DecidableEq, Repr

/-- What a universal input's pin shows at a conversion (18 R584, R598): the quantity in millionths of the mode's unit, in
FREQ and SWITCH the level in µV; for these two what the level was since the last conversion, oldest first, each with its age
in ns; and whether the wire is open. -/
structure ReadingIn where
  micro : Int := 0
  wave : List (Nat × Int) := []
  broken : Bool := false
deriving DecidableEq, Repr

/-- The requests that pass the mode gate (02, "The mode gate"; 13 Table 13.16). `fn` is a function. -/
inductive ReqKind where
  | mode (target : Nat)
  | setpoint (fn : Nat)
  | goal | line | engage | turn | newLoad | ticket | pack
  | fnStop (fn : Nat)
  | fnRestart (fn : Nat)
  | changeSet (fn : Nat)
  | clearSwitch | clearPort
  | test | pcClear | swReset
  | autotune | amendRead | amendCommit
  | insert | cancel
  | live (key : Nat)
deriving DecidableEq, Repr

/-- A message of the service protocol: its bytes from the header on (13 Table 13.2), and whether the agreed minor
defines its KIND (13 R448; the spec numbers no KIND of any service). -/
structure MsgIn where
  bytes : List Nat
  kindOk : Bool := true
deriving DecidableEq, Repr

/-- A TLS handshake (13 R443): the version, suite and group negotiated by their code points of the TLS standard,
whether the client's certificate has an ECDSA P-256 key, the trust anchor it chains to, and whether the partner asks for
early data or resumption. -/
structure TlsIn where
  version : Nat := 0x0304
  suite : Nat := 0x1301
  group : Nat := 23
  p256 : Bool := true
  anchor : Option Nat := none
  early : Bool := false
  resume : Bool := false
deriving DecidableEq, Repr

/-- What an attempt on a connection of the fleet link does (17 R568): it begins, fails, or is up with the back end's
TLS handshake. -/
inductive FleetStep where
  | opens
  | fails
  | up (tls : TlsIn)
deriving DecidableEq, Repr

/-- A HELLO (13 Table 13.5) with its TAG and what its carrier shows of the partner. -/
structure HelloIn where
  carrier : Nat                            -- codes of Table 13.11
  tcp : Bool
  tls : Bool
  peer : Nat                               -- CAN source address or trunk unit
  addr : Nat                               -- IPv6 address, or CAN source address
  certHash : Nat                           -- SHA-256 of the certificate's key, on TLS
  cls : Nat
  timeout : Nat
  services : List (Nat × List (Nat × Nat))
  tag : Nat := 0
  port : Nat := 0                          -- the partner's port, over UDP
  name : List Nat := []                    -- PARTNER, 16 bytes
deriving DecidableEq, Repr

/-- One entry of an OBJECT request (13 R459). An entry relayed to a worker carries the worker's answer: its result
code and the value's bytes. -/
structure ObjIn where
  unit : Nat
  sub : Nat
  index : Nat
  remote : Nat × List Int := (0, [])
deriving DecidableEq, Repr

/-- An auto-tune request (06 Table 6.7): singles as their patterns. -/
structure TuneIn where
  loop : Nat
  rule : Nat
  flags : Nat
  settle : Nat
  cycles : Nat
  timeout : Nat
  amp : Nat
  hys : Nat
  band : Nat
  bias : Nat
deriving DecidableEq, Repr

/-- What the power stage measured of one coil over a thermal step (10 R372, R373): RMS current in µA, mean
coil voltage in µV, mean current in mA. -/
structure CoilIn where
  ch : Nat
  rms : Nat
  volts : Nat := 0
  mean : Nat := 0
deriving DecidableEq, Repr

/-- A CAN frame from the bus (12 R419, R420). -/
structure CanIn where
  id : Nat
  ide : Bool
  fdf : Bool := false
  brs : Bool := false
  esi : Bool := false
  remote : Bool := false
  dlc : Nat
  data : List Nat
deriving DecidableEq, Repr

/-- One entry of a SAMPLES message (12 Table 12.10). -/
structure NodeIn where
  sig : Nat
  fault : Bool
  raw : Nat
deriving DecidableEq, Repr

/-- What the network computes in a step (04, "The step"): the 14 singles of Table 4.6 from FEED on, each
binding's normalised squared residual, the overall innovation, ego-motion and feed-forward terms. -/
structure NetIn where
  out : List Nat
  residuals : List (Nat × Nat) := []
  innovation : Nat := 0
  speed : Nat := 0
  pitch : Nat := 0
  ffs : List (Nat × List Nat) := []
  latent : List Nat := []              -- the new latent state, cell by cell (04 R147)
deriving DecidableEq, Repr

/-- A candidate setpoint set of the optimiser with the observer's prediction for it (05 R197): values as
function, index, single and the predicted instant; predictions as singles. -/
structure CandIn where
  values : List (Nat × Nat × Nat × Int)
  feed : Nat
  rotorLoss : Nat
  shoeLoss : Nat
  damage : Nat
  mog : Nat
  fuel : Nat := 0
deriving DecidableEq, Repr

/-- A signal in view (07 R256): elevation in degrees, C/N0 in 0.25 dB-Hz. -/
structure SigIn where
  ant : Nat
  sig : Nat
  sv : Nat
  fcn : Int := 0
  elev : Nat
  cn0 : Nat
deriving DecidableEq, Repr

/-- What a channel's dump shows (07 R257 to R260): the phase lock indicator in thousandths, a carrier jump of
more than a quarter cycle, VE (-1) or VL (1) above P, synchronisation and the longest coherent interval the
signal allows (coded as TCOH), a preamble or check pass, and C/N0. -/
structure DumpIn where
  pli : Nat
  jump : Bool := false
  side : Int := 0
  sync : Bool := false
  longest : Nat := 0
  half : Bool := false
  cn0 : Nat
deriving DecidableEq, Repr

/-- What the island latched of a channel (07 Table 7.6): doubles and a single as their patterns. -/
structure MeasIn where
  ch : Nat
  prOk : Bool := true
  cpOk : Bool := true
  pr : Nat
  cp : Nat
  doppler : Nat
deriving DecidableEq, Repr

/-- A decoded word unit (07 Table 7.7), whether it completes ephemerides (1), an almanac (2) or the ionosphere
parameters (3), and the UTC offset and leap-second announcement it completes (07 R274). -/
structure WordIn where
  ch : Nat
  start : Int
  check : Nat
  nbits : Nat
  bits : List Nat
  completes : Nat := 0
  utc : Option (Int × Nat) := none
deriving DecidableEq, Repr

/-- The moving-baseline solution of an epoch (07 R267): singles, the validation ratio in tenths, the length
in mm. -/
structure HeadIn where
  heading : Nat
  bpitch : Nat
  ratio : Nat
  len : Nat
deriving DecidableEq, Repr

/-- What navigation computes at an epoch (07 R265 to R273): the satellites with SBAS corrections, the validation ratio
in tenths, the position in nanodegrees, singles for the rest, the baseline, the time estimate at the receiver (harvest
time minus GPS time as received, ns) with its bound, and the channels whose measurements it uses. -/
structure SolIn where
  sbas : Nat := 0
  ratio : Nat := 0
  lat : Int := 0
  lon : Int := 0
  hgt : Nat := 0
  vel : List Nat := []
  sig : List Nat := []
  head : Option HeadIn := none
  toff : Option (Int × Nat) := none
  used : List Nat := []
deriving DecidableEq, Repr

/-- An RTCM 3 message (07 R270): its number, its epoch, and a station's identity and coordinates in 0.1 mm. -/
structure RtcmIn where
  msg : Nat
  epoch : Int := 0
  station : Nat := 0
  coords : Int × Int × Int := (0, 0, 0)
deriving DecidableEq, Repr

/-- A guidance line (08 Table 8.4): the origin in nanodegrees, the points in mm. -/
structure LineIn where
  id : Nat
  typ : Nat
  flags : Nat := 0
  lat0 : Int := 0
  lon0 : Int := 0
  spacing : Nat
  npts : Nat
  skip : Nat := 1
  pts : List (Int × Int) := []
deriving DecidableEq, Repr

/-- What a guidance step takes beside the records (08 R282, R283): roll and pitch of the IMU attitude filter,
thousandths of a degree, and the IMU yaw rate since the step before, thousandths of a degree per second. -/
structure NavIn where
  roll : Int := 0
  pitch : Int := 0
  yaw : Int := 0
deriving DecidableEq, Repr

/-- A frame at ingress (09 R331, R332, R340): its lines of raw samples, the numbers of the lines with a packet header
error that cannot be corrected or a payload CRC error, and the exposure and gain its embedded data report. -/
structure FrameIn where
  lines : List (List Nat) := []
  bad : List Nat := []
  embed : Option (Nat × Nat) := none
deriving DecidableEq, Repr


/-- The commands of the module, one per row of the opcode table. Every command carries the elapsed time
`t` (ns) at which it takes place (log entry 1); what the outside world supplies (a reading, a frame, the
result of a network or of a signature check) is an operand (log entry 7). -/
inductive Instr where
  /-- CANARY_WINDOW_END (R15). -/
  | canaryWindowEnd (t : Nat) (laps : List Nat)
  /-- ISL_CLOCK (R32). -/
  | islClock (t : Nat) (isl edges : Nat)
  /-- CROSSING_TRANSFER (R33). -/
  | crossingTransfer (t : Nat) (isl requester : Nat) (toIsland : Bool) (data reads : Nat)
  /-- ISL_STALL (R42). -/
  | islStall (t : Nat) (isl requester : Nat) (toIsland : Bool)
  /-- FIFO_RESYNC (R39). -/
  | fifoResync (t : Nat) (isl : Nat)
  /-- ISL_RESYNC_FAIL (R41). -/
  | islResyncFail (t : Nat) (isl : Nat)
  /-- ISLAND_RESTART (R46). -/
  | islandRestart (t : Nat) (isl : Nat) (ok : Bool)
  /-- SPB_PUBLISH (R50). -/
  | spbPublish (t : Nat) (fn : Nat) (side : SideIn)
  /-- FUNCTION_LAUNCH (R185). -/
  | functionLaunch (t : Nat) (fn : Nat) (instant : Int) (readings : List (Nat × Nat)) (warms : Bool) (dstep : Nat)
  /-- GATE_REQUEST (R57). -/
  | gateRequest (t : Nat) (session : Nat) (kind : ReqKind) (msg : MsgIn)
  /-- MIRROR_SNAPSHOT_REFRESH (R62). -/
  | mirrorSnapshotRefresh (t : Nat)
  /-- EVENT_ARRIVE (R66). -/
  | eventArrive (t : Nat) (ev : EventIn)
  /-- EVENT_RELEASE (R65). -/
  | eventRelease (t : Nat) (sent : List (Nat × Nat))
  /-- PROT_WRITE (R75). -/
  | protWrite (t : Nat) (master entry rights : Nat)
  /-- MASTER_ACCESS (R76). -/
  | masterAccess (t : Nat) (master region offset : Nat) (write : Bool) (value : Byte) (ecc : Nat)
  /-- SRAM_SCRUB (R82). -/
  | sramScrub (t : Nat) (partition offset ecc : Nat) (entry : Option Nat)
  /-- DRAM_SLOT_DECISION (R84). -/
  | dramSlotDecision (t : Nat) (asking : List Nat)
  /-- DRAM_PRIO_WRITE (R87). -/
  | dramPrioWrite (t : Nat) (session q v : Nat)
  /-- GNSS_TIME_UPDATE (R105). -/
  | gnssTimeUpdate (t : Nat) (toff : Int) (terr : Nat) (valid queuesEmpty : Bool)
  /-- PENDING_STEP (R106). -/
  | pendingStep (t : Nat) (err : Int) (queuesEmpty : Bool)
  /-- SLEW_END (R105). -/
  | slewEnd (t : Nat) (resid : Int)
  /-- HOLDOVER_ENTRY (R100). -/
  | holdoverEntry (t : Nat)
  /-- HOLDOVER_EXPIRE (R100). -/
  | holdoverExpire (t : Nat)
  /-- PPS_EDGE (R110). -/
  | ppsEdge (t : Nat)
  /-- EVT_EDGE (R112). -/
  | evtEdge (t : Nat) (rising : Bool) (width taken : Nat)
  /-- TB_EVT_OVERRUN (R112). -/
  | tbEvtOverrun (t : Nat) (taken : Nat)
  /-- TICK (R116). -/
  | tick (t : Nat) (port : Nat)
  /-- SECOND (R116). -/
  | second (t : Nat) (port : Nat)
  /-- WHISTLE_FRAME_RX (R117). -/
  | whistleFrameRx (t : Nat) (port : Nat) (bytes : List Nat) (marker : Int)
  /-- RT_REQ (R116). -/
  | rtReq (t : Nat) (port : Nat) (fresh : Bool)
  /-- RT_REP (R116). -/
  | rtRep (t : Nat) (port : Nat)
  /-- RT_REP_RX (R117). -/
  | rtRepRx (t : Nat) (port : Nat) (bytes : List Nat) (tB : Int)
  /-- TIME_STATUS_MESSAGE (R103). -/
  | timeStatusMessage (t : Nat) (err qual : Nat)
  /-- TIME_STATUS_LATE (R103). -/
  | timeStatusLate (t : Nat)
  /-- TB_WH_LOSS (R121). -/
  | tbWhLoss (t : Nat) (port : Nat)
  /-- LN_COH_CANCEL (R122). -/
  | lnCohCancel (t : Nat)
  /-- WHISTLE_RETURN (R123). -/
  | whistleReturn (t : Nat) (port : Nat) (err : Int)
  /-- PERIODIC_FIRE (R128). -/
  | periodicFire (t : Nat) (gen : Nat) (instant : Int) (reading : ReadingIn) (axes : List Nat) (imuFault : Bool)
  /-- LN_INSERT (R596). -/
  | lnInsert (t : Nat) (session unit : Nat) (entry : EntryIn) (remote : Nat × List Int)
  /-- ONESHOT_ARM (R132). -/
  | oneshotArm (t : Nat) (slot ecc : Nat)
  /-- ONESHOT_FIRE (R125). -/
  | oneshotFire (t : Nat) (slot : Nat)
  /-- LN_CANCEL (R135). -/
  | lnCancel (t : Nat) (session handle : Nat)
  /-- OBS_STEP (R142). -/
  | obsStep (t : Nat) (instant : Int)
  /-- OBS_GATHER_CLOSE (R142). -/
  | obsGatherClose (t : Nat)
  /-- OBS_STEP_OUTPUT (R142). -/
  | obsStepOutput (t : Nat) (net : NetIn)
  /-- OBS_OVERRUN (R145). -/
  | obsOverrun (t : Nat)
  /-- OBS_SAMPLE_ARRIVE (R154). -/
  | obsSampleArrive (t : Nat) (bind : Nat) (time : Int) (raw : Nat)
  /-- SOURCE_MISSING (R159). -/
  | sourceMissing (t : Nat) (bind : Nat) (unitDown : Bool)
  /-- OFFSET_ESTIMATE (R157). -/
  | offsetEstimate (t : Nat) (bind : Nat) (offset : Int) (unc : Nat)
  /-- OFFSET_INVALID (R157). -/
  | offsetInvalid (t : Nat) (bind : Nat)
  /-- OBS_STATE_ECC (R150). -/
  | obsStateEcc (t : Nat) (region : Nat)
  /-- PACK_SELECT (R178). -/
  | packSelect (t : Nat) (session slot : Nat)
  /-- OBS_PACK_CHANGE (R178). -/
  | obsPackChange (t : Nat)
  /-- OPERATOR_SETPOINT (R192). -/
  | operatorSetpoint (t : Nat) (session fn index value dataId : Nat) (ovr : Bool)
  /-- OPTIMISER_CYCLE (R194). -/
  | optimiserCycle (t : Nat) (cands : List CandIn) (maps : List (Nat × Nat × Nat))
  /-- GOAL_SELECT (R196). -/
  | goalSelect (t : Nat) (session goal : Nat)
  /-- FN_STOP_REQUEST (R207). -/
  | fnStopRequest (t : Nat) (session fn : Nat)
  /-- FN_RESTART_REQUEST (R207). -/
  | fnRestartRequest (t : Nat) (session fn : Nat) (tj : Int) (remote : Nat × List Int)
  /-- CHANGE_SET (R206). -/
  | changeSet (t : Nat) (session fn : Nat) (writes : List (Nat × Nat)) (restart : Bool) (remote : Nat × List Int)
  /-- AMEND_READ (R211). -/
  | amendRead (t : Nat) (session : Nat)
  /-- AMEND_COMMIT (R211). -/
  | amendCommit (t : Nat) (session : Nat)
  /-- LOOP_SAMPLE (R231). -/
  | loopSample (t : Nat) (loop : Nat) (instant : Int)
  /-- LOOP_EVALUATE (R231). -/
  | loopEvaluate (t : Nat) (engine : Nat)
  /-- AUTOTUNE_REQUEST (R237). -/
  | autotuneRequest (t : Nat) (session : Nat) (req : TuneIn)
  /-- CE_MISMATCH (R244). -/
  | ceMismatch (t : Nat) (engine slot : Nat)
  /-- CE_TAKEOVER (R244). -/
  | ceTakeover (t : Nat)
  /-- SPARE_SELF_TEST (R247). -/
  | spareSelfTest (t : Nat) (ok : Bool)
  /-- LOOP_STATE_ECC (R243). -/
  | loopStateEcc (t : Nat) (loop good offset : Nat)
  /-- CHANNEL_DUMP (R258). -/
  | channelDump (t : Nat) (ch : Nat) (dump : DumpIn)
  /-- CHANNEL_RATES_ARRIVE (R258). -/
  | channelRatesArrive (t : Nat) (ch : Nat) (code carrier : Int)
  /-- CHANNEL_LOST (R260). -/
  | channelLost (t : Nat) (ch : Nat)
  /-- MEAS_EPOCH (R262). -/
  | measEpoch (t : Nat) (view : List SigIn) (meas : List MeasIn)
  /-- GN_SOLUTION (R265). -/
  | gnSolution (t : Nat) (sol : SolIn)
  /-- NAV_WORD (R264). -/
  | navWord (t : Nat) (word : WordIn)
  /-- RTCM_FRAME (R270). -/
  | rtcmFrame (t : Nat) (slot : Nat) (crcOk : Bool) (msg : RtcmIn)
  /-- GN_ANT_OPEN (R254). -/
  | gnAntOpen (t : Nat) (ant current : Nat)
  /-- GN_ANT_SHORT (R254). -/
  | gnAntShort (t : Nat) (ant : Nat)
  /-- ANT_RETRY (R254). -/
  | antRetry (t : Nat) (ant : Nat)
  /-- RETENTION_WRITE (R275). -/
  | retentionWrite (t : Nat)
  /-- GNSS_REFRESH (R277). -/
  | gnssRefresh (t : Nat)
  /-- GN_REFRESH (R277). -/
  | gnRefresh (t : Nat)
  /-- GUIDANCE_STEP (R285). -/
  | guidanceStep (t : Nat) (nav : NavIn)
  /-- GD_ENGAGE (R297). -/
  | gdEngage (t : Nat) (session : Nat) (tj : Int) (remote : Nat × List Int)
  /-- TURN_REQUEST (R295). -/
  | turnRequest (t : Nat) (session : Nat) (right : Bool)
  /-- LINE_LOAD (R292). -/
  | lineLoad (t : Nat) (session : Nat) (bytes : List Nat)
  /-- LINE_SELECT (R293). -/
  | lineSelect (t : Nat) (session id : Nat)
  /-- YM_FLOW_SAMPLE (R311). -/
  | ymFlowSample (t : Nat) (time : Int) (flow : Nat)
  /-- NEW_LOAD (R317). -/
  | newLoad (t : Nat) (session : Nat)
  /-- TICKET_ENTRY (R318). -/
  | ticketEntry (t : Nat) (session : Nat) (loads : List Nat) (mass moist : Nat)
  /-- TASKDATA_EXPORT (R319). -/
  | taskdataExport (t : Nat) (session : Nat) (first last : Int)
  /-- FRAME_START (R331). -/
  | frameStart (t : Nat) (cam : Nat) (frame : FrameIn)
  /-- CAM_MISSED (R330). -/
  | camMissed (t : Nat) (cam : Nat)
  /-- UNIT_READY (R334). -/
  | unitReady (t : Nat) (cams : List Nat)
  /-- ISP_UNIT_DONE (R335). -/
  | ispUnitDone (t : Nat) (core : Nat) (ae : Option (Nat × Nat))
  /-- ISP_ABORT (R345). -/
  | ispAbort (t : Nat) (core : Nat)
  /-- SETTING_WRITE (R339). -/
  | settingWrite (t : Nat) (cam : Nat) (done : Bool)
  /-- CAM_LINK (R325). -/
  | camLink (t : Nat) (cam : Nat)
  /-- LINK_RETRAIN (R325). -/
  | linkRetrain (t : Nat) (cam : Nat) (ok : Bool) (trigLat : Nat)
  /-- VISION_RUN (R347). -/
  | visionRun (t : Nat) (cam : Nat) (values : List Nat)
  /-- VIS_DROP (R348). -/
  | visDrop (t : Nat) (cam : Nat)
  /-- VIS_PAIR (R349). -/
  | visPair (t : Nat) (cam : Nat)
  /-- CROP_WRITE (R337). -/
  | cropWrite (t : Nat) (session cam out field value : Nat)
  /-- ISP_PRIO_WRITE (R342). -/
  | ispPrioWrite (t : Nat) (session cam v : Nat)
  /-- POC_OVERCURRENT (R592). -/
  | pocOvercurrent (t : Nat) (currents : List (Nat × Nat))
  /-- PROP_TARGET (R358). -/
  | propTarget (t : Nat) (ch : Nat) (ma : Int) (profile src : Nat) (hold : Bool)
  /-- PROFILE_START (R359). -/
  | profileStart (t : Nat) (ch prf cur src rail : Nat)
  /-- PROFILE_OFF (R359). -/
  | profileOff (t : Nat) (ch src rail : Nat)
  /-- BOOST_RAIL_READY (R368). -/
  | boostRailReady (t : Nat) (conv rail : Nat)
  /-- PEAK_REACHED (R371). -/
  | peakReached (t : Nat) (ch : Nat) (reached : Bool)
  /-- PEAK_END (R363). -/
  | peakEnd (t : Nat) (ch rail : Nat)
  /-- HOLD_END (R363). -/
  | holdEnd (t : Nat) (ch : Nat)
  /-- OFF_DONE (R363). -/
  | offDone (t : Nat) (ch cur : Nat)
  /-- CARRIER_PERIOD (R360). -/
  | carrierPeriod (t : Nat) (ch mean need : Nat)
  /-- VD_SAT (R361). -/
  | vdSat (t : Nat) (ch : Nat)
  /-- COIL_MODEL_STEP (R372). -/
  | coilModelStep (t : Nat) (tmod : Int) (coils : List CoilIn)
  /-- VD_OPEN (R377). -/
  | vdOpen (t : Nat) (ch cur : Nat)
  /-- VD_SHORT (R377). -/
  | vdShort (t : Nat) (ch cur : Nat)
  /-- VD_SHORT_RETRY (R377). -/
  | vdShortRetry (t : Nat) (ch : Nat)
  /-- VD_SHORT_GND (R377). -/
  | vdShortGnd (t : Nat) (ch cur above : Nat)
  /-- VD_BANK_OC (R377). -/
  | vdBankOc (t : Nat) (bank cur : Nat)
  /-- VALVE_RESET_RELEASE (R379). -/
  | valveResetRelease (t : Nat) (ch : Nat)
  /-- SWITCH_COMMAND (R387). -/
  | switchCommand (t : Nat) (ch : Nat) (on : Bool) (src mj : Nat)
  /-- SWITCH_DEFERRED_APPLY (R388). -/
  | switchDeferredApply (t : Nat) (ch mj : Nat)
  /-- LS_TRIP (R389). -/
  | lsTrip (t : Nat) (ch limited above cur mj : Nat)
  /-- RETRY_PAUSE_END (R390). -/
  | retryPauseEnd (t : Nat) (ch : Nat)
  /-- LS_THERMAL (R393). -/
  | lsThermal (t : Nat) (ch : Nat) (tj : Int) (mj : Nat)
  /-- LS_OPEN (R398). -/
  | lsOpen (t : Nat) (ch cur held : Nat)
  /-- LS_CLEAR_REQUEST (R397). -/
  | lsClearRequest (t : Nat) (session ch : Nat) (tj : Int)
  /-- RESET_GRACE_END (R399). -/
  | resetGraceEnd (t : Nat) (clamps : List (Nat × Nat))
  /-- LINK_WATCHDOG_EXPIRE (R400). -/
  | linkWatchdogExpire (t : Nat)
  /-- FULL_RESET_DEAD (R400). -/
  | fullResetDead (t : Nat)
  /-- WH_ACTIVE (R407). -/
  | whActive (t : Nat) (clamps : List (Nat × Nat))
  /-- WH_PIN_EDGE (R403). -/
  | whPinEdge (t : Nat) (pin : Nat) (level : Bool) (clamps : List (Nat × Nat))
  /-- WH_EN_CHANGE (R401). -/
  | whEnChange (t : Nat) (level : Bool) (clamps : List (Nat × Nat))
  /-- WH_FREQ (R404). -/
  | whFreq (t : Nat) (pin hz : Nat) (clamps : List (Nat × Nat))
  /-- WH_STORE_LOAD (R406). -/
  | whStoreLoad (t : Nat) (crcOk : Bool)
  /-- CAN_FRAME_RX (R420). -/
  | canFrameRx (t : Nat) (ch age : Nat) (frame : CanIn)
  /-- CAN_FRAME_TX_DONE (R419). -/
  | canFrameTxDone (t : Nat) (ch age : Nat)
  /-- CAN_BUSOFF (R415). -/
  | canBusoff (t : Nat) (ch : Nat)
  /-- CAN_BUSOFF_RECOVER (R415). -/
  | canBusoffRecover (t : Nat) (ch : Nat)
  /-- CAN_TSMAP (R418). -/
  | canTsmap (t : Nat)
  /-- CAN_ADDRESS_CLAIM (R425). -/
  | canAddressClaim (t : Nat) (ch : Nat) (won : Bool)
  /-- ETH_LINK (R427). -/
  | ethLink (t : Nat) (port : Nat) (up : Bool)
  /-- GPTP_SYNC (R428). -/
  | gptpSync (t : Nat) (port : Nat)
  /-- GPTP_ANNOUNCE (R428). -/
  | gptpAnnounce (t : Nat) (port : Nat)
  /-- ETH_GM_CONFLICT (R428). -/
  | ethGmConflict (t : Nat) (port ident : Nat)
  /-- FNP_DETECT (R432). -/
  | fnpDetect (t : Nat) (port : Nat) (valid : Bool) (cls : Nat)
  /-- FNP_PWR_FAULT (R432). -/
  | fnpPwrFault (t : Nat) (port power above limited : Nat)
  /-- FNP_REPOWER (R432). -/
  | fnpRepower (t : Nat) (port : Nat)
  /-- FNP_CLEAR (R432). -/
  | fnpClear (t : Nat) (session port : Nat)
  /-- SAMPLES (R433). -/
  | samples (t : Nat) (port : Nat) (bytes : List Nat)
  /-- TIME_REQ (R434). -/
  | timeReq (t : Nat) (port : Nat)
  /-- TIME_REP (R434). -/
  | timeRep (t : Nat) (port : Nat) (bytes : List Nat)
  /-- TIME_REP_TIMEOUT (R434). -/
  | timeRepTimeout (t : Nat) (port : Nat)
  /-- TK_ANNOUNCE (R435). -/
  | tkAnnounce (t : Nat) (port unit ident : Nat)
  /-- TK_LINK (R438). -/
  | tkLink (t : Nat) (port : Nat) (up : Bool)
  /-- TK_SAT (R437). -/
  | tkSat (t : Nat) (port mbit : Nat)
  /-- TLS_HANDSHAKE (R443). -/
  | tlsHandshake (t : Nat) (carrier : Nat) (tls : TlsIn)
  /-- HELLO (R449). -/
  | hello (t : Nat) (h : HelloIn)
  /-- BYE (R452). -/
  | bye (t : Nat) (session : Nat) (msg : MsgIn)
  /-- KEEPALIVE (R452). -/
  | keepalive (t : Nat) (session : Nat) (msg : MsgIn)
  /-- SESSION_TIMEOUT (R452). -/
  | sessionTimeout (t : Nat) (session : Nat)
  /-- BAD_MESSAGE (R445). -/
  | badMessage (t : Nat) (session : Nat) (msg : MsgIn)
  /-- OBJECT_READ (R459). -/
  | objectRead (t : Nat) (session : Nat) (msg : MsgIn) (entries : List ObjIn)
  /-- OBJECT_WRITE (R459). -/
  | objectWrite (t : Nat) (session : Nat) (msg : MsgIn) (entries : List (ObjIn × Nat))
  /-- NEXT_FIELD_WRITE (R487). -/
  | nextFieldWrite (t : Nat) (session index sub value : Nat)
  /-- OPLIM_WRITE (R485). -/
  | oplimWrite (t : Nat) (session fn index : Nat) (maximum : Bool) (value : Nat)
  /-- SES_MAX_WRITE (R457). -/
  | sesMaxWrite (t : Nat) (session cls v : Nat)
  /-- PC_CONTENT_WRITE (R545). -/
  | pcContentWrite (t : Nat) (session field v : Nat)
  /-- EVENT_SUBSCRIBE (R68). -/
  | eventSubscribe (t : Nat) (session : Nat) (msg : MsgIn)
  /-- STREAM_SUBSCRIBE (R461). -/
  | streamSubscribe (t : Nat) (session : Nat) (msg : MsgIn) (stream every : Nat)
  /-- SNAPSHOT_REQUEST (R461). -/
  | snapshotRequest (t : Nat) (session : Nat) (msg : MsgIn) (cam out : Nat)
  /-- E2E_TIMEOUT (R465). -/
  | e2eTimeout (t : Nat) (session dataId : Nat)
  /-- KEY_SENSE (R470). -/
  | keySense (t : Nat) (key : Option KeyIn)
  /-- HAMPER_WRITE (R489). -/
  | hamperWrite (t : Nat) (session unit : Nat) (image : ImageIn) (newMachine : Bool) (remote : Nat × List Int)
  /-- HMP_WRITE (R490). -/
  | hmpWrite (t : Nat) (ok : Bool)
  /-- SHADOW_WRITE_BACK (R482). -/
  | shadowWriteBack (t : Nat) (session : Nat)
  /-- RUCKSACK_SEND (R491). -/
  | rucksackSend (t : Nat) (unit fwLen ms : Nat)
  /-- RUCKSACK_RX (R492). -/
  | rucksackRx (t : Nat) (ruck : RuckIn)
  /-- RUCK_BAD (R492). -/
  | ruckBad (t : Nat) (unit cause : Nat)
  /-- PWR_OV (R496). -/
  | pwrOv (t : Nat) (vbat held : Nat)
  /-- CRANK_ENTRY (R497). -/
  | crankEntry (t : Nat) (vbat held : Nat)
  /-- PWR_CRANK (R497). -/
  | pwrCrank (t : Nat) (vbat vmin held : Nat)
  /-- PWR_CRANK_LONG (R498). -/
  | pwrCrankLong (t : Nat) (vmin : Nat)
  /-- THERMOS_START (R523). -/
  | thermosStart (t : Nat) (vmin held : Nat) (finalDone : Bool)
  /-- PWR_SENS (R500). -/
  | pwrSens (t : Nat) (sup held : Nat)
  /-- SENS_RETRY (R500). -/
  | sensRetry (t : Nat) (sup : Nat)
  /-- CORE_RAIL_ADJUST (R501). -/
  | coreRailAdjust (t : Nat)
  /-- PWR_TEMP (R504). -/
  | pwrTemp (t : Nat) (sensor : Nat) (tj plate : Int)
  /-- MODE_REQUEST (R506). -/
  | modeRequest (t : Nat) (session target : Nat)
  /-- MODE_TRANSITION_START (R507). -/
  | modeTransitionStart (t : Nat) (target : Nat)
  /-- MODE_CHANGE (R507). -/
  | modeChange (t : Nat) (reported : List Nat)
  /-- WORKER_MODE_NOTICE (R509). -/
  | workerModeNotice (t : Nat) (target : Nat)
  /-- SLEEP_ENTRY (R510). -/
  | sleepEntry (t : Nat)
  /-- WAKE (R511). -/
  | wake (t : Nat) (line : Nat) (active : Bool)
  /-- FOREGROUND_TEST (R515). -/
  | foregroundTest (t : Nat) (session : Nat) (req : TestIn)
  /-- TEST_BUSY (R515). -/
  | testBusy (t : Nat) (kind chan : Nat)
  /-- TEST_RESULT (R515). -/
  | testResult (t : Nat) (kind chan : Nat) (load : Bool) (ohms : Nat)
  /-- MODE_IMAGE (R514). -/
  | modeImage (t : Nat) (sec : Nat)
  /-- THERMOS_CAPACITY_TEST (R514). -/
  | thermosCapacityTest (t : Nat) (ok : Bool) (capacity : Nat)
  /-- POWER_ON (R516). -/
  | powerOn (t : Nat) (vbat held : Nat)
  /-- BROWN_OUT (R516). -/
  | brownOut (t : Nat) (held : Nat)
  /-- RESET_PIN (R516). -/
  | resetPin (t : Nat) (low : Bool) (held : Nat)
  /-- WATCHDOG (R516). -/
  | watchdog (t : Nat) (plane unserved : Nat)
  /-- LOCK_UP (R516). -/
  | lockUp (t : Nat) (plane : Nat)
  /-- SOFTWARE_RESET (R518). -/
  | softwareReset (t : Nat) (session : Nat) (core : Bool) (block : Nat) (idle : Bool)
  /-- DEBUG_RESET (R516). -/
  | debugReset (t : Nat)
  /-- RST_ESCALATE (R517). -/
  | rstEscalate (t : Nat) (target : Nat)
  /-- RESET_RELEASE (R520). -/
  | resetRelease (t : Nat) (start : StartIn)
  /-- CONFIG_END (R522). -/
  | configEnd (t : Nat) (managerMode : Nat)
  /-- MODE_CONFIG_FAIL (R521). -/
  | modeConfigFail (t : Nat)
  /-- BB_RECORD_WRITE (R535). -/
  | bbRecordWrite (t : Nat) (stepsDone : Nat)
  /-- BB_LOST (R535). -/
  | bbLost (t : Nat)
  /-- BB_ANCHOR (R534). -/
  | bbAnchor (t : Nat)
  /-- HOURS_SAVE (R532). -/
  | hoursSave (t : Nat)
  /-- SEQ_BLOCK_REQUEST (R533). -/
  | seqBlockRequest (t : Nat) (unit : Nat) (granted : Option Nat)
  /-- BB_READOUT (R537). -/
  | bbReadout (t : Nat) (session unit area : Nat) (first : Option (Bool × Nat × Nat)) (limit : Nat) (remote : Nat × List Int)
  /-- PC_UPDATE (R545). -/
  | pcUpdate (t : Nat) (temp : Int)
  /-- PC_UPDATE_DONE (R547). -/
  | pcUpdateDone (t : Nat) (temp : Int)
  /-- PC_TEMP_RETURN (R547). -/
  | pcTempReturn (t : Nat) (temp : Int)
  /-- PC_CLEAR (R544). -/
  | pcClear (t : Nat) (session : Nat)
  /-- BEGIN (R557). -/
  | begin (t : Nat) (session : Nat) (man : ManifestIn)
  /-- BLOCK (R558). -/
  | block (t : Nat) (session n : Nat) (data : List Nat) (crc : Nat)
  /-- STATUS (R556). -/
  | status (t : Nat) (session : Nat)
  /-- ABORT (R556). -/
  | abort (t : Nat) (session : Nat)
  /-- ACTIVATE (R560). -/
  | activate (t : Nat) (session : Nat) (atNext : Bool)
  /-- UPD_VERIFY (R559). -/
  | updVerify (t : Nat)
  /-- UPD_EXPIRE (R557). -/
  | updExpire (t : Nat)
  /-- FL_RECONNECT (R568). -/
  | flReconnect (t : Nat) (conn : Nat) (stage : FleetStep) (cell wlan : Bool)
  /-- TELEMETRY_PUBLISH (R570). -/
  | telemetryPublish (t : Nat)
  /-- CART_BROADCAST (R571). -/
  | cartBroadcast (t : Nat)
  /-- UI_STATUS_CONVERT (R585). -/
  | uiStatusConvert (t : Nat) (ui : Nat) (reading : ReadingIn)
  /-- UI_SHUNT_RECLOSE (R584). -/
  | uiShuntReclose (t : Nat) (ui : Nat)
  /-- HARVEST_TIME_SAVE (R104). -/
  | harvestTimeSave (t : Nat)
  /-- RTC_CALIBRATION (R104). -/
  | rtcCalibration (t : Nat)
  /-- GGA_SEND (R269). -/
  | ggaSend (t : Nat) (slot : Nat)
  /-- FNP_LINK (R434). -/
  | fnpLink (t : Nat) (port : Nat) (up : Bool)
  /-- TK_LINK_NOTICE (R438). -/
  | tkLinkNotice (t : Nat) (port : Nat)
  /-- SES_CONNECTION_CLOSED (R452). -/
  | sesConnectionClosed (t : Nat) (session : Nat)
  /-- FL_CONNECTION_LOST (R568). -/
  | flConnectionLost (t : Nat) (conn : Nat)
  /-- WORKER_SAFE_STOP_REPORT (R509). -/
  | workerSafeStopReport (t : Nat) (unit : Nat) (holds : Bool)
  /-- SVC_EN_CHANGE (R580). -/
  | svcEnChange (t : Nat) (grounded : Bool)
  /-- PC_RESCHEDULE (R547). -/
  | pcReschedule (t : Nat) (temp : Int)
  /-- VBAT_LOSS (R516). -/
  | vbatLoss (t : Nat) (vbat : Nat)
deriving DecidableEq, Repr

end Sys2Proof
end

