-- ==== Sys2Proof/Config.lean ====
section
/-! DEFINITION. What an implementation fixes and the values the manual leaves free. An opaque constant
has no body: nothing in Lean can prove a value of it (log entries 5, 6 and 7). -/

namespace Sys2Proof.Config

/-- The free value of the n-th value the manual leaves open (log entry 7). -/
opaque freeValue : Nat → Nat

/-- What a field reads whose measurement no command carries, by elapsed time and field (log entry 107). -/
opaque measured : Nat → Nat → Nat

/-- What a single-precision pattern that spells no finite number stands for in exact arithmetic
(infinities and NaNs; log entry 5). -/
opaque nonFinite : Nat → Rat

/-- A value of the image pipeline the manual leaves open: which value, and what it depends on (log entry 126). -/
opaque imageValue : Nat → List Rat → Rat

/-- A quotient by zero, which no rule gives a value (log entry 7). -/
opaque overZero : Rat → Rat

/-- Degrees of latitude per metre north, by latitude in degrees: the datum's ellipsoid, log entry 6. -/
opaque degNorth : Rat → Rat

/-- Degrees of longitude per metre east, by latitude in degrees, log entry 6. -/
opaque degEast : Rat → Rat

end Sys2Proof.Config
end

