-- ==== Sys2Proof/Machine/Num.lean ====
section
/-! DEFINITION. IEEE 754 single-precision values as exact rationals, and the check values of
13 Table 13.13. A stored single is its 32-bit pattern; arithmetic is exact and rounds once, to nearest
with ties to even, where a value is stored (log entry 5). -/

namespace Sys2Proof.Machine

/-- The rational `2 ^ e` for an integer exponent. -/
def pow2 (e : Int) : Rat :=
  if 0 ≤ e then ((2 ^ e.toNat : Nat) : Rat) else mkRat 1 (2 ^ (-e).toNat)

/-- The value of a single-precision pattern. -/
def f32 (w : Nat) : Rat :=
  let e : Nat := w / 2 ^ 23 % 256
  let m : Nat := w % 2 ^ 23
  let mag : Rat :=
    if e = 255 then Config.nonFinite (w % 2 ^ 31)
    else if e = 0 then (m : Rat) * pow2 (-149)
    else ((2 ^ 23 + m : Nat) : Rat) * pow2 ((e : Int) - 150)
  if w / 2 ^ 31 % 2 = 1 then -mag else mag

/-- The value of a double-precision pattern. -/
def f64 (w : Nat) : Rat :=
  let e : Nat := w / 2 ^ 52 % 2048
  let m : Nat := w % 2 ^ 52
  let mag : Rat :=
    if e = 2047 then Config.nonFinite (w % 2 ^ 63)
    else if e = 0 then (m : Rat) * pow2 (-1074)
    else ((2 ^ 52 + m : Nat) : Rat) * pow2 ((e : Int) - 1075)
  if w / 2 ^ 63 % 2 = 1 then -mag else mag

/-- Rounding of a non-negative rational to an integer, ties to even. -/
def roundEven (q : Rat) : Nat :=
  let n : Nat := q.num.natAbs / q.den
  let r : Nat := q.num.natAbs % q.den
  if q.den < 2 * r then n + 1
  else if 2 * r = q.den then n + n % 2
  else n

/-- Rounding of a rational to the nearest integer, halves away from zero. -/
def roundInt (q : Rat) : Int := if 0 ≤ q then (q + 1 / 2).floor else -((-q + 1 / 2).floor)

/-- The exponent of the leading binary digit of a positive rational. -/
def expOf (q : Rat) : Int :=
  let e : Int := (Nat.log2 q.num.natAbs : Int) - (Nat.log2 q.den : Int)
  if pow2 e ≤ q then e else e - 1

/-- The IEEE 754 pattern nearest to a rational, with `m` fraction and `w` exponent bits; beyond the range, infinity. -/
def toIeee (m w : Nat) (q : Rat) : Nat :=
  if q = 0 then 0
  else
    let bias : Int := 2 ^ (w - 1) - 1
    let a := if q < 0 then -q else q
    let e := expOf a
    let e' := if e < 1 - bias then 1 - bias else e
    let n := roundEven (a / pow2 (e' - m))
    let bits : Nat := if e < 1 - bias then n else (e' + bias).toNat * 2 ^ m + n - 2 ^ m
    let bits : Nat := if (2 ^ w - 1) * 2 ^ m ≤ bits then (2 ^ w - 1) * 2 ^ m else bits
    if q < 0 then 2 ^ (m + w) + bits else bits

/-- The single-precision pattern nearest to a rational. -/
def toF32 (q : Rat) : Nat := toIeee 23 8 q

/-- The double-precision pattern nearest to a rational. -/
def toF64 (q : Rat) : Nat := toIeee 52 11 q

/-- A quotient; by zero, a value nothing constrains. -/
def divQ (a b : Rat) : Rat := if b = 0 then Config.overZero a else a / b

/-- A rational held between two bounds. -/
def clampQ (lo hi q : Rat) : Rat := if q < lo then lo else if hi < q then hi else q

/-- The larger of two rationals. -/
def maxQ (a b : Rat) : Rat := if a < b then b else a

/-- The smaller of two rationals. -/
def minQ (a b : Rat) : Rat := if b < a then b else a

/-- The magnitude of a rational. -/
def absQ (a : Rat) : Rat := if a < 0 then -a else a

/-! ### Square root and angles

DESIGN CHOICE: functions no rational has are evaluated to a fixed number of binary digits (log entry 6). -/

/-- The integer square root, built from bit `k` of the root down. -/
def isqrtFrom (n : Nat) : Nat → Nat → Nat
  | 0, r => if (r + 1) * (r + 1) ≤ n then r + 1 else r
  | k + 1, r => isqrtFrom n k (if (r + 2 ^ (k + 1)) * (r + 2 ^ (k + 1)) ≤ n then r + 2 ^ (k + 1) else r)

/-- The integer square root. -/
def isqrt (n : Nat) : Nat := isqrtFrom n (Nat.log2 n / 2) 0

/-- The square root of a rational to 64 binary digits; of a negative one, 0. -/
def sqrtQ (q : Rat) : Rat :=
  let k := 64 + Nat.log2 q.den
  if q ≤ 0 then 0 else mkRat (isqrt (q.num.natAbs * 4 ^ k / q.den)) (2 ^ k)

/-- The number pi to 40 decimals. -/
def piQ : Rat := mkRat 31415926535897932384626433832795028841972 (10 ^ 40)

/-- One, in the fixed-point numbers the series are summed in. -/
def fxOne : Int := 2 ^ 80

/-- A rational as a fixed-point number. -/
def toFx (q : Rat) : Int := (q * (fxOne : Rat)).floor

/-- A fixed-point number as a rational. -/
def ofFx (x : Int) : Rat := mkRat x (2 ^ 80)

/-- The terms of the sine's (n = 1) or cosine's (n = 0) series from `term` on, summed; `x2` is the argument's square. -/
def sinSeries (x2 : Int) : Nat → Nat → Int → Int → Int
  | 0, _, _, acc => acc
  | k + 1, n, term, acc => sinSeries x2 k (n + 2) (-(term * x2 / fxOne) / ((n + 1) * (n + 2) : Nat)) (acc + term)

/-- An angle in radians brought into -pi to pi, fixed-point. -/
def foldAngle (q : Rat) : Int := toFx (q - 2 * piQ * (q / (2 * piQ) + 1 / 2).floor)

/-- Sine. -/
def sinQ (q : Rat) : Rat :=
  let x := foldAngle q
  ofFx (sinSeries (x * x / fxOne) 32 1 x 0)

/-- Cosine. -/
def cosQ (q : Rat) : Rat :=
  let x := foldAngle q
  ofFx (sinSeries (x * x / fxOne) 32 0 fxOne 0)

/-- Tangent. -/
def tanQ (q : Rat) : Rat := divQ (sinQ q) (cosQ q)

/-- The terms of the arc tangent's series from `pow` on, summed. -/
def atanSeries (x2 : Int) : Nat → Nat → Int → Int → Int
  | 0, _, _, acc => acc
  | k + 1, n, pow, acc => atanSeries x2 k (n + 2) (-(pow * x2 / fxOne)) (acc + pow / (n : Int))

/-- The arc tangent of a number from 0 to 1, by halving the angle twice. -/
def atanUnit (q : Rat) : Rat :=
  let half := fun (t : Rat) => t / (1 + sqrtQ (1 + t * t))
  let x := toFx (half (half q))
  4 * ofFx (atanSeries (x * x / fxOne) 24 1 x 0)

/-- Arc tangent of y / x in the quadrant of (x, y); of the null vector, a value nothing constrains. -/
def atan2Q (y x : Rat) : Rat :=
  if x = 0 ∧ y = 0 then Config.overZero 0
  else
    let a := if absQ y ≤ absQ x then atanUnit (absQ y / absQ x) else piQ / 2 - atanUnit (absQ x / absQ y)
    let a := if x < 0 then piQ - a else a
    if y < 0 then -a else a

/-- One bit of a cyclic redundancy check, most significant bit first, register of `w` bits. -/
def crcBit (w poly reg : Nat) (b : Bool) : Nat :=
  let top := bitOf reg (w - 1)
  let r := reg * 2 % 2 ^ w
  if top != b then Nat.xor r poly else r

/-- One byte, most significant bit first. -/
def crcByte (w poly : Nat) (reg byte : Nat) : Nat :=
  [7, 6, 5, 4, 3, 2, 1, 0].foldl (fun r i => crcBit w poly r (bitOf byte i)) reg

/-- One byte, least significant bit first (a reflected check). -/
def crcByteRefl (poly reg byte : Nat) : Nat :=
  (List.range 8).foldl (fun r _ => if r % 2 = 1 then Nat.xor (r / 2) poly else r / 2)
    (Nat.xor reg byte)

/-- CRC-16: polynomial 0x1021, initial value 0xFFFF, not reflected, no final inversion (Table 13.13). -/
def crc16 (bytes : List Nat) : Nat := bytes.foldl (crcByte 16 0x1021) 0xFFFF

/-- CRC-32C, the Castagnoli polynomial, reflected, initial value and final inversion all ones
(Table 13.13). -/
def crc32c (bytes : List Nat) : Nat :=
  Nat.xor (bytes.foldl (crcByteRefl 0x82F63B78) 0xFFFFFFFF) 0xFFFFFFFF

/-- The five checks of Table 13.13 by CHK code (13 R466): 1 CRC-8, 2 CRC-16, 3 CRC-32, 4 CRC-32C, 5 CRC-64. A reflected one
runs on its polynomial with the bits in the other order. -/
def checkValue (code : Nat) (bytes : List Nat) : Nat :=
  match code with
  | 1 => Nat.xor (bytes.foldl (crcByte 8 0x1D) 0xFF) 0xFF
  | 2 => crc16 bytes
  | 3 => Nat.xor (bytes.foldl (crcByteRefl 0xEDB88320) 0xFFFFFFFF) 0xFFFFFFFF
  | 4 => crc32c bytes
  | _ => Nat.xor (bytes.foldl (crcByteRefl 0xC96C5795D7870F42) 0xFFFFFFFFFFFFFFFF) 0xFFFFFFFFFFFFFFFF

/-! ### SHA-256 (17 R554, R559) -/

/-- The round constants. -/
def shaK : List Nat :=
  [0x428a2f98, 0x71374491, 0xb5c0fbcf, 0xe9b5dba5, 0x3956c25b, 0x59f111f1, 0x923f82a4, 0xab1c5ed5,
    0xd807aa98, 0x12835b01, 0x243185be, 0x550c7dc3, 0x72be5d74, 0x80deb1fe, 0x9bdc06a7, 0xc19bf174,
    0xe49b69c1, 0xefbe4786, 0x0fc19dc6, 0x240ca1cc, 0x2de92c6f, 0x4a7484aa, 0x5cb0a9dc, 0x76f988da,
    0x983e5152, 0xa831c66d, 0xb00327c8, 0xbf597fc7, 0xc6e00bf3, 0xd5a79147, 0x06ca6351, 0x14292967] ++
  [0x27b70a85, 0x2e1b2138, 0x4d2c6dfc, 0x53380d13, 0x650a7354, 0x766a0abb, 0x81c2c92e, 0x92722c85,
    0xa2bfe8a1, 0xa81a664b, 0xc24b8b70, 0xc76c51a3, 0xd192e819, 0xd6990624, 0xf40e3585, 0x106aa070,
    0x19a4c116, 0x1e376c08, 0x2748774c, 0x34b0bcb5, 0x391c0cb3, 0x4ed8aa4a, 0x5b9cca4f, 0x682e6ff3,
    0x748f82ee, 0x78a5636f, 0x84c87814, 0x8cc70208, 0x90befffa, 0xa4506ceb, 0xbef9a3f7, 0xc67178f2]

/-- A 32-bit word rotated right. -/
def rotr (n x : Nat) : Nat := x / 2 ^ n + x % 2 ^ n * 2 ^ (32 - n)

/-- The message schedule, newest word first: each further word from the words 2, 7, 15 and 16 before it. -/
def shaSchedule (w : List Nat) : Nat → List Nat
  | 0 => w
  | n + 1 =>
    let l := shaSchedule w n
    let a := l.getD 14 0
    let b := l.getD 1 0
    let s0 := Nat.xor (Nat.xor (rotr 7 a) (rotr 18 a)) (a / 8)
    let s1 := Nat.xor (Nat.xor (rotr 17 b) (rotr 19 b)) (b / 1024)
    (l.getD 15 0 + s0 + l.getD 6 0 + s1) % 2 ^ 32 :: l

/-- One round on the eight working words. -/
def shaRound (h : List Nat) (kw : Nat) : List Nat :=
  let a := h.getD 0 0
  let e := h.getD 4 0
  let s1 := Nat.xor (Nat.xor (rotr 6 e) (rotr 11 e)) (rotr 25 e)
  let ch := Nat.xor (Nat.land e (h.getD 5 0)) (Nat.land (0xffffffff - e) (h.getD 6 0))
  let t1 := h.getD 7 0 + s1 + ch + kw
  let s0 := Nat.xor (Nat.xor (rotr 2 a) (rotr 13 a)) (rotr 22 a)
  let maj := Nat.xor (Nat.xor (Nat.land a (h.getD 1 0)) (Nat.land a (h.getD 2 0))) (Nat.land (h.getD 1 0) (h.getD 2 0))
  [(t1 + s0 + maj) % 2 ^ 32, a, h.getD 1 0, h.getD 2 0, (h.getD 3 0 + t1) % 2 ^ 32, e, h.getD 5 0, h.getD 6 0]

/-- The number that big-endian bytes spell. -/
def beValue (l : List Nat) : Nat := l.foldl (fun n b => n * 256 + b) 0

/-- One block of 64 bytes. -/
def shaBlock (h block : List Nat) : List Nat :=
  let w := (List.range 16).map (fun (i : Nat) => beValue ((block.drop (4 * i)).take 4))
  let kw := (shaSchedule w.reverse 48).reverse.zip shaK
  (h.zip (kw.foldl (fun (v : List Nat) (p : Nat × Nat) => shaRound v (p.1 + p.2)) h)).map
    (fun (p : Nat × Nat) => (p.1 + p.2) % 2 ^ 32)

/-- SHA-256 of a message, as the number that its 32 bytes spell, the first the most significant. -/
def sha256 (msg : List Nat) : Nat :=
  let n := msg.length
  let m := msg ++ [0x80] ++ List.replicate ((119 - n % 64) % 64) 0 ++ (leBytes 8 (8 * n)).reverse
  let h0 := [0x6a09e667, 0xbb67ae85, 0x3c6ef372, 0xa54ff53a,
             0x510e527f, 0x9b05688c, 0x1f83d9ab, 0x5be0cd19]
  let h := (List.range (m.length / 64)).foldl (fun (h : List Nat) (i : Nat) => shaBlock h ((m.drop (64 * i)).take 64)) h0
  h.foldl (fun (n x : Nat) => n * 2 ^ 32 + x) 0


end Sys2Proof.Machine
end

