-- ==== Sys2Proof/Machine/MsgOps.lean ====
section
/-! DEFINITION. A message of the service protocol read from its bytes: the header of 13 Table 13.2, the end-to-end block
of Table 13.10 and its check. -/

namespace Sys2Proof

open Sys2Proof.Machine

/-- A byte of a message; past its end 0. -/
def MsgIn.byte (m : MsgIn) (i : Nat) : Nat := m.bytes.getD i 0

/-- A little-endian field of a message's header or payload. -/
def MsgIn.field (m : MsgIn) (off n : Nat) : Nat := leValue ((m.bytes.drop off).take n)

/-- The header's fields (Table 13.2). -/
def MsgIn.service (m : MsgIn) : Nat := m.field 2 2
def MsgIn.major (m : MsgIn) : Nat := m.byte 4
def MsgIn.minor (m : MsgIn) : Nat := m.byte 5
def MsgIn.kind (m : MsgIn) : Nat := m.byte 6
def MsgIn.flags (m : MsgIn) : Nat := m.byte 7
def MsgIn.session (m : MsgIn) : Nat := m.field 8 2

/-- A message's MAGIC, LENGTH and reserved bits are right, and its carrier can have framed it (R444, R445). -/
def MsgIn.framed (m : MsgIn) (most : Option Nat) : Bool :=
  m.bytes.take 2 = [0x50, 0x53] && 16 ≤ m.bytes.length && m.field 12 4 + 16 = m.bytes.length && m.flags < 4 &&
  match most with
  | some n => m.bytes.length ≤ n
  | none => true

/-- The header of the response to a message, for a payload of `n` bytes: the request's SERVICE, version, KIND, SESSION
and TAG (Table 13.2). -/
def MsgIn.respHead (m : MsgIn) (n : Nat) : List Nat :=
  [0x50, 0x53] ++ (m.bytes.drop 2).take 4 ++ [0x40 + m.kind % 64, 0] ++ (m.bytes.drop 8).take 4 ++ leBytes 4 n

/-- An end-to-end block (Table 13.10). -/
structure E2eS where
  dataId : Nat
  alive : Nat
  crcsel : Nat
  check : Nat
deriving DecidableEq, Repr

/-- The block at the start of a message's payload, where FLAGS bit 1 says there is one (R462). -/
def MsgIn.e2e (m : MsgIn) : Option E2eS :=
  if bitOf m.flags 1 && 24 ≤ m.bytes.length then
    some { dataId := m.field 16 2, alive := m.byte 18, crcsel := m.byte 19, check := m.field 20 4 }
  else none

/-- What the check covers, in order: DATA_ID, the 16 header bytes, ALIVE and CRCSEL, and the payload after offset 8
(R463). -/
def MsgIn.covered (m : MsgIn) : List Nat :=
  (m.bytes.drop 16).take 2 ++ m.bytes.take 16 ++ (m.bytes.drop 18).take 2 ++ m.bytes.drop 24

/-- CHECK is right for CRCSEL: a CRC-16 with bytes 6 and 7 at 0, or a CRC-32C (R463, Table 13.10). -/
def MsgIn.checkOk (m : MsgIn) (e : E2eS) : Bool :=
  if e.crcsel = 2 then e.check = crc16 m.covered
  else if e.crcsel = 4 then e.check = crc32c m.covered
  else false

/-- A HELLO's message (Tables 13.2 and 13.5). -/
def HelloIn.msg (h : HelloIn) : MsgIn :=
  let body := [h.cls, h.timeout, h.services.length, 0] ++ (List.range 16).map (fun i => h.name.getD i 0) ++
    h.services.flatMap (fun (p : Nat × List (Nat × Nat)) => leBytes 2 p.1 ++ [p.2.length] ++ p.2.flatMap (fun v => [v.1, v.2]))
  { bytes := [0x50, 0x53, 1, 0, 1, 0, 0, 0, 0, 0] ++ leBytes 2 h.tag ++ leBytes 4 body.length ++ body }

end Sys2Proof
end

