-- ==== Sys2Proof/Machine/Regs.lean ====
section
/-! DEFINITION. The names of the register fields, one key per field. A key is the object
index times 256 plus the sub-index (13 R458, Table 13.12); log entry 4 says how sub-indices are
counted and in which order the singletons of a block stand. -/

namespace Sys2Proof.Machine.R

/-! ### block corePace (Table 1.1, R18) -/
abbrev CORE_PACE : Nat := 0x1000 * 256 + 1
abbrev CORE_PACE_SHED : Nat := 0x1000 * 256 + 2
abbrev CORE_PACE_RINGS : Nat := 0x1000 * 256 + 3
/-! ### block coreMin (Table 1.1, R18) -/
abbrev CORE_PACEMIN : Nat := 0x1001 * 256 + 1
abbrev CORE_PACEMIN_WINDOWS_LOW : Nat := 0x1001 * 256 + 2
/-! ### block coreMirror (Table 2.4, R72) -/
abbrev MIRROR_STAT_LATE : Nat := 0x1002 * 256 + 1
abbrev MIRROR_STAT_DEPTH_MAX : Nat := 0x1002 * 256 + 2
abbrev MIRROR_STAT_LOST : Nat := 0x1002 * 256 + 3
/-! ### block coreProt (Table 2.6, R78) -/
abbrev PROT_STAT_TABLE_CRC : Nat := 0x1003 * 256 + 1
abbrev PROT_STAT_DENIALS : Nat := 0x1003 * 256 + 2
abbrev PROT_STAT_LAST_MASTER : Nat := 0x1003 * 256 + 3
abbrev PROT_STAT_LOCK : Nat := 0x1003 * 256 + 4
/-! ### block isl (Table 1.9, R48) -/
abbrev ISL_STAT_STALLS (n : Nat) : Nat := (0x1010 + n) * 256 + 1
abbrev ISL_STAT_DROPS (n : Nat) : Nat := (0x1010 + n) * 256 + 2
abbrev ISL_STAT_RESTARTS (n : Nat) : Nat := (0x1010 + n) * 256 + 3
abbrev ISL_STAT_HELD (n : Nat) : Nat := (0x1010 + n) * 256 + 4
abbrev ISL_STAT_RESYNC (n : Nat) : Nat := (0x1010 + n) * 256 + 5
abbrev ISL_STAT_CLKOK (n : Nat) : Nat := (0x1010 + n) * 256 + 6
abbrev ISL_STAT_RUN (n : Nat) : Nat := (0x1010 + n) * 256 + 7
/-! ### block arb (Table 2.12, R90) -/
abbrev ARB_CFG_WAITLIM (n : Nat) : Nat := (0x1020 + n) * 256 + 1
abbrev ARB_CFG_PRIO (n : Nat) : Nat := (0x1020 + n) * 256 + 2
abbrev ARB_STAT_FORCED (n : Nat) : Nat := (0x1020 + n) * 256 + 3
abbrev ARB_STAT_WAITMAX (n : Nat) : Nat := (0x1020 + n) * 256 + 4
abbrev ARB_STAT_OWNED (n : Nat) : Nat := (0x1020 + n) * 256 + 5
/-! ### block tbNow (Table 3.1, R96) -/
abbrev TB_NOW : Nat := 0x2000 * 256 + 1
/-! ### block tbUtc (Table 3.1, R96) -/
abbrev TB_UTCOFF_LEAP : Nat := 0x2001 * 256 + 1
abbrev TB_UTCOFF_KNOWN : Nat := 0x2001 * 256 + 2
abbrev TB_UTCOFF_OFFSET : Nat := 0x2001 * 256 + 3
/-! ### block tbStat (Table 3.4, R101) -/
abbrev TB_STAT_QUAL : Nat := 0x2002 * 256 + 1
abbrev TB_STAT_SRCQ : Nat := 0x2002 * 256 + 2
abbrev TB_STAT_SLEWING : Nat := 0x2002 * 256 + 3
abbrev TB_STAT_STEP_PENDING : Nat := 0x2002 * 256 + 4
abbrev TB_STAT_EPOCH_UNKNOWN : Nat := 0x2002 * 256 + 5
abbrev TB_STAT_PPS_ON : Nat := 0x2002 * 256 + 6
abbrev TB_STAT_HOPS : Nat := 0x2002 * 256 + 7
abbrev TB_STAT_HOLD_MIN : Nat := 0x2002 * 256 + 8
/-! ### block tbErr (Table 3.4, R101) -/
abbrev TB_ERR : Nat := 0x2003 * 256 + 1
/-! ### block tbResid (Table 3.4, R101) -/
abbrev TB_RESID : Nat := 0x2004 * 256 + 1
/-! ### block tbEvt (Table 3.6, R112) -/
abbrev TB_EVT_CFG_FILTER : Nat := 0x2005 * 256 + 1
abbrev TB_EVT_CFG_EDGE : Nat := 0x2005 * 256 + 2
abbrev TB_EVT_CFG_PPS_EN : Nat := 0x2005 * 256 + 3
/-! ### block tbWh (Table 3.9, R120) -/
abbrev TB_WH_ROLE (n : Nat) : Nat := (0x2010 + n) * 256 + 1
abbrev TB_WH_VALID (n : Nat) : Nat := (0x2010 + n) * 256 + 2
abbrev TB_WH_LOSSES (n : Nat) : Nat := (0x2010 + n) * 256 + 3
abbrev TB_WH_DELAY (n : Nat) : Nat := (0x2010 + n) * 256 + 4
/-! ### block lnPg (Table 3.12, R129) -/
abbrev LN_PG_PERIOD (n : Nat) : Nat := (0x2100 + n) * 256 + 1
abbrev LN_PG_PHASE (n : Nat) : Nat := (0x2100 + n) * 256 + 2
abbrev LN_PG_CFG_ACTION (n : Nat) : Nat := (0x2100 + n) * 256 + 3
abbrev LN_PG_CFG_OWNER (n : Nat) : Nat := (0x2100 + n) * 256 + 4
abbrev LN_PG_CFG_EN (n : Nat) : Nat := (0x2100 + n) * 256 + 5
/-! ### block lnQ (Table 3.15, R138) -/
abbrev LN_QDEPTH_HIGH : Nat := 0x2300 * 256 + 1
abbrev LN_QDEPTH_DEPTH : Nat := 0x2300 * 256 + 2
/-! ### block lnStat (Table 3.15, R138) -/
abbrev LN_STAT_LATE : Nat := 0x2301 * 256 + 1
abbrev LN_STAT_DROPPED : Nat := 0x2301 * 256 + 2
abbrev LN_STAT_COH_CANCEL : Nat := 0x2301 * 256 + 3
abbrev LN_STAT_REFUSED : Nat := 0x2301 * 256 + 4
/-! ### block obsStat (Table 4.10, R170) -/
abbrev OBS_STAT_STEPNO : Nat := 0x3000 * 256 + 1
abbrev OBS_STAT_DSTEP : Nat := 0x3000 * 256 + 2
abbrev OBS_STAT_WARMING : Nat := 0x3000 * 256 + 3
abbrev OBS_STAT_RUN : Nat := 0x3000 * 256 + 4
abbrev OBS_STAT_PACK : Nat := 0x3000 * 256 + 5
abbrev OBS_STAT_CAUSE : Nat := 0x3000 * 256 + 6
abbrev OBS_STAT_WARM_LEFT : Nat := 0x3000 * 256 + 7
/-! ### block obsCfg (Table 4.12, R173) -/
abbrev OBS_CFG_HOLD_LIMIT : Nat := 0x3001 * 256 + 1
abbrev OBS_CFG_WARM : Nat := 0x3001 * 256 + 2
abbrev OBS_CFG_DEFPACK : Nat := 0x3001 * 256 + 3
/-! ### block obsLate (Table 4.13, R174) -/
abbrev OBS_LATE : Nat := 0x3002 * 256 + 1
abbrev OBS_LATE_DISCARDED : Nat := 0x3002 * 256 + 2
/-! ### block obsOver (Table 4.13, R174) -/
abbrev OBS_OVERRUN_LONGEST : Nat := 0x3003 * 256 + 1
abbrev OBS_OVERRUN_OVERRUNS : Nat := 0x3003 * 256 + 2
abbrev OBS_OVERRUN_CONSEC : Nat := 0x3003 * 256 + 3
/-! ### block obsIn (Table 4.4, R152) -/
abbrev OBS_IN_CFG_CLASS (n : Nat) : Nat := (0x3020 + n) * 256 + 1
abbrev OBS_IN_CFG_ORDINAL (n : Nat) : Nat := (0x3020 + n) * 256 + 2
abbrev OBS_IN_CFG_SRC_TYPE (n : Nat) : Nat := (0x3020 + n) * 256 + 3
abbrev OBS_IN_CFG_SRC_INDEX (n : Nat) : Nat := (0x3020 + n) * 256 + 4
abbrev OBS_IN_CFG_FREE (n : Nat) : Nat := (0x3020 + n) * 256 + 5
abbrev OBS_IN_CFG_UNIT (n : Nat) : Nat := (0x3020 + n) * 256 + 6
abbrev OBS_IN_CFG_DRIFT_PPM (n : Nat) : Nat := (0x3020 + n) * 256 + 7
abbrev OBS_IN_CFG_LATENCY (n : Nat) : Nat := (0x3020 + n) * 256 + 8
abbrev OBS_IN_SCALE_GAIN (n : Nat) : Nat := (0x3020 + n) * 256 + 9
abbrev OBS_IN_SCALE_OFFSET (n : Nat) : Nat := (0x3020 + n) * 256 + 10
abbrev OBS_IN_STAT_STATE (n : Nat) : Nat := (0x3020 + n) * 256 + 11
abbrev OBS_IN_STAT_LATEPCT (n : Nat) : Nat := (0x3020 + n) * 256 + 12
abbrev OBS_IN_STAT_OFFSET_AGE (n : Nat) : Nat := (0x3020 + n) * 256 + 13
/-! ### block fn (Table 2.1, R55) -/
abbrev FN_SPB_SEQ_TAKEN (n : Nat) : Nat := (0x3100 + n) * 256 + 1
abbrev FN_SPB_MISSES (n : Nat) : Nat := (0x3100 + n) * 256 + 2
abbrev FN_SPB_SIDE (n : Nat) : Nat := (0x3100 + n) * 256 + 3
abbrev FN_SPB_VALID (n : Nat) : Nat := (0x3100 + n) * 256 + 4
abbrev FN_CFG_PATH (n : Nat) : Nat := (0x3100 + n) * 256 + 5
abbrev FN_CFG_UNIT (n : Nat) : Nat := (0x3100 + n) * 256 + 6
abbrev FN_CFG_CHAN (n : Nat) : Nat := (0x3100 + n) * 256 + 7
abbrev FN_CFG_SOURCE (n : Nat) : Nat := (0x3100 + n) * 256 + 8
abbrev FN_CFG_STOPPED (n : Nat) : Nat := (0x3100 + n) * 256 + 9
abbrev FN_CFG_RUN_MODES (n : Nat) : Nat := (0x3100 + n) * 256 + 10
abbrev FN_CFG_OBS_BOUND (n : Nat) : Nat := (0x3100 + n) * 256 + 11
abbrev FN_CFG_AUTORESTART (n : Nat) : Nat := (0x3100 + n) * 256 + 12
abbrev FN_CFG_NSP (n : Nat) : Nat := (0x3100 + n) * 256 + 13
abbrev FN_CFG_LOOP_FIRST (n : Nat) : Nat := (0x3100 + n) * 256 + 14
abbrev FN_CFG_LOOP_COUNT (n : Nat) : Nat := (0x3100 + n) * 256 + 15
abbrev FN_CFG_LAUNCH_PG (n : Nat) : Nat := (0x3100 + n) * 256 + 16
abbrev FN_CFG_STALE (n : Nat) : Nat := (0x3100 + n) * 256 + 17
abbrev FN_STAT_STATE (n : Nat) : Nat := (0x3100 + n) * 256 + 18
abbrev FN_STAT_SRC (n : Nat) : Nat := (0x3100 + n) * 256 + 19
abbrev FN_STAT_CAUSE (n : Nat) : Nat := (0x3100 + n) * 256 + 20
abbrev FN_STAT_STALE (n : Nat) : Nat := (0x3100 + n) * 256 + 21
abbrev FN_STAT_AMENDED (n : Nat) : Nat := (0x3100 + n) * 256 + 22
abbrev FN_STAT_AUTH_HALF (n : Nat) : Nat := (0x3100 + n) * 256 + 23
abbrev FN_STAT_FF_ON (n : Nat) : Nat := (0x3100 + n) * 256 + 24
abbrev FN_STAT_CHANGING (n : Nat) : Nat := (0x3100 + n) * 256 + 25
abbrev FN_STAT_CHANGES (n : Nat) : Nat := (0x3100 + n) * 256 + 26
abbrev FN_STAT_STOPS (n : Nat) : Nat := (0x3100 + n) * 256 + 27
/-! ### block fnSp (Table 5.3, R184) -/
abbrev FN_SP_LIM_MIN (n i : Nat) : Nat := (0x3200 + 16 * n + i) * 256 + 1
abbrev FN_SP_LIM_MAX (n i : Nat) : Nat := (0x3200 + 16 * n + i) * 256 + 2
abbrev FN_SP_OPLIM_OPMIN (n i : Nat) : Nat := (0x3200 + 16 * n + i) * 256 + 3
abbrev FN_SP_OPLIM_OPMAX (n i : Nat) : Nat := (0x3200 + 16 * n + i) * 256 + 4
abbrev FN_SP_VAL1_START (n i : Nat) : Nat := (0x3200 + 16 * n + i) * 256 + 5
abbrev FN_SP_VAL1_MANUAL (n i : Nat) : Nat := (0x3200 + 16 * n + i) * 256 + 6
abbrev FN_SP_VAL2_FIXED (n i : Nat) : Nat := (0x3200 + 16 * n + i) * 256 + 7
abbrev FN_SP_VAL2_AUTH (n i : Nat) : Nat := (0x3200 + 16 * n + i) * 256 + 8
abbrev FN_SP_RATE (n i : Nat) : Nat := (0x3200 + 16 * n + i) * 256 + 9
abbrev FN_SP_RATE_NEUTRAL (n i : Nat) : Nat := (0x3200 + 16 * n + i) * 256 + 10
abbrev FN_SP_FLAGS_COHERENT (n i : Nat) : Nat := (0x3200 + 16 * n + i) * 256 + 11
abbrev FN_SP_FLAGS_DELIVERY (n i : Nat) : Nat := (0x3200 + 16 * n + i) * 256 + 12
abbrev FN_SP_NOW_TARGET (n i : Nat) : Nat := (0x3200 + 16 * n + i) * 256 + 13
abbrev FN_SP_NOW_APPLIED (n i : Nat) : Nat := (0x3200 + 16 * n + i) * 256 + 14
/-! ### block goal (Table 5.5, R196) -/
abbrev FN_GOAL_W_THR (g : Nat) : Nat := (0x3500 + g) * 256 + 1
abbrev FN_GOAL_W_LOSS (g : Nat) : Nat := (0x3500 + g) * 256 + 2
abbrev FN_GOAL_W_QUAL (g : Nat) : Nat := (0x3500 + g) * 256 + 3
abbrev FN_GOAL_W_FUEL (g : Nat) : Nat := (0x3500 + g) * 256 + 4
abbrev FN_GOAL_LOSS_MAX (g : Nat) : Nat := (0x3500 + g) * 256 + 5
abbrev FN_GOAL_DAMAGE_MAX (g : Nat) : Nat := (0x3500 + g) * 256 + 6
/-! ### block optCfg (Table 5.5, R196) -/
abbrev FN_OPT_CFG_FEED_REF : Nat := 0x3508 * 256 + 1
abbrev FN_OPT_CFG_FUEL_REF : Nat := 0x3508 * 256 + 2
abbrev FN_OPT_CFG_GOALDEF : Nat := 0x3508 * 256 + 3
/-! ### block optStat (Table 5.10, R213) -/
abbrev FN_OPT_STAT_STATE : Nat := 0x3509 * 256 + 1
abbrev FN_OPT_STAT_GOAL : Nat := 0x3509 * 256 + 2
abbrev FN_OPT_STAT_AUTH : Nat := 0x3509 * 256 + 3
abbrev FN_OPT_STAT_CEILING : Nat := 0x3509 * 256 + 4
abbrev FN_OPT_STAT_CYCLES : Nat := 0x3509 * 256 + 5
/-! ### block ceLoop (Table 6.1, R220) -/
abbrev CE_L_CFG_ENGINE (n : Nat) : Nat := (0x4000 + n) * 256 + 1
abbrev CE_L_CFG_SLOT (n : Nat) : Nat := (0x4000 + n) * 256 + 2
abbrev CE_L_CFG_LAW (n : Nat) : Nat := (0x4000 + n) * 256 + 3
abbrev CE_L_CFG_SAMPLE_PG (n : Nat) : Nat := (0x4000 + n) * 256 + 4
abbrev CE_L_CFG_SP_INDEX (n : Nat) : Nat := (0x4000 + n) * 256 + 5
abbrev CE_L_CFG_CASCADE (n : Nat) : Nat := (0x4000 + n) * 256 + 6
abbrev CE_L_CFG_OUTER (n : Nat) : Nat := (0x4000 + n) * 256 + 7
abbrev CE_L_CFG_MEAS_TYPE (n : Nat) : Nat := (0x4000 + n) * 256 + 8
abbrev CE_L_CFG_MEAS_INDEX (n : Nat) : Nat := (0x4000 + n) * 256 + 9
abbrev CE_L_CFG_MISS_LIMIT (n : Nat) : Nat := (0x4000 + n) * 256 + 10
abbrev CE_L_CFG_BUDGET (n : Nat) : Nat := (0x4000 + n) * 256 + 11
abbrev CE_L_LIM_UMIN (n : Nat) : Nat := (0x4000 + n) * 256 + 12
abbrev CE_L_LIM_UMAX (n : Nat) : Nat := (0x4000 + n) * 256 + 13
abbrev CE_L_SHAPE_URATE (n : Nat) : Nat := (0x4000 + n) * 256 + 14
abbrev CE_L_SHAPE_FF_MASK (n : Nat) : Nat := (0x4000 + n) * 256 + 15
abbrev CE_L_FFG_GAIN (n k : Nat) : Nat := (0x4000 + n) * 256 + 16 + k
abbrev CE_L_COEF (n k : Nat) : Nat := (0x4000 + n) * 256 + 32 + k
abbrev CE_L_STAT_DELAY_MAX (n : Nat) : Nat := (0x4000 + n) * 256 + 130
abbrev CE_L_STAT_SKIPS (n : Nat) : Nat := (0x4000 + n) * 256 + 131
abbrev CE_L_STAT_MISSES (n : Nat) : Nat := (0x4000 + n) * 256 + 132
abbrev CE_L_STAT_STATE (n : Nat) : Nat := (0x4000 + n) * 256 + 133
abbrev CE_L_STAT_SAT (n : Nat) : Nat := (0x4000 + n) * 256 + 134
abbrev CE_L_STAT_OVER_BUDGET (n : Nat) : Nat := (0x4000 + n) * 256 + 135
abbrev CE_L_NOW_Y (n : Nat) : Nat := (0x4000 + n) * 256 + 136
abbrev CE_L_NOW_U (n : Nat) : Nat := (0x4000 + n) * 256 + 137
/-! ### block ceEng (Table 6.11, R248) -/
abbrev CE_E_STAT_PHYS (n : Nat) : Nat := (0x4100 + n) * 256 + 1
abbrev CE_E_STAT_STATE (n : Nat) : Nat := (0x4100 + n) * 256 + 2
abbrev CE_E_STAT_SERVES (n : Nat) : Nat := (0x4100 + n) * 256 + 3
abbrev CE_E_STAT_LOAD (n : Nat) : Nat := (0x4100 + n) * 256 + 4
abbrev CE_E_STAT_LOOPS (n : Nat) : Nat := (0x4100 + n) * 256 + 5
abbrev CE_E_STAT_MISMATCH (n : Nat) : Nat := (0x4100 + n) * 256 + 6
/-! ### block gnTrk (Table 7.4, R261) -/
abbrev GN_TRK_CFG_PLL_BW : Nat := 0x5000 * 256 + 1
abbrev GN_TRK_CFG_DLL_BW : Nat := 0x5000 * 256 + 2
abbrev GN_TRK_CFG_TCOH : Nat := 0x5000 * 256 + 3
abbrev GN_TRK_CFG_FLL_PULLIN : Nat := 0x5000 * 256 + 4
/-! ### block gnRtk (Table 7.10, R269) -/
abbrev GN_RTK_CFG_AGE_FIX : Nat := 0x5001 * 256 + 1
abbrev GN_RTK_CFG_AGE_MAX : Nat := 0x5001 * 256 + 2
abbrev GN_RTK_CFG_SWITCH_AGE : Nat := 0x5001 * 256 + 3
abbrev GN_RTK_CFG_RATIO : Nat := 0x5001 * 256 + 4
/-! ### block gnCfg (Table 7.12, R279) -/
abbrev GN_CFG_EN : Nat := 0x5002 * 256 + 1
abbrev GN_CFG_SYSMASK : Nat := 0x5002 * 256 + 2
abbrev GN_CFG_MEAS_RATE : Nat := 0x5002 * 256 + 3
abbrev GN_CFG_DUAL : Nat := 0x5002 * 256 + 4
abbrev GN_CFG_ANT1_BIAS : Nat := 0x5002 * 256 + 5
abbrev GN_CFG_ANT2_BIAS : Nat := 0x5002 * 256 + 6
abbrev GN_CFG_REFRESH : Nat := 0x5002 * 256 + 7
abbrev GN_CFG_ELEV_MASK : Nat := 0x5002 * 256 + 8
abbrev GN_CFG_CN0_MASK : Nat := 0x5002 * 256 + 9
abbrev GN_CFG_BASELINE : Nat := 0x5002 * 256 + 10
abbrev GN_CFG_CABLE : Nat := 0x5002 * 256 + 11
/-! ### block gnStat (Table 7.12, R279) -/
abbrev GN_STAT_SOLN : Nat := 0x5003 * 256 + 1
abbrev GN_STAT_HEADQ : Nat := 0x5003 * 256 + 2
abbrev GN_STAT_CORSRC : Nat := 0x5003 * 256 + 3
abbrev GN_STAT_NSV_USED : Nat := 0x5003 * 256 + 4
abbrev GN_STAT_AGE : Nat := 0x5003 * 256 + 5
abbrev GN_STAT_STATION : Nat := 0x5003 * 256 + 6
abbrev GN_STAT_TVALID : Nat := 0x5003 * 256 + 7
abbrev GN_STAT_START : Nat := 0x5003 * 256 + 8
abbrev GN_STAT_RETAIN : Nat := 0x5003 * 256 + 9
abbrev GN_STAT_RESETS : Nat := 0x5003 * 256 + 10
abbrev GN_STAT_ANT1 : Nat := 0x5003 * 256 + 11
abbrev GN_STAT_ANT2 : Nat := 0x5003 * 256 + 12
/-! ### block gnTstat (Table 7.12, R279) -/
abbrev GN_TSTAT_TERR : Nat := 0x5004 * 256 + 1
abbrev GN_TSTAT_TOFF : Nat := 0x5004 * 256 + 2
/-! ### block gnCor (Table 7.10, R269) -/
abbrev GN_COR_CFG_TYPE (n : Nat) : Nat := (0x5010 + n) * 256 + 1
abbrev GN_COR_CFG_KEEP (n : Nat) : Nat := (0x5010 + n) * 256 + 2
abbrev GN_COR_CFG_SEND_GGA (n : Nat) : Nat := (0x5010 + n) * 256 + 3
abbrev GN_COR_CFG_NTRIP_VER (n : Nat) : Nat := (0x5010 + n) * 256 + 4
abbrev GN_COR_CFG_CAN_CH (n : Nat) : Nat := (0x5010 + n) * 256 + 5
abbrev GN_COR_CFG_PEER_ADDR (n : Nat) : Nat := (0x5010 + n) * 256 + 6
abbrev GN_COR_CFG_ENDPOINT (n : Nat) : Nat := (0x5010 + n) * 256 + 7
/-! ### block gnCh (Table 7.4, R261) -/
abbrev GN_CH_STAT_STATE (n : Nat) : Nat := (0x5400 + n) * 256 + 1
abbrev GN_CH_STAT_ANT (n : Nat) : Nat := (0x5400 + n) * 256 + 2
abbrev GN_CH_STAT_SIG (n : Nat) : Nat := (0x5400 + n) * 256 + 3
abbrev GN_CH_STAT_SV (n : Nat) : Nat := (0x5400 + n) * 256 + 4
abbrev GN_CH_STAT_CN0 (n : Nat) : Nat := (0x5400 + n) * 256 + 5
abbrev GN_CH_STAT_INSOL (n : Nat) : Nat := (0x5400 + n) * 256 + 6
abbrev GN_CH_STAT_HALF (n : Nat) : Nat := (0x5400 + n) * 256 + 7
abbrev GN_CH_STAT_TCOH_NOW (n : Nat) : Nat := (0x5400 + n) * 256 + 8
abbrev GN_CH_STAT_LATE_UPD (n : Nat) : Nat := (0x5400 + n) * 256 + 9
abbrev GN_CH_STAT_SLIPS (n : Nat) : Nat := (0x5400 + n) * 256 + 10
abbrev GN_CH_STAT_SIDEPEAK (n : Nat) : Nat := (0x5400 + n) * 256 + 11
/-! ### block gd0 (Table 8.1, R281) -/
abbrev GD_GEOM_ANT_X : Nat := 0x5100 * 256 + 1
abbrev GD_GEOM_ANT_Y : Nat := 0x5100 * 256 + 2
abbrev GD_GEOM_ANT_Z : Nat := 0x5100 * 256 + 3
abbrev GD_GEOM_WHEELBASE : Nat := 0x5100 * 256 + 4
/-! ### block gd1 (Table 8.1, R281) -/
abbrev GD_GEOM2_CUT_X : Nat := 0x5101 * 256 + 1
abbrev GD_GEOM2_HDR_WIDTH : Nat := 0x5101 * 256 + 2
abbrev GD_GEOM2_TURN_R : Nat := 0x5101 * 256 + 3
abbrev GD_GEOM2_HDG_OFF : Nat := 0x5101 * 256 + 4
/-! ### block gd2 (Table 8.7, R307) -/
abbrev GD_CFG_MIN_SOLN : Nat := 0x5102 * 256 + 1
abbrev GD_CFG_CMD : Nat := 0x5102 * 256 + 2
abbrev GD_CFG_REAR : Nat := 0x5102 * 256 + 3
abbrev GD_CFG_EDGE_EN : Nat := 0x5102 * 256 + 4
abbrev GD_CFG_TAKEOVER : Nat := 0x5102 * 256 + 5
abbrev GD_CFG_PHASE_MS : Nat := 0x5102 * 256 + 6
abbrev GD_CFG_DR_DIST : Nat := 0x5102 * 256 + 7
abbrev GD_CFG_EDGE_DIST : Nat := 0x5102 * 256 + 8
abbrev GD_CFG_JUMP_MAX : Nat := 0x5102 * 256 + 9
abbrev GD_CFG_LOOKAHEAD : Nat := 0x5102 * 256 + 10
abbrev GD_CFG_MAX_ANGLE : Nat := 0x5102 * 256 + 11
abbrev GD_CFG_CAPTURE : Nat := 0x5102 * 256 + 12
/-! ### block gd3 (Table 8.7, R307) -/
abbrev GD_GAIN_K_X : Nat := 0x5103 * 256 + 1
abbrev GD_GAIN_K_H : Nat := 0x5103 * 256 + 2
/-! ### block gd4 (Table 8.8, R308) -/
abbrev GD_STAT_STATE : Nat := 0x5104 * 256 + 1
abbrev GD_STAT_NAVQ : Nat := 0x5104 * 256 + 2
abbrev GD_STAT_HDGSRC : Nat := 0x5104 * 256 + 3
abbrev GD_STAT_REASON : Nat := 0x5104 * 256 + 4
abbrev GD_STAT_LINE_ID : Nat := 0x5104 * 256 + 5
abbrev GD_STAT_PASS : Nat := 0x5104 * 256 + 6
abbrev GD_STAT_DR_TRAVEL : Nat := 0x5104 * 256 + 7
/-! ### block gd5 (Table 8.8, R308) -/
abbrev GD_ERR_XTE : Nat := 0x5105 * 256 + 1
abbrev GD_ERR_HDG_ERR : Nat := 0x5105 * 256 + 2
/-! ### block ym0 (Table 8.10, R320) -/
abbrev YM_CFG_STD_MOIST : Nat := 0x5200 * 256 + 1
abbrev YM_CFG_MOIST_DEF : Nat := 0x5200 * 256 + 2
abbrev YM_CFG_TRANSPORT_DEF : Nat := 0x5200 * 256 + 3
abbrev YM_CFG_MOIST_HOLD : Nat := 0x5200 * 256 + 4
abbrev YM_CFG_NTICK : Nat := 0x5200 * 256 + 5
abbrev YM_CFG_EN : Nat := 0x5200 * 256 + 6
/-! ### block ym1 (Table 8.10, R320) -/
abbrev YM_CALS_CAL0 : Nat := 0x5201 * 256 + 1
abbrev YM_CALS_CAL : Nat := 0x5201 * 256 + 2
/-! ### block ym2 (Table 8.10, R320) -/
abbrev YM_STAT_LOAD : Nat := 0x5202 * 256 + 1
abbrev YM_STAT_CELLS : Nat := 0x5202 * 256 + 2
abbrev YM_STAT_SPILL : Nat := 0x5202 * 256 + 3
abbrev YM_STAT_MAPPING : Nat := 0x5202 * 256 + 4
abbrev YM_STAT_NOW : Nat := 0x5202 * 256 + 5
/-! ### block ym3 (Table 8.10, R320) -/
abbrev YM_TOTAL_MAPPED : Nat := 0x5203 * 256 + 1
abbrev YM_TOTAL_UNMAPPED : Nat := 0x5203 * 256 + 2
/-! ### block cam (Table 9.1, R326) -/
abbrev CAM_CFG_PURPOSE (n : Nat) : Nat := (0x6000 + n) * 256 + 1
abbrev CAM_CFG_SHED (n : Nat) : Nat := (0x6000 + n) * 256 + 2
abbrev CAM_CFG_FREE (n : Nat) : Nat := (0x6000 + n) * 256 + 3
abbrev CAM_CFG_STRIPE (n : Nat) : Nat := (0x6000 + n) * 256 + 4
abbrev CAM_CFG_STRIPE_LINES (n : Nat) : Nat := (0x6000 + n) * 256 + 5
abbrev CAM_CFG_TRIG_PG (n : Nat) : Nat := (0x6000 + n) * 256 + 6
abbrev CAM_CFG_PAIR (n : Nat) : Nat := (0x6000 + n) * 256 + 7
abbrev CAM_CFG_DEPTH (n : Nat) : Nat := (0x6000 + n) * 256 + 8
abbrev CAM_CFG_CFA (n : Nat) : Nat := (0x6000 + n) * 256 + 9
abbrev CAM_CFG_NBUF (n : Nat) : Nat := (0x6000 + n) * 256 + 10
abbrev CAM_CFG_GEAR (n : Nat) : Nat := (0x6000 + n) * 256 + 11
abbrev CAM_CFG_POC (n : Nat) : Nat := (0x6000 + n) * 256 + 12
abbrev CAM_CFG_EMBED (n : Nat) : Nat := (0x6000 + n) * 256 + 13
abbrev CAM_CFG_AE (n : Nat) : Nat := (0x6000 + n) * 256 + 14
abbrev CAM_GEOM_WIDTH (n : Nat) : Nat := (0x6000 + n) * 256 + 15
abbrev CAM_GEOM_HEIGHT (n : Nat) : Nat := (0x6000 + n) * 256 + 16
abbrev CAM_SENS_DLY_EXP (n : Nat) : Nat := (0x6000 + n) * 256 + 17
abbrev CAM_SENS_DLY_GAIN (n : Nat) : Nat := (0x6000 + n) * 256 + 18
abbrev CAM_SENS_MIN_PERIOD (n : Nat) : Nat := (0x6000 + n) * 256 + 19
abbrev CAM_SENS_LINE_NS (n : Nat) : Nat := (0x6000 + n) * 256 + 20
abbrev CAM_SENS_WIN_US (n : Nat) : Nat := (0x6000 + n) * 256 + 21
abbrev CAM_EXP_EXP_FIX (n : Nat) : Nat := (0x6000 + n) * 256 + 22
abbrev CAM_EXP_EXP_MAX (n : Nat) : Nat := (0x6000 + n) * 256 + 23
abbrev CAM_EXP_GAIN_FIX (n : Nat) : Nat := (0x6000 + n) * 256 + 24
abbrev CAM_EXP_AE_TARGET (n : Nat) : Nat := (0x6000 + n) * 256 + 25
abbrev CAM_EXP_SETTLE (n : Nat) : Nat := (0x6000 + n) * 256 + 26
abbrev CAM_TIME_TRIG_LAT (n : Nat) : Nat := (0x6000 + n) * 256 + 27
abbrev CAM_TIME_SOF_OFF (n : Nat) : Nat := (0x6000 + n) * 256 + 28
abbrev CAM_STAT_STATE (n : Nat) : Nat := (0x6000 + n) * 256 + 29
abbrev CAM_STAT_ACT (n : Nat) : Nat := (0x6000 + n) * 256 + 30
abbrev CAM_STAT_CLASS (n : Nat) : Nat := (0x6000 + n) * 256 + 31
abbrev CAM_STAT_RATE (n : Nat) : Nat := (0x6000 + n) * 256 + 32
abbrev CAM_STAT_FNO_LOW (n : Nat) : Nat := (0x6000 + n) * 256 + 33
abbrev CAM_LAST_STAMP (n : Nat) : Nat := (0x6000 + n) * 256 + 34
abbrev CAM_CNT_RING (n : Nat) : Nat := (0x6000 + n) * 256 + 35
abbrev CAM_CNT_SHED (n : Nat) : Nat := (0x6000 + n) * 256 + 36
abbrev CAM_CNT_CRC (n : Nat) : Nat := (0x6000 + n) * 256 + 37
abbrev CAM_CNT_MISSED (n : Nat) : Nat := (0x6000 + n) * 256 + 38
abbrev CAM_CNT_MISMATCH (n : Nat) : Nat := (0x6000 + n) * 256 + 39
abbrev CAM_CNT_PAIRMISS (n : Nat) : Nat := (0x6000 + n) * 256 + 40
/-! ### block isp (Table 9.4, R336) -/
abbrev ISP_OUT_DEST (n k : Nat) : Nat := (0x6100 + n) * 256 + 1 + 7 * k
abbrev ISP_OUT_FMT (n k : Nat) : Nat := (0x6100 + n) * 256 + 2 + 7 * k
abbrev ISP_OUT_SCALE (n k : Nat) : Nat := (0x6100 + n) * 256 + 3 + 7 * k
abbrev ISP_OUT_CROP_X0 (n k : Nat) : Nat := (0x6100 + n) * 256 + 4 + 7 * k
abbrev ISP_OUT_CROP_Y0 (n k : Nat) : Nat := (0x6100 + n) * 256 + 5 + 7 * k
abbrev ISP_OUT_CROP_W (n k : Nat) : Nat := (0x6100 + n) * 256 + 6 + 7 * k
abbrev ISP_OUT_CROP_H (n k : Nat) : Nat := (0x6100 + n) * 256 + 7 + 7 * k
abbrev ISP_ARB_WAITLIM (n : Nat) : Nat := (0x6100 + n) * 256 + 29
abbrev ISP_ARB_PRIO (n : Nat) : Nat := (0x6100 + n) * 256 + 30
abbrev ISP_ASTAT_FORCED (n : Nat) : Nat := (0x6100 + n) * 256 + 31
abbrev ISP_ASTAT_WAITMAX (n : Nat) : Nat := (0x6100 + n) * 256 + 32
abbrev ISP_ASTAT_OWNED (n : Nat) : Nat := (0x6100 + n) * 256 + 33
/-! ### block ispCore (Table 9.5, R345) -/
abbrev ISP_C_STAT_LOAD (n : Nat) : Nat := (0x6180 + n) * 256 + 1
abbrev ISP_C_STAT_CAM (n : Nat) : Nat := (0x6180 + n) * 256 + 2
abbrev ISP_C_STAT_SWITCHES (n : Nat) : Nat := (0x6180 + n) * 256 + 3
/-! ### block vdCh (Table 10.2, R357) -/
abbrev VD_CFG_KIND (n : Nat) : Nat := (0x7000 + n) * 256 + 1
abbrev VD_CFG_RESET (n : Nat) : Nat := (0x7000 + n) * 256 + 2
abbrev VD_CFG_DECAY (n : Nat) : Nat := (0x7000 + n) * 256 + 3
abbrev VD_CFG_DEFPRF (n : Nat) : Nat := (0x7000 + n) * 256 + 4
abbrev VD_CFG_CARRIER (n : Nat) : Nat := (0x7000 + n) * 256 + 5
abbrev VD_CFG_DITHER_F (n : Nat) : Nat := (0x7000 + n) * 256 + 6
abbrev VD_CFG_DITHER_A (n : Nat) : Nat := (0x7000 + n) * 256 + 7
abbrev VD_CFG_RAMP (n : Nat) : Nat := (0x7000 + n) * 256 + 8
abbrev VD_CFG_WALK_CUR (n : Nat) : Nat := (0x7000 + n) * 256 + 9
abbrev VD_THERM_RES_REF (n : Nat) : Nat := (0x7000 + n) * 256 + 10
abbrev VD_THERM_TAU_W (n : Nat) : Nat := (0x7000 + n) * 256 + 11
abbrev VD_THERM_TAU_B (n : Nat) : Nat := (0x7000 + n) * 256 + 12
abbrev VD_THERM_RTH_WB (n : Nat) : Nat := (0x7000 + n) * 256 + 13
abbrev VD_THERM_RTH_BA (n : Nat) : Nat := (0x7000 + n) * 256 + 14
abbrev VD_THERM_OFFSET (n : Nat) : Nat := (0x7000 + n) * 256 + 15
abbrev VD_THERM2_T_WARN (n : Nat) : Nat := (0x7000 + n) * 256 + 16
abbrev VD_THERM2_T_MAX (n : Nat) : Nat := (0x7000 + n) * 256 + 17
abbrev VD_THERM2_DERATE (n : Nat) : Nat := (0x7000 + n) * 256 + 18
abbrev VD_STAT_PHASE (n : Nat) : Nat := (0x7000 + n) * 256 + 19
abbrev VD_STAT_RST (n : Nat) : Nat := (0x7000 + n) * 256 + 20
abbrev VD_STAT_FIRST (n : Nat) : Nat := (0x7000 + n) * 256 + 21
abbrev VD_STAT_SAT (n : Nat) : Nat := (0x7000 + n) * 256 + 22
abbrev VD_STAT_DERATED (n : Nat) : Nat := (0x7000 + n) * 256 + 23
abbrev VD_STAT_FAULT (n : Nat) : Nat := (0x7000 + n) * 256 + 24
abbrev VD_STAT_SUPERSEDED (n : Nat) : Nat := (0x7000 + n) * 256 + 25
abbrev VD_STAT_TTP (n : Nat) : Nat := (0x7000 + n) * 256 + 26
abbrev VD_NOW_I_MEAS (n : Nat) : Nat := (0x7000 + n) * 256 + 27
abbrev VD_NOW_I_TGT (n : Nat) : Nat := (0x7000 + n) * 256 + 28
abbrev VD_NOW_RES (n : Nat) : Nat := (0x7000 + n) * 256 + 29
abbrev VD_NOW_TW (n : Nat) : Nat := (0x7000 + n) * 256 + 30
/-! ### block vdBank (Table 10.5, R370) -/
abbrev VD_B_CFG_WAIT_LIM (n : Nat) : Nat := (0x7040 + n) * 256 + 1
abbrev VD_B_BOOSTWAIT_WAITS (n : Nat) : Nat := (0x7040 + n) * 256 + 2
abbrev VD_B_BOOSTWAIT_REFUSED (n : Nat) : Nat := (0x7040 + n) * 256 + 3
abbrev VD_B_BOOSTWAIT_WAIT_MAX (n : Nat) : Nat := (0x7040 + n) * 256 + 4
abbrev VD_B_BOOSTWAIT_QUEUE (n : Nat) : Nat := (0x7040 + n) * 256 + 5
abbrev VD_B_BOOSTWAIT_OWNER (n : Nat) : Nat := (0x7040 + n) * 256 + 6
/-! ### block vdPrf (Table 10.3, R362) -/
abbrev VD_PRF_A_I_PEAK (n : Nat) : Nat := (0x7060 + n) * 256 + 1
abbrev VD_PRF_A_I_HOLD (n : Nat) : Nat := (0x7060 + n) * 256 + 2
abbrev VD_PRF_A_T_BOOST_MAX (n : Nat) : Nat := (0x7060 + n) * 256 + 3
abbrev VD_PRF_A_T_PEAK (n : Nat) : Nat := (0x7060 + n) * 256 + 4
abbrev VD_PRF_A_BOOST (n : Nat) : Nat := (0x7060 + n) * 256 + 5
abbrev VD_PRF_A_DECAY (n : Nat) : Nat := (0x7060 + n) * 256 + 6
abbrev VD_PRF_B_TP_MIN (n : Nat) : Nat := (0x7060 + n) * 256 + 7
abbrev VD_PRF_B_TP_MAX (n : Nat) : Nat := (0x7060 + n) * 256 + 8
abbrev VD_PRF_B_HOLD_T (n : Nat) : Nat := (0x7060 + n) * 256 + 9
/-! ### block ls (Table 11.2, R385) -/
abbrev LS_CFG_USE (n : Nat) : Nat := (0x8000 + n) * 256 + 1
abbrev LS_CFG_SAFE (n : Nat) : Nat := (0x8000 + n) * 256 + 2
abbrev LS_CFG_N_LATCH (n : Nat) : Nat := (0x8000 + n) * 256 + 3
abbrev LS_CFG_LIM_T (n : Nat) : Nat := (0x8000 + n) * 256 + 4
abbrev LS_CFG_I_TRIP (n : Nat) : Nat := (0x8000 + n) * 256 + 5
abbrev LS_CFG_BUDGET (n : Nat) : Nat := (0x8000 + n) * 256 + 6
abbrev LS_CFG_REFILL (n : Nat) : Nat := (0x8000 + n) * 256 + 7
abbrev LS_CFG_NOM_I (n : Nat) : Nat := (0x8000 + n) * 256 + 8
abbrev LS_CFG_OPEN_I (n : Nat) : Nat := (0x8000 + n) * 256 + 9
abbrev LS_STAT_STATE (n : Nat) : Nat := (0x8000 + n) * 256 + 10
abbrev LS_STAT_CTRL (n : Nat) : Nat := (0x8000 + n) * 256 + 11
abbrev LS_STAT_OPEN (n : Nat) : Nat := (0x8000 + n) * 256 + 12
abbrev LS_STAT_LIMITING (n : Nat) : Nat := (0x8000 + n) * 256 + 13
abbrev LS_STAT_TRIPS (n : Nat) : Nat := (0x8000 + n) * 256 + 14
abbrev LS_STAT_DEFERRED (n : Nat) : Nat := (0x8000 + n) * 256 + 15
abbrev LS_STAT_BUDGET_LEFT (n : Nat) : Nat := (0x8000 + n) * 256 + 16
abbrev LS_NOW_I_MEAS (n : Nat) : Nat := (0x8000 + n) * 256 + 17
abbrev LS_NOW_TJ (n : Nat) : Nat := (0x8000 + n) * 256 + 18
abbrev LS_NOW_LAST_CLAMP (n : Nat) : Nat := (0x8000 + n) * 256 + 19
/-! ### block whStat (Table 11.7, R409) -/
abbrev WH_STAT_PIN : Nat := 0x8100 * 256 + 1
abbrev WH_STAT_EN : Nat := 0x8100 * 256 + 2
abbrev WH_STAT_FREQ : Nat := 0x8100 * 256 + 3
abbrev WH_STAT_STORE : Nat := 0x8100 * 256 + 4
abbrev WH_STAT_DEADS : Nat := 0x8100 * 256 + 5
abbrev WH_STAT_DEAD_MS : Nat := 0x8100 * 256 + 6
/-! ### block whMap (Table 11.7, R409) -/
abbrev WH_MAP_VLV (n : Nat) : Nat := (0x8100 + n) * 256 + 1
abbrev WH_MAP_LSW (n : Nat) : Nat := (0x8100 + n) * 256 + 2
/-! ### block canTs (Table R418, R418) -/
abbrev CAN_TSMAP_SECOND : Nat := 0x9000 * 256 + 1
abbrev CAN_TSMAP_COUNT : Nat := 0x9000 * 256 + 2
abbrev CAN_TSMAP_RATE : Nat := 0x9000 * 256 + 3
/-! ### block canCh (Table 12.1, R412) -/
abbrev CAN_CFG_ROLE (n : Nat) : Nat := (0x9000 + n) * 256 + 1
abbrev CAN_CFG_NOM (n : Nat) : Nat := (0x9000 + n) * 256 + 2
abbrev CAN_CFG_DATA (n : Nat) : Nat := (0x9000 + n) * 256 + 3
abbrev CAN_CFG_TRIPLE (n : Nat) : Nat := (0x9000 + n) * 256 + 4
abbrev CAN_CFG_TERM (n : Nat) : Nat := (0x9000 + n) * 256 + 5
abbrev CAN_CFG_SA (n : Nat) : Nat := (0x9000 + n) * 256 + 6
abbrev CAN_CFG_MAX_AGE (n : Nat) : Nat := (0x9000 + n) * 256 + 7
abbrev CAN_CFG_BOFF_STOP (n : Nat) : Nat := (0x9000 + n) * 256 + 8
abbrev CAN_CFG_SELFCONF (n : Nat) : Nat := (0x9000 + n) * 256 + 9
abbrev CAN_STAT_STATE (n : Nat) : Nat := (0x9000 + n) * 256 + 10
abbrev CAN_STAT_TEC (n : Nat) : Nat := (0x9000 + n) * 256 + 11
abbrev CAN_STAT_REC (n : Nat) : Nat := (0x9000 + n) * 256 + 12
abbrev CAN_STAT_DEPTH (n : Nat) : Nat := (0x9000 + n) * 256 + 13
abbrev CAN_STAT_ADDR (n : Nat) : Nat := (0x9000 + n) * 256 + 14
abbrev CAN_STAT_BUSOFF (n : Nat) : Nat := (0x9000 + n) * 256 + 15
abbrev CAN_STAT_TXFULL (n : Nat) : Nat := (0x9000 + n) * 256 + 16
abbrev CAN_STAT_AGED (n : Nat) : Nat := (0x9000 + n) * 256 + 17
/-! ### block canSig (Table 12.5, R420) -/
abbrev CAN_SIG_CFG_CH (n : Nat) : Nat := (0x9200 + n) * 256 + 1
abbrev CAN_SIG_CFG_ID (n : Nat) : Nat := (0x9200 + n) * 256 + 2
abbrev CAN_SIG_CFG_IDE (n : Nat) : Nat := (0x9200 + n) * 256 + 3
abbrev CAN_SIG_CFG_START (n : Nat) : Nat := (0x9200 + n) * 256 + 4
abbrev CAN_SIG_CFG_LEN (n : Nat) : Nat := (0x9200 + n) * 256 + 5
abbrev CAN_SIG_CFG_ORDER (n : Nat) : Nat := (0x9200 + n) * 256 + 6
abbrev CAN_SIG_CFG_SIGNED (n : Nat) : Nat := (0x9200 + n) * 256 + 7
abbrev CAN_SIG_CFG_ANY_SA (n : Nat) : Nat := (0x9200 + n) * 256 + 8
abbrev CAN_SIG_SCALE_GAIN (n : Nat) : Nat := (0x9200 + n) * 256 + 9
abbrev CAN_SIG_SCALE_OFFSET (n : Nat) : Nat := (0x9200 + n) * 256 + 10
/-! ### block canTx (Table 12.6, R421) -/
abbrev CAN_TX_ID (n b : Nat) : Nat := (0x9300 + 256 * n + b) * 256 + 1
abbrev CAN_TX_ID_IDE (n b : Nat) : Nat := (0x9300 + 256 * n + b) * 256 + 2
abbrev CAN_TX_ID_FDF (n b : Nat) : Nat := (0x9300 + 256 * n + b) * 256 + 3
abbrev CAN_TX_ID_BRS (n b : Nat) : Nat := (0x9300 + 256 * n + b) * 256 + 4
abbrev CAN_TX_ID_DLC (n b : Nat) : Nat := (0x9300 + 256 * n + b) * 256 + 5
abbrev CAN_TX_ID_VAL_START (n b : Nat) : Nat := (0x9300 + 256 * n + b) * 256 + 6
abbrev CAN_TX_ID_VAL_LEN (n b : Nat) : Nat := (0x9300 + 256 * n + b) * 256 + 7
abbrev CAN_TX_ID_VAL_ORDER (n b : Nat) : Nat := (0x9300 + 256 * n + b) * 256 + 8
abbrev CAN_TX_ID_REL_BIT (n b : Nat) : Nat := (0x9300 + 256 * n + b) * 256 + 9
abbrev CAN_TX_ID_REL_EN (n b : Nat) : Nat := (0x9300 + 256 * n + b) * 256 + 10
abbrev CAN_TX_ID_VAL_SIGNED (n b : Nat) : Nat := (0x9300 + 256 * n + b) * 256 + 11
abbrev CAN_TX_SCALE_GAIN (n b : Nat) : Nat := (0x9300 + 256 * n + b) * 256 + 12
abbrev CAN_TX_SCALE_OFFSET (n b : Nat) : Nat := (0x9300 + 256 * n + b) * 256 + 13
abbrev CAN_TX_DATA (n b : Nat) : Nat := (0x9300 + 256 * n + b) * 256 + 14
/-! ### block eth (Table 12.7, R427) -/
abbrev ETH_CFG_EN (n : Nat) : Nat := (0x9E00 + n) * 256 + 1
abbrev ETH_CFG_MASTER (n : Nat) : Nat := (0x9E00 + n) * 256 + 2
abbrev ETH_CFG_GPTP (n : Nat) : Nat := (0x9E00 + n) * 256 + 3
abbrev ETH_STAT_LINK (n : Nat) : Nat := (0x9E00 + n) * 256 + 4
abbrev ETH_STAT_GM_CONFLICT (n : Nat) : Nat := (0x9E00 + n) * 256 + 5
abbrev ETH_STAT_ERRORS (n : Nat) : Nat := (0x9E00 + n) * 256 + 6
/-! ### block tk (Table 12.12, R439) -/
abbrev TK_STAT_ROLE (n : Nat) : Nat := (0x9E10 + n) * 256 + 1
abbrev TK_STAT_LINK (n : Nat) : Nat := (0x9E10 + n) * 256 + 2
abbrev TK_STAT_PHYM (n : Nat) : Nat := (0x9E10 + n) * 256 + 3
abbrev TK_STAT_UNIT (n : Nat) : Nat := (0x9E10 + n) * 256 + 4
abbrev TK_STAT_LOAD01 (n : Nat) : Nat := (0x9E10 + n) * 256 + 5
abbrev TK_STAT_DOWNS (n : Nat) : Nat := (0x9E10 + n) * 256 + 6
abbrev TK_STAT_ERRORS (n : Nat) : Nat := (0x9E10 + n) * 256 + 7
/-! ### block fnp (Table 12.9, R431) -/
abbrev FNP_CFG_EN (n : Nat) : Nat := (0x9E20 + n) * 256 + 1
abbrev FNP_CFG_AMPL (n : Nat) : Nat := (0x9E20 + n) * 256 + 2
abbrev FNP_CFG_PCLASS (n : Nat) : Nat := (0x9E20 + n) * 256 + 3
abbrev FNP_CFG_PLIM (n : Nat) : Nat := (0x9E20 + n) * 256 + 4
abbrev FNP_CFG_TIMEX (n : Nat) : Nat := (0x9E20 + n) * 256 + 5
abbrev FNP_STAT_STATE (n : Nat) : Nat := (0x9E20 + n) * 256 + 6
abbrev FNP_STAT_POWER (n : Nat) : Nat := (0x9E20 + n) * 256 + 7
abbrev FNP_STAT_UNC (n : Nat) : Nat := (0x9E20 + n) * 256 + 8
abbrev FNP_STAT_PFAULTS (n : Nat) : Nat := (0x9E20 + n) * 256 + 9
abbrev FNP_OFF_OFFSET (n : Nat) : Nat := (0x9E20 + n) * 256 + 10
/-! ### block sesClass (Table 13.11, R467) -/
abbrev SES_CLASS_CFG_RESERVE (n : Nat) : Nat := (0x9E30 + n) * 256 + 1
abbrev SES_CLASS_CFG_MAX (n : Nat) : Nat := (0x9E30 + n) * 256 + 2
/-! ### block sesStat (Table 13.11, R467) -/
abbrev SES_STAT_OPEN : Nat := 0x9E3F * 256 + 1
abbrev SES_STAT_REFUSED : Nat := 0x9E3F * 256 + 2
abbrev SES_STAT_EVICTED : Nat := 0x9E3F * 256 + 3
abbrev SES_STAT_E2E_ERR : Nat := 0x9E3F * 256 + 4
/-! ### block ses (Table 13.11, R467) -/
abbrev SES_S_STAT_SESSION (n : Nat) : Nat := (0x9F00 + n) * 256 + 1
abbrev SES_S_STAT_CLASS (n : Nat) : Nat := (0x9F00 + n) * 256 + 2
abbrev SES_S_STAT_CARRIER (n : Nat) : Nat := (0x9F00 + n) * 256 + 3
abbrev SES_S_STAT_PEER (n : Nat) : Nat := (0x9F00 + n) * 256 + 4
abbrev SES_S_STAT_IDLE (n : Nat) : Nat := (0x9F00 + n) * 256 + 5
abbrev SES_S_STAT_E2E (n : Nat) : Nat := (0x9F00 + n) * 256 + 6
/-! ### block hmp0 (Table 14.14, R494) -/
abbrev HMP_STAT_SOURCE : Nat := 0xa000 * 256 + 1
abbrev HMP_STAT_PENDING : Nat := 0xa000 * 256 + 2
abbrev HMP_STAT_WRITING : Nat := 0xa000 * 256 + 3
abbrev HMP_STAT_KEY : Nat := 0xa000 * 256 + 4
abbrev HMP_STAT_READ_MS : Nat := 0xa000 * 256 + 5
abbrev HMP_STAT_GENERATION : Nat := 0xa000 * 256 + 6
/-! ### block hmp1 (Table 14.14, R494) -/
abbrev HMP_ID_MACHINE_ID : Nat := 0xa001 * 256 + 1
/-! ### block hmp2 (Table 14.14, R494) -/
abbrev HMP_LIST_ENTRIES : Nat := 0xa002 * 256 + 1
abbrev HMP_LIST_OVF : Nat := 0xa002 * 256 + 2
/-! ### block updStat (Table 17.4, R566) -/
abbrev UPD_STAT_STATE : Nat := 0xA100 * 256 + 1
abbrev UPD_STAT_ACTIVE : Nat := 0xA100 * 256 + 2
abbrev UPD_STAT_FLOOR : Nat := 0xA100 * 256 + 3
abbrev UPD_STAT_NBLOCKS : Nat := 0xA100 * 256 + 4
abbrev UPD_STAT_RECEIVED : Nat := 0xA100 * 256 + 5
abbrev UPD_STAT_BADCRC : Nat := 0xA100 * 256 + 6
/-! ### block updSlot (Table 17.4, R566) -/
abbrev UPD_SLOT_VERSION (n : Nat) : Nat := (0xA101 + n) * 256 + 1
abbrev UPD_SLOT_STATE (n : Nat) : Nat := (0xA101 + n) * 256 + 2
abbrev UPD_SLOT_TRIES (n : Nat) : Nat := (0xA101 + n) * 256 + 3
/-! ### block pwr0 (Table 15.16, R524) -/
abbrev PWR_CFG_START_MODE : Nat := 0xb000 * 256 + 1
abbrev PWR_CFG_WAKE1_EN : Nat := 0xb000 * 256 + 2
abbrev PWR_CFG_WAKE2_EN : Nat := 0xb000 * 256 + 3
abbrev PWR_CFG_SLEEP_DELAY : Nat := 0xb000 * 256 + 4
/-! ### block pwr1 (Table 15.16, R524) -/
abbrev PWR_STAT_VBAT : Nat := 0xb001 * 256 + 1
abbrev PWR_STAT_CORE : Nat := 0xb001 * 256 + 2
abbrev PWR_STAT_TJ : Nat := 0xb001 * 256 + 3
abbrev PWR_STAT_PD : Nat := 0xb001 * 256 + 4
abbrev PWR_STAT_CRANK : Nat := 0xb001 * 256 + 5
abbrev PWR_STAT_THERMOS_OK : Nat := 0xb001 * 256 + 6
abbrev PWR_STAT_SENS : Nat := 0xb001 * 256 + 7
abbrev PWR_STAT_OV : Nat := 0xb001 * 256 + 8
abbrev PWR_STAT_PLATE : Nat := 0xb001 * 256 + 9
/-! ### block ui (Table 18.7, R583) -/
abbrev UI_CFG_MODE (n : Nat) : Nat := (0xB010 + n) * 256 + 1
abbrev UI_CFG_PULL (n : Nat) : Nat := (0xB010 + n) * 256 + 2
abbrev UI_CFG_INV (n : Nat) : Nat := (0xB010 + n) * 256 + 3
abbrev UI_CFG_THRESH (n : Nat) : Nat := (0xB010 + n) * 256 + 4
abbrev UI_CFG_HYS (n : Nat) : Nat := (0xB010 + n) * 256 + 5
abbrev UI_CFG_PLAUS_N (n : Nat) : Nat := (0xB010 + n) * 256 + 6
abbrev UI_CFG_FREQ_TO (n : Nat) : Nat := (0xB010 + n) * 256 + 7
abbrev UI_LIM_LO (n : Nat) : Nat := (0xB010 + n) * 256 + 8
abbrev UI_LIM_HI (n : Nat) : Nat := (0xB010 + n) * 256 + 9
abbrev UI_SCALE_GAIN (n : Nat) : Nat := (0xB010 + n) * 256 + 10
abbrev UI_SCALE_OFFSET (n : Nat) : Nat := (0xB010 + n) * 256 + 11
abbrev UI_STAT_VALUE (n : Nat) : Nat := (0xB010 + n) * 256 + 12
abbrev UI_STAT_FAULT (n : Nat) : Nat := (0xB010 + n) * 256 + 13
abbrev UI_STAT_ACTIVE (n : Nat) : Nat := (0xB010 + n) * 256 + 14
abbrev UI_STAT_CAUSE (n : Nat) : Nat := (0xB010 + n) * 256 + 15
abbrev UI_STAT_SHARED (n : Nat) : Nat := (0xB010 + n) * 256 + 16
/-! ### block rst (Table 15.17, R525) -/
abbrev RST_STAT_SOURCE : Nat := 0xB100 * 256 + 1
abbrev RST_STAT_SCOPE : Nat := 0xB100 * 256 + 2
abbrev RST_STAT_PLANE : Nat := 0xB100 * 256 + 3
abbrev RST_STAT_ESCAL : Nat := 0xB100 * 256 + 4
abbrev RST_STAT_CYCLES : Nat := 0xB100 * 256 + 5
abbrev RST_STAT_RESETS : Nat := 0xB100 * 256 + 6
/-! ### block mode (Table 15.17, R525) -/
abbrev MODE_STAT_MODE : Nat := 0xB200 * 256 + 1
abbrev MODE_STAT_PREV : Nat := 0xB200 * 256 + 2
abbrev MODE_STAT_TRANS : Nat := 0xB200 * 256 + 3
abbrev MODE_STAT_CAUSES : Nat := 0xB200 * 256 + 4
/-! ### block bb0 (Table 16.8a, R551) -/
abbrev BB_CFG_MARKS : Nat := 0xc000 * 256 + 1
/-! ### block bb1 (Table 16.8a, R551) -/
abbrev BB_STAT_PERM : Nat := 0xc001 * 256 + 1
abbrev BB_STAT_HEAD : Nat := 0xc001 * 256 + 2
abbrev BB_STAT_TORN : Nat := 0xc001 * 256 + 3
abbrev BB_STAT_LOST : Nat := 0xc001 * 256 + 4
abbrev BB_STAT_FULL : Nat := 0xc001 * 256 + 5
abbrev BB_STAT_FORM : Nat := 0xc001 * 256 + 6
abbrev BB_STAT_READY : Nat := 0xc001 * 256 + 7
/-! ### block pc0 (Table 16.8b, R552) -/
abbrev PC_CFG_AREAMASK : Nat := 0xc100 * 256 + 1
/-! ### block pc1 (Table 16.8b, R552) -/
abbrev PC_TEXT_SEGS : Nat := 0xc101 * 256 + 1
/-! ### block pc2 (Table 16.8b, R552) -/
abbrev PC_ICONS : Nat := 0xc102 * 256 + 1
/-! ### block pc3 (Table 16.8b, R552) -/
abbrev PC_STAT_STATE : Nat := 0xc103 * 256 + 1
abbrev PC_STAT_BAND : Nat := 0xc103 * 256 + 2
abbrev PC_STAT_COMMON : Nat := 0xc103 * 256 + 3
abbrev PC_STAT_RESCHED : Nat := 0xc103 * 256 + 4
abbrev PC_STAT_HELD : Nat := 0xc103 * 256 + 5
abbrev PC_STAT_HUNIT : Nat := 0xc103 * 256 + 6
abbrev PC_STAT_HCODE : Nat := 0xc103 * 256 + 7
abbrev PC_STAT_TEMP : Nat := 0xc103 * 256 + 8
abbrev PC_STAT_WRITES : Nat := 0xc103 * 256 + 9
/-! ### block pc4 (Table 16.8b, R552) -/
abbrev PC_AGE_COMP : Nat := 0xc104 * 256 + 1
/-! ### block fl0 (Table 17.5, R567) -/
abbrev FL_CFG_EN : Nat := 0xd000 * 256 + 1
abbrev FL_CFG_BEARER : Nat := 0xd000 * 256 + 2
abbrev FL_CFG_TELE_S : Nat := 0xd000 * 256 + 3
abbrev FL_CFG_HOST : Nat := 0xd000 * 256 + 4
abbrev FL_CFG_PSP_PORT : Nat := 0xd000 * 256 + 5
abbrev FL_CFG_MQTT_PORT : Nat := 0xd000 * 256 + 6
/-! ### block fl1 (Table 17.5, R567) -/
abbrev FL_CFG2_TOPIC : Nat := 0xd001 * 256 + 1
abbrev FL_CFG2_CART_EN : Nat := 0xd001 * 256 + 2
abbrev FL_CFG2_WLAN_AP : Nat := 0xd001 * 256 + 3
abbrev FL_CFG2_WLAN_CH : Nat := 0xd001 * 256 + 4
abbrev FL_CFG2_SSID : Nat := 0xd001 * 256 + 5
abbrev FL_CFG2_PASS : Nat := 0xd001 * 256 + 6
abbrev FL_CFG2_RETRY_MAX : Nat := 0xd001 * 256 + 7
abbrev FL_CFG2_CART_PORT : Nat := 0xd001 * 256 + 8
/-! ### block fl2 (Table 17.5, R567) -/
abbrev FL_STAT_SESS : Nat := 0xd002 * 256 + 1
abbrev FL_STAT_MQTT : Nat := 0xd002 * 256 + 2
abbrev FL_STAT_VIA_WLAN : Nat := 0xd002 * 256 + 3
abbrev FL_STAT_QUEUED : Nat := 0xd002 * 256 + 4
abbrev FL_STAT_DROPPED : Nat := 0xd002 * 256 + 5
abbrev FL_STAT_CARTSEQ : Nat := 0xd002 * 256 + 6

end Sys2Proof.Machine.R
end

