-- ==== Sys2Proof/Machine/FieldMap.lean ====
section
/-! DEFINITION. The field maps of the manual: for every field its width, access code (13 Table 0.7),
reset value (R12) and the values the map admits. A field whose Reset column gives no number reads the
value log entries 11 and 13 name. -/

namespace Sys2Proof.Machine

/-- The access codes of Table 0.7 (R13). -/
inductive Acc where
  | ro | rwLive | rwStop | next | th
deriving DecidableEq, Repr

/-- One field of a field map: its object within the instance, its lowest bit, width, access code,
reset value, the intervals of raw values the map admits (none: every value), and whether it is signed. -/
structure FieldDesc where
  obj : Nat
  lo : Nat
  width : Nat
  acc : Acc
  reset : Nat
  ranges : List (Nat × Nat)
  signed : Bool
deriving DecidableEq, Repr

/-- A block of equal instances: first and last object index, and the fields in sub-index order. -/
structure Block where
  first : Nat
  last : Nat
  fields : List FieldDesc
deriving DecidableEq, Repr

def block_corePace : Block := ⟨0x1000, 0x1000,
  [⟨0, 16, 16, .ro, 0, [], false⟩,
   ⟨0, 12, 4, .ro, 0, [], false⟩,
   ⟨0, 0, 8, .ro, 16, [], false⟩]⟩

def block_coreMin : Block := ⟨0x1001, 0x1001,
  [⟨0, 16, 16, .ro, 0, [], false⟩,
   ⟨0, 0, 16, .ro, 0, [], false⟩]⟩

def block_coreMirror : Block := ⟨0x1002, 0x1002,
  [⟨0, 16, 16, .ro, 0, [], false⟩,
   ⟨0, 8, 8, .ro, 0, [], false⟩,
   ⟨0, 0, 8, .ro, 0, [], false⟩]⟩

def block_coreProt : Block := ⟨0x1003, 0x1003,
  [⟨0, 32, 32, .th, 0, [], false⟩,
   ⟨0, 16, 16, .ro, 0, [], false⟩,
   ⟨0, 8, 8, .ro, 0, [], false⟩,
   ⟨0, 0, 1, .th, 1, [], false⟩]⟩

def block_isl : Block := ⟨0x1011, 0x1019,
  [⟨0, 24, 8, .ro, 0, [], false⟩,
   ⟨0, 16, 8, .ro, 0, [], false⟩,
   ⟨0, 8, 8, .ro, 0, [], false⟩,
   ⟨0, 3, 1, .ro, 0, [], false⟩,
   ⟨0, 2, 1, .ro, 0, [], false⟩,
   ⟨0, 1, 1, .ro, 1, [], false⟩,
   ⟨0, 0, 1, .ro, 1, [], false⟩]⟩

def block_arb : Block := ⟨0x1020, 0x1029,
  [⟨0, 8, 8, .next, 32, [(1, 255)], false⟩,
   ⟨0, 0, 8, .rwLive, 0, [(0, 15)], false⟩,
   ⟨1, 16, 16, .ro, 0, [], false⟩,
   ⟨1, 8, 8, .ro, 0, [], false⟩,
   ⟨1, 0, 8, .ro, 0, [], false⟩]⟩

def block_tbNow : Block := ⟨0x2000, 0x2000,
  [⟨0, 0, 64, .ro, 0, [], false⟩]⟩

def block_tbUtc : Block := ⟨0x2001, 0x2001,
  [⟨0, 18, 2, .ro, 0, [], false⟩,
   ⟨0, 17, 1, .ro, 0, [], false⟩,
   ⟨0, 0, 16, .ro, 0, [], true⟩]⟩

def block_tbStat : Block := ⟨0x2002, 0x2002,
  [⟨0, 30, 2, .ro, 0, [], false⟩,
   ⟨0, 28, 2, .ro, 0, [], false⟩,
   ⟨0, 27, 1, .ro, 0, [], false⟩,
   ⟨0, 26, 1, .ro, 0, [], false⟩,
   ⟨0, 25, 1, .ro, 0, [], false⟩,
   ⟨0, 24, 1, .ro, 0, [], false⟩,
   ⟨0, 16, 8, .ro, 0, [], false⟩,
   ⟨0, 0, 16, .ro, 0, [], false⟩]⟩

def block_tbErr : Block := ⟨0x2003, 0x2003,
  [⟨0, 0, 32, .ro, 4294967295, [], false⟩]⟩

def block_tbResid : Block := ⟨0x2004, 0x2004,
  [⟨0, 0, 32, .ro, 0, [], true⟩]⟩

def block_tbEvt : Block := ⟨0x2005, 0x2005,
  [⟨0, 6, 2, .next, 0, [], false⟩,
   ⟨0, 4, 2, .next, 0, [], false⟩,
   ⟨0, 0, 1, .next, 0, [], false⟩]⟩

def block_tbWh : Block := ⟨0x2011, 0x2014,
  [⟨0, 30, 2, .ro, 0, [], false⟩,
   ⟨0, 29, 1, .ro, 0, [], false⟩,
   ⟨0, 16, 8, .ro, 0, [], false⟩,
   ⟨0, 0, 16, .ro, 0, [], false⟩]⟩

def block_lnPg : Block := ⟨0x2100, 0x22ff,
  [⟨0, 0, 32, .rwStop, 0, [(10000, 4000000000)], false⟩,
   ⟨1, 0, 32, .rwStop, 0, [], false⟩,
   ⟨2, 16, 16, .rwStop, 0, [(32768, 53247)], false⟩,
   ⟨2, 8, 8, .ro, 0, [], false⟩,
   ⟨2, 0, 1, .rwStop, 0, [], false⟩]⟩

def block_lnQ : Block := ⟨0x2300, 0x2300,
  [⟨0, 16, 16, .ro, 0, [], false⟩,
   ⟨0, 0, 16, .ro, 0, [], false⟩]⟩

def block_lnStat : Block := ⟨0x2301, 0x2301,
  [⟨0, 48, 16, .ro, 0, [], false⟩,
   ⟨0, 32, 16, .ro, 0, [], false⟩,
   ⟨0, 16, 16, .ro, 0, [], false⟩,
   ⟨0, 0, 16, .ro, 0, [], false⟩]⟩

def block_obsStat : Block := ⟨0x3000, 0x3000,
  [⟨0, 32, 32, .ro, 0, [], false⟩,
   ⟨0, 29, 3, .ro, 4, [], false⟩,
   ⟨0, 28, 1, .ro, 0, [], false⟩,
   ⟨0, 27, 1, .ro, 0, [], false⟩,
   ⟨0, 24, 3, .ro, 7, [], false⟩,
   ⟨0, 16, 8, .ro, 49, [], false⟩,
   ⟨0, 0, 16, .ro, 0, [], false⟩]⟩

def block_obsCfg : Block := ⟨0x3001, 0x3001,
  [⟨0, 16, 16, .next, 120, [(10, 600)], false⟩,
   ⟨0, 8, 8, .next, 16, [(4, 120)], false⟩,
   ⟨0, 2, 2, .next, 0, [], false⟩]⟩

def block_obsLate : Block := ⟨0x3002, 0x3002,
  [⟨0, 32, 32, .ro, 0, [], false⟩,
   ⟨0, 0, 32, .ro, 0, [], false⟩]⟩

def block_obsOver : Block := ⟨0x3003, 0x3003,
  [⟨0, 48, 16, .ro, 0, [], false⟩,
   ⟨0, 16, 16, .ro, 0, [], false⟩,
   ⟨0, 8, 8, .ro, 0, [], false⟩]⟩

def block_obsIn : Block := ⟨0x3020, 0x303f,
  [⟨0, 56, 8, .next, 0, [], false⟩,
   ⟨0, 53, 3, .next, 0, [], false⟩,
   ⟨0, 48, 5, .next, 0, [(1, 6)], false⟩,
   ⟨0, 32, 16, .next, 0, [], false⟩,
   ⟨0, 31, 1, .next, 0, [], false⟩,
   ⟨0, 28, 3, .next, 0, [], false⟩,
   ⟨0, 20, 8, .next, 0, [(0, 255)], false⟩,
   ⟨0, 0, 20, .next, 0, [], false⟩,
   ⟨1, 32, 32, .next, 0, [], false⟩,
   ⟨1, 0, 32, .next, 0, [], false⟩,
   ⟨2, 28, 4, .ro, 0, [], false⟩,
   ⟨2, 16, 8, .ro, 0, [], false⟩,
   ⟨2, 0, 16, .ro, 0, [], false⟩]⟩

def block_fn : Block := ⟨0x3100, 0x312f,
  [⟨0, 16, 16, .ro, 0, [], false⟩,
   ⟨0, 8, 8, .ro, 0, [], false⟩,
   ⟨0, 1, 1, .ro, 0, [], false⟩,
   ⟨0, 0, 1, .ro, 0, [], false⟩,
   ⟨1, 61, 3, .next, 0, [(0, 3)], false⟩,
   ⟨1, 57, 4, .next, 0, [], false⟩,
   ⟨1, 45, 12, .next, 0, [], false⟩,
   ⟨1, 42, 3, .rwStop, 0, [(0, 4)], false⟩,
   ⟨1, 40, 2, .rwStop, 0, [(0, 2)], false⟩,
   ⟨1, 36, 4, .next, 0, [], false⟩,
   ⟨1, 35, 1, .next, 0, [], false⟩,
   ⟨1, 34, 1, .rwStop, 0, [], false⟩,
   ⟨1, 30, 4, .next, 0, [], false⟩,
   ⟨1, 22, 8, .next, 0, [], false⟩,
   ⟨1, 18, 4, .next, 0, [(0, 8)], false⟩,
   ⟨1, 9, 9, .next, 0, [], false⟩,
   ⟨1, 0, 9, .rwStop, 25, [], false⟩,
   ⟨2, 29, 3, .ro, 1, [], false⟩,
   ⟨2, 26, 3, .ro, 0, [], false⟩,
   ⟨2, 22, 4, .ro, 2, [], false⟩,
   ⟨2, 21, 1, .ro, 0, [], false⟩,
   ⟨2, 20, 1, .ro, 0, [], false⟩,
   ⟨2, 19, 1, .ro, 0, [], false⟩,
   ⟨2, 18, 1, .ro, 0, [], false⟩,
   ⟨2, 17, 1, .ro, 0, [], false⟩,
   ⟨2, 8, 8, .ro, 0, [], false⟩,
   ⟨2, 0, 8, .ro, 0, [], false⟩]⟩

def block_fnSp : Block := ⟨0x3200, 0x34ff,
  [⟨0, 32, 32, .rwStop, 0, [], false⟩,
   ⟨0, 0, 32, .rwStop, 0, [], false⟩,
   ⟨1, 32, 32, .rwLive, 0, [], false⟩,
   ⟨1, 0, 32, .rwLive, 0, [], false⟩,
   ⟨2, 32, 32, .rwStop, 0, [], false⟩,
   ⟨2, 0, 32, .rwStop, 0, [], false⟩,
   ⟨3, 32, 32, .rwStop, 0, [], false⟩,
   ⟨3, 0, 32, .rwStop, 0, [], false⟩,
   ⟨4, 32, 32, .rwStop, 0, [], false⟩,
   ⟨4, 0, 32, .rwStop, 0, [], false⟩,
   ⟨5, 1, 1, .rwStop, 0, [], false⟩,
   ⟨5, 0, 1, .rwStop, 0, [], false⟩,
   ⟨6, 32, 32, .ro, 0, [], false⟩,
   ⟨6, 0, 32, .ro, 0, [], false⟩]⟩

def block_goal : Block := ⟨0x3500, 0x3507,
  [⟨0, 56, 8, .next, 0, [], false⟩,
   ⟨0, 48, 8, .next, 0, [], false⟩,
   ⟨0, 40, 8, .next, 0, [], false⟩,
   ⟨0, 32, 8, .next, 0, [], false⟩,
   ⟨0, 16, 16, .next, 0, [], false⟩,
   ⟨0, 8, 8, .next, 0, [], false⟩]⟩

def block_optCfg : Block := ⟨0x3508, 0x3508,
  [⟨0, 32, 32, .next, 0, [], false⟩,
   ⟨0, 16, 16, .next, 0, [], false⟩,
   ⟨0, 0, 3, .next, 0, [], false⟩]⟩

def block_optStat : Block := ⟨0x3509, 0x3509,
  [⟨0, 29, 3, .ro, 0, [], false⟩,
   ⟨0, 26, 3, .ro, 0, [], false⟩,
   ⟨0, 24, 2, .ro, 0, [], false⟩,
   ⟨0, 16, 8, .ro, 0, [], false⟩,
   ⟨0, 0, 16, .ro, 0, [], false⟩]⟩

def block_ceLoop : Block := ⟨0x4000, 0x40ff,
  [⟨0, 62, 2, .next, 0, [], false⟩,
   ⟨0, 56, 6, .next, 0, [], false⟩,
   ⟨0, 52, 4, .next, 0, [(0, 5)], false⟩,
   ⟨0, 43, 9, .next, 0, [], false⟩,
   ⟨0, 39, 4, .next, 0, [], false⟩,
   ⟨0, 38, 1, .next, 0, [], false⟩,
   ⟨0, 30, 8, .next, 0, [], false⟩,
   ⟨0, 27, 3, .next, 0, [], false⟩,
   ⟨0, 16, 11, .next, 0, [], false⟩,
   ⟨0, 8, 8, .rwStop, 3, [(1, 255)], false⟩,
   ⟨0, 0, 8, .rwStop, 0, [], false⟩,
   ⟨1, 32, 32, .rwStop, 0, [], false⟩,
   ⟨1, 0, 32, .rwStop, 0, [], false⟩,
   ⟨2, 32, 32, .rwStop, 0, [], false⟩,
   ⟨2, 16, 16, .rwStop, 0, [], false⟩] ++
  (List.range 16).map (fun k => ⟨3 + k, 0, 32, .rwStop, 0, [], false⟩) ++
  (List.range 98).map (fun k => ⟨19 + k, 0, 32, .rwStop, 0, [], false⟩) ++
  [⟨117, 48, 16, .ro, 0, [], false⟩,
   ⟨117, 32, 16, .ro, 0, [], false⟩,
   ⟨117, 16, 16, .ro, 0, [], false⟩,
   ⟨117, 13, 3, .ro, 1, [], false⟩,
   ⟨117, 12, 1, .ro, 0, [], false⟩,
   ⟨117, 11, 1, .ro, 0, [], false⟩,
   ⟨118, 32, 32, .ro, 0, [], false⟩,
   ⟨118, 0, 32, .ro, 0, [], false⟩] ++
  [⟨119, 0, 64, .ro, 0, [], false⟩,
   ⟨119, 64, 8, .ro, 0, [], false⟩,
   ⟨119, 72, 8, .ro, 0, [], false⟩,
   ⟨119, 80, 16, .ro, 0, [], false⟩,
   ⟨119, 96, 32, .ro, 0, [], false⟩,
   ⟨119, 128, 32, .ro, 0, [], false⟩,
   ⟨119, 160, 32, .ro, 0, [], false⟩,
   ⟨119, 192, 32, .ro, 0, [], false⟩,
   ⟨119, 224, 32, .ro, 0, [], false⟩,
   ⟨119, 256, 32, .ro, 0, [], false⟩,
   ⟨119, 288, 32, .ro, 0, [], false⟩,
   ⟨119, 320, 32, .ro, 0, [], false⟩]⟩

def block_ceEng : Block := ⟨0x4100, 0x4104,
  [⟨0, 29, 3, .ro, 0, [], false⟩,
   ⟨0, 27, 2, .ro, 0, [], false⟩,
   ⟨0, 25, 2, .ro, 0, [], false⟩,
   ⟨0, 16, 8, .ro, 0, [], false⟩,
   ⟨0, 8, 8, .ro, 0, [], false⟩,
   ⟨0, 0, 8, .ro, 0, [], false⟩]⟩

def block_gnTrk : Block := ⟨0x5000, 0x5000,
  [⟨0, 24, 8, .next, 60, [(4, 120)], false⟩,
   ⟨0, 16, 8, .next, 50, [(5, 255)], false⟩,
   ⟨0, 12, 4, .next, 0, [(0, 5)], false⟩,
   ⟨0, 8, 4, .next, 5, [(1, 15)], false⟩]⟩

def block_gnRtk : Block := ⟨0x5001, 0x5001,
  [⟨0, 24, 8, .next, 20, [(1, 60)], false⟩,
   ⟨0, 16, 8, .next, 60, [(1, 255)], false⟩,
   ⟨0, 8, 8, .next, 5, [(1, 30)], false⟩,
   ⟨0, 0, 8, .next, 30, [(20, 100)], false⟩]⟩

def block_gnCfg : Block := ⟨0x5002, 0x5002,
  [⟨0, 63, 1, .next, 0, [], false⟩,
   ⟨0, 56, 7, .next, 0, [], false⟩,
   ⟨0, 53, 3, .next, 4, [(0, 4)], false⟩,
   ⟨0, 52, 1, .next, 0, [], false⟩,
   ⟨0, 50, 2, .next, 0, [(0, 2)], false⟩,
   ⟨0, 48, 2, .next, 0, [(0, 2)], false⟩,
   ⟨0, 47, 1, .next, 0, [], false⟩,
   ⟨0, 42, 5, .next, 10, [(0, 30)], false⟩,
   ⟨0, 36, 6, .next, 30, [(20, 45)], false⟩,
   ⟨0, 23, 13, .next, 0, [(500, 5000)], false⟩,
   ⟨0, 10, 13, .next, 0, [], false⟩]⟩

def block_gnStat : Block := ⟨0x5003, 0x5003,
  [⟨0, 61, 3, .ro, 0, [], false⟩,
   ⟨0, 59, 2, .ro, 0, [], false⟩,
   ⟨0, 56, 3, .ro, 7, [], false⟩,
   ⟨0, 48, 8, .ro, 0, [], false⟩,
   ⟨0, 32, 16, .ro, 65535, [], false⟩,
   ⟨0, 20, 12, .ro, 0, [], false⟩,
   ⟨0, 19, 1, .ro, 0, [], false⟩,
   ⟨0, 17, 2, .ro, 2, [], false⟩,
   ⟨0, 16, 1, .ro, 0, [], false⟩,
   ⟨0, 8, 8, .ro, 0, [], false⟩,
   ⟨0, 6, 2, .ro, 0, [], false⟩,
   ⟨0, 4, 2, .ro, 0, [], false⟩]⟩

def block_gnTstat : Block := ⟨0x5004, 0x5004,
  [⟨0, 32, 32, .ro, 4294967295, [], false⟩,
   ⟨0, 0, 32, .ro, 0, [], true⟩]⟩

/-- GN.PVT, a record of 72 bytes (07 Table 7.9). -/
def block_gnPvt : Block := ⟨0x5005, 0x5005,
  [⟨0, 0, 64, .ro, 0, [], false⟩,
   ⟨0, 64, 64, .ro, 0, [], false⟩,
   ⟨0, 128, 64, .ro, 0, [], false⟩,
   ⟨0, 192, 32, .ro, 0, [], false⟩,
   ⟨0, 224, 32, .ro, 0, [], false⟩,
   ⟨0, 256, 32, .ro, 0, [], false⟩,
   ⟨0, 288, 32, .ro, 0, [], false⟩,
   ⟨0, 320, 32, .ro, 0, [], false⟩,
   ⟨0, 352, 32, .ro, 0, [], false⟩,
   ⟨0, 384, 8, .ro, 0, [], false⟩,
   ⟨0, 392, 8, .ro, 0, [], false⟩,
   ⟨0, 400, 8, .ro, 0, [], false⟩,
   ⟨0, 408, 8, .ro, 0, [], false⟩,
   ⟨0, 416, 32, .ro, 0, [], false⟩,
   ⟨0, 448, 32, .ro, 0, [], false⟩,
   ⟨0, 480, 32, .ro, 0, [], false⟩,
   ⟨0, 512, 16, .ro, 0, [], false⟩,
   ⟨0, 528, 16, .ro, 0, [], false⟩]⟩

def block_gnCor : Block := ⟨0x5010, 0x5012,
  [⟨0, 61, 3, .next, 0, [(0, 3)], false⟩,
   ⟨0, 60, 1, .next, 0, [], false⟩,
   ⟨0, 59, 1, .next, 0, [], false⟩,
   ⟨0, 57, 2, .next, 0, [(0, 2)], false⟩,
   ⟨0, 53, 4, .next, 0, [(0, 10)], false⟩,
   ⟨0, 45, 8, .next, 0, [], false⟩,
   ⟨0, 29, 16, .next, 0, [], false⟩]⟩

def block_gnCh : Block := ⟨0x5400, 0x57ff,
  [⟨0, 61, 3, .ro, 0, [], false⟩,
   ⟨0, 60, 1, .ro, 0, [], false⟩,
   ⟨0, 55, 5, .ro, 0, [], false⟩,
   ⟨0, 47, 8, .ro, 0, [], false⟩,
   ⟨0, 39, 8, .ro, 0, [], false⟩,
   ⟨0, 38, 1, .ro, 0, [], false⟩,
   ⟨0, 37, 1, .ro, 0, [], false⟩,
   ⟨0, 33, 4, .ro, 0, [], false⟩,
   ⟨0, 16, 16, .ro, 0, [], false⟩,
   ⟨0, 8, 8, .ro, 0, [], false⟩,
   ⟨0, 0, 8, .ro, 0, [], false⟩]⟩

def block_gd0 : Block := ⟨0x5100, 0x5100,
  [⟨0, 48, 16, .next, 0, [], true⟩,
   ⟨0, 32, 16, .next, 0, [], true⟩,
   ⟨0, 16, 16, .next, 0, [], false⟩,
   ⟨0, 0, 16, .next, 0, [(1000, 8000)], false⟩]⟩

def block_gd1 : Block := ⟨0x5101, 0x5101,
  [⟨0, 48, 16, .next, 0, [], true⟩,
   ⟨0, 32, 16, .next, 0, [], false⟩,
   ⟨0, 16, 16, .next, 0, [(3000, 30000)], false⟩,
   ⟨0, 0, 16, .next, 0, [], true⟩]⟩

def block_gd2 : Block := ⟨0x5102, 0x5102,
  [⟨0, 61, 3, .next, 4, [(2, 4)], false⟩,
   ⟨0, 60, 1, .next, 0, [], false⟩,
   ⟨0, 59, 1, .next, 0, [], false⟩,
   ⟨0, 58, 1, .next, 0, [], false⟩,
   ⟨0, 53, 5, .next, 0, [(0, 24)], false⟩,
   ⟨0, 50, 3, .next, 0, [], false⟩,
   ⟨0, 40, 8, .next, 30, [], false⟩,
   ⟨0, 32, 8, .next, 10, [(1, 100)], false⟩,
   ⟨0, 24, 8, .next, 30, [(5, 100)], false⟩,
   ⟨0, 16, 8, .next, 60, [(10, 200)], false⟩,
   ⟨0, 8, 8, .next, 140, [(8, 200)], false⟩,
   ⟨0, 0, 8, .next, 20, [(5, 255)], false⟩]⟩

def block_gd3 : Block := ⟨0x5103, 0x5103,
  [⟨0, 32, 32, .next, 0, [], false⟩,
   ⟨0, 0, 32, .next, 0, [], false⟩]⟩

def block_gd4 : Block := ⟨0x5104, 0x5104,
  [⟨0, 61, 3, .ro, 0, [], false⟩,
   ⟨0, 59, 2, .ro, 0, [], false⟩,
   ⟨0, 57, 2, .ro, 0, [], false⟩,
   ⟨0, 48, 8, .ro, 0, [], false⟩,
   ⟨0, 32, 16, .ro, 0, [], false⟩,
   ⟨0, 16, 16, .ro, 0, [], true⟩,
   ⟨0, 0, 16, .ro, 0, [], false⟩]⟩

def block_gd5 : Block := ⟨0x5105, 0x5105,
  [⟨0, 32, 32, .ro, 0, [], false⟩,
   ⟨0, 0, 32, .ro, 0, [], false⟩]⟩

def block_ym0 : Block := ⟨0x5200, 0x5200,
  [⟨0, 48, 16, .next, 0, [], false⟩,
   ⟨0, 32, 16, .next, 0, [], false⟩,
   ⟨0, 24, 8, .next, 80, [(10, 255)], false⟩,
   ⟨0, 16, 8, .next, 60, [(1, 255)], false⟩,
   ⟨0, 12, 4, .next, 3, [(1, 10)], false⟩,
   ⟨0, 0, 1, .next, 0, [], false⟩]⟩

def block_ym1 : Block := ⟨0x5201, 0x5201,
  [⟨0, 32, 32, .next, 0, [], false⟩,
   ⟨0, 0, 32, .ro, 0, [], false⟩]⟩

def block_ym2 : Block := ⟨0x5202, 0x5202,
  [⟨0, 48, 16, .ro, 0, [], false⟩,
   ⟨0, 16, 32, .ro, 0, [], false⟩,
   ⟨0, 8, 8, .ro, 0, [], false⟩,
   ⟨0, 7, 1, .ro, 0, [], false⟩,
   ⟨0, 3, 4, .ro, 0, [], false⟩]⟩

def block_ym3 : Block := ⟨0x5203, 0x5203,
  [⟨0, 32, 32, .ro, 0, [], false⟩,
   ⟨0, 0, 32, .ro, 0, [], false⟩]⟩

def block_cam : Block := ⟨0x6001, 0x6010,
  [⟨0, 61, 3, .next, 0, [], false⟩,
   ⟨0, 58, 3, .next, 0, [(0, 4)], false⟩,
   ⟨0, 57, 1, .next, 0, [], false⟩,
   ⟨0, 56, 1, .next, 0, [], false⟩,
   ⟨0, 46, 10, .next, 0, [(64, 512)], false⟩,
   ⟨0, 37, 9, .next, 0, [], false⟩,
   ⟨0, 32, 5, .next, 0, [(0, 16)], false⟩,
   ⟨0, 30, 2, .next, 0, [], false⟩,
   ⟨0, 27, 3, .next, 0, [(0, 4)], false⟩,
   ⟨0, 24, 3, .next, 3, [(2, 7)], false⟩,
   ⟨0, 21, 3, .next, 0, [(1, 5)], false⟩,
   ⟨0, 20, 1, .next, 0, [], false⟩,
   ⟨0, 19, 1, .next, 0, [], false⟩,
   ⟨0, 17, 2, .next, 0, [(0, 1)], false⟩,
   ⟨1, 50, 14, .next, 0, [(64, 8192)], false⟩,
   ⟨1, 36, 14, .next, 0, [(64, 8192)], false⟩,
   ⟨2, 60, 4, .next, 0, [(1, 7)], false⟩,
   ⟨2, 56, 4, .next, 0, [(1, 7)], false⟩,
   ⟨2, 40, 16, .next, 0, [], false⟩,
   ⟨2, 24, 16, .next, 0, [(1000, 65535)], false⟩,
   ⟨2, 12, 12, .next, 0, [(100, 4095)], false⟩,
   ⟨3, 48, 16, .next, 0, [], false⟩,
   ⟨3, 32, 16, .next, 0, [], false⟩,
   ⟨3, 16, 16, .next, 0, [], false⟩,
   ⟨3, 8, 8, .next, 0, [], false⟩,
   ⟨3, 4, 4, .next, 8, [], false⟩,
   ⟨4, 32, 32, .ro, 0, [], false⟩,
   ⟨4, 0, 32, .next, 0, [], false⟩,
   ⟨5, 29, 3, .ro, 0, [], false⟩,
   ⟨5, 27, 2, .ro, 0, [], false⟩,
   ⟨5, 24, 3, .ro, 0, [], false⟩,
   ⟨5, 16, 8, .ro, 0, [], false⟩,
   ⟨5, 0, 16, .ro, 0, [], false⟩,
   ⟨6, 0, 64, .ro, 0, [], false⟩,
   ⟨7, 48, 16, .ro, 0, [], false⟩,
   ⟨7, 32, 16, .ro, 0, [], false⟩,
   ⟨7, 24, 8, .ro, 0, [], false⟩,
   ⟨7, 16, 8, .ro, 0, [], false⟩,
   ⟨7, 8, 8, .ro, 0, [], false⟩,
   ⟨7, 0, 8, .ro, 0, [], false⟩]⟩

def block_isp : Block := ⟨0x6101, 0x6110,
  [⟨0, 62, 2, .next, 0, [(0, 2)], false⟩,
   ⟨0, 60, 2, .next, 0, [(0, 2)], false⟩,
   ⟨0, 56, 4, .next, 0, [(1, 15)], false⟩,
   ⟨0, 42, 14, .rwLive, 0, [], false⟩,
   ⟨0, 28, 14, .rwLive, 0, [], false⟩,
   ⟨0, 14, 14, .rwLive, 0, [], false⟩,
   ⟨0, 0, 14, .rwLive, 0, [], false⟩,
   ⟨1, 62, 2, .next, 0, [(0, 2)], false⟩,
   ⟨1, 60, 2, .next, 0, [(0, 2)], false⟩,
   ⟨1, 56, 4, .next, 0, [(1, 15)], false⟩,
   ⟨1, 42, 14, .rwLive, 0, [], false⟩,
   ⟨1, 28, 14, .rwLive, 0, [], false⟩,
   ⟨1, 14, 14, .rwLive, 0, [], false⟩,
   ⟨1, 0, 14, .rwLive, 0, [], false⟩,
   ⟨2, 62, 2, .next, 0, [(0, 2)], false⟩,
   ⟨2, 60, 2, .next, 0, [(0, 2)], false⟩,
   ⟨2, 56, 4, .next, 0, [(1, 15)], false⟩,
   ⟨2, 42, 14, .rwLive, 0, [], false⟩,
   ⟨2, 28, 14, .rwLive, 0, [], false⟩,
   ⟨2, 14, 14, .rwLive, 0, [], false⟩,
   ⟨2, 0, 14, .rwLive, 0, [], false⟩,
   ⟨3, 62, 2, .next, 0, [(0, 2)], false⟩,
   ⟨3, 60, 2, .next, 0, [(0, 2)], false⟩,
   ⟨3, 56, 4, .next, 0, [(1, 15)], false⟩,
   ⟨3, 42, 14, .rwLive, 0, [], false⟩,
   ⟨3, 28, 14, .rwLive, 0, [], false⟩,
   ⟨3, 14, 14, .rwLive, 0, [], false⟩,
   ⟨3, 0, 14, .rwLive, 0, [], false⟩,
   ⟨4, 8, 8, .next, 8, [(1, 255)], false⟩,
   ⟨4, 0, 8, .rwLive, 0, [(0, 15)], false⟩,
   ⟨5, 16, 16, .ro, 0, [], false⟩,
   ⟨5, 8, 8, .ro, 0, [], false⟩,
   ⟨5, 0, 8, .ro, 0, [], false⟩]⟩

def block_ispCore : Block := ⟨0x6180, 0x6181,
  [⟨0, 24, 8, .ro, 0, [], false⟩,
   ⟨0, 19, 5, .ro, 0, [], false⟩,
   ⟨0, 0, 16, .ro, 0, [], false⟩]⟩

def block_vdCh : Block := ⟨0x7001, 0x7020,
  [⟨0, 62, 2, .next, 0, [(0, 2)], false⟩,
   ⟨0, 60, 2, .rwStop, 0, [(0, 2)], false⟩,
   ⟨0, 59, 1, .rwStop, 0, [], false⟩,
   ⟨0, 55, 4, .rwStop, 0, [(0, 14)], false⟩,
   ⟨0, 46, 9, .rwStop, 0, [(40, 250)], false⟩,
   ⟨0, 37, 9, .rwStop, 0, [(0, 0), (50, 400)], false⟩,
   ⟨0, 28, 9, .rwStop, 0, [(0, 400)], false⟩,
   ⟨0, 17, 11, .rwStop, 0, [(1, 2000)], false⟩,
   ⟨0, 8, 9, .rwStop, 0, [(0, 400)], false⟩,
   ⟨1, 48, 16, .next, 0, [(500, 65535)], false⟩,
   ⟨1, 40, 8, .next, 0, [(1, 255)], false⟩,
   ⟨1, 28, 12, .next, 0, [(10, 4095)], false⟩,
   ⟨1, 20, 8, .next, 0, [(1, 255)], false⟩,
   ⟨1, 12, 8, .next, 0, [(1, 255)], false⟩,
   ⟨1, 4, 8, .next, 40, [(0, 100)], false⟩,
   ⟨2, 24, 8, .next, 0, [(60, 220)], false⟩,
   ⟨2, 16, 8, .next, 0, [(60, 230)], false⟩,
   ⟨2, 8, 8, .next, 70, [(10, 100)], false⟩,
   ⟨3, 29, 3, .ro, 0, [], false⟩,
   ⟨3, 27, 2, .ro, 0, [], false⟩,
   ⟨3, 26, 1, .ro, 1, [], false⟩,
   ⟨3, 25, 1, .ro, 0, [], false⟩,
   ⟨3, 24, 1, .ro, 0, [], false⟩,
   ⟨3, 20, 4, .ro, 0, [], false⟩,
   ⟨3, 16, 4, .ro, 0, [], false⟩,
   ⟨3, 0, 16, .ro, 0, [], false⟩,
   ⟨4, 48, 16, .ro, 0, [], false⟩,
   ⟨4, 32, 16, .ro, 0, [], false⟩,
   ⟨4, 16, 16, .ro, 0, [], false⟩,
   ⟨4, 0, 16, .ro, 0, [], true⟩]⟩

def block_vdBank : Block := ⟨0x7041, 0x7048,
  [⟨0, 0, 16, .next, 100, [(10, 1000)], false⟩,
   ⟨1, 48, 16, .ro, 0, [], false⟩,
   ⟨1, 32, 16, .ro, 0, [], false⟩,
   ⟨1, 16, 16, .ro, 0, [], false⟩,
   ⟨1, 8, 8, .ro, 0, [], false⟩,
   ⟨1, 4, 4, .ro, 0, [], false⟩]⟩

def block_vdPrf : Block := ⟨0x7060, 0x706e,
  [⟨0, 48, 16, .next, 0, [(0, 12000)], false⟩,
   ⟨0, 32, 16, .next, 0, [(0, 4000)], false⟩,
   ⟨0, 21, 11, .next, 0, [(10, 2000)], false⟩,
   ⟨0, 10, 11, .next, 0, [(0, 2000)], false⟩,
   ⟨0, 9, 1, .next, 0, [], false⟩,
   ⟨0, 8, 1, .next, 0, [], false⟩,
   ⟨1, 48, 16, .next, 0, [], false⟩,
   ⟨1, 32, 16, .next, 0, [], false⟩,
   ⟨1, 16, 16, .next, 0, [], false⟩]⟩

def block_ls : Block := ⟨0x8001, 0x8018,
  [⟨0, 62, 2, .next, 0, [(0, 2)], false⟩,
   ⟨0, 61, 1, .rwStop, 0, [], false⟩,
   ⟨0, 57, 4, .rwStop, 6, [(1, 15)], false⟩,
   ⟨0, 48, 9, .rwStop, 10, [(1, 500)], false⟩,
   ⟨0, 40, 8, .rwStop, 188, [(10, 225)], false⟩,
   ⟨0, 27, 13, .rwStop, 2000, [(10, 5000)], false⟩,
   ⟨0, 17, 10, .rwStop, 50, [(1, 1000)], false⟩,
   ⟨0, 9, 8, .next, 0, [], false⟩,
   ⟨0, 0, 9, .rwStop, 0, [], false⟩,
   ⟨1, 61, 3, .ro, 1, [], false⟩,
   ⟨1, 59, 2, .ro, 0, [], false⟩,
   ⟨1, 58, 1, .ro, 0, [], false⟩,
   ⟨1, 57, 1, .ro, 0, [], false⟩,
   ⟨1, 52, 4, .ro, 0, [], false⟩,
   ⟨1, 44, 8, .ro, 0, [], false⟩,
   ⟨1, 16, 16, .ro, 0, [], true⟩,
   ⟨2, 48, 16, .ro, 0, [], false⟩,
   ⟨2, 32, 16, .ro, 0, [], true⟩,
   ⟨2, 16, 16, .ro, 0, [], false⟩]⟩

def block_whStat : Block := ⟨0x8100, 0x8100,
  [⟨0, 56, 8, .ro, 0, [], false⟩,
   ⟨0, 55, 1, .ro, 0, [], false⟩,
   ⟨0, 47, 8, .ro, 0, [], false⟩,
   ⟨0, 46, 1, .ro, 1, [], false⟩,
   ⟨0, 32, 8, .ro, 0, [], false⟩,
   ⟨0, 0, 32, .ro, 0, [], false⟩]⟩

def block_whMap : Block := ⟨0x8101, 0x8108,
  [⟨0, 32, 32, .next, 0, [], false⟩,
   ⟨0, 0, 24, .next, 0, [], false⟩]⟩

def block_canTs : Block := ⟨0x9000, 0x9000,
  [⟨0, 64, 64, .ro, 0, [], false⟩,
   ⟨0, 32, 32, .ro, 0, [], false⟩,
   ⟨0, 0, 32, .ro, 0, [], false⟩]⟩

def block_canCh : Block := ⟨0x9001, 0x900a,
  [⟨0, 61, 3, .next, 0, [(0, 3)], false⟩,
   ⟨0, 58, 3, .next, 0, [(0, 3)], false⟩,
   ⟨0, 55, 3, .next, 0, [(0, 4)], false⟩,
   ⟨0, 54, 1, .next, 0, [], false⟩,
   ⟨0, 53, 1, .next, 0, [], false⟩,
   ⟨0, 45, 8, .next, 0, [], false⟩,
   ⟨0, 37, 8, .next, 0, [], false⟩,
   ⟨0, 33, 4, .next, 3, [(1, 15)], false⟩,
   ⟨0, 32, 1, .next, 0, [], false⟩,
   ⟨1, 61, 3, .ro, 0, [], false⟩,
   ⟨1, 53, 8, .ro, 0, [], false⟩,
   ⟨1, 45, 8, .ro, 0, [], false⟩,
   ⟨1, 38, 7, .ro, 0, [], false⟩,
   ⟨1, 30, 8, .ro, 254, [], false⟩,
   ⟨1, 16, 8, .ro, 0, [], false⟩,
   ⟨1, 8, 8, .ro, 0, [], false⟩,
   ⟨1, 0, 8, .ro, 0, [], false⟩]⟩

def block_canSig : Block := ⟨0x9200, 0x93ff,
  [⟨0, 60, 4, .next, 0, [(0, 10)], false⟩,
   ⟨0, 31, 29, .next, 0, [], false⟩,
   ⟨0, 30, 1, .next, 0, [], false⟩,
   ⟨0, 21, 9, .next, 0, [], false⟩,
   ⟨0, 15, 6, .next, 0, [(1, 32)], false⟩,
   ⟨0, 14, 1, .next, 0, [], false⟩,
   ⟨0, 13, 1, .next, 0, [], false⟩,
   ⟨0, 12, 1, .next, 0, [], false⟩,
   ⟨1, 32, 32, .next, 0, [], false⟩,
   ⟨1, 0, 32, .next, 0, [], false⟩]⟩

def block_canTx : Block := ⟨0x9400, 0x9dff,
  [⟨0, 35, 29, .next, 0, [], false⟩,
   ⟨0, 34, 1, .next, 0, [], false⟩,
   ⟨0, 33, 1, .next, 0, [], false⟩,
   ⟨0, 32, 1, .next, 0, [], false⟩,
   ⟨0, 28, 4, .next, 0, [], false⟩,
   ⟨0, 19, 9, .next, 0, [], false⟩,
   ⟨0, 13, 6, .next, 0, [(0, 32)], false⟩,
   ⟨0, 12, 1, .next, 0, [], false⟩,
   ⟨0, 3, 9, .next, 0, [], false⟩,
   ⟨0, 2, 1, .next, 0, [], false⟩,
   ⟨0, 1, 1, .next, 0, [], false⟩,
   ⟨1, 32, 32, .next, 0, [], false⟩,
   ⟨1, 0, 32, .next, 0, [], false⟩,
   ⟨2, 0, 512, .next, 0, [], false⟩]⟩

def block_eth : Block := ⟨0x9e01, 0x9e06,
  [⟨0, 31, 1, .next, 0, [], false⟩,
   ⟨0, 30, 1, .next, 0, [], false⟩,
   ⟨0, 29, 1, .next, 0, [], false⟩,
   ⟨1, 31, 1, .ro, 0, [], false⟩,
   ⟨1, 30, 1, .ro, 0, [], false⟩,
   ⟨1, 0, 16, .ro, 0, [], false⟩]⟩

def block_tk : Block := ⟨0x9e11, 0x9e14,
  [⟨0, 62, 2, .ro, 0, [], false⟩,
   ⟨0, 61, 1, .ro, 0, [], false⟩,
   ⟨0, 60, 1, .ro, 0, [], false⟩,
   ⟨0, 56, 4, .ro, 15, [], false⟩,
   ⟨0, 32, 16, .ro, 0, [], false⟩,
   ⟨0, 16, 16, .ro, 0, [], false⟩,
   ⟨0, 0, 16, .ro, 0, [], false⟩]⟩

def block_fnp : Block := ⟨0x9e21, 0x9e2c,
  [⟨0, 31, 1, .next, 0, [], false⟩,
   ⟨0, 30, 1, .next, 0, [], false⟩,
   ⟨0, 28, 2, .next, 0, [], false⟩,
   ⟨0, 22, 6, .next, 0, [(5, 50)], false⟩,
   ⟨0, 21, 1, .next, 0, [], false⟩,
   ⟨1, 61, 3, .ro, 0, [], false⟩,
   ⟨1, 51, 10, .ro, 0, [], false⟩,
   ⟨1, 32, 16, .ro, 65535, [], false⟩,
   ⟨1, 24, 8, .ro, 0, [], false⟩,
   ⟨2, 0, 64, .ro, 0, [], true⟩]⟩

def block_sesClass : Block := ⟨0x9e30, 0x9e34,
  [⟨0, 8, 8, .next, 0, [(0, 64)], false⟩,
   ⟨0, 0, 8, .rwLive, 128, [], false⟩]⟩

def block_sesStat : Block := ⟨0x9e3f, 0x9e3f,
  [⟨0, 48, 16, .ro, 0, [], false⟩,
   ⟨0, 32, 16, .ro, 0, [], false⟩,
   ⟨0, 16, 16, .ro, 0, [], false⟩,
   ⟨0, 0, 16, .ro, 0, [], false⟩]⟩

def block_ses : Block := ⟨0x9f00, 0x9fff,
  [⟨0, 48, 16, .ro, 0, [], false⟩,
   ⟨0, 45, 3, .ro, 0, [], false⟩,
   ⟨0, 41, 4, .ro, 0, [], false⟩,
   ⟨0, 33, 8, .ro, 0, [], false⟩,
   ⟨0, 17, 16, .ro, 0, [], false⟩,
   ⟨0, 0, 17, .ro, 0, [], false⟩]⟩

def block_hmp0 : Block := ⟨0xa000, 0xa000,
  [⟨0, 62, 2, .th, 0, [], false⟩,
   ⟨0, 61, 1, .ro, 0, [], false⟩,
   ⟨0, 60, 1, .ro, 0, [], false⟩,
   ⟨0, 59, 1, .ro, 0, [], false⟩,
   ⟨0, 32, 16, .th, 0, [], false⟩,
   ⟨0, 0, 32, .th, 0, [], false⟩]⟩

def block_hmp1 : Block := ⟨0xa001, 0xa001,
  [⟨0, 0, 64, .th, 0, [], false⟩]⟩

def block_hmp2 : Block := ⟨0xa002, 0xa002,
  [⟨0, 16, 16, .ro, 0, [], false⟩,
   ⟨0, 15, 1, .ro, 0, [], false⟩]⟩

def block_updStat : Block := ⟨0xa100, 0xa100,
  [⟨0, 61, 3, .ro, 0, [], false⟩,
   ⟨0, 60, 1, .ro, 0, [], false⟩,
   ⟨0, 48, 10, .ro, 0, [], false⟩,
   ⟨0, 32, 16, .ro, 0, [], false⟩,
   ⟨0, 16, 16, .ro, 0, [], false⟩,
   ⟨0, 0, 16, .ro, 0, [], false⟩]⟩

def block_updSlot : Block := ⟨0xa101, 0xa102,
  [⟨0, 32, 32, .ro, 0, [], false⟩,
   ⟨0, 30, 2, .ro, 0, [], false⟩,
   ⟨0, 28, 2, .ro, 0, [], false⟩]⟩

def block_pwr0 : Block := ⟨0xb000, 0xb000,
  [⟨0, 62, 2, .next, 0, [(0, 2)], false⟩,
   ⟨0, 61, 1, .next, 0, [], false⟩,
   ⟨0, 60, 1, .next, 0, [], false⟩,
   ⟨0, 48, 12, .next, 30, [(5, 3600)], false⟩]⟩

def block_pwr1 : Block := ⟨0xb001, 0xb001,
  [⟨0, 48, 16, .ro, 0, [], false⟩,
   ⟨0, 40, 8, .ro, 0, [], false⟩,
   ⟨0, 32, 8, .ro, 0, [], true⟩,
   ⟨0, 18, 14, .ro, 0, [], false⟩,
   ⟨0, 17, 1, .ro, 0, [], false⟩,
   ⟨0, 16, 1, .ro, 0, [], false⟩,
   ⟨0, 12, 4, .ro, 0, [], false⟩,
   ⟨0, 11, 1, .ro, 0, [], false⟩,
   ⟨0, 0, 8, .ro, 0, [], true⟩]⟩

def block_ui : Block := ⟨0xb011, 0xb028,
  [⟨0, 61, 3, .next, 0, [(0, 5)], false⟩,
   ⟨0, 59, 2, .next, 0, [(0, 2)], false⟩,
   ⟨0, 58, 1, .next, 0, [], false⟩,
   ⟨0, 48, 10, .next, 0, [(10, 640)], false⟩,
   ⟨0, 40, 8, .next, 0, [(0, 100)], false⟩,
   ⟨0, 32, 8, .next, 3, [(1, 255)], false⟩,
   ⟨0, 16, 16, .next, 1000, [(1, 65535)], false⟩,
   ⟨1, 32, 32, .next, 0, [], false⟩,
   ⟨1, 0, 32, .next, 0, [], false⟩,
   ⟨2, 32, 32, .next, 0, [], false⟩,
   ⟨2, 0, 32, .next, 0, [], false⟩,
   ⟨3, 32, 32, .ro, 0, [], false⟩,
   ⟨3, 31, 1, .ro, 0, [], false⟩,
   ⟨3, 30, 1, .ro, 0, [], false⟩,
   ⟨3, 28, 2, .ro, 0, [], false⟩,
   ⟨3, 0, 16, .ro, 0, [], false⟩]⟩

def block_rst : Block := ⟨0xb100, 0xb100,
  [⟨0, 60, 4, .ro, 0, [], false⟩,
   ⟨0, 58, 2, .ro, 0, [], false⟩,
   ⟨0, 56, 2, .ro, 0, [], false⟩,
   ⟨0, 48, 8, .ro, 0, [], false⟩,
   ⟨0, 16, 32, .ro, 0, [], false⟩,
   ⟨0, 0, 16, .ro, 0, [], false⟩]⟩

def block_mode : Block := ⟨0xb200, 0xb200,
  [⟨0, 28, 4, .ro, 2, [], false⟩,
   ⟨0, 24, 4, .ro, 0, [], false⟩,
   ⟨0, 23, 1, .ro, 0, [], false⟩,
   ⟨0, 10, 6, .ro, 0, [], false⟩]⟩

def block_bb0 : Block := ⟨0xc000, 0xc000,
  [⟨0, 0, 1, .next, 0, [], false⟩]⟩

def block_bb1 : Block := ⟨0xc001, 0xc001,
  [⟨0, 51, 13, .ro, 0, [], false⟩,
   ⟨0, 27, 24, .ro, 0, [], false⟩,
   ⟨0, 19, 8, .ro, 0, [], false⟩,
   ⟨0, 3, 16, .ro, 0, [], false⟩,
   ⟨0, 2, 1, .ro, 0, [], false⟩,
   ⟨0, 1, 1, .ro, 0, [], false⟩,
   ⟨0, 0, 1, .ro, 0, [], false⟩]⟩

def block_pc0 : Block := ⟨0xc100, 0xc100,
  [⟨0, 0, 12, .rwLive, 4095, [], false⟩]⟩

def block_pc1 : Block := ⟨0xc101, 0xc101,
  [⟨0, 0, 112, .rwLive, 0, [], false⟩]⟩

def block_pc2 : Block := ⟨0xc102, 0xc102,
  [⟨0, 0, 32, .rwLive, 0, [], false⟩]⟩

def block_pc3 : Block := ⟨0xc103, 0xc103,
  [⟨0, 62, 2, .ro, 0, [], false⟩,
   ⟨0, 59, 3, .ro, 7, [], false⟩,
   ⟨0, 57, 2, .ro, 0, [], false⟩,
   ⟨0, 56, 1, .ro, 0, [], false⟩,
   ⟨0, 55, 1, .ro, 0, [], false⟩,
   ⟨0, 51, 4, .ro, 0, [], false⟩,
   ⟨0, 35, 16, .ro, 0, [], false⟩,
   ⟨0, 27, 8, .ro, 0, [], true⟩,
   ⟨0, 0, 27, .ro, 0, [], false⟩]⟩

def block_pc4 : Block := ⟨0xc104, 0xc104,
  [⟨0, 0, 32, .ro, 0, [], false⟩]⟩

def block_fl0 : Block := ⟨0xd000, 0xd000,
  [⟨0, 63, 1, .next, 0, [], false⟩,
   ⟨0, 61, 2, .next, 0, [(0, 2)], false⟩,
   ⟨0, 48, 13, .next, 10, [(1, 3600)], false⟩,
   ⟨0, 32, 16, .next, 0, [], false⟩,
   ⟨0, 16, 16, .next, 47202, [], false⟩,
   ⟨0, 0, 16, .next, 8883, [], false⟩]⟩

def block_fl1 : Block := ⟨0xd001, 0xd001,
  [⟨0, 56, 8, .next, 0, [], false⟩,
   ⟨0, 55, 1, .next, 0, [], false⟩,
   ⟨0, 54, 1, .next, 0, [], false⟩,
   ⟨0, 46, 8, .next, 0, [(36, 165)], false⟩,
   ⟨0, 38, 8, .next, 0, [], false⟩,
   ⟨0, 30, 8, .next, 0, [], false⟩,
   ⟨0, 18, 12, .next, 300, [(10, 3600)], false⟩,
   ⟨0, 0, 16, .next, 47230, [], false⟩]⟩

def block_fl2 : Block := ⟨0xd002, 0xd002,
  [⟨0, 62, 2, .ro, 0, [], false⟩,
   ⟨0, 60, 2, .ro, 0, [], false⟩,
   ⟨0, 59, 1, .ro, 0, [], false⟩,
   ⟨0, 32, 16, .ro, 0, [], false⟩,
   ⟨0, 16, 16, .ro, 0, [], false⟩,
   ⟨0, 0, 16, .ro, 0, [], false⟩]⟩

/-- Every block of the object dictionary, in index order of Table 13.12. -/
def blocks : List Block :=
  [block_corePace, block_coreMin, block_coreMirror, block_coreProt, block_isl, block_arb, block_tbNow, block_tbUtc, block_tbStat, block_tbErr, block_tbResid, block_tbEvt, block_tbWh, block_lnPg, block_lnQ, block_lnStat, block_obsStat, block_obsCfg, block_obsLate, block_obsOver] ++
  [block_obsIn, block_fn, block_fnSp, block_goal, block_optCfg, block_optStat, block_ceLoop, block_ceEng, block_gnTrk, block_gnRtk, block_gnCfg, block_gnStat, block_gnTstat, block_gnCor, block_gnPvt, block_gnCh, block_gd0, block_gd1, block_gd2, block_gd3, block_gd4] ++
  [block_gd5, block_ym0, block_ym1, block_ym2, block_ym3, block_cam, block_isp, block_ispCore, block_vdCh, block_vdBank, block_vdPrf, block_ls, block_whStat, block_whMap, block_canTs, block_canCh, block_canSig, block_canTx, block_eth, block_tk] ++
  [block_fnp, block_sesClass, block_sesStat, block_ses, block_hmp0, block_hmp1, block_hmp2, block_updStat, block_updSlot, block_pwr0, block_pwr1, block_ui, block_rst, block_mode, block_bb0, block_bb1, block_pc0, block_pc1, block_pc2, block_pc3] ++
  [block_pc4, block_fl0, block_fl1, block_fl2]

end Sys2Proof.Machine
end

