-- ==== Sys2Proof/Machine/Types.lean ====
section
/-! DEFINITION. The records State is made of, chapter by chapter: the state the manual gives the
module beside its register fields. Every field's default is its value at reset. All of it is plain data. -/

namespace Sys2Proof.Machine

/-! ### What leaves the block -/

/-- Where an answer, a frame or a notice goes. -/
inductive Dest where
  | session (n : Nat)      -- a PSP session (13)
  | master (n : Nat)       -- a master on the core interconnect (02 R76)
  | whistle (port : Nat)   -- the Whistle pair of a trunk port (03 R113)
  | trunk (port : Nat)     -- the data pair of a trunk port (12 R435)
  | pps                    -- pin PPS (03 R110)
  | valve (ch : Nat)       -- a valve output (10)
  | bank (b : Nat)         -- a valve bank's high-side switch (10 R355)
  | switch (ch : Nat)      -- a load switch output (11)
  | canBus (ch : Nat)      -- a CAN bus (12 R419)
  | ethPort (n : Nat)      -- an Ethernet port (12 R427)
  | fieldNode (n : Nat)    -- a field-node port (12 R431)
  | camera (n : Nat)       -- a camera link's back channel or trigger (09)
  | fleet                  -- the fleet link (17)
  | gnss                   -- a correction source (07 R269)
  | operator               -- the operator's alarm (08 R299)
  | action (ref : Nat)     -- the executing island of an action reference (03 Table 3.11)
  | key                    -- the Hamper key (14)
  | panel                  -- the Postcard's rails and lines (16 R546)
deriving DecidableEq, Repr

/-- One answer or frame the current command sends: its code (a result code, or what kind of frame it
is) and its content. -/
structure Answer where
  dest : Dest
  code : Nat
  data : List Int := []
  head : List Nat := []    -- a response's 16-byte header (13 Table 13.2)
deriving DecidableEq, Repr

/-- An event record (02 Table 2.3) as the mirror holds it. `steps` is the number of steps its unit had
made when it was stamped and `due` the elapsed instant of its release (R594); `arrival` orders equal
stamps of one island (Table 2.2); `input` is the stamp of the input that caused it (R70), for which Table 2.3
has no field (log entry 108). -/
structure Event where
  stamp : Int := 0
  seq : Nat := 0
  code : Nat
  island : Nat := 2
  late : Bool := false
  escalated : Bool := false
  fault : Bool := false              -- the event carries FAULT (16 R540)
  unit : Nat := 0
  payload : List Int := []
  steps : Nat := 0
  due : Nat := 0
  arrival : Nat := 0
  input : Int := 0
deriving DecidableEq, Repr

/-! ### Chapter 01 -/

/-- The canary rings and the shed levels' counts (01 R15 to R28), kept by the timebase island. -/
structure CanaryS where
  floorLaps : List Nat := List.replicate 16 1000   -- production fuses (R15)
  excluded : List Nat := []                        -- rings excluded (R16)
  s4Hold : Bool := false                           -- more than four excluded (R16)
  seen : Bool := false                             -- a window has completed since the reset (PACEMIN)
  lowRun : Nat := 0                                -- consecutive windows below 0x1000 (R19)
  veryLowRun : Nat := 0                            -- consecutive windows below 0x0F33 (R20)
  recent : List Nat := []                          -- pace of the last three windows, newest first (R27)
  aboveRun : Nat := 0                              -- consecutive windows at the climb level (R28)
  okRun : Nat := 0                                 -- consecutive windows at or above 0x1000 (15 R512)
deriving DecidableEq, Repr

/-- A transfer between the core and an island (01 R33, R38): the requester that waits on it, none once it has
been answered or reset, and up to 256 bits of data. -/
structure XferS where
  who : Option Nat
  data : Nat := 0
deriving DecidableEq, Repr

/-- One island's crossing (01 R33 to R46): its two FIFOs, oldest entry first, and the transfers that wait for a
full one or for a resynchronisation, with their direction (true towards the island). -/
structure IslS where
  toIsl : List XferS := []
  toCore : List XferS := []
  waiting : List (Bool × XferS) := []
  refusing : Bool := false     -- after an ISL_STALL (R43)
  needSync : Bool := false     -- NEED_SYNC (R39)
  fails : List Nat := []       -- elapsed times of failed restarts (R46)
deriving DecidableEq, Repr

/-! ### Chapter 02 -/

/-- One side of a setpoint board entry (02, "The setpoint board"). -/
structure Side where
  sps : List Nat := []         -- up to 16 setpoints, singles
  ffs : List Nat := []         -- up to 16 feed-forward terms, singles
  seq : Nat := 0               -- sequence number
  computed : Int := 0          -- harvest time at which the values were computed
  obsOk : Bool := false        -- FF_VALID (05 R186)
  authHalf : Bool := false     -- published under a halved authority (05 R200)
  dstep : Nat := 0             -- the degradation step it was published under (05 R200)
deriving DecidableEq, Repr

/-- A publish (02 R50): the side written (A is false, B is true), the stamp of the index write, its content. -/
structure PubS where
  side : Bool
  at_ : Int
  x : Side
deriving DecidableEq, Repr

/-- A board entry: both sides, the published-side index, the publishes a launch instant may still take, newest
first, and whether the oldest of them has been taken (R50 to R53). -/
structure BoardS where
  a : Side := {}
  b : Side := {}
  index : Bool := true
  pubs : List PubS := []
  taken : Bool := false
deriving DecidableEq, Repr

/-- The status mirror (02 R62 to R73, R594). -/
structure MirrorS where
  window : List Event := []          -- the reorder window
  nextSeq : Nat := 0                 -- next stream sequence number
  arrivals : Nat := 0                -- events arrived so far
  snapshot : List (Nat × Nat) := []  -- the control-plane part of the snapshot (R62)
  snapAt : Option Nat := none        -- elapsed time of its last refresh
  holdoffs : List (Nat × Nat) := []  -- code * 2 ^ 40 + scope -> elapsed time last logged (16 R595)
deriving DecidableEq, Repr

/-- The protection table beside its status register (02 R74 to R77, R80). -/
structure ProtS where
  dram : List Nat := [64, 32, 64, 8, 8, 4, 16, 32]   -- granules of CAMRAW to MGMT (14 Table 14.6)
  removed : List (Nat × Nat) := []   -- group * 64 + row of Table 2.5 -> rights removed: 1 R, 2 W
  classCut : List (Nat × Nat) := []  -- class * 256 + block -> rights removed by the Hamper (13 R453)
deriving DecidableEq, Repr

/-- Errors corrected, per memory: 0 SRAM, 1 DRAM, 2 MRAM, 3 NAND, 4 retention RAM (02 R82). -/
structure EccS where
  corrected : List (Nat × Nat) := []
deriving DecidableEq, Repr

/-- An arbiter of 02 R83 to R87 (DRAM) or of 09 R342 (ISP). -/
structure ArbS where
  slot : Nat := 0                    -- slots decided so far
  table : List Nat := []             -- owner of each slot; a number above the requesters: none
  parked : Option Nat := none
  waits : List (Nat × Nat) := []     -- wait counters
  reached : List (Nat × Nat) := []   -- slot in which a counter reached its limit
deriving DecidableEq, Repr

/-! ### Chapter 03 -/

/-- Harvest time and its discipline (03 R94 to R112). -/
structure TimeS where
  anchorEl : Nat := 0                -- elapsed time of the anchor
  anchorHt : Int := 0                -- harvest time at the anchor
  slewDir : Int := 0                 -- 1 faster, -1 slower by 5 ppm, 0 neither (R105)
  slewErr : Nat := 0                 -- the whole error the change of rate removes, ns
  steps : Nat := 0                   -- steps made (R594)
  srcGood : Bool := false            -- GNSS time valid, or the Whistle valid
  back : Bool := false               -- the source has returned, its slew or step is not over (R101)
  live : Bool := false               -- harvest time is loaded and counts on (R104)
  whLost : Bool := false             -- worker: Whistle loss declared, not SLAVED since (R121)
  joined : Bool := false             -- worker: stepped to the Whistle at join (R118)
  srcLost : Option Nat := none       -- elapsed time at which GNSS time stopped being valid
  goodSince : Option Nat := none     -- elapsed time of the entry into LOCKED or SLAVED
  holdSince : Option Nat := none     -- elapsed time of the entry into HOLDOVER
  holdSlow : Bool := false           -- disciplined for less than 10 min before the entry (R102)
  errBase : Nat := 0xFFFFFFFF        -- TB.ERR at the entry into the present growth law
  errSince : Nat := 0                -- elapsed time of that entry
  rtcValid : Bool := false           -- the real-time counter (R104)
  rtcEl : Nat := 0
  rtcHt : Int := 0
  rtcErr : Nat := 0xFFFFFFFF         -- TB.ERR last published
  rtcOff : Option Nat := none        -- elapsed time at which PD1 went off
  nandTime : Int := 0                -- harvest time last saved in NAND (R104)
  ppsLast : Option Nat := none       -- elapsed time of the last PPS edge (R111)
  ppsStepped : Bool := false         -- a step has been made since that edge
  evtHeld : List (Int × Bool) := []  -- the 16 stamps of pin EVT (R112)
  evtDropped : Nat := 0
  statusAt : Option Nat := none      -- elapsed time of the last time-status message (R103)
  statusErr : Nat := 0xFFFFFFFF      -- the bound it carried, plus 5 ns
deriving DecidableEq, Repr

/-- One Whistle port (03 R113 to R123). -/
structure WhistleS where
  txSeq : Nat := 0
  lastValid : Option Nat := none     -- elapsed time of the last valid TICK or SECOND
  lastMarker : Option Int := none    -- harvest time of its marker, as this unit received it (R121)
  reqAt : Option Nat := none         -- elapsed time of the last RT_REQ sent (R116)
  missing : Nat := 0                 -- expected markers missed in a row
  firstMiss : Option Int := none     -- t_loss: harvest time of the first missing marker
  tA : Option Int := none            -- RT_REQ marker time (R117)
  measured : Bool := false           -- a round trip gave 100 ns or less
  reqRx : Option Int := none         -- downstream: RT_REQ marker received, answer due
  driving : Bool := false            -- the upstream end sends the Whistle on this port
  stepDue : Bool := false            -- the next TICK or SECOND carries STEP (R107)
deriving DecidableEq, Repr

/-- What a queue slot's entry became (03 R135). -/
inductive SlotOut where
  | none | queued | armed | fired | ended
deriving DecidableEq, Repr

/-- A slot of the one-shot queue (03 R131 to R135). -/
structure SlotS where
  gen : Nat := 0
  out : SlotOut := .none
  instant : Int := 0
  action : Nat := 0
  flags : Nat := 0
  payload : Nat := 0
  order : Nat := 0                   -- order of insertion (R127)
  requester : Nat := 0
  accepted : Nat := 0                -- elapsed time of acceptance
deriving DecidableEq, Repr

/-- The launch scheduler (03 R124 to R138). -/
structure LaunchS where
  slots : List (Nat × SlotS) := []
  inserted : Nat := 0
  running : Bool := false            -- periodic generators loaded and running (R137)
  cohRefused : Bool := false         -- COHERENT entries refused after a Whistle loss (Table 3.10)
  lossAt : Option Int := none        -- t_loss
  lossEl : Nat := 0                  -- elapsed time of the declaration
  lastFire : List (Nat × Nat) := []  -- generator -> elapsed time of its last instant
  firedAt : List (Nat × Int) := []   -- generator -> its last instant since the last step
  stepHt : Option Int := none        -- harvest time right after the last step (R108)
  interval : List (Nat × Int) := []  -- generator -> true interval of its last launch (R108)
deriving DecidableEq, Repr

/-! ### Chapter 10 -/

/-- A boost request waiting for its bank (10 R365). -/
structure BoostReq where
  ch : Nat
  prf : Nat
  hold : Nat                 -- I_HOLD of this start, mA
  since : Nat                -- elapsed time of its arrival
  key : Nat := 0             -- its place among the requests of one instant (R367)
deriving DecidableEq, Repr

/-- A valve channel's own state (10 R357 to R381). -/
structure ValveS where
  prf : Nat := 0                     -- the profile last started
  holdI : Nat := 0                   -- its I_HOLD, mA
  before : Nat := 0                  -- the phase before a boost request waits (R365)
  cmd : Nat := 0                     -- current commanded, mA, before R375
  fastOff : Bool := false            -- decay of the off phase under way
  t0 : Nat := 0                      -- start of the boost phase
  checked : Bool := false            -- time-to-peak is checked (R371)
  phaseAt : Nat := 0                 -- elapsed time of the last change of phase
  satAt : Nat := 0                   -- elapsed time since which SAT has held
  lastOpen : Option Int := none      -- an open-loop function's last value (R359)
  trips : Nat := 0                   -- short trips
  tripped : Option Nat := none       -- phase at a short trip, while the retry is due
  latch : Nat := 0                   -- fault number that latched the channel; 0 none
  latchAt : Nat := 0
  resetAt : Nat := 0                 -- assertion of the reset whose behaviour it shows
  ramp : Option (Nat × Nat) := none  -- RELEASE ramp under way: its first current, mA, and its start (R379)
  regAt : Nat := 0                   -- elapsed time since which it is in hold or PROP regulation
  satLast : Option Nat := none       -- elapsed time at which SAT was last seen
  lowAt : Option Nat := none         -- elapsed time since which the load looks open (Table 10.7)
  period : Option Int := none        -- number of the last carrier period regulated (R360)
  modelled : Bool := false           -- its coil model has been started (R374)
  tw : Rat := 0                      -- winding node, degC (R372)
  tb : Rat := 0                      -- body node, degC
  validMs : Nat := 0                 -- valid measurement time since the Full reset (R374)
  hot : Bool := false                -- at or above T_WARN
deriving DecidableEq, Repr

/-- What a channel was before the boost it started at once (10 R367). -/
structure BoostPrior where
  req : BoostReq
  valve : ValveS
  phase : Nat
  target : Nat
deriving DecidableEq, Repr

/-- A valve bank (10 R355, R365, R377). -/
structure BankS where
  queue : List BoostReq := []
  side : Nat := 1                    -- high side: 0 off, 1 battery rail, 2 boost rail
  prior : Option BoostPrior := none  -- the last boost that started at its request
  hsOff : Bool := false              -- high side off after a bank fault
  holder : Option Nat := none        -- channel whose fault holds the bank's latch (R378)
deriving DecidableEq, Repr

/-- The valve drive. -/
structure ValvesS where
  ch : List (Nat × ValveS) := []
  bank : List (Nat × BankS) := []
  rail : List (Nat × Nat) := []      -- converter (1 BST-A, 2 BST-B) -> rail, 0.1 V, as last measured
  backup : Bool := false             -- island 8 runs on its backup oscillator (01 R47)
  launched : List (Nat × Nat × Nat) := []  -- channel -> elapsed time and insertion order of its last class 0x2 launch
  coilAt : Option Nat := none        -- elapsed time of the last step of the coil model
deriving DecidableEq, Repr

/-! ### Chapter 11 -/

/-- A load switch channel's own state (11 R387 to R399). -/
structure SwitchS where
  out : Bool := false                -- output on
  cmd : Bool := false                -- internal command in force
  changedAt : Option Nat := none     -- elapsed time of the last change of the command
  waiting : Option Bool := none      -- deferred command (R388)
  trips : List Int := []             -- trips, in counted time (R389)
  frozen : Int := 0                  -- ns for which counted time has stopped (R394)
  frozenAt : Option Int := none      -- counted time at which it stopped
  pause : Option Nat := none         -- end of the retry pause (R390)
  ocLatch : Bool := false
  thermal : Bool := false
  clamp : Bool := false
  used : Rat := 0                    -- clamp energy spent at usedAt, mJ (R392)
  usedAt : Nat := 0
  resetRun : Bool := false           -- the reset behaviour of Table 11.5 is in force (R399)
  last : Bool := false               -- what it was called to be at the reset: the state the grace keeps
  tripAt : Option Nat := none        -- elapsed time of the last trip
deriving DecidableEq, Repr

/-- The power die's side of resets and walk-home (11 R399 to R407). -/
structure WalkS where
  ch : List (Nat × SwitchS) := []
  assertAt : Option Nat := none      -- assertion that the reset grace runs from
  full : Bool := true                -- the last assertion was of Full scope
  released : Option Nat := none      -- the power die's own release after a Full reset
  cmdSince : Bool := false           -- a command has come since the assertion
  expired : Bool := false            -- the link watchdog has expired and no valid frame has come since (R400)
  dead : Bool := false               -- the core counts as dead (R400)
  deadAt : Nat := 0
  mask : Nat := 0                    -- channels under pin control in the dead period, as WH MAP lays them
  live : Bool := false               -- pins in force: 20 ms after the release with a good copy (R402, R406)
  badCopy : Bool := false            -- the copy's CRC was bad (R406)
  down : Bool := false               -- the Thermos has released the outputs (15 R523)
  held : List Event := []            -- events held while the core is dead (R407)
  heldMore : Nat := 0
  copy : List (Nat × Nat) := []      -- the non-volatile copy: field key -> value (R406)
deriving DecidableEq, Repr

/-! ### Chapter 13 -/

/-- One item of a session's output queue (13 R461, 02 R68); the marker 0x1032 of events lost carries their number
and the session (02 Table 2.14). -/
inductive QItem where
  | event (e : Event)
  | eventsLost (n session : Nat)
  | record (stream : Nat) (lost : Bool) (bytes : Nat) (data : List Int)
deriving DecidableEq, Repr

/-- An open session (13 R449 to R461). -/
structure SessionS where
  num : Nat := 0
  cls : Nat := 0
  carrier : Nat := 0
  peer : Nat := 0
  tcp : Bool := false
  udp : Option (Nat × Nat) := none          -- over UDP, the partner's address and port (R449)
  timeout : Nat := 10                       -- s
  lastRx : Nat := 0                         -- elapsed time of the last message received
  agreed : List (Nat × Nat × Nat) := []     -- service, major, minor
  events : Bool := false                    -- subscribed to the event stream
  streams : List Nat := []                  -- streams subscribed, at most 32
  every : List (Nat × Nat × Nat) := []      -- stream -> N of one record in every N, records still to be passed over
  lostStreams : List Nat := []              -- streams with a dropped record
  outq : List QItem := []                   -- output queue, oldest first
  recent : List (List Nat × List Answer) := []   -- the last 16 UDP requests with their responses (R444)
deriving DecidableEq, Repr

/-- The end-to-end state of one data ID in one session (13 R464, R465); it outlives the session. -/
structure AliveS where
  session : Nat
  dataId : Nat
  alive : Nat
  lastOk : Nat              -- elapsed time of the last accepted message
  expired : Bool := false   -- its REACTION has been taken
deriving DecidableEq, Repr

/-- A request in the mode gate's queue (02 R57). -/
structure GateReq where
  session : Nat             -- 0: the module itself
  kind : ReqKind
deriving DecidableEq, Repr

/-- The Hamper records that sessions rest on (14 Table 14.4). -/
structure SesCfgS where
  classMap : List ClassMapS := []
  certPol : List (Nat × Nat) := []      -- key hash -> class limit
  anchors : List Nat := []              -- trust anchors held (R443)
  dataIds : List DataIdS := []
deriving DecidableEq, Repr

/-- Sessions, the mode gate's queue and the end-to-end records in use. -/
structure SessionsS where
  open_ : List (Nat × SessionS) := []       -- slot -> session
  nextNum : Nat := 1
  alive : List AliveS := []
  gate : List GateReq := []                 -- the mode gate's queue of 64, oldest first (02 R57)
  cfg : SesCfgS := {}
deriving DecidableEq, Repr

/-! ### Chapter 14 -/

/-- An entry of the amendment list (14 R486 to R488, 05 R210): its kind (0 change set, 1 LIVE, 2 NEXT),
the field and the value. -/
structure AmendS where
  unit : Nat
  kind : Nat
  key : Nat
  value : Nat
deriving DecidableEq, Repr

/-- What the image in use says beside the register fields it loads (14 Table 14.4). -/
structure RoleS where
  role : Nat := 0          -- 0 manager or standalone, 1 worker
  unit : Nat := 0          -- 0 manager, 1-15 worker
  workers : Nat := 0       -- workers of the installation
  size : Nat := 0          -- 0 Standalone, 1 Group, 2 Large
deriving DecidableEq, Repr

/-! ### Chapter 16 -/

/-- A record on its way to the black box: its type, FAULT, and its payload's bytes (16 Tables 16.2 and 16.3). -/
structure BbItem where
  typ : Nat
  fault : Bool := false
  payload : List Nat := []
deriving DecidableEq, Repr

/-- A record as it stands in an area: its position, its stamp (sequence form or hours form, R531) and
whether its VALID byte was written (R529). -/
structure BbRec where
  pos : Nat
  item : BbItem
  seqForm : Bool
  stampA : Nat
  stampB : Nat
  valid : Bool := true
deriving DecidableEq, Repr

/-- One copy of the control block (16 Table 16.1). -/
structure BbCtrl where
  count : Nat := 0
  crcOk : Bool := true
  perm : Nat := 0
  head : Nat := 0
  hours : Nat := 0
  seqNext : Nat := 1
deriving DecidableEq, Repr

/-- The black box (16 R527 to R538). -/
structure BlackBoxS where
  queue : List BbItem := []
  dropped : Nat := 0                     -- since the last LOST record
  perm : List BbRec := []                -- permanent area, write order
  circ : List BbRec := []                -- circular area, write order
  permPos : Nat := 0
  ctrlA : BbCtrl := {}
  ctrlB : BbCtrl := {}
  hoursBase : Nat := 0                   -- operating time in 10 ms units at opSince
  opSince : Option Nat := none           -- elapsed time from which it counts
  blocks : List (Nat × Nat) := []        -- sequence numbers held: next, last
  lastSeq : Nat := 0
  sub : Nat := 0
  permFullLogged : Bool := false
  faultCounts : List (Nat × Nat) := []   -- FAULT records per code since start (R541)
  dtc : List (Nat × List Int) := []      -- codes active as trouble codes, with the payloads of their events (R541)
  anchorAt : Nat := 0                    -- operating time of the last ANCHOR (R534)
deriving DecidableEq, Repr

/-- An update of the panel in progress (16 R545 to R547). -/
structure PcRun where
  frame : Nat
  at_ : Nat := 0                         -- elapsed instant of its latch
  commons : List Nat
  band : Nat
  full : Bool
  fromSched : Bool := false
deriving DecidableEq, Repr

/-- The Postcard (16 R542 to R550). -/
structure PostcardS where
  frame : Nat := 0                       -- the frame stored in the control block
  inProgress : Bool := false
  stress : List Nat := [0, 0, 0, 0]      -- the segments of a common are written together (R548)
  run : Option PcRun := none
  asked : Bool := false                  -- a request waits for its latch (R545)
  merged : Bool := false                 -- a request waits for the update's end (R545)
  deferred : Bool := false               -- a request waits for the panel's temperature (R547)
  fullNext : Bool := false               -- the next update is a full rewrite
deriving DecidableEq, Repr

end Sys2Proof.Machine
end

