-- ==== Sys2Proof/Machine/TypesB.lean ====
section
/-! DEFINITION. The records of chapters 05, 06, 12 and 18, and the observer's two published records. -/

namespace Sys2Proof.Machine

/-! ### Chapter 18 -/

/-- A universal input's own state (18 R584 to R586). -/
structure UiS where
  heldAt : Option Nat := none        -- elapsed time of the last hold
  value : Option Nat := none         -- what that hold passes on: a single, or none for a bad sample
  bad : Nat := 0                     -- consecutive bad samples
  good : Nat := 0                    -- consecutive good samples
  openTill : Option Nat := none      -- the CURRENT shunt is open until then
  high : Bool := false               -- the comparator of FREQ and SWITCH
  since : Nat := 0                   -- elapsed instant of its last change
  taken : Bool := false              -- SWITCH: the level taken, once stable for 1 ms
  rises : List Nat := []             -- FREQ: elapsed instants of its last two rising changes, the later first
  edge : Option Nat := none          -- FREQ: elapsed instant of its last change since the start
deriving DecidableEq, Repr

/-- The inertial unit's latest 2 kHz sample (04, "Ego-motion"; 06 Table 6.3). -/
structure ImuS where
  axes : List Nat := []              -- six singles
  fault : Bool := false
  stamp : Int := 0
deriving DecidableEq, Repr

/-! ### Chapter 04, what others read -/

/-- The OBS.EGO record (04 Table 4.7). -/
structure EgoS where
  time : Int
  speed : Nat
  pitch : Nat
  src : Nat
deriving DecidableEq, Repr

/-- The OBS.OUT record (04 Table 4.6): singles in table order from FEED on. -/
structure OutS where
  time : Int
  stepNo : Nat
  values : List Nat
deriving DecidableEq, Repr

/-! ### Chapter 12, frames -/

/-- A frame in a channel's transmit FIFO (12 R421, R422). -/
structure FrameS where
  id : Nat
  ide : Bool
  fdf : Bool
  brs : Bool
  dlc : Nat
  data : List Nat
  buffer : Nat                       -- 0xFFFF: from the protocol stack
  since : Nat                        -- elapsed time of its entry
deriving DecidableEq, Repr

/-! ### Chapter 05 -/

/-- What an operator has set for an index: the last setpoint and the override in force, with the session
and the data ID that started it (05 R192, 13 R465). -/
structure OpS where
  value : Option Nat := none
  ovr : Option (Nat × Nat) := none
  stamp : Int := 0
deriving DecidableEq, Repr

/-- A setpoint index of a function (05 Table 5.4). -/
structure IdxS where
  op : OpS := {}
  opsBefore : List OpS := []         -- what held before it, newest first, until a launch has passed them (02 R54)
  shots : List (Nat × Int) := []     -- one-shot applications fired and not yet taken, newest first (R187)
  shotTaken : Option Nat := none     -- the application in use
  opt : Option Nat := none           -- the optimiser's current value (R194)
deriving DecidableEq, Repr

/-- Feed-forward of a function (05 R201): how its terms move now. -/
inductive FadeKind where
  | off | on | falling | rising
deriving DecidableEq, Repr

/-- The state of the fade: since when, and each term's value at that instant. -/
structure FadeS where
  kind : FadeKind := .off
  since : Int := 0
  base : List Rat := []
deriving DecidableEq, Repr

/-- A function's own state (05 R202 to R209). -/
structure FnS where
  running : Bool := false
  remote : Bool := false             -- on a manager: running on its worker, as its events tell
  causes : List Nat := [2]           -- stop causes held, codes of Table 5.8
  restartAt : Option Int := none     -- a restart is due at the first launch at or after this instant
  asked : Bool := false              -- a restart request accepted and still in progress (02 R61)
  changeSet : Bool := false          -- it is step 4 of a change set
  changeRestart : Bool := false      -- its RESTART flag
  idx : List (Nat × IdxS) := []
  taken : Option Side := none        -- the board side last taken
  fade : FadeS := {}
  lastLaunch : Option Int := none
  launchSteps : Nat := 0             -- steps of harvest time made before it
  cmd : Option Rat := none           -- the actuator command last sent
  zeroAt : Option Nat := none        -- elapsed time since which it has been 0 (15 R515)
  canLast : Option FrameS := none    -- the command frame last queued (R421)
  seen : Bool × Nat := (false, 4)    -- on a worker: warming and degradation step of the manager's observer
deriving DecidableEq, Repr

/-- The supervisory optimiser (05 R194 to R199) and the harvest goal. -/
structure OptS where
  goal : Option Nat := none          -- goal in use; none before the first start
  goalNext : Option Nat := none      -- selection taken at the next cycle (R196)
  fuelAt : Option Nat := none        -- elapsed time of the last fuel rate received (R197)
  handOn : Bool := false             -- clamped values go on at the next step output (R199)
deriving DecidableEq, Repr

/-! ### Chapter 06 -/

/-- A queued sample of a loop (06 R231). -/
structure SampleS where
  loop : Nat
  instant : Int
  el : Nat := 0                      -- elapsed time of its launch (the true interval of R108)
  steps : Nat := 0                   -- steps of harvest time made before it
  meas : Option Nat                  -- the measurement, a single; none when missing
deriving DecidableEq, Repr

/-- A relay auto-tune in progress (06 R237 to R241). -/
structure TuneS where
  rule : Nat
  reverse : Bool
  settle : Nat
  cycles : Nat
  timeout : Nat                      -- s
  amp : Rat
  hys : Rat
  band : Rat
  bias : Rat
  session : Nat := 0
  accepted : Nat := 0                -- elapsed time of acceptance
  atOutput : Bool := false           -- BIAS is the loop's output at opening
  ended : Bool := false              -- SETTLE + CYCLES cycles completed: the next sample closes the loop (R240)
  begun : Option Int := none         -- instant of the first sample after acceptance
  r0 : Rat := 0
  high : Bool := false               -- the relay stands at bias + amp
  cycleAt : Option Int := none       -- start of the present cycle
  hi : Rat := 0
  lo : Rat := 0
  periods : List Rat := []           -- of every completed cycle, s
  amps : List Rat := []
deriving DecidableEq, Repr

/-- A loop's law state (06 R225 to R229). -/
structure LawS where
  i : Rat := 0
  dPrev : Rat := 0
  dnPrev : Rat := 0
  uPrev : Rat := 0
  v : Rat := 0                       -- the last output before clamping
  biq : List (Rat × Rat) := []
  xhat : List Rat := []
  gains : Option (Rat × Rat × Rat) := none  -- gains last interpolated (R226)
deriving DecidableEq, Repr

/-- A loop's checkpoint: its state before the evaluation, the sample with its measurement, the reference and the sum of
the feed-forward terms (06 R243). -/
structure CheckS where
  law : LawS
  last : Option SampleS
  closing : Bool
  x : SampleS
  r : Rat
  ff : Rat
deriving DecidableEq, Repr

/-- A loop's own state. -/
structure LoopS where
  law : LawS := {}
  closing : Bool := false            -- the next sample closes the loop (R218)
  missed : Nat := 0                  -- consecutive missing measurements
  lastEval : Option SampleS := none  -- the previous sample: the last one not discarded
  sampled : Option (Int × Nat) := none  -- the last launched sample's instant, and the steps made before it
  check : Option CheckS := none
  tune : Option TuneS := none
  atres : Option (List Int) := none  -- CE.Lnnn.ATRES (Table 6.9)
deriving DecidableEq, Repr

/-- The engines (06 R215, R242 to R247). -/
structure EnginesS where
  loops : List (Nat × LoopS) := []
  queue : List (Nat × List SampleS) := []   -- logical engine -> samples waiting
  takeover : Option (Nat × Nat) := none     -- engine being taken over, elapsed t0
  load : List (Nat × Rat) := []             -- computed load of each engine, fixed at start (R233)
  busy : List (Nat × Nat × Nat) := []       -- engine, elapsed time, busy ns of the evaluations of the last 1 s
  failing : List Nat := []                  -- physical engines that fail the known-answer test
deriving DecidableEq, Repr

/-! ### Chapter 12 -/

/-- A CAN channel (12 R411 to R425). -/
structure CanS where
  fifo : List FrameS := []
  offs : List Nat := []              -- elapsed times of bus-offs
  remotes : Nat := 0                 -- remote frames received (R411)
  tried : Nat := 0                   -- addresses tried in the present claim
  name : Nat := 0                    -- the 64-bit NAME of the Hamper
  stack : List FrameS := []          -- the protocol stack's frames that wait for a place in the FIFO (R423)
  pgn : List (Nat × List Nat × Int) := []  -- PGN -> data and stamp of the last EEC1 and LFE1 (R426)
deriving DecidableEq, Repr

/-- A field-node port (12 R432, R434). -/
structure NodeS where
  faults : List Nat := []            -- elapsed times of power faults
  offAt : Option Nat := none         -- power fault, retry due
  t1 : Option Int := none            -- egress of the TIME_REQ outstanding
  seq : Nat := 0
  est : Option (Int × Nat × Nat) := none  -- the last estimate: offset, uncertainty, elapsed time
  values : List (Nat × Nat × Int) := []  -- signal -> raw single, stamp
  faulty : List Nat := []            -- signals that report a fault
  tryAt : Option Nat := none         -- elapsed time of the last detection (R432)
  reqAt : Option Int := none         -- harvest time of the last TIME_REQ
deriving DecidableEq, Repr

/-- A trunk port (12 R435 to R438). -/
structure TrunkS where
  expected : Option Nat := none      -- the unit the Hamper names there (R435)
  ident : Nat := 0                   -- the identity it names
  loads : List (Nat × Nat) := []     -- elapsed time and load of the windows of the last 1 s (Table 12.12)
  downAt : Option Nat := none
deriving DecidableEq, Repr

/-- Every wired link. -/
structure LinksS where
  can : List (Nat × CanS) := []
  canFrom : Nat := 0                 -- elapsed time at which the CAN counter last started (R417)
  tsmapStep : Bool := true           -- the next CAN.TSMAP carries RATE 0
  tsmapAt : Option (Int × Nat) := none -- SECOND and COUNT of the last one
  sig : List (Nat × Nat × Int) := []  -- CAN signal -> value, stamp
  node : List (Nat × NodeS) := []
  trunk : List (Nat × TrunkS) := []
  conflictAt : List (Nat × Nat) := [] -- Ethernet port -> last foreign Announce (R428)
  syncAt : List (Nat × Nat) := []    -- Ethernet port -> last Sync
  announceAt : List (Nat × Nat) := [] -- Ethernet port -> last Announce
  upstreamLost : Bool := false       -- the upstream data link has been down 100 ms (R438)
deriving DecidableEq, Repr

end Sys2Proof.Machine
end

