-- ==== Sys2Proof/Machine/TypesC.lean ====
section
/-! DEFINITION. The records of chapter 04's observer. -/

namespace Sys2Proof.Machine

/-- A binding's own state (04 R154 to R163). -/
structure BindS where
  period : Nat := 0                  -- from its last two samples, ns; 0: none yet
  lastTime : Option Int := none      -- the source's own time of its last sample
  missing : Bool := false
  late : Bool := false
  drift : Bool := false
  lying : Bool := false
  hist : List (Nat × Bool) := []     -- samples taken or discarded in the last 10 s; true: late or discarded
  res : List Nat := []               -- residuals of the last 250 steps, singles
  est : Option Nat := none           -- elapsed time of the last valid offset estimate
  offset : Int := 0                  -- that estimate, ns
  lastArr : Option Nat := none       -- elapsed time of the last arrival
deriving DecidableEq, Repr

/-- A sample that has arrived: its binding, the instant it is designated by (stamp plus LATENCY), its
true stamp and its value (04 R152, R154). -/
structure ObsIn where
  bind : Nat
  at_ : Int
  stamp : Int
  value : Nat
  arrived : Int := 0                 -- harvest time of its arrival
deriving DecidableEq, Repr

/-- A step launched and not yet at its output (04 Table 4.1). -/
structure ObsStepS where
  k : Nat
  t0 : Int
  closed : Bool := false             -- its gather has closed
deriving DecidableEq, Repr

/-- The observer (04). -/
structure ObsS where
  packs : List (Nat × PackS) := []   -- valid packs by slot
  staged : List (Nat × Nat × Nat) := []  -- slot, offset in DRAM region TENSOR, length (R176)
  latent : List Nat := []            -- the latent state, 4,096 cells of 192 features; empty at a start (R147)
  launched : Option (Int × Nat) := none  -- instant of the last step, and the steps of harvest time before it
  saved : Option (Nat × Nat × Nat × Nat) := none  -- NAND: slot, VENDOR, PACK_ID, CROP (R177)
  k : Nat := 0                       -- number of the next step
  warmK : Nat := 0                   -- warming time, steps
  step : Option ObsStepS := none
  started : Nat := 0                 -- elapsed time of the observer's start
  waiting : List ObsIn := []         -- samples no gather has taken
  taken : List ObsIn := []           -- inputs of the step in computation
  bind : List (Nat × BindS) := []
  innov : List Bool := []            -- innovation above INNOV_LIMIT, the last 250 steps
  incons : Bool := false
  overrunOn : Bool := false          -- the overrun cause (R146)
  onTime : Nat := 0                  -- steps completed on time since
  hold : Option Nat := none          -- step at which the present hold began (R169)
  d3At : Nat := 0                    -- step of the entry into D3
  eccAt : Option Nat := none         -- elapsed time of the last state ECC error (R150)
  eccHold : Bool := false            -- stopped until the next entry into FIELD_IDLE
  select : Option Nat := none        -- pack selection accepted (R178)
  changing : Bool := false           -- D4 entered for it
  mask : Nat := 0                    -- FN_MASK of the affected inputs (05 Table 5.6)
  egoSub : Bool := false             -- GNSS velocity substituted (R164)
  egoNone : Bool := false
deriving DecidableEq, Repr

end Sys2Proof.Machine
end

