-- ==== Sys2Proof/Machine/TypesD.lean ====
section
/-! DEFINITION. The records of chapters 14, 15 and 17: supply, modes, reset, Hamper, update, fleet link. -/

namespace Sys2Proof.Machine

/-! ### Chapter 15 -/

/-- The supply's own state (15 R496 to R500, R511; 18 R580). -/
structure PowerS where
  ovLogged : Bool := false           -- PWR_OV has been logged since VBAT rose above 36 V (R496)
  railAt : Option Nat := none        -- elapsed time the core rail was last adjusted in HARVEST (R501)
  capAt : Nat := 0                   -- elapsed time of the last Thermos capacity test (R514)
  crankAt : Option Nat := none       -- elapsed time of crank entry
  crankMin : Nat := 0                -- lowest VBAT since, mV
  crankLong : Bool := false          -- the data-plane domains stay off until SAFE_STOP is left (R498)
  supAt : List (Nat × Nat) := []     -- sensor supply -> elapsed time at which it last went off or on
  supTrips : List (Nat × Nat) := []  -- sensor supply -> trips counted
  wake : Nat := 0                    -- wake lines active: bit 0 WAKE1, bit 1 WAKE2
  wakeOff : Option Nat := some 0     -- elapsed time since which no enabled line is active
  svc : Bool := false                -- SVC_EN held to GND
deriving DecidableEq, Repr

/-- A mode transition in progress (15 R507): its target, the mode it left and its t0, elapsed. -/
structure TransS where
  target : Nat
  source : Nat
  t0 : Nat
deriving DecidableEq, Repr

/-- A foreground test (15 R515), running since `started` or deferred in HARVEST. -/
structure TestS where
  req : TestIn
  session : Nat
  asked : Nat
  started : Option Nat := none
  y0 : Rat := 0                      -- VALVE_ZERO: the loop's measurement at its start
deriving DecidableEq, Repr

/-- Modes (15 R505 to R515). -/
structure ModeS where
  trans : Option TransS := none
  wanted : Bool := false             -- a SAFE_STOP request of the module itself waits for the gate
  saved : Nat := 0                   -- NAND: the mode at the last SLEEP entry
  running : List Nat := []           -- workers running
  givenUp : List Nat := []           -- workers given up at this start (14 R492)
  workerCauses : List Nat := []      -- workers with a cause of SAFE_STOP
  tests : List TestS := []
deriving DecidableEq, Repr

/-- The reset controller and the start under way (15 R516 to R523). -/
structure RstS where
  held : Bool := true                -- a reset is asserted and not yet released
  pinLow : Bool := false             -- RESET_N is low
  clearAt : Nat := 0                 -- elapsed time at which the last source became inactive
  assertAt : Nat := 0                -- elapsed time of the last assertion (R517)
  sleepWake : Bool := false          -- the release follows a wake from SLEEP
  brownOut : Bool := false           -- the next power-on is recorded as brown-out (R523)
  noFinal : Bool := false            -- a Thermos sequence ended without its final record
  startAt : Nat := 0                 -- beginning of the present release
  step : Nat := 0                    -- last step reached of Table 15.14
  block : Option Nat := none         -- a block whose reset has not been acknowledged (R517)
  qual : Nat := 0                    -- time quality before the reset (03 R98)
  start : StartIn := {}              -- what the present start shows
deriving DecidableEq, Repr

/-! ### Chapter 14 -/

/-- The Hamper key, its shadow copy and the image in use (14). -/
structure HamperS where
  key : Option KeyIn := none         -- the key fitted
  shadow : Option KeyIn := none      -- NAND (R482)
  uid : Nat := 0                     -- KEY_UID read at this start
  sensedAt : Option Nat := none      -- elapsed time the key was last sensed (14 R470)
  image : Option ImageIn := none     -- the image in use
  writing : Option (ImageIn × Nat) := none  -- Table 14.11 in progress, and its session
  serial : Nat := 0                  -- the module's serial number
  ruckFw : Option Nat := none        -- worker: version of the firmware its Rucksack brought
  waitRuck : Bool := false           -- a worker waits for its Rucksack
  sizeHeld : Bool := false           -- a manager held in CONFIG under R5
  fails : List (Nat × Nat) := []     -- unit -> Rucksacks failed at this start (R492)
  sent : List (Nat × Nat) := []      -- unit -> elapsed time its last Rucksack was sent
deriving DecidableEq, Repr

/-! ### Chapter 17 -/

/-- Firmware update (17 R554 to R566). -/
structure UpdateS where
  man : Option ManifestIn := none    -- the open transfer
  got : List (Nat × List Nat) := []  -- blocks held, with their bytes
  lastAt : Nat := 0                  -- elapsed time of the last accepted BLOCK
  readyAt : Nat := 0                 -- elapsed time of READY
  inSlot : List (Nat × ManifestIn) := []  -- NAND: slot -> its image
  lastConf : Nat := 0                -- NAND: the slot confirmed last (log entry 46)
  actMode : Nat := 0                 -- NAND: mode at activation
  actNow : Bool := false             -- NAND: activated with WHEN 0
  pdStored : Option Nat := none      -- NAND of a worker: the version of the power-die code its last Rucksack brought (R564)
  pdCode : Nat := 0                  -- the version of the code the power die runs (R565)
  rollback : Option (Nat × Nat) := none  -- UPD_ROLLBACK flagged: versions abandoned and running
deriving DecidableEq, Repr

/-- One of the fleet link's two connections (17 R568). -/
structure ConnS where
  wait : Nat := 5                    -- s
  tryAt : Nat := 0                   -- elapsed time of the next attempt
  upAt : Nat := 0                    -- elapsed time at which it came up
deriving DecidableEq, Repr

/-- The fleet link (17 R567 to R571). -/
structure FleetS where
  conn : List (Nat × ConnS) := []    -- 0 fleet session, 1 MQTT
  queue : List (List Int) := []      -- telemetry records waiting, oldest first
  teleAt : Option Int := none        -- the whole multiple of TELE_S published last
  cartAt : Option Int := none        -- the whole multiple of 100 ms broadcast last
deriving DecidableEq, Repr

end Sys2Proof.Machine
end

