-- ==== Sys2Proof/Machine/TypesE.lean ====
section
/-! DEFINITION. The records of chapters 07, 08 and 09: the baseband, guidance, yield mapping, cameras. -/

namespace Sys2Proof.Machine

/-! ### Chapter 07 -/

/-- A GNSS channel's own state beside its status register (07 R256 to R260). -/
structure ChanS where
  pullAt : Option Nat := none        -- elapsed time of its first dump since assignment
  run : Nat := 0                     -- consecutive dumps with a phase lock indicator of 0.8 or more
  side : Nat := 0                    -- consecutive dumps with VE or VL above P
  code : Int := 0                    -- side-peak moves of its code phase, half chips
  due : Bool := false                -- new rates are on their way to the island
  rates : Int × Int := (0, 0)        -- code and carrier rates in force
  arrived : Option (Int × Int) := none  -- rates that take effect at the next code-period boundary
  fll : Bool := false                -- the frequency lock loop assists (07 R258)
  bw : Nat × Nat := (0, 0)           -- loop noise bandwidths in use: PLL_BW, DLL_BW
  spacing : Nat × Nat := (0, 0)      -- correlators, early to late and very early to very late, hundredths of a chip
  low : Bool := false                -- the phase lock indicator stands below 0.5
  seenAt : Nat := 0                  -- elapsed time of the last correlation above the C/N0 mask
  lockAt : Option Nat := none        -- elapsed time of lock or of the last slip
  slip : Bool := false               -- a slip since the previous epoch
  fcn : Int := 0
deriving DecidableEq, Repr

/-- An antenna supply (07 R254). -/
structure AntS where
  trips : Nat := 0
  retries : Nat := 0
  onAt : Nat := 0                    -- elapsed time at which it was last switched on
  offAt : Nat := 0                   -- elapsed time at which a short last switched it off
deriving DecidableEq, Repr

/-- A correction source (07 R269 to R271). -/
structure CorS where
  station : Option (Nat × (Int × Int × Int)) := none
  epochs : List Int := []            -- epochs of the latest corrections, newest first
  goodAt : Option Int := none        -- epoch since which its age has been SWITCH_AGE or less
  ignored : Nat := 0
  bad : Nat := 0
  conn : Bool := false               -- an NTRIP connection is up (R269, R271)
  ggaAt : Option Nat := none         -- elapsed time at which a GGA sentence was last sent
  rx : List Nat := []                -- bytes of the ISO 15765-2 message being received
  rxLeft : Nat := 0                  -- its bytes still to come
  rxNext : Nat := 0                  -- sequence number of its next frame
  stream : List Nat := []            -- bytes received and not yet taken as a frame
  frames : List (List Nat) := []     -- RTCM 3 frames waiting, oldest first
deriving DecidableEq, Repr

/-- The solution last published (07 Table 7.9); `at_` is the harvest time of its publication. -/
structure PvtS where
  epoch : Int
  at_ : Int
  lat : Int                          -- nanodegrees
  lon : Int
  hgt : Nat
  vel : List Nat                     -- north, east, up: singles
  heading : Nat
  bpitch : Nat
  soln : Nat
  headq : Nat
  nsv : Nat
  corsrc : Nat
  sig : List Nat                     -- SIG_H, SIG_V, SIG_HDG
  age : Nat
  station : Nat
deriving DecidableEq, Repr

/-- The retention record (07 R275): the harvest time of its ephemerides and of its almanac. -/
structure RetainS where
  at_ : Int
  ephAt : Option Int := none
  almAt : Option Int := none
  lat : Int := 0
  lon : Int := 0
  vel : List Nat := []
  baseline : Nat := 0
  tcoh : List (Nat × Nat) := []      -- per signal
  utc : Option (Int × Nat) := none
  drift : Int := 0                   -- receiver clock drift, ns per s
  nav : List ((Nat × Nat × Nat) × Int × List Nat) := []  -- ephemerides, almanacs, ionosphere: as GnssS.nav
  hot : Bool := false                -- written by a refresh that a wake ended (07 R277)
deriving DecidableEq, Repr

/-- The baseband (07). -/
structure GnssS where
  on : Bool := false                 -- it runs
  t0 : Nat := 0                      -- wake or power-on, elapsed
  begun : Nat := 0                   -- elapsed time at which it started
  fixed1 : Bool := false             -- its first fix has been logged
  ch : List (Nat × ChanS) := []
  ant : List (Nat × AntS) := []
  cor : List (Nat × CorS) := []
  amb : Bool := false                -- ambiguities held
  fixed : Bool := false              -- validated
  headFixed : Bool := false          -- the baseline ambiguities are validated (R267)
  toff : Option Int := none          -- harvest time minus GPS time, ns, of the last epoch that had one
  toffAt : Int := 0                  -- its epoch
  drift : Int := 0                   -- receiver clock drift, ns per s
  nav : List ((Nat × Nat × Nat) × Int × List Nat) := []
    -- decoded data: kind (1 ephemerides, 2 almanac, 3 ionosphere), system, satellite -> harvest time, bits
  measAt : Option (Int × Nat) := none  -- the last epoch measured and the steps made before it
  solAt : Option (Int × Nat) := none   -- the last epoch solved
  retainAt : Nat := 0                -- elapsed time of the last retention record since the start
  pvt : Option PvtS := none
  retain : Option RetainS := none    -- in the retention RAM
  ephAt : Option Int := none         -- harvest time of the newest ephemerides
  almAt : Option Int := none
  utcGps : Bool := false             -- UTC parameters from GPS decoded since start
  steps : Nat := 0                   -- steps of harvest time at the previous epoch
  baseline : Nat := 0                -- baseline last measured, mm
  tcoh : List (Nat × Nat) := []      -- coherent interval learnt per signal
  sleepRefresh : Bool := false       -- REFRESH and EN as they stood at SLEEP entry
  refreshFrom : Nat := 0             -- elapsed time from which the 4 h count
  refresh : Option Nat := none       -- elapsed time at which the refresh in progress began
  refreshFix : Bool := false         -- it has reached a fix
deriving DecidableEq, Repr

/-! ### Chapter 08 -/

/-- A navigation state of the history (08 R285, R309): the reference point in the line's plane in metres,
the heading in degrees, NAVQ, the solution, the reference point and the cut line centre in nanodegrees and how far
the latter moved since the step before, m. -/
structure NavS where
  t : Int
  e : Rat
  n : Rat
  hdg : Rat
  navq : Nat
  soln : Nat
  rlat : Int
  rlon : Int
  lat : Int
  lon : Int
  moved : Rat
deriving DecidableEq, Repr

/-- A headland turn in progress (08 R295): where and in which direction it began, its side, the distance
between the passes, the pass it leads to and its present arc or straight. -/
structure TurnS where
  e : Rat
  n : Rat
  hdg : Rat
  right : Bool
  dist : Rat
  target : Int
  leg : Nat := 0
deriving DecidableEq, Repr

/-- Guidance (08 R281 to R309). -/
structure GuideS where
  lines : List LineIn := []          -- the line store
  nav : Option NavS := none          -- the latest navigation state
  pvtSeen : Option Int := none       -- epoch of the GN.PVT last taken
  srcAt : Option Int := none         -- harvest time at which heading source 1 or 2 last held
  good : Nat := 0                    -- consecutive good epochs (R303)
  newLine : Bool := false            -- a line has been selected since the last step
  lost : Bool := false               -- GNSS has been lost and has not returned
  travel : Rat := 0                  -- DR_TRAVEL, m
  xte : Rat := 0                     -- on the active pass or turn path
  herr : Rat := 0                    -- degrees
  cmd : Nat := 0                     -- index 0 last computed, a single
  back : Bool := false               -- travel along the pass is against its points' order
  turn : Option TurnS := none
  turnReq : Option (Bool × Int) := none  -- accepted turn: to the right, target pass
  lastRight : Option Bool := none    -- side of the last turn
  noEdge : Rat := 0                  -- travel since an edge was last seen, m
  hist : List NavS := []             -- the navigation history, oldest first
deriving DecidableEq, Repr

/-- A yield cell that is open (08 R313, R315): masses before CAL, flags of Table 8.9. -/
structure CellS where
  sec : Int
  raw : Rat := 0                     -- kg at STD_MOIST, CAL taken as 1
  wet : Rat := 0
  wetMoist : Rat := 0
  defdelay : Bool := false
  moistDef : Bool := false
  spill : Bool := false
  flowgap : Bool := false
deriving DecidableEq, Repr

/-- A closed cell as NAND holds it (08 Table 8.9). -/
structure CellRec where
  sec : Int
  lat : Int
  lon : Int
  width : Nat
  dist : Nat
  mass : Nat
  moist : Nat
  yield : Nat
  flags : Nat
  posq : Nat
  load : Nat
deriving DecidableEq, Repr

/-- Yield mapping (08 R310 to R319). -/
structure YieldS where
  lastT : Option Int := none         -- stamp of the last flow sample
  moist : List (Int × Nat) := []     -- moisture samples, newest first
  moistAt : Option Nat := none       -- elapsed time of the last one's arrival
  recs : List (Int × Nat × Nat) := []  -- output records, oldest first: instant, STEPNO, TRANSPORT
  widths : List (Int × Nat × Nat) := []  -- STEREO outputs: stamp, active width, centre offset
  open_ : List CellS := []           -- oldest first
  closed : Option Int := none        -- the last second closed
  cells : List CellRec := []         -- NAND
  loads : List (Nat × Rat) := []     -- NAND: load -> raw mass
  tickets : List (Rat × Rat) := []   -- NAND: raw mass and ticket mass, newest first
  calNand : Option (Nat × List Nat) := none  -- NAND: CAL and the YM records it rests on
deriving DecidableEq, Repr

/-! ### Chapter 09 -/

/-- A frame in flight (09 R331, R334, R340): its units in all, ready and done, the settings it was taken
with, and the crops it took when its first unit started. -/
structure CamFrame where
  fno : Nat
  stamp : Int
  trig : Int
  total : Nat
  ready : Nat := 0
  done : Nat := 0
  exp : Nat
  gain : Nat
  readyAt : List Nat := []           -- elapsed times at which the units waiting became ready, oldest first
  crops : List (List Nat) := []
  quiet : Bool := false              -- no vision output (R338)
  susp : Bool := false               -- streams 2 and 3 suspended, by the level at its start (R337, R352)
  startAt : Nat := 0                 -- elapsed time of its frame start
  raw : List (List Nat) := []        -- CAMRAW: its lines
  bad : List Nat := []               -- the lines found in error
  tap : List (List (List Rat)) := [] -- its lines at the statistics tap, as far as they are processed
  pic : List (List (List Rat)) := [] -- its lines after tone mapping
deriving DecidableEq, Repr

/-- A complete TENSOR stream waiting for its network (09 R347 to R349). -/
structure TensorS where
  trig : Int
  stamp : Int
  fno : Nat
  at_ : Nat                          -- elapsed time at which it was complete
  pic : List Nat := []               -- ISPOUT: its bytes
deriving DecidableEq, Repr

/-- A camera's own state (09 R322 to R352). -/
structure CamS where
  locked : Bool := false             -- the link has lock
  fno : Nat := 0                     -- number of the last trigger, or of a free-running camera's last frame
  last : Nat := 0                    -- number of the frame now being received
  trig : List (Int × Nat × Nat) := []  -- triggers whose frame is awaited: instant, elapsed, number; oldest first
  misses : Nat := 0
  gone : List Int := []              -- triggers of a pair's frames dropped or missed, oldest first (R349)
  frames : List CamFrame := []       -- oldest first
  odd : Bool := false                -- half rate: the next frame is dropped
  settle : Nat := 0                  -- frames still without vision output
  base : Nat × Nat := (0, 0)         -- settings before those in flight
  flight : List (Nat × Nat × Nat) := []  -- write frame, exposure, gain; oldest first
  prop : Option (Nat × Nat) := none  -- proposed and not yet written
  off : Bool := false                -- link power off (18 R592)
  tensor : List TensorS := []        -- oldest first
  snap : List (Nat × Int × Nat × List Nat × List Nat) := []  -- stream -> newest complete frame: stamp, FNO, crop, bytes
  startAt : Nat := 0                 -- elapsed time of the last frame start
  tryAt : Option Nat := none         -- elapsed time of the loss of lock or of the last training attempt (R325)
  cropLog : List (Int × List (List Nat)) := []  -- crops before each write, with the last trigger instant they hold for
  started : Option Int := none       -- trigger instant of the last frame whose first unit started
  zones : List Nat := []             -- zone averages of the previous processed frame, channel by channel
  processed : List Nat := []         -- elapsed times of the frames processed in the last 1 s
deriving DecidableEq, Repr

/-- A camera's ISP stage parameters (09 R333; 14 Table 14.7). -/
structure IspPar where
  points : List (Nat × List Nat × Nat) := []  -- gain points: gain, black level of each channel, defect threshold
  grey : Bool := false               -- grey-world white balance
  lsc : List Nat := []               -- 17 x 13 gains of each channel, in units of 1/4096
  wb : Nat × Nat := (0, 0)           -- R and B gains, singles
  ccm : List Nat := []               -- 3 x 3 matrix row by row, then 3 offsets, singles
  tone : List Nat := []              -- 257-point luminance curve
  out : List Nat := []               -- 257-point output curve
  defects : List (Nat × Nat) := []   -- static map: x, y
deriving DecidableEq, Repr

/-- An ISP core (09 R335, R342). -/
structure CoreS where
  due : Nat := 0                     -- elapsed time at which the unit in process is done
  cur : Option (Nat × Nat) := none   -- camera and FNO in process
  since : Nat := 0
  last : Option Nat := none          -- the camera last processed, as a requester
  busy : List (Nat × Nat) := []      -- busy intervals of the last 1 s, elapsed
  switches : List Nat := []          -- elapsed times of the context switches of the last 1 s
deriving DecidableEq, Repr

/-- A vision record (09 Table 9.8). -/
structure VisRec where
  stamp : Int
  fno : Nat
  cam : Nat
  values : List Nat
deriving DecidableEq, Repr

/-- Cameras, ISP cores and vision networks. -/
structure CamerasS where
  cam : List (Nat × CamS) := []
  core : List (Nat × CoreS) := []
  arb : ArbS := { table := List.replicate 256 255 }
  vis : List (Nat × VisRec) := []    -- the last record of each network
  par : List (Nat × IspPar) := []    -- camera -> stage parameters of its ISPPAR record
  script : List (Nat × List Nat) := []  -- camera -> start-up register script of its CAMSCRIPT record
deriving DecidableEq, Repr

end Sys2Proof.Machine
end

