-- ==== Sys2Proof/Machine/State.lean ====
section
/-! DEFINITION. The machine's state, the reasons a step can stop, and the state after reset. -/

namespace Sys2Proof.Machine

/-- The DRAM slot table of 02 Table 2.10: the owned slots in requester order, then the unowned ones
(log entry 18; 10 names no owner). -/
def defaultSlots : List Nat :=
  [(0, 16), (1, 24), (2, 24), (3, 112), (4, 8), (5, 4), (6, 4), (7, 16), (8, 4), (9, 12), (10, 32)].flatMap
    (fun p => List.replicate p.2 p.1)

/-- Everything the manual gives the module. Register fields (571 names, thousands of instances) live in
`reg`, one key per field (Machine/Regs.lean); a key without an entry reads its reset value
(Machine/FieldMap.lean). What the manual describes beside its registers has a record of its own. -/
structure State where
  pending : List Instr := []             -- the commands waiting, first in, first out
  now : Nat := 0                         -- elapsed time, ns (log entry 1)
  free : Nat := 0                        -- the model's own counter of free values (log entry 7)
  reg : List (Nat × Nat) := []           -- register fields (00 R12)
  mem : List Host.Cell := []             -- bytes of the memories of 02 Table 2.7
  answers : List Answer := []            -- what the last command sent out
  canary : CanaryS := {}
  isl : List (Nat × IslS) := []
  board : List (Nat × BoardS) := []
  mirror : MirrorS := {}
  prot : ProtS := {}
  ecc : EccS := {}
  arb : ArbS := { table := defaultSlots }
  tb : TimeS := {}
  whistle : List (Nat × WhistleS) := []
  ln : LaunchS := {}
  vd : ValvesS := {}
  ls : WalkS := {}
  fn : List (Nat × FnS) := []
  opt : OptS := {}
  eng : EnginesS := {}
  lk : LinksS := {}
  ui : List (Nat × UiS) := []
  imu : ImuS := {}
  ego : Option EgoS := none              -- OBS.EGO (04 Table 4.7)
  out : Option OutS := none              -- OBS.OUT (04 Table 4.6)
  obs : ObsS := {}
  ses : SessionsS := {}
  role : RoleS := {}
  amend : List AmendS := []              -- the amendment list (14 R486)
  bb : BlackBoxS := {}
  pc : PostcardS := {}
  pwr : PowerS := {}
  md : ModeS := {}
  rst : RstS := {}
  hmp : HamperS := {}
  upd : UpdateS := {}
  fl : FleetS := {}
  gn : GnssS := {}
  gd : GuideS := {}
  ym : YieldS := {}
  cams : CamerasS := {}
deriving DecidableEq, Repr

/-- The module right after a Full reset is asserted: every field at its reset value, RST.STAT naming the power-on
reset, the queue empty, no key fitted, nothing to cross to an island before its resynchronisation (01 R39; log entry 12). -/
def State.reset : State :=
  { reg := [(R.RST_STAT_SCOPE, 3), (R.RST_STAT_PLANE, 3)],
    isl := (List.range 9).map (fun i => (i + 1, { needSync := true })) }

/-- The reasons a step stops with a fault. -/
inductive Fault where
  /-- Raised by MASTER_ACCESS at an offset outside the region it names: 02 Tables 2.7 and 2.8 give the
  region no such address. Safe: the hardware's behaviour there is not stated. -/
  | noSuchAddress (region offset : Nat)
deriving DecidableEq, Repr

/-- The reasons a step refuses a command. -/
inductive Refusal where
  /-- A command whose meaning is not written yet. Safe. -/
  | notModelled (mnemonic : String)
deriving DecidableEq, Repr

end Sys2Proof.Machine
end

