-- ==== Sys2Proof/Machine/Ops.lean ====
section
/-! DEFINITION. The named operations every meaning is built from: register fields, elapsed and harvest
time, memory bytes, events on their way through the status mirror, black box records, answers. -/

namespace Sys2Proof.Machine

/-! ### Register fields -/

/-- The field map entry of a key: block by object index, field by sub-index (13 R458). -/
def fieldOf (key : Nat) : Option FieldDesc :=
  let idx := key / 256
  let sub := key % 256
  if sub = 0 then none
  else match blocks.find? (fun b => b.first ≤ idx && idx ≤ b.last) with
    | none => none
    | some b => b.fields[sub - 1]?

/-- A value lies in a field's width and in what its map admits (00 R13). -/
def FieldDesc.admits (d : FieldDesc) (v : Nat) : Bool :=
  v < 2 ^ d.width && (d.ranges.isEmpty || d.ranges.any (fun r => r.1 ≤ v && v ≤ r.2))

/-- Reset values that differ from instance to instance: the DRAM requesters of 02 Table 2.10, the
session classes of 13 Table 13.11, the two classes of load switches (11 Table 11.2), generators that no
function owns (03 R130), the firmware slot the module leaves the factory with (log entry 11) and the CAN
channels of 12 R412. -/
def instReset (key : Nat) : Option Nat :=
  let idx := key / 256
  let sub := key % 256
  if 0x1020 ≤ idx ∧ idx ≤ 0x1029 then
    let n := idx - 0x1020
    if sub = 1 then [8, 16, 16, 32, 16, 32, 64, 32, 64, 64][n]?
    else if sub = 2 then [14, 12, 12, 10, 13, 11, 4, 8, 6, 5][n]?
    else if sub = 5 then [16, 24, 24, 112, 8, 4, 4, 16, 4, 12][n]?
    else none
  else if 0x9E30 ≤ idx ∧ idx ≤ 0x9E34 then
    let n := idx - 0x9E30
    if sub = 1 then [8, 4, 16, 2, 2][n]?
    else if sub = 2 then [128, 16, 64, 4, 8][n]?
    else none
  else if 0x8009 ≤ idx ∧ idx ≤ 0x8018 then
    if sub = 5 then some 75 else if sub = 6 then some 800 else if sub = 7 then some 20
    else if sub = 16 then some 800 else none
  else if 0x8001 ≤ idx ∧ idx ≤ 0x8008 then
    if sub = 16 then some 2000 else none
  else if 0x2100 ≤ idx ∧ idx ≤ 0x22FF then
    if sub = 4 then some 255 else none
  else if idx = 0xA101 then
    if sub = 2 then some 2 else none
  else if idx = 0x9001 then
    if sub = 1 then some 1 else if sub = 2 then some 1 else none
  else if idx = 0x9002 then
    if sub = 1 then some 2 else if sub = 2 then some 1 else none
  else none

/-- The value a field holds before anything wrote it (R12). -/
def resetOf (key : Nat) : Nat :=
  match instReset key with
  | some v => v
  | none => match fieldOf key with
    | some d => d.reset
    | none => 0

/-- The value of a register field. -/
def State.rd (s : State) (key : Nat) : Nat := (look s.reg key).getD (resetOf key)

/-- A register field written. -/
def State.wr (s : State) (key v : Nat) : State := { s with reg := ins s.reg key v }

/-- Several register fields written, in order. -/
def State.wrs (s : State) (l : List (Nat × Nat)) : State :=
  { s with reg := l.foldl (fun r e => ins r e.1 e.2) s.reg }

/-- A counter field increased by one, stopping at `m`. -/
def State.bump (s : State) (key m : Nat) : State := s.wr key (satInc m (s.rd key))

/-- A field raised to `v` when `v` is larger (the "highest since start" fields). -/
def State.raise (s : State) (key v : Nat) : State := if s.rd key < v then s.wr key v else s

/-- Every field that `p` names back at its reset value. -/
def State.clearRegs (s : State) (p : Nat → Bool) : State := { s with reg := dropKeys s.reg p }

/-- Whether a one-bit field is set. -/
def State.flag (s : State) (key : Nat) : Bool := s.rd key = 1

/-- A single-precision field as a rational. -/
def State.rdF (s : State) (key : Nat) : Rat := f32 (s.rd key)

/-! ### Time -/

/-- The command takes place at elapsed time `t`, which never runs back, and nothing has been answered
yet (log entry 1). -/
def State.begin (s : State) (t : Nat) : State := { s with now := max s.now t, answers := [] }

/-- Harvest time at elapsed time `el` (03 R94, R105): the anchor plus the time since it, faster or slower by 5 ppm
until the whole error is removed. -/
def TimeS.harvestAt (tb : TimeS) (el : Nat) : Int :=
  let d := el - tb.anchorEl
  tb.anchorHt + (d : Int) + tb.slewDir * ((min (d / 200000) tb.slewErr : Nat) : Int)

/-- The change of rate has removed its whole error at elapsed time `el`: the error divided by 5 ppm (03 R105). -/
def TimeS.slewOver (tb : TimeS) (el : Nat) : Bool := tb.anchorEl + 200000 * tb.slewErr ≤ el

/-- Harvest time now (03 R96). -/
def State.harvest (s : State) : Int := s.tb.harvestAt s.now

/-! ### Answers -/

/-- A worker (14 Table 14.4, ROLE). -/
def State.isWorker (s : State) : Bool := s.role.role = 1

/-- The traffic class of a trunk frame (12 Table 12.11), by its code (log entry 28); a kind of frame the table does not
name is of class 2 (log entry 130). -/
def trunkClass (code : Nat) : Nat :=
  if [0x00, 0x20, 0x40, 0x41, 0x42, 0x43, 0x47, 0x49].contains code then 0
  else if [0x45, 0x46, 0x52, 0x54, 0x60].contains code then 1
  else if [0x30, 0x55, 0xA010].contains code then 3
  else 2

/-- A frame put among those that leave: on a trunk port strictly by class, lowest number first, and within a class in
order (12 R436); anywhere else in order. -/
def sendFrame (l : List Answer) (a : Answer) : List Answer :=
  match a.dest with
  | .trunk p =>
    let first := l.takeWhile (fun x => !(x.dest = .trunk p && trunkClass a.code < trunkClass x.code))
    first ++ a :: l.drop first.length
  | _ => l ++ [a]

/-- One answer or frame sent. -/
def State.answer (s : State) (dest : Dest) (code : Nat) (data : List Int := []) : State :=
  { s with answers := sendFrame s.answers { dest, code, data } }

/-! ### Free values -/

/-- The next free value of `w` bits, and the state that has used it (log entry 7). -/
def State.fresh (s : State) (w : Nat) : Nat × State :=
  (Config.freeValue s.free % 2 ^ w, { s with free := s.free + 1 })

/-! ### Memory -/

/-- Bytes of a region: the rows of 02 Table 2.5 in order, its SRAM and DRAM regions one by one. The DRAM
regions are sized in granules of 64 MiB, SPARE taking the rest of 256 (R80). -/
def State.regionSize (s : State) : Nat → Nat
  | 0 => 6291456          -- SRAM control partition, 6 MiB
  | 1 => 41943040         -- SRAM tensor fabric, 40 MiB
  | 2 => 6291456          -- SRAM camera line buffers
  | 3 => 4194304          -- SRAM GNSS
  | 4 => 4194304          -- SRAM network buffers
  | 5 => 4194304          -- SRAM management
  | 6 => 48               -- setpoint board, entries
  | 7 => 64               -- mode gate, requests
  | 8 => 65536            -- status mirror, objects
  | 9 => 67108864 * s.prot.dram.getD 5 0   -- DRAM CTRL
  | 10 => 67108864 * s.prot.dram.getD 0 0   -- DRAM CAMRAW
  | 11 => 67108864 * s.prot.dram.getD 1 0   -- DRAM ISPOUT
  | 12 => 67108864 * s.prot.dram.getD 2 0   -- DRAM TENSOR
  | 13 => 67108864 * s.prot.dram.getD 3 0   -- DRAM GNSS
  | 14 => 67108864 * s.prot.dram.getD 4 0   -- DRAM GUIDE
  | 15 => 67108864 * s.prot.dram.getD 6 0   -- DRAM NET
  | 16 => 67108864 * s.prot.dram.getD 7 0   -- DRAM MGMT
  | 17 => 67108864 * (256 - sumNat s.prot.dram)   -- DRAM SPARE
  | 18 => 16777216        -- MRAM, 16 MiB
  | 19 => 1073741824      -- NAND, 1 GiB
  | 20 => 524288          -- retention RAM, 512 KiB
  | 21 => 4096            -- protection table
  | _ => 0

/-- The key of a byte: its region and its offset in the region. -/
def cellKey (region offset : Nat) : Nat := region * 2 ^ 40 + offset

/-- What a byte nothing has written reads as (log entry 10). -/
def unwritten : Byte := 0

/-- One byte read. -/
def memRead : List Host.Cell → Nat → Byte
  | [], _ => unwritten
  | (a', b) :: t, a => if a' = a then b else memRead t a

/-- One byte written, the cells kept in rising order with no unwritten value listed. -/
def memWrite : List Host.Cell → Nat → Byte → List Host.Cell
  | [], a, b => if b = unwritten then [] else [(a, b)]
  | (a', b') :: t, a, b =>
    if a < a' then (if b = unwritten then (a', b') :: t else (a, b) :: (a', b') :: t)
    else if a' = a then (if b = unwritten then t else (a, b) :: t)
    else (a', b') :: memWrite t a b

/-- The canonical form of the memory: rising addresses, no entry equal to the unwritten value. -/
abbrev Memory.wf (m : List Host.Cell) : Prop :=
  List.Pairwise (fun x y => x.1 < y.1) m ∧ ∀ c ∈ m, c.2 ≠ unwritten

/-! ### Black box records on their way (16 R535) -/

/-- The bytes of one payload value: the least of one, two, four and eight that hold it, little-endian (00 R11). The
manual names the values of each code's payload and gives them no sizes (log entry 108). -/
def valueBytes (v : Int) : List Nat :=
  let n := if 0 ≤ v ∧ v < 2 ^ 8 then 1 else if -2 ^ 15 ≤ v ∧ v < 2 ^ 16 then 2
           else if -2 ^ 31 ≤ v ∧ v < 2 ^ 32 then 4 else 8
  leBytes n (ofSigned (8 * n) v)

/-- The payload bytes an event record carries, at most 22 (02 R71). -/
def Event.used (e : Event) : List Nat := (e.payload.flatMap valueBytes).take 22

/-- The 40 bytes of an event record (02 Table 2.3), which session messages and black box records carry alike. -/
def Event.record (e : Event) : List Nat :=
  leBytes 8 (ofSigned 64 e.stamp) ++ leBytes 4 e.seq ++ leBytes 2 e.code ++
    [e.island % 256, bit01 e.late + 2 * bit01 e.escalated, e.unit % 256, e.used.length] ++ e.used ++
    List.replicate (22 - e.used.length) 0

/-- Operating time now, in 10 ms units (16 R532). -/
def State.hours (s : State) : Nat :=
  s.bb.hoursBase + match s.bb.opSince with
    | some o => (s.now - o) / 10000000
    | none => 0

/-- A record put into the black box queue, or dropped and counted when the queue is full. -/
def State.bbPush (s : State) (it : BbItem) : State :=
  if s.bb.queue.length < 1024 then { s with bb := { s.bb with queue := s.bb.queue ++ [it] } }
  else { s with bb := { s.bb with dropped := s.bb.dropped + 1 } }.bump R.BB_STAT_LOST 0xFFFF

/-! ### The event stream (02 R62 to R73, R594) -/

/-- Bytes of an output queue item: the 16-byte header and its payload (13 Table 13.2, 02 R71). -/
def QItem.bytes : QItem → Nat
  | .event _ => 56
  | .eventsLost _ _ => 56
  | .record _ _ n _ => 16 + n

/-- Bytes waiting in an output queue. -/
def queueBytes (q : List QItem) : Nat := q.foldl (fun n i => n + i.bytes) 0

/-- An event added to a session's output queue of 256 KiB; one that does not fit is counted in an
EVENTS_LOST marker that stands in the place of the first lost event (R68). The marker has an event record's
size and a place of its own beside the 256 KiB (log entry 109). -/
def pushEvent (session : Nat) (q : List QItem) (e : Event) : List QItem :=
  if queueBytes q + 56 ≤ 262144 then q ++ [.event e]
  else match q.getLast? with
    | some (.eventsLost n _) => q.dropLast ++ [.eventsLost (n + 1) session]
    | _ => q ++ [.eventsLost 1 session]

/-- A stream record added to a session's output queue, or dropped when it does not fit; the next one of
the stream that is delivered carries LOST (13 R461). -/
def pushRecord (ss : SessionS) (stream bytes : Nat) (data : List Int) : SessionS :=
  if queueBytes ss.outq + 16 + bytes ≤ 262144 then
    let lost := ss.lostStreams.contains stream
    let data := if lost && 0x100 ≤ stream then data.set 2 (data.getD 2 0 + 32) else data
    { ss with outq := ss.outq ++ [.record stream lost bytes data],
              lostStreams := ss.lostStreams.filter (· ≠ stream) }
  else { ss with lostStreams := if ss.lostStreams.contains stream then ss.lostStreams
                                else stream :: ss.lostStreams }

/-- A floor time at the present pace, ns (01 R18, R19). -/
def State.paced (s : State) (ns : Nat) : Nat :=
  let p := s.rd R.CORE_PACE
  if p = 0 then ns else ns * 4096 / p

/-- A stream record offered to a session: one in every N as its subscription states (09 R346). -/
def offerRecord (ss : SessionS) (stream bytes : Nat) (data : List Int) : SessionS :=
  match look ss.every stream with
  | some (n, left) =>
    if left = 0 then pushRecord { ss with every := ins ss.every stream (n, n - 1) } stream bytes data
    else { ss with every := ins ss.every stream (n, left - 1) }
  | none => pushRecord ss stream bytes data

/-- A stream record published to every session that subscribes to the stream. -/
def State.publish (s : State) (stream bytes : Nat) (data : List Int) : State :=
  { s with ses := { s.ses with open_ := s.ses.open_.map (fun (p : Nat × SessionS) =>
      (p.1, if p.2.streams.contains stream then offerRecord p.2 stream bytes data else p.2)) } }

/-- The area of a code is one of those AREAMASK holds for display (16 R544, Table 16.4). -/
def State.areaHeld (s : State) (code : Nat) : Bool :=
  bitOf (s.rd R.PC_CFG_AREAMASK) (code / 4096 - 1)

/-- What a released FAULT event does beside its record: it is held for the Postcard, by a manager whatever unit it is
of (16 R544). -/
def State.noteFault (s : State) (e : Event) : State :=
  if e.fault && s.areaHeld e.code && (s.role.role = 0 || e.unit = s.role.unit) then
    s.wrs [(R.PC_STAT_HELD, 1), (R.PC_STAT_HUNIT, e.unit), (R.PC_STAT_HCODE, e.code)]
  else s

/-- A FAULT record's code is counted since the start, up to 126, and active as a trouble code (16 R541). -/
def State.dtcOn (s : State) (e : Event) : State :=
  { s with bb := { s.bb with
      faultCounts := ins s.bb.faultCounts e.code (satInc 126 ((look s.bb.faultCounts e.code).getD 0)),
      dtc := if s.bb.dtc.contains (e.code, e.payload) then s.bb.dtc else s.bb.dtc ++ [(e.code, e.payload)] } }

/-- What raised the codes that `p` names has been restarted, cleared or removed: they are active no more (16 R541). -/
def State.dtcOff (s : State) (p : Nat → List Int → Bool) : State :=
  { s with bb := { s.bb with dtc := s.bb.dtc.filter (fun (d : Nat × List Int) => !p d.1 d.2) } }

/-- The bytes of the ATRES record as CE.Lnnn.ATRES holds it, field by field (06 Table 6.9). -/
def atBytes (a : List Int) : List Nat :=
  (a.zip [8, 1, 1, 2, 4, 4, 4, 4, 4, 4, 4, 4]).flatMap (fun (p : Int × Nat) => leBytes p.2 (ofSigned (8 * p.2) p.1))

/-- The ATRES record a CE_AT_DONE or CE_AT_ABORT event is followed by (06 R240, 16 R530). -/
def State.bbAtres (s : State) (e : Event) : State :=
  let l := (e.payload.headD 0).toNat
  match (look s.eng.loops l).bind (fun v => v.atres) with
  | some a => s.bbPush { typ := 5, payload := leBytes 2 l ++ leBytes 2 0 ++ atBytes a }
  | none => s

/-- An EVENT record goes to the black box for every event the unit stamped itself, TB_EVT and TB_MARK
only while MARKS is set (16 R530). -/
def State.bbEvent (s : State) (e : Event) : State :=
  if e.unit = s.role.unit && (!(e.code = 0x2010 || e.code = 0x2011) || s.flag R.BB_CFG_MARKS) then
    let s := s.bbPush { typ := 1, fault := e.fault, payload := e.record }
    let s := if e.fault then s.dtcOn e else s
    if e.code = 0x4021 ∨ e.code = 0x4022 then s.bbAtres e else s
  else s

/-- An event released into the stream with the next sequence number (R65 to R68). -/
def State.release (s : State) (e : Event) (late : Bool) : State :=
  let e := { e with seq := s.mirror.nextSeq, late := late }
  let s := { s with mirror := { s.mirror with nextSeq := (s.mirror.nextSeq + 1) % 2 ^ 32 } }
  let s := if late then s.bump R.MIRROR_STAT_LATE 0xFFFF else s
  let s := { s with ses := { s.ses with open_ := s.ses.open_.map (fun (p : Nat × SessionS) =>
      (p.1, if p.2.events then { p.2 with outq := pushEvent p.2.num p.2.outq e } else p.2)) } }
  (s.bbEvent e).noteFault e

/-- Island precedence of Table 2.2: power stage, timebase, CAN, network, camera, GNSS, radio, DRAM,
always-on. -/
def islandRank (i : Nat) : Nat := [9, 8, 1, 5, 4, 3, 2, 7, 0, 6].getD i 9

/-- The order keys of Table 2.2, compared key by key. -/
def keyBefore (a b : Event) : Bool :=
  a.stamp < b.stamp || (a.stamp = b.stamp && (islandRank a.island < islandRank b.island ||
    (islandRank a.island = islandRank b.island && (a.unit < b.unit ||
      (a.unit = b.unit && a.arrival < b.arrival)))))

/-- An event no other event of its unit with fewer steps stands before (R594). -/
def stepsFirst (l : List Event) (e : Event) : Bool :=
  l.all (fun x => !(x.unit = e.unit && x.steps < e.steps))

/-- The event of a list that is released first (R65, R594). -/
def firstEvent (l : List Event) : Option Event :=
  (l.filter (stepsFirst l)).foldl (fun m e => match m with
    | none => some e
    | some x => if keyBefore e x then some e else some x) none

/-- The event with the earliest stamp (R73). -/
def earliest (l : List Event) : Option Event :=
  l.foldl (fun m e => match m with
    | none => some e
    | some x => if keyBefore e x then some e else some x) none

/-- The reorder window without one event. -/
def windowWithout (l : List Event) (e : Event) : List Event :=
  l.filter (fun x => !(x.arrival = e.arrival))

/-- An event takes its place in the reorder window of 4,096; a full window first releases its earliest
event with LATE (R73). DEPTH_MAX is kept in sixteenths, rounded up (Table 2.4). -/
def State.hold (s : State) (e : Event) : State :=
  let s :=
    if s.mirror.window.length < 4096 then s
    else match earliest s.mirror.window with
      | some x => { s with mirror := { s.mirror with window := windowWithout s.mirror.window x } }.release x true
      | none => s
  if s.mirror.window.length < 4096 then
    let s := { s with mirror := { s.mirror with window := s.mirror.window ++ [e] } }
    s.raise R.MIRROR_STAT_DEPTH_MAX (min 255 ((s.mirror.window.length + 15) / 16))
  else s.bump R.MIRROR_STAT_LOST 255

/-- An event reaches the mirror: held until it is due, or released at once with LATE when it comes more
than 50 µs after the instant its stamp records (R65, R66, R594). -/
def State.arrive (s : State) (e : Event) : State :=
  let e := { e with arrival := s.mirror.arrivals }
  let s := { s with mirror := { s.mirror with arrivals := s.mirror.arrivals + 1 } }
  if e.due < s.now then s.release e true else s.hold e

/-- Codes whose event always carries FAULT (16 R540). -/
def alwaysFault (code : Nat) : Bool :=
  [0x1004, 0x1012, 0x1031, 0xA003, 0xC010].contains code

/-- An event this unit stamped passes to its mirror; a worker sends it to the manager too (R69). -/
def State.ownEvent (s : State) (e : Event) : State :=
  (if s.isWorker then s.answer (.trunk 0) 0x60 (e.record.map Int.ofNat) else s).arrive e

/-- An event of this unit, stamped now (R63, R65), with the stamp of the input that caused it where an action has
one of its own (R70). A worker's goes to its manager too (R64, R69). -/
def State.log (s : State) (code : Nat) (payload : List Int := []) (island : Nat := 2)
    (esc : Bool := false) (fault : Bool := false) (input : Option Int := none) : State :=
  let e : Event :=
    { stamp := s.harvest, code, island, escalated := esc, fault := fault || alwaysFault code, unit := s.role.unit,
      payload, steps := s.tb.steps, due := s.now + 50000, input := input.getD s.harvest }
  s.ownEvent e

/-- Whether the hold-off of 16 R595 lets an occurrence of a code in a scope be logged. -/
def State.mayLog (s : State) (code scope period : Nat) : Bool :=
  match look s.mirror.holdoffs (code * 2 ^ 40 + scope) with
  | none => true
  | some t => t + period ≤ s.now

/-- An event logged at most once per scope per period (16 R595). -/
def State.logOnce (s : State) (code scope period : Nat) (payload : List Int := [])
    (island : Nat := 2) (fault : Bool := false) : State :=
  if s.mayLog code scope period then
    { s with mirror := { s.mirror with
        holdoffs := ins s.mirror.holdoffs (code * 2 ^ 40 + scope) s.now } }.log
      code payload island false fault
  else s

/-! ### Roles and modes -/

/-- The modes of 15 Table 15.7. -/
abbrev Mode.OFF : Nat := 0
abbrev Mode.SLEEP : Nat := 1
abbrev Mode.TRAILHEAD : Nat := 2
abbrev Mode.CONFIG : Nat := 3
abbrev Mode.ROAD : Nat := 4
abbrev Mode.FIELD_IDLE : Nat := 5
abbrev Mode.HARVEST : Nat := 6
abbrev Mode.WALK_HOME : Nat := 7
abbrev Mode.SERVICE : Nat := 8
abbrev Mode.TEST : Nat := 10
abbrev Mode.UPDATE : Nat := 9
abbrev Mode.SAFE_STOP : Nat := 11

/-- The mode the unit is in (15 R505). -/
def State.mode (s : State) : Nat := s.rd R.MODE_STAT_MODE

/-- The answer to the session that asked, while it is open; the module itself gets none, and a session
that has ended gets none either (13 R456). -/
def State.reply (s : State) (session code : Nat) (data : List Int := []) : State :=
  if session = 0 then s
  else if s.ses.open_.any (fun p => p.2.num = session) then s.answer (.session session) code data
  else s

end Sys2Proof.Machine
end

