-- ==== Sys2Proof/Machine/PanelOps.lean ====
section
/-! DEFINITION. The Postcard panel's drive (16 R545 to R547): requests, temperature bands, and where an update stands. -/

namespace Sys2Proof.Machine

/-- The temperature band of the panel (Table 16.7); 7 outside its range. -/
def panelBand (t : Int) : Nat :=
  if t < -40 ∨ 85 < t then 7 else if t < -20 then 0 else if t < 0 then 1 else if t < 20 then 2
  else if t < 40 then 3 else if t < 60 then 4 else 5

/-- One row of Table 16.7: voltages in 0.1 V, phases and their lengths in 0.1 ms. -/
structure BandDrive where
  vR : Nat
  vS : Nat
  resetN : Nat
  reset : Nat
  selectN : Nat
  select : Nat
  relax : Nat
deriving DecidableEq, Repr

/-- The drive of each band B0 to B5 (Table 16.7). -/
def bandDrive (band : Nat) : BandDrive :=
  match band with
  | 0 => ⟨330, 180, 8, 375, 4, 350, 400⟩
  | 1 => ⟨320, 170, 4, 375, 2, 350, 200⟩
  | 2 => ⟨300, 160, 2, 400, 1, 400, 100⟩
  | 3 => ⟨280, 150, 2, 300, 1, 300, 100⟩
  | 4 => ⟨260, 140, 2, 225, 1, 250, 100⟩
  | _ => ⟨240, 130, 1, 350, 1, 200, 50⟩

/-- The time one common takes, ns (Table 16.7). -/
def BandDrive.common (d : BandDrive) : Nat := (d.resetN * d.reset + d.selectN * d.select + d.relax) * 100000

/-- The time an update takes, ns: its commons one after the other (R546). -/
def PcRun.length (r : PcRun) : Nat := r.commons.length * (bandDrive r.band).common

/-- How many of its commons an update has written (R546). -/
def State.pcWritten (s : State) (r : PcRun) : Nat :=
  min r.commons.length ((s.now - r.at_) / (bandDrive r.band).common)

/-- The common an update is writing (Table 16.8b). -/
def State.pcCommon (s : State) (r : PcRun) : Nat := r.commons.getD (s.pcWritten r) (r.commons.getLastD 0)

/-- An update is requested (R545): one that comes while an update runs is merged into one after it. -/
def State.pcRequest (s : State) : State :=
  if s.pc.run.isSome then { s with pc := { s.pc with merged := true } }
  else { s with pc := { s.pc with asked := true } }

/-- No update waits for its latch or runs; one deferred for the panel's temperature waits for its return (R547). -/
def State.pcIdle (s : State) : Bool := !s.pc.asked && s.pc.run.isNone

end Sys2Proof.Machine
end

