-- ==== Sys2Proof/Machine/GateOps.lean ====
section
/-! DEFINITION. What every request of a session goes through: its class (13 R454), the mode, and the
amendment list that live writes enter (14 R484 to R488). -/

namespace Sys2Proof.Machine

/-- Result codes of 13 Table 13.4 and of other chapters' refusals. -/
abbrev Res.OK : Nat := 0x0000
abbrev Res.VERSION : Nat := 0x0001
abbrev Res.CLASS : Nat := 0x0002
abbrev Res.BUSY : Nat := 0x0003
abbrev Res.CLASS_FULL : Nat := 0x0004
abbrev Res.NO_OBJECT : Nat := 0x0005
abbrev Res.NO_SESSION : Nat := 0x0006
abbrev Res.UNSUPPORTED : Nat := 0x0007
abbrev Res.E2E_REQUIRED : Nat := 0x0008
abbrev Res.E2E_ID : Nat := 0x0009
abbrev Res.E2E_CRC : Nat := 0x000A
abbrev Res.E2E_ALIVE : Nat := 0x000B
abbrev Res.ACCESS : Nat := 0x000C
abbrev Res.VALUE : Nat := 0x000D
abbrev Res.GATE_BUSY : Nat := 0x1022
abbrev Res.NOT_LIVE : Nat := 0x1023
abbrev Res.MODE_REFUSED : Nat := 0xB021

/-- Session classes of 13 Table 13.7. -/
abbrev Cls.MONITOR : Nat := 0
abbrev Cls.OPERATOR : Nat := 1
abbrev Cls.MACHINE : Nat := 2
abbrev Cls.SERVICE : Nat := 3
abbrev Cls.FLEET : Nat := 4

/-- The open session with a number. -/
def State.session? (s : State) (num : Nat) : Option SessionS :=
  (s.ses.open_.find? (fun p => p.2.num = num)).map (fun p => p.2)

/-- A session's class; the module itself (session 0) stands above every class. -/
def State.classOf (s : State) (num : Nat) : Nat :=
  if num = 0 then 5 else match s.session? num with
    | some ss => ss.cls
    | none => 0

/-- The classes a request of 13 Table 13.16 is open to, from the lowest class named; FLEET and MONITOR
send none. -/
def State.classAtLeast (s : State) (num lowest : Nat) : Bool :=
  let c := s.classOf num
  c = 5 || (lowest ≤ c && c ≤ 3)

/-- The module has an image in use (14 R483). -/
def State.configured (s : State) : Bool := s.rd R.HMP_STAT_SOURCE ≠ 0

/-- What refuses a request of a service that does not pass the gate: no session, a service it has not agreed, its class,
an unconfigured unit (but for what `bare` says it serves), WALK_HOME (13 R449, R450, R454; 14 R483; 15 R513). The version
in its header is the agreed one (log entry 131). -/
def State.svcRefusal (s : State) (session svc : Nat) (classes : List Nat) (bare : Bool := false) : Option Nat :=
  match s.session? session with
  | none => some Res.NO_SESSION
  | some ss =>
    if ss.agreed.all (fun a => a.1 ≠ svc) then some Res.VERSION
    else if !classes.contains ss.cls || (!s.configured && !bare) then some Res.CLASS
    else if s.mode = Mode.WALK_HOME then some Res.MODE_REFUSED
    else none

/-- A request turned down; with no session it is its connection that is answered (13 R449). -/
def State.turnDown (s : State) (session code : Nat) : State :=
  if code = Res.NO_SESSION then s.answer (.session session) code else s.reply session code

/-- A unit of the installation other than this one that the manager reaches over the trunk (13 R459). -/
def State.reaches (s : State) (unit : Nat) : Bool := !s.isWorker && 1 ≤ unit && unit ≤ s.role.workers

/-- From the end of CONFIG and outside WALK_HOME requests are served (14 R484, 15 R513). -/
def State.served (s : State) : Bool :=
  !([Mode.OFF, Mode.SLEEP, Mode.TRAILHEAD, Mode.CONFIG, Mode.WALK_HOME].contains s.mode)

/-- The version of the firmware that runs (17 Table 17.4): a worker's came in its Rucksack (17 R564). -/
def State.firmware (s : State) : Nat :=
  s.hmp.ruckFw.getD (s.rd (R.UPD_SLOT_VERSION (s.rd R.UPD_STAT_ACTIVE)))

/-! ### The mode gate's order (02 R57, R58, R61) -/

/-- A stop, change-set or restart request for the function is still in progress (02 R61): a change set or a
restart until step 4 of 05 Table 5.9. -/
def State.fnBusy (s : State) (f : Nat) : Bool :=
  let v := (look s.fn f).getD {}
  v.changeSet || v.asked

/-- A request that waits in the queue: a mode request during a transition (02 R58), a request for a function with
an earlier one in progress (02 R61). -/
def State.blocked (s : State) : ReqKind → Bool
  | .mode _ => s.md.trans.isSome && s.rd R.UPD_STAT_STATE ≠ 5
  | .fnStop f | .fnRestart f | .changeSet f => s.fnBusy f
  | .engage => s.fnBusy 27
  | _ => false

/-- An entry of the gate's queue is this request. -/
def GateReq.is (r : GateReq) (num : Nat) (kind : ReqKind) : Bool := r.session = num && r.kind = kind

/-- A request's turn has come (02 R57): it does not wait itself, and everything accepted before it does. -/
def State.turn (s : State) (num : Nat) (kind : ReqKind) : Bool :=
  !s.blocked kind && (s.ses.gate.takeWhile (fun r => !r.is num kind)).all (fun r => s.blocked r.kind)

/-- The oldest entry of a request leaves the queue. -/
def dropReq (num : Nat) (kind : ReqKind) : List GateReq → List GateReq
  | [] => []
  | r :: t => if r.is num kind then t else r :: dropReq num kind t

/-- The number of a request within the data ID records (log entry 25). -/
def reqNumber : ReqKind → Nat
  | .mode _ => 0 | .setpoint _ => 1 | .goal => 2 | .line => 3 | .engage => 4 | .turn => 5
  | .newLoad => 6 | .ticket => 7 | .pack => 8 | .fnStop _ => 9 | .fnRestart _ => 10
  | .changeSet _ => 11 | .clearSwitch => 12 | .clearPort => 13 | .test => 14 | .pcClear => 15
  | .swReset => 16 | .autotune => 17 | .amendRead => 18 | .amendCommit => 19 | .insert => 20
  | .cancel => 21 | .live _ => 22

/-- A request takes its place in the gate's queue of 64, or is refused with GATE_BUSY (02 R57). -/
def State.enqueue (s : State) (num : Nat) (kind : ReqKind) : State :=
  if 64 ≤ s.ses.gate.length then (s.log 0x1022 [reqNumber kind, num]).reply num Res.GATE_BUSY
  else { s with ses := { s.ses with gate := s.ses.gate ++ [({ session := num, kind } : GateReq)] } }

/-- The gate comes to a request (02 R57): in its turn the request leaves the queue and acts; out of turn it keeps
its place, or takes one behind those accepted before it. The module's own requests (session 0) pass by the
queue. -/
def State.gated (s : State) (t num : Nat) (kind : ReqKind) (act : State → State) : State :=
  let s := s.begin t
  if num = 0 then (if s.blocked kind then s else act s)
  else if s.turn num kind then act { s with ses := { s.ses with gate := dropReq num kind s.ses.gate } }
  else if s.ses.gate.any (fun r => r.is num kind) then s
  else s.enqueue num kind

/-- A field of a unit that the amendment list holds. -/
def State.amended (s : State) (unit key : Nat) : Bool := s.amend.any (fun a => a.key = key && a.unit = unit)

/-- Room in the amendment list for a field: 256 entries, or the field is in it (14 R486). -/
def State.amendRoom (s : State) (key : Nat) : Bool :=
  s.amend.length < 256 || s.amended s.role.unit key

/-- A field of a unit entered in the amendment list in the place of its latest write (14 R486, R488). -/
def State.amendPut (s : State) (unit kind key value : Nat) : State :=
  { s with amend := s.amend.filter (fun a => !(a.key = key && a.unit = unit)) ++ [{ unit, kind, key, value }] }

/-- A function whose own records hold an amendment shows it (05 R210, Table 5.8). -/
def State.showAmended (s : State) (key : Nat) : State :=
  let i := key / 256
  if 0x3200 ≤ i ∧ i ≤ 0x34FF then s.wr (R.FN_STAT_AMENDED ((i - 0x3200) / 16)) 1 else s

/-- ENTRIES of HMP.LIST kept equal to the list's length (14 Table 14.14). -/
def State.amendCount (s : State) : State := s.wr R.HMP_LIST_ENTRIES s.amend.length

/-- A live write applied: the field changes at once and is entered with kind LIVE, or OVF is set when the
list is full (14 R486). -/
def State.liveApply (s : State) (key v : Nat) : State :=
  let room := s.amendRoom key
  let s := (s.wr key v).showAmended key
  if room then (s.amendPut s.role.unit 1 key v).amendCount else s.wr R.HMP_LIST_OVF 1

/-- The row of 13 Table 13.12 an object index stands in. -/
def blockRow (i : Nat) : Nat :=
  if i ≤ 0x100F then 0 else if i ≤ 0x1019 then 1 else if i ≤ 0x1029 then 2 else if i ≤ 0x104F then 3
  else if i ≤ 0x2014 then 4 else if i ≤ 0x230F then 5 else if i ≤ 0x303F then 6 else if i ≤ 0x350F then 7
  else if i ≤ 0x4104 then 8 else if i ≤ 0x501F then 9 else if i ≤ 0x520F then 10
  else if i ≤ 0x57FF then 9 else if i ≤ 0x6182 then 11 else if i ≤ 0x706E then 12
  else if i ≤ 0x8108 then 13 else if i ≤ 0x9DFF then 14 else if i ≤ 0x9E2C then 15
  else if i ≤ 0x9FFF then 16 else if i ≤ 0xA1FF then 17 else if i ≤ 0xB2FF then 18
  else if i ≤ 0xC1FF then 19 else 20

/-- Whether the Hamper has taken a right of a class over an index block: bit 0 read, bit 1 write
(02 R74; 14 Table 14.6). -/
def State.classCut (s : State) (cls index bit : Nat) : Bool :=
  bitOf ((look s.prot.classCut (cls * 256 + blockRow index)).getD 0) bit

/-- Whether a class may write a live field: OPERATOR only OPMIN and OPMAX, MACHINE and SERVICE every one
(13 Table 13.7), less the rights the protection table has taken (02 R74). -/
def State.mayLive (s : State) (num key : Nat) : Bool :=
  let opl := 0x3200 ≤ key / 256 ∧ key / 256 ≤ 0x34FF ∧ (key % 256 = 3 ∨ key % 256 = 4)
  s.classAtLeast num (if opl then Cls.OPERATOR else Cls.MACHINE) && !s.classCut (s.classOf num) (key / 256) 1

/-- A refusal with NOT_LIVE, logged with the field (02 R60, Table 2.14). -/
def State.notLive (s : State) (num key : Nat) : State :=
  (s.log 0x1023 [key / 256, key % 256]).reply num Res.NOT_LIVE

/-- A live write judged and applied or refused (00 R13, R14; 13 R454; 14 R484): the class first, then
the mode, then the value's own rule. -/
def State.liveWrite (s : State) (num key v : Nat) (valueOk : Bool) : State :=
  if !s.mayLive num key then s.reply num Res.CLASS
  else if s.mode = Mode.WALK_HOME then s.reply num Res.MODE_REFUSED
  else if !s.served then s.notLive num key
  else if !valueOk then s.reply num Res.VALUE
  else (s.liveApply key v).reply num Res.OK

end Sys2Proof.Machine
end

