-- ==== Sys2Proof/Machine/CamOps.lean ====
section
/-! DEFINITION. The cameras' shared operations (09 R322 to R354; 01 R24 to R29; 18 R592). -/

namespace Sys2Proof.Machine

/-- Camera states of Table 9.9. -/
abbrev Cam.UNUSED : Nat := 0
abbrev Cam.TRAINING : Nat := 1
abbrev Cam.RUNNING : Nat := 2
abbrev Cam.SETTLING : Nat := 3
abbrev Cam.MISSING : Nat := 4
abbrev Cam.STALLED : Nat := 5

/-- The sixteen cameras. -/
def cameras : List Nat := (List.range 16).map (· + 1)

/-- A camera's own state. -/
def State.camS (s : State) (cam : Nat) : CamS := (look s.cams.cam cam).getD {}

/-- A camera's own state written. -/
def State.setCam (s : State) (cam : Nat) (v : CamS) : State :=
  { s with cams := { s.cams with cam := ins s.cams.cam cam v } }

/-- A camera is used (R326). -/
def State.camUsed (s : State) (cam : Nat) : Bool := s.rd (R.CAM_CFG_PURPOSE cam) ≠ 0

/-- An event of Table 9.10 other than CAM_LINK: at most once per camera per 1 s (R354). -/
def State.camLog (s : State) (code cam : Nat) (payload : List Int) : State :=
  s.logOnce code cam 1000000000 payload 4

/-- A camera's STATE changes. -/
def State.setCamState (s : State) (cam st : Nat) : State :=
  let old := s.rd (R.CAM_STAT_STATE cam)
  if old = st then s
  else (s.wr (R.CAM_STAT_STATE cam) st).camLog 0x6007 cam [cam, old, st]

/-- Every frame not yet delivered to all its streams is discarded, stripes already processed and triggers still to be
answered included (R325, R332); of a pair their instants have no TENSOR stream (R349). -/
def State.dropFrames (s : State) (cam : Nat) : State :=
  let c := s.camS cam
  let lost := c.frames.map (fun (f : CamFrame) => f.trig) ++ c.trig.map (fun (x : Int × Nat × Nat) => x.1)
  let gone := if s.rd (R.CAM_CFG_PAIR cam) = 0 then [] else c.gone ++ lost
  s.setCam cam { c with frames := [], trig := [], gone := gone.drop (gone.length - 32) }

/-- CAM_LINK (Table 9.10). -/
def State.logLink (s : State) (cam : Nat) (up : Bool) : State :=
  s.log 0x6001 [cam, bit01 up, s.rd (R.CAM_CFG_GEAR cam), s.rd (R.CAM_TIME_TRIG_LAT cam)] 4

/-- A link without lock: the camera is missing and its frames are discarded (R325). -/
def State.loseLink (s : State) (cam : Nat) : State :=
  if !s.camUsed cam || !(s.camS cam).locked then s
  else
    let s := (s.setCamState cam Cam.MISSING).dropFrames cam
    (s.setCam cam { s.camS cam with locked := false, tryAt := some s.now }).logLink cam false

/-- The effective shed class of Table 1.4 and R25: 1 to 3, or 4 for P. DESIGN CHOICE: of a stereo pair whose record
is bound only the camera that SRC_INDEX names becomes class P; its partner keeps its own class (log entry 114). -/
def State.shedClass (s : State) (cam : Nat) : Nat :=
  let bound := (List.range 32).any (fun n => s.rd (R.OBS_IN_CFG_CLASS n) ≠ 0 &&
    s.rd (R.OBS_IN_CFG_SRC_TYPE n) = 4 && s.rd (R.OBS_IN_CFG_SRC_INDEX n) = cam &&
    s.rd (R.OBS_IN_CFG_UNIT n) = s.role.unit)
  let set := s.rd (R.CAM_CFG_SHED cam)
  if bound then 4
  else if set ≠ 0 then set
  else [0, 4, 3, 4, 3, 3, 2, 1].getD (s.rd (R.CAM_CFG_PURPOSE cam)) 0

/-- What a shed level makes of a class (Table 1.3): 0 full rate, 1 half rate, 2 suspended. -/
def shedAct (level cls : Nat) : Nat :=
  match cls with
  | 1 => if level = 0 then 0 else if level < 4 then 1 else 2
  | 2 => if level < 2 then 0 else if level < 4 then 1 else 2
  | 3 => if level < 3 then 0 else 1
  | _ => 0

/-- A camera begins: its link is to be trained, its settings are those of the start (R324, R338). -/
def State.startCam (s : State) (cam : Nat) : State :=
  if !s.camUsed cam then s
  else
    let c : CamS := { fno := (s.camS cam).fno,
                      base := (s.rd (R.CAM_EXP_EXP_FIX cam), s.rd (R.CAM_EXP_GAIN_FIX cam)) }
    let s := (s.setCam cam c).wr (R.CAM_STAT_CLASS cam) (s.shedClass cam)
    s.setCamState cam Cam.TRAINING

/-- Every used camera begins. -/
def State.startCams (s : State) : State := cameras.foldl (fun (s : State) (c : Nat) => s.startCam c) s

/-- Every used camera in a state without frames; no vision record is published of what it has delivered (R351; 15
R497). -/
def State.camsDown (s : State) (st : Nat) : State :=
  cameras.foldl (fun (s : State) (c : Nat) =>
    if s.camUsed c then
      let s := (s.setCamState c st).dropFrames c
      s.setCam c { s.camS c with locked := false, tensor := [], gone := [], tryAt := none }
    else s) s

/-- Why a crop write is refused (R336, R337), 0 when it is not: 1 the crop leaves the frame, 2 it is no whole
multiple of SCALE, 3 it changes a TENSOR stream's size (log entry 28). -/
def State.cropRefusal (s : State) (cam out field v : Nat) : Nat :=
  let g := fun (f key : Nat) => if f = field then v else s.rd key
  let x := g 0 (R.ISP_OUT_CROP_X0 cam out)
  let y := g 1 (R.ISP_OUT_CROP_Y0 cam out)
  let w := g 2 (R.ISP_OUT_CROP_W cam out)
  let h := g 3 (R.ISP_OUT_CROP_H cam out)
  let sc := s.rd (R.ISP_OUT_SCALE cam out)
  if s.rd (R.CAM_GEOM_WIDTH cam) < x + w ∨ s.rd (R.CAM_GEOM_HEIGHT cam) < y + h ∨ 16384 ≤ v then 1
  else if w % sc ≠ 0 ∨ h % sc ≠ 0 then 2
  else if s.rd (R.ISP_OUT_DEST cam out) = 1 ∧ (w ≠ s.rd (R.ISP_OUT_CROP_W cam out) ∨
      h ≠ s.rd (R.ISP_OUT_CROP_H cam out)) then 3
  else 0

/-- The key of a crop field: 0 CROP_X0, 1 CROP_Y0, 2 CROP_W, 3 CROP_H. -/
def cropKey (cam out field : Nat) : Nat := R.ISP_OUT_CROP_X0 cam out + field

/-- The crop of every stream as the registers show it now. -/
def State.cropsNow (s : State) (cam : Nat) : List (List Nat) :=
  [0, 1, 2, 3].map (fun k => [0, 1, 2, 3].map (fun f => s.rd (cropKey cam k f)))

/-- A crop write to come: the frames of trigger instants up to `last` keep the crops as they are now (R337). -/
def State.keepCrops (s : State) (cam : Nat) (last : Option Int) : State :=
  match last with
  | some x => s.setCam cam { s.camS cam with cropLog := (s.camS cam).cropLog ++ [(x, s.cropsNow cam)] }
  | none => s

/-- The last trigger instant of which a frame of the camera, or of its pair's other one, has started in the ISP. -/
def State.lastStarted (s : State) (cam pair : Nat) : Option Int :=
  match (s.camS cam).started, (if pair = 0 then none else (s.camS pair).started) with
  | some a, some b => some (max a b)
  | some a, none => some a
  | none, x => x

/-- A live crop write (R337; 14 R484): both cameras of a pair take it, from the same trigger
instant; one refused is logged as CAM_CROP_BAD and
answered VALUE (00 R13, R14). -/
def State.cropWrite (s : State) (num cam out field v : Nat) : State :=
  let key := cropKey cam out field
  let pair := s.rd (R.CAM_CFG_PAIR cam)
  if !s.mayLive num key then s.reply num Res.CLASS
  else if s.mode = Mode.WALK_HOME then s.reply num Res.MODE_REFUSED
  else if !s.served then s.notLive num key
  else if s.cropRefusal cam out field v ≠ 0 then
    (s.camLog 0x6006 cam [cam, out, s.cropRefusal cam out field v]).reply num Res.VALUE
  else
    let last := s.lastStarted cam pair
    let s := (s.keepCrops cam last).liveApply key v
    let s := if pair = 0 then s else (s.keepCrops pair last).liveApply (cropKey pair out field) v
    s.reply num Res.OK

/-- The newest complete frame of a SNAPSHOT stream (R336). -/
def State.snapshotFrame (s : State) (cam out : Nat) : Option (List Int) :=
  (look (s.camS cam).snap out).map (fun (x : Int × Nat × List Nat × List Nat) =>
    [x.1, (x.2.1 : Int)] ++ (x.2.2.1 ++ x.2.2.2).map Int.ofNat)

end Sys2Proof.Machine
end

