-- ==== Sys2Proof/Machine/QueueOps.lean ====
section
/-! DEFINITION. The one-shot queue's own operations (03 R124 to R138): what an action reference names,
how many entries are queued, and cancelling entries. -/

namespace Sys2Proof.Machine

/-- The class of an action reference (Table 3.11). -/
def actClass (a : Nat) : Nat := a / 4096 % 16

/-- The target of an action reference. -/
def actTarget (a : Nat) : Nat := a % 4096

/-- A slot holding an entry that has neither fired nor ended. -/
def SlotS.live (e : SlotS) : Bool := e.out = .queued || e.out = .armed

/-- The one-shot flags of Table 3.14. -/
def SlotS.noLate (e : SlotS) : Bool := bitOf e.flags 0
def SlotS.coherent (e : SlotS) : Bool := bitOf e.flags 1
def SlotS.cancelOnMode (e : SlotS) : Bool := bitOf e.flags 2

/-- A queue slot. -/
def State.slot (s : State) (n : Nat) : SlotS := (look s.ln.slots n).getD {}

/-- Entries queued now. -/
def State.queued (s : State) : Nat := (s.ln.slots.filter (fun p => p.2.live)).length

/-- DEPTH and HIGH of LN.QDEPTH kept equal to the queue (Table 3.15). -/
def State.depthNow (s : State) : State :=
  (s.wr R.LN_QDEPTH_DEPTH s.queued).raise R.LN_QDEPTH_HIGH s.queued

/-- A queue slot written. -/
def State.setSlot (s : State) (n : Nat) (e : SlotS) : State :=
  ({ s with ln := { s.ln with slots := ins s.ln.slots n e } }).depthNow

/-- Every live entry that `p` names ends without firing (R122, R136, R204). -/
def State.cancelWhere (s : State) (p : SlotS → Bool) : State :=
  ({ s with ln := { s.ln with slots := s.ln.slots.map (fun (x : Nat × SlotS) =>
      if x.2.live && p x.2 then (x.1, { x.2 with out := SlotOut.ended }) else x) } }).depthNow

/-- How many live entries `p` names. -/
def State.countWhere (s : State) (p : SlotS → Bool) : Nat :=
  (s.ln.slots.filter (fun (x : Nat × SlotS) => x.2.live && p x.2)).length

/-- A generator runs and an instant lies on its grid (R128, R137). -/
def State.onLaunchGrid (s : State) (gen : Nat) (instant : Int) : Bool :=
  s.ln.running && s.flag (R.LN_PG_CFG_EN gen) && 0 < s.rd (R.LN_PG_PERIOD gen) &&
    (instant - s.rd (R.LN_PG_PHASE gen)) % s.rd (R.LN_PG_PERIOD gen) = 0

/-- What a generator launches beside its own firing takes place at each of its instants once: none before its instant,
none again until harvest time has stepped (R108, R128, R137). -/
def State.launches (s : State) (gen : Nat) (instant : Int) (last : Option (Int × Nat)) : Bool :=
  s.onLaunchGrid gen instant && instant ≤ s.harvest &&
    match last with
    | some (l, n) => n ≠ s.tb.steps || decide (l < instant)
    | none => true

/-- The function of this unit whose actuator is a channel of a path (05 Table 5.2): 1 valve, 2 switch,
3 CAN. -/
def State.fnOfChannel (s : State) (path chan : Nat) : Option Nat :=
  (List.range 48).find? (fun f => s.rd (R.FN_CFG_PATH f) = path && s.rd (R.FN_CFG_CHAN f) = chan &&
    s.rd (R.FN_CFG_UNIT f) = s.role.unit)

/-- The function an entry of class 0x1 to 0x3 acts on (R204). -/
def State.fnOfAction (s : State) (a : Nat) : Option Nat :=
  match actClass a with
  | 1 => some (actTarget a / 16)
  | 2 => s.fnOfChannel 1 (actTarget a)
  | 3 => s.fnOfChannel 2 (actTarget a)
  | _ => none

/-- The executing island of an action (Table 3.11). -/
def State.execIsland (s : State) (a : Nat) : Nat :=
  match actClass a with
  | 2 => 8
  | 3 => 8
  | 4 => 6
  | 8 => if s.rd (R.CE_L_CFG_MEAS_TYPE (actTarget a)) = 1 || s.rd (R.CE_L_CFG_MEAS_TYPE (actTarget a)) = 4
         then 8 else 2
  | 9 => 8
  | 10 => 4
  | _ => 2

/-- A refused insertion counted and logged: at most once per code per 1 ms (R138), FN_STOPPED once per function per 1 s
besides (05 Table 5.11). -/
def State.lnNote (s : State) (code scope hold : Nat) (payload : List Int) : State :=
  (s.bump R.LN_STAT_REFUSED 0xFFFF).logOnce code scope hold payload

/-- A refusal of an insertion, returned to its requester, logged and counted (R596, R138). -/
def State.lnRefuse (s : State) (session code : Nat) (payload : List Int) : State :=
  let fn := (payload.headD 0).toNat
  (if code = 0x3048 then s.lnNote code fn 1000000000 payload else s.lnNote code 0 1000000 payload).reply session code

/-- Whether two actions act on the same target (R127): the same reference, one function, one CAN channel. -/
def State.sameTarget (s : State) (a b : Nat) : Bool :=
  a = b || (actClass a = 4 && actClass b = 4 && actTarget a / 256 = actTarget b / 256) ||
    ((s.fnOfAction a).isSome && s.fnOfAction a = s.fnOfAction b)

/-- The place of a one-shot class among the effects of an instant (R127). -/
def effectRank (a : Nat) : Nat := [9, 0, 1, 2, 3, 4].getD (actClass a) 9

/-- One entry's effect comes before another's at the same instant on the same target (R127). -/
def State.precedes (s : State) (x y : SlotS) : Bool :=
  x.instant = y.instant && s.sameTarget x.action y.action &&
    (effectRank x.action < effectRank y.action || (effectRank x.action = effectRank y.action && x.order < y.order))

end Sys2Proof.Machine
end

