-- ==== Sys2Proof/Machine/PdOps.lean ====
section
/-! DEFINITION. What the power die's drives share: its events, held while the core is dead (11 R407),
and the command that ends a reset's behaviour. -/

namespace Sys2Proof.Machine

/-- An event the power die stamps: into the mirror, or held while the core is dead, up to 64 (11 R407). -/
def State.pdLog (s : State) (code : Nat) (payload : List Int) (fault : Bool := false) : State :=
  if s.ls.dead then
    let e : Event := { stamp := s.harvest, code, island := 8, fault := fault || alwaysFault code,
                       unit := s.role.unit, payload, steps := s.tb.steps, due := s.now + 50000,
                       input := s.harvest }
    if s.ls.held.length < 64 then { s with ls := { s.ls with held := s.ls.held ++ [e] } }
    else { s with ls := { s.ls with heldMore := s.ls.heldMore + 1 } }
  else s.log code payload 8 false fault

/-- A power-die event with a hold-off (16 R595). -/
def State.pdLogOnce (s : State) (code scope period : Nat) (payload : List Int)
    (fault : Bool := false) : State :=
  if s.mayLog code scope period then
    { s with mirror := { s.mirror with
        holdoffs := ins s.mirror.holdoffs (code * 2 ^ 40 + scope) s.now } }.pdLog code payload fault
  else s

/-- A command of the control plane has reached the power die (11 R400). -/
def State.pdCommand (s : State) : State := { s with ls := { s.ls with cmdSince := true } }

/-- Sources of a command (10 "Commands", 11 R387; log entry 28). -/
abbrev Src.loop : Nat := 0
abbrev Src.openLoop : Nat := 1
abbrev Src.launch : Nat := 2
abbrev Src.stopped : Nat := 3

/-- Reset scopes (15 Table 15.13). -/
abbrev Scope.block : Nat := 0
abbrev Scope.core : Nat := 1
abbrev Scope.system : Nat := 2
abbrev Scope.full : Nat := 3

/-- The walk-home pin whose MAP has a channel's bit. -/
def pinOf (mapBit : Nat → Bool) : Option Nat :=
  [1, 2, 3, 4, 5, 6, 7, 8].find? mapBit

/-- Island 8 runs on its backup oscillator (01 R47). -/
def State.vdBackup (s : State) : Bool := s.vd.backup

/-- Island 8 changes to its backup oscillator, or back. -/
def State.setBackup (s : State) (b : Bool) : State := { s with vd := { s.vd with backup := b } }

/-- A walk-home pin is active. -/
def State.pinActive (s : State) (pin : Nat) : Bool := bitOf (s.rd R.WH_STAT_PIN) (pin - 1)

/-- A walk-home pin is over frequency (11 R404). -/
def State.pinHeld (s : State) (pin : Nat) : Bool := bitOf (s.rd R.WH_STAT_FREQ) (pin - 1)

/-- A command that reaches a channel during a foreground test on an idle function ends the test with result ABORTED
(15 R515). -/
def State.abortTest (s : State) (kind ch : Nat) : State :=
  let running : Bool := match s.fnOfChannel kind ch with
    | some f => ((look s.fn f).getD {}).running
    | none => false
  let here := fun (x : TestS) => x.started.isSome && x.req.kind = kind && x.req.chan = ch
  match s.md.tests.find? here with
  | some x =>
    if !running then s
    else
      let s := { s with md := { s.md with tests := s.md.tests.filter (fun y => !here y) } }
      (s.log 0xB030 [x.req.test, s.role.unit, ch, 2, 0]).reply x.session 0 [x.req.test, 2, 0]
  | none => s

/-- The current of a VALVE_ZERO test now: 200 mA/s from 0 up to its LIMIT (15 Table 15.11). -/
def State.testCurrent (s : State) (x : TestS) : Nat := min x.req.limit ((s.now - x.started.getD s.now) / 5000000)

/-- The VALVE_ZERO test that runs on a valve channel. -/
def State.zeroTest (s : State) (ch : Nat) : Option TestS :=
  s.md.tests.find? (fun x => x.started.isSome && x.req.test = 3 && x.req.chan = ch)

end Sys2Proof.Machine
end

