-- ==== Sys2Proof/Machine/ValveOps.lean ====
section
/-! DEFINITION. The valve drive's shared operations (10 R355 to R381): commands, boost periods and their
queue, latches, resets. -/

namespace Sys2Proof.Machine

/-- Phases of Table 10.9. -/
abbrev Ph.off : Nat := 0
abbrev Ph.waiting : Nat := 1
abbrev Ph.boost : Nat := 2
abbrev Ph.peak : Nat := 3
abbrev Ph.hold : Nat := 4
abbrev Ph.decay : Nat := 5
abbrev Ph.prop : Nat := 6
abbrev Ph.latched : Nat := 7

/-- A channel's own state. -/
def State.valve (s : State) (ch : Nat) : ValveS := (look s.vd.ch ch).getD {}

/-- A channel's own state written. -/
def State.setValve (s : State) (ch : Nat) (v : ValveS) : State :=
  { s with vd := { s.vd with ch := ins s.vd.ch ch v } }

/-- A bank. -/
def State.bankS (s : State) (b : Nat) : BankS := (look s.vd.bank b).getD {}

/-- A bank written, with the count of its waiting requests (Table 10.5). -/
def State.setBank (s : State) (b : Nat) (v : BankS) : State :=
  ({ s with vd := { s.vd with bank := ins s.vd.bank b v } }).wr (R.VD_B_BOOSTWAIT_QUEUE b) v.queue.length

/-- The bank of a channel (R355). -/
def bankOf (ch : Nat) : Nat := (ch + 3) / 4

/-- The converter of a bank: 1 BST-A, 2 BST-B (R355; log entry 28). -/
def convOf (b : Nat) : Nat := if b ≤ 4 then 1 else 2

/-- A bank's converter rail as last measured, 0.1 V. -/
def State.railOf (s : State) (b : Nat) : Nat := (look s.vd.rail (convOf b)).getD 480

/-- A converter's rail measured. -/
def State.setRail (s : State) (b rail : Nat) : State :=
  { s with vd := { s.vd with rail := ins s.vd.rail (convOf b) rail } }

/-- A channel's phase. -/
def State.phase (s : State) (ch : Nat) : Nat := s.rd (R.VD_STAT_PHASE ch)

/-- What a channel does: while it waits for its bank, what it did before the request (R365). -/
def State.actPhase (s : State) (ch : Nat) : Nat :=
  if s.phase ch = Ph.waiting then (s.valve ch).before else s.phase ch

/-- A phase in which the current is regulated without a boost: hold, or PROP regulation. -/
def regulating (p : Nat) : Bool := p = Ph.hold || p = Ph.prop

/-- A channel's phase written; one that waits goes on as before. -/
def State.setPhase (s : State) (ch p : Nat) : State :=
  let v := s.valve ch
  let v := if p = Ph.waiting then { v with before := s.actPhase ch }
           else { v with phaseAt := s.now, regAt := if regulating p && regulating (s.actPhase ch) then v.regAt else s.now }
  (s.setValve ch v).wr (R.VD_STAT_PHASE ch) p

/-- A channel no longer waits: it is as before its request, from the time on it was that. -/
def State.unwait (s : State) (ch : Nat) : State := s.wr (R.VD_STAT_PHASE ch) (s.actPhase ch)

/-- What a channel does written, while it waits too. -/
def State.setActPhase (s : State) (ch p : Nat) : State :=
  if s.phase ch = Ph.waiting then s.setValve ch { s.valve ch with before := p, phaseAt := s.now }
  else s.setPhase ch p

/-- A current command capped under R375. -/
def State.derate (s : State) (ch ma : Nat) : Nat :=
  if s.flag (R.VD_STAT_DERATED ch) then ma * s.rd (R.VD_THERM2_DERATE ch) / 100 else ma

/-- A regulated current commanded: I_TGT is what is in force after R375. -/
def State.regulate (s : State) (ch phase ma : Nat) : State :=
  let s := s.setPhase ch phase
  (s.setValve ch { s.valve ch with cmd := ma }).wr (R.VD_NOW_I_TGT ch) (s.derate ch ma)

/-- The longest boost period of a profile, ns (R366). -/
def State.boostTime (s : State) (p : Nat) : Nat :=
  (s.rd (R.VD_PRF_A_T_BOOST_MAX p) + s.rd (R.VD_PRF_A_T_PEAK p)) * 1000

/-- A bank's high side switched (R355): 0 off, 1 battery rail, 2 boost rail. -/
def State.setSide (s : State) (b side : Nat) : State :=
  let k := s.bankS b
  if k.side = side then s else (s.setBank b { k with side }).answer (.bank b) 0x13 [side]

/-- A boost starts: the bank goes to its boost rail, the low side fully on; the time-to-peak is checked
when the current starts below 10 % of I_PEAK (R363, R371). -/
def State.startBoost (s : State) (r : BoostReq) : State :=
  let b := bankOf r.ch
  let peak := s.rd (R.VD_PRF_A_I_PEAK r.prf)
  let s := (s.setPhase r.ch Ph.boost).setSide b 2
  ((s.setValve r.ch { s.valve r.ch with
      prf := r.prf, holdI := r.hold, t0 := s.now, ramp := none,
      checked := s.rd (R.VD_NOW_I_MEAS r.ch) * 10 < peak }).wrs
    [(R.VD_B_BOOSTWAIT_OWNER b, r.ch - (b - 1) * 4), (R.VD_NOW_I_TGT r.ch, peak)]).answer (.valve r.ch) 0x11 [peak]

/-- A boost that has waited starts, is counted and logged with its wait (R365). -/
def State.startWaited (s : State) (r : BoostReq) : State :=
  let b := bankOf r.ch
  let w := (s.now - r.since) / 1000
  (((s.startBoost r).bump (R.VD_B_BOOSTWAIT_WAITS b) 0xFFFF).raise (R.VD_B_BOOSTWAIT_WAIT_MAX b)
    (min w 0xFFFF)).pdLog 0x7002 [r.ch, w]

/-- A boost does not begin while its converter's rail is below 44 V (R368). -/
def State.railLow (s : State) (b : Nat) : State :=
  s.pdLogOnce 0x700C (convOf b) 1000000000 [convOf b, s.railOf b]

/-- The request at the head of a free bank's queue starts, once its rail is at 44 V (R365, R368). -/
def State.serveBank (s : State) (b : Nat) : State :=
  if s.rd (R.VD_B_BOOSTWAIT_OWNER b) ≠ 0 then s
  else match (s.bankS b).queue with
    | [] => s
    | r :: rest =>
      if 440 ≤ s.railOf b then (s.setBank b { s.bankS b with queue := rest }).startWaited r
      else s.railLow b

/-- Whether a channel is in its boost period. -/
def State.ownsBank (s : State) (ch : Nat) : Bool :=
  s.rd (R.VD_B_BOOSTWAIT_OWNER (bankOf ch)) = ch - (bankOf ch - 1) * 4

/-- A channel's boost period ends: the bank is free and the next request is served (R365). -/
def State.endBoost (s : State) (ch : Nat) : State :=
  let b := bankOf ch
  if !s.ownsBank ch then s
  else
    let s := (s.wr (R.VD_B_BOOSTWAIT_OWNER b) 0).serveBank b
    if s.rd (R.VD_B_BOOSTWAIT_OWNER b) = 0 then s.setSide b 1 else s

/-- A channel's waiting request removed (R369). -/
def State.unqueue (s : State) (ch : Nat) : State :=
  let b := bankOf ch
  let k := s.bankS b
  if k.queue.any (fun r => r.ch = ch) then s.setBank b { k with queue := k.queue.filter (fun r => r.ch ≠ ch) }
  else s

/-- A profile enters hold: regulated at I_HOLD, with the boost period over (Table 10.4). -/
def State.enterHold (s : State) (ch : Nat) : State :=
  (s.regulate ch Ph.hold (s.valve ch).holdI).endBoost ch

/-- A channel goes off by fast or slow decay; a channel already off stays so (Table 10.4, R358, R369). -/
def State.valveOff (s : State) (ch : Nat) (fast : Bool) : State :=
  let p := s.phase ch
  let was := if p = Ph.waiting then (s.valve ch).before else p
  let s := s.unqueue ch
  let s := s.setValve ch { s.valve ch with fastOff := fast, cmd := 0, ramp := none }
  let s := if p = Ph.latched then s
           else s.setPhase ch (if was = Ph.off then Ph.off else Ph.decay)
  ((s.wr (R.VD_NOW_I_TGT ch) 0).answer (.valve ch) 0x12 [bit01 fast]).endBoost ch

/-- The worst wait of a request that finds its bank busy, ns (R366). -/
def State.worstWait (s : State) (b : Nat) : Nat :=
  let o := s.rd (R.VD_B_BOOSTWAIT_OWNER b)
  let own := if o = 0 then 0
             else let v := s.valve ((b - 1) * 4 + o)
                  s.boostTime v.prf - (s.now - v.t0)
  own + sumNat ((s.bankS b).queue.map (fun r => s.boostTime r.prf))

/-- A boost request of a channel that neither holds nor awaits its bank's boost period (R365, R366, R368): it starts at
once, waits, or is refused. -/
def State.placeBoost (s : State) (r : BoostReq) : State :=
  let b := bankOf r.ch
  let k := s.bankS b
  if s.rd (R.VD_B_BOOSTWAIT_OWNER b) = 0 && k.queue.isEmpty && 440 ≤ s.railOf b then
    let old : BoostPrior := { req := r, valve := s.valve r.ch, phase := s.phase r.ch, target := s.rd (R.VD_NOW_I_TGT r.ch) }
    (s.setBank b { k with prior := some old }).startBoost r
  else if s.rd (R.VD_B_CFG_WAIT_LIM b) * 10000 < s.worstWait b then
    (s.bump (R.VD_B_BOOSTWAIT_REFUSED b) 0xFFFF).pdLog 0x7001 [r.ch, b, s.worstWait b / 1000]
  else
    let s := (s.setPhase r.ch Ph.waiting).setBank b { k with queue := k.queue ++ [r] }
    if s.railOf b < 440 then s.railLow b else s

/-- A request comes before another of the same instant (R367): by the order of R127, then by channel. -/
def BoostReq.before (x y : BoostReq) : Bool :=
  x.since = y.since && (x.key < y.key || (x.key = y.key && x.ch < y.ch))

/-- The boost that a bank began at this instant, when `r` comes before it. -/
def State.displaced (s : State) (b : Nat) (r : BoostReq) : Option BoostPrior :=
  (s.bankS b).prior.filter (fun p => s.ownsBank p.req.ch && (s.valve p.req.ch).t0 = s.now && r.before p.req)

/-- A boost begun at this instant taken back, as if not requested. -/
def State.takeBack (s : State) (p : BoostPrior) : State :=
  let b := bankOf p.req.ch
  ((s.setValve p.req.ch p.valve).wrs [(R.VD_STAT_PHASE p.req.ch, p.phase), (R.VD_NOW_I_TGT p.req.ch, p.target),
    (R.VD_B_BOOSTWAIT_OWNER b, 0)]).setSide b 1

/-- A boost request (R364 to R369): of the requests that reach a bank at one instant, those that come after it are placed
anew behind it. -/
def State.requestBoost (s : State) (ch p hold key : Nat) : State :=
  let b := bankOf ch
  let r : BoostReq := { ch, prf := p, hold, since := s.now, key }
  let k := s.bankS b
  if s.ownsBank ch then s.startBoost r
  else if k.queue.any (fun q => q.ch = ch) then
    s.setBank b { k with queue := k.queue.map (fun (q : BoostReq) =>
      if q.ch = ch then { q with prf := p, hold := hold } else q) }
  else
    let own := s.displaced b r
    let later := k.queue.filter (fun q => r.before q)
    let s := match own with
      | some x => s.takeBack x
      | none => s
    let s := later.foldl (fun (s : State) (q : BoostReq) => (s.unqueue q.ch).unwait q.ch) s
    (own.toList.map (fun x => x.req) ++ later).foldl (fun (s : State) (q : BoostReq) => s.placeBoost q) (s.placeBoost r)

/-- A profile starts or restarts (R359, R364): a nonzero current replaces I_HOLD for this start. `key` is the command's
place among those of its instant (R367). -/
def State.startProfile (s : State) (ch p cur key : Nat) : State :=
  let hold := if cur = 0 then s.rd (R.VD_PRF_A_I_HOLD p) else cur
  if s.flag (R.VD_PRF_A_BOOST p) then s.requestBoost ch p hold key
  else
    let s := s.unqueue ch
    (s.setValve ch { s.valve ch with prf := p, holdI := hold }).enterHold ch

/-- A channel latches off with a fault number (Table 10.7, R378). -/
def State.latchValve (s : State) (ch fault : Nat) : State :=
  let s := s.unqueue ch
  let s := s.setValve ch { s.valve ch with latch := fault, latchAt := s.now, tripped := none, cmd := 0,
                                           fastOff := true, ramp := none }
  (((s.setPhase ch Ph.latched).wrs [(R.VD_STAT_FAULT ch, fault), (R.VD_NOW_I_TGT ch, 0)]).answer (.valve ch) 0x12
    [1]).endBoost ch

/-- What refuses a restart request of a channel's function (R378): the fault number of the latch. -/
def State.valveBlocks (s : State) (ch : Nat) : Option Nat :=
  let v := s.valve ch
  let other := match (s.bankS (bankOf ch)).holder with
    | some h => h ≠ ch && (s.fnOfChannel 1 h).isSome
    | none => false
  if v.latch = 0 then none
  else if v.latch = 5 then
    (if (s.rd (R.VD_THERM2_T_WARN ch) : Rat) ≤ v.tw then some 5 else none)
  else if other then some v.latch
  else none

/-- An accepted restart clears the latch, and the bank's with it (R378); their trouble codes end (16 R541). -/
def State.clearValve (s : State) (ch : Nat) : State :=
  let b := bankOf ch
  let v := s.valve ch
  let s := s.setValve ch { v with latch := 0, trips := 0, tripped := none }
  let s := if (s.bankS b).hsOff then (s.setBank b { s.bankS b with hsOff := false, holder := none }).setSide b 1 else s
  let s := s.dtcOff (fun (c : Nat) (p : List Int) =>
    ((c = 0x7006 || c = 0x700A) && p.headD 0 = ch) || ((c = 0x7007 || c = 0x7008) && p.headD 0 = b))
  if v.latch = 0 then s else (s.setPhase ch Ph.off).wr (R.VD_STAT_FAULT ch) 0

/-- The first command after a reset ends the channel's reset behaviour (R380). -/
def State.endValveReset (s : State) (ch : Nat) : State :=
  (s.pdCommand.setValve ch { s.valve ch with ramp := none }).wr (R.VD_STAT_RST ch) 0

/-- Every waiting boost request dropped; its channel is as before the request (R379). -/
def State.dropBoosts (s : State) : State :=
  [1, 2, 3, 4, 5, 6, 7, 8].foldl (fun (s : State) (b : Nat) =>
    let q := (s.bankS b).queue
    let s := s.setBank b { s.bankS b with queue := [] }
    q.foldl (fun (s : State) (r : BoostReq) => s.unwait r.ch) s) s

/-- The pin a valve channel follows (11 Table 11.7). -/
def State.valvePin (s : State) (ch : Nat) : Option Nat :=
  pinOf (fun n => bitOf (s.rd (R.WH_MAP_VLV n)) (ch - 1))

/-- The end of a RELEASE ramp: RAMP after the assertion of the reset (R379). -/
def State.rampEnd (s : State) (ch : Nat) : Nat := (s.valve ch).resetAt + s.rd (R.VD_CFG_RAMP ch) * 1000000

/-- A RELEASE ramp begins (Table 10.8): the boost period is abandoned, and the target falls linearly from the present
current to 0. -/
def State.rampValve (s : State) (ch : Nat) : State :=
  let v := s.valve ch
  let i := s.rd (R.VD_NOW_I_MEAS ch)
  if v.ramp.isSome then s
  else if i = 0 ∨ s.rampEnd ch ≤ s.now then s.valveOff ch (s.flag (R.VD_CFG_DECAY ch))
  else
    let s := (s.unqueue ch).regulate ch (if s.rd (R.VD_CFG_KIND ch) = 1 then Ph.prop else Ph.hold) (min 4000 i)
    (s.setValve ch { s.valve ch with ramp := some (i, s.now) }).endBoost ch

/-- A RELEASE ramp's or a VALVE_ZERO test's target now; at the ramp's end the channel goes off by its DECAY. -/
def State.stepRamp (s : State) (ch : Nat) : State :=
  match (s.valve ch).ramp with
  | none => match s.zeroTest ch with
    | some x => s.wr (R.VD_NOW_I_TGT ch) (s.derate ch (s.testCurrent x))
    | none => s
  | some (i, from_) =>
    let end_ := s.rampEnd ch
    if end_ ≤ s.now then s.valveOff ch (s.flag (R.VD_CFG_DECAY ch))
    else s.wr (R.VD_NOW_I_TGT ch) (min 4000 (i * (end_ - s.now) / (end_ - from_)))

/-- A channel with reset WALK follows its pin: WALK_CUR while active, off by slow decay while inactive;
with WH_EN inactive it behaves as RELEASE (Table 10.8, 11 R401). -/
def State.walkValve (s : State) (ch : Nat) : State :=
  match s.valvePin ch with
  | none => s.rampValve ch
  | some pin =>
    if !s.flag R.WH_STAT_EN then s.rampValve ch
    else if s.pinActive pin && !s.pinHeld pin then
      ((s.unqueue ch).regulate ch (if s.rd (R.VD_CFG_KIND ch) = 1 then Ph.prop else Ph.hold)
        (s.rd (R.VD_CFG_WALK_CUR ch) * 10)).endBoost ch
    else s.valveOff ch false

/-- Channels 1 to 32. -/
def valveChannels : List Nat := (List.range 32).map (· + 1)

/-- Channels that are on: in boost, peak, hold or PROP regulation. -/
def State.valvesOn (s : State) : List Nat :=
  valveChannels.filter (fun c => [Ph.boost, Ph.peak, Ph.hold, Ph.prop].contains (s.phase c) ||
    (s.phase c = Ph.waiting && [Ph.hold, Ph.prop].contains (s.valve c).before))

/-- A channel's behaviour at a System or Core reset (Table 10.8). -/
def State.resetValve (s : State) (ch : Nat) : State :=
  if s.rd (R.VD_CFG_KIND ch) = 0 ∨ (s.valve ch).latch ≠ 0 then s
  else
    let m := s.rd (R.VD_CFG_RESET ch)
    let s := (s.setValve ch { s.valve ch with resetAt := s.now }).wr (R.VD_STAT_RST ch) (m + 1)
    if m = 0 then s else if m = 1 then s.rampValve ch else s.walkValve ch

/-- Valve channels at a System or Core reset, logged once with the mask of those that were on (R379). -/
def State.resetValves (s : State) (scope : Nat) : State :=
  let s := s.dropBoosts
  let mask := s.valvesOn.foldl (fun m c => m + 2 ^ (c - 1)) 0
  valveChannels.foldl State.resetValve (s.pdLog 0x7010 [scope, mask])

/-- Every channel turned off by fast decay when the Thermos releases the outputs (R381). -/
def State.thermosValves (s : State) : State :=
  valveChannels.foldl (fun (s : State) (c : Nat) =>
    if s.rd (R.VD_CFG_KIND c) = 0 then s else s.valveOff c true) s.dropBoosts

/-- Whether a register field is status of the valve drive (not its configuration). -/
def isValveStatus (key : Nat) : Bool :=
  valveChannels.any (fun c =>
    [R.VD_STAT_PHASE c, R.VD_STAT_RST c, R.VD_STAT_FIRST c, R.VD_STAT_SAT c, R.VD_STAT_DERATED c,
     R.VD_STAT_FAULT c, R.VD_STAT_SUPERSEDED c, R.VD_STAT_TTP c, R.VD_NOW_I_MEAS c, R.VD_NOW_I_TGT c,
     R.VD_NOW_RES c, R.VD_NOW_TW c].contains key)

/-- The winding estimate as TW shows it, 0.1 °C (Table 10.9). -/
def State.showTw (s : State) (ch : Nat) : State :=
  s.wr (R.VD_NOW_TW ch) (ofSigned 16 (roundInt ((s.valve ch).tw * 10)))

/-- Every used channel's coil model not yet running since the reset of Full scope started at the power die's temperature
plus OFFSET (R374). -/
def State.startCoils (s : State) (tmod : Rat) : State :=
  valveChannels.foldl (fun (s : State) (c : Nat) =>
    if s.rd (R.VD_CFG_KIND c) = 0 || (s.valve c).modelled then s
    else
      let x : Rat := tmod + (s.rd (R.VD_THERM_OFFSET c) : Rat)
      (((s.setValve c { s.valve c with tw := x, tb := x, validMs := 0, hot := false, modelled := true }).wr
        (R.VD_STAT_FIRST c) 1)).showTw c) s

end Sys2Proof.Machine
end

