-- ==== Sys2Proof/Machine/SwitchOps.lean ====
section
/-! DEFINITION. The load switches' shared operations (11 R384 to R406): output precedence, turn-offs and
the clamp budget, trips, latches, resets. -/

namespace Sys2Proof.Machine

/-- A channel's own state. -/
def State.sw (s : State) (n : Nat) : SwitchS := (look s.ls.ch n).getD {}

/-- A channel's own state written. -/
def State.setSw (s : State) (n : Nat) (v : SwitchS) : State :=
  { s with ls := { s.ls with ch := ins s.ls.ch n v } }

/-- Channels 1 to 24. -/
def switchChannels : List Nat := (List.range 24).map (· + 1)

/-- The pin a switch channel follows (Table 11.7). -/
def State.switchPin (s : State) (n : Nat) : Option Nat :=
  pinOf (fun p => bitOf (s.rd (R.WH_MAP_LSW p)) (n - 1))

/-- Counted time now: harvest time less the time for which it stood still (R389, R394). -/
def State.counted (s : State) (v : SwitchS) : Int :=
  match v.frozenAt with
  | some c => c
  | none => s.harvest - v.frozen

/-- The trip count k: trips younger than 60 s in counted time (R389). -/
def State.tripCount (s : State) (n : Nat) : Nat :=
  let v := s.sw n
  (v.trips.filter (fun x => s.counted v < x + 60000000000)).length

/-- The clamp energy budget left, mJ: refilled continuously at REFILL up to BUDGET (R392). -/
def State.budgetLeft (s : State) (n : Nat) : Rat :=
  let v := s.sw n
  let back : Rat := (s.rd (R.LS_CFG_REFILL n) * (s.now - v.usedAt) : Nat) / 1000000000
  let used := if v.used ≤ back then 0 else v.used - back
  (s.rd (R.LS_CFG_BUDGET n) : Rat) - used

/-- The level a channel's pin calls for; a pin over frequency holds it off (Table 11.4, R404). -/
def State.pinCalls (s : State) (n : Nat) : Bool :=
  match s.switchPin n with
  | some p => s.pinActive p && !s.pinHeld p
  | none => false

/-- The pins are in force: with a good copy, from 20 ms after the power die's release (R402, R406). -/
def State.pinsLive (s : State) : Bool :=
  s.ls.live && match s.ls.released with
    | some r => decide (r + 20000000 ≤ s.now)
    | none => !s.ls.full

/-- What controls a channel and what it calls for: 0 internal command, 1 reset grace, 2 SAFE, 3 pin
(R399 to R402, Table 11.5). -/
def State.switchCtrl (s : State) (n : Nat) : Nat × Bool :=
  let v := s.sw n
  let grace : Bool := match s.ls.assertAt with
    | some a => s.now < a + 250000000 && !s.ls.full
    | none => false
  if s.rd (R.LS_CFG_USE n) = 2 then (3, s.pinsLive && s.pinCalls n)
  else if !v.resetRun then (0, v.cmd)
  else if grace then (1, v.last)
  else if s.ls.dead && s.flag R.WH_STAT_EN && (s.switchPin n).isSome && s.pinsLive then (3, s.pinCalls n)
  else if s.ls.full then (1, false)
  else (2, s.flag (R.LS_CFG_SAFE n))

/-- The output precedence of Table 11.4. -/
def State.switchWants (s : State) (n : Nat) : Bool :=
  let v := s.sw n
  !(s.rd (R.LS_CFG_USE n) = 0 || s.ls.down || s.ls.badCopy || v.thermal || v.clamp || v.ocLatch ||
    v.pause.isSome) && (s.switchCtrl n).2

/-- STAT of a channel kept equal to its state (Table 11.6). -/
def State.showSwitch (s : State) (n : Nat) : State :=
  let v := s.sw n
  let st := if s.rd (R.LS_CFG_USE n) = 0 then 0 else if v.thermal then 5 else if v.clamp then 6
            else if v.ocLatch then 4 else if v.pause.isSome then 3 else if v.out then 2 else 1
  s.wrs [(R.LS_STAT_STATE n, st), (R.LS_STAT_CTRL n, (s.switchCtrl n).1),
    (R.LS_STAT_TRIPS n, min 15 (s.tripCount n)),
    (R.LS_STAT_BUDGET_LEFT n, ofSigned 16 (s.budgetLeft n).floor)]

/-- A latch or lock stops the channel's function with cause FAULT (R396). -/
def State.switchFn (s : State) (n : Nat) : Option Nat := s.fnOfChannel 2 n

/-- A turn-off that absorbs `mj` in the clamp; a budget at 0 or below locks the channel (R392). The
functions to stop are left to the caller (R396). -/
def State.turnOff (s : State) (n mj : Nat) : State × Bool :=
  let left := s.budgetLeft n
  let v := s.sw n
  let v := { v with out := false, usedAt := s.now,
                    used := (s.rd (R.LS_CFG_BUDGET n) : Rat) - left + (mj : Rat) }
  let s := (s.setSw n v).wr (R.LS_NOW_LAST_CLAMP n) (min 0xFFFF mj)
  if s.budgetLeft n ≤ 0 && !v.clamp then
    ((s.setSw n { v with clamp := true, pause := none }).pdLog 0x8004 [n, (s.budgetLeft n).floor] true, true)
  else (s, false)

/-- The energy a command reports for a channel's turn-off, mJ (log entry 7). -/
def energyOf (clamps : List (Nat × Nat)) (n : Nat) : Nat := (look clamps n).getD 0

/-- A channel's output brought to what Table 11.4 calls for. The Boolean says that the clamp locked. -/
def State.applySwitch (s : State) (n mj : Nat) : State × Bool :=
  let want := s.switchWants n
  let v := s.sw n
  let s := if s.ls.dead && (s.switchCtrl n).1 = 3 then
      { s with ls := { s.ls with mask := if bitOf s.ls.mask (n - 1) then s.ls.mask else s.ls.mask + 2 ^ (n - 1) } }
    else s
  if v.out && !want then
    let (s, locked) := s.turnOff n mj
    (s.showSwitch n, locked)
  else ((s.setSw n { v with out := want }).showSwitch n, false)

/-- Several channels brought to what Table 11.4 calls for; the channels whose clamp locked. -/
def State.applySwitches (s : State) (clamps : List (Nat × Nat)) : State × List Nat :=
  switchChannels.foldl (fun (p : State × List Nat) (n : Nat) =>
    let (s, locked) := p.1.applySwitch n (energyOf clamps n)
    (s, if locked then p.2 ++ [n] else p.2)) (s, [])

/-- Every valve channel with reset behaviour WALK follows its pin anew (R401, 10 Table 10.8). -/
def State.walkValves (s : State) : State :=
  valveChannels.foldl (fun (s : State) (c : Nat) =>
    if s.rd (R.VD_STAT_RST c) = 3 then s.walkValve c else s) s

/-- The fields the power die keeps a non-volatile copy of (R406). -/
def whKeys : List Nat :=
  ([1, 2, 3, 4, 5, 6, 7, 8].flatMap (fun n => [R.WH_MAP_VLV n, R.WH_MAP_LSW n])) ++
  (switchChannels.flatMap (fun n => [R.LS_CFG_USE n, R.LS_CFG_SAFE n, R.LS_CFG_N_LATCH n, R.LS_CFG_LIM_T n,
    R.LS_CFG_I_TRIP n, R.LS_CFG_BUDGET n, R.LS_CFG_REFILL n])) ++
  (valveChannels.flatMap (fun c => [R.VD_CFG_RESET c, R.VD_CFG_WALK_CUR c]))

/-- The copy the present values make: the fields that differ from their defaults. -/
def State.whCopyNow (s : State) : List (Nat × Nat) :=
  (whKeys.map (fun k => (k, s.rd k))).filter (fun (e : Nat × Nat) => e.2 ≠ resetOf e.1)

/-- Trailhead compares the copy with the Hamper and rewrites it when they differ or it is bad (R406). -/
def State.compareCopy (s : State) : State :=
  let c := s.whCopyNow
  if s.ls.copy = c && !s.ls.badCopy then s.wr R.WH_STAT_STORE 1
  else
    ({ s with ls := { s.ls with copy := c, badCopy := false, live := s.ls.live || s.ls.badCopy } }.wr
      R.WH_STAT_STORE 1).pdLog 0x8012 [0]

/-- A System or Core reset asserted at the switches, logged once with the mask of the channels that were
on; deferred commands are gone, and the grace keeps what each channel was called to be (R399; log entry 128). -/
def State.resetSwitches (s : State) (scope : Nat) : State :=
  let mask := (switchChannels.filter (fun n => (s.sw n).out)).foldl (fun m n => m + 2 ^ (n - 1)) 0
  let s := s.pdLog 0x8009 [scope, mask]
  let calls := switchChannels.map (fun n => (s.switchCtrl n).2)
  let s := { s with ls := { s.ls with assertAt := some s.now, full := false, cmdSince := false } }
  switchChannels.foldl (fun (s : State) (n : Nat) =>
    (s.setSw n { s.sw n with resetRun := s.rd (R.LS_CFG_USE n) = 1, waiting := none,
                             last := calls.getD (n - 1) false }).showSwitch n) s

/-- What blocks a clear of a channel: 5 its junction, 6 its budget (R397, Table 11.6). -/
def State.switchBlocks (s : State) (n : Nat) : Option Nat :=
  let v := s.sw n
  if v.thermal && 1500 ≤ toSigned 16 (s.rd (R.LS_NOW_TJ n)) then some 5
  else if v.clamp && s.budgetLeft n < (s.rd (R.LS_CFG_BUDGET n) : Rat) then some 6
  else none

/-- An accepted clear: every latch and lock gone, k at 0, counted time running again (R394, R397); the
channel's trouble codes end (16 R541). -/
def State.clearSwitch (s : State) (n mj : Nat) : State :=
  let v := s.sw n
  let frozen := match v.frozenAt with
    | some c => s.harvest - c
    | none => v.frozen
  let mask := bit01 v.ocLatch + 2 * bit01 v.thermal + 4 * bit01 v.clamp
  let s := s.setSw n { v with ocLatch := false, thermal := false, clamp := false, trips := [],
                              frozen := frozen, frozenAt := none }
  let s := s.dtcOff (fun c p => (c = 0x8002 || c = 0x8003 || c = 0x8004) && p.headD 0 = n)
  ((s.pdLog 0x8008 [n, mask]).applySwitch n mj).1

/-- The status that follows time brought to this instant (Tables 11.6 and 11.7). -/
def State.switchTimed (s : State) : State := switchChannels.foldl State.showSwitch s

end Sys2Proof.Machine
end

