-- ==== Sys2Proof/Machine/CanOps.lean ====
section
/-! DEFINITION. CAN's shared operations (12 R411 to R425): bit fields in a payload, the transmit FIFO, the
counter and its conversion. -/

namespace Sys2Proof.Machine

/-! ### Fields in a payload -/

/-- The bit positions of a field, least significant bit first: little-endian from START upwards;
big-endian with START as the most significant bit (log entry 29). -/
def fieldBits (start len order : Nat) : List Nat :=
  if order = 0 then (List.range len).map (fun i => start + i)
  else
    ((List.range (len - 1)).foldl (fun (acc : List Nat) _ =>
      let p := acc.headD 0
      (if p % 8 = 0 then p + 15 else p - 1) :: acc) (if len = 0 then [] else [start]))

/-- A bit of a payload. -/
def payloadBit (data : List Nat) (p : Nat) : Bool := bitOf (data.getD (p / 8) 0) (p % 8)

/-- The number a field spells. -/
def getField (data : List Nat) (start len order : Nat) : Nat :=
  ((fieldBits start len order).foldr (fun p n => 2 * n + bit01 (payloadBit data p)) 0)

/-- A payload with one bit written. -/
def putBit (data : List Nat) (p : Nat) (b : Bool) : List Nat :=
  data.set (p / 8) (setBit (data.getD (p / 8) 0) (p % 8) b)

/-- A payload with a field written. -/
def putField (data : List Nat) (start len order raw : Nat) : List Nat :=
  ((fieldBits start len order).zip (List.range len)).foldl (fun d e => putBit d e.1 (bitOf raw e.2)) data

/-- Data bytes of a data length code: ISO 11898-1 (R411). -/
def dlcBytes (dlc : Nat) (fdf : Bool) : Nat :=
  if dlc ≤ 8 then dlc
  else if fdf then [12, 16, 20, 24, 32, 48, 64].getD (dlc - 9) 64
  else 8

/-! ### Channels -/

/-- A channel's own state. -/
def State.can (s : State) (ch : Nat) : CanS := (look s.lk.can ch).getD {}

/-- A channel's own state written, DEPTH following its FIFO (Table 12.13). -/
def State.setCan (s : State) (ch : Nat) (c : CanS) : State :=
  ({ s with lk := { s.lk with can := ins s.lk.can ch c } }).wr (R.CAN_STAT_DEPTH ch) c.fifo.length

/-- Bit timing by NOM and DATA (Table 12.2): ns per bit, quanta per bit of the 80 MHz clock, sample point in 0.1 %, SJW in
quanta. -/
def nominalTiming (nom : Nat) : List Nat :=
  [[8000, 80, 875, 10], [4000, 80, 875, 10], [2000, 80, 875, 10], [1000, 80, 800, 16]].getD nom []
def dataTiming (data : Nat) : List Nat :=
  [[], [500, 40, 800, 8], [250, 20, 750, 5], [200, 16, 750, 4], [125, 10, 700, 3]].getD data []

/-- A channel's nominal bit time, ns. -/
def State.canBit (s : State) (ch : Nat) : Nat := (nominalTiming (s.rd (R.CAN_CFG_NOM ch))).getD 0 0

/-- Bit times of a classical frame without stuff bits (R424). -/
def frameBits (ide : Bool) (bytes : Nat) : Nat := (if ide then 54 else 34) + 8 * bytes + 13

/-- The harvest time of a counter value by a CAN.TSMAP record (R418); with RATE 0 the record converts nothing. -/
def tsmapHarvest (second : Int) (count rate c : Nat) : Option Int :=
  if rate = 0 then none
  else some (second + toSigned 32 ((c + 2 ^ 32 - count) % 2 ^ 32) * 1000000000 / rate)

/-- The island's counter at an elapsed instant: 80 MHz from its last start, 32 bits (R417). -/
def State.canCount (s : State) (el : Nat) : Nat := (el - s.lk.canFrom) * 2 / 25 % 2 ^ 32

/-- A frame record as a session receives it (Table 12.4). -/
def frameRecord (count ch flags : Nat) (f : FrameS) : List Int :=
  [(count : Int), (ch : Int), (flags + bit01 f.ide + 2 * bit01 f.fdf + 4 * bit01 f.brs : Nat), (f.dlc : Int),
   (f.data.length : Int), (f.id : Int)] ++ f.data.map Int.ofNat

/-- The stream of a channel's raw frames (13 R461; log entry 28). -/
def rawStream (ch : Nat) : Nat := 0x100 + ch

/-- A frame enters a channel's FIFO of 64, or is dropped (R422). A channel that is off takes none, and one
without an address none from its buffers (R412, R425). -/
def State.enterFifo (s : State) (ch : Nat) (f : FrameS) : State :=
  let c := s.can ch
  let st := s.rd (R.CAN_STAT_STATE ch)
  if st = 0 ∨ st = 6 ∨ (st = 5 ∧ f.buffer ≠ 0xFFFF) then s
  else if 64 ≤ c.fifo.length then
    (s.bump (R.CAN_STAT_TXFULL ch) 255).logOnce 0x9002 ch 1000000000 [ch, f.buffer] 6
  else s.setCan ch { c with fifo := c.fifo ++ [f] }

/-- The identifier a frame is sent with: on ROLE 1 and 2 the address claimed replaces bits 7 to 0 of a
29-bit identifier (R421). -/
def State.sentId (s : State) (ch id : Nat) (ide : Bool) : Nat :=
  let r := s.rd (R.CAN_CFG_ROLE ch)
  if ide && (r = 1 || r = 2) then id / 256 * 256 + s.rd (R.CAN_STAT_ADDR ch) else id

/-- A transmit buffer as a frame, without its command field (Table 12.6). -/
def State.bufferFrame (s : State) (ch b : Nat) : FrameS :=
  let ide := s.flag (R.CAN_TX_ID_IDE ch b)
  let fdf := s.flag (R.CAN_TX_ID_FDF ch b)
  let dlc := s.rd (R.CAN_TX_ID_DLC ch b)
  { id := s.sentId ch (s.rd (R.CAN_TX_ID ch b)) ide, ide, fdf, brs := s.flag (R.CAN_TX_ID_BRS ch b), dlc,
    data := leBytes (dlcBytes dlc fdf) (s.rd (R.CAN_TX_DATA ch b)), buffer := b, since := s.now }

/-- The raw value of a command: (output − OFFSET) / GAIN rounded to nearest (R421). Where the field cannot
hold it the manual states no value (log entry 30). -/
def State.rawValue (s : State) (ch b : Nat) (value : Rat) : Nat × State :=
  let len := s.rd (R.CAN_TX_ID_VAL_LEN ch b)
  let g := s.rdF (R.CAN_TX_SCALE_GAIN ch b)
  let raw := roundInt ((value - s.rdF (R.CAN_TX_SCALE_OFFSET ch b)) / g)
  let ok : Bool :=
    if s.flag (R.CAN_TX_ID_VAL_SIGNED ch b) then -(2 ^ (len - 1) : Int) ≤ raw && raw < 2 ^ (len - 1)
    else 0 ≤ raw && raw < 2 ^ len
  if ok && g ≠ 0 then (ofSigned len raw, s) else s.fresh len

/-- A command frame: the buffer with its command field written and its release flag set or clear
(R421). -/
def State.commandFrame (s : State) (ch b : Nat) (value : Rat) (rel : Bool) : FrameS × State :=
  let f := s.bufferFrame ch b
  let len := s.rd (R.CAN_TX_ID_VAL_LEN ch b)
  let (raw, s) := if len = 0 then (0, s) else s.rawValue ch b value
  let d := if len = 0 then f.data
           else putField f.data (s.rd (R.CAN_TX_ID_VAL_START ch b)) len (s.rd (R.CAN_TX_ID_VAL_ORDER ch b)) raw
  let d := if s.flag (R.CAN_TX_ID_REL_EN ch b) then putBit d (s.rd (R.CAN_TX_ID_REL_BIT ch b)) rel else d
  ({ f with data := d }, s)

/-- Frames at the head of the FIFO older than MAX_AGE are dropped unsent; those of the protocol stack are
exempt (R422). -/
def State.dropAged (s : State) (ch : Nat) : Nat → State
  | 0 => s
  | n + 1 =>
    match (s.can ch).fifo with
    | [] => s
    | f :: rest =>
      let lim := s.rd (R.CAN_CFG_MAX_AGE ch)
      if f.buffer ≠ 0xFFFF ∧ lim ≠ 0 ∧ lim * 1000000 < s.now - f.since then
        State.dropAged (((s.setCan ch { s.can ch with fifo := rest }).bump (R.CAN_STAT_AGED ch) 255).logOnce
          0x9003 ch 1000000000 [ch, f.buffer, ((s.now - f.since) / 1000000 : Nat)] 6) ch n
      else s

/-- The protocol stack's next frames enter the FIFO while it holds fewer than 4 of them (R423). -/
def State.feedStack (s : State) (ch : Nat) : Nat → State
  | 0 => s
  | n + 1 =>
    match (s.can ch).stack with
    | [] => s
    | f :: rest =>
      if 4 ≤ ((s.can ch).fifo.filter (fun x => x.buffer = 0xFFFF)).length then s
      else State.feedStack ((s.setCan ch { s.can ch with stack := rest }).enterFifo ch { f with since := s.now }) ch n

/-- A frame of the channel's protocol stack: at most 4 of them stand in the FIFO, the others wait in the stack (R423), and
none of them waits for an address. -/
def State.stackFrame (s : State) (ch id : Nat) (data : List Nat) : State :=
  let f : FrameS := { id, ide := true, fdf := false, brs := false, dlc := 8, data, buffer := 0xFFFF, since := s.now }
  (s.setCan ch { s.can ch with stack := (s.can ch).stack ++ [f] }).feedStack ch 4

/-- Address Claimed, or Cannot Claim from address 254 (ISO 11783-5, R425). -/
def State.sendClaim (s : State) (ch addr : Nat) : State :=
  s.stackFrame ch (0x18EEFF00 + addr) (leBytes 8 (s.can ch).name)

/-- A CAN channel set up at a start (R412 to R414, R425): its bit timing, termination and triple sampling are ordered; it
claims SA on ROLE 1 and 2, and has it for its fixed address on ROLE 3. -/
def State.startCan (s : State) (ch : Nat) : State :=
  let r := s.rd (R.CAN_CFG_ROLE ch)
  if r = 0 then s
  else
    let s := (s.wr (R.CAN_STAT_STATE ch) 1).answer (.canBus ch) 0x30
      ((nominalTiming (s.rd (R.CAN_CFG_NOM ch)) ++ [s.rd (R.CAN_CFG_TRIPLE ch), s.rd (R.CAN_CFG_TERM ch)] ++
        dataTiming (s.rd (R.CAN_CFG_DATA ch))).map Int.ofNat)
    if r = 3 then s.wr (R.CAN_STAT_ADDR ch) (s.rd (R.CAN_CFG_SA ch)) else s.sendClaim ch (s.rd (R.CAN_CFG_SA ch))

/-- A signal's value and stamp, when it is not missing for its channel's sake (R416, R420). -/
def State.canSignal (s : State) (n : Nat) : Option (Nat × Int) :=
  let st := s.rd (R.CAN_STAT_STATE (s.rd (R.CAN_SIG_CFG_CH n)))
  if st = 3 ∨ st = 6 then none else look s.lk.sig n

end Sys2Proof.Machine
end

