-- ==== Sys2Proof/Machine/GuideOps.lean ====
section
/-! DEFINITION. Guidance's shared operations (08 R283 to R305): the conditions of Table 8.5, disengagement and
engagement; and what yield mapping keeps of other records (08 R310 to R313). -/

namespace Sys2Proof.Machine

/-- Guidance states of Table 8.5. -/
abbrev Gd.OFF : Nat := 0
abbrev Gd.ARMED : Nat := 1
abbrev Gd.ENGAGED : Nat := 2
abbrev Gd.DR : Nat := 3
abbrev Gd.TURN : Nat := 4

/-- The active line (R293). -/
def State.activeLine (s : State) : Option LineIn :=
  s.gd.lines.find? (fun (l : LineIn) => l.id = s.rd R.GD_STAT_LINE_ID)

/-- The last STEREO record while it counts as an edge seen in the last 100 ms (Table 8.5). -/
def State.edgeSeen (s : State) : Option VisRec :=
  match look s.cams.vis 1 with
  | some v => if s.harvest - v.stamp ≤ 100000000 then some v else none
  | none => none

/-- The kind of the latest solution (Table 7.8). -/
def State.soln (s : State) : Nat :=
  match s.gn.pvt with
  | some p => p.soln
  | none => 0

/-- The first condition of Table 8.5's first row that fails, 0 when none does: 1 mode, 2 line, 3 SOLN,
4 heading, 5 edge, 6 XTE, 7 heading error (log entry 28). -/
def State.armedFail (s : State) : Nat :=
  let m := match s.md.trans with
    | some x => x.target
    | none => s.mode
  if !(m = Mode.FIELD_IDLE || m = Mode.HARVEST) || s.isWorker then 1
  else match s.activeLine with
    | none => 2
    | some l =>
      if l.typ = 3 then
        if s.edgeSeen.isNone then 5
        else if mkRat (s.rd R.GD_CFG_CAPTURE) 10 < absQ s.gd.xte then 6
        else if 30 < absQ s.gd.herr then 7
        else 0
      else if s.soln < s.rd R.GD_CFG_MIN_SOLN then 3
      else if s.rd R.GD_STAT_HDGSRC = 0 ∨ s.rd R.GD_STAT_HDGSRC = 3 then 4
      else if mkRat (s.rd R.GD_CFG_CAPTURE) 10 < absQ s.gd.xte then 6
      else if 30 < absQ s.gd.herr then 7
      else 0

/-- A disengagement (R296, R299): to ARMED when its conditions hold, else to OFF; logged, and with an alarm
to the operator except for reasons OPERATOR and MODE. Outside ENGAGED, TURN and DEAD_RECKONING there is
none. -/
def State.disengage (s : State) (reason : Nat) (input : Option Int := none) : State :=
  if s.rd R.GD_STAT_STATE < 2 then s
  else
    let to_ : Nat := if s.armedFail = 0 then Gd.ARMED else Gd.OFF
    let s := s.wrs [(R.GD_STAT_STATE, to_), (R.GD_STAT_REASON, reason)]
    let s := { s with gd := { s.gd with turn := none, turnReq := none } }
    let s := s.log 0x5021 [reason, s.rd R.GD_ERR_XTE, s.rd R.GD_STAT_DR_TRAVEL] (input := input)
    if reason = 1 ∨ reason = 8 then s else s.answer .operator 0x5021 [reason]

/-- The start of a transition out of FIELD_IDLE and HARVEST takes guidance to OFF (Table 8.5). -/
def State.guidanceMode (s : State) (m : Nat) : State :=
  if m = Mode.FIELD_IDLE ∨ m = Mode.HARVEST then s
  else (s.disengage 8).wr R.GD_STAT_STATE Gd.OFF

/-- A step of harvest time shifts the stamps of the navigation history (R291). -/
def State.guidanceStepped (s : State) (by_ : Int) : State :=
  let mv := fun (x : NavS) => { x with t := x.t + by_ }
  { s with gd := { s.gd with hist := s.gd.hist.map mv, nav := s.gd.nav.map mv,
                             srcAt := s.gd.srcAt.map (· + by_) } }

/-- Guidance enters ENGAGED at the acceptance of a restart request for F27 (R297). -/
def State.engage (s : State) : State :=
  (s.wr R.GD_STAT_STATE Gd.ENGAGED).log 0x5020
    [s.rd R.GD_STAT_LINE_ID, toSigned 16 (s.rd R.GD_STAT_PASS)]

/-- A moisture sample of the MOIST binding, kept for yield mapping (R311). -/
def State.noteMoist (s : State) (stamp : Int) (value : Nat) : State :=
  { s with ym := { s.ym with moist := ((stamp, value) :: s.ym.moist).take 64, moistAt := some s.now } }

/-- An observer output record's instant, STEPNO and TRANSPORT, kept for yield mapping (R312). -/
def State.noteTransport (s : State) (t0 : Int) (k transport : Nat) : State :=
  if !s.flag R.YM_CFG_EN then s
  else
    let l := s.ym.recs ++ [(t0, k, transport)]
    { s with ym := { s.ym with recs := l.drop (l.length - 32768) } }

/-- A STEREO record's active width and centre offset by its trigger instant, kept for yield mapping (R313). -/
def State.noteStereo (s : State) (trig : Int) (values : List Nat) : State :=
  let l := s.ym.widths ++ [(trig, values.getD 19 0, values.getD 20 0)]
  { s with ym := { s.ym with widths := l.drop (l.length - 4096) } }

end Sys2Proof.Machine
end

