-- ==== Sys2Proof/Machine/FnOps.lean ====
section
/-! DEFINITION. Machine functions' shared operations (05 R180 to R209): loops of a function, stopping, the
stopped state on each path, and what ends stop causes. -/

namespace Sys2Proof.Machine

/-! ### Functions and their loops -/

/-- A function's own state. -/
def State.fnS (s : State) (f : Nat) : FnS := (look s.fn f).getD {}

/-- A function's own state written. -/
def State.setFn (s : State) (f : Nat) (v : FnS) : State := { s with fn := ins s.fn f v }

/-- An index of a function. -/
def State.idxS (s : State) (f i : Nat) : IdxS := (look (s.fnS f).idx i).getD {}

/-- An index of a function written. -/
def State.setIdx (s : State) (f i : Nat) (v : IdxS) : State :=
  s.setFn f { s.fnS f with idx := ins (s.fnS f).idx i v }

/-- A loop's own state. -/
def State.loopS (s : State) (l : Nat) : LoopS := (look s.eng.loops l).getD {}

/-- A loop's own state written. -/
def State.setLoop (s : State) (l : Nat) (v : LoopS) : State :=
  { s with eng := { s.eng with loops := ins s.eng.loops l v } }

/-- A used slot (R183). -/
def State.fnUsed (s : State) (f : Nat) : Bool := s.rd (R.FN_CFG_PATH f) ≠ 0

/-- A used slot whose actuator is on this unit (Table 5.2). -/
def State.fnMine (s : State) (f : Nat) : Bool :=
  s.fnUsed f && s.rd (R.FN_CFG_UNIT f) = s.role.unit

/-- Loops bound to a function. -/
def State.loopsOf (s : State) (f : Nat) : List Nat :=
  ((List.range (s.rd (R.FN_CFG_LOOP_COUNT f))).map (fun k => s.rd (R.FN_CFG_LOOP_FIRST f) + k)).filter
    (fun l => s.rd (R.CE_L_CFG_LAW l) ≠ 0)

/-- The function a loop belongs to. -/
def State.fnOfLoop (s : State) (l : Nat) : Option Nat :=
  (List.range 48).find? (fun f => s.fnMine f && (s.loopsOf f).contains l)

/-- The final loop: no other loop of the function takes it as OUTER (R219). -/
def State.finalLoop (s : State) (f : Nat) : Option Nat :=
  let ls := s.loopsOf f
  ls.find? (fun l => ls.all (fun m => !(s.flag (R.CE_L_CFG_CASCADE m) && s.rd (R.CE_L_CFG_OUTER m) = l)))

/-- The baseline of an index: the last operator setpoint since start, or START (R189). -/
def State.baseOf (s : State) (f i : Nat) : Nat :=
  ((s.idxS f i).op.value).getD (s.rd (R.FN_SP_VAL1_START f i))

/-! ### The actuator -/

/-- Orders to an actuator (10 "Commands", 11 R387): the command steps of the power stage carry them on
(log entry 31). The code is the source; the data are the command's content. -/
def State.order (s : State) (f src : Nat) (data : List Int) : State :=
  let chan := s.rd (R.FN_CFG_CHAN f)
  match s.rd (R.FN_CFG_PATH f) with
  | 1 => s.answer (.valve chan) src data
  | 2 => s.answer (.switch chan) src data
  | _ => s

/-- The command last sent to a function's actuator, and since when it has been 0 (15 R515). -/
def State.noteCmd (s : State) (f : Nat) (u : Rat) : State :=
  let v := s.fnS f
  s.setFn f { v with cmd := some u, zeroAt := if u = 0 then some (v.zeroAt.getD s.now) else none }

/-- An actuator command: mA for a valve, on or off for a switch (R219); a CAN command waits for its launch
instant (12 R421). -/
def State.sendCmd (s : State) (f src : Nat) (u : Rat) : State :=
  let s := s.noteCmd f u
  if s.rd (R.FN_CFG_PATH f) = 2 then s.order f src [if 1 / 2 ≤ u then 1 else 0]
  else s.order f src [roundInt u]

/-- The command held in the stopped state (R203, R208): HOLD keeps the last one (a valve never commanded,
the current it carries), NEUTRAL and SPRING stand at their stopped value. -/
def State.heldCmd (s : State) (f : Nat) : Rat :=
  let path := s.rd (R.FN_CFG_PATH f)
  let neutral := s.rdF (R.FN_SP_RATE_NEUTRAL f 0)
  match s.rd (R.FN_CFG_STOPPED f) with
  | 0 => match (s.fnS f).cmd with
    | some u => u
    | none => if path = 1 then (s.rd (R.VD_NOW_I_MEAS (s.rd (R.FN_CFG_CHAN f))) : Rat) else 0
  | 1 => if path = 2 then 0 else neutral
  | _ => if path = 3 then neutral else 0

/-- The stopped state ordered at the actuator (Table 5.7): its number and the NEUTRAL current. -/
def State.orderStopped (s : State) (f : Nat) : State :=
  let st := s.rd (R.FN_CFG_STOPPED f)
  let held := s.heldCmd f
  let s := s.noteCmd f held
  s.order f Src.stopped [(st : Int), roundInt (s.rdF (R.FN_SP_RATE_NEUTRAL f 0))]

/-! ### Auto-tune and loops at a stop -/

/-- The 44 bytes of an ATRES record, field by field (06 Table 6.9). -/
def State.atRecord (s : State) (result : Nat) (v : TuneS) (ku tu a : Rat) (prop : List Rat) : List Int :=
  [s.harvest, (result : Int), (v.rule : Int), (v.periods.length : Int), (toF32 ku : Int), (toF32 tu : Int),
   (toF32 a : Int)] ++ prop.map (fun q => (toF32 q : Int))

/-- An auto-tune aborts: ATRES with its cause and proposed fields 0, logged (06 R241). One whose cycles are complete
has ended and only waits for the next sample (06 R240). -/
def State.abortTune (s : State) (l result : Nat) : State :=
  match (s.loopS l).tune with
  | none => s
  | some v => if v.ended then s else
    let r := s.atRecord result v 0 0 0 [0, 0, 0, 0, 0]
    (s.setLoop l { s.loopS l with tune := none, closing := true, atres := some r }).log 0x4022 [l, result]

/-- A function's loops open, an auto-tune of one ends (06 R209, R218, R241). -/
def State.openLoops (s : State) (f cause : Nat) : State :=
  (s.loopsOf f).foldl (fun (s : State) (l : Nat) =>
    let s := s.abortTune l (if cause = 2 then 2 else 1)
    (s.setLoop l { s.loopS l with closing := false, missed := 0 }).wr (R.CE_L_STAT_STATE l) 1) s

/-! ### Stop causes -/

/-- CAUSE shows the lowest code held (Table 5.8). -/
def State.showCause (s : State) (f : Nat) : State :=
  s.wr (R.FN_STAT_CAUSE f) (minNat 0 (s.fnS f).causes)

/-- Every override of a function ends (R192). -/
def endOver (v : FnS) : FnS :=
  { v with idx := v.idx.map (fun (p : Nat × IdxS) =>
      (p.1, { p.2 with op := { p.2.op with ovr := none },
                       opsBefore := p.2.opsBefore.map (fun (o : OpS) => { o with ovr := none }) })) }

/-- A stop (R204, R205): the cause is held; a running function reaches its stopped state, its queued
entries are cancelled, its loops open, its overrides and feed-forward terms end, and FN_STOP is logged. A
function already stopped takes the cause alone. A stop of F27 with a cause other than REQUEST or MODE is a
disengagement of guidance with reason PATH (08 R298). Where a stamped input caused it, FN_STOP carries that stamp too
(02 R70). -/
def State.stopFn (s : State) (f cause : Nat) (input : Option Int := none) : State :=
  let v := s.fnS f
  if !s.fnMine f then s
  else
    let s := s.setFn f (endOver { v with causes := if v.causes.contains cause then v.causes
                                                   else v.causes ++ [cause] })
    if !v.running then s.showCause f
    else
      let s := s.setFn f { s.fnS f with running := false, restartAt := none, asked := false, fade := {} }
      let s := (s.showCause f).wrs [(R.FN_STAT_STATE f, 1), (R.FN_STAT_FF_ON f, 0)]
      let s := (s.bump (R.FN_STAT_STOPS f) 255).cancelWhere (fun e => s.fnOfAction e.action = some f)
      let s := ((s.orderStopped f).openLoops f cause).log 0x3040 [f, cause] 2 false (cause = 4 || cause = 7) input
      if f = 27 && cause ≠ 1 && cause ≠ 2 then s.disengage 10 input else s

/-- Functions whose path is a CAN command on a channel. -/
def State.canFns (s : State) (ch : Nat) : List Nat :=
  (List.range 48).filter (fun f => s.fnMine f && s.rd (R.FN_CFG_PATH f) = 3 && s.rd (R.FN_CFG_CHAN f) / 256 = ch)

/-- The functions that an event of a code with a payload has stopped with cause FAULT or ECC. -/
def State.faultFns (s : State) (code : Nat) (p : List Int) : List Nat :=
  let a := (p.getD 0 0).toNat
  let b := (p.getD 1 0).toNat
  if code = 0x3040 then [a]
  else if code = 0x4003 || code = 0x4004 then (List.range 48).filter (fun f => bitOf b f)
  else if code = 0x4010 then (s.fnOfLoop a).toList
  else if code = 0x7005 then (s.fnOfChannel 1 a).toList
  else if code = 0x9001 || code = 0x9005 then s.canFns a
  else if code = 0x9030 then (List.range 48).filter s.fnMine
  else if code = 0x9045 then
    match s.ses.cfg.dataIds.find? (fun d => d.id = b) with
    | some d => (List.range 48).filter (fun f => bitOf d.fnMask f)
    | none => []
  else []

/-- A function has restarted: the codes whose functions all run again are active no more (16 R541). -/
def State.dtcRestart (s : State) (f : Nat) : State :=
  s.dtcOff (fun (code : Nat) (p : List Int) =>
    let fs := s.faultFns code p
    fs.contains f && fs.all (fun x => (s.fnS x).running || !s.fnMine x))

/-- A function is stopped. -/
def State.fnStopped (s : State) (f : Nat) : Bool := !(s.fnS f).running

/-- A function runs: on this unit, or as its worker's events tell. -/
def State.fnRuns (s : State) (f : Nat) : Bool :=
  (s.fnMine f && (s.fnS f).running) || (s.fnUsed f && !s.fnMine f && (s.fnS f).remote)

/-- F29 found running together with F08 is stopped with cause INTERLOCK, on its worker by a request (R182). -/
def State.judgeInterlock (s : State) (input : Option Int := none) : State :=
  if !(s.fnRuns 8 && s.fnRuns 29) then s
  else if s.fnMine 29 then s.stopFn 29 5 input
  else s.answer (.trunk 0) 0x41 [29, 5]

/-- A function stopped wherever it runs: on its worker by a request over the trunk. -/
def State.stopAny (s : State) (f cause : Nat) : State :=
  if s.fnMine f || !s.fnUsed f || s.isWorker then s.stopFn f cause else s.answer (.trunk 0) 0x41 [f, cause]

/-- A stop cause ends; with none left the function restarts at its next launch instant (R202). -/
def State.endCause (s : State) (f cause : Nat) : State :=
  let v := s.fnS f
  if !v.causes.contains cause then s
  else
    let left := v.causes.filter (· ≠ cause)
    (s.setFn f { v with causes := left,
                        restartAt := if left.isEmpty && !v.running then some (v.restartAt.getD s.harvest)
                                     else v.restartAt }).showCause f

/-- The unit is SLAVED again: cause COHERENT ends where AUTORESTART is set (R202, 03 R123). -/
def State.cohRestored (s : State) : State :=
  (List.range 48).foldl (fun (s : State) (f : Nat) =>
    if s.flag (R.FN_CFG_AUTORESTART f) && s.fnMine f then s.endCause f 3 else s) s

/-- Whether a function runs in a mode (Table 5.2, RUN_MODES). -/
def State.runsIn (s : State) (f mode : Nat) : Bool :=
  let b := if mode = Mode.ROAD then 3 else if mode = Mode.FIELD_IDLE then 2 else if mode = Mode.HARVEST then 1
           else if mode = Mode.TEST then 0 else 4
  b < 4 && bitOf (s.rd (R.FN_CFG_RUN_MODES f)) b

/-- The overrides a data ID of a session started end (13 R465). -/
def State.endOverrides (s : State) (session dataId : Nat) : State :=
  { s with fn := s.fn.map (fun (p : Nat × FnS) =>
      (p.1, { p.2 with idx := p.2.idx.map (fun (q : Nat × IdxS) =>
        (q.1, if q.2.op.ovr = some (session, dataId) then
                { q.2 with op := { q.2.op with ovr := none },
                           opsBefore := q.2.opsBefore.map (fun (o : OpS) => { o with ovr := none }) } else q.2)) })) }

end Sys2Proof.Machine
end

