-- ==== Sys2Proof/Machine/BoardOps.lean ====
section
/-! DEFINITION. The setpoint board's shared operations (02 R50 to R53, 05 R186 to R188). -/

namespace Sys2Proof.Machine

/-- A board entry. -/
def State.entry (s : State) (fn : Nat) : BoardS := (look s.board fn).getD {}

/-- A request for a function of another unit goes on to it (05 R188). -/
def State.forwards (s : State) (f : Nat) : Bool :=
  !s.isWorker && s.rd (R.FN_CFG_UNIT f) ≠ s.role.unit

/-- An instant of a function's launch generator lies after `lo` and not after `hi` (05 R185). -/
def State.launchBetween (s : State) (fn : Nat) (lo hi : Int) : Bool :=
  let n := s.rd (R.FN_CFG_LAUNCH_PG fn)
  let phase : Int := s.rd (R.LN_PG_PHASE n)
  let period : Int := s.rd (R.LN_PG_PERIOD n)
  s.ln.running && s.flag (R.LN_PG_CFG_EN n) && 0 < period && (lo - phase) / period < (hi - phase) / period

/-- The unpublished side is filled and the index written, stamped on arrival; a publish that no launch instant
stands after is superseded untaken and counted in MISSES (02 R50, R53). -/
def State.publishSide (s : State) (fn : Nat) (x : Side) : State :=
  let b := s.entry fn
  let idx := !b.index
  let lost : Bool := match b.pubs with
    | p :: older => !(b.taken && older.isEmpty) && !s.launchBetween fn p.at_ s.harvest
    | [] => false
  let p : PubS := { side := idx, at_ := s.harvest, x }
  let b' : BoardS := { a := if idx then b.a else x, b := if idx then x else b.b, index := idx,
                       pubs := p :: (if lost then b.pubs.drop 1 else b.pubs),
                       taken := b.taken && !(lost && b.pubs.length = 1) }
  let s := if lost then s.bump (R.FN_SPB_MISSES fn) 255 else s
  let s := { s with board := ins s.board fn b' }
  if s.fnUsed fn && s.forwards fn then
    s.answer (.trunk 0) 0x49 ([(fn : Int), (x.seq : Int), x.computed, bit01 x.obsOk, bit01 x.authHalf, (x.dstep : Int)] ++
      x.sps.map Int.ofNat ++ x.ffs.map Int.ofNat)
  else s

/-- The sequence number of a function's next side. -/
def State.nextSeq (s : State) (fn : Nat) : Nat :=
  let b := s.entry fn
  match b.pubs with
  | p :: _ => p.x.seq + 1
  | [] => 1

/-- F27's side as guidance publishes it: the command last computed and ENGAGE as the guidance state stands
(08 R287, R297). -/
def State.publishGuide (s : State) : State :=
  let engaged : Nat := if 2 ≤ s.rd R.GD_STAT_STATE then 0x3F800000 else 0
  s.publishSide 27 { sps := [s.gd.cmd, engaged], seq := s.nextSeq 27, computed := s.harvest }

end Sys2Proof.Machine
end

