-- ==== Sys2Proof/Machine/ResetOps.lean ====
section
/-! DEFINITION. What a reset's assertion does (15 R516, Tables 15.13a and 15.13b), the causes of SAFE_STOP
(15 R512) and the power domains (15 Table 15.4). -/

namespace Sys2Proof.Machine

/-! ### Causes of SAFE_STOP -/

/-- Bits of CAUSES (Table 15.17). -/
abbrev Cause.worker : Nat := 10
abbrev Cause.request : Nat := 11
abbrev Cause.crankLong : Nat := 12
abbrev Cause.pdClock : Nat := 13
abbrev Cause.pace : Nat := 14
abbrev Cause.junction : Nat := 15

/-- A cause holds, as MODE.STAT shows it (R512). -/
def State.hasCause (s : State) (bit : Nat) : Bool := bitOf (s.rd R.MODE_STAT_CAUSES) (bit - 10)

/-- A cause is set: SAFE_STOP is requested, by a worker through its manager (R509, R512). -/
def State.setCause (s : State) (bit : Nat) : State :=
  let s := s.wr R.MODE_STAT_CAUSES (setBit (s.rd R.MODE_STAT_CAUSES) (bit - 10) true)
  if s.isWorker then s.answer (.trunk 0) 0x52 [s.role.unit, 1]
  else { s with md := { s.md with wanted := true } }

/-- A cause clears (R512), and with it the trouble code of what set it (16 R541). -/
def State.clearCause (s : State) (bit : Nat) : State :=
  if !s.hasCause bit then s
  else
    let code := if bit = Cause.pace then 0x1010 else if bit = Cause.crankLong then 0xB003
                else if bit = Cause.junction then 0xB005 else 0
    let s := s.dtcOff (fun c _ => c = code)
    let s := s.wr R.MODE_STAT_CAUSES (setBit (s.rd R.MODE_STAT_CAUSES) (bit - 10) false)
    if s.isWorker && s.rd R.MODE_STAT_CAUSES = 0 then s.answer (.trunk 0) 0x52 [s.role.unit, 0] else s

/-! ### Conditions other chapters ask for -/

/-- A reset is asserted and not yet released. -/
def State.inReset (s : State) : Bool := s.rst.held

/-- The transition to SLEEP is in progress (R510). -/
def State.enteringSleep (s : State) : Bool :=
  match s.md.trans with
  | some x => x.target = Mode.SLEEP
  | none => false

/-- The crank state, or its cut of the data plane kept until SAFE_STOP is left (R497, R498). -/
def State.inCrank (s : State) : Bool := s.flag R.PWR_STAT_CRANK || s.pwr.crankLong

/-- The mode a transition in progress leads to, or the mode. -/
def State.modeTarget (s : State) : Nat :=
  match s.md.trans with
  | some x => x.target
  | none => s.mode

/-! ### Power domains (R502) -/

/-- A switch channel is PIN-DRIVEN (11 Table 11.2). -/
def State.pinDriven (s : State) : Bool := switchChannels.any (fun n => s.rd (R.LS_CFG_USE n) = 2)

/-- The domains of Table 15.4 but PD12, as PWR.STAT shows them (bit n: PDn); in CONFIG those of the data and network steps
come on with these steps (Table 15.14), which a worker takes after its Rucksack (R522); a Full reset has switched all off
but PD0, and its release switches them on (R502, R517, R519). -/
def State.domains (s : State) : Nat :=
  let on (l : List Nat) : Nat := l.foldl (fun m n => m + 2 ^ n) 0
  if s.mode = Mode.OFF then 0
  else if s.mode = Mode.SLEEP then
    on ((if s.pinDriven then [0, 3] else [0]) ++ (if s.gn.refresh.isSome then [1, 4] else []))
  else if s.rst.held ∧ s.rd R.RST_STAT_SCOPE = Scope.full then on [0]
  else if s.mode = Mode.TRAILHEAD then on [0, 1, 3, 7, 10, 13]
  else if s.inCrank then on [0, 1, 2, 3, 7, 8, 10, 13]
  else if s.mode = Mode.CONFIG ∧ s.rst.step < 8 then on [0, 1, 2, 3, 7, 10, 13]
  else if s.mode = Mode.SAFE_STOP then on [0, 1, 2, 3, 4, 5, 7, 8, 9, 10, 11, 13]
  else on [0, 1, 2, 3, 4, 5, 6, 7, 8, 9, 10, 11, 13]

/-- The power domains of an island (01 Table 1.5): the MACs of the trunk and the service port, part of island 5,
stand in PD1. -/
def islandPd (isl : Nat) : List Nat :=
  [[], [0], [1], [4], [5], [1, 8], [8], [7], [3], [9]].getD isl []

/-- An island's power domain is on (01 R44). -/
def State.islandPowered (s : State) (isl : Nat) : Bool := (islandPd isl).any (fun d => bitOf s.domains d)

/-- PD of PWR.STAT follows. -/
def State.setDomains (s : State) : State := s.wr R.PWR_STAT_PD s.domains

/-! ### The core rail (R501) -/

/-- The lowest ceiling of Table 15.3 in 5 mV units. -/
def State.railCeiling (s : State) : Nat :=
  let tj := toSigned 8 (s.rd R.PWR_STAT_TJ)
  if 120 ≤ tj then 150 else if 115 ≤ tj then 160 else 180

/-- The core rail's set-point of Table 15.3 in 5 mV units, under the ceiling and never below 0.60 V; in
HARVEST the present set-point within 0.70 to 0.90 V. -/
def State.railFor (s : State) : Nat :=
  let m := s.mode
  let p :=
    if s.flag R.PWR_STAT_CRANK || m = Mode.SAFE_STOP then 130
    else if m = Mode.TRAILHEAD || m = Mode.CONFIG then 150
    else if m = Mode.HARVEST then max 140 (min 180 (s.rd R.PWR_STAT_CORE))
    else 140
  if m = Mode.OFF || m = Mode.SLEEP then 0 else max 120 (min s.railCeiling p)

/-- The rail set anew. -/
def State.setCoreRail (s : State) : State := s.wr R.PWR_STAT_CORE s.railFor

/-! ### Assertion of a reset -/

/-- The fields of an island's status that a Core reset leaves (01 R46, Table 1.9): all but DROPS and RESYNC, which
count and show what happened since the start. -/
def keptIsl (key : Nat) : Bool :=
  let n := key / 256 - 0x1010
  0x1011 ≤ key / 256 && key / 256 ≤ 0x1019 && !(key = R.ISL_STAT_DROPS n || key = R.ISL_STAT_RESYNC n)

/-- Register fields a reset leaves as they are (Table 15.13b): what NAND, MRAM, fuses and the key hold and
the levels of pins, in every scope; the power die, the clocks that the always-on island watches and the supply's
status below Full; the timebase, DRAM controller and canary in Core scope, with the islands held off (01 R16,
R46). -/
def keptReg (scope key : Nat) : Bool :=
  let i := key / 256
  (i = 0xA101 || i = 0xA102 || key = R.UPD_STAT_FLOOR || key = R.BB_STAT_PERM || key = R.BB_STAT_HEAD ||
    key = R.BB_STAT_FULL || key = R.RST_STAT_CYCLES || key = R.RST_STAT_RESETS || key = R.HMP_STAT_KEY ||
    key = R.PC_AGE_COMP ||
    key = R.WH_STAT_PIN || key = R.YM_STAT_LOAD || key = R.WH_STAT_EN || key = R.PWR_STAT_VBAT || key = R.PWR_STAT_TJ ||
    key = R.PWR_STAT_PLATE || key = R.PWR_STAT_OV) ||
  (scope ≤ Scope.system && (i = 0xB000 || key = R.ISL_STAT_CLKOK 1 || key = R.ISL_STAT_CLKOK 8 || (0x7001 ≤ i && i ≤ 0x706E) ||
    (0x8001 ≤ i && i ≤ 0x8108) || i = 0xB001)) ||
  (scope ≤ Scope.core && (i = 0x1000 || i = 0x1001 || keptIsl key ||
    (0x2000 ≤ i && i ≤ 0x2014)))

/-- Memory a reset leaves: MRAM, NAND and the retention RAM always, DRAM and SRAM in Core scope, SRAM in
System scope (Table 15.13b; log entry 41). -/
def keptCell (scope addr : Nat) : Bool :=
  let r := addr / 2 ^ 40
  18 ≤ r || (scope ≤ Scope.system && r ≤ 8) || (scope ≤ Scope.core && r ≤ 17)

/-- An island's crossing after a reset: nothing crosses before its resynchronisation (01 R39). In Core scope the
islands go on, so unread entries stay there for it to discard, and failed restarts and a hold are kept (01 R40,
R46); a wider reset clears both sides (log entry 112). -/
def IslS.afterReset (i : IslS) (core : Bool) : IslS :=
  if core then
    { toIsl := i.toIsl.map (fun x => { x with who := none }), toCore := i.toCore.map (fun x => { x with who := none }),
      fails := i.fails, refusing := i.refusing, needSync := true }
  else { needSync := true }

/-- The "Maximum" column of 03 Table 3.5 in ns after `d` ns of holdover, interpolated linearly. -/
def holdoverMax (d : Nat) : Nat :=
  let lin (d0 e0 d1 e1 : Nat) : Nat := e0 + (d - d0) * (e1 - e0) / (d1 - d0)
  if d ≤ 60000000000 then lin 0 100 60000000000 1000
  else if d ≤ 600000000000 then lin 60000000000 1000 600000000000 60000
  else if d ≤ 3600000000000 then lin 600000000000 60000 3600000000000 1500000
  else if d ≤ 14400000000000 then lin 3600000000000 1500000 14400000000000 10000000
  else 10000000

/-- A bound in the 32 bits of TB.ERR. -/
def capErr (e : Nat) : Nat := min e 0xFFFFFFFF

/-- TB.ERR now (03 R101 to R103; log entry 20): in HOLDOVER and FREE it grows whether a slew runs or not. -/
def State.tbErr (s : State) : Nat :=
  let tb := s.tb
  if s.rd R.TB_STAT_QUAL = 3 then
    match tb.statusAt with
    | none => 0xFFFFFFFF
    | some a =>
      if tb.statusErr = 0xFFFFFFFF ∨ s.now < a + 3000000000 then tb.statusErr
      else capErr (tb.statusErr + (s.now - a) / 1000000000 * 1000)
  else if tb.errBase = 0xFFFFFFFF then 0xFFFFFFFF
  else if s.rd R.TB_STAT_QUAL = 1 then tb.errBase
  else match s.rd R.TB_STAT_QUAL, tb.holdSince with
    | 2, some h =>
      let g := holdoverMax (s.now - h) - holdoverMax (tb.errSince - h)
      capErr (tb.errBase + (if tb.holdSlow then 4 * g else g))
    | _, _ => capErr (tb.errBase + (s.now - tb.errSince) / 1000000)

/-- The timebase stopped: what is left are the real-time counter with the bound last published and the saved harvest
time; `off` says that PD1 is off from here on (03 R104). -/
def State.timeAfter (s : State) (off : Bool) : TimeS :=
  { rtcValid := s.tb.rtcValid, rtcEl := s.tb.rtcEl, rtcHt := s.tb.rtcHt,
    rtcErr := if s.tb.live then s.tbErr else s.tb.rtcErr,
    rtcOff := if off then some (s.tb.rtcOff.getD s.now) else s.tb.rtcOff, nandTime := s.tb.nandTime }

/-- What the black box keeps: its areas and control block in MRAM, operating time in the always-on
island. -/
def BlackBoxS.after (b : BlackBoxS) : BlackBoxS :=
  { perm := b.perm, circ := b.circ, permPos := b.permPos, ctrlA := b.ctrlA, ctrlB := b.ctrlB,
    hoursBase := b.hoursBase, opSince := b.opSince, permFullLogged := b.permFullLogged }

/-- An image whose header sector has been erased: MAGIC reads all ones (14 Table 14.11 step 1). -/
def noHeader (img : ImageIn) : ImageIn := { img with magic := 0xFFFFFFFF }

/-- A key whose write a reset cut short carries no valid header (14 R490). -/
def HamperS.keyAfter (h : HamperS) : Option KeyIn :=
  match h.writing, h.key with
  | some _, some k => some { k with image := noHeader k.image }
  | _, k => k

/-- The state a reset's assertion leaves (Table 15.13b): everything back at its reset value but what the
scope keeps. -/
def State.cleared (s : State) (scope : Nat) : State :=
  let full : Bool := scope = Scope.full
  let core : Bool := scope = Scope.core
  let z : State := {}
  let isl := (List.range 9).map (fun i => (i + 1, ((look s.isl (i + 1)).getD {}).afterReset core))
  { z with
    pending := s.pending, now := s.now, free := s.free, answers := s.answers,
    reg := s.reg.filter (fun e => keptReg scope e.1),
    mem := s.mem.filter (fun c => keptCell scope c.1),
    canary := if core then s.canary else { floorLaps := s.canary.floorLaps },
    isl := isl,
    tb := if core then s.tb else s.timeAfter full,
    whistle := if core then s.whistle else [],
    vd := if full then {} else s.vd,
    ls := if full then { copy := s.ls.copy } else s.ls,
    obs := { saved := s.obs.saved },
    role := if full then {} else s.role,
    bb := s.bb.after,
    pc := { frame := s.pc.frame, inProgress := s.pc.inProgress, stress := s.pc.stress },
    pwr := if full then { wake := s.pwr.wake, wakeOff := s.pwr.wakeOff, svc := s.pwr.svc, ovLogged := s.pwr.ovLogged,
                          capAt := s.pwr.capAt } else s.pwr,
    md := { saved := s.md.saved },
    rst := s.rst,
    hmp := { key := s.hmp.keyAfter, shadow := s.hmp.shadow, serial := s.hmp.serial },
    upd := { inSlot := s.upd.inSlot, actMode := s.upd.actMode, actNow := s.upd.actNow,
             rollback := s.upd.rollback, lastConf := s.upd.lastConf, pdStored := s.upd.pdStored,
             pdCode := if full then 0 else s.upd.pdCode },
    gn := { retain := s.gn.retain },
    gd := if core then { lines := s.gd.lines } else {},
    ym := { cells := s.ym.cells, loads := s.ym.loads, tickets := s.ym.tickets, calNand := s.ym.calNand } }

/-- RST.STAT describes the reset (Table 15.17): RESETS counts those of System and Core scope since the last
of Full scope. -/
def State.resetRecord (s : State) (source scope plane : Nat) : State :=
  let n := if scope = Scope.full then 0
           else satInc 0xFFFF (s.rd R.RST_STAT_RESETS)
  s.wrs [(R.RST_STAT_SOURCE, source), (R.RST_STAT_SCOPE, scope), (R.RST_STAT_PLANE, plane),
    (R.RST_STAT_ESCAL, 0), (R.RST_STAT_RESETS, n)]

/-- The scope of the reset in progress, none when there is none. -/
def State.resetScope (s : State) : Option Nat := if s.rst.held then some (s.rd R.RST_STAT_SCOPE) else none

/-- A reset of Core scope or wider asserted (R516): the outputs act by their reset behaviour, the core is
cleared, the unit is in TRAILHEAD (Table 15.8). The quality that the start will change is the one the timebase
last had (03 R98). A narrower source while a reset is in progress takes
nothing more (the widest scope is taken). -/
def State.assertReset (s : State) (source scope plane : Nat) : State :=
  let wider : Bool := match s.resetScope with
    | some old => old < scope
    | none => true
  let s := { s with rst := { s.rst with clearAt := s.now, assertAt := if wider then s.now else s.rst.assertAt } }
  if !wider then s
  else
    let s := { s with rst := { s.rst with
      qual := if scope = Scope.core || !s.tb.live then s.rst.qual else s.rd R.TB_STAT_QUAL } }
    let s := s.cleared scope
    let s := { s with rst := { s.rst with held := true, sleepWake := false, step := 0 } }
    let s := (s.resetRecord source scope plane).wr R.PROT_STAT_LOCK 0
    let s := if scope = Scope.full then s else (s.resetValves scope).resetSwitches scope
    (s.setCoreRail).setDomains

end Sys2Proof.Machine
end

