-- ==== Sys2Proof/Machine/TimeOps.lean ====
section
/-! DEFINITION. Harvest time's discipline as shared operations (03 R98 to R109): quality, the error
bound, slews and steps. -/

namespace Sys2Proof.Machine

/-- An instant of harvest time lies within 4 ns of a grid of a period through 0 (R110, R116). -/
def onGrid (ht : Int) (period : Nat) : Bool := decide ((ht + 4) % period ≤ 8)

/-- An ANCHOR record for the black box (16 Table 16.3, R534). -/
def State.bbAnchor (s : State) : State :=
  { s with bb := { s.bb with anchorAt := s.hours } }.bbPush
    { typ := 2, payload := leBytes 6 s.hours ++ leBytes 4 (s.rd R.RST_STAT_CYCLES) ++
        [s.rd R.TB_STAT_QUAL, 0] ++ leBytes 8 (ofSigned 64 s.harvest) ++ leBytes 4 s.tbErr }

/-- The time quality changes: published, logged as TB_QUALITY, anchored in the black box (R98). SRCQ
follows on a manager or standalone module (Table 3.4). -/
def State.setQual (s : State) (q : Nat) : State :=
  let old := s.rd R.TB_STAT_QUAL
  if old = q then s
  else
    let s := s.wr R.TB_STAT_QUAL q
    let s := if s.isWorker then s else s.wr R.TB_STAT_SRCQ q
    (s.log 0x2001 [old, q, s.tbErr]).bbAnchor

/-- Harvest time anchored anew at this instant with an offset; from here on an error is removed at 5 ppm, a unit ahead
running slower (R105); 0 runs straight. -/
def State.reanchor (s : State) (add err : Int) : State :=
  { s with tb := { s.tb with
      anchorEl := s.now, anchorHt := s.harvest + add,
      slewDir := if 0 < err then -1 else if err < 0 then 1 else 0, slewErr := err.natAbs } }

/-- A disciplined unit follows its source: the measured offset is removed at no more than 5 ppm, so that harvest time
never runs backwards (R95, R117; DESIGN CHOICE, log entry 117). -/
def State.trim (s : State) (err : Int) : State := (s.reanchor 0 err).wr R.TB_RESID (ofSigned 32 err)

/-- A slew of the measured error starts (R105). -/
def State.startSlew (s : State) (err : Int) : State :=
  ((s.reanchor 0 err).wr R.TB_STAT_SLEWING 1).log 0x2003 [err]

/-- Harvest time steps by the measured error (R95, R106): the step count rises before TB_STEP is stamped
on the new time (R594), every generator goes on from the new time (R108), the next Whistle marker carries STEP (R107),
and the navigation history's stamps shift (08 R291). -/
def State.doStep (s : State) (err : Int) : State :=
  let s := s.reanchor (-err) 0
  let s := { s with ln := { s.ln with firedAt := [], stepHt := some s.harvest } }
  let s := { s with lk := { s.lk with tsmapStep := true } }
  let s := { s with tb := { s.tb with steps := s.tb.steps + 1, ppsStepped := true },
                    whistle := s.whistle.map (fun (p : Nat × WhistleS) =>
                      (p.1, { p.2 with stepDue := p.2.driving })) }
  let s := s.wrs [(R.TB_STAT_SLEWING, 0), (R.TB_STAT_STEP_PENDING, 0)]
  (s.log 0x2002 [-err]).guidanceStepped (-err)

/-- VALID of a Whistle port (Table 3.9): a valid TICK or SECOND within the last 1 ms. -/
def State.whValid (s : State) (port : Nat) : Bool :=
  s.flag (R.TB_WH_VALID port) && match ((look s.whistle port).getD {}).lastValid with
    | some a => decide (s.now ≤ a + 1000000)
    | none => false

/-- The residual at which a unit counts as disciplined: 100 ns by GNSS, 5 ns by the Whistle (R100). -/
def State.goodLimit (s : State) : Int := if s.isWorker then 5 else 100

/-- Discipline reached (Table 3.3): LOCKED on a manager or standalone module, SLAVED on a worker. A
SLAVED worker's bound is unknown until its next time-status message (R103), it sends the Whistle on its downstream
ports again (R121), and COHERENT entries are accepted again (R123). DESIGN CHOICE: TB.ERR of a LOCKED unit is the
measured offset's magnitude plus the solution's estimated error, and RESID holds an offset modulo 2^32 (log
entry 20). -/
def State.becomeGood (s : State) (resid : Int) : State :=
  let s := s.reanchor 0 0
  let s := s.wrs [(R.TB_STAT_SLEWING, 0), (R.TB_STAT_STEP_PENDING, 0), (R.TB_STAT_EPOCH_UNKNOWN, 0),
                  (R.TB_RESID, ofSigned 32 resid)]
  let s := { s with tb := { s.tb with
      goodSince := some s.now, holdSince := none, statusAt := none, back := false,
      errBase := capErr (resid.natAbs + s.rd R.GN_TSTAT_TERR), errSince := s.now } }
  let s := s.setQual (if s.isWorker then 3 else 1)
  if s.isWorker then
    let drive := fun (p : Nat × WhistleS) => (p.1, { p.2 with
      driving := p.2.driving || (s.tb.whLost && s.rd (R.TB_WH_ROLE p.1) = 2) })
    ({ s with tb := { s.tb with whLost := false }, whistle := s.whistle.map drive,
              ln := { s.ln with cohRefused := false, lossAt := none } }).cohRestored
  else s

/-- The step condition of R106 and R107 on this unit's mode and queue; a manager also asks that every
worker's queue is empty, a worker judges its own alone (R123). -/
def State.mayStep (s : State) (othersEmpty : Bool) : Bool :=
  ([Mode.SLEEP, Mode.CONFIG, Mode.SERVICE].contains s.mode || (s.mode = Mode.FIELD_IDLE && s.queued = 0)) &&
    (s.isWorker || othersEmpty)

/-- A returned source's error is slewed or stepped (R101, R105, R106, R123). -/
def State.sourceBack (s : State) (err : Int) (othersEmpty : Bool) : State :=
  let s := { s with tb := { s.tb with srcGood := true, srcLost := none, back := true } }
  let s := s.wr R.TB_RESID (ofSigned 32 err)
  if err = 0 then s.becomeGood 0
  else if err.natAbs ≤ 1000000 then s.startSlew err
  else if s.mayStep othersEmpty then (s.doStep err).becomeGood 0
  else (s.startSlew err).wr R.TB_STAT_STEP_PENDING 1

/-- The source fails again before the slew ends or the step is made (R101): the 4 h count goes on from the entry. -/
def State.abandonSlew (s : State) : State :=
  let e := s.tbErr
  let s := s.reanchor 0 0
  let s := s.wrs [(R.TB_STAT_SLEWING, 0), (R.TB_STAT_STEP_PENDING, 0)]
  { s with tb := { s.tb with srcGood := false, back := false, errBase := e, errSince := s.now } }

/-- Entry into HOLDOVER (Table 3.3, R102): the bound is the error at the entry plus the 100 ns of
Table 3.5's first row; less than 10 min of discipline before it makes the growth four times faster. -/
def State.enterHoldover (s : State) : State :=
  let e := s.tbErr
  let long : Bool := match s.tb.goodSince with
    | some g => g + 600000000000 ≤ s.now
    | none => false
  let s := { s with tb := { s.tb with
      srcGood := false, back := false, goodSince := none, holdSince := some s.now, holdSlow := !long,
      errBase := if e = 0xFFFFFFFF then e else capErr (e + 100), errSince := s.now } }
  s.setQual 2

/-- TB.ERR and HOLD_MIN written with their values of this instant (Table 3.4). -/
def State.timeRegs (s : State) : State :=
  let hm := match s.rd R.TB_STAT_QUAL, s.tb.holdSince with
    | 2, some h => min 0xFFFF ((s.now - h) / 60000000000)
    | _, _ => 0
  s.wrs [(R.TB_ERR, s.tbErr), (R.TB_STAT_HOLD_MIN, hm)]

/-- The real-time counter set to harvest time and the bound last published (R104). -/
def State.calibrateRtc (s : State) : State :=
  { s with tb := { s.tb with rtcValid := true, rtcEl := s.now, rtcHt := s.harvest, rtcErr := s.tbErr } }

/-- Harvest time loaded at a start or a wake (R104): from the real-time counter while it is valid, with the
bound last published plus 100 ppm of the time without PD1, else from NAND. -/
def State.loadTime (s : State) : State :=
  let v := s.tb.rtcValid
  let ht : Int := if v then s.tb.rtcHt + ((s.now - s.tb.rtcEl : Nat) : Int) else s.tb.nandTime
  let err : Nat := if v then capErr (s.tb.rtcErr + (s.now - s.tb.rtcOff.getD s.now) / 10000) else 0xFFFFFFFF
  let tb := { s.tb with anchorEl := s.now, anchorHt := ht, slewDir := 0, slewErr := 0, errBase := err,
                        errSince := s.now, rtcOff := none, live := true }
  ({ s with tb := tb }.wr R.TB_STAT_EPOCH_UNKNOWN (bit01 (!v))).wr R.TB_ERR err

end Sys2Proof.Machine
end

