-- ==== Sys2Proof/Machine/LateOps.lean ====
section
/-! DEFINITION. What a stalled, held or restarted island and a cut of the data plane mean to the units on it
(01 R42 to R47; 07 R278; 09 R351; 12 R416, R430; 15 R497, R498; 17 R568), and the baseband's start. -/

namespace Sys2Proof.Machine

/-! ### The baseband -/

/-- Horizontal speed of the latest solution, m/s. -/
def State.pvtSpeed (s : State) : Rat :=
  match s.gn.pvt with
  | some p => sqrtQ (f32 (p.vel.getD 0 0) * f32 (p.vel.getD 0 0) +
      f32 (p.vel.getD 1 0) * f32 (p.vel.getD 1 0))
  | none => 0

/-- The GNSS velocity that substitutes ego-motion, a single (04 R164). -/
def State.gnssSpeed (s : State) : Nat := toF32 s.pvtSpeed

/-- The latest solution is FLOAT or FIXED. -/
def State.gnssFloatFix (s : State) : Bool := 3 ≤ s.soln

/-- Validity of GNSS time changes (07 R273). -/
def State.setTvalid (s : State) (v : Bool) : State :=
  if s.flag R.GN_STAT_TVALID = v then s
  else (s.wr R.GN_STAT_TVALID (bit01 v)).log 0x5008 [bit01 v, s.rd R.GN_TSTAT_TERR] 3

/-- SOLN changes (07 R266). -/
def State.setSoln (s : State) (new nsv : Nat) : State :=
  let old := s.rd R.GN_STAT_SOLN
  if old = new then s else (s.wr R.GN_STAT_SOLN new).log 0x5003 [old, new, nsv] 3

/-- GNSS time has gone without a word to the timebase (07 R278; 03 R100). -/
def State.gnssTimeGone (s : State) : State :=
  if s.isWorker || !s.tb.srcGood then s
  else { s with tb := { s.tb with srcLost := some s.now, srcGood := false } }

/-- At S4 every channel that holds a signal and does not contribute is released (07 R259). -/
def State.releaseIdle (s : State) : State :=
  s.gn.ch.foldl (fun (s : State) (p : Nat × ChanS) =>
    if s.rd R.CORE_PACE_SHED ≠ 4 || s.rd (R.GN_CH_STAT_STATE p.1) = 0 || s.flag (R.GN_CH_STAT_INSOL p.1) then s
    else
      let c : ChanS := { (look s.gn.ch p.1).getD {} with due := false, run := 0, lockAt := none, pullAt := none }
      ({ s with gn := { s.gn with ch := ins s.gn.ch p.1 c } }).wrs [(R.GN_CH_STAT_STATE p.1, 4), (R.GN_CH_STAT_HALF p.1, 0)]) s

/-- Every channel that holds a signal goes to STATE 5 (07 R278). -/
def State.loseChannels (s : State) : State :=
  s.gn.ch.foldl (fun (s : State) (p : Nat × ChanS) =>
    if s.rd (R.GN_CH_STAT_STATE p.1) = 0 then s else s.wr (R.GN_CH_STAT_STATE p.1) 5) s

/-- The start type of Table 7.11: 0 hot, 1 warm, 2 cold. -/
def State.startType (s : State) : Nat :=
  let young := fun (a : Option Int) (lim : Int) => match a with
    | some x => decide (s.harvest - x ≤ lim)
    | none => false
  match (if s.tb.rtcValid then s.gn.retain else none) with
  | some r =>
    if r.hot || (young r.ephAt 14400000000000 && s.tbErr ≤ 2000000000) then 0
    else if young r.almAt 2592000000000000 && s.tbErr ≤ 60000000000 then 1
    else 2
  | none => 2

/-- The baseband starts (07 R252, R275, R276): from a valid retention record, antennas biased as the Hamper
says. A record whose CRC fails is ignored. -/
def State.startGnss (s : State) (t0 : Nat) (bad : Option (Nat × Nat)) : State :=
  if !s.flag R.GN_CFG_EN then s
  else
    let s := match s.gn.retain, bad with
      | some _, some b => ({ s with gn := { s.gn with retain := none } }).log 0x500C [b.1, b.2] 3
      | _, _ => s
    let g := s.gn
    let typ := s.startType
    let n : GnssS :=
      { retain := g.retain, on := true, t0, begun := s.now, steps := s.tb.steps,
        ephAt := g.retain.bind (fun (r : RetainS) => r.ephAt),
        almAt := g.retain.bind (fun (r : RetainS) => r.almAt),
        nav := (g.retain.map (fun (r : RetainS) => r.nav)).getD [],
        drift := (g.retain.map (fun (r : RetainS) => r.drift)).getD 0,
        baseline := (g.retain.map (fun (r : RetainS) => r.baseline)).getD 0,
        tcoh := (g.retain.map (fun (r : RetainS) => r.tcoh)).getD [], retainAt := s.now,
        ant := [(1, { onAt := s.now }), (2, { onAt := s.now })] }
    { s with gn := n }.wrs [(R.GN_STAT_START, typ), (R.GN_STAT_RETAIN, bit01 (g.retain.isSome && s.tb.rtcValid)),
      (R.GN_STAT_ANT1, if s.rd R.GN_CFG_ANT1_BIAS = 0 then 0 else 1),
      (R.GN_STAT_ANT2, if s.rd R.GN_CFG_ANT2_BIAS = 0 then 0 else 1)]

/-- The baseband loses power: no channel, no solution, no time (07 R252); its working data in DRAM stays. -/
def State.stopGnss (s : State) : State :=
  if !s.gn.on then s
  else
    let s := ((s.setSoln 0 0).setTvalid false).gnssTimeGone.wrs [(R.GN_STAT_HEADQ, 0), (R.GN_STAT_CORSRC, 7),
      (R.GN_STAT_AGE, 0xFFFF), (R.GN_STAT_NSV_USED, 0), (R.GN_TSTAT_TERR, 0xFFFFFFFF), (R.GN_STAT_ANT1, 0),
      (R.GN_STAT_ANT2, 0)]
    let s := s.clearRegs (fun k => 0x5400 ≤ k / 256 && k / 256 ≤ 0x57FF)
    { s with gn := { retain := s.gn.retain, ephAt := s.gn.ephAt, almAt := s.gn.almAt, tcoh := s.gn.tcoh,
                     baseline := s.gn.baseline, nav := s.gn.nav, drift := s.gn.drift } }

/-- The baseband starts again after its power was cut: hot, from its working data (15 R497; 07 R278). -/
def State.resumeGnss (s : State) : State :=
  let g := s.gn
  let s := s.startGnss s.now none
  if s.gn.on then
    { s with gn := { s.gn with ephAt := g.ephAt, almAt := g.almAt, tcoh := g.tcoh, baseline := g.baseline,
                                nav := g.nav, drift := g.drift } }.wr
      R.GN_STAT_START 0
  else s

/-- The retention record written (07 R275): at SLEEP entry, every 10 min with a solution, after a refresh. -/
def State.writeRetention (s : State) : State :=
  if !s.gn.on then s
  else
    let r : RetainS :=
      { at_ := s.harvest, ephAt := s.gn.ephAt, almAt := s.gn.almAt,
        lat := (s.gn.pvt.map (fun (p : PvtS) => p.lat)).getD 0,
        lon := (s.gn.pvt.map (fun (p : PvtS) => p.lon)).getD 0,
        vel := (s.gn.pvt.map (fun (p : PvtS) => p.vel)).getD [], baseline := s.gn.baseline,
        tcoh := s.gn.tcoh, drift := s.gn.drift, nav := s.gn.nav,
        utc := if s.flag R.TB_UTCOFF_KNOWN then
                 some (toSigned 16 (s.rd R.TB_UTCOFF_OFFSET), s.rd R.TB_UTCOFF_LEAP) else none }
    { s with gn := { s.gn with retain := some r, retainAt := s.now } }

/-- The retention RAM is invalid after VBAT below 3 V (15 R516). -/
def State.loseRetention (s : State) : State := { s with gn := { s.gn with retain := none } }

/-- A refresh in SLEEP ends (07 R277): the retention record and the real-time counter renewed, the timebase
and the baseband off again, the quality held until the wake makes it FREE (03 Table 3.3). Results: 0 fix, 1 no fix, 2
ended by a wake. -/
def State.endRefresh (s : State) (result : Nat) : State :=
  let g := s.gn
  let s := s.writeRetention
  let s := { s with gn := { s.gn with retain := s.gn.retain.map (fun (r : RetainS) => { r with hot := result = 2 }) } }
  let s := (s.log 0x500A [result] 3).timeRegs
  let s := s.calibrateRtc.stopGnss
  let s := { s with gn := { s.gn with sleepRefresh := g.sleepRefresh, refreshFrom := g.refreshFrom } }
  let s := { s with tb := s.timeAfter true, rst := { s.rst with qual := s.rd R.TB_STAT_QUAL } }
  (s.wrs [(R.TB_STAT_QUAL, 0), (R.TB_STAT_SRCQ, 0), (R.TB_STAT_SLEWING, 0), (R.TB_STAT_STEP_PENDING, 0)]).setDomains

/-! ### Links and the fleet -/

/-- The Ethernet, field-node and trunk data links of island 5 are down (12 R430). -/
def State.netDown (s : State) : State :=
  let s := (List.range 6).foldl (fun (s : State) (i : Nat) => s.wr (R.ETH_STAT_LINK (i + 1)) 0) s
  let s := (List.range 12).foldl (fun (s : State) (i : Nat) =>
    if s.rd (R.FNP_STAT_STATE (i + 1)) = 3 then s.wr (R.FNP_STAT_STATE (i + 1)) 2 else s) s
  (List.range 4).foldl (fun (s : State) (i : Nat) =>
    if s.flag (R.TK_STAT_LINK (i + 1)) then
      let v := (look s.lk.trunk (i + 1)).getD {}
      let s := { s with lk := { s.lk with trunk := ins s.lk.trunk (i + 1) { v with downAt := some s.now } } }
      (s.wr (R.TK_STAT_LINK (i + 1)) 0).bump (R.TK_STAT_DOWNS (i + 1)) 0xFFFF
    else s) s

/-- Every CAN channel out of service, its signals missing (12 R416). -/
def State.canDown (s : State) : State :=
  let s := { s with lk := { s.lk with sig := [] } }
  (List.range 10).foldl (fun (s : State) (i : Nat) =>
    if s.rd (R.CAN_STAT_STATE (i + 1)) = 0 then s else s.wr (R.CAN_STAT_STATE (i + 1)) 6) s

/-- The CAN channels rejoin their buses with their FIFOs, the counter from 0 (12 R416, R417). -/
def State.canUp (s : State) : State :=
  let s := { s with lk := { s.lk with canFrom := s.now, tsmapStep := true, tsmapAt := none } }
  (List.range 10).foldl (fun (s : State) (i : Nat) =>
    if s.rd (R.CAN_STAT_STATE (i + 1)) = 6 then s.wr (R.CAN_STAT_STATE (i + 1)) 1 else s) s

/-- A fleet connection is down, or an attempt on it fails: FL_LINK for one that was up, and the next
attempt after its wait, doubled for the one after it
up to RETRY_MAX; the wait is 5 s again after 60 s up (17 R568). -/
def State.fleetDown (s : State) (conn : Nat) : State :=
  let key := if conn = 0 then R.FL_STAT_SESS else R.FL_STAT_MQTT
  let c := (look s.fl.conn conn).getD {}
  let wait := if s.rd key = 2 ∧ c.upAt + 60000000000 ≤ s.now then 5 else c.wait
  let next : ConnS := { wait := min (s.rd R.FL_CFG2_RETRY_MAX) (2 * wait), tryAt := s.now + wait * 1000000000,
                        upAt := 0 }
  if s.rd key = 0 then s
  else if s.rd key = 1 then { s with fl := { s.fl with conn := ins s.fl.conn conn next } }.wr key 0
  else
    let s := ({ s with fl := { s.fl with conn := ins s.fl.conn conn next } }).wr key 0
    s.log 0xA040 [conn, 0, s.rd R.FL_STAT_VIA_WLAN]

/-! ### Islands -/

/-- An island has stalled or is held off (01 Table 1.8). -/
def State.islandDown (s : State) (isl : Nat) : State :=
  match isl with
  | 3 => if s.gn.on then (s.loseChannels.setTvalid false).gnssTimeGone else s
  | 4 => s.camsDown Cam.STALLED
  | 5 => s.netDown
  | 6 => s.canDown
  | 9 => (s.fleetDown 0).fleetDown 1
  | _ => s

/-- An island's crossing works again after a block restart (01 R46; 07 R278; 09 R351; 12 R416). -/
def State.islandUp (s : State) (isl : Nat) : State :=
  match isl with
  | 3 => if s.gn.on then
      { s with gn := { s.gn with t0 := s.now, fixed1 := false } }.wr R.GN_STAT_START 0 else s
  | 4 => s.startCams
  | 6 => s.canUp
  | _ => s

/-- An island's crossing state. -/
def State.island (s : State) (n : Nat) : IslS := (look s.isl n).getD {}

/-- An island's crossing state written. -/
def State.setIsland (s : State) (n : Nat) (v : IslS) : State := { s with isl := ins s.isl n v }

/-- Each of a list of requesters receives ISL_STALL (R40, R45). DESIGN CHOICE: STALLS counts, and the mirror logs,
timeouts and refusals (R42, R43); a transfer that a restart or a resynchronisation ends is answered alone (log
entry 113). -/
def State.failTransfers (s : State) (l : List Nat) : State :=
  l.foldl (fun s r => s.answer (.master r) 0x1001) s

/-- An entry nobody waits on any more. -/
def XferS.orphan (x : XferS) : XferS := { x with who := none }

/-- A block-scope restart of island 3, 4, 5, 6 or 9 (R45, R46, Table 1.8): transfers in flight end with ISL_STALL,
their unread entries staying for the resynchronisation; the third failed restart within 60 s holds the island
off. DESIGN CHOICE: RESTARTS stops at 255 (Table 1.9 says so of the other counters; log entry 113). -/
def State.blockRestart (s : State) (isl : Nat) (ok : Bool) : State :=
  let i := s.island isl
  let flight := i.toIsl ++ i.toCore ++ i.waiting.map (fun p => p.2)
  let s := (s.failTransfers (flight.filterMap (fun x => x.who))).bump (R.ISL_STAT_RESTARTS isl) 255
  let i := { i with toIsl := i.toIsl.map XferS.orphan, toCore := i.toCore.map XferS.orphan, waiting := [],
                    needSync := true }
  if ok then
    ((s.setIsland isl i).wrs [(R.ISL_STAT_CLKOK isl, 1), (R.ISL_STAT_RUN isl, 1)]).islandDown isl
  else
    let fails := (i.fails.filter (fun f => s.now < f + 60000000000)) ++ [s.now]
    let s := (s.setIsland isl { i with fails := fails, refusing := true }).islandDown isl
    if 3 ≤ fails.length then
      (s.wrs [(R.ISL_STAT_HELD isl, 1), (R.ISL_STAT_RUN isl, 0)]).log 0x1004
        [isl, s.rd (R.ISL_STAT_RESTARTS isl)]
    else s

/-- Blocks beside the islands that own memory (02 Tables 2.5 and 2.11; log entry 104). -/
abbrev Blk.TENSOR : Nat := 10
abbrev Blk.ISP : Nat := 11
abbrev Blk.GUIDE : Nat := 12
abbrev Blk.MANAGE : Nat := 13

/-- The block that owns a memory region, 0 for the control plane's (02 Tables 2.5 and 2.11; log entry 104): an
island by its number, or one of the four above. -/
def regionBlock (region : Nat) : Nat :=
  [0, Blk.TENSOR, 4, 3, 5, Blk.MANAGE, 0, 0, 0, 0, 4, Blk.ISP, Blk.TENSOR, 3, Blk.GUIDE, 5, Blk.MANAGE, 0, Blk.MANAGE,
    Blk.MANAGE, 3].getD region 0

/-- The tensor fabric starts again: the streams that wait for a network and the observer step under way are gone. -/
def State.restartTensor (s : State) : State :=
  { s with cams := { s.cams with cam := s.cams.cam.map (fun (p : Nat × CamS) => (p.1, { p.2 with tensor := [] })) },
           obs := { s.obs with step := none, taken := [] } }

/-- The ISP cores start again: each unit under way ends and its frame is dropped, as in 09 R345. -/
def State.restartIsp (s : State) : State :=
  let units := s.cams.core.filterMap (fun (p : Nat × CoreS) => p.2.cur)
  { s with cams := { s.cams with
      core := s.cams.core.map (fun (p : Nat × CoreS) => (p.1, { p.2 with cur := none })),
      cam := s.cams.cam.map (fun (p : Nat × CamS) =>
        (p.1, { p.2 with frames := p.2.frames.filter (fun f => !units.contains (p.1, f.fno)) })) } }

/-- The guidance and yield processors start again: the line store in DRAM and what NAND holds stay. -/
def State.restartGuide (s : State) : State :=
  { s with gd := { lines := s.gd.lines },
           ym := { cells := s.ym.cells, loads := s.ym.loads, tickets := s.ym.tickets,
                   calNand := s.ym.calNand } }.clearRegs (fun k => k / 256 = 0x5104 || k / 256 = 0x5105)

/-- The management processors start again: every session is gone. -/
def State.restartManage (s : State) : State :=
  { s with ses := { cfg := s.ses.cfg, nextNum := s.ses.nextNum, gate := s.ses.gate } }.clearRegs (fun k =>
    k = R.SES_STAT_OPEN || (0x9F00 ≤ k / 256 && k / 256 ≤ 0x9FFF))

/-- A block restarts without a failed clock (02 Table 2.11; 15 R516): an island as in 01 R46 unless it is held
off, another block by losing what it was doing (log entry 104). -/
def State.restartBlock (s : State) (block : Nat) : State :=
  if [3, 4, 5, 6, 9].contains block then
    (if s.flag (R.ISL_STAT_HELD block) then s else s.blockRestart block true)
  else if block = Blk.TENSOR then s.restartTensor
  else if block = Blk.ISP then s.restartIsp
  else if block = Blk.GUIDE then s.restartGuide
  else if block = Blk.MANAGE then s.restartManage
  else s

/-! ### The crank state (15 R497, R498) -/

/-- The data-plane domains are cut: baseband, cameras, field-node power, radios. -/
def State.dataCut (s : State) : State :=
  let s := (s.stopGnss).camsDown Cam.MISSING
  let s := (List.range 12).foldl (fun (s : State) (i : Nat) =>
    if s.rd (R.FNP_STAT_STATE (i + 1)) = 0 then s else s.wr (R.FNP_STAT_STATE (i + 1)) 0) s
  (s.fleetDown 0).fleetDown 1

/-- Nothing crosses to islands that were off before their resynchronisation (01 R39). -/
def State.needSyncs (s : State) (l : List Nat) : State :=
  { s with isl := l.foldl (fun (m : List (Nat × IslS)) (n : Nat) =>
      ins m n { (look m n).getD {} with needSync := true }) s.isl }

/-- The data plane released again: its islands' crossings are to be resynchronised, the baseband starts hot, links are
trained, field-node ports detect. -/
def State.dataReleased (s : State) : State :=
  let s := ((s.needSyncs [3, 4, 9]).resumeGnss).startCams
  (List.range 12).foldl (fun (s : State) (i : Nat) =>
    if s.flag (R.FNP_CFG_EN (i + 1)) then s.wr (R.FNP_STAT_STATE (i + 1)) 1 else s) s

/-! ### Live fields with a rule of their own -/

/-- The rule of a live field beside its field map (14 Table 14.9, R485): OPMIN and OPMAX within MIN to MAX
and in order, MAX of a session class not below its RESERVE. -/
def State.liveRule (s : State) (key v : Nat) : Bool :=
  let i := key / 256
  let sub := key % 256
  if 0x3200 ≤ i ∧ i ≤ 0x34FF ∧ (sub = 3 ∨ sub = 4) then
    let n := (i - 0x3200) / 16
    let x := (i - 0x3200) % 16
    let lo := if sub = 3 then f32 v else s.rdF (R.FN_SP_OPLIM_OPMIN n x)
    let hi := if sub = 4 then f32 v else s.rdF (R.FN_SP_OPLIM_OPMAX n x)
    decide (s.rdF (R.FN_SP_LIM_MIN n x) ≤ lo) && decide (lo ≤ hi) && decide (hi ≤ s.rdF (R.FN_SP_LIM_MAX n x))
  else if 0x9E30 ≤ i ∧ i ≤ 0x9E34 ∧ sub = 2 then s.rd (i * 256 + 1) ≤ v
  else true

/-- A live write of any field (14 R484): a camera's crops by 09 R337, the others by their map and rule. -/
def State.liveAny (s : State) (num key v : Nat) (admitted : Bool) : State :=
  let i := key / 256
  let j := key % 256 - 1
  if 0x6101 ≤ i ∧ i ≤ 0x6110 ∧ j < 28 ∧ 3 ≤ j % 7 then s.cropWrite num (i - 0x6100) (j / 7) (j % 7 - 3) v
  else s.liveWrite num key v (admitted && s.liveRule key v)

end Sys2Proof.Machine
end

