-- ==== Sys2Proof/Machine/Planes.lean ====
section
/-! DEFINITION. The commands of 02: setpoint board, status mirror, protection table, memories and the
DRAM arbiter. -/

namespace Sys2Proof.Machine

/-! ### The setpoint board -/

/-- SPB_PUBLISH (R50, R53, R183; 05 R188): the unpublished side is filled and the index written. -/
def execSpbPublish (t fn : Nat) (side : SideIn) (s : State) : Host.Outcome State Fault Refusal :=
  let x : Side := { sps := side.sps, ffs := side.ffs, seq := side.seq, computed := side.computed,
                    obsOk := side.obsOk, authHalf := side.authHalf, dstep := side.dstep }
  .next ((s.begin t).publishSide fn x)

/-! ### The status mirror -/

/-- Objects of the control plane (R62): launch, functions, loops, valves, switches, inputs. -/
def controlKey (key : Nat) : Bool :=
  let i := key / 256
  (0x2300 ≤ i && i ≤ 0x230F) || (0x3100 ≤ i && i ≤ 0x34FF) || (0x4000 ≤ i && i ≤ 0x4104) ||
    (0x7001 ≤ i && i ≤ 0x706E) || (0x8001 ≤ i && i ≤ 0x8108) || (0xB011 ≤ i && i ≤ 0xB028)

/-- The engines' busy shares of the last 1 s (06 Table 6.11). -/
def State.showLoads (s : State) : State :=
  [0, 1, 2, 3, 4].foldl (fun (s : State) (e : Nat) =>
    let ns := ((s.eng.busy.filter (fun q => q.1 = e && s.now < q.2.1 + 1000000000)).map (fun q => q.2.2)).sum
    s.wr (R.CE_E_STAT_LOAD e) (min 200 (ns / 5000000))) s

/-- MIRROR_SNAPSHOT_REFRESH (R62): the control plane's status objects, the fields that follow time brought up to it,
copied at one instant. -/
def execMirrorSnapshotRefresh (t : Nat) (s : State) : Host.Outcome State Fault Refusal :=
  let s := (s.begin t).switchTimed.showLoads
  .next { s with mirror := { s.mirror with snapshot := s.reg.filter (fun e => controlKey e.1), snapAt := some s.now } }

/-- A worker's function stops or restarts, as its events tell the manager (R69): a stop of F27 disengages guidance
(08 R298), F29 found running together with F08 is stopped (05 R182). -/
def State.remoteFn (s : State) (code : Nat) (payload : List Int) (stamp : Int) : State :=
  match code, payload with
  | 0x3040, [f, c] =>
    let s := s.setFn f.toNat { s.fnS f.toNat with remote := false }
    if f = 27 && c ≠ 1 && c ≠ 2 then s.disengage 10 (some stamp) else s
  | 0x3041, [f, _] =>
    let s := s.setFn f.toNat { s.fnS f.toNat with remote := true }
    if f = 8 ∨ f = 29 then s.judgeInterlock (some stamp) else s
  | _, _ => s

/-- EVENT_ARRIVE (R63 to R66, R73, R594): an event reaches the mirror some time after the instant its
stamp records. A worker relays the event of a unit below it to its upstream unit (12 R436). -/
def execEventArrive (t : Nat) (ev : EventIn) (s : State) : Host.Outcome State Fault Refusal :=
  let s := s.begin t
  let e : Event := { stamp := ev.stamp, code := ev.code, island := ev.island, unit := ev.unit,
                     escalated := ev.escalated, fault := ev.fault || alwaysFault ev.code,
                     payload := ev.payload, steps := ev.steps, due := s.now - ev.age + 50000, input := ev.stamp }
  .next (
    if ev.unit = s.role.unit then s.ownEvent e
    else if s.isWorker then s.answer (.trunk 0) 0x60 (e.record.map Int.ofNat)
    else (s.remoteFn ev.code ev.payload ev.stamp).arrive e)

/-- Every event that is due leaves the window, first event first (R65). -/
def State.releaseDue : Nat → State → State
  | 0, s => s
  | n + 1, s =>
    match firstEvent (s.mirror.window.filter (fun e => e.due ≤ s.now)) with
    | none => s
    | some e =>
      State.releaseDue n
        ({ s with mirror := { s.mirror with window := windowWithout s.mirror.window e } }.release e false)

/-- What a session's carrier has taken from its output queue. -/
def State.drain (s : State) (num n : Nat) : State :=
  { s with ses := { s.ses with open_ := s.ses.open_.map (fun (p : Nat × SessionS) =>
      (p.1, if p.2.num = num then { p.2 with outq := p.2.outq.drop n } else p.2)) } }

/-- EVENT_RELEASE (R65 to R68): the due events are released in key order. `sent` says how many items each
session's carrier has taken before it. -/
def execEventRelease (t : Nat) (sent : List (Nat × Nat)) (s : State) : Host.Outcome State Fault Refusal :=
  let s := sent.foldl (fun s p => s.drain p.1 p.2) (s.begin t)
  .next (State.releaseDue s.mirror.window.length s)

/-! ### Protection -/

/-- A write to the protection table with the latch set (R75). -/
def State.lockedWrite (s : State) (master : Nat) : State := s.log 0x1020 [master]

/-- PROT_WRITE (R75): with the latch set the write is refused and logged; before that Trailhead fills
the table. -/
def execProtWrite (t master entry rights : Nat) (s : State) : Host.Outcome State Fault Refusal :=
  let s := s.begin t
  .next (
    if s.flag R.PROT_STAT_LOCK then (s.lockedWrite master).answer (.master master) 0x1020
    else { s with prot := { s.prot with removed := ins s.prot.removed entry rights } })

/-- The group of a master: 0 control (0 to 7), 1 data (8 to 15), 2 management (16 to 18), 3 network and
radio DMA (19, 20); the numbers follow 02's list (log entry 19). -/
def masterGroup (m : Nat) : Nat := if m ≤ 7 then 0 else if m ≤ 15 then 1 else if m ≤ 18 then 2 else 3

/-- Rights of a group over a region: bit 0 read, bit 1 write (Table 2.5). -/
def defaultRights (group region : Nat) : Nat :=
  ([[3, 0, 0, 0], [0, 3, 0, 0], [0, 3, 0, 0], [0, 3, 0, 0], [0, 0, 3, 3], [0, 0, 3, 0], [1, 2, 0, 0],
    [1, 1, 2, 0], [2, 2, 1, 0], [3, 0, 1, 0], [0, 3, 1, 0], [0, 3, 1, 0], [0, 3, 1, 0], [0, 3, 1, 0],
    [0, 3, 1, 0], [0, 1, 3, 3], [0, 1, 3, 0], [0, 0, 0, 0], [0, 0, 3, 0], [0, 0, 3, 0], [0, 3, 1, 0],
    [0, 0, 1, 0]].getD region []).getD group 0

/-- The row of Table 2.5 a region stands in. -/
def regionRow (region : Nat) : Nat :=
  [0, 1, 1, 1, 2, 3, 4, 5, 6, 7, 8, 8, 8, 8, 8, 9, 10, 11, 12, 13, 14, 15].getD region 16

/-- Whether a master may read or write a region (R76, R77): Table 2.5 less what the Hamper removes; of the
data masters only the GNSS correlators and navigation (12, 13) reach the retention RAM. -/
def State.mayAccess (s : State) (master region : Nat) (write : Bool) : Bool :=
  let g := masterGroup master
  let r := defaultRights g region
  let cut := (look s.prot.removed (g * 64 + regionRow region)).getD 0
  let b := if write then 1 else 0
  bitOf r b && !bitOf cut b && !(region = 20 && g = 1 && !(master = 12 || master = 13))

/-- The memory a region belongs to: 0 SRAM, 1 DRAM, 2 MRAM, 3 NAND, 4 retention RAM. -/
def memoryOf (region : Nat) : Nat :=
  if region ≤ 8 then 0 else if region ≤ 17 then 1 else if region = 18 then 2 else if region = 19 then 3 else 4

/-- Where a region begins in its memory: the DRAM regions in the fixed order of Table 2.8, at whole granules (R80);
the SRAM partitions in the order of Table 2.7, which gives them no offsets (log entry 115). -/
def State.regionBase (s : State) (region : Nat) : Nat :=
  let dram := fun (k : Nat) => 67108864 * sumNat (s.prot.dram.take k)
  match region with
  | 0 => 41943040
  | 2 => 48234496
  | 3 => 54525952
  | 4 => 58720256
  | 5 => 62914560
  | 9 => dram 5
  | 10 => dram 0
  | 11 => dram 1
  | 12 => dram 2
  | 13 => dram 3
  | 14 => dram 4
  | 15 => dram 6
  | 16 => dram 7
  | 17 => dram 8
  | _ => 0

/-- The master that owns a region, as MEM_ECC_UNCORR names it (Table 2.14; log entries 19 and 115): the launch
scheduler for the control plane's, the tensor fabric, camera ingress, GNSS correlators, network DMA, the management
processors; of DRAM an ISP core, the navigation and the guidance processors besides; the black box writer for
MRAM. -/
def regionOwner (region : Nat) : Nat :=
  [5, 11, 8, 12, 19, 16, 14, 16, 16, 5, 8, 9, 11, 13, 14, 19, 16, 16, 17, 16, 12, 16].getD region 16

/-- A single-bit error corrected, counted, logged at most once per memory per 1 s (R82, Table 2.14). -/
def State.eccCorrected (s : State) (memory offset : Nat) : State :=
  let n := (look s.ecc.corrected memory).getD 0 + 1
  let s := { s with ecc := { s.ecc with corrected := ins s.ecc.corrected memory n } }
  s.logOnce 0x1030 memory 1000000000 [memory, offset]

/-- A denied access (R76, Table 2.6): counted, and logged at most once per master per 1 ms. -/
def State.denyAccess (s : State) (master region : Nat) (write : Bool) : State :=
  (((s.bump R.PROT_STAT_DENIALS 0xFFFF).wr R.PROT_STAT_LAST_MASTER master).logOnce 0x1021 master 1000000
    [master, region, bit01 write]).answer (.master master) 0x1021

/-- MASTER_ACCESS (R54, R75, R76, R82, R92): checked against the protection table; `ecc` is what the word's
check shows, at a read as at a write into it: 0 good, 1 single-bit, 2 uncorrectable, when the block that owns the
region restarts and nothing is written. -/
def execMasterAccess (t master region offset : Nat) (write : Bool) (value : Byte) (ecc : Nat) (s : State) :
    Host.Outcome State Fault Refusal :=
  let s := s.begin t
  if !s.mayAccess master region write then
    let s := if write && region = 21 && s.flag R.PROT_STAT_LOCK then s.lockedWrite master else s
    .next (s.denyAccess master region write)
  else if s.regionSize region ≤ offset then .fault (.noSuchAddress region offset)
  else if ecc = 2 then
    .next (((s.log 0x1031 [memoryOf region, s.regionBase region + offset, regionOwner region]).restartBlock
      (regionBlock region)).answer (.master master) 0x1031)
  else
    let s := if ecc = 1 then s.eccCorrected (memoryOf region) (s.regionBase region + offset) else s
    if write then
      .next ({ s with mem := memWrite s.mem (cellKey region offset) value }.answer (.master master) 0)
    else .next (s.answer (.master master) 0 [((memRead s.mem (cellKey region offset)).toNat : Int)])

/-- An uncorrectable error destroys a one-shot entry (Table 2.11): it is discarded unfired and its
function stops with cause ECC. -/
def State.destroyEntry (s : State) (slot : Nat) : State :=
  let e := s.slot slot
  if e.live then
    let s := s.setSlot slot { e with out := .ended }
    match s.fnOfAction e.action with
    | some f => s.stopFn f 7
    | none => s
  else s

/-- SRAM_SCRUB (R82, R92): one word read; `entry` names the one-shot entry an uncorrectable error stands
in, if any; else the block that owns a data-plane or management partition restarts. -/
def execSramScrub (t partition offset ecc : Nat) (entry : Option Nat) (s : State) :
    Host.Outcome State Fault Refusal :=
  let s := s.begin t
  .next (
    let at_ := s.regionBase partition + offset
    if ecc = 1 then s.eccCorrected 0 at_
    else if ecc = 2 then
      let s := s.log 0x1031 [0, at_, regionOwner partition]
      match entry with
      | some slot => s.destroyEntry slot
      | none => s.restartBlock (regionBlock partition)
    else s)

/-! ### Arbitration -/

/-- The wait counters after a slot's requests are presented: one more for each asking requester (R86,
log entry 21). -/
def ArbS.present (a : ArbS) (limit : Nat → Nat) (asking : List Nat) : ArbS :=
  asking.foldl (fun a q =>
    let w := (look a.waits q).getD 0 + 1
    { a with waits := ins a.waits q w,
             reached := if w = limit q then ins a.reached q a.slot else a.reached }) a

/-- The requester a rule prefers: the best score, on equal scores the lowest number. -/
def bestOf (score : Nat → Nat) (l : List Nat) : Option Nat :=
  l.foldl (fun m q => match m with
    | none => some q
    | some x => if score x < score q ∨ (score x = score q ∧ q < x) then some q else some x) none

/-- The winner of a slot by the precedence of Table 2.9, and whether it was forced (rule 1). -/
def ArbS.winner (a : ArbS) (limit prio : Nat → Nat) (asking : List Nat) : Option (Nat × Bool) :=
  let atLimit := asking.filter (fun q => limit q ≤ (look a.waits q).getD 0)
  let owner := a.table.getD (a.slot % a.table.length) 999
  match bestOf (fun q => a.slot - (look a.reached q).getD a.slot) atLimit with
  | some q => some (q, true)
  | none =>
    if asking.contains owner then some (owner, false)
    else match a.parked with
      | some p => if asking.contains p then some (p, false)
                  else (bestOf prio asking).map (fun q => (q, false))
      | none => (bestOf prio asking).map (fun q => (q, false))

/-- The arbiter after a slot: the winner's counter cleared, the grant parked on it (R85, R86). -/
def ArbS.grant (a : ArbS) (w : Option Nat) : ArbS :=
  match w with
  | some q => { a with slot := a.slot + 1, parked := some q, waits := ins a.waits q 0,
                       reached := dropKeys a.reached (fun k => k = q) }
  | none => { a with slot := a.slot + 1 }

/-- DRAM_SLOT_DECISION (R83 to R87). DESIGN CHOICE: WAITMAX takes the counters as the decision leaves them, so the
slot in which a waiting requester is granted does not count (log entry 116). -/
def execDramSlotDecision (t : Nat) (asking : List Nat) (s : State) : Host.Outcome State Fault Refusal :=
  let s := s.begin t
  let limit := fun q => s.rd (R.ARB_CFG_WAITLIM q)
  let a := s.arb.present limit asking
  let w := a.winner limit (fun q => s.rd (R.ARB_CFG_PRIO q)) asking
  let s' := { s with arb := a.grant (w.map (fun p => p.1)) }
  let s' := asking.foldl (fun s q => s.raise (R.ARB_STAT_WAITMAX q) (min 255 ((look s.arb.waits q).getD 0))) s'
  .next (match w with
    | some (q, true) => s'.bump (R.ARB_STAT_FORCED q) 0xFFFF
    | _ => s')

/-- DRAM_PRIO_WRITE (R60, R87; 14 Table 14.9): 0 to 15; wait counters keep their values. -/
def execDramPrioWrite (t session q v : Nat) (s : State) : Host.Outcome State Fault Refusal :=
  .next (s.gated t session (.live (R.ARB_CFG_PRIO q)) (fun (s : State) =>
    s.liveWrite session (R.ARB_CFG_PRIO q) v (v ≤ 15)))

end Sys2Proof.Machine
end

