-- ==== Sys2Proof/Machine/ObsOps.lean ====
section
/-! DEFINITION. The observer's shared operations (04): bindings and their sources, classes, degradation. -/

namespace Sys2Proof.Machine

/-! ### Bindings -/

/-- A binding's own state. -/
def State.bindS (s : State) (n : Nat) : BindS := (look s.obs.bind n).getD {}

/-- A binding's own state written. -/
def State.setBind (s : State) (n : Nat) (b : BindS) : State :=
  { s with obs := { s.obs with bind := ins s.obs.bind n b } }

/-- The active pack. -/
def State.packNow (s : State) : Option PackS := look s.obs.packs (s.rd R.OBS_STAT_PACK)

/-- The active pack's descriptor of a binding; a source without one is ignored (R159). -/
def State.descOf (s : State) (n : Nat) : Option DescS :=
  if s.rd (R.OBS_IN_CFG_CLASS n) = 0 then none
  else match s.packNow with
    | some p => p.inputs.find? (fun d =>
        d.cls = s.rd (R.OBS_IN_CFG_CLASS n) && d.ordinal = s.rd (R.OBS_IN_CFG_ORDINAL n))
    | none => none

/-- Bindings in use. -/
def State.bindings (s : State) : List Nat := (List.range 32).filter (fun n => (s.descOf n).isSome)

/-- The period at which a launched source of this unit is sampled: its generator's, or the observer's step for
ego-motion; 0 where there is none. -/
def State.launchedPeriod (s : State) (n : Nat) : Nat :=
  let x := s.rd (R.OBS_IN_CFG_SRC_INDEX n)
  let gen := fun (a : Nat) => match (List.range 512).find? (fun g =>
      s.flag (R.LN_PG_CFG_EN g) && s.rd (R.LN_PG_CFG_ACTION g) = a) with
    | some g => s.rd (R.LN_PG_PERIOD g)
    | none => 0
  if s.flag (R.OBS_IN_CFG_FREE n) || s.rd (R.OBS_IN_CFG_UNIT n) ≠ s.role.unit then 0
  else match s.rd (R.OBS_IN_CFG_SRC_TYPE n) with
    | 1 => gen (0x9000 + x)
    | 4 => s.rd (R.LN_PG_PERIOD (s.rd (R.CAM_CFG_TRIG_PG x)))
    | 5 => gen 0xC000
    | 6 => 2000000
    | _ => 0

/-- A source's sample period, ns: a launched source's generator's, else from its last two samples, before them the
descriptor's PERIOD_MAX (log entry 35). -/
def State.samplePeriod (s : State) (n : Nat) : Nat :=
  if s.launchedPeriod n ≠ 0 then s.launchedPeriod n
  else if (s.bindS n).period ≠ 0 then (s.bindS n).period
  else match s.descOf n with
    | some d => d.periodMax
    | none => 0

/-- ms since a free-running source's last valid estimate (Table 4.5). -/
def State.offsetAge (s : State) (n : Nat) : Nat :=
  if !s.flag (R.OBS_IN_CFG_FREE n) then 0
  else match (s.bindS n).est with
    | some e => min 0xFFFF ((s.now - e) / 1000000)
    | none => 0xFFFF

/-- A clocked island is held off, off or stalled (01 Table 1.8). -/
def State.islandOut (s : State) (isl : Nat) : Bool :=
  s.flag (R.ISL_STAT_HELD isl) || s.rd (R.ISL_STAT_RUN isl) = 0 ||
    (match look s.isl isl with
     | some i => i.refusing
     | none => false)

/-- What makes a source missing besides silence (R159): its unit is not running; on this unit its island, or a fault its
port, node or input reports. -/
def State.srcFault (s : State) (n : Nat) : Bool :=
  let x := s.rd (R.OBS_IN_CFG_SRC_INDEX n)
  if s.rd (R.OBS_IN_CFG_UNIT n) ≠ s.role.unit then !s.md.running.contains (s.rd (R.OBS_IN_CFG_UNIT n))
  else match s.rd (R.OBS_IN_CFG_SRC_TYPE n) with
    | 1 => s.islandOut 8 || s.rd (R.UI_CFG_MODE x) = 0 || s.flag (R.UI_STAT_FAULT x)
    | 2 => s.islandOut 5 || s.rd (R.FNP_STAT_STATE x) ≠ 3 || !((look s.lk.node x).getD {}).faulty.isEmpty
    | 3 => s.islandOut 6 || (s.canSignal x).isNone
    | 4 => s.islandOut 4
    | 5 => s.islandOut 8 || s.imu.fault
    | _ => s.obs.egoNone

/-- No sample has arrived within three sample periods, or 6 ms, of when one was due (R159): due one period
after the last arrival, or after the observer's start. -/
def State.overdue (s : State) (n : Nat) : Bool :=
  let p := s.samplePeriod n
  let last := match (s.bindS n).lastArr with
    | some a => max a s.obs.started + p
    | none => s.obs.started
  last + max (3 * p) 6000000 < s.now

/-- STATE of a binding (Table 4.5): the highest code that holds. -/
def State.showBind (s : State) (n : Nat) : State :=
  let b := s.bindS n
  let st := if (s.descOf n).isNone then 0 else if b.drift then 5 else if b.late then 4
            else if b.lying then 3 else if b.missing then 2 else 1
  s.wr (R.OBS_IN_STAT_STATE n) st

/-! ### Drift (R157, R158) -/

/-- The drift bound in ns; none while an estimate is valid, `some none` with no estimate yet. -/
def State.driftBound (s : State) (n : Nat) : Option (Option Rat) :=
  match (s.bindS n).est with
  | none => some none
  | some e =>
    if s.now < e + 3000000000 then none
    else some (some (mkRat ((s.rd (R.OBS_IN_CFG_DRIFT_PPM n) * (s.now - e) : Nat) : Int) 1000000))

/-- A free-running source enters or leaves DRIFT (R158, R179); with no estimate yet the bound is unknown,
above every period (log entry 36). -/
def State.judgeDrift (s : State) (n : Nat) : State :=
  if !s.flag (R.OBS_IN_CFG_FREE n) || (s.descOf n).isNone then s
  else
    let b := s.bindS n
    let p := s.samplePeriod n
    match s.driftBound n with
    | none => (s.setBind n { b with drift := false }).showBind n
    | some q =>
      let above : Bool := match q with
        | some q => (p : Rat) < q
        | none => true
      let ns : Int := match q with
        | some q => q.floor
        | none => 0xFFFFFFFF
      if above && !b.drift then
        ((s.setBind n { b with drift := true }).showBind n).logOnce 0x3003 n 1000000000 [n, ns, p]
      else s

/-! ### Classes (R162, R164) -/

/-- Input classes of Table 4.3 the rules name. -/
abbrev Cl.HDEN : Nat := 1
abbrev Cl.LOSS : Nat := 4
abbrev Cl.FLOW : Nat := 5
abbrev Cl.EGO : Nat := 9

/-- Bindings of a class. -/
def State.boundTo (s : State) (cls : Nat) : List Nat :=
  s.bindings.filter (fun n => s.rd (R.OBS_IN_CFG_CLASS n) = cls)

/-- A class is missing when every source bound to it is missing or DRIFT (R162); EGO also when ego-motion
has no source (R164). -/
def State.classMissing (s : State) (cls : Nat) : Bool :=
  let l := s.boundTo cls
  (!l.isEmpty && l.all (fun n => (s.bindS n).missing || (s.bindS n).drift)) ||
    (cls = Cl.EGO && s.obs.egoNone)

/-- A source is missing, LATE, DRIFT or LYING. -/
def BindS.bad (b : BindS) : Bool := b.missing || b.late || b.drift || b.lying

/-- A class is degraded by a source bound to a REQUIRED input (R162), or by ego-motion's substitution (R164). -/
def State.classDegraded (s : State) (cls : Nat) : Bool :=
  (s.boundTo cls).any (fun n => (s.bindS n).bad && (match s.descOf n with
    | some d => d.required
    | none => false)) || (cls = Cl.EGO && s.obs.egoSub)

/-- The cause codes of Table 4.11 a source gives. -/
def BindS.causes (b : BindS) : List Nat :=
  (if b.missing then [1] else []) ++ (if b.lying then [2] else []) ++ (if b.late then [3] else []) ++
    (if b.drift then [4] else [])

/-- The cause of D1: the lowest code among the degraded classes (log entry 37). -/
def State.narrowCause (s : State) : Nat :=
  let l := ((List.range 16).filter s.classDegraded).flatMap (fun c =>
    (s.boundTo c).flatMap (fun n => (s.bindS n).causes) ++
      (if c = Cl.EGO && s.obs.egoSub then [5] else []))
  match l with
  | [] => 1
  | x :: xs => minNat x xs

/-- The deepest step whose condition holds and its cause (R168, Table 4.8). -/
def State.needStep (s : State) : Nat × Nat :=
  let deg := (List.range 16).filter s.classDegraded
  if s.classMissing Cl.LOSS && s.classMissing Cl.FLOW then (3, 0x20)
  else if s.classDegraded Cl.HDEN || s.classMissing Cl.EGO then (2, 0x10)
  else if 2 ≤ deg.length then (2, 0x11)
  else if s.obs.incons then (2, 0x12)
  else if s.obs.overrunOn then (2, 0x13)
  else if deg.isEmpty then (0, 0)
  else (1, s.narrowCause)

/-- The functions the affected inputs' FN_MASK names (05 Table 5.6). -/
def State.affected (s : State) : Nat :=
  s.bindings.foldl (fun m n =>
    if (s.bindS n).bad || (s.rd (R.OBS_IN_CFG_CLASS n) = Cl.EGO && s.obs.egoSub) then
      match s.descOf n with
      | some d => Nat.lor m d.fnMask
      | none => m
    else m) 0

end Sys2Proof.Machine
end

