-- ==== Sys2Proof/Machine/RtcmOps.lean ====
section
/-! DEFINITION. Corrections as bytes (07 R269, R270): a CAN source's ISO 15765-2 connection, the RTCM 3 frames in its
stream, and GN.PVT as an object. -/

namespace Sys2Proof.Machine

/-- A STRING record of the Hamper (17 R567; 14 Table 14.4); none spells nothing. -/
def State.stringAt (s : State) (i : Nat) : List Nat :=
  match s.hmp.image.bind (fun img => img.recs.find? (fun r => r.typ = 4 && r.inst = i)) with
  | some r => (match r.val with
    | .bytes l => l
    | _ => [])
  | none => []

/-! ### RTCM 3 frames

PRESUMED: the frame of RTCM 3 and the transport of ISO 15765-2 are those of the standards the manual names (log entry
124). -/

/-- CRC-24Q, as its standard defines it (13 R466). -/
def crc24q (bytes : List Nat) : Nat := bytes.foldl (crcByte 24 0x864CFB) 0

/-- Bytes of a whole frame, by its header: the preamble 0xD3, a length of 10 bits, the message, the check. -/
def rtcmLen (bytes : List Nat) : Nat := (bytes.getD 1 0 % 4) * 256 + bytes.getD 2 0 + 6

/-- A frame's check is right (R270). -/
def rtcmOk (f : List Nat) : Bool :=
  let n := f.length - 3
  crc24q (f.take n) = f.getD n 0 * 65536 + f.getD (n + 1) 0 * 256 + f.getD (n + 2) 0

/-- The message number of a frame: the first 12 bits of its message. -/
def rtcmNumber (f : List Nat) : Nat := f.getD 3 0 * 16 + f.getD 4 0 / 16

/-- The whole frames at the head of a stream, and what is left of it; bytes before a preamble are skipped. -/
def rtcmSplit : Nat → List Nat → List (List Nat) × List Nat
  | 0, b => ([], b)
  | k + 1, b =>
    match b with
    | [] => ([], [])
    | x :: rest =>
      if x ≠ 0xD3 then rtcmSplit k rest
      else if b.length < 3 || b.length < rtcmLen b then ([], b)
      else
        let r := rtcmSplit k (b.drop (rtcmLen b))
        (b.take (rtcmLen b) :: r.1, r.2)

/-! ### ISO 15765-2 on a correction source's channel (R269) -/

/-- The bytes of a whole transport message added to the slot's stream, whole frames waiting for the baseband. -/
def CorS.takeBytes (c : CorS) (bytes : List Nat) : CorS :=
  let all := c.stream ++ bytes
  let r := rtcmSplit all.length all
  { c with frames := c.frames ++ r.1, stream := r.2, rx := [], rxLeft := 0 }

/-- One transport frame: a single frame, the first of several, or one that follows. -/
def CorS.transport (c : CorS) (data : List Nat) : CorS :=
  let d0 := data.getD 0 0
  match d0 / 16 with
  | 0 => c.takeBytes ((data.drop 1).take (d0 % 16))
  | 1 => { c with rx := data.drop 2, rxNext := 1, rxLeft := d0 % 16 * 256 + data.getD 1 0 - (data.length - 2) }
  | 2 =>
    if c.rxLeft = 0 then c
    else if d0 % 16 ≠ c.rxNext then { c with rx := [], rxLeft := 0 }
    else
      let b := (data.drop 1).take c.rxLeft
      if c.rxLeft ≤ b.length then c.takeBytes (c.rx ++ b)
      else { c with rx := c.rx ++ b, rxLeft := c.rxLeft - b.length, rxNext := (c.rxNext + 1) % 16 }
  | _ => c

/-- The CAN correction source a frame belongs to: 29-bit normal fixed addressing from PEER_ADDR to the module's address
on CAN_CH. -/
def State.canSource (s : State) (ch id : Nat) (ide : Bool) : Option Nat :=
  [0, 1, 2].find? (fun n => ide && s.gn.on && !s.isWorker && s.rd (R.GN_COR_CFG_TYPE n) = 3 &&
    s.rd (R.GN_COR_CFG_CAN_CH n) = ch && id / 65536 % 256 = 0xDA &&
    id / 256 % 256 = s.rd (R.CAN_STAT_ADDR ch) && id % 256 = s.rd (R.GN_COR_CFG_PEER_ADDR n))

/-- A frame of a correction source taken; the first of several is answered with a flow control frame. -/
def State.takeTransport (s : State) (ch id : Nat) (ide : Bool) (data : List Nat) : State :=
  match s.canSource ch id ide with
  | none => s
  | some n =>
    let s := { s with gn := { s.gn with cor := ins s.gn.cor n (((look s.gn.cor n).getD {}).transport data) } }
    if data.getD 0 0 / 16 = 1 then
      s.stackFrame ch (0x18DA0000 + s.rd (R.GN_COR_CFG_PEER_ADDR n) * 256 + s.rd (R.CAN_STAT_ADDR ch))
        [0x30, 0, 0, 0xFF, 0xFF, 0xFF, 0xFF, 0xFF]
    else s

/-! ### GN.PVT -/

/-- The fields of GN.PVT in the order of Table 7.9; before the first solution, 0. -/
def State.pvtFields (s : State) : List Nat :=
  match s.gn.pvt with
  | none => []
  | some p =>
    [ofSigned 64 p.epoch, toF64 (mkRat p.lat 1000000000), toF64 (mkRat p.lon 1000000000), p.hgt, p.vel.getD 0 0,
     p.vel.getD 1 0, p.vel.getD 2 0, p.heading, p.bpitch, p.soln, p.headq, p.nsv, p.corsrc, p.sig.getD 0 0,
     p.sig.getD 1 0, p.sig.getD 2 0, p.age, p.station]

end Sys2Proof.Machine
end

