-- ==== Sys2Proof/Machine/SessionOps.lean ====
section
/-! DEFINITION. Shared operations of 13: versions, classes of requests, admission, the end of a session,
end-to-end protection, and reading an object. -/

namespace Sys2Proof.Machine

/-! ### Versions -/

/-- The services of Table 13.3: for each, the majors served with their minors, newest first. -/
def servedVersions : List (Nat × List (Nat × Nat)) :=
  [(0x0001, [(1, 4)]), (0x0010, [(5, 3), (4, 6), (3, 2)]), (0x0011, [(4, 1), (3, 3), (2, 5)]),
   (0x0012, [(3, 2), (2, 4), (1, 7)]), (0x0020, [(4, 0), (3, 5), (2, 2)]), (0x0021, [(2, 1), (1, 3)]),
   (0x0022, [(3, 0), (2, 2), (1, 4)]), (0x0030, [(2, 3), (1, 6)]), (0x0031, [(3, 1), (2, 2), (1, 1)])]

/-- The version agreed for one service: the highest common major at the lower minor (R450). -/
def agreeVersion (svc : Nat) (offers : List (Nat × Nat)) : Option (Nat × Nat) :=
  ((look servedVersions svc).getD []).findSome? (fun m =>
    (offers.find? (fun o => o.1 = m.1)).map (fun o => (m.1, min m.2 o.2)))

/-- Every version a HELLO agrees, service by service (R450). -/
def agreeAll (services : List (Nat × List (Nat × Nat))) : List (Nat × Nat × Nat) :=
  services.filterMap (fun p => (agreeVersion p.1 p.2).map (fun v => (p.1, v.1, v.2)))

/-! ### Messages (Table 13.2) -/

/-- The most bytes a message of a session takes: one UDP datagram's 1,400, ISO 15765-2's 4,095, and no limit over TCP
(R444, Table 13.1). -/
def SessionS.mostBytes (ss : SessionS) : Option Nat :=
  if ss.udp.isSome then some 1400 else if ss.tcp then none else some 4095

/-- A message carries the agreed version of its service (R451). -/
def SessionS.versionOk (ss : SessionS) (svc : Nat) (m : MsgIn) : Bool :=
  ss.agreed.contains (svc, m.major, m.minor)

/-! ### Classes -/

/-- The classes a limit allows (Table 13.15). -/
def limitAllows (limit cls : Nat) : Bool :=
  if limit = Cls.FLEET then cls = Cls.MONITOR || cls = Cls.FLEET
  else if limit = Cls.SERVICE then true
  else cls ≤ limit

/-- The class limit of a carrier (Table 13.1). -/
def carrierLimit (carrier : Nat) : Nat :=
  if carrier = 9 then Cls.FLEET else if carrier = 10 then Cls.OPERATOR else Cls.SERVICE

/-- The class granted under the limits that apply (R453). -/
def grantClass (limits : List Nat) (cls : Nat) : Nat :=
  let ok := fun c => limits.all (fun l => limitAllows l c)
  if ok cls then cls
  else if cls = Cls.FLEET then Cls.MONITOR
  else ((List.range cls).reverse.find? ok).getD Cls.MONITOR

/-- The limits that apply to a HELLO: the carrier's, the first class map entry that matches, and on TLS
the certificate's (R442, R453; 14 Table 14.4). -/
def State.limitsFor (s : State) (h : HelloIn) : List Nat :=
  let a := if h.carrier = 10 then h.peer * 2 ^ 120 else h.addr
  let m := (s.ses.cfg.classMap.find? (fun e => e.carrier = h.carrier &&
    a / 2 ^ (128 - e.prefixLen) = e.addr / 2 ^ (128 - e.prefixLen))).map (fun e => e.limit)
  let c := if h.tls then look s.ses.cfg.certPol h.certHash else none
  carrierLimit h.carrier :: (m.toList ++ c.toList)

/-- The lowest class a session needs for a mode transition (15 Table 15.8): none when no session makes
it. -/
def modeClass (cur target : Nat) : Option Nat :=
  if target = Mode.SAFE_STOP then
    (if [Mode.CONFIG, Mode.ROAD, Mode.FIELD_IDLE, Mode.HARVEST, Mode.SERVICE, Mode.TEST].contains cur
     then some Cls.MACHINE else none)
  else if [(Mode.ROAD, Mode.FIELD_IDLE), (Mode.FIELD_IDLE, Mode.ROAD), (Mode.FIELD_IDLE, Mode.HARVEST),
      (Mode.HARVEST, Mode.FIELD_IDLE), (Mode.SAFE_STOP, Mode.FIELD_IDLE),
      (Mode.SAFE_STOP, Mode.WALK_HOME)].contains (cur, target) then some Cls.OPERATOR
  else if [(Mode.ROAD, Mode.SERVICE), (Mode.FIELD_IDLE, Mode.SERVICE), (Mode.FIELD_IDLE, Mode.TEST),
      (Mode.SERVICE, Mode.TEST), (Mode.SERVICE, Mode.FIELD_IDLE), (Mode.TEST, Mode.FIELD_IDLE)].contains
        (cur, target) then some Cls.SERVICE
  else none

/-- Whether a session's class allows a request (R454, R597, Tables 13.7 and 13.16). A mode request made during a
transition is judged against the new mode, its class included, once that has completed (02 R58). -/
def State.mayRequest (s : State) (num : Nat) : ReqKind → Bool
  | .mode target => s.classAtLeast num
      (if s.md.trans.isSome then Cls.OPERATOR else (modeClass s.mode target).getD Cls.OPERATOR)
  | .setpoint _ | .goal | .line | .engage | .turn | .newLoad | .ticket | .pack | .fnStop _ =>
    s.classAtLeast num Cls.OPERATOR
  | .fnRestart fn => s.classAtLeast num (if fn = 27 then Cls.OPERATOR else Cls.MACHINE)
  | .clearSwitch | .clearPort | .insert | .cancel => s.classAtLeast num Cls.MACHINE
  | .test | .pcClear | .swReset | .changeSet _ | .autotune | .amendRead | .amendCommit =>
    s.classAtLeast num Cls.SERVICE
  | .live key => s.mayLive num key

/-- The service a request belongs to (Table 13.3). -/
def reqService : ReqKind → Nat
  | .changeSet _ | .autotune | .amendRead | .amendCommit => 0x0021
  | .insert | .cancel => 0x0022
  | .live _ => 0x0010
  | _ => 0x0020

/-! ### Open sessions -/

/-- The slot of an open session. -/
def State.sessionSlot (s : State) (num : Nat) : Nat :=
  ((s.ses.open_.find? (fun p => p.2.num = num)).map (fun p => p.1)).getD 256

/-- An open session changed. -/
def State.setSession (s : State) (num : Nat) (f : SessionS → SessionS) : State :=
  { s with ses := { s.ses with open_ := s.ses.open_.map (fun (p : Nat × SessionS) =>
      (p.1, if p.2.num = num then f p.2 else p.2)) } }

/-- A message of a session has come (R452). -/
def State.touch (s : State) (num : Nat) : State :=
  s.setSession num (fun ss => { ss with lastRx := s.now })

/-- Sessions open in a class. -/
def State.classCount (s : State) (cls : Nat) : Nat :=
  (s.ses.open_.filter (fun p => p.2.cls = cls)).length

/-- A session ends: its slot is free, its subscriptions and output queue are gone; requests it had
accepted at the gate and its end-to-end timers stay (R456, R465). -/
def State.dropSession (s : State) (num : Nat) : State :=
  let slot := s.sessionSlot num
  let s := { s with ses := { s.ses with open_ := s.ses.open_.filter (fun p => p.2.num ≠ num) } }
  (s.wrs [(R.SES_S_STAT_SESSION slot, 0), (R.SES_S_STAT_CLASS slot, 0), (R.SES_S_STAT_CARRIER slot, 0),
    (R.SES_S_STAT_PEER slot, 0), (R.SES_S_STAT_IDLE slot, 0), (R.SES_S_STAT_E2E slot, 0)]).wr
    R.SES_STAT_OPEN s.ses.open_.length

/-- A session ended and logged: 0 BYE, 1 timeout, 2 connection closed (R452, Table 13.14). -/
def State.closeSession (s : State) (num reason : Nat) : State :=
  match s.session? num with
  | none => s
  | some _ => (s.dropSession num).log 0x9041 [num, reason]

/-- Ranks of the classes for eviction (Table 13.7). -/
def classRank (cls : Nat) : Nat := [1, 4, 3, 5, 2].getD cls 0

/-- The session evicted for a new one: of a class above its RESERVE, the lowest rank, and of these the
one that has gone longest without sending (R455). -/
def State.victim (s : State) : Option SessionS :=
  ((s.ses.open_.map (fun p => p.2)).filter (fun ss =>
    s.rd (R.SES_CLASS_CFG_RESERVE ss.cls) < s.classCount ss.cls)).foldl (fun m ss => match m with
      | none => some ss
      | some x => if classRank ss.cls < classRank x.cls ∨
          (classRank ss.cls = classRank x.cls ∧ ss.lastRx < x.lastRx) then some ss else some x) none

/-! ### End-to-end protection -/

/-- The record of a data ID in a session (R464). -/
def State.aliveOf (s : State) (num id : Nat) : Option AliveS :=
  s.ses.alive.find? (fun a => a.session = num && a.dataId = id)

/-- ALIVE recorded; the timer restarts only at an accepted message (R464, R465). -/
def State.setAlive (s : State) (num id alive : Nat) (accepted : Bool) : State :=
  let last := match s.aliveOf num id with
    | some a => if accepted then s.now else a.lastOk
    | none => s.now
  let exp := match s.aliveOf num id with
    | some a => if accepted then false else a.expired
    | none => false
  let others := s.ses.alive.filter (fun a => !(a.session = num && a.dataId = id))
  let rec_ : AliveS := { session := num, dataId := id, alive, lastOk := last, expired := exp }
  { s with ses := { s.ses with alive := others ++ [rec_] } }

/-- A protected message refused is counted for the module and the session (R464, Table 13.11). -/
def State.e2eCount (s : State) (num : Nat) : State :=
  (s.bump R.SES_STAT_E2E_ERR 0xFFFF).bump (R.SES_S_STAT_E2E (s.sessionSlot num)) 0x1FFFF

/-- A protected message refused (R464): counted for the module and the session, logged at most once per
session and data ID per 1 s. -/
def State.e2eRefuse (s : State) (num id code : Nat) : State :=
  (s.e2eCount num).logOnce 0x9044 (num * 65536 + id) 1000000000 [num, id, code]

/-- The check of a protected message in R464's order: the result code and the state after it. A repeat
(difference 0) is refused and counted and makes no fault entry, as in the chapter's example (log entry 54). -/
def State.e2eCheck (s : State) (num : Nat) (m : MsgIn) (e : E2eS) : Nat × State :=
  match s.ses.cfg.dataIds.find? (fun d => d.id = e.dataId) with
  | none => (Res.E2E_ID, s.e2eRefuse num e.dataId Res.E2E_ID)
  | some d =>
    if d.service ≠ m.service ∨ d.kind ≠ m.kind then (Res.E2E_ID, s.e2eRefuse num e.dataId Res.E2E_ID)
    else if e.crcsel ≠ d.crcsel ∨ !m.checkOk e then (Res.E2E_CRC, s.e2eRefuse num e.dataId Res.E2E_CRC)
    else match s.aliveOf num e.dataId with
      | none => (Res.OK, s.setAlive num e.dataId e.alive true)
      | some a =>
        let gap := (e.alive + 256 - a.alive) % 256
        if gap = 0 then (Res.E2E_ALIVE, s.e2eCount num)
        else if gap ≤ d.maxGap then (Res.OK, s.setAlive num e.dataId e.alive true)
        else (Res.E2E_ALIVE, (s.e2eRefuse num e.dataId Res.E2E_ALIVE).setAlive num e.dataId e.alive false)

/-- The protection every request of MODE, CHANGESET and LAUNCH and every live write needs (R462). -/
def State.protect (s : State) (num : Nat) (m : MsgIn) : Nat × State :=
  match m.e2e with
  | none => (Res.E2E_REQUIRED, s)
  | some e => s.e2eCheck num m e

/-! ### Taking a message -/

/-- What stops a message before it is looked at: no session on its connection, a version not agreed, a KIND the
agreed minor does not define, or the class limits of WALK_HOME and of an unconfigured unit, which leave the SESSION
service alone (R448, R449, R451; 15 R513; 14 R483). -/
def State.msgRefusal (s : State) (num svc : Nat) (m : MsgIn) : Option Nat :=
  match s.session? num with
  | none => some Res.NO_SESSION
  | some ss =>
    if m.session ≠ num then some Res.NO_SESSION
    else if !ss.versionOk m.service m then some Res.VERSION
    else if !m.kindOk || m.service ≠ svc || 64 ≤ m.kind then some Res.UNSUPPORTED
    else if !s.configured ∧ svc ≠ 0x0010 ∧ svc ≠ 0x0001 then some Res.CLASS
    else if s.mode = Mode.WALK_HOME ∧ ss.cls ≠ Cls.MONITOR ∧ svc ≠ 0x0001 then some Res.MODE_REFUSED
    else none

/-- The stored responses to a repeated UDP request (R444). -/
def State.repeated (s : State) (num : Nat) (m : MsgIn) : Option (List Answer) :=
  match s.session? num with
  | none => none
  | some ss => if ss.udp.isNone then none else (ss.recent.find? (fun r => r.1 = m.bytes)).map (fun r => r.2)

/-- A UDP request and its responses kept among the last 16 (R444). -/
def State.remember (s : State) (num : Nat) (bytes : List Nat) (l : List Answer) : State :=
  s.setSession num (fun ss =>
    if ss.udp.isNone then ss else { ss with recent := (ss.recent ++ [(bytes, l)]).drop (ss.recent.length - 15) })

/-- The responses a message has had since `before` answers had gone out get their header, and are kept for a repeat. -/
def State.respond (s : State) (num : Nat) (m : MsgIn) (before : Nat) : State :=
  let l := (s.answers.drop before).map (fun (a : Answer) =>
    if a.dest = .session num then { a with head := m.respHead (2 + a.data.length) } else a)
  { s with answers := s.answers.take before ++ l }.remember num m.bytes (l.filter (fun (a : Answer) => a.dest = Dest.session num))

/-- A badly framed message: discarded unanswered, and over TCP it ends the connection (R445). -/
def State.discard (s : State) (num : Nat) : State :=
  match s.session? num with
  | some ss => if ss.tcp then s.closeSession num 2 else s
  | none => s

/-- A session's limit on a message's bytes; with no session none is known. -/
def State.mostBytes (s : State) (num : Nat) : Option Nat := (s.session? num).bind SessionS.mostBytes

/-- A message of a service comes on a session's connection (R444, R445, R448, R449, R451, R452): badly framed it is
discarded; a repeat of a UDP request has its stored responses again; a refused one has its refusal; else it acts. -/
def State.onMessage (s : State) (num svc : Nat) (m : MsgIn) (act : State → State) : State :=
  if !m.framed (s.mostBytes num) then s.discard num
  else match s.repeated num m with
  | some l => { (s.touch num) with answers := s.answers ++ l }
  | none => match s.msgRefusal num svc m with
    | some code =>
      if code = Res.NO_SESSION then s.answer (.session num) code
      else ((s.touch num).reply num code).respond num m s.answers.length
    | none => (act (s.touch num)).respond num m s.answers.length

/-! ### Reading an object -/

/-- Fields that show what the hardware measures by itself, with the number of values each can read: a load switch's limiting,
the frames with errors on an Ethernet or a trunk port, a powered field-node port's power (log entry 107). -/
def openField (key : Nat) : Option Nat :=
  let i := key / 256
  if 0x8001 ≤ i ∧ i ≤ 0x8018 ∧ key = R.LS_STAT_LIMITING (i - 0x8000) then some 2
  else if 0x9E01 ≤ i ∧ i ≤ 0x9E06 ∧ key = R.ETH_STAT_ERRORS (i - 0x9E00) then some 65536
  else if 0x9E11 ≤ i ∧ i ≤ 0x9E14 ∧ key = R.TK_STAT_ERRORS (i - 0x9E10) then some 65536
  else if 0x9E21 ≤ i ∧ i ≤ 0x9E2C ∧ key = R.FNP_STAT_POWER (i - 0x9E20) then some 1024
  else none

/-- CE.Lnnn.ATRES, field by field; before the first auto-tune none (06 Table 6.9). -/
def State.loopAt (s : State) (l : Nat) : Option (List Int) := (look s.eng.loops l).bind (fun (v : LoopS) => v.atres)

/-- The value a read of a field returns now: the records GN.PVT and ATRES (log entry 4), STATE of a function or loop that
is not used (05 Table 5.8, 06 R249), the fields that follow time are taken at the read (03 R96;
13 Table 13.11), control-plane objects come from the snapshot (02 R62), the rest as they stand. -/
def State.readField (s : State) (key : Nat) : Nat :=
  if key / 256 = 0x5005 then s.pvtFields.getD (key % 256 - 1) 0
  else if 0x4000 ≤ key / 256 ∧ key / 256 ≤ 0x40FF ∧ 137 < key % 256 then
    ofSigned 64 (((s.loopAt (key / 256 - 0x4000)).getD []).getD (key % 256 - 138) 0)
  else if key = R.PWR_STAT_PD then s.rd key + (if s.pc.run.isSome then 4096 else 0)
  else if 0x9E21 ≤ key / 256 ∧ key / 256 ≤ 0x9E2C ∧ key = R.FNP_STAT_POWER (key / 256 - 0x9E20) ∧
      !(s.rd (R.FNP_STAT_STATE (key / 256 - 0x9E20)) = 2 || s.rd (R.FNP_STAT_STATE (key / 256 - 0x9E20)) = 3) then 0
  else if (openField key).isSome then
    if controlKey key then (match s.mirror.snapAt with
      | some a => Config.measured a key % (openField key).getD 1
      | none => resetOf key)
    else Config.measured s.now key % (openField key).getD 1
  else if 0x3100 ≤ key / 256 ∧ key / 256 ≤ 0x312F ∧ key = R.FN_STAT_STATE (key / 256 - 0x3100) ∧
      s.rd (R.FN_CFG_PATH (key / 256 - 0x3100)) = 0 then 0
  else if 0x4000 ≤ key / 256 ∧ key / 256 ≤ 0x40FF ∧ key = R.CE_L_STAT_STATE (key / 256 - 0x4000) ∧
      s.rd (R.CE_L_CFG_LAW (key / 256 - 0x4000)) = 0 then 0
  else if key = R.YM_STAT_MAPPING then bit01 (s.flag key && decide (s.mode = Mode.HARVEST))
  else if key = R.TB_NOW then ofSigned 64 s.harvest
  else if key = R.PC_STAT_COMMON then (match s.pc.run with
    | some r => s.pcCommon r
    | none => s.rd key)
  else if 0x1011 ≤ key / 256 ∧ key / 256 ≤ 0x1019 ∧ key = R.ISL_STAT_RUN (key / 256 - 0x1010) then
    bit01 (s.flag key && s.islandPowered (key / 256 - 0x1010))
  else if 0x2011 ≤ key / 256 ∧ key / 256 ≤ 0x2014 ∧ key = R.TB_WH_VALID (key / 256 - 0x2010) then
    bit01 (s.whValid (key / 256 - 0x2010))
  else if key = R.TB_ERR then s.tbErr
  else if key = R.TB_STAT_HOLD_MIN then s.timeRegs.rd R.TB_STAT_HOLD_MIN
  else if 0x9F00 ≤ key / 256 ∧ key / 256 ≤ 0x9FFF ∧ key % 256 = 5 then
    match look s.ses.open_ (key / 256 - 0x9F00) with
    | some ss => min 0xFFFF ((s.now - ss.lastRx) / 1000000)
    | none => 0
  else if 0x9E01 ≤ key / 256 ∧ key / 256 ≤ 0x9E06 ∧ key = R.ETH_STAT_GM_CONFLICT (key / 256 - 0x9E00) then
    match look s.lk.conflictAt (key / 256 - 0x9E00) with
    | some c => bit01 (s.now < c + 10000000000)
    | none => 0
  else if 0x3020 ≤ key / 256 ∧ key / 256 ≤ 0x303F ∧ key % 256 = 13 then s.offsetAge (key / 256 - 0x3020)
  else
    match fieldOf key with
    | some d =>
      if controlKey key && d.acc = .ro then (look s.mirror.snapshot key).getD (resetOf key)
      else s.rd key
    | none => s.rd key

/-- Bytes a field of a width is sent in (R459). -/
def fieldBytes (width : Nat) : Nat := (width + 7) / 8

/-- A field's value as it is sent: little-endian in whole bytes, a signed field sign-extended (R459). -/
def State.sentField (s : State) (key : Nat) : List Int :=
  match fieldOf key with
  | some d =>
    let n := fieldBytes d.width
    (leBytes n (if d.signed then ofSigned (8 * n) (toSigned d.width (s.readField key)) else s.readField key)).map
      (fun (b : Nat) => (b : Int))
  | none => []

/-- The field pattern that a value sent in whole bytes spells: none when it does not fit the field, a signed one
sign-extended (R459). -/
def FieldDesc.taken (d : FieldDesc) (raw : Nat) : Option Nat :=
  let n := 8 * fieldBytes d.width
  if 2 ^ n ≤ raw then none
  else if d.signed then
    (if toSigned d.width (raw % 2 ^ d.width) = toSigned n raw then some (raw % 2 ^ d.width) else none)
  else if raw < 2 ^ d.width then some raw else none

/-- The keys an entry of an OBJECT request names: one field, or with sub-index 0 every field of the
instance in order (R458); empty when there is no such object. -/
def entryKeys (index sub : Nat) : List Nat :=
  match blocks.find? (fun b => b.first ≤ index && index ≤ b.last) with
  | none => []
  | some b =>
    if sub = 0 then (List.range b.fields.length).map (fun i => index * 256 + i + 1)
    else if sub ≤ b.fields.length then [index * 256 + sub] else []

/-- Bytes of an object whose highest named bit is `top` - 1: the field maps are 32 or 64 bits wide, and what is longer
is counted in bytes (R458). -/
def objectBytes (top : Nat) : Nat := if top ≤ 32 then 4 else if top ≤ 64 then 8 else (top + 7) / 8

/-- The objects of an instance in table order, each with its bytes in full width (R458). -/
def instObjects (fields : List FieldDesc) : List (Nat × Nat) :=
  ((fields.map (fun (d : FieldDesc) => d.obj)).eraseDups).map (fun (o : Nat) =>
    (o, objectBytes ((fields.filter (fun d => d.obj = o)).foldl (fun (m : Nat) (d : FieldDesc) => max m (d.lo + d.width)) 0)))

/-- Bytes of a read of an instance's sub-index 0 (R458; 14 R476). -/
def instBytes (index : Nat) : Nat :=
  match blocks.find? (fun b => b.first ≤ index && index ≤ b.last) with
  | none => 0
  | some b => sumNat ((instObjects b.fields).map (fun p => p.2))

/-- Every object of an instance, in table order, in full width (R458): each as the number its fields spell. -/
def State.objectsOf (s : State) (index : Nat) : List Int :=
  match blocks.find? (fun b => b.first ≤ index && index ≤ b.last) with
  | none => []
  | some b =>
    let fs := (List.range b.fields.length).zip b.fields
    (instObjects b.fields).flatMap (fun (o : Nat × Nat) =>
      (leBytes o.2 (fs.foldl (fun (v : Nat) (p : Nat × FieldDesc) =>
        if p.2.obj = o.1 then v + s.readField (index * 256 + p.1 + 1) * 2 ^ p.2.lo else v) 0)).map
          (fun (b : Nat) => (b : Int)))

/-- What an entry of an OBJECT request reads, as bytes (R458, R459). -/
def State.entryValues (s : State) (index sub : Nat) : List Int :=
  if sub = 0 then s.objectsOf index else (entryKeys index sub).flatMap s.sentField

end Sys2Proof.Machine
end

