-- ==== Sys2Proof/Machine/BlackBox.lean ====
section
/-! DEFINITION. The black box's commands (16 R527 to R538). -/

namespace Sys2Proof.Machine

/-- The bytes of a record, its payload's among them (Table 16.2). -/
def BbItem.bytes (it : BbItem) : Nat := 20 + it.payload.length

/-- The size of the circular area (Table 16.1). -/
abbrev circSize : Nat := 14680064

/-- The next stamp (R531, R533): hours and cycle, or the next sequence number, or with none left the last
one with SUB increased. -/
def State.nextStamp (s : State) : (Nat × Nat) × State :=
  if s.rd R.BB_STAT_FORM = 0 then ((s.hours, s.rd R.RST_STAT_CYCLES), s)
  else match s.bb.blocks with
    | (n, last) :: rest =>
      ((n, 0), { s with bb := { s.bb with
        blocks := if n = last then rest else (n + 1, last) :: rest, lastSeq := n, sub := 0 } })
    | [] => ((s.bb.lastSeq, s.bb.sub + 1), { s with bb := { s.bb with sub := s.bb.sub + 1 } })

/-- The control block copy written last. -/
def BlackBoxS.lastCtrl (b : BlackBoxS) : BbCtrl := if b.ctrlA.count < b.ctrlB.count then b.ctrlB else b.ctrlA

/-- The control block copy that was not written last takes the present positions and counts, and `seqNext` (Table 16.1,
R533, R535). -/
def State.saveCtrlSeq (s : State) (seqNext : Nat) : State :=
  let c : BbCtrl := { count := max s.bb.ctrlA.count s.bb.ctrlB.count + 1, crcOk := true,
                      perm := s.rd R.BB_STAT_PERM, head := s.rd R.BB_STAT_HEAD, hours := s.hours, seqNext }
  if s.bb.ctrlA.count < s.bb.ctrlB.count then { s with bb := { s.bb with ctrlA := c } }
  else { s with bb := { s.bb with ctrlB := c } }

/-- The control block saved with the sequence counter as it stands (R532, R535). -/
def State.saveCtrl (s : State) : State := s.saveCtrlSeq s.bb.lastCtrl.seqNext

/-- A record that stands clear of the bytes from `lo` to `hi`. -/
def BbRec.clearOf (r : BbRec) (lo hi : Nat) : Bool := r.pos + r.item.bytes ≤ lo || hi ≤ r.pos

/-- A record stored in the permanent area (R535); the area's last place filled raises BB_PERM_FULL once. -/
def State.storePerm (s : State) (r : BbRec) : State :=
  let r := { r with pos := s.bb.permPos }
  let old := s.bb.perm.filter (fun x => x.clearOf r.pos (r.pos + r.item.bytes))
  let s := { s with bb := { s.bb with perm := old ++ [r] } }
  if !r.valid then s
  else
    let s := { s with bb := { s.bb with permPos := s.bb.permPos + r.item.bytes } }.bump R.BB_STAT_PERM 4096
    if s.rd R.BB_STAT_PERM = 4096 && !s.bb.permFullLogged then
      ({ s with bb := { s.bb with permFullLogged := true } }.wr R.BB_STAT_FULL 1).log 0xC003
    else s

/-- A record stored in the circular area (R528, R535): one that would straddle the end goes to offset 0,
the rest of the area wiped; what it overwrites is gone. -/
def State.storeCirc (s : State) (r : BbRec) : State :=
  let head := s.rd R.BB_STAT_HEAD
  let n := r.item.bytes
  let wrap := circSize < head + n
  let pos := if wrap then 0 else head
  let kept := if wrap then s.bb.circ.filter (fun x => x.pos + x.item.bytes ≤ head) else s.bb.circ
  let kept := kept.filter (fun x => x.clearOf pos (pos + n))
  let s := { s with bb := { s.bb with circ := kept ++ [{ r with pos }] } }
  if r.valid then s.wr R.BB_STAT_HEAD (pos + n) else s.wr R.BB_STAT_HEAD pos

/-- A record stamped and written in three steps (R529, R535); fewer leave torn content. -/
def State.bbWrite (s : State) (it : BbItem) (stepsDone : Nat) : State :=
  let (st, s) := s.nextStamp
  let r : BbRec := { pos := 0, item := it, seqForm := s.flag R.BB_STAT_FORM, stampA := st.1,
                     stampB := st.2, valid := stepsDone = 3 }
  let s := if s.rd R.BB_STAT_PERM < 4096 then s.storePerm r else s.storeCirc r
  if stepsDone = 3 then s.saveCtrl else s

/-- BB_RECORD_WRITE (R528 to R531, R535): the oldest queued record is stamped and written; `stepsDone` below
3 is a write the supply or a reset cut short, which leaves torn content. Nothing is written before recovery
is done (R536). -/
def execBbRecordWrite (t stepsDone : Nat) (s : State) : Host.Outcome State Fault Refusal :=
  let s := s.begin t
  .next (match s.bb.queue with
    | [] => s
    | it :: rest =>
      if !s.flag R.BB_STAT_READY then s
      else { s with bb := { s.bb with queue := rest } }.bbWrite it stepsDone)

/-- Every queued record written (15 Table 15.9 step 5). -/
def State.bbFlush (s : State) : State :=
  let q := s.bb.queue
  q.foldl (fun (s : State) (it : BbItem) => s.bbWrite it 3) { s with bb := { s.bb with queue := [] } }

/-- BB_LOST (R535): room has returned after drops. -/
def execBbLost (t : Nat) (s : State) : Host.Outcome State Fault Refusal :=
  let s := s.begin t
  .next (
    if 0 < s.bb.dropped ∧ s.bb.queue.length < 1024 then
      let n := s.bb.dropped
      (({ s with bb := { s.bb with dropped := 0 } }).bbPush { typ := 6, payload := leBytes 4 n }).log 0xC002 [n]
    else s)

/-- BB_ANCHOR (R534): every 10 min of operating time, 60,000 units. -/
def execBbAnchor (t : Nat) (s : State) : Host.Outcome State Fault Refusal :=
  let s := s.begin t
  .next (if s.bb.opSince.isSome ∧ s.bb.anchorAt + 60000 ≤ s.hours then s.bbAnchor else s)

/-- HOURS_SAVE (R532): the count goes to the control block 1 s, 100 units, after it was saved last. -/
def execHoursSave (t : Nat) (s : State) : Host.Outcome State Fault Refusal :=
  let s := s.begin t
  .next (if s.bb.opSince.isSome ∧ s.bb.lastCtrl.hours + 100 ≤ s.hours then s.saveCtrl else s)

/-- A block of 4,096 numbers held by this unit, at most two at once (R533). -/
def State.holdBlock (s : State) (first : Nat) : State :=
  if s.bb.blocks.length < 2 then
    { s with bb := { s.bb with blocks := s.bb.blocks ++ [(first, first + 4095)] } }
  else s

/-- Sequence numbers this unit still holds. -/
def BlackBoxS.seqLeft (b : BlackBoxS) : Nat := sumNat (b.blocks.map (fun (x : Nat × Nat) => x.2 + 1 - x.1))

/-- The next block handed out by the manager, SEQ_NEXT saved before a number of it is used: to itself, or over the trunk
to a worker (R533). -/
def State.handOut (s : State) (unit : Nat) : State :=
  let n := s.bb.lastCtrl.seqNext
  let s := s.saveCtrlSeq (n + 4096)
  if unit = s.role.unit then s.holdBlock n else s.answer (.trunk 0) 0x533 [unit, n]

/-- A block asked for, at a start and when fewer than 1,024 numbers remain: a manager hands it to itself, a worker asks its
manager (R533). -/
def State.askSeq (s : State) : State :=
  if s.role.size ≠ 2 ∨ 2 ≤ s.bb.blocks.length then s
  else if s.isWorker then s.answer (.trunk 0) 0x533 [s.role.unit]
  else s.handOut s.role.unit

/-- SEQ_BLOCK_REQUEST (R533): in Large a unit with fewer than 1,024 numbers left asks for a block; a worker's request has
reached the manager (`unit`), or the manager's answer the worker (`granted`, the block's first number). -/
def execSeqBlockRequest (t unit : Nat) (granted : Option Nat) (s : State) : Host.Outcome State Fault Refusal :=
  let s := s.begin t
  .next (
    if s.role.size ≠ 2 || !s.configured then s
    else match granted with
      | some first => if s.isWorker && unit = s.role.unit then s.holdBlock first else s
      | none =>
        if unit = s.role.unit then (if s.bb.seqLeft < 1024 then s.askSeq else s)
        else if s.reaches unit then s.handOut unit
        else s)

/-- The ten bytes of a record's stamp, in hours or in sequence form (R531). -/
def BbRec.stamp (r : BbRec) : List Nat :=
  if r.seqForm then leBytes 8 r.stampA ++ leBytes 2 r.stampB else leBytes 6 r.stampA ++ leBytes 4 r.stampB

/-- A record byte for byte as it stands in the MRAM (Table 16.2). -/
def BbRec.sent (r : BbRec) : List Nat :=
  let body := 0xB7 :: leBytes 2 (r.item.typ + 16384 * bit01 r.seqForm + 32768 * bit01 r.item.fault) ++
    leBytes 2 r.item.payload.length ++ r.stamp ++ r.item.payload
  body ++ leBytes 4 (crc32c body) ++ [if r.valid then 0xA5 else 0]

/-- A record stands before a request's first stamp: one of the same form with a smaller stamp, by CYCLE then HOURS or by SEQ
then SUB (R531, R537; log entry 132). -/
def BbRec.earlier (r : BbRec) (first : Bool × Nat × Nat) : Bool :=
  r.seqForm = first.1 &&
    (if r.seqForm then r.stampA < first.2.1 || (r.stampA = first.2.1 && r.stampB < first.2.2)
     else r.stampB < first.2.2 || (r.stampB = first.2.2 && r.stampA < first.2.1))

/-- The valid records a readout returns: in write order, the permanent area first, from the first one not before the stamp
named on, as many as its limit (R537). -/
def State.readRecords (s : State) (area : Nat) (first : Option (Bool × Nat × Nat)) (limit : Nat) : List BbRec :=
  let recs := ((if area = 1 then [] else s.bb.perm) ++ (if area = 0 then [] else s.bb.circ)).filter (fun r => r.valid)
  (match first with
    | some f => recs.dropWhile (fun (r : BbRec) => r.earlier f)
    | none => recs).take limit

/-- BB_READOUT (R537; 13 R459): for SERVICE and FLEET sessions of the FILE service. A worker's is relayed to the unit named,
whose answer (`remote`) the session gets. -/
def execBbReadout (t session unit area : Nat) (first : Option (Bool × Nat × Nat)) (limit : Nat)
    (remote : Nat × List Int) (s : State) : Host.Outcome State Fault Refusal :=
  let s := s.begin t
  .next (match s.svcRefusal session 0x0030 [Cls.SERVICE, Cls.FLEET] with
    | some c => s.turnDown session c
    | none =>
      if unit = s.role.unit then
        s.reply session Res.OK (((s.readRecords area first limit).flatMap BbRec.sent).map Int.ofNat)
      else if s.reaches unit then
        (s.answer (.trunk 0) 0x30 [unit, area, limit, session]).reply session remote.1 remote.2
      else s.reply session Res.NO_OBJECT)

end Sys2Proof.Machine
end

