-- ==== Sys2Proof/Machine/ActionOps.lean ====
section
/-! DEFINITION. What a launch does where it fires (03 Table 3.11) and the conversion of a universal input
(18 R583 to R586), which launches and the status refresh share. -/

namespace Sys2Proof.Machine

/-! ### One-shot actions -/

/-- A one-shot entry's action takes place (Table 3.11): a setpoint application is noted for its function's launch,
a profile start or a switch change is ordered at the power stage (log entry 31), a prepared frame enters its
channel's FIFO, an event is logged. -/
def State.fireAction (s : State) (e : SlotS) : State :=
  let g := actTarget e.action
  match actClass e.action with
  | 1 =>
    let x := s.idxS (g / 16) (g % 16)
    s.setIdx (g / 16) (g % 16) { x with shots := (e.payload, e.instant) :: x.shots }
  | 2 =>
    { s with vd := { s.vd with launched := ins s.vd.launched g (s.now, e.order) } }.answer (.valve g)
      Src.launch [((e.payload / 65536 : Nat) : Int), ((e.payload % 16 : Nat) : Int)]
  | 3 => s.answer (.switch g) Src.launch [((e.payload % 2 : Nat) : Int)]
  | 4 => s.enterFifo (g / 256) (s.bufferFrame (g / 256) (g % 256))
  | 5 => s.log 0x2011 [(s.role.unit : Int), (e.payload : Int)]
  | _ => s

/-- A slot's handle: generation in the high half, slot in the low half (R132). -/
def SlotS.handle (e : SlotS) (n : Nat) : Nat := e.gen * 65536 + n

/-- An entry fired after its instant: counted and logged (R134, R138). -/
def State.lateLaunch (s : State) (n : Nat) : State :=
  let e := s.slot n
  (s.bump R.LN_STAT_LATE 0xFFFF).logOnce 0x2020 0 1000000 [e.handle n, e.action, s.harvest - e.instant]

/-- A class 0x2 or 0x3 entry with another of the same instant for its channel after it is not carried out (10 R364, 11
R387). -/
def State.superseded (s : State) (e : SlotS) : Bool :=
  (actClass e.action = 2 || actClass e.action = 3) && 0 < s.countWhere (fun x => x.action = e.action && s.precedes e x)

/-- One slot's entry fires (R125, R134): its outcome is kept and its action takes place. -/
def State.fireOne (s : State) (n : Nat) (late : Bool) : State :=
  let e := s.slot n
  let s := s.setSlot n { e with out := .fired }
  let s := if late then s.lateLaunch n else s
  if !s.superseded e then s.fireAction e
  else if actClass e.action = 2 then s.bump (R.VD_STAT_SUPERSEDED (actTarget e.action)) 15
  else s

/-- Armed entries that have come to their instant, on time, and that `p` names: their slots in the order of R127. -/
def State.dueSlots (s : State) (p : SlotS → Bool) : List Nat :=
  let due := s.ln.slots.filter (fun (x : Nat × SlotS) =>
    x.2.out = .armed && x.2.instant ≤ s.harvest && s.harvest ≤ x.2.instant + 4 && p x.2)
  (due.mergeSort (fun x y => effectRank x.2.action < effectRank y.2.action ||
    (effectRank x.2.action = effectRank y.2.action && x.2.order ≤ y.2.order))).map (fun x => x.1)

/-- Entries of this instant that `p` names fire, in the order of R127. -/
def State.fireDue (s : State) (p : SlotS → Bool) : State :=
  (s.dueSlots p).foldl (fun (s : State) (n : Nat) => s.fireOne n false) s

/-! ### Universal inputs -/

/-- A universal input's own state. -/
def State.uiS (s : State) (n : Nat) : UiS := (look s.ui n).getD {}

/-- A universal input's own state written. -/
def State.setUi (s : State) (n : Nat) (u : UiS) : State := { s with ui := ins s.ui n u }

/-- The comparator of FREQ and SWITCH, being `high` or not, at a level in volts (R584). -/
def State.uiHigh (s : State) (n : Nat) (high : Bool) (v : Rat) : Bool :=
  let th := s.rd (R.UI_CFG_THRESH n)
  let hys := s.rd (R.UI_CFG_HYS n)
  if mkRat th 20 < v then true
  else if th ≤ hys then (if v ≤ 0 then false else high)
  else if v < mkRat ((th : Int) - hys) 20 then false
  else high

/-- A level that has stood for 1 ms is taken (Table 18.8, SWITCH). -/
def UiS.settle (u : UiS) (now : Nat) : UiS := if u.since + 1000000 ≤ now then { u with taken := u.high } else u

/-- The comparator meets a level at an elapsed instant (R584). -/
def State.uiStep (s : State) (n : Nat) (u : UiS) (el : Nat) (v : Rat) : UiS :=
  let u := u.settle el
  let h := s.uiHigh n u.high v
  if h = u.high then u
  else { u with high := h, since := el, rises := if h then el :: u.rises.take 1 else u.rises, edge := some el }

/-- The level at a conversion: of an open wire, the PULL level, no current, or more than the divider's range (R598). -/
def State.uiLevel (s : State) (n : Nat) (r : ReadingIn) : Rat :=
  if !r.broken then mkRat r.micro 1000000
  else match s.rd (R.UI_CFG_MODE n) with
    | 1 => if s.rd (R.UI_CFG_PULL n) = 1 then 5 else 0
    | 3 => 1000000
    | 5 => if s.rd (R.UI_CFG_PULL n) = 1 then 5 else 0
    | _ => 0

/-- The comparator of FREQ and SWITCH follows what its input did up to now (R584). -/
def State.uiTrack (s : State) (n : Nat) (r : ReadingIn) : State :=
  if s.rd (R.UI_CFG_MODE n) ≠ 4 ∧ s.rd (R.UI_CFG_MODE n) ≠ 5 then s
  else
    let u := r.wave.foldl (fun (u : UiS) (p : Nat × Int) => s.uiStep n u (s.now - p.1) (mkRat p.2 1000000)) (s.uiS n)
    s.setUi n ((s.uiStep n u s.now (s.uiLevel n r)).settle s.now)

/-- A conversion's reading in the mode's unit (Table 18.8). In FREQ, before any full period has ended, no rule
gives one: a free value. In SWITCH the comparator decides and ACTIVE follows it. -/
def State.uiReading (s : State) (n : Nat) (r : ReadingIn) : Rat × State :=
  let u := s.uiS n
  match s.rd (R.UI_CFG_MODE n) with
  | 4 =>
    let quiet : Bool := match u.edge with
      | some e => decide (e + s.rd (R.UI_CFG_FREQ_TO n) * 1000000 ≤ s.now)
      | none => decide (s.rst.startAt + s.rd (R.UI_CFG_FREQ_TO n) * 1000000 ≤ s.now)
    if quiet then (0, s)
    else match u.rises with
      | [b, a] => (mkRat 1000000000 (b - a), s)
      | _ =>
        let (w, s) := s.fresh 32
        (f32 w, s)
  | 5 =>
    let active := u.taken != s.flag (R.UI_CFG_INV n)
    (if active then 1 else 0, s.wr (R.UI_STAT_ACTIVE n) (bit01 active))
  | _ => (s.uiLevel n r, s)

/-- A reading is over range (Table 18.8); with the CURRENT shunt open every one is. -/
def State.uiOver (s : State) (n : Nat) (q : Rat) : Bool :=
  match s.rd (R.UI_CFG_MODE n) with
  | 1 => 33 < q
  | 2 => (s.uiS n).openTill.isSome || 25 < q
  | 3 => 10500 < q
  | 4 => 55000 < q
  | _ => false

/-- The CAUSE of a bad sample (R586), 0 for a good one: over range comes first; of the two other reasons, when
both hold, the limits (log entry 51). -/
def State.uiCause (s : State) (n : Nat) (q : Rat) : Nat :=
  let lo := s.rdF (R.UI_LIM_LO n)
  let hi := s.rdF (R.UI_LIM_HI n)
  if s.uiOver n q then 3
  else if !(decide (lo = 0) && decide (hi = 0)) && (decide (q < lo) || decide (hi < q)) then 1
  else if s.rd (R.UI_CFG_MODE n) = 2 ∧ (q < 18 / 5 ∨ 21 < q) then 2
  else 0

/-- A sample judged (R586): a good one is passed on scaled, a bad one is missing; PLAUS_N in a row set or clear
FAULT. -/
def State.judgeUi (s : State) (n : Nat) (q : Rat) : State :=
  let u := s.uiS n
  let lim := s.rd (R.UI_CFG_PLAUS_N n)
  let c := s.uiCause n q
  if c = 0 then
    let v := toF32 (q * s.rdF (R.UI_SCALE_GAIN n) + s.rdF (R.UI_SCALE_OFFSET n))
    let g := satInc 255 u.good
    let s := (s.setUi n { u with value := some v, bad := 0, good := g }).wr (R.UI_STAT_VALUE n) v
    if lim ≤ g then s.wrs [(R.UI_STAT_FAULT n, 0), (R.UI_STAT_CAUSE n, 0)] else s
  else
    let b := satInc 255 u.bad
    let s := s.setUi n { u with value := none, bad := b, good := 0 }
    if lim ≤ b then s.wrs [(R.UI_STAT_FAULT n, 1), (R.UI_STAT_CAUSE n, c)] else s

/-- The CURRENT shunt opens above 30 mA, for 100 ms (Table 18.8). -/
def State.uiShunt (s : State) (n : Nat) (q : Rat) : State :=
  if s.rd (R.UI_CFG_MODE n) = 2 ∧ 30 < q ∧ (s.uiS n).openTill.isNone then
    s.setUi n { s.uiS n with openTill := some (s.now + 100000000) }
  else s

/-- An input is held and converted (R584 to R586). Less than 20 µs after its last hold that hold's result stands
and is counted in SHARED; launches of the same instant, which hold within 4 ns of it, share their conversion (log entry 51).
With MODE 0 there is none. -/
def State.convert (s : State) (n : Nat) (r : ReadingIn) : State :=
  if s.rd (R.UI_CFG_MODE n) = 0 then s
  else
    let new := fun (s : State) =>
      let s := s.setUi n { s.uiS n with heldAt := some s.now }
      let (q, s) := s.uiReading n r
      (s.uiShunt n q).judgeUi n q
    let s := s.uiTrack n r
    match (s.uiS n).heldAt with
    | some h =>
      if s.now ≤ h + 4 then s
      else if s.now < h + 20000 then s.bump (R.UI_STAT_SHARED n) 0xFFFF
      else new s
    | none => new s

end Sys2Proof.Machine
end

