-- ==== Sys2Proof/Machine/Launch.lean ====
section
/-! DEFINITION. The one-shot queue's commands (03 R122 to R138). -/

namespace Sys2Proof.Machine

/-- An action reference and flags a one-shot entry may carry (R124, R131; 11 R385): class 0x1 to 0x5,
target in range, no reserved flag, and no switch channel that is unused or PIN-DRIVEN. DESIGN CHOICE: a payload outside
Table 3.11 is refused like the reference (log entry 119). -/
def State.refOk (s : State) (e : EntryIn) : Bool :=
  let g := actTarget e.action
  e.flags < 8 && e.action < 65536 && match actClass e.action with
    | 1 => g ≤ 767
    | 2 => 1 ≤ g && g ≤ 32 && e.payload / 65536 ≤ 4000 && e.payload % 65536 < 16
    | 3 => 1 ≤ g && g ≤ 24 && s.rd (R.LS_CFG_USE g) = 1 && e.payload < 2
    | 4 => 1 ≤ g / 256 && g / 256 ≤ 10 && e.payload = 0
    | 5 => g = 0
    | _ => false

/-- Periodic launches of an instant on an executing island (R126, R128). -/
def State.periodicAt (s : State) (instant : Int) (isl : Nat) : Nat :=
  if s.ln.running then
    ((List.range 512).filter (fun n => s.flag (R.LN_PG_CFG_EN n) &&
      s.execIsland (s.rd (R.LN_PG_CFG_ACTION n)) = isl &&
      0 < s.rd (R.LN_PG_PERIOD n) &&
      (instant - s.rd (R.LN_PG_PHASE n)) % s.rd (R.LN_PG_PERIOD n) = 0)).length
  else 0

/-- The first test of R596 an insertion fails, with the refusal's content; the class is judged before. DESIGN CHOICE: an
instant equal to the time of acceptance has passed; LN_DROPPED of an entry without a handle and the "handle request" of
LN_NOT_COHERENT carry 0 (log entry 120). -/
def State.insertTest (s : State) (session : Nat) (e : EntryIn) : Option (Nat × List Int) :=
  let g := actTarget e.action
  let f := g / 16
  let isl := s.execIsland e.action
  let stopped := match s.fnOfAction e.action with
    | some fn => s.fnStopped fn
    | none => false
  if !s.refOk e then some (0x2025, [session, e.action, e.flags])
  else if actClass e.action = 1 ∧ s.rd (R.FN_CFG_PATH f) = 0 then some (0x3049, [f, 0xFF, session])
  else if actClass e.action = 1 ∧ s.rd (R.FN_CFG_NSP f) < g % 16 then some (0x3049, [f, (g % 16 : Nat), session])
  else if stopped then some (0x3048, [((s.fnOfAction e.action).getD 0 : Nat), e.action])
  else if actClass e.action = 1 ∧ s.rd (R.FN_SP_FLAGS_DELIVERY f (g % 16)) = 0 then
    some (0x3047, [f, (g % 16 : Nat), session])
  else if bitOf e.flags 1 ∧ s.ln.cohRefused then some (0x2028, [session, 0])
  else if s.harvest + 10000000000 < e.instant then some (0x2023, [session, e.instant])
  else if e.instant ≤ s.harvest ∧ bitOf e.flags 0 then some (0x2021, [0, e.action])
  else if 32 ≤ s.countWhere (fun x => x.instant = e.instant && s.execIsland x.action = isl) +
      s.periodicAt e.instant isl then some (0x2024, [isl, e.instant])
  else if 8192 ≤ s.queued then some (0x2022, [session])
  else none

/-- The lowest slot without a live entry (R132). -/
def State.freeSlot (s : State) : Nat :=
  ((List.range 8192).find? (fun n => !(s.slot n).live)).getD 0

/-- A slot's entry fires; the armed entries of its instant whose effects on its target come first (R127) fire before
it. -/
def State.fireSlot (s : State) (n : Nat) (late : Bool) : State :=
  let e := s.slot n
  (s.fireDue (fun x => s.precedes x e)).fireOne n late

/-- An entry accepted into a free slot (R132, R135; after a reset slots begin at generation 0, log entry 121); one whose
instant is less than 20 µs ahead is armed at once on the fast path, one whose instant has passed fires late (R134). -/
def State.acceptEntry (s : State) (session : Nat) (e : EntryIn) : State :=
  let n := s.freeSlot
  let old := s.slot n
  let gen := if old.out = .none then old.gen else (old.gen + 1) % 65536
  let x : SlotS := { gen, instant := e.instant, action := e.action, flags := e.flags,
                     payload := e.payload, order := s.ln.inserted, requester := session,
                     accepted := s.now,
                     out := if e.instant < s.harvest + 20000 then .armed else .queued }
  let s := { s with ln := { s.ln with inserted := s.ln.inserted + 1 } }
  let s := (s.setSlot n x).reply session 0 [x.handle n]
  if e.instant ≤ s.harvest then s.fireSlot n true else s

/-- An insertion judged and made (R124, R126, R131 to R134, R596): from a session of class MACHINE or above
or from the module itself (session 0); an entry for another unit is forwarded over the trunk, and the requester
receives what that unit answers, `remote`: a code, and with 0 the handle. -/
def State.insertEntry (s : State) (session unit : Nat) (entry : EntryIn) (remote : Nat × List Int) : State :=
  if !s.classAtLeast session 2 then s.lnRefuse session Res.CLASS [session]
  else if unit ≠ s.role.unit then
    (s.answer (.trunk 0) 0x20 [unit, entry.instant, entry.action, entry.flags, entry.payload]).reply
      session remote.1 remote.2
  else match s.insertTest session entry with
    | some (code, payload) => s.lnRefuse session code payload
    | none => s.acceptEntry session entry

/-- LN_INSERT (R124, R126, R131 to R134, R596). -/
def execLnInsert (t session unit : Nat) (entry : EntryIn) (remote : Nat × List Int) (s : State) :
    Host.Outcome State Fault Refusal :=
  .next (s.gated t session .insert (fun (s : State) => s.insertEntry session unit entry remote))

/-- ONESHOT_ARM (R92, R132, R134): armed from 100 µs before its instant; an entry whose word cannot be
corrected is destroyed. -/
def execOneshotArm (t slot ecc : Nat) (s : State) : Host.Outcome State Fault Refusal :=
  let s := s.begin t
  let e := s.slot slot
  .next (
    if !(e.out = .queued) then s
    else if ecc = 2 then (s.log 0x1031 [0, s.regionBase 0 + slot * 16, regionOwner 0]).destroyEntry slot
    else
      let s := if ecc = 1 then s.eccCorrected 0 (s.regionBase 0 + slot * 16) else s
      if e.instant ≤ s.harvest + 100000 then s.setSlot slot { e with out := .armed } else s)

/-- A dropped entry (R134): counted and logged; its function is not stopped. -/
def State.dropSlot (s : State) (n : Nat) : State :=
  let e := s.slot n
  ((s.setSlot n { e with out := .ended }).bump R.LN_STAT_DROPPED 0xFFFF).logOnce 0x2021 0 1000000
    [e.handle n, e.action]

/-- ONESHOT_FIRE (R108, R125, R134): never before the instant; on time when armed and within 4 ns, else
late, or dropped when NO_LATE is set. -/
def execOneshotFire (t slot : Nat) (s : State) : Host.Outcome State Fault Refusal :=
  let s := s.begin t
  let e := s.slot slot
  let late := !(e.out = .armed) || e.instant + 4 < s.harvest
  .next (
    if !e.live || s.harvest < e.instant || s.mode = Mode.WALK_HOME then s
    else if late && e.noLate then s.dropSlot slot
    else s.fireSlot slot late)

/-- Outcomes of a cancel request (R135; the manual gives them no numbers, log entry 24). -/
abbrev cancelOk : Nat := 0
abbrev alreadyFired : Nat := 1
abbrev noEntry : Nat := 2

/-- LN_CANCEL (R135): in time at least 2 µs before the moment of firing. -/
def execLnCancel (t session handle : Nat) (s : State) : Host.Outcome State Fault Refusal :=
  .next (s.gated t session (.cancel) (fun (s : State) =>
      let n := handle % 65536
      let e := s.slot n
    if !s.classAtLeast session 2 then s.reply session 2
    else if e.gen ≠ handle / 65536 ∨ e.out = .none then s.reply session 0 [noEntry]
    else if e.live then
      if s.harvest + 2000 ≤ e.instant then
        (s.setSlot n { e with out := .ended }).reply session 0 [cancelOk]
      else s.reply session 0 [alreadyFired]
    else if e.out = .fired then s.reply session 0 [alreadyFired]
    else s.reply session 0 [noEntry]))

/-- LN_COH_CANCEL (R122, Table 3.10 step 3): 50 ms after t_loss a worker still not SLAVED cancels its
later COHERENT entries and stops the functions that owned one. -/
def execLnCohCancel (t : Nat) (s : State) : Host.Outcome State Fault Refusal :=
  let s := s.begin t
  .next (match s.ln.lossAt with
    | none => s
    | some t0 =>
      if s.rd R.TB_STAT_QUAL = 3 ∨ s.harvest < t0 + 50000000 then s
      else
        let p := fun (e : SlotS) => e.coherent && t0 + 50000000 < e.instant
        let n := s.countWhere p
        let fns := (List.range 48).filter (fun f =>
          0 < s.countWhere (fun e => p e && s.fnOfAction e.action = some f))
        let s := (s.cancelWhere p).wr R.LN_STAT_COH_CANCEL
          (satAdd 0xFFFF (s.rd R.LN_STAT_COH_CANCEL) n)
        let s := { s with ln := { s.ln with lossAt := none } }
        let s := fns.foldl (fun (s : State) (f : Nat) => s.stopFn f 3) s
        s.log 0x2026 [n, ((fns.foldl (fun m f => m + 2 ^ f) 0 : Nat) : Int)])

end Sys2Proof.Machine
end

