-- ==== Sys2Proof/Machine/Inputs.lean ====
section
/-! DEFINITION. The periodic launches (03 R124 to R130) and the commands of 18: universal inputs and camera
power. -/

namespace Sys2Proof.Machine

/-! ### Periodic launches -/

/-- A generator fires at an instant now: an instant of its grid, no earlier and within 4 ns (R125, R128), not fired yet,
and after a step later than the step (R108). -/
def State.firesAt (s : State) (gen : Nat) (instant : Int) : Bool :=
  s.onLaunchGrid gen instant && instant ≤ s.harvest && s.harvest ≤ instant + 4 &&
    (match look s.ln.firedAt gen with
     | some l => decide (l < instant)
     | none => match s.ln.stepHt with
       | some h => decide (h < instant)
       | none => true)

/-- The true interval of a launch (R108): elapsed time between this instant and the generator's last one. -/
def State.noteFire (s : State) (gen : Nat) (instant : Int) : State :=
  let el := s.now - (s.harvest - instant).toNat
  let iv := match look s.ln.lastFire gen with
    | some l => ins s.ln.interval gen ((el : Int) - l)
    | none => s.ln.interval
  { s with ln := { s.ln with lastFire := ins s.ln.lastFire gen el, firedAt := ins s.ln.firedAt gen instant,
                             interval := iv } }

/-- Modes in which cameras are triggered and their frames taken (09 R324). -/
def State.camMode (s : State) : Bool :=
  [Mode.ROAD, Mode.FIELD_IDLE, Mode.HARVEST, Mode.SERVICE, Mode.TEST].contains s.mode

/-- A camera's trigger (09 R328): the frame number rises with every trigger; a link with lock carries it. -/
def State.triggerCam (s : State) (cam gen : Nat) (instant : Int) : State :=
  if !s.camUsed cam || s.flag (R.CAM_CFG_FREE cam) || s.rd (R.CAM_CFG_TRIG_PG cam) ≠ gen || !s.camMode ||
      s.islandOut 4 then s
  else
    let c := s.camS cam
    let c := { c with fno := c.fno + 1 }
    if !c.locked then s.setCam cam c
    else (s.setCam cam { c with trig := c.trig ++ [(instant, s.now, c.fno)] }).answer (.camera cam) 0x10 [instant]

/-- What a periodic launch does (Table 3.11): inputs and the IMU are sampled and cameras triggered here, the two of a
pair by their one generator (09 R327); the sample of a loop and the observer's step are commands of their own, for which
the launch is reported. -/
def State.firePeriodic (s : State) (gen : Nat) (instant : Int) (reading : ReadingIn) (axes : List Nat)
    (imuFault : Bool) : State :=
  let a := s.rd (R.LN_PG_CFG_ACTION gen)
  let g := actTarget a
  match actClass a with
  | 8 =>
    let s := if s.rd (R.CE_L_CFG_MEAS_TYPE g) = 1 then s.convert (s.rd (R.CE_L_CFG_MEAS_INDEX g)) reading else s
    s.answer (.action a) 8 [instant]
  | 9 => (s.convert g reading).answer (.action a) 9 [instant]
  | 10 =>
    let s := s.triggerCam g gen instant
    let p := s.rd (R.CAM_CFG_PAIR g)
    if p = 0 then s else s.triggerCam p gen instant
  | 11 => s.answer (.action a) 11 [instant]
  | 12 => { s with imu := { axes, fault := imuFault, stamp := instant } }
  | _ => s

/-- PERIODIC_FIRE (R108, R124, R128, R129, R137). -/
def execPeriodicFire (t gen : Nat) (instant : Int) (reading : ReadingIn) (axes : List Nat) (imuFault : Bool)
    (s : State) : Host.Outcome State Fault Refusal :=
  let s := s.begin t
  .next (
    if !s.firesAt gen instant then s
    else (s.noteFire gen instant).firePeriodic gen instant reading axes imuFault)

/-! ### Universal inputs -/

/-- An input has a launched consumer: a generator of its own, or one of a loop that measures it (R585). -/
def State.uiLaunched (s : State) (n : Nat) : Bool :=
  s.ln.running && (List.range 512).any (fun g => s.flag (R.LN_PG_CFG_EN g) &&
    (let a := s.rd (R.LN_PG_CFG_ACTION g)
     (actClass a = 9 && actTarget a = n) ||
       (actClass a = 8 && s.rd (R.CE_L_CFG_MEAS_TYPE (actTarget a)) = 1 &&
         s.rd (R.CE_L_CFG_MEAS_INDEX (actTarget a)) = n)))

/-- UI_STATUS_CONVERT (R585): an input in use without a launched consumer, at every 1 ms of harvest time. -/
def execUiStatusConvert (t ui : Nat) (reading : ReadingIn) (s : State) : Host.Outcome State Fault Refusal :=
  let s := s.begin t
  .next (if s.uiLaunched ui || !onGrid s.harvest 1000000 then s else s.convert ui reading)

/-- UI_SHUNT_RECLOSE (Table 18.8): 100 ms after it opened. -/
def execUiShuntReclose (t ui : Nat) (s : State) : Host.Outcome State Fault Refusal :=
  let s := s.begin t
  .next (match (s.uiS ui).openTill with
    | some e => if s.now < e then s else s.setUi ui { s.uiS ui with openTill := none }
    | none => s)

/-! ### Camera power (R592) -/

/-- A camera link's power is switched off: the camera loses lock. -/
def State.cutPower (s : State) (cam : Nat) : State :=
  let s := s.loseLink cam
  s.setCam cam { s.camS cam with off := true }

/-- The current a link draws, mA. -/
def State.linkCurrent (s : State) (currents : List (Nat × Nat)) (cam : Nat) : Nat :=
  if s.flag (R.CAM_CFG_POC cam) && !(s.camS cam).off then (currents.getD (cam - 1) (0, 0)).1 else 0

/-- POC_OVERCURRENT (R592): a link above 600 mA for 1 ms is switched off; above 3.2 A together, links from CAM16
downwards until the total is within it. `currents` are the links' currents in mA, each with the ns for which it has stood
above 600 mA. -/
def execPocOvercurrent (t : Nat) (currents : List (Nat × Nat)) (s : State) : Host.Outcome State Fault Refusal :=
  let s := s.begin t
  let s := cameras.foldl (fun (s : State) (c : Nat) =>
    if 600 < s.linkCurrent currents c && 1000000 ≤ (currents.getD (c - 1) (0, 0)).2 then s.cutPower c else s) s
  .next (cameras.reverse.foldl (fun (s : State) (c : Nat) =>
    if 3200 < sumNat (cameras.map (s.linkCurrent currents)) && 0 < s.linkCurrent currents c then s.cutPower c
    else s) s)

end Sys2Proof.Machine
end

