-- ==== Sys2Proof/Machine/IspOps.lean ====
section
/-! DEFINITION. The ISP's stages (09 R333, R334, R346; Tables 9.2 and 9.6; 14 Table 14.7). Samples are exact rationals at
16-bit full scale. What a stage does that the manual gives no rule for is a value of Config.imageValue (log entry 126). -/

namespace Sys2Proof.Machine

/-- Lines of pixels, each pixel its components: one before demosaic, then R, G, B, or the one of a mono sensor. -/
abbrev Pic := List (List (List Rat))

/-- Little-endian 16-bit words from a byte offset. -/
def halves (b : List Nat) (from_ n : Nat) : List Nat :=
  (List.range n).map (fun i => leValue ((b.drop (from_ + 2 * i)).take 2))

/-- Little-endian 32-bit words from a byte offset. -/
def fulls (b : List Nat) (from_ n : Nat) : List Nat :=
  (List.range n).map (fun i => leValue ((b.drop (from_ + 4 * i)).take 4))

/-- An ISPPAR record's value (14 Table 14.7). -/
def ispPar (b : List Nat) : IspPar :=
  let def_ := halves b 2972 (2 * leValue ((b.drop 2968).take 2))
  { points := (List.range (b.getD 0 0)).map (fun i =>
      ((halves b (4 + 12 * i) 1).headD 0, halves b (8 + 12 * i) 4, (halves b (100 + 2 * i) 1).headD 0)),
    grey := b.getD 1 0 = 1,
    lsc := halves b 116 884,
    wb := ((fulls b 1884 1).headD 0, (fulls b 1888 1).headD 0),
    ccm := fulls b 1892 12,
    tone := halves b 1940 257,
    out := halves b 2454 257,
    defects := (List.range (def_.length / 2)).map (fun i => (def_.getD (2 * i) 0, def_.getD (2 * i + 1) 0)) }

/-- Numbers that rise strictly. -/
def rising : List Nat → Bool
  | a :: b :: l => a < b && rising (b :: l)
  | _ => true

/-- An ISPPAR record's value is one of Table 14.7: its length, NGP, WBMODE, rising gain points, reserved fields 0. -/
def ispParOk (b : List Nat) : Bool :=
  let ndef := leValue ((b.drop 2968).take 2)
  b.length = 2972 + 4 * ndef && ndef ≤ 4096 && 1 ≤ b.getD 0 0 && b.getD 0 0 ≤ 8 && b.getD 1 0 ≤ 1 &&
    rising ((ispPar b).points.map (fun p => p.1)) &&
    ([2, 3, 2970, 2971] ++ (List.range 8).flatMap (fun i => [6 + 12 * i, 7 + 12 * i])).all (fun i => b.getD i 0 = 0)

/-- The eight stages of Table 9.2. -/
inductive IspStage where
  | blackLevel | defects | shading | demosaic | balance | colour | tone | scale
deriving DecidableEq, Repr

/-- The stages a unit passes, in order; a mono sensor (CFA 4) skips demosaic, white balance and colour correction
(R333). -/
def ispStages (cfa : Nat) : List IspStage :=
  [.blackLevel, .defects, .shading] ++ (if cfa = 4 then [] else [.demosaic, .balance, .colour]) ++ [.tone, .scale]

/-- What the stages of one unit rest on: the camera's parameters, the settings the frame was taken with (R340), the
white-balance gains in use, and the unit's place in the frame. -/
structure IspEnv where
  par : IspPar
  depth : Nat                        -- bits of a sample
  cfa : Nat
  width : Nat
  height : Nat
  first : Nat                        -- line of the frame the unit's lines begin with
  exp : Nat
  gain : Nat
  wb : Rat × Rat

/-- The channel of a sample: 0 R, 1 Gr, 2 Gb, 3 B by the colour filter array (Table 9.1); 0 of a mono sensor. -/
def cfaChannel (cfa x y : Nat) : Nat :=
  ([[0, 1, 2, 3], [1, 0, 3, 2], [2, 3, 0, 1], [3, 2, 1, 0]].getD cfa []).getD (x % 2 + 2 * (y % 2)) 0

/-- A line through points rising in their first number, at `g`; beyond the outermost points the manual gives no value. -/
def throughPoints (points : List (Nat × Rat)) (g : Nat) : Rat :=
  match points.find? (fun p => p.1 = g) with
  | some p => p.2
  | none =>
    match (points.filter (fun p => p.1 < g)).getLast?, points.find? (fun p => g < p.1) with
    | some a, some b => a.2 + (b.2 - a.2) * mkRat ((g : Int) - a.1) (b.1 - a.1)
    | _, _ => Config.imageValue 0 ((g : Rat) :: points.map (fun p => p.2))

/-- A 257-point curve at a level of 16-bit full scale. -/
def curveAt (curve : List Nat) (v : Rat) : Rat :=
  let i := min 255 (v / 256).floor.toNat
  let a : Nat := curve.getD i 0
  let b : Nat := curve.getD (i + 1) 0
  (a : Rat) + ((b : Rat) - a) * (v / 256 - (i : Rat))

/-- Every pixel of lines mapped with its column and its line in the frame. -/
def Pic.mapXY (p : Pic) (first : Nat) (f : Nat → Nat → List Rat → List Rat) : Pic :=
  (List.range p.length).map (fun y =>
    let row := p.getD y []
    (List.range row.length).map (fun x => f x (first + y) (row.getD x [])))

/-- Stage 1: the black level of each channel, by the points interpolated in gain. -/
def subtractBlack (e : IspEnv) (p : Pic) : Pic :=
  let off := (List.range 4).map (fun c => throughPoints (e.par.points.map (fun q => (q.1, ((q.2.1.getD c 0 : Nat) : Rat)))) e.gain)
  p.mapXY e.first (fun x y v => v.map (fun a => a - off.getD (cfaChannel e.cfa x y) 0))

/-- The same-colour neighbours of a sample that the unit's lines hold, at most 8: two samples away, or one of a mono
sensor. -/
def neighbours (e : IspEnv) (p : Pic) (x y : Nat) : List Rat :=
  let d := if e.cfa = 4 then 1 else 2
  ([(0, 0), (1, 0), (2, 0), (0, 1), (2, 1), (0, 2), (1, 2), (2, 2)] : List (Nat × Nat)).filterMap (fun q =>
    if x + q.1 * d < d ∨ y + q.2 * d < d + e.first then none
    else ((p.getD (y + q.2 * d - d - e.first) [])[x + q.1 * d - d]?).map (fun v => v.headD 0))

/-- The median; of an even number of values the mean of the two in the middle. -/
def median (l : List Rat) : Rat :=
  let l := l.mergeSort (fun a b => a ≤ b)
  let n := l.length
  (l.getD ((n - 1) / 2) 0 + l.getD (n / 2) 0) / 2

/-- Stage 2: a sample on the static map, or one the dynamic threshold tells, is the median of its neighbours. -/
def mendDefects (e : IspEnv) (p : Pic) : Pic :=
  let thr := throughPoints (e.par.points.map (fun q => (q.1, (q.2.2 : Rat)))) e.gain
  p.mapXY e.first (fun x y v =>
    let near := neighbours e p x y
    if e.par.defects.contains (x, y) || Config.imageValue 1 (thr :: v.headD 0 :: near) ≠ 0 then [median near] else v)

/-- Stage 3: lens shading, its grid interpolated bilinearly, corner nodes on the frame's corners. -/
def lensShading (e : IspEnv) (p : Pic) : Pic :=
  p.mapXY e.first (fun x y v =>
    let c := cfaChannel e.cfa x y
    let u := mkRat (16 * x) (e.width - 1)
    let w := mkRat (12 * y) (e.height - 1)
    let i := min 15 u.floor.toNat
    let j := min 11 w.floor.toNat
    let g := fun (i j : Nat) => mkRat (e.par.lsc.getD (221 * c + 17 * j + i) 0) 4096
    let row := fun (j : Nat) => g i j + (g (i + 1) j - g i j) * (u - (i : Rat))
    v.map (fun a => a * (row j + (row (j + 1) - row j) * (w - (j : Rat)))))

/-- Stage 4: edge-directed demosaic, whose interpolation the manual leaves open. -/
def interpolateColours (e : IspEnv) (p : Pic) : Pic :=
  let all := p.flatten.map (fun v => v.headD 0)
  p.mapXY e.first (fun x y _ => [0, 1, 2].map (fun (c : Nat) =>
    Config.imageValue 2 ([(c : Rat), (e.cfa : Rat), (x : Rat), (y : Rat), (e.width : Rat)] ++ all)))

/-- Stage 5: white balance. -/
def whiteBalance (e : IspEnv) (p : Pic) : Pic :=
  p.mapXY e.first (fun _ _ v => [v.getD 0 0 * e.wb.1, v.getD 1 0, v.getD 2 0 * e.wb.2])

/-- Stage 6: colour correction. -/
def colourCorrect (e : IspEnv) (p : Pic) : Pic :=
  let m := e.par.ccm.map f32
  p.mapXY e.first (fun _ _ v => [0, 1, 2].map (fun (r : Nat) =>
    m.getD (3 * r) 0 * v.getD 0 0 + m.getD (3 * r + 1) 0 * v.getD 1 0 + m.getD (3 * r + 2) 0 * v.getD 2 0 + m.getD (9 + r) 0))

/-- Stage 7: the tone curve at the pixel's luminance, which follows the exposure ratio, applied as a ratio to each
component; then the output curve. -/
def toneMap (e : IspEnv) (p : Pic) : Pic :=
  p.mapXY e.first (fun _ _ v =>
    let l := Config.imageValue 3 ((e.exp : Rat) :: (e.gain : Rat) :: v)
    v.map (fun a => curveAt e.par.out (a * divQ (curveAt e.par.tone l) l)))

/-- A stage on a unit's lines; scaling and cropping is each stream's own (R336) and leaves them. -/
def IspStage.run (st : IspStage) (e : IspEnv) (p : Pic) : Pic :=
  match st with
  | .blackLevel => subtractBlack e p
  | .defects => mendDefects e p
  | .shading => lensShading e p
  | .demosaic => interpolateColours e p
  | .balance => whiteBalance e p
  | .colour => colourCorrect e p
  | .tone => toneMap e p
  | .scale => p

/-- Raw lines at 16-bit full scale. -/
def rawPic (depth : Nat) (lines : List (List Nat)) : Pic :=
  lines.map (fun row => row.map (fun v => [((v * 2 ^ (16 - depth) : Nat) : Rat)]))

/-- A unit's lines at the statistics tap, after stage 3, and after tone mapping. -/
def runStages (e : IspEnv) (p : Pic) : Pic × Pic :=
  let l := ispStages e.cfa
  let tap := (l.take 3).foldl (fun (p : Pic) (st : IspStage) => st.run e p) p
  (tap, (l.drop 3).foldl (fun (p : Pic) (st : IspStage) => st.run e p) tap)

/-- Stage 8: a stream's bytes (R336): its crop divided by SCALE, each element from its square of pixels; FMT 0 Y8, 1 RGB
interleaved, 2 RGB planar. -/
def streamBytes (p : Pic) (fmt scale : Nat) (crop : List Nat) : List Nat :=
  let sc := max 1 scale
  let w := crop.getD 2 0 / sc
  let h := crop.getD 3 0 / sc
  let square := fun (x y : Nat) => (List.range sc).flatMap (fun j => (List.range sc).flatMap (fun i =>
    (p.getD (crop.getD 1 0 + y * sc + j) []).getD (crop.getD 0 0 + x * sc + i) []))
  let value := fun (c x y : Nat) =>
    (Config.imageValue 4 ((fmt : Rat) :: (c : Rat) :: (scale : Rat) :: square x y)).floor.toNat % 256
  let cells := (List.range h).flatMap (fun y => (List.range w).map (fun x => (x, y)))
  match fmt with
  | 0 => cells.map (fun q => value 0 q.1 q.2)
  | 1 => cells.flatMap (fun q => [0, 1, 2].map (fun c => value c q.1 q.2))
  | _ => [0, 1, 2].flatMap (fun c => cells.map (fun q => value c q.1 q.2))

/-- Channels of a statistics record (Table 9.6). -/
def statChannels (cfa : Nat) : Nat := if cfa = 4 then 1 else 4

/-- The samples of a channel in lines of the tap, with their places. -/
def channelSamples (cfa : Nat) (p : Pic) (c : Nat) : List (Nat × Nat × Rat) :=
  (List.range p.length).flatMap (fun y => (List.range (p.getD y []).length).filterMap (fun x =>
    if cfaChannel cfa x y = c then some (x, y, ((p.getD y []).getD x []).headD 0) else none))

/-- A channel's histogram: 256 counts of the samples' 8 most significant bits (R346). -/
def histogram (l : List (Nat × Nat × Rat)) : List Nat :=
  (List.range 256).map (fun b => l.countP (fun q => min 255 (q.2.2 / 256).floor.toNat = b))

/-- A channel's 256 zone averages, row by row, normalised by exposure and gain: 16 x 16 equal zones, the last row and
column taking the remainder (R346). -/
def zoneMeans (e : IspEnv) (l : List (Nat × Nat × Rat)) : List Nat :=
  (List.range 256).map (fun z =>
    let q := l.filter (fun q => min 15 (q.1 / max 1 (e.width / 16)) = z % 16 &&
      min 15 (q.2.1 / max 1 (e.height / 16)) = z / 16)
    let sum := q.foldl (fun (a : Rat) (q : Nat × Nat × Rat) => a + Config.imageValue 5 [(e.exp : Rat), (e.gain : Rat), q.2.2]) 0
    (divQ sum q.length).floor.toNat % 65536)

/-- The mean of a channel's zone averages. -/
def channelMean (zones : List Nat) (c : Nat) : Rat := mkRat (sumNat ((zones.drop (256 * c)).take 256)) 256

/-- The white-balance gains in use: the fixed ones, or grey-world from the zone averages of the previous processed frame
(Table 9.2, stage 5); for the first frame the manual gives none. -/
def balanceGains (par : IspPar) (zones : List Nat) : Rat × Rat :=
  if !par.grey then (f32 par.wb.1, f32 par.wb.2)
  else if zones.isEmpty then (Config.imageValue 6 [0], Config.imageValue 6 [1])
  else
    let g := (channelMean zones 1 + channelMean zones 2) / 2
    (divQ g (channelMean zones 0), divQ g (channelMean zones 3))

/-- A frame's unit `k` (R334): its first line and the line after its last, and the same with the 4 lines it also reads
beyond each interior edge. -/
def unitSpan (stripe : Bool) (n height k : Nat) : Nat × Nat × Nat × Nat :=
  if !stripe then (0, height, 0, height)
  else
    let a := min height (k * max 1 n)
    let b := min height (a + max 1 n)
    (a, b, a - (if a = 0 then 0 else 4), if b = height then height else min height (b + 4))

end Sys2Proof.Machine
end

