-- ==== Sys2Proof/Machine/Cameras.lean ====
section
/-! DEFINITION. The commands of 09: ingress, the ISP cores, sensor settings, links and vision networks. -/

namespace Sys2Proof.Machine

/-! ### Sensor settings in flight (R338 to R341) -/

/-- The exposure and gain a frame is taken with: every setting in flight applies from its write frame plus the
sensor's delays, a later write over an earlier one. -/
def State.settingsFor (s : State) (cam fno : Nat) : Nat × Nat :=
  let de := s.rd (R.CAM_SENS_DLY_EXP cam)
  let dg := s.rd (R.CAM_SENS_DLY_GAIN cam)
  (s.camS cam).flight.foldl (fun (b : Nat × Nat) (x : Nat × Nat × Nat) =>
    (if x.1 + de ≤ fno then x.2.1 else b.1, if x.1 + dg ≤ fno then x.2.2 else b.2)) (s.camS cam).base

/-- Settings that a frame and all later ones have in full are no longer in flight. -/
def State.settleFlight (s : State) (cam fno : Nat) : State :=
  let c := s.camS cam
  let d := max (s.rd (R.CAM_SENS_DLY_EXP cam)) (s.rd (R.CAM_SENS_DLY_GAIN cam))
  match c.flight.filter (fun x => x.1 + d ≤ fno) with
  | [] => s
  | x :: xs =>
    let l := xs.getLastD x
    s.setCam cam { c with base := (l.2.1, l.2.2), flight := c.flight.filter (fun y => !(y.1 + d ≤ fno)) }

/-! ### Ingress (R328 to R332) -/

/-- What the present shed level makes of a camera (R352). -/
def State.shedNow (s : State) (cam : Nat) : Nat :=
  shedAct (s.rd R.CORE_PACE_SHED) (s.rd (R.CAM_STAT_CLASS cam))

/-- A frame of a pair that will have no TENSOR stream (R349). -/
def State.pairGone (s : State) (cam : Nat) (trig : Int) : State :=
  if s.rd (R.CAM_CFG_PAIR cam) = 0 then s
  else
    let c := s.camS cam
    s.setCam cam { c with gone := (c.gone ++ [trig]).drop (c.gone.length - 31) }

/-- Units of a frame (R334). -/
def State.frameUnits (s : State) (cam : Nat) : Nat :=
  if s.flag (R.CAM_CFG_STRIPE cam) then
    let n := max 1 (s.rd (R.CAM_CFG_STRIPE_LINES cam))
    max 1 ((s.rd (R.CAM_GEOM_HEIGHT cam) + n - 1) / n)
  else 1

/-- RATE (Table 9.9): frames processed in the last 1 s, in 0.5 fps. -/
def State.showRate (s : State) (cam : Nat) : State :=
  let c := s.camS cam
  let l := c.processed.filter (fun x => s.now < x + 1000000000)
  (s.setCam cam { c with processed := l }).wr (R.CAM_STAT_RATE cam) (min 255 (2 * l.length))

/-- A frame taken into a buffer, with the settings its sensor applied (R331, R340): embedded values that differ
from the tracked ones are counted and used. -/
def State.takeFrame (s : State) (cam fno : Nat) (trig stamp : Int) (x : FrameIn) : State :=
  let set := s.settingsFor cam fno
  let own := if s.flag (R.CAM_CFG_EMBED cam) then x.embed.getD set else set
  let s := s.settleFlight cam fno
  let s := if own = set then s
           else (s.bump (R.CAM_CNT_MISMATCH cam) 255).camLog 0x6005 cam [cam, (fno % 2 ^ 32 : Nat), set.1, own.1]
  let c := s.camS cam
  let f : CamFrame := { fno, stamp, trig, total := s.frameUnits cam, exp := own.1, gain := own.2,
                        quiet := 0 < c.settle, startAt := s.now, raw := x.lines, bad := x.bad,
                        susp := 2 ≤ s.rd R.CORE_PACE_SHED && s.rd (R.CAM_STAT_CLASS cam) ≠ 4 }
  let s := s.setCam cam { c with frames := c.frames ++ [f], settle := c.settle - 1 }
  if c.settle = 0 ∧ s.rd (R.CAM_STAT_STATE cam) = Cam.SETTLING then s.setCamState cam Cam.RUNNING
  else s

/-- A frame that starts: dropped by shedding or for want of a buffer, or taken into one (R332, R352). A level change acts
from here on (01 R29). -/
def State.judgeFrame (s : State) (cam fno : Nat) (trig stamp : Int) (f : FrameIn) : State :=
  let act := s.shedNow cam
  let s := s.wr (R.CAM_STAT_ACT cam) act
  let c := s.camS cam
  let half := act = 1 && c.odd
  let s := s.setCam cam { c with odd := act = 1 && !c.odd }
  let n : Int := ((fno % 2 ^ 32 : Nat) : Int)
  if act = 2 || half then (s.bump (R.CAM_CNT_SHED cam) 0xFFFF).pairGone cam trig
  else if s.rd (R.CAM_CFG_NBUF cam) ≤ c.frames.length then
    ((s.bump (R.CAM_CNT_RING cam) 0xFFFF).camLog 0x6004 cam [cam, n]).pairGone cam trig
  else s.takeFrame cam fno trig stamp f

/-- A camera's frame dropped at ingress: its stripes already processed with it, and of a pair its instant (R332, R349). -/
def State.dropFrame (s : State) (cam : Nat) (f : CamFrame) : State :=
  let c := s.camS cam
  (s.setCam cam { c with frames := c.frames.filter (fun (x : CamFrame) => x.fno ≠ f.fno) }).pairGone cam f.trig

/-- A frame judged by its lines up to `hi` (R332): a line in error is logged and counted, a line count or line length
that differs from GEOM counted; none when the frame goes on. -/
def State.frameFault (s : State) (cam : Nat) (f : CamFrame) (hi : Nat) : Option State :=
  let bad := (f.bad.filter (fun (n : Nat) => n < hi)).length
  if bad ≠ 0 then
    some (((s.bump (R.CAM_CNT_CRC cam) 255).camLog 0x6003 cam [cam, (f.fno % 2 ^ 32 : Nat), bad]).dropFrame cam f)
  else if f.raw.length < hi ∨ (f.raw.take hi).any (fun row => row.length ≠ s.rd (R.CAM_GEOM_WIDTH cam)) ∨
      (f.ready + 1 = f.total ∧ f.raw.length ≠ s.rd (R.CAM_GEOM_HEIGHT cam)) then
    some ((s.bump (R.CAM_CNT_CRC cam) 255).dropFrame cam f)
  else none

/-- Number, trigger instant and STAMP of the frame that starts now (R328, R329): the oldest trigger's, or a
free-running camera's own. None while frames are not accepted (R324). -/
def State.frameIdent (s : State) (cam : Nat) : Option (Nat × Int × Int) :=
  let c := s.camS cam
  if !s.camUsed cam || !c.locked || !s.camMode || s.islandOut 4 then none
  else if s.flag (R.CAM_CFG_FREE cam) then
    let st := s.harvest - s.rd (R.CAM_TIME_SOF_OFF cam)
    some (c.fno + 1, st, st)
  else match c.trig with
    | [] => none
    | x :: _ => some (x.2.2, x.1, x.1 + s.rd (R.CAM_TIME_TRIG_LAT cam))

/-- FRAME_START (R328 to R332, R340, R352): `frame` is what ingress finds in the frame. -/
def execFrameStart (t cam : Nat) (frame : FrameIn) (s : State) : Host.Outcome State Fault Refusal :=
  let s := s.begin t
  .next (match s.frameIdent cam with
    | none => s
    | some (fno, trig, stamp) =>
      let c := s.camS cam
      let s := s.setCam cam { c with fno := max c.fno fno, last := fno, misses := 0, trig := c.trig.drop 1, startAt := s.now }
      let s := s.wrs [(R.CAM_STAT_FNO_LOW cam, fno % 65536), (R.CAM_LAST_STAMP cam, ofSigned 64 stamp)]
      (s.judgeFrame cam fno trig stamp frame).showRate cam)

/-- CAM_MISSED (R330): no frame start within MIN_PERIOD plus 2 ms; the third in a row makes the camera missing. -/
def execCamMissed (t cam : Nat) (s : State) : Host.Outcome State Fault Refusal :=
  let s := s.begin t
  let c := s.camS cam
  .next (match c.trig with
    | [] => s
    | x :: rest =>
      if s.now < x.2.1 + s.rd (R.CAM_SENS_MIN_PERIOD cam) * 10000 + 2000000 then s
      else
        let s := s.setCam cam { c with trig := rest, misses := c.misses + 1 }
        let s := ((s.bump (R.CAM_CNT_MISSED cam) 255).camLog 0x6002 cam [cam, x.1]).pairGone cam x.1
        if c.misses = 2 then s.setCamState cam Cam.MISSING else s)

/-! ### The ISP cores (R334, R335, R342, R345) -/

/-- An ISP core's own state. -/
def State.coreS (s : State) (core : Nat) : CoreS := (look s.cams.core core).getD {}

/-- An ISP core's own state written, with LOAD, CAM and SWITCHES of the last 1 s (Table 9.5). -/
def State.setCore (s : State) (core : Nat) (c : CoreS) : State :=
  let from_ := s.now - 1000000000
  let c := { c with busy := c.busy.filter (fun p => from_ < p.2),
                    switches := c.switches.filter (fun x => s.now < x + 1000000000) }
  let ns := sumNat (c.busy.map (fun p => p.2 - max p.1 from_)) +
    (if c.cur.isSome then s.now - max c.since from_ else 0)
  ({ s with cams := { s.cams with core := ins s.cams.core core c } }).wrs
    [(R.ISP_C_STAT_LOAD core, min 200 (ns / 5000000)),
     (R.ISP_C_STAT_CAM core, match c.cur with
       | some x => x.1
       | none => 0),
     (R.ISP_C_STAT_SWITCHES core, min 0xFFFF c.switches.length)]

/-- A camera's frame in front, when a unit of it is ready and no core works on the camera (R334). -/
def State.readyFrame (s : State) (cam : Nat) : Option CamFrame :=
  let inCore := [0, 1].any (fun k => match (s.coreS k).cur with
    | some x => x.1 = cam
    | none => false)
  match (s.camS cam).frames with
  | f :: _ => if !inCore && f.done < f.ready then some f else none
  | [] => none

/-- The crops of a frame whose first unit starts: those a later write left to its trigger instant, else the registers
(R337). -/
def State.cropsFor (s : State) (cam : Nat) (trig : Int) : List (List Nat) :=
  match (s.camS cam).cropLog.find? (fun (e : Int × List (List Nat)) => trig ≤ e.1) with
  | some e => e.2
  | none => s.cropsNow cam

/-- The lines of a camera's unit (R334). -/
def State.unitLines (s : State) (cam k : Nat) : Nat × Nat × Nat × Nat :=
  unitSpan (s.flag (R.CAM_CFG_STRIPE cam)) (s.rd (R.CAM_CFG_STRIPE_LINES cam)) (s.rd (R.CAM_GEOM_HEIGHT cam)) k

/-- A unit's processing time at floor, ns: its pixels, overlap included, at 1.2 Gpixel/s (R335). -/
def State.unitTime (s : State) (cam k : Nat) : Nat :=
  let u := s.unitLines cam k
  s.rd (R.CAM_GEOM_WIDTH cam) * (u.2.2.2 - u.2.2.1) * 5 / 6

/-- A core starts a camera's unit (R335, R337): a change of camera is a context switch of 2.5 us at floor; a frame's crops
are those at its first unit's start. -/
def State.startUnitOn (s : State) (core cam : Nat) (f : CamFrame) : State :=
  let c := s.camS cam
  let f' := { f with readyAt := f.readyAt.drop 1, crops := if f.done = 0 then s.cropsFor cam f.trig else f.crops }
  let s := s.setCam cam (if f.done = 0 then
      { c with frames := f' :: c.frames.drop 1, started := some f.trig,
               cropLog := c.cropLog.filter (fun (e : Int × List (List Nat)) => f.trig < e.1) }
    else { c with frames := f' :: c.frames.drop 1 })
  let s := s.raise (R.ISP_ASTAT_WAITMAX cam) (min 255 ((s.now - f.readyAt.headD s.now) / 100000))
  let k := s.coreS core
  let same := k.last = some (cam - 1)
  let ns := s.unitTime cam f.done + (if same then 0 else 2500)
  s.setCore core { k with cur := some (cam, f.fno), since := s.now, last := some (cam - 1), due := s.now + s.paced ns,
                          switches := if same then k.switches else k.switches ++ [s.now] }

/-- The arbiter's decision for an idle core by the precedence of Table 2.9 (R342); none while no camera asks. -/
def State.decideCore (s : State) (core : Nat) : State :=
  let asking := (List.range 16).filter (fun q => (s.readyFrame (q + 1)).isSome)
  if (s.coreS core).cur.isSome || asking.isEmpty then s
  else
    let limit := fun q => s.rd (R.ISP_ARB_WAITLIM (q + 1))
    let a := { s.cams.arb with parked := (s.coreS core).last }.present limit asking
    let w := a.winner limit (fun q => s.rd (R.ISP_ARB_PRIO (q + 1))) asking
    let s := { s with cams := { s.cams with arb := a.grant (w.map (fun p => p.1)) } }
    match w with
    | none => s
    | some (q, forced) =>
      let s := if forced then s.bump (R.ISP_ASTAT_FORCED (q + 1)) 0xFFFF else s
      match s.readyFrame (q + 1) with
      | some f => s.startUnitOn core (q + 1) f
      | none => s

/-- A camera's next unit stands in CAMRAW, its overlap included, or its frame is dropped for what its lines show (R332,
R334): the frame's lines come LINE_NS apart. A missing camera runs again from its first complete frame (R330). -/
def State.unitStored (s : State) (cam : Nat) : State :=
  let c := s.camS cam
  match c.frames.find? (fun (f : CamFrame) => f.ready < f.total) with
  | none => s
  | some f =>
    let hi := (s.unitLines cam f.ready).2.2.2
    if s.now < f.startAt + hi * s.rd (R.CAM_SENS_LINE_NS cam) then s
    else match s.frameFault cam f hi with
      | some s => s
      | none =>
        let f' := { f with ready := f.ready + 1, readyAt := f.readyAt ++ [s.now] }
        let s := s.setCam cam { c with frames := c.frames.map (fun (x : CamFrame) => if x.fno = f.fno then f' else x) }
        if f'.ready = f'.total ∧ s.rd (R.CAM_STAT_STATE cam) = Cam.MISSING then s.setCamState cam Cam.RUNNING else s

/-- UNIT_READY (R330, R334, R342): the units of `cams` become ready at one instant; idle cores decide, core 0
first. -/
def execUnitReady (t : Nat) (cams : List Nat) (s : State) : Host.Outcome State Fault Refusal :=
  let s := cams.foldl (fun (s : State) (c : Nat) => s.unitStored c) (s.begin t)
  .next ((s.decideCore 0).decideCore 1)

/-- The stage parameters of a camera: its ISPPAR record's; without one the manual gives none (log entry 126). -/
def State.ispParOf (s : State) (cam : Nat) : IspPar :=
  (look s.cams.par cam).getD (ispPar ((List.range 2972).map (fun i =>
    (Config.imageValue 7 [(i : Rat)]).floor.toNat % 256)))

/-- What the stages of a frame's unit rest on (R333, R340): the exposure and gain its sensor applied to it. -/
def State.ispEnv (s : State) (cam : Nat) (f : CamFrame) (first : Nat) : IspEnv :=
  let par := s.ispParOf cam
  { par, depth := 8 + 2 * s.rd (R.CAM_CFG_DEPTH cam), cfa := s.rd (R.CAM_CFG_CFA cam),
    width := s.rd (R.CAM_GEOM_WIDTH cam), height := s.rd (R.CAM_GEOM_HEIGHT cam), first, exp := f.exp, gain := f.gain,
    wb := balanceGains par (s.camS cam).zones }

/-- A unit passes the stages (R333, R334): of the lines read, those of the unit itself are kept. -/
def State.processUnit (s : State) (cam : Nat) (f : CamFrame) : CamFrame :=
  let u := s.unitLines cam f.done
  let e := s.ispEnv cam f u.2.2.1
  let p := runStages e (rawPic e.depth ((f.raw.take u.2.2.2).drop u.2.2.1))
  let own := fun (p : Pic) => (p.drop (u.1 - u.2.2.1)).take (u.2.1 - u.1)
  { f with done := f.done + 1, tap := f.tap ++ own p.1, pic := f.pic ++ own p.2 }

/-- The statistics record of a processed frame (R346, Table 9.6), from its lines at the tap; the exposure index is no value
of the manual's: free. The zone averages stand for the next frame's white balance. -/
def State.publishStats (s : State) (cam : Nat) (f : CamFrame) : State :=
  let e := s.ispEnv cam f 0
  let nch := statChannels e.cfa
  let ch := (List.range nch).map (channelSamples e.cfa f.tap)
  let zones := ch.flatMap (zoneMeans e)
  let (x, s) := s.fresh 8
  let eg : Nat := x * 256 + min 255 (f.gain / 25)
  let s := s.setCam cam { s.camS cam with zones }
  s.publish (0x20 + cam) (16 + 1536 * nch)
    ([f.stamp, ((f.fno % 2 ^ 32 : Nat) : Int), (cam : Int), (nch : Int), (eg : Int)] ++
      (ch.flatMap histogram ++ zones).map Int.ofNat)

/-- Automatic exposure proposes a setting within EXP_MAX, unless four are in flight (R338, R341). -/
def State.propose (s : State) (cam : Nat) (ae : Option (Nat × Nat)) : State :=
  let c := s.camS cam
  match ae with
  | some (e, g) =>
    if s.rd (R.CAM_CFG_AE cam) = 1 ∧ c.flight.length < 4 then
      s.setCam cam { c with prop := some (min e (s.rd (R.CAM_EXP_EXP_MAX cam)), g) }
    else s
  | none => s

/-- The streams of a processed frame (R336 to R338), those suspended at its start left out: TENSOR for its network,
SNAPSHOT for sessions. -/
def State.deliver (s : State) (cam : Nat) (f : CamFrame) : State :=
  [0, 1, 2, 3].foldl (fun (s : State) (k : Nat) =>
    let c := s.camS cam
    let pic := streamBytes f.pic (s.rd (R.ISP_OUT_FMT cam k)) (s.rd (R.ISP_OUT_SCALE cam k)) (f.crops.getD k [])
    if 2 ≤ k && f.susp then s
    else match s.rd (R.ISP_OUT_DEST cam k) with
      | 1 =>
        if f.quiet then s
        else
          let x : TensorS := { trig := f.trig, stamp := f.stamp, fno := f.fno, at_ := s.now, pic }
          s.setCam cam { c with tensor := c.tensor ++ [x] }
      | 2 => s.setCam cam { c with snap := ins c.snap k (f.stamp, f.fno % 2 ^ 32, f.crops.getD k [], pic) }
      | _ => s) s

/-- A frame's last unit is done: its buffer is free, its streams, statistics and proposal are made. -/
def State.frameDone (s : State) (cam : Nat) (f : CamFrame) (ae : Option (Nat × Nat)) : State :=
  let c := s.camS cam
  let s := s.setCam cam { c with frames := c.frames.filter (fun (x : CamFrame) => x.fno ≠ f.fno),
                                 processed := c.processed ++ [s.now] }
  ((((s.publishStats cam f).deliver cam f).propose cam ae).showRate cam)

/-- A core gives up its unit. -/
def State.idleCore (s : State) (core : Nat) : State :=
  let k := s.coreS core
  s.setCore core { k with cur := none, busy := k.busy ++ [(k.since, s.now)] }

/-- ISP_UNIT_DONE (R333 to R346): the unit has passed the stages in its time (R335); one whose frame was discarded
meanwhile leaves nothing. `ae` is automatic exposure's proposal on the frame's statistics. -/
def execIspUnitDone (t core : Nat) (ae : Option (Nat × Nat)) (s : State) : Host.Outcome State Fault Refusal :=
  let s := s.begin t
  .next (match (s.coreS core).cur with
    | none => s
    | some (cam, fno) =>
      if s.now < (s.coreS core).due then s
      else
      let s := s.idleCore core
      let c := s.camS cam
      let s := match c.frames.find? (fun (f : CamFrame) => f.fno = fno) with
        | none => s
        | some f =>
          let f := s.processUnit cam f
          if f.done < f.total then
            s.setCam cam { c with frames := c.frames.map (fun (x : CamFrame) => if x.fno = fno then f else x) }
          else s.frameDone cam f ae
      s.decideCore core)

/-- ISP_ABORT (R345): the unit's whole frame is dropped and the core decides again. -/
def execIspAbort (t core : Nat) (s : State) : Host.Outcome State Fault Refusal :=
  let s := s.begin t
  .next (match (s.coreS core).cur with
    | none => s
    | some (cam, fno) =>
      let s := (s.idleCore core).camLog 0x6010 cam [core, cam, (fno % 2 ^ 32 : Nat)]
      let s := match (s.camS cam).frames.find? (fun (f : CamFrame) => f.fno = fno) with
        | some f => s.dropFrame cam f
        | none => s
      s.decideCore core)

/-- SETTING_WRITE (R339, R341): the proposed setting written over the back channel in the window of the frame now being
received, from its frame start to WIN_US after it, or abandoned for the next one's. -/
def execSettingWrite (t cam : Nat) (done : Bool) (s : State) : Host.Outcome State Fault Refusal :=
  let s := s.begin t
  let c := s.camS cam
  .next (match c.prop with
    | some (e, g) =>
      if done && c.locked && s.now ≤ c.startAt + s.rd (R.CAM_SENS_WIN_US cam) * 1000 then
        (s.setCam cam { c with flight := c.flight ++ [(c.last, e, g)], prop := none }).answer (.camera cam) 0x11 [e, g]
      else s
    | none => s)

/-! ### Links (R324, R325) -/

/-- CAM_LINK (R325): the link loses lock. -/
def execCamLink (t cam : Nat) (s : State) : Host.Outcome State Fault Refusal :=
  .next ((s.begin t).loseLink cam)

/-- A trained link (R324, R325, R338): trigger latency measured, the start-up register script written over the back
channel, start-up settings in force, nothing pending, and SETTLE frames to come without vision output. -/
def State.linkUp (s : State) (cam trigLat : Nat) : State :=
  let n := s.rd (R.CAM_EXP_SETTLE cam)
  let c := s.camS cam
  let c : CamS := { c with
    locked := true, off := false, frames := [], trig := [], misses := 0, odd := false, settle := n, flight := [], prop := none,
    base := (s.rd (R.CAM_EXP_EXP_FIX cam), s.rd (R.CAM_EXP_GAIN_FIX cam)) }
  let s := (s.setCam cam c).wr (R.CAM_TIME_TRIG_LAT cam) trigLat
  let s := s.answer (.camera cam) 0x12 (((look s.cams.script cam).getD []).map Int.ofNat)
  (s.setCamState cam (if n = 0 then Cam.RUNNING else Cam.SETTLING)).logLink cam true

/-- LINK_RETRAIN (R324, R325; 18 R592): an attempt comes 1 s after the loss of lock or the one before; power over the coax
returns at the attempt. -/
def execLinkRetrain (t cam : Nat) (ok : Bool) (trigLat : Nat) (s : State) : Host.Outcome State Fault Refusal :=
  let s := s.begin t
  .next (
    let early : Bool := match (s.camS cam).tryAt with
      | some x => s.now < x + 1000000000
      | none => false
    if !s.camUsed cam || (s.camS cam).locked || early || !bitOf (s.rd R.PWR_STAT_PD) 5 || s.islandOut 4 then s
    else
      let s := s.setCam cam { s.camS cam with off := false, tryAt := some s.now }
      if ok then s.linkUp cam trigLat else s)

/-! ### Vision networks (R347 to R349) -/

/-- The network of a camera's purpose (Table 9.7), 0 for none. -/
def State.netOf (s : State) (cam : Nat) : Nat :=
  [0, 1, 0, 2, 3, 4, 5, 0].getD (s.rd (R.CAM_CFG_PURPOSE cam)) 0

/-- A camera's frame period, ns: its generator's, or MIN_PERIOD of a free-running one (log entry 52). -/
def State.framePeriod (s : State) (cam : Nat) : Nat :=
  if s.flag (R.CAM_CFG_FREE cam) then s.rd (R.CAM_SENS_MIN_PERIOD cam) * 10000
  else s.rd (R.LN_PG_PERIOD (s.rd (R.CAM_CFG_TRIG_PG cam)))

/-- The TENSOR stream of a trigger instant. -/
def State.tensorOf (s : State) (cam : Nat) (trig : Int) : Option TensorS :=
  (s.camS cam).tensor.find? (fun (x : TensorS) => x.trig = trig)

/-- A trigger instant's TENSOR streams leave ISPOUT, with what was noted as gone of it. -/
def State.releaseTensor (s : State) (cam : Nat) (trig : Int) : State :=
  let c := s.camS cam
  s.setCam cam { c with tensor := c.tensor.filter (fun (x : TensorS) => x.trig ≠ trig), gone := c.gone.filter (· ≠ trig) }

/-- The next run of a camera's network: the oldest TENSOR stream, for STEREO one that both cameras of the pair
have; the record stands under the lower-numbered camera (Table 9.8). -/
def State.nextRun (s : State) (cam : Nat) : Option (Nat × TensorS) :=
  if s.netOf cam = 0 then none
  else if s.netOf cam = 1 then
    let p := s.rd (R.CAM_CFG_PAIR cam)
    let lo := min cam p
    match (s.camS lo).tensor.find? (fun (x : TensorS) => (s.tensorOf (max cam p) x.trig).isSome) with
    | some x => some (lo, x)
    | none => none
  else match (s.camS cam).tensor with
    | x :: _ => some (cam, x)
    | [] => none

/-- A run's inputs are given back. -/
def State.endRun (s : State) (cam : Nat) (x : TensorS) : State :=
  let s := s.releaseTensor cam x.trig
  if s.rd (R.CAM_CFG_PAIR cam) = 0 then s else s.releaseTensor (s.rd (R.CAM_CFG_PAIR cam)) x.trig

/-- A vision record published (R348): kept as the network's last one, sent to subscribers, on a worker forwarded
to the manager; yield mapping keeps STEREO's widths (08 R313). -/
def State.publishVision (s : State) (cam : Nat) (x : TensorS) (values : List Nat) : State :=
  let net := s.netOf cam
  let r : VisRec := { stamp := x.stamp, fno := x.fno % 2 ^ 32, cam, values }
  let s := { s with cams := { s.cams with vis := ins s.cams.vis net r } }
  let d : List Int := [x.stamp, (r.fno : Int), (cam : Int), (net : Int), (values.length : Int)] ++ values.map Int.ofNat
  let s := s.publish (0x40 + cam) (16 + 4 * values.length) d
  let s := if net = 1 then s.noteStereo x.trig values else s
  if s.isWorker then s.answer (.trunk 0) 0x47 d else s

/-- A run that could not start within three frame periods is dropped (R348). -/
def State.dropRun (s : State) (cam : Nat) (x : TensorS) : State :=
  (s.endRun cam x).camLog 0x6020 cam [cam, s.netOf cam, x.stamp]

/-- A network's time from its complete input to its record, at floor, ns (Table 9.7). -/
def netTime (net : Nat) : Nat := [0, 9000000, 2500000, 3000000, 3000000, 1000000].getD net 0

/-- A run is too late to start (R348); `ns` is how long ago it would have started. -/
def State.runLate (s : State) (cam : Nat) (x : TensorS) (ns : Nat) : Bool :=
  x.stamp + (3 * s.framePeriod cam : Nat) + ns < s.harvest

/-- VISION_RUN (R347, R348): a run ends with its record; it began the network's time ago, at the present pace. `values` are
the network's outputs in the order of Table 9.7. -/
def execVisionRun (t cam : Nat) (values : List Nat) (s : State) : Host.Outcome State Fault Refusal :=
  let s := s.begin t
  .next (match s.nextRun cam with
    | none => s
    | some (c, x) =>
      if s.runLate c x (s.paced (netTime (s.netOf c))) then s.dropRun c x else (s.endRun c x).publishVision c x values)

/-- VIS_DROP (R348). -/
def execVisDrop (t cam : Nat) (s : State) : Host.Outcome State Fault Refusal :=
  let s := s.begin t
  .next (match s.nextRun cam with
    | none => s
    | some (c, x) => if s.runLate c x 0 then s.dropRun c x else s)

/-- The oldest instant of a pair without a frame of `cam` (R349): one dropped or missed, or one the partner's
frame has waited a frame period for. -/
def State.pairInstant (s : State) (cam : Nat) : Option Int :=
  let p := s.rd (R.CAM_CFG_PAIR cam)
  match (s.camS cam).gone with
  | g :: _ => some g
  | [] => ((s.camS p).tensor.find? (fun (x : TensorS) => (s.tensorOf cam x.trig).isNone && x.at_ + s.framePeriod cam ≤ s.now)).map
      (fun x => x.trig)

/-- VIS_PAIR (R349): a stereo instant without an output; both cameras count it, and a frame that waited is
released. `cam` is the camera missing. -/
def execVisPair (t cam : Nat) (s : State) : Host.Outcome State Fault Refusal :=
  let s := s.begin t
  let p := s.rd (R.CAM_CFG_PAIR cam)
  .next (
    if p = 0 then s
    else match s.pairInstant cam with
      | none => s
      | some g =>
        let stamp : Int := match s.tensorOf p g with
          | some x => x.stamp
          | none => g + s.rd (R.CAM_TIME_TRIG_LAT (min cam p))
        let s := (s.releaseTensor cam g).releaseTensor p g
        let s := (s.bump (R.CAM_CNT_PAIRMISS cam) 255).bump (R.CAM_CNT_PAIRMISS p) 255
        s.camLog 0x6021 cam [min cam p, stamp, cam])

/-! ### Live writes -/

/-- CROP_WRITE (R337). -/
def execCropWrite (t session cam out field value : Nat) (s : State) : Host.Outcome State Fault Refusal :=
  .next (s.gated t session (.live (cropKey cam out field)) (fun (s : State) =>
    s.cropWrite session cam out field value))

/-- ISP_PRIO_WRITE (R342; 02 R60): 0 to 15; wait counters keep their values. -/
def execIspPrioWrite (t session cam v : Nat) (s : State) : Host.Outcome State Fault Refusal :=
  .next (s.gated t session (.live (R.ISP_ARB_PRIO cam)) (fun (s : State) =>
    s.liveWrite session (R.ISP_ARB_PRIO cam) v (v ≤ 15)))

end Sys2Proof.Machine
end

