-- ==== Sys2Proof/Machine/Functions.lean ====
section
/-! DEFINITION. The commands of 05 that act on one function: launch instants, operator setpoints, stops,
restarts, change sets and amendments. -/

namespace Sys2Proof.Machine

/-! ### Feed-forward -/

/-- A feed-forward term at an instant (R201): published, falling to 0 or rising within 500 ms, or 0. -/
def FnS.term (v : FnS) (k : Nat) (instant : Int) : Rat :=
  let p : Rat := match v.taken with
    | some x => f32 (x.ffs.getD k 0)
    | none => 0
  let b := v.fade.base.getD k 0
  let u : Rat := mkRat (instant - v.fade.since) 500000000
  match v.fade.kind with
  | .off => 0
  | .on => p
  | .falling => if 1 ≤ u then 0 else b * (1 - u)
  | .rising => if 1 ≤ u then p else b + (p - b) * u

/-- The terms' values at an instant, from which a new fall or rise starts. -/
def FnS.termsAt (v : FnS) (instant : Int) : List Rat := (List.range 16).map (fun k => v.term k instant)

/-- The fade after a launch instant at which the terms are valid or not (R201); `was` are the terms before
the side was taken. -/
def FnS.fadeStep (v : FnS) (valid : Bool) (instant : Int) (was : List Rat) : FadeS :=
  let ended : Bool := v.fade.since + 500000000 ≤ instant
  match valid, v.fade.kind with
  | true, .on => v.fade
  | true, .rising => if ended then { kind := .on } else v.fade
  | true, _ => { kind := .rising, since := instant, base := was }
  | false, .off => v.fade
  | false, .falling => if ended then {} else v.fade
  | false, _ => { kind := .falling, since := instant, base := was }

/-! ### Taking a board side -/

/-- The side a launch instant takes (02 R51 to R56): the latest publish stamped strictly before the instant; one
stamped at or after it waits for the next launch instant. -/
def State.takeSide (s : State) (f : Nat) (instant : Int) : State :=
  let b := s.entry f
  match b.pubs.find? (fun p => p.at_ < instant) with
  | none => s
  | some p =>
    let b' := { b with pubs := b.pubs.filter (fun q => instant ≤ q.at_) ++ [p], taken := true }
    let s := { s with board := ins s.board f b' }
    (s.setFn f { s.fnS f with taken := some p.x }).wrs
      [(R.FN_SPB_SEQ_TAKEN f, p.x.seq % 65536), (R.FN_SPB_SIDE f, bit01 p.side), (R.FN_SPB_VALID f, 1),
       (R.FN_STAT_AUTH_HALF f, bit01 p.x.authHalf)]

/-! ### Resolving a setpoint -/

/-- What the operator's setpoints say at a launch instant: those accepted strictly before it (R192, 02
R54). -/
def IdxS.opAt (x : IdxS) (instant : Int) : OpS :=
  ((x.op :: x.opsBefore).find? (fun o => o.stamp < instant)).getD {}

/-- A launch instant has passed: of the operator's earlier setpoints only those stay that a later launch can still take
(02 R54). -/
def IdxS.passed (x : IdxS) (instant : Int) : IdxS :=
  if x.op.stamp < instant then { x with opsBefore := [] }
  else { x with opsBefore := x.opsBefore.filter (fun o => instant ≤ o.stamp) ++ [x.opAt instant] }

/-- Whether an index would take its target from the board side (Table 5.4 row 3). -/
def State.fromBoard (s : State) (f i : Nat) : Bool :=
  let src := s.rd (R.FN_CFG_SOURCE f)
  (src = 2 && !s.flag (R.FN_SP_FLAGS_DELIVERY f i)) || src = 3 || src = 4

/-- The observer is warming, as the function's unit knows it (04 R171; log entry 105). -/
def State.warming (s : State) (f : Nat) : Bool :=
  if s.isWorker then (s.fnS f).seen.1 else s.flag R.OBS_STAT_WARMING

/-- The degradation step, as the function's unit knows it (04 Table 4.10; log entry 105). -/
def State.dstep (s : State) (f : Nat) : Nat :=
  if s.isWorker then (s.fnS f).seen.2 else s.rd R.OBS_STAT_DSTEP

/-- The taken side was computed more than STALE before the instant (R191). -/
def State.sideStale (s : State) (f : Nat) (x : Side) (instant : Int) : Bool :=
  let lim := s.rd (R.FN_CFG_STALE f)
  lim ≠ 0 && x.computed + (lim * 100000000 : Nat) < instant

/-- The function has taken a side published in D3: its targets are frozen at their last values (R200, Table 5.6; 04
Table 4.8), but F27's, which guidance gives (log entry 106). -/
def State.frozen (s : State) (f : Nat) : Bool :=
  s.rd (R.FN_CFG_SOURCE f) ≠ 4 && match (s.fnS f).taken with
    | some y => y.dstep = 3
    | none => false

/-- A setpoint resolved by Table 5.4 and Table 5.6: the row's SRC code, the target as a single, and whether the side's
age was judged and found stale; no target keeps the previous one (R191). -/
def State.resolve (s : State) (f i : Nat) (instant : Int) : Nat × Option Nat × Bool :=
  let x := s.idxS f i
  let o := x.opAt instant
  let src := s.rd (R.FN_CFG_SOURCE f)
  let bound := s.flag (R.FN_CFG_OBS_BOUND f)
  let start := s.rd (R.FN_SP_VAL1_START f i)
  let noShot := src = 2 && s.flag (R.FN_SP_FLAGS_DELIVERY f i) && x.shotTaken.isNone
  match o.ovr with
  | some _ => (1, some (o.value.getD start), false)
  | none =>
    if (bound && s.warming f) || (s.fromBoard f i && !s.flag (R.FN_SPB_VALID f)) || noShot then
      (5, some start, false)
    else if (src = 2 || bound) && s.dstep f = 4 then (6, some (s.rd (R.FN_SP_VAL1_MANUAL f i)), false)
    else if s.frozen f then (7, none, false)
    else if src = 0 then (0, some (s.rd (R.FN_SP_VAL2_FIXED f i)), false)
    else if src = 1 then (1, some (o.value.getD start), false)
    else if src = 2 && s.flag (R.FN_SP_FLAGS_DELIVERY f i) then (2, x.shotTaken, false)
    else match (s.fnS f).taken with
      | none => (5, some start, false)
      | some y => if s.sideStale f y instant then (src, none, true) else (src, some (y.sps.getD i 0), false)

/-- The one-shot application fired last of those whose instant has come is taken by the launch (R187, 03 R127). -/
def State.takeShot (s : State) (f i : Nat) (instant : Int) : State :=
  let x := (s.idxS f i).passed instant
  match x.shots.find? (fun p => p.2 ≤ instant) with
  | some (v, _) => s.setIdx f i { x with shotTaken := some v, shots := x.shots.filter (fun p => instant < p.2) }
  | none => s.setIdx f i x

/-- One index at a launch instant (R189, R190): the target clamped to MIN to MAX, the applied setpoint
moved towards it by at most RATE times the interval; at a restart it does not move (R208). -/
def State.launchIdx (s : State) (f : Nat) (instant : Int) (h : Rat) (move : Bool) (i : Nat) : State :=
  let s := s.takeShot f i instant
  let (src, tgt, _) := s.resolve f i instant
  let lo := s.rdF (R.FN_SP_LIM_MIN f i)
  let hi := s.rdF (R.FN_SP_LIM_MAX f i)
  let s := if i = 0 then s.wr (R.FN_STAT_SRC f) src else s
  let s := match tgt with
    | some v => s.wr (R.FN_SP_NOW_TARGET f i) (toF32 (clampQ lo hi (f32 v)))
    | none => s
  if !move then s
  else
    let target := s.rdF (R.FN_SP_NOW_TARGET f i)
    let now := s.rdF (R.FN_SP_NOW_APPLIED f i)
    let rate := s.rdF (R.FN_SP_RATE f i)
    let next := if rate = 0 then target else clampQ (now - rate * h) (now + rate * h) target
    s.wr (R.FN_SP_NOW_APPLIED f i) (toF32 next)

/-- Indices 0 to NSP. -/
def State.indices (s : State) (f : Nat) : List Nat := List.range (s.rd (R.FN_CFG_NSP f) + 1)

/-! ### Restarting at a launch instant -/

/-- A bumpless restart (R208): an index a loop follows takes the loop's measured value, with no loop index
0 takes the held command within MIN to MAX, the loops close at their next sample. `readings` are the
loops' measured values at the instant. -/
def State.restartFn (s : State) (f : Nat) (changeSet : Bool) (readings : List (Nat × Nat)) : State :=
  let held := s.heldCmd f
  let s := (s.loopsOf f).foldl (fun (s : State) (l : Nat) =>
    let s := s.setLoop l { s.loopS l with closing := true, missed := 0 }
    if s.flag (R.CE_L_CFG_CASCADE l) then s
    else s.wr (R.FN_SP_NOW_APPLIED f (s.rd (R.CE_L_CFG_SP_INDEX l)))
      ((look readings l).getD (s.rd (R.CE_L_NOW_Y l)))) s
  let s := if s.rd (R.FN_CFG_LOOP_COUNT f) = 0 then
      s.wr (R.FN_SP_NOW_APPLIED f 0)
        (toF32 (clampQ (s.rdF (R.FN_SP_LIM_MIN f 0)) (s.rdF (R.FN_SP_LIM_MAX f 0)) held))
    else s
  let v := s.fnS f
  let s := (s.setFn f { v with running := true, restartAt := none, asked := false, fade := {} }).wr (R.FN_STAT_CHANGING f) 0
  let s := (s.log 0x3041 [f, bit01 changeSet]).dtcRestart f
  if f = 8 ∨ f = 29 then s.judgeInterlock else s

/-- Step 4 of Table 5.9 when its instant has come, and the restart of R202: the function restarts with no
cause left; after a change set without restart it stays stopped with its earlier cause or REQUEST. The
Boolean says that it restarted here. -/
def State.dueRestart (s : State) (f : Nat) (instant : Int) (readings : List (Nat × Nat)) : State × Bool :=
  let v := s.fnS f
  match v.restartAt with
  | none => (s, false)
  | some at_ =>
    if instant < at_ then (s, false)
    else
      let left := v.causes.filter (· ≠ 6)
      let stay := v.changeSet && !v.changeRestart
      let left := if left.isEmpty && stay then [1] else left
      let s := (s.setFn f { v with causes := left, restartAt := none, asked := false, changeSet := false }).showCause f
      let s := s.wr (R.FN_STAT_CHANGING f) 0
      if left.isEmpty then (s.restartFn f v.changeSet readings, true) else (s, false)

/-! ### What a launch sends -/

/-- A CAN-path function's frame at a launch instant (12 R421). -/
def State.launchCan (s : State) (f : Nat) : State :=
  let chan := s.rd (R.FN_CFG_CHAN f)
  let ch := chan / 256
  let b := chan % 256
  let v := s.fnS f
  let send := fun (s : State) (value : Rat) (rel : Bool) =>
    let (fr, s) := s.commandFrame ch b value rel
    (s.setFn f { s.fnS f with canLast := some fr }).enterFifo ch fr
  if !v.running then
    match s.rd (R.FN_CFG_STOPPED f) with
    | 0 => match v.canLast with
      | some fr => s.enterFifo ch { fr with since := s.now }
      | none => s
    | 1 => send s (s.rdF (R.FN_SP_RATE_NEUTRAL f 0)) false
    | _ => send s (s.rdF (R.FN_SP_RATE_NEUTRAL f 0)) true
  else match v.cmd with
    | some u => send s u false
    | none => s

/-- An open-loop function's index 0 goes to its actuator (Table 5.2). -/
def State.launchOpen (s : State) (f : Nat) : State :=
  if (s.fnS f).running && s.rd (R.FN_CFG_LOOP_COUNT f) = 0 then
    s.sendCmd f Src.openLoop (s.rdF (R.FN_SP_NOW_APPLIED f 0))
  else s

/-- STATE of a running function (Table 5.8). -/
def State.showRunning (s : State) (f : Nat) (instant : Int) : State :=
  let ov := (s.indices f).any (fun i => ((s.idxS f i).opAt instant).ovr.isSome)
  let k := (s.fnS f).fade.kind
  s.wrs [(R.FN_STAT_STATE f, if ov then 4 else if s.rd (R.FN_STAT_SRC f) = 5 then 2 else 3),
    (R.FN_STAT_FF_ON f, bit01 (k = .on || k = .rising))]

/-- STALE follows the side's judgment; FN_STALE is logged once on entry (R191). -/
def State.judgeStale (s : State) (f : Nat) (instant : Int) : State :=
  let stale := (s.indices f).any (fun i => (s.resolve f i instant).2.2)
  let age : Int := match (s.fnS f).taken with
    | some x => (instant - x.computed) / 1000000
    | none => 0
  if stale && !s.flag (R.FN_STAT_STALE f) then
    (s.wr (R.FN_STAT_STALE f) 1).logOnce 0x3046 f 1000000000 [f, age]
  else s.wr (R.FN_STAT_STALE f) (bit01 stale)

/-- The feed-forward terms of a launch instant (R186, R191, R201, Table 5.6): a side judged stale counts as
FF_VALID 0. -/
def State.launchFade (s : State) (f : Nat) (instant : Int) (was : List Rat) : State :=
  let v := s.fnS f
  let valid : Bool := match v.taken with
    | some x => x.obsOk && !s.flag (R.FN_STAT_STALE f)
    | none => false
  let warm := s.flag (R.FN_CFG_OBS_BOUND f) && (s.warming f || s.dstep f = 4)
  s.setFn f { v with fade := v.fadeStep (valid && !warm) instant was }

/-- The interval since the previous launch instant, s: the generator's true interval (R190, 03 R108). -/
def State.launchInterval (s : State) (f : Nat) (instant : Int) : Rat :=
  let ns : Int := match look s.ln.interval (s.rd (R.FN_CFG_LAUNCH_PG f)) with
    | some n => n
    | none => match (s.fnS f).lastLaunch with
      | some l => instant - l
      | none => 0
  mkRat ns 1000000000

/-- F27 at its launch instant (08 R298): a side with ENGAGE 0 stops it with cause REQUEST, STALE with cause
FAULT. -/
def State.guideLaunch (s : State) : State :=
  let v := s.fnS 27
  if !v.running then s
  else if s.flag (R.FN_STAT_STALE 27) then s.stopFn 27 4
  else match v.taken with
    | some x => if x.sps.getD 1 0 = 0 then s.stopFn 27 1 else s
    | none => s

/-- FUNCTION_LAUNCH (R185 to R191, R201, R202, R208; 02 R51 to R56; 03 R127, R137; 12 R421): at an instant of generator
LAUNCH_PG; setpoint applications of the same instant take place before it. On a worker `warms` and `dstep` are
what it knows of its manager's observer. -/
def execFunctionLaunch (t fn : Nat) (instant : Int) (readings : List (Nat × Nat)) (warms : Bool) (dstep : Nat)
    (s : State) : Host.Outcome State Fault Refusal :=
  let s := s.begin t
  .next (
    if !s.fnMine fn || !s.launches (s.rd (R.FN_CFG_LAUNCH_PG fn)) instant
        ((s.fnS fn).lastLaunch.map (fun l => (l, (s.fnS fn).launchSteps))) then s
    else
      let s := s.fireDue (fun e => actClass e.action = 1 && actTarget e.action / 16 = fn && e.instant ≤ instant)
      let h := s.launchInterval fn instant
      let was := (s.fnS fn).termsAt instant
      let s := if s.isWorker then s.setFn fn { s.fnS fn with seen := (warms, dstep) } else s
      let s := s.takeSide fn instant
      let (s, restarted) := s.dueRestart fn instant readings
      let s :=
        if !(s.fnS fn).running then s.wr (R.FN_STAT_STALE fn) 0
        else
          let s := (s.judgeStale fn instant).launchFade fn instant was
          let s := (s.indices fn).foldl (fun s i => s.launchIdx fn instant h (!restarted) i) s
          (s.showRunning fn instant).launchOpen fn
      let s := if s.rd (R.FN_CFG_PATH fn) = 3 then s.launchCan fn else s
      let s := s.setFn fn { s.fnS fn with lastLaunch := some instant, launchSteps := s.tb.steps }
      if fn = 27 then s.guideLaunch else s)

/-! ### Requests -/

/-- FN_UNUSED (R183): the slot, its index or 0xFF, the requester. -/
def State.unusedFn (s : State) (session f i : Nat) : State := (s.log 0x3049 [f, i, session]).reply session 0x3049

/-- OPERATOR_SETPOINT (R183, R192, R193; 08 R299). An index of F27 takes no operator setpoint. -/
def execOperatorSetpoint (t session fn index value dataId : Nat) (ovr : Bool) (s : State) :
    Host.Outcome State Fault Refusal :=
  .next (s.gated t session (.setpoint fn) (fun (s : State) =>
      let v := f32 value
    if !s.classAtLeast session Cls.OPERATOR then s.reply session Res.CLASS
    else if !s.fnUsed fn then s.unusedFn session fn 0xFF
    else if s.rd (R.FN_CFG_NSP fn) < index then s.unusedFn session fn index
    else if fn = 27 then (s.log 0x3047 [fn, index, session]).reply session 0x3047
    else if v < s.rdF (R.FN_SP_OPLIM_OPMIN fn index) ∨ s.rdF (R.FN_SP_OPLIM_OPMAX fn index) < v then
      (s.logOnce 0x3045 fn 1000000000 [fn, index, value]).reply session 0x3045
    else
      let x := s.idxS fn index
      let o : OpS := { value := some value, stamp := s.harvest,
                       ovr := if ovr && ((s.fnS fn).running || s.forwards fn) then some (session, dataId)
                              else none }
      let s := s.setIdx fn index { x with op := o, opsBefore := x.op :: x.opsBefore }
      let s := if s.forwards fn then s.answer (.trunk 0) 0x40 [fn, index, value, bit01 ovr] else s
      s.reply session Res.OK))

/-- FN_STOP_REQUEST (R204, R207); while an earlier request for the function is in progress it waits in the
queue (02 R61). -/
def execFnStopRequest (t session fn : Nat) (s : State) : Host.Outcome State Fault Refusal :=
  .next (s.gated t session (.fnStop fn) (fun (s : State) =>
    if !s.classAtLeast session Cls.OPERATOR then s.reply session Res.CLASS
    else if !s.fnUsed fn then s.unusedFn session fn 0xFF
    else
      let s := if fn = 27 then s.disengage 1 else s
      if s.forwards fn then (s.answer (.trunk 0) 0x41 [fn]).reply session Res.OK
      else (s.stopFn fn 1).reply session Res.OK))

/-- The loop of a function that is open for auto-tune (R209). -/
def State.tunedLoop (s : State) (f : Nat) : Option Nat :=
  (s.loopsOf f).find? (fun l => (s.loopS l).tune.isSome)

/-- The function that blocks a restart by the interlock of R182, on whichever unit it runs. -/
def State.interlock (s : State) (f : Nat) : Option Nat :=
  if f = 29 && s.fnRuns 8 then some 8
  else if f = 8 && s.fnRuns 29 then some 29
  else none

/-- A latch held on the function's channel that refuses its restart: the refusal's code and cause (10
R378, 11 R397). -/
def State.pathBlocks (s : State) (f : Nat) : Option (Nat × Nat) :=
  let ch := s.rd (R.FN_CFG_CHAN f)
  match s.rd (R.FN_CFG_PATH f) with
  | 1 => (s.valveBlocks ch).map (fun c => (0x700E, c))
  | 2 => (s.switchBlocks ch).map (fun c => (0x8007, c))
  | _ => none

/-- A loop of the function sits on an engine that is out (06 R247). -/
def State.engineOut (s : State) (f : Nat) : Bool :=
  (s.loopsOf f).any (fun l => s.rd (R.CE_E_STAT_STATE (s.rd (R.CE_L_CFG_ENGINE l))) = 2)

/-- A restart request judged and accepted (R182, R202, R207, R209; 08 R297; 10 R378; 11 R397). One for F27
engages guidance, and is accepted only while guidance is ARMED; its side is published at once. One for a worker's
function goes on to the worker, whose answer, `remote`, the requester receives. -/
def State.requestRestart (s : State) (session fn : Nat) (tj : Int) (remote : Nat × List Int) : State :=
  let ch := s.rd (R.FN_CFG_CHAN fn)
  let s := if s.rd (R.FN_CFG_PATH fn) = 2 then s.wr (R.LS_NOW_TJ ch) (ofSigned 16 tj) else s
  if !s.classAtLeast session (if fn = 27 then Cls.OPERATOR else Cls.MACHINE) then s.reply session Res.CLASS
  else if !s.fnUsed fn then s.unusedFn session fn 0xFF
  else if fn = 27 && !s.isWorker && s.rd R.GD_STAT_STATE ≠ Gd.ARMED then
    (s.log 0x5024 [s.armedFail]).reply session 0x5024
  else match s.tunedLoop fn, s.interlock fn, s.pathBlocks fn with
    | some l, _, _ => (s.log 0x3043 [fn, l]).reply session 0x3043
    | none, some b, _ => (s.log 0x3044 [fn, b]).reply session 0x3044
    | none, none, some (code, cause) => (s.pdLog code [ch, cause]).reply session code
    | none, none, none =>
      let s := if fn = 27 && !s.isWorker then s.engage.publishGuide else s
      let v := s.fnS fn
      if s.forwards fn then (s.answer (.trunk 0) 0x42 [fn]).reply session remote.1 remote.2
      else if v.running then s.reply session Res.OK
      else
        let s := if s.rd (R.FN_CFG_PATH fn) = 1 then s.clearValve ch
                 else if s.rd (R.FN_CFG_PATH fn) = 2 then s.clearSwitch ch 0 else s
        let left := v.causes.filter (fun c => c = 2 || c = 6 || (c = 4 && s.engineOut fn))
        ((s.setFn fn { s.fnS fn with causes := left, asked := true,
                                            restartAt := some (s.harvest + 1000000) }).showCause
          fn).reply session Res.OK

/-- FN_RESTART_REQUEST (R202, R207; 02 R61). `tj` is the junction of the function's switch channel, 0.1 °C. -/
def execFnRestartRequest (t session fn : Nat) (tj : Int) (remote : Nat × List Int) (s : State) :
    Host.Outcome State Fault Refusal :=
  .next (s.gated t session (.fnRestart fn) (fun (s : State) => s.requestRestart session fn tj remote))

/-! ### Change sets -/

/-- Whether a field belongs to a function's change sets (R206): its own records, its loops', its channel's (none of a
PIN-DRIVEN switch channel, 11 R385), its generators'. -/
def State.inSet (s : State) (f key : Nat) : Bool :=
  let i := key / 256
  let ch := s.rd (R.FN_CFG_CHAN f)
  let loop := fun n => (s.loopsOf f).contains n
  (0x3100 ≤ i && i ≤ 0x312F && i - 0x3100 = f) ||
  (0x3200 ≤ i && i ≤ 0x34FF && (i - 0x3200) / 16 = f && (i - 0x3200) % 16 ≤ s.rd (R.FN_CFG_NSP f)) ||
  (0x4000 ≤ i && i ≤ 0x40FF && loop (i - 0x4000)) ||
  (0x2100 ≤ i && i ≤ 0x22FF && s.rd (R.LN_PG_CFG_OWNER (i - 0x2100)) = f) ||
  (0x7001 ≤ i && i ≤ 0x7020 && s.rd (R.FN_CFG_PATH f) = 1 && i - 0x7000 = ch) ||
  (0x8001 ≤ i && i ≤ 0x8018 && s.rd (R.FN_CFG_PATH f) = 2 && i - 0x8000 = ch && s.rd (R.LS_CFG_USE ch) ≠ 2)

/-- Reasons a write of a change set fails (log entry 28). -/
def State.writeFails (s : State) (f : Nat) (w : Nat × Nat) : Option Nat :=
  match fieldOf w.1 with
  | none => some 1
  | some d =>
    if !s.inSet f w.1 then some 1
    else if !(d.acc = .rwStop || d.acc = .rwLive) then some 2
    else if !(d.admits w.2) then some 3
    else none

/-- R184 on one index, and AUTH's range (Table 5.3). -/
def State.limitsOk (s : State) (f i : Nat) : Bool :=
  let lo := s.rdF (R.FN_SP_LIM_MIN f i)
  let hi := s.rdF (R.FN_SP_LIM_MAX f i)
  let inside := fun (q : Rat) => lo ≤ q && q ≤ hi
  let om := s.rdF (R.FN_SP_OPLIM_OPMIN f i)
  let ox := s.rdF (R.FN_SP_OPLIM_OPMAX f i)
  let n := s.rdF (R.FN_SP_RATE_NEUTRAL f i)
  lo ≤ om && om ≤ ox && ox ≤ hi && inside (s.rdF (R.FN_SP_VAL1_START f i)) &&
    inside (s.rdF (R.FN_SP_VAL1_MANUAL f i)) && inside (s.rdF (R.FN_SP_VAL2_FIXED f i)) &&
    decide (0 ≤ s.rdF (R.FN_SP_VAL2_AUTH f i)) &&
    (if i = 0 then inside n else n = 0)

/-- A single that is a whole number between two bounds. -/
def wholeIn (lo hi : Int) (w : Nat) : Bool :=
  let q := f32 w
  q.den = 1 && lo ≤ q.num && q.num ≤ hi

/-- A law lists a coefficient's sub-index (06 Table 6.5). -/
def coefListed (law j : Nat) : Bool :=
  match law with
  | 1 => j ≤ 6
  | 2 => j ≤ 15
  | 3 => j ≤ 97
  | 4 => j ≤ 5 || (8 ≤ j && j ≤ 71)
  | 5 => j ≤ 2
  | _ => false

/-- A loop's coefficient lies in the range Table 6.5 gives it (06 R224); a sub-index its law does not list
is refused. -/
def State.coefOk (s : State) (l j : Nat) : Bool :=
  let w := s.rd (R.CE_L_COEF l j)
  match s.rd (R.CE_L_CFG_LAW l) with
  | 1 => j ≤ 6
  | 2 => if j = 0 then wholeIn 1 3 w else j ≤ 15
  | 3 =>
    if j = 0 then wholeIn 1 8 w
    else if j ≤ 64 then
      ((j - 1) / 8 < (s.rdF (R.CE_L_COEF l 0)).num.toNat && (j - 1) % 8 < (s.rdF (R.CE_L_COEF l 0)).num.toNat) ||
        s.rdF (R.CE_L_COEF l j) = 0
    else j ≤ 97
  | 4 =>
    if j = 0 then wholeIn 2 16 w
    else if j = 1 then wholeIn 0 3 w || wholeIn 256 511 w
    else if j ≤ 5 then true
    else 8 ≤ j && j ≤ 71 &&
      ((j - 8) % 4 ≠ 0 || (j - 8) / 4 + 1 ≥ (s.rdF (R.CE_L_COEF l 0)).num.toNat ||
        s.rdF (R.CE_L_COEF l j) < s.rdF (R.CE_L_COEF l (j + 4)))
  | 5 => j ≤ 2
  | _ => false

/-- What Table 6.5 and R225 ask of coefficient `j` beside the coefficients it stands in a relation to: the breakpoints
before and after it and those NBP counts, the entries of A that NX leaves out, KD beside a TF of 0. -/
def State.coefRule (s : State) (l j : Nat) : Bool :=
  let c := fun k => s.rdF (R.CE_L_COEF l k)
  s.coefOk l j &&
  match s.rd (R.CE_L_CFG_LAW l) with
  | 1 => !((j = 2 || j = 3) && c 3 = 0 && c 2 ≠ 0)
  | 3 => j ≠ 0 || (List.range 64).all (fun k => s.coefOk l (k + 1))
  | 4 =>
    let kds := (List.range 16).map (fun i => 11 + 4 * i)
    (j ≠ 0 || (List.range 15).all (fun i => s.coefOk l (8 + 4 * i))) &&
      (j < 12 || j % 4 ≠ 0 || s.coefOk l (j - 4)) &&
      (c 2 ≠ 0 || (if j = 2 then kds.all (fun k => decide (c k = 0)) else !kds.contains j || decide (c j = 0)))
  | _ => true

/-- A generator's action reference: a class and a target Table 3.11 gives periodic launches (03 R124). -/
def pgActionOk (action : Nat) : Bool :=
  let g := action % 4096
  match action / 4096 with
  | 8 => g ≤ 255
  | 9 => 1 ≤ g && g ≤ 24
  | 10 => 1 ≤ g && g ≤ 16
  | 11 => g = 0
  | 12 => g = 0
  | _ => false

/-- The values a chapter refuses or puts out of range beside an interval of the field's own, which an image, a NEXT
write and a change set are judged by alike: 03 R124 and Table 3.12, 05 R180 and R181 (GUIDANCE is F27's alone, and its only
source), 11 Table 11.2 (the 6 A class). -/
def State.chapterRule (z : State) (key : Nat) : Bool :=
  let i := key / 256
  if 0x2100 ≤ i ∧ i ≤ 0x22FF then
    let n := i - 0x2100
    z.rd (R.LN_PG_PHASE n) < z.rd (R.LN_PG_PERIOD n) && pgActionOk (z.rd (R.LN_PG_CFG_ACTION n))
  else if 0x3100 ≤ i ∧ i ≤ 0x312F then
    key ≠ R.FN_CFG_SOURCE (i - 0x3100) || (z.rd key = 4 ↔ i = 0x311B)
  else if 0x8009 ≤ i ∧ i ≤ 0x8018 then
    let n := i - 0x8000
    z.rd (R.LS_CFG_I_TRIP n) ≤ 90 && z.rd (R.LS_CFG_BUDGET n) ≤ 2000 && z.rd (R.LS_CFG_NOM_I n) ≤ 60
  else if 0x8001 ≤ i ∧ i ≤ 0x8008 then z.rd (R.LS_CFG_NOM_I (i - 0x8000)) ≤ 150
  else true

/-- The coefficient a key of a loop holds. -/
def coefAt (l key : Nat) : Option Nat := (List.range 98).find? (fun j => R.CE_L_COEF l j = key)

/-- The rule a written field must still meet with the whole set applied (R184, R206; 06 R224, R225). -/
def State.setRule (s : State) (f key : Nat) : Bool :=
  let i := key / 256
  if 0x3200 ≤ i ∧ i ≤ 0x34FF then s.limitsOk f ((i - 0x3200) % 16)
  else if 0x4000 ≤ i ∧ i ≤ 0x40FF then
    match coefAt (i - 0x4000) key with
    | some j => s.coefRule (i - 0x4000) j
    | none => true
  else s.chapterRule key

/-- The first failing write of a set, by position, with its reason (R206): each is judged by itself and with the whole
set applied. -/
def State.firstBad (s : State) (f : Nat) (ws : List (Nat × Nat)) : Option (Nat × Nat) :=
  let s' := s.wrs (ws.filter (fun w => (s.writeFails f w).isNone))
  (ws.zip (List.range ws.length)).findSome? (fun p => match s.writeFails f p.1 with
    | some r => some (p.2, r)
    | none => if s'.setRule f p.1.1 then none else some (p.2, 4))

/-- The fields of a change set that hold no amendment yet: each needs a place of its own in the list (R210). -/
def State.freshKeys (s : State) (unit : Nat) (writes : List (Nat × Nat)) : List Nat :=
  (writes.map (fun p => p.1)).eraseDups.filter (fun k => !s.amended unit k)

/-- A change set's writes in force on this unit, or sent to the worker whose function it is, and entered as amendments
(R207, R210). -/
def State.enterSet (s : State) (f unit : Nat) (writes : List (Nat × Nat)) : State :=
  let s := writes.foldl (fun (s : State) (w : Nat × Nat) => (s.wr w.1 w.2).amendPut unit 0 w.1 w.2) s
  s.amendCount.wr (R.FN_STAT_AMENDED f) 1

/-- A worker's change set as the trunk carries it: the function, RESTART and the writes. -/
def setData (f : Nat) (writes : List (Nat × Nat)) (restart : Bool) : List Int :=
  (f : Int) :: bit01 restart :: writes.flatMap (fun w => [((w.1 / 256 : Nat) : Int), ((w.1 % 256 : Nat) : Int), (w.2 : Int)])

/-- CHANGE_SET (R206, R207, R209, R210, Table 5.9): checked whole; the function stopped; the writes in
force and entered as amendments; the restart due at the first launch instant from t0 + 1 ms on. One for a worker's
function goes on to the worker whole, whose answer, `remote`, the requester receives. While an
earlier request for the function is in progress it waits (02 R61). -/
def execChangeSet (t session fn : Nat) (writes : List (Nat × Nat)) (restart : Bool) (remote : Nat × List Int)
    (s : State) : Host.Outcome State Fault Refusal :=
  .next (s.gated t session (.changeSet fn) (fun (s : State) =>
    if !s.classAtLeast session Cls.SERVICE then s.reply session Res.CLASS
    else if !s.fnUsed fn then s.unusedFn session fn 0xFF
    else match s.tunedLoop fn, s.firstBad fn writes with
      | some l, _ => (s.log 0x3043 [fn, l]).reply session 0x3043
      | none, some (n, r) => (s.log 0x3042 [fn, n, r]).reply session 0x3042 [n, r]
      | none, none =>
        let unit := s.rd (R.FN_CFG_UNIT fn)
        if 256 < s.amend.length + (s.freshKeys unit writes).length then (s.log 0x304A [fn]).reply session 0x304A
        else if s.forwards fn then
          let s := s.answer (.trunk 0) 0x48 (setData fn writes restart)
          (if remote.1 = Res.OK then s.enterSet fn unit writes else s).reply session remote.1 remote.2
        else
          let was := (s.fnS fn).running
          let s := if was then s.stopFn fn 6 else s
          let s := s.enterSet fn unit writes
          let s := s.setFn fn { s.fnS fn with changeSet := true, changeRestart := restart,
                                              restartAt := some (s.harvest + 1000000) }
          ((s.bump (R.FN_STAT_CHANGES fn) 255).wr (R.FN_STAT_CHANGING fn) 1).reply session Res.OK))

/-! ### The amendment list -/

/-- An entry as an AMEND record carries it (14 Table 14.10): 16 bytes. -/
def AmendS.bytes (a : AmendS) : List Nat :=
  let len := match fieldOf a.key with
    | some d => (d.width + 7) / 8
    | none => 8
  [a.unit, a.kind] ++ leBytes 2 (a.key / 256) ++ [a.key % 256, len, 0, 0] ++ leBytes 8 a.value

/-- The AMEND record value of the list (R211; 14 R488, Table 14.10). -/
def State.amendRecord (s : State) : List Nat :=
  leBytes 8 (s.rd R.HMP_ID_MACHINE_ID) ++ leBytes 4 (s.rd R.HMP_STAT_GENERATION) ++ leBytes 2 s.amend.length ++
    [s.rd R.HMP_LIST_OVF % 2, 0] ++ s.amend.flatMap AmendS.bytes

/-- FN_MODE (R211, Table 5.11): the request (0 read, 1 commit) and the mode. -/
def State.fnMode (s : State) (session req : Nat) : State := (s.log 0x304C [req, s.mode]).reply session 0x304C

/-- The list returned for a session, in SERVICE only. -/
def State.sendAmend (s : State) (session req : Nat) : State :=
  if !s.classAtLeast session Cls.SERVICE then s.reply session Res.CLASS
  else if s.mode ≠ Mode.SERVICE then s.fnMode session req
  else s.reply session Res.OK (s.amendRecord.map Int.ofNat)

/-- AMEND_READ (R211). -/
def execAmendRead (t session : Nat) (s : State) : Host.Outcome State Fault Refusal :=
  .next (s.gated t session .amendRead (fun (s : State) => s.sendAmend session 0))

/-- AMEND_COMMIT (R211): the list for signing, or FN_MODE outside SERVICE. -/
def execAmendCommit (t session : Nat) (s : State) : Host.Outcome State Fault Refusal :=
  .next (s.gated t session .amendCommit (fun (s : State) => s.sendAmend session 1))

end Sys2Proof.Machine
end

