-- ==== Sys2Proof/Machine/RuleOps.lean ====
section
/-! DEFINITION. What makes a configuration value refused or out of range (14 R476, R487): instances in use,
the rules field maps state beside their intervals. -/

namespace Sys2Proof.Machine

/-- The use field of an instance, where R476 names one. -/
def useKey (i : Nat) : Option Nat :=
  if 0x2100 ≤ i ∧ i ≤ 0x22FF then some (R.LN_PG_CFG_EN (i - 0x2100))
  else if 0x3020 ≤ i ∧ i ≤ 0x303F then some (R.OBS_IN_CFG_CLASS (i - 0x3020))
  else if 0x3100 ≤ i ∧ i ≤ 0x312F then some (R.FN_CFG_PATH (i - 0x3100))
  else if 0x4000 ≤ i ∧ i ≤ 0x40FF then some (R.CE_L_CFG_LAW (i - 0x4000))
  else if 0x5010 ≤ i ∧ i ≤ 0x5012 then some (R.GN_COR_CFG_TYPE (i - 0x5010))
  else if i = 0x5002 then some R.GN_CFG_EN
  else if i = 0x5200 then some R.YM_CFG_EN
  else if 0x6001 ≤ i ∧ i ≤ 0x6010 then some (R.CAM_CFG_PURPOSE (i - 0x6000))
  else if 0x7001 ≤ i ∧ i ≤ 0x7020 then some (R.VD_CFG_KIND (i - 0x7000))
  else if 0x8001 ≤ i ∧ i ≤ 0x8018 then some (R.LS_CFG_USE (i - 0x8000))
  else if 0x9001 ≤ i ∧ i ≤ 0x900A then some (R.CAN_CFG_ROLE (i - 0x9000))
  else if 0x9200 ≤ i ∧ i ≤ 0x93FF then some (R.CAN_SIG_CFG_CH (i - 0x9200))
  else if 0x9E01 ≤ i ∧ i ≤ 0x9E06 then some (R.ETH_CFG_EN (i - 0x9E00))
  else if 0x9E21 ≤ i ∧ i ≤ 0x9E2C then some (R.FNP_CFG_EN (i - 0x9E20))
  else if 0xB011 ≤ i ∧ i ≤ 0xB028 then some (R.UI_CFG_MODE (i - 0xB010))
  else none

/-- An instance is in use (R476), with the register fields as they stand in `z`. -/
def State.inUse (z : State) (i : Nat) : Bool :=
  if 0x3000 ≤ i ∧ i ≤ 0x301F then !z.isWorker
  else if 0x3200 ≤ i ∧ i ≤ 0x34FF then
    let f := (i - 0x3200) / 16
    z.rd (R.FN_CFG_PATH f) ≠ 0 && (i - 0x3200) % 16 ≤ z.rd (R.FN_CFG_NSP f)
  else if 0x5000 ≤ i ∧ i ≤ 0x500F then z.flag R.GN_CFG_EN
  else if 0x5100 ≤ i ∧ i ≤ 0x510F then z.rd (R.FN_CFG_PATH 27) ≠ 0
  else if 0x5200 ≤ i ∧ i ≤ 0x520F then z.flag R.YM_CFG_EN
  else if 0x6101 ≤ i ∧ i ≤ 0x6110 then z.rd (R.CAM_CFG_PURPOSE (i - 0x6100)) ≠ 0
  else if 0x7060 ≤ i ∧ i ≤ 0x706E then
    (List.range 32).any (fun c => z.rd (R.VD_CFG_KIND (c + 1)) = 2 &&
      z.rd (R.VD_CFG_DEFPRF (c + 1)) = i - 0x7060)
  else if 0x9400 ≤ i ∧ i ≤ 0x9DFF then z.rd (R.CAN_CFG_ROLE ((i - 0x9400) / 256 + 1)) ≠ 0
  else match useKey i with
    | some k => z.rd k ≠ 0
    | none => true

/-- A field has no meaning in its instance's present setting, so that its interval is not judged (log entry
47): stripe height without stripes, the scale of a stream that is off, the switching level of an input that
is neither FREQ nor SWITCH, its timeout, the access point's channel of a station. -/
def State.idleField (z : State) (key : Nat) : Bool :=
  let i := key / 256
  if 0x6001 ≤ i ∧ i ≤ 0x6010 then
    key = R.CAM_CFG_STRIPE_LINES (i - 0x6000) && !z.flag (R.CAM_CFG_STRIPE (i - 0x6000))
  else if 0x6101 ≤ i ∧ i ≤ 0x6110 then
    let j := key % 256 - 1
    j < 28 && j % 7 = 2 && z.rd (R.ISP_OUT_DEST (i - 0x6100) (j / 7)) = 0
  else if 0xB011 ≤ i ∧ i ≤ 0xB028 then
    let n := i - 0xB010
    let m := z.rd (R.UI_CFG_MODE n)
    ((key = R.UI_CFG_THRESH n || key = R.UI_CFG_HYS n) && m ≠ 4 && m ≠ 5) || (key = R.UI_CFG_FREQ_TO n && m ≠ 4)
  else key = R.FL_CFG2_WLAN_CH && !z.flag R.FL_CFG2_WLAN_AP

/-- A loop's binding: the source types and index ranges of Table 6.3 (06 R221). -/
def State.measOk (z : State) (l : Nat) : Bool :=
  let n := z.rd (R.CE_L_CFG_MEAS_INDEX l)
  match z.rd (R.CE_L_CFG_MEAS_TYPE l) with
  | 1 => 1 ≤ n && n ≤ 24
  | 2 => 16 ≤ n && n ≤ 207
  | 3 => n ≤ 511
  | 4 => 1 ≤ n && n ≤ 32
  | 5 => n = 0
  | 6 => n ≤ 5
  | _ => false

/-- An observer binding's source index by its type, and the clock error of a free-running source (04 Table 4.4). -/
def State.bindOk (z : State) (b : Nat) : Bool :=
  let n := z.rd (R.OBS_IN_CFG_SRC_INDEX b)
  (!z.flag (R.OBS_IN_CFG_FREE b) || 1 ≤ z.rd (R.OBS_IN_CFG_DRIFT_PPM b)) &&
  match z.rd (R.OBS_IN_CFG_SRC_TYPE b) with
  | 1 => 1 ≤ n && n ≤ 24
  | 2 => 1 ≤ n && n ≤ 12
  | 3 => n ≤ 511
  | 4 => 1 ≤ n && n ≤ 16
  | _ => n = 0

/-- What a field map asks of a field beside an interval of its own (R476): 04 Table 4.4, 05 Table 5.3, 06 R221, R224
and R225, 07 Table 7.10, 10 Table 10.2, 12 Tables 12.1, 12.6 and 12.7, 13 Table 13.11, and the rules change sets are
judged by too. -/
def State.fieldRule (z : State) (key : Nat) : Bool :=
  let i := key / 256
  if 0x3020 ≤ i ∧ i ≤ 0x303F then z.bindOk (i - 0x3020)
  else if 0x3200 ≤ i ∧ i ≤ 0x34FF then
    let f := (i - 0x3200) / 16
    let x := (i - 0x3200) % 16
    let inside := fun (q : Rat) => z.rdF (R.FN_SP_LIM_MIN f x) ≤ q && q ≤ z.rdF (R.FN_SP_LIM_MAX f x)
    inside (z.rdF (R.FN_SP_OPLIM_OPMIN f x)) && inside (z.rdF (R.FN_SP_OPLIM_OPMAX f x)) &&
      decide (0 ≤ z.rdF (R.FN_SP_VAL2_AUTH f x))
  else if 0x4000 ≤ i ∧ i ≤ 0x40FF then
    let l := i - 0x4000
    match coefAt l key with
    | some j => if coefListed (z.rd (R.CE_L_CFG_LAW l)) j then z.coefRule l j else decide (z.rd key = 0)
    | none => z.measOk l
  else if 0x5010 ≤ i ∧ i ≤ 0x5012 then z.rd (R.GN_COR_CFG_TYPE (i - 0x5010)) ≠ 3 || 1 ≤ z.rd (R.GN_COR_CFG_CAN_CH (i - 0x5010))
  else if i = 0x5001 then z.rd R.GN_RTK_CFG_AGE_FIX ≤ z.rd R.GN_RTK_CFG_AGE_MAX
  else if 0x7001 ≤ i ∧ i ≤ 0x7020 then z.rd (R.VD_THERM2_T_WARN (i - 0x7000)) ≤ z.rd (R.VD_THERM2_T_MAX (i - 0x7000))
  else if 0x9001 ≤ i ∧ i ≤ 0x900A then
    !(z.flag (R.CAN_CFG_TRIPLE (i - 0x9000)) && 1 < z.rd (R.CAN_CFG_NOM (i - 0x9000)))
  else if 0x9400 ≤ i ∧ i ≤ 0x9DFF then
    let ch := (i - 0x9400) / 256 + 1
    let b := (i - 0x9400) % 256
    !(z.flag (R.CAN_TX_ID_FDF ch b) && z.rd (R.CAN_CFG_DATA ch) = 0 && z.flag (R.CAN_TX_ID_BRS ch b))
  else if 0x9E05 ≤ i ∧ i ≤ 0x9E06 then !z.flag (R.ETH_CFG_GPTP (i - 0x9E00))
  else if 0x9E30 ≤ i ∧ i ≤ 0x9E34 then
    z.rd (R.SES_CLASS_CFG_RESERVE (i - 0x9E30)) ≤ z.rd (R.SES_CLASS_CFG_MAX (i - 0x9E30))
  else z.chapterRule key

/-- A field's value is neither refused nor out of range. -/
def State.fieldOk (z : State) (key : Nat) (d : FieldDesc) : Bool :=
  (d.admits (z.rd key) || (z.idleField key && z.rd key < 2 ^ d.width)) && z.fieldRule key

/-- A value written to a NEXT field is judged as if it stood there (R487). -/
def State.nextOk (s : State) (key v : Nat) (d : FieldDesc) : Bool := (s.wr key v).fieldOk key d

end Sys2Proof.Machine
end

