-- ==== Sys2Proof/Machine/Sessions.lean ====
section
/-! DEFINITION. The commands of 13 and the mode gate's acceptance (02 R57). -/

namespace Sys2Proof.Machine

/-! ### Opening and closing -/

/-- The first test of a handshake that fails, 0 none (R443; DESIGN CHOICE: the reasons are numbered from 0x0100 in the
rule's order, log entry 28): 1 not TLS 1.3, 2 the suite, 3 the group, 4 the certificate's key, 5 no trust anchor of the
Hamper, 6 early data, 7 resumption. The code points are the TLS standard's (PRESUMED, log entry 131). -/
def State.tlsFault (s : State) (x : TlsIn) : Nat :=
  if x.version ≠ 0x0304 then 0x0101
  else if !(x.suite = 0x1301 || x.suite = 0x1302) then 0x0102
  else if !(x.group = 23 || x.group = 29) then 0x0103
  else if !x.p256 then 0x0104
  else if !(s.ses.cfg.anchors.any (fun a => x.anchor = some a)) then 0x0105
  else if x.early then 0x0106
  else if x.resume then 0x0107
  else 0

/-- TLS_HANDSHAKE (R443): a failed test ends the connection before HELLO. -/
def execTlsHandshake (t carrier : Nat) (tls : TlsIn) (s : State) : Host.Outcome State Fault Refusal :=
  let s := s.begin t
  .next (if s.tlsFault tls = 0 then s else s.log 0x9043 [carrier, s.tlsFault tls] 5)

/-- The carriers of Table 13.1 with their transport and security (R442): Ethernet TCP, UDP or TLS over TCP; the trunk TCP
or UDP; the radios TLS over TCP; CAN by ISO 15765-2; the service port, 11 here (log entry 136), as Ethernet (18 R580). -/
def carries (h : HelloIn) : Bool :=
  if h.carrier = 7 then !h.tls
  else if h.carrier = 8 || h.carrier = 9 then h.tcp && h.tls
  else if h.carrier = 10 then !h.tcp && !h.tls
  else h.tcp || !h.tls

/-- A session opened over UDP by this very HELLO, with its stored responses: R455 is not applied to the repeat (R444). -/
def State.helloAgain (s : State) (h : HelloIn) : Option (List Answer) :=
  if h.tcp || h.carrier = 10 then none
  else (s.ses.open_.find? (fun p => p.2.udp = some (h.addr, h.port) && p.2.carrier = h.carrier &&
    p.2.recent.any (fun r => r.1 = h.msg.bytes))).bind (fun p =>
      (p.2.recent.find? (fun r => r.1 = h.msg.bytes)).map (fun r => r.2))

/-- A HELLO refused: counted, logged, answered (Tables 13.4, 13.11, 13.14). -/
def State.refuseHello (s : State) (h : HelloIn) (code : Nat) : State :=
  (let s := (s.bump R.SES_STAT_REFUSED 0xFFFF).log 0x9043 [h.carrier, code]
   let a : Answer := { dest := .session 0, code, head := h.msg.respHead 2 }
   { s with answers := s.answers ++ [a] })

/-- A session number not in use, from the next one on (Table 13.2). -/
def State.freeNumber (s : State) : Nat :=
  ((List.range 257).map (fun i => (s.ses.nextNum + i - 1) % 65535 + 1)).find?
    (fun n => s.ses.open_.all (fun p => p.2.num ≠ n)) |>.getD s.ses.nextNum

/-- The payload of a HELLO's response after its RESULT (Table 13.6). -/
def State.helloReply (s : State) (h : HelloIn) (num cls to_ : Nat) : List Int :=
  (leBytes 2 num ++ [cls, to_, s.role.unit, h.services.length] ++ leBytes 4 s.firmware ++ leBytes 4 s.hmp.serial ++
    h.services.flatMap (fun (p : Nat × List (Nat × Nat)) => leBytes 2 p.1 ++ (match agreeVersion p.1 p.2 with
      | some v => [v.1, v.2]
      | none => [0xFF, 0xFF]))).map (fun (b : Nat) => (b : Int))

/-- A session admitted: it takes the lowest free slot, over UDP it is bound to the partner's address and port, and the
response is sent (R449, Table 13.6). -/
def State.letIn (s : State) (h : HelloIn) (cls : Nat) : State :=
  let num := s.freeNumber
  let slot := ((List.range 256).find? (fun n => (look s.ses.open_ n).isNone)).getD 255
  let agreed := agreeAll h.services
  let to_ := if h.timeout = 0 then 10 else h.timeout
  let ss : SessionS := { num, cls, carrier := h.carrier, peer := h.peer, tcp := h.tcp, timeout := to_,
                         lastRx := s.now, agreed,
                         udp := if h.tcp || h.carrier = 10 then none else some (h.addr, h.port) }
  let s := { s with ses := { s.ses with open_ := ins s.ses.open_ slot ss, nextNum := num % 65535 + 1 } }
  let s := s.wrs [(R.SES_S_STAT_SESSION slot, num), (R.SES_S_STAT_CLASS slot, cls),
    (R.SES_S_STAT_CARRIER slot, h.carrier), (R.SES_S_STAT_PEER slot, h.peer),
    (R.SES_S_STAT_E2E slot, 0), (R.SES_STAT_OPEN, s.ses.open_.length)]
  let s := s.log 0x9040 [num, cls, h.carrier]
  (s.reply num Res.OK (s.helloReply h num cls to_)).respond num h.msg s.answers.length

/-- A victim evicted for a HELLO (R456). -/
def State.evict (s : State) (v : SessionS) (newCls : Nat) : State :=
  let s := s.answer (.session v.num) 0x9042
  ((s.dropSession v.num).bump R.SES_STAT_EVICTED 0xFFFF).log 0x9042 [v.num, v.cls, newCls]

/-- Admission by Table 13.9 (R455, R457). -/
def State.admission (s : State) (h : HelloIn) (cls : Nat) : State :=
  if s.rd (R.SES_CLASS_CFG_MAX cls) ≤ s.classCount cls then s.refuseHello h Res.CLASS_FULL
  else if s.ses.open_.length < 256 then s.letIn h cls
  else if s.classCount cls < s.rd (R.SES_CLASS_CFG_RESERVE cls) then
    match s.victim with
    | some v => (s.evict v cls).letIn h cls
    | none => s.refuseHello h Res.BUSY
  else s.refuseHello h Res.BUSY

/-- HELLO (R442, R444, R449, R450, R453, R455; 14 R483; 15 R513): versions, then the class, then admission. Where no carrier
of Table 13.1, or the service port's disabled PHY (18 R580), brings it there is nobody to answer. An
unconfigured unit serves one session, on ETH1 over TCP without TLS, at class SERVICE; a worker that waits for its
Rucksack serves none (00 R4). -/
def execHello (t : Nat) (h : HelloIn) (s : State) : Host.Outcome State Fault Refusal :=
  let s := s.begin t
  let cls := grantClass (s.limitsFor h) h.cls
  let sesBad := h.services.any (fun p => p.1 = 1 && (agreeVersion p.1 p.2).isNone)
  .next (
    if s.hmp.waitRuck || !carries h || (h.carrier = 11 && !s.pwr.svc) then s
    else if (s.helloAgain h).isSome then { s with answers := s.answers ++ (s.helloAgain h).getD [] }
    else if s.rd R.HMP_STAT_SOURCE = 0 then
      if h.carrier = 1 && h.tcp && !h.tls && s.ses.open_.isEmpty && !(agreeAll h.services).isEmpty then
        s.letIn h Cls.SERVICE
      else s.refuseHello h Res.BUSY
    else if sesBad ∨ (agreeAll h.services).isEmpty then s.refuseHello h Res.VERSION
    else if s.mode = Mode.WALK_HOME ∧ cls ≠ Cls.MONITOR then s.refuseHello h Res.MODE_REFUSED
    else s.admission h cls)

/-- BYE (R452): the session ends at once. -/
def execBye (t session : Nat) (msg : MsgIn) (s : State) : Host.Outcome State Fault Refusal :=
  .next ((s.begin t).onMessage session 0x0001 msg (fun (s : State) =>
    (s.reply session Res.OK).closeSession session 0))

/-- KEEPALIVE (R452): counts as sending. -/
def execKeepalive (t session : Nat) (msg : MsgIn) (s : State) : Host.Outcome State Fault Refusal :=
  .next ((s.begin t).onMessage session 0x0001 msg (fun (s : State) => s.reply session Res.OK))

/-- SESSION_TIMEOUT (R452): a session silent for its TIMEOUT ends. -/
def execSessionTimeout (t session : Nat) (s : State) : Host.Outcome State Fault Refusal :=
  let s := s.begin t
  .next (match s.session? session with
    | some ss => if ss.lastRx + ss.timeout * 1000000000 ≤ s.now then s.closeSession session 1 else s
    | none => s)

/-- SES_CONNECTION_CLOSED (R452): over TCP a closed connection ends the session. -/
def execSesConnectionClosed (t session : Nat) (s : State) : Host.Outcome State Fault Refusal :=
  let s := s.begin t
  .next (match s.session? session with
    | some ss => if ss.tcp then s.closeSession session 2 else s
    | none => s)

/-- BAD_MESSAGE (R445): a message with a wrong MAGIC, LENGTH or reserved bit is discarded unanswered; over TCP it ends
the connection. -/
def execBadMessage (t session : Nat) (msg : MsgIn) (s : State) : Host.Outcome State Fault Refusal :=
  let s := s.begin t
  .next (if msg.framed (s.mostBytes session) then s else s.discard session)

/-! ### The gate -/

/-- The field of a live request that names no live setting (02 R60). -/
def deadKey : ReqKind → Option Nat
  | .live key => match fieldOf key with
    | some d => if d.acc = .rwLive then none else some key
    | none => some key
  | _ => none

/-- The first test of 03 R596 failed at the gate: an insertion refused for its class or its end-to-end protection is
counted and logged with the code it is refused with (03 R138; DESIGN CHOICE: its payload is the requester, log entry
120). -/
def State.gateNote (s : State) (num : Nat) (kind : ReqKind) (code : Nat) : State :=
  if kind = .insert && (code = Res.CLASS || (Res.E2E_REQUIRED ≤ code && code ≤ Res.E2E_ALIVE)) then
    s.lnNote code 0 1000000 [num]
  else s

/-- GATE_REQUEST (02 R57, R59, R60; 13 R444, R446, R451, R454, R462, R464, R597): version, class, live setting and
end-to-end check in this order, then a place in the queue of 64. -/
def execGateRequest (t session : Nat) (kind : ReqKind) (msg : MsgIn) (s : State) :
    Host.Outcome State Fault Refusal :=
  .next ((s.begin t).onMessage session (reqService kind) msg (fun (s : State) =>
    if !s.mayRequest session kind then (s.gateNote session kind Res.CLASS).reply session Res.CLASS
    else if (deadKey kind).isSome then s.notLive session ((deadKey kind).getD 0)
    else
      let p := s.protect session msg
      if p.1 ≠ Res.OK then (p.2.gateNote session kind p.1).reply session p.1
      else if 64 ≤ p.2.ses.gate.length then (p.2.log 0x1022 [reqNumber kind, session]).reply session Res.GATE_BUSY
      else
        let g := p.2.ses.gate ++ [({ session := session, kind := kind } : GateReq)]
        ({ p.2 with ses := { p.2.ses with gate := g } }).reply session Res.OK))

/-- E2E_TIMEOUT (R465): no accepted message for TIMEOUT takes the record's REACTION once. -/
def execE2eTimeout (t session dataId : Nat) (s : State) : Host.Outcome State Fault Refusal :=
  let s := s.begin t
  .next (match s.aliveOf session dataId, s.ses.cfg.dataIds.find? (fun d => d.id = dataId) with
    | some a, some d =>
      if a.expired ∨ s.now < a.lastOk + d.timeout * 1000000 then s
      else
        let others := s.ses.alive.filter (fun x => !(x.session = session && x.dataId = dataId))
        let s := { s with ses := { s.ses with alive := others ++ [{ a with expired := true }] } }
        let s := if d.reaction = 1 then s.endOverrides session dataId
                 else if d.reaction = 2 then
                   ((List.range 48).filter (fun f => bitOf d.fnMask f)).foldl
                     (fun (s : State) (f : Nat) => s.stopAny f 4) s
                 else s
        s.log 0x9045 [session, dataId, d.reaction] 2 false (d.reaction = 2)
    | _, _ => s)

/-! ### Objects -/

/-- One entry of a read answered (R458, R459): relayed to the unit it names, whose answer it gets, unknown, withheld
from the class, or the values. -/
def State.readEntry (s : State) (num : Nat) (e : ObjIn) : State :=
  if e.unit ≠ s.role.unit then
    if !s.reaches e.unit then s.reply num Res.NO_OBJECT [e.unit, e.index, e.sub]
    else if s.classCut (s.classOf num) e.index 0 then s.reply num Res.CLASS [e.unit, e.index, e.sub]
    else (s.answer (.trunk 0) 0x10 [e.unit, e.index, e.sub, num]).reply num e.remote.1 e.remote.2
  else match entryKeys e.index e.sub with
    | [] => s.reply num Res.NO_OBJECT [e.unit, e.index, e.sub]
    | _ =>
      if s.classCut (s.classOf num) e.index 0 then s.reply num Res.CLASS [e.unit, e.index, e.sub]
      else s.reply num Res.OK (s.entryValues e.index e.sub)

/-- OBJECT_READ (R458, R459): the entries answered one by one, in order. -/
def execObjectRead (t session : Nat) (msg : MsgIn) (entries : List ObjIn) (s : State) :
    Host.Outcome State Fault Refusal :=
  .next ((s.begin t).onMessage session 0x0010 msg (fun (s : State) =>
    entries.foldl (fun s e => s.readEntry session e) s))

/-- The least class a write to a field needs, by its access code (Table 13.7): RO and TH fields refuse
every class that may write at all with ACCESS. -/
def State.mayWrite (s : State) (num key : Nat) (acc : Acc) : Bool :=
  !s.classCut (s.classOf num) (key / 256) 1 && match acc with
    | .ro | .th => s.classAtLeast num Cls.OPERATOR
    | .rwLive => s.mayLive num key
    | .rwStop | .next => s.classAtLeast num Cls.SERVICE

/-- A write of a NEXT field (14 R487): in SERVICE it is entered in the amendment list, the running value
unchanged. -/
def State.nextWrite (s : State) (num key v : Nat) (valueOk : Bool) : State :=
  if s.mode ≠ Mode.SERVICE then s.notLive num key
  else if !valueOk then s.reply num Res.VALUE
  else if s.amendRoom key then ((s.amendPut s.role.unit 2 key v).amendCount).reply num Res.OK
  else (s.log 0xA00A [key / 256, key % 256, num]).reply num 0xA00A

/-- An entry that writes a live field the session may write (R462). -/
def State.liveEntry (s : State) (num : Nat) (e : ObjIn) : Bool :=
  match fieldOf (e.index * 256 + e.sub) with
  | some d => d.acc = .rwLive && s.mayWrite num (e.index * 256 + e.sub) d.acc && s.configured
  | none => false

/-- A value as the field takes it: a value that does not spell one is out of range for it (R459). -/
def FieldDesc.given (d : FieldDesc) (raw : Nat) : Nat := (d.taken raw).getD (2 ^ d.width)

/-- One entry of a write answered (00 R13, R14; 13 R454, R459, R462): the class first, then the field's access code; a
live field with the outcome of the request's end-to-end check. -/
def State.writeEntry (s : State) (num code : Nat) (e : ObjIn) (raw : Nat) : State :=
  let key := e.index * 256 + e.sub
  match fieldOf key with
  | none => s.reply num Res.NO_OBJECT
  | some d =>
    let v := d.given raw
    if e.unit ≠ s.role.unit ∧ !s.reaches e.unit then s.reply num Res.NO_OBJECT
    else if !s.mayWrite num key d.acc || !s.configured then s.reply num Res.CLASS
    else if d.acc = .rwLive ∧ code ≠ Res.OK then s.reply num code
    else if e.unit ≠ s.role.unit then
      (s.answer (.trunk 0) 0x11 [e.unit, e.index, e.sub, raw, num]).reply num e.remote.1 e.remote.2
    else match d.acc with
      | .ro => s.reply num Res.ACCESS
      | .th => (s.log 0x1023 [e.index, e.sub]).reply num Res.ACCESS
      | .rwStop => s.notLive num key
      | .next => s.nextWrite num key v (s.nextOk key v d)
      | .rwLive => s.liveAny num key v (d.admits v)

/-- OBJECT_WRITE (00 R13, R14; 13 R454, R459, R462): the entries answered one by one, in order; one that is accepted is
not undone by a later one's refusal. A request that writes a live field is checked once. -/
def execObjectWrite (t session : Nat) (msg : MsgIn) (entries : List (ObjIn × Nat)) (s : State) :
    Host.Outcome State Fault Refusal :=
  .next ((s.begin t).onMessage session 0x0010 msg (fun (s : State) =>
    let p := if entries.any (fun e => s.liveEntry session e.1) then s.protect session msg else (Res.OK, s)
    entries.foldl (fun s e => s.writeEntry session p.1 e.1 e.2) p.2))

/-- SES_MAX_WRITE (R457; 14 Table 14.9): RESERVE to 255; no session is evicted. -/
def execSesMaxWrite (t session cls v : Nat) (s : State) : Host.Outcome State Fault Refusal :=
  .next (s.gated t session (.live (R.SES_CLASS_CFG_MAX cls)) (fun (s : State) =>
    s.liveWrite session (R.SES_CLASS_CFG_MAX cls) v
    (s.rd (R.SES_CLASS_CFG_RESERVE cls) ≤ v && v ≤ 255)))

/-! ### Subscriptions -/

/-- EVENT_SUBSCRIBE (02 R68): from here on the session receives the stream in sequence order. -/
def execEventSubscribe (t session : Nat) (msg : MsgIn) (s : State) : Host.Outcome State Fault Refusal :=
  .next ((s.begin t).onMessage session 0x0011 msg (fun (s : State) =>
    (s.setSession session (fun ss => { ss with events := true })).reply session Res.OK))

/-- STREAM_SUBSCRIBE (R461; 09 R346): up to 32 streams at once; a further one finds no place (log entry 26). Of the
stream's records one in `every` is sent. -/
def execStreamSubscribe (t session : Nat) (msg : MsgIn) (stream every : Nat) (s : State) :
    Host.Outcome State Fault Refusal :=
  .next ((s.begin t).onMessage session 0x0012 msg (fun (s : State) =>
    match s.session? session with
    | some ss =>
      if ss.streams.contains stream then s.reply session Res.OK
      else if 32 ≤ ss.streams.length then s.reply session Res.BUSY
      else (s.setSession session (fun ss => { ss with
        streams := ss.streams ++ [stream],
        every := if every ≤ 1 then ss.every else ins ss.every stream (every, 0) })).reply session Res.OK
    | none => s))

/-- SNAPSHOT_REQUEST (R461; 09 R336): the newest complete frame of a SNAPSHOT stream, one per request;
FLEET sessions have no right to it (Table 13.7). -/
def execSnapshotRequest (t session : Nat) (msg : MsgIn) (cam out : Nat) (s : State) :
    Host.Outcome State Fault Refusal :=
  .next ((s.begin t).onMessage session 0x0012 msg (fun (s : State) =>
    if s.classOf session = Cls.FLEET then s.reply session Res.CLASS
    else if s.rd (R.ISP_OUT_DEST cam out) ≠ 2 then s.reply session Res.NO_OBJECT
    else match s.snapshotFrame cam out with
      | some f => s.reply session Res.OK f
      | none => s.reply session Res.OK))

end Sys2Proof.Machine
end

