-- ==== Sys2Proof/Machine/Fleet.lean ====
section
/-! DEFINITION. The fleet link, telemetry and the grain-cart broadcast (17 R567 to R571). -/

namespace Sys2Proof.Machine

/-- The radio island serves its bearers: powered, neither stalled nor held off (15 Table 15.4; 01 Table 1.8). -/
def State.radioOn (s : State) : Bool := bitOf (s.rd R.PWR_STAT_PD) 9 && !s.islandOut 9

/-- The bearer of an attempt (Table 17.5 BEARER): false CELL1, true WLAN; none when there is none. -/
def State.bearer (s : State) (cell wlan : Bool) : Option Bool :=
  match s.rd R.FL_CFG_BEARER with
  | 0 => if cell then some false else none
  | 1 => if cell then some false else if wlan then some true else none
  | _ => if wlan then some true else none

/-- The ASCII of a number in `n` upper-case hexadecimal digits (R570). -/
def hexAscii : Nat → Nat → List Nat
  | 0, _ => []
  | n + 1, x => hexAscii n (x / 16) ++ [if x % 16 < 10 then 48 + x % 16 else 55 + x % 16]

/-- A telemetry record published under "TOPIC/MACHINE_ID/tele": the topic's length, the topic, the record (R570). -/
def State.publishTele (s : State) (r : List Int) : State :=
  let topic := s.stringAt (s.rd R.FL_CFG2_TOPIC) ++ [47] ++ hexAscii 16 (s.rd R.HMP_ID_MACHINE_ID) ++ [47, 116, 101, 108, 101]
  s.answer .fleet 0x60 ((topic.length : Int) :: topic.map Int.ofNat ++ r)

/-- Waiting telemetry sent oldest first (R570). -/
def State.sendQueued (s : State) : State :=
  let q := s.fl.queue
  let s := q.foldl State.publishTele s
  { s with fl := { s.fl with queue := [] } }.wr R.FL_STAT_QUEUED 0

/-- A connection comes up (R568); an MQTT client is named by the serial number in eight digits (R570). -/
def State.fleetUp (s : State) (conn : Nat) (wlan : Bool) : State :=
  let c := (look s.fl.conn conn).getD {}
  let s := { s with fl := { s.fl with conn := ins s.fl.conn conn { c with upAt := s.now } } }
  let s := s.wrs [(if conn = 0 then R.FL_STAT_SESS else R.FL_STAT_MQTT, 2), (R.FL_STAT_VIA_WLAN, bit01 wlan)]
  let s := s.log 0xA040 [conn, 1, bit01 wlan]
  if conn = 1 then (s.answer .fleet 0x50 ((hexAscii 8 s.hmp.serial).map Int.ofNat)).sendQueued else s

/-- An attempt fails: the connection is down, the next attempt comes after the wait, which doubles up to RETRY_MAX
(R568). -/
def State.fleetFailed (s : State) (conn : Nat) : State :=
  let c := (look s.fl.conn conn).getD {}
  let next : ConnS := { wait := min (s.rd R.FL_CFG2_RETRY_MAX) (2 * c.wait), tryAt := s.now + c.wait * 1000000000 }
  { s with fl := { s.fl with conn := ins s.fl.conn conn next } }.wr
    (if conn = 0 then R.FL_STAT_SESS else R.FL_STAT_MQTT) 0

/-- An attempt begins, over the bearer there is, toward the host and the port of the connection (R567, R568). -/
def State.fleetOpens (s : State) (conn : Nat) (wlan : Bool) : State :=
  let port := s.rd (if conn = 0 then R.FL_CFG_PSP_PORT else R.FL_CFG_MQTT_PORT)
  (s.wrs [(if conn = 0 then R.FL_STAT_SESS else R.FL_STAT_MQTT, 1), (R.FL_STAT_VIA_WLAN, bit01 wlan)]).answer .fleet 0x51
    ((conn : Int) :: (port : Int) :: (bit01 wlan : Int) :: (s.stringAt (s.rd R.FL_CFG_HOST)).map Int.ofNat)

/-- FL_RECONNECT (R567, R568): connection 0 (fleet session) or 1 (MQTT). An attempt begins once its wait is over; it fails, or
it is up when the back end's TLS handshake passes, its certificate chaining to a TRUST record (13 R443). -/
def execFlReconnect (t conn : Nat) (stage : FleetStep) (cell wlan : Bool) (s : State) : Host.Outcome State Fault Refusal :=
  let s := s.begin t
  let c := (look s.fl.conn conn).getD {}
  let st := s.rd (if conn = 0 then R.FL_STAT_SESS else R.FL_STAT_MQTT)
  let via := if s.radioOn then s.bearer cell wlan else none
  .next (
    if s.isWorker || !s.flag R.FL_CFG_EN then s
    else match stage with
      | .opens =>
        if st ≠ 0 || s.now < c.tryAt then s
        else match via with
          | some w => s.fleetOpens conn w
          | none => s.fleetFailed conn
      | .fails => if st = 1 then s.fleetFailed conn else s
      | .up tls =>
        if st ≠ 1 then s
        else if via.isNone then s.fleetFailed conn
        else if s.tlsFault tls ≠ 0 then
          (s.log 0x9043 [if s.flag R.FL_STAT_VIA_WLAN then 8 else 9, s.tlsFault tls] 5).fleetFailed conn
        else s.fleetUp conn (s.flag R.FL_STAT_VIA_WLAN))

/-- FL_CONNECTION_LOST (R568). -/
def execFlConnectionLost (t conn : Nat) (s : State) : Host.Outcome State Fault Refusal :=
  .next ((s.begin t).fleetDown conn)

/-- Speed as telemetry and the cart record give it: OBS.EGO, or GN.PVT when SRC is not 0 (Table 17.6), a
single. -/
def State.speedNow (s : State) : Nat :=
  match s.ego with
  | some e => if e.src = 0 then e.speed else s.gnssSpeed
  | none => s.gnssSpeed

/-- The single that is no number. -/
abbrev nan32 : Nat := 0x7FC00000

/-- Value `i` of the last record of a vision network, NaN when there is none. -/
def State.visValue (s : State) (net i : Nat) : Nat :=
  match look s.cams.vis net with
  | some v => v.values.getD i nan32
  | none => nan32

/-- A position as two doubles in degrees (Table 17.6): 0 while there is no solution. -/
def State.telePos (s : State) : List Nat :=
  match s.gn.pvt with
  | some p => if s.soln = 0 then [0, 0] else [toF64 (mkRat p.lat 1000000000), toF64 (mkRat p.lon 1000000000)]
  | none => [0, 0]

/-- The 44 bytes of a telemetry record (Table 17.6). -/
def State.teleRecord (s : State) : List Int :=
  let feed := match s.out with
    | some o => o.values.getD 0 0
    | none => 0
  let faults := ((s.bb.dtc.map (fun (d : Nat × List Int) => d.1)).eraseDups).length
  (leBytes 8 (ofSigned 64 s.harvest) ++ s.telePos.flatMap (leBytes 8) ++ leBytes 4 s.speedNow ++ leBytes 4 feed ++
    leBytes 4 (s.visValue 5 0) ++ [s.mode, s.rd R.OBS_STAT_DSTEP, s.soln, s.rd R.GD_STAT_STATE] ++ leBytes 2 faults ++
    [0, 0]).map Int.ofNat

/-- The whole multiple of a period at which harvest time stands, when it does and it is not the one in `last`. -/
def State.periodDue (s : State) (period : Nat) (last : Option Int) : Option Int :=
  let k := (s.harvest + 4) / period
  if onGrid s.harvest period && last ≠ some k then some k else none

/-- TELEMETRY_PUBLISH (R570): at every whole multiple of TELE_S of harvest time, once; while MQTT is down the record waits,
the oldest of 4,096 dropped. -/
def execTelemetryPublish (t : Nat) (s : State) : Host.Outcome State Fault Refusal :=
  let s := s.begin t
  .next (
    if s.isWorker || !s.flag R.FL_CFG_EN then s
    else match s.periodDue (s.rd R.FL_CFG_TELE_S * 1000000000) s.fl.teleAt with
    | none => s
    | some k =>
      let s := { s with fl := { s.fl with teleAt := some k } }
      if s.rd R.FL_STAT_MQTT = 2 then s.publishTele s.teleRecord
      else
        let q := s.fl.queue ++ [s.teleRecord]
        let full : Bool := 4096 < q.length
        let q := if full then q.drop 1 else q
        let s := { s with fl := { s.fl with queue := q } }.wr R.FL_STAT_QUEUED q.length
        if full then (s.bump R.FL_STAT_DROPPED 0xFFFF).log 0xA041 [1] else s)

/-- The 60 bytes of a cart record (Table 17.7): the latest navigation state's, with none of them its values open (log entry
135). -/
def State.cartRecord (s : State) (seq : Nat) : List Nat × State :=
  let spout := fun (i : Nat) => match look s.cams.vis 4 with
    | some v => if s.harvest - v.stamp ≤ 1000000000 then v.values.getD i nan32 else nan32
    | none => nan32
  let (nav, z) : List Nat × State := match s.gd.nav with
    | some x => (leBytes 8 (ofSigned 64 x.t) ++ leBytes 8 (toF64 (mkRat x.rlat 1000000000)) ++
        leBytes 8 (toF64 (mkRat x.rlon 1000000000)) ++
        leBytes 4 (if s.rd R.GD_STAT_HDGSRC = 0 then nan32 else toF32 x.hdg), s)
    | none => let (v, z) := s.fresh 192
      (leBytes 24 v ++ leBytes 4 nan32, z)
  let flags := bit01 (s.rd (R.FN_STAT_STATE 24) ≥ 2) + 2 * bit01 (s.soln = 4) + 4 * bit01 (s.rd R.GD_STAT_STATE = 3)
  let body := [0x43, 0x52, 0x54, 0x31] ++ leBytes 2 seq ++ [0, 0] ++ nav ++ leBytes 4 s.speedNow ++
    leBytes 4 (s.visValue 5 0) ++ leBytes 4 (spout 0) ++ leBytes 4 (spout 1) ++ [flags, 0, 0, 0]
  (body ++ leBytes 4 (crc32c body), z)

/-- CART_BROADCAST (R571): at every whole multiple of 100 ms of harvest time in FIELD_IDLE and HARVEST, once, to port
CART_PORT on WLAN. -/
def execCartBroadcast (t : Nat) (s : State) : Host.Outcome State Fault Refusal :=
  let s := s.begin t
  .next (
    if !s.flag R.FL_CFG2_CART_EN || !(s.mode = Mode.FIELD_IDLE || s.mode = Mode.HARVEST) || !s.radioOn then s
    else match s.periodDue 100000000 s.fl.cartAt with
    | none => s
    | some k =>
      let s := { s with fl := { s.fl with cartAt := some k } }
      let seq := (s.rd R.FL_STAT_CARTSEQ + 1) % 65536
      let (r, s) := (s.wr R.FL_STAT_CARTSEQ seq).cartRecord seq
      s.answer .fleet 0x61 ((s.rd R.FL_CFG2_CART_PORT : Int) :: r.map Int.ofNat))

end Sys2Proof.Machine
end

