-- ==== Sys2Proof/Machine/Gnss.lean ====
section
/-! DEFINITION. The commands of the navigation baseband (07). -/

namespace Sys2Proof.Machine

/-! ### Channels -/

/-- A channel's own state. -/
def State.chS (s : State) (n : Nat) : ChanS := (look s.gn.ch n).getD {}

/-- A channel's own state written. -/
def State.setCh (s : State) (n : Nat) (c : ChanS) : State :=
  { s with gn := { s.gn with ch := ins s.gn.ch n c } }

/-- The baseband runs and its island is clocked. -/
def State.gnssRuns (s : State) : Bool := s.gn.on && !s.islandOut 3

/-- A channel acquires or tracks a signal (Table 7.4, STATE). -/
def State.chActive (s : State) (n : Nat) : Bool :=
  1 ≤ s.rd (R.GN_CH_STAT_STATE n) && s.rd (R.GN_CH_STAT_STATE n) ≤ 3

/-- The classes of Table 7.2: narrow, the BOC family, wide. -/
inductive SigClass where
  | narrow | boc | wide
deriving DecidableEq, Repr

/-- A signal's class (Table 7.2). -/
def sigClass (sig : Nat) : SigClass :=
  if [0x02, 0x05, 0x0D, 0x11].contains sig then .boc
  else if [0x04, 0x06, 0x07, 0x08, 0x0B, 0x0E, 0x0F, 0x13].contains sig then .wide
  else .narrow

/-- Correlator spacings of a class, early to late and very early to very late, in hundredths of a chip (Table 7.3). -/
def spacing : SigClass → Nat × Nat
  | .narrow => (20, 100)
  | .boc => (10, 100)
  | .wide => (50, 150)

/-- The "RTK" column of Table 7.2: FLOAT, FIXED and heading solutions use the signal. -/
def rtkSignal (sig : Nat) : Bool := 1 ≤ sig && sig ≤ 0x13

/-- The "Time" column of Table 7.2: the time solution uses the signal. -/
def timeSignal (sig : Nat) : Bool := 1 ≤ sig && sig ≤ 0x14 && sig ≠ 0x09 && sig ≠ 0x0A

/-- A cycle slip is declared (R260): LOCKTIME from 0, SLIP in the next measurement, counted, logged at most
once per channel per 1 s. -/
def State.slip (s : State) (n : Nat) : State :=
  let c := s.chS n
  let s := (s.setCh n { c with lockAt := some s.now, slip := true }).bump (R.GN_CH_STAT_SLIPS n) 255
  s.logOnce 0x5004 n 1000000000 [n, s.rd (R.GN_CH_STAT_SIG n), s.rd (R.GN_CH_STAT_SV n)] 3

/-- The coherent interval of a dump, coded as TCOH (R258, R259). DESIGN CHOICE: the 10 ms of S3 stand also where the
signal's structure allows less, since R259 says "at least" of every channel outside the solution (log entry 123). -/
def State.cohNow (s : State) (n : Nat) (d : DumpIn) : Nat :=
  let c := if d.sync then min d.longest (s.rd R.GN_TRK_CFG_TCOH) else 0
  if s.rd R.CORE_PACE_SHED = 3 && !s.flag (R.GN_CH_STAT_INSOL n) then max c 4 else c

/-- What a dump shows of a channel's loops (R257, R258, R260): the loops work with the bandwidths of GN.TRK.CFG and
FLL_PULLIN's assistance; rates that arrived since the last dump are in force, the boundary they waited for lying at or
before this one; new ones are on their way. -/
def State.dumped (s : State) (c : ChanS) (sig : Nat) (d : DumpIn) : ChanS :=
  let from_ := c.pullAt.getD s.now
  let run := if 800 ≤ d.pli then c.run + 1 else 0
  let side := if sigClass sig = .boc && d.side ≠ 0 then c.side + 1 else 0
  let moved : Bool := 20 ≤ side
  { c with
    pullAt := some from_, run := run, due := true, low := decide (d.pli < 500),
    rates := c.arrived.getD c.rates, arrived := none,
    fll := decide (s.now < from_ + s.rd R.GN_TRK_CFG_FLL_PULLIN * 100000000),
    bw := (s.rd R.GN_TRK_CFG_PLL_BW, s.rd R.GN_TRK_CFG_DLL_BW),
    seenAt := if 4 * s.rd R.GN_CFG_CN0_MASK < d.cn0 then s.now else c.seenAt,
    side := if moved then 0 else side, code := if moved then c.code + d.side else c.code,
    lockAt := if 50 ≤ run && c.lockAt.isNone then some s.now else c.lockAt }

/-- CHANNEL_DUMP (R257 to R260; LATE_UPD of R258): the loops compute new rates, which are then on their way;
lock, slips and side peaks are judged. -/
def execChannelDump (t ch : Nat) (dump : DumpIn) (s : State) : Host.Outcome State Fault Refusal :=
  let s := s.begin t
  .next (
    if !s.gnssRuns || !s.chActive ch then s
    else
      let c := s.chS ch
      let sig := s.rd (R.GN_CH_STAT_SIG ch)
      let c' := s.dumped c sig dump
      let coh := s.cohNow ch dump
      let s := if c.due then s.bump (R.GN_CH_STAT_LATE_UPD ch) 0xFFFF else s
      let s := s.setCh ch c'
      let st := if c'.lockAt.isSome then 3 else 2
      let s := s.wrs [(R.GN_CH_STAT_STATE ch, st), (R.GN_CH_STAT_CN0 ch, min 255 dump.cn0),
        (R.GN_CH_STAT_TCOH_NOW ch, coh)]
      let s := if c'.code ≠ c.code then s.bump (R.GN_CH_STAT_SIDEPEAK ch) 255 else s
      let s := if dump.sync then { s with gn := { s.gn with tcoh := ins s.gn.tcoh sig coh } } else s
      let s := if c'.lockAt.isSome && dump.half then s.wr (R.GN_CH_STAT_HALF ch) 1 else s
      if c.lockAt.isSome && ((c'.low && !c.low) || dump.jump) then s.slip ch else s)

/-- CHANNEL_RATES_ARRIVE (R258): the new rates take effect at the next code-period boundary. -/
def execChannelRatesArrive (t ch : Nat) (code carrier : Int) (s : State) : Host.Outcome State Fault Refusal :=
  let s := s.begin t
  .next (if s.gnssRuns && s.chActive ch then
      s.setCh ch { s.chS ch with due := false, arrived := some (code, carrier) }
    else s)

/-- CHANNEL_LOST (R260): with no correlation above the C/N0 mask for 200 ms the channel goes to STATE 5, out of lock. -/
def execChannelLost (t ch : Nat) (s : State) : Host.Outcome State Fault Refusal :=
  let s := s.begin t
  .next (
    if !s.gnssRuns || !s.chActive ch || s.now < (s.chS ch).seenAt + 200000000 then s
    else
      (s.setCh ch { s.chS ch with due := false, run := 0, side := 0, lockAt := none, pullAt := none }).wrs
        [(R.GN_CH_STAT_STATE ch, 5), (R.GN_CH_STAT_HALF ch, 0)])

/-! ### Channel assignment (R256) -/

/-- The system of a signal, as an order of R256: GPS, Galileo, BeiDou, GLONASS, QZSS, NavIC, SBAS. -/
def sysRank (sig : Nat) : Nat :=
  if sig ≤ 0x04 then 0 else if sig ≤ 0x08 then 1 else if 0x0C ≤ sig ∧ sig ≤ 0x0F then 2
  else if sig ≤ 0x0B then 3 else if sig ≤ 0x13 then 4 else if sig = 0x14 then 5 else 6

/-- The bit of SYSMASK of a signal's system (Table 7.12). -/
def sysBit (sig : Nat) : Nat := [6, 5, 3, 4, 2, 1, 0].getD (sysRank sig) 0

/-- The channel that holds a signal. -/
def State.chOf (s : State) (ant sig sv : Nat) : Option Nat :=
  (s.gn.ch.find? (fun (p : Nat × ChanS) => s.rd (R.GN_CH_STAT_STATE p.1) ≠ 0 &&
    s.rd (R.GN_CH_STAT_ANT p.1) = ant - 1 && s.rd (R.GN_CH_STAT_SIG p.1) = sig &&
    s.rd (R.GN_CH_STAT_SV p.1) = sv)).map (fun (p : Nat × ChanS) => p.1)

/-- A signal may have a channel: its system enabled, above the masks, and on GNSS2 only with DUAL and a
channel on GNSS1. -/
def State.mayAssign (s : State) (x : SigIn) : Bool :=
  1 ≤ x.sig && x.sig ≤ 0x15 && bitOf (s.rd R.GN_CFG_SYSMASK) (sysBit x.sig) &&
    s.rd R.GN_CFG_ELEV_MASK ≤ x.elev && 4 * s.rd R.GN_CFG_CN0_MASK ≤ x.cn0 &&
    (x.ant = 1 || (x.ant = 2 && s.flag R.GN_CFG_DUAL && (s.chOf 1 x.sig x.sv).isSome))

/-- The order of assignment as one number: antenna, last solution, system, elevation; then the signal. -/
def State.assignKey (s : State) (x : SigIn) : Nat :=
  let insol : Bool := match s.chOf x.ant x.sig x.sv with
    | some n => s.flag (R.GN_CH_STAT_INSOL n)
    | none => false
  ((((x.ant * 2 + bit01 (!insol)) * 8 + sysRank x.sig) * 128 + (90 - x.elev)) * 32 + x.sig) * 256 + x.sv

/-- A channel for a signal: its own lost or released one, an idle one, or a lost one. -/
def State.channelFor (s : State) (x : SigIn) : Option (Nat × Bool) :=
  match s.chOf x.ant x.sig x.sv with
  | some n => if s.chActive n then none else some (n, false)
  | none => match (List.range 1024).find? (fun n => s.rd (R.GN_CH_STAT_STATE n) = 0) with
    | some n => some (n, true)
    | none => ((List.range 1024).find? (fun n => s.rd (R.GN_CH_STAT_STATE n) = 5)).map (fun n => (n, true))

/-- One signal assigned, or acquired again from its last code phase. -/
def State.assign (s : State) (x : SigIn) : State :=
  match s.channelFor x with
  | none => s
  | some (n, fresh) =>
    let c : ChanS := if fresh then
        { fcn := if x.sig = 0x09 ∨ x.sig = 0x0A then x.fcn else 0, spacing := spacing (sigClass x.sig) }
      else { s.chS n with pullAt := none, run := 0, lockAt := none }
    let c := { c with seenAt := s.now }
    let s := (s.setCh n c).wrs [(R.GN_CH_STAT_STATE n, 1), (R.GN_CH_STAT_HALF n, 0)]
    if fresh then
      s.wrs [(R.GN_CH_STAT_ANT n, x.ant - 1), (R.GN_CH_STAT_SIG n, x.sig), (R.GN_CH_STAT_SV n, x.sv),
        (R.GN_CH_STAT_CN0 n, min 255 x.cn0), (R.GN_CH_STAT_INSOL n, 0), (R.GN_CH_STAT_HALF n, 0),
        (R.GN_CH_STAT_TCOH_NOW n, 0), (R.GN_CH_STAT_LATE_UPD n, 0), (R.GN_CH_STAT_SLIPS n, 0),
        (R.GN_CH_STAT_SIDEPEAK n, 0)]
    else s

/-- Out of S4 every released signal is acquired again from its last code phase and Doppler (R259). -/
def State.reacquire (s : State) : State :=
  if s.rd R.CORE_PACE_SHED = 4 then s
  else s.gn.ch.foldl (fun (s : State) (p : Nat × ChanS) =>
    if s.rd (R.GN_CH_STAT_STATE p.1) = 4 then
      (s.setCh p.1 { s.chS p.1 with seenAt := s.now }).wr (R.GN_CH_STAT_STATE p.1) 1
    else s) s

/-- Signals in view assigned in the order of R256; at S4 only one that contributes takes a channel again (R259). -/
def State.assignAll (s : State) (view : List SigIn) : State :=
  let ordered := view.foldl (fun (l : List (Nat × SigIn)) (x : SigIn) => ins l (s.assignKey x) x) []
  ordered.foldl (fun (s : State) (p : Nat × SigIn) =>
    let held : Bool := match s.chOf p.2.ant p.2.sig p.2.sv with
      | some n => s.rd R.CORE_PACE_SHED = 4 && !s.flag (R.GN_CH_STAT_INSOL n)
      | none => s.rd R.CORE_PACE_SHED = 4
    if s.mayAssign p.2 && !held then s.assign p.2 else s) s

/-! ### Epochs -/

/-- The epoch period of MEAS_RATE, ns (Table 7.12). -/
def State.epochPeriod (s : State) : Int :=
  [1000000000, 500000000, 200000000, 100000000, 50000000].getD (s.rd R.GN_CFG_MEAS_RATE) 50000000

/-- The epoch at or before now (R262). -/
def State.epochNow (s : State) : Int := s.harvest - s.harvest % s.epochPeriod

/-- One measurement record (Table 7.6). -/
def State.measRecord (s : State) (m : MeasIn) : List Int :=
  let c := s.chS m.ch
  let flags := bit01 m.prOk + 2 * bit01 m.cpOk + 4 * s.rd (R.GN_CH_STAT_HALF m.ch) + 8 * bit01 c.slip +
    16 * s.rd (R.GN_CH_STAT_INSOL m.ch)
  let lock := match c.lockAt with
    | some a => min 0xFFFFFFFF ((s.now - a) / 1000000)
    | none => 0
  [(m.ch : Int), s.rd (R.GN_CH_STAT_SIG m.ch), s.rd (R.GN_CH_STAT_SV m.ch), s.rd (R.GN_CH_STAT_ANT m.ch),
    (flags : Int), s.rd (R.GN_CH_STAT_CN0 m.ch), c.fcn, (m.pr : Int), (m.cp : Int), (m.doppler : Int), (lock : Int)]

/-- The channels that track. -/
def State.tracking (s : State) : List Nat :=
  (s.gn.ch.map (fun (p : Nat × ChanS) => p.1)).filter (fun c => s.rd (R.GN_CH_STAT_STATE c) = 3)

/-- What was latched of a channel: where the measurements do not show it, neither pseudorange nor phase is valid and
what the record carries for them is free. -/
def State.latched (s : State) (meas : List MeasIn) (c : Nat) : MeasIn × State :=
  match meas.find? (fun m => m.ch = c) with
  | some m => (m, s)
  | none =>
    let (a, s) := s.fresh 64
    let (b, s) := s.fresh 64
    let (d, s) := s.fresh 32
    ({ ch := c, prOk := false, cpOk := false, pr := a, cp := b, doppler := d }, s)

/-- The records of a measurement block, one per tracking channel (R263). -/
def State.measRecords (s : State) (meas : List MeasIn) : List Int × State :=
  s.tracking.foldl (fun (acc : List Int × State) (c : Nat) =>
    let (m, z) := acc.2.latched meas c
    (acc.1 ++ z.measRecord m, z)) ([], s)

/-- RCVCLK: the time solution's estimate of harvest time minus GPS time, unknown without one (Table 7.5). DEDUCED: the
block is published before its own epoch's solution, so that the last epoch's estimate stands. -/
def State.rcvClk (s : State) : Nat :=
  match s.gn.toff with
  | some x => if s.rd R.GN_TSTAT_TERR = 0xFFFFFFFF then 0x7FC00000 else toF32 (x : Rat)
  | none => 0x7FC00000

/-- MEAS_EPOCH (R251, R256, R259, R262, R263): once per epoch the measurement block is published, by a worker to its
manager too; released channels come back and channels are assigned anew. -/
def execMeasEpoch (t : Nat) (view : List SigIn) (meas : List MeasIn) (s : State) :
    Host.Outcome State Fault Refusal :=
  let s := s.begin t
  let now := (s.epochNow, s.tb.steps)
  .next (
    if !s.gnssRuns || s.gn.measAt = some now then s
    else
      let n := s.tracking.length
      let flags := s.rd R.GN_STAT_TVALID + 2 * bit01 (s.gn.steps ≠ s.tb.steps)
      let head : List Int := [s.epochNow, (n : Int), (flags : Int), (s.rcvClk : Int)]
      let (recs, s) := s.measRecords meas
      let s := s.publish 1 (16 + 32 * n) (head ++ recs)
      let s := if s.isWorker then s.answer (.trunk 0) 0x45 (head ++ recs) else s
      let ch := s.gn.ch.map (fun (p : Nat × ChanS) => (p.1, { p.2 with slip := false }))
      (({ s with gn := { s.gn with steps := s.tb.steps, ch := ch, measAt := some now } }).reacquire).assignAll view)

/-! ### Corrections (R269 to R272) -/

/-- A correction slot's own state. -/
def State.corS (s : State) (n : Nat) : CorS := (look s.gn.cor n).getD {}

/-- A correction slot's own state written. -/
def State.setCor (s : State) (n : Nat) (c : CorS) : State :=
  { s with gn := { s.gn with cor := ins s.gn.cor n c } }

/-- The age of a slot's corrections at an epoch, ns; none while it carries none (R270, R271). -/
def State.corAge (s : State) (n : Nat) (epoch : Int) : Option Int :=
  let c := s.corS n
  if c.station.isNone then none
  else (c.epochs.find? (fun (e : Int) => decide (e ≤ epoch))).map (fun (e : Int) => epoch - e)

/-- A number of seconds at least as long as an age. -/
def within (a : Option Int) (sec : Nat) : Bool :=
  match a with
  | some x => decide (x ≤ sec * 1000000000)
  | none => false

/-- Ambiguities reset (R271): counted. -/
def State.resetAmb (s : State) : State :=
  ({ s with gn := { s.gn with amb := false, fixed := false } }).bump R.GN_STAT_RESETS 255

/-- The same station: equal identity, coordinates within 5 mm (R271). -/
def sameStation (a b : Option (Nat × (Int × Int × Int))) : Bool :=
  match a, b with
  | some (i, x, y, z), some (j, u, v, w) =>
    i = j && decide ((x - u) * (x - u) + (y - v) * (y - v) + (z - w) * (z - w) ≤ 2500)
  | _, _ => false

/-- The active source changes (R271). -/
def State.switchCor (s : State) (new : Nat) : State :=
  let old := s.rd R.GN_STAT_CORSRC
  let st := (s.corS new).station
  let kept : Bool := old = 7 || sameStation (s.corS old).station st
  let s := if kept then s else s.resetAmb
  (s.wr R.GN_STAT_CORSRC new).log 0x5005
    [old, new, ((st.map (fun (x : Nat × (Int × Int × Int)) => x.1)).getD 0xFFFF : Nat), bit01 (!kept)] 3

/-- The rules of R271 at an epoch: how long each slot has been good, and whether the active source changes. -/
def State.judgeCor (s : State) (epoch : Int) : State :=
  let lim := s.rd R.GN_RTK_CFG_SWITCH_AGE
  let used := fun (n : Nat) => s.isWorker && n = 0 || (!s.isWorker && s.rd (R.GN_COR_CFG_TYPE n) ≠ 0)
  let s := [0, 1, 2].foldl (fun (s : State) (n : Nat) =>
    let c := s.corS n
    let g := if within (s.corAge n epoch) lim then some (c.goodAt.getD epoch) else none
    if c.goodAt = g then s else s.setCor n { c with goodAt := g }) s
  let act := s.rd R.GN_STAT_CORSRC
  let fresh := fun (n : Nat) => used n && within (s.corAge n epoch) lim
  let held := fun (n : Nat) => used n && (match (s.corS n).goodAt with
    | some g => decide (g + 30000000000 ≤ epoch)
    | none => false)
  if act = 7 then
    match [0, 1, 2].find? fresh with
    | some n => s.switchCor n
    | none => s
  else match [0, 1, 2].find? (fun n => n < act && held n) with
    | some n => s.switchCor n
    | none =>
      if within (s.corAge act epoch) lim then s
      else match [0, 1, 2].find? (fun n => act < n && fresh n) with
        | some n => s.switchCor n
        | none => s

/-- Messages R270 names as corrections. -/
def isCorrection (m : Nat) : Bool :=
  m = 1004 || m = 1012 || [1070, 1080, 1090, 1110, 1120].any (fun b => b + 4 ≤ m && m ≤ b + 7)

/-- A good frame of a slot (R270 to R272): forwarded to the workers while the slot is active; a station's position, its
change on the active source, corrections, or a message that is only counted. -/
def State.takeRtcm (s : State) (n : Nat) (msg : RtcmIn) : State :=
  let c := s.corS n
  let (x, y, z) := msg.coords
  let s := if !s.isWorker && s.rd R.GN_STAT_CORSRC = n then
      s.answer (.trunk 0) 0x44 [msg.msg, msg.epoch, msg.station, x, y, z] else s
  if msg.msg = 1005 ∨ msg.msg = 1006 then
    let st := some (msg.station, msg.coords)
    let changed : Bool := c.station.isSome && c.station ≠ st && s.rd R.GN_STAT_CORSRC = n
    let s := s.setCor n { c with station := st }
    if changed then
      s.resetAmb.log 0x5006
        [n, ((c.station.map (fun (x : Nat × (Int × Int × Int)) => x.1)).getD 0 : Nat), msg.station] 3
    else s
  else if isCorrection msg.msg then
    if c.station.isSome then s.setCor n { c with epochs := (msg.epoch :: c.epochs).take 8 } else s
  else if msg.msg = 1033 ∨ msg.msg = 1230 then s
  else s.setCor n { c with ignored := c.ignored + 1 }

/-- A frame whose check fails (R270). -/
def State.badRtcm (s : State) (n : Nat) : State :=
  let c := s.corS n
  (s.setCor n { c with bad := c.bad + 1 }).logOnce 0x5007 n 10000000000 [n, c.bad + 1] 3

/-- Whether an NTRIP source is connected (R271): KEEP, active, or the active source too old. -/
def State.corConnected (s : State) (n : Nat) : Bool :=
  let act := s.rd R.GN_STAT_CORSRC
  (s.rd (R.GN_COR_CFG_TYPE n) = 1 || s.rd (R.GN_COR_CFG_TYPE n) = 2) &&
    (s.flag (R.GN_COR_CFG_KEEP n) || act = n || act = 7 ||
      !within (s.corAge act s.harvest) (s.rd R.GN_RTK_CFG_SWITCH_AGE))

/-- The NTRIP connections the rules ask for, as a client opens and closes them (R269, R271): version and the string record
(caster, mount point, credentials) of a new one. -/
def State.judgeConns (s : State) : State :=
  if s.isWorker then s
  else [0, 1, 2].foldl (fun (s : State) (n : Nat) =>
    let c := s.corS n
    let want := s.corConnected n
    if c.conn = want then s
    else
      let s := s.setCor n { c with conn := want, ggaAt := none }
      s.answer .gnss (0x10 + n) (if want then
        (([1, s.rd (R.GN_COR_CFG_TYPE n), s.rd (R.GN_COR_CFG_NTRIP_VER n)] ++
          s.stringAt (s.rd (R.GN_COR_CFG_ENDPOINT n))).map Int.ofNat) else [0])) s

/-- RTCM_FRAME (R269 to R272): a frame of an NTRIP source that is connected; of a CAN source the oldest frame its
connection received, whose check and number the bytes show; on a worker `slot` is ignored, the forwarded stream being its
only source. -/
def execRtcmFrame (t slot : Nat) (crcOk : Bool) (msg : RtcmIn) (s : State) :
    Host.Outcome State Fault Refusal :=
  let s := s.begin t
  let n := if s.isWorker then 0 else slot
  .next (
    if !s.gn.on then s
    else if s.isWorker then (if crcOk then s.takeRtcm n msg else s.badRtcm n)
    else if s.rd (R.GN_COR_CFG_TYPE n) = 0 then s
    else if s.rd (R.GN_COR_CFG_TYPE n) = 3 then
      match (s.corS n).frames with
      | [] => s
      | f :: rest =>
        let s := s.setCor n { s.corS n with frames := rest }
        if rtcmOk f then s.takeRtcm n { msg with msg := rtcmNumber f } else s.badRtcm n
    else if !s.corConnected n then s
    else if crcOk then s.takeRtcm n msg else s.badRtcm n)

/-- GGA_SEND (R269): the module's position to a connected NTRIP source every 10 s. -/
def execGgaSend (t slot : Nat) (s : State) : Host.Outcome State Fault Refusal :=
  let s := s.begin t
  let c := s.corS slot
  let due : Bool := match c.ggaAt with
    | some a => a + 10000000000 ≤ s.now
    | none => true
  .next (
    if s.gn.on && !s.isWorker && s.flag (R.GN_COR_CFG_SEND_GGA slot) && s.corConnected slot && due then
      match s.gn.pvt with
      | some p => (s.setCor slot { c with ggaAt := some s.now }).answer .gnss slot
          [p.epoch, p.lat, p.lon, p.hgt, p.soln, p.nsv, p.age, p.station]
      | none => s
    else s)

/-! ### Solutions -/

/-- The satellites of a list of channels on one antenna (0 GNSS1). -/
def State.satsOf (s : State) (l : List Nat) : Nat :=
  (((l.filter (fun c => s.rd (R.GN_CH_STAT_ANT c) = 0)).map (fun c =>
    (sysRank (s.rd (R.GN_CH_STAT_SIG c)), s.rd (R.GN_CH_STAT_SV c)))).eraseDups).length

/-- The channels whose signals a column of Table 7.2 admits. -/
def State.ofSignals (s : State) (p : Nat → Bool) (l : List Nat) : List Nat :=
  l.filter (fun c => p (s.rd (R.GN_CH_STAT_SIG c)))

/-- The kind of solution of an epoch (R255, Table 7.8, R266) from usable channels, with the channels it uses and the
ambiguities it leaves. -/
def State.solve (s : State) (sol : SolIn) (usable : List Nat) (age : Option Int) : Nat × List Nat × State :=
  let live : Bool := within age (s.rd R.GN_RTK_CFG_AGE_MAX)
  let s := if !live && s.gn.amb then s.resetAmb else s
  let rtk := s.ofSignals rtkSignal usable
  if s.satsOf usable < 4 then (0, [], s)
  else if live && s.rd R.GN_STAT_CORSRC ≠ 7 && decide (4 ≤ s.satsOf rtk) then
    let young := within age (s.rd R.GN_RTK_CFG_AGE_FIX)
    let fixed := s.gn.fixed || (young && decide (s.rd R.GN_RTK_CFG_RATIO ≤ sol.ratio))
    (if young && fixed then 4 else 3, rtk, { s with gn := { s.gn with amb := true, fixed := fixed } })
  else if bitOf (s.rd R.GN_CFG_SYSMASK) 0 && decide (4 ≤ sol.sbas) then (2, usable, s)
  else (1, usable, s)

/-- The heading of an epoch (R267): ambiguities validated at RATIO stay so until a length off by more than 20 mm discards
them, which GN_HEADING logs, or the baseline solution is gone; HEADQ 2, 1 or 0. -/
def State.solveHead (s : State) (sol : SolIn) (soln : Nat) : Nat × State :=
  let set := fun (s : State) (v : Bool) => { s with gn := { s.gn with headFixed := v } }
  match (if s.flag R.GN_CFG_DUAL && soln ≠ 0 then sol.head else none) with
  | none => (0, set s false)
  | some h =>
    if !s.gn.headFixed && decide (h.ratio < s.rd R.GN_RTK_CFG_RATIO) then (1, s)
    else
      let b := s.rd R.GN_CFG_BASELINE
      let s := { s with gn := { s.gn with baseline := h.len } }
      if h.len ≤ b + 20 ∧ b ≤ h.len + 20 then (2, set s true)
      else (1, (set s false).log 0x500B [h.len, 1] 3)

/-- The time solution of an epoch (R273), on a manager or standalone module: the estimate without the delay CABLE, which
the signals take before they reach the receiver, and its validity with the satellites of signals marked "Time". -/
def State.solveTime (s : State) (sol : SolIn) (soln : Nat) (usable : List Nat) : State :=
  if s.isWorker then s
  else match (if soln = 0 then none else sol.toff) with
  | none => (({ s with gn := { s.gn with toff := none } }).wr R.GN_TSTAT_TERR 0xFFFFFFFF).setTvalid false
  | some (raw, terr) =>
    let toff : Int := raw - (s.rd R.GN_CFG_CABLE : Int)
    let x : Int := max (-0x7FFFFFFF) (min 0x7FFFFFFF toff)
    let drift : Int := match s.gn.toff with
      | some p => if s.gn.toffAt < s.epochNow then (toff - p) * 1000000000 / (s.epochNow - s.gn.toffAt) else s.gn.drift
      | none => s.gn.drift
    let s := { s with gn := { s.gn with toff := some toff, toffAt := s.epochNow, drift } }
    (s.wrs [(R.GN_TSTAT_TERR, min 0xFFFFFFFE terr), (R.GN_TSTAT_TOFF, ofSigned 32 x)]).setTvalid
      (decide (terr ≤ 50) && decide (4 ≤ s.satsOf (s.ofSignals timeSignal usable)))

/-- The first fix of a start (R276): GN_START. -/
def State.firstFix (s : State) (soln : Nat) : State :=
  let s := if soln ≠ 0 ∧ s.gn.refresh.isSome then { s with gn := { s.gn with refreshFix := true } } else s
  if soln = 0 ∨ s.gn.fixed1 = true then s
  else ({ s with gn := { s.gn with fixed1 := true } }).log 0x5009
    [s.rd R.GN_STAT_START, ((s.now - s.gn.t0) / 1000000 : Nat)] 3

/-- The channels that contributed (R259). -/
def State.markUsed (s : State) (used : List Nat) : State :=
  s.gn.ch.foldl (fun (s : State) (p : Nat × ChanS) =>
    s.wr (R.GN_CH_STAT_INSOL p.1) (bit01 (used.contains p.1 && s.chActive p.1))) s

/-- GN.PVT as an epoch leaves it (Table 7.9). -/
def State.pvtOf (s : State) (sol : SolIn) (soln headq nsv : Nat) (age : Option Int) : PvtS :=
  let act := s.rd R.GN_STAT_CORSRC
  let st : Nat := ((s.corS act).station.map (fun (x : Nat × (Int × Int × Int)) => x.1)).getD 0xFFFF
  let h := sol.head.getD { heading := 0, bpitch := 0, ratio := 0, len := 0 }
  { epoch := s.epochNow, at_ := s.harvest, lat := sol.lat, lon := sol.lon, hgt := sol.hgt, vel := sol.vel,
    heading := h.heading, bpitch := h.bpitch, soln, headq, nsv, corsrc := if act = 7 then 0xFF else act, sig := sol.sig,
    age := match age with
      | some x => min 0xFFFE (x / 100000000).toNat
      | none => 0xFFFF,
    station := if act = 7 then 0xFFFF else st }

/-- GN.PVT published (R251, R268): kept for reads, its status fields written, by a worker sent to its manager too. -/
def State.publishPvt (s : State) (p : PvtS) : State :=
  let s := ({ s with gn := { s.gn with pvt := some p, solAt := some (p.epoch, s.tb.steps) } }).wrs
    [(R.GN_STAT_HEADQ, p.headq), (R.GN_STAT_NSV_USED, p.nsv), (R.GN_STAT_AGE, p.age),
     (R.GN_STAT_STATION, if p.corsrc = 0xFF then 0 else p.station % 4096)]
  if s.isWorker then s.answer (.trunk 0) 0x46 (s.pvtFields.map Int.ofNat) else s

/-- GN_SOLUTION (R251, R255, R259, R265 to R268, R271, R273, R276): the epoch's solution, heading and time from the
channels that track, once per epoch; NONE while the island is out, whose channels then track nothing (R278). -/
def execGnSolution (t : Nat) (sol : SolIn) (s : State) : Host.Outcome State Fault Refusal :=
  let s := s.begin t
  .next (
    if !s.gn.on || s.gn.solAt = some (s.epochNow, s.tb.steps) then s
    else
      let s := (s.judgeCor s.epochNow).judgeConns
      let usable := if s.islandOut 3 then [] else s.tracking.filter (fun c => sol.used.contains c)
      let act := s.rd R.GN_STAT_CORSRC
      let age := if act = 7 then none else s.corAge act s.epochNow
      let (soln, used, s) := s.solve sol usable age
      let (headq, s) := s.solveHead sol soln
      let nsv := min 255 (s.satsOf used)
      let both := if headq = 0 then used else used ++ s.ofSignals rtkSignal usable
      let s := ((s.markUsed both).releaseIdle).solveTime sol soln usable
      ((s.publishPvt (s.pvtOf sol soln headq nsv age)).setSoln soln nsv).firstFix soln)

/-! ### Navigation words -/

/-- UTC parameters (R274): those of GPS, or of Galileo when GPS gave none within 12.5 min of the start. -/
def State.takeNavUtc (s : State) (sig : Nat) (utc : Option (Int × Nat)) : State :=
  match utc with
  | none => s
  | some (off, leap) =>
    let gps : Bool := sig = 0x01 || sig = 0x03 || sig = 0x04
    let gal : Bool := sysRank sig = 1 && !s.gn.utcGps && decide (s.gn.begun + 750000000000 ≤ s.now)
    if s.isWorker || !(gps || gal) then s
    else ({ s with gn := { s.gn with utcGps := s.gn.utcGps || gps } }).wrs
      [(R.TB_UTCOFF_OFFSET, ofSigned 16 off), (R.TB_UTCOFF_LEAP, leap % 4), (R.TB_UTCOFF_KNOWN, 1)]

/-- What a word completes, kept with the harvest time it came (R264, R275); SBAS messages serve the SBAS solution
alone (R255). -/
def State.takeWord (s : State) (sig sv : Nat) (word : WordIn) : State :=
  if sig = 0x15 || word.completes = 0 || 3 < word.completes then s
  else
    let g := s.gn
    let k := (word.completes, sysRank sig, sv)
    let g := { g with nav := g.nav.filter (fun e => e.1 ≠ k) ++ [(k, s.harvest, word.bits)] }
    { s with gn := if word.completes = 1 then { g with ephAt := some s.harvest }
                   else if word.completes = 2 then { g with almAt := some s.harvest } else g }

/-- NAV_WORD (R260, R264, R274): published whatever its check; used unless the check failed, and then a check passed
since lock resolves the half-cycle ambiguity. -/
def execNavWord (t : Nat) (word : WordIn) (s : State) : Host.Outcome State Fault Refusal :=
  let s := s.begin t
  let sig := s.rd (R.GN_CH_STAT_SIG word.ch)
  .next (
    if !s.gnssRuns then s
    else
      let s := s.publish 2 (16 + (word.nbits + 7) / 8)
        ([word.start, (word.ch : Int), sig, s.rd (R.GN_CH_STAT_SV word.ch), (word.check : Int),
          (word.nbits : Int)] ++ word.bits.map Int.ofNat)
      if 2 ≤ word.check then s
      else
        let s := if (s.chS word.ch).lockAt.isSome then s.wr (R.GN_CH_STAT_HALF word.ch) 1 else s
        (s.takeWord sig (s.rd (R.GN_CH_STAT_SV word.ch)) word).takeNavUtc sig word.utc)

/-! ### Antennas (R254) -/

/-- An antenna's supply selection and its status field. -/
def State.antBias (s : State) (a : Nat) : Nat := s.rd (if a = 1 then R.GN_CFG_ANT1_BIAS else R.GN_CFG_ANT2_BIAS)

/-- The status field of an antenna's supply. -/
def antKey (a : Nat) : Nat := if a = 1 then R.GN_STAT_ANT1 else R.GN_STAT_ANT2

/-- An antenna supply's own state. -/
def State.antS (s : State) (a : Nat) : AntS := (look s.gn.ant a).getD {}

/-- An antenna supply's own state written. -/
def State.setAnt (s : State) (a : Nat) (v : AntS) : State := { s with gn := { s.gn with ant := ins s.gn.ant a v } }

/-- GN_ANT_OPEN (R254): a current below 2 mA; the supply stays on. -/
def execGnAntOpen (t ant current : Nat) (s : State) : Host.Outcome State Fault Refusal :=
  let s := s.begin t
  .next (
    if s.gn.on && s.antBias ant ≠ 0 && s.rd (antKey ant) = 1 && current < 2 then
      (s.wr (antKey ant) 2).log 0x5001 [ant, current] 3
    else s)

/-- GN_ANT_SHORT (R254): the supply goes off; after a retry logged again only once the input has run normally
for 10 s. -/
def execGnAntShort (t ant : Nat) (s : State) : Host.Outcome State Fault Refusal :=
  let s := s.begin t
  let a := s.antS ant
  .next (
    if s.gn.on && s.antBias ant ≠ 0 && s.rd (antKey ant) ≠ 3 then
      let again : Bool := 0 < a.trips && decide (s.now < a.onAt + 10000000000)
      let s := (s.setAnt ant { a with trips := a.trips + 1, offAt := s.now }).wr (antKey ant) 3
      if again then s else s.log 0x5002 [ant, a.retries] 3
    else s)

/-- ANT_RETRY (R254): a shorted supply is switched on again every 1 s. -/
def execAntRetry (t ant : Nat) (s : State) : Host.Outcome State Fault Refusal :=
  let s := s.begin t
  let a := s.antS ant
  .next (
    if s.gn.on && s.rd (antKey ant) = 3 && a.offAt + 1000000000 ≤ s.now then
      (s.setAnt ant { a with retries := a.retries + 1, onAt := s.now }).wr (antKey ant) 1
    else s)

/-! ### Retention and refresh -/

/-- RETENTION_WRITE (R275): every 10 min while the solution is not NONE. -/
def execRetentionWrite (t : Nat) (s : State) : Host.Outcome State Fault Refusal :=
  let s := s.begin t
  .next (if s.rd R.GN_STAT_SOLN ≠ 0 && s.gn.retainAt + 600000000000 ≤ s.now then s.writeRetention else s)

/-- GNSS_REFRESH (R277): in SLEEP every 4 h with REFRESH set; harvest time runs from the real-time counter, FREE as
after every start of the timebase (03 R98, Table 3.3). -/
def execGnssRefresh (t : Nat) (s : State) : Host.Outcome State Fault Refusal :=
  let s := s.begin t
  .next (
    if s.mode = Mode.SLEEP && s.gn.sleepRefresh && s.gn.refresh.isNone &&
        decide (s.gn.refreshFrom + 14400000000000 ≤ s.now) then
      let g := s.gn
      let s := s.loadTime
      let s := if s.rst.qual = 0 then s else
        { s with rst := { s.rst with qual := 0 } }.log 0x2001 [s.rst.qual, 0, s.tbErr]
      let s := s.startGnss s.now none
      ({ s with gn := { s.gn with sleepRefresh := true, refreshFrom := g.refreshFrom + 14400000000000,
                                  refresh := some s.now } }).setDomains
    else s)

/-- GN_REFRESH (R277): the refresh ends 30 s after it began; a wake ends it in WAKE. -/
def execGnRefresh (t : Nat) (s : State) : Host.Outcome State Fault Refusal :=
  let s := s.begin t
  .next (match s.gn.refresh with
    | some b => if b + 30000000000 ≤ s.now then s.endRefresh (if s.gn.refreshFix then 0 else 1) else s
    | none => s)

end Sys2Proof.Machine
end

