-- ==== Sys2Proof/Machine/GuideMath.lean ====
section
/-! DEFINITION. Guidance's geometry (08 R289, R293, R295): angles, passes of a line and turn paths. Positions are
metres east and north in the line's plane, angles degrees clockwise from north; square roots and angles as Num.lean evaluates
them (log entry 6). -/

namespace Sys2Proof.Machine

/-- Degrees of an angle in radians. -/
def degOf (r : Rat) : Rat := r * 180 / piQ

/-- Radians of an angle in degrees. -/
def radOf (d : Rat) : Rat := d * piQ / 180

/-- An angle brought into -180 up to 180 degrees. -/
def wrapDeg (a : Rat) : Rat := a - 360 * ((a + 180) / 360).floor

/-- An angle brought into 0 up to 360 degrees. -/
def turnDeg (a : Rat) : Rat := a - 360 * (a / 360).floor

/-- The azimuth of a displacement. -/
def azimuth (de dn : Rat) : Rat := degOf (atan2Q de dn)

/-- A point moved along an azimuth. -/
def ahead (x : Rat × Rat) (hdg dist : Rat) : Rat × Rat :=
  (x.1 + dist * sinQ (radOf hdg), x.2 + dist * cosQ (radOf hdg))

/-- A point against a directed segment, whose ends may be extended: its squared distance, its distance to the
right, the segment's azimuth. -/
def segErr (p q x : Rat × Rat) (openBack openFwd : Bool) : Rat × Rat × Rat :=
  let de := q.1 - p.1
  let dn := q.2 - p.2
  let l2 := de * de + dn * dn
  let u := if l2 = 0 then 0 else ((x.1 - p.1) * de + (x.2 - p.2) * dn) / l2
  let u := if !openBack && u < 0 then 0 else if !openFwd && 1 < u then 1 else u
  let fe := x.1 - (p.1 + u * de)
  let fw := x.2 - (p.2 + u * dn)
  let d2 := fe * fe + fw * fw
  let cross := (x.1 - p.1) * dn - (x.2 - p.2) * de
  (d2, if cross < 0 then -(sqrtQ d2) else sqrtQ d2, azimuth de dn)

/-- A line's points, metres. -/
def linePts (l : LineIn) : List (Rat × Rat) := l.pts.map (fun p => (mkRat p.1 1000, mkRat p.2 1000))

/-- A point against the line itself, its ends extended straight (R293): distance to the right and azimuth of the
nearest segment. -/
def lineErr (l : LineIn) (x : Rat × Rat) : Option (Rat × Rat) :=
  let ps := linePts l
  let n := ps.length - 1
  let segs := (List.range n).zip (ps.zip (ps.drop 1))
  (segs.foldl (fun (m : Option (Rat × Rat × Rat)) (e : Nat × (Rat × Rat) × Rat × Rat) =>
    let r := segErr e.2.1 e.2.2 x (decide (e.1 = 0)) (decide (e.1 + 1 = n))
    match m with
    | none => some r
    | some b => if r.1 < b.1 then some r else some b) none).map (fun r => r.2)

/-- The pass nearest a point (R293). -/
def nearestPass (l : LineIn) (x : Rat × Rat) : Int :=
  match lineErr l x with
  | some r => roundInt (divQ r.1 (mkRat l.spacing 1000))
  | none => 0

/-- A point and a heading against a pass, in the direction of travel nearest `dir` (log entry 53): lateral error
to the right, heading error, and whether travel is against the points' order. -/
def passErr (l : LineIn) (pass : Int) (x : Rat × Rat) (hdg dir : Rat) : Option (Rat × Rat × Bool) :=
  (lineErr l x).map (fun (r : Rat × Rat) =>
    let off := r.1 - mkRat (pass * l.spacing) 1000
    if 90 < absQ (wrapDeg (dir - r.2)) then (-off, wrapDeg (hdg - r.2 - 180), true)
    else (off, wrapDeg (hdg - r.2), false))

/-! ### Turn paths (R295)

A path is laid out in a frame at the turn's start: `u` towards the turn's side, `w` forward. -/

/-- A piece of a turn path: an arc about (cu, cw) turning to the turn's side (sgn 1) or away from it (sgn -1), from
the azimuth b0 of its centre through an angle; a straight at forward distance w up to u = end. -/
inductive TurnLeg where
  | arc (cu cw sgn b0 sweep : Rat)
  | straight (w stop : Rat)
deriving DecidableEq, Repr

/-- Two quarter arcs and a straight when the passes lie 2 R apart or more, else a keyhole of three arcs whose
circles touch (log entry 53). -/
def turnLegs (r d : Rat) : List TurnLeg :=
  if 2 * r ≤ d then
    [.arc r 0 1 (-90) 90, .straight r (d - r), .arc (d - r) 0 1 0 90]
  else
    let a := d / 2 + r
    let h := sqrtQ (4 * r * r - a * a)
    let th := azimuth a h
    [.arc (-r) 0 (-1) 90 (90 - th), .arc (d / 2) h 1 (th + 180) (360 - 2 * th), .arc (d + r) 0 (-1) (-th) (90 - th)]

/-- Lateral error, heading error, curvature, and whether the piece has been driven to its end. -/
def TurnLeg.err (g : TurnLeg) (r u w phi : Rat) : Rat × Rat × Rat × Bool :=
  match g with
  | .arc cu cw sgn b0 sweep =>
    let rho := sqrtQ ((u - cu) * (u - cu) + (w - cw) * (w - cw))
    let b := azimuth (u - cu) (w - cw)
    let gone := sgn * (b - b0)
    let gone := gone - 360 * ((gone + 30) / 360).floor
    (sgn * (r - rho), wrapDeg (phi - (b + 90 * sgn)), divQ sgn r, sweep ≤ gone)
  | .straight w0 stop => (w0 - w, wrapDeg (phi - 90), 0, stop ≤ u)

/-- A position and a heading in a turn's frame. -/
def TurnS.frame (t : TurnS) (x : Rat × Rat) (hdg : Rat) : Rat × Rat × Rat :=
  let h := radOf t.hdg
  let de := x.1 - t.e
  let dn := x.2 - t.n
  let w := de * sinQ h + dn * cosQ h
  let u := de * cosQ h - dn * sinQ h
  let phi := wrapDeg (hdg - t.hdg)
  if t.right then (u, w, phi) else (-u, w, -phi)

/-- The errors and the curvature on a turn path, and the piece they belong to; none past its last piece. -/
def TurnS.err (t : TurnS) (r : Rat) (x : Rat × Rat) (hdg : Rat) : Option (Rat × Rat × Rat) × Nat :=
  let f := t.frame x hdg
  let legs := turnLegs r t.dist
  let at_ := fun (i : Nat) => legs[i]?.map (fun (g : TurnLeg) => g.err r f.1 f.2.1 f.2.2)
  let i := match at_ t.leg with
    | some e => if e.2.2.2 then t.leg + 1 else t.leg
    | none => t.leg
  let m : Rat := if t.right then 1 else -1
  ((at_ i).map (fun (e : Rat × Rat × Rat × Bool) => (m * e.1, m * e.2.1, m * e.2.2.1)), i)

end Sys2Proof.Machine
end

