-- ==== Sys2Proof/Machine/Guidance.lean ====
section
/-! DEFINITION. The commands of guidance (08 R281 to R309). -/

namespace Sys2Proof.Machine

/-! ### What a step takes (R283, R285, R300) -/

/-- The instant of the guidance step under way (R284). -/
def State.stepInstant (s : State) : Int :=
  s.harvest - (s.harvest - (s.rd R.GD_CFG_PHASE_MS * 1000000 : Nat)) % 10000000

/-- SPEED of an OBS.EGO record with SRC 0 that is no older than 10 ms (R301). -/
def State.egoGood (s : State) (t0 : Int) : Option Rat :=
  match s.ego with
  | some e => if e.src = 0 ∧ t0 - e.time ≤ 10000000 then some (f32 e.speed) else none
  | none => none

/-- Ground speed, m/s (R289). -/
def State.groundSpeed (s : State) : Rat :=
  match s.ego with
  | some e => if e.src = 0 then f32 e.speed else s.pvtSpeed
  | none => s.pvtSpeed

/-- The latest GN.PVT is of an epoch no step has taken yet. -/
def State.newEpoch (s : State) : Bool := s.gn.pvt.isSome && s.gn.pvt.map (fun (p : PvtS) => p.epoch) ≠ s.gd.pvtSeen

/-- True interval since the step before, s (R291). -/
def State.guideDt (s : State) (t0 : Int) : Rat :=
  match s.gd.nav with
  | some x => mkRat (t0 - x.t) 1000000000
  | none => 0

/-- GNSS velocity along a heading, m/s. -/
def State.velAlong (s : State) (hdg : Rat) : Rat :=
  match s.gn.pvt with
  | some p => f32 (p.vel.getD 0 0) * cosQ (radOf hdg) + f32 (p.vel.getD 1 0) * sinQ (radOf hdg)
  | none => 0

/-- The heading source and the heading at the step (R283): from the source at a new epoch, by the IMU yaw rate
between epochs. The machine moves forward while its velocity points along the heading before, where there is one (log entry
53). -/
def State.headingNow (s : State) (nav : NavIn) (t0 : Int) : Nat × Rat :=
  let old := (s.gd.nav.map (fun (x : NavS) => x.hdg)).getD 0
  let turned := turnDeg (old + mkRat nav.yaw 1000 * s.guideDt t0)
  let new := s.newEpoch || s.gd.nav.isNone
  let coast : Nat × Rat := match s.gd.srcAt with
    | some a => if t0 - a ≤ 60000000000 then (3, turned) else (0, turned)
    | none => (0, turned)
  match s.gn.pvt with
  | some p =>
    if p.headq = 2 then
      (1, if new then turnDeg (f32 p.heading - mkRat (toSigned 16 (s.rd R.GD_GEOM2_HDG_OFF)) 100) else turned)
    else if 1 ≤ p.soln ∧ 1 ≤ s.pvtSpeed ∧ (s.gd.nav.isNone ∨ 0 ≤ s.velAlong old) then
      (2, if new then turnDeg (azimuth (f32 (p.vel.getD 1 0)) (f32 (p.vel.getD 0 0))) else turned)
    else coast
  | none => coast

/-- GNSS is lost at the step (R300). -/
def State.gnssLost (s : State) (src : Nat) : Bool :=
  src = 0 || (match s.gn.pvt with
    | some p => p.soln < s.rd R.GD_CFG_MIN_SOLN || decide (200000000 ≤ s.harvest - p.at_)
    | none => true)

/-- Consecutive good epochs (R303). -/
def State.goodEpochs (s : State) (src : Nat) : Nat :=
  if s.newEpoch then
    (if s.rd R.GD_CFG_MIN_SOLN ≤ s.soln ∧ (src = 1 ∨ src = 2) then s.gd.good + 1 else 0)
  else if s.gnssLost src then 0 else s.gd.good

/-! ### The navigation state (R282, R285, R309) -/

/-- The last position propagated by EGO SPEED along the heading. -/
def State.reckoned (s : State) (hdg : Rat) (t0 : Int) : Rat × Rat :=
  match s.gd.nav, s.ego with
  | some x, some e => ahead (x.e, x.n) hdg (f32 e.speed * s.guideDt t0)
  | some x, none => (x.e, x.n)
  | none, _ => (0, 0)

/-- A position in nanodegrees moved by metres east and north. -/
def moveGeo (lat lon : Int) (de dn : Rat) : Int × Int :=
  let q := mkRat lat 1000000000
  (lat + roundInt (1000000000 * dn * Config.degNorth q), lon + roundInt (1000000000 * de * Config.degEast q))

/-- Metres east and north from one position to another, both in nanodegrees, in the first one's tangent plane. -/
def geoDiff (lat0 lon0 lat lon : Int) : Rat × Rat :=
  let q := mkRat lat0 1000000000
  (divQ (mkRat (lon - lon0) 1000000000) (Config.degEast q), divQ (mkRat (lat - lat0) 1000000000) (Config.degNorth q))

/-- The GNSS1 lever arm as metres east and north: ANT_X forward, ANT_Y to the right and ANT_Z up, rotated by heading,
roll and pitch (R281, R282). -/
def State.leverArm (s : State) (nav : NavIn) (hdg : Rat) : Rat × Rat :=
  let a := radOf hdg
  let r := radOf (mkRat nav.roll 1000)
  let p := radOf (mkRat nav.pitch 1000)
  let x : Rat := mkRat (toSigned 16 (s.rd R.GD_GEOM_ANT_X)) 1000
  let y : Rat := mkRat (toSigned 16 (s.rd R.GD_GEOM_ANT_Y)) 1000
  let z : Rat := -mkRat (s.rd R.GD_GEOM_ANT_Z) 1000
  let fwd := cosQ p * x + sinQ p * (sinQ r * y + cosQ r * z)
  let right := cosQ r * y - sinQ r * z
  (sinQ a * fwd + cosQ a * right, cosQ a * fwd - sinQ a * right)

/-- The reference point by GNSS at the step (R282, R285): the antenna's position of the latest epoch without the lever
arm, carried on to the step by the velocity of that epoch (log entry 53). -/
def State.gnssRef (s : State) (nav : NavIn) (hdg : Rat) (t0 : Int) : Int × Int :=
  match s.gn.pvt with
  | none => (0, 0)
  | some p =>
    let arm := s.leverArm nav hdg
    let dt : Rat := mkRat (t0 - p.epoch) 1000000000
    moveGeo p.lat p.lon (f32 (p.vel.getD 1 0) * dt - arm.1) (f32 (p.vel.getD 0 0) * dt - arm.2)

/-- A position in the plane of the active line. -/
def State.toPlane (s : State) (geo : Int × Int) : Rat × Rat :=
  match s.activeLine with
  | some l => geoDiff l.lat0 l.lon0 geo.1 geo.2
  | none => (0, 0)

/-- The cut line centre, CUT_X ahead of the reference point: its displacement east and north. -/
def State.cutOffset (s : State) (hdg : Rat) : Rat × Rat :=
  ahead (0, 0) hdg (mkRat (toSigned 16 (s.rd R.GD_GEOM2_CUT_X)) 1000)

/-- The navigation state of a step: by GNSS (NAVQ 1), propagated (2) or as it last stood (0). -/
def State.navAt (s : State) (nav : NavIn) (t0 : Int) (hdg : Rat) (navq : Nat) : NavS :=
  let old := s.gd.nav
  let gnss := s.gnssRef nav hdg t0
  let geo : Int × Int := match navq, old with
    | 1, _ => gnss
    | 2, some x =>
      let p := s.reckoned hdg t0
      moveGeo x.rlat x.rlon (p.1 - x.e) (p.2 - x.n)
    | _, some x => (x.rlat, x.rlon)
    | _, none => (0, 0)
  let pos := if navq = 1 || s.gd.newLine then s.toPlane geo else if navq = 2 then s.reckoned hdg t0
             else (old.map (fun (x : NavS) => (x.e, x.n))).getD (0, 0)
  let c := s.cutOffset hdg
  let cut := moveGeo geo.1 geo.2 c.1 c.2
  let moved : Rat := match old with
    | some x =>
      let d := geoDiff x.lat x.lon cut.1 cut.2
      sqrtQ (d.1 * d.1 + d.2 * d.2)
    | none => 0
  { t := t0, e := pos.1, n := pos.2, hdg, navq, soln := s.soln, rlat := geo.1, rlon := geo.2, lat := cut.1,
    lon := cut.2, moved }

/-- What a step finds: its instant, the heading source and heading, whether GNSS counts as lost and has just
returned, DR_TRAVEL, the ego-motion speed that serves dead reckoning, NAVQ. -/
structure GuideStep where
  t0 : Int
  src : Nat
  hdg : Rat
  good : Nat
  lost : Bool
  back : Bool
  travel : Rat
  ego : Option Rat
  navq : Nat
deriving DecidableEq, Repr

/-- The findings of a step (R283, R300 to R303, R309). -/
def State.findStep (s : State) (nav : NavIn) : GuideStep :=
  let t0 := s.stepInstant
  let (src, hdg) := s.headingNow nav t0
  let good := s.goodEpochs src
  let lost := s.gnssLost src || (s.gd.lost && good < 3)
  let was := (s.gd.nav.map (fun (x : NavS) => x.navq)).getD 0
  let speed : Rat := match s.ego with
    | some e => f32 e.speed
    | none => 0
  let travel := if !lost then 0 else if was = 0 then s.gd.travel else s.gd.travel + speed / 100
  let ego := s.egoGood t0
  let stop := decide ((s.rd R.GD_CFG_DR_DIST : Rat) < travel) || ego.isNone || src = 0
  { t0, src, hdg, good, lost, back := s.gd.lost && !lost, travel, ego,
    navq := if !lost then 1 else if was = 0 || stop then 0 else 2 }

/-! ### Errors (R289, R294, R295) -/

/-- The point the errors are taken at: LOOKAHEAD times ground speed ahead. -/
def State.lookPoint (s : State) (x : NavS) : Rat × Rat :=
  ahead (x.e, x.n) x.hdg (mkRat (s.rd R.GD_CFG_LOOKAHEAD) 100 * s.groundSpeed)

/-- The smallest turning radius, m. -/
def State.turnR (s : State) : Rat := mkRat (s.rd R.GD_GEOM2_TURN_R) 1000

/-- Errors on a type 3 line (R294): a width above SPACING steers towards the crop edge; the edge direction is taken
as positive to the right (log entry 53). -/
def edgeErr (l : LineIn) (v : VisRec) : Rat × Rat :=
  let d := f32 (v.values.getD 19 0) - mkRat l.spacing 1000
  (if bitOf l.flags 1 then -d else d, wrapDeg (-(f32 (v.values.getD 18 0))))

/-- The active pass, lateral and heading error and path curvature of a step. Before engagement and after a new
selection the active pass is the nearest one. With nothing to take them from, the errors stay. -/
def State.pathErr (s : State) (l : LineIn) (x : NavS) : State × Rat :=
  if l.typ = 3 then
    match s.edgeSeen with
    | some v =>
      let e := edgeErr l v
      ({ s with gd := { s.gd with xte := e.1, herr := e.2 } }, 0)
    | none => (s, 0)
  else if x.navq = 0 then (s, 0)
  else
    let p := s.lookPoint x
    let s := if s.gd.newLine || s.rd R.GD_STAT_STATE < 2 then s.wr R.GD_STAT_PASS (ofSigned 16 (nearestPass l (x.e, x.n)))
             else s
    let onPass := fun (s : State) (n : Int) (dir : Rat) => match passErr l n p x.hdg dir with
      | some e => ({ s with gd := { s.gd with xte := e.1, herr := e.2.1, back := e.2.2 } }, (0 : Rat))
      | none => (s, 0)
    match s.gd.turn with
    | some t =>
      match t.err s.turnR p x.hdg with
      | (some e, i) =>
        ({ s with gd := { s.gd with xte := e.1, herr := e.2.1, turn := some { t with leg := i } } }, e.2.2)
      | (none, i) => onPass { s with gd := { s.gd with turn := some { t with leg := i } } } t.target (t.hdg + 180)
    | none => onPass s (toSigned 16 (s.rd R.GD_STAT_PASS)) x.hdg

/-- An accepted turn starts at the step after it, from the reference point's place on the pass. -/
def State.beginTurn (s : State) (l : LineIn) (x : NavS) : State :=
  match s.gd.turnReq with
  | none => s
  | some (right, target) =>
    let pass := toSigned 16 (s.rd R.GD_STAT_PASS)
    match passErr l pass (x.e, x.n) x.hdg x.hdg with
    | none => s
    | some e =>
      let dir := turnDeg (x.hdg - e.2.1)
      let t : TurnS :=
        { e := x.e - e.1 * cosQ (radOf dir), n := x.n + e.1 * sinQ (radOf dir), hdg := dir, right,
          dist := mkRat ((target - pass).natAbs * l.spacing : Nat) 1000, target }
      { s with gd := { s.gd with turn := some t, turnReq := none } }

/-- A turn ends on the new pass: within 0.2 m and 5 degrees of it (R295). -/
def State.endTurn (s : State) (l : LineIn) (x : NavS) : State :=
  match s.gd.turn with
  | none => s
  | some t =>
    match passErr l t.target (s.lookPoint x) x.hdg (t.hdg + 180) with
    | some e =>
      if absQ e.1 ≤ 1 / 5 ∧ absQ e.2.1 ≤ 5 then
        let s := { s with gd := { s.gd with turn := none, xte := e.1, herr := e.2.1, back := e.2.2 } }
        let s := s.wr R.GD_STAT_PASS (ofSigned 16 t.target)
        if s.rd R.GD_STAT_STATE = Gd.TURN then s.wr R.GD_STAT_STATE Gd.ENGAGED else s
      else s
    | none => s

/-! ### Transitions (R296 to R305) -/

/-- GNSS returns in dead reckoning (R303): the position across the active pass against the dead-reckoned one. -/
def State.judgeJump (s : State) (l : LineIn) (x : NavS) (dr : Rat × Rat) : State :=
  let pass := toSigned 16 (s.rd R.GD_STAT_PASS)
  let off := fun (p : Rat × Rat) => ((passErr l pass p x.hdg x.hdg).map (fun e => e.1)).getD 0
  let d := absQ (off (x.e, x.n) - off dr)
  let ok := d ≤ mkRat (s.rd R.GD_CFG_JUMP_MAX) 100
  let s := s.log 0x5023 [roundInt (1000 * d), bit01 ok]
  if ok then s.wr R.GD_STAT_STATE Gd.ENGAGED else s.disengage 5

/-- Dead reckoning under way (R301, R302). -/
def State.judgeReckon (s : State) (g : GuideStep) : State :=
  if (s.rd R.GD_CFG_DR_DIST : Rat) < g.travel then s.disengage 3
  else if g.ego.isNone then s.disengage 4
  else if g.src = 0 then s.disengage 0x0B
  else s

/-- The first step with GNSS lost while steering (R301, R302). -/
def State.enterReckon (s : State) (g : GuideStep) : State :=
  if g.src = 0 then s.disengage 0x0B
  else if s.rd R.GD_CFG_DR_DIST = 0 then s.disengage 3
  else
    let s := (s.wr R.GD_STAT_STATE Gd.DR).log 0x5022 [s.soln, g.src]
    s.judgeReckon g

/-- The TAKEOVER input is active (R305). -/
def State.takenOver (s : State) : Bool :=
  let u := s.rd R.GD_CFG_TAKEOVER
  u ≠ 0 && s.flag (R.UI_STAT_ACTIVE u)

/-- Speed along the heading, m/s: of GNSS while it is not lost, else of ego-motion (R290). -/
def State.along (s : State) (g : GuideStep) : Rat := if g.lost then g.ego.getD 0 else s.velAlong g.hdg

/-- What makes guidance change its state at a step while it steers (R290, Table 8.5, Table 8.6). -/
def State.judgeSteering (s : State) (l : LineIn) (x : NavS) (g : GuideStep) (dr : Rat × Rat) : State :=
  let s := if s.takenOver then s.disengage 2 else s
  let s :=
    if s.rd R.GD_STAT_STATE < 2 then s
    else if l.typ = 3 then
      if (s.rd R.GD_CFG_EDGE_DIST : Rat) ≤ s.gd.noEdge then s.disengage 6
      else if g.src = 0 then s.disengage 0x0B
      else s
    else if s.rd R.GD_STAT_STATE = Gd.DR then
      if g.back then s.judgeJump l x dr else s.judgeReckon g
    else if s.gnssLost g.src then s.enterReckon g
    else s
  if s.along g ≤ -(3 / 10) then s.disengage 7 else s

/-- OFF and ARMED follow the conditions of Table 8.5. -/
def State.judgeArmed (s : State) : State :=
  if 2 ≤ s.rd R.GD_STAT_STATE then s
  else s.wr R.GD_STAT_STATE (if s.armedFail = 0 then Gd.ARMED else Gd.OFF)

/-! ### The command (R289, R290) -/

/-- The steered angle of a path curvature, degrees, and index 0. -/
def State.steer (s : State) (kappa : Rat) : Rat :=
  let wb := mkRat (s.rd R.GD_GEOM_WHEELBASE) 1000
  let rear := s.flag R.GD_CFG_REAR
  let a := degOf (atan2Q (wb * kappa) 1)
  let a := if rear then -a else a
  let m := mkRat (s.rd R.GD_CFG_MAX_ANGLE) 4
  let a := clampQ (-m) m a
  if s.rd R.GD_CFG_CMD = 0 then a
  else divQ (1000 * tanQ (radOf (if rear then -a else a))) wb

/-- Index 0 of the step: kept below 0.3 m/s. -/
def State.commandStep (s : State) (kpath : Rat) : State :=
  if s.groundSpeed < 3 / 10 then s
  else
    let k := kpath - s.rdF R.GD_GAIN_K_X * s.gd.xte - s.rdF R.GD_GAIN_K_H * radOf s.gd.herr
    { s with gd := { s.gd with cmd := toF32 (s.steer k) } }

/-! ### The step -/

/-- The navigation state stored and shown (R285 step 3, R308, R309). -/
def State.storeNav (s : State) (g : GuideStep) (x : NavS) : State :=
  let h := s.gd.hist ++ [x]
  let edge := match s.edgeSeen with
    | some _ => true
    | none => false
  let s := { s with gd := { s.gd with
    nav := some x, hist := h.drop (h.length - 6000), pvtSeen := s.gn.pvt.map (fun (p : PvtS) => p.epoch),
    srcAt := if g.src = 1 ∨ g.src = 2 then some g.t0 else s.gd.srcAt, good := g.good, lost := g.lost,
    travel := g.travel, noEdge := if edge then 0 else s.gd.noEdge + s.groundSpeed / 100 } }
  s.wrs [(R.GD_STAT_NAVQ, g.navq), (R.GD_STAT_HDGSRC, g.src),
    (R.GD_STAT_DR_TRAVEL, min 0xFFFF (g.travel * 10).floor.toNat)]

/-- Errors, state and command of a step on the active line. -/
def State.followLine (s : State) (l : LineIn) (x : NavS) (g : GuideStep) (dr : Rat × Rat) : State :=
  let (s, k) := (s.beginTurn l x).pathErr l x
  let s := { s with gd := { s.gd with newLine := false } }
  let s := (if l.typ = 3 then s else s.endTurn l x).wrs
    [(R.GD_ERR_XTE, toF32 s.gd.xte), (R.GD_ERR_HDG_ERR, toF32 s.gd.herr)]
  ((s.judgeSteering l x g dr).judgeArmed).commandStep k

/-- A step is due: its gather has closed, and it has not run (R284, R285). -/
def State.stepDue (s : State) : Bool :=
  decide (s.stepInstant + 100000 ≤ s.harvest) && !s.gd.nav.any (fun (x : NavS) => x.t = s.stepInstant)

/-- GUIDANCE_STEP (R283 to R305, R309): on a manager or standalone module, in FIELD_IDLE and HARVEST, once for each
instant of the grid. The command stands at the close of the gather: what it finds published is what the step takes (log
entry 53). -/
def execGuidanceStep (t : Nat) (nav : NavIn) (s : State) : Host.Outcome State Fault Refusal :=
  let s := s.begin t
  .next (
    if s.isWorker || !(s.mode = Mode.FIELD_IDLE || s.mode = Mode.HARVEST) || !s.stepDue then s
    else
      let g := s.findStep nav
      let dr := s.reckoned g.hdg g.t0
      let x := s.navAt nav g.t0 g.hdg g.navq
      let s := s.storeNav g x
      let s := match s.activeLine with
        | some l => s.followLine l x g dr
        | none => s.judgeArmed
      s.publishGuide)

/-! ### Requests -/

/-- GD_ENGAGE (R297): a restart request for F27 (02 R61). -/
def execGdEngage (t session : Nat) (tj : Int) (remote : Nat × List Int) (s : State) :
    Host.Outcome State Fault Refusal :=
  .next (s.gated t session .engage (fun (s : State) => s.requestRestart session 27 tj remote))

/-- TURN_REQUEST (R295): accepted while ENGAGED on a line of type 1 or 2. Directions: 1 right, 0 left. -/
def execTurnRequest (t session : Nat) (right : Bool) (s : State) : Host.Outcome State Fault Refusal :=
  .next (s.gated t session (.turn) (fun (s : State) =>
    if !s.classAtLeast session Cls.OPERATOR then s.reply session Res.CLASS
    else
      let l := s.activeLine
      let alt := (l.map (fun (x : LineIn) => bitOf x.flags 0)).getD false
      let right := match alt, s.gd.lastRight with
        | true, some r => !r
        | _, _ => right
      let skip : Int := ((l.map (fun (x : LineIn) => x.skip)).getD 0 : Nat)
      let pass := toSigned 16 (s.rd R.GD_STAT_PASS)
      let target := if right = s.gd.back then pass - skip else pass + skip
      let ok := s.rd R.GD_STAT_STATE = Gd.ENGAGED && s.gd.turn.isNone && (match l with
        | some x => x.typ ≠ 3
        | none => false)
      let s := s.log 0x5026 [bit01 right, target, bit01 ok]
      if ok then
        (({ s with gd := { s.gd with turnReq := some (right, target), lastRight := some right } }).wr
          R.GD_STAT_STATE Gd.TURN).reply session Res.OK
      else s.reply session 0x5026))

/-- The line a record spells (R292, Table 8.4): origin, spacing and points from its bytes. -/
def lineOf (b : List Nat) : LineIn :=
  let at_ := fun (o n : Nat) => leValue ((b.drop o).take n)
  let npts := at_ 28 2
  { id := at_ 4 2, typ := at_ 6 1, flags := at_ 7 1, lat0 := roundInt (1000000000 * f64 (at_ 8 8)),
    lon0 := roundInt (1000000000 * f64 (at_ 16 8)), spacing := at_ 24 4, npts, skip := at_ 30 1,
    pts := (List.range npts).map (fun k => (toSigned 32 (at_ (32 + 8 * k) 4), toSigned 32 (at_ (36 + 8 * k) 4))) }

/-- The check a line fails at loading (R292), 0 for none: 1 MAGIC, 2 CRC, 3 TYPE, 4 NPTS, 5 the store is full (log
entry 28). -/
def State.lineFault (s : State) (b : List Nat) : Nat :=
  let l := lineOf b
  let others := s.gd.lines.filter (fun (x : LineIn) => x.id ≠ l.id)
  let bytes := sumNat ((others ++ [l]).map (fun (x : LineIn) => 36 + 8 * x.npts))
  let npts : Bool := match l.typ with
    | 1 => l.npts = 2
    | 2 => 2 ≤ l.npts && l.npts ≤ 4096
    | _ => l.npts = 0
  if b.take 4 ≠ [0x47, 0x4C, 0x49, 0x4E] then 1
  else if b.length < 36 ∨ crc32c (b.take (b.length - 4)) ≠ leValue (b.drop (b.length - 4)) then 2
  else if l.typ < 1 ∨ 3 < l.typ then 3
  else if !npts || b.length ≠ 36 + 8 * l.npts then 4
  else if 64 ≤ others.length ∨ 4194304 < bytes then 5
  else 0

/-- LINE_LOAD (R292): a line replaces the one of equal LINE_ID; when that one is active guidance disengages. -/
def execLineLoad (t session : Nat) (bytes : List Nat) (s : State) : Host.Outcome State Fault Refusal :=
  let s := s.begin t
  let c := s.lineFault bytes
  let line := lineOf bytes
  .next (match s.svcRefusal session 0x0030 [Cls.SERVICE] with
  | some r => s.turnDown session r
  | none =>
    if c ≠ 0 then (s.log 0x5025 [line.id, c]).reply session 0x5025
    else
      let had := s.gd.lines.any (fun (x : LineIn) => x.id = line.id)
      let s := if had && s.rd R.GD_STAT_LINE_ID = line.id then s.disengage 9 else s
      let s := { s with gd := { s.gd with lines := s.gd.lines.filter (fun (x : LineIn) => x.id ≠ line.id) ++ [line] } }
      let s := if s.rd R.GD_STAT_LINE_ID = line.id then { s with gd := { s.gd with newLine := true } } else s
      s.reply session Res.OK)

/-- LINE_SELECT (R293; Table 8.7 EDGE_EN): a line the store does not hold, or a type 3 line that may not be
selected, is refused as check 6 or 7 (log entry 28). -/
def execLineSelect (t session id : Nat) (s : State) : Host.Outcome State Fault Refusal :=
  .next (s.gated t session (.line) (fun (s : State) =>
    if !s.classAtLeast session Cls.OPERATOR then s.reply session Res.CLASS
    else match s.gd.lines.find? (fun (l : LineIn) => l.id = id) with
      | none => (s.log 0x5025 [id, 6]).reply session 0x5025
      | some l =>
        if l.typ = 3 && !s.flag R.GD_CFG_EDGE_EN then (s.log 0x5025 [id, 7]).reply session 0x5025
        else
          let s := { s with gd := { s.gd with newLine := true, turn := none, turnReq := none } }
          let s := if s.rd R.GD_STAT_STATE = Gd.TURN then s.wr R.GD_STAT_STATE Gd.ENGAGED else s
          (s.wr R.GD_STAT_LINE_ID id).reply session Res.OK))

end Sys2Proof.Machine
end

