-- ==== Sys2Proof/Machine/Links.lean ====
section
/-! DEFINITION. The commands of 12: CAN, Ethernet, field nodes and the trunk. -/

namespace Sys2Proof.Machine

/-! ### CAN -/

/-- Harvest time at an instant `age` ns ago. -/
def State.harvestAgo (s : State) (age : Nat) : Int :=
  if s.tb.anchorEl + age ≤ s.now then s.tb.harvestAt (s.now - age) else s.harvest - age

/-- A received identifier matches a signal (R420, Table 12.5). -/
def State.sigMatches (s : State) (ch : Nat) (f : CanIn) (n : Nat) : Bool :=
  s.rd (R.CAN_SIG_CFG_CH n) = ch && s.flag (R.CAN_SIG_CFG_IDE n) = f.ide &&
    (let id := s.rd (R.CAN_SIG_CFG_ID n)
     if f.ide && s.flag (R.CAN_SIG_CFG_ANY_SA n) then id / 256 = f.id / 256 else id = f.id)

/-- A signal's raw value in a frame; a field that reaches beyond the frame's data has no stated value (log
entry 30). -/
def State.sigRaw (s : State) (n : Nat) (data : List Nat) : Int × State :=
  let len := s.rd (R.CAN_SIG_CFG_LEN n)
  let start := s.rd (R.CAN_SIG_CFG_START n)
  let order := s.rd (R.CAN_SIG_CFG_ORDER n)
  let inside := (fieldBits start len order).all (fun p => p < 8 * data.length)
  let (raw, s) := if inside then (getField data start len order, s) else s.fresh len
  (if s.flag (R.CAN_SIG_CFG_SIGNED n) then toSigned len raw else (raw : Int), s)

/-- A matching signal takes its value, raw × GAIN + OFFSET, with the frame's stamp (R420). -/
def State.takeSignal (s : State) (ch : Nat) (f : CanIn) (stamp : Int) (n : Nat) : State :=
  if !s.sigMatches ch f n then s
  else
    let (raw, s) := s.sigRaw n f.data
    let v := toF32 ((raw : Rat) * s.rdF (R.CAN_SIG_SCALE_GAIN n) + s.rdF (R.CAN_SIG_SCALE_OFFSET n))
    { s with lk := { s.lk with sig := ins s.lk.sig n (v, stamp) } }

/-- The bus of a channel reaches it: it is neither off, bus-off, recovering nor without its island. -/
def State.canOnBus (s : State) (ch : Nat) : Bool :=
  let st := s.rd (R.CAN_STAT_STATE ch)
  (st = 1 || st = 2 || st = 5) && !s.islandOut 6

/-- A receive error count after a good frame (ISO 11898-1, R415). -/
def recAfter (r : Nat) : Nat := if 127 < r then 127 else r - 1

/-- A frame with a PGN that ROLE 2 receives (R426): LFE1 (65266), the fuel rate that the optimiser reads (05 R197), and
EEC1 (61444). -/
def State.takePgn (s : State) (ch : Nat) (f : CanIn) (stamp : Int) : State :=
  let p := f.id / 256 % 65536
  if s.rd (R.CAN_CFG_ROLE ch) ≠ 2 || !f.ide || !(p = 65266 || p = 61444) then s
  else
    let s := s.setCan ch { s.can ch with pgn := ins (s.can ch).pgn p (f.data, stamp) }
    if p = 65266 then { s with opt := { s.opt with fuelAt := some s.now } } else s

/-- The active trouble codes, each once, as numbers of SAE J1939-73: SPN, FMI 31, occurrence count (16 R541). -/
def State.troubleCodes (s : State) : List (Nat × Nat × Nat) :=
  ((s.bb.dtc.map (fun (d : Nat × List Int) => d.1)).eraseDups).map (fun (c : Nat) =>
    (520192 + (c / 4096 - 1) * 256 + c % 256, 31, (look s.bb.faultCounts c).getD 0))

/-- A DM1 message: the amber lamp on while any code is active, then four bytes a code (16 R541; the layout is SAE
J1939-73's, log entry 134). -/
def State.dm1 (s : State) : List Nat :=
  let l := s.troubleCodes
  [if l.isEmpty then 0 else 4, 0xFF] ++
    (if l.isEmpty then [0, 0, 0, 0] else l.flatMap (fun (d : Nat × Nat × Nat) =>
      [d.1 % 256, d.1 / 256 % 256, d.1 / 65536 * 32 + d.2.1, d.2.2]))

/-- A broadcast of a parameter group: in one frame, or announced and sent in packets of seven bytes (SAE J1939-21, log
entry 134). -/
def State.sendGroup (s : State) (ch pgn : Nat) (data : List Nat) : State :=
  let a := s.rd (R.CAN_STAT_ADDR ch)
  let pad := fun (l : List Nat) (n : Nat) => l ++ List.replicate (n - l.length) 0xFF
  let n := (data.length + 6) / 7
  if data.length ≤ 8 then s.stackFrame ch (0x18000000 + pgn * 256 + a) (pad data 8)
  else
    let s := s.stackFrame ch (0x1CECFF00 + a) ([32] ++ leBytes 2 data.length ++ [n, 0xFF] ++ leBytes 3 pgn)
    (List.range n).foldl (fun (s : State) (i : Nat) =>
      s.stackFrame ch (0x1CEBFF00 + a) ((i + 1) :: pad ((data.drop (7 * i)).take 7) 7)) s

/-- A request for DM1 (PGN 0xFECA) on a channel of ROLE 1 or 2, to its address or to all, is answered (R426; 16 R541). -/
def State.answerDm1 (s : State) (ch : Nat) (f : CanIn) : State :=
  let r := s.rd (R.CAN_CFG_ROLE ch)
  let to_ := f.id / 256 % 256
  if (r = 1 || r = 2) && s.rd (R.CAN_STAT_ADDR ch) < 254 && f.ide && f.id / 65536 % 256 = 0xEA &&
      (to_ = 0xFF || to_ = s.rd (R.CAN_STAT_ADDR ch)) &&
      f.data.take 3 = [0xCA, 0xFE, 0] then s.sendGroup ch 0xFECA s.dm1
  else s

/-- CAN_FRAME_RX (R411, R418 to R420, R426): a remote frame is counted and ignored; another goes to
subscribers and to the signals it matches, a request for trouble codes is answered (16 R541). `age`: ns since its start of frame. -/
def execCanFrameRx (t ch age : Nat) (frame : CanIn) (s : State) : Host.Outcome State Fault Refusal :=
  let s := s.begin t
  .next (
    if !s.canOnBus ch then s
    else if frame.remote then s.setCan ch { s.can ch with remotes := (s.can ch).remotes + 1 }
    else
      let f : FrameS := { id := frame.id, ide := frame.ide, fdf := frame.fdf, brs := frame.brs,
                          dlc := frame.dlc, data := frame.data, buffer := 0xFFFF, since := s.now }
      let s := s.wr (R.CAN_STAT_REC ch) (recAfter (s.rd (R.CAN_STAT_REC ch)))
      let s := s.publish (rawStream ch) (12 + frame.data.length)
        (frameRecord (s.canCount (s.now - age)) ch (if frame.esi then 8 else 0) f)
      let stamp := s.harvestAgo age
      let s := s.answerDm1 ch frame
      let s := (s.takePgn ch frame stamp).takeTransport ch frame.id frame.ide frame.data
      (List.range 512).foldl (fun (s : State) (n : Nat) => s.takeSignal ch frame stamp n) s)

/-- CAN_FRAME_TX_DONE (R415, R419, R422 to R424): the head has completed, in no less than its bits without stuffing; aged
frames behind it are dropped, and the stack's next frames enter. -/
def execCanFrameTxDone (t ch age : Nat) (s : State) : Host.Outcome State Fault Refusal :=
  let s := s.begin t
  .next (match (s.can ch).fifo with
    | f :: rest =>
      if !s.canOnBus ch || (!f.fdf && age < frameBits f.ide f.data.length * s.canBit ch) then s
      else
        let s := s.setCan ch { s.can ch with fifo := rest }
        let s := s.wr (R.CAN_STAT_TEC ch) (s.rd (R.CAN_STAT_TEC ch) - 1)
        let s := s.answer (.canBus ch) 0 (frameRecord (s.canCount (s.now - age)) ch 16 f)
        let s := s.publish (rawStream ch) (12 + f.data.length)
          (frameRecord (s.canCount (s.now - age)) ch 16 f)
        (s.dropAged ch rest.length).feedStack ch 4
    | [] => s)

/-- CAN_BUSOFF (R415): counted and logged; BOFF_STOP of them within 10 s stop the channel's functions. -/
def execCanBusoff (t ch : Nat) (s : State) : Host.Outcome State Fault Refusal :=
  let s := s.begin t
  .next (
    if !s.canOnBus ch then s
    else
      let offs := ((s.can ch).offs.filter (fun o => s.now < o + 10000000000)) ++ [s.now]
      let stop := decide (s.rd (R.CAN_CFG_BOFF_STOP ch) ≤ offs.length)
      let s := (s.setCan ch { s.can ch with offs := offs }).bump (R.CAN_STAT_BUSOFF ch) 255
      let s := s.wrs [(R.CAN_STAT_STATE ch, 3), (R.CAN_STAT_TEC ch, 255)]
      let s := s.log 0x9001 [ch, offs.length, bit01 stop] 6 false (stop && !(s.canFns ch).isEmpty)
      if stop then (s.canFns ch).foldl (fun (s : State) (f : Nat) => s.stopFn f 4) s else s)

/-- CAN_BUSOFF_RECOVER (R415, R422): after 128 times 11 recessive bits error active again, or without an address as
before; the head is sent unless it has aged. -/
def execCanBusoffRecover (t ch : Nat) (s : State) : Host.Outcome State Fault Refusal :=
  let s := s.begin t
  let st := s.rd (R.CAN_STAT_STATE ch)
  let r := s.rd (R.CAN_CFG_ROLE ch)
  let back := if (r = 1 ∨ r = 2) ∧ s.rd (R.CAN_STAT_ADDR ch) = 0xFE ∧ 0 < (s.can ch).tried then 5 else 1
  .next (
    if (st = 3 ∨ st = 4) ∧ (s.can ch).offs.getLastD 0 + 1408 * s.canBit ch ≤ s.now then
      (s.wrs [(R.CAN_STAT_STATE ch, back), (R.CAN_STAT_TEC ch, 0), (R.CAN_STAT_REC ch, 0)]).dropAged ch
        (s.can ch).fifo.length
    else s)

/-- CAN_TSMAP (R417, R418): the counter latched at the whole second, once per second; RATE 0 after a step or a restart of
the island. -/
def execCanTsmap (t : Nat) (s : State) : Host.Outcome State Fault Refusal :=
  let s := s.begin t
  .next (
    if s.islandOut 6 then s
    else
      let second := s.harvest / 1000000000 * 1000000000
      let count := s.canCount (s.now - (s.harvest - second).toNat)
      let again : Bool := !s.lk.tsmapStep && s.lk.tsmapAt.map (fun x => x.1) = some second
      let rate := match s.lk.tsmapStep, s.lk.tsmapAt with
        | false, some (sec, c) => if sec + 1000000000 = second then (count + 2 ^ 32 - c) % 2 ^ 32 else 0
        | _, _ => 0
      if again then s
      else
      let s := { s with lk := { s.lk with tsmapStep := false, tsmapAt := some (second, count) } }
      s.wrs [(R.CAN_TSMAP_SECOND, ofSigned 64 second), (R.CAN_TSMAP_COUNT, count), (R.CAN_TSMAP_RATE, rate)])

/-- The address a claim tries: SA first, then 128 to 247 in ascending order (R425). -/
def State.claimAddr (s : State) (ch : Nat) : Nat :=
  let n := (s.can ch).tried
  if n = 0 then s.rd (R.CAN_CFG_SA ch) else 127 + n

/-- CAN_ADDRESS_CLAIM (R425): the claim of the present address is won or lost; with SELFCONF the next is
tried, and with none left the channel has no address and its functions stop. -/
def execCanAddressClaim (t ch : Nat) (won : Bool) (s : State) : Host.Outcome State Fault Refusal :=
  let s := s.begin t
  let r := s.rd (R.CAN_CFG_ROLE ch)
  .next (
    if !((r = 1 || r = 2) && s.canOnBus ch) then s
    else if won then
      let a := s.claimAddr ch
      (s.wrs [(R.CAN_STAT_ADDR ch, a), (R.CAN_STAT_STATE ch, 1)]).log 0x9004 [ch, a] 6
    else if s.flag (R.CAN_CFG_SELFCONF ch) && (s.can ch).tried < 120 then
      let s := s.setCan ch { s.can ch with tried := (s.can ch).tried + 1 }
      s.sendClaim ch (s.claimAddr ch)
    else
      let s := s.setCan ch { s.can ch with tried := max 1 (s.can ch).tried }
      let s := (s.wrs [(R.CAN_STAT_ADDR ch, 0xFE), (R.CAN_STAT_STATE ch, 5)]).sendClaim ch 254
      let s := s.log 0x9005 [ch, s.rd (R.CAN_CFG_SA ch)] 6 false (!(s.canFns ch).isEmpty)
      (s.canFns ch).foldl (fun (s : State) (f : Nat) => s.stopFn f 4) s)

/-! ### Ethernet -/

/-- ETH_LINK (R427, R430). -/
def execEthLink (t port : Nat) (up : Bool) (s : State) : Host.Outcome State Fault Refusal :=
  let s := s.begin t
  .next (
    if !s.flag (R.ETH_CFG_EN port) || s.islandOut 5 || s.flag (R.ETH_STAT_LINK port) = up then s
    else (s.wr (R.ETH_STAT_LINK port) (bit01 up)).log 0x9010 [port, bit01 up] 5)

/-- gPTP runs on a port whose link is up (R428). -/
def State.gptpOn (s : State) (port : Nat) : Bool :=
  s.flag (R.ETH_CFG_EN port) && s.flag (R.ETH_CFG_GPTP port) && s.flag (R.ETH_STAT_LINK port) && port ≤ 4 &&
    !s.islandOut 5

/-- PTP time: harvest time plus 315,964,819 s (R429). -/
def State.ptpTime (s : State) : Int := s.harvest + 315964819000000000

/-- Whether a message sent at intervals of `ns` is due on a port. -/
def State.intervalDue (s : State) (last : List (Nat × Nat)) (port ns : Nat) : Bool :=
  match look last port with
  | some x => x + ns ≤ s.now
  | none => true

/-- GPTP_SYNC (R428, R429): at 125 ms intervals a two-step Sync: the Sync and the Follow_Up with its time. -/
def execGptpSync (t port : Nat) (s : State) : Host.Outcome State Fault Refusal :=
  let s := s.begin t
  .next (
    if s.gptpOn port && s.intervalDue s.lk.syncAt port 125000000 then
      let s := { s with lk := { s.lk with syncAt := ins s.lk.syncAt port s.now } }
      (s.answer (.ethPort port) 0x00 [0]).answer (.ethPort port) 0x08 [0, s.ptpTime]
    else s)

/-- clockAccuracy of IEEE 1588 from 25 ns up: the least value that covers a bound in ns (R429; log
entry 40). -/
def clockAccuracy (err : Nat) : Nat :=
  if err = 0xFFFFFFFF then 0xFE
  else
    let l : List Nat := [25, 100, 250, 1000, 2500, 10000, 25000, 100000, 250000, 1000000, 2500000, 10000000,
              25000000, 100000000, 250000000, 1000000000, 10000000000]
    0x20 + (l.filter (fun b => b < err)).length

/-- The quality that time on this unit has at its source: QUAL, or SRCQ on a worker (R429). -/
def State.sourceQuality (s : State) : Nat :=
  if s.isWorker then s.rd R.TB_STAT_SRCQ else s.rd R.TB_STAT_QUAL

/-- clockClass and timeSource (Table 12.8). -/
def clockQuality (q : Nat) : Nat × Nat :=
  if q = 1 then (6, 0x20) else if q = 2 then (7, 0xA0) else (248, 0xA0)

/-- GPTP_ANNOUNCE (R428, R429): every 1 s, Announce with the clock quality and the UTC offset, and the peer delay
request. -/
def execGptpAnnounce (t port : Nat) (s : State) : Host.Outcome State Fault Refusal :=
  let s := s.begin t
  let (cls, src) := clockQuality s.sourceQuality
  .next (
    if s.gptpOn port && s.intervalDue s.lk.announceAt port 1000000000 then
      let s := { s with lk := { s.lk with announceAt := ins s.lk.announceAt port s.now } }
      (s.answer (.ethPort port) 0x0B [0, cls, clockAccuracy s.tbErr, src,
        toSigned 16 (s.rd R.TB_UTCOFF_OFFSET) + 19, s.rd R.TB_UTCOFF_KNOWN]).answer (.ethPort port) 0x02 [0]
    else s)

/-- ETH_GM_CONFLICT (R428): a foreign Announce or Sync is ignored, and logged at most once per port per
10 s. -/
def execEthGmConflict (t port ident : Nat) (s : State) : Host.Outcome State Fault Refusal :=
  let s := s.begin t
  .next (
    if !s.gptpOn port then s
    else
      let s := { s with lk := { s.lk with conflictAt := ins s.lk.conflictAt port s.now } }
      (s.wr (R.ETH_STAT_GM_CONFLICT port) 1).logOnce 0x9011 port 10000000000 [port, (ident % 2 ^ 32 : Nat)] 5)

/-! ### Field nodes -/

/-- A field-node port's own state. -/
def State.nodeS (s : State) (port : Nat) : NodeS := (look s.lk.node port).getD {}

/-- A field-node port's own state written. -/
def State.setNode (s : State) (port : Nat) (n : NodeS) : State :=
  { s with lk := { s.lk with node := ins s.lk.node port n } }

/-- FNP_DETECT (R431, R432): an invalid signature is retried 1 s later, a class other than PCLASS leaves the port
unpowered, else power is applied. -/
def execFnpDetect (t port : Nat) (valid : Bool) (cls : Nat) (s : State) :
    Host.Outcome State Fault Refusal :=
  let s := s.begin t
  let want := s.rd (R.FNP_CFG_PCLASS port)
  let early : Bool := match (s.nodeS port).tryAt with
    | some x => s.now < x + 1000000000
    | none => false
  .next (
    if !s.flag (R.FNP_CFG_EN port) || want = 0 || 2 ≤ s.rd (R.FNP_STAT_STATE port) || s.mode = Mode.SLEEP || early then s
    else
    let s := s.setNode port { s.nodeS port with tryAt := some s.now }
    if !valid then s.wr (R.FNP_STAT_STATE port) 1
    else if cls ≠ want then (s.wr (R.FNP_STAT_STATE port) 0).log 0x9020 [port, cls] 5
    else s.wr (R.FNP_STAT_STATE port) 2)

/-- FNP_PWR_FAULT (R432): a port above PLIM for 50 ms, or in its current limit for 5 ms, is off and retried, or latched at
the third fault within 60 s. `power` in 10 mW; `above` and `limited` are the ns for which each has held. -/
def execFnpPwrFault (t port power above limited : Nat) (s : State) : Host.Outcome State Fault Refusal :=
  let s := s.begin t
  let st := s.rd (R.FNP_STAT_STATE port)
  .next (
    if !((st = 2 || st = 3) && s.rd (R.FNP_CFG_PCLASS port) ≠ 0 &&
        ((s.rd (R.FNP_CFG_PLIM port) * 10 < power && 50000000 ≤ above) || 5000000 ≤ limited)) then s
    else
      let faults := ((s.nodeS port).faults.filter (fun f => s.now < f + 60000000000)) ++ [s.now]
      let latch := decide (3 ≤ faults.length)
      let s := s.setNode port { s.nodeS port with faults := faults, t1 := none,
                                                  offAt := if latch then none else some s.now }
      let s := (s.wrs [(R.FNP_STAT_STATE port, if latch then 5 else 4), (R.FNP_STAT_POWER port, 0)]).bump
        (R.FNP_STAT_PFAULTS port) 255
      let s := s.log 0x9021 [port, power] 5 false latch
      if latch then s.log 0x9022 [port] 5 false true else s)

/-- FNP_REPOWER (R432): 1 s after a power fault. -/
def execFnpRepower (t port : Nat) (s : State) : Host.Outcome State Fault Refusal :=
  let s := s.begin t
  .next (
    if s.rd (R.FNP_STAT_STATE port) = 4 && (match (s.nodeS port).offAt with
        | some o => o + 1000000000 ≤ s.now
        | none => true) then
      (s.setNode port { s.nodeS port with offAt := none }).wr (R.FNP_STAT_STATE port) 2
    else s)

/-- FNP_CLEAR (R432, 13 Table 13.16): a latched port is detected again. -/
def execFnpClear (t session port : Nat) (s : State) : Host.Outcome State Fault Refusal :=
  .next (s.gated t session (.clearPort) (fun (s : State) =>
    if !s.classAtLeast session Cls.MACHINE then s.reply session Res.CLASS
    else if s.rd (R.FNP_STAT_STATE port) = 5 then
      let s := s.dtcOff (fun c p => (c = 0x9021 || c = 0x9022) && p.headD 0 = port)
      ((s.setNode port { s.nodeS port with faults := [] }).wr (R.FNP_STAT_STATE port) 1).reply session Res.OK
    else s.reply session Res.OK))

/-- FNP_LINK (R430 to R434): STATE moves between 2 and 3; a port that powers no node is off without a
link. -/
def execFnpLink (t port : Nat) (up : Bool) (s : State) : Host.Outcome State Fault Refusal :=
  let s := s.begin t
  let st := s.rd (R.FNP_STAT_STATE port)
  let bare := s.rd (R.FNP_CFG_PCLASS port) = 0
  .next (
    if !s.flag (R.FNP_CFG_EN port) || s.islandOut 5 then s
    else if up then (if st = 2 ∨ (bare ∧ st = 0) then s.wr (R.FNP_STAT_STATE port) 3 else s)
    else if st = 3 then
      (s.setNode port { s.nodeS port with t1 := none }).wr (R.FNP_STAT_STATE port) (if bare then 0 else 2)
    else s)

/-- A field-node message of a TYPE (Table 12.10): one with a wrong MAGIC or another TYPE is discarded (R433). -/
def nodeMessage (bytes : List Nat) (typ : Nat) : Bool :=
  bytes.take 4 = [0x46, 0x4E, 0x50, 0x31] && bytes.getD 4 0 = typ

/-- A little-endian field of a message. -/
def msgField (bytes : List Nat) (at_ n : Nat) : Nat := leValue ((bytes.drop at_).take n)

/-- The entries of a SAMPLES message (Table 12.10). -/
def nodeEntries (bytes : List Nat) : List NodeIn :=
  (List.range (msgField bytes 16 1)).map (fun i =>
    { sig := msgField bytes (20 + 8 * i) 1, fault := msgField bytes (21 + 8 * i) 1 ≠ 0,
      raw := msgField bytes (24 + 8 * i) 4 })

/-- SAMPLES (R433, R434, Table 12.10): good entries carry NODE_TIME less the port's offset, faulty ones make the port
report a fault. -/
def execSamples (t port : Nat) (bytes : List Nat) (s : State) : Host.Outcome State Fault Refusal :=
  let s := s.begin t
  let entries := nodeEntries bytes
  let stamp := toSigned 64 (msgField bytes 8 8) - toSigned 64 (s.rd (R.FNP_OFF_OFFSET port))
  .next (
    if s.rd (R.FNP_STAT_STATE port) ≠ 3 || !nodeMessage bytes 1 || bytes.length ≠ 20 + 8 * entries.length then s
    else
      let n := entries.foldl (fun (n : NodeS) (e : NodeIn) =>
        if e.fault then { n with faulty := if n.faulty.contains e.sig then n.faulty else n.faulty ++ [e.sig] }
        else { n with faulty := n.faulty.filter (· ≠ e.sig), values := ins n.values e.sig (e.raw, stamp) })
        (s.nodeS port)
      s.setNode port n)

/-- TIME_REQ (R434, Table 12.10): sent once per second of harvest time, with its egress as T1. -/
def execTimeReq (t port : Nat) (s : State) : Host.Outcome State Fault Refusal :=
  let s := s.begin t
  .next (
    let due : Bool := match (s.nodeS port).reqAt with
      | some x => x / 1000000000 ≠ s.harvest / 1000000000
      | none => true
    if s.flag (R.FNP_CFG_TIMEX port) && s.rd (R.FNP_STAT_STATE port) = 3 && due then
      let seq := ((s.nodeS port).seq + 1) % 65536
      (s.setNode port { s.nodeS port with seq := seq, t1 := some s.harvest, reqAt := some s.harvest }).answer
        (.fieldNode port) 2 (([0x46, 0x4E, 0x50, 0x31, 2, 1] ++ leBytes 2 seq).map Int.ofNat)
    else s)

/-- Whether every free-running binding of a port takes an estimate of this uncertainty (04 R157); a worker, which holds no
pack, judges every binding of its own. -/
def State.portValid (s : State) (port unc : Nat) : Bool :=
  (List.range 32).all (fun n =>
    !((s.isWorker || (s.descOf n).isSome) && s.rd (R.OBS_IN_CFG_CLASS n) ≠ 0 && s.flag (R.OBS_IN_CFG_FREE n) &&
      s.rd (R.OBS_IN_CFG_SRC_TYPE n) = 2 &&
      s.rd (R.OBS_IN_CFG_SRC_INDEX n) = port && s.rd (R.OBS_IN_CFG_UNIT n) = s.role.unit) ||
    4 * unc ≤ s.samplePeriod n)

/-- TIME_REP (R434, Tables 12.9 and 12.10): an answer within 50 ms of T1 gives an offset and its uncertainty; OFFSET
keeps the last valid one. -/
def execTimeRep (t port : Nat) (bytes : List Nat) (s : State) : Host.Outcome State Fault Refusal :=
  let s := s.begin t
  let t2 := toSigned 64 (msgField bytes 8 8)
  let t3 := toSigned 64 (msgField bytes 16 8)
  let n := s.nodeS port
  .next (match n.t1 with
    | some t1 =>
      let t4 := s.harvest
      if !nodeMessage bytes 3 ∨ bytes.length ≠ 24 ∨ msgField bytes 6 2 ≠ n.seq ∨ t1 + 50000000 < t4 then s
      else
        let offset := ((t2 - t1) + (t3 - t4)) / 2
        let unc := (((t4 - t1) - (t3 - t2)) / 2).toNat
        let s := s.setNode port { n with t1 := none, est := some (offset, unc, s.now) }
        let s := s.wr (R.FNP_STAT_UNC port) (min 0xFFFE unc)
        if s.portValid port unc then s.wr (R.FNP_OFF_OFFSET port) (ofSigned 64 offset) else s
    | none => s)

/-- TIME_REP_TIMEOUT (R434): no estimate from this request. -/
def execTimeRepTimeout (t port : Nat) (s : State) : Host.Outcome State Fault Refusal :=
  let s := s.begin t
  .next (match (s.nodeS port).t1 with
    | some t1 =>
      if t1 + 50000000 ≤ s.harvest then s.setNode port { s.nodeS port with t1 := none, est := none } else s
    | none => s)

/-! ### The trunk -/

/-- A trunk port's own state. -/
def State.trunkS (s : State) (port : Nat) : TrunkS := (look s.lk.trunk port).getD {}

/-- A trunk port's own state written. -/
def State.setTrunk (s : State) (port : Nat) (v : TrunkS) : State :=
  { s with lk := { s.lk with trunk := ins s.lk.trunk port v } }

/-- A worker's upstream port, once it has one (R435). -/
def State.upstream (s : State) : Option Nat := [1, 2, 3, 4].find? (fun p => s.rd (R.TK_STAT_ROLE p) = 1)

/-- The Whistle's port is driven, or not (R435, 03 Table 3.9). -/
def State.driveWhistle (s : State) (port : Nat) (on : Bool) : State :=
  let w := (look s.whistle port).getD {}
  { s with whistle := ins s.whistle port { w with driving := on } }.wr (R.TB_WH_ROLE port) (if on then 2 else 0)

/-- TK_ANNOUNCE (R435, R438): a worker without an upstream port takes this one and announces itself; the
upstream unit compares the unit it finds with the one named for the port. -/
def execTkAnnounce (t port unit ident : Nat) (s : State) : Host.Outcome State Fault Refusal :=
  let s := s.begin t
  let v := s.trunkS port
  .next (
    if !s.flag (R.TK_STAT_LINK port) then s
    else match v.expected with
      | some u =>
        if u = unit && v.ident = ident then
          (s.wrs [(R.TK_STAT_ROLE port, 2), (R.TK_STAT_UNIT port, unit), (R.TK_STAT_PHYM port, 1)]).driveWhistle
            port true
        else
          ((s.wrs [(R.TK_STAT_ROLE port, 3), (R.TK_STAT_UNIT port, unit)]).driveWhistle port false).log
            0x9031 [port, u, unit] 5
      | none =>
        if s.isWorker && (s.upstream.isNone || s.upstream = some port) then
          let s := { s with lk := { s.lk with upstreamLost := false } }
          (s.wrs [(R.TK_STAT_ROLE port, 1), (R.TK_STAT_UNIT port, unit), (R.TB_WH_ROLE port, 1)]).answer
            (.trunk port) 0x50 [s.role.unit]
        else s)

/-- What a worker does when its upstream link counts as lost (R438). -/
def State.upstreamLost (s : State) (port : Nat) : State :=
  let s := { s with lk := { s.lk with upstreamLost := true } }
  let own := (List.range 48).filter s.fnMine
  let s := s.log 0x9030 [port, 0] 5 false (own.any (fun f => (s.fnS f).running))
  let s := own.foldl (fun (s : State) (f : Nat) => s.stopFn f 4) s
  [1, 2, 3, 4].foldl (fun (s : State) (p : Nat) =>
    if s.rd (R.TK_STAT_ROLE p) = 2 then s.answer (.trunk p) 0x51 else s) s

/-- TK_LINK (R438, R439): a data link comes up or is down. A loss is counted at once; a worker's upstream
link still down 100 ms later stops its functions. -/
def execTkLink (t port : Nat) (up : Bool) (s : State) : Host.Outcome State Fault Refusal :=
  let s := s.begin t
  let v := s.trunkS port
  .next (
    if up && s.islandOut 5 then s
    else if up then
      let back := s.isWorker && s.upstream = some port && s.lk.upstreamLost
      let s := (s.setTrunk port { v with downAt := none }).wr (R.TK_STAT_LINK port) 1
      if back then
        (({ s with lk := { s.lk with upstreamLost := false } }).log 0x9030 [port, 1] 5).answer
          (.trunk port) 0x50 [s.role.unit]
      else s
    else if s.flag (R.TK_STAT_LINK port) then
      ((s.setTrunk port { v with downAt := some s.now }).wr (R.TK_STAT_LINK port) 0).bump
        (R.TK_STAT_DOWNS port) 0xFFFF
    else match v.downAt with
      | some d =>
        if s.isWorker && s.upstream = some port && !s.lk.upstreamLost && d + 100000000 ≤ s.now then
          s.upstreamLost port
        else s
      | none => s)

/-- TK_LINK_NOTICE (R438): a worker below one that lost its upstream link acts as if its own had gone. -/
def execTkLinkNotice (t port : Nat) (s : State) : Host.Outcome State Fault Refusal :=
  let s := s.begin t
  .next (
    if s.isWorker && s.upstream = some port && !s.lk.upstreamLost then s.upstreamLost port else s)

/-- TK_SAT (R437, Table 12.12): the load of a 1 ms window; above 500 Mbit/s logged at most once per port per
10 s. -/
def execTkSat (t port mbit : Nat) (s : State) : Host.Outcome State Fault Refusal :=
  let s := s.begin t
  let v := s.trunkS port
  let loads := v.loads.filter (fun x => s.now < x.1 + 1000000000) ++ [(s.now, mbit)]
  let s := (s.setTrunk port { v with loads }).wr (R.TK_STAT_LOAD01 port)
    (min 0xFFFF (loads.foldl (fun m x => max m x.2) 0))
  .next (if 500 < mbit then s.logOnce 0x9032 port 10000000000 [port, mbit] 5 else s)

end Sys2Proof.Machine
end

