-- ==== Sys2Proof/Machine/HamperOps.lean ====
section
/-! DEFINITION. A Hamper image (14 R472 to R479): its records, what makes it invalid, and loading it. -/

namespace Sys2Proof.Machine

/-! ### Records -/

/-- The record of a type and instance that holds on a unit: its own before the one for every unit (R475). -/
def recFor (img : ImageIn) (unit typ inst : Nat) : Option RecIn :=
  match img.recs.find? (fun r => r.typ = typ && r.inst = inst && r.unit = unit) with
  | some r => some r
  | none => img.recs.find? (fun r => r.typ = typ && r.inst = inst && r.unit = 255)

/-- The records of a type that hold on a unit (R475). -/
def recsFor (img : ImageIn) (unit typ : Nat) : List RecIn :=
  img.recs.filter (fun r => r.typ = typ && (r.unit = unit || (r.unit = 255 &&
    !img.recs.any (fun x => x.typ = typ && x.inst = r.inst && x.unit = unit))))

/-- The value of the record of a type and instance that holds on a unit. -/
def recVal (img : ImageIn) (unit typ inst : Nat) : Option RecVal :=
  (recFor img unit typ inst).map (fun (r : RecIn) => r.val)

/-- What a ROLE record says. -/
def recRole (r : RecIn) : Option (Nat × Nat × Nat) :=
  match r.val with
  | .role a b c => some (a, b, c)
  | _ => none

/-- The role an image gives the module it is fitted to (00 R2, 14 R471): a manager's ROLE record names the
manager; a worker's key has its own ROLE record alone. -/
def imageRole (img : ImageIn) : Option RoleS :=
  match (recFor img 0 1 0).bind recRole with
  | some (0, size, workers) => some { role := 0, unit := 0, workers, size }
  | _ => (img.recs.find? (fun r => r.typ = 1)).bind (fun r => (recRole r).map (fun v =>
      { role := v.1, unit := r.unit, workers := v.2.2, size := v.2.1 }))

/-- The records with the offset each begins at (R472). -/
def placed (l : List RecIn) (from_ : Nat) : List (Nat × RecIn) :=
  match l with
  | [] => []
  | r :: t => (from_, r) :: placed t (from_ + framedBytes r.len)

/-! ### What makes an image invalid (R473 to R479) -/

/-- Causes of HMP_BAD (log entry 28). -/
abbrev Bad.header : Nat := 1
abbrev Bad.size : Nat := 2
abbrev Bad.firmware : Nat := 3
abbrev Bad.machine : Nat := 4
abbrev Bad.duplicate : Nat := 5
abbrev Bad.type_ : Nat := 6
abbrev Bad.value : Nat := 7
abbrev Bad.prot : Nat := 8
abbrev Bad.field : Nat := 9
abbrev Bad.role : Nat := 10
abbrev Bad.directory : Nat := 11
abbrev Bad.lengths : Nat := 12
abbrev Bad.signature : Nat := 13
abbrev Bad.framing : Nat := 14

/-- The types of Table 14.4 an image may hold among its configuration records. -/
def knownType (typ : Nat) : Bool :=
  [1, 2, 3, 4, 5, 6, 7, 8, 9, 10, 11, 0x10, 0x20, 0x21, 0x30, 0x31, 0x32, 0x40].contains typ

/-- A length that is a whole number of entries. -/
def entries (len size lo hi : Nat) : Bool := len % size = 0 && lo ≤ len / size && len / size ≤ hi

/-- LEN and INST lie within Table 14.4. -/
def recPlaceOk (r : RecIn) : Bool :=
  let l := r.len
  let i := r.inst
  match r.typ with
  | 1 => l = 4 && i = 0
  | 2 => l = 4 && 1 ≤ i && i ≤ 15
  | 3 => l = 8 && i ≤ 10
  | 4 => 1 ≤ l && l ≤ 1024 && i ≤ 255
  | 5 => 1 ≤ l && l ≤ 2048 && i ≤ 7
  | 6 => entries l 20 1 64 && i = 0
  | 7 => entries l 36 1 64 && i = 0
  | 8 => l = 20
  | 9 => l = 68 && i ≤ 15
  | 10 => l = 72 && i = 0
  | 11 => l = 256 && i ≤ 1
  | 0x20 => 2972 ≤ l && l ≤ 19356 && 1 ≤ i && i ≤ 16
  | 0x21 => entries l 8 1 1024 && 1 ≤ i && i ≤ 16
  | 0x30 => 1 ≤ l && l ≤ 524288 && i = 0
  | 0x31 => entries l 12 1 64 && 1 ≤ i && i ≤ 10
  | 0x32 => entries l 8 1 256 && 1 ≤ i && i ≤ 10
  | 0x40 => entries l 36 0 4 && i = 0
  | 0x10 => l = instBytes i && instBytes i ≠ 0
  | _ => true

/-- The value of a record is of its type and within Table 14.4. -/
def recValueOk (r : RecIn) : Bool :=
  match r.typ, r.val with
  | 1, .role a b _ => a ≤ 1 && b ≤ 2
  | 2, .tree _ p => 1 ≤ p && p ≤ 4
  | 3, .name _ => true
  | 6, .classMap l => l.all (fun e => 1 ≤ e.carrier && e.carrier ≤ 10 && e.prefixLen ≤ 128 && e.limit ≤ 4)
  | 7, .certPol l => l.all (fun e => e.2 ≤ 4)
  | 8, .dataId d => (d.crcsel = 2 || d.crcsel = 4) && 1 ≤ d.maxGap && d.maxGap ≤ 15 &&
      d.reaction ≤ 2 && 20 ≤ d.timeout && d.timeout ≤ 10000
  | 10, .prot b => b.length = 72
  | 11, .slots o => o.length = 256 && o.all (fun e => e = 0xFF || e < (if r.inst = 0 then 10 else 16))
  | 9, .bytes b => leValue (b.take 4) ≠ 1
  | 0x10, .obj _ => true
  | 0x20, .bytes b => ispParOk b
  | t, .bytes _ => !([1, 2, 3, 6, 7, 8, 10, 11, 0x10].contains t)
  | _, _ => false

/-- The granules of the eight regions in a PROT value (Table 14.6). -/
def protDram (bytes : List Nat) : List Nat :=
  (List.range 8).map (fun k => bytes.getD (2 * k) 0 + 256 * bytes.getD (2 * k + 1) 0)

/-- Every region has its minimum and the sum is at most 256 (R479, 02 Table 2.8). -/
def protOk (bytes : List Nat) : Bool :=
  let d := protDram bytes
  (d.zip [16, 8, 32, 4, 4, 2, 4, 16]).all (fun p => p.2 ≤ p.1) && sumNat d ≤ 256

/-- A record's UNIT names a unit of the installation, or every one: a record that does not is ignored (R475). -/
def recNames (img : ImageIn) (r : RecIn) : Bool :=
  r.unit = 255 || match imageRole img with
    | some v => r.unit ≤ max v.workers v.unit
    | none => true

/-- The types of a manager's records alone (Table 14.4). -/
def managerOnly (typ : Nat) : Bool := [2, 0x40].contains typ

/-- What is wrong with one record by itself, or beside the others (R474, R475, R477). -/
def recordFault (img : ImageIn) (r : RecIn) : Option Nat :=
  if !r.crcOk || (r.reserved && img.fmtMinor = 0) then some Bad.framing
  else if 1 < (img.recs.filter (fun x => x.typ = r.typ && x.unit = r.unit && x.inst = r.inst)).length then
    some Bad.duplicate
  else if !knownType r.typ then (if r.skippable then none else some Bad.type_)
  else if !recPlaceOk r then some Bad.value
  else if !recNames img r then none
  else if !recValueOk r || (managerOnly r.typ && 1 ≤ r.unit && r.unit ≤ 15) then some Bad.value
  else if r.typ = 8 && 512 < (recsFor img r.unit 8).length then some Bad.value
  else match r.val with
    | .prot b => if protOk b then none else some Bad.prot
    | _ => none

/-! ### Loading objects -/

/-- The fields of an instance that a record sets: all but the read-only ones (R476). -/
def setFields (index : Nat) : List (Nat × FieldDesc) :=
  match blocks.find? (fun b => b.first ≤ index && index ≤ b.last) with
  | none => []
  | some b => (((List.range b.fields.length).zip b.fields).filter (fun p =>
      p.2.acc ≠ .ro && p.2.acc ≠ .th)).map (fun p => (index * 256 + p.1 + 1, p.2))

/-- An OBJ record's fields written; a field the record does not name is 0. -/
def State.loadObj (s : State) (r : RecIn) : State :=
  match r.val with
  | .obj v => (setFields r.inst).foldl (fun (s : State) (p : Nat × FieldDesc) =>
      s.wr p.1 ((look v (p.1 % 256)).getD 0)) s
  | _ => s

/-- A key of a field the Hamper sets. -/
def configKey (key : Nat) : Bool :=
  match fieldOf key with
  | some d => d.acc ≠ .ro && d.acc ≠ .th
  | none => false

/-- The objects of an image on a unit: those of its OBJ records, every other field its default (R476). -/
def State.loadObjects (s : State) (img : ImageIn) (unit : Nat) : State :=
  (recsFor img unit 0x10).foldl State.loadObj (s.clearRegs configKey)

/-- A read-only field of a record that is not 0 (R476). -/
def roSet (r : RecIn) : Bool :=
  match r.val with
  | .obj v => v.any (fun e => e.2 ≠ 0 && match fieldOf (r.inst * 256 + e.1) with
      | some d => d.acc = .ro
      | none => true)
  | _ => false

/-- The instances whose fields are judged though no record may name them (R476). -/
def State.judged (z : State) : List Nat :=
  [0x3001, 0x5000, 0x5001, 0x5002, 0x5100, 0x5101, 0x5102, 0x5103, 0x5200, 0x5201] ++
  (List.range 16).map (fun n => 0x6101 + n) ++ (List.range 15).map (fun p => 0x7060 + p) ++
  ((List.range 48).filter (fun f => z.rd (R.FN_CFG_PATH f) ≠ 0)).flatMap (fun f =>
    (List.range (z.rd (R.FN_CFG_NSP f) + 1)).map (fun x => 0x3200 + 16 * f + x))

/-- A judged field of an instance is refused or out of range. -/
def State.instanceBad (z : State) (index : Nat) : Bool :=
  if z.inUse index then (setFields index).any (fun p => !z.fieldOk p.1 p.2)
  else match useKey index with
    | some k => (match fieldOf k with
      | some d => !d.admits (z.rd k)
      | none => false)
    | none => false

/-- The objects of an image judged on one unit: the offset of the record at fault, or of the records. -/
def objectFault (img : ImageIn) (unit : Nat) : Option (Nat × Nat) :=
  let z : State := { role := { role := if unit = 0 then 0 else 1, unit } }
  let z := z.loadObjects img unit
  let at_ := fun (i : Nat) =>
    (((placed img.recs 320).find? (fun p => p.2.typ = 0x10 && p.2.inst = i && (p.2.unit = unit || p.2.unit = 255))).map
      (fun p => p.1)).getD 320
  let l := (recsFor img unit 0x10).map (fun r => r.inst) ++ z.judged
  if (recsFor img unit 0x10).any roSet then
    (l.find? (fun i => (recsFor img unit 0x10).any (fun r => r.inst = i && roSet r))).map (fun i => (Bad.field, at_ i))
  else (l.find? z.instanceBad).map (fun i => (Bad.field, at_ i))

/-- A firmware version's order: major, minor, patch and build are its four bytes in turn (Table 14.1; log entry
48). -/
def versionOrder (v : Nat) : Nat := (leBytes 4 v).foldl (fun n b => n * 256 + b) 0

/-- Why an image's header and signature block fail and the failing offset (R472, R473); `whole` where its pack records
are there too. The configuration part alone, as a shadow copy or a Rucksack brings it, keeps the lengths and the count of
the image it was cut from. -/
def headFault (img : ImageIn) (fw : Nat) (whole : Bool) : Option (Nat × Nat) :=
  let cfg := recordsBytes (img.recs.map (fun r => r.len))
  let all_ := 320 + cfg + recordsBytes (img.packs.map (fun p => p.packLen))
  let n := img.recs.length + img.packs.length
  if img.magic ≠ 0x52504D48 then some (Bad.header, 0)
  else if img.fmtMajor ≠ 1 then some (Bad.header, 4)
  else if img.hdrLen ≠ 64 then some (Bad.header, 6)
  else if !img.hdrCrcOk then some (Bad.header, 60)
  else if img.reserved && img.fmtMinor = 0 then some (Bad.header, 48)
  else if (if whole then img.imageLen ≠ all_ else img.imageLen < all_) then some (Bad.lengths, 8)
  else if img.cfgLen ≠ cfg then some (Bad.lengths, 12)
  else if (if whole then img.nrec ≠ n else img.nrec < n) then some (Bad.lengths, 16)
  else if 2097152 < 320 + img.cfgLen then some (Bad.size, 12)
  else if 102760512 < img.imageLen ∨ 4 < img.packs.length ∨ img.packs.any (fun p => 25165824 < p.packLen) then
    some (Bad.size, 8)
  else if versionOrder fw < versionOrder img.minFw then some (Bad.firmware, 40)
  else if img.machineId = 0 then some (Bad.machine, 20)
  else if !img.blkCrcOk then some (Bad.signature, 316)
  else if img.keyId = 1 && !img.rootKey then some (Bad.signature, 72)
  else if img.keyId ≠ 1 && !img.certOk then some (Bad.signature, 136)
  else if !img.sigOk then some (Bad.signature, 200)
  else none

/-- Why an image is invalid and the failing offset (R473); `fw` is the firmware its MIN_FW is held against. -/
def imageFault (img : ImageIn) (fw : Nat) (whole : Bool := true) : Option (Nat × Nat) :=
  match headFault img fw whole with
  | some b => some b
  | none => match (placed img.recs 320).findSome? (fun p => (recordFault img p.2).map (fun c => (c, p.1))) with
      | some b => some b
      | none => match imageRole img with
        | none => some (Bad.role, 320)
        | some role =>
          if role.role = 1 then objectFault img role.unit
          else (List.range (role.workers + 1)).findSome? (objectFault img)

/-! ### Loading an image -/

/-- The rights a PROT value removes from a master group in a region row (Table 14.6). -/
def protRemoved (bytes : List Nat) : List (Nat × Nat) :=
  let n := leValue ((bytes.drop 16).take 16)
  ([0, 1, 2, 3].flatMap (fun g => (List.range 16).map (fun r => (g * 64 + r, bitField n (8 * r + 2 * g) 2)))).filter
    (fun e => e.2 ≠ 0)

/-- The rights a PROT value removes from a session class on an index block (Table 14.6). -/
def protClasses (bytes : List Nat) : List (Nat × Nat) :=
  ([0, 1, 2, 3, 4].flatMap (fun c =>
    let n := leValue ((bytes.drop (32 + 8 * c)).take 8)
    (List.range 32).map (fun b => (c * 256 + b, bitField n (2 * b) 2)))).filter (fun e => e.2 ≠ 0)

/-- The default PROT value (R479). -/
def defaultProt : List Nat :=
  [64, 0, 32, 0, 64, 0, 8, 0, 8, 0, 4, 0, 16, 0, 32, 0] ++ List.replicate 56 0

/-- The protection table written from the PROT record and locked (R479, 02 R74). -/
def State.loadProt (s : State) (img : ImageIn) (unit : Nat) : State :=
  let b := match recVal img unit 10 0 with
    | some (.prot b) => b
    | _ => defaultProt
  ({ s with prot := { dram := protDram b, removed := protRemoved b, classCut := protClasses b } }).wrs
    [(R.PROT_STAT_TABLE_CRC, crc32c b), (R.PROT_STAT_LOCK, 1)]

/-- The DRAM and ISP slot tables, with each requester's slots counted (Table 14.4). -/
def State.loadSlots (s : State) (img : ImageIn) (unit : Nat) : State :=
  let s := match recVal img unit 11 0 with
    | some (.slots o) =>
      (List.range 10).foldl (fun (s : State) (q : Nat) => s.wr (R.ARB_STAT_OWNED q) (o.count q))
        { s with arb := { table := o } }
    | _ => s
  match recVal img unit 11 1 with
  | some (.slots o) =>
    (List.range 16).foldl (fun (s : State) (c : Nat) => s.wr (R.ISP_ASTAT_OWNED (c + 1)) (o.count c))
      { s with cams := { s.cams with arb := { table := o } } }
  | _ => s

/-- The byte records of a type that hold on a unit, by instance. -/
def byteRecords (img : ImageIn) (unit typ : Nat) : List (Nat × List Nat) :=
  (recsFor img unit typ).filterMap (fun (r : RecIn) => match r.val with
    | .bytes b => some (r.inst, b)
    | _ => none)

/-- The cameras' stage parameters and start-up scripts (09 R324, R333; Tables 14.4 and 14.7). -/
def State.loadCameras (s : State) (img : ImageIn) (unit : Nat) : State :=
  { s with cams := { s.cams with par := (byteRecords img unit 0x20).map (fun p => (p.1, ispPar p.2)),
                                 script := byteRecords img unit 0x21 } }

/-- OWNER of every generator a function names (03 R130). -/
def State.loadOwners (s : State) : State :=
  (List.range 48).foldl (fun (s : State) (f : Nat) =>
    if !s.fnMine f then s
    else
      let s := s.wr (R.LN_PG_CFG_OWNER (s.rd (R.FN_CFG_LAUNCH_PG f))) f
      (s.loopsOf f).foldl (fun (s : State) (l : Nat) =>
        s.wr (R.LN_PG_CFG_OWNER (s.rd (R.CE_L_CFG_SAMPLE_PG l))) f) s) s

/-- The records sessions rest on (Table 14.4; 13 R442, R453, R464). -/
def sessionRecords (img : ImageIn) (unit : Nat) : SesCfgS :=
  { classMap := match recVal img unit 6 0 with
      | some (.classMap l) => l
      | _ => [],
    certPol := match recVal img unit 7 0 with
      | some (.certPol l) => l
      | _ => [],
    anchors := (recsFor img unit 5).map (fun (r : RecIn) => r.inst),
    dataIds := (recsFor img unit 8).filterMap (fun r => match r.val with
      | .dataId d => some d
      | _ => none) }

/-- The NAME of every channel with ROLE 1 or 2, its identity number from the serial number (12 R425). -/
def State.loadNames (s : State) (img : ImageIn) (unit : Nat) : State :=
  (List.range 10).foldl (fun (s : State) (i : Nat) =>
    let ch := i + 1
    match (recVal img unit 3 ch).or (recVal img unit 3 0) with
    | some (RecVal.name n) =>
      let id := n / 2 ^ 21 * 2 ^ 21 + s.hmp.serial % 2 ^ 21
      { s with lk := { s.lk with can := ins s.lk.can ch { s.can ch with name := id } } }
    | _ => s) s

/-- The unit named at each trunk port downstream of a unit (12 R435). -/
def State.loadTree (s : State) (img : ImageIn) (unit : Nat) : State :=
  (img.recs.filter (fun r => r.typ = 2)).foldl (fun (s : State) (r : RecIn) =>
    match r.val with
    | .tree up port =>
      if up = unit then
        let v : TrunkS := { expected := some r.inst, ident := img.machineId }
        { s with lk := { s.lk with trunk := ins s.lk.trunk port v } }
      else s
    | _ => s) s

/-- The yield calibration kept in NAND rests on these fields (08 R318). -/
def State.ymRecords (s : State) : List Nat :=
  [R.YM_CFG_STD_MOIST, R.YM_CFG_MOIST_DEF, R.YM_CFG_TRANSPORT_DEF, R.YM_CFG_MOIST_HOLD, R.YM_CFG_NTICK, R.YM_CFG_EN,
   R.YM_CALS_CAL0].map s.rd

/-- CAL at a start: the one in NAND while the Hamper's records are the same, else CAL0 (08 R318). -/
def State.loadCal (s : State) : State :=
  s.wr R.YM_CALS_CAL (match s.ym.calNand with
    | some (c, l) => if l = s.ymRecords then c else s.rd R.YM_CALS_CAL0
    | none => s.rd R.YM_CALS_CAL0)

/-- An image loaded on a unit (R475, R476, R479; Table 14.8 step 4): objects, protection, slot tables and the
records other chapters read. The wake enables are in force from here on (15 R511). -/
def State.loadImage (s : State) (img : ImageIn) (role : RoleS) : State :=
  let s := { s with role }.loadObjects img role.unit
  let s := s.wrs [(R.PWR_CFG_WAKE1_EN, s.rd R.PWR_CFG_WAKE1_EN), (R.PWR_CFG_WAKE2_EN, s.rd R.PWR_CFG_WAKE2_EN),
    (R.TB_STAT_PPS_ON, s.rd R.TB_EVT_CFG_PPS_EN)]
  let s := (((s.loadProt img role.unit).loadSlots img role.unit).loadNames img role.unit).loadTree img role.unit
  let s := s.loadCameras img role.unit
  let s := { s with ses := { s.ses with cfg := sessionRecords img role.unit } }
  s.loadOwners.loadCal

/-- The image in use, as HMP.STAT and HMP.ID show it (R494): source 1 key, 2 shadow. -/
def State.useImage (s : State) (img : ImageIn) (uid source : Nat) : State :=
  ({ s with hmp := { s.hmp with image := some img, uid } }).wrs
    [(R.HMP_STAT_SOURCE, source), (R.HMP_STAT_GENERATION, img.generation), (R.HMP_ID_MACHINE_ID, img.machineId)]

/-! ### Packs (R478; 04 R176, R177) -/

/-- The sections of the crop path in order, by cells (04 Table 4.2): header, feeder, rotor, separation grate, cleaning
shoe, tailings loop, elevator and tank. -/
def cropSections : List Nat := [512, 256, 1024, 512, 1024, 256, 512]

/-- The latent state's cells and the features of a cell (04 R147). -/
def latentCells : Nat := sumNat cropSections
def latentFeatures : Nat := 192

/-- The PACKDIR record's entries: position and digest (Table 14.4). -/
def packDir (img : ImageIn) : List (Nat × Nat) :=
  match recVal img 0 0x40 0 with
  | some (.bytes b) => (List.range (b.length / 36)).map (fun i =>
      (b.getD (36 * i) 0, ((b.drop (36 * i + 4)).take 32).foldl (fun n x => n * 256 + x) 0))
  | _ => []

/-- A pack record's position has a PACKDIR entry with the digest of its value (R478). -/
def inDirectory (img : ImageIn) (p : PackIn) : Bool := (packDir img).any (fun e => e.1 = p.pos && e.2 = p.digest)

/-- The check a pack record fails (04 R175, R176): 1 MAGIC or FMT_MAJOR, 2 a CRC, 3 the signature, 4 MIN_FW, 5 CELLS,
FEATURES or STEP_NS, 6 a REQUIRED input without a binding, 7 its digest in the Hamper's directory, 8 its lengths,
descriptors or directory; 0 none (log entry 28). -/
def State.packFault (s : State) (img : ImageIn) (p : PackIn) : Nat :=
  let bound := fun (d : DescS) => (List.range 32).any (fun n =>
    s.rd (R.OBS_IN_CFG_CLASS n) ≠ 0 && s.rd (R.OBS_IN_CFG_CLASS n) = d.cls && s.rd (R.OBS_IN_CFG_ORDINAL n) = d.ordinal)
  let end_ := p.packLen - 72
  if !inDirectory img p then 7
  else if p.magic ≠ 0x4B415043 ∨ p.fmtMajor ≠ 1 then 1
  else if !p.hdrCrcOk || !p.bodyCrcOk then 2
  else if !p.sigOk then 3
  else if versionOrder s.firmware < versionOrder p.minFw then 4
  else if p.cells ≠ latentCells ∨ p.features ≠ latentFeatures ∨ p.stepNs ≠ 2000000 then 5
  else if p.pack.inputs.any (fun d => d.required && !bound d) then 6
  else if 25165824 < p.packLen ∨ p.packLen < 200 ∨ p.hdrLen ≠ 128 ∨
      p.pack.inputs.isEmpty ∨ 32 < p.pack.inputs.length ∨ p.inputOff ≠ 128 ∨
      p.tensorOff ≠ 128 + 24 * p.pack.inputs.length ∨
      p.pack.tensors.any (fun x => !(x.dtype = 1 || x.dtype = 2) || end_ < x.offset + x.length ||
        x.offset < p.tensorOff + 16 * p.pack.tensors.length) then 8
  else 0

/-- The packs of an image checked (04 R176): the valid ones take slots 0 to 3 in order and are staged one after the other
in DRAM region TENSOR, the others are logged. -/
def State.loadPacks (s : State) (img : ImageIn) (l : List PackIn) : State :=
  let checked := l.map (fun p => (p.pos, s.packFault img p, p.pack))
  let ok := (checked.filter (fun p => p.2.1 = 0)).map (fun p => p.2.2)
  let lens := ((l.filter (fun p => s.packFault img p = 0)).take 4).map (fun p => p.packLen)
  let staged := (List.range lens.length).map (fun i => (i, sumNat (lens.take i), lens.getD i 0))
  let s := { s with obs := { s.obs with packs := ((List.range ok.length).zip ok).take 4, staged := staged } }
  (checked.filter (fun p => p.2.1 ≠ 0)).foldl (fun (s : State) (p : Nat × Nat × PackS) =>
    s.log 0x3010 [p.1, p.2.1]) s

/-- The pack the observer uses at a start (04 R177); 7: none. -/
def State.startPack (s : State) : State :=
  let same := match s.obs.saved with
    | some (slot, v, id, c) => (match look s.obs.packs slot with
      | some p => if p.vendor = v && p.packId = id && p.crop = c then some slot else none
      | none => none)
    | none => none
  let def_ := s.rd R.OBS_CFG_DEFPACK
  s.wr R.OBS_STAT_PACK (match same with
    | some n => n
    | none => if (look s.obs.packs def_).isSome then def_ else 7)

end Sys2Proof.Machine
end

