-- ==== Sys2Proof/Machine/LoopOps.lean ====
section
/-! DEFINITION. The control engines' laws and samples as shared operations (06 R218 to R241): measurements,
laws, bumpless closing, auto-tune. -/

namespace Sys2Proof.Machine

/-! ### Coefficients and measurements -/

/-- A loop's coefficient j. -/
def State.coef (s : State) (l j : Nat) : Rat := s.rdF (R.CE_L_COEF l j)

/-- The nominal sample interval of a loop, ns. -/
def State.loopPeriod (s : State) (l : Nat) : Nat := s.rd (R.LN_PG_PERIOD (s.rd (R.CE_L_CFG_SAMPLE_PG l)))

/-- A value no older than three sample periods of the loop. -/
def State.fresh3 (s : State) (l : Nat) (instant : Int) (v : Option (Nat × Int)) : Option Nat :=
  match v with
  | some (x, st) => if instant - st ≤ (3 * s.loopPeriod l : Nat) then some x else none
  | none => none

/-- A field node's signal: none while the port reports a fault (Table 6.3, 12 R434). -/
def State.nodeSignal (s : State) (port sig : Nat) : Option (Nat × Int) :=
  let n := (look s.lk.node port).getD {}
  if s.rd (R.FNP_STAT_STATE port) ≠ 3 || n.faulty.contains sig then none else look n.values sig

/-- What a loop's measurement reads at an instant: none when it is missing (Table 6.3). -/
def State.measure (s : State) (l : Nat) (instant : Int) : Option Nat :=
  let i := s.rd (R.CE_L_CFG_MEAS_INDEX l)
  match s.rd (R.CE_L_CFG_MEAS_TYPE l) with
  | 1 =>
    let u := (look s.ui i).getD {}
    if s.rd (R.UI_CFG_MODE i) = 0 || s.flag (R.UI_STAT_FAULT i) then none else u.value
  | 2 => s.fresh3 l instant (s.nodeSignal (i / 16) (i % 16))
  | 3 => s.fresh3 l instant (s.canSignal i)
  | 4 => if s.rd (R.VD_STAT_FAULT i) ≠ 0 then none else some (toF32 (s.rd (R.VD_NOW_I_MEAS i) : Rat))
  | 5 => match s.ego with
    | some e => if e.src = 2 || 10000000 < instant - e.time then none else some e.speed
    | none => none
  | 6 => if s.imu.fault then none else s.imu.axes[i]?
  | _ => none

/-! ### Outputs -/

/-- An output clamped to UMIN to UMAX, then limited by URATE (R225). -/
def State.limitOut (s : State) (l : Nat) (v uPrev h : Rat) : Rat :=
  let u := clampQ (s.rdF (R.CE_L_LIM_UMIN l)) (s.rdF (R.CE_L_LIM_UMAX l)) v
  let r := s.rdF (R.CE_L_SHAPE_URATE l)
  if 0 < r then clampQ (uPrev - r * h) (uPrev + r * h) u else u

/-- The sum of the feed-forward terms a loop uses (R225). -/
def State.ffOf (s : State) (f l : Nat) (instant : Int) : Rat :=
  (List.range 16).foldl (fun (q : Rat) (k : Nat) =>
    if bitOf (s.rd (R.CE_L_SHAPE_FF_MASK l)) k then q + s.rdF (R.CE_L_FFG_GAIN l k) * (s.fnS f).term k instant
    else q) 0

/-! ### The laws -/

/-- What an evaluation starts from: reference, measurement, feed-forward, interval, and the held command
when this sample closes the loop (R218). -/
structure EvalIn where
  r : Rat
  y : Rat
  ff : Rat
  h : Rat
  held : Option Rat
deriving DecidableEq, Repr

/-- The PIDF law of R225; at a closing the integrator makes the output before clamping the held command. -/
def State.pidf (s : State) (l : Nat) (a : LawS) (x : EvalIn) (kp ki kd tf b c kt : Rat) : Rat × LawS :=
  let e := x.r - x.y
  let p := kp * (b * x.r - x.y)
  let dn := c * x.r - x.y
  let d := if 0 < tf then (tf * a.dPrev + kd * (dn - a.dnPrev)) / (tf + x.h) else 0
  let i := match x.held with
    | some u => u - p - d - x.ff
    | none => a.i
  let v := p + i + d + x.ff
  let u := s.limitOut l v (x.held.getD a.uPrev) x.h
  (u, { a with i := i + ki * x.h * e + kt * x.h * (u - v), dPrev := d, dnPrev := dn, uPrev := u, v := v })

/-- The scheduling variable of a gain-scheduled loop, none while it is unavailable (R226, Table 6.6). -/
def State.schedVar (s : State) (l : Nat) (x : EvalIn) (instant : Int) : Option Rat :=
  let sv := (s.coef l 1).num.toNat
  if sv = 0 then some x.y
  else if sv = 1 then some x.r
  else if sv = 2 then
    match s.ego with
    | some e => if e.src = 2 || 10000000 < instant - e.time then none else some (f32 e.speed)
    | none => none
  else if sv = 3 then
    if s.flag R.OBS_STAT_WARMING || s.rd R.OBS_STAT_DSTEP = 4 then none else s.out.map (fun o => f32 (o.values.getD 0 0))
  else ((s.loopS (sv - 256)).lastEval.bind (fun (p : SampleS) => p.meas)).map f32

/-- Breakpoint i: X, KP, KI, KD. -/
def State.breakpoint (s : State) (l i : Nat) : Rat × Rat × Rat × Rat :=
  (s.coef l (8 + 4 * i), s.coef l (9 + 4 * i), s.coef l (10 + 4 * i), s.coef l (11 + 4 * i))

/-- The gains at a value of the scheduling variable, linear between neighbours, held at the ends (R226). -/
def State.gainsAt (s : State) (l : Nat) (x : Rat) : Rat × Rat × Rat :=
  let n := (s.coef l 0).num.toNat
  let first := s.breakpoint l 0
  let last := s.breakpoint l (n - 1)
  if x ≤ first.1 then first.2
  else if last.1 ≤ x then last.2
  else
    match (List.range (n - 1)).find? (fun i => x < (s.breakpoint l (i + 1)).1) with
    | none => last.2
    | some i =>
      let a := s.breakpoint l i
      let b := s.breakpoint l (i + 1)
      let w := (x - a.1) / (b.1 - a.1)
      (a.2.1 + (b.2.1 - a.2.1) * w, a.2.2.1 + (b.2.2.1 - a.2.2.1) * w, a.2.2.2 + (b.2.2.2 - a.2.2.2) * w)

/-- A biquad's coefficients: b0, b1, b2, a1, a2. -/
def State.biquad (s : State) (l q : Nat) : List Rat := (List.range 5).map (fun k => s.coef l (1 + 5 * q + k))

/-- One biquad in transposed direct form II: its output and its states. -/
def biquadStep (c : List Rat) (st : Rat × Rat) (x : Rat) : Rat × (Rat × Rat) :=
  let y := c.getD 0 0 * x + st.1
  (y, (c.getD 1 0 * x - c.getD 3 0 * y + st.2, c.getD 2 0 * x - c.getD 4 0 * y))

/-- The biquads in order; at a closing the last one's first state makes the output the held command (R218,
R227). -/
def State.biquads (s : State) (l : Nat) (a : LawS) (x : EvalIn) : Rat × List (Rat × Rat) :=
  let n := (s.coef l 0).num.toNat
  (List.range n).foldl (fun (acc : Rat × List (Rat × Rat)) (q : Nat) =>
    let c := s.biquad l q
    let st := a.biq.getD q (0, 0)
    let st := match x.held with
      | some u => if q + 1 = n then (u - x.ff - c.getD 0 0 * acc.1, st.2) else st
      | none => st
    let (y, st) := biquadStep c st acc.1
    (y, acc.2 ++ [st])) (x.r - x.y, [])

/-- The lead-lag law of R227. -/
def State.leadLag (s : State) (l : Nat) (a : LawS) (x : EvalIn) : Rat × LawS :=
  let (v, st) := s.biquads l a x
  let u := s.limitOut l (v + x.ff) (x.held.getD a.uPrev) x.h
  (u, { a with biq := st, uPrev := u, v := v + x.ff })

/-- A scalar product. -/
def dot (a b : List Rat) : Rat := (a.zip b).foldl (fun q p => q + p.1 * p.2) 0

/-- A vector of coefficients from sub-index `base` on. -/
def State.coefVec (s : State) (l base n : Nat) : List Rat := (List.range n).map (fun k => s.coef l (base + k))

/-- The state-feedback law of R228; at a closing the estimate moves by the smallest change along k that
gives the held command (R218). `sent` replaces the output while the loop is open. -/
def State.stateFeedback (s : State) (l : Nat) (a : LawS) (x : EvalIn) (sent : Option Rat) : Rat × LawS :=
  let n := (s.coef l 0).num.toNat
  let k := s.coefVec l 89 n
  let x0 := (List.range n).map (fun i => a.xhat.getD i 0)
  let err := x.y - dot (s.coefVec l 73 n) x0
  let x1 := (x0.zip (s.coefVec l 81 n)).map (fun p => p.1 + p.2 * err)
  let v := s.coef l 97 * x.r - dot k x1 + x.ff
  let kk := dot k k
  let x2 := match x.held with
    | some u => if kk = 0 then x1 else (x1.zip k).map (fun p => p.1 + p.2 * ((v - u) / kk))
    | none => x1
  let v := s.coef l 97 * x.r - dot k x2 + x.ff
  let u := match sent with
    | some u => u
    | none => s.limitOut l v (x.held.getD a.uPrev) x.h
  let nx := (List.range n).map (fun i => dot (s.coefVec l (1 + 8 * i) n) x2 + s.coef l (65 + i) * u)
  (u, { a with xhat := nx, uPrev := u, v := v })

/-- The relay law of R229. -/
def State.relay (s : State) (l : Nat) (a : LawS) (x : EvalIn) : Rat × LawS :=
  let e := x.r - x.y
  let hys := s.coef l 0
  let prev := x.held.getD a.uPrev
  let v := if hys < e then s.coef l 1 else if e < -hys then s.coef l 2 else prev
  let u := s.limitOut l v prev x.h
  (u, { a with uPrev := u, v := v })

/-- The gains of a gain-scheduled loop now, and the law's record of them (R226). -/
def State.scheduled (s : State) (l : Nat) (a : LawS) (x : EvalIn) (instant : Int) : Rat × Rat × Rat :=
  match s.schedVar l x instant with
  | some v => s.gainsAt l v
  | none => a.gains.getD ((s.breakpoint l 0).2)

/-- One evaluation of a closed loop by its law. -/
def State.evalLaw (s : State) (l : Nat) (a : LawS) (x : EvalIn) (instant : Int) : Rat × LawS :=
  match s.rd (R.CE_L_CFG_LAW l) with
  | 1 => s.pidf l a x (s.coef l 0) (s.coef l 1) (s.coef l 2) (s.coef l 3) (s.coef l 4) (s.coef l 5) (s.coef l 6)
  | 2 => s.leadLag l a x
  | 3 => s.stateFeedback l a x none
  | 4 =>
    let g := s.scheduled l a x instant
    let (u, b) := s.pidf l a x g.1 g.2.1 g.2.2 (s.coef l 2) (s.coef l 3) (s.coef l 4) (s.coef l 5)
    (u, { b with gains := some g })
  | _ => s.relay l a x

/-- One sample of an open loop: the states track the measurement with the held command as the output
(R218). -/
def State.trackLaw (s : State) (l : Nat) (a : LawS) (x : EvalIn) (held : Rat) (instant : Int) : LawS :=
  match s.rd (R.CE_L_CFG_LAW l) with
  | 1 => { (s.pidf l a x (s.coef l 0) 0 (s.coef l 2) (s.coef l 3) (s.coef l 4) (s.coef l 5) 0).2 with
             i := a.i, uPrev := held }
  | 2 => { a with biq := (s.biquads l a x).2, uPrev := held }
  | 3 => (s.stateFeedback l a x (some held)).2
  | 4 =>
    let g := s.scheduled l a x instant
    { (s.pidf l a x g.1 0 g.2.2 (s.coef l 2) (s.coef l 3) (s.coef l 4) 0).2 with
        i := a.i, uPrev := held, gains := some g }
  | _ => { a with uPrev := held }

/-! ### A sample in its place -/

/-- A loop's reference: the outer loop's last committed output, or the applied setpoint of its index
(R220, R235). -/
def State.reference (s : State) (f l : Nat) : Rat :=
  if s.flag (R.CE_L_CFG_CASCADE l) then (s.loopS (s.rd (R.CE_L_CFG_OUTER l))).law.uPrev
  else s.rdF (R.FN_SP_NOW_APPLIED f (s.rd (R.CE_L_CFG_SP_INDEX l)))

/-- The interval since the loop's previous sample, a discarded one not counted, s: by the instants, across a step of harvest time
by elapsed time (R225, R234, 03 R108); before any, and for the discrete laws across a step, the nominal
period (R230). -/
def State.sampleInterval (s : State) (l : Nat) (x : SampleS) : Rat :=
  let nominal : Rat := mkRat (s.loopPeriod l) 1000000000
  match (s.loopS l).lastEval with
  | none => nominal
  | some p =>
    if p.steps = x.steps then mkRat (x.instant - p.instant) 1000000000
    else if s.rd (R.CE_L_CFG_LAW l) = 1 ∨ s.rd (R.CE_L_CFG_LAW l) = 4 then mkRat ((x.el : Int) - p.el) 1000000000
    else nominal

/-- Loop m takes the output of loop l as its reference, directly or through others. -/
def State.outerOf (s : State) (l m : Nat) : Bool :=
  ((List.range 8).foldl (fun (p : Bool × Nat) _ =>
    if s.flag (R.CE_L_CFG_CASCADE p.2) then
      let o := s.rd (R.CE_L_CFG_OUTER p.2)
      (p.1 || o = l, o)
    else p) (false, m)).1

/-- An output is committed: to NOW.U, and for the final loop to the actuator (R219, R231). -/
def State.commitOut (s : State) (f l : Nat) (u : Rat) : State :=
  let s := s.wr (R.CE_L_NOW_U l) (toF32 u)
  if s.finalLoop f = some l then s.sendCmd f Src.loop u else s

/-- The held command an open loop tracks: for the final loop the command its actuator last had, from the loop, the relay
or the stopped state; its own last output for an outer one (R208, R218; log entry 32). -/
def State.heldOf (s : State) (f l : Nat) : Rat :=
  if s.finalLoop f = some l then (s.fnS f).cmd.getD (s.heldCmd f) else (s.loopS l).law.uPrev

/-- The crossing of a loop's output, ns (R231, 01 R37 and Table 1.6): the round trip to the power stage or the CAN
island, whose core part follows the pace; an outer loop's output crosses nowhere. -/
def State.outCrossing (s : State) (f l : Nat) : Nat :=
  if s.finalLoop f ≠ some l then 0
  else (if s.rd (R.FN_CFG_PATH f) = 3 then 50 else 20) + s.paced 6

/-- The Table 2.13 figure, ns, for a computed load (R233). -/
def loadFigure (load : Rat) : Nat :=
  if load ≤ 1 / 100 then 400 else if load ≤ 1 / 4 then 1600 else if load ≤ 1 / 2 then 3200
  else if load ≤ 3 / 4 then 6000 else if load ≤ 9 / 10 then 8800 else 12000

/-- A loop's delay budget, ns (R233). -/
def State.budget (s : State) (l : Nat) : Nat :=
  let b := s.rd (R.CE_L_CFG_BUDGET l)
  if b = 0 then loadFigure ((look s.eng.load (s.rd (R.CE_L_CFG_ENGINE l))).getD 0) else b * 100

/-- A delay measured from the sample's instant to the output's arrival at the executing island (R231, R233). -/
def State.noteDelay (s : State) (f l : Nat) (instant : Int) : State :=
  let d := (s.harvest - instant).toNat + s.outCrossing f l
  let limit := s.budget l
  let s := s.raise (R.CE_L_STAT_DELAY_MAX l) (min d 0xFFFF)
  if limit < d then (s.wr (R.CE_L_STAT_OVER_BUDGET l) 1).logOnce 0x4012 l 1000000000 [l, d, limit] else s

/-- A loop's evaluation at floor, ns: dispatch, law, feed-forward terms (R223, Table 6.4). -/
def State.evalCost (s : State) (l : Nat) : Nat :=
  let n := (s.coef l 0).num.toNat
  let law := match s.rd (R.CE_L_CFG_LAW l) with
    | 1 => 250
    | 2 => if n ≤ 1 then 150 else if n = 2 then 220 else 300
    | 3 => if n ≤ 2 then 200 else if n ≤ 4 then 320 else 600
    | 4 => 330
    | 5 => 80
    | _ => 0
  120 + law + 10 * ((List.range 16).filter (fun k => bitOf (s.rd (R.CE_L_SHAPE_FF_MASK l)) k)).length

/-- The loops placed on an engine. -/
def State.loopsOn (s : State) (e : Nat) : List Nat :=
  (List.range 256).filter (fun l => s.rd (R.CE_L_CFG_LAW l) ≠ 0 && s.rd (R.CE_L_CFG_ENGINE l) = e)

/-- The engines' computed loads and placed loops, at start (R233, Table 6.11). -/
def State.placeLoops (s : State) : State :=
  [0, 1, 2, 3].foldl (fun (s : State) (e : Nat) =>
    let ls := s.loopsOn e
    let load := ls.foldl (fun (q : Rat) (l : Nat) => q + mkRat (s.evalCost l) (s.loopPeriod l)) 0
    ({ s with eng := { s.eng with load := ins s.eng.load e load } }).wr (R.CE_E_STAT_LOOPS e) ls.length) s

/-! ### Auto-tune -/

/-- The coefficients a rule proposes: KP, KI, KD, TF, KT (R239, Table 6.8). -/
def proposals (rule : Nat) (reverse : Bool) (ku tu : Rat) : List Rat :=
  let (kp, ti, td) : Rat × Rat × Rat := match rule with
    | 0 => (ku * 45 / 100, tu * 10 / 12, 0)
    | 1 => (ku * 6 / 10, tu / 2, tu / 8)
    | 2 => (ku * 10 / 32, tu * 22 / 10, 0)
    | _ => (ku * 10 / 22, tu * 22 / 10, tu * 10 / 63)
  let sg : Rat := if reverse then -1 else 1
  [sg * kp, sg * (kp / ti), sg * (kp * td), td / 10, if td = 0 then 1 / ti else 1 / sqrtQ (ti * td)]

/-- The mean of a list. -/
def meanQ (l : List Rat) : Rat := l.foldl (· + ·) 0 / (l.length : Rat)

/-- Every element within 10 % of the mean (R241). -/
def regular (l : List Rat) : Bool := l.all (fun q => absQ (q - meanQ l) * 10 ≤ absQ (meanQ l))

/-- The figures of the measured cycles: Ku, Tu and the mean amplitude (R238). -/
def TuneS.figures (v : TuneS) : Rat × Rat × Rat :=
  let a := meanQ (v.amps.drop v.settle)
  (4 * v.amp / (piQ * sqrtQ (a * a - v.hys * v.hys)), meanQ (v.periods.drop v.settle), a)

/-- The cycles are complete: irregular ones, or none large enough, abort (R241); else the loop closes at the next sample
(R240). -/
def State.endTune (s : State) (l : Nat) (v : TuneS) : State :=
  if !(regular (v.periods.drop v.settle) && regular (v.amps.drop v.settle)) then s.abortTune l 7
  else if v.figures.2.2 ≤ v.hys then s.abortTune l 8
  else s.setLoop l { s.loopS l with tune := some { v with ended := true } }

/-- The sample after an auto-tune's last cycle: ATRES and CE_AT_DONE, and the loop of a running function closes (R240). -/
def State.finishTune (s : State) (f l : Nat) (v : TuneS) : State :=
  let (ku, tu, a) := v.figures
  let r := s.atRecord 0 v ku tu a (proposals v.rule v.reverse ku tu)
  (s.setLoop l { s.loopS l with tune := none, closing := (s.fnS f).running, atres := some r }).log 0x4021
    [(l : Int), (toF32 ku : Int), (toF32 tu : Int)]

/-- The relay at one sample (R238): a cycle ends when the output changes to bias + amp. -/
def TuneS.step (v : TuneS) (x : SampleS) (y : Rat) : TuneS :=
  let e := (v.r0 - y) * (if v.reverse then -1 else 1)
  let high := if v.hys < e then true else if e < -v.hys then false else v.high
  let v := { v with hi := maxQ v.hi y, lo := minQ v.lo y }
  if high && !v.high then
    let v := match v.cycleAt with
      | some c => { v with periods := v.periods ++ [mkRat (x.instant - c) 1000000000],
                           amps := v.amps ++ [(v.hi - v.lo) / 2] }
      | none => v
    { v with high := true, cycleAt := some x.instant, hi := y, lo := y }
  else { v with high := high }

/-- The relay's output (R238). -/
def TuneS.output (v : TuneS) : Rat := if v.high then v.bias + v.amp else v.bias - v.amp

/-- The first sample after acceptance: the loop opens onto the relay, about its output where BIAS asks for that (R238,
Table 6.7). -/
def State.beginTune (s : State) (l : Nat) (v : TuneS) (x : SampleS) (r0 y : Rat) : TuneS :=
  let e := (r0 - y) * (if v.reverse then -1 else 1)
  let high := !(e < -v.hys)
  { v with begun := some x.instant, r0, high, cycleAt := if high then some x.instant else none,
           bias := if v.atOutput then s.rdF (R.CE_L_NOW_U l) else v.bias, hi := y, lo := y }

/-- The states of a loop that is open follow the measurement, with the held command as the output (R218). -/
def State.trackSample (s : State) (l : Nat) (x : SampleS) (inp : EvalIn) (held : Rat) : State :=
  s.setLoop l { s.loopS l with law := s.trackLaw l (s.loopS l).law inp held x.instant, lastEval := some x }

/-- A sample of a loop under auto-tune (R238, R240, R241): one whose measurement is missing, out of BAND or at TIMEOUT
aborts, the output standing; at any other the relay acts and its output is sent. -/
def State.tuneSample (s : State) (f l : Nat) (v : TuneS) (x : SampleS) (inp : EvalIn) : State :=
  let started := v.begun.isSome
  let v := if started then v.step x inp.y else s.beginTune l v x inp.r inp.y
  let s := if started then s
           else ((s.wr (R.CE_L_STAT_STATE l) 3)).log 0x4020 [(l : Int), (v.rule : Int), (toF32 v.r0 : Int)]
  let late : Bool := match v.begun with
    | some b => b + (v.timeout * 1000000000 : Nat) ≤ x.instant
    | none => false
  let s := s.setLoop l { s.loopS l with tune := some v }
  let inp := { inp with r := v.r0 }
  if v.band < absQ (inp.y - v.r0) then (s.trackSample l x inp (s.heldOf f l)).abortTune l 3
  else if late then (s.trackSample l x inp (s.heldOf f l)).abortTune l 4
  else
    let s := s.trackSample l x inp v.output
    let s := ((s.wr (R.CE_L_STAT_SAT l) 0).commitOut f l v.output).noteDelay f l x.instant
    if v.settle + v.cycles ≤ v.periods.length then s.endTune l v else s

/-! ### Evaluating a sample -/

/-- A missing measurement at a closed loop (R222): the output is held, MISS_LIMIT consecutive ones stop
the function. -/
def State.missSample (s : State) (f l : Nat) (x : SampleS) : State :=
  let n := (s.loopS l).missed + 1
  let s := ((s.setLoop l { s.loopS l with missed := n, lastEval := some x }).bump (R.CE_L_STAT_MISSES l) 0xFFFF).wr
    (R.CE_L_STAT_STATE l) 4
  if n = s.rd (R.CE_L_CFG_MISS_LIMIT l) then
    (s.logOnce 0x4010 l 1000000000 [l, s.rd (R.CE_L_CFG_MEAS_TYPE l), s.rd (R.CE_L_CFG_MEAS_INDEX l)] 2
      true).stopFn f 4 (some x.instant)
  else s

/-- A closed loop's evaluation: law, output, delay (R218, R225 to R231). -/
def State.closedSample (s : State) (f l : Nat) (x : SampleS) (inp : EvalIn) : State :=
  let v := s.loopS l
  let inp := { inp with held := if v.closing then some (s.heldOf f l) else none }
  let (u, a) := s.evalLaw l v.law inp x.instant
  let s := s.setLoop l { v with law := a, closing := false, lastEval := some x }
  ((s.wrs [(R.CE_L_STAT_STATE l, 2), (R.CE_L_STAT_SAT l, bit01 (a.v ≠ u))]).commitOut f l u).noteDelay f l x.instant

/-- What an evaluation of a sample starts from: reference, measurement, feed-forward terms, interval. -/
def State.evalIn (s : State) (f l : Nat) (x : SampleS) (m : Nat) : EvalIn :=
  { r := s.reference f l, y := f32 m, ff := s.ffOf f l x.instant, h := s.sampleInterval l x, held := none }

/-- The checkpoint an evaluation starts with (R243). -/
def State.checkpoint (s : State) (l : Nat) (x : SampleS) (inp : EvalIn) : State :=
  let v := s.loopS l
  s.setLoop l { v with check := some { law := v.law, last := v.lastEval, closing := v.closing, x := x, r := inp.r,
                                       ff := inp.ff }, missed := 0 }

/-- The auto-tune that a sample belongs to: one launched after acceptance (R238). -/
def State.tuneOf (s : State) (x : SampleS) : Option TuneS :=
  (s.loopS x.loop).tune.filter (fun w => w.accepted < x.el)

/-- A loop is held as an outer loop of one under auto-tune (R238). -/
def State.frozenOuter (s : State) (f l : Nat) : Bool :=
  match s.tunedLoop f with
  | some m => ((s.loopS m).tune.any (fun w => w.begun.isSome && !w.ended)) && s.outerOf l m
  | none => false

/-- A sample evaluated (R231): after an auto-tune's last cycle its result first; under auto-tune by the relay; held
while it is an outer loop of a tuned one (R238); held when the measurement is missing; else by its law, or tracking while
the loop is open (R218). -/
def State.evalSample (s : State) (x : SampleS) : State :=
  let l := x.loop
  match s.fnOfLoop l with
  | none => s
  | some f =>
    let s := match s.tuneOf x with
      | some w => if w.ended then s.finishTune f l w else s
      | none => s
    match x.meas with
    | none =>
      if (s.tuneOf x).isSome then
        (s.setLoop l { s.loopS l with lastEval := some x }).abortTune l 5
      else if (s.fnS f).running && !s.frozenOuter f l then s.missSample f l x
      else s.setLoop l { s.loopS l with lastEval := some x }
    | some m =>
      let inp := s.evalIn f l x m
      let s := (s.wr (R.CE_L_NOW_Y l) m).checkpoint l x inp
      match s.tuneOf x with
      | some w => s.tuneSample f l w x inp
      | none =>
        if s.frozenOuter f l then s.setLoop l { s.loopS l with lastEval := some x }
        else if (s.fnS f).running then s.closedSample f l x inp
        else s.trackSample l x inp (s.heldOf f l)

/-- A loop reloaded from its checkpoint and the sample evaluated again from it (R243); under auto-tune, whose relay the
checkpoint does not hold, the relay stands as it is and the states follow its output. -/
def State.evalAgain (s : State) (l : Nat) (c : CheckS) : State :=
  let s := s.setLoop l { s.loopS l with law := c.law, lastEval := c.last, closing := c.closing }
  match s.fnOfLoop l, c.x.meas with
  | some f, some m =>
    let inp : EvalIn := { r := c.r, y := f32 m, ff := c.ff, h := s.sampleInterval l c.x, held := none }
    if (s.tuneOf c.x).isSome || !(s.fnS f).running then s.trackSample l c.x inp (s.heldOf f l)
    else if s.frozenOuter f l then s.setLoop l { s.loopS l with lastEval := some c.x }
    else s.closedSample f l c.x inp
  | _, _ => s

/-! ### The queue of an engine -/

/-- Samples waiting on an engine. -/
def State.waitingOn (s : State) (e : Nat) : List SampleS := (look s.eng.queue e).getD []

/-- Samples waiting on an engine written. -/
def State.setWaiting (s : State) (e : Nat) (q : List SampleS) : State :=
  { s with eng := { s.eng with queue := ins s.eng.queue e q } }

/-- The sample an engine evaluates next: by instant, then by slot (R231). -/
def State.nextSample (s : State) (e : Nat) : Option SampleS :=
  (s.waitingOn e).foldl (fun (m : Option SampleS) (x : SampleS) => match m with
    | none => some x
    | some y =>
      if x.instant < y.instant ∨ (x.instant = y.instant ∧
          s.rd (R.CE_L_CFG_SLOT x.loop) < s.rd (R.CE_L_CFG_SLOT y.loop)) then some x else some y) none

/-- The time a sample keeps its engine busy, ns: a missing measurement costs the dispatch alone (R222, R223). -/
def State.busyTime (s : State) (x : SampleS) : Nat :=
  s.paced (if x.meas.isNone then 120 else s.evalCost x.loop)

/-- The busy time of an evaluation, kept for 1 s, for the logical engine and the spare that serves it (Table 6.11). -/
def State.noteBusy (s : State) (e : Nat) (x : SampleS) : State :=
  let b := s.busyTime x
  let es := if s.rd (R.CE_E_STAT_STATE e) = 1 then [(e, s.now, b), (4, s.now, b)] else [(e, s.now, b)]
  { s with eng := { s.eng with busy := s.eng.busy.filter (fun q => s.now < q.2.1 + 1000000000) ++ es } }

/-- The next sample of an engine evaluated and taken from its queue. -/
def State.runNext (s : State) (e : Nat) : State :=
  match s.nextSample e with
  | none => s
  | some x => ((s.setWaiting e ((s.waitingOn e).filter (fun y => y.loop ≠ x.loop))).noteBusy e x).evalSample x

/-- Every waiting sample of an engine evaluated (Table 6.10 step 4). -/
def State.runAll (s : State) (e : Nat) : Nat → State
  | 0 => s
  | n + 1 => State.runAll (s.runNext e) e n

end Sys2Proof.Machine
end

