-- ==== Sys2Proof/Machine/Loops.lean ====
section
/-! DEFINITION. The commands of 06: samples, evaluations, auto-tune, lockstep and the spare. -/

namespace Sys2Proof.Machine

/-- LOOP_SAMPLE (R217, R221, R231, R234; 03 R137): at an instant of generator SAMPLE_PG the measurement is taken and the
sample queued on its engine; an older sample not yet started is discarded. -/
def execLoopSample (t loop : Nat) (instant : Int) (s : State) : Host.Outcome State Fault Refusal :=
  let s := s.begin t
  let e := s.rd (R.CE_L_CFG_ENGINE loop)
  .next (match s.fnOfLoop loop with
    | none => s
    | some _ =>
      if !s.launches (s.rd (R.CE_L_CFG_SAMPLE_PG loop)) instant (s.loopS loop).sampled then s
      else if s.rd (R.CE_E_STAT_STATE e) = 2 then s
      else
        let s := s.setLoop loop { s.loopS loop with sampled := some (instant, s.tb.steps) }
        let x : SampleS := { loop, instant, el := s.now, steps := s.tb.steps, meas := s.measure loop instant }
        let q := s.waitingOn e
        let s := match q.find? (fun y => y.loop = loop) with
          | some y => (s.bump (R.CE_L_STAT_SKIPS loop) 0xFFFF).logOnce 0x4011 loop 1000000000
              [(loop : Int), y.instant]
          | none => s
        s.setWaiting e (q.filter (fun y => y.loop ≠ loop) ++ [x]))

/-- LOOP_EVALUATE (R222 to R233, R238 to R241): an engine evaluates its next sample; during a takeover its
samples wait (R244). -/
def execLoopEvaluate (t engine : Nat) (s : State) : Host.Outcome State Fault Refusal :=
  let s := s.begin t
  let busy : Bool := match s.eng.takeover with
    | some (e, _) => e = engine
    | none => false
  .next (if busy || s.rd (R.CE_E_STAT_STATE engine) = 2 then s else s.runNext engine)

/-- The offset of the first failing field of an auto-tune request (R237, Table 6.7). -/
def State.tuneField (s : State) (q : TuneIn) (bias : Rat) : Option Nat :=
  let finite := fun (w : Nat) => w / 2 ^ 23 % 256 ≠ 255
  if 3 < q.rule then some 2
  else if 1 < q.flags then some 3
  else if q.settle < 1 ∨ 10 < q.settle then some 4
  else if q.cycles < 2 ∨ 20 < q.cycles then some 5
  else if q.timeout < 10 ∨ 600 < q.timeout then some 6
  else if !finite q.amp || !(0 < f32 q.amp) then some 8
  else if !finite q.hys || f32 q.hys < 0 then some 12
  else if !finite q.band || !(f32 q.hys < f32 q.band) then some 16
  else if (!finite q.bias && q.bias ≠ 0x7FC00000) || bias + f32 q.amp > s.rdF (R.CE_L_LIM_UMAX q.loop) ||
      bias - f32 q.amp < s.rdF (R.CE_L_LIM_UMIN q.loop) then some 20
  else none

/-- What makes a loop ineligible for auto-tune (R237): a blocking loop, 0x100 its law, 0x101 its function's
state (log entry 28). -/
def State.tuneBusy (s : State) (l : Nat) : Option Nat :=
  if s.rd (R.CE_L_CFG_LAW l) ≠ 1 then some 0x100
  else match s.fnOfLoop l with
    | none => some 0x101
    | some f =>
      if !(s.fnS f).running then some 0x101
      else
        (s.loopsOn (s.rd (R.CE_L_CFG_ENGINE l)) ++ s.loopsOf f).find? (fun m => (s.loopS m).tune.isSome)

/-- AUTOTUNE_REQUEST (R237): tested in order, then the loop opens onto a relay from its next sample on. -/
def execAutotuneRequest (t session : Nat) (req : TuneIn) (s : State) :
    Host.Outcome State Fault Refusal :=
  .next (s.gated t session (.autotune) (fun (s : State) =>
      let l := req.loop
      let atOutput := decide (req.bias = 0x7FC00000)
      let bias := if atOutput then s.rdF (R.CE_L_NOW_U l) else f32 req.bias
    if !s.classAtLeast session Cls.SERVICE then s.reply session Res.CLASS
    else if 255 < l ∨ s.rd (R.CE_L_CFG_LAW l) = 0 then (s.log 0x4025 [l, 0]).reply session 0x4025
    else if s.mode ≠ Mode.FIELD_IDLE ∧ s.mode ≠ Mode.TEST then
      (s.log 0x4023 [l, s.mode]).reply session 0x4023
    else match s.tuneBusy l, s.tuneField req bias with
      | some b, _ => (s.log 0x4024 [l, b]).reply session 0x4024
      | none, some o => (s.log 0x4025 [l, o]).reply session 0x4025
      | none, none =>
        let v : TuneS := { rule := req.rule, reverse := bitOf req.flags 0, settle := req.settle,
                           cycles := req.cycles, timeout := req.timeout, amp := f32 req.amp,
                           hys := f32 req.hys, band := f32 req.band, bias := bias, session := session,
                           accepted := s.now, atOutput := atOutput }
        (s.setLoop l { s.loopS l with tune := some v }).reply session Res.OK))

/-- Every function with a loop on an engine stops with cause FAULT (R246). -/
def State.stopEngine (s : State) (e : Nat) : State × Nat :=
  let fns := ((s.loopsOn e).filterMap s.fnOfLoop).eraseDups
  (fns.foldl (fun (s : State) (f : Nat) => s.stopFn f 4) s, fns.foldl (fun m f => m + 2 ^ f) 0)

/-- CE_MISMATCH (R242, R244, R246): the engine is fenced; an idle spare begins the takeover, else its
functions stop. -/
def execCeMismatch (t engine slot : Nat) (s : State) : Host.Outcome State Fault Refusal :=
  let s := s.begin t
  let phys := s.rd (R.CE_E_STAT_PHYS engine)
  let s := s.bump (R.CE_E_STAT_MISMATCH engine) 255
  .next (
    if s.rd (R.CE_E_STAT_STATE engine) = 0 && s.rd (R.CE_E_STAT_STATE 4) = 0 &&
        s.rd (R.CE_E_STAT_PHYS 4) ≠ 7 then
      let s := s.wrs [(R.CE_E_STAT_STATE engine, 1), (R.CE_E_STAT_STATE 4, 1), (R.CE_E_STAT_SERVES 4, engine)]
      ({ s with eng := { s.eng with takeover := some (engine, s.now) } }).log 0x4001 [engine, phys, slot]
    else
      let served := s.rd (R.CE_E_STAT_STATE engine) = 1
      let s := s.wr (R.CE_E_STAT_STATE engine) 2
      let s := if served then s.wr (R.CE_E_STAT_STATE 4) 2 else s
      let s := { s with eng := { s.eng with takeover := s.eng.takeover.filter (fun q => q.1 ≠ engine) } }
      let (s, mask) := (s.setWaiting engine []).stopEngine engine
      s.log 0x4003 [engine, mask] 2 false true)

/-- CE_TAKEOVER (R241, R244, Table 6.10): auto-tunes of the engine abort, every waiting sample is evaluated
and output, the spare serves from then on. -/
def execCeTakeover (t : Nat) (s : State) : Host.Outcome State Fault Refusal :=
  let s := s.begin t
  .next (match s.eng.takeover with
    | none => s
    | some (e, t0) =>
      let phys := s.rd (R.CE_E_STAT_PHYS 4)
      let s := { s with eng := { s.eng with takeover := none } }
      let s := (s.loopsOn e).foldl (fun (s : State) (l : Nat) => s.abortTune l 6) s
      ((s.runAll e (s.waitingOn e).length).wr (R.CE_E_STAT_PHYS e) phys).log 0x4002 [e, phys, (s.now - t0 : Nat)])

/-- SPARE_SELF_TEST (R247): a mismatch fences the idle spare. -/
def execSpareSelfTest (t : Nat) (ok : Bool) (s : State) : Host.Outcome State Fault Refusal :=
  let s := s.begin t
  .next (
    if s.rd (R.CE_E_STAT_STATE 4) = 0 && s.rd (R.CE_E_STAT_PHYS 4) ≠ 7 && !ok then
      ((s.wr (R.CE_E_STAT_STATE 4) 2).bump (R.CE_E_STAT_MISMATCH 4) 255).log 0x4001
        [4, s.rd (R.CE_E_STAT_PHYS 4), 0xFF]
    else s)

/-- LOOP_STATE_ECC (R243, 02 Table 2.11): the loop is reloaded from a good checkpoint copy and its sample
evaluated again, or its function stops with cause ECC. -/
def execLoopStateEcc (t loop good offset : Nat) (s : State) : Host.Outcome State Fault Refusal :=
  let s := s.begin t
  let s := s.log 0x1031 [0, s.regionBase 0 + offset, s.rd (R.CE_E_STAT_PHYS (s.rd (R.CE_L_CFG_ENGINE loop)))]
  .next (
    if good = 0 then
      match s.fnOfLoop loop with
      | some f => s.stopFn f 7
      | none => s
    else match (s.loopS loop).check with
      | some c => s.evalAgain loop c
      | none => s)

end Sys2Proof.Machine
end

