-- ==== Sys2Proof/Machine/OptOps.lean ====
section
/-! DEFINITION. The optimiser's shared operations (05 R186 to R200): authority, clamping, the board writer
and one-shot applications. -/

namespace Sys2Proof.Machine

/-- The observer runs in this mode (04 R141, 15 R497). -/
def State.observing (s : State) : Bool :=
  [Mode.FIELD_IDLE, Mode.HARVEST, Mode.TEST].contains s.mode &&
    [Mode.FIELD_IDLE, Mode.HARVEST, Mode.TEST].contains s.modeTarget && !s.isWorker && !s.inCrank

/-- The optimiser waits (R195): the observer stopped, warming or in D4. -/
def State.optWaits (s : State) : Bool :=
  !s.flag R.OBS_STAT_RUN || s.flag R.OBS_STAT_WARMING || s.rd R.OBS_STAT_DSTEP = 4

/-- The authority of a function is halved (Table 5.6). -/
def State.halved (s : State) (f : Nat) : Bool :=
  let d := s.rd R.OBS_STAT_DSTEP
  d = 2 || (d = 1 && bitOf s.obs.mask f)

/-- A value within BASE ± AUTH and MIN to MAX (R198). -/
def State.clampValue (s : State) (f i v : Nat) : Nat :=
  let base := f32 (s.baseOf f i)
  let a0 := s.rdF (R.FN_SP_VAL2_AUTH f i)
  let a := if s.halved f then a0 / 2 else a0
  toF32 (clampQ (s.rdF (R.FN_SP_LIM_MIN f i)) (s.rdF (R.FN_SP_LIM_MAX f i)) (clampQ (base - a) (base + a) (f32 v)))

/-- Functions the optimiser writes for: their source is OPTIMISER or PRESCRIPTION. -/
def State.optFns (s : State) : List Nat :=
  (List.range 48).filter (fun f => s.fnUsed f && (s.rd (R.FN_CFG_SOURCE f) = 2 || s.rd (R.FN_CFG_SOURCE f) = 3))

/-- Indices of a function. -/
def State.indexList (s : State) (f : Nat) : List Nat := List.range (s.rd (R.FN_CFG_NSP f) + 1)

/-- The optimiser's current values clamped to the present authority (R198, R199). -/
def State.reclamp (s : State) : State :=
  s.optFns.foldl (fun (s : State) (f : Nat) =>
    if s.rd (R.FN_CFG_SOURCE f) = 2 then
      (s.indexList f).foldl (fun (s : State) (i : Nat) => match (s.idxS f i).opt with
        | some v => s.setIdx f i { s.idxS f i with opt := some (s.clampValue f i v) }
        | none => s) s
    else s) s

/-- The setpoints of a function's next side: the optimiser's current values, clamped as they are handed on (R198) but in
D3, which freezes them (R195), or BASE where there is none (R186, Table 5.4 row 8; log entry 38). -/
def State.sideSps (s : State) (f : Nat) : List Nat :=
  (s.indexList f).map (fun i => match (s.idxS f i).opt with
    | some v => if s.rd (R.FN_CFG_SOURCE f) = 2 ∧ s.rd R.OBS_STAT_DSTEP ≠ 3 then s.clampValue f i v else v
    | none => s.baseOf f i)

/-- A side filled and published by the board writer (R186). -/
def State.writeSide (s : State) (f : Nat) (ffs : List Nat) (computed : Int) (ffValid : Bool) : State :=
  s.publishSide f { sps := s.sideSps f, ffs, seq := s.nextSeq f, computed, obsOk := ffValid,
                    authHalf := s.halved f, dstep := s.rd R.OBS_STAT_DSTEP }

/-- One-shot applications for the DELIVERY 1 indices among `l`: function, index, instant (R187, R199). -/
def State.insertShots (s : State) (l : List (Nat × Nat × Int)) : State :=
  l.foldl (fun (s : State) (x : Nat × Nat × Int) =>
    let f := x.1
    let i := x.2.1
    let instant := x.2.2
    match (s.idxS f i).opt with
    | some v =>
      if s.flag (R.FN_SP_FLAGS_DELIVERY f i) then
        let e : EntryIn := { instant := max instant (s.harvest + 5000000), action := 0x1000 + 16 * f + i,
                             flags := if s.flag (R.FN_SP_FLAGS_COHERENT f i) then 2 else 0, payload := v }
        s.insertEntry 0 (s.rd (R.FN_CFG_UNIT f)) e (0, [])
      else s
    | none => s) s

/-- Every index that has an optimiser value, applied 5 ms ahead. -/
def State.allShots (s : State) : List (Nat × Nat × Int) :=
  s.optFns.flatMap (fun f => (s.indexList f).filterMap (fun i =>
    if s.rd (R.FN_CFG_SOURCE f) = 2 && (s.idxS f i).opt.isSome then some (f, i, s.harvest + 5000000) else none))

/-- FN.OPT.STAT follows the observer (Table 5.10). -/
def State.showOpt (s : State) : State :=
  let d := s.rd R.OBS_STAT_DSTEP
  s.wrs [(R.FN_OPT_STAT_STATE, if !s.observing then 0 else if s.optWaits then 1 else if d = 3 then 3 else 2),
    (R.FN_OPT_STAT_AUTH, if d = 1 then 1 else if d = 2 then 2 else 0)]

/-- The degradation step has changed (R199): the values are clamped at once, handed to the board writer at
the next step output, and new one-shot applications inserted. -/
def State.dstepClamp (s : State) : State :=
  if s.optWaits || s.rd R.OBS_STAT_DSTEP = 3 then s.showOpt
  else
    let s := s.reclamp
    let s := s.insertShots s.allShots
    ({ s with opt := { s.opt with handOn := true } }).showOpt

/-! ### The observer's step and its stops -/

/-- The degradation step set with its cause (04 R166, R168): OBS_DSTEP with the first STEPNO under it,
OBS_HOLD at the entry into D3 and the exit. -/
def State.setDstep (s : State) (new cause k : Nat) : State :=
  let old := s.rd R.OBS_STAT_DSTEP
  let s := s.wrs [(R.OBS_STAT_DSTEP, new), (R.OBS_STAT_CAUSE, cause)]
  if new = old then s
  else
    let s := s.log 0x3001 [old, new, cause, k]
    let s := if new = 3 then ({ s with obs := { s.obs with d3At := k } }).log 0x3008 [1]
             else if old = 3 then s.log 0x3008 [0] else s
    s.dstepClamp

/-- The observer stops (04 R141, R150, R167, R178): its state is cleared, D4 with the cause. -/
def State.obsStop (s : State) (cause : Nat) : State :=
  let s := { s with obs := { s.obs with step := none, waiting := [], taken := [], latent := [], hold := none },
                    out := none, ego := none }
  let s := s.wrs [(R.OBS_STAT_RUN, 0), (R.OBS_STAT_WARMING, 0), (R.OBS_STAT_WARM_LEFT, 0)]
  (s.setDstep 4 cause s.obs.k).showOpt

/-- A binding as the observer's start finds it: estimates and the source's period stay. -/
def BindS.fresh (b : BindS) : BindS :=
  { period := b.period, lastTime := b.lastTime, est := b.est, offset := b.offset, lastArr := b.lastArr }

/-- The observer starts, empty and warming (04 R141, R171, R177), where nothing holds it stopped. -/
def State.obsBegin (s : State) : State :=
  if s.flag R.OBS_STAT_RUN || !s.observing || s.obs.eccHold || s.obs.select.isSome then s.showOpt
  else match s.packNow with
    | none => (s.setDstep 4 0x30 s.obs.k).showOpt
    | some p =>
      let warm := 250 * max (s.rd R.OBS_CFG_WARM) p.warmMin
      let o := { s.obs with
        k := 0, warmK := warm, step := none, started := s.now, waiting := [], taken := [], latent := [],
        bind := s.obs.bind.map (fun (x : Nat × BindS) => (x.1, x.2.fresh)), innov := [], incons := false,
        overrunOn := false, onTime := 0, hold := none, mask := 0, egoSub := false, egoNone := false }
      let s := { s with obs := o }
      let s := s.wrs [(R.OBS_STAT_RUN, 1), (R.OBS_STAT_WARMING, 1), (R.OBS_OVERRUN_CONSEC, 0),
        (R.OBS_STAT_WARM_LEFT, min 0xFFFF ((warm + 4) / 5))]
      ((List.range 32).foldl (fun (s : State) (n : Nat) => s.showBind n) s).showOpt

/-- An entry into a mode, for the observer (04 R141, R150). -/
def State.obsMode (s : State) : State :=
  let s := if s.mode = Mode.FIELD_IDLE then { s with obs := { s.obs with eccHold := false } } else s
  if s.observing then s.obsBegin
  else if s.flag R.OBS_STAT_RUN || s.rd R.OBS_STAT_CAUSE ≠ 0x31 then s.obsStop 0x31
  else s.showOpt

end Sys2Proof.Machine
end

