-- ==== Sys2Proof/Machine/Postcard.lean ====
section
/-! DEFINITION. The Postcard's commands (16 R542 to R550). -/

namespace Sys2Proof.Machine

/-- Glyphs of the hexadecimal digits (Table 16.6). -/
def hexGlyph (d : Nat) : Nat :=
  [0x0C3F, 0x0006, 0x00DB, 0x00CF, 0x00E6, 0x00ED, 0x00FD, 0x0007, 0x00FF, 0x00EF, 0x00F7, 0x128F,
   0x0039, 0x120F, 0x0079, 0x0071].getD d 0

/-- Frame bits of eight characters, the first in bits 13 to 0 (R542). -/
def textBits (glyphs : List Nat) : Nat := glyphs.reverse.foldl (fun n g => n * 2 ^ 14 + g) 0

/-- The held fault's text: four hexadecimal digits, a space, U and the unit in two decimals (R544). -/
def faultText (code unit : Nat) : Nat :=
  textBits [hexGlyph (code / 4096 % 16), hexGlyph (code / 256 % 16), hexGlyph (code / 16 % 16),
    hexGlyph (code % 16), 0, 0x003E, hexGlyph (unit / 10 % 10), hexGlyph (unit % 10)]

/-- NOHAMPER (R544). -/
def noHamperText : Nat :=
  textBits [0x2136, 0x003F, 0x00F6, 0x00F7, 0x0536, 0x00F3, 0x0079, 0x20F3]

/-- The mode the icons show: the one a transition in progress leads to when that is SLEEP, whose icon the
write at step 3 of 15 Table 15.9 lights (log entry 27). -/
def State.shownMode (s : State) : Nat := if s.enteringSleep then Mode.SLEEP else s.mode

/-- The frame composed at a latch (R544, Table 16.5). -/
def State.composeFrame (s : State) : Nat :=
  let m := s.shownMode
  let unconf := !s.configured
  let text := if unconf then noHamperText
    else if s.flag R.PC_STAT_HELD then faultText (s.rd R.PC_STAT_HCODE) (s.rd R.PC_STAT_HUNIT)
    else s.rd R.PC_TEXT_SEGS
  let icons : List (Nat × Bool) :=
    [(112, s.flag R.PC_STAT_HELD), (113, s.rd R.MODE_STAT_CAUSES ≠ 0), (114, m = Mode.WALK_HOME),
     (115, m = Mode.SLEEP), (116, m = Mode.HARVEST), (117, m = Mode.FIELD_IDLE), (118, m = Mode.ROAD),
     (119, m = Mode.SERVICE || m = Mode.TEST), (120, m = Mode.UPDATE),
     (121, s.rd R.TB_STAT_QUAL = 1 || s.rd R.TB_STAT_QUAL = 3), (122, !s.flag R.HMP_STAT_KEY),
     (123, unconf), (124, !s.isWorker), (125, s.isWorker), (126, !s.flag R.PWR_STAT_THERMOS_OK)]
  text + icons.foldl (fun n i => if i.2 then n + 2 ^ i.1 else n) 0 + s.rd R.PC_ICONS * 2 ^ 128

/-- The commons whose 40 bits differ between two frames (R545). -/
def changedCommons (a b : Nat) : List Nat :=
  [0, 1, 2, 3].filter (fun c => bitField a (40 * c) 40 ≠ bitField b (40 * c) 40)

/-- A POSTCARD record's content (Table 16.3): the frame in 20 bytes, band, result, the commons written. -/
def pcItem (frame band result : Nat) (commons : List Nat) : BbItem :=
  { typ := 7, payload := leBytes 20 frame ++ [band, result, commons.foldl (fun n c => n + 2 ^ c) 0, 0] }

/-- A POSTCARD record queued for the black box. -/
def State.pcRecord (s : State) (frame band result : Nat) (commons : List Nat) : State :=
  s.bbPush (pcItem frame band result commons)

/-- The compensation of a common for its segments' counter (R548): 0.1 V for every 100,000 writes, at most 3.0 V. -/
def compOf (w : Nat) : Nat := min 30 (w / 100000)

/-- Compensations set from the stress counters (R548); a change makes the next update a full rewrite (R545, R550). -/
def State.setComp (s : State) : State :=
  let c := s.pc.stress.reverse.foldl (fun (n w : Nat) => n * 256 + compOf w) 0
  let s := if c = s.rd R.PC_AGE_COMP then s else { s with pc := { s.pc with fullNext := true } }
  s.wr R.PC_AGE_COMP c

/-- The panel driven (R546, Table 16.7): the ±36 V rails raised, positive first (0x10: rail, mV), then each common in order
(0x11: the common, its 40 segments, V_R and V_S with the common's compensation in 0.1 V, phases and their lengths in
0.1 ms). -/
def State.drivePanel (s : State) (frame band : Nat) (commons : List Nat) : State :=
  let d := bandDrive band
  let s := (s.answer .panel 0x10 [0, 36000]).answer .panel 0x10 [1, -36000]
  commons.foldl (fun (s : State) (c : Nat) =>
    let comp := bitField (s.rd R.PC_AGE_COMP) (8 * c) 8
    s.answer .panel 0x11 (([c, bitField frame (40 * c) 40, d.vR + comp, d.vS + comp, d.resetN, d.reset, d.selectN, d.select,
      d.relax] : List Nat).map Int.ofNat)) s

/-- The rails lowered, negative first (R546, R549). -/
def State.railsDown (s : State) : State := (s.answer .panel 0x10 [1, 0]).answer .panel 0x10 [0, 0]

/-- A latch (R545, R547, R549): frame and band fixed, IN_PROGRESS set together with the frame, the panel driven; out of the
panel's range the update is deferred, recorded with result 2. -/
def State.pcLatch (s : State) (temp : Int) (full fromSched : Bool) : State :=
  let band := panelBand temp
  let f := s.composeFrame
  let s := { s with pc := { s.pc with asked := false } }.wr R.PC_STAT_TEMP (ofSigned 8 temp)
  if band = 7 then
    (({ s with pc := { s.pc with deferred := true, fullNext := s.pc.fullNext || full } }.wr
      R.PC_STAT_STATE 2).log 0xC011 [temp]).pcRecord f 7 2 []
  else
    let full := full || s.pc.fullNext
    let commons := if full then [0, 1, 2, 3] else changedCommons s.pc.frame f
    let run : PcRun := { frame := f, at_ := s.now, commons, band, full, fromSched }
    let s := { s with pc := { s.pc with frame := f, inProgress := true, deferred := false, fullNext := false,
                                        run := some run } }.wrs
      [(R.PC_STAT_STATE, 1), (R.PC_STAT_BAND, band), (R.PC_STAT_COMMON, commons.headD 0)]
    s.drivePanel f band commons

/-- PC_UPDATE (R545, R547, R550): an update that has been requested latches, `temp` being the panel's temperature in °C. -/
def execPcUpdate (t : Nat) (temp : Int) (s : State) : Host.Outcome State Fault Refusal :=
  let s := s.begin t
  .next (if s.pc.asked && s.pc.run.isNone then s.pcLatch temp false false else s)

/-- The stress counters after a common's segments are written (R548). -/
def stressAfter (stress commons : List Nat) : List Nat :=
  (List.range 4).map (fun c => if commons.contains c then satInc 0xFFFFFFFF (stress.getD c 0) else stress.getD c 0)

/-- PC_UPDATE_DONE (R545 to R547, R550): once its commons are written the update ends with its record and the rails are
lowered; a scheduled full rewrite, else a merged update, follows with a new latch. -/
def execPcUpdateDone (t : Nat) (temp : Int) (s : State) : Host.Outcome State Fault Refusal :=
  let s := s.begin t
  .next (match s.pc.run with
    | none => s
    | some r =>
      if s.now < r.at_ + r.length then s
      else
      let sched := s.flag R.PC_STAT_RESCHED
      let merged := s.pc.merged
      let s := { s with pc := { s.pc with run := none, inProgress := false, merged := false,
                                          stress := stressAfter s.pc.stress r.commons } }
      let s := (s.bump R.PC_STAT_WRITES (2 ^ 27 - 1)).wrs
        [(R.PC_STAT_STATE, 0), (R.PC_STAT_BAND, 7), (R.PC_STAT_RESCHED, 0)]
      let s := s.railsDown.pcRecord r.frame r.band 0 r.commons
      if sched then s.pcLatch temp true true
      else if merged then s.pcLatch temp false false
      else s)

/-- PC_TEMP_RETURN (R547): a deferred update runs when the reading is back in range. -/
def execPcTempReturn (t : Nat) (temp : Int) (s : State) : Host.Outcome State Fault Refusal :=
  let s := s.begin t
  .next (if s.pc.deferred ∧ panelBand temp ≠ 7 then s.pcLatch temp false false else s)

/-- PC_RESCHEDULE (R547): the reading has left the latched band; a rewrite scheduled in this way schedules
no further one. -/
def execPcReschedule (t : Nat) (temp : Int) (s : State) : Host.Outcome State Fault Refusal :=
  let s := (s.begin t).wr R.PC_STAT_TEMP (ofSigned 8 temp)
  .next (match s.pc.run with
    | some r => if r.fromSched ∨ panelBand temp = r.band then s else s.wr R.PC_STAT_RESCHED 1
    | none => s)

/-- PC_CLEAR (R544): a SERVICE session releases the held fault. -/
def execPcClear (t session : Nat) (s : State) : Host.Outcome State Fault Refusal :=
  .next (s.gated t session (.pcClear) (fun (s : State) =>
    if !s.classAtLeast session Cls.SERVICE then s.reply session Res.CLASS
    else if !s.flag R.PC_STAT_HELD then s.reply session Res.OK
    else
      let code := s.rd R.PC_STAT_HCODE
      ((s.wrs [(R.PC_STAT_HELD, 0), (R.PC_STAT_HUNIT, 0), (R.PC_STAT_HCODE, 0)]).log 0xC012
        [code, session]).reply session Res.OK))

/-- PC_CONTENT_WRITE (R545; 14 Table 14.9): AREAMASK, SEGS or ICONS; it shows at the next update. -/
def execPcContentWrite (t session field v : Nat) (s : State) : Host.Outcome State Fault Refusal :=
  .next (s.gated t session (.live (if field = 0 then R.PC_CFG_AREAMASK else if field = 1 then R.PC_TEXT_SEGS else R.PC_ICONS))
    (fun (s : State) =>
    if field = 0 then s.liveWrite session R.PC_CFG_AREAMASK v (v < 2 ^ 12)
    else if field = 1 then s.liveWrite session R.PC_TEXT_SEGS v (v < 2 ^ 112)
    else s.liveWrite session R.PC_ICONS v (v < 2 ^ 32)))

end Sys2Proof.Machine
end

