-- ==== Sys2Proof/Machine/ModeOps.lean ====
section
/-! DEFINITION. Mode transitions as shared operations (15 R505 to R513). -/

namespace Sys2Proof.Machine

/-- A running function whose loops stay closed: its auto-tunes abort with RESULT 2 (06 R241). -/
def State.abortTunes (s : State) (f : Nat) : State :=
  (s.loopsOf f).foldl (fun (s : State) (l : Nat) => s.abortTune l 2) s

/-- The start of a mode's change cancels the CANCEL_ON_MODE entries whose instants are not past, with one LN_MODE_CANCEL
when there are any (03 R136). -/
def State.cancelOnMode (s : State) (target : Nat) : State :=
  let p := fun (e : SlotS) => e.cancelOnMode && s.harvest ≤ e.instant
  let n := s.countWhere p
  let s := s.cancelWhere p
  if 0 < n then s.log 0x2027 [n, target] else s

/-- A transition starts (R507): CANCEL_ON_MODE entries are cancelled and counted (03 R136), functions the
new mode does not name stop with cause MODE, overrides and auto-tunes end (05 R192, 06 R241), the observer
stops where the new mode stops it (04 R141; log entry 42), and a manager tells its workers (R509). -/
def State.startTransition (s : State) (target : Nat) : State :=
  let s := s.cancelOnMode target
  let x : TransS := { target, source := s.mode, t0 := s.now }
  let s := { s with md := { s.md with trans := some x, wanted := s.md.wanted && target ≠ Mode.SAFE_STOP } }
  let s := s.wr R.MODE_STAT_TRANS 1
  let s := (List.range 48).foldl (fun (s : State) (f : Nat) =>
    if !s.fnMine f then s
    else if s.runsIn f target then s.abortTunes f
    else s.stopFn f 2) s
  let s := { s with fn := s.fn.map (fun (q : Nat × FnS) => (q.1, endOver q.2)) }
  let s := if s.flag R.OBS_STAT_RUN && !s.observing then s.obsStop 0x31 else s
  let s := s.guidanceMode target
  if s.isWorker then s else s.answer (.trunk 0) 0x53 [target]

/-- The control and data planes stop (R513): the baseband and the cameras, and the launch unit. -/
def State.stopPlanes (s : State) : State :=
  let s := (s.stopGnss).camsDown Cam.MISSING
  { s with ln := { s.ln with running := false } }

/-- The mode changes (R505, R507): domains and core rail follow (R501, R502), cause MODE ends for the
functions the mode names (05 R202), the observer starts or stays stopped (04 R141), compensations are set at
an entry to TEST (16 R548), and the outputs act as after a System reset in WALK_HOME (R513). -/
def State.enterMode (s : State) (m : Nat) : State :=
  let old := s.mode
  let back : Bool := old = Mode.SAFE_STOP && s.pwr.crankLong && !s.flag R.PWR_STAT_CRANK
  let s := { s with md := { s.md with trans := none },
                    pwr := if old = Mode.SAFE_STOP then { s.pwr with crankLong := false } else s.pwr }
  let s := s.wrs [(R.MODE_STAT_MODE, m), (R.MODE_STAT_PREV, old), (R.MODE_STAT_TRANS, 0)]
  let s := (s.setCoreRail).setDomains
  let s := (List.range 48).foldl (fun (s : State) (f : Nat) =>
    if s.fnMine f && s.runsIn f m then s.endCause f 2 else s) s
  let s := if m = Mode.TEST then s.setComp else s
  let s := if m = Mode.WALK_HOME then ((s.stopPlanes).resetValves Scope.system).resetSwitches Scope.system else s
  let s := if back then s.dataReleased else s
  s.obsMode

/-- A transition completes: MODE_CHANGE with the time from its t0 in µs (R507). -/
def State.completeTransition (s : State) (x : TransS) : State :=
  let old := s.mode
  let s := s.enterMode x.target
  let s := (s.log 0xB020 [old, x.target, (s.now - x.t0) / 1000]).pcRequest
  if s.isWorker then s.answer (.trunk 0) 0x54 [s.role.unit, x.target] else s

/-- SLEEP reached (Table 15.9 step 4; R502): the real-time counter calibrated, MODE_CHANGE logged, every event released
and written to the black box, the operating hours closed. -/
def State.sleepFlush (s : State) (x : TransS) : State :=
  let s := (s.calibrateRtc).log 0xB020 [s.mode, Mode.SLEEP, (s.now - x.t0) / 1000]
  let s := State.releaseDue s.mirror.window.length
    { s with mirror := { s.mirror with window := s.mirror.window.map (fun (e : Event) => { e with due := s.now }) } }
  let s := s.bbFlush
  { s with bb := { s.bb with hoursBase := s.hours, opSince := none } }

/-- The registers that SLEEP clears beside a System reset's (R505): the valve drives', and without a PIN-DRIVEN channel
the switches'. -/
def sleepClears (keep : Bool) (k : Nat) : Bool :=
  (0x7001 ≤ k / 256 && k / 256 ≤ 0x706E) || (!keep && 0x8001 ≤ k / 256 &&
    k / 256 ≤ 0x8108 && !(k = R.WH_STAT_PIN || k = R.WH_STAT_EN))

/-- The baseband's configuration, kept for a refresh (07 R277). -/
def State.sleepKept (s : State) : List (Nat × Nat) :=
  s.reg.filter (fun (e : Nat × Nat) =>
    0x5000 ≤ e.1 / 256 && e.1 / 256 ≤ 0x501F && !(e.1 / 256 = 0x5003 || e.1 / 256 = 0x5004))

/-- Every channel that is not PIN-DRIVEN off (R505). -/
def State.sleepSwitches (s : State) : State :=
  switchChannels.foldl (fun (z : State) (n : Nat) =>
    if z.rd (R.LS_CFG_USE n) = 1 then (z.setSw n { z.sw n with out := false, cmd := false, waiting := none }).showSwitch n
    else z) s

/-- All but the always-on island unpowered (Table 15.9 step 5; R505): what a System reset clears, the valves, and the
switches unless a channel is PIN-DRIVEN. The last reset's registers stay. -/
def State.sleepOff (s : State) : State :=
  let keep := s.pinDriven
  let again : Bool := s.flag R.GN_CFG_EN && s.flag R.GN_CFG_REFRESH
  let z := (s.cleared Scope.system).clearRegs (sleepClears keep)
  let z := if again then z.wrs s.sleepKept else z
  let ls : WalkS := if keep then z.ls else { copy := z.ls.copy }
  let rst := { z.rst with held := false, qual := s.rd R.TB_STAT_QUAL }
  let gn : GnssS := { retain := z.gn.retain, sleepRefresh := again, refreshFrom := s.now }
  let z := { z with tb := { z.tb with rtcOff := some s.now }, vd := {}, ls, rst, gn }
  z.wrs ([R.RST_STAT_SOURCE, R.RST_STAT_SCOPE, R.RST_STAT_PLANE, R.RST_STAT_ESCAL].map (fun k => (k, s.rd k)))

/-- The unit in SLEEP (Table 15.9 steps 4 and 5; R502, R505): flushed, then off but for the PIN-DRIVEN channels and the
always-on island. -/
def State.goSleep (s : State) (x : TransS) : State :=
  let old := s.mode
  let keep := s.pinDriven
  let s := (s.sleepFlush x).sleepOff
  let s := s.wrs [(R.MODE_STAT_MODE, Mode.SLEEP), (R.MODE_STAT_PREV, old)]
  let s := if keep then s.sleepSwitches else s
  (s.setCoreRail).setDomains

end Sys2Proof.Machine
end

