-- ==== Sys2Proof/Machine/StartUp.lean ====
section
/-! DEFINITION. Release and start-up (15 R519 to R522, Table 15.14): the firmware slot, the key, the steps of
CONFIG and its end. -/

namespace Sys2Proof.Machine

/-! ### The firmware slot (17 R562) -/

/-- A slot is CONFIRMED with every section good. -/
def State.slotGood (s : State) (bad : List Nat) (n : Nat) : Bool :=
  s.rd (R.UPD_SLOT_STATE n) = 2 && !bad.contains n

/-- The CONFIRMED slot that starts: the one confirmed last, else the other one (log entry 46). -/
def State.confirmedSlot (s : State) (bad : List Nat) : Option Nat :=
  if s.slotGood bad s.upd.lastConf then some s.upd.lastConf else [0, 1].find? (s.slotGood bad)

/-- The slot chosen at a start, and whether one can run: a TRIAL slot with tries left, counted; else the
CONFIRMED one, an exhausted or failing TRIAL slot being marked BAD and its rollback flagged. -/
def State.bootSlot (s : State) (bad : List Nat) : State × Bool :=
  let conf := s.confirmedSlot bad
  match [0, 1].find? (fun n => s.rd (R.UPD_SLOT_STATE n) = 1) with
  | some n =>
    let tries := s.rd (R.UPD_SLOT_TRIES n)
    if tries < 3 && !bad.contains n then
      (s.wrs [(R.UPD_SLOT_TRIES n, tries + 1), (R.UPD_STAT_ACTIVE, n)], true)
    else
      let z := s.wr (R.UPD_SLOT_STATE n) 3
      match conf with
      | some c =>
        let back := (s.rd (R.UPD_SLOT_VERSION n), s.rd (R.UPD_SLOT_VERSION c))
        ({ z with upd := { z.upd with rollback := some back, actNow := false } }.wr R.UPD_STAT_ACTIVE c, true)
      | none => (z, false)
  | none => match conf with
    | some c => (s.wr R.UPD_STAT_ACTIVE c, true)
    | none => (s, false)

/-- The power die loads its code, the running slot's POWERDIE section or what a worker's last Rucksack brought, only at a
start of Full scope (17 R564, R565). -/
def State.loadPowerDie (s : State) (wake : Bool) : State :=
  if wake || s.rd R.RST_STAT_SCOPE ≠ Scope.full then s
  else
    let own := s.rd (R.UPD_SLOT_VERSION (s.rd R.UPD_STAT_ACTIVE))
    { s with upd := { s.upd with pdCode := s.upd.pdStored.getD own } }

/-! ### Black box recovery (16 R532, R536) -/

/-- The control block copy recovery works from. -/
def State.goodCtrl (s : State) (bad : List Nat) : BbCtrl :=
  let a := if s.bb.ctrlA.crcOk && !bad.contains 0 then [s.bb.ctrlA] else []
  let b := if s.bb.ctrlB.crcOk && !bad.contains 1 then [s.bb.ctrlB] else []
  match a ++ b with
  | [x, y] => if x.count < y.count then y else x
  | [x] => x
  | _ => {}

/-- The position after the valid records that stand from a position on. -/
def adopt (l : List BbRec) : Nat → Nat → Nat
  | 0, pos => pos
  | n + 1, pos => match l.find? (fun r => r.pos = pos && r.valid) with
    | some r => adopt l n (pos + r.item.bytes)
    | none => pos

/-- Torn records of an area: each counted, logged once, their place written over next. -/
def State.tornArea (s : State) (area : Nat) (l : List BbRec) : State :=
  let n := (l.filter (fun r => !r.valid)).length
  if n = 0 then s
  else (s.wr R.BB_STAT_TORN (satAdd 255 (s.rd R.BB_STAT_TORN) n)).log 0xC001 [area, n]

/-- Operating time that a record carries: in its stamp, or an ANCHOR's and a FINAL's in its payload (16 Table 16.3). -/
def BbRec.hours (r : BbRec) : Nat :=
  max (if r.seqForm then 0 else r.stampA)
    (if r.item.typ = 2 then leValue (r.item.payload.take 6)
     else if r.item.typ = 4 then leValue ((r.item.payload.drop 12).take 6) else 0)

/-- Operating time carried by the newest valid record. -/
def State.newestHours (s : State) : Nat :=
  (s.bb.perm ++ s.bb.circ).foldl (fun m r => if r.valid then max m r.hours else m) 0

/-- The newest sequence stamp in the MRAM: what a unit without a number left writes on from (16 R533). -/
def State.newestSeq (s : State) : Nat × Nat :=
  (s.bb.perm ++ s.bb.circ).foldl (fun (m : Nat × Nat) (r : BbRec) =>
    if r.valid && r.seqForm && (m.1 < r.stampA || (m.1 = r.stampA && m.2 < r.stampB)) then (r.stampA, r.stampB) else m) (0, 0)

/-- What a recorded event makes of the fault held for the Postcard: a FAULT of an area of AREAMASK takes its
place, PC_CLEAR frees it (16 R544; log entry 49). -/
def State.heldAfter (s : State) (h : Option (Nat × Nat)) (r : BbRec) : Option (Nat × Nat) :=
  let code := r.item.payload.getD 12 0 + 256 * r.item.payload.getD 13 0
  let unit := r.item.payload.getD 16 0
  if !r.valid || r.item.typ ≠ 1 then h
  else if code = 0xC012 then none
  else if r.item.fault && s.areaHeld code && code ≠ 0xC010 then some (unit, code)
  else h

/-- The held fault composed from the black box (16 R544). -/
def State.composeHeld (s : State) : State :=
  match (s.bb.perm ++ s.bb.circ).foldl s.heldAfter none with
  | some (u, c) => s.wrs [(R.PC_STAT_HELD, 1), (R.PC_STAT_HUNIT, u), (R.PC_STAT_HCODE, c)]
  | none => s

/-- The START record (16 Table 16.3); `serial` is the manager's. -/
def State.startRecord (s : State) (serial : Nat) : BbItem :=
  { typ := 3,
    payload := (s.objectsOf 0xB100).map Int.toNat ++ leBytes 4 s.firmware ++ leBytes 4 (s.rd R.HMP_STAT_GENERATION) ++
      leBytes 8 (s.rd R.HMP_ID_MACHINE_ID) ++ leBytes 4 serial ++
      [s.role.unit, if s.configured then s.role.size else 3, s.rd R.HMP_STAT_SOURCE, 0] }

/-- START and ANCHOR stand before every record raised since the start (16 R530, R534). -/
def State.firstRecords (s : State) (serial : Nat) : State :=
  let old := s.bb.queue
  let s := (({ s with bb := { s.bb with queue := [] } }).bbPush (s.startRecord serial)).bbAnchor
  old.foldl State.bbPush s

/-- Recovery when the management plane is released (16 R532, R536). -/
def State.recoverBb (s : State) (bad : List Nat) (serial : Nat) : State :=
  let c := s.goodCtrl bad
  let from_ := sumNat ((s.bb.perm.filter (fun r => r.valid)).take c.perm |>.map (fun r => r.item.bytes))
  let pos := adopt s.bb.perm s.bb.perm.length from_
  let head := adopt s.bb.circ s.bb.circ.length c.head
  let hours := max c.hours s.newestHours
  let s := (s.tornArea 0 s.bb.perm).tornArea 1 s.bb.circ
  let lastSeq := s.newestSeq
  let perm := s.bb.perm.filter (fun r => r.valid)
  let n := (perm.filter (fun r => r.pos < pos)).length
  let s := { s with bb := { s.bb with perm := perm, circ := s.bb.circ.filter (fun r => r.valid),
                                      permPos := pos, hoursBase := hours, opSince := some s.rst.startAt,
                                      ctrlA := if bad.contains 0 then {} else s.bb.ctrlA,
                                      ctrlB := if bad.contains 1 then {} else s.bb.ctrlB,
                                      lastSeq := lastSeq.1, sub := lastSeq.2 } }
  let s := s.wrs [(R.BB_STAT_PERM, n), (R.BB_STAT_HEAD, head), (R.BB_STAT_READY, 1),
    (R.BB_STAT_FORM, bit01 (s.role.size = 2 && s.configured))]
  let s := if s.configured then s.askSeq else s
  (s.composeHeld).firstRecords serial

/-! ### Steps 5, 8 and 9 of Table 15.14 -/

/-- The physical engines that pass become E0 to E3 in order, the fifth the spare (06 R247). -/
def State.assignEngines (s : State) (failing : List Nat) : State :=
  let pass := [0, 1, 2, 3, 4].filter (fun p => !failing.contains p)
  [0, 1, 2, 3, 4].foldl (fun (s : State) (e : Nat) => match pass[e]? with
    | some p => s.wrs [(R.CE_E_STAT_PHYS e, p), (R.CE_E_STAT_STATE e, 0)]
    | none => s.wrs [(R.CE_E_STAT_PHYS e, 7), (R.CE_E_STAT_STATE e, 2)])
    { s with eng := { s.eng with failing := failing } }

/-- A logical engine without a physical one is out; the functions with a loop on it stay stopped with cause
FAULT (06 R247). -/
def State.enginesOut (s : State) : State :=
  let passing := 5 - s.eng.failing.length
  [0, 1, 2, 3].foldl (fun (s : State) (e : Nat) =>
    if s.rd (R.CE_E_STAT_STATE e) = 2 then
      let (s, mask) := s.stopEngine e
      s.log 0x4004 [e, passing] 2 false (mask ≠ 0)
    else s) s

/-- The first command to every output (05 R202; 10 R380; 11 R399): the stopped state of its function, or off
for a channel without one. -/
def State.firstCommands (s : State) : State :=
  let s := (List.range 48).foldl (fun (s : State) (f : Nat) =>
    if s.fnMine f then ((s.wr (R.FN_STAT_STATE f) 1).showCause f).orderStopped f else s) s
  let s := valveChannels.foldl (fun (s : State) (c : Nat) =>
    if s.rd (R.VD_CFG_KIND c) ≠ 0 && (s.fnOfChannel 1 c).isNone then s.answer (.valve c) Src.stopped [2, 0]
    else s) s
  switchChannels.foldl (fun (s : State) (n : Nat) =>
    if s.rd (R.LS_CFG_USE n) = 1 && (s.fnOfChannel 2 n).isNone then s.answer (.switch n) Src.stopped [2, 0]
    else s) s

/-- The networks released: CAN channels on the bus, Ethernet and field-node ports set up as their records say (PHY role,
transmit level), field-node ports detecting (12 R412, R417, R425, R427, R432), the WLAN with its role, channel, SSID and passphrase
(17 R567). -/
def State.startNetworks (s : State) : State :=
  let s := { s with lk := { s.lk with canFrom := s.now, tsmapStep := true, tsmapAt := none } }
  let s := (List.range 10).foldl (fun (s : State) (i : Nat) => s.startCan (i + 1)) s
  let ssid := s.stringAt (s.rd R.FL_CFG2_SSID)
  let s := if s.isWorker then s else s.answer .fleet 0x52 (((([s.rd R.FL_CFG2_WLAN_AP, s.rd R.FL_CFG2_WLAN_CH,
    ssid.length] : List Nat) ++ ssid ++ s.stringAt (s.rd R.FL_CFG2_PASS))).map Int.ofNat)
  let s := (List.range 6).foldl (fun (s : State) (i : Nat) =>
    if s.flag (R.ETH_CFG_EN (i + 1)) then s.answer (.ethPort (i + 1)) 0x30 [s.rd (R.ETH_CFG_MASTER (i + 1))] else s) s
  (List.range 12).foldl (fun (s : State) (i : Nat) =>
    if s.flag (R.FNP_CFG_EN (i + 1)) then
      (s.wr (R.FNP_STAT_STATE (i + 1)) 1).answer (.fieldNode (i + 1)) 0x30 [s.rd (R.FNP_CFG_AMPL (i + 1))]
    else s) s

/-- The workers a size admits (00 R5, Table 0.1). -/
def sizeLimit (size : Nat) : Nat := if size = 0 then 0 else if size = 1 then 3 else 15

/-- The workers an image names, in its ROLE record or in its TREE records: of these, the different worker units
their INST names (00 R5). -/
def State.workersNamed (s : State) : Nat :=
  max s.role.workers (match s.hmp.image with
    | some img => ((img.recs.filter (fun r => r.typ = 2)).map (fun r => r.inst)).eraseDups.length
    | none => 0)

/-- A manager whose Hamper names more workers than its size allows is held in CONFIG (00 R5). -/
def State.checkSize (s : State) : State :=
  let n := s.workersNamed
  if s.isWorker || n ≤ sizeLimit s.role.size then s
  else ({ s with hmp := { s.hmp with sizeHeld := true } }).log 0xA009 [s.role.size, n]

/-- Management released: recovery, the rollback logged, compensations set and the start write of the Postcard
prepared (16 R536, R548, R550; 17 R562). -/
def State.startManagement (s : State) (serial : Nat) : State :=
  let s := s.recoverBb s.rst.start.badCtrl serial
  let s := match s.upd.rollback with
    | some (a, b) => ({ s with upd := { s.upd with rollback := none } }).log 0xA02A [a, b]
    | none => s
  let s := s.setComp
  { s with pc := { s.pc with fullNext := s.pc.inProgress || s.pc.fullNext } }.pcRequest

/-- Steps 8 and 9 for a unit with its records loaded: outputs commanded, the goal at start in use (05 R196), data plane,
management and networks released. -/
def State.startUnit (s : State) (serial : Nat) : State :=
  let s := s.compareCopy.switchTimed
  let s := s.startCoils (s.rst.start.tmod : Rat)
  let s := (s.placeLoops.firstCommands).enginesOut
  let s := s.wr R.FN_OPT_STAT_GOAL (s.rd R.FN_OPT_CFG_GOALDEF)
  let s := (s.startGnss s.rst.clearAt s.rst.start.retainBad).startCams
  let s := (s.startNetworks.checkSize).startManagement serial
  { s with rst := { s.rst with step := 9 } }.setDomains

/-! ### The key (14 R480 to R483) -/

/-- Every output in its safe state, nothing configured (14 R483): the protection table is the default one. -/
def State.unconfigured (s : State) : State :=
  let s := valveChannels.foldl (fun (s : State) (c : Nat) =>
    if s.phase c = Ph.off then s else s.valveOff c false) s
  let none_ : ImageIn := { machineId := 0, generation := 0, recs := [] }
  let s := (s.clearRegs configKey).loadProt none_ 0
  (s.applySwitches []).1

/-- A valid image taken: a manager's loads whole; a worker's only says who it is, and the worker waits for its
Rucksack, which brings the protection table that its lock then closes (00 R3, R4; 02 R75; 14 R471; log entry
110). -/
def State.takeImage (s : State) (img : ImageIn) (uid source : Nat) : State :=
  match imageRole img with
  | some role =>
    if role.role = 1 then
      let s := { s with role }.useImage img uid source
      { s with hmp := { s.hmp with waitRuck := true } }
    else (s.loadImage img role).useImage img uid source
  | none => s

/-- The key read at a start (14 R480 to R482): its image, or the shadow copy with its KEY_UID, or none. No role
outlives the key that gave it (00 R2). -/
def State.readKey (s : State) : State :=
  let s := { s with role := {} }
  match s.hmp.key with
  | none => (s.unconfigured.wr R.HMP_STAT_KEY 0).log 0xA001 [s.mode]
  | some k =>
    let s := s.wr R.HMP_STAT_KEY 1
    match imageFault k.image s.firmware with
    | none => s.takeImage k.image k.uid 1
    | some (cause, at_) =>
      let s := s.log 0xA003 [cause, at_]
      match s.hmp.shadow with
      | some h =>
        if h.uid = k.uid && (imageFault { h.image with packs := [] } s.firmware false).isNone then
          (s.takeImage { h.image with packs := [] } k.uid 2).log 0xA004 [h.image.generation]
        else s.unconfigured
      | none => s.unconfigured

/-- The packs of the key's image checked; a start from the shadow has none (14 R482; 04 R177). -/
def State.readPacks (s : State) : State :=
  match s.hmp.image with
  | some img => (s.loadPacks img (if s.rd R.HMP_STAT_SOURCE = 1 then img.packs else [])).startPack
  | none => s

/-! ### RESET_RELEASE -/

/-- Release begins (R519): the unit is in TRAILHEAD, power cycles are counted, harvest time is loaded. -/
def State.beginRelease (s : State) (start : StartIn) : State :=
  let wake := s.rst.sleepWake
  let scope := s.rd R.RST_STAT_SCOPE
  let full : Bool := scope = Scope.full
  let s := { s with rst := { s.rst with held := false, sleepWake := false, startAt := s.now, block := none, step := 1,
                                        start := start },
                    ls := if s.ls.full && s.ls.released.isNone then { s.ls with released := some s.now } else s.ls }
  let s := if wake then s.wrs [(R.MODE_STAT_PREV, s.mode), (R.MODE_STAT_MODE, Mode.TRAILHEAD)] else s
  let s := if wake || full then s.bump R.RST_STAT_CYCLES 0xFFFFFFFF else s
  let s := if wake || Scope.system ≤ scope then s.loadTime else s
  let s := if s.rst.qual ≠ s.rd R.TB_STAT_QUAL && (wake || Scope.system ≤ scope) then
      s.log 0x2001 [s.rst.qual, s.rd R.TB_STAT_QUAL, s.tbErr] else s
  let s := { s with rst := { s.rst with qual := 0 } }
  (s.setCoreRail).setDomains

/-- The Thermos at a start (15 R514, R523). -/
def State.startThermos (s : State) : State :=
  let x := s.rst.start
  let no := s.rst.noFinal
  let s := { s with rst := { s.rst with noFinal := false }, pwr := { s.pwr with capAt := s.now } }.wr
    R.PWR_STAT_THERMOS_OK (bit01 x.thermosOk)
  if x.thermosOk && !no then s else s.log 0xB006 [x.capacity, bit01 no]

/-- Steps 4 to 9 of Table 15.14 once a firmware slot runs. -/
def State.runStart (s : State) : State :=
  let x := s.rst.start
  let s := (s.assignEngines x.failing).readKey
  let s := (s.startThermos).log 0xB010
    [s.rd R.RST_STAT_SOURCE, s.rd R.RST_STAT_SCOPE, s.rd R.RST_STAT_PLANE, s.rd R.RST_STAT_ESCAL]
  let trial := s.rd (R.UPD_SLOT_STATE (s.rd R.UPD_STAT_ACTIVE)) = 1
  let s := if s.upd.actNow && trial then s.wr R.UPD_STAT_STATE 5 else s
  let s := s.wrs [(R.MODE_STAT_PREV, s.mode), (R.MODE_STAT_MODE, Mode.CONFIG), (R.HMP_STAT_READ_MS, x.readMs)]
  let s := { s with rst := { s.rst with step := 7 } }
  let s := (s.setCoreRail).setDomains
  if s.hmp.waitRuck then s
  else if s.configured then s.readPacks.startUnit s.hmp.serial
  else
    let s := s.enginesOut.startManagement s.hmp.serial
    { s with rst := { s.rst with step := 9 } }.setDomains

/-- RESET_RELEASE (R519 to R522; 14 R480 to R483; 16 R536; 17 R562): 2 ms after the last source of a reset has
become inactive, or after a wake line's filter. With no slot to run the module stays in TRAILHEAD. -/
def execResetRelease (t : Nat) (start : StartIn) (s : State) : Host.Outcome State Fault Refusal :=
  let s := s.begin t
  .next (
    if !s.rst.held || s.rst.pinLow || s.now < s.rst.clearAt + 2000000 then s
    else
      let wake := s.rst.sleepWake
      let s := s.beginRelease start
      let (z, runs) := s.bootSlot start.badSlots
      if runs then (z.loadPowerDie wake).runStart else { z with rst := { z.rst with step := 5 } })

/-! ### CONFIG_END -/

/-- The running TRIAL slot is confirmed, the fused floor raised (17 R562). -/
def State.confirmSlot (s : State) : State :=
  let n := s.rd R.UPD_STAT_ACTIVE
  if s.rd (R.UPD_SLOT_STATE n) ≠ 1 then s
  else
    let floor := match look s.upd.inSlot n with
      | some m => max (s.rd R.UPD_STAT_FLOOR) m.secFloor
      | none => s.rd R.UPD_STAT_FLOOR
    let s := { s with upd := { s.upd with lastConf := n } }.wrs [(R.UPD_SLOT_STATE n, 2), (R.UPD_STAT_FLOOR, floor)]
    s.log 0xA029 [s.rd (R.UPD_SLOT_VERSION n), floor]

/-- The shadow copy stored after a start from the key, when it does not hold it already (14 R482). -/
def State.storeShadow (s : State) : State :=
  match s.hmp.image with
  | some img =>
    let same := match s.hmp.shadow with
      | some h => h.uid = s.hmp.uid && h.image.generation = img.generation
      | none => false
    if s.rd R.HMP_STAT_SOURCE ≠ 1 || same then s
    else { s with hmp := { s.hmp with shadow := some { uid := s.hmp.uid, image := { img with packs := [] } } } }
  | none => s

/-- Every worker of the installation is running or given up (Table 15.14 step 10). -/
def State.workersSettled (s : State) : Bool :=
  s.isWorker || ((List.range s.role.workers).map (· + 1)).all (fun u =>
    s.md.running.contains u || s.md.givenUp.contains u)

/-- Steps 8 to 10 are done (R522; 00 R4, R5; 14 R483). -/
def State.configDone (s : State) : Bool :=
  (s.mode = Mode.CONFIG || s.mode = Mode.SAFE_STOP) && !s.rst.held && s.rst.step = 9 && s.configured &&
    !s.hmp.sizeHeld && !s.hmp.waitRuck && s.workersSettled

/-- The mode CONFIG ends in (R522, Table 15.16; 17 R561, R562): a worker's manager's, the one recorded at an
activation with WHEN 0, or the one START_MODE names. -/
def State.startMode (s : State) (managerMode : Nat) : Nat :=
  if s.isWorker then managerMode
  else if s.upd.actNow then s.upd.actMode
  else match s.rd R.PWR_CFG_START_MODE with
    | 0 => if s.md.saved = Mode.ROAD || s.md.saved = Mode.FIELD_IDLE then s.md.saved else Mode.FIELD_IDLE
    | 2 => Mode.ROAD
    | _ => Mode.FIELD_IDLE

/-- CONFIG_END (R522; 03 R137; 14 R482; 17 R561, R562): the slot is confirmed, the shadow stored, the periodic
generators are loaded, the start mode is entered. -/
def execConfigEnd (t managerMode : Nat) (s : State) : Host.Outcome State Fault Refusal :=
  let s := s.begin t
  .next (
    if !s.configDone then s
    else
      let target := s.startMode managerMode
      let s := (s.confirmSlot).storeShadow
      let s := { s with ln := { s.ln with running := true }, rst := { s.rst with step := 11 },
                        upd := { s.upd with actNow := false } }.wr R.UPD_STAT_STATE 0
      let s := if s.mode = Mode.CONFIG && s.md.trans.isNone then
          (((s.cancelOnMode target).enterMode target).log 0xB020 [Mode.CONFIG, target, 0]).pcRequest else s
      if s.isWorker then s.answer (.trunk 0) 0x54 [s.role.unit, s.mode] else s)

end Sys2Proof.Machine
end

