-- ==== Sys2Proof/Machine/Hamper.lean ====
section
/-! DEFINITION. The commands of 14: the key, writing it, the Rucksack, and writes of NEXT fields and operator
limits. -/

namespace Sys2Proof.Machine

/-- KEY_SENSE (R470): what is in the socket; the module senses it every 1 s except in OFF and SLEEP, and what it found
before is what HMP.STAT shows. -/
def execKeySense (t : Nat) (key : Option KeyIn) (s : State) : Host.Outcome State Fault Refusal :=
  let s := s.begin t
  let early : Bool := match s.hmp.sensedAt with
    | some a => s.now < a + 1000000000
    | none => false
  let s := { s with hmp := { s.hmp with key := key } }
  .next (
    if s.mode = Mode.OFF ∨ s.mode = Mode.SLEEP ∨ early then s
    else
      let was := s.flag R.HMP_STAT_KEY
      let s := { s with hmp := { s.hmp with sensedAt := some s.now } }.wr R.HMP_STAT_KEY (bit01 key.isSome)
      match was, key with
      | true, none => s.log 0xA001 [s.mode]
      | false, some k => s.log 0xA002 [k.uid % 2 ^ 32]
      | _, _ => s)

/-! ### Writing the key (R489, R490) -/

/-- The firmware that starts next: a TRIAL slot's, else the running one's (R489). -/
def State.nextFirmware (s : State) : Nat :=
  match [0, 1].find? (fun n => s.rd (R.UPD_SLOT_STATE n) = 1) with
  | some n => s.rd (R.UPD_SLOT_VERSION n)
  | none => s.firmware

/-- A unit takes a Hamper write in SERVICE, or unconfigured in CONFIG (R483, R489). -/
def State.writeMode (s : State) : Bool :=
  s.mode = Mode.SERVICE || (s.mode = Mode.CONFIG && !s.configured)

/-- Why an offered image fails (R473, R478; log entry 28: cause 11 a pack its directory does not name). -/
def State.offerFault (s : State) (image : ImageIn) : Option (Nat × Nat) :=
  match imageFault image s.nextFirmware with
  | some b => some b
  | none => if image.packs.all (inDirectory image) then none else some (Bad.directory, 320 + image.cfgLen)

/-- The image's MACHINE_ID is the running image's, or need not be (R489). -/
def State.machineOk (s : State) (image : ImageIn) (newMachine : Bool) : Bool :=
  newMachine || match s.hmp.image with
    | some r => r.machineId = image.machineId
    | none => true

/-- Table 14.11 begins: from here on the key carries no valid header until it ends. -/
def State.startWrite (s : State) (session : Nat) (image : ImageIn) : State :=
  (({ s with hmp := { s.hmp with writing := some (image, session) } }).wr R.HMP_STAT_WRITING 1).reply session Res.OK

/-- What refuses a write before its image is looked at: no key (R470), a write in progress (R490). -/
def State.writeRefusal (s : State) (session : Nat) : Option State :=
  if s.hmp.key.isNone then some ((s.log 0xA008 [session]).reply session 0xA008)
  else if s.flag R.HMP_STAT_WRITING then some ((s.log 0xA006 [1]).reply session 0xA006)
  else none

/-- HAMPER_WRITE (R483, R489, R490): a SERVICE session offers an image; one for a worker's key is relayed to the unit it
names, whose answer the session has (13 R459). -/
def execHamperWrite (t session unit : Nat) (image : ImageIn) (newMachine : Bool) (remote : Nat × List Int) (s : State) :
    Host.Outcome State Fault Refusal :=
  let s := s.begin t
  .next (match s.svcRefusal session 0x0030 [Cls.SERVICE] true with
  | some r => s.turnDown session r
  | none =>
    if unit ≠ s.role.unit then
      if s.reaches unit then (s.answer (.trunk 0) 0x31 [unit, session]).reply session remote.1 remote.2
      else s.reply session Res.NO_OBJECT
    else if !s.writeMode then s.reply session Res.MODE_REFUSED
    else match s.writeRefusal session with
      | some z => z
      | none => match s.offerFault image with
        | some (c, o) => (s.log 0xA003 [c, o]).reply session 0xA003
        | none =>
          if !s.machineOk image newMachine then (s.log 0xA007 [image.machineId]).reply session 0xA007
          else s.startWrite session image)

/-- HMP_WRITE (R490, Table 14.11 step 4): the whole image has been read back and compared. A key that did not
compare holds no valid image. -/
def execHmpWrite (t : Nat) (ok : Bool) (s : State) : Host.Outcome State Fault Refusal :=
  let s := s.begin t
  .next (match s.hmp.writing with
    | none => s
    | some (image, _) =>
      let held : ImageIn := if ok then image else noHeader image
      let key := s.hmp.key.map (fun (k : KeyIn) => { k with image := held })
      let s := { s with hmp := { s.hmp with writing := none, key := key } }
      (s.log 0xA005 [bit01 (!ok), image.generation]).wrs [(R.HMP_STAT_PENDING, 1), (R.HMP_STAT_WRITING, 0)])

/-- SHADOW_WRITE_BACK (R482): a SERVICE session has the shadow copy written to the key. -/
def execShadowWriteBack (t session : Nat) (s : State) : Host.Outcome State Fault Refusal :=
  let s := s.begin t
  .next (match s.svcRefusal session 0x0030 [Cls.SERVICE] with
  | some r => s.turnDown session r
  | none =>
    if s.mode ≠ Mode.SERVICE then s.reply session Res.MODE_REFUSED
    else match s.writeRefusal session, s.hmp.shadow with
      | some z, _ => z
      | none, some h => s.startWrite session { h.image with packs := [] }
      | none, none => s.reply session Res.NO_OBJECT)

/-! ### Live and NEXT fields -/

/-- NEXT_FIELD_WRITE (R487; 00 R13, R14): a NEXT field through OBJECT. A field of another access code is refused as
its own code says (00 Table 0.7); one that is RW-LIVE comes here without the protection it needs (13 R462). -/
def execNextFieldWrite (t session index sub value : Nat) (s : State) : Host.Outcome State Fault Refusal :=
  let s := s.begin t
  let key := index * 256 + sub
  .next (match s.svcRefusal session 0x0010 [Cls.MONITOR, Cls.OPERATOR, Cls.MACHINE, Cls.SERVICE, Cls.FLEET], fieldOf key with
    | some r, _ => s.turnDown session r
    | none, none => s.reply session Res.NO_OBJECT
    | none, some d =>
      if !s.mayWrite session key d.acc then s.reply session Res.CLASS
      else match d.acc with
        | .ro => s.reply session Res.ACCESS
        | .th => (s.log 0x1023 [index, sub]).reply session Res.ACCESS
        | .rwStop => s.notLive session key
        | .rwLive => s.reply session Res.E2E_REQUIRED
        | .next => s.nextWrite session key value (s.nextOk key value d))

/-- OPLIM_WRITE (R484, R485): OPMIN or OPMAX judged against the other as it stands. -/
def execOplimWrite (t session fn index : Nat) (maximum : Bool) (value : Nat) (s : State) :
    Host.Outcome State Fault Refusal :=
  .next (s.gated t session (.live (if maximum then R.FN_SP_OPLIM_OPMAX fn index else R.FN_SP_OPLIM_OPMIN fn index))
      (fun (s : State) =>
      let key := if maximum then R.FN_SP_OPLIM_OPMAX fn index else R.FN_SP_OPLIM_OPMIN fn index
    s.liveWrite session key value (s.liveRule key value)))

/-! ### The Rucksack (R491, R492) -/

/-- A worker's place in the tree: the upstream unit and its port (Table 14.4 TREE). -/
def treeOf (img : ImageIn) (unit : Nat) : Option (Nat × Nat) :=
  (img.recs.find? (fun r => r.typ = 2 && r.inst = unit)).bind (fun r => match r.val with
    | .tree up port => some (up, port)
    | _ => none)

/-- The unit found at a port of this unit is the one the Hamper names (12 R435). -/
def State.announced (s : State) (port unit : Nat) : Bool :=
  s.rd (R.TK_STAT_ROLE port) = 2 && s.rd (R.TK_STAT_UNIT port) = unit

/-- The port a worker's Rucksack leaves through, once the worker, or the running worker above it, has
announced itself (R491); none while its Whistle is refused for the cable's delay (03 R120). -/
def State.ruckPort (s : State) (unit : Nat) : Option Nat :=
  match s.hmp.image.bind (fun img => treeOf img unit) with
  | some (0, p) => if s.announced p unit && s.rd (R.TB_WH_ROLE p) ≠ 3 then some p else none
  | some (up, _) => match s.hmp.image.bind (fun img => treeOf img up) with
    | some (0, p) => if s.announced p up && s.md.running.contains up then some p else none
    | _ => none
  | none => none

/-- RUCKSACK_SEND (R491): from the network step on the manager sends a worker its Rucksack. From here on the
worker counts as running until it answers RUCK_BAD (log entry 50). -/
def execRucksackSend (t unit fwLen ms : Nat) (s : State) : Host.Outcome State Fault Refusal :=
  let s := s.begin t
  .next (
    if s.isWorker || !s.configured || s.rst.held || s.rst.step < 9 || s.md.givenUp.contains unit then s
    else match s.ruckPort unit, s.hmp.image with
      | some p, some img =>
        let n := 28 + fwLen + 320 + img.cfgLen
        let run := if s.md.running.contains unit then s.md.running else s.md.running ++ [unit]
        let s := { s with md := { s.md with running := run },
                          hmp := { s.hmp with sent := ins s.hmp.sent unit s.now } }
        (s.answer (.trunk p) 0x55 [unit, n]).log 0xA011 [unit, n, ms]
      | _, _ => s)

/-- Blocks of an image (17 Table 17.1). -/
def manifestBlocks (m : ManifestIn) : Nat := (m.imageLen + 65535) / 65536

/-- The check of 17 R555 that a manifest fails on its own, 0 none: 1 MAGIC, FMT_MAJOR, HW_ID, NSECT or a reserved field, 2
lengths, 3 kinds, 4 its key or signature (log entry 28). A later minor format's reserved fields are not read. -/
def manifestForm (m : ManifestIn) : Nat :=
  let kinds := m.sections.map (fun x => x.kind)
  if m.magic ≠ 0x464D5055 ∨ m.fmtMajor ≠ 1 ∨ m.hwId ≠ 0x4180 ∨ 8 < m.sections.length ∨
      (m.fmtMinor = 0 ∧ m.reserved ≠ 0) then 1
  else if 402653184 < m.imageLen ∨ m.nblocks ≠ manifestBlocks m ∨ m.sections.any (fun x =>
      x.offset % 65536 ≠ 0 || m.imageLen < x.offset + x.length || (x.kind = 6 && 33554432 < x.length)) then 2
  else if kinds.any (fun k => k < 1 || 6 < k || 1 < kinds.count k) ∨ [1, 2, 3, 4, 5].any (fun k => !kinds.contains k) then 3
  else if m.keyId ≠ 2 ∨ !m.sigOk then 4
  else 0

/-- Why a worker turns a Rucksack down: 1 its CRC or its header, 2 the firmware manifest or
its WORKER section's digest (17 R564), 3 the Hamper part, 4 its
MACHINE_ID, 5 no ROLE record for the unit; 0 it does not (R492, Table 14.12; log entry 28). -/
def State.ruckFault (s : State) (ruck : RuckIn) : Nat :=
  let own := match s.hmp.image with
    | some r => r.machineId
    | none => 0
  if !ruck.crcOk || ruck.magic ≠ 0x4B435552 || ruck.fmt ≠ 1 || 33554432 < ruck.fwLen then 1
  else if manifestForm ruck.man ≠ 0 ∨ ruck.man.sections.all (fun x => x.kind ≠ 6 || x.digest ≠ ruck.fwDigest) then 2
  else if (imageFault { ruck.image with packs := [] } ruck.man.version false).isSome then 3
  else if ruck.image.machineId ≠ own then 4
  else if !(ruck.image.recs.any (fun r => r.typ = 1 && r.unit = s.role.unit)) then 5
  else 0

/-- The port a first-hop worker relays a Rucksack through: that of the worker below it which it names (R491). -/
def State.relayPort (s : State) (unit : Nat) : Option Nat :=
  [1, 2, 3, 4].find? (fun p => s.announced p unit)

/-- RUCKSACK_RX (R475, R491, R492; 00 R3, R4; 12 R435; 17 R564): a waiting worker takes its Rucksack and starts, or
answers RUCK_BAD; a first-hop worker relays one for a worker below it unchanged. -/
def execRucksackRx (t : Nat) (ruck : RuckIn) (s : State) : Host.Outcome State Fault Refusal :=
  let s := s.begin t
  let image := ruck.image
  let man := ruck.man
  .next (
    if s.isWorker && ruck.unit ≠ s.role.unit then
      match s.relayPort ruck.unit with
      | some p => s.answer (.trunk p) 0x55 [ruck.unit, 28 + ruck.fwLen + 320 + image.cfgLen]
      | none => s
    else if !s.hmp.waitRuck then s
    else match s.ruckFault ruck with
      | 0 =>
        let inst := (imageRole image).getD {}
        let role : RoleS := { role := 1, unit := s.role.unit, workers := inst.workers, size := inst.size }
        let hops := match treeOf image s.role.unit with
          | some (0, _) => 1
          | _ => 2
        let s := { s with hmp := { s.hmp with waitRuck := false, ruckFw := some man.version },
                          upd := { s.upd with pdStored := some man.version } }
        let s := (s.loadImage { image with packs := [] } role).wrs
          [(R.HMP_STAT_GENERATION, image.generation), (R.TB_STAT_HOPS, hops)]
        s.startUnit ruck.serial
      | c => s.answer (.trunk ((s.upstream).getD 0)) 0xA010 [s.role.unit, c])

/-- A unit given up (R492): functions whose UNIT names it stay stopped with cause FAULT, its bound sources are
missing (04 R159). -/
def State.giveUp (s : State) (unit : Nat) : State :=
  let s := { s with md := { s.md with givenUp := s.md.givenUp ++ [unit] } }
  let s := (List.range 48).foldl (fun (s : State) (f : Nat) =>
    if s.fnUsed f && s.rd (R.FN_CFG_UNIT f) = unit then
      let v := s.fnS f
      let l := if v.causes.contains 4 then v.causes else v.causes ++ [4]
      ((s.setFn f { v with causes := l }).showCause f).wr (R.FN_STAT_STATE f) 1
    else s) s
  s.bindings.foldl (fun (s : State) (n : Nat) =>
    if s.rd (R.OBS_IN_CFG_UNIT n) = unit then
      (s.setBind n { s.bindS n with missing := true }).showBind n else s) s

/-- RUCK_BAD (R492): a worker has turned its Rucksack down; the third failure at one start gives it up. -/
def execRuckBad (t unit cause : Nat) (s : State) : Host.Outcome State Fault Refusal :=
  let s := s.begin t
  .next (
    if s.isWorker || s.md.givenUp.contains unit || (look s.hmp.sent unit).isNone then s
    else
      let n := (look s.hmp.fails unit).getD 0 + 1
      let s := { s with hmp := { s.hmp with fails := ins s.hmp.fails unit n },
                        md := { s.md with running := s.md.running.filter (fun u => u ≠ unit) } }
      let last : Bool := 3 ≤ n
      let s := s.log 0xA010 [unit, cause, bit01 last] 2 false last
      if last then s.giveUp unit else s)

end Sys2Proof.Machine
end

