-- ==== Sys2Proof/Machine/Islands.lean ====
section
/-! DEFINITION. The commands of 01: pace, shed levels, clocked islands and their crossings. -/

namespace Sys2Proof.Machine

/-! ### Pace -/

/-- The plane of a canary ring: 0 control, 1 data, 2 management (01, "Pace"). -/
def ringPlane (r : Nat) : Nat := if r < 4 then 0 else if r < 12 then 1 else 2

/-- A ring's pace in 1/4096 of floor speed, in the 16 bits of PACE (R15, R18). -/
def ringPace (laps floor : Nat) : Nat := if floor = 0 then 0 else min 0xFFFF (laps * 4096 / floor)

/-- The entry thresholds of S1 to S4 (Table 1.3). -/
def shedThresholds : List Nat := [0x1733, 0x14CD, 0x1266, 0x10CD]

/-- The rings that count in a window (R16). -/
def CanaryS.contributing (c : CanaryS) : List Nat :=
  (List.range 16).filter (fun r => !c.excluded.contains r)

/-- The lowest pace of the contributing rings, 0 when there is none (R15, R16). -/
def CanaryS.pace (c : CanaryS) (laps : List Nat) : Nat :=
  match c.contributing.map (fun r => ringPace (laps.getD r 0) (c.floorLaps.getD r 0)) with
  | [] => 0
  | x :: xs => xs.foldl min x

/-- Rings without a lap are excluded from this window on, each raising CANARY_STOP; more than four
exclusions hold shed level S4 (R16). -/
def State.excludeRings (s : State) (laps : List Nat) : State :=
  let newly := s.canary.contributing.filter (fun r => laps.getD r 0 = 0)
  let ex := s.canary.excluded ++ newly
  let s := { s with canary := { s.canary with excluded := ex, s4Hold := s.canary.s4Hold || 4 < ex.length } }
  newly.foldl (fun (s : State) (r : Nat) => s.log 0x1012 [(r : Int), (ringPlane r : Int)]) s

/-- CORE.PACE and CORE.PACEMIN after a window (Table 1.1). -/
def State.publishPace (s : State) (pace : Nat) : State :=
  let s := { s with canary := { s.canary with seen := true } }.wrs
    [(R.CORE_PACE, pace), (R.CORE_PACE_RINGS, s.canary.contributing.length),
     (R.CORE_PACEMIN, if s.canary.seen then min (s.rd R.CORE_PACEMIN) pace else pace)]
  if pace < 0x1000 then s.bump R.CORE_PACEMIN_WINDOWS_LOW 0xFFFF else s

/-- Ten consecutive windows below 1.000 raise CORE_PACE_LOW; ten below 0.950 request SAFE_STOP and log it
with the escalation flag, once when both complete together (R19, R20). The pace cause of SAFE_STOP clears
after 10 s at or above 1.000 (15 R512). -/
def State.judgeLow (s : State) (pace : Nat) : State :=
  let low := if pace < 0x1000 then s.canary.lowRun + 1 else 0
  let very := if pace < 0x0F33 then s.canary.veryLowRun + 1 else 0
  let ok := if pace < 0x1000 then 0 else s.canary.okRun + 1
  let s := { s with canary := { s.canary with lowRun := low, veryLowRun := very, okRun := ok } }
  let s :=
    if very = 10 then (s.log 0x1010 [pace, 1] 2 true true).setCause 14
    else if low = 10 then s.log 0x1010 [pace, 0]
    else s
  if ok = 10000 then s.clearCause 14 else s

/-- A shed level entered or left, logged as CORE_SHED; a climb needs its own 2 s (R28, R29). -/
def State.setShed (s : State) (level pace : Nat) : State :=
  let old := s.rd R.CORE_PACE_SHED
  let s := { s with canary := { s.canary with aboveRun := 0 } }
  if old = level then s else ((s.wr R.CORE_PACE_SHED level).log 0x1011 [old, level, pace]).releaseIdle

/-- The level that the last three windows enter from a level (R27): with PACE below the next deeper threshold in
all three, the deepest level whose threshold it passed within them; else the level itself. -/
def deeperLevel (recent : List Nat) (level : Nat) : Nat :=
  if recent.length = 3 && level < 4 && recent.all (fun p => p < shedThresholds.getD level 0) then
    (List.range 4).foldl (fun d i => if recent.any (fun p => p < shedThresholds.getD i 0) then i + 1 else d) level
  else level

/-- Three consecutive windows enter a deeper level; 2,000 windows in a row at or above the present level's
threshold plus 0.050 leave it for the next shallower one (R27, R28). DESIGN CHOICE: 'in every window for 2 s' is
2,000 windows of 1 ms, the first of them counted (log entry 111). -/
def State.judgeShed (s : State) (pace : Nat) : State :=
  let recent := (pace :: s.canary.recent).take 3
  let s := { s with canary := { s.canary with recent := recent } }
  let level := s.rd R.CORE_PACE_SHED
  let deepest := deeperLevel recent level
  let above :=
    if 0 < level ∧ shedThresholds.getD (level - 1) 0 + 205 ≤ pace then s.canary.aboveRun + 1 else 0
  if s.canary.s4Hold then s.setShed 4 pace
  else if level < deepest then s.setShed deepest pace
  else if 2000 ≤ above then s.setShed (level - 1) pace
  else { s with canary := { s.canary with aboveRun := above } }

/-- CANARY_WINDOW_END (R15, R16, R19, R20, R27): the laps of the 16 rings in the window that ended. -/
def execCanaryWindowEnd (t : Nat) (laps : List Nat) (s : State) : Host.Outcome State Fault Refusal :=
  let s := (s.begin t).excludeRings laps
  let pace := s.canary.pace laps
  .next (((s.publishPace pace).judgeLow pace).judgeShed pace)

/-! ### Clocks and crossings -/

/-- Nominal clocks in kHz, islands 1 to 9 (Table 1.5). -/
def nominalKHz (isl : Nat) : Nat :=
  [0, 32000, 250000, 102300, 750000, 312500, 80000, 1066667, 200000, 245760].getD isl 0

/-- A window's edge count is in range: 75 % to 125 % of nominal in 1 µs, and 90 % to 110 % in 100 µs for
the always-on RC (R32). -/
def clockInRange (isl edges : Nat) : Bool :=
  if isl = 1 then 9 * 3200 ≤ edges * 10 ∧ edges * 10 ≤ 11 * 3200
  else 75 * nominalKHz isl ≤ edges * 100000 ∧ edges * 100000 ≤ 125 * nominalKHz isl

/-- ISL_CLOCK (R32): the monitor's verdict on one window. -/
def execIslClock (t isl edges : Nat) (s : State) : Host.Outcome State Fault Refusal :=
  let s := s.begin t
  .next (
    if clockInRange isl edges then s.wr (R.ISL_STAT_CLKOK isl) 1
    else (s.wr (R.ISL_STAT_CLKOK isl) 0).log 0x1002 [isl, edges] (if isl = 1 then 2 else 1))

/-- An ISL_STALL counted, and logged at most once per island per 1 ms (R43). -/
def State.countStall (s : State) (isl : Nat) (toIsland : Bool) : State :=
  (s.bump (R.ISL_STAT_STALLS isl) 255).logOnce 0x1001 isl 1000000 [isl, bit01 toIsland]

/-- Entries of a core-to-island FIFO: 16, the DRAM controller's 64 (R38). DESIGN CHOICE: the FIFO of the other
direction is as deep (log entry 112). -/
def fifoDepth (isl : Nat) : Nat := if isl = 7 then 64 else 16

/-- The FIFO of a direction. -/
def IslS.fifo (i : IslS) (toIsland : Bool) : List XferS := if toIsland then i.toIsl else i.toCore

/-- The FIFO of a direction written. -/
def IslS.setFifo (i : IslS) (toIsland : Bool) (l : List XferS) : IslS :=
  if toIsland then { i with toIsl := l } else { i with toCore := l }

/-- The transfers of a direction that wait. -/
def IslS.waitingOf (i : IslS) (toIsland : Bool) : List XferS :=
  (i.waiting.filter (fun p => p.1 = toIsland)).map (fun p => p.2)

/-- Waiting transfers of a direction enter the room of its FIFO, oldest first (R38). -/
def IslS.fill (i : IslS) (depth : Nat) (toIsland : Bool) : IslS :=
  let l := i.fifo toIsland
  let w := i.waitingOf toIsland
  let n := depth - l.length
  { i.setFifo toIsland (l ++ w.take n) with
    waiting := i.waiting.filter (fun p => !(p.1 = toIsland)) ++ (w.drop n).map (fun x => (toIsland, x)) }

/-- The reader of a direction reads up to `n` entries, oldest first: each requester that still waits on one is
answered with what crossed, and each place read is taken by the next waiting transfer (R33, R38). -/
def State.readFifo (s : State) (isl : Nat) (toIsland : Bool) : Nat → State
  | 0 => s
  | n + 1 =>
    let i := s.island isl
    match i.fifo toIsland with
    | [] => s
    | x :: rest =>
      let s := s.setIsland isl ((i.setFifo toIsland rest).fill (fifoDepth isl) toIsland)
      let s := match x.who with
        | some r => s.answer (.master r) 0 [(x.data : Int)]
        | none => s
      s.readFifo isl toIsland n

/-- CROSSING_TRANSFER (R33, R38, R39, R43, R44): refused at once when the island's domain is off or it is refusing
after a stall; waiting while nothing crosses before a resynchronisation; else put into the FIFO of its direction,
or waiting for room there. `reads` entries of that direction are then read on the other side: none while the
reader's clock does not advance. -/
def execCrossingTransfer (t isl requester : Nat) (toIsland : Bool) (data reads : Nat) (s : State) :
    Host.Outcome State Fault Refusal :=
  let s := s.begin t
  let i := s.island isl
  .next (
    if !s.islandPowered isl || (s.rd (R.ISL_STAT_RUN isl) = 0 && !s.flag (R.ISL_STAT_HELD isl)) then
      (s.log 0x1005 [isl, requester]).answer (.master requester) 0x1005
    else if i.refusing || s.flag (R.ISL_STAT_HELD isl) then
      (s.countStall isl toIsland).answer (.master requester) 0x1001
    else
      let i := { i with waiting := i.waiting ++ [(toIsland, { who := some requester, data })] }
      if s.flag (R.ISL_STAT_RESYNC isl) || i.needSync then s.setIsland isl i
      else (s.setIsland isl (i.fill (fifoDepth isl) toIsland)).readFifo isl toIsland reads)

/-- The first entry a requester waits on stays unread with nobody waiting on it. -/
def forsake (r : Nat) : List XferS → List XferS
  | [] => []
  | x :: t => if x.who = some r then { x with who := none } :: t else x :: forsake r t

/-- The first waiting transfer of a requester in a direction is withdrawn. -/
def withdraw (d : Bool) (r : Nat) : List (Bool × XferS) → List (Bool × XferS)
  | [] => []
  | p :: t => if p.1 = d && p.2.who = some r then t else p :: withdraw d r t

/-- ISL_STALL (R42, R43): a waiting transfer's own timeout; new requests are refused from here on. An entry that
stands in the FIFO stays there unread until the resynchronisation discards it (R40). -/
def execIslStall (t isl requester : Nat) (toIsland : Bool) (s : State) :
    Host.Outcome State Fault Refusal :=
  let s := s.begin t
  let i := s.island isl
  let inFifo := (i.fifo toIsland).any (fun x => x.who = some requester)
  let j := if inFifo then i.setFifo toIsland (forsake requester (i.fifo toIsland))
           else { i with waiting := withdraw toIsland requester i.waiting }
  .next (
    if inFifo || (i.waitingOf toIsland).any (fun x => x.who = some requester) then
      (((s.setIsland isl { j with refusing := true }).countStall isl toIsland).answer
        (.master requester) 0x1001).islandDown isl
    else s)

/-- The entries of both FIFOs that no one has read. -/
def IslS.unread (i : IslS) : List XferS := i.toIsl ++ i.toCore

/-- FIFO_RESYNC (R39, R40, Table 1.7): after the island's release, with its domain on, unread entries of both
sides are discarded and counted, the requesters that wait on one end with ISL_STALL; with the island's clock
running the sequence completes and waiting transfers enter the FIFOs, else it stays in progress. -/
def execFifoResync (t isl : Nat) (s : State) : Host.Outcome State Fault Refusal :=
  let s := s.begin t
  let i := s.island isl
  .next (
    if s.flag (R.ISL_STAT_HELD isl) || s.rst.held || !s.islandPowered isl then s
    else
      let s := (s.failTransfers (i.unread.filterMap (fun x => x.who))).wr (R.ISL_STAT_DROPS isl)
        (satAdd 255 (s.rd (R.ISL_STAT_DROPS isl)) i.unread.length)
      let e := { i with toIsl := [], toCore := [] }
      if s.flag (R.ISL_STAT_CLKOK isl) then
        let e := { e with refusing := false, needSync := false }
        ((s.setIsland isl ((e.fill (fifoDepth isl) true).fill (fifoDepth isl) false)).wr
          (R.ISL_STAT_RESYNC isl) 0).islandUp isl
      else (s.setIsland isl { e with needSync := true }).wr (R.ISL_STAT_RESYNC isl) 1)

/-- ISL_RESYNC_FAIL (R41): not complete in time, so the island counts as one with a stopped clock. -/
def execIslResyncFail (t isl : Nat) (s : State) : Host.Outcome State Fault Refusal :=
  let s := s.begin t
  .next (
    if s.flag (R.ISL_STAT_RESYNC isl) then
      (((s.setIsland isl { s.island isl with refusing := true }).wr (R.ISL_STAT_RESYNC isl) 0).log
        0x1003 [isl]).islandDown isl
    else s)

/-- ISLAND_RESTART (R46, R47, Table 1.8): islands 1, 2 and 7 fail into a clock-failure reset of System
scope; island 8 changes to its backup oscillator first, and a power-die PLL still not locked 10 ms after
that reset's release is the power-die clock cause of SAFE_STOP; the others restart in block scope. -/
def execIslandRestart (t isl : Nat) (ok : Bool) (s : State) : Host.Outcome State Fault Refusal :=
  let s := s.begin t
  .next (
    if isl = 3 ∨ isl = 4 ∨ isl = 5 ∨ isl = 6 ∨ isl = 9 then
      if s.flag (R.ISL_STAT_HELD isl) then s else s.blockRestart isl ok
    else if isl = 8 then
      if s.vdBackup && !s.inReset then
        if ok then s.setBackup false else s.setCause 13
      else (s.setBackup true).assertReset 4 2 3
    else s.assertReset 4 2 3)

end Sys2Proof.Machine
end

