-- ==== Sys2Proof/Machine/Modes.lean ====
section
/-! DEFINITION. The commands of 15's modes, SLEEP and foreground tests (R505 to R515). -/

namespace Sys2Proof.Machine

/-! ### Requests and transitions -/

/-- MODE_REFUSED (R506): requested mode, current mode, requester. -/
def State.refuseMode (s : State) (session target : Nat) : State :=
  (s.log 0xB021 [target, s.mode, session]).reply session Res.MODE_REFUSED

/-- The first worker of the installation that is not running (R506). -/
def State.notRunning (s : State) : Option Nat :=
  ((List.range s.role.workers).map (· + 1)).find? (fun u => !s.md.running.contains u)

/-- A mode request as the gate reaches it (R506, R508, R509, R561, R597): the table, the class, the causes
of SAFE_STOP and the transition's condition, in this order (log entry 43). A manager held by 00 R5 leaves
CONFIG for no mode. -/
def State.judgeMode (s : State) (session target : Nat) : State :=
  if s.isWorker || s.hmp.sizeHeld || s.rd R.UPD_STAT_STATE = 5 then s.refuseMode session target
  else match modeClass s.mode target with
    | none => s.refuseMode session target
    | some c =>
      if !s.classAtLeast session c then s.reply session Res.CLASS
      else if s.rd R.MODE_STAT_CAUSES ≠ 0 ∧ target ≠ Mode.SAFE_STOP then s.refuseMode session target
      else if s.mode = Mode.SERVICE ∧ s.flag R.HMP_STAT_WRITING then
        (s.log 0xA006 [0]).reply session 0xA006
      else if target = Mode.WALK_HOME ∧ !s.flag R.WH_STAT_EN then s.refuseMode session target
      else match (if target = Mode.HARVEST then s.notRunning else none) with
        | some u => (s.log 0xB022 [u]).reply session 0xB022
        | none => (s.reply session Res.OK).startTransition target

/-- MODE_REQUEST (R506 to R509; 02 R58): a request made during a transition waits in the gate's queue until
it has completed. -/
def execModeRequest (t session target : Nat) (s : State) : Host.Outcome State Fault Refusal :=
  .next (s.gated t session (.mode target) (fun (s : State) => s.judgeMode session target))

/-- MODE_TRANSITION_START (R507, R512): the transition to SAFE_STOP that a cause requests. -/
def execModeTransitionStart (t target : Nat) (s : State) : Host.Outcome State Fault Refusal :=
  let s := s.begin t
  .next (
    if target = Mode.SAFE_STOP && s.md.wanted && s.md.trans.isNone && !s.isWorker && !s.hmp.sizeHeld &&
        (modeClass s.mode Mode.SAFE_STOP).isSome then s.startTransition Mode.SAFE_STOP
    else s)

/-- MODE_CHANGE (R507, R509, R510): the transition completes; a manager's when every running worker has
reported, the one to SLEEP after the Postcard's write (Table 15.9); the one to UPDATE ends in a software reset of Core scope
(17 Table 17.3 step 2). -/
def execModeChange (t : Nat) (reported : List Nat) (s : State) : Host.Outcome State Fault Refusal :=
  let s := s.begin t
  .next (match s.md.trans with
    | none => s
    | some x =>
      if x.target = Mode.SLEEP then (if s.pcIdle then s.goSleep x else s)
      else if x.target = Mode.UPDATE then (s.completeTransition x).assertReset 6 Scope.core 3
      else if !s.isWorker && s.md.running.any (fun u => !reported.contains u) then s
      else s.completeTransition x)

/-- WORKER_MODE_NOTICE (R509; 17 Table 17.3): a worker starts the manager's transition; an update notice
resets it in Core scope. -/
def execWorkerModeNotice (t target : Nat) (s : State) : Host.Outcome State Fault Refusal :=
  let s := s.begin t
  .next (
    if !s.isWorker || [Mode.OFF, Mode.SLEEP, Mode.TRAILHEAD].contains s.mode then s
    else if target = Mode.UPDATE then s.assertReset 6 Scope.core 3
    else if s.mode = Mode.CONFIG || s.modeTarget = target then s
    else s.startTransition target)

/-- WORKER_SAFE_STOP_REPORT (R509, R512): a worker has a cause of SAFE_STOP, or no more. -/
def execWorkerSafeStopReport (t unit : Nat) (holds : Bool) (s : State) : Host.Outcome State Fault Refusal :=
  let s := s.begin t
  .next (
    if s.isWorker then s
    else
      let l := s.md.workerCauses.filter (· ≠ unit)
      let l := if holds then l ++ [unit] else l
      let s := { s with md := { s.md with workerCauses := l } }
      if holds then s.setCause Cause.worker
      else if l.isEmpty then s.clearCause Cause.worker else s)

/-! ### SLEEP and wake -/

/-- Modes SLEEP is entered from (Table 15.8). -/
def sleepFrom : List Nat :=
  [Mode.ROAD, Mode.FIELD_IDLE, Mode.HARVEST, Mode.SERVICE, Mode.TEST, Mode.SAFE_STOP, Mode.WALK_HOME]

/-- Both wake lines have been inactive for SLEEP_DELAY and nothing defers the transition (R510). -/
def State.sleepDue (s : State) : Bool :=
  sleepFrom.contains s.mode && s.md.trans.isNone && !s.flag R.HMP_STAT_WRITING &&
    s.rd R.UPD_STAT_STATE ≠ 5 && s.md.tests.all (fun x => x.started.isNone) &&
    match s.pwr.wakeOff with
    | some a => a + s.rd R.PWR_CFG_SLEEP_DELAY * 1000000000 ≤ s.now
    | none => false

/-- What step 2 of Table 15.9 saves: harvest time while LOCKED (03 R104), the retention record (07 R275), the
active pack's slot (04 R177), the mode for START_MODE, operating hours and an ANCHOR (16 R532, R534). -/
def State.sleepSave (s : State) (mode : Nat) : State :=
  let s := if !s.isWorker && s.rd R.TB_STAT_QUAL = 1 then { s with tb := { s.tb with nandTime := s.harvest } } else s
  let saved := s.packNow.map (fun p => (s.rd R.OBS_STAT_PACK, p.vendor, p.packId, p.crop))
  let s := { s with obs := { s.obs with saved := saved }, md := { s.md with saved := mode } }
  (s.writeRetention.bbAnchor).saveCtrl

/-- SLEEP_ENTRY (R510, Table 15.9 steps 1 and 2): step 3, the Postcard's write, is requested (16 R545). -/
def execSleepEntry (t : Nat) (s : State) : Host.Outcome State Fault Refusal :=
  let s := s.begin t
  .next (if s.sleepDue then ((s.startTransition Mode.SLEEP).sleepSave s.mode).pcRequest else s)

/-- A wake line counts: its enable bit of PWR.CFG, or no image has loaded PWR.CFG since the supply came
(R511; log entry 44). -/
def State.wakeEnabled (s : State) (line : Nat) : Bool :=
  (look s.reg (if line = 1 then R.PWR_CFG_WAKE1_EN else R.PWR_CFG_WAKE2_EN)).getD 1 = 1

/-- An enabled wake line is active. -/
def State.awake (s : State) : Bool :=
  (bitOf s.pwr.wake 0 && s.wakeEnabled 1) || (bitOf s.pwr.wake 1 && s.wakeEnabled 2)

/-- WAKE (R511): a line's level past its filter. It abandons a transition to SLEEP by one back to the mode it
came from; in SLEEP it starts the release, a refresh under way ending with result 2 (07 R277). -/
def execWake (t line : Nat) (active : Bool) (s : State) : Host.Outcome State Fault Refusal :=
  let s := s.begin t
  let s := { s with pwr := { s.pwr with wake := setBit s.pwr.wake (line - 1) active } }
  let s := { s with pwr := { s.pwr with
      wakeOff := if s.awake then none else some (s.pwr.wakeOff.getD s.now) } }
  .next (
    if !s.awake then s
    else if s.mode = Mode.SLEEP then
      if s.rst.held then s
      else
        let s := if s.gn.refresh.isSome then s.endRefresh 2 else s
        { s with rst := { s.rst with held := true, sleepWake := true, clearAt := s.now } }
    else match s.md.trans with
      | some x => if x.target = Mode.SLEEP then s.startTransition x.source else s
      | none => s)

/-! ### Foreground tests -/

/-- The function whose actuator a tested channel is (05 Table 5.2). -/
def State.testFn (s : State) (q : TestIn) : Option Nat := s.fnOfChannel q.kind q.chan

/-- A request's fields lie in their ranges and name a channel the test can run on (Tables 15.11, 15.12). -/
def State.testFields (s : State) (q : TestIn) : Bool :=
  1 ≤ q.test && q.test ≤ 3 && (q.kind = 1 || q.kind = 2) && 1 ≤ q.chan &&
    q.chan ≤ (if q.kind = 1 then 32 else 24) &&
    (if q.kind = 1 then s.rd (R.VD_CFG_KIND q.chan) ≠ 0 else s.rd (R.LS_CFG_USE q.chan) ≠ 0) &&
    (q.test = 2 || q.kind = 1) &&
    (if q.test = 3 then 1 ≤ q.limit && q.limit ≤ 4000 && s.rd (R.VD_CFG_KIND q.chan) = 1 &&
        (match s.testFn q with
         | some f => (s.finalLoop f).isSome
         | none => false)
     else q.limit = 0 && q.thresh = 0)

/-- Another test runs on the channel or on its valve bank, or OPEN_LOAD finds the channel on (R515,
Table 15.11; log entry 45). -/
def State.testClash (s : State) (q : TestIn) : Bool :=
  s.md.tests.any (fun x => x.started.isSome && x.req.kind = q.kind &&
    (x.req.chan = q.chan || (q.kind = 1 && bankOf x.req.chan = bankOf q.chan))) ||
  (q.test = 2 && (if q.kind = 1 then s.phase q.chan ≠ Ph.off else (s.sw q.chan).out))

/-- A test's length, ns (Table 15.11). -/
def testLength (q : TestIn) : Nat :=
  match q.test with
  | 1 => 20000000
  | 2 => 2000000
  | _ => min 20000000000 (q.limit * 5000000)

/-- A quiet slot begins (R515): the function is stopped, or its command has been 0 for 1 s and no queued
launch targets it or the channel before the slot ends. -/
def State.quietSlot (s : State) (q : TestIn) : Bool :=
  match s.testFn q with
  | none => true
  | some f =>
    let zero : Bool := match (s.fnS f).zeroAt with
      | some a => a + 1000000000 ≤ s.now
      | none => false
    s.fnStopped f || (zero &&
      s.countWhere (fun e => s.fnOfAction e.action = some f && e.instant < s.harvest + testLength q) = 0)

/-- A test starts: 500 mA regulated without dither, the sense current, or the ramp from 0 (Table 15.11). -/
def State.startTest (s : State) (q : TestIn) (session : Nat) : State :=
  let rest := s.md.tests.filter (fun x => !(x.req = q && x.started.isNone))
  let y := match (s.testFn q).bind s.finalLoop with
    | some l => s.rdF (R.CE_L_NOW_Y l)
    | none => 0
  let x : TestS := { req := q, session, asked := s.now, started := some s.now, y0 := y }
  let s := { s with md := { s.md with tests := rest ++ [x] } }
  let ph := if s.rd (R.VD_CFG_KIND q.chan) = 1 then Ph.prop else Ph.hold
  let s := if q.kind = 1 && q.test = 1 then (s.unqueue q.chan).regulate q.chan ph 500
           else if q.test = 3 then (s.unqueue q.chan).regulate q.chan Ph.prop 0 else s
  s.reply session Res.OK

/-- TEST_BUSY: no slot for a test (R515). -/
def State.busyTest (s : State) (q : TestIn) (session : Nat) : State :=
  (s.log 0xB031 [q.test, s.role.unit, q.chan]).reply session 0xB031

/-- FOREGROUND_TEST (R515): in TEST at once, the channel's function stopped first; in HARVEST in a quiet
slot, deferred until one begins; elsewhere refused. -/
def execForegroundTest (t session : Nat) (req : TestIn) (s : State) :
    Host.Outcome State Fault Refusal :=
  .next (s.gated t session (.test) (fun (s : State) =>
    if !s.classAtLeast session Cls.SERVICE then s.reply session Res.CLASS
    else if req.unit ≠ s.role.unit then s.answer (.trunk 0) 0x21 [req.unit, req.test, req.kind, req.chan, session]
    else if s.mode ≠ Mode.TEST ∧ s.mode ≠ Mode.HARVEST then
      (s.log 0xB032 [req.test, s.mode]).reply session 0xB032
    else if !s.testFields req then s.reply session Res.VALUE
    else if s.mode = Mode.TEST then
      let s := match s.testFn req with
        | some f => if s.fnStopped f then s else s.stopFn f 1
        | none => s
      if s.testClash req then s.busyTest req session else s.startTest req session
    else if s.testClash req then s.busyTest req session
    else if s.quietSlot req then s.startTest req session
    else if s.md.tests.any (fun x => x.req = req && x.started.isNone) then s
    else
      let x : TestS := { req, session, asked := s.now }
      { s with md := { s.md with tests := s.md.tests ++ [x] } }))

/-- TEST_BUSY (R515): 10 s have passed without a quiet slot. -/
def execTestBusy (t kind chan : Nat) (s : State) : Host.Outcome State Fault Refusal :=
  let s := s.begin t
  let due := fun (x : TestS) => x.started.isNone && x.req.kind = kind && x.req.chan = chan &&
    x.asked + 10000000000 ≤ s.now
  .next (match s.md.tests.find? due with
    | some x =>
      ({ s with md := { s.md with tests := s.md.tests.filter (fun y => !due y) } }).busyTest x.req x.session
    | none => s)

/-- A running test's result and value, once it ends (Table 15.11; results 0 measured, load or moved, 1 OPEN or NOT_MOVED,
2 ABORTED, log entry 28): the resistance after 20 ms; load or none after 2 ms; the current at which the measurement of
the function's loop has moved by more than THRESH, or that it has not moved up to LIMIT. -/
def State.testOutcome (s : State) (x : TestS) (load : Bool) (ohms : Nat) : Option (Nat × Nat) :=
  let due : Bool := x.started.getD s.now + testLength x.req ≤ s.now
  match x.req.test with
  | 1 => if due then some (0, ohms) else none
  | 2 => if due then some (bit01 (!load), 0) else none
  | _ =>
    let y := match (s.testFn x.req).bind s.finalLoop with
      | some l => s.rdF (R.CE_L_NOW_Y l)
      | none => x.y0
    if f32 x.req.thresh < absQ (y - x.y0) then some (0, s.testCurrent x)
    else if due then some (1, 0) else none

/-- TEST_RESULT (R515): the running test of a channel ends with its result; `load` and `ohms` are what the channel shows.
COIL_RES fills NOW.RES. The channel goes back to its command: off, or its function's stopped state. -/
def execTestResult (t kind chan : Nat) (load : Bool) (ohms : Nat) (s : State) : Host.Outcome State Fault Refusal :=
  let s := s.begin t
  let here := fun (x : TestS) => x.started.isSome && x.req.kind = kind && x.req.chan = chan
  let found := (s.md.tests.find? here).bind (fun (x : TestS) =>
    (s.testOutcome x load ohms).map (fun (o : Nat × Nat) => (x, o.1, o.2)))
  .next (match found with
    | some (x, result, value) =>
      let s := { s with md := { s.md with tests := s.md.tests.filter (fun y => !here y) } }
      let s := if x.req.test = 1 then s.wr (R.VD_NOW_RES chan) value else s
      let s := if x.req.test = 2 then s
        else
          let s := s.valveOff chan false
          match s.testFn x.req with
          | some f => if s.fnStopped f then s.orderStopped f else s
          | none => s
      (s.log 0xB030 [x.req.test, s.role.unit, chan, result, value]).reply x.session Res.OK
        [x.req.test, result, value]
    | none => s)

/-! ### Background tests -/

/-- MODE_IMAGE (R514): a loaded section fails its CRC; a reset of Core scope loads the sections again. -/
def execModeImage (t sec : Nat) (s : State) : Host.Outcome State Fault Refusal :=
  let s := s.begin t
  .next (
    if [Mode.OFF, Mode.SLEEP, Mode.TRAILHEAD].contains s.mode then s
    else (s.assertReset 6 Scope.core 3).log 0xB024 [sec])

/-- THERMOS_CAPACITY_TEST (R514): every 24 h after the start's, in every mode from CONFIG on. -/
def execThermosCapacityTest (t : Nat) (ok : Bool) (capacity : Nat) (s : State) :
    Host.Outcome State Fault Refusal :=
  let s := s.begin t
  .next (
    if [Mode.OFF, Mode.SLEEP, Mode.TRAILHEAD].contains s.mode || s.now < s.pwr.capAt + 86400000000000 then s
    else
      let s := { s with pwr := { s.pwr with capAt := s.now } }
      if ok then s.wr R.PWR_STAT_THERMOS_OK 1
      else (s.wr R.PWR_STAT_THERMOS_OK 0).log 0xB006 [capacity, 0])

end Sys2Proof.Machine
end

