-- ==== Sys2Proof/Machine/Observer.lean ====
section
/-! DEFINITION. The commands of 04: the observer's step, its sources and its packs. -/

namespace Sys2Proof.Machine

/-! ### The gather -/

/-- What a step's gather does with a sample (R154, R155): future, on time, late, or to be discarded. -/
inductive Take where
  | future | onTime | late | discard
deriving DecidableEq, Repr

/-- A sample designated by the instant `d` at the gather of the step launched at `t0`. -/
def takeAt (t0 d : Int) : Take :=
  if t0 < d then .future
  else if t0 - 2000000 < d then .onTime
  else if t0 - 6000000 < d then .late
  else .discard

/-- A sample counted in its source's last 10 s (R156), and a source present again at an on-time sample once
nothing makes it missing (R159). -/
def State.countSample (s : State) (n : Nat) (onTime : Bool) : State :=
  let b := s.bindS n
  let hist := b.hist.filter (fun e => s.now < e.1 + 10000000000) ++ [(s.now, !onTime)]
  let back := onTime && !s.srcFault n
  (s.setBind n { b with hist := hist, missing := b.missing && !back }).showBind n

/-- One waiting sample at a gather. -/
def State.gatherOne (s : State) (t0 : Int) (x : ObsIn) : State :=
  if (s.descOf x.bind).isNone then s
  else match takeAt t0 x.at_ with
    | .future => { s with obs := { s.obs with waiting := s.obs.waiting ++ [x] } }
    | .onTime =>
      let s := s.countSample x.bind true
      if (s.bindS x.bind).drift then s else { s with obs := { s.obs with taken := s.obs.taken ++ [x] } }
    | .late =>
      let s := (s.countSample x.bind false).bump R.OBS_LATE 0xFFFFFFFF
      if (s.bindS x.bind).drift then s else { s with obs := { s.obs with taken := s.obs.taken ++ [x] } }
    | .discard => (s.countSample x.bind false).bump R.OBS_LATE_DISCARDED 0xFFFFFFFF

/-- The inputs of a step in the order of their stamps (R154). -/
def State.stampOrder (s : State) : State :=
  { s with obs := { s.obs with taken := s.obs.taken.mergeSort (fun x y => x.stamp ≤ y.stamp) } }

/-- OBS_GATHER_CLOSE (R142, R154, R155): 200 µs after the launch the samples designated for the step that have arrived
by then, and late ones, are taken; a carried-over input stays taken (R145). -/
def execObsGatherClose (t : Nat) (s : State) : Host.Outcome State Fault Refusal :=
  let s := s.begin t
  .next (match s.obs.step with
    | some st =>
      if st.closed || s.harvest < st.t0 + 200000 then s
      else
        let (w, rest) := s.obs.waiting.partition (fun x => x.arrived ≤ st.t0 + 200000)
        let s := { s with obs := { s.obs with waiting := rest, step := some { st with closed := true } } }
        (w.foldl (fun (s : State) (x : ObsIn) => s.gatherOne st.t0 x) s).stampOrder
    | none => s)

/-- OBS_SAMPLE_ARRIVE (R140, R152, R154, R157): a free-running source's time is corrected by its offset; a
worker forwards the sample to the manager. -/
def execObsSampleArrive (t bind : Nat) (time : Int) (raw : Nat) (s : State) :
    Host.Outcome State Fault Refusal :=
  let s := s.begin t
  let b := s.bindS bind
  let own : Bool := s.rd (R.OBS_IN_CFG_UNIT bind) = s.role.unit
  let stamp := if s.flag (R.OBS_IN_CFG_FREE bind) && own then time - b.offset else time
  let value := toF32 (f32 raw * s.rdF (R.OBS_IN_SCALE_GAIN bind) + s.rdF (R.OBS_IN_SCALE_OFFSET bind))
  let at_ := stamp + (s.rd (R.OBS_IN_CFG_LATENCY bind) * 10000 : Nat)
  let x : ObsIn := { bind, at_, stamp, value, arrived := s.harvest }
  let period := match b.lastTime with
    | some l => if l < time then (time - l).toNat else b.period
    | none => b.period
  let s := s.setBind bind { b with lastTime := some time, period := period }
  .next (
    if s.isWorker then s.answer (.trunk 0) 0x43 [bind, stamp, raw]
    else if (s.descOf bind).isNone then s
    else
      let s := s.setBind bind { s.bindS bind with lastArr := some s.now }
      let s := if s.rd (R.OBS_IN_CFG_CLASS bind) = 6 ∧ s.rd (R.OBS_IN_CFG_ORDINAL bind) = 0 then s.noteMoist stamp value
               else s
      if s.flag R.OBS_STAT_RUN then { s with obs := { s.obs with waiting := s.obs.waiting ++ [x] } } else s)

/-- SOURCE_MISSING (R159): silence past its limit, a fault of the source's island, port or input, or a unit
that is not running. -/
def execSourceMissing (t bind : Nat) (unitDown : Bool) (s : State) : Host.Outcome State Fault Refusal :=
  let s := s.begin t
  .next (
    if (s.descOf bind).isSome && (unitDown || s.overdue bind || s.srcFault bind) then
      (s.setBind bind { s.bindS bind with missing := true }).showBind bind
    else s)

/-- The estimate a binding judges: its field node's last time exchange, or the operands' (R157). -/
def State.estimateFor (s : State) (bind : Nat) (offset : Int) (unc : Nat) : Option (Int × Nat × Nat) :=
  if s.rd (R.OBS_IN_CFG_SRC_TYPE bind) = 2 && s.rd (R.OBS_IN_CFG_UNIT bind) = s.role.unit then
    ((look s.lk.node (s.rd (R.OBS_IN_CFG_SRC_INDEX bind))).getD {}).est
  else some (offset, unc, s.now)

/-- OFFSET_ESTIMATE (R157, R158): valid when its uncertainty is at most a quarter of the sample period. -/
def execOffsetEstimate (t bind : Nat) (offset : Int) (unc : Nat) (s : State) :
    Host.Outcome State Fault Refusal :=
  let s := s.begin t
  .next (
    if !s.flag (R.OBS_IN_CFG_FREE bind) then s
    else match s.estimateFor bind offset unc with
      | some (o, u, made) =>
        let s := if 4 * u ≤ s.samplePeriod bind then
            s.setBind bind { s.bindS bind with est := some made, offset := o }
          else s
        (s.judgeDrift bind).wr (R.OBS_IN_STAT_OFFSET_AGE bind) (s.offsetAge bind)
      | none => s.judgeDrift bind)

/-- OFFSET_INVALID (R157, R158): 3 s after an estimate its validity ends and the drift bound is judged. -/
def execOffsetInvalid (t bind : Nat) (s : State) : Host.Outcome State Fault Refusal :=
  .next ((s.begin t).judgeDrift bind)

/-! ### The step -/

/-- A step that is not at its output 2 ms after its launch is abandoned (R145, R146, R179): the latent state stays that of
the step before, its inputs stay taken for the next step. -/
def State.obsOverrun (s : State) : State :=
  match s.obs.step with
  | none => s
  | some st =>
    let s := (s.bump R.OBS_OVERRUN_OVERRUNS 0xFFFF).bump R.OBS_OVERRUN_CONSEC 255
    let n := s.rd R.OBS_OVERRUN_CONSEC
    let s := { s with obs := { s.obs with step := none, onTime := 0,
                                          overrunOn := s.obs.overrunOn || 3 ≤ n } }
    s.logOnce 0x3004 0 1000000000 [st.k, n]

/-- OBS_OVERRUN (R145, R146). -/
def execObsOverrun (t : Nat) (s : State) : Host.Outcome State Fault Refusal :=
  let s := s.begin t
  .next (match s.obs.step with
    | some st => if st.t0 + 2000000 ≤ s.harvest then s.obsOverrun else s
    | none => s)

/-- OBS_STEP (R142, R147, R171, R178; 03 R137): at an instant of a class 0xB generator the step is launched; a pack change
takes the observer to D4 first. -/
def execObsStep (t : Nat) (instant : Int) (s : State) : Host.Outcome State Fault Refusal :=
  let s := s.begin t
  if !(List.range 512).any (fun g => s.rd (R.LN_PG_CFG_ACTION g) = 0xB000 && s.launches g instant s.obs.launched) then
    .next s
  else
  let s := { s with obs := { s.obs with launched := some (instant, s.tb.steps) } }.obsOverrun
  let s := if s.obs.select.isSome && !s.obs.changing then
      let s := s.obsStop 0x34
      { s with obs := { s.obs with changing := true } }
    else s
  .next (
    if !s.flag R.OBS_STAT_RUN then s
    else
      let k := s.obs.k
      let left := if s.flag R.OBS_STAT_WARMING then min 0xFFFF ((s.obs.warmK - k + 4) / 5) else 0
      { s with obs := { s.obs with k := k + 1, step := some { k, t0 := instant } } }.wr
        R.OBS_STAT_WARM_LEFT left)

/-! ### The step's output -/

/-- LATE entered above 5 % and left at 1 % of the last 10 s (R156, R163, R179). -/
def State.judgeLate (s : State) (n : Nat) : State :=
  let b := s.bindS n
  let hist := b.hist.filter (fun e => s.now < e.1 + 10000000000)
  let total := hist.length
  let bad := (hist.filter (fun e => e.2)).length
  let pct := if total = 0 then 0 else (400 * bad + total) / (2 * total)
  let late := if b.late then !(bad * 100 ≤ total) else total < bad * 20
  let s := (s.setBind n { b with hist := hist, late := late }).wr (R.OBS_IN_STAT_LATEPCT n) pct
  if late = b.late then s else s.logOnce 0x3002 n 1000000000 [n, bit01 late, pct]

/-- LYING by the mean residual of the last 250 steps (R160, R179; log entry 39). -/
def State.judgeLie (s : State) (net : NetIn) (n : Nat) : State :=
  let b := s.bindS n
  let res := (b.res ++ [(look net.residuals n).getD 0]).drop (b.res.length - 249)
  let lim : Rat := match s.descOf n, s.packNow with
    | some d, some p => if d.lieLimit = 0 then f32 p.lieLimit else f32 d.lieLimit
    | _, _ => 0
  let mean : Rat := (res.foldl (fun q r => q + f32 r) 0) / 250
  let lying : Bool :=
    if res.length < 250 then b.lying
    else if b.lying then !(mean ≤ lim / 2)
    else lim < mean
  let s := s.setBind n { b with res := res, lying := lying }
  if lying = b.lying then s else s.logOnce 0x3005 n 1000000000 [n, bit01 lying, toF32 mean]

/-- A source's states at a completed step (R156 to R160, R163); ego-motion, computed within each step, is on time while
it has a source (R164). -/
def State.judgeSource (s : State) (net : NetIn) (n : Nat) : State :=
  let s := ((s.judgeLate n).judgeLie net n).judgeDrift n
  let s := if s.rd (R.OBS_IN_CFG_SRC_TYPE n) = 6 && !s.obs.egoNone then
             (s.setBind n { s.bindS n with lastArr := some s.now }).countSample n true
           else s
  let s := if s.overdue n || s.srcFault n then s.setBind n { s.bindS n with missing := true } else s
  (s.showBind n).wr (R.OBS_IN_STAT_OFFSET_AGE n) (s.offsetAge n)

/-- Inconsistency over the last 250 steps (R161): entered above 20 %, left at 5 % or less. -/
def State.judgeInnov (s : State) (net : NetIn) : State :=
  let lim : Rat := match s.packNow with
    | some p => f32 p.innovLimit
    | none => 0
  let w := (s.obs.innov ++ [decide (lim < f32 net.innovation)]).drop (s.obs.innov.length - 249)
  let n := (w.filter (fun b => b)).length
  let inc := if s.obs.incons then !(n * 20 ≤ 250) else 50 < n
  let old := s.obs.incons
  let s := { s with obs := { s.obs with innov := w, incons := inc } }
  if inc = old then s else s.log 0x3006 [bit01 inc, (n * 200 / 250 : Nat)]

/-- Where ego-motion comes from (R164): 0 cameras and IMU, 1 GNSS velocity, 2 none. -/
def State.egoSource (s : State) : Nat :=
  if !(s.classDegraded Cl.HDEN || s.classMissing Cl.HDEN) then 0 else if s.gnssFloatFix then 1 else 2

/-- Ego-motion computed in the step; published from step 500 on (R164). -/
def State.publishEgo (s : State) (net : NetIn) (k : Nat) : State :=
  let src := s.egoSource
  let s := { s with obs := { s.obs with egoSub := src = 1, egoNone := src = 2 } }
  if k < 500 then s
  else
    let e : EgoS := { time := s.harvest, speed := if src = 1 then s.gnssSpeed else net.speed,
                      pitch := net.pitch, src }
    ({ s with ego := some e }).publish 4 20 [e.time, e.speed, e.pitch, e.src]

/-- A launch instant of a generator in (t0 + 2 ms, t0 + 4 ms] (R144). -/
def State.dueAfter (s : State) (pg : Nat) (t0 : Int) : Bool :=
  let p : Int := s.rd (R.LN_PG_PERIOD pg)
  let lo := t0 + 2000001
  s.ln.running && s.flag (R.LN_PG_CFG_EN pg) && 0 < p &&
    lo + ((s.rd (R.LN_PG_PHASE pg) : Int) - lo) % p ≤ t0 + 4000000

/-- The sides of a step output (R144; 05 R186, R199): every OBS_BOUND function with a launch in the window,
and clamped values of the others after a change of the degradation step. -/
def State.writeSides (s : State) (net : NetIn) (t0 : Int) : State :=
  let d := s.rd R.OBS_STAT_DSTEP
  if s.optWaits then s
  else
    let s' := (List.range 48).foldl (fun (s : State) (f : Nat) =>
      if !s.fnUsed f || s.rd (R.FN_CFG_SOURCE f) = 4 then s
      else if s.flag (R.FN_CFG_OBS_BOUND f) then
        (if s.dueAfter (s.rd (R.FN_CFG_LAUNCH_PG f)) t0 then
          s.writeSide f (if d ≤ 1 then (look net.ffs f).getD [] else []) t0 (d ≤ 1)
        else s)
      else if s.opt.handOn && s.optFns.contains f then s.writeSide f [] t0 false
      else s) s
    { s' with opt := { s'.opt with handOn := false } }

/-- The output record (R165): published, copied into the snapshot, its transport time kept for yield mapping
(08 R312). -/
def State.publishOut (s : State) (net : NetIn) (k : Nat) (t0 : Int) : State :=
  let r : OutS := { time := s.harvest, stepNo := k, values := net.out }
  let s := s.noteTransport t0 k (net.out.getD 13 0)
  ({ s with out := some r }).publish 3 68 ([r.time, (k : Int)] ++ net.out.map Int.ofNat)

/-- The hold of a degradation step, in steps (Table 4.9). -/
def holdSteps (d : Nat) : Nat := if d = 1 then 2500 else 5000

/-- The degradation step at an output (R168, R169): deeper at once, shallower one step after its hold. The
cause after a climb is that of the condition still holding (log entry 37). -/
def State.degrade (s : State) (k : Nat) : State :=
  let (need, cause) := s.needStep
  let cur := s.rd R.OBS_STAT_DSTEP
  if cur < need then
    ({ s with obs := { s.obs with hold := none } }).setDstep need cause k
  else if need = cur then { s with obs := { s.obs with hold := none } }
  else match s.obs.hold with
    | none => { s with obs := { s.obs with hold := some k } }
    | some h =>
      if k < h + holdSteps cur then s
      else
        let new := cur - 1
        ({ s with obs := { s.obs with hold := if need < new then some k else none } }).setDstep new cause k

/-- The end of warming (R172): logged, and the step of the conditions then holding, without hold. -/
def State.warmDone (s : State) (k : Nat) : State :=
  let s := (s.wrs [(R.OBS_STAT_WARMING, 0), (R.OBS_STAT_WARM_LEFT, 0)]).log 0x3007 [k, (s.obs.warmK / 5 : Nat)]
  let (need, cause) := s.needStep
  ({ s with obs := { s.obs with hold := none } }).setDstep need cause k

/-- The overrun cause clears after 1,000 consecutive steps on time (R146). -/
def State.stepOnTime (s : State) : State :=
  if s.obs.overrunOn then
    let n := s.obs.onTime + 1
    { s with obs := { s.obs with onTime := n, overrunOn := n < 1000 } }
  else s

/-- A step completed (Table 4.1 steps 3 and 4; R142 to R172). -/
def State.obsComplete (s : State) (st : ObsStepS) (net : NetIn) : State :=
  let k := st.k
  let s := { s with obs := { s.obs with step := none, taken := [], latent := net.latent } }
  let s := s.wrs [(R.OBS_OVERRUN_CONSEC, 0), (R.OBS_STAT_STEPNO, k % 2 ^ 32)]
  let s := (s.raise R.OBS_OVERRUN_LONGEST (min 0xFFFF ((s.harvest - st.t0) / 1000).toNat)).stepOnTime
  let s := s.bindings.foldl (fun (s : State) (n : Nat) => s.judgeSource net n) s
  let s := (s.judgeInnov net).publishEgo net k
  let s := { s with obs := { s.obs with mask := s.affected } }
  if s.flag R.OBS_STAT_WARMING && k < s.obs.warmK then s.showOpt
  else
    let s := if s.flag R.OBS_STAT_WARMING then s.warmDone k else s.degrade k
    if s.rd R.OBS_STAT_DSTEP = 3 && s.obs.d3At + 500 * s.rd R.OBS_CFG_HOLD_LIMIT ≤ k then s.obsStop 0x33
    else ((s.publishOut net k st.t0).writeSides net st.t0).showOpt

/-- OBS_STEP_OUTPUT (R142, R144, R145, R160 to R172). -/
def execObsStepOutput (t : Nat) (net : NetIn) (s : State) : Host.Outcome State Fault Refusal :=
  let s := s.begin t
  .next (match s.obs.step with
    | some st =>
      if !st.closed then s
      else if st.t0 + 2000000 < s.harvest then s.obsOverrun
      else s.obsComplete st net
    | none => s)

/-! ### State errors and packs -/

/-- OBS_STATE_ECC (R150): the observer stops and restarts once; a second error within 60 s keeps it stopped
until the next entry into FIELD_IDLE. Regions and outcomes are numbered by log entry 28. -/
def execObsStateEcc (t region : Nat) (s : State) : Host.Outcome State Fault Refusal :=
  let s := s.begin t
  .next (
    if !s.flag R.OBS_STAT_RUN then s
    else
      let second : Bool := match s.obs.eccAt with
        | some a => s.now < a + 60000000000
        | none => false
      let s := (s.log 0x3013 [region, bit01 second]).obsStop 0x32
      let s := { s with obs := { s.obs with eccAt := some s.now, eccHold := second } }
      if second then s else s.obsBegin)

/-- PACK_SELECT (R178, 13 Table 13.16). -/
def execPackSelect (t session slot : Nat) (s : State) : Host.Outcome State Fault Refusal :=
  .next (s.gated t session (.pack) (fun (s : State) =>
    if !s.classAtLeast session Cls.OPERATOR then s.reply session Res.CLASS
    else if s.mode ≠ Mode.FIELD_IDLE then (s.log 0x3011 [slot, s.mode]).reply session 0x3011
    else if (look s.obs.packs slot).isNone then (s.log 0x3010 [slot, 0]).reply session 0x3010
    else ({ s with obs := { s.obs with select := some slot } }).reply session Res.OK))

/-- OBS_PACK_CHANGE (R178 steps 2 and 3). -/
def execObsPackChange (t : Nat) (s : State) : Host.Outcome State Fault Refusal :=
  let s := s.begin t
  .next (match s.obs.changing, s.obs.select with
    | true, some slot =>
      let old := s.rd R.OBS_STAT_PACK
      let p := look s.obs.packs slot
      let vendor : Nat := (p.map (fun p => p.vendor)).getD 0
      let packId : Nat := (p.map (fun p => p.packId)).getD 0
      let s := ({ s with obs := { s.obs with select := none, changing := false } }).wr R.OBS_STAT_PACK slot
      (s.log 0x3012 [old, slot, vendor, packId]).obsBegin
    | _, _ => s)

end Sys2Proof.Machine
end

