-- ==== Sys2Proof/Machine/Optimiser.lean ====
section
/-! DEFINITION. The commands of 05 that act on the supervisory optimiser (R194 to R198). -/

namespace Sys2Proof.Machine

/-- A quotient; a division by 0 gives no finite number (log entry 5). -/
def divF (a b : Rat) : Rat := if b = 0 then Config.nonFinite 0x7F800000 else a / b

/-- The weights of the goal in use: throughput, loss, quality, fuel; fuel counts 0 when no rate has come
for 5 s (R197). -/
def State.goalWeights (s : State) : Nat × Nat × Nat × Nat :=
  let g := s.opt.goal.getD (s.rd R.FN_OPT_CFG_GOALDEF)
  let fresh : Bool := match s.opt.fuelAt with
    | some a => s.now ≤ a + 5000000000
    | none => false
  (s.rd (R.FN_GOAL_W_THR g), s.rd (R.FN_GOAL_W_LOSS g), s.rd (R.FN_GOAL_W_QUAL g),
    if fresh then s.rd (R.FN_GOAL_W_FUEL g) else 0)

/-- The predicted loss of a candidate, %. -/
def candLoss (c : CandIn) : Rat := f32 c.rotorLoss + f32 c.shoeLoss

/-- A candidate's score (R197). -/
def State.score (s : State) (c : CandIn) : Rat :=
  let (a, l, q, u) := s.goalWeights
  let fuelRef : Rat := (s.rd R.FN_OPT_CFG_FUEL_REF : Rat) / 10
  divF (divF (a * f32 c.feed) (s.rdF R.FN_OPT_CFG_FEED_REF) - l * candLoss c - q * (f32 c.damage + f32 c.mog) -
    (if u = 0 then 0 else divF (u * f32 c.fuel) fuelRef)) (a + l + q + u : Nat)

/-- A candidate's excess over the goal's ceilings (R197). -/
def State.excess (s : State) (c : CandIn) : Rat :=
  let g := s.opt.goal.getD (s.rd R.FN_OPT_CFG_GOALDEF)
  let lm : Rat := (s.rd (R.FN_GOAL_LOSS_MAX g) : Rat) / 100
  let dm : Rat := (s.rd (R.FN_GOAL_DAMAGE_MAX g) : Rat) / 10
  maxQ 0 (candLoss c - lm) / (if lm = 0 then 1 / 100 else lm) +
    maxQ 0 (f32 c.damage - dm) / (if dm = 0 then 1 / 10 else dm)

/-- How far a candidate lies from the present targets (R197). -/
def State.nearness (s : State) (c : CandIn) : Rat :=
  c.values.foldl (fun (q : Rat) (v : Nat × Nat × Nat × Int) =>
    let a := s.rdF (R.FN_SP_VAL2_AUTH v.1 v.2.1)
    if 0 < a then q + absQ (f32 v.2.2.1 - s.rdF (R.FN_SP_NOW_TARGET v.1 v.2.1)) / a else q) 0

/-- The candidates nothing prefers another to (R197): least excess, then highest score, then nearest. -/
def State.best (s : State) (l : List CandIn) : List CandIn :=
  let keep := fun (l : List CandIn) (better : CandIn → CandIn → Bool) =>
    l.filter (fun c => !(l.any (fun d => better d c)))
  let l := keep l (fun d c => s.excess d < s.excess c)
  let l := keep l (fun d c => s.score c < s.score d)
  keep l (fun d c => s.nearness d < s.nearness c)

/-- The candidate chosen; among equal ones any may be chosen: a free choice (R197, log entry 7). -/
def State.choose (s : State) (l : List CandIn) : Option CandIn × State :=
  match s.best l with
  | [] => (none, s)
  | [c] => (some c, s)
  | c :: cs =>
    let (n, s) := s.fresh 32
    ((c :: cs)[n % (cs.length + 1)]?, s)

/-- The values a map lookup gave for the PRESCRIPTION indices; no value is BASE (Table 5.4 row 8). -/
def State.takeMaps (s : State) (maps : List (Nat × Nat × Nat)) : State :=
  s.optFns.foldl (fun (s : State) (f : Nat) =>
    if s.rd (R.FN_CFG_SOURCE f) = 3 then
      (s.indexList f).foldl (fun (s : State) (i : Nat) =>
        s.setIdx f i { s.idxS f i with
          opt := (maps.find? (fun m => m.1 = f && m.2.1 = i)).map (fun m => m.2.2) }) s
    else s) s

/-- The chosen candidate's values, clamped (R198). -/
def State.takeChoice (s : State) (c : CandIn) : State :=
  c.values.foldl (fun (s : State) (v : Nat × Nat × Nat × Int) =>
    if s.optFns.contains v.1 && s.rd (R.FN_CFG_SOURCE v.1) = 2 && (s.indexList v.1).contains v.2.1 then
      s.setIdx v.1 v.2.1 { s.idxS v.1 v.2.1 with opt := some (s.clampValue v.1 v.2.1 v.2.2.1) }
    else s) s

/-- Every used function that is not OBS_BOUND is published once after a cycle, F27 apart, whose side is guidance's; while
the optimiser waits it writes no value of its own (R186, R195). -/
def State.publishCycle (s : State) : State :=
  let waits := s.optWaits
  (List.range 48).foldl (fun (s : State) (f : Nat) =>
    let src := s.rd (R.FN_CFG_SOURCE f)
    if !s.fnUsed f || src = 4 || s.flag (R.FN_CFG_OBS_BOUND f) || (waits && src = 2) then s
    else s.writeSide f [] s.harvest false) s

/-- OPTIMISER_CYCLE (R186, R187, R194 to R198): candidates with their predictions and the values the active
prescription map gives are operands. -/
def execOptimiserCycle (t : Nat) (cands : List CandIn) (maps : List (Nat × Nat × Nat)) (s : State) :
    Host.Outcome State Fault Refusal :=
  let s := s.begin t
  .next (
    if !s.observing then s.showOpt
    else
      let goal := s.opt.goalNext.getD (s.opt.goal.getD (s.rd R.FN_OPT_CFG_GOALDEF))
      let s := ({ s with opt := { s.opt with goal := some goal, goalNext := none } }).wr R.FN_OPT_STAT_GOAL goal
      let s := (s.bump R.FN_OPT_STAT_CYCLES 0xFFFF).takeMaps maps
      if s.optWaits || s.rd R.OBS_STAT_DSTEP = 3 then s.publishCycle.showOpt
      else match s.choose cands with
        | (some c, s) =>
          let s := if 0 < s.excess c then s.bump R.FN_OPT_STAT_CEILING 255 else s
          ((s.takeChoice c).publishCycle.insertShots
            (c.values.map (fun (v : Nat × Nat × Nat × Int) => (v.1, v.2.1, v.2.2.2)))).showOpt
        | (none, s) => s.publishCycle.showOpt)

/-- GOAL_SELECT (R196): taken at the next cycle; a goal whose four weights are 0 is refused. -/
def execGoalSelect (t session goal : Nat) (s : State) : Host.Outcome State Fault Refusal :=
  .next (s.gated t session (.goal) (fun (s : State) =>
    if !s.classAtLeast session Cls.OPERATOR then s.reply session Res.CLASS
    else if 7 < goal ∨ s.rd (R.FN_GOAL_W_THR goal) + s.rd (R.FN_GOAL_W_LOSS goal) +
        s.rd (R.FN_GOAL_W_QUAL goal) + s.rd (R.FN_GOAL_W_FUEL goal) = 0 then
      (s.log 0x304B [goal]).reply session 0x304B
    else ({ s with opt := { s.opt with goalNext := some goal } }).reply session Res.OK))

end Sys2Proof.Machine
end

