-- ==== Sys2Proof/Machine/Power.lean ====
section
/-! DEFINITION. The commands of 15's supply, rails and temperature (R496 to R504, R523). -/

namespace Sys2Proof.Machine

/-- The module is powered and awake. -/
def State.powered (s : State) : Bool := s.mode ≠ Mode.OFF && s.mode ≠ Mode.SLEEP

/-- VBAT as measured, mV (Table 15.16). -/
def State.setVbat (s : State) (mv : Nat) : State := s.wr R.PWR_STAT_VBAT (min 0xFFFF mv)

/-- PWR_OV (R496): VBAT above 36 V, logged once when it has been there for 1 ms (`held`, ns, and its highest); or it is
back. -/
def execPwrOv (t vbat held : Nat) (s : State) : Host.Outcome State Fault Refusal :=
  let s := (s.begin t).setVbat vbat
  .next (
    if vbat ≤ 36000 then { s with pwr := { s.pwr with ovLogged := false } }.wr R.PWR_STAT_OV 0
    else
      let s := s.wr R.PWR_STAT_OV 1
      if held < 1000000 ∨ s.pwr.ovLogged ∨ !s.powered then s
      else { s with pwr := { s.pwr with ovLogged := true } }.log 0xB001 [vbat])

/-- CRANK_ENTRY (R496, R497): VBAT has stayed below 9 V for 2 ms (`held`, ns); the data plane, the radios and field-node
power are cut, the mode does not change. -/
def execCrankEntry (t vbat held : Nat) (s : State) : Host.Outcome State Fault Refusal :=
  let s := (s.begin t).setVbat vbat
  .next (
    if !s.powered || s.flag R.PWR_STAT_CRANK || 9000 ≤ vbat || held < 2000000 then s
    else
      let s := { s with pwr := { s.pwr with crankAt := some s.now, crankMin := vbat } }
      let s := ((s.wr R.PWR_STAT_CRANK 1).setCoreRail).setDomains
      let s := if s.flag R.OBS_STAT_RUN then s.obsStop 0x31 else s
      s.dataCut)

/-- The lowest VBAT of the crank so far. -/
def State.crankLow (s : State) (vmin : Nat) : State :=
  { s with pwr := { s.pwr with crankMin := min s.pwr.crankMin vmin } }

/-- PWR_CRANK (R496 to R498, R512): VBAT has been at or above 9.5 V for 100 ms (`held`, ns). The data-plane domains are released,
unless SAFE_STOP for a long crank keeps them off until it is left. -/
def execPwrCrank (t vbat vmin held : Nat) (s : State) : Host.Outcome State Fault Refusal :=
  let s := s.begin t
  .next (match s.pwr.crankAt with
    | none => s.setVbat vbat
    | some c =>
      if vbat < 9500 ∨ held < 100000000 then (s.setVbat vbat).crankLow vmin
      else
        let s := (s.setVbat vbat).crankLow vmin
        let s := { s with pwr := { s.pwr with crankAt := none } }
        let s := ((s.wr R.PWR_STAT_CRANK 0).setCoreRail).setDomains
        let s := s.log 0xB002 [(s.now - c) / 1000000, s.pwr.crankMin]
        let s := s.clearCause Cause.crankLong
        if s.pwr.crankLong then s else s.dataReleased.obsMode)

/-- PWR_CRANK_LONG (R498): not back 1 s after crank entry. -/
def execPwrCrankLong (t vmin : Nat) (s : State) : Host.Outcome State Fault Refusal :=
  let s := s.begin t
  .next (match s.pwr.crankAt with
    | none => s
    | some c =>
      if s.now < c + 1000000000 ∨ s.pwr.crankLong then s
      else
        let s := s.crankLow vmin
        let s := { s with pwr := { s.pwr with crankLong := true } }
        (s.log 0xB003 [s.pwr.crankMin] 2 false true).setCause Cause.crankLong)

/-- The Postcard parked by the Thermos sequence (16 R549): its lines driven to neutral after the phase in progress (0x12),
the rails lowered, the record of its end and the PC_PARKED event written; IN_PROGRESS stays set, merged and scheduled updates
are abandoned. The commons written so far count in their stress counters (16 R548). -/
def State.parkPanel (s : State) : State :=
  match s.pc.run with
  | none => s
  | some r =>
    let done := r.commons.take (s.pcWritten r)
    let ev : Event := { stamp := s.harvest, seq := s.mirror.nextSeq, code := 0xC010, fault := true, unit := s.role.unit,
                        payload := [s.pcCommon r, r.band] }
    let s := { s with pc := { s.pc with run := none, asked := false, merged := false, deferred := false,
                                        stress := stressAfter s.pc.stress done } }
    let s := (s.answer .panel 0x12 []).railsDown
    (s.bbWrite (pcItem r.frame r.band 1 done) 3).bbWrite { typ := 1, fault := true, payload := ev.record } 3

/-- FINAL (16 R538): records still queued are not written, their number is. -/
def State.bbFinal (s : State) (vmin : Nat) : State :=
  let lost := s.bb.queue.length
  let it : BbItem := { typ := 4, payload := leBytes 2 (min 0xFFFF vmin) ++ [s.mode, bit01 s.pc.run.isSome] ++
                         leBytes 8 (ofSigned 64 s.harvest) ++ leBytes 6 s.hours ++ leBytes 2 (min 0xFFFF lost) }
  { s with bb := { s.bb with queue := [] } }.bbWrite it 3

/-- The module OFF: nothing volatile is left (R516). -/
def State.goOff (s : State) (noFinal : Bool) : State :=
  let s := { s with bb := { s.bb with hoursBase := s.hours, opSince := none } }
  let z := s.cleared Scope.full
  let z := { z with rst := { brownOut := true, noFinal := noFinal, held := false, pinLow := s.rst.pinLow,
                             qual := if s.tb.live then s.rd R.TB_STAT_QUAL else s.rst.qual } }
  ((z.wr R.MODE_STAT_MODE Mode.OFF).setCoreRail).setDomains

/-- THERMOS_START (R496, R523, Table 15.15): VBAT has been below 6 V for more than 1 ms (`held`, ns). The outputs are released
(10 R381), the final record is written, the panel parks, the module is OFF. With THERMOS_OK clear the final
record may be missing (`finalDone`). -/
def execThermosStart (t vmin held : Nat) (finalDone : Bool) (s : State) : Host.Outcome State Fault Refusal :=
  let s := (s.begin t).setVbat vmin
  .next (
    if s.mode = Mode.OFF || 6000 ≤ vmin || held ≤ 1000000 then s
    else
      let wrote := finalDone || s.flag R.PWR_STAT_THERMOS_OK
      let s := { s with ls := { s.ls with down := true } }
      let s := s.thermosValves
      let s := if wrote then (s.bbFinal vmin).parkPanel else s
      s.goOff (!wrote))

/-- PWR_SENS (R500): a sensor supply has stayed in its limit for 10 ms (`held`, ns) and switches off. -/
def execPwrSens (t sup held : Nat) (s : State) : Host.Outcome State Fault Refusal :=
  let s := s.begin t
  let first : Bool := match look s.pwr.supAt sup with
    | some a => a + 10000000000 ≤ s.now
    | none => true
  .next (
    if bitOf (s.rd R.PWR_STAT_SENS) (sup - 1) || held < 10000000 || !bitOf s.domains 13 then s
    else
      let s := { s with pwr := { s.pwr with supAt := ins s.pwr.supAt sup s.now,
                                            supTrips := ins s.pwr.supTrips sup ((look s.pwr.supTrips sup).getD 0 + 1) } }
      let s := s.wr R.PWR_STAT_SENS (setBit (s.rd R.PWR_STAT_SENS) (sup - 1) true)
      if first then s.log 0xB004 [sup] else s)

/-- SENS_RETRY (R500): switched on again after 1 s. -/
def execSensRetry (t sup : Nat) (s : State) : Host.Outcome State Fault Refusal :=
  let s := s.begin t
  .next (match look s.pwr.supAt sup with
    | some a =>
      if bitOf (s.rd R.PWR_STAT_SENS) (sup - 1) && a + 1000000000 ≤ s.now then
        { s with pwr := { s.pwr with supAt := ins s.pwr.supAt sup s.now } }.wr R.PWR_STAT_SENS
          (setBit (s.rd R.PWR_STAT_SENS) (sup - 1) false)
      else s
    | none => s)

/-- CORE_RAIL_ADJUST (R501; 01 R17): in HARVEST 10 mV up while PACE is below 1.500, 10 mV down while it is
above 1.625, within 0.70 to 0.90 V and the ceiling, every 10 ms; elsewhere the set-point of Table 15.3. -/
def execCoreRailAdjust (t : Nat) (s : State) : Host.Outcome State Fault Refusal :=
  let s := s.begin t
  let p := s.rd R.CORE_PACE
  let v := s.rd R.PWR_STAT_CORE
  let early : Bool := match s.pwr.railAt with
    | some a => s.now < a + 10000000
    | none => false
  .next (
    if s.mode = Mode.HARVEST ∧ !s.flag R.PWR_STAT_CRANK ∧ early then s
    else if s.mode = Mode.HARVEST ∧ !s.flag R.PWR_STAT_CRANK then
      let s := { s with pwr := { s.pwr with railAt := some s.now } }
      (s.wr R.PWR_STAT_CORE (if p < 0x1800 then min 180 (v + 2) else if 0x1A00 < p then v - 2 else v)).setCoreRail
    else s.setCoreRail)

/-- PWR_TEMP (R501, R504, R512): the hottest junction's sensor, its reading and the baseplate's, °C. -/
def execPwrTemp (t sensor : Nat) (tj plate : Int) (s : State) : Host.Outcome State Fault Refusal :=
  let s := s.begin t
  let was := toSigned 8 (s.rd R.PWR_STAT_TJ)
  let s := s.wrs [(R.PWR_STAT_TJ, ofSigned 8 tj), (R.PWR_STAT_PLATE, ofSigned 8 plate)]
  let s := s.setCoreRail
  let s := if 115 ≤ tj ∧ was < 115 then s.log 0xB005 [sensor, tj, 0] else s
  let s := if 135 ≤ tj ∧ !s.hasCause Cause.junction then
             (s.log 0xB005 [sensor, tj, 1] 2 false true).setCause Cause.junction
           else if tj < 120 then s.clearCause Cause.junction else s
  .next (if 85 < plate then s.logOnce 0xB005 1 10000000000 [sensor, plate, 2] else s)

end Sys2Proof.Machine
end

