-- ==== Sys2Proof/Machine/Resets.lean ====
section
/-! DEFINITION. The reset sources of 15 Table 15.13a and the service port's enable (18 R580). -/

namespace Sys2Proof.Machine

/-- The reset controller acts: the module is powered and awake (Table 15.8). -/
def State.mayReset (s : State) : Bool := s.mode ≠ Mode.OFF && s.mode ≠ Mode.SLEEP

/-- POWER_ON (R516, R523, Table 15.8): VBAT has been at or above 9 V for 10 ms (`held`, ns) after OFF. With a wake line active a
Full reset begins the start, else the module is in SLEEP. -/
def execPowerOn (t vbat held : Nat) (s : State) : Host.Outcome State Fault Refusal :=
  let s := (s.begin t).wr R.PWR_STAT_VBAT (min 0xFFFF vbat)
  .next (
    if s.mode ≠ Mode.OFF ∨ vbat < 9000 ∨ held < 10000000 then s
    else
      let z := (s.cleared Scope.full).resetRecord (bit01 s.rst.brownOut) Scope.full 3
      let awake := s.pwr.wake ≠ 0
      let z := { z with rst := { z.rst with held := awake, sleepWake := false, brownOut := false, clearAt := s.now },
                        pwr := { z.pwr with wakeOff := if awake then none else some s.now } }
      let z := z.wr R.MODE_STAT_MODE (if awake then Mode.TRAILHEAD else Mode.SLEEP)
      (z.setCoreRail).setDomains)

/-- BROWN_OUT (R516): an internal rail outside its window for 10 µs (`held`, ns). -/
def execBrownOut (t held : Nat) (s : State) : Host.Outcome State Fault Refusal :=
  let s := s.begin t
  .next (if s.mayReset && 10000 ≤ held then s.assertReset 1 Scope.full 3 else s)

/-- RESET_PIN (R516, R519): RESET_N low for 10 µs or more (`held`, ns), or high again; release waits for the pin. -/
def execResetPin (t : Nat) (low : Bool) (held : Nat) (s : State) : Host.Outcome State Fault Refusal :=
  let s := s.begin t
  if low && held < 10000 then .next s
  else
  let s := { s with rst := { s.rst with pinLow := low, clearAt := if low then s.rst.clearAt else s.now } }
  .next (if low && s.mayReset then s.assertReset 2 Scope.system 3 else s)

/-- How long a plane's watchdog may go unserved, ns (Table 15.13a): control 10 ms, data 500 ms, management 2 s. -/
def watchdogLimit (plane : Nat) : Nat := if plane = 0 then 10000000 else if plane = 1 then 500000000 else 2000000000

/-- WATCHDOG (R516): a plane's watchdog has not been served for its time (`unserved`, ns). -/
def execWatchdog (t plane unserved : Nat) (s : State) : Host.Outcome State Fault Refusal :=
  let s := s.begin t
  .next (if s.mayReset && watchdogLimit plane ≤ unserved then s.assertReset 3 Scope.system plane else s)

/-- LOCK_UP (R516): a plane's processor halted on an unrecoverable trap. -/
def execLockUp (t plane : Nat) (s : State) : Host.Outcome State Fault Refusal :=
  let s := s.begin t
  .next (if s.mayReset then s.assertReset 5 Scope.system plane else s)

/-- A Block reset of a confirmed idle block (R516, Table 15.13b). -/
def State.resetBlock (s : State) (block : Nat) : State :=
  State.restartBlock { s with rst := { s.rst with block := some block, assertAt := s.now } } block

/-- No transfer of an island is pending in its crossing (R518). -/
def State.noTransfers (s : State) (block : Nat) : Bool :=
  match look s.isl block with
  | some i => i.toIsl.all (fun x => x.who.isNone) && i.toCore.all (fun x => x.who.isNone)
  | none => true

/-- SOFTWARE_RESET (R516, R518): by the module's management plane (session 0) or a SERVICE session; Core
scope, or a block confirmed idle. -/
def execSoftwareReset (t session : Nat) (core : Bool) (block : Nat) (idle : Bool) (s : State) :
    Host.Outcome State Fault Refusal :=
  .next (s.gated t session (.swReset) (fun (s : State) =>
    if !s.classAtLeast session Cls.SERVICE then s.reply session Res.CLASS
    else if !s.mayReset then s
    else if core then (s.reply session Res.OK).assertReset 6 Scope.core 3
    else if !idle || !s.noTransfers block then (s.log 0xB012 [block, session]).reply session 0xB012
    else (s.reply session Res.OK).resetBlock block))

/-- DEBUG_RESET (R516; 18 R580; 12 R430): a request through the service port, while its PHY is on. -/
def execDebugReset (t : Nat) (s : State) : Host.Outcome State Fault Refusal :=
  let s := s.begin t
  .next (if s.mayReset && s.pwr.svc && !s.islandOut 5 then s.assertReset 7 Scope.core 3 else s)

/-- RST_ESCALATE (R517): a target has not acknowledged 100 µs after assertion; the scope widens to the next one, Full after 10 ms
with every domain but PD0 off. -/
def execRstEscalate (t target : Nat) (s : State) : Host.Outcome State Fault Refusal :=
  let s := s.begin t
  .next (
    if s.now < s.rst.assertAt + 100000 then s
    else if s.rst.held then
      let old := s.rd R.RST_STAT_SCOPE
      let esc := s.rd R.RST_STAT_ESCAL
      if 3 ≤ old then s
      else
        let s := s.assertReset (s.rd R.RST_STAT_SOURCE) (old + 1) (s.rd R.RST_STAT_PLANE)
        let s := s.wr R.RST_STAT_ESCAL (satInc 255 esc)
        let s := if old + 1 = Scope.full then
            { s with rst := { s.rst with clearAt := s.now + 10000000 } } else s
        s.log 0xB011 [target, old, old + 1] 2 false true
    else match s.rst.block with
      | some _ =>
        let s := { s with rst := { s.rst with block := none } }.assertReset 6 Scope.core 3
        (s.wr R.RST_STAT_ESCAL 1).log 0xB011 [target, 0, 1] 2 false true
      | none => s)

/-- MODE_CONFIG_FAIL (R521): CONFIG has not ended 10 s after the beginning of release. -/
def execModeConfigFail (t : Nat) (s : State) : Host.Outcome State Fault Refusal :=
  let s := s.begin t
  .next (
    if [Mode.TRAILHEAD, Mode.CONFIG].contains s.mode && !s.rst.held && s.configured && !s.hmp.sizeHeld &&
        !s.isWorker && s.rst.startAt + 10000000000 ≤ s.now then
      let step := s.rst.step
      (s.assertReset 6 Scope.core 3).log 0xB023 [step]
    else s)

/-- VBAT_LOSS (R516): VBAT (mV) has fallen below 3 V; the real-time counter and the retention RAM are invalid. -/
def execVbatLoss (t vbat : Nat) (s : State) : Host.Outcome State Fault Refusal :=
  let s := s.begin t
  .next (
    if s.mode = Mode.OFF && vbat < 3000 then
      { s with tb := { s.tb with rtcValid := false },
               mem := s.mem.filter (fun c => c.1 / 2 ^ 40 ≠ 20) }.loseRetention
    else s)

/-- SVC_EN_CHANGE (18 R580): the service port's PHY is on while SVC_EN is held to GND. -/
def execSvcEnChange (t : Nat) (grounded : Bool) (s : State) : Host.Outcome State Fault Refusal :=
  let s := s.begin t
  .next { s with pwr := { s.pwr with svc := grounded } }

end Sys2Proof.Machine
end

