-- ==== Sys2Proof/Machine/Switches.lean ====
section
/-! DEFINITION. The commands of 11: switch commands, trips, latches, walk-home. -/

namespace Sys2Proof.Machine

/-- The functions of channels that locked or latched stop with cause FAULT (R396). -/
def State.stopSwitchFns (s : State) (chs : List Nat) : State :=
  chs.foldl (fun (s : State) (n : Nat) => match s.switchFn n with
    | some f => s.stopFn f 4
    | none => s) s

/-- A channel brought to what Table 11.4 calls for, its function stopped when the clamp locks. -/
def State.drive (s : State) (n mj : Nat) : State :=
  let (s, locked) := s.applySwitch n mj
  if locked then s.stopSwitchFns [n] else s

/-- Every channel brought to what Table 11.4 calls for. -/
def State.driveAll (s : State) (clamps : List (Nat × Nat)) : State :=
  let (s, locked) := s.applySwitches clamps
  s.stopSwitchFns locked

/-- A change of the internal command carried out: it ends the channel's reset behaviour (R399) and, off,
cancels a retry (R391). -/
def State.takeCommand (s : State) (n : Nat) (on : Bool) (mj : Nat) : State :=
  let v := s.sw n
  let v := { v with cmd := on, waiting := none, resetRun := false,
                    changedAt := if v.cmd = on then v.changedAt else some s.now,
                    pause := if on then v.pause else none }
  (s.setSw n v).drive n mj

/-- A latch still held at the function's first command after a reset gives it cause FAULT (05 R202). -/
def State.latchedSwitch (s : State) (n : Nat) : Bool :=
  (s.sw n).thermal || (s.sw n).clamp || (s.sw n).ocLatch

/-- SWITCH_COMMAND (R385, R387, R388, R391): a change less than 10 ms after the previous one is deferred,
except an off command of a stopped state. An off command that is deferred during a retry pause holds the retry off
until it is carried out. `mj` is the energy a turn-off puts into the clamp. -/
def execSwitchCommand (t ch : Nat) (on : Bool) (src mj : Nat) (s : State) :
    Host.Outcome State Fault Refusal :=
  let s := (s.begin t).pdCommand
  let v := s.sw ch
  let close : Bool := match v.changedAt with
    | some c => s.now < c + 10000000
    | none => false
  .next (
    if s.rd (R.LS_CFG_USE ch) ≠ 1 then s.pdLog 0x8006 [ch, src]
    else
      let s := s.abortTest 2 ch
      let s := if s.latchedSwitch ch then s.stopSwitchFns [ch] else s
      if on ≠ v.cmd && close && !(!on && src = Src.stopped) then
        let till := v.changedAt.getD 0 + 10000000
        (s.setSw ch { s.sw ch with waiting := some on, resetRun := false,
                                   pause := if on then v.pause else v.pause.map (max till) }).bump
          (R.LS_STAT_DEFERRED ch) 255
      else s.takeCommand ch on mj)

/-- SWITCH_DEFERRED_APPLY (R388): 10 ms after the previous change the latest deferred command is carried
out. -/
def execSwitchDeferredApply (t ch mj : Nat) (s : State) : Host.Outcome State Fault Refusal :=
  let s := s.begin t
  let v := s.sw ch
  let due : Bool := match v.changedAt with
    | some c => c + 10000000 ≤ s.now
    | none => true
  .next (match v.waiting with
    | some on => if due then s.takeCommand ch on mj else s
    | none => s)

/-- The retry pause after the k-th trip, ns (Table 11.3). -/
def retryPause (k : Nat) : Nat := if 10 ≤ k then 2560000000 else 5000000 * 2 ^ (k - 1)

/-- What trips a channel (R389): LIM_T in current limit without a break, or a current above I_TRIP for 100 ms;
`limited` and `above` are the ns for which each has held, `cur` is in 10 mA. -/
def State.tripDue (s : State) (ch limited above cur : Nat) : Bool :=
  decide (s.rd (R.LS_CFG_LIM_T ch) * 100000 ≤ limited) ||
    (decide (s.rd (R.LS_CFG_I_TRIP ch) * 10 < cur) && decide (100000000 ≤ above))

/-- LS_TRIP (R389, R390, R394): the channel trips off; the trip that brings k to N_LATCH latches it, any
other starts its pause. Under a thermal latch no trip is counted. -/
def execLsTrip (t ch limited above cur mj : Nat) (s : State) : Host.Outcome State Fault Refusal :=
  let s := (s.begin t).wr (R.LS_NOW_I_MEAS ch) (min 0xFFFF cur)
  let v := s.sw ch
  .next (
    if !v.out || v.thermal || !s.tripDue ch limited above cur then s
    else
      let c := s.counted v
      let trips := v.trips.filter (fun x => c < x + 60000000000) ++ [c]
      let k := trips.length
      let latch := s.rd (R.LS_CFG_N_LATCH ch) ≤ k
      let pause := if latch then 0 else retryPause k
      let s := s.setSw ch { v with trips := trips, tripAt := some s.now, ocLatch := latch,
                                   pause := if latch then none else some (s.now + pause) }
      let s := s.pdLogOnce 0x8001 ch 1000000000 [ch, k, pause / 1000000]
      let s := s.drive ch mj
      if latch then (s.pdLog 0x8002 [ch, k] true).stopSwitchFns [ch] else s)

/-- RETRY_PAUSE_END (R390): on again when its command still calls for on. -/
def execRetryPauseEnd (t ch : Nat) (s : State) : Host.Outcome State Fault Refusal :=
  let s := s.begin t
  let v := s.sw ch
  .next (match v.pause with
    | some p => if p ≤ s.now then (s.setSw ch { v with pause := none }).drive ch 0 else s
    | none => s)

/-- LS_THERMAL (R393, R394, R396): at 175 °C the channel latches off, counted time stops, a pause is
cancelled, and a trip of the same power-stage cycle of 5 ns is not counted. `tj` in 0.1 °C. -/
def execLsThermal (t ch : Nat) (tj : Int) (mj : Nat) (s : State) : Host.Outcome State Fault Refusal :=
  let s := s.begin t
  let v := s.sw ch
  let s := s.wr (R.LS_NOW_TJ ch) (ofSigned 16 tj)
  .next (
    if v.thermal ∨ tj < 1750 then s
    else
      let c := s.counted v
      let same : Bool := v.tripAt.map (· / 5) = some (s.now / 5)
      let s := s.setSw ch { v with thermal := true, frozenAt := some c, pause := none,
                                   trips := if same then v.trips.dropLast else v.trips, ocLatch := v.ocLatch && !same }
      ((s.drive ch mj).pdLog 0x8003 [(ch : Int), tj] true).stopSwitchFns [ch])

/-- LS_OPEN (R398): the current of a channel that is on has stayed below OPEN_I, or at or above it, for
100 ms. `cur` in 10 mA; `held` is for how long, ns. -/
def execLsOpen (t ch cur held : Nat) (s : State) : Host.Outcome State Fault Refusal :=
  let s := (s.begin t).wr (R.LS_NOW_I_MEAS ch) (min 0xFFFF cur)
  let lim := s.rd (R.LS_CFG_OPEN_I ch)
  .next (
    if held < 100000000 then s
    else if (s.sw ch).out && lim ≠ 0 && cur < lim then
      if s.flag (R.LS_STAT_OPEN ch) then s else (s.wr (R.LS_STAT_OPEN ch) 1).pdLog 0x8005 [ch, cur]
    else if lim ≤ cur then s.wr (R.LS_STAT_OPEN ch) 0
    else s)

/-- LS_CLEAR_REQUEST (R397): for a PIN-DRIVEN channel; a request naming another channel has no clear to
make and is refused as a bad command (log entry 34). -/
def execLsClearRequest (t session ch : Nat) (tj : Int) (s : State) : Host.Outcome State Fault Refusal :=
  .next (s.gated t session .clearSwitch (fun (s : State) =>
    let s := s.wr (R.LS_NOW_TJ ch) (ofSigned 16 tj)
    if !s.classAtLeast session Cls.MACHINE then s.reply session Res.CLASS
    else if s.rd (R.LS_CFG_USE ch) ≠ 2 then (s.pdLog 0x8006 [ch, 4]).reply session 0x8006
    else match s.switchBlocks ch with
      | some b => (s.pdLog 0x8007 [ch, b]).reply session 0x8007
      | none => (s.clearSwitch ch 0).reply session Res.OK))

/-! ### The dead core and walk-home -/

/-- The core counts as dead: outputs go to walk-home or SAFE (R399 to R401). -/
def State.coreDead (s : State) (clamps : List (Nat × Nat)) : State :=
  let s := { s with ls := { s.ls with dead := true, deadAt := s.now, mask := 0 } }
  ((s.bump R.WH_STAT_DEADS 255).driveAll clamps).walkValves

/-- RESET_GRACE_END (R399, R400): 250 ms after the assertion of a System or Core reset, or after the link
watchdog's expiry; with no command since, the core counts as dead. -/
def execResetGraceEnd (t : Nat) (clamps : List (Nat × Nat)) (s : State) : Host.Outcome State Fault Refusal :=
  let s := s.begin t
  .next (match s.ls.assertAt with
    | some a =>
      if s.ls.full ∨ s.ls.dead ∨ s.now < a + 250000000 then s
      else if s.ls.cmdSince then s.driveAll clamps
      else s.coreDead clamps
    | none => s)

/-- LINK_WATCHDOG_EXPIRE (R400): 20 ms with no valid link frame stand for the assertion of a System reset
at every output; an expiry that follows a reset's assertion, with no command between, starts no second grace. -/
def execLinkWatchdogExpire (t : Nat) (s : State) : Host.Outcome State Fault Refusal :=
  let s := s.begin t
  .next (
    if s.inReset || s.ls.dead || (s.ls.assertAt.isSome && !s.ls.full && !s.ls.cmdSince) then s
    else
      let s := (s.resetValves Scope.system).resetSwitches Scope.system
      { s with ls := { s.ls with expired := true } })

/-- FULL_RESET_DEAD (R400): 1 s after the power die's release from a Full reset, with no command since. -/
def execFullResetDead (t : Nat) (s : State) : Host.Outcome State Fault Refusal :=
  let s := s.begin t
  .next (match s.ls.released with
    | some r =>
      if !s.ls.full ∨ s.ls.cmdSince ∨ s.ls.dead ∨ s.now < r + 1000000000 then s else s.coreDead []
    | none => s)

/-- WH_ACTIVE (R400, R407): the control plane's first link frame after a reset or an expiry. It ends the dead period, or
keeps the core from counting as dead after an expiry; held events pass to
the mirror, where they stand as LATE; the dead period's length and the channels under pin control are
logged. -/
def execWhActive (t : Nat) (clamps : List (Nat × Nat)) (s : State) : Host.Outcome State Fault Refusal :=
  let s := s.begin t
  .next (
    if !s.ls.dead then
      if s.ls.expired then { s with ls := { s.ls with expired := false, cmdSince := true } } else s
    else
      let ms := (s.now - s.ls.deadAt) / 1000000
      let held := s.ls.held
      let mask := s.ls.mask
      let s := { s with ls := { s.ls with dead := false, held := [], heldMore := 0, mask := 0,
                                          expired := false } }
      let s := s.wr R.WH_STAT_DEAD_MS (min 0xFFFFFFFF ms)
      let s := held.foldl State.ownEvent s
      ((s.driveAll clamps).walkValves).pdLog 0x8010 [ms, mask])

/-- WH_PIN_EDGE (R401 to R403): an edge that has passed its pin's filter. -/
def execWhPinEdge (t pin : Nat) (level : Bool) (clamps : List (Nat × Nat)) (s : State) :
    Host.Outcome State Fault Refusal :=
  let s := s.begin t
  let s := s.wr R.WH_STAT_PIN (setBit (s.rd R.WH_STAT_PIN) (pin - 1) level)
  .next ((s.driveAll clamps).walkValves)

/-- WH_EN_CHANGE (R401). -/
def execWhEnChange (t : Nat) (level : Bool) (clamps : List (Nat × Nat)) (s : State) :
    Host.Outcome State Fault Refusal :=
  let s := (s.begin t).wr R.WH_STAT_EN (bit01 level)
  .next ((s.driveAll clamps).walkValves)

/-- WH_FREQ (R404): a 100 ms window of a pin's edge rate. -/
def execWhFreq (t pin hz : Nat) (clamps : List (Nat × Nat)) (s : State) : Host.Outcome State Fault Refusal :=
  let s := s.begin t
  let f := s.rd R.WH_STAT_FREQ
  .next (
    if 440 < hz then
      (((s.wr R.WH_STAT_FREQ (setBit f (pin - 1) true)).driveAll clamps).walkValves).pdLog 0x8011 [pin, hz]
    else if hz ≤ 400 then
      ((s.wr R.WH_STAT_FREQ (setBit f (pin - 1) false)).driveAll clamps).walkValves
    else s)

/-- WH_STORE_LOAD (R402, R406): after a Full reset the power die takes up its copy; a bad one keeps every
channel off and the pins ignored until Trailhead, which has read the Hamper by then or reads it later,
rewrites it. -/
def execWhStoreLoad (t : Nat) (crcOk : Bool) (s : State) : Host.Outcome State Fault Refusal :=
  let s := s.begin t
  .next (
    if !s.ls.full then s
    else if crcOk then
      let s := s.wrs s.ls.copy
      ({ s with ls := { s.ls with live := true, badCopy := false } }).driveAll []
    else
      let s := (({ s with ls := { s.ls with live := false, badCopy := true } }).wr R.WH_STAT_STORE 0).pdLog
        0x8012 [1]
      if s.configured then s.compareCopy.driveAll [] else s)

end Sys2Proof.Machine
end

