-- ==== Sys2Proof/Machine/Time.lean ====
section
/-! DEFINITION. The commands of 03, "Harvest time": discipline, PPS and EVT, the Whistle. -/

namespace Sys2Proof.Machine

/-- GNSS_TIME_UPDATE (R99, R100, R105, R106): valid time within 50 ns disciplines a manager or
standalone module. DESIGN CHOICE: TB.ERR of a LOCKED unit is the measured offset's magnitude plus the estimated error
(log entry 20). -/
def execGnssTimeUpdate (t : Nat) (toff : Int) (terr : Nat) (valid queuesEmpty : Bool) (s : State) :
    Host.Outcome State Fault Refusal :=
  let s := s.begin t
  let good := valid && terr ≤ 50
  .next (
    if s.isWorker then s
    else if !good then
      ({ s with tb := { s.tb with srcLost := if s.tb.srcGood then some s.now else s.tb.srcLost,
                                  srcGood := false } }).timeRegs
    else if s.rd R.TB_STAT_QUAL = 1 then
      (({ s with tb := { s.tb with srcGood := true, srcLost := none,
                                   errBase := capErr (toff.natAbs + terr), errSince := s.now } }).trim toff).timeRegs
    else if s.flag R.TB_STAT_SLEWING then
      ({ s with tb := { s.tb with srcGood := true, srcLost := none } }).timeRegs
    else (s.sourceBack toff queuesEmpty).timeRegs)

/-- PENDING_STEP (R106): the step condition has become true while STEP_PENDING is set. With the source invalid at this
moment the quality waits for its next measurement (R100, R101). -/
def execPendingStep (t : Nat) (err : Int) (queuesEmpty : Bool) (s : State) :
    Host.Outcome State Fault Refusal :=
  let s := s.begin t
  .next (
    if s.flag R.TB_STAT_STEP_PENDING && s.mayStep queuesEmpty then
      let s := s.doStep err
      (if s.tb.srcGood then s.becomeGood 0 else s).timeRegs
    else s)

/-- SLEW_END (R100, R105, R118, R123): once the whole error is removed the residual decides between discipline and a new
slew; one above 1 ms still waits for a step. With the source invalid at this moment no residual is measured: the slew
is over and the source's next measurement or its failure decides (R101). -/
def execSlewEnd (t : Nat) (resid : Int) (s : State) : Host.Outcome State Fault Refusal :=
  let s := s.begin t
  .next (
    if !s.flag R.TB_STAT_SLEWING || !s.tb.slewOver s.now then s
    else
      let s := (s.reanchor 0 0).wr R.TB_STAT_SLEWING 0
      if !s.tb.srcGood then s.timeRegs
      else
        let s := s.wr R.TB_RESID (ofSigned 32 resid)
        if (resid.natAbs : Int) ≤ s.goodLimit then (s.becomeGood resid).timeRegs
        else
          let wait := s.flag R.TB_STAT_STEP_PENDING && decide (1000000 < resid.natAbs)
          ((s.startSlew resid).wr R.TB_STAT_STEP_PENDING (bit01 wait)).timeRegs)

/-- HOLDOVER_ENTRY (R100, R101): GNSS time has not been valid for 1 s. -/
def execHoldoverEntry (t : Nat) (s : State) : Host.Outcome State Fault Refusal :=
  let s := s.begin t
  let lost : Bool := match s.tb.srcLost with
    | some l => l + 1000000000 ≤ s.now
    | none => false
  .next (
    if s.isWorker || !lost || s.tb.srcGood then s
    else if s.rd R.TB_STAT_QUAL = 1 then s.enterHoldover.timeRegs
    else if s.tb.back then s.abandonSlew.timeRegs
    else s)

/-- HOLDOVER_EXPIRE (R100 to R102): 4 h continuously in HOLDOVER; the count stands still while a returned source's slew
or step is under way. -/
def execHoldoverExpire (t : Nat) (s : State) : Host.Outcome State Fault Refusal :=
  let s := s.begin t
  let due : Bool := match s.tb.holdSince with
    | some h => h + 14400000000000 ≤ s.now
    | none => false
  .next (
    if s.rd R.TB_STAT_QUAL = 2 && due && !s.tb.back then
      let e := s.tbErr
      (({ s with tb := { s.tb with holdSince := none, errBase := e, errSince := s.now } }).setQual 0).timeRegs
    else s)

/-- PPS_EDGE (R110, R111): PPS rises at a whole second and falls 100 ms later; no edge less than 500 ms after the
previous one after a step. -/
def execPpsEdge (t : Nat) (s : State) : Host.Outcome State Fault Refusal :=
  let s := s.begin t
  let close : Bool := match s.tb.ppsLast with
    | some l => decide (s.now < l + (if s.tb.ppsStepped then 500000000 else 10))
    | none => false
  .next (
    if s.flag R.TB_STAT_PPS_ON && onGrid s.harvest 1000000000 && !close then
      let s := { s with tb := { s.tb with ppsLast := some s.now, ppsStepped := false } }
      (s.answer .pps 1 [s.harvest]).answer .pps 0 [s.harvest + 100000000]
    else s)

/-- The shortest pulse the EVT filter accepts, ns (Table 3.6). -/
def evtFilter (code : Nat) : Nat := [0, 20, 100, 1000].getD code 0

/-- EVT_EDGE (R112): an accepted edge is stamped at its pin instant and published as TB_EVT, or dropped
when 16 stamps are held. `taken` is how many stamps the core has taken before it. -/
def execEvtEdge (t : Nat) (rising : Bool) (width taken : Nat) (s : State) :
    Host.Outcome State Fault Refusal :=
  let s := s.begin t
  let s := { s with tb := { s.tb with evtHeld := s.tb.evtHeld.drop taken } }
  let e := s.rd R.TB_EVT_CFG_EDGE
  let f := evtFilter (s.rd R.TB_EVT_CFG_FILTER)
  .next (
    if (if rising then e = 1 ∨ e = 3 else e = 2 ∨ e = 3) ∧ f ≤ width then
      if s.tb.evtHeld.length < 16 then
        let stamp : Int := s.harvest - (f : Int)
        ({ s with tb := { s.tb with evtHeld := s.tb.evtHeld ++ [(stamp, rising)] } }).ownEvent
          { stamp, code := 0x2010, island := 2, unit := s.role.unit, payload := [bit01 rising],
            steps := s.tb.steps, due := s.now - f + 50000, input := stamp }
      else { s with tb := { s.tb with evtDropped := s.tb.evtDropped + 1 } }
    else s)

/-- TB_EVT_OVERRUN (R112): stamp space has returned after dropped edges. -/
def execTbEvtOverrun (t taken : Nat) (s : State) : Host.Outcome State Fault Refusal :=
  let s := s.begin t
  let s := { s with tb := { s.tb with evtHeld := s.tb.evtHeld.drop taken } }
  .next (
    if 0 < s.tb.evtDropped && s.tb.evtHeld.length < 16 then
      ({ s with tb := { s.tb with evtDropped := 0 } }).log 0x2006 [s.tb.evtDropped]
    else s)

/-- A Whistle port's own state. -/
def State.wh (s : State) (port : Nat) : WhistleS := (look s.whistle port).getD {}

/-- A Whistle port's own state written. -/
def State.setWh (s : State) (port : Nat) (w : WhistleS) : State :=
  { s with whistle := ins s.whistle port w }

/-- The 16 bytes of a Whistle frame (03 Table 3.7). -/
def whistleFrame (typ flags seq : Nat) (time : Int) (aux : Nat) : List Nat :=
  let body := (typ + 16 * flags) :: seq :: (leBytes 8 (ofSigned 64 time) ++ leBytes 4 aux)
  body ++ leBytes 2 (crc16 body)

/-- A bit on the line, by half-bits of 10 ns (R113): a 1 is low then high, a 0 high then low. -/
def manchester (b : Bool) : List Int := if b then [0, 1] else [1, 0]

/-- A frame on the line by half-bits (R114): SYNC, high for 40 ns and low for 40 ns with the marker between, then the
bytes at once, least significant bit first. -/
def whistleLine (bytes : List Nat) : List Int :=
  [1, 1, 1, 1, 0, 0, 0, 0] ++ bytes.flatMap (fun b => (List.range 8).flatMap (fun i => manchester (bitOf b i)))

/-- What follows a frame on the line (R113): 0 bits until the next one while the upstream end drives the pair; after
RT_REQ it releases the pair for the reply, after RT_REP the downstream end does. -/
def whistleIdle (typ : Nat) : List Int := if typ = 1 ∨ typ = 2 then manchester false else []

/-- A frame sent on a port: SEQ counts the frames of the port, FLAGS carry STEP and the manager's
quality (Tables 3.7, 3.8). The answer carries the line's half-bits from SYNC on and the bit that repeats after them. A
TICK or SECOND ends a reply window. -/
def State.sendWhistle (s : State) (port typ aux : Nat) : State :=
  let w := s.wh port
  let mark := typ = 1 ∨ typ = 2
  let flags := bit01 (w.stepDue && (typ = 1 || typ = 2)) + 2 * s.rd R.TB_STAT_SRCQ
  (s.setWh port { w with txSeq := (w.txSeq + 1) % 256,
                         stepDue := if mark then false else w.stepDue,
                         tA := if mark then none else w.tA,
                         lastValid := if mark then some s.now else w.lastValid }).answer
    (.whistle port) typ (whistleLine (whistleFrame typ flags w.txSeq s.harvest aux) ++ whistleIdle typ)

/-- Whether this unit sends the Whistle on a port (R113, R120, Table 3.9). -/
def State.sendsOn (s : State) (port : Nat) : Bool :=
  s.rd (R.TB_WH_ROLE port) = 2 && (s.wh port).driving

/-- TICK (R116): the marker of a whole millisecond that is no whole second. -/
def execTick (t port : Nat) (s : State) : Host.Outcome State Fault Refusal :=
  let s := s.begin t
  .next (
    if s.sendsOn port && onGrid s.harvest 1000000 && !onGrid s.harvest 1000000000 then
      (s.sendWhistle port 1 (s.rd (R.TB_WH_DELAY port))).wr (R.TB_WH_VALID port) 1
    else s)

/-- SECOND (R116): the marker of a whole second, with DELAY, the UTC offset and LEAP; 0b11 while the
sender's offset is not KNOWN. -/
def execSecond (t port : Nat) (s : State) : Host.Outcome State Fault Refusal :=
  let s := s.begin t
  let leap := if s.flag R.TB_UTCOFF_KNOWN then s.rd R.TB_UTCOFF_LEAP else 3
  .next (
    if s.sendsOn port && onGrid s.harvest 1000000000 then
      (s.sendWhistle port 2 (s.rd (R.TB_WH_DELAY port) + 65536 * (s.rd R.TB_UTCOFF_OFFSET % 16384) +
        2 ^ 30 * leap)).wr (R.TB_WH_VALID port) 1
    else s)

/-- A received frame is valid: 16 bytes, a known TYPE, reserved bit clear, CRC right (R114, R115). -/
def whistleValid (bytes : List Nat) : Bool :=
  bytes.length = 16 && 1 ≤ bytes.headD 0 % 16 && bytes.headD 0 % 16 ≤ 4 && bytes.headD 0 < 128 &&
    leValue (bytes.drop 14) = crc16 (bytes.take 14)

/-- UTC offset and LEAP as a worker takes them from SECOND frames (R97). -/
def State.takeUtc (s : State) (aux : Nat) : State :=
  let leap := aux / 2 ^ 30 % 4
  if leap = 3 then s
  else s.wrs [(R.TB_UTCOFF_OFFSET, ofSigned 16 (toSigned 14 (aux / 65536 % 16384))),
              (R.TB_UTCOFF_LEAP, leap), (R.TB_UTCOFF_KNOWN, 1)]

/-- A TICK or SECOND from upstream (R97, R103, R107, R117): SRCQ and DELAY are taken; STEP steps harvest
time to TIME + DELAY, a SLAVED worker is disciplined to it (log entry 117). -/
def State.followMarker (s : State) (port typ : Nat) (bytes : List Nat) (marker : Int) : State :=
  let flags := bytes.headD 0 / 16
  let time : Int := leValue ((bytes.drop 2).take 8)
  let aux := leValue ((bytes.drop 10).take 4)
  let delay := aux % 65536
  let err := marker - (time + delay)
  let s := s.setWh port { s.wh port with
    lastValid := some s.now, missing := 0, firstMiss := none,
    lastMarker := some (if flags % 2 = 1 then marker - err else marker) }
  let s := s.wrs [(R.TB_WH_VALID port, 1), (R.TB_WH_DELAY port, delay), (R.TB_STAT_SRCQ, flags / 2 % 4)]
  let s := if typ = 2 then s.takeUtc aux else s
  if flags % 2 = 1 then s.doStep err
  else if s.rd R.TB_STAT_QUAL = 3 then s.trim err
  else s

/-- The expected markers that have passed on a port by an instant since its last valid TICK or SECOND (R121). -/
def WhistleS.passed (w : WhistleS) (ht : Int) : Nat :=
  match w.lastMarker with
  | some m => ((ht - m) / 1000000).toNat
  | none => 0

/-- The first missing marker, t_loss (R121). -/
def WhistleS.tLoss (w : WhistleS) : Option Int := w.lastMarker.map (fun m => m + 1000000)

/-- WHISTLE_FRAME_RX (R115, R117): a valid frame from upstream is followed, an RT_REQ is to be answered,
an invalid frame counts as missing. -/
def execWhistleFrameRx (t port : Nat) (bytes : List Nat) (marker : Int) (s : State) :
    Host.Outcome State Fault Refusal :=
  let s := s.begin t
  let typ := bytes.headD 0 % 16
  .next (
    if !(s.isWorker && s.rd (R.TB_WH_ROLE port) = 1) then s
    else if !whistleValid bytes then
      let w := s.wh port
      s.setWh port { w with missing := max w.missing (w.passed (marker + 500000)), firstMiss := w.tLoss }
    else if typ = 1 ∨ typ = 2 then (s.followMarker port typ bytes marker).timeRegs
    else if typ = 3 then s.setWh port { s.wh port with reqRx := some marker }
    else s)

/-- RT_REQ (R116, R117, R120, R121): half-way between two whole milliseconds, when a worker below has joined or its Whistle has
returned, else every 10 s, the upstream end asks for a round trip, also on a refused port; after its own Whistle
loss it sends none. -/
def execRtReq (t port : Nat) (fresh : Bool) (s : State) : Host.Outcome State Fault Refusal :=
  let s := s.begin t
  let r := s.rd (R.TB_WH_ROLE port)
  let due : Bool := fresh || match (s.wh port).reqAt with
    | some a => decide (a + 10000000000 ≤ s.now)
    | none => true
  .next (
    if (r = 3 || s.sendsOn port) && !s.tb.whLost && due && onGrid (s.harvest - 500000) 1000000 then
      (s.setWh port { s.wh port with tA := some s.harvest, reqAt := some s.now }).sendWhistle port 3 0
    else s)

/-- RT_REP (R116): the downstream end answers a received RT_REQ 10.000 µs after its marker, within 1 ns. -/
def execRtRep (t port : Nat) (s : State) : Host.Outcome State Fault Refusal :=
  let s := s.begin t
  .next (
    match (s.wh port).reqRx with
    | some m =>
      if s.harvest < m + 9999 ∨ m + 10001 < s.harvest then s
      else (s.setWh port { s.wh port with reqRx := none, measured := true }).sendWhistle port 4 0
    | none => s)

/-- A round trip measured at the upstream end (R117, R120): more than 100 ns refuses the port. DESIGN CHOICE: one
shorter than 10,000 ns gives 0, an odd difference is halved downward (log entry 118). -/
def State.roundTrip (s : State) (port : Nat) (delay : Nat) : State :=
  let s := s.wr (R.TB_WH_DELAY port) (min delay 0xFFFF)
  if 100 < delay then
    ((s.setWh port { s.wh port with tA := none, measured := false, driving := false }).wrs
      [(R.TB_WH_ROLE port, 3), (R.TB_WH_VALID port, 0)]).log 0x2005 [port, delay]
  else
    (s.setWh port { s.wh port with tA := none, measured := true, driving := true }).wr (R.TB_WH_ROLE port) 2

/-- RT_REP_RX (R115, R117, R120): the upstream end takes DELAY from the round trip that a valid RT_REP ends; a frame
that is not valid is discarded. -/
def execRtRepRx (t port : Nat) (bytes : List Nat) (tB : Int) (s : State) : Host.Outcome State Fault Refusal :=
  let s := s.begin t
  .next (
    match (s.wh port).tA with
    | some tA =>
      if whistleValid bytes && bytes.headD 0 % 16 = 4 then s.roundTrip port ((tB - tA - 10000) / 2).toNat else s
    | none => s)

/-- TIME_STATUS_MESSAGE (R103): an upstream unit tells its bound and its quality to every SLAVED worker below it; a
SLAVED worker takes the bound plus 5 ns for the hop, and SRCQ from the Whistle alone. -/
def execTimeStatusMessage (t err _qual : Nat) (s : State) : Host.Outcome State Fault Refusal :=
  let s := s.begin t
  let s :=
    if s.isWorker && s.rd R.TB_STAT_QUAL = 3 then
      { s with tb := { s.tb with statusAt := some s.now, statusErr := capErr (err + 5) } }
    else s
  .next (([1, 2, 3, 4].foldl (fun s p =>
    if s.sendsOn p then s.answer (.trunk p) 0 [s.tbErr, s.rd R.TB_STAT_QUAL] else s) s).timeRegs)

/-- TIME_STATUS_LATE (R103): no message for 3 s; the bound read from here on grows. -/
def execTimeStatusLate (t : Nat) (s : State) : Host.Outcome State Fault Refusal :=
  .next (s.begin t).timeRegs

/-- TB_WH_LOSS (R101, R121, Table 3.10): 5 µs after the third consecutive marker without a valid frame; t_loss is the
first of them. -/
def execTbWhLoss (t port : Nat) (s : State) : Host.Outcome State Fault Refusal :=
  let s := s.begin t
  let w := s.wh port
  let tLoss := (w.firstMiss.orElse (fun _ => w.tLoss)).getD 0
  .next (
    if !(s.isWorker && s.rd (R.TB_WH_ROLE port) = 1) || w.passed (s.harvest - 5000) < 3 then s
    else
      let s := (s.wrs [(R.TB_WH_VALID port, 0)]).bump (R.TB_WH_LOSSES port) 255
      let s := if s.rd R.TB_STAT_QUAL = 3 then s.enterHoldover
               else if s.tb.back then s.abandonSlew
               else s
      let s := { s with
        tb := { s.tb with srcGood := false, whLost := true },
        whistle := (ins s.whistle port { w with missing := 3, firstMiss := none, lastMarker := none, measured := false,
                                                  reqRx := none }).map
          (fun (p : Nat × WhistleS) => (p.1, { p.2 with driving := false, tA := none })),
        ln := { s.ln with cohRefused := true, lossAt := some tLoss, lossEl := s.now } }
      (s.log 0x2004 [port, tLoss]).timeRegs)

/-- WHISTLE_RETURN (R100, R118, R123): after the round trip that follows the Whistle's return, the error against it is
slewed or stepped; at join, before the worker holds a Rucksack, it is stepped whatever its size. -/
def execWhistleReturn (t port : Nat) (err : Int) (s : State) : Host.Outcome State Fault Refusal :=
  let s := s.begin t
  let q := s.rd R.TB_STAT_QUAL
  .next (
    if !(s.isWorker && s.rd (R.TB_WH_ROLE port) = 1 && (s.wh port).measured && (q = 0 || q = 2)) then s
    else
      let s := s.setWh port { s.wh port with lastValid := some s.now, missing := 0, firstMiss := none }
      let s := s.wr (R.TB_WH_VALID port) 1
      if !s.tb.joined then
        let s := s.doStep err
        (({ s with tb := { s.tb with joined := true, srcGood := true, back := true } }).wr R.TB_STAT_SLEWING 1).timeRegs
      else if s.flag R.TB_STAT_SLEWING then s.timeRegs
      else (s.sourceBack err true).timeRegs)

/-- HARVEST_TIME_SAVE (R104): a manager or standalone module saves harvest time while LOCKED. -/
def execHarvestTimeSave (t : Nat) (s : State) : Host.Outcome State Fault Refusal :=
  let s := s.begin t
  .next (
    if !s.isWorker && s.rd R.TB_STAT_QUAL = 1 then { s with tb := { s.tb with nandTime := s.harvest } } else s)

/-- RTC_CALIBRATION (R104): once per second while PD1 is on. -/
def execRtcCalibration (t : Nat) (s : State) : Host.Outcome State Fault Refusal :=
  let s := s.begin t
  .next (if s.tb.rtcOff.isNone then s.calibrateRtc else s)

end Sys2Proof.Machine
end

