-- ==== Sys2Proof/Machine/Update.lean ====
section
/-! DEFINITION. Firmware update (17 R554 to R566): the UPDATE service's requests and the transfer. -/

namespace Sys2Proof

open Sys2Proof.Machine

/-- The first and the last block of a section. -/
def SectionIn.first (x : SectionIn) : Nat := x.offset / 65536
def SectionIn.last (x : SectionIn) : Nat := (x.offset + x.length - 1) / 65536

end Sys2Proof

namespace Sys2Proof.Machine

/-- STATE of UPD.STAT (Table 17.4). -/
abbrev Upd.idle : Nat := 0
abbrev Upd.receiving : Nat := 1
abbrev Upd.verifying : Nat := 2
abbrev Upd.ready : Nat := 3
abbrev Upd.pending : Nat := 4
abbrev Upd.pause : Nat := 5

/-- The state of the transfer. -/
def State.updState (s : State) : Nat := s.rd R.UPD_STAT_STATE

/-- The slot that is not running. -/
def State.spareSlot (s : State) : Nat := 1 - s.rd R.UPD_STAT_ACTIVE

/-- What refuses a request of the UPDATE service before its own conditions: the session, its carrier, its class
(R556; 13 R454; 14 R483) and WALK_HOME (15 R513). -/
def State.updRefusal (s : State) (session : Nat) (classes : List Nat) : Option Nat :=
  match s.session? session with
  | none => some Res.NO_SESSION
  | some ss => if !ss.tcp then some Res.UNSUPPORTED else s.svcRefusal session 0x0031 classes

/-- Request numbers of Table 17.2 as events name them (log entry 28). -/
abbrev Upd.begin_ : Nat := 1
abbrev Upd.block : Nat := 2
abbrev Upd.abort_ : Nat := 4
abbrev Upd.activate_ : Nat := 5

/-- UPD_REFUSED with the request and the failed condition. -/
def State.updRefused (s : State) (session req cond : Nat) : State := (s.log 0xA026 [req, cond]).reply session 0xA026

/-- UPD_BUSY with the request. -/
def State.updBusy (s : State) (session req : Nat) : State := (s.log 0xA027 [req]).reply session 0xA027

/-! ### The manifest (R555) -/

/-- The check a manifest fails, 0 none: its own, or 5 the security floor in the fuses (log entry 28). -/
def State.manifestFault (s : State) (m : ManifestIn) : Nat :=
  if manifestForm m ≠ 0 then manifestForm m else if m.secFloor < s.rd R.UPD_STAT_FLOOR then 5 else 0

/-! ### Transfer -/

/-- The inactive slot emptied (R556, R557). -/
def State.emptySlot (s : State) : State :=
  let i := s.spareSlot
  let s := { s with upd := { s.upd with inSlot := dropKeys s.upd.inSlot (fun k => k = i) } }
  s.wrs [(R.UPD_SLOT_STATE i, 0), (R.UPD_SLOT_VERSION i, 0), (R.UPD_SLOT_TRIES i, 0)]

/-- The transfer ends and the inactive slot is empty. -/
def State.endTransfer (s : State) : State :=
  let s := (s.emptySlot).wrs [(R.UPD_STAT_STATE, Upd.idle), (R.UPD_STAT_NBLOCKS, 0), (R.UPD_STAT_RECEIVED, 0)]
  { s with upd := { s.upd with man := none, got := [] } }

/-- A transfer opens (R557): the inactive slot is no fallback any more. -/
def State.openTransfer (s : State) (session : Nat) (m : ManifestIn) : State :=
  let n := manifestBlocks m
  let s := { s.emptySlot with upd := { s.emptySlot.upd with man := some m, got := [], lastAt := s.now } }
  let s := s.wrs [(R.UPD_STAT_STATE, Upd.receiving), (R.UPD_STAT_NBLOCKS, n), (R.UPD_STAT_RECEIVED, 0),
    (R.UPD_STAT_BADCRC, 0)]
  (s.log 0xA020 [m.version, n, session]).reply session Res.OK

/-- BEGIN (R556, R557, R564): opens a transfer into the inactive slot, or resumes the open one. -/
def execBegin (t session : Nat) (man : ManifestIn) (s : State) : Host.Outcome State Fault Refusal :=
  let s := s.begin t
  let active := s.rd R.UPD_STAT_ACTIVE
  .next (match s.updRefusal session [Cls.SERVICE, Cls.FLEET] with
    | some c => s.reply session c
    | none =>
      if s.isWorker then s.updRefused session Upd.begin_ 2
      else if s.rd (R.UPD_SLOT_STATE active) = 1 then
        (s.log 0xA028 [s.rd (R.UPD_SLOT_VERSION active)]).reply session 0xA028
      else if s.flag R.HMP_STAT_WRITING then s.updBusy session Upd.begin_
      else if s.manifestFault man ≠ 0 then (s.log 0xA021 [s.manifestFault man]).reply session 0xA021
      else match s.upd.man with
        | some m => if m = man then s.reply session Res.OK else s.updBusy session Upd.begin_
        | none => s.openTransfer session man)

/-- A block's length (R558). -/
def blockLen (m : ManifestIn) (n : Nat) : Nat := min 65536 (m.imageLen - n * 65536)

/-- A good block programmed into the inactive slot, one already held not again; the last missing one begins verification
(R558, R559). -/
def State.takeBlock (s : State) (n : Nat) (data : List Nat) : State :=
  let got := if (look s.upd.got n).isSome then s.upd.got else ins s.upd.got n data
  let all : Bool := got.length = s.rd R.UPD_STAT_NBLOCKS
  let s := { s with upd := { s.upd with got := got, lastAt := s.now } }
  let s := s.wr R.UPD_STAT_RECEIVED got.length
  if all && s.updState = Upd.receiving then s.wr R.UPD_STAT_STATE Upd.verifying else s

/-- BLOCK (R556, R558): one block of the open transfer, in any order, from any session that may send it; its CRC is the
CRC-32C of its data. -/
def execBlock (t session n : Nat) (data : List Nat) (crc : Nat) (s : State) : Host.Outcome State Fault Refusal :=
  let s := s.begin t
  .next (match s.updRefusal session [Cls.SERVICE, Cls.FLEET], s.upd.man with
    | some c, _ => s.reply session c
    | none, none => s.updRefused session Upd.block 1
    | none, some m =>
      if s.rd R.UPD_STAT_NBLOCKS ≤ n ∨ data.length ≠ blockLen m n then s.reply session Res.VALUE
      else if crc32c data ≠ crc then
        ((s.bump R.UPD_STAT_BADCRC 0xFFFF).log 0xA022 [n]).reply session 0xA022
      else (s.takeBlock n data).reply session Res.OK)

/-- The bitmap of the blocks received, one bit per block, block 0 in bit 0 of the first byte (R556; 00 R11). -/
def State.blockMap (s : State) : List Int :=
  (List.range ((s.rd R.UPD_STAT_NBLOCKS + 7) / 8)).map (fun (i : Nat) =>
    (((List.range 8).foldl (fun (v b : Nat) =>
      v + bit01 (look s.upd.got (8 * i + b)).isSome * 2 ^ b) 0 : Nat) : Int))

/-- STATUS (R556): UPD.STAT and a bitmap of the blocks received, for every class. -/
def execStatus (t session : Nat) (s : State) : Host.Outcome State Fault Refusal :=
  let s := s.begin t
  .next (match s.updRefusal session [Cls.MONITOR, Cls.OPERATOR, Cls.MACHINE, Cls.SERVICE, Cls.FLEET] with
    | some c => s.reply session c
    | none => s.reply session Res.OK (s.objectsOf 0xA100 ++ s.blockMap))

/-- ABORT (R556): the transfer ends, the inactive slot becomes empty. -/
def execAbort (t session : Nat) (s : State) : Host.Outcome State Fault Refusal :=
  let s := s.begin t
  .next (match s.updRefusal session [Cls.SERVICE, Cls.FLEET] with
    | some c => s.reply session c
    | none =>
      if s.updState = Upd.pause then s.updBusy session Upd.abort_
      else if s.upd.man.isNone then s.reply session Res.OK
      else s.endTransfer.reply session Res.OK)

/-- A section's bytes, from the blocks held. -/
def State.sectionBytes (s : State) (x : SectionIn) : List Nat :=
  ((List.range (x.last + 1 - x.first)).flatMap (fun (i : Nat) => (look s.upd.got (x.first + i)).getD [])).take x.length

/-- UPD_VERIFY (R559): every section's SHA-256 against its DIGEST; the blocks of one that fails are missing again. -/
def execUpdVerify (t : Nat) (s : State) : Host.Outcome State Fault Refusal :=
  let s := s.begin t
  .next (match s.upd.man with
    | none => s
    | some m =>
      if s.updState ≠ Upd.verifying then s
      else
        let fails := m.sections.filter (fun x => sha256 (s.sectionBytes x) ≠ x.digest)
        if fails.isEmpty then
          ({ s with upd := { s.upd with readyAt := s.now } }.wr R.UPD_STAT_STATE Upd.ready).log 0xA024 [m.version]
        else
          let got := s.upd.got.filter (fun (b : Nat × List Nat) =>
            !fails.any (fun (x : SectionIn) => x.first ≤ b.1 && b.1 ≤ x.last))
          let s := { s with upd := { s.upd with got := got } }.wrs
            [(R.UPD_STAT_STATE, Upd.receiving), (R.UPD_STAT_RECEIVED, got.length)]
          fails.foldl (fun (s : State) (x : SectionIn) => s.log 0xA023 [x.kind]) s)

/-- UPD_EXPIRE (R557): 30 min without an accepted BLOCK, or READY without activation. -/
def execUpdExpire (t : Nat) (s : State) : Host.Outcome State Fault Refusal :=
  let s := s.begin t
  let late := fun (a : Nat) => a + 1800000000000 ≤ s.now
  .next (
    if (s.updState = Upd.receiving && late s.upd.lastAt) || (s.updState = Upd.ready && late s.upd.readyAt) then
      s.endTransfer
    else s)

/-! ### Activation (R560, R561) -/

/-- The highest MIN_FW of the running Hamper and its valid packs is no higher than a version. -/
def State.fwServes (s : State) (version : Nat) : Bool :=
  match s.hmp.image with
  | some img =>
    let packs := if s.rd R.HMP_STAT_SOURCE = 1 then img.packs.filter (fun p => s.packFault img p = 0) else []
    (img.minFw :: packs.map (fun p => p.minFw)).all (fun v => versionOrder v ≤ versionOrder version)
  | none => true

/-- The first condition of R560 that fails, 0 none: 1 not READY, 2 a worker, 3 the mode, 4 a Hamper write or a
foreground test, 5 MIN_FW (log entry 28). -/
def State.activateFault (s : State) : Nat :=
  if s.updState ≠ Upd.ready then 1
  else if s.isWorker then 2
  else if !([Mode.FIELD_IDLE, Mode.ROAD, Mode.SERVICE].contains s.mode) || s.md.trans.isSome then 3
  else if s.flag R.HMP_STAT_WRITING || s.md.tests.any (fun x => x.started.isSome) then 4
  else match s.upd.man with
    | some m => if s.fwServes m.version then 0 else 5
    | none => 1

/-- An accepted activation: the slot record is written, the new slot is TRIAL; with WHEN 0 the transition to
UPDATE starts (R560, R561). -/
def State.activateNow (s : State) (session : Nat) (atNext : Bool) (m : ManifestIn) : State :=
  let i := s.spareSlot
  let mode := s.mode
  let s := { s with upd := { s.upd with inSlot := ins s.upd.inSlot i m, actMode := mode, actNow := !atNext } }
  let s := s.wrs [(R.UPD_SLOT_VERSION i, m.version), (R.UPD_SLOT_STATE i, 1), (R.UPD_SLOT_TRIES i, 0)]
  let s := (s.log 0xA025 [m.version, bit01 atNext, mode]).reply session Res.OK
  if atNext then s.wr R.UPD_STAT_STATE Upd.pending
  else (s.startTransition Mode.UPDATE).wr R.UPD_STAT_STATE Upd.pause

/-- ACTIVATE (R556, R560, R561): a FLEET session only at the next start. -/
def execActivate (t session : Nat) (atNext : Bool) (s : State) : Host.Outcome State Fault Refusal :=
  let s := s.begin t
  .next (match s.updRefusal session (if atNext then [Cls.SERVICE, Cls.FLEET] else [Cls.SERVICE]) with
    | some c => s.reply session c
    | none =>
      if s.activateFault ≠ 0 then s.updRefused session Upd.activate_ s.activateFault
      else match s.upd.man with
        | some m => s.activateNow session atNext m
        | none => s)

end Sys2Proof.Machine
end

