-- ==== Sys2Proof/Machine/Valves.lean ====
section
/-! DEFINITION. The commands of 10: targets, profiles, boost periods, the coil model, faults. -/

namespace Sys2Proof.Machine

/-- A command the channel refuses with VD_CMD_BAD (R357, R358). -/
def State.badValve (s : State) (ch src : Nat) : State := s.pdLog 0x700D [ch, src]

/-- What every command of an unlatched channel goes through: a refused one is logged; the reset behaviour
ends (R380); a latched channel stays off and its function takes cause FAULT (R378, 05 R202). -/
def State.valveCommand (s : State) (ch src : Nat) (ok : Bool) (act : State → State) : State :=
  if !ok then s.badValve ch src
  else
    let s := (s.endValveReset ch).abortTest 1 ch
    if (s.valve ch).latch ≠ 0 then
      match s.fnOfChannel 1 ch with
      | some f => s.stopFn f 4
      | none => s
    else act s

/-- A PROP channel's target, or the NEUTRAL current of a PROFILE channel's stopped state (R358, R359). -/
def State.setTarget (s : State) (ch ma src : Nat) : State :=
  let phase := if s.rd (R.VD_CFG_KIND ch) = 1 then Ph.prop else Ph.hold
  let v := s.valve ch
  if v.tripped.isSome then
    s.setValve ch { v with tripped := some (if ma = 0 then 0 else phase), cmd := ma }
  else if ma = 0 then
    s.valveOff ch (if src = Src.stopped then false else s.flag (R.VD_CFG_DECAY ch))
  else ((s.unqueue ch).regulate ch phase ma).endBoost ch

/-- The stopped state HOLD: the present state is kept; after a reset's behaviour, the current the channel
carries at that moment (R359, R380). -/
def State.keepCurrent (s : State) (ch : Nat) (afterReset : Bool) : State :=
  let i := s.rd (R.VD_NOW_I_MEAS ch)
  if afterReset && s.actPhase ch = Ph.decay && 20 ≤ i then
    s.regulate ch (if s.rd (R.VD_CFG_KIND ch) = 1 then Ph.prop else Ph.hold) i
  else s

/-- PROP_TARGET (R357, R358, R359, R375, R380): a target clamped to 0 to 4,000 mA; `profile` are a launch's
profile bits; `hold` is the stopped state HOLD. -/
def execPropTarget (t ch : Nat) (ma : Int) (profile src : Nat) (hold : Bool) (s : State) :
    Host.Outcome State Fault Refusal :=
  let s := s.begin t
  let kind := s.rd (R.VD_CFG_KIND ch)
  let was := s.rd (R.VD_STAT_RST ch) ≠ 0
  let ramped := (s.valve ch).ramp.isSome
  let ok := (kind = 1 && !(src = Src.launch && profile ≠ 0)) || (kind = 2 && src = Src.stopped)
  .next (s.valveCommand ch src ok (fun s =>
    let s := s.setValve ch { s.valve ch with lastOpen := none }
    if hold then (if ramped then s.regulate ch (s.actPhase ch) (s.rd (R.VD_NOW_I_MEAS ch)) else s.keepCurrent ch was)
     else s.setTarget ch (min 4000 ma.toNat) src))

/-- An off command of a PROFILE channel: by fast decay, or by the running profile's DECAY (R359, R363). -/
def State.offCommand (s : State) (ch : Nat) (fast : Bool) : State :=
  let v := s.valve ch
  if v.tripped.isSome then s.setValve ch { v with tripped := some 0, cmd := 0 }
  else s.valveOff ch (fast || s.flag (R.VD_PRF_A_DECAY v.prf))

/-- The place of a command among the boost requests of its instant (R367, 03 R127): an application of a setpoint comes
before the launches of class 0x2, which follow their order of insertion. -/
def State.boostKey (s : State) (ch src : Nat) : Nat :=
  if src ≠ Src.launch then 0
  else match look s.vd.launched ch with
    | some (at_, order) => if at_ = s.now then order + 1 else 1
    | none => 1

/-- PROFILE_START (R359, R362 to R369): profile `prf` with payload current `cur`, profile 15 an off command; an open-loop
function starts DEFPRF with its value as I_HOLD, 0 is an off command, and a value equal to the previous one is no command.
`rail` is the converter's rail, 0.1 V. -/
def execProfileStart (t ch prf cur src rail : Nat) (s : State) : Host.Outcome State Fault Refusal :=
  let s := (s.begin t).setRail (bankOf ch) rail
  let v := s.valve ch
  let openLoop := src = Src.openLoop
  let p := if openLoop then s.rd (R.VD_CFG_DEFPRF ch) else prf
  .next (
    if openLoop && v.lastOpen = some (cur : Int) && s.rd (R.VD_CFG_KIND ch) = 2 then s
    else s.valveCommand ch src (s.rd (R.VD_CFG_KIND ch) = 2) (fun s =>
      let v := { s.valve ch with lastOpen := if openLoop then some (cur : Int) else none }
      let s := s.setValve ch v
      if (openLoop && cur = 0) || (!openLoop && prf = 15) then s.offCommand ch false
      else if v.tripped.isSome then
        let hold := if cur = 0 then s.rd (R.VD_PRF_A_I_HOLD p) else cur
        s.setValve ch { v with tripped := some Ph.boost, prf := p, holdI := hold }
      else s.startProfile ch p cur (s.boostKey ch src)))

/-- PROFILE_OFF (R359, R363, R369): the off phase; a stopped state SPRING by fast decay, else by the
running profile's DECAY. -/
def execProfileOff (t ch src rail : Nat) (s : State) : Host.Outcome State Fault Refusal :=
  let s := (s.begin t).setRail (bankOf ch) rail
  let kind := s.rd (R.VD_CFG_KIND ch)
  let v := s.valve ch
  .next (
    if src = Src.openLoop && v.lastOpen = some 0 && kind = 2 then s
    else s.valveCommand ch src (kind = 2 || (kind = 1 && src = Src.stopped)) (fun s =>
      let v := { s.valve ch with lastOpen := if src = Src.openLoop then some 0 else none }
      (s.setValve ch v).offCommand ch (src = Src.stopped)))

/-- BOOST_RAIL_READY (R365, R368): the converter's rail has reached 44 V; its banks' waiting heads start. -/
def execBoostRailReady (t conv rail : Nat) (s : State) : Host.Outcome State Fault Refusal :=
  let s := s.begin t
  let s := { s with vd := { s.vd with rail := ins s.vd.rail conv rail } }
  .next (([1, 2, 3, 4, 5, 6, 7, 8].filter (fun b => convOf b = conv)).foldl State.serveBank s)

/-- A time-to-peak judged (R371): early, late, or in its window. -/
def State.judgePeak (s : State) (ch : Nat) (ttp : Option Nat) : State :=
  let v := s.valve ch
  if !v.checked then s
  else match ttp with
    | none => s.pdLogOnce 0x7004 ch 1000000000 [ch, v.prf, 0xFFFF]
    | some x =>
      if x < s.rd (R.VD_PRF_B_TP_MIN v.prf) then s.pdLogOnce 0x7003 ch 1000000000 [ch, v.prf, x]
      else if s.rd (R.VD_PRF_B_TP_MAX v.prf) < x then s.pdLogOnce 0x7004 ch 1000000000 [ch, v.prf, x]
      else s

/-- PEAK_REACHED (R363, R371): the boost phase ends at I_PEAK, or after T_BOOST_MAX; the peak phase runs
either way. -/
def execPeakReached (t ch : Nat) (reached : Bool) (s : State) : Host.Outcome State Fault Refusal :=
  let s := s.begin t
  let v := s.valve ch
  let ttp := (s.now - v.t0 + 50) / 100
  .next (
    if s.phase ch ≠ Ph.boost then s
    else if reached then ((s.setPhase ch Ph.peak).wr (R.VD_STAT_TTP ch) (min ttp 0xFFFF)).judgePeak ch (some ttp)
    else if v.t0 + s.rd (R.VD_PRF_A_T_BOOST_MAX v.prf) * 1000 ≤ s.now then
      (s.setPhase ch Ph.peak).judgePeak ch none
    else s)

/-- PEAK_END (R363, R365): T_PEAK after the end of boost the channel enters hold and the bank serves its
next request. -/
def execPeakEnd (t ch rail : Nat) (s : State) : Host.Outcome State Fault Refusal :=
  let s := (s.begin t).setRail (bankOf ch) rail
  let v := s.valve ch
  .next (
    if s.phase ch = Ph.peak && v.phaseAt + s.rd (R.VD_PRF_A_T_PEAK v.prf) * 1000 ≤ s.now then s.enterHold ch
    else s)

/-- HOLD_END (R363): HOLD_T has passed; a HOLD_T of 0 holds until the next command. -/
def execHoldEnd (t ch : Nat) (s : State) : Host.Outcome State Fault Refusal :=
  let s := s.begin t
  let v := s.valve ch
  let h := s.rd (R.VD_PRF_B_HOLD_T v.prf)
  .next (
    if !(s.actPhase ch = Ph.hold && h ≠ 0 && v.phaseAt + h * 1000000 ≤ s.now) then s
    else if s.phase ch = Ph.waiting then
      ((s.setValve ch { v with fastOff := s.flag (R.VD_PRF_A_DECAY v.prf), cmd := 0 }).wr (R.VD_NOW_I_TGT ch) 0).setActPhase
        ch Ph.decay
    else s.valveOff ch (s.flag (R.VD_PRF_A_DECAY v.prf)))

/-- OFF_DONE (R363): below 20 mA the channel is off. -/
def execOffDone (t ch cur : Nat) (s : State) : Host.Outcome State Fault Refusal :=
  let s := s.begin t
  .next (
    if s.actPhase ch = Ph.decay && cur < 20 then (s.setActPhase ch Ph.off).wr (R.VD_NOW_I_MEAS ch) cur else s)

/-- The dither at an instant, µA: triangular, one rising zero crossing at every whole second of harvest
time (R360). -/
def State.dither (s : State) (ch : Nat) : Rat :=
  let f := s.rd (R.VD_CFG_DITHER_F ch)
  let a : Rat := (s.rd (R.VD_CFG_DITHER_A ch) * 1000 : Nat)
  let x : Rat := mkRat (s.harvest % 1000000000) 1000000000 * (f : Rat)
  let u := x - (x.floor : Rat)
  if f = 0 then 0
  else if u < 1 / 4 then 4 * u * a
  else if u < 3 / 4 then (2 - 4 * u) * a
  else (4 * u - 4) * a

/-- A channel's place among its bank's channels of equal CARRIER, which start their periods a quarter apart (R360). -/
def State.carrierPlace (s : State) (ch : Nat) : Nat :=
  ([1, 2, 3, 4].map (fun k => (bankOf ch - 1) * 4 + k)).countP (fun c =>
    c < ch && s.rd (R.VD_CFG_KIND c) ≠ 0 && s.rd (R.VD_CFG_CARRIER c) = s.rd (R.VD_CFG_CARRIER ch))

/-- The number of the carrier period under way (R360): CARRIER is in 100 Hz, and a channel's periods begin a quarter
period later per place. DESIGN CHOICE: the first of a bank's begin at elapsed time 0 (log entry 127). -/
def State.carrierNo (s : State) (ch : Nat) : Int :=
  (mkRat (s.now * s.rd (R.VD_CFG_CARRIER ch)) 10000000 - mkRat (s.carrierPlace ch) 4).floor

/-- The elapsed time at which a carrier period begins, ns. -/
def State.carrierStart (s : State) (ch : Nat) (n : Int) : Int :=
  (((n : Rat) + mkRat (s.carrierPlace ch) 4) * divQ 10000000 (s.rd (R.VD_CFG_CARRIER ch))).floor

/-- Since when an open load shows (Table 10.7): regulated at 100 mA or more, SAT set, below 20 % of the target. -/
def State.watchOpen (s : State) (ch mean : Nat) : State :=
  let v := s.valve ch
  let tgt := s.rd (R.VD_NOW_I_TGT ch)
  let low := regulating (s.actPhase ch) && 100 ≤ tgt && s.flag (R.VD_STAT_SAT ch) && mean * 5 < tgt
  s.setValve ch { v with lowAt := if low then some (v.lowAt.getD s.now) else none }

/-- CARRIER_PERIOD (R360, R361, R372): one period after another, the mean current is measured, the duty for target plus
dither is set (`need`, 0.1 %); above 95 % it is 100 % and SAT is set. The order to the output carries the current aimed
at, µA, the duty, and the period's start. -/
def execCarrierPeriod (t ch mean need : Nat) (s : State) : Host.Outcome State Fault Refusal :=
  let s := s.begin t
  let n := s.carrierNo ch
  if (s.valve ch).period = some n then .next s
  else
  let s := s.setValve ch { s.valve ch with period := some n }
  let s := (s.wr (R.VD_NOW_I_MEAS ch) (min 0xFFFF mean)).stepRamp ch
  let p := s.actPhase ch
  let sat := 950 < need
  .next (
    if p = Ph.prop ∨ p = Ph.hold ∨ p = Ph.peak then
      let tgt : Rat := (s.rd (R.VD_NOW_I_TGT ch) * 1000 : Nat)
      let aim := if p = Ph.peak then tgt else clampQ 0 4000000 (tgt + s.dither ch)
      let s := if sat && !s.flag (R.VD_STAT_SAT ch) then s.setValve ch { s.valve ch with satAt := s.now } else s
      let s := if sat then s.setValve ch { s.valve ch with satLast := some s.now } else s
      ((s.wr (R.VD_STAT_SAT ch) (bit01 sat)).watchOpen ch mean).answer (.valve ch) 0x10
        [roundInt aim, ((if sat then 1000 else need : Nat) : Int), s.carrierStart ch n]
    else (s.wr (R.VD_STAT_SAT ch) 0).watchOpen ch mean)

/-- VD_SAT (R361): SAT has held for 100 ms. -/
def execVdSat (t ch : Nat) (s : State) : Host.Outcome State Fault Refusal :=
  let s := s.begin t
  .next (
    if s.flag (R.VD_STAT_SAT ch) && (s.valve ch).satAt + 100000000 ≤ s.now then
      s.pdLogOnce 0x700B ch 10000000000 [ch, s.rd (R.VD_NOW_I_TGT ch)]
    else s)

/-! ### The coil model -/

/-- One step of the two nodes (R372), then the correction of a valid measurement (R373). -/
def coilNodes (tw tb rms tmod rref tauw taub rwb rba : Rat) (meas : Option Rat) : Rat × Rat :=
  let h : Rat := 1 / 100
  let cw := tauw / rwb
  let cb := taub / rba
  let res := rref * (1 + 393 / 100000 * (tw - 20))
  let p := rms * rms * res
  let tw := tw + h * (p - (tw - tb) / rwb) / cw
  let tb := tb + h * ((tw - tb) / rwb - (tb - tmod) / rba) / cb
  match meas with
  | some m =>
    let twm := 20 + (m / rref - 1) / (393 / 100000)
    (tw + 1 / 10 * (twm - tw), tb)
  | none => (tw, tb)

/-- Whether a step gives a valid resistance measurement (R373). -/
def State.coilValid (s : State) (ch : Nat) (c : CoilIn) : Bool :=
  regulating (s.actPhase ch) && (s.valve ch).regAt + 10000000 ≤ s.now && 200 ≤ c.mean && !s.flag (R.VD_STAT_SAT ch) &&
    match (s.valve ch).satLast with
    | some x => x + 10000000 ≤ s.now
    | none => true

/-- Protection on the winding estimate (R375). -/
def State.protectCoil (s : State) (ch : Nat) : State :=
  let v := s.valve ch
  let warn : Rat := s.rd (R.VD_THERM2_T_WARN ch)
  let tmax : Rat := s.rd (R.VD_THERM2_T_MAX ch)
  let tw10 := roundInt (v.tw * 10)
  let s := s.setValve ch { v with hot := decide (warn ≤ v.tw) }
  let s := if warn ≤ v.tw && !v.hot then s.pdLog 0x7009 [(ch : Int), tw10] else s
  let der := if tmax ≤ v.tw then true else if v.tw < warn then false else s.flag (R.VD_STAT_DERATED ch)
  let s := s.wr (R.VD_STAT_DERATED ch) (bit01 der)
  let s := if regulating (s.actPhase ch) && v.ramp.isNone then s.wr (R.VD_NOW_I_TGT ch) (s.derate ch v.cmd) else s
  if tmax + 15 ≤ v.tw && v.latch = 0 then
    let s := (s.latchValve ch 5).pdLog 0x700A [(ch : Int), tw10] true
    match s.fnOfChannel 1 ch with
    | some f => s.stopFn f 4
    | none => s
  else s

/-- One channel's step (R372 to R375): the first-use floor holds until valid measurement steps add up to
3 × TAU_W. -/
def State.coilStep (s : State) (tmod : Rat) (c : CoilIn) : State :=
  let ch := c.ch
  let v := s.valve ch
  let valid := s.coilValid ch c
  let res : Rat := mkRat c.volts c.mean            -- µV / mA = mΩ
  let (tw, tb) := coilNodes v.tw v.tb (mkRat c.rms 1000000) tmod ((s.rd (R.VD_THERM_RES_REF ch) : Rat) / 1000)
    (s.rd (R.VD_THERM_TAU_W ch)) (s.rd (R.VD_THERM_TAU_B ch)) ((s.rd (R.VD_THERM_RTH_WB ch) : Rat) / 10)
    ((s.rd (R.VD_THERM_RTH_BA ch) : Rat) / 10) (if valid then some (res / 1000) else none)
  let ms := if valid then v.validMs + 10 else v.validMs
  let first := s.flag (R.VD_STAT_FIRST ch)
  let floor : Rat := tmod + (s.rd (R.VD_THERM_OFFSET ch) : Rat)
  let tw := if first && tw < floor then floor else tw
  let s := (s.setValve ch { v with tw, tb, validMs := ms }).showTw ch
  let s := if valid then s.wr (R.VD_NOW_RES ch) (min 0xFFFF (roundInt res).toNat) else s
  let s := if first && 3000 * s.rd (R.VD_THERM_TAU_W ch) ≤ ms then
      (s.wr (R.VD_STAT_FIRST ch) 0).pdLog 0x700F [(ch : Int), roundInt (tw * 10)]
    else s
  s.protectCoil ch

/-- COIL_MODEL_STEP (R372 to R375): every 10 ms, every channel with KIND other than 0, on or off. `tmod` is the power
die's temperature, 0.1 °C. -/
def execCoilModelStep (t : Nat) (tmod : Int) (coils : List CoilIn) (s : State) :
    Host.Outcome State Fault Refusal :=
  let s := s.begin t
  let early : Bool := match s.vd.coilAt with
    | some x => s.now < x + 10000000
    | none => false
  if early then .next s
  else
  let s := { s with vd := { s.vd with coilAt := some s.now } }
  .next (valveChannels.foldl (fun (s : State) (ch : Nat) =>
    if s.rd (R.VD_CFG_KIND ch) = 0 then s
    else s.coilStep (mkRat tmod 10) ((coils.find? (fun c => c.ch = ch)).getD { ch, rms := 0 })) s)

/-! ### Faults -/

/-- The function of a valve channel stops with cause FAULT (R205, Table 10.7). -/
def State.stopChannel (s : State) (ch : Nat) : State :=
  match s.fnOfChannel 1 ch with
  | some f => s.stopFn f 4
  | none => s

/-- VD_OPEN (Table 10.7): hold or PROP with a target of 100 mA or more, SAT set and the current below 20 %
of the target for 50 ms. -/
def execVdOpen (t ch cur : Nat) (s : State) : Host.Outcome State Fault Refusal :=
  let s := s.begin t
  let tgt := s.rd (R.VD_NOW_I_TGT ch)
  let held : Bool := match (s.valve ch).lowAt with
    | some x => x + 50000000 ≤ s.now
    | none => false
  .next (
    if held && regulating (s.actPhase ch) && 100 ≤ tgt && s.flag (R.VD_STAT_SAT ch) && cur * 5 < tgt then
      let s := (s.valveOff ch true).wr (R.VD_STAT_FAULT ch) 1
      (s.pdLog 0x7005 [ch, tgt, cur] (s.fnOfChannel 1 ch).isSome).stopChannel ch
    else s)

/-- The phase a channel takes up again at the retry after a short. -/
def State.resumePhase (s : State) (ch : Nat) : Nat :=
  let p := if s.phase ch = Ph.waiting then Ph.boost else s.phase ch
  if regulating p then p else if p = Ph.off ∨ p = Ph.decay then Ph.off else Ph.boost

/-- VD_SHORT (Table 10.7): above 15 A the low side goes off; the first trip is retried once, a second one latches and
stops the function. -/
def execVdShort (t ch cur : Nat) (s : State) : Host.Outcome State Fault Refusal :=
  let s := s.begin t
  let v := s.valve ch
  .next (
    if v.latch ≠ 0 ∨ v.tripped.isSome ∨ cur ≤ 15000 then s
    else if 1 ≤ v.trips then ((s.latchValve ch 2).pdLog 0x7006 [ch, 1] true).stopChannel ch
    else
      let p := s.resumePhase ch
      let s := (s.valveOff ch true).setPhase ch Ph.off
      ((s.setValve ch { s.valve ch with trips := 1, tripped := some p, cmd := v.cmd,
                                        latchAt := s.now }).wr (R.VD_STAT_FAULT ch) 2).pdLog 0x7006 [ch, 0])

/-- VD_SHORT_RETRY (Table 10.7): 10 ms after the trip the channel's last command is carried out again. -/
def execVdShortRetry (t ch : Nat) (s : State) : Host.Outcome State Fault Refusal :=
  let s := s.begin t
  let v := s.valve ch
  .next (match v.tripped with
    | none => s
    | some p =>
      if s.now < v.latchAt + 10000000 then s
      else
        let s := (s.setValve ch { v with tripped := none }).wr (R.VD_STAT_FAULT ch) 0
        if p = Ph.prop ∨ p = Ph.hold then s.regulate ch p v.cmd
        else if p = Ph.boost then s.startProfile ch v.prf v.holdI 0
        else s)

/-- A bank fault (Table 10.7): the high side goes off, all four channels latch, their functions stop; the
bank's latch is held for one channel (R378). -/
def State.bankFault (s : State) (b fault holder : Nat) : State :=
  let s := s.setBank b { s.bankS b with hsOff := true, holder := some holder, queue := [] }
  let s := (s.wr (R.VD_B_BOOSTWAIT_OWNER b) 0).setSide b 0
  let chs := [1, 2, 3, 4].map (fun k => (b - 1) * 4 + k)
  let s := chs.foldl (fun (s : State) (c : Nat) => s.latchValve c fault) s
  chs.foldl State.stopChannel s

/-- VD_SHORT_GND (Table 10.7): a channel that is off carries more than 200 mA for 1 ms; `above` is for how long, ns. -/
def execVdShortGnd (t ch cur above : Nat) (s : State) : Host.Outcome State Fault Refusal :=
  let s := s.begin t
  .next (
    if s.actPhase ch = Ph.off && 200 < cur && 1000000 ≤ above && !(s.bankS (bankOf ch)).hsOff then
      (s.pdLog 0x7007 [bankOf ch, ch] true).bankFault (bankOf ch) 3 ch
    else s)

/-- The channel a bank over-current is laid to: the one in its boost period, else the one that carries most
(R378; log entry 33). -/
def State.ocHolder (s : State) (b : Nat) : Nat :=
  let o := s.rd (R.VD_B_BOOSTWAIT_OWNER b)
  if o ≠ 0 then (b - 1) * 4 + o
  else ([2, 3, 4].map (fun k => (b - 1) * 4 + k)).foldl (fun m c =>
    if s.rd (R.VD_NOW_I_MEAS m) < s.rd (R.VD_NOW_I_MEAS c) then c else m) ((b - 1) * 4 + 1)

/-- VD_BANK_OC (Table 10.7): the bank's current is above 30 A. -/
def execVdBankOc (t bank cur : Nat) (s : State) : Host.Outcome State Fault Refusal :=
  let s := s.begin t
  .next (
    if 30000 < cur && !(s.bankS bank).hsOff then
      (s.pdLog 0x7008 [bank, cur] true).bankFault bank 4 (s.ocHolder bank)
    else s)

/-- VALVE_RESET_RELEASE (R379): 250 ms after the assertion a channel with RESET HOLD is released by its
DECAY. -/
def execValveResetRelease (t ch : Nat) (s : State) : Host.Outcome State Fault Refusal :=
  let s := s.begin t
  .next (
    if s.rd (R.VD_STAT_RST ch) = 1 && (s.valve ch).resetAt + 250000000 ≤ s.now && (s.valve ch).latch = 0 then
      s.valveOff ch (s.flag (R.VD_CFG_DECAY ch))
    else s)

end Sys2Proof.Machine
end

