-- ==== Sys2Proof/Machine/Yield.lean ====
section
/-! DEFINITION. The commands of yield mapping (08 R310 to R320). -/

namespace Sys2Proof.Machine

/-! ### Where a sample was cut (R311 to R313) -/

/-- Yield mapping runs and maps (R310). -/
def State.mapping (s : State) : Bool := s.flag R.YM_CFG_EN && !s.isWorker && s.mode = Mode.HARVEST

/-- The sample period of the FLOW binding, ordinal 0, ns. -/
def State.flowPeriod (s : State) : Nat :=
  match (List.range 32).find? (fun n => s.rd (R.OBS_IN_CFG_CLASS n) = Cl.FLOW && s.rd (R.OBS_IN_CFG_ORDINAL n) = 0) with
  | some n => s.samplePeriod n
  | none => 0

/-- The arrival of crop cut at a record's instant, ns of harvest time (R312). -/
def arrivalOf (r : Int × Nat × Nat) : Rat := (r.1 : Rat) + 1000000000 * f32 r.2.2

/-- The last record a test picks, with the record after it. -/
def lastRec (l : List (Int × Nat × Nat)) (p : Int × Nat × Nat → Bool) :
    Option ((Int × Nat × Nat) × Option (Int × Nat × Nat)) :=
  ((l.zip ((l.drop 1).map some ++ [none])).filter (fun e => p e.1)).getLast?

/-- The default transport delay, ns. -/
def State.transportDef (s : State) : Int := ((s.rd R.YM_CFG_TRANSPORT_DEF * 100000000 : Nat) : Int)

/-- The cut instant of a sample and whether it rests on TRANSPORT_DEF (R312): interpolated between two records no
more than 1 s apart. -/
def State.cutInstant (s : State) (t : Int) : Int × Bool :=
  match lastRec s.ym.recs (fun r => decide (arrivalOf r ≤ (t : Rat))) with
  | some (k, some n) =>
    if n.1 - k.1 ≤ 1000000000 then
      let q := ((t : Rat) - arrivalOf k) / (arrivalOf n - arrivalOf k)
      (k.1 + (q * ((n.1 - k.1 : Int) : Rat)).floor, false)
    else (t - s.transportDef, true)
  | _ => (t - s.transportDef, true)

/-- The arrival of a cut instant (R315). -/
def State.arrivalAt (s : State) (x : Int) : Int :=
  match lastRec s.ym.recs (fun r => decide (r.1 ≤ x)) with
  | some (k, some n) =>
    if n.1 - k.1 ≤ 1000000000 then
      let q := mkRat (x - k.1) (n.1 - k.1).toNat
      (arrivalOf k + q * (arrivalOf n - arrivalOf k)).floor
    else x + s.transportDef
  | _ => x + s.transportDef

/-- The mean of singles. -/
def meanF (l : List Nat) : Rat := (l.foldl (fun (q : Rat) (w : Nat) => q + f32 w) 0) / (l.length : Rat)

/-- Cutting width of a second, m, the mean centre offset, and whether the width is HDR_WIDTH for want of an output
(R313). -/
def State.cutWidth (s : State) (sec : Int) : Rat × Rat × Bool :=
  let l := s.ym.widths.filter (fun w => sec ≤ w.1 && w.1 < sec + 1000000000)
  let hdr := mkRat (s.rd R.GD_GEOM2_HDR_WIDTH) 1000
  if l.isEmpty then (hdr, 0, true)
  else (minQ hdr (meanF (l.map (fun w => w.2.1))), meanF (l.map (fun w => w.2.2)), false)

/-- A second in which the machine cuts (R314). -/
def State.cutting (s : State) (sec : Int) : Bool := 1 / 2 ≤ (s.cutWidth sec).1

/-- Moisture at a sample, and whether it is MOIST_DEF (R311): the latest one stamped at or before it, unless none has
arrived for MOIST_HOLD. -/
def State.moistAt (s : State) (t : Int) : Rat × Bool :=
  let held : Bool := s.ym.moistAt.any (fun a => s.now < a + s.rd R.YM_CFG_MOIST_HOLD * 1000000000)
  let last := (s.ym.moist.filter (fun m => m.1 ≤ t)).foldl (fun (b : Option (Int × Nat)) (m : Int × Nat) => match b with
    | some x => if x.1 < m.1 then some m else b
    | none => some m) none
  match (if held then last else none) with
  | some m => (f32 m.2, false)
  | none => (mkRat (s.rd R.YM_CFG_MOIST_DEF) 10, true)

/-- Wet mass at a moisture as mass at STD_MOIST (R311). -/
def State.stdMass (s : State) (m moist : Rat) : Rat :=
  divQ (m * (100 - moist)) (100 - mkRat (s.rd R.YM_CFG_STD_MOIST) 10)

/-! ### Cells (R313 to R316) -/

/-- What a sample adds to a cell. -/
def CellS.plus (c d : CellS) : CellS :=
  { sec := c.sec, raw := c.raw + d.raw, wet := c.wet + d.wet, wetMoist := c.wetMoist + d.wetMoist,
    defdelay := c.defdelay || d.defdelay, moistDef := c.moistDef || d.moistDef, spill := c.spill || d.spill,
    flowgap := c.flowgap || d.flowgap }

/-- The navigation state at an instant: the step's at or less than 10 ms before it. -/
def State.navBefore (s : State) (x : Int) : Option NavS :=
  (s.gd.hist.filter (fun (n : NavS) => n.t ≤ x && x < n.t + 10000000)).getLast?

/-- Distance the cut line centre travelled in a second, m. -/
def State.cutDist (s : State) (sec : Int) : Rat :=
  (s.gd.hist.filter (fun (n : NavS) => sec < n.t && n.t ≤ sec + 1000000000)).foldl (fun (q : Rat) (n : NavS) => q + n.moved) 0

/-- POSQ of a navigation state (Table 8.9). -/
def NavS.posq (x : NavS) : Nat :=
  if x.navq = 2 then 6 else if x.navq = 0 then 0 else [0, 1, 2, 5, 4].getD x.soln 0

/-- A closed cell's record (Table 8.9). Where MASS, WIDTH or DIST leaves a quotient without a value, it is free. -/
def State.cellRecord (s : State) (c : CellS) : CellRec :=
  let (width, off, wdef) := s.cutWidth c.sec
  let dist := s.cutDist c.sec
  let mass := c.raw * s.rdF R.YM_CALS_CAL
  let nav := (s.navBefore (c.sec + 500000000)).filter (fun x => x.navq ≠ 0)
  let pos : Int × Int := match nav with
    | some x => moveGeo x.lat x.lon (off * cosQ (radOf x.hdg)) (-(off * sinQ (radOf x.hdg)))
    | none => (0, 0)
  let dr := (nav.map (fun (x : NavS) => decide (x.navq = 2))).getD false
  let flags := bit01 c.defdelay + 2 * bit01 wdef + 4 * bit01 c.moistDef + 8 * bit01 dr + 16 * bit01 nav.isNone +
    32 * bit01 c.spill + 64 * bit01 c.flowgap
  { sec := c.sec, lat := pos.1, lon := pos.2, width := toF32 width, dist := toF32 dist, mass := toF32 mass,
    moist := toF32 (divQ c.wetMoist c.wet), yield := toF32 (divQ (10 * mass) (width * dist)), flags,
    posq := (nav.map (fun (x : NavS) => x.posq)).getD 0, load := s.rd R.YM_STAT_LOAD }

/-- A cell closes (R315): its record goes to NAND, its mass to the totals and to the open load (R317). -/
def State.closeCell (s : State) (c : CellS) : State :=
  let r := s.cellRecord c
  let load := s.rd R.YM_STAT_LOAD
  let raw : Rat := (look s.ym.loads load).getD 0
  let s := { s with ym := { s.ym with
    open_ := s.ym.open_.filter (fun (x : CellS) => x.sec ≠ c.sec), closed := some (max c.sec (s.ym.closed.getD c.sec)),
    cells := s.ym.cells ++ [r], loads := ins s.ym.loads load (raw + c.raw) } }
  (s.bump R.YM_STAT_CELLS 0xFFFFFFFF).wr R.YM_TOTAL_MAPPED
    (toF32 (s.rdF R.YM_TOTAL_MAPPED + c.raw * s.rdF R.YM_CALS_CAL))

/-- Cells whose time has come close, oldest first (R315). -/
def State.closeCells (s : State) (t : Int) : State :=
  s.ym.open_.foldl (fun (s : State) (c : CellS) =>
    if s.arrivalAt (c.sec + 1000000000) + 2000000000 ≤ t then s.closeCell c else s) s

/-- The cell a cut second's mass belongs to before any spill (R314): the second's own, or the last cutting cell
within 10 s before it. -/
def State.cellFor (s : State) (sec : Int) : Option Int :=
  if s.cutting sec then some sec
  else
    let secs := s.ym.open_.map (fun (c : CellS) => c.sec) ++ s.ym.cells.map (fun (c : CellRec) => c.sec)
    (secs.filter (fun x => x < sec && sec ≤ x + 10000000000)).foldl (fun (m : Option Int) (x : Int) =>
      match m with
      | some y => some (max x y)
      | none => some x) none

/-- A second that is closed: no cell of it is open and none can be opened any more. -/
def State.secClosed (s : State) (sec : Int) : Bool :=
  !s.ym.open_.any (fun (c : CellS) => c.sec = sec) && (match s.ym.closed with
    | some c => sec ≤ c
    | none => false)

/-- A contribution put into a cell that is open, or opened for it. -/
def State.putCell (s : State) (d : CellS) : State :=
  let l := s.ym.open_
  let l := if l.any (fun (c : CellS) => c.sec = d.sec) then l.map (fun (c : CellS) => if c.sec = d.sec then c.plus d else c) else
    (l.filter (fun (c : CellS) => c.sec < d.sec)) ++ [d] ++ l.filter (fun (c : CellS) => d.sec < c.sec)
  { s with ym := { s.ym with open_ := l } }

/-- A contribution placed (R314, R315): in its cell, spilled into the earliest open one, or UNMAPPED. -/
def State.placeMass (s : State) (d : CellS) : State :=
  let lost := s.wr R.YM_TOTAL_UNMAPPED (toF32 (s.rdF R.YM_TOTAL_UNMAPPED + d.raw * s.rdF R.YM_CALS_CAL))
  match s.cellFor d.sec with
  | none => lost
  | some sec =>
    if !s.secClosed sec then s.putCell { d with sec }
    else match s.ym.open_ with
      | c :: _ => (s.putCell { d with sec := c.sec, spill := true }).bump R.YM_STAT_SPILL 255
      | [] => lost

/-! ### Flow samples -/

/-- The conditions in force, as NOW shows them (Table 8.10), logged when they change (Table 8.11). -/
def State.showNow (s : State) (delay width moist : Bool) : State :=
  let old := s.rd R.YM_STAT_NOW
  let dr : Bool := match s.gd.nav with
    | some x => x.navq = 2
    | none => false
  let edge := fun (s : State) (code b : Nat) (v : Bool) => if bitOf old b = v then s else s.log code [bit01 v]
  let s := edge (edge (edge s 0x5040 3 delay) 0x5041 1 moist) 0x5042 2 width
  s.wr R.YM_STAT_NOW (8 * bit01 delay + 4 * bit01 width + 2 * bit01 moist + bit01 dr)

/-- A flow sample while mapping (R311 to R315). -/
def State.takeFlow (s : State) (time : Int) (flow : Nat) : State :=
  let cap : Int := ((3 * s.flowPeriod : Nat) : Int)
  let dt : Int := match s.ym.lastT with
    | some l => max 0 (time - l)
    | none => 0
  let gap := decide (cap < dt)
  let wet := f32 flow * mkRat (if gap then cap else dt) 1000000000
  let (m, mdef) := s.moistAt time
  let (tc, ddef) := s.cutInstant time
  let sec := tc - tc % 1000000000
  let s := { s with ym := { s.ym with lastT := some time } }
  let d : CellS := { sec, raw := s.stdMass wet m, wet, wetMoist := wet * m, defdelay := ddef, moistDef := mdef,
                     flowgap := gap }
  let s := (s.closeCells time).placeMass d
  (s.showNow ddef (s.cutWidth sec).2.2 mdef).wr R.YM_STAT_MAPPING (bit01 (s.cutting sec))

/-- The observer binding yield mapping takes its flow from is there (R310). -/
def State.flowBound (s : State) : Bool :=
  (List.range 32).any (fun n => s.rd (R.OBS_IN_CFG_CLASS n) = Cl.FLOW && s.rd (R.OBS_IN_CFG_ORDINAL n) = 0)

/-- YM_FLOW_SAMPLE (R310 to R316): a sample of the FLOW binding, its stamp and its value in kg/s. -/
def execYmFlowSample (t : Nat) (time : Int) (flow : Nat) (s : State) : Host.Outcome State Fault Refusal :=
  let s := s.begin t
  .next (
    if !s.flowBound then s
    else if s.mapping then s.takeFlow time flow
    else { s with ym := { s.ym with lastT := none } }.wr R.YM_STAT_MAPPING 0)

/-! ### Loads and tickets (R317, R318) -/

/-- NEW_LOAD (R317; 17 R569): the load closes, LOAD rises, and the fleet link is told of the one closed. -/
def execNewLoad (t session : Nat) (s : State) : Host.Outcome State Fault Refusal :=
  .next (s.gated t session (.newLoad) (fun (s : State) =>
      let n := s.rd R.YM_STAT_LOAD
    if !s.classAtLeast session Cls.OPERATOR then s.reply session Res.CLASS
    else ((s.wr R.YM_STAT_LOAD ((n + 1) % 65536)).answer .fleet 0x62 [n]).reply session Res.OK))

/-- Why a ticket names a load it may not: 1 still open, 2 unknown, 0 for neither. -/
def State.loadFault (s : State) (n : Nat) : Nat :=
  let cur := s.rd R.YM_STAT_LOAD
  if n = cur then 1 else if cur < n ∧ (look s.ym.loads n).isNone then 2 else 0

/-- YM_TICKET_BAD (R318): load and reason; 3: less than 1,000 kg. -/
def State.ticketBad (s : State) (session n reason : Nat) : State :=
  (s.log 0x5045 [n, reason]).reply session 0x5045

/-- A ticket accepted (R318): CAL over the latest NTICK tickets, unless it would differ by more than 20 %. -/
def State.takeTicket (s : State) (raw std : Rat) : State :=
  let l := ((raw, std) :: s.ym.tickets).take (max 1 (s.rd R.YM_CFG_NTICK))
  let s := { s with ym := { s.ym with tickets := l } }
  let num := l.foldl (fun (q : Rat) (p : Rat × Rat) => q + p.2) 0
  let den := l.foldl (fun (q : Rat) (p : Rat × Rat) => q + p.1) 0
  let new := divQ num den
  let old := s.rdF R.YM_CALS_CAL
  let w := toF32 new
  if absQ old / 5 < absQ (new - old) then s.log 0x5044 [s.rd R.YM_CALS_CAL, w]
  else
    let s := (s.log 0x5043 [s.rd R.YM_CALS_CAL, w, l.length]).wr R.YM_CALS_CAL w
    { s with ym := { s.ym with calNand := some (w, s.ymRecords) } }

/-- TICKET_ENTRY (R318): closed loads, net mass in kg and moisture in percent, singles. -/
def execTicketEntry (t session : Nat) (loads : List Nat) (mass moist : Nat) (s : State) :
    Host.Outcome State Fault Refusal :=
  .next (s.gated t session (.ticket) (fun (s : State) =>
      let raw : Rat := loads.foldl (fun (q : Rat) (n : Nat) => q + (look s.ym.loads n).getD 0) 0
    if !s.classAtLeast session Cls.OPERATOR then s.reply session Res.CLASS
    else match loads.find? (fun n => s.loadFault n ≠ 0) with
      | some n => s.ticketBad session n (s.loadFault n)
      | none =>
        if raw < 1000 then s.ticketBad session (loads.headD 0) 3
        else (s.takeTicket raw (s.stdMass (f32 mass) (f32 moist))).reply session Res.OK))

/-! ### Export (R319) -/

/-- A cell's time-log record: its time in UTC, position and PositionStatus, mass per area yield, mass, moisture,
working width. -/
def State.logRecord (s : State) (c : CellRec) : List Int :=
  [c.sec - toSigned 16 (s.rd R.TB_UTCOFF_OFFSET) * 1000000000, c.lat, c.lon, (c.posq : Int), (c.yield : Int),
   (c.mass : Int), (c.moist : Int), (c.width : Int)]

/-- The task data set of an interval (R319): version 4 of the XML form, one task, one device for the yield device
element, one time log with its header and binary file, whose records are those of the interval's cells. -/
def State.taskData (s : State) (l : List CellRec) : List Int :=
  [4, 1, 1, 1, (l.length : Int)] ++ l.flatMap s.logRecord

/-- TASKDATA_EXPORT (R319; 13 Table 13.7): classes SERVICE and FLEET; the set carries one record for every cell of
the interval. -/
def execTaskdataExport (t session : Nat) (first last : Int) (s : State) : Host.Outcome State Fault Refusal :=
  let s := s.begin t
  let l := s.ym.cells.filter (fun (c : CellRec) => first ≤ c.sec && c.sec < last)
  .next (match s.svcRefusal session 0x0030 [Cls.SERVICE, Cls.FLEET] with
  | some r => s.turnDown session r
  | none => (s.log 0x5046 [first, last, l.length]).reply session Res.OK (s.taskData l))

end Sys2Proof.Machine
end

