-- ==== Sys2Proof/Machine/Dispatch.lean ====
section
/-! DEFINITION. The meaning of every command: one arm per constructor of Instr, each one direct call. -/

namespace Sys2Proof.Machine

def exec (i : Instr) (s : State) : Host.Outcome State Fault Refusal :=
  match i with
  | .canaryWindowEnd t laps => Sys2Proof.Machine.execCanaryWindowEnd t laps s
  | .islClock t isl edges => Sys2Proof.Machine.execIslClock t isl edges s
  | .crossingTransfer t isl requester toIsland data reads => Sys2Proof.Machine.execCrossingTransfer t isl requester toIsland data reads s
  | .islStall t isl requester toIsland => Sys2Proof.Machine.execIslStall t isl requester toIsland s
  | .fifoResync t isl => Sys2Proof.Machine.execFifoResync t isl s
  | .islResyncFail t isl => Sys2Proof.Machine.execIslResyncFail t isl s
  | .islandRestart t isl ok => Sys2Proof.Machine.execIslandRestart t isl ok s
  | .spbPublish t fn side => Sys2Proof.Machine.execSpbPublish t fn side s
  | .functionLaunch t fn instant readings warms dstep => Sys2Proof.Machine.execFunctionLaunch t fn instant readings warms dstep s
  | .gateRequest t session kind msg => Sys2Proof.Machine.execGateRequest t session kind msg s
  | .mirrorSnapshotRefresh t => Sys2Proof.Machine.execMirrorSnapshotRefresh t s
  | .eventArrive t ev => Sys2Proof.Machine.execEventArrive t ev s
  | .eventRelease t sent => Sys2Proof.Machine.execEventRelease t sent s
  | .protWrite t master entry rights => Sys2Proof.Machine.execProtWrite t master entry rights s
  | .masterAccess t master region offset write value ecc => Sys2Proof.Machine.execMasterAccess t master region offset write value ecc s
  | .sramScrub t partition offset ecc entry => Sys2Proof.Machine.execSramScrub t partition offset ecc entry s
  | .dramSlotDecision t asking => Sys2Proof.Machine.execDramSlotDecision t asking s
  | .dramPrioWrite t session q v => Sys2Proof.Machine.execDramPrioWrite t session q v s
  | .gnssTimeUpdate t toff terr valid queuesEmpty => Sys2Proof.Machine.execGnssTimeUpdate t toff terr valid queuesEmpty s
  | .pendingStep t err queuesEmpty => Sys2Proof.Machine.execPendingStep t err queuesEmpty s
  | .slewEnd t resid => Sys2Proof.Machine.execSlewEnd t resid s
  | .holdoverEntry t => Sys2Proof.Machine.execHoldoverEntry t s
  | .holdoverExpire t => Sys2Proof.Machine.execHoldoverExpire t s
  | .ppsEdge t => Sys2Proof.Machine.execPpsEdge t s
  | .evtEdge t rising width taken => Sys2Proof.Machine.execEvtEdge t rising width taken s
  | .tbEvtOverrun t taken => Sys2Proof.Machine.execTbEvtOverrun t taken s
  | .tick t port => Sys2Proof.Machine.execTick t port s
  | .second t port => Sys2Proof.Machine.execSecond t port s
  | .whistleFrameRx t port bytes marker => Sys2Proof.Machine.execWhistleFrameRx t port bytes marker s
  | .rtReq t port fresh => Sys2Proof.Machine.execRtReq t port fresh s
  | .rtRep t port => Sys2Proof.Machine.execRtRep t port s
  | .rtRepRx t port bytes tB => Sys2Proof.Machine.execRtRepRx t port bytes tB s
  | .timeStatusMessage t err qual => Sys2Proof.Machine.execTimeStatusMessage t err qual s
  | .timeStatusLate t => Sys2Proof.Machine.execTimeStatusLate t s
  | .tbWhLoss t port => Sys2Proof.Machine.execTbWhLoss t port s
  | .lnCohCancel t => Sys2Proof.Machine.execLnCohCancel t s
  | .whistleReturn t port err => Sys2Proof.Machine.execWhistleReturn t port err s
  | .periodicFire t gen instant reading axes imuFault => Sys2Proof.Machine.execPeriodicFire t gen instant reading axes imuFault s
  | .lnInsert t session unit entry remote => Sys2Proof.Machine.execLnInsert t session unit entry remote s
  | .oneshotArm t slot ecc => Sys2Proof.Machine.execOneshotArm t slot ecc s
  | .oneshotFire t slot => Sys2Proof.Machine.execOneshotFire t slot s
  | .lnCancel t session handle => Sys2Proof.Machine.execLnCancel t session handle s
  | .obsStep t instant => Sys2Proof.Machine.execObsStep t instant s
  | .obsGatherClose t => Sys2Proof.Machine.execObsGatherClose t s
  | .obsStepOutput t net => Sys2Proof.Machine.execObsStepOutput t net s
  | .obsOverrun t => Sys2Proof.Machine.execObsOverrun t s
  | .obsSampleArrive t bind time raw => Sys2Proof.Machine.execObsSampleArrive t bind time raw s
  | .sourceMissing t bind unitDown => Sys2Proof.Machine.execSourceMissing t bind unitDown s
  | .offsetEstimate t bind offset unc => Sys2Proof.Machine.execOffsetEstimate t bind offset unc s
  | .offsetInvalid t bind => Sys2Proof.Machine.execOffsetInvalid t bind s
  | .obsStateEcc t region => Sys2Proof.Machine.execObsStateEcc t region s
  | .packSelect t session slot => Sys2Proof.Machine.execPackSelect t session slot s
  | .obsPackChange t => Sys2Proof.Machine.execObsPackChange t s
  | .operatorSetpoint t session fn index value dataId ovr => Sys2Proof.Machine.execOperatorSetpoint t session fn index value dataId ovr s
  | .optimiserCycle t cands maps => Sys2Proof.Machine.execOptimiserCycle t cands maps s
  | .goalSelect t session goal => Sys2Proof.Machine.execGoalSelect t session goal s
  | .fnStopRequest t session fn => Sys2Proof.Machine.execFnStopRequest t session fn s
  | .fnRestartRequest t session fn tj remote => Sys2Proof.Machine.execFnRestartRequest t session fn tj remote s
  | .changeSet t session fn writes restart remote => Sys2Proof.Machine.execChangeSet t session fn writes restart remote s
  | .amendRead t session => Sys2Proof.Machine.execAmendRead t session s
  | .amendCommit t session => Sys2Proof.Machine.execAmendCommit t session s
  | .loopSample t loop instant => Sys2Proof.Machine.execLoopSample t loop instant s
  | .loopEvaluate t engine => Sys2Proof.Machine.execLoopEvaluate t engine s
  | .autotuneRequest t session req => Sys2Proof.Machine.execAutotuneRequest t session req s
  | .ceMismatch t engine slot => Sys2Proof.Machine.execCeMismatch t engine slot s
  | .ceTakeover t => Sys2Proof.Machine.execCeTakeover t s
  | .spareSelfTest t ok => Sys2Proof.Machine.execSpareSelfTest t ok s
  | .loopStateEcc t loop good offset => Sys2Proof.Machine.execLoopStateEcc t loop good offset s
  | .channelDump t ch dump => Sys2Proof.Machine.execChannelDump t ch dump s
  | .channelRatesArrive t ch code carrier => Sys2Proof.Machine.execChannelRatesArrive t ch code carrier s
  | .channelLost t ch => Sys2Proof.Machine.execChannelLost t ch s
  | .measEpoch t view meas => Sys2Proof.Machine.execMeasEpoch t view meas s
  | .gnSolution t sol => Sys2Proof.Machine.execGnSolution t sol s
  | .navWord t word => Sys2Proof.Machine.execNavWord t word s
  | .rtcmFrame t slot crcOk msg => Sys2Proof.Machine.execRtcmFrame t slot crcOk msg s
  | .gnAntOpen t ant current => Sys2Proof.Machine.execGnAntOpen t ant current s
  | .gnAntShort t ant => Sys2Proof.Machine.execGnAntShort t ant s
  | .antRetry t ant => Sys2Proof.Machine.execAntRetry t ant s
  | .retentionWrite t => Sys2Proof.Machine.execRetentionWrite t s
  | .gnssRefresh t => Sys2Proof.Machine.execGnssRefresh t s
  | .gnRefresh t => Sys2Proof.Machine.execGnRefresh t s
  | .guidanceStep t nav => Sys2Proof.Machine.execGuidanceStep t nav s
  | .gdEngage t session tj remote => Sys2Proof.Machine.execGdEngage t session tj remote s
  | .turnRequest t session right => Sys2Proof.Machine.execTurnRequest t session right s
  | .lineLoad t session bytes => Sys2Proof.Machine.execLineLoad t session bytes s
  | .lineSelect t session id => Sys2Proof.Machine.execLineSelect t session id s
  | .ymFlowSample t time flow => Sys2Proof.Machine.execYmFlowSample t time flow s
  | .newLoad t session => Sys2Proof.Machine.execNewLoad t session s
  | .ticketEntry t session loads mass moist => Sys2Proof.Machine.execTicketEntry t session loads mass moist s
  | .taskdataExport t session first last => Sys2Proof.Machine.execTaskdataExport t session first last s
  | .frameStart t cam frame => Sys2Proof.Machine.execFrameStart t cam frame s
  | .camMissed t cam => Sys2Proof.Machine.execCamMissed t cam s
  | .unitReady t cams => Sys2Proof.Machine.execUnitReady t cams s
  | .ispUnitDone t core ae => Sys2Proof.Machine.execIspUnitDone t core ae s
  | .ispAbort t core => Sys2Proof.Machine.execIspAbort t core s
  | .settingWrite t cam done => Sys2Proof.Machine.execSettingWrite t cam done s
  | .camLink t cam => Sys2Proof.Machine.execCamLink t cam s
  | .linkRetrain t cam ok trigLat => Sys2Proof.Machine.execLinkRetrain t cam ok trigLat s
  | .visionRun t cam values => Sys2Proof.Machine.execVisionRun t cam values s
  | .visDrop t cam => Sys2Proof.Machine.execVisDrop t cam s
  | .visPair t cam => Sys2Proof.Machine.execVisPair t cam s
  | .cropWrite t session cam out field value => Sys2Proof.Machine.execCropWrite t session cam out field value s
  | .ispPrioWrite t session cam v => Sys2Proof.Machine.execIspPrioWrite t session cam v s
  | .pocOvercurrent t currents => Sys2Proof.Machine.execPocOvercurrent t currents s
  | .propTarget t ch ma profile src hold => Sys2Proof.Machine.execPropTarget t ch ma profile src hold s
  | .profileStart t ch prf cur src rail => Sys2Proof.Machine.execProfileStart t ch prf cur src rail s
  | .profileOff t ch src rail => Sys2Proof.Machine.execProfileOff t ch src rail s
  | .boostRailReady t conv rail => Sys2Proof.Machine.execBoostRailReady t conv rail s
  | .peakReached t ch reached => Sys2Proof.Machine.execPeakReached t ch reached s
  | .peakEnd t ch rail => Sys2Proof.Machine.execPeakEnd t ch rail s
  | .holdEnd t ch => Sys2Proof.Machine.execHoldEnd t ch s
  | .offDone t ch cur => Sys2Proof.Machine.execOffDone t ch cur s
  | .carrierPeriod t ch mean need => Sys2Proof.Machine.execCarrierPeriod t ch mean need s
  | .vdSat t ch => Sys2Proof.Machine.execVdSat t ch s
  | .coilModelStep t tmod coils => Sys2Proof.Machine.execCoilModelStep t tmod coils s
  | .vdOpen t ch cur => Sys2Proof.Machine.execVdOpen t ch cur s
  | .vdShort t ch cur => Sys2Proof.Machine.execVdShort t ch cur s
  | .vdShortRetry t ch => Sys2Proof.Machine.execVdShortRetry t ch s
  | .vdShortGnd t ch cur above => Sys2Proof.Machine.execVdShortGnd t ch cur above s
  | .vdBankOc t bank cur => Sys2Proof.Machine.execVdBankOc t bank cur s
  | .valveResetRelease t ch => Sys2Proof.Machine.execValveResetRelease t ch s
  | .switchCommand t ch on src mj => Sys2Proof.Machine.execSwitchCommand t ch on src mj s
  | .switchDeferredApply t ch mj => Sys2Proof.Machine.execSwitchDeferredApply t ch mj s
  | .lsTrip t ch limited above cur mj => Sys2Proof.Machine.execLsTrip t ch limited above cur mj s
  | .retryPauseEnd t ch => Sys2Proof.Machine.execRetryPauseEnd t ch s
  | .lsThermal t ch tj mj => Sys2Proof.Machine.execLsThermal t ch tj mj s
  | .lsOpen t ch cur held => Sys2Proof.Machine.execLsOpen t ch cur held s
  | .lsClearRequest t session ch tj => Sys2Proof.Machine.execLsClearRequest t session ch tj s
  | .resetGraceEnd t clamps => Sys2Proof.Machine.execResetGraceEnd t clamps s
  | .linkWatchdogExpire t => Sys2Proof.Machine.execLinkWatchdogExpire t s
  | .fullResetDead t => Sys2Proof.Machine.execFullResetDead t s
  | .whActive t clamps => Sys2Proof.Machine.execWhActive t clamps s
  | .whPinEdge t pin level clamps => Sys2Proof.Machine.execWhPinEdge t pin level clamps s
  | .whEnChange t level clamps => Sys2Proof.Machine.execWhEnChange t level clamps s
  | .whFreq t pin hz clamps => Sys2Proof.Machine.execWhFreq t pin hz clamps s
  | .whStoreLoad t crcOk => Sys2Proof.Machine.execWhStoreLoad t crcOk s
  | .canFrameRx t ch age frame => Sys2Proof.Machine.execCanFrameRx t ch age frame s
  | .canFrameTxDone t ch age => Sys2Proof.Machine.execCanFrameTxDone t ch age s
  | .canBusoff t ch => Sys2Proof.Machine.execCanBusoff t ch s
  | .canBusoffRecover t ch => Sys2Proof.Machine.execCanBusoffRecover t ch s
  | .canTsmap t => Sys2Proof.Machine.execCanTsmap t s
  | .canAddressClaim t ch won => Sys2Proof.Machine.execCanAddressClaim t ch won s
  | .ethLink t port up => Sys2Proof.Machine.execEthLink t port up s
  | .gptpSync t port => Sys2Proof.Machine.execGptpSync t port s
  | .gptpAnnounce t port => Sys2Proof.Machine.execGptpAnnounce t port s
  | .ethGmConflict t port ident => Sys2Proof.Machine.execEthGmConflict t port ident s
  | .fnpDetect t port valid cls => Sys2Proof.Machine.execFnpDetect t port valid cls s
  | .fnpPwrFault t port power above limited => Sys2Proof.Machine.execFnpPwrFault t port power above limited s
  | .fnpRepower t port => Sys2Proof.Machine.execFnpRepower t port s
  | .fnpClear t session port => Sys2Proof.Machine.execFnpClear t session port s
  | .samples t port bytes => Sys2Proof.Machine.execSamples t port bytes s
  | .timeReq t port => Sys2Proof.Machine.execTimeReq t port s
  | .timeRep t port bytes => Sys2Proof.Machine.execTimeRep t port bytes s
  | .timeRepTimeout t port => Sys2Proof.Machine.execTimeRepTimeout t port s
  | .tkAnnounce t port unit ident => Sys2Proof.Machine.execTkAnnounce t port unit ident s
  | .tkLink t port up => Sys2Proof.Machine.execTkLink t port up s
  | .tkSat t port mbit => Sys2Proof.Machine.execTkSat t port mbit s
  | .tlsHandshake t carrier tls => Sys2Proof.Machine.execTlsHandshake t carrier tls s
  | .hello t h => Sys2Proof.Machine.execHello t h s
  | .bye t session msg => Sys2Proof.Machine.execBye t session msg s
  | .keepalive t session msg => Sys2Proof.Machine.execKeepalive t session msg s
  | .sessionTimeout t session => Sys2Proof.Machine.execSessionTimeout t session s
  | .badMessage t session msg => Sys2Proof.Machine.execBadMessage t session msg s
  | .objectRead t session msg entries => Sys2Proof.Machine.execObjectRead t session msg entries s
  | .objectWrite t session msg entries => Sys2Proof.Machine.execObjectWrite t session msg entries s
  | .nextFieldWrite t session index sub value => Sys2Proof.Machine.execNextFieldWrite t session index sub value s
  | .oplimWrite t session fn index maximum value => Sys2Proof.Machine.execOplimWrite t session fn index maximum value s
  | .sesMaxWrite t session cls v => Sys2Proof.Machine.execSesMaxWrite t session cls v s
  | .pcContentWrite t session field v => Sys2Proof.Machine.execPcContentWrite t session field v s
  | .eventSubscribe t session msg => Sys2Proof.Machine.execEventSubscribe t session msg s
  | .streamSubscribe t session msg stream every => Sys2Proof.Machine.execStreamSubscribe t session msg stream every s
  | .snapshotRequest t session msg cam out => Sys2Proof.Machine.execSnapshotRequest t session msg cam out s
  | .e2eTimeout t session dataId => Sys2Proof.Machine.execE2eTimeout t session dataId s
  | .keySense t key => Sys2Proof.Machine.execKeySense t key s
  | .hamperWrite t session unit image newMachine remote => Sys2Proof.Machine.execHamperWrite t session unit image newMachine remote s
  | .hmpWrite t ok => Sys2Proof.Machine.execHmpWrite t ok s
  | .shadowWriteBack t session => Sys2Proof.Machine.execShadowWriteBack t session s
  | .rucksackSend t unit fwLen ms => Sys2Proof.Machine.execRucksackSend t unit fwLen ms s
  | .rucksackRx t ruck => Sys2Proof.Machine.execRucksackRx t ruck s
  | .ruckBad t unit cause => Sys2Proof.Machine.execRuckBad t unit cause s
  | .pwrOv t vbat held => Sys2Proof.Machine.execPwrOv t vbat held s
  | .crankEntry t vbat held => Sys2Proof.Machine.execCrankEntry t vbat held s
  | .pwrCrank t vbat vmin held => Sys2Proof.Machine.execPwrCrank t vbat vmin held s
  | .pwrCrankLong t vmin => Sys2Proof.Machine.execPwrCrankLong t vmin s
  | .thermosStart t vmin held finalDone => Sys2Proof.Machine.execThermosStart t vmin held finalDone s
  | .pwrSens t sup held => Sys2Proof.Machine.execPwrSens t sup held s
  | .sensRetry t sup => Sys2Proof.Machine.execSensRetry t sup s
  | .coreRailAdjust t => Sys2Proof.Machine.execCoreRailAdjust t s
  | .pwrTemp t sensor tj plate => Sys2Proof.Machine.execPwrTemp t sensor tj plate s
  | .modeRequest t session target => Sys2Proof.Machine.execModeRequest t session target s
  | .modeTransitionStart t target => Sys2Proof.Machine.execModeTransitionStart t target s
  | .modeChange t reported => Sys2Proof.Machine.execModeChange t reported s
  | .workerModeNotice t target => Sys2Proof.Machine.execWorkerModeNotice t target s
  | .sleepEntry t => Sys2Proof.Machine.execSleepEntry t s
  | .wake t line active => Sys2Proof.Machine.execWake t line active s
  | .foregroundTest t session req => Sys2Proof.Machine.execForegroundTest t session req s
  | .testBusy t kind chan => Sys2Proof.Machine.execTestBusy t kind chan s
  | .testResult t kind chan load ohms => Sys2Proof.Machine.execTestResult t kind chan load ohms s
  | .modeImage t sec => Sys2Proof.Machine.execModeImage t sec s
  | .thermosCapacityTest t ok capacity => Sys2Proof.Machine.execThermosCapacityTest t ok capacity s
  | .powerOn t vbat held => Sys2Proof.Machine.execPowerOn t vbat held s
  | .brownOut t held => Sys2Proof.Machine.execBrownOut t held s
  | .resetPin t low held => Sys2Proof.Machine.execResetPin t low held s
  | .watchdog t plane unserved => Sys2Proof.Machine.execWatchdog t plane unserved s
  | .lockUp t plane => Sys2Proof.Machine.execLockUp t plane s
  | .softwareReset t session core block idle => Sys2Proof.Machine.execSoftwareReset t session core block idle s
  | .debugReset t => Sys2Proof.Machine.execDebugReset t s
  | .rstEscalate t target => Sys2Proof.Machine.execRstEscalate t target s
  | .resetRelease t start => Sys2Proof.Machine.execResetRelease t start s
  | .configEnd t managerMode => Sys2Proof.Machine.execConfigEnd t managerMode s
  | .modeConfigFail t => Sys2Proof.Machine.execModeConfigFail t s
  | .bbRecordWrite t stepsDone => Sys2Proof.Machine.execBbRecordWrite t stepsDone s
  | .bbLost t => Sys2Proof.Machine.execBbLost t s
  | .bbAnchor t => Sys2Proof.Machine.execBbAnchor t s
  | .hoursSave t => Sys2Proof.Machine.execHoursSave t s
  | .seqBlockRequest t unit granted => Sys2Proof.Machine.execSeqBlockRequest t unit granted s
  | .bbReadout t session unit area first limit remote => Sys2Proof.Machine.execBbReadout t session unit area first limit remote s
  | .pcUpdate t temp => Sys2Proof.Machine.execPcUpdate t temp s
  | .pcUpdateDone t temp => Sys2Proof.Machine.execPcUpdateDone t temp s
  | .pcTempReturn t temp => Sys2Proof.Machine.execPcTempReturn t temp s
  | .pcClear t session => Sys2Proof.Machine.execPcClear t session s
  | .begin t session man => Sys2Proof.Machine.execBegin t session man s
  | .block t session n data crc => Sys2Proof.Machine.execBlock t session n data crc s
  | .status t session => Sys2Proof.Machine.execStatus t session s
  | .abort t session => Sys2Proof.Machine.execAbort t session s
  | .activate t session atNext => Sys2Proof.Machine.execActivate t session atNext s
  | .updVerify t => Sys2Proof.Machine.execUpdVerify t s
  | .updExpire t => Sys2Proof.Machine.execUpdExpire t s
  | .flReconnect t conn stage cell wlan => Sys2Proof.Machine.execFlReconnect t conn stage cell wlan s
  | .telemetryPublish t => Sys2Proof.Machine.execTelemetryPublish t s
  | .cartBroadcast t => Sys2Proof.Machine.execCartBroadcast t s
  | .uiStatusConvert t ui reading => Sys2Proof.Machine.execUiStatusConvert t ui reading s
  | .uiShuntReclose t ui => Sys2Proof.Machine.execUiShuntReclose t ui s
  | .harvestTimeSave t => Sys2Proof.Machine.execHarvestTimeSave t s
  | .rtcCalibration t => Sys2Proof.Machine.execRtcCalibration t s
  | .ggaSend t slot => Sys2Proof.Machine.execGgaSend t slot s
  | .fnpLink t port up => Sys2Proof.Machine.execFnpLink t port up s
  | .tkLinkNotice t port => Sys2Proof.Machine.execTkLinkNotice t port s
  | .sesConnectionClosed t session => Sys2Proof.Machine.execSesConnectionClosed t session s
  | .flConnectionLost t conn => Sys2Proof.Machine.execFlConnectionLost t conn s
  | .workerSafeStopReport t unit holds => Sys2Proof.Machine.execWorkerSafeStopReport t unit holds s
  | .svcEnChange t grounded => Sys2Proof.Machine.execSvcEnChange t grounded s
  | .pcReschedule t temp => Sys2Proof.Machine.execPcReschedule t temp s
  | .vbatLoss t vbat => Sys2Proof.Machine.execVbatLoss t vbat s

end Sys2Proof.Machine
end

