-- ==== Sys2Proof/Safety.lean ====
section
/-! DEFINITION. The terms statements are made in: the parts of the state, what a step leaves alone, the
bounds every step keeps, what a step logs, answers and writes. -/

namespace Sys2Proof.Machine

/-- The parts of the state, one per field of `State`. -/
inductive Part where
  | pending | now | free | reg | mem | answers | canary | isl | board | mirror
  | prot | ecc | arb | tb | whistle | ln | vd | ls | fn | opt
  | eng | lk | ui | imu | ego | out | obs | ses | role | amend
  | bb | pc | pwr | md | rst | hmp | upd | fl | gn | gd
  | ym | cams
deriving DecidableEq, Repr

/-- Two states agree in a part. -/
def Part.same : Part → State → State → Prop
  | .pending, s, t => t.pending = s.pending
  | .now, s, t => t.now = s.now
  | .free, s, t => t.free = s.free
  | .reg, s, t => t.reg = s.reg
  | .mem, s, t => t.mem = s.mem
  | .answers, s, t => t.answers = s.answers
  | .canary, s, t => t.canary = s.canary
  | .isl, s, t => t.isl = s.isl
  | .board, s, t => t.board = s.board
  | .mirror, s, t => t.mirror = s.mirror
  | .prot, s, t => t.prot = s.prot
  | .ecc, s, t => t.ecc = s.ecc
  | .arb, s, t => t.arb = s.arb
  | .tb, s, t => t.tb = s.tb
  | .whistle, s, t => t.whistle = s.whistle
  | .ln, s, t => t.ln = s.ln
  | .vd, s, t => t.vd = s.vd
  | .ls, s, t => t.ls = s.ls
  | .fn, s, t => t.fn = s.fn
  | .opt, s, t => t.opt = s.opt
  | .eng, s, t => t.eng = s.eng
  | .lk, s, t => t.lk = s.lk
  | .ui, s, t => t.ui = s.ui
  | .imu, s, t => t.imu = s.imu
  | .ego, s, t => t.ego = s.ego
  | .out, s, t => t.out = s.out
  | .obs, s, t => t.obs = s.obs
  | .ses, s, t => t.ses = s.ses
  | .role, s, t => t.role = s.role
  | .amend, s, t => t.amend = s.amend
  | .bb, s, t => t.bb = s.bb
  | .pc, s, t => t.pc = s.pc
  | .pwr, s, t => t.pwr = s.pwr
  | .md, s, t => t.md = s.md
  | .rst, s, t => t.rst = s.rst
  | .hmp, s, t => t.hmp = s.hmp
  | .upd, s, t => t.upd = s.upd
  | .fl, s, t => t.fl = s.fl
  | .gn, s, t => t.gn = s.gn
  | .gd, s, t => t.gd = s.gd
  | .ym, s, t => t.ym = s.ym
  | .cams, s, t => t.cams = s.cams

/-- Every part but the queue of commands: what a reset reaches. -/
def resetParts : List Part :=
  [.now, .free, .reg, .mem, .answers, .canary, .isl, .board, .mirror, .prot, .ecc, .arb, .tb, .whistle, .ln,
   .vd, .ls, .fn, .opt, .eng, .lk, .ui, .imu, .ego, .out, .obs, .ses, .role, .amend, .bb, .pc, .pwr, .md,
   .rst, .hmp, .upd, .fl, .gn, .gd, .ym, .cams]

/-- From `s` to `t` only parts of the list `l` may have changed. -/
def Frame (l : List Part) (s t : State) : Prop := ∀ p, p ∉ l → p.same s t

/-- The bounds the manual sets to what the module holds: memory in its canonical form, at most 4,096 events
in the reorder window (R73), 1,024 records in the black box queue (R535), 64 requests in the mode gate's
queue (R57), 256 open sessions (R455), 256 amendments (R486), 64 events held by the power die (R407) and
16 stamps of pin EVT (R112). -/
structure Bounded (s : State) : Prop where
  mem : Memory.wf s.mem
  window : s.mirror.window.length ≤ 4096
  records : s.bb.queue.length ≤ 1024
  gate : s.ses.gate.length ≤ 64
  sessions : s.ses.open_.length ≤ 256
  amend : s.amend.length ≤ 256
  held : s.ls.held.length ≤ 64
  stamps : s.tb.evtHeld.length ≤ 16

/-- What every operation of the model does: it changes no part outside `l` and keeps the bounds. -/
structure Follows (l : List Part) (s t : State) : Prop where
  frame : Frame l s t
  bounded : Bounded s → Bounded t

/-- The chapter of the manual a command belongs to. -/
def chapterOf : Instr → Nat
  | .canaryWindowEnd .. => 1
  | .islClock .. => 1
  | .crossingTransfer .. => 1
  | .islStall .. => 1
  | .fifoResync .. => 1
  | .islResyncFail .. => 1
  | .islandRestart .. => 1
  | .spbPublish .. => 2
  | .functionLaunch .. => 5
  | .gateRequest .. => 2
  | .mirrorSnapshotRefresh .. => 2
  | .eventArrive .. => 2
  | .eventRelease .. => 2
  | .protWrite .. => 2
  | .masterAccess .. => 2
  | .sramScrub .. => 2
  | .dramSlotDecision .. => 2
  | .dramPrioWrite .. => 2
  | .gnssTimeUpdate .. => 3
  | .pendingStep .. => 3
  | .slewEnd .. => 3
  | .holdoverEntry .. => 3
  | .holdoverExpire .. => 3
  | .ppsEdge .. => 3
  | .evtEdge .. => 3
  | .tbEvtOverrun .. => 3
  | .tick .. => 3
  | .second .. => 3
  | .whistleFrameRx .. => 3
  | .rtReq .. => 3
  | .rtRep .. => 3
  | .rtRepRx .. => 3
  | .timeStatusMessage .. => 3
  | .timeStatusLate .. => 3
  | .tbWhLoss .. => 3
  | .lnCohCancel .. => 3
  | .whistleReturn .. => 3
  | .periodicFire .. => 3
  | .lnInsert .. => 3
  | .oneshotArm .. => 3
  | .oneshotFire .. => 3
  | .lnCancel .. => 3
  | .obsStep .. => 4
  | .obsGatherClose .. => 4
  | .obsStepOutput .. => 4
  | .obsOverrun .. => 4
  | .obsSampleArrive .. => 4
  | .sourceMissing .. => 4
  | .offsetEstimate .. => 4
  | .offsetInvalid .. => 4
  | .obsStateEcc .. => 4
  | .packSelect .. => 4
  | .obsPackChange .. => 4
  | .operatorSetpoint .. => 5
  | .optimiserCycle .. => 5
  | .goalSelect .. => 5
  | .fnStopRequest .. => 5
  | .fnRestartRequest .. => 5
  | .changeSet .. => 5
  | .amendRead .. => 5
  | .amendCommit .. => 5
  | .loopSample .. => 6
  | .loopEvaluate .. => 6
  | .autotuneRequest .. => 6
  | .ceMismatch .. => 6
  | .ceTakeover .. => 6
  | .spareSelfTest .. => 6
  | .loopStateEcc .. => 6
  | .channelDump .. => 7
  | .channelRatesArrive .. => 7
  | .channelLost .. => 7
  | .measEpoch .. => 7
  | .gnSolution .. => 7
  | .navWord .. => 7
  | .rtcmFrame .. => 7
  | .gnAntOpen .. => 7
  | .gnAntShort .. => 7
  | .antRetry .. => 7
  | .retentionWrite .. => 7
  | .gnssRefresh .. => 7
  | .gnRefresh .. => 7
  | .guidanceStep .. => 8
  | .gdEngage .. => 8
  | .turnRequest .. => 8
  | .lineLoad .. => 8
  | .lineSelect .. => 8
  | .ymFlowSample .. => 8
  | .newLoad .. => 8
  | .ticketEntry .. => 8
  | .taskdataExport .. => 8
  | .frameStart .. => 9
  | .camMissed .. => 9
  | .unitReady .. => 9
  | .ispUnitDone .. => 9
  | .ispAbort .. => 9
  | .settingWrite .. => 9
  | .camLink .. => 9
  | .linkRetrain .. => 9
  | .visionRun .. => 9
  | .visDrop .. => 9
  | .visPair .. => 9
  | .cropWrite .. => 9
  | .ispPrioWrite .. => 9
  | .pocOvercurrent .. => 18
  | .propTarget .. => 10
  | .profileStart .. => 10
  | .profileOff .. => 10
  | .boostRailReady .. => 10
  | .peakReached .. => 10
  | .peakEnd .. => 10
  | .holdEnd .. => 10
  | .offDone .. => 10
  | .carrierPeriod .. => 10
  | .vdSat .. => 10
  | .coilModelStep .. => 10
  | .vdOpen .. => 10
  | .vdShort .. => 10
  | .vdShortRetry .. => 10
  | .vdShortGnd .. => 10
  | .vdBankOc .. => 10
  | .valveResetRelease .. => 10
  | .switchCommand .. => 11
  | .switchDeferredApply .. => 11
  | .lsTrip .. => 11
  | .retryPauseEnd .. => 11
  | .lsThermal .. => 11
  | .lsOpen .. => 11
  | .lsClearRequest .. => 11
  | .resetGraceEnd .. => 11
  | .linkWatchdogExpire .. => 11
  | .fullResetDead .. => 11
  | .whActive .. => 11
  | .whPinEdge .. => 11
  | .whEnChange .. => 11
  | .whFreq .. => 11
  | .whStoreLoad .. => 11
  | .canFrameRx .. => 12
  | .canFrameTxDone .. => 12
  | .canBusoff .. => 12
  | .canBusoffRecover .. => 12
  | .canTsmap .. => 12
  | .canAddressClaim .. => 12
  | .ethLink .. => 12
  | .gptpSync .. => 12
  | .gptpAnnounce .. => 12
  | .ethGmConflict .. => 12
  | .fnpDetect .. => 12
  | .fnpPwrFault .. => 12
  | .fnpRepower .. => 12
  | .fnpClear .. => 12
  | .samples .. => 12
  | .timeReq .. => 12
  | .timeRep .. => 12
  | .timeRepTimeout .. => 12
  | .tkAnnounce .. => 12
  | .tkLink .. => 12
  | .tkSat .. => 12
  | .tlsHandshake .. => 13
  | .hello .. => 13
  | .bye .. => 13
  | .keepalive .. => 13
  | .sessionTimeout .. => 13
  | .badMessage .. => 13
  | .objectRead .. => 13
  | .objectWrite .. => 13
  | .nextFieldWrite .. => 14
  | .oplimWrite .. => 14
  | .sesMaxWrite .. => 13
  | .pcContentWrite .. => 16
  | .eventSubscribe .. => 2
  | .streamSubscribe .. => 13
  | .snapshotRequest .. => 13
  | .e2eTimeout .. => 13
  | .keySense .. => 14
  | .hamperWrite .. => 14
  | .hmpWrite .. => 14
  | .shadowWriteBack .. => 14
  | .rucksackSend .. => 14
  | .rucksackRx .. => 14
  | .ruckBad .. => 14
  | .pwrOv .. => 15
  | .crankEntry .. => 15
  | .pwrCrank .. => 15
  | .pwrCrankLong .. => 15
  | .thermosStart .. => 15
  | .pwrSens .. => 15
  | .sensRetry .. => 15
  | .coreRailAdjust .. => 15
  | .pwrTemp .. => 15
  | .modeRequest .. => 15
  | .modeTransitionStart .. => 15
  | .modeChange .. => 15
  | .workerModeNotice .. => 15
  | .sleepEntry .. => 15
  | .wake .. => 15
  | .foregroundTest .. => 15
  | .testBusy .. => 15
  | .testResult .. => 15
  | .modeImage .. => 15
  | .thermosCapacityTest .. => 15
  | .powerOn .. => 15
  | .brownOut .. => 15
  | .resetPin .. => 15
  | .watchdog .. => 15
  | .lockUp .. => 15
  | .softwareReset .. => 15
  | .debugReset .. => 15
  | .rstEscalate .. => 15
  | .resetRelease .. => 15
  | .configEnd .. => 15
  | .modeConfigFail .. => 15
  | .bbRecordWrite .. => 16
  | .bbLost .. => 16
  | .bbAnchor .. => 16
  | .hoursSave .. => 16
  | .seqBlockRequest .. => 16
  | .bbReadout .. => 16
  | .pcUpdate .. => 16
  | .pcUpdateDone .. => 16
  | .pcTempReturn .. => 16
  | .pcClear .. => 16
  | .begin .. => 17
  | .block .. => 17
  | .status .. => 17
  | .abort .. => 17
  | .activate .. => 17
  | .updVerify .. => 17
  | .updExpire .. => 17
  | .flReconnect .. => 17
  | .telemetryPublish .. => 17
  | .cartBroadcast .. => 17
  | .uiStatusConvert .. => 18
  | .uiShuntReclose .. => 18
  | .harvestTimeSave .. => 3
  | .rtcCalibration .. => 3
  | .ggaSend .. => 7
  | .fnpLink .. => 12
  | .tkLinkNotice .. => 12
  | .sesConnectionClosed .. => 13
  | .flConnectionLost .. => 17
  | .workerSafeStopReport .. => 15
  | .svcEnChange .. => 18
  | .pcReschedule .. => 16
  | .vbatLoss .. => 15

/-- The parts of the state a command may change. Every command moves elapsed time and empties the answers
of the command before it; what is left out stays as it is. -/
def touched : Instr → List Part
  | .canaryWindowEnd .. => [.now, .reg, .answers, .canary, .mirror, .ses, .bb, .md, .gn]
  | .islClock .. => [.now, .reg, .answers, .mirror, .ses, .bb]
  | .crossingTransfer .. => [.now, .reg, .answers, .isl, .mirror, .ses, .bb]
  | .islStall .. => [.now, .reg, .answers, .isl, .mirror, .tb, .lk, .ses, .bb, .fl, .cams]
  | .fifoResync .. => [.now, .reg, .answers, .isl, .mirror, .lk, .ses, .bb, .gn, .cams]
  | .islResyncFail .. => [.now, .reg, .answers, .isl, .mirror, .tb, .lk, .ses, .bb, .fl, .cams]
  | .islandRestart .. => resetParts
  | .spbPublish .. => [.now, .reg, .answers, .board]
  | .functionLaunch .. => [.now, .free, .reg, .answers, .board, .mirror, .ln, .vd, .fn, .eng, .lk, .ses,
    .bb, .gd]
  | .gateRequest .. => [.now, .reg, .answers, .mirror, .ses, .bb]
  | .mirrorSnapshotRefresh .. => [.now, .reg, .answers, .mirror]
  | .eventArrive .. => [.now, .reg, .answers, .mirror, .ln, .fn, .eng, .ses, .bb, .gd]
  | .eventRelease .. => [.now, .reg, .answers, .mirror, .ses, .bb]
  | .protWrite .. => [.now, .reg, .answers, .mirror, .prot, .ses, .bb]
  | .masterAccess .. => [.now, .reg, .mem, .answers, .isl, .mirror, .ecc, .tb, .lk, .obs, .ses, .bb, .fl,
    .gd, .ym, .cams]
  | .sramScrub .. => [.now, .reg, .answers, .isl, .mirror, .ecc, .tb, .ln, .fn, .eng, .lk, .obs, .ses, .bb,
    .fl, .gd, .ym, .cams]
  | .dramSlotDecision .. => [.now, .reg, .answers, .arb]
  | .dramPrioWrite .. => [.now, .reg, .answers, .mirror, .ses, .amend, .bb]
  | .gnssTimeUpdate .. => [.now, .reg, .answers, .mirror, .tb, .whistle, .ln, .fn, .lk, .ses, .bb, .gd]
  | .pendingStep .. => [.now, .reg, .answers, .mirror, .tb, .whistle, .ln, .fn, .lk, .ses, .bb, .gd]
  | .slewEnd .. => [.now, .reg, .answers, .mirror, .tb, .whistle, .ln, .fn, .ses, .bb]
  | .holdoverEntry .. => [.now, .reg, .answers, .mirror, .tb, .ses, .bb]
  | .holdoverExpire .. => [.now, .reg, .answers, .mirror, .tb, .ses, .bb]
  | .ppsEdge .. => [.now, .answers, .tb]
  | .evtEdge .. => [.now, .reg, .answers, .mirror, .tb, .ses, .bb]
  | .tbEvtOverrun .. => [.now, .reg, .answers, .mirror, .tb, .ses, .bb]
  | .tick .. => [.now, .reg, .answers, .whistle]
  | .second .. => [.now, .reg, .answers, .whistle]
  | .whistleFrameRx .. => [.now, .reg, .answers, .mirror, .tb, .whistle, .ln, .lk, .ses, .bb, .gd]
  | .rtReq .. => [.now, .answers, .whistle]
  | .rtRep .. => [.now, .answers, .whistle]
  | .rtRepRx .. => [.now, .reg, .answers, .mirror, .whistle, .ses, .bb]
  | .timeStatusMessage .. => [.now, .reg, .answers, .tb]
  | .timeStatusLate .. => [.now, .reg, .answers]
  | .tbWhLoss .. => [.now, .reg, .answers, .mirror, .tb, .whistle, .ln, .ses, .bb]
  | .lnCohCancel .. => [.now, .reg, .answers, .mirror, .ln, .fn, .eng, .ses, .bb, .gd]
  | .whistleReturn .. => [.now, .reg, .answers, .mirror, .tb, .whistle, .ln, .fn, .lk, .ses, .bb, .gd]
  | .periodicFire .. => [.now, .free, .reg, .answers, .ln, .ui, .imu, .cams]
  | .lnInsert .. => [.now, .reg, .answers, .mirror, .ln, .vd, .fn, .lk, .ses, .bb]
  | .oneshotArm .. => [.now, .reg, .answers, .mirror, .ecc, .ln, .fn, .eng, .ses, .bb, .gd]
  | .oneshotFire .. => [.now, .reg, .answers, .mirror, .ln, .vd, .fn, .lk, .ses, .bb]
  | .lnCancel .. => [.now, .reg, .answers, .mirror, .ln, .ses, .bb]
  | .obsStep .. => [.now, .reg, .answers, .mirror, .ln, .vd, .fn, .opt, .lk, .ego, .out, .obs, .ses, .bb]
  | .obsGatherClose .. => [.now, .reg, .answers, .obs]
  | .obsStepOutput .. => [.now, .reg, .answers, .board, .mirror, .ln, .vd, .fn, .opt, .lk, .ego, .out, .obs,
    .ses, .bb, .ym]
  | .obsOverrun .. => [.now, .reg, .answers, .mirror, .obs, .ses, .bb]
  | .obsSampleArrive .. => [.now, .answers, .obs, .ym]
  | .sourceMissing .. => [.now, .reg, .answers, .obs]
  | .offsetEstimate .. => [.now, .reg, .answers, .mirror, .obs, .ses, .bb]
  | .offsetInvalid .. => [.now, .reg, .answers, .mirror, .obs, .ses, .bb]
  | .obsStateEcc .. => [.now, .reg, .answers, .mirror, .ln, .vd, .fn, .opt, .lk, .ego, .out, .obs, .ses, .bb]
  | .packSelect .. => [.now, .reg, .answers, .mirror, .obs, .ses, .bb]
  | .obsPackChange .. => [.now, .reg, .answers, .mirror, .ln, .vd, .fn, .opt, .lk, .obs, .ses, .bb]
  | .operatorSetpoint .. => [.now, .reg, .answers, .mirror, .fn, .ses, .bb]
  | .optimiserCycle .. => [.now, .free, .reg, .answers, .board, .mirror, .ln, .vd, .fn, .opt, .lk, .ses, .bb]
  | .goalSelect .. => [.now, .reg, .answers, .mirror, .opt, .ses, .bb]
  | .fnStopRequest .. => [.now, .reg, .answers, .mirror, .ln, .fn, .eng, .ses, .bb, .gd]
  | .fnRestartRequest .. => [.now, .reg, .answers, .board, .mirror, .vd, .ls, .fn, .ses, .bb]
  | .changeSet .. => [.now, .reg, .answers, .mirror, .ln, .fn, .eng, .ses, .amend, .bb, .gd]
  | .amendRead .. => [.now, .reg, .answers, .mirror, .ses, .bb]
  | .amendCommit .. => [.now, .reg, .answers, .mirror, .ses, .bb]
  | .loopSample .. => [.now, .reg, .answers, .mirror, .eng, .ses, .bb]
  | .loopEvaluate .. => [.now, .reg, .answers, .mirror, .ln, .fn, .eng, .ses, .bb, .gd]
  | .autotuneRequest .. => [.now, .reg, .answers, .mirror, .eng, .ses, .bb]
  | .ceMismatch .. => [.now, .reg, .answers, .mirror, .ln, .fn, .eng, .ses, .bb, .gd]
  | .ceTakeover .. => [.now, .reg, .answers, .mirror, .ln, .fn, .eng, .ses, .bb, .gd]
  | .spareSelfTest .. => [.now, .reg, .answers, .mirror, .ses, .bb]
  | .loopStateEcc .. => [.now, .reg, .answers, .mirror, .ln, .fn, .eng, .ses, .bb, .gd]
  | .channelDump .. => [.now, .reg, .answers, .mirror, .ses, .bb, .gn]
  | .channelRatesArrive .. => [.now, .answers, .gn]
  | .channelLost .. => [.now, .reg, .answers, .gn]
  | .measEpoch .. => [.now, .free, .reg, .answers, .ses, .gn]
  | .gnSolution .. => [.now, .reg, .answers, .mirror, .ses, .bb, .gn]
  | .navWord .. => [.now, .reg, .answers, .ses, .gn]
  | .rtcmFrame .. => [.now, .reg, .answers, .mirror, .ses, .bb, .gn]
  | .gnAntOpen .. => [.now, .reg, .answers, .mirror, .ses, .bb]
  | .gnAntShort .. => [.now, .reg, .answers, .mirror, .ses, .bb, .gn]
  | .antRetry .. => [.now, .reg, .answers, .gn]
  | .retentionWrite .. => [.now, .answers, .gn]
  | .gnssRefresh .. => [.now, .reg, .answers, .mirror, .tb, .ses, .bb, .rst, .gn]
  | .gnRefresh .. => [.now, .reg, .answers, .mirror, .tb, .ses, .bb, .rst, .gn]
  | .guidanceStep .. => [.now, .reg, .answers, .board, .mirror, .ses, .bb, .gd]
  | .gdEngage .. => [.now, .reg, .answers, .board, .mirror, .vd, .ls, .fn, .ses, .bb]
  | .turnRequest .. => [.now, .reg, .answers, .mirror, .ses, .bb, .gd]
  | .lineLoad .. => [.now, .reg, .answers, .mirror, .ses, .bb, .gd]
  | .lineSelect .. => [.now, .reg, .answers, .mirror, .ses, .bb, .gd]
  | .ymFlowSample .. => [.now, .reg, .answers, .mirror, .ses, .bb, .ym]
  | .newLoad .. => [.now, .reg, .answers, .mirror, .ses, .bb]
  | .ticketEntry .. => [.now, .reg, .answers, .mirror, .ses, .bb, .ym]
  | .taskdataExport .. => [.now, .reg, .answers, .mirror, .ses, .bb]
  | .frameStart .. => [.now, .reg, .answers, .mirror, .ses, .bb, .cams]
  | .camMissed .. => [.now, .reg, .answers, .mirror, .ses, .bb, .cams]
  | .unitReady .. => [.now, .reg, .answers, .mirror, .ses, .bb, .cams]
  | .ispUnitDone .. => [.now, .free, .reg, .answers, .ses, .cams]
  | .ispAbort .. => [.now, .reg, .answers, .mirror, .ses, .bb, .cams]
  | .settingWrite .. => [.now, .answers, .cams]
  | .camLink .. => [.now, .reg, .answers, .mirror, .ses, .bb, .cams]
  | .linkRetrain .. => [.now, .reg, .answers, .mirror, .ses, .bb, .cams]
  | .visionRun .. => [.now, .reg, .answers, .mirror, .ses, .bb, .ym, .cams]
  | .visDrop .. => [.now, .reg, .answers, .mirror, .ses, .bb, .cams]
  | .visPair .. => [.now, .reg, .answers, .mirror, .ses, .bb, .cams]
  | .cropWrite .. => [.now, .reg, .answers, .mirror, .ses, .amend, .bb, .cams]
  | .ispPrioWrite .. => [.now, .reg, .answers, .mirror, .ses, .amend, .bb]
  | .pocOvercurrent .. => [.now, .reg, .answers, .mirror, .ses, .bb, .cams]
  | .propTarget .. => [.now, .reg, .answers, .mirror, .ln, .vd, .ls, .fn, .eng, .ses, .bb, .md, .gd]
  | .profileStart .. => [.now, .reg, .answers, .mirror, .ln, .vd, .ls, .fn, .eng, .ses, .bb, .md, .gd]
  | .profileOff .. => [.now, .reg, .answers, .mirror, .ln, .vd, .ls, .fn, .eng, .ses, .bb, .md, .gd]
  | .boostRailReady .. => [.now, .reg, .answers, .mirror, .vd, .ls, .ses, .bb]
  | .peakReached .. => [.now, .reg, .answers, .mirror, .vd, .ls, .ses, .bb]
  | .peakEnd .. => [.now, .reg, .answers, .mirror, .vd, .ls, .ses, .bb]
  | .holdEnd .. => [.now, .reg, .answers, .mirror, .vd, .ls, .ses, .bb]
  | .offDone .. => [.now, .reg, .answers, .vd]
  | .carrierPeriod .. => [.now, .reg, .answers, .mirror, .vd, .ls, .ses, .bb]
  | .vdSat .. => [.now, .reg, .answers, .mirror, .ls, .ses, .bb]
  | .coilModelStep .. => [.now, .reg, .answers, .mirror, .ln, .vd, .ls, .fn, .eng, .ses, .bb, .gd]
  | .vdOpen .. => [.now, .reg, .answers, .mirror, .ln, .vd, .ls, .fn, .eng, .ses, .bb, .gd]
  | .vdShort .. => [.now, .reg, .answers, .mirror, .ln, .vd, .ls, .fn, .eng, .ses, .bb, .gd]
  | .vdShortRetry .. => [.now, .reg, .answers, .mirror, .vd, .ls, .ses, .bb]
  | .vdShortGnd .. => [.now, .reg, .answers, .mirror, .ln, .vd, .ls, .fn, .eng, .ses, .bb, .gd]
  | .vdBankOc .. => [.now, .reg, .answers, .mirror, .ln, .vd, .ls, .fn, .eng, .ses, .bb, .gd]
  | .valveResetRelease .. => [.now, .reg, .answers, .mirror, .vd, .ls, .ses, .bb]
  | .switchCommand .. => [.now, .reg, .answers, .mirror, .ln, .ls, .fn, .eng, .ses, .bb, .md, .gd]
  | .switchDeferredApply .. => [.now, .reg, .answers, .mirror, .ln, .ls, .fn, .eng, .ses, .bb, .gd]
  | .lsTrip .. => [.now, .reg, .answers, .mirror, .ln, .ls, .fn, .eng, .ses, .bb, .gd]
  | .retryPauseEnd .. => [.now, .reg, .answers, .mirror, .ln, .ls, .fn, .eng, .ses, .bb, .gd]
  | .lsThermal .. => [.now, .reg, .answers, .mirror, .ln, .ls, .fn, .eng, .ses, .bb, .gd]
  | .lsOpen .. => [.now, .reg, .answers, .mirror, .ls, .ses, .bb]
  | .lsClearRequest .. => [.now, .reg, .answers, .mirror, .ls, .ses, .bb]
  | .resetGraceEnd .. => [.now, .reg, .answers, .mirror, .ln, .vd, .ls, .fn, .eng, .ses, .bb, .gd]
  | .linkWatchdogExpire .. => [.now, .reg, .answers, .mirror, .vd, .ls, .ses, .bb]
  | .fullResetDead .. => [.now, .reg, .answers, .mirror, .ln, .vd, .ls, .fn, .eng, .ses, .bb, .gd]
  | .whActive .. => [.now, .reg, .answers, .mirror, .ln, .vd, .ls, .fn, .eng, .ses, .bb, .gd]
  | .whPinEdge .. => [.now, .reg, .answers, .mirror, .ln, .vd, .ls, .fn, .eng, .ses, .bb, .gd]
  | .whEnChange .. => [.now, .reg, .answers, .mirror, .ln, .vd, .ls, .fn, .eng, .ses, .bb, .gd]
  | .whFreq .. => [.now, .reg, .answers, .mirror, .ln, .vd, .ls, .fn, .eng, .ses, .bb, .gd]
  | .whStoreLoad .. => [.now, .reg, .answers, .mirror, .ln, .ls, .fn, .eng, .ses, .bb, .gd]
  | .canFrameRx .. => [.now, .free, .reg, .answers, .mirror, .opt, .lk, .ses, .bb, .gn]
  | .canFrameTxDone .. => [.now, .reg, .answers, .mirror, .lk, .ses, .bb]
  | .canBusoff .. => [.now, .reg, .answers, .mirror, .ln, .fn, .eng, .lk, .ses, .bb, .gd]
  | .canBusoffRecover .. => [.now, .reg, .answers, .mirror, .lk, .ses, .bb]
  | .canTsmap .. => [.now, .reg, .answers, .lk]
  | .canAddressClaim .. => [.now, .reg, .answers, .mirror, .ln, .fn, .eng, .lk, .ses, .bb, .gd]
  | .ethLink .. => [.now, .reg, .answers, .mirror, .ses, .bb]
  | .gptpSync .. => [.now, .answers, .lk]
  | .gptpAnnounce .. => [.now, .answers, .lk]
  | .ethGmConflict .. => [.now, .reg, .answers, .mirror, .lk, .ses, .bb]
  | .fnpDetect .. => [.now, .reg, .answers, .mirror, .lk, .ses, .bb]
  | .fnpPwrFault .. => [.now, .reg, .answers, .mirror, .lk, .ses, .bb]
  | .fnpRepower .. => [.now, .reg, .answers, .lk]
  | .fnpClear .. => [.now, .reg, .answers, .mirror, .lk, .ses, .bb]
  | .samples .. => [.now, .answers, .lk]
  | .timeReq .. => [.now, .answers, .lk]
  | .timeRep .. => [.now, .reg, .answers, .lk]
  | .timeRepTimeout .. => [.now, .answers, .lk]
  | .tkAnnounce .. => [.now, .reg, .answers, .mirror, .whistle, .lk, .ses, .bb]
  | .tkLink .. => [.now, .reg, .answers, .mirror, .ln, .fn, .eng, .lk, .ses, .bb, .gd]
  | .tkSat .. => [.now, .reg, .answers, .mirror, .lk, .ses, .bb]
  | .tlsHandshake .. => [.now, .reg, .answers, .mirror, .ses, .bb]
  | .hello .. => [.now, .reg, .answers, .mirror, .ses, .bb]
  | .bye .. => [.now, .reg, .answers, .mirror, .ses, .bb]
  | .keepalive .. => [.now, .reg, .answers, .mirror, .ses, .bb]
  | .sessionTimeout .. => [.now, .reg, .answers, .mirror, .ses, .bb]
  | .badMessage .. => [.now, .reg, .answers, .mirror, .ses, .bb]
  | .objectRead .. => [.now, .reg, .answers, .mirror, .ses, .bb]
  | .objectWrite .. => [.now, .reg, .answers, .mirror, .ses, .amend, .bb, .cams]
  | .nextFieldWrite .. => [.now, .reg, .answers, .mirror, .ses, .amend, .bb]
  | .oplimWrite .. => [.now, .reg, .answers, .mirror, .ses, .amend, .bb]
  | .sesMaxWrite .. => [.now, .reg, .answers, .mirror, .ses, .amend, .bb]
  | .pcContentWrite .. => [.now, .reg, .answers, .mirror, .ses, .amend, .bb]
  | .eventSubscribe .. => [.now, .reg, .answers, .mirror, .ses, .bb]
  | .streamSubscribe .. => [.now, .reg, .answers, .mirror, .ses, .bb]
  | .snapshotRequest .. => [.now, .reg, .answers, .mirror, .ses, .bb]
  | .e2eTimeout .. => [.now, .reg, .answers, .mirror, .ln, .fn, .eng, .ses, .bb, .gd]
  | .keySense .. => [.now, .reg, .answers, .mirror, .ses, .bb, .hmp]
  | .hamperWrite .. => resetParts
  | .hmpWrite .. => [.now, .reg, .answers, .mirror, .ses, .bb, .hmp]
  | .shadowWriteBack .. => [.now, .reg, .answers, .mirror, .ses, .bb, .hmp]
  | .rucksackSend .. => [.now, .reg, .answers, .mirror, .ses, .bb, .md, .hmp]
  | .rucksackRx .. => resetParts
  | .ruckBad .. => [.now, .reg, .answers, .mirror, .fn, .obs, .ses, .bb, .md, .hmp]
  | .pwrOv .. => [.now, .reg, .answers, .mirror, .ses, .bb, .pwr]
  | .crankEntry .. => [.now, .reg, .answers, .mirror, .tb, .ln, .vd, .fn, .opt, .lk, .ego, .out, .obs, .ses,
    .bb, .pwr, .fl, .gn, .cams]
  | .pwrCrank .. => [.now, .reg, .answers, .isl, .mirror, .ln, .vd, .fn, .opt, .lk, .ego, .out, .obs, .ses,
    .bb, .pwr, .gn, .cams]
  | .pwrCrankLong .. => [.now, .reg, .answers, .mirror, .ses, .bb, .pwr, .md]
  | .thermosStart .. => resetParts
  | .pwrSens .. => [.now, .reg, .answers, .mirror, .ses, .bb, .pwr]
  | .sensRetry .. => [.now, .reg, .answers, .pwr]
  | .coreRailAdjust .. => [.now, .reg, .answers, .pwr]
  | .pwrTemp .. => [.now, .reg, .answers, .mirror, .ses, .bb, .md]
  | .modeRequest .. => [.now, .reg, .answers, .mirror, .ln, .vd, .fn, .opt, .eng, .lk, .ego, .out, .obs,
    .ses, .bb, .md, .gd]
  | .modeTransitionStart .. => [.now, .reg, .answers, .mirror, .ln, .vd, .fn, .opt, .eng, .lk, .ego, .out,
    .obs, .ses, .bb, .md, .gd]
  | .modeChange .. => resetParts
  | .workerModeNotice .. => resetParts
  | .sleepEntry .. => [.now, .reg, .answers, .mirror, .tb, .ln, .vd, .fn, .opt, .eng, .lk, .ego, .out, .obs,
    .ses, .bb, .pc, .md, .gn, .gd]
  | .wake .. => [.now, .reg, .answers, .mirror, .tb, .ln, .vd, .fn, .opt, .eng, .lk, .ego, .out, .obs, .ses,
    .bb, .pwr, .md, .rst, .gn, .gd]
  | .foregroundTest .. => [.now, .reg, .answers, .mirror, .ln, .vd, .fn, .eng, .ses, .bb, .md, .gd]
  | .testBusy .. => [.now, .reg, .answers, .mirror, .ses, .bb, .md]
  | .testResult .. => [.now, .reg, .answers, .mirror, .vd, .ls, .fn, .ses, .bb, .md]
  | .modeImage .. => resetParts
  | .thermosCapacityTest .. => [.now, .reg, .answers, .mirror, .ses, .bb, .pwr]
  | .powerOn .. => resetParts
  | .brownOut .. => resetParts
  | .resetPin .. => resetParts
  | .watchdog .. => resetParts
  | .lockUp .. => resetParts
  | .softwareReset .. => resetParts
  | .debugReset .. => resetParts
  | .rstEscalate .. => resetParts
  | .resetRelease .. => resetParts
  | .configEnd .. => [.now, .reg, .answers, .isl, .mirror, .tb, .ln, .vd, .ls, .fn, .opt, .lk, .ego, .out,
    .obs, .ses, .bb, .pc, .pwr, .md, .rst, .hmp, .upd, .gn, .cams]
  | .modeConfigFail .. => resetParts
  | .bbRecordWrite .. => [.now, .reg, .answers, .mirror, .ses, .bb]
  | .bbLost .. => [.now, .reg, .answers, .mirror, .ses, .bb]
  | .bbAnchor .. => [.now, .reg, .answers, .bb]
  | .hoursSave .. => [.now, .answers, .bb]
  | .seqBlockRequest .. => [.now, .answers, .bb]
  | .bbReadout .. => [.now, .answers]
  | .pcUpdate .. => [.now, .reg, .answers, .mirror, .ses, .bb, .pc]
  | .pcUpdateDone .. => [.now, .reg, .answers, .mirror, .ses, .bb, .pc]
  | .pcTempReturn .. => [.now, .reg, .answers, .mirror, .ses, .bb, .pc]
  | .pcClear .. => [.now, .reg, .answers, .mirror, .ses, .bb]
  | .begin .. => [.now, .reg, .answers, .mirror, .ses, .bb, .upd]
  | .block .. => [.now, .reg, .answers, .mirror, .ses, .bb, .upd]
  | .status .. => [.now, .reg, .answers]
  | .abort .. => [.now, .reg, .answers, .mirror, .ses, .bb, .upd]
  | .activate .. => [.now, .reg, .answers, .mirror, .ln, .vd, .fn, .opt, .eng, .lk, .ego, .out, .obs, .ses,
    .bb, .md, .upd, .gd]
  | .updVerify .. => [.now, .reg, .answers, .mirror, .ses, .bb, .upd]
  | .updExpire .. => [.now, .reg, .answers, .upd]
  | .flReconnect .. => [.now, .reg, .answers, .mirror, .ses, .bb, .fl]
  | .telemetryPublish .. => [.now, .reg, .answers, .mirror, .ses, .bb, .fl]
  | .cartBroadcast .. => [.now, .free, .reg, .answers, .fl]
  | .uiStatusConvert .. => [.now, .free, .reg, .answers, .ui]
  | .uiShuntReclose .. => [.now, .answers, .ui]
  | .harvestTimeSave .. => [.now, .answers, .tb]
  | .rtcCalibration .. => [.now, .answers, .tb]
  | .ggaSend .. => [.now, .answers, .gn]
  | .fnpLink .. => [.now, .reg, .answers, .lk]
  | .tkLinkNotice .. => [.now, .reg, .answers, .mirror, .ln, .fn, .eng, .lk, .ses, .bb, .gd]
  | .sesConnectionClosed .. => [.now, .reg, .answers, .mirror, .ses, .bb]
  | .flConnectionLost .. => [.now, .reg, .answers, .mirror, .ses, .bb, .fl]
  | .workerSafeStopReport .. => [.now, .reg, .answers, .bb, .md]
  | .svcEnChange .. => [.now, .answers, .pwr]
  | .pcReschedule .. => [.now, .reg, .answers]
  | .vbatLoss .. => [.now, .mem, .answers, .tb, .gn]

/-- The registers an event on its way through the mirror and into the black box may move: LATE, DEPTH_MAX and
LOST of MIRROR.STAT, LOST of BB.STAT, and the held fault the Postcard shows (02 Table 2.4, 16 R535, R544). -/
def streamRegs : List Nat :=
  [R.MIRROR_STAT_LATE, R.MIRROR_STAT_DEPTH_MAX, R.MIRROR_STAT_LOST, R.BB_STAT_LOST, R.PC_STAT_HELD,
   R.PC_STAT_HUNIT, R.PC_STAT_HCODE]

/-- No register outside `l` has changed, but for those every logged event may move. -/
def RegsKept (l : List Nat) (s t : State) : Prop := ∀ k, k ∉ l → k ∉ streamRegs → t.rd k = s.rd k

/-- No register outside `l` has changed: nothing was logged. -/
def RegsExact (l : List Nat) (s t : State) : Prop := ∀ k, k ∉ l → t.rd k = s.rd k

/-- The reorder window has room for what one command logs. -/
abbrev Room (s : State) : Prop := s.mirror.window.length + 64 ≤ 4096

/-- Between `s` and `t` an event of this code and content has entered the mirror, where it waits for its
release. -/
def Logged (s t : State) (code : Nat) (payload : List Int) : Prop :=
  ∃ e ∈ t.mirror.window, e.code = code ∧ e.payload = payload ∧ s.mirror.arrivals ≤ e.arrival

/-- An entry of a session's output queue, apart from the number of an event's arrival. -/
def QItem.noArrival : QItem → QItem
  | .event e => .event { e with arrival := 0 }
  | x => x

/-- The command has sent an answer or a frame of this code and content, a response of a session behind a header. -/
def Sent (t : State) (dest : Dest) (code : Nat) (data : List Int) : Prop :=
  ∃ a ∈ t.answers, a.dest = dest ∧ a.code = code ∧ a.data = data

end Sys2Proof.Machine
end

