-- ==== Sys2Proof/Certificates/Slice0/Obligations.lean ====
section
/-! DEFINITION. The statements. A clause whose conclusion is `∃ u, exec … = .next u ∧ …` says that the command
completes under its hypotheses, and what it leaves. Times are elapsed times in ns: a command's first operand is its
time, and `max s.now t` is the time at which it takes place (log entry 1). `RegsExact` and `RegsKept` say which
registers a command leaves alone, the second but for those every logged event may move. -/

open Sys2Proof Sys2Proof.Machine

/-- R66: an event that reaches the mirror more than 50 µs after its stamp is released at once, whatever still waits
there, with its LATE flag set and the next stream number; one exactly 50 µs old is on time and waits for its
release, which is due now. -/
def Obligations.LateEventsLeaveAtOnce : Prop :=
  (∀ (t : Nat) (ev : EventIn) (p : Nat × SessionS) (s : State),
    50000 < ev.age → ev.age ≤ max s.now t → p ∈ s.ses.open_ → p.2.events = true → queueBytes p.2.outq + 56 ≤
      262144 → ev.unit = s.role.unit ∨ s.isWorker = false → Room s →
    ∃ u, exec (.eventArrive t ev) s = .next u ∧
    (∃ q ∈ u.ses.open_, q.1 = p.1 ∧ q.2.outq.take p.2.outq.length = p.2.outq ∧ (q.2.outq.drop
      p.2.outq.length).map QItem.noArrival = [.event
      { stamp := ev.stamp, code := ev.code, island := ev.island, unit := ev.unit, escalated := ev.escalated, fault := ev.fault || alwaysFault ev.code, payload := ev.payload, steps := ev.steps, due := max s.now t - ev.age + 50000, arrival := 0, input := ev.stamp, seq := s.mirror.nextSeq, late := true }])
      ∧
    (∀ x ∈ u.mirror.window, x.stamp = ev.stamp → x.code = ev.code → x.unit = ev.unit → x.payload = ev.payload →
      x ∈ s.mirror.window)) ∧
  (∀ (t : Nat) (ev : EventIn) (s : State),
    ev.age = 50000 → 50000 ≤ max s.now t → ev.unit = s.role.unit ∨ s.isWorker = false → Room s →
    ∃ u, exec (.eventArrive t ev) s = .next u ∧
    u.mirror.nextSeq = s.mirror.nextSeq ∧
    u.rd R.MIRROR_STAT_LATE = s.rd R.MIRROR_STAT_LATE ∧
    (∃ x ∈ u.mirror.window, x.stamp = ev.stamp ∧ x.code = ev.code ∧ x.payload = ev.payload ∧ x.due = max s.now
      t))

/-- R44: a request to an island whose power domain (Tables 1.5 and 15.4) is off is answered ISL_OFF at once,
whatever else stands in the island's state; it waits nowhere, so no timeout can follow, and no ISL_STALL is
counted, sent or logged. -/
def Obligations.SwitchedOffIslandAnswersAtOnce : Prop :=
  (∀ (t isl req data k : Nat) (d : Bool) (s : State),
    1 ≤ isl → isl ≤ 9 → s.islandPowered isl = false →
    ∃ u, exec (.crossingTransfer t isl req d data k) s = .next u ∧
    Sent u (.master req) 0x1005 [] ∧
    (∀ a ∈ u.answers, a.dest = .master req → a.code = 0x1005) ∧
    u.isl = s.isl ∧
    u.rd (R.ISL_STAT_STALLS isl) = s.rd (R.ISL_STAT_STALLS isl) ∧
    (∀ x ∈ u.mirror.window, x.code = 0x1001 → x ∈ s.mirror.window))

/-- R40: the unread entries a resynchronisation discards are counted in DROPS, which saturates at 255 (Table 1.9),
and each requester waiting on one receives ISL_STALL. -/
def Obligations.DiscardedEntriesAreCountedAndFailed : Prop :=
  (∀ (t isl : Nat) (s : State),
    1 ≤ isl → isl ≤ 9 → s.rd (R.ISL_STAT_HELD isl) ≠ 1 → s.rst.held = false → s.islandPowered isl = true →
    ∃ u, exec (.fifoResync t isl) s = .next u ∧
    u.rd (R.ISL_STAT_DROPS isl) = min 255 (s.rd (R.ISL_STAT_DROPS isl) + (s.island isl).unread.length) ∧
    (∀ r ∈ (s.island isl).unread.filterMap (fun (x : XferS) => x.who), Sent u (.master r) 0x1001 []) ∧
    (∀ x ∈ (u.island isl).unread, x ∈ (s.island isl).waiting.map (fun (p : Bool × XferS) => p.2)))

/-- R41: a resynchronisation that has not completed in time raises ISL_RESYNC_FAIL, and the island counts as one
with a stopped clock: the next request to it is answered ISL_STALL at once and does not wait (R43). The time
itself is the command's (log entry 14). -/
def Obligations.FailedResyncStopsTheIsland : Prop :=
  (∀ (t t2 isl req data k : Nat) (d : Bool) (s : State),
    1 ≤ isl → isl ≤ 9 → s.islandPowered isl = true → s.rd (R.ISL_STAT_RESYNC isl) = 1 → s.rd (R.ISL_STAT_RUN
      isl) ≠ 0 → Room s →
    ∃ u, exec (.islResyncFail t isl) s = .next u ∧
    Logged s u 0x1003 [(isl : Int)] ∧
    u.rd (R.ISL_STAT_RESYNC isl) = 0 ∧
    (∃ v, exec (.crossingTransfer t2 isl req d data k) u = .next v ∧ Sent v (.master req) 0x1001 [] ∧ v.island
      isl = u.island isl))

/-- R115: a frame on a worker's upstream port whose CRC is bad, whose TYPE is not one of 1 to 4 or whose reserved
bit (Table 3.7) is set changes nothing but the count of the markers missing since the last valid frame and the
first of them, the loss instant of R121. It is counted at the marker it came nearest to. -/
def Obligations.BadWhistleFramesCountAsMissing : Prop :=
  (∀ (t p : Nat) (bytes : List Nat) (marker m : Int) (s : State),
    s.isWorker = true → (s.wh p).lastMarker = some m → m + ((s.wh p).missing + 1) * 1000000 ≤ marker + 500000 →
      marker + 500000 < m + ((s.wh p).missing + 2) * 1000000 → 1 ≤ p → p ≤ 4 → s.rd (R.TB_WH_ROLE p) = 1 →
      bytes.length = 16 → bytes.headD 0 < 256 → leValue (bytes.drop 14) ≠ crc16 (bytes.take 14) ∨ bytes.headD 0 %
      16 = 0 ∨ 4 < bytes.headD 0 % 16 ∨ 128 ≤ bytes.headD 0 →
    ∃ u, exec (.whistleFrameRx t p bytes marker) s = .next u ∧
    (u.wh p).missing = (s.wh p).missing + 1 ∧
    (u.wh p).firstMiss = some (m + 1000000) ∧
    u.tb = s.tb ∧
    u.lk = s.lk ∧
    (u.wh p).reqRx = (s.wh p).reqRx ∧
    RegsExact [] s u)

/-- R398: with the channel on, a current below OPEN_I for 100 ms (the command brings the current and how long it has
been there) sets OPEN and logs LS_OPEN, the output as before; at or above OPEN_I it clears. While the core is
dead the power die holds the event (R407). -/
def Obligations.OpenLoadIsShownAndLogged : Prop :=
  (∀ (t ch cur held : Nat) (s : State),
    1 ≤ ch → ch ≤ 24 → 100000000 ≤ held → (s.sw ch).out = true → s.rd (R.LS_STAT_OPEN ch) ≠ 1 → cur < s.rd
      (R.LS_CFG_OPEN_I ch) →
    ∃ u, exec (.lsOpen t ch cur held) s = .next u ∧
    u.rd (R.LS_STAT_OPEN ch) = 1 ∧
    u.ls.ch = s.ls.ch ∧
    (s.ls.dead = false → Room s → Logged s u 0x8005 [(ch : Int), (cur : Int)]) ∧
    (s.ls.dead = true → s.ls.held.length < 64 → (u.ls.held.getLast?).map (fun x => (x.code, x.payload)) = some
      (0x8005, [(ch : Int), (cur : Int)]))) ∧
  (∀ (t ch cur held : Nat) (s : State),
    1 ≤ ch → ch ≤ 24 → 100000000 ≤ held → s.rd (R.LS_CFG_OPEN_I ch) ≤ cur →
    ∃ u, exec (.lsOpen t ch cur held) s = .next u ∧
    u.rd (R.LS_STAT_OPEN ch) = 0 ∧
    u.ls = s.ls ∧
    RegsExact [R.LS_STAT_OPEN ch, R.LS_NOW_I_MEAS ch] s u)

/-- R457: MAX written from RESERVE up takes effect at once in every mode in which the live settings are served,
evicting nobody, also below the number of sessions of the class; a new session of the class is refused while the
count is at MAX or above, and opened once it is below, with a slot free. -/
def Obligations.LoweredMaxEvictsNoSession : Prop :=
  (∀ (t n c v : Nat) (s : State),
    n ≠ 0 → s.ses.open_.any (fun p => p.2.num = n) = true → s.turn n (.live (R.SES_CLASS_CFG_MAX c)) = true →
      s.mayLive n (R.SES_CLASS_CFG_MAX c) = true → c ≤ 4 → s.served = true → s.rd (R.SES_CLASS_CFG_RESERVE c) ≤ v
      → v ≤ 255 → s.amend.length < 256 →
    ∃ u, exec (.sesMaxWrite t n c v) s = .next u ∧
    u.rd (R.SES_CLASS_CFG_MAX c) = v ∧
    u.ses.open_ = s.ses.open_ ∧
    Sent u (.session n) Res.OK []) ∧
  (∀ (t : Nat) (h : HelloIn) (s : State),
    s.hmp.waitRuck = false → carries h = true → h.carrier ≠ 11 ∨ s.pwr.svc = true → s.helloAgain h = none → s.rd
      R.HMP_STAT_SOURCE ≠ 0 → h.services.any (fun p => p.1 = 1 && (agreeVersion p.1 p.2).isNone) = false →
      (agreeAll h.services).isEmpty = false → s.mode ≠ Mode.WALK_HOME ∨ grantClass (s.limitsFor h) h.cls = 0 →
      s.rd (R.SES_CLASS_CFG_MAX (grantClass (s.limitsFor h) h.cls)) ≤ s.classCount (grantClass (s.limitsFor h)
      h.cls) →
    ∃ u, exec (.hello t h) s = .next u ∧
    u.ses.open_.map (fun p => (p.1, p.2.num)) = s.ses.open_.map (fun p => (p.1, p.2.num)) ∧
    u.rd R.SES_STAT_OPEN = s.rd R.SES_STAT_OPEN) ∧
  (∀ (t k : Nat) (h : HelloIn) (s : State),
    s.hmp.waitRuck = false → carries h = true → h.carrier ≠ 11 ∨ s.pwr.svc = true → s.helloAgain h = none → s.rd
      R.HMP_STAT_SOURCE ≠ 0 → h.services.any (fun p => p.1 = 1 && (agreeVersion p.1 p.2).isNone) = false →
      (agreeAll h.services).isEmpty = false → s.mode ≠ Mode.WALK_HOME ∨ grantClass (s.limitsFor h) h.cls = 0 →
      ((List.range 256).find? (fun (x : Nat) => (look s.ses.open_ x).isNone)) = some k → s.ses.open_.length < 256
      → s.classCount (grantClass (s.limitsFor h) h.cls) < s.rd (R.SES_CLASS_CFG_MAX (grantClass (s.limitsFor h)
      h.cls)) →
    ∃ u, exec (.hello t h) s = .next u ∧
    (look u.ses.open_ k).map (fun x => (x.num, x.cls)) = some (s.freeNumber, grantClass (s.limitsFor h) h.cls))

/-- Table 2.9 and R84 to R86: of distinct asking requesters one wins, and the grant stays parked on it; one whose
wait counter has reached its limit comes before all others, then the slot's owner, then the parked requester,
then the highest priority, on equal values the lowest number. The winner's counter is cleared, the others' rise
by one. That the counter is compared with the slot already counted is the model's reading (log entry 21); which
of several at their limit wins is not restated here. -/
def Obligations.DramWinnerFollowsTheTable : Prop :=
  (∀ (t : Nat) (l : List Nat) (s : State),
    l ≠ [] → l.Nodup → (∀ q ∈ l, q ≤ 9) →
    ∃ u, exec (.dramSlotDecision t l) s = .next u ∧
    u.arb.parked.isSome = true ∧
    (u.arb.parked.getD 0) ∈ l ∧
    look u.arb.waits (u.arb.parked.getD 0) = some 0 ∧
    (∀ q ∈ l, q ≠ (u.arb.parked.getD 0) → look u.arb.waits q = some ((look s.arb.waits q).getD 0 + 1)) ∧
    ((∃ q ∈ l, s.rd (R.ARB_CFG_WAITLIM q) ≤ ((look s.arb.waits q).getD 0 + 1)) → s.rd (R.ARB_CFG_WAITLIM
      (u.arb.parked.getD 0)) ≤ (look s.arb.waits (u.arb.parked.getD 0)).getD 0 + 1) ∧
    ((∀ q ∈ l, ((look s.arb.waits q).getD 0 + 1) < s.rd (R.ARB_CFG_WAITLIM q)) → s.arb.table.getD (s.arb.slot %
      s.arb.table.length) 999 ∈ l → (u.arb.parked.getD 0) = s.arb.table.getD (s.arb.slot % s.arb.table.length)
      999) ∧
    ((∀ q ∈ l, ((look s.arb.waits q).getD 0 + 1) < s.rd (R.ARB_CFG_WAITLIM q)) → s.arb.table.getD (s.arb.slot %
      s.arb.table.length) 999 ∉ l → ∀ p ∈ l, s.arb.parked = some p → (u.arb.parked.getD 0) = p) ∧
    ((∀ q ∈ l, ((look s.arb.waits q).getD 0 + 1) < s.rd (R.ARB_CFG_WAITLIM q)) → s.arb.table.getD (s.arb.slot %
      s.arb.table.length) 999 ∉ l → (∀ p ∈ l, s.arb.parked ≠ some p) → ∀ q ∈ l, s.rd (R.ARB_CFG_PRIO q) < s.rd
      (R.ARB_CFG_PRIO (u.arb.parked.getD 0)) ∨ (s.rd (R.ARB_CFG_PRIO q) = s.rd (R.ARB_CFG_PRIO (u.arb.parked.getD
      0)) ∧ (u.arb.parked.getD 0) ≤ q)))

/-- R61: while a change set or a restart of a function is in progress (from its acceptance to step 4 of Table 5.9,
at its first launch instant from 1 ms on; log entry 102), a later stop, restart or change set of that function,
for F27 also an engagement, keeps its place in the gate's queue, or takes one there, and changes nothing else;
one of another function is acted on in its own turn. An accepted restart or change set is in progress, and the
launch at which it is due ends that. -/
def Obligations.FunctionRequestsWaitTheirTurn : Prop :=
  (∀ (t n f : Nat) (s : State),
    n ≠ 0 → s.fnBusy f = true → s.ses.gate.length < 64 →
    ∃ u, exec (.fnStopRequest t n f) s = .next u ∧
    u.ses.gate = (if s.ses.gate.any (fun r => r.is n (.fnStop f)) = true then s.ses.gate else s.ses.gate ++
      [{ session := n, kind := .fnStop f }]) ∧
    u.ses.open_ = s.ses.open_ ∧
    u.fn = s.fn ∧
    u.amend = s.amend ∧
    u.gd = s.gd ∧
    u.answers = [] ∧
    RegsExact [] s u) ∧
  (∀ (t n f : Nat) (tj : Int) (rr : Nat × List Int) (s : State),
    n ≠ 0 → s.fnBusy f = true → s.ses.gate.length < 64 →
    ∃ u, exec (.fnRestartRequest t n f tj rr) s = .next u ∧
    u.ses.gate = (if s.ses.gate.any (fun r => r.is n (.fnRestart f)) = true then s.ses.gate else s.ses.gate ++
      [{ session := n, kind := .fnRestart f }]) ∧
    u.ses.open_ = s.ses.open_ ∧
    u.fn = s.fn ∧
    u.amend = s.amend ∧
    u.gd = s.gd ∧
    u.answers = [] ∧
    RegsExact [] s u) ∧
  (∀ (t n f : Nat) (ws : List (Nat × Nat)) (r : Bool) (rr : Nat × List Int) (s : State),
    n ≠ 0 → s.fnBusy f = true → s.ses.gate.length < 64 →
    ∃ u, exec (.changeSet t n f ws r rr) s = .next u ∧
    u.ses.gate = (if s.ses.gate.any (fun r => r.is n (.changeSet f)) = true then s.ses.gate else s.ses.gate ++
      [{ session := n, kind := .changeSet f }]) ∧
    u.ses.open_ = s.ses.open_ ∧
    u.fn = s.fn ∧
    u.amend = s.amend ∧
    u.gd = s.gd ∧
    u.answers = [] ∧
    RegsExact [] s u) ∧
  (∀ (t n : Nat) (tj : Int) (rr : Nat × List Int) (s : State),
    n ≠ 0 → s.fnBusy 27 = true → s.ses.gate.length < 64 →
    ∃ u, exec (.gdEngage t n tj rr) s = .next u ∧
    u.ses.gate = (if s.ses.gate.any (fun r => r.is n (.engage)) = true then s.ses.gate else s.ses.gate ++
      [{ session := n, kind := .engage }]) ∧
    u.ses.open_ = s.ses.open_ ∧
    u.fn = s.fn ∧
    u.amend = s.amend ∧
    u.gd = s.gd ∧
    u.answers = [] ∧
    RegsExact [] s u) ∧
  (∀ (t n f g : Nat) (s : State),
    n ≠ 0 → s.ses.open_.any (fun p => p.2.num = n) = true → s.classAtLeast n 1 = true → s.turn n (.fnStop f) =
      true → g ≠ f → s.fnBusy g = true → f < 48 → f ≠ 27 → s.fnMine f = true → (s.fnS f).running = true →
      (s.loopsOf f).length ≤ 32 → Room s →
    ∃ u, exec (.fnStopRequest t n f) s = .next u ∧
    (u.fnS f).running = false ∧
    u.fnBusy g = true ∧
    u.ses.gate = dropReq n (.fnStop f) s.ses.gate) ∧
  (∀ (t n f : Nat) (tj : Int) (rr : Nat × List Int) (s : State),
    n ≠ 0 → s.ses.open_.any (fun p => p.2.num = n) = true → s.classAtLeast n 2 = true → s.turn n (.fnRestart f)
      = true → f < 48 → f ∉ [8, 27, 29] → s.fnMine f = true → s.rd (R.FN_CFG_PATH f) ∈ [1, 3] → s.tunedLoop f =
      none → s.pathBlocks f = none → (s.fnS f).running = false →
    ∃ u, exec (.fnRestartRequest t n f tj rr) s = .next u ∧
    u.fnBusy f = true) ∧
  (∀ (t n f k v : Nat) (r : Bool) (rr : Nat × List Int) (s : State),
    n ≠ 0 → s.ses.open_.any (fun p => p.2.num = n) = true → s.classAtLeast n 3 = true → s.turn n (.changeSet f)
      = true → s.rd (R.FN_CFG_UNIT f) = s.role.unit → f < 48 → s.fnMine f = true → s.tunedLoop f = none →
      s.firstBad f [(k, v)] = none → s.amend.length < 256 → (s.fnS f).running = false →
    ∃ u, exec (.changeSet t n f [(k, v)] r rr) s = .next u ∧
    u.fnBusy f = true) ∧
  (∀ (t f : Nat) (instant a : Int) (rs : List (Nat × Nat)) (wm : Bool) (ds : Nat) (s : State),
    f < 48 → f ∉ [8, 27, 29] → s.rd (R.FN_CFG_PATH f) ∈ [1, 2] → s.rd (R.FN_CFG_UNIT f) = s.role.unit → (s.fnS
      f).restartAt = some a → a ≤ instant → (s.begin t).launches (s.rd (R.FN_CFG_LAUNCH_PG f)) instant ((s.fnS
      f).lastLaunch.map (fun (l : Int) => (l, (s.fnS f).launchSteps))) = true → s.dueSlots (fun (e : SlotS) =>
      actClass e.action = 1 && actTarget e.action / 16 = f && e.instant ≤ instant) = [] →
    ∃ u, exec (.functionLaunch t f instant rs wm ds) s = .next u ∧
    u.fnBusy f = false)

/-- A step takes the command in front of the queue and is that command's effect on the state with the queue's rest. -/
def Obligations.StepRunsTheFrontCommand : Prop :=
  ∀ (c : Instr) (rest : List Instr) (s : State),
    step { s with pending := c :: rest } = exec c { s with pending := rest }

/-- With no command waiting the block idles: the state stays as it is. The model's choice (log entry 2): the command
table has no row for a tick. -/
def Obligations.EmptyQueueIdles : Prop :=
  ∀ s : State, s.pending = [] → step s = .next s

/-- Every step, from any state whatever, keeps the bounds the manual sets to what the module holds: the memory's
canonical form (the model's own, log entry 10), 4,096 events in the reorder window (R73), 1,024 records on their
way to the black box (R535), 64 requests in the mode gate's queue (R57), 256 sessions (R455), 256 amendments
(R486), 64 events held by the power die (R407) and 16 stamps of pin EVT (R112). -/
def Obligations.StepKeepsBounded : Prop :=
  ∀ s u : State, Bounded s → step s = .next u → Bounded u

/-- The state after reset meets the bounds that StepKeepsBounded keeps. -/
def Obligations.ResetIsBounded : Prop :=
  Bounded State.reset

/-- No command changes the queue of commands behind it, and the elapsed time the model keeps (log entry 1) never
runs back. -/
def Obligations.CommandsLeaveQueueAndTimeInOrder : Prop :=
  ∀ (i : Instr) (s u : State), exec i s = .next u → u.pending = s.pending ∧ s.now ≤ u.now

/-- No command is refused by the model, and only a master's access ends in a fault: one its protection rights allow,
at an offset the region does not have (Tables 2.7 and 2.8). -/
def Obligations.OnlyAnAbsentAddressStops : Prop :=
  ∀ (i : Instr) (s : State),
    (∀ r, exec i s ≠ .refused r) ∧
    (∀ f, exec i s = .fault f →
      ∃ t master region offset write value ecc, i = .masterAccess t master region offset write value ecc ∧
        s.mayAccess master region write = true ∧ s.regionSize region ≤ offset ∧
        f = .noSuchAddress region offset)

/-- An accepted write changes the one byte it names and no other byte of any memory; every other command leaves each
byte as it reads or, where a reset, an OFF or a loss of VBAT clears that memory, as one never written (what that
reads as: log entry 10); and a command that touches no memory leaves all of it. -/
def Obligations.MemoryHoldsWhatAMasterWrote : Prop :=
  (∀ (t master region offset ecc : Nat) (v : Byte) (s : State),
    Memory.wf s.mem → s.mayAccess master region true = true → offset < s.regionSize region →
    ∃ u, exec (.masterAccess t master region offset true v ecc) s = .next u ∧
      ∀ a, memRead u.mem a = if a = cellKey region offset then v else memRead s.mem a) ∧
  (∀ (i : Instr) (s u : State), exec i s = .next u →
    (∀ t master region offset v ecc, i ≠ .masterAccess t master region offset true v ecc) →
    ∀ a, memRead u.mem a = memRead s.mem a ∨ memRead u.mem a = unwritten) ∧
  (∀ (i : Instr) (s u : State), exec i s = .next u → Part.mem ∉ touched i →
    ∀ a, memRead u.mem a = memRead s.mem a)

/-- The frame of the commands of chapters 1 to 3 (islands, planes, memory, harvest time and launches): from a
command to its next state, every part of the state that `touched` does not list for it is as before. Which
registers of the register part a command changes is said with its completion statement. -/
def Obligations.FramesOfPlanesAndTime : Prop :=
  ∀ (i : Instr) (s u : State), chapterOf i ∈ [1, 2, 3] → exec i s = .next u → Frame (touched i) s u

/-- The frame of the commands of chapters 4 to 6 (observer, machine functions, control engines): from a command to
its next state, every part of the state that `touched` does not list for it is as before. Which registers of the
register part a command changes is said with its completion statement. -/
def Obligations.FramesOfObserverFunctionsEngines : Prop :=
  ∀ (i : Instr) (s u : State), chapterOf i ∈ [4, 5, 6] → exec i s = .next u → Frame (touched i) s u

/-- The frame of the commands of chapters 7 to 9 (GNSS, guidance and yield, cameras): from a command to its next
state, every part of the state that `touched` does not list for it is as before. Which registers of the register
part a command changes is said with its completion statement. -/
def Obligations.FramesOfPositionAndCameras : Prop :=
  ∀ (i : Instr) (s u : State), chapterOf i ∈ [7, 8, 9] → exec i s = .next u → Frame (touched i) s u

/-- The frame of the commands of chapters 10 and 11 (valve drive, load switches, walk-home): from a command to its
next state, every part of the state that `touched` does not list for it is as before. Which registers of the
register part a command changes is said with its completion statement. -/
def Obligations.FramesOfPowerStage : Prop :=
  ∀ (i : Instr) (s u : State), chapterOf i ∈ [10, 11] → exec i s = .next u → Frame (touched i) s u

/-- The frame of the commands of chapters 12 and 13 (buses, links, sessions): from a command to its next state,
every part of the state that `touched` does not list for it is as before. Which registers of the register part a
command changes is said with its completion statement. -/
def Obligations.FramesOfLinksAndSessions : Prop :=
  ∀ (i : Instr) (s u : State), chapterOf i ∈ [12, 13] → exec i s = .next u → Frame (touched i) s u

/-- The frame of the commands of chapters 14 and 15 (Hamper, supply, modes, resets): from a command to its next
state, every part of the state that `touched` does not list for it is as before. Which registers of the register
part a command changes is said with its completion statement. -/
def Obligations.FramesOfConfigurationAndModes : Prop :=
  ∀ (i : Instr) (s u : State), chapterOf i ∈ [14, 15] → exec i s = .next u → Frame (touched i) s u

/-- The frame of the commands of chapters 16 to 18 (black box, Postcard, update, fleet link, inputs): from a command
to its next state, every part of the state that `touched` does not list for it is as before. Which registers of
the register part a command changes is said with its completion statement. -/
def Obligations.FramesOfRecordsAndUpdate : Prop :=
  ∀ (i : Instr) (s u : State), chapterOf i ∈ [16, 17, 18] → exec i s = .next u → Frame (touched i) s u

/-- The state after reset: the values of the Reset column of Tables 1.1, 1.9, 3.12, 4.10, 5.8, 6.12, 7.12, 10.9,
11.6, 11.7, 12.9, 12.12, 12.13, 13.11, 15.17, 16.8a, 16.8b and 17.4, nothing waiting, queued or written. That it
is the state of a Full reset being asserted is the model's choice (log entry 12). -/
def Obligations.ResetColumnsHold : Prop :=
  State.reset.rd R.CORE_PACE_SHED = 0 ∧
  State.reset.rd R.CORE_PACE_RINGS = 16 ∧
  State.reset.rd R.OBS_STAT_DSTEP = 4 ∧
  State.reset.rd R.OBS_STAT_PACK = 7 ∧
  State.reset.rd R.OBS_STAT_CAUSE = 49 ∧
  State.reset.rd R.GN_STAT_CORSRC = 7 ∧
  State.reset.rd R.GN_STAT_AGE = 65535 ∧
  State.reset.rd R.GN_STAT_START = 2 ∧
  State.reset.rd R.GN_TSTAT_TERR = 4294967295 ∧
  State.reset.rd R.WH_STAT_STORE = 1 ∧
  State.reset.rd R.MODE_STAT_MODE = 2 ∧
  State.reset.rd R.MODE_STAT_CAUSES = 0 ∧
  State.reset.rd R.PC_STAT_BAND = 7 ∧
  State.reset.rd R.PC_STAT_STATE = 0 ∧
  State.reset.rd R.BB_STAT_LOST = 0 ∧
  State.reset.rd R.SES_STAT_OPEN = 0 ∧
  State.reset.rd R.UPD_STAT_STATE = 0 ∧
  State.reset.rd R.LN_QDEPTH_DEPTH = 0 ∧
  (∀ n ∈ [1, 2, 3, 4, 5, 6, 7, 8, 9], State.reset.rd (R.ISL_STAT_CLKOK n) = 1) ∧
  (∀ n ∈ [1, 2, 3, 4, 5, 6, 7, 8, 9], State.reset.rd (R.ISL_STAT_RUN n) = 1) ∧
  (∀ n ∈ (List.range 48), State.reset.rd (R.FN_STAT_STATE n) = 1) ∧
  (∀ n ∈ (List.range 48), State.reset.rd (R.FN_STAT_CAUSE n) = 2) ∧
  (∀ n ∈ (List.range 256), State.reset.rd (R.CE_L_STAT_STATE n) = 1) ∧
  (∀ n ∈ ((List.range 32).map (· + 1)), State.reset.rd (R.VD_STAT_FIRST n) = 1) ∧
  (∀ n ∈ ((List.range 24).map (· + 1)), State.reset.rd (R.LS_STAT_STATE n) = 1) ∧
  (∀ n ∈ ((List.range 10).map (· + 1)), State.reset.rd (R.CAN_STAT_ADDR n) = 254) ∧
  (∀ n ∈ [1, 2, 3, 4], State.reset.rd (R.TK_STAT_UNIT n) = 15) ∧
  (∀ n ∈ ((List.range 12).map (· + 1)), State.reset.rd (R.FNP_STAT_UNC n) = 65535) ∧
  State.reset.pending = [] ∧ State.reset.mem = [] ∧ State.reset.ses.open_ = [] ∧ State.reset.ln.slots = [] ∧
  State.reset.mirror.window = [] ∧ State.reset.bb.queue = []

/-- Chapter 01: what each command of pace, clocks and crossings does, and that it completes. The laps of every ring
give the pace of R15, R16 and R18 and the window counter of Table 1.1; the monitor's verdict is R32; a
crossing's transfer passes its direction's FIFO, waits for room in it, or is refused while the island is off or
refusing (R33, R38, R43, R44); a stall refuses what follows and leaves the entry unread (R40, R42, R43); a
resynchronisation discards the unread entries of both sides, counts them and lets what waits in, or stays in
progress while the clock stands (R39, R40); one not complete in time counts as a stopped clock (R41); a block
restart counts itself and fails what is in flight, a clock failure of islands 1, 2, 7 and 8 resets the unit in
System scope (R45, R46, R47). What of this is the model's own choice or reading stands in log entries 14, 55,
103, 111, 112 and 113. -/
def Obligations.PaceAndCrossingsComplete : Prop :=
  (∀ (t : Nat) (laps : List Nat) (s : State),
    (∀ r ∈ List.range 16, laps.getD r 0 ≠ 0) →
    ∃ u, exec (.canaryWindowEnd t laps) s = .next u ∧
    u.canary.excluded = s.canary.excluded ∧
    u.rd R.CORE_PACE_RINGS = s.canary.contributing.length ∧
    (∀ r ∈ List.range 16, r ∉ s.canary.excluded → u.rd R.CORE_PACE ≤ ringPace (laps.getD r 0)
      (s.canary.floorLaps.getD r 0)) ∧
    ((∃ r ∈ List.range 16, r ∉ s.canary.excluded) → ∃ r ∈ List.range 16, r ∉ s.canary.excluded ∧ u.rd
      R.CORE_PACE = ringPace (laps.getD r 0) (s.canary.floorLaps.getD r 0)) ∧
    u.rd R.CORE_PACEMIN_WINDOWS_LOW = (if u.rd R.CORE_PACE < 0x1000 then satInc 0xFFFF (s.rd
      R.CORE_PACEMIN_WINDOWS_LOW) else s.rd R.CORE_PACEMIN_WINDOWS_LOW) ∧
    RegsKept [R.CORE_PACE, R.CORE_PACE_RINGS, R.CORE_PACE_SHED, R.CORE_PACEMIN, R.CORE_PACEMIN_WINDOWS_LOW,
      R.MODE_STAT_CAUSES] s u) ∧
  (∀ (t isl edges : Nat) (s : State),
    1 ≤ isl → isl ≤ 9 → Room s →
    ∃ u, exec (.islClock t isl edges) s = .next u ∧
    (clockInRange isl edges = true → u.rd (R.ISL_STAT_CLKOK isl) = 1 ∧ RegsExact [R.ISL_STAT_CLKOK isl] s u) ∧
    (clockInRange isl edges = false → u.rd (R.ISL_STAT_CLKOK isl) = 0 ∧ Logged s u 0x1002 [isl, edges] ∧
      RegsKept [R.ISL_STAT_CLKOK isl] s u)) ∧
  (∀ (t isl req data reads : Nat) (toIsland : Bool) (s : State),
    1 ≤ isl → isl ≤ 9 → s.islandPowered isl = true → s.rd (R.ISL_STAT_RUN isl) ≠ 0 → s.rd (R.ISL_STAT_HELD isl)
      = 0 → (s.island isl).refusing = false → s.rd (R.ISL_STAT_RESYNC isl) = 0 → (s.island isl).needSync = false →
      (s.island isl).fifo toIsland = [] → (s.island isl).waitingOf toIsland = [] → reads ≠ 0 →
    ∃ u, exec (.crossingTransfer t isl req toIsland data reads) s = .next u ∧
    RegsExact [] s u ∧
    Sent u (.master req) 0 [(data : Int)] ∧
    u.island isl = s.island isl) ∧
  (∀ (t isl req data : Nat) (toIsland : Bool) (s : State),
    1 ≤ isl → isl ≤ 9 → s.islandPowered isl = true → s.rd (R.ISL_STAT_RUN isl) ≠ 0 → s.rd (R.ISL_STAT_HELD isl)
      = 0 → (s.island isl).refusing = false → s.rd (R.ISL_STAT_RESYNC isl) = 0 → (s.island isl).needSync = false →
      (s.island isl).waitingOf toIsland = [] →
    ∃ u, exec (.crossingTransfer t isl req toIsland data 0) s = .next u ∧
    RegsExact [] s u ∧
    u.answers = [] ∧
    (((s.island isl).fifo toIsland).length < fifoDepth isl → u.island isl = (s.island isl).setFifo toIsland
      ((s.island isl).fifo toIsland ++ [{ who := some req, data }])) ∧
    (fifoDepth isl ≤ ((s.island isl).fifo toIsland).length → u.island isl =
      { s.island isl with waiting := (s.island isl).waiting ++ [(toIsland, { who := some req, data })] })) ∧
  (∀ (t isl req data reads : Nat) (toIsland : Bool) (s : State),
    1 ≤ isl → isl ≤ 9 → s.islandPowered isl = false ∨ (s.rd (R.ISL_STAT_RUN isl) = 0 ∧ s.rd (R.ISL_STAT_HELD
      isl) = 0) → Room s →
    ∃ u, exec (.crossingTransfer t isl req toIsland data reads) s = .next u ∧
    Sent u (.master req) 0x1005 [] ∧
    Logged s u 0x1005 [(isl : Int), (req : Int)] ∧
    RegsKept [] s u) ∧
  (∀ (t isl req data reads : Nat) (toIsland : Bool) (s : State),
    1 ≤ isl → isl ≤ 9 → s.islandPowered isl = true → s.rd (R.ISL_STAT_RUN isl) ≠ 0 → (s.island isl).refusing =
      true →
    ∃ u, exec (.crossingTransfer t isl req toIsland data reads) s = .next u ∧
    Sent u (.master req) 0x1001 [] ∧
    u.isl = s.isl ∧
    u.rd (R.ISL_STAT_STALLS isl) = satInc 255 (s.rd (R.ISL_STAT_STALLS isl)) ∧
    RegsKept [R.ISL_STAT_STALLS isl] s u) ∧
  (∀ (t isl req : Nat) (toIsland : Bool) (s : State),
    1 ≤ isl → isl ≤ 9 → ((s.island isl).fifo toIsland).any (fun x => x.who = some req) = true ∨ ((s.island
      isl).waitingOf toIsland).any (fun x => x.who = some req) = true →
    ∃ u, exec (.islStall t isl req toIsland) s = .next u ∧
    (u.island isl).refusing = true ∧
    ((u.island isl).fifo toIsland).length = ((s.island isl).fifo toIsland).length ∧
    Sent u (.master req) 0x1001 [] ∧
    u.rd (R.ISL_STAT_STALLS isl) = satInc 255 (s.rd (R.ISL_STAT_STALLS isl)) ∧
    (isl ∈ [1, 2, 7, 8] → RegsKept [R.ISL_STAT_STALLS isl] s u)) ∧
  (∀ (t isl : Nat) (s : State),
    1 ≤ isl → isl ≤ 9 → s.rd (R.ISL_STAT_HELD isl) = 0 → s.rst.held = false → s.islandPowered isl = true → s.rd
      (R.ISL_STAT_CLKOK isl) = 1 →
    ∃ u, exec (.fifoResync t isl) s = .next u ∧
    (u.island isl).refusing = false ∧
    (u.island isl).needSync = false ∧
    (∀ d, (u.island isl).fifo d = ((s.island isl).waitingOf d).take (fifoDepth isl)) ∧
    (∀ d, (u.island isl).waitingOf d = ((s.island isl).waitingOf d).drop (fifoDepth isl)) ∧
    u.rd (R.ISL_STAT_RESYNC isl) = 0 ∧
    u.rd (R.ISL_STAT_DROPS isl) = satAdd 255 (s.rd (R.ISL_STAT_DROPS isl)) (s.island isl).unread.length ∧
    (∀ r ∈ (s.island isl).unread.filterMap (fun (x : XferS) => x.who), Sent u (.master r) 0x1001 []) ∧
    (isl ∈ [1, 2, 5, 7, 8, 9] → RegsExact [R.ISL_STAT_RESYNC isl, R.ISL_STAT_DROPS isl] s u)) ∧
  (∀ (t isl : Nat) (s : State),
    1 ≤ isl → isl ≤ 9 → s.rd (R.ISL_STAT_HELD isl) = 0 → s.rst.held = false → s.islandPowered isl = true → s.rd
      (R.ISL_STAT_CLKOK isl) ≠ 1 →
    ∃ u, exec (.fifoResync t isl) s = .next u ∧
    (u.island isl).needSync = true ∧
    (u.island isl).unread = [] ∧
    (u.island isl).waiting = (s.island isl).waiting ∧
    u.rd (R.ISL_STAT_RESYNC isl) = 1 ∧
    u.rd (R.ISL_STAT_DROPS isl) = satAdd 255 (s.rd (R.ISL_STAT_DROPS isl)) (s.island isl).unread.length ∧
    RegsExact [R.ISL_STAT_RESYNC isl, R.ISL_STAT_DROPS isl] s u) ∧
  (∀ (t isl : Nat) (s : State),
    1 ≤ isl → isl ≤ 9 → s.rd (R.ISL_STAT_RESYNC isl) = 1 → Room s →
    ∃ u, exec (.islResyncFail t isl) s = .next u ∧
    u.rd (R.ISL_STAT_RESYNC isl) = 0 ∧
    (u.island isl).refusing = true ∧
    Logged s u 0x1003 [(isl : Int)] ∧
    (isl ∈ [1, 2, 7, 8] → RegsKept [R.ISL_STAT_RESYNC isl] s u)) ∧
  (∀ (t isl : Nat) (s : State),
    isl ∈ [3, 4, 5, 6, 9] → s.rd (R.ISL_STAT_HELD isl) = 0 →
    ∃ u, exec (.islandRestart t isl true) s = .next u ∧
    u.rd (R.ISL_STAT_CLKOK isl) = 1 ∧
    u.rd (R.ISL_STAT_RUN isl) = 1 ∧
    u.rd (R.ISL_STAT_RESTARTS isl) = satInc 255 (s.rd (R.ISL_STAT_RESTARTS isl)) ∧
    (u.island isl).needSync = true ∧
    (u.island isl).waiting = [] ∧
    (∀ x ∈ (u.island isl).unread, x.who = none) ∧
    (∀ r ∈ ((s.island isl).unread ++ (s.island isl).waiting.map (fun (p : Bool × XferS) => p.2)).filterMap (fun
      (x : XferS) => x.who), Sent u (.master r) 0x1001 [])) ∧
  (∀ (t isl : Nat) (ok : Bool) (s : State),
    isl ∈ [1, 2, 7] ∨ isl = 8 ∧ s.vdBackup = false → s.rst.held = false → s.rd R.MODE_STAT_MODE ∉ [0, 1] →
    ∃ u, exec (.islandRestart t isl ok) s = .next u ∧
    u.rst.held = true ∧
    u.rd R.RST_STAT_SOURCE = 4 ∧
    u.rd R.RST_STAT_SCOPE = 2 ∧
    u.answers = [])

/-- Chapter 02: what each command of the setpoint board, the mode gate, the status mirror, the protection table, the
memories and the DRAM arbiter does, and that it completes. A publish fills the unpublished side and counts an
untaken one (R50, R53); a request that passes its checks waits at the gate, or finds it full (R57); an event is
held, or is released at once with LATE (R65, R66, R73); the latch refuses a protection write (R75); an access is
served or denied (R76); the arbiter's slot goes to its owner, or to a requester at its limit (R83 to R86); a
live write changes the field at once (R60, R87). What of this is the model's own choice or reading stands in log
entries 8, 9, 10, 19, 21, 108, 109, 115 and 116. -/
def Obligations.BoardMirrorAndMemoriesComplete : Prop :=
  (∀ (t fn : Nat) (side : SideIn) (s : State),
    fn < 48 →
    ∃ u, exec (.spbPublish t fn side) s = .next u ∧
    (u.entry fn).index = !(s.entry fn).index ∧
    (u.entry fn).pubs.head? = some
      { side := !(s.entry fn).index, at_ := (s.begin t).harvest, x := { sps := side.sps, ffs := side.ffs, seq := side.seq, computed := side.computed, obsOk := side.obsOk, authHalf := side.authHalf, dstep := side.dstep } }
      ∧
    ((s.entry fn).index = true → (u.entry fn).a =
      { sps := side.sps, ffs := side.ffs, seq := side.seq, computed := side.computed, obsOk := side.obsOk, authHalf := side.authHalf, dstep := side.dstep }
      ∧ (u.entry fn).b = (s.entry fn).b) ∧
    ((s.entry fn).index = false → (u.entry fn).b =
      { sps := side.sps, ffs := side.ffs, seq := side.seq, computed := side.computed, obsOk := side.obsOk, authHalf := side.authHalf, dstep := side.dstep }
      ∧ (u.entry fn).a = (s.entry fn).a) ∧
    ((s.entry fn).pubs = [] → RegsExact [] s u) ∧
    (∀ p ∈ (s.entry fn).pubs.take 1, u.rd (R.FN_SPB_MISSES fn) = (if ((s.entry fn).taken = true ∧ (s.entry
      fn).pubs.length = 1) ∨ s.launchBetween fn p.at_ (s.begin t).harvest = true then s.rd (R.FN_SPB_MISSES fn)
      else satInc 255 (s.rd (R.FN_SPB_MISSES fn)))) ∧
    ((s.fnUsed fn && s.forwards fn) = false → u.answers = []) ∧
    RegsExact [R.FN_SPB_MISSES fn] s u) ∧
  (∀ (t n : Nat) (kind : ReqKind) (m : MsgIn) (s : State),
    n ≠ 0 → m.framed (s.mostBytes n) = true → s.repeated n m = none → s.msgRefusal n (reqService kind) m = none
      → s.mayRequest n kind = true → deadKey kind = none → (s.protect n m).1 = Res.OK → s.ses.gate.length < 64 →
    ∃ u, exec (.gateRequest t n kind m) s = .next u ∧
    u.ses.gate = s.ses.gate ++ [{ session := n, kind }] ∧
    Sent u (.session n) Res.OK []) ∧
  (∀ (t n : Nat) (kind : ReqKind) (m : MsgIn) (s : State),
    n ≠ 0 → m.framed (s.mostBytes n) = true → s.repeated n m = none → s.msgRefusal n (reqService kind) m = none
      → s.mayRequest n kind = true → deadKey kind = none → (s.protect n m).1 = Res.OK → 64 ≤ s.ses.gate.length →
      Room s →
    ∃ u, exec (.gateRequest t n kind m) s = .next u ∧
    u.ses.gate = s.ses.gate ∧
    Sent u (.session n) Res.GATE_BUSY [] ∧
    Logged s u 0x1022 [reqNumber kind, n]) ∧
  (∀ (t : Nat) (s : State),
    ∃ u, exec (.mirrorSnapshotRefresh t) s = .next u ∧
    u.mirror.snapshot = u.reg.filter (fun e => controlKey e.1) ∧
    u.mirror.snapAt = some (max s.now t) ∧
    u.mirror.window = s.mirror.window ∧
    RegsExact (switchChannels.flatMap (fun n => [R.LS_STAT_STATE n, R.LS_STAT_CTRL n, R.LS_STAT_TRIPS n,
      R.LS_STAT_BUDGET_LEFT n]) ++ [0, 1, 2, 3, 4].map R.CE_E_STAT_LOAD) s u) ∧
  (∀ (t : Nat) (ev : EventIn) (s : State),
    ev.code ≠ 0x3040 → ev.code ≠ 0x3041 → ev.unit = s.role.unit ∨ s.isWorker = false → ev.age ≤ 50000 → Room s →
    ∃ u, exec (.eventArrive t ev) s = .next u ∧
    Logged s u ev.code ev.payload ∧
    u.mirror.nextSeq = s.mirror.nextSeq ∧
    RegsKept [] s u) ∧
  (∀ (t : Nat) (ev : EventIn) (s : State),
    ev.code ≠ 0x3040 → ev.code ≠ 0x3041 → ev.unit = s.role.unit ∨ s.isWorker = false → 50000 < ev.age → ev.age ≤
      s.now → ev.age ≤ t →
    ∃ u, exec (.eventArrive t ev) s = .next u ∧
    u.mirror.window = s.mirror.window ∧
    u.mirror.nextSeq = (s.mirror.nextSeq + 1) % 2 ^ 32 ∧
    u.rd R.MIRROR_STAT_LATE = satInc 0xFFFF (s.rd R.MIRROR_STAT_LATE) ∧
    RegsKept [] s u) ∧
  (∀ (t : Nat) (ev : EventIn) (s : State),
    s.isWorker = true → ev.unit ≠ s.role.unit →
    ∃ u, exec (.eventArrive t ev) s = .next u ∧
    u.answers.map (fun a => (a.dest, a.code)) = [(.trunk 0, 0x60)] ∧
    u.mirror = s.mirror ∧
    RegsExact [] s u) ∧
  (∀ (t : Nat) (sent : List (Nat × Nat)) (s : State),
    ∃ u, exec (.eventRelease t sent) s = .next u ∧
    (∀ e ∈ u.mirror.window, e ∈ s.mirror.window ∧ u.now < e.due) ∧
    ((∀ e ∈ s.mirror.window, u.now < e.due) → u.mirror.window = s.mirror.window) ∧
    RegsKept [] s u) ∧
  (∀ (t master entry rights : Nat) (s : State),
    Room s →
    ∃ u, exec (.protWrite t master entry rights) s = .next u ∧
    (s.rd R.PROT_STAT_LOCK = 1 → u.prot = s.prot ∧ Logged s u 0x1020 [master] ∧ Sent u (.master master) 0x1020
      []) ∧
    (s.rd R.PROT_STAT_LOCK ≠ 1 → look u.prot.removed entry = some rights) ∧
    RegsKept [] s u) ∧
  (∀ (t master region offset ecc : Nat) (value : Byte) (s : State),
    s.mayAccess master region true = true → offset < s.regionSize region → ecc < 2 →
    ∃ u, exec (.masterAccess t master region offset true value ecc) s = .next u ∧
    u.mem = memWrite s.mem (cellKey region offset) value ∧
    Sent u (.master master) 0 [] ∧
    (ecc = 1 → look u.ecc.corrected (memoryOf region) = some ((look s.ecc.corrected (memoryOf region)).getD 0 +
      1)) ∧
    RegsKept [] s u) ∧
  (∀ (t master region offset ecc : Nat) (value : Byte) (s : State),
    s.mayAccess master region false = true → offset < s.regionSize region → ecc < 2 →
    ∃ u, exec (.masterAccess t master region offset false value ecc) s = .next u ∧
    u.mem = s.mem ∧
    Sent u (.master master) 0 [((memRead s.mem (cellKey region offset)).toNat : Int)] ∧
    RegsKept [] s u) ∧
  (∀ (t master region offset : Nat) (write : Bool) (value : Byte) (s : State),
    s.mayAccess master region write = true → offset < s.regionSize region → regionBlock region = 0 → Room s →
    ∃ u, exec (.masterAccess t master region offset write value 2) s = .next u ∧
    u.mem = s.mem ∧
    Sent u (.master master) 0x1031 [] ∧
    Logged s u 0x1031 [(memoryOf region : Int), ((s.regionBase region + offset : Nat) : Int), (regionOwner
      region : Int)] ∧
    RegsKept [] s u) ∧
  (∀ (t master region offset : Nat) (write : Bool) (value : Byte) (s : State),
    s.mayAccess master region write = true → offset < s.regionSize region → regionBlock region ∈ [3, 4, 5] →
      s.rd (R.ISL_STAT_HELD (regionBlock region)) = 0 →
    ∃ u, exec (.masterAccess t master region offset write value 2) s = .next u ∧
    u.mem = s.mem ∧
    Sent u (.master master) 0x1031 [] ∧
    u.rd (R.ISL_STAT_RESTARTS (regionBlock region)) = satInc 255 (s.rd (R.ISL_STAT_RESTARTS (regionBlock
      region))) ∧
    (u.island (regionBlock region)).waiting = [] ∧
    (u.island (regionBlock region)).needSync = true) ∧
  (∀ (t master region offset ecc : Nat) (write : Bool) (value : Byte) (s : State),
    s.mayAccess master region write = false →
    ∃ u, exec (.masterAccess t master region offset write value ecc) s = .next u ∧
    u.mem = s.mem ∧
    Sent u (.master master) 0x1021 [] ∧
    u.rd R.PROT_STAT_LAST_MASTER = master ∧
    u.rd R.PROT_STAT_DENIALS = satInc 0xFFFF (s.rd R.PROT_STAT_DENIALS) ∧
    RegsKept [R.PROT_STAT_LAST_MASTER, R.PROT_STAT_DENIALS] s u) ∧
  (∀ (t part offset ecc : Nat) (s : State),
    Room s → (ecc = 2 → regionBlock part = 0) →
    ∃ u, exec (.sramScrub t part offset ecc none) s = .next u ∧
    (ecc = 2 → Logged s u 0x1031 [0, ((s.regionBase part + offset : Nat) : Int), (regionOwner part : Int)]) ∧
    (ecc = 1 → look u.ecc.corrected 0 = some ((look s.ecc.corrected 0).getD 0 + 1) ∧ (s.mayLog 0x1030 0
      1000000000 = true → Logged s u 0x1030 [0, ((s.regionBase part + offset : Nat) : Int)])) ∧
    (ecc ≠ 1 → u.ecc = s.ecc) ∧
    RegsKept [] s u) ∧
  (∀ (t part offset : Nat) (s : State),
    regionBlock part ∈ [3, 4, 5] → s.rd (R.ISL_STAT_HELD (regionBlock part)) = 0 →
    ∃ u, exec (.sramScrub t part offset 2 none) s = .next u ∧
    u.rd (R.ISL_STAT_RESTARTS (regionBlock part)) = satInc 255 (s.rd (R.ISL_STAT_RESTARTS (regionBlock part))) ∧
    (u.island (regionBlock part)).waiting = [] ∧
    (u.island (regionBlock part)).needSync = true) ∧
  (∀ (t : Nat) (asking : List Nat) (s : State),
    asking.Nodup → s.arb.table.getD (s.arb.slot % s.arb.table.length) 999 ∈ asking → (∀ q ∈ asking, q ≤ 9 ∧
      (look s.arb.waits q).getD 0 + 1 < s.rd (R.ARB_CFG_WAITLIM q)) →
    ∃ u, exec (.dramSlotDecision t asking) s = .next u ∧
    u.arb.slot = s.arb.slot + 1 ∧
    u.arb.parked = some (s.arb.table.getD (s.arb.slot % s.arb.table.length) 999) ∧
    (∀ q ∈ asking, (look u.arb.waits q).getD 0 = (if q = s.arb.table.getD (s.arb.slot % s.arb.table.length) 999
      then 0 else (look s.arb.waits q).getD 0 + 1)) ∧
    RegsExact (asking.map (fun q => R.ARB_STAT_WAITMAX q)) s u) ∧
  (∀ (t q : Nat) (s : State),
    q ≤ 9 → s.rd (R.ARB_CFG_WAITLIM q) ≤ (look s.arb.waits q).getD 0 + 1 →
    ∃ u, exec (.dramSlotDecision t [q]) s = .next u ∧
    u.arb.parked = some q ∧
    look u.arb.waits q = some 0 ∧
    u.rd (R.ARB_STAT_FORCED q) = satInc 0xFFFF (s.rd (R.ARB_STAT_FORCED q)) ∧
    RegsExact [R.ARB_STAT_WAITMAX q, R.ARB_STAT_FORCED q] s u) ∧
  (∀ (t n q v : Nat) (s : State),
    q ≤ 9 → n ≠ 0 → s.ses.open_.any (fun p => p.2.num = n) = true → s.turn n (.live (R.ARB_CFG_PRIO q)) = true →
      s.mayLive n (R.ARB_CFG_PRIO q) = true → s.served = true →
    ∃ u, exec (.dramPrioWrite t n q v) s = .next u ∧
    (v ≤ 15 → u.rd (R.ARB_CFG_PRIO q) = v ∧ Sent u (.session n) Res.OK [] ∧ (s.amendRoom (R.ARB_CFG_PRIO q) =
      true → ({ unit := s.role.unit, kind := 1, key := R.ARB_CFG_PRIO q, value := v } : AmendS) ∈ u.amend) ∧
      RegsExact [R.ARB_CFG_PRIO q, R.HMP_LIST_ENTRIES, R.HMP_LIST_OVF] s u) ∧
    (15 < v → Sent u (.session n) Res.VALUE [] ∧ u.amend = s.amend ∧ RegsExact [] s u) ∧
    u.ses.gate = dropReq n (.live (R.ARB_CFG_PRIO q)) s.ses.gate) ∧
  (∀ (t n : Nat) (m : MsgIn) (s : State),
    n ≠ 0 → m.framed (s.mostBytes n) = true → s.repeated n m = none → s.msgRefusal n 0x0011 m = none →
    ∃ u, exec (.eventSubscribe t n m) s = .next u ∧
    (∀ p ∈ u.ses.open_, p.2.num = n → p.2.events = true) ∧
    (∀ p ∈ s.ses.open_, p.2.num ≠ n → p ∈ u.ses.open_) ∧
    Sent u (.session n) Res.OK [] ∧
    RegsExact [] s u)

/-- Chapter 03, harvest time on a manager or standalone module: what each command of its discipline does, and that
it completes. Valid GNSS time moves the residual and the bound (R99, R103); an error up to 1 ms is slewed
(R105), a pending one stepped once the condition holds (R106); the residual ends a slew or starts another
(R105); the quality falls to HOLDOVER after 1 s and to FREE after 4 h (R100); harvest time is saved in NAND and
in the real-time counter (R104); the PPS edge keeps its distance after a step (R110, R111). What of this is the
model's own choice or reading stands in log entries 14, 20, 93 and 117. -/
def Obligations.DisciplineComplete : Prop :=
  (∀ (t : Nat) (toff : Int) (terr : Nat) (q : Bool) (s : State),
    s.isWorker = false → terr ≤ 50 → s.rd R.TB_STAT_QUAL = 1 →
    ∃ u, exec (.gnssTimeUpdate t toff terr true q) s = .next u ∧
    u.rd R.TB_RESID = ofSigned 32 toff ∧
    u.rd R.TB_ERR = capErr (toff.natAbs + terr) ∧
    u.tb.srcGood = true ∧
    u.harvest = (s.begin t).harvest ∧
    u.tb.slewErr = toff.natAbs ∧
    u.tb.slewDir = (if 0 < toff then -1 else if toff < 0 then 1 else 0) ∧
    RegsExact [R.TB_RESID, R.TB_ERR, R.TB_STAT_HOLD_MIN] s u) ∧
  (∀ (t : Nat) (toff : Int) (terr : Nat) (q : Bool) (s : State),
    s.isWorker = false → terr ≤ 50 → s.rd R.TB_STAT_QUAL ≠ 1 → s.rd R.TB_STAT_SLEWING ≠ 1 → toff ≠ 0 →
      toff.natAbs ≤ 1000000 → Room s →
    ∃ u, exec (.gnssTimeUpdate t toff terr true q) s = .next u ∧
    u.rd R.TB_STAT_SLEWING = 1 ∧
    u.rd R.TB_RESID = ofSigned 32 toff ∧
    u.tb.slewDir = (if 0 < toff then -1 else 1) ∧
    u.tb.slewErr = toff.natAbs ∧
    u.harvest = (s.begin t).harvest ∧
    Logged s u 0x2003 [toff] ∧
    RegsKept [R.TB_RESID, R.TB_ERR, R.TB_STAT_HOLD_MIN, R.TB_STAT_SLEWING] s u) ∧
  (∀ (t : Nat) (err : Int) (q : Bool) (s : State),
    s.isWorker = false → s.rd R.TB_STAT_STEP_PENDING = 1 → s.mayStep q = true → s.tb.srcGood = true → Room s →
    ∃ u, exec (.pendingStep t err q) s = .next u ∧
    u.harvest = (s.begin t).harvest - err ∧
    u.tb.steps = s.tb.steps + 1 ∧
    u.rd R.TB_STAT_STEP_PENDING = 0 ∧
    u.rd R.TB_STAT_SLEWING = 0 ∧
    u.rd R.TB_STAT_QUAL = 1 ∧
    Logged s u 0x2002 [-err] ∧
    RegsKept [R.TB_RESID, R.TB_ERR, R.TB_STAT_HOLD_MIN, R.TB_STAT_SLEWING, R.TB_STAT_STEP_PENDING,
      R.TB_STAT_EPOCH_UNKNOWN, R.TB_STAT_QUAL, R.TB_STAT_SRCQ] s u) ∧
  (∀ (t : Nat) (resid : Int) (s : State),
    s.isWorker = false → s.rd R.TB_STAT_SLEWING = 1 → s.tb.srcGood = true → s.tb.slewOver (max s.now t) = true →
      Room s →
    ∃ u, exec (.slewEnd t resid) s = .next u ∧
    (resid.natAbs ≤ 100 → u.rd R.TB_STAT_SLEWING = 0 ∧ u.rd R.TB_STAT_QUAL = 1 ∧ u.rd R.TB_STAT_SRCQ = (if s.rd
      R.TB_STAT_QUAL = 1 then s.rd R.TB_STAT_SRCQ else 1)) ∧
    (100 < resid.natAbs → u.rd R.TB_STAT_SLEWING = 1 ∧ u.rd R.TB_STAT_QUAL = s.rd R.TB_STAT_QUAL ∧ Logged s u
      0x2003 [resid]) ∧
    u.rd R.TB_RESID = ofSigned 32 resid ∧
    u.harvest = (s.begin t).harvest ∧
    RegsKept [R.TB_RESID, R.TB_ERR, R.TB_STAT_HOLD_MIN, R.TB_STAT_SLEWING, R.TB_STAT_STEP_PENDING,
      R.TB_STAT_EPOCH_UNKNOWN, R.TB_STAT_QUAL, R.TB_STAT_SRCQ] s u) ∧
  (∀ (t l : Nat) (s : State),
    s.isWorker = false → s.rd R.TB_STAT_QUAL = 1 → s.tb.srcLost = some l → s.tb.srcGood = false → l + 1000000000
      ≤ max s.now t → Room s →
    ∃ u, exec (.holdoverEntry t) s = .next u ∧
    u.rd R.TB_STAT_QUAL = 2 ∧
    u.rd R.TB_STAT_SRCQ = 2 ∧
    u.tb.holdSince = some (max s.now t) ∧
    u.harvest = (s.begin t).harvest ∧
    Logged s u 0x2001 [1, 2, (u.rd R.TB_ERR : Int)] ∧
    RegsKept [R.TB_ERR, R.TB_STAT_HOLD_MIN, R.TB_STAT_QUAL, R.TB_STAT_SRCQ] s u) ∧
  (∀ (t h : Nat) (s : State),
    s.rd R.TB_STAT_QUAL = 2 → s.tb.holdSince = some h → s.tb.back = false → h + 14400000000000 ≤ max s.now t →
      Room s →
    ∃ u, exec (.holdoverExpire t) s = .next u ∧
    u.rd R.TB_STAT_QUAL = 0 ∧
    Logged s u 0x2001 [2, 0, (u.rd R.TB_ERR : Int)] ∧
    u.harvest = (s.begin t).harvest ∧
    RegsKept [R.TB_ERR, R.TB_STAT_HOLD_MIN, R.TB_STAT_QUAL, R.TB_STAT_SRCQ] s u) ∧
  (∀ (t : Nat) (s : State),
    s.isWorker = false → s.rd R.TB_STAT_QUAL = 1 →
    ∃ u, exec (.harvestTimeSave t) s = .next u ∧
    u.tb = { s.tb with nandTime := (s.begin t).harvest } ∧
    RegsExact [] s u) ∧
  (∀ (t : Nat) (s : State),
    s.tb.rtcOff = none →
    ∃ u, exec (.rtcCalibration t) s = .next u ∧
    u.tb =
      { s.tb with rtcValid := true, rtcEl := max s.now t, rtcHt := (s.begin t).harvest, rtcErr := (s.begin t).tbErr }
      ∧
    RegsExact [] s u) ∧
  (∀ (t : Nat) (s : State),
    s.rd R.TB_STAT_PPS_ON = 1 → onGrid ((s.begin t).harvest) 1000000000 = true → s.tb.ppsLast = none →
    ∃ u, exec (.ppsEdge t) s = .next u ∧
    Sent u .pps 1 [(s.begin t).harvest] ∧
    Sent u .pps 0 [(s.begin t).harvest + 100000000] ∧
    u.tb.ppsLast = some (max s.now t) ∧
    RegsExact [] s u) ∧
  (∀ (t l : Nat) (s : State),
    s.tb.ppsLast = some l → s.tb.ppsStepped = true → max s.now t < l + 500000000 →
    ∃ u, exec (.ppsEdge t) s = .next u ∧
    u.answers = [] ∧
    u.tb = s.tb ∧
    RegsExact [] s u)

/-- Chapter 03, pin EVT and the Whistle: what each command does, and that it completes. An accepted edge is stamped
less its filter and logged (R112), dropped edges are reported once there is space (R112); TICK and SECOND carry
the port's sequence number, the step flag, quality, time and auxiliary word (R116, Table 3.7); a worker follows
the marker and takes DELAY and SRCQ (R117, R103); the round trip gives DELAY and refuses a port above 100 ns
(R117, R120); the time-status bound is taken plus 5 ns and grows after 3 s (R103); a loss leads to HOLDOVER
(R121) and a return to a slew (R123). What of this is the model's own choice or reading stands in log entries
14, 20, 28, 117 and 118. -/
def Obligations.WhistleComplete : Prop :=
  (∀ (t width : Nat) (rising : Bool) (s : State),
    s.rd R.TB_EVT_CFG_EDGE = 3 → evtFilter (s.rd R.TB_EVT_CFG_FILTER) ≤ width → s.tb.evtHeld.length < 16 → Room
      s →
    ∃ u, exec (.evtEdge t rising width 0) s = .next u ∧
    u.tb.evtHeld = s.tb.evtHeld ++ [((s.begin t).harvest - (evtFilter (s.rd R.TB_EVT_CFG_FILTER) : Int),
      rising)] ∧
    Logged s u 0x2010 [bit01 rising] ∧
    RegsKept [] s u) ∧
  (∀ (t taken : Nat) (s : State),
    0 < s.tb.evtDropped → s.tb.evtHeld.length < 16 + taken → Room s →
    ∃ u, exec (.tbEvtOverrun t taken) s = .next u ∧
    u.tb.evtDropped = 0 ∧
    Logged s u 0x2006 [(s.tb.evtDropped : Int)] ∧
    RegsKept [] s u) ∧
  (∀ (t p : Nat) (s : State),
    1 ≤ p → p ≤ 4 → s.rd (R.TB_WH_ROLE p) = 2 → (s.wh p).driving = true → onGrid ((s.begin t).harvest) 1000000 =
      true → onGrid ((s.begin t).harvest) 1000000000 = false →
    ∃ u, exec (.tick t p) s = .next u ∧
    u.rd (R.TB_WH_VALID p) = 1 ∧
    Sent u (.whistle p) 1 (whistleLine (whistleFrame 1 (bit01 (s.wh p).stepDue + 2 * s.rd R.TB_STAT_SRCQ) (s.wh
      p).txSeq ((s.begin t).harvest) (s.rd (R.TB_WH_DELAY p))) ++ whistleIdle 1) ∧
    (u.wh p).txSeq = ((s.wh p).txSeq + 1) % 256 ∧
    (u.wh p).stepDue = false ∧
    (u.wh p).tA = none ∧
    RegsExact [R.TB_WH_VALID p] s u) ∧
  (∀ (t p : Nat) (s : State),
    1 ≤ p → p ≤ 4 → s.rd (R.TB_WH_ROLE p) = 2 → (s.wh p).driving = true → onGrid ((s.begin t).harvest)
      1000000000 = true →
    ∃ u, exec (.second t p) s = .next u ∧
    u.rd (R.TB_WH_VALID p) = 1 ∧
    Sent u (.whistle p) 2 (whistleLine (whistleFrame 2 (bit01 (s.wh p).stepDue + 2 * s.rd R.TB_STAT_SRCQ) (s.wh
      p).txSeq ((s.begin t).harvest) (s.rd (R.TB_WH_DELAY p) + 65536 * (s.rd R.TB_UTCOFF_OFFSET % 16384) + 2 ^ 30
      * (if s.rd R.TB_UTCOFF_KNOWN = 1 then s.rd R.TB_UTCOFF_LEAP else 3))) ++ whistleIdle 2) ∧
    (u.wh p).txSeq = ((s.wh p).txSeq + 1) % 256 ∧
    (u.wh p).stepDue = false ∧
    RegsExact [R.TB_WH_VALID p] s u) ∧
  (∀ (t p : Nat) (bytes : List Nat) (marker : Int) (s : State),
    s.isWorker = true → s.rd (R.TB_WH_ROLE p) = 1 → 1 ≤ p → p ≤ 4 → whistleValid bytes = true → bytes.headD 0 %
      16 = 1 → bytes.headD 0 / 16 % 2 = 0 → s.rd R.TB_STAT_QUAL = 3 →
    ∃ u, exec (.whistleFrameRx t p bytes marker) s = .next u ∧
    u.harvest = (s.begin t).harvest ∧
    u.rd R.TB_RESID = ofSigned 32 (marker - ((leValue ((bytes.drop 2).take 8) : Int) + ((leValue ((bytes.drop
      10).take 4) % 65536 : Nat) : Int))) ∧
    u.tb.slewErr = (marker - ((leValue ((bytes.drop 2).take 8) : Int) + ((leValue ((bytes.drop 10).take 4) %
      65536 : Nat) : Int))).natAbs ∧
    u.tb.slewDir = (if 0 < marker - ((leValue ((bytes.drop 2).take 8) : Int) + ((leValue ((bytes.drop 10).take
      4) % 65536 : Nat) : Int)) then -1 else if marker - ((leValue ((bytes.drop 2).take 8) : Int) + ((leValue
      ((bytes.drop 10).take 4) % 65536 : Nat) : Int)) < 0 then 1 else 0) ∧
    u.rd (R.TB_WH_DELAY p) = leValue ((bytes.drop 10).take 4) % 65536 ∧
    u.rd R.TB_STAT_SRCQ = bytes.headD 0 / 32 % 4 ∧
    u.rd (R.TB_WH_VALID p) = 1 ∧
    (u.wh p).lastMarker = some marker ∧
    RegsExact [R.TB_WH_VALID p, R.TB_WH_DELAY p, R.TB_STAT_SRCQ, R.TB_RESID, R.TB_ERR, R.TB_STAT_HOLD_MIN] s u) ∧
  (∀ (t p : Nat) (bytes : List Nat) (marker : Int) (s : State),
    s.isWorker = true → s.rd (R.TB_WH_ROLE p) = 1 → 1 ≤ p → p ≤ 4 → whistleValid bytes = true → bytes.headD 0 %
      16 = 1 → bytes.headD 0 / 16 % 2 = 1 → Room s →
    ∃ u, exec (.whistleFrameRx t p bytes marker) s = .next u ∧
    u.harvest = (s.begin t).harvest - (marker - ((leValue ((bytes.drop 2).take 8) : Int) + ((leValue
      ((bytes.drop 10).take 4) % 65536 : Nat) : Int))) ∧
    u.tb.steps = s.tb.steps + 1 ∧
    Logged s u 0x2002 [-(marker - ((leValue ((bytes.drop 2).take 8) : Int) + ((leValue ((bytes.drop 10).take 4)
      % 65536 : Nat) : Int)))] ∧
    u.rd (R.TB_WH_DELAY p) = leValue ((bytes.drop 10).take 4) % 65536 ∧
    u.rd R.TB_STAT_SRCQ = bytes.headD 0 / 32 % 4 ∧
    u.rd (R.TB_WH_VALID p) = 1) ∧
  (∀ (t p : Nat) (bytes : List Nat) (marker : Int) (s : State),
    s.isWorker = true → 1 ≤ p → p ≤ 4 → s.rd (R.TB_WH_ROLE p) = 1 → whistleValid bytes = true → bytes.headD 0 %
      16 = 3 →
    ∃ u, exec (.whistleFrameRx t p bytes marker) s = .next u ∧
    (u.wh p).reqRx = some marker ∧
    u.harvest = (s.begin t).harvest ∧
    RegsExact [] s u) ∧
  (∀ (t p : Nat) (fresh : Bool) (s : State),
    1 ≤ p → p ≤ 4 → s.rd (R.TB_WH_ROLE p) = 3 ∨ s.rd (R.TB_WH_ROLE p) = 2 ∧ (s.wh p).driving = true →
      s.tb.whLost = false → fresh = true ∨ (s.wh p).reqAt = none → onGrid ((s.begin t).harvest - 500000) 1000000 =
      true →
    ∃ u, exec (.rtReq t p fresh) s = .next u ∧
    (u.wh p).tA = some ((s.begin t).harvest) ∧
    (u.wh p).reqAt = some (max s.now t) ∧
    (u.wh p).txSeq = ((s.wh p).txSeq + 1) % 256 ∧
    Sent u (.whistle p) 3 (whistleLine (whistleFrame 3 (2 * s.rd R.TB_STAT_SRCQ) (s.wh p).txSeq ((s.begin
      t).harvest) 0) ++ whistleIdle 3) ∧
    RegsExact [] s u) ∧
  (∀ (t p : Nat) (m : Int) (s : State),
    (s.wh p).reqRx = some m → m + 9999 ≤ (s.begin t).harvest → (s.begin t).harvest ≤ m + 10001 →
    ∃ u, exec (.rtRep t p) s = .next u ∧
    (u.wh p).reqRx = none ∧
    Sent u (.whistle p) 4 (whistleLine (whistleFrame 4 (2 * s.rd R.TB_STAT_SRCQ) (s.wh p).txSeq ((s.begin
      t).harvest) 0) ++ whistleIdle 4) ∧
    RegsExact [] s u) ∧
  (∀ (t p : Nat) (bytes : List Nat) (tA tB : Int) (s : State),
    1 ≤ p → p ≤ 4 → s.rd (R.TB_WH_ROLE p) ≠ 1 → (s.wh p).tA = some tA → whistleValid bytes = true → bytes.headD
      0 % 16 = 4 → Room s →
    ∃ u, exec (.rtRepRx t p bytes tB) s = .next u ∧
    u.rd (R.TB_WH_DELAY p) = min ((tB - tA - 10000) / 2).toNat 0xFFFF ∧
    (((tB - tA - 10000) / 2).toNat ≤ 100 → u.rd (R.TB_WH_ROLE p) = 2 ∧ (u.wh p).driving = true) ∧
    (100 < ((tB - tA - 10000) / 2).toNat → u.rd (R.TB_WH_ROLE p) = 3 ∧ u.rd (R.TB_WH_VALID p) = 0 ∧ (u.wh
      p).driving = false ∧ Logged s u 0x2005 [(p : Int), (((tB - tA - 10000) / 2).toNat : Int)]) ∧
    RegsKept [R.TB_WH_DELAY p, R.TB_WH_ROLE p, R.TB_WH_VALID p] s u) ∧
  (∀ (t p : Nat) (bytes : List Nat) (tB : Int) (s : State),
    whistleValid bytes = false →
    ∃ u, exec (.rtRepRx t p bytes tB) s = .next u ∧
    u.whistle = s.whistle ∧
    RegsExact [] s u) ∧
  (∀ (t err q : Nat) (s : State),
    s.isWorker = true → s.rd R.TB_STAT_QUAL = 3 →
    ∃ u, exec (.timeStatusMessage t err q) s = .next u ∧
    u.rd R.TB_ERR = capErr (err + 5) ∧
    (∀ p ∈ [1, 2, 3, 4], s.rd (R.TB_WH_ROLE p) = 2 → (s.wh p).driving = true → Sent u (.trunk p) 0 [(capErr (err
      + 5) : Int), 3]) ∧
    RegsExact [R.TB_ERR, R.TB_STAT_HOLD_MIN] s u) ∧
  (∀ (t a : Nat) (s : State),
    s.rd R.TB_STAT_QUAL = 3 → s.tb.statusAt = some a → s.tb.statusErr ≠ 0xFFFFFFFF → a + 3000000000 ≤ max s.now
      t →
    ∃ u, exec (.timeStatusLate t) s = .next u ∧
    u.rd R.TB_ERR = capErr (s.tb.statusErr + (max s.now t - a) / 1000000000 * 1000) ∧
    RegsExact [R.TB_ERR, R.TB_STAT_HOLD_MIN] s u) ∧
  (∀ (t p : Nat) (m : Int) (s : State),
    1 ≤ p → p ≤ 4 → s.isWorker = true → s.rd (R.TB_WH_ROLE p) = 1 → (s.wh p).lastMarker = some m → (s.wh
      p).firstMiss = none → m + 3005000 ≤ (s.begin t).harvest → Room s →
    ∃ u, exec (.tbWhLoss t p) s = .next u ∧
    u.rd (R.TB_WH_VALID p) = 0 ∧
    u.rd (R.TB_WH_LOSSES p) = satInc 255 (s.rd (R.TB_WH_LOSSES p)) ∧
    (s.rd R.TB_STAT_QUAL = 3 → u.rd R.TB_STAT_QUAL = 2) ∧
    u.ln.cohRefused = true ∧
    u.ln.lossAt = some (m + 1000000) ∧
    (∀ x ∈ u.whistle, x.2.driving = false) ∧
    Logged s u 0x2004 [(p : Int), m + 1000000] ∧
    u.harvest = (s.begin t).harvest ∧
    RegsKept [R.TB_WH_VALID p, R.TB_WH_LOSSES p, R.TB_STAT_QUAL, R.TB_STAT_SLEWING, R.TB_STAT_STEP_PENDING,
      R.TB_ERR, R.TB_STAT_HOLD_MIN] s u) ∧
  (∀ (t p : Nat) (err : Int) (s : State),
    1 ≤ p → p ≤ 4 → s.isWorker = true → s.rd (R.TB_WH_ROLE p) = 1 → (s.wh p).measured = true → s.rd
      R.TB_STAT_QUAL ∈ [0, 2] → s.tb.joined = true → s.rd R.TB_STAT_SLEWING ≠ 1 → err ≠ 0 → err.natAbs ≤ 1000000 →
      Room s →
    ∃ u, exec (.whistleReturn t p err) s = .next u ∧
    u.rd (R.TB_WH_VALID p) = 1 ∧
    u.rd R.TB_STAT_SLEWING = 1 ∧
    Logged s u 0x2003 [err] ∧
    u.harvest = (s.begin t).harvest ∧
    RegsKept [R.TB_WH_VALID p, R.TB_STAT_SLEWING, R.TB_RESID, R.TB_ERR, R.TB_STAT_HOLD_MIN] s u)

/-- Chapter 03, launches: what each command of the scheduler does, and that it completes. A Whistle loss ends the
later COHERENT entries (R122); a periodic launch does what its action reference names (R124, R128, Table 3.11);
an accepted entry takes the lowest free slot and answers its handle, a refused one is counted, logged and
answered (R131, R132, R138, R596); an entry is armed 100 us before its instant (R134) or destroyed by an
uncorrectable error (R92); it fires on time, or is dropped late under NO_LATE (R125, R134); a cancel in time
ends it (R135). What of this is the model's own choice or reading stands in log entries 14, 24, 56, 119, 120 and
121. -/
def Obligations.LaunchesComplete : Prop :=
  (∀ (t : Nat) (t0 : Int) (s : State),
    s.ln.lossAt = some t0 → s.rd R.TB_STAT_QUAL ≠ 3 → t0 + 50000000 ≤ (s.begin t).harvest →
    ∃ u, exec (.lnCohCancel t) s = .next u ∧
    u.ln.lossAt = none ∧
    u.rd R.LN_STAT_COH_CANCEL = satAdd 0xFFFF (s.rd R.LN_STAT_COH_CANCEL) (s.countWhere (fun e => e.coherent &&
      t0 + 50000000 < e.instant)) ∧
    (∀ p ∈ u.ln.slots, p.2.live = true → p.2.coherent = true → p.2.instant ≤ t0 + 50000000)) ∧
  (∀ (t gen : Nat) (instant : Int) (r : ReadingIn) (axes : List Nat) (f : Bool) (s : State),
    gen < 512 → (s.begin t).firesAt gen instant = true → actClass (s.rd (R.LN_PG_CFG_ACTION gen)) = 12 →
    ∃ u, exec (.periodicFire t gen instant r axes f) s = .next u ∧
    u.imu = { axes, fault := f, stamp := instant } ∧
    RegsExact [] s u) ∧
  (∀ (t gen : Nat) (instant : Int) (r : ReadingIn) (axes : List Nat) (f : Bool) (s : State),
    gen < 512 → (s.begin t).firesAt gen instant = true → actClass (s.rd (R.LN_PG_CFG_ACTION gen)) ∈ [8, 9, 11] →
    ∃ u, exec (.periodicFire t gen instant r axes f) s = .next u ∧
    Sent u (.action (s.rd (R.LN_PG_CFG_ACTION gen))) (actClass (s.rd (R.LN_PG_CFG_ACTION gen))) [instant]) ∧
  (∀ (t n : Nat) (e : EntryIn) (s : State),
    n ≠ 0 → s.ses.open_.any (fun p => p.2.num = n) = true → s.classAtLeast n 2 = true → s.turn n (.insert) =
      true → (s.begin t).insertTest n e = none → (s.begin t).harvest < e.instant →
    ∃ u, exec (.lnInsert t n s.role.unit e (0, [])) s = .next u ∧
    (u.slot s.freeSlot).live = true ∧
    (u.slot s.freeSlot).instant = e.instant ∧
    (u.slot s.freeSlot).action = e.action ∧
    (u.slot s.freeSlot).flags = e.flags ∧
    (u.slot s.freeSlot).payload = e.payload ∧
    Sent u (.session n) 0 [((u.slot s.freeSlot).handle s.freeSlot : Int)] ∧
    u.rd R.LN_QDEPTH_DEPTH = u.queued ∧
    RegsExact [R.LN_QDEPTH_DEPTH, R.LN_QDEPTH_HIGH] s u) ∧
  (∀ (t n code : Nat) (pl : List Int) (e : EntryIn) (s : State),
    n ≠ 0 → s.ses.open_.any (fun p => p.2.num = n) = true → s.classAtLeast n 2 = true → s.turn n (.insert) =
      true → (s.begin t).insertTest n e = some (code, pl) → code ≠ 0x3048 → (s.begin t).mayLog code 0 1000000 =
      true → Room s →
    ∃ u, exec (.lnInsert t n s.role.unit e (0, [])) s = .next u ∧
    u.ln = s.ln ∧
    Sent u (.session n) code [] ∧
    Logged s u code pl ∧
    u.rd R.LN_STAT_REFUSED = satInc 0xFFFF (s.rd R.LN_STAT_REFUSED) ∧
    RegsKept [R.LN_STAT_REFUSED] s u) ∧
  (∀ (t n : Nat) (unit : Nat) (r : Nat × List Int) (e : EntryIn) (s : State),
    n ≠ 0 → s.ses.open_.any (fun p => p.2.num = n) = true → s.classAtLeast n 2 = true → s.turn n (.insert) =
      true → unit ≠ s.role.unit →
    ∃ u, exec (.lnInsert t n unit e r) s = .next u ∧
    u.ln = s.ln ∧
    Sent u (.trunk 0) 0x20 [(unit : Int), e.instant, (e.action : Int), (e.flags : Int), (e.payload : Int)] ∧
    Sent u (.session n) r.1 r.2 ∧
    RegsExact [] s u) ∧
  (∀ (t n : Nat) (s : State),
    (s.slot n).out = .queued → (s.slot n).instant ≤ (s.begin t).harvest + 100000 →
    ∃ u, exec (.oneshotArm t n 0) s = .next u ∧
    u.slot n = { s.slot n with out := .armed } ∧
    RegsExact [R.LN_QDEPTH_DEPTH, R.LN_QDEPTH_HIGH] s u) ∧
  (∀ (t n : Nat) (s : State),
    (s.slot n).out = .queued → s.fnOfAction (s.slot n).action = none → Room s →
    ∃ u, exec (.oneshotArm t n 2) s = .next u ∧
    u.slot n = { s.slot n with out := .ended } ∧
    Logged s u 0x1031 [0, ((s.regionBase 0 + n * 16 : Nat) : Int), (regionOwner 0 : Int)] ∧
    RegsKept [R.LN_QDEPTH_DEPTH, R.LN_QDEPTH_HIGH] s u) ∧
  (∀ (t n : Nat) (s : State),
    (s.slot n).out = .armed → (s.slot n).instant ≤ (s.begin t).harvest → (s.begin t).harvest ≤ (s.slot
      n).instant + 4 → Room s →
    ∃ u, exec (.oneshotFire t n) s = .next u ∧
    (u.slot n).out = .fired ∧
    (actClass (s.slot n).action = 5 → Logged s u 0x2011 [(s.role.unit : Int), ((s.slot n).payload : Int)]) ∧
    (actClass (s.slot n).action = 1 → (u.idxS (actTarget (s.slot n).action / 16) (actTarget (s.slot n).action %
      16)).shots.head? = some ((s.slot n).payload, (s.slot n).instant)) ∧
    (actClass (s.slot n).action = 3 → Sent u (.switch (actTarget (s.slot n).action)) Src.launch [(((s.slot
      n).payload % 2 : Nat) : Int)]) ∧
    (actClass (s.slot n).action = 2 → Sent u (.valve (actTarget (s.slot n).action)) Src.launch [(((s.slot
      n).payload / 65536 : Nat) : Int), (((s.slot n).payload % 16 : Nat) : Int)]) ∧
    u.rd R.LN_STAT_LATE = s.rd R.LN_STAT_LATE) ∧
  (∀ (t n : Nat) (s : State),
    (s.slot n).live = true → (s.slot n).instant + 4 < (s.begin t).harvest → (s.slot n).noLate = true → (s.begin
      t).mayLog 0x2021 0 1000000 = true → Room s →
    ∃ u, exec (.oneshotFire t n) s = .next u ∧
    u.slot n = { s.slot n with out := .ended } ∧
    u.rd R.LN_STAT_DROPPED = satInc 0xFFFF (s.rd R.LN_STAT_DROPPED) ∧
    Logged s u 0x2021 [((s.slot n).handle n : Int), ((s.slot n).action : Int)] ∧
    RegsKept [R.LN_QDEPTH_DEPTH, R.LN_QDEPTH_HIGH, R.LN_STAT_DROPPED] s u) ∧
  (∀ (t n h : Nat) (s : State),
    n ≠ 0 → s.ses.open_.any (fun p => p.2.num = n) = true → s.classAtLeast n 2 = true → s.turn n (.cancel) =
      true → (s.slot (h % 65536)).gen = h / 65536 → (s.slot (h % 65536)).live = true → (s.begin t).harvest + 2000
      ≤ (s.slot (h % 65536)).instant →
    ∃ u, exec (.lnCancel t n h) s = .next u ∧
    u.slot (h % 65536) = { s.slot (h % 65536) with out := .ended } ∧
    Sent u (.session n) 0 [0] ∧
    RegsExact [R.LN_QDEPTH_DEPTH, R.LN_QDEPTH_HIGH] s u)

/-- Chapter 04: what each command of the observer does, and that it completes. A step is launched with its number
(R142); the gather takes what is designated for it and counts what is late or discarded (R154, R155); the output
of a step in time is published (R142, R165); a step not in time is abandoned and counted (R145, R146); samples
wait with their stamp and value or go to the manager (R140, R152); a silent source is missing (R159); offset
estimates and the drift bound (R157, R158); a state error stops and restarts the observer (R150); a pack is
selected and changed in FIELD_IDLE (R178). What of this is the model's own choice or reading stands in log
entries 7, 35, 36, 37 and 39. -/
def Obligations.ObserverComplete : Prop :=
  (∀ (t : Nat) (instant : Int) (s : State),
    s.obs.step = none → s.obs.select = none → s.rd R.OBS_STAT_RUN = 1 → (List.range 512).any (fun g => s.rd
      (R.LN_PG_CFG_ACTION g) = 0xB000 && (s.begin t).launches g instant s.obs.launched) = true →
    ∃ u, exec (.obsStep t instant) s = .next u ∧
    u.obs.step = some { k := s.obs.k, t0 := instant } ∧
    u.obs.k = s.obs.k + 1 ∧
    u.obs.launched = some (instant, s.tb.steps) ∧
    (s.rd R.OBS_STAT_WARMING ≠ 1 → u.rd R.OBS_STAT_WARM_LEFT = 0) ∧
    RegsExact [R.OBS_STAT_WARM_LEFT] s u) ∧
  (∀ (t : Nat) (st : ObsStepS) (x : ObsIn) (s : State),
    s.obs.step = some st → st.closed = false → s.obs.waiting = [x] → s.obs.taken = [] → x.bind < 32 → st.t0 +
      200000 ≤ (s.begin t).harvest → x.arrived ≤ st.t0 + 200000 → (s.descOf x.bind).isSome = true → (s.bindS
      x.bind).drift = false →
    ∃ u, exec (.obsGatherClose t) s = .next u ∧
    u.obs.step = some { st with closed := true } ∧
    (st.t0 < x.at_ → u.obs.waiting = [x] ∧ u.obs.taken = []) ∧
    (x.at_ ≤ st.t0 → st.t0 - 2000000 < x.at_ → u.obs.waiting = [] ∧ u.obs.taken = [x]) ∧
    (x.at_ ≤ st.t0 - 2000000 → st.t0 - 6000000 < x.at_ → u.obs.taken = [x] ∧ u.rd R.OBS_LATE = satInc 0xFFFFFFFF
      (s.rd R.OBS_LATE)) ∧
    (x.at_ ≤ st.t0 - 6000000 → u.obs.taken = [] ∧ u.rd R.OBS_LATE_DISCARDED = satInc 0xFFFFFFFF (s.rd
      R.OBS_LATE_DISCARDED)) ∧
    RegsExact [R.OBS_IN_STAT_STATE x.bind, R.OBS_LATE, R.OBS_LATE_DISCARDED] s u) ∧
  (∀ (t : Nat) (st : ObsStepS) (net : NetIn) (s : State),
    s.obs.step = some st → st.closed = true → (s.begin t).harvest ≤ st.t0 + 2000000 → s.rd R.OBS_STAT_WARMING =
      0 → s.rd R.OBS_STAT_DSTEP ≠ 3 → 0 < s.rd R.OBS_CFG_HOLD_LIMIT →
    ∃ u, exec (.obsStepOutput t net) s = .next u ∧
    u.obs.step = none ∧
    u.obs.taken = [] ∧
    u.rd R.OBS_STAT_STEPNO = st.k % 2 ^ 32 ∧
    u.rd R.OBS_OVERRUN_CONSEC = 0 ∧
    u.out = some { time := (s.begin t).harvest, stepNo := st.k, values := net.out } ∧
    u.rd R.OBS_OVERRUN_LONGEST = max (s.rd R.OBS_OVERRUN_LONGEST) (min 0xFFFF (((s.begin t).harvest - st.t0) /
      1000).toNat)) ∧
  (∀ (t : Nat) (st : ObsStepS) (s : State),
    s.obs.step = some st → st.t0 + 2000000 ≤ (s.begin t).harvest → (s.begin t).mayLog 0x3004 0 1000000000 = true
      → Room s →
    ∃ u, exec (.obsOverrun t) s = .next u ∧
    u.obs.step = none ∧
    u.obs.taken = s.obs.taken ∧
    u.rd R.OBS_OVERRUN_OVERRUNS = satInc 0xFFFF (s.rd R.OBS_OVERRUN_OVERRUNS) ∧
    u.rd R.OBS_OVERRUN_CONSEC = satInc 255 (s.rd R.OBS_OVERRUN_CONSEC) ∧
    u.obs.overrunOn = (s.obs.overrunOn || decide (3 ≤ u.rd R.OBS_OVERRUN_CONSEC)) ∧
    Logged s u 0x3004 [(st.k : Int), (u.rd R.OBS_OVERRUN_CONSEC : Int)] ∧
    RegsKept [R.OBS_OVERRUN_OVERRUNS, R.OBS_OVERRUN_CONSEC] s u) ∧
  (∀ (t b : Nat) (time : Int) (raw : Nat) (s : State),
    b < 32 → s.isWorker = false → (s.descOf b).isSome = true → s.rd R.OBS_STAT_RUN = 1 → s.rd (R.OBS_IN_CFG_FREE
      b) = 0 →
    ∃ u, exec (.obsSampleArrive t b time raw) s = .next u ∧
    u.obs.waiting = s.obs.waiting ++
      [{ bind := b, at_ := time + (s.rd (R.OBS_IN_CFG_LATENCY b) * 10000 : Nat), stamp := time, value := toF32 (f32 raw * s.rdF (R.OBS_IN_SCALE_GAIN b) + s.rdF (R.OBS_IN_SCALE_OFFSET b)), arrived := (s.begin t).harvest }]
      ∧
    (u.bindS b).lastArr = some (max s.now t) ∧
    RegsExact [] s u) ∧
  (∀ (t b : Nat) (time : Int) (raw : Nat) (s : State),
    b < 32 → s.isWorker = true → s.rd (R.OBS_IN_CFG_FREE b) = 0 →
    ∃ u, exec (.obsSampleArrive t b time raw) s = .next u ∧
    Sent u (.trunk 0) 0x43 [(b : Int), time, (raw : Int)] ∧
    u.obs.waiting = s.obs.waiting ∧
    (u.bindS b).lastTime = some time ∧
    RegsExact [] s u) ∧
  (∀ (t b : Nat) (s : State),
    b < 32 → (s.descOf b).isSome = true →
    ∃ u, exec (.sourceMissing t b true) s = .next u ∧
    (u.bindS b).missing = true ∧
    ((s.bindS b).late = false → (s.bindS b).drift = false → (s.bindS b).lying = false → u.rd
      (R.OBS_IN_STAT_STATE b) = 2) ∧
    RegsExact [R.OBS_IN_STAT_STATE b] s u) ∧
  (∀ (t b unc : Nat) (o : Int) (s : State),
    s.rd (R.OBS_IN_CFG_FREE b) = 1 → s.rd (R.OBS_IN_CFG_SRC_TYPE b) ≠ 2 → (s.descOf b).isSome = true → 4 * unc ≤
      s.samplePeriod b → b < 32 →
    ∃ u, exec (.offsetEstimate t b o unc) s = .next u ∧
    (u.bindS b).est = some (max s.now t) ∧
    (u.bindS b).offset = o ∧
    (u.bindS b).drift = false ∧
    u.rd (R.OBS_IN_STAT_OFFSET_AGE b) = 0 ∧
    RegsExact [R.OBS_IN_STAT_STATE b, R.OBS_IN_STAT_OFFSET_AGE b] s u) ∧
  (∀ (t b e : Nat) (s : State),
    b < 32 → s.rd (R.OBS_IN_CFG_FREE b) = 1 → (s.descOf b).isSome = true → (s.bindS b).est = some e → (s.bindS
      b).drift = false → e + 3000000000 ≤ max s.now t → s.samplePeriod b * 1000000 < s.rd (R.OBS_IN_CFG_DRIFT_PPM
      b) * (max s.now t - e) → (s.begin t).mayLog 0x3003 b 1000000000 = true → Room s →
    ∃ u, exec (.offsetInvalid t b) s = .next u ∧
    (u.bindS b).drift = true ∧
    u.rd (R.OBS_IN_STAT_STATE b) = 5 ∧
    Logged s u 0x3003 [(b : Int), ((s.rd (R.OBS_IN_CFG_DRIFT_PPM b) * (max s.now t - e) / 1000000 : Nat) : Int),
      (s.samplePeriod b : Int)] ∧
    RegsKept [R.OBS_IN_STAT_STATE b] s u) ∧
  (∀ (t r a : Nat) (s : State),
    s.rd R.OBS_STAT_RUN = 1 → s.obs.eccAt = some a → max s.now t < a + 60000000000 → Room s →
    ∃ u, exec (.obsStateEcc t r) s = .next u ∧
    u.rd R.OBS_STAT_RUN = 0 ∧
    u.rd R.OBS_STAT_DSTEP = 4 ∧
    u.rd R.OBS_STAT_CAUSE = 0x32 ∧
    u.obs.eccHold = true ∧
    u.out = none ∧
    Logged s u 0x3013 [(r : Int), 1] ∧
    RegsKept [R.OBS_STAT_RUN, R.OBS_STAT_WARMING, R.OBS_STAT_WARM_LEFT, R.OBS_STAT_DSTEP, R.OBS_STAT_CAUSE,
      R.FN_OPT_STAT_STATE, R.FN_OPT_STAT_AUTH] s u) ∧
  (∀ (t r : Nat) (s : State),
    s.rd R.OBS_STAT_RUN = 1 → s.obs.eccAt = none → s.observing = true → s.obs.eccHold = false → s.obs.select =
      none → s.packNow.isSome = true → Room s →
    ∃ u, exec (.obsStateEcc t r) s = .next u ∧
    u.rd R.OBS_STAT_RUN = 1 ∧
    u.rd R.OBS_STAT_WARMING = 1 ∧
    u.obs.k = 0 ∧
    u.obs.eccAt = some (max s.now t) ∧
    Logged s u 0x3013 [(r : Int), 0]) ∧
  (∀ (t n slot : Nat) (s : State),
    n ≠ 0 → s.ses.open_.any (fun p => p.2.num = n) = true → s.classAtLeast n 1 = true → s.turn n (.pack) = true
      → s.mode = Mode.FIELD_IDLE → (look s.obs.packs slot).isSome = true →
    ∃ u, exec (.packSelect t n slot) s = .next u ∧
    u.obs.select = some slot ∧
    Sent u (.session n) Res.OK [] ∧
    RegsExact [] s u) ∧
  (∀ (t n slot : Nat) (s : State),
    n ≠ 0 → s.ses.open_.any (fun p => p.2.num = n) = true → s.classAtLeast n 1 = true → s.turn n (.pack) = true
      → s.mode ≠ Mode.FIELD_IDLE → Room s →
    ∃ u, exec (.packSelect t n slot) s = .next u ∧
    u.obs = s.obs ∧
    Sent u (.session n) 0x3011 [] ∧
    Logged s u 0x3011 [(slot : Int), (s.mode : Int)] ∧
    RegsKept [] s u) ∧
  (∀ (t slot : Nat) (p : PackS) (s : State),
    s.obs.changing = true → s.obs.select = some slot → look s.obs.packs slot = some p → Room s →
    ∃ u, exec (.obsPackChange t) s = .next u ∧
    u.rd R.OBS_STAT_PACK = slot ∧
    u.obs.select = none ∧
    u.obs.changing = false ∧
    Logged s u 0x3012 [(s.rd R.OBS_STAT_PACK : Int), (slot : Int), (p.vendor : Int), (p.packId : Int)] ∧
    (s.observing = true → s.rd R.OBS_STAT_RUN = 0 → s.obs.eccHold = false → u.rd R.OBS_STAT_RUN = 1 ∧ u.rd
      R.OBS_STAT_WARMING = 1))

/-- Chapter 05: what each command of the machine functions and the optimiser does, and that it completes. A launch
clamps the target, moves the applied setpoint by at most RATE and sends it (R189, R190, Table 5.2), and restarts
a function that is due (R202, R208); an operator setpoint is taken within OPMIN and OPMAX or refused (R192,
R193); a cycle of the optimiser counts itself, takes the goal and clamps its choice (R194, R196, R198), or waits
(R195); a goal needs a weight (R196); a stop request, a restart request and a change set (R204, R206, R207,
R209); the amendment list is read in SERVICE only (R211). What of this is the model's own choice or reading
stands in log entries 5, 31, 38, 61, 63, 67 and 106. -/
def Obligations.FunctionsComplete : Prop :=
  (∀ (t f : Nat) (instant : Int) (rs : List (Nat × Nat)) (wm : Bool) (ds : Nat) (s : State),
    f < 48 → f ≠ 27 → s.rd (R.FN_CFG_PATH f) = 1 → s.rd (R.FN_CFG_UNIT f) = s.role.unit → s.rd (R.FN_CFG_SOURCE
      f) = 0 → s.rd (R.FN_CFG_OBS_BOUND f) = 0 → s.rd (R.FN_CFG_NSP f) = 0 → s.rd (R.FN_CFG_LOOP_COUNT f) = 0 →
      (s.fnS f).running = true → (s.fnS f).restartAt = none → (s.begin t).launches (s.rd (R.FN_CFG_LAUNCH_PG f))
      instant ((s.fnS f).lastLaunch.map (fun (l : Int) => (l, (s.fnS f).launchSteps))) = true → s.dueSlots (fun (e
      : SlotS) => actClass e.action = 1 && actTarget e.action / 16 = f && e.instant ≤ instant) = [] → ((s.idxS f
      0).opAt instant).ovr = none → (s.entry f).pubs.all (fun (p : PubS) => p.x.dstep ≠ 3) = true → (s.fnS
      f).taken.all (fun (y : Side) => y.dstep ≠ 3) = true →
    ∃ u, exec (.functionLaunch t f instant rs wm ds) s = .next u ∧
    u.rd (R.FN_SP_NOW_TARGET f 0) = toF32 (clampQ (s.rdF (R.FN_SP_LIM_MIN f 0)) (s.rdF (R.FN_SP_LIM_MAX f 0))
      (s.rdF (R.FN_SP_VAL2_FIXED f 0))) ∧
    u.rd (R.FN_SP_NOW_APPLIED f 0) = toF32 (if s.rdF (R.FN_SP_RATE f 0) = 0 then u.rdF (R.FN_SP_NOW_TARGET f 0)
      else clampQ (s.rdF (R.FN_SP_NOW_APPLIED f 0) - s.rdF (R.FN_SP_RATE f 0) * s.launchInterval f instant) (s.rdF
      (R.FN_SP_NOW_APPLIED f 0) + s.rdF (R.FN_SP_RATE f 0) * s.launchInterval f instant) (u.rdF
      (R.FN_SP_NOW_TARGET f 0))) ∧
    u.rd (R.FN_STAT_STATE f) = 3 ∧
    u.rd (R.FN_STAT_SRC f) = 0 ∧
    Sent u (.valve (s.rd (R.FN_CFG_CHAN f))) Src.openLoop [roundInt (u.rdF (R.FN_SP_NOW_APPLIED f 0))] ∧
    RegsKept [R.FN_SPB_SEQ_TAKEN f, R.FN_SPB_SIDE f, R.FN_SPB_VALID f, R.FN_STAT_AUTH_HALF f, R.FN_STAT_STALE f,
      R.FN_STAT_SRC f, R.FN_SP_NOW_TARGET f 0, R.FN_SP_NOW_APPLIED f 0, R.FN_STAT_STATE f, R.FN_STAT_FF_ON f] s u) ∧
  (∀ (t f : Nat) (instant a : Int) (rs : List (Nat × Nat)) (wm : Bool) (ds : Nat) (s : State),
    f < 48 → f ∉ [8, 27, 29] → s.rd (R.FN_CFG_PATH f) ∈ [1, 2] → s.rd (R.FN_CFG_UNIT f) = s.role.unit → (s.fnS
      f).restartAt = some a → a ≤ instant → (s.fnS f).causes = [] → (s.fnS f).changeSet = false → (s.begin
      t).launches (s.rd (R.FN_CFG_LAUNCH_PG f)) instant ((s.fnS f).lastLaunch.map (fun (l : Int) => (l, (s.fnS
      f).launchSteps))) = true → s.dueSlots (fun (e : SlotS) => actClass e.action = 1 && actTarget e.action / 16 =
      f && e.instant ≤ instant) = [] → Room s →
    ∃ u, exec (.functionLaunch t f instant rs wm ds) s = .next u ∧
    (u.fnS f).running = true ∧
    (u.fnS f).restartAt = none ∧
    Logged s u 0x3041 [(f : Int), 0]) ∧
  (∀ (t n f i v d : Nat) (ovr : Bool) (s : State),
    n ≠ 0 → s.ses.open_.any (fun p => p.2.num = n) = true → s.classAtLeast n 1 = true → s.turn n (.setpoint f) =
      true → f < 48 → f ≠ 27 → s.fnUsed f = true → i ≤ s.rd (R.FN_CFG_NSP f) → s.rdF (R.FN_SP_OPLIM_OPMIN f i) ≤
      f32 v → f32 v ≤ s.rdF (R.FN_SP_OPLIM_OPMAX f i) →
    ∃ u, exec (.operatorSetpoint t n f i v d ovr) s = .next u ∧
    (u.idxS f i).op.value = some v ∧
    (u.idxS f i).op.stamp = (s.begin t).harvest ∧
    (u.idxS f i).op.ovr = (if ovr = true ∧ ((s.fnS f).running = true ∨ s.forwards f = true) then some (n, d)
      else none) ∧
    Sent u (.session n) Res.OK [] ∧
    (s.forwards f = true → Sent u (.trunk 0) 0x40 [(f : Int), (i : Int), (v : Int), (bit01 ovr : Int)]) ∧
    RegsExact [] s u) ∧
  (∀ (t n f i v d : Nat) (ovr : Bool) (s : State),
    n ≠ 0 → s.ses.open_.any (fun p => p.2.num = n) = true → s.classAtLeast n 1 = true → s.turn n (.setpoint f) =
      true → f < 48 → f ≠ 27 → s.fnUsed f = true → i ≤ s.rd (R.FN_CFG_NSP f) → s.rdF (R.FN_SP_OPLIM_OPMAX f i) <
      f32 v → (s.begin t).mayLog 0x3045 f 1000000000 = true → Room s →
    ∃ u, exec (.operatorSetpoint t n f i v d ovr) s = .next u ∧
    u.fn = s.fn ∧
    Sent u (.session n) 0x3045 [] ∧
    Logged s u 0x3045 [(f : Int), (i : Int), (v : Int)] ∧
    RegsKept [] s u) ∧
  (∀ (t f i v : Nat) (c : CandIn) (x : Int) (s : State),
    s.observing = true → s.optWaits = false → s.rd R.OBS_STAT_DSTEP ≠ 3 → s.optFns.contains f = true → s.rd
      (R.FN_CFG_SOURCE f) = 2 → i ≤ s.rd (R.FN_CFG_NSP f) → c.values = [(f, i, v, x)] →
    ∃ u, exec (.optimiserCycle t [c] []) s = .next u ∧
    u.rd R.FN_OPT_STAT_CYCLES = satInc 0xFFFF (s.rd R.FN_OPT_STAT_CYCLES) ∧
    u.opt.goalNext = none ∧
    (u.idxS f i).opt = some (s.clampValue f i v) ∧
    u.rd R.FN_OPT_STAT_GOAL = s.opt.goalNext.getD (s.opt.goal.getD (s.rd R.FN_OPT_CFG_GOALDEF))) ∧
  (∀ (t : Nat) (l : List CandIn) (s : State),
    s.observing = true → s.optWaits = true →
    ∃ u, exec (.optimiserCycle t l []) s = .next u ∧
    u.rd R.FN_OPT_STAT_CYCLES = satInc 0xFFFF (s.rd R.FN_OPT_STAT_CYCLES) ∧
    u.rd R.FN_OPT_STAT_STATE = 1) ∧
  (∀ (t n g : Nat) (s : State),
    n ≠ 0 → s.ses.open_.any (fun p => p.2.num = n) = true → s.classAtLeast n 1 = true → s.turn n (.goal) = true
      → g ≤ 7 → 0 < s.rd (R.FN_GOAL_W_THR g) + s.rd (R.FN_GOAL_W_LOSS g) + s.rd (R.FN_GOAL_W_QUAL g) + s.rd
      (R.FN_GOAL_W_FUEL g) →
    ∃ u, exec (.goalSelect t n g) s = .next u ∧
    u.opt = { s.opt with goalNext := some g } ∧
    Sent u (.session n) Res.OK [] ∧
    RegsExact [] s u) ∧
  (∀ (t n g : Nat) (s : State),
    n ≠ 0 → s.ses.open_.any (fun p => p.2.num = n) = true → s.classAtLeast n 1 = true → s.turn n (.goal) = true
      → g ≤ 7 → s.rd (R.FN_GOAL_W_THR g) + s.rd (R.FN_GOAL_W_LOSS g) + s.rd (R.FN_GOAL_W_QUAL g) + s.rd
      (R.FN_GOAL_W_FUEL g) = 0 → Room s →
    ∃ u, exec (.goalSelect t n g) s = .next u ∧
    u.opt = s.opt ∧
    Sent u (.session n) 0x304B [] ∧
    Logged s u 0x304B [(g : Int)] ∧
    RegsKept [] s u) ∧
  (∀ (t n f : Nat) (s : State),
    n ≠ 0 → s.ses.open_.any (fun p => p.2.num = n) = true → s.classAtLeast n 1 = true → s.turn n (.fnStop f) =
      true → f < 48 → f ≠ 27 → s.fnMine f = true → (s.fnS f).running = true → (s.loopsOf f).length ≤ 32 → Room s →
    ∃ u, exec (.fnStopRequest t n f) s = .next u ∧
    (u.fnS f).running = false ∧
    1 ∈ (u.fnS f).causes ∧
    u.rd (R.FN_STAT_STATE f) = 1 ∧
    u.rd (R.FN_STAT_STOPS f) = satInc 255 (s.rd (R.FN_STAT_STOPS f)) ∧
    Sent u (.session n) Res.OK [] ∧
    Logged s u 0x3040 [(f : Int), 1] ∧
    (∀ p ∈ u.ln.slots, p.2.live = true → s.fnOfAction p.2.action ≠ some f)) ∧
  (∀ (t n f : Nat) (tj : Int) (rr : Nat × List Int) (s : State),
    n ≠ 0 → s.ses.open_.any (fun p => p.2.num = n) = true → s.classAtLeast n 2 = true → s.turn n (.fnRestart f)
      = true → f < 48 → f ∉ [8, 27, 29] → s.fnMine f = true → s.rd (R.FN_CFG_PATH f) ∈ [1, 3] → s.tunedLoop f =
      none → s.pathBlocks f = none → (s.fnS f).running = false →
    ∃ u, exec (.fnRestartRequest t n f tj rr) s = .next u ∧
    (u.fnS f).restartAt = some ((s.begin t).harvest + 1000000) ∧
    (u.fnS f).causes = (s.fnS f).causes.filter (fun c => c = 2 || c = 6 || (c = 4 && s.engineOut f)) ∧
    Sent u (.session n) Res.OK []) ∧
  (∀ (t n f l : Nat) (tj : Int) (rr : Nat × List Int) (s : State),
    n ≠ 0 → s.ses.open_.any (fun p => p.2.num = n) = true → s.classAtLeast n 2 = true → s.turn n (.fnRestart f)
      = true → f < 48 → f ≠ 27 → s.fnUsed f = true → s.rd (R.FN_CFG_PATH f) ≠ 2 → s.tunedLoop f = some l → Room s
      →
    ∃ u, exec (.fnRestartRequest t n f tj rr) s = .next u ∧
    u.fn = s.fn ∧
    Sent u (.session n) 0x3043 [] ∧
    Logged s u 0x3043 [(f : Int), (l : Int)] ∧
    RegsKept [] s u) ∧
  (∀ (t n f k v : Nat) (r : Bool) (rr : Nat × List Int) (s : State),
    n ≠ 0 → s.ses.open_.any (fun p => p.2.num = n) = true → s.classAtLeast n 3 = true → s.turn n (.changeSet f)
      = true → f < 48 → s.fnMine f = true → s.tunedLoop f = none → s.firstBad f [(k, v)] = none → s.amend.length <
      256 → (s.fnS f).running = false → s.rd (R.FN_CFG_UNIT f) = s.role.unit →
    ∃ u, exec (.changeSet t n f [(k, v)] r rr) s = .next u ∧
    u.rd k = v ∧
    ({ unit := s.role.unit, kind := 0, key := k, value := v } : AmendS) ∈ u.amend ∧
    u.rd (R.FN_STAT_CHANGING f) = 1 ∧
    u.rd (R.FN_STAT_AMENDED f) = 1 ∧
    u.rd (R.FN_STAT_CHANGES f) = satInc 255 (s.rd (R.FN_STAT_CHANGES f)) ∧
    (u.fnS f).restartAt = some ((s.begin t).harvest + 1000000) ∧
    (u.fnS f).changeRestart = r ∧
    Sent u (.session n) Res.OK [] ∧
    RegsExact [k, R.HMP_LIST_ENTRIES, R.FN_STAT_CHANGES f, R.FN_STAT_AMENDED f, R.FN_STAT_CHANGING f] s u) ∧
  (∀ (t n f i r : Nat) (ws : List (Nat × Nat)) (b : Bool) (rr : Nat × List Int) (s : State),
    n ≠ 0 → s.ses.open_.any (fun p => p.2.num = n) = true → s.classAtLeast n 3 = true → s.turn n (.changeSet f)
      = true → f < 48 → s.fnMine f = true → s.tunedLoop f = none → s.firstBad f ws = some (i, r) → Room s →
    ∃ u, exec (.changeSet t n f ws b rr) s = .next u ∧
    u.fn = s.fn ∧
    u.amend = s.amend ∧
    Sent u (.session n) 0x3042 [(i : Int), (r : Int)] ∧
    Logged s u 0x3042 [(f : Int), (i : Int), (r : Int)] ∧
    RegsKept [] s u) ∧
  (∀ (t n : Nat) (s : State),
    n ≠ 0 → s.ses.open_.any (fun p => p.2.num = n) = true → s.classAtLeast n 3 = true → s.turn n (.amendRead) =
      true → Room s →
    ∃ u, exec (.amendRead t n) s = .next u ∧
    (s.mode = Mode.SERVICE → Sent u (.session n) Res.OK (s.amendRecord.map Int.ofNat)) ∧
    (s.mode ≠ Mode.SERVICE → Sent u (.session n) 0x304C [] ∧ Logged s u 0x304C [0, (s.mode : Int)]) ∧
    u.amend = s.amend ∧
    RegsKept [] s u) ∧
  (∀ (t n : Nat) (s : State),
    n ≠ 0 → s.ses.open_.any (fun p => p.2.num = n) = true → s.classAtLeast n 3 = true → s.turn n (.amendCommit)
      = true → Room s →
    ∃ u, exec (.amendCommit t n) s = .next u ∧
    (s.mode = Mode.SERVICE → Sent u (.session n) Res.OK (s.amendRecord.map Int.ofNat)) ∧
    (s.mode ≠ Mode.SERVICE → Sent u (.session n) 0x304C [] ∧ Logged s u 0x304C [1, (s.mode : Int)]) ∧
    u.amend = s.amend ∧
    RegsKept [] s u)

/-- Chapter 06: what each command of the control engines does, and that it completes. A sample takes its measurement
and waits on its engine, an older one not started is discarded (R231, R234); an evaluation runs the loop's law
and commits the output, or counts a missing measurement (R222, R225 to R231); an auto-tune is accepted or
refused (R237); a mismatch begins the takeover by an idle spare or puts the engine out (R244, R246); the
takeover and the spare's self-test (R244, R247); a state error reloads the checkpoint and evaluates again, or
stops the function (R243). What of this is the model's own choice or reading stands in log entries 5, 31, 32, 70
and 122. -/
def Obligations.EnginesComplete : Prop :=
  (∀ (t l f : Nat) (instant : Int) (s : State),
    l < 256 → s.fnOfLoop l = some f → (s.begin t).launches (s.rd (R.CE_L_CFG_SAMPLE_PG l)) instant (s.loopS
      l).sampled = true → s.rd (R.CE_E_STAT_STATE (s.rd (R.CE_L_CFG_ENGINE l))) ≠ 2 →
    ∃ u, exec (.loopSample t l instant) s = .next u ∧
    u.waitingOn (s.rd (R.CE_L_CFG_ENGINE l)) = (s.waitingOn (s.rd (R.CE_L_CFG_ENGINE l))).filter (fun y =>
      y.loop ≠ l) ++ [{ loop := l, instant, el := max s.now t, steps := s.tb.steps, meas := s.measure l instant }]
      ∧
    (u.loopS l).sampled = some (instant, s.tb.steps) ∧
    u.rd (R.CE_L_STAT_SKIPS l) = (if (s.waitingOn (s.rd (R.CE_L_CFG_ENGINE l))).any (fun y => y.loop = l) = true
      then satInc 0xFFFF (s.rd (R.CE_L_STAT_SKIPS l)) else s.rd (R.CE_L_STAT_SKIPS l)) ∧
    RegsKept [R.CE_L_STAT_SKIPS l] s u) ∧
  (∀ (t e f m : Nat) (x : SampleS) (s : State),
    s.eng.takeover = none → e < 4 → x.loop < 256 → s.rd (R.CE_E_STAT_STATE e) ≠ 2 → s.nextSample e = some x →
      s.fnOfLoop x.loop = some f → (s.loopS x.loop).tune = none → s.tunedLoop f = none → (s.fnS f).running = true
      → x.meas = some m →
    ∃ u, exec (.loopEvaluate t e) s = .next u ∧
    u.rd (R.CE_L_NOW_U x.loop) = toF32 (s.evalLaw x.loop (s.loopS x.loop).law
      { r := s.reference f x.loop, y := f32 m, ff := s.ffOf f x.loop x.instant, h := s.sampleInterval x.loop x, held := if (s.loopS x.loop).closing then some (s.heldOf f x.loop) else none }
      x.instant).1 ∧
    (u.loopS x.loop).law = (s.evalLaw x.loop (s.loopS x.loop).law
      { r := s.reference f x.loop, y := f32 m, ff := s.ffOf f x.loop x.instant, h := s.sampleInterval x.loop x, held := if (s.loopS x.loop).closing then some (s.heldOf f x.loop) else none }
      x.instant).2 ∧
    u.rd (R.CE_L_NOW_Y x.loop) = m ∧
    u.rd (R.CE_L_STAT_STATE x.loop) = 2 ∧
    (u.loopS x.loop).check = some
      { law := (s.loopS x.loop).law, last := (s.loopS x.loop).lastEval, closing := (s.loopS x.loop).closing, x, r := s.reference f x.loop, ff := s.ffOf f x.loop x.instant }
      ∧
    u.waitingOn e = (s.waitingOn e).filter (fun y => y.loop ≠ x.loop) ∧
    RegsKept [R.CE_L_NOW_Y x.loop, R.CE_L_NOW_U x.loop, R.CE_L_STAT_STATE x.loop, R.CE_L_STAT_SAT x.loop,
      R.CE_L_STAT_DELAY_MAX x.loop, R.CE_L_STAT_OVER_BUDGET x.loop] s u) ∧
  (∀ (t e f : Nat) (x : SampleS) (s : State),
    s.eng.takeover = none → e < 4 → x.loop < 256 → s.rd (R.CE_E_STAT_STATE e) ≠ 2 → s.nextSample e = some x →
      s.fnOfLoop x.loop = some f → (s.loopS x.loop).tune = none → s.tunedLoop f = none → (s.fnS f).running = true
      → x.meas = none → (s.loopS x.loop).missed + 1 ≠ s.rd (R.CE_L_CFG_MISS_LIMIT x.loop) →
    ∃ u, exec (.loopEvaluate t e) s = .next u ∧
    (u.loopS x.loop).missed = (s.loopS x.loop).missed + 1 ∧
    (u.loopS x.loop).law = (s.loopS x.loop).law ∧
    u.rd (R.CE_L_STAT_MISSES x.loop) = satInc 0xFFFF (s.rd (R.CE_L_STAT_MISSES x.loop)) ∧
    u.rd (R.CE_L_STAT_STATE x.loop) = 4 ∧
    RegsExact [R.CE_L_STAT_STATE x.loop, R.CE_L_STAT_MISSES x.loop] s u) ∧
  (∀ (t n : Nat) (q : TuneIn) (s : State),
    n ≠ 0 → s.ses.open_.any (fun p => p.2.num = n) = true → s.classAtLeast n 3 = true → s.turn n (.autotune) =
      true → q.loop ≤ 255 → s.rd (R.CE_L_CFG_LAW q.loop) = 1 → s.mode = Mode.FIELD_IDLE ∨ s.mode = Mode.TEST →
      s.tuneBusy q.loop = none → s.tuneField q (if q.bias = 0x7FC00000 then s.rdF (R.CE_L_NOW_U q.loop) else f32
      q.bias) = none →
    ∃ u, exec (.autotuneRequest t n q) s = .next u ∧
    (u.loopS q.loop).tune.map (fun v => (v.rule, v.settle, v.cycles, v.timeout)) = some (q.rule, q.settle,
      q.cycles, q.timeout) ∧
    (u.loopS q.loop).tune.map (fun v => v.begun.isNone) = some true ∧
    (u.loopS q.loop).tune.map (fun v => (v.amp, v.hys, v.band)) = some (f32 q.amp, f32 q.hys, f32 q.band) ∧
    (u.loopS q.loop).law = (s.loopS q.loop).law ∧
    Sent u (.session n) Res.OK [] ∧
    RegsExact [] s u) ∧
  (∀ (t n : Nat) (q : TuneIn) (s : State),
    n ≠ 0 → s.ses.open_.any (fun p => p.2.num = n) = true → s.classAtLeast n 3 = true → s.turn n (.autotune) =
      true → q.loop ≤ 255 → s.rd (R.CE_L_CFG_LAW q.loop) ≠ 0 → s.mode ≠ Mode.FIELD_IDLE → s.mode ≠ Mode.TEST →
      Room s →
    ∃ u, exec (.autotuneRequest t n q) s = .next u ∧
    u.eng = s.eng ∧
    Sent u (.session n) 0x4023 [] ∧
    Logged s u 0x4023 [(q.loop : Int), (s.mode : Int)] ∧
    RegsKept [] s u) ∧
  (∀ (t e slot : Nat) (s : State),
    e < 4 → s.rd (R.CE_E_STAT_STATE e) = 0 → s.rd (R.CE_E_STAT_STATE 4) = 0 → s.rd (R.CE_E_STAT_PHYS 4) ≠ 7 →
      Room s →
    ∃ u, exec (.ceMismatch t e slot) s = .next u ∧
    u.rd (R.CE_E_STAT_STATE e) = 1 ∧
    u.rd (R.CE_E_STAT_STATE 4) = 1 ∧
    u.rd (R.CE_E_STAT_SERVES 4) = e ∧
    u.rd (R.CE_E_STAT_MISMATCH e) = satInc 255 (s.rd (R.CE_E_STAT_MISMATCH e)) ∧
    u.eng.takeover = some (e, max s.now t) ∧
    u.fn = s.fn ∧
    Logged s u 0x4001 [(e : Int), (s.rd (R.CE_E_STAT_PHYS e) : Int), (slot : Int)] ∧
    RegsKept [R.CE_E_STAT_STATE e, R.CE_E_STAT_STATE 4, R.CE_E_STAT_SERVES 4, R.CE_E_STAT_MISMATCH e] s u) ∧
  (∀ (t e slot : Nat) (s : State),
    e < 4 → (s.rd (R.CE_E_STAT_STATE e) ≠ 0 ∨ s.rd (R.CE_E_STAT_STATE 4) ≠ 0 ∨ s.rd (R.CE_E_STAT_PHYS 4) = 7) →
      s.loopsOn e = [] → Room s →
    ∃ u, exec (.ceMismatch t e slot) s = .next u ∧
    u.rd (R.CE_E_STAT_STATE e) = 2 ∧
    u.waitingOn e = [] ∧
    Logged s u 0x4003 [(e : Int), 0]) ∧
  (∀ (t e t0 : Nat) (s : State),
    e < 4 → s.eng.takeover = some (e, t0) →
    ∃ u, exec (.ceTakeover t) s = .next u ∧
    u.rd (R.CE_E_STAT_PHYS e) = s.rd (R.CE_E_STAT_PHYS 4) ∧
    u.eng.takeover = none ∧
    (s.loopsOn e = [] → s.waitingOn e = [] → Room s → Logged s u 0x4002 [(e : Int), (s.rd (R.CE_E_STAT_PHYS 4) :
      Int), ((max s.now t - t0 : Nat) : Int)])) ∧
  (∀ (t : Nat) (ok : Bool) (s : State),
    s.rd (R.CE_E_STAT_STATE 4) = 0 → s.rd (R.CE_E_STAT_PHYS 4) ≠ 7 → Room s →
    ∃ u, exec (.spareSelfTest t ok) s = .next u ∧
    (ok = true → RegsExact [] s u) ∧
    (ok = false → u.rd (R.CE_E_STAT_STATE 4) = 2 ∧ u.rd (R.CE_E_STAT_MISMATCH 4) = satInc 255 (s.rd
      (R.CE_E_STAT_MISMATCH 4)) ∧ Logged s u 0x4001 [4, (s.rd (R.CE_E_STAT_PHYS 4) : Int), 0xFF]) ∧
    RegsKept [R.CE_E_STAT_STATE 4, R.CE_E_STAT_MISMATCH 4] s u) ∧
  (∀ (t l good off f m : Nat) (c : CheckS) (s : State),
    good ≠ 0 → l < 256 → (s.loopS l).check = some c → c.x.loop = l → s.fnOfLoop l = some f → (s.loopS l).tune =
      none → s.tunedLoop f = none → (s.fnS f).running = true → c.x.meas = some m → Room s →
    ∃ u, exec (.loopStateEcc t l good off) s = .next u ∧
    Logged s u 0x1031 [0, (s.regionBase 0 + off : Int), (s.rd (R.CE_E_STAT_PHYS (s.rd (R.CE_L_CFG_ENGINE l))) :
      Int)] ∧
    u.rd (R.CE_L_NOW_U l) = toF32 ((s.setLoop l
      { s.loopS l with law := c.law, lastEval := c.last, closing := c.closing }).evalLaw l c.law
      { r := c.r, y := f32 m, ff := c.ff, h := (s.setLoop l { s.loopS l with law := c.law, lastEval := c.last, closing := c.closing }).sampleInterval l c.x, held := if c.closing then some ((s.setLoop l { s.loopS l with law := c.law, lastEval := c.last, closing := c.closing }).heldOf f l) else none }
      c.x.instant).1 ∧
    u.rd (R.CE_L_STAT_STATE l) = 2) ∧
  (∀ (t l off f : Nat) (s : State),
    s.fnOfLoop l = some f → (s.fnS f).running = true → (s.loopsOf f).length ≤ 32 → Room s →
    ∃ u, exec (.loopStateEcc t l 0 off) s = .next u ∧
    (u.fnS f).running = false ∧
    7 ∈ (u.fnS f).causes ∧
    Logged s u 0x1031 [0, (s.regionBase 0 + off : Int), (s.rd (R.CE_E_STAT_PHYS (s.rd (R.CE_L_CFG_ENGINE l))) :
      Int)] ∧
    Logged s u 0x3040 [(f : Int), 7])

/-- Chapter 07, channels and solutions: what each command does, and that it completes. Fifty dumps with a phase lock
indicator of 0.8 lock a channel, one below 0.5 is a slip, LATE_UPD counts a dump whose rates are still on their
way (R258 to R260); new rates take effect (R258); a lost signal goes to STATE 5 (R260); an epoch assigns an idle
channel (R256, R262); a solution without corrections is AUTONOMOUS or SBAS and its time is not valid without a
time solution (R265, R266, R273); a word is published whatever its check and used unless the check failed
(R264). What of this is the model's own choice or reading stands in log entries 7, 90, 123 and 125. -/
def Obligations.BasebandComplete : Prop :=
  (∀ (t c : Nat) (d : DumpIn) (s : State),
    c < 1024 → s.gnssRuns = true → s.chActive c = true → s.rd R.CORE_PACE_SHED ≠ 4 → (s.chS c).lockAt = none →
      (s.chS c).run = 49 → 800 ≤ d.pli →
    ∃ u, exec (.channelDump t c d) s = .next u ∧
    u.rd (R.GN_CH_STAT_STATE c) = 3 ∧
    (u.chS c).lockAt = some (max s.now t) ∧
    (u.chS c).due = true ∧
    u.rd (R.GN_CH_STAT_CN0 c) = min 255 d.cn0 ∧
    u.rd (R.GN_CH_STAT_LATE_UPD c) = (if (s.chS c).due = true then satInc 0xFFFF (s.rd (R.GN_CH_STAT_LATE_UPD
      c)) else s.rd (R.GN_CH_STAT_LATE_UPD c)) ∧
    RegsExact [R.GN_CH_STAT_STATE c, R.GN_CH_STAT_CN0 c, R.GN_CH_STAT_TCOH_NOW c, R.GN_CH_STAT_SIDEPEAK c,
      R.GN_CH_STAT_HALF c, R.GN_CH_STAT_LATE_UPD c] s u) ∧
  (∀ (t c a : Nat) (d : DumpIn) (s : State),
    c < 1024 → s.gnssRuns = true → s.chActive c = true → s.rd R.CORE_PACE_SHED ≠ 4 → (s.chS c).lockAt = some a →
      d.pli < 500 → (s.chS c).low = false → (s.begin t).mayLog 0x5004 c 1000000000 = true → Room s →
    ∃ u, exec (.channelDump t c d) s = .next u ∧
    u.rd (R.GN_CH_STAT_SLIPS c) = satInc 255 (s.rd (R.GN_CH_STAT_SLIPS c)) ∧
    (u.chS c).lockAt = some (max s.now t) ∧
    (u.chS c).slip = true ∧
    (u.chS c).low = true ∧
    Logged s u 0x5004 [(c : Int), (s.rd (R.GN_CH_STAT_SIG c) : Int), (s.rd (R.GN_CH_STAT_SV c) : Int)]) ∧
  (∀ (t c : Nat) (a b : Int) (s : State),
    s.gnssRuns = true → s.chActive c = true →
    ∃ u, exec (.channelRatesArrive t c a b) s = .next u ∧
    u.chS c = { s.chS c with due := false, arrived := some (a, b) } ∧
    RegsExact [] s u) ∧
  (∀ (t c : Nat) (s : State),
    c < 1024 → s.gnssRuns = true → s.chActive c = true → (s.chS c).seenAt + 200000000 ≤ max s.now t →
    ∃ u, exec (.channelLost t c) s = .next u ∧
    u.rd (R.GN_CH_STAT_STATE c) = 5 ∧
    (u.chS c).lockAt = none ∧
    u.rd (R.GN_CH_STAT_HALF c) = 0 ∧
    RegsExact [R.GN_CH_STAT_STATE c, R.GN_CH_STAT_HALF c] s u) ∧
  (∀ (t k : Nat) (x : SigIn) (s : State),
    s.gnssRuns = true → s.gn.measAt ≠ some ((s.begin t).epochNow, s.tb.steps) → s.rd R.CORE_PACE_SHED ≠ 4 →
      s.gn.ch.all (fun (p : Nat × ChanS) => s.rd (R.GN_CH_STAT_STATE p.1) ≠ 4) = true → k < 1024 → s.mayAssign x =
      true → s.chOf x.ant x.sig x.sv = none → s.channelFor x = some (k, true) →
    ∃ u, exec (.measEpoch t [x] []) s = .next u ∧
    u.rd (R.GN_CH_STAT_STATE k) = 1 ∧
    u.rd (R.GN_CH_STAT_SIG k) = x.sig ∧
    u.rd (R.GN_CH_STAT_SV k) = x.sv ∧
    u.rd (R.GN_CH_STAT_ANT k) = x.ant - 1 ∧
    u.gn.steps = s.tb.steps ∧
    RegsExact [R.GN_CH_STAT_STATE k, R.GN_CH_STAT_ANT k, R.GN_CH_STAT_SIG k, R.GN_CH_STAT_SV k, R.GN_CH_STAT_CN0
      k, R.GN_CH_STAT_INSOL k, R.GN_CH_STAT_HALF k, R.GN_CH_STAT_TCOH_NOW k, R.GN_CH_STAT_LATE_UPD k,
      R.GN_CH_STAT_SLIPS k, R.GN_CH_STAT_SIDEPEAK k] s u) ∧
  (∀ (t n : Nat) (sol : SolIn) (s : State),
    s.gn.on = true → s.islandOut 3 = false → s.gn.solAt ≠ some ((s.begin t).epochNow, s.tb.steps) → n = s.satsOf
      (s.tracking.filter (fun (c : Nat) => sol.used.contains c)) → 4 ≤ n → s.isWorker = false → s.rd
      (R.GN_COR_CFG_TYPE 0) = 0 → s.rd (R.GN_COR_CFG_TYPE 1) = 0 → s.rd (R.GN_COR_CFG_TYPE 2) = 0 → s.rd
      R.GN_STAT_CORSRC = 7 → s.gn.amb = false → sol.head = none → sol.toff = none → Room s →
    ∃ u, exec (.gnSolution t sol) s = .next u ∧
    u.rd R.GN_STAT_SOLN = (if bitOf (s.rd R.GN_CFG_SYSMASK) 0 = true ∧ 4 ≤ sol.sbas then 2 else 1) ∧
    u.rd R.GN_STAT_NSV_USED = min 255 n ∧
    u.rd R.GN_STAT_HEADQ = 0 ∧
    u.rd R.GN_STAT_AGE = 0xFFFF ∧
    u.rd R.GN_TSTAT_TERR = 0xFFFFFFFF ∧
    u.rd R.GN_STAT_TVALID ≠ 1 ∧
    u.gn.pvt.map (fun (p : PvtS) => (p.epoch, p.lat, p.lon, p.soln, p.nsv)) = some ((s.begin t).epochNow,
      sol.lat, sol.lon, u.rd R.GN_STAT_SOLN, min 255 n) ∧
    u.gn.solAt = some ((s.begin t).epochNow, s.tb.steps) ∧
    (s.rd R.GN_STAT_SOLN ≠ u.rd R.GN_STAT_SOLN → Logged s u 0x5003 [(s.rd R.GN_STAT_SOLN : Int), (u.rd
      R.GN_STAT_SOLN : Int), ((min 255 n : Nat) : Int)]) ∧
    RegsKept ([R.GN_STAT_SOLN, R.GN_STAT_NSV_USED, R.GN_STAT_HEADQ, R.GN_STAT_AGE, R.GN_STAT_STATION,
      R.GN_TSTAT_TERR, R.GN_STAT_TVALID] ++ s.gn.ch.flatMap (fun (p : Nat × ChanS) => [R.GN_CH_STAT_INSOL p.1,
      R.GN_CH_STAT_STATE p.1])) s u) ∧
  (∀ (t : Nat) (x : WordIn) (s : State),
    s.gnssRuns = true → x.utc = none → s.rd (R.GN_CH_STAT_SIG x.ch) ≠ 0x15 →
    ∃ u, exec (.navWord t x) s = .next u ∧
    (2 ≤ x.check → u.gn = s.gn) ∧
    (x.check < 2 → x.completes = 1 → u.gn.ephAt = some (s.begin t).harvest) ∧
    (x.check < 2 → x.completes = 2 → u.gn.almAt = some (s.begin t).harvest) ∧
    u.ses.open_ = s.ses.open_.map (fun p => (p.1, if p.2.streams.contains 2 = true then pushRecord p.2 2 (16 +
      (x.nbits + 7) / 8) ([x.start, (x.ch : Int), (s.rd (R.GN_CH_STAT_SIG x.ch) : Int), (s.rd (R.GN_CH_STAT_SV
      x.ch) : Int), (x.check : Int), (x.nbits : Int)] ++ x.bits.map Int.ofNat) else p.2)) ∧
    (x.check < 2 → (s.chS x.ch).lockAt.isSome = true → u.rd (R.GN_CH_STAT_HALF x.ch) = 1) ∧
    (2 ≤ x.check → RegsExact [] s u) ∧
    RegsExact [R.GN_CH_STAT_HALF x.ch] s u)

/-- Chapter 07, corrections, antennas, retention and refresh: what each command does, and that it completes. A
correction is kept with its epoch, one with a bad check is counted and logged (R270 to R272); an open or shorted
antenna supply is shown and logged, a shorted one goes off and is retried (R254); the retention record is
written (R275); a refresh in SLEEP starts every 4 h on the time of the real-time counter and ends after 30 s
(R277); the module's position goes to a connected source (R269). What of this is the model's own choice or
reading stands in log entries 7, 28, 90 and 124. -/
def Obligations.AntennasAndCorrectionsComplete : Prop :=
  (∀ (t k : Nat) (m : RtcmIn) (s : State),
    k ≤ 2 → s.gn.on = true → s.isWorker = false → s.rd (R.GN_COR_CFG_TYPE k) ∈ [1, 2] → (s.begin t).corConnected
      k = true → s.rd R.GN_STAT_CORSRC ≠ k → isCorrection m.msg = true → (s.corS k).station.isSome = true →
    ∃ u, exec (.rtcmFrame t k true m) s = .next u ∧
    (u.corS k).epochs = (m.epoch :: (s.corS k).epochs).take 8 ∧
    (u.corS k).station = (s.corS k).station ∧
    RegsExact [] s u) ∧
  (∀ (t k : Nat) (m : RtcmIn) (s : State),
    k ≤ 2 → s.gn.on = true → s.isWorker = false → s.rd (R.GN_COR_CFG_TYPE k) ∈ [1, 2] → (s.begin t).corConnected
      k = true → (s.begin t).mayLog 0x5007 k 10000000000 = true → Room s →
    ∃ u, exec (.rtcmFrame t k false m) s = .next u ∧
    (u.corS k).bad = (s.corS k).bad + 1 ∧
    (u.corS k).epochs = (s.corS k).epochs ∧
    Logged s u 0x5007 [(k : Int), (((s.corS k).bad + 1 : Nat) : Int)] ∧
    RegsKept [] s u) ∧
  (∀ (t k : Nat) (b : Bool) (m : RtcmIn) (f : List Nat) (s : State),
    k ≤ 2 → s.gn.on = true → s.isWorker = false → s.rd (R.GN_COR_CFG_TYPE k) = 3 → (s.corS k).frames = [f] →
    ∃ u, exec (.rtcmFrame t k b m) s = .next u ∧
    (u.corS k).frames = [] ∧
    (rtcmOk f = false → (u.corS k).bad = (s.corS k).bad + 1) ∧
    (rtcmOk f = true → (u.corS k).bad = (s.corS k).bad) ∧
    (isCorrection (rtcmNumber f) = false → (u.corS k).epochs = (s.corS k).epochs)) ∧
  (∀ (t a c : Nat) (s : State),
    a ∈ [1, 2] → s.gn.on = true → s.antBias a ≠ 0 → s.rd (antKey a) = 1 → c < 2 → Room s →
    ∃ u, exec (.gnAntOpen t a c) s = .next u ∧
    u.rd (antKey a) = 2 ∧
    Logged s u 0x5001 [(a : Int), (c : Int)] ∧
    RegsKept [antKey a] s u) ∧
  (∀ (t a : Nat) (s : State),
    a ∈ [1, 2] → s.gn.on = true → s.antBias a ≠ 0 → s.rd (antKey a) ≠ 3 → (s.antS a).trips = 0 → Room s →
    ∃ u, exec (.gnAntShort t a) s = .next u ∧
    u.rd (antKey a) = 3 ∧
    (u.antS a).trips = 1 ∧
    Logged s u 0x5002 [(a : Int), ((s.antS a).retries : Int)] ∧
    RegsKept [antKey a] s u) ∧
  (∀ (t a : Nat) (s : State),
    a ∈ [1, 2] → s.gn.on = true → s.rd (antKey a) = 3 → (s.antS a).offAt + 1000000000 ≤ max s.now t →
    ∃ u, exec (.antRetry t a) s = .next u ∧
    u.rd (antKey a) = 1 ∧
    u.antS a = { s.antS a with retries := (s.antS a).retries + 1, onAt := max s.now t } ∧
    RegsExact [antKey a] s u) ∧
  (∀ (t : Nat) (s : State),
    s.gn.on = true → s.rd R.GN_STAT_SOLN ≠ 0 → s.gn.retainAt + 600000000000 ≤ max s.now t →
    ∃ u, exec (.retentionWrite t) s = .next u ∧
    u.gn.retain.map (fun r => (r.at_, r.ephAt, r.almAt, r.hot)) = some ((s.begin t).harvest, s.gn.ephAt,
      s.gn.almAt, false) ∧
    RegsExact [] s u) ∧
  (∀ (t : Nat) (s : State),
    s.mode = Mode.SLEEP → s.gn.sleepRefresh = true → s.gn.refresh = none → s.gn.refreshFrom + 14400000000000 ≤
      max s.now t → s.rd R.GN_CFG_EN = 1 → s.tb.rtcValid = true →
    ∃ u, exec (.gnssRefresh t) s = .next u ∧
    u.gn.refresh = some (max s.now t) ∧
    u.gn.refreshFrom = s.gn.refreshFrom + 14400000000000 ∧
    u.gn.on = true ∧
    u.harvest = s.tb.rtcHt + ((max s.now t - s.tb.rtcEl : Nat) : Int) ∧
    bitOf (u.rd R.PWR_STAT_PD) 4 = true) ∧
  (∀ (t b : Nat) (s : State),
    s.gn.refresh = some b → b + 30000000000 ≤ max s.now t → Room s →
    ∃ u, exec (.gnRefresh t) s = .next u ∧
    u.gn.refresh = none ∧
    (s.gn.on = true → u.gn.on = false) ∧
    u.tb.rtcEl = max s.now t ∧ u.tb.rtcHt = (s.begin t).harvest ∧
    Logged s u 0x500A [if s.gn.refreshFix = true then 0 else 1]) ∧
  (∀ (t k : Nat) (p : PvtS) (s : State),
    k ≤ 2 → s.gn.on = true → s.isWorker = false → s.rd (R.GN_COR_CFG_SEND_GGA k) = 1 → s.rd (R.GN_COR_CFG_TYPE
      k) = 1 → s.rd (R.GN_COR_CFG_KEEP k) = 1 → s.gn.pvt = some p → (s.corS k).ggaAt.all (fun (a : Nat) => a +
      10000000000 ≤ max s.now t) = true →
    ∃ u, exec (.ggaSend t k) s = .next u ∧
    Sent u .gnss k [p.epoch, p.lat, p.lon, (p.hgt : Int), (p.soln : Int), (p.nsv : Int), (p.age : Int),
      (p.station : Int)] ∧
    RegsExact [] s u)

/-- Chapter 08, the guidance step (R282 to R305): it stores the navigation state, shows NAVQ, HDGSRC and DR_TRAVEL
(Table 8.4) and publishes F27's setpoint block (R290). Steering on a line of type 1 or 2 with GNSS good, it
keeps ENGAGED, takes the errors at the lookahead point against the active pass (R289, R294) and commands the
steered angle (R289), index 0 kept below 0.3 m/s; an active TAKEOVER input disengages it with reason 2 (R305).
What of this is the model's own choice or reading stands in log entries 5, 6 and 53. -/
def Obligations.GuidanceStepsComplete : Prop :=
  (∀ (t : Nat) (nav : NavIn) (s : State),
    s.isWorker = false → s.mode = Mode.FIELD_IDLE ∨ s.mode = Mode.HARVEST → (s.begin t).stepDue = true →
      s.activeLine = none → s.rd R.GD_STAT_STATE < 2 →
    ∃ u, exec (.guidanceStep t nav) s = .next u ∧
    u.gd.nav = some ((s.begin t).navAt nav ((s.begin t).findStep nav).t0 ((s.begin t).findStep nav).hdg
      ((s.begin t).findStep nav).navq) ∧
    u.rd R.GD_STAT_NAVQ = ((s.begin t).findStep nav).navq ∧
    u.rd R.GD_STAT_HDGSRC = ((s.begin t).findStep nav).src ∧
    u.rd R.GD_STAT_DR_TRAVEL = min 0xFFFF (((s.begin t).findStep nav).travel * 10).floor.toNat ∧
    u.rd R.GD_STAT_STATE = 0 ∧
    (if (u.entry 27).index then (u.entry 27).b else (u.entry 27).a).sps = [s.gd.cmd, 0] ∧
    RegsExact [R.GD_STAT_NAVQ, R.GD_STAT_HDGSRC, R.GD_STAT_DR_TRAVEL, R.GD_STAT_STATE, R.FN_SPB_MISSES 27] s u) ∧
  (∀ (t : Nat) (nav : NavIn) (l : LineIn) (s : State),
    s.isWorker = false → s.mode = Mode.FIELD_IDLE ∨ s.mode = Mode.HARVEST → (s.begin t).stepDue = true →
      s.activeLine = some l → l.typ ≠ 3 → s.rd R.GD_STAT_STATE = 2 → s.gd.turn = none → s.gd.turnReq = none →
      s.gd.newLine = false → ((s.begin t).findStep nav).lost = false → (s.begin t).takenOver = false → -(3 / 10) <
      (s.begin t).along ((s.begin t).findStep nav) →
    ∃ u, exec (.guidanceStep t nav) s = .next u ∧
    u.rd R.GD_STAT_STATE = 2 ∧
    u.rd R.GD_STAT_NAVQ = 1 ∧
    u.rd R.GD_STAT_PASS = s.rd R.GD_STAT_PASS ∧
    u.gd.nav = some ((s.begin t).navAt nav ((s.begin t).findStep nav).t0 ((s.begin t).findStep nav).hdg
      ((s.begin t).findStep nav).navq) ∧
    (∀ e, passErr l (toSigned 16 (s.rd R.GD_STAT_PASS)) ((s.begin t).lookPoint ((s.begin t).navAt nav ((s.begin
      t).findStep nav).t0 ((s.begin t).findStep nav).hdg ((s.begin t).findStep nav).navq)) ((s.begin t).navAt nav
      ((s.begin t).findStep nav).t0 ((s.begin t).findStep nav).hdg ((s.begin t).findStep nav).navq).hdg ((s.begin
      t).navAt nav ((s.begin t).findStep nav).t0 ((s.begin t).findStep nav).hdg ((s.begin t).findStep
      nav).navq).hdg = some e → u.rd R.GD_ERR_XTE = toF32 e.1 ∧ u.rd R.GD_ERR_HDG_ERR = toF32 e.2.1 ∧ u.gd.back =
      e.2.2 ∧ u.gd.cmd = (if s.groundSpeed < 3 / 10 then s.gd.cmd else toF32 (s.steer (0 - s.rdF R.GD_GAIN_K_X *
      e.1 - s.rdF R.GD_GAIN_K_H * radOf e.2.1)))) ∧
    (if (u.entry 27).index then (u.entry 27).b else (u.entry 27).a).sps = [u.gd.cmd, 0x3F800000] ∧
    RegsExact [R.GD_STAT_NAVQ, R.GD_STAT_HDGSRC, R.GD_STAT_DR_TRAVEL, R.GD_ERR_XTE, R.GD_ERR_HDG_ERR,
      R.FN_SPB_MISSES 27] s u) ∧
  (∀ (t : Nat) (nav : NavIn) (l : LineIn) (s : State),
    s.isWorker = false → s.mode = Mode.FIELD_IDLE ∨ s.mode = Mode.HARVEST → (s.begin t).stepDue = true →
      s.activeLine = some l → l.typ ≠ 3 → s.rd R.GD_STAT_STATE = 2 → s.gd.turn = none → s.gd.turnReq = none →
      s.gd.newLine = false → (s.begin t).takenOver = true → Room s →
    ∃ u, exec (.guidanceStep t nav) s = .next u ∧
    u.rd R.GD_STAT_REASON = 2 ∧
    u.rd R.GD_STAT_STATE < 2 ∧
    Logged s u 0x5021 [2, (u.rd R.GD_ERR_XTE : Int), (u.rd R.GD_STAT_DR_TRAVEL : Int)] ∧
    Sent u .operator 0x5021 [2] ∧
    (if (u.entry 27).index then (u.entry 27).b else (u.entry 27).a).sps = [u.gd.cmd, 0])

/-- Chapter 08, the requests to guidance: engagement from ARMED is logged and publishes state ENGAGED in F27's
block, and is refused with the first condition that fails otherwise (R297, R298); a turn is accepted while
ENGAGED on a line of type 1 or 2 (R295); a line is loaded, replaces the one of equal LINE_ID, and disengages
guidance with reason 9 when that is active, or is refused with the check it fails (R292); a line is selected, or
refused when the store lacks it (R293; the numbers of the refusals and the direction's coding are log entry 28).
What of this is the model's own choice or reading stands in log entries 28 and 53. -/
def Obligations.GuidanceRequestsComplete : Prop :=
  (∀ (t n : Nat) (tj : Int) (rr : Nat × List Int) (s : State),
    n ≠ 0 → s.ses.open_.any (fun p => p.2.num = n) = true → s.classAtLeast n 1 = true → s.turn n (.engage) =
      true → s.isWorker = false → s.fnUsed 27 = true → s.rd R.GD_STAT_STATE = 1 → s.tunedLoop 27 = none →
      s.interlock 27 = none → s.rd (R.FN_CFG_PATH 27) ≠ 2 → s.pathBlocks 27 = none → s.forwards 27 = true → Room s
      →
    ∃ u, exec (.gdEngage t n tj rr) s = .next u ∧
    u.rd R.GD_STAT_STATE = 2 ∧
    Logged s u 0x5020 [(s.rd R.GD_STAT_LINE_ID : Int), toSigned 16 (s.rd R.GD_STAT_PASS)] ∧
    Sent u (.trunk 0) 0x42 [27] ∧
    Sent u (.session n) Res.OK [] ∧
    (if (u.entry 27).index then (u.entry 27).b else (u.entry 27).a).sps = [s.gd.cmd, 0x3F800000]) ∧
  (∀ (t n : Nat) (tj : Int) (rr : Nat × List Int) (s : State),
    n ≠ 0 → s.ses.open_.any (fun p => p.2.num = n) = true → s.classAtLeast n 1 = true → s.turn n (.engage) =
      true → s.isWorker = false → s.fnMine 27 = true → s.rd R.GD_STAT_STATE = 1 → s.tunedLoop 27 = none →
      s.interlock 27 = none → s.rd (R.FN_CFG_PATH 27) ∈ [1, 3] → s.pathBlocks 27 = none → (s.fnS 27).running =
      false → Room s →
    ∃ u, exec (.gdEngage t n tj rr) s = .next u ∧
    u.rd R.GD_STAT_STATE = 2 ∧
    Logged s u 0x5020 [(s.rd R.GD_STAT_LINE_ID : Int), toSigned 16 (s.rd R.GD_STAT_PASS)] ∧
    (u.fnS 27).restartAt = some ((s.begin t).harvest + 1000000) ∧
    Sent u (.session n) Res.OK [] ∧
    (if (u.entry 27).index then (u.entry 27).b else (u.entry 27).a).sps = [s.gd.cmd, 0x3F800000]) ∧
  (∀ (t n : Nat) (tj : Int) (rr : Nat × List Int) (s : State),
    n ≠ 0 → s.ses.open_.any (fun p => p.2.num = n) = true → s.classAtLeast n 1 = true → s.turn n (.engage) =
      true → s.isWorker = false → s.fnUsed 27 = true → s.rd R.GD_STAT_STATE ≠ 1 → s.rd (R.FN_CFG_PATH 27) ≠ 2 →
      Room s →
    ∃ u, exec (.gdEngage t n tj rr) s = .next u ∧
    Logged s u 0x5024 [((s.begin t).armedFail : Int)] ∧
    Sent u (.session n) 0x5024 [] ∧
    u.gd = s.gd ∧
    RegsKept [] s u) ∧
  (∀ (t n : Nat) (right : Bool) (l : LineIn) (s : State),
    n ≠ 0 → s.ses.open_.any (fun p => p.2.num = n) = true → s.classAtLeast n 1 = true → s.turn n (.turn) = true
      → s.activeLine = some l → l.typ ≠ 3 → bitOf l.flags 0 = false → s.rd R.GD_STAT_STATE = 2 → s.gd.turn = none
      → Room s →
    ∃ u, exec (.turnRequest t n right) s = .next u ∧
    u.gd.turnReq = some (right, toSigned 16 (s.rd R.GD_STAT_PASS) + (if right = s.gd.back then -(l.skip : Int)
      else (l.skip : Int))) ∧
    u.gd.lastRight = some right ∧
    u.rd R.GD_STAT_STATE = 4 ∧
    Logged s u 0x5026 [(bit01 right : Int), toSigned 16 (s.rd R.GD_STAT_PASS) + (if right = s.gd.back then
      -(l.skip : Int) else (l.skip : Int)), 1] ∧
    Sent u (.session n) Res.OK [] ∧
    RegsKept [R.GD_STAT_STATE] s u) ∧
  (∀ (t n : Nat) (right : Bool) (s : State),
    n ≠ 0 → s.ses.open_.any (fun p => p.2.num = n) = true → s.classAtLeast n 1 = true → s.turn n (.turn) = true
      → s.rd R.GD_STAT_STATE ≠ 2 →
    ∃ u, exec (.turnRequest t n right) s = .next u ∧
    u.gd = s.gd ∧
    Sent u (.session n) 0x5026 [] ∧
    RegsKept [] s u) ∧
  (∀ (t n : Nat) (b : List Nat) (s : State),
    n ≠ 0 → s.ses.open_.any (fun p => p.2.num = n) = true → s.svcRefusal n 0x0030 [Cls.SERVICE] = none →
      s.lineFault b = 0 → s.rd R.GD_STAT_LINE_ID ≠ (lineOf b).id →
    ∃ u, exec (.lineLoad t n b) s = .next u ∧
    u.gd.lines = s.gd.lines.filter (fun x => x.id ≠ (lineOf b).id) ++ [lineOf b] ∧
    u.gd.newLine = s.gd.newLine ∧
    Sent u (.session n) Res.OK [] ∧
    RegsExact [] s u) ∧
  (∀ (t n : Nat) (b : List Nat) (s : State),
    n ≠ 0 → s.ses.open_.any (fun p => p.2.num = n) = true → s.svcRefusal n 0x0030 [Cls.SERVICE] = none →
      s.lineFault b = 0 → s.rd R.GD_STAT_LINE_ID = (lineOf b).id → s.gd.lines.any (fun x => x.id = (lineOf b).id)
      = true → 2 ≤ s.rd R.GD_STAT_STATE → Room s →
    ∃ u, exec (.lineLoad t n b) s = .next u ∧
    u.gd.lines = s.gd.lines.filter (fun x => x.id ≠ (lineOf b).id) ++ [lineOf b] ∧
    u.gd.newLine = true ∧
    u.gd.turn = none ∧
    u.rd R.GD_STAT_STATE < 2 ∧
    u.rd R.GD_STAT_REASON = 9 ∧
    Logged s u 0x5021 [9, (s.rd R.GD_ERR_XTE : Int), (s.rd R.GD_STAT_DR_TRAVEL : Int)] ∧
    Sent u .operator 0x5021 [9] ∧
    RegsKept [R.GD_STAT_STATE, R.GD_STAT_REASON] s u) ∧
  (∀ (t n : Nat) (b : List Nat) (s : State),
    n ≠ 0 → s.ses.open_.any (fun p => p.2.num = n) = true → s.svcRefusal n 0x0030 [Cls.SERVICE] = none →
      s.lineFault b ≠ 0 → Room s →
    ∃ u, exec (.lineLoad t n b) s = .next u ∧
    u.gd = s.gd ∧
    Logged s u 0x5025 [((lineOf b).id : Int), (s.lineFault b : Int)] ∧
    Sent u (.session n) 0x5025 [] ∧
    RegsKept [] s u) ∧
  (∀ (t n id : Nat) (l : LineIn) (s : State),
    n ≠ 0 → s.ses.open_.any (fun p => p.2.num = n) = true → s.classAtLeast n 1 = true → s.turn n (.line) = true
      → s.gd.lines.find? (fun x => x.id = id) = some l → l.typ ≠ 3 ∨ s.rd R.GD_CFG_EDGE_EN = 1 →
    ∃ u, exec (.lineSelect t n id) s = .next u ∧
    u.rd R.GD_STAT_LINE_ID = id ∧
    u.gd.newLine = true ∧
    u.gd.turn = none ∧
    u.gd.turnReq = none ∧
    u.rd R.GD_STAT_STATE = (if s.rd R.GD_STAT_STATE = 4 then 2 else s.rd R.GD_STAT_STATE) ∧
    Sent u (.session n) Res.OK [] ∧
    RegsExact [R.GD_STAT_LINE_ID, R.GD_STAT_STATE] s u) ∧
  (∀ (t n id : Nat) (s : State),
    n ≠ 0 → s.ses.open_.any (fun p => p.2.num = n) = true → s.classAtLeast n 1 = true → s.turn n (.line) = true
      → s.gd.lines.find? (fun x => x.id = id) = none → Room s →
    ∃ u, exec (.lineSelect t n id) s = .next u ∧
    u.gd = s.gd ∧
    Logged s u 0x5025 [(id : Int), 6] ∧
    Sent u (.session n) 0x5025 [] ∧
    RegsKept [] s u)

/-- Chapter 08, yield mapping: a flow sample outside mapping stops mapping; mapping, its mass over the interval at
STD_MOIST goes to the cell of its cut second (R310 to R315, in the simplest case: no record to time the delay
by, no cell open); NEW_LOAD closes the load (R317); a ticket entry sets CAL from the tickets unless the change
exceeds 20 %, or is refused with the load at fault (R318); an export carries every cell of its interval (R319;
the interval's ends are the model's choice). What of this is the model's own choice or reading stands in log
entries 28 and 91. -/
def Obligations.YieldComplete : Prop :=
  (∀ (t : Nat) (time : Int) (flow : Nat) (s : State),
    s.flowBound = true → s.mapping = false →
    ∃ u, exec (.ymFlowSample t time flow) s = .next u ∧
    u.ym.lastT = none ∧
    u.rd R.YM_STAT_MAPPING = 0 ∧
    u.ym.cells = s.ym.cells ∧
    RegsExact [R.YM_STAT_MAPPING] s u) ∧
  (∀ (t : Nat) (time last : Int) (flow : Nat) (s : State),
    s.flowBound = true → s.mapping = true → s.ym.lastT = some last → last ≤ time → time - last ≤ 3 *
      (s.flowPeriod : Int) → s.ym.open_ = [] → s.ym.closed = none → s.ym.recs = [] → s.ym.widths = [] → 1000 ≤
      s.rd R.GD_GEOM2_HDR_WIDTH →
    ∃ u, exec (.ymFlowSample t time flow) s = .next u ∧
    u.ym.lastT = some time ∧
    u.rd R.YM_STAT_MAPPING = 1 ∧
    u.ym.open_ =
      [{ sec := (time - s.transportDef) - (time - s.transportDef) % 1000000000, raw := s.stdMass (f32 flow * mkRat (time - last) 1000000000) ((s.begin t).moistAt time).1, wet := f32 flow * mkRat (time - last) 1000000000, wetMoist := f32 flow * mkRat (time - last) 1000000000 * ((s.begin t).moistAt time).1, defdelay := true, moistDef := ((s.begin t).moistAt time).2 }]
      ∧
    RegsKept [R.YM_STAT_MAPPING, R.YM_STAT_NOW] s u) ∧
  (∀ (t n : Nat) (s : State),
    n ≠ 0 → s.ses.open_.any (fun p => p.2.num = n) = true → s.classAtLeast n 1 = true → s.turn n (.newLoad) =
      true →
    ∃ u, exec (.newLoad t n) s = .next u ∧
    u.rd R.YM_STAT_LOAD = (s.rd R.YM_STAT_LOAD + 1) % 65536 ∧
    Sent u .fleet 0x62 [(s.rd R.YM_STAT_LOAD : Int)] ∧
    Sent u (.session n) Res.OK [] ∧
    RegsExact [R.YM_STAT_LOAD] s u) ∧
  (∀ (t n mass moist : Nat) (loads : List Nat) (q : Rat) (s : State),
    n ≠ 0 → s.ses.open_.any (fun p => p.2.num = n) = true → s.classAtLeast n 1 = true → s.turn n (.ticket) =
      true → loads.find? (fun x => s.loadFault x ≠ 0) = none → q = loads.foldl (fun (q : Rat) (x : Nat) => q +
      (look s.ym.loads x).getD 0) 0 → 1000 ≤ q → s.ym.tickets = [] → Room s →
    ∃ u, exec (.ticketEntry t n loads mass moist) s = .next u ∧
    u.ym.tickets = [(q, s.stdMass (f32 mass) (f32 moist))] ∧
    (absQ (s.rdF R.YM_CALS_CAL) / 5 < absQ (divQ (0 + s.stdMass (f32 mass) (f32 moist)) (0 + q) - s.rdF
      R.YM_CALS_CAL) → u.rd R.YM_CALS_CAL = s.rd R.YM_CALS_CAL ∧ u.ym.calNand = s.ym.calNand ∧ Logged s u 0x5044
      [(s.rd R.YM_CALS_CAL : Int), (toF32 (divQ (0 + s.stdMass (f32 mass) (f32 moist)) (0 + q)) : Int)]) ∧
    (¬ absQ (s.rdF R.YM_CALS_CAL) / 5 < absQ (divQ (0 + s.stdMass (f32 mass) (f32 moist)) (0 + q) - s.rdF
      R.YM_CALS_CAL) → u.rd R.YM_CALS_CAL = toF32 (divQ (0 + s.stdMass (f32 mass) (f32 moist)) (0 + q)) ∧
      u.ym.calNand = some (u.rd R.YM_CALS_CAL, s.ymRecords) ∧ Logged s u 0x5043 [(s.rd R.YM_CALS_CAL : Int), (u.rd
      R.YM_CALS_CAL : Int), 1]) ∧
    Sent u (.session n) Res.OK [] ∧
    RegsKept [R.YM_CALS_CAL] s u) ∧
  (∀ (t n mass moist x : Nat) (loads : List Nat) (s : State),
    n ≠ 0 → s.ses.open_.any (fun p => p.2.num = n) = true → s.classAtLeast n 1 = true → s.turn n (.ticket) =
      true → loads.find? (fun x => s.loadFault x ≠ 0) = some x → Room s →
    ∃ u, exec (.ticketEntry t n loads mass moist) s = .next u ∧
    u.ym = s.ym ∧
    Logged s u 0x5045 [(x : Int), (s.loadFault x : Int)] ∧
    Sent u (.session n) 0x5045 [] ∧
    RegsKept [] s u) ∧
  (∀ (t n : Nat) (first last : Int) (s : State),
    n ≠ 0 → s.ses.open_.any (fun p => p.2.num = n) = true → s.svcRefusal n 0x0030 [Cls.SERVICE, Cls.FLEET] =
      none → Room s →
    ∃ u, exec (.taskdataExport t n first last) s = .next u ∧
    Sent u (.session n) Res.OK (s.taskData (s.ym.cells.filter (fun c => first ≤ c.sec && c.sec < last))) ∧
    Logged s u 0x5046 [first, last, ((s.ym.cells.filter (fun c => first ≤ c.sec && c.sec < last)).length : Int)]
      ∧
    u.ym = s.ym ∧
    RegsKept [] s u)

/-- Chapter 09, ingress and links. A frame that starts takes its trigger's number and stamp and the settings due at
it and enters a buffer (R328, R329, R331, R340), is dropped by shedding (R352), for want of a buffer (R332) or
for a link error (R332), each counted and the last two logged; a missed frame is counted, the third in a row
makes the camera missing (R330); a link loses lock with every frame of it discarded (R325), or is trained with
the start-up settings in force and SETTLE frames to come (R324, R325, R338). What of this is the model's own
choice or reading stands in log entries 14, 52, 114 and 126. -/
def Obligations.IngressComplete : Prop :=
  (∀ (t c k : Nat) (trig stamp : Int) (x : FrameIn) (s : State),
    1 ≤ c → c ≤ 16 → (s.begin t).frameIdent c = some (k, trig, stamp) → s.shedNow c = 0 → (s.camS
      c).frames.length < s.rd (R.CAM_CFG_NBUF c) → s.rd (R.CAM_CFG_EMBED c) = 0 →
    ∃ u, exec (.frameStart t c x) s = .next u ∧
    (u.camS c).frames = (s.camS c).frames ++
      [{ fno := k, stamp, trig, total := s.frameUnits c, exp := (s.settingsFor c k).1, gain := (s.settingsFor c k).2, quiet := decide (0 < (s.camS c).settle), startAt := max s.now t, raw := x.lines, bad := x.bad, susp := decide (2 ≤ s.rd R.CORE_PACE_SHED ∧ s.rd (R.CAM_STAT_CLASS c) ≠ 4) }]
      ∧
    (u.camS c).last = k ∧
    (u.camS c).misses = 0 ∧
    (u.camS c).trig = (s.camS c).trig.drop 1 ∧
    (u.camS c).settle = (s.camS c).settle - 1 ∧
    u.rd (R.CAM_STAT_FNO_LOW c) = k % 65536 ∧
    u.rd (R.CAM_LAST_STAMP c) = ofSigned 64 stamp ∧
    u.rd (R.CAM_STAT_ACT c) = 0 ∧
    u.rd (R.CAM_STAT_STATE c) = (if (s.camS c).settle = 0 ∧ s.rd (R.CAM_STAT_STATE c) = 3 then 2 else s.rd
      (R.CAM_STAT_STATE c)) ∧
    RegsKept [R.CAM_STAT_FNO_LOW c, R.CAM_LAST_STAMP c, R.CAM_STAT_ACT c, R.CAM_STAT_STATE c, R.CAM_STAT_RATE c]
      s u) ∧
  (∀ (t c k : Nat) (trig stamp : Int) (x : FrameIn) (s : State),
    1 ≤ c → c ≤ 16 → (s.begin t).frameIdent c = some (k, trig, stamp) → s.shedNow c = 2 →
    ∃ u, exec (.frameStart t c x) s = .next u ∧
    (u.camS c).frames = (s.camS c).frames ∧
    u.rd (R.CAM_CNT_SHED c) = satInc 0xFFFF (s.rd (R.CAM_CNT_SHED c)) ∧
    u.rd (R.CAM_STAT_ACT c) = 2 ∧
    u.rd (R.CAM_STAT_FNO_LOW c) = k % 65536 ∧
    (s.rd (R.CAM_CFG_PAIR c) ≠ 0 → trig ∈ (u.camS c).gone) ∧
    RegsExact [R.CAM_STAT_FNO_LOW c, R.CAM_LAST_STAMP c, R.CAM_STAT_ACT c, R.CAM_CNT_SHED c, R.CAM_STAT_RATE c]
      s u) ∧
  (∀ (t c k : Nat) (trig stamp : Int) (x : FrameIn) (s : State),
    1 ≤ c → c ≤ 16 → (s.begin t).frameIdent c = some (k, trig, stamp) → s.shedNow c = 0 → s.rd (R.CAM_CFG_NBUF
      c) ≤ (s.camS c).frames.length → (s.begin t).mayLog 0x6004 c 1000000000 = true → Room s →
    ∃ u, exec (.frameStart t c x) s = .next u ∧
    (u.camS c).frames = (s.camS c).frames ∧
    u.rd (R.CAM_CNT_RING c) = satInc 0xFFFF (s.rd (R.CAM_CNT_RING c)) ∧
    Logged s u 0x6004 [(c : Int), ((k % 2 ^ 32 : Nat) : Int)]) ∧
  (∀ (t c : Nat) (x : Int × Nat × Nat) (rest : List (Int × Nat × Nat)) (s : State),
    1 ≤ c → c ≤ 16 → (s.camS c).trig = x :: rest → x.2.1 + s.rd (R.CAM_SENS_MIN_PERIOD c) * 10000 + 2000000 ≤
      max s.now t → (s.begin t).mayLog 0x6002 c 1000000000 = true → Room s →
    ∃ u, exec (.camMissed t c) s = .next u ∧
    (u.camS c).trig = rest ∧
    (u.camS c).misses = (s.camS c).misses + 1 ∧
    u.rd (R.CAM_CNT_MISSED c) = satInc 255 (s.rd (R.CAM_CNT_MISSED c)) ∧
    u.rd (R.CAM_STAT_STATE c) = (if (s.camS c).misses = 2 then 4 else s.rd (R.CAM_STAT_STATE c)) ∧
    Logged s u 0x6002 [(c : Int), x.1] ∧
    RegsKept [R.CAM_CNT_MISSED c, R.CAM_STAT_STATE c] s u) ∧
  (∀ (t c : Nat) (s : State),
    1 ≤ c → c ≤ 16 → s.camUsed c = true → (s.camS c).locked = true → Room s →
    ∃ u, exec (.camLink t c) s = .next u ∧
    (u.camS c).locked = false ∧
    (u.camS c).frames = [] ∧
    (u.camS c).tensor = [] ∧
    u.rd (R.CAM_STAT_STATE c) = 4 ∧
    Logged s u 0x6001 [(c : Int), 0, (s.rd (R.CAM_CFG_GEAR c) : Int), (s.rd (R.CAM_TIME_TRIG_LAT c) : Int)] ∧
    RegsKept [R.CAM_STAT_STATE c] s u) ∧
  (∀ (t c lat : Nat) (s : State),
    1 ≤ c → c ≤ 16 → s.camUsed c = true → (s.camS c).locked = false → bitOf (s.rd R.PWR_STAT_PD) 5 = true →
      s.islandOut 4 = false → (s.camS c).tryAt.all (fun (x : Nat) => x + 1000000000 ≤ max s.now t) = true → Room s
      →
    ∃ u, exec (.linkRetrain t c true lat) s = .next u ∧
    (u.camS c).locked = true ∧
    Sent u (.camera c) 0x12 (((look s.cams.script c).getD []).map Int.ofNat) ∧
    (u.camS c).base = (s.rd (R.CAM_EXP_EXP_FIX c), s.rd (R.CAM_EXP_GAIN_FIX c)) ∧
    (u.camS c).flight = [] ∧
    (u.camS c).settle = s.rd (R.CAM_EXP_SETTLE c) ∧
    u.rd (R.CAM_TIME_TRIG_LAT c) = lat ∧
    u.rd (R.CAM_STAT_STATE c) = (if s.rd (R.CAM_EXP_SETTLE c) = 0 then 2 else 3) ∧
    Logged s u 0x6001 [(c : Int), 1, (s.rd (R.CAM_CFG_GEAR c) : Int), (lat : Int)] ∧
    RegsKept [R.CAM_TIME_TRIG_LAT c, R.CAM_STAT_STATE c] s u) ∧
  (∀ (t c lat : Nat) (s : State),
    1 ≤ c → c ≤ 16 → s.camUsed c = true → (s.camS c).locked = false → bitOf (s.rd R.PWR_STAT_PD) 5 = true →
      s.islandOut 4 = false → (s.camS c).tryAt.all (fun (x : Nat) => x + 1000000000 ≤ max s.now t) = true →
    ∃ u, exec (.linkRetrain t c false lat) s = .next u ∧
    (u.camS c).locked = false ∧
    (u.camS c).off = false ∧
    (u.camS c).tryAt = some (max s.now t) ∧
    RegsExact [] s u)

/-- Chapter 09, the ISP cores and vision. A unit stored becomes ready, and an idle core starts it with the crops of
that instant (R334, R335, R337, R342); a unit done gives its core back and with its frame's last one the buffer,
the streams and the proposed setting (R334 to R338, R341; the exposure index of its statistics is a free value,
log entry 52); an abort drops the frame (R345); a setting is written or abandoned (R339); a vision run publishes
its record and releases its input, is dropped when late, and a pair's missing frame is counted for both (R347 to
R349); live writes of a crop and a priority enter the amendment list (R337, R342, R486). What of this is the
model's own choice or reading stands in log entries 28, 52, 122 and 126. -/
def Obligations.CoresAndVisionComplete : Prop :=
  (∀ (t c hi : Nat) (f : CamFrame) (rest : List CamFrame) (s : State),
    (s.camS c).frames = f :: rest → f.ready < f.total → (s.coreS 0).cur.isSome = true → (s.coreS 1).cur.isSome =
      true → s.rd (R.CAM_STAT_STATE c) ≠ 4 ∨ f.ready + 1 ≠ f.total → rest.all (fun x => x.fno ≠ f.fno) = true → hi
      = (s.unitLines c f.ready).2.2.2 → f.startAt + hi * s.rd (R.CAM_SENS_LINE_NS c) ≤ max s.now t → f.bad.filter
      (fun (n : Nat) => n < hi) = [] → hi ≤ f.raw.length → (f.raw.take hi).all (fun (row : List Nat) => row.length
      = s.rd (R.CAM_GEOM_WIDTH c)) = true → f.ready + 1 ≠ f.total ∨ f.raw.length = s.rd (R.CAM_GEOM_HEIGHT c) →
    ∃ u, exec (.unitReady t [c]) s = .next u ∧
    (u.camS c).frames = { f with ready := f.ready + 1, readyAt := f.readyAt ++ [max s.now t] } :: rest ∧
    u.cams.core = s.cams.core ∧
    RegsExact [] s u) ∧
  (∀ (t c hi n : Nat) (f : CamFrame) (s : State),
    (s.camS c).frames = [f] → f.ready < f.total → (s.coreS 0).cur.isSome = true → (s.coreS 1).cur.isSome = true
      → hi = (s.unitLines c f.ready).2.2.2 → f.startAt + hi * s.rd (R.CAM_SENS_LINE_NS c) ≤ max s.now t → n =
      (f.bad.filter (fun (k : Nat) => k < hi)).length → n ≠ 0 → (s.begin t).mayLog 0x6003 c 1000000000 = true →
      Room s →
    ∃ u, exec (.unitReady t [c]) s = .next u ∧
    (u.camS c).frames = [] ∧
    u.rd (R.CAM_CNT_CRC c) = satInc 255 (s.rd (R.CAM_CNT_CRC c)) ∧
    Logged s u 0x6003 [(c : Int), ((f.fno % 2 ^ 32 : Nat) : Int), (n : Int)] ∧
    (s.rd (R.CAM_CFG_PAIR c) ≠ 0 → f.trig ∈ (u.camS c).gone) ∧
    RegsKept [R.CAM_CNT_CRC c] s u) ∧
  (∀ (t c hi : Nat) (f : CamFrame) (s : State),
    1 ≤ c → c ≤ 16 → (s.camS c).frames = [f] → f.ready = 0 → f.done = 0 → 1 < f.total → f.readyAt = [] →
      (s.coreS 0).cur = none → s.cams.cam = [(c, s.camS c)] → (s.coreS 1).cur.map (fun x => decide (x.1 = c)) =
      some false → hi = (s.unitLines c f.ready).2.2.2 → f.startAt + hi * s.rd (R.CAM_SENS_LINE_NS c) ≤ max s.now t
      → f.bad.filter (fun (n : Nat) => n < hi) = [] → hi ≤ f.raw.length → (f.raw.take hi).all (fun (row : List
      Nat) => row.length = s.rd (R.CAM_GEOM_WIDTH c)) = true → f.ready + 1 ≠ f.total ∨ f.raw.length = s.rd
      (R.CAM_GEOM_HEIGHT c) →
    ∃ u, exec (.unitReady t [c]) s = .next u ∧
    (u.coreS 0).cur = some (c, f.fno) ∧
    (u.coreS 0).since = max s.now t ∧
    (u.coreS 0).last = some (c - 1) ∧
    (u.coreS 1).cur = (s.coreS 1).cur ∧
    (u.camS c).frames.map (fun x => (x.fno, x.ready, x.done, x.crops)) = [(f.fno, 1, 0, s.cropsFor c f.trig)] ∧
    u.rd (R.ISP_C_STAT_CAM 0) = c) ∧
  (∀ (t k c n : Nat) (f : CamFrame) (ae : Option (Nat × Nat)) (s : State),
    k < 2 → 1 ≤ c → c ≤ 16 → (s.coreS k).cur = some (c, n) → (s.coreS k).due ≤ max s.now t → (s.camS c).frames =
      [f] → f.fno = n → f.done + 1 < f.total → f.ready = f.done + 1 → s.cams.cam = [(c, s.camS c)] →
    ∃ u, exec (.ispUnitDone t k ae) s = .next u ∧
    (u.coreS k).cur = none ∧
    (u.camS c).frames = [s.processUnit c f] ∧
    (s.processUnit c f).done = f.done + 1 ∧
    u.rd (R.ISP_C_STAT_CAM k) = 0 ∧
    RegsExact [R.ISP_C_STAT_LOAD k, R.ISP_C_STAT_CAM k, R.ISP_C_STAT_SWITCHES k] s u) ∧
  (∀ (t k c n : Nat) (f : CamFrame) (e g : Nat) (s : State),
    k < 2 → 1 ≤ c → c ≤ 16 → (s.coreS k).cur = some (c, n) → (s.coreS k).due ≤ max s.now t → (s.camS c).frames =
      [f] → f.fno = n → f.done + 1 = f.total → f.quiet = false → s.cams.cam = [(c, s.camS c)] → s.rd
      (R.ISP_OUT_DEST c 0) = 1 → s.rd (R.ISP_OUT_DEST c 1) = 2 → s.rd (R.ISP_OUT_DEST c 2) = 0 → s.rd
      (R.ISP_OUT_DEST c 3) = 0 → s.rd (R.CAM_CFG_AE c) = 1 → (s.camS c).flight.length < 4 →
    ∃ u, exec (.ispUnitDone t k (some (e, g))) s = .next u ∧
    (u.coreS k).cur = none ∧
    (u.camS c).frames = [] ∧
    (u.camS c).tensor = (s.camS c).tensor ++
      [{ trig := f.trig, stamp := f.stamp, fno := f.fno, at_ := max s.now t, pic := streamBytes (s.processUnit c f).pic (s.rd (R.ISP_OUT_FMT c 0)) (s.rd (R.ISP_OUT_SCALE c 0)) (f.crops.getD 0 []) }]
      ∧
    look (u.camS c).snap 1 = some (f.stamp, f.fno % 2 ^ 32, f.crops.getD 1 [], streamBytes (s.processUnit c
      f).pic (s.rd (R.ISP_OUT_FMT c 1)) (s.rd (R.ISP_OUT_SCALE c 1)) (f.crops.getD 1 [])) ∧
    (u.camS c).prop = some (min e (s.rd (R.CAM_EXP_EXP_MAX c)), g) ∧
    u.free = s.free + 1 ∧
    RegsExact [R.ISP_C_STAT_LOAD k, R.ISP_C_STAT_CAM k, R.ISP_C_STAT_SWITCHES k, R.CAM_STAT_RATE c] s u) ∧
  (∀ (t k c n : Nat) (f : CamFrame) (s : State),
    k < 2 → 1 ≤ c → c ≤ 16 → (s.coreS k).cur = some (c, n) → (s.camS c).frames = [f] → f.fno = n → s.cams.cam =
      [(c, s.camS c)] → s.rd (R.CAM_CFG_PAIR c) = 0 → (s.begin t).mayLog 0x6010 c 1000000000 = true → Room s →
    ∃ u, exec (.ispAbort t k) s = .next u ∧
    (u.coreS k).cur = none ∧
    (u.camS c).frames = [] ∧
    Logged s u 0x6010 [(k : Int), (c : Int), ((n % 2 ^ 32 : Nat) : Int)] ∧
    RegsKept [R.ISP_C_STAT_LOAD k, R.ISP_C_STAT_CAM k, R.ISP_C_STAT_SWITCHES k] s u) ∧
  (∀ (t c e g : Nat) (s : State),
    (s.camS c).prop = some (e, g) → (s.camS c).locked = true → max s.now t ≤ (s.camS c).startAt + s.rd
      (R.CAM_SENS_WIN_US c) * 1000 →
    ∃ u, exec (.settingWrite t c true) s = .next u ∧
    (u.camS c).flight = (s.camS c).flight ++ [((s.camS c).last, e, g)] ∧
    (u.camS c).prop = none ∧
    Sent u (.camera c) 0x11 [(e : Int), (g : Int)] ∧
    RegsExact [] s u) ∧
  (∀ (t c : Nat) (s : State),
    ∃ u, exec (.settingWrite t c false) s = .next u ∧
    u.cams = s.cams ∧
    RegsExact [] s u) ∧
  (∀ (t c d : Nat) (vs : List Nat) (x : TensorS) (s : State),
    1 ≤ c → c ≤ 16 → s.nextRun c = some (d, x) → d = c → s.rd (R.CAM_CFG_PAIR c) = 0 → (s.begin t).runLate c x
      (s.paced (netTime (s.netOf c))) = false →
    ∃ u, exec (.visionRun t c vs) s = .next u ∧
    look u.cams.vis (s.netOf c) = some { stamp := x.stamp, fno := x.fno % 2 ^ 32, cam := c, values := vs } ∧
    (u.camS c).tensor = (s.camS c).tensor.filter (fun y => y.trig ≠ x.trig) ∧
    (s.isWorker = true → Sent u (.trunk 0) 0x47 ([x.stamp, ((x.fno % 2 ^ 32 : Nat) : Int), (c : Int), (s.netOf c
      : Int), (vs.length : Int)] ++ vs.map Int.ofNat)) ∧
    RegsExact [] s u) ∧
  (∀ (t c d : Nat) (x : TensorS) (s : State),
    1 ≤ c → c ≤ 16 → s.nextRun c = some (d, x) → d = c → s.rd (R.CAM_CFG_PAIR c) = 0 → (s.begin t).runLate c x 0
      = true → (s.begin t).mayLog 0x6020 c 1000000000 = true → Room s →
    ∃ u, exec (.visDrop t c) s = .next u ∧
    (u.camS c).tensor = (s.camS c).tensor.filter (fun y => y.trig ≠ x.trig) ∧
    u.cams.vis = s.cams.vis ∧
    Logged s u 0x6020 [(c : Int), (s.netOf c : Int), x.stamp] ∧
    RegsKept [] s u) ∧
  (∀ (t c p : Nat) (g : Int) (rest : List Int) (s : State),
    p = s.rd (R.CAM_CFG_PAIR c) → p ≠ 0 → c ≤ 16 → p ≤ 16 → p ≠ c → (s.camS c).gone = g :: rest → (s.begin
      t).mayLog 0x6021 c 1000000000 = true → Room s →
    ∃ u, exec (.visPair t c) s = .next u ∧
    u.rd (R.CAM_CNT_PAIRMISS c) = satInc 255 (s.rd (R.CAM_CNT_PAIRMISS c)) ∧
    u.rd (R.CAM_CNT_PAIRMISS p) = satInc 255 (s.rd (R.CAM_CNT_PAIRMISS p)) ∧
    (u.camS c).gone = (s.camS c).gone.filter (· ≠ g) ∧
    (u.camS p).tensor = (s.camS p).tensor.filter (fun x => x.trig ≠ g) ∧
    Logged s u 0x6021 [((min c p : Nat) : Int), ((s.tensorOf p g).map (fun x => x.stamp)).getD (g + s.rd
      (R.CAM_TIME_TRIG_LAT (min c p))), (c : Int)] ∧
    RegsKept [R.CAM_CNT_PAIRMISS c, R.CAM_CNT_PAIRMISS p] s u) ∧
  (∀ (t n c o v : Nat) (s : State),
    n ≠ 0 → s.ses.open_.any (fun p => p.2.num = n) = true → s.turn n (.live (cropKey c o 0)) = true → s.mayLive
      n (cropKey c o 0) = true → 1 ≤ c → c ≤ 16 → o < 4 → s.served = true → s.rd (R.CAM_CFG_PAIR c) = 0 →
      s.cropRefusal c o 0 v = 0 → s.amend.length < 256 →
    ∃ u, exec (.cropWrite t n c o 0 v) s = .next u ∧
    u.rd (R.ISP_OUT_CROP_X0 c o) = v ∧
    ({ unit := s.role.unit, kind := 1, key := R.ISP_OUT_CROP_X0 c o, value := v } : AmendS) ∈ u.amend ∧
    Sent u (.session n) Res.OK [] ∧
    RegsExact [R.ISP_OUT_CROP_X0 c o, R.HMP_LIST_ENTRIES] s u) ∧
  (∀ (t n c o f v : Nat) (s : State),
    n ≠ 0 → s.ses.open_.any (fun p => p.2.num = n) = true → s.turn n (.live (cropKey c o f)) = true → s.mayLive
      n (cropKey c o f) = true → 1 ≤ c → c ≤ 16 → o < 4 → f < 4 → s.served = true → s.cropRefusal c o f v ≠ 0 →
      (s.begin t).mayLog 0x6006 c 1000000000 = true → Room s →
    ∃ u, exec (.cropWrite t n c o f v) s = .next u ∧
    u.amend = s.amend ∧
    Sent u (.session n) Res.VALUE [] ∧
    Logged s u 0x6006 [(c : Int), (o : Int), (s.cropRefusal c o f v : Int)] ∧
    RegsKept [] s u) ∧
  (∀ (t n c v : Nat) (s : State),
    n ≠ 0 → s.ses.open_.any (fun p => p.2.num = n) = true → s.turn n (.live (R.ISP_ARB_PRIO c)) = true →
      s.mayLive n (R.ISP_ARB_PRIO c) = true → 1 ≤ c → c ≤ 16 → s.served = true → v ≤ 15 → s.amend.length < 256 →
    ∃ u, exec (.ispPrioWrite t n c v) s = .next u ∧
    u.rd (R.ISP_ARB_PRIO c) = v ∧
    ({ unit := s.role.unit, kind := 1, key := R.ISP_ARB_PRIO c, value := v } : AmendS) ∈ u.amend ∧
    u.cams = s.cams ∧
    Sent u (.session n) Res.OK [] ∧
    RegsExact [R.ISP_ARB_PRIO c, R.HMP_LIST_ENTRIES] s u) ∧
  (∀ (t n c v : Nat) (s : State),
    n ≠ 0 → s.ses.open_.any (fun p => p.2.num = n) = true → s.turn n (.live (R.ISP_ARB_PRIO c)) = true →
      s.mayLive n (R.ISP_ARB_PRIO c) = true → 1 ≤ c → c ≤ 16 → s.served = true → 15 < v →
    ∃ u, exec (.ispPrioWrite t n c v) s = .next u ∧
    Sent u (.session n) Res.VALUE [] ∧
    u.amend = s.amend ∧
    RegsExact [] s u)

/-- Chapter 10, commands: a target is clamped to 4,000 mA and derated (R357, R375), a target of 0 turns the channel
off by its DECAY (R358), a command of the wrong kind is refused (R357, R358); a profile with BOOST starts its
boost period when the bank is free and the rail at 44 V, waits in the bank's queue within WAIT_LIM and is
refused beyond it (R364 to R366, R368), and one without goes straight to hold; PROFILE_OFF ends it (R363, R369);
the rail's return serves the waiting head and logs its wait (R365, R368). What of this is the model's own choice
or reading stands in log entries 5, 28, 31, 64 and 127. -/
def Obligations.TargetsAndProfilesComplete : Prop :=
  (∀ (t ch profile src : Nat) (ma : Int) (s : State),
    1 ≤ ch → ch ≤ 32 → s.rd (R.VD_CFG_KIND ch) = 1 → src = 2 → profile = 0 → (s.valve ch).latch = 0 → (s.valve
      ch).tripped = none → 0 < ma → (s.bankS (bankOf ch)).queue = [] → s.rd (R.VD_B_BOOSTWAIT_OWNER (bankOf ch)) =
      0 →
    ∃ u, exec (.propTarget t ch ma profile src false) s = .next u ∧
    u.rd (R.VD_NOW_I_TGT ch) = s.derate ch (min 4000 ma.toNat) ∧
    u.rd (R.VD_STAT_PHASE ch) = 6 ∧
    u.rd (R.VD_STAT_RST ch) = 0 ∧
    (u.valve ch).cmd = min 4000 ma.toNat ∧
    (u.valve ch).phaseAt = max s.now t ∧
    u.ls.cmdSince = true ∧
    RegsKept [R.VD_NOW_I_TGT ch, R.VD_STAT_PHASE ch, R.VD_STAT_RST ch] s u) ∧
  (∀ (t ch profile src : Nat) (ma : Int) (s : State),
    1 ≤ ch → ch ≤ 32 → s.rd (R.VD_CFG_KIND ch) = 1 → src ≠ 2 → src ≠ 3 → (s.valve ch).latch = 0 → (s.valve
      ch).tripped = none → ma ≤ 0 → s.phase ch = 6 → (s.bankS (bankOf ch)).queue = [] → s.rd
      (R.VD_B_BOOSTWAIT_OWNER (bankOf ch)) = 0 →
    ∃ u, exec (.propTarget t ch ma profile src false) s = .next u ∧
    u.rd (R.VD_NOW_I_TGT ch) = 0 ∧
    u.rd (R.VD_STAT_PHASE ch) = 5 ∧
    (u.valve ch).fastOff = s.flag (R.VD_CFG_DECAY ch) ∧
    RegsKept [R.VD_NOW_I_TGT ch, R.VD_STAT_PHASE ch, R.VD_STAT_RST ch] s u) ∧
  (∀ (t ch profile src : Nat) (ma : Int) (hold : Bool) (s : State),
    1 ≤ ch → ch ≤ 32 → s.rd (R.VD_CFG_KIND ch) ≠ 1 ∨ src = 2 ∧ profile ≠ 0 → s.rd (R.VD_CFG_KIND ch) ≠ 2 ∨ src ≠
      3 → s.ls.dead = false → Room s →
    ∃ u, exec (.propTarget t ch ma profile src hold) s = .next u ∧
    u.vd = s.vd ∧
    Logged s u 0x700D [(ch : Int), (src : Int)] ∧
    RegsKept [] s u) ∧
  (∀ (t ch p src rail : Nat) (cur : Nat) (s : State),
    1 ≤ ch → ch ≤ 32 → p ≤ 14 → s.rd (R.VD_CFG_KIND ch) = 2 → src ≠ 1 → (s.valve ch).latch = 0 → (s.valve
      ch).tripped = none → s.rd (R.VD_PRF_A_BOOST p) = 1 → (s.bankS (bankOf ch)).prior.all (fun (p : BoostPrior)
      => s.ownsBank p.req.ch = false || (s.valve p.req.ch).t0 ≠ max s.now t) = true → 440 ≤ rail → (s.bankS
      (bankOf ch)).queue = [] → s.rd (R.VD_B_BOOSTWAIT_OWNER (bankOf ch)) = 0 →
    ∃ u, exec (.profileStart t ch p cur src rail) s = .next u ∧
    u.rd (R.VD_STAT_PHASE ch) = 2 ∧
    u.rd (R.VD_NOW_I_TGT ch) = s.rd (R.VD_PRF_A_I_PEAK p) ∧
    u.rd (R.VD_B_BOOSTWAIT_OWNER (bankOf ch)) = ch - (bankOf ch - 1) * 4 ∧
    (u.valve ch).prf = p ∧
    (u.valve ch).holdI = (if cur = 0 then s.rd (R.VD_PRF_A_I_HOLD p) else cur) ∧
    (u.valve ch).t0 = max s.now t ∧
    (u.valve ch).checked = decide (s.rd (R.VD_NOW_I_MEAS ch) * 10 < s.rd (R.VD_PRF_A_I_PEAK p)) ∧
    RegsKept [R.VD_NOW_I_TGT ch, R.VD_STAT_PHASE ch, R.VD_STAT_RST ch, R.VD_B_BOOSTWAIT_OWNER (bankOf ch),
      R.VD_B_BOOSTWAIT_QUEUE (bankOf ch)] s u) ∧
  (∀ (t ch p src rail : Nat) (cur : Nat) (s : State),
    1 ≤ ch → ch ≤ 32 → p ≤ 14 → s.rd (R.VD_CFG_KIND ch) = 2 → src ≠ 1 → (s.valve ch).latch = 0 → (s.valve
      ch).tripped = none → s.rd (R.VD_PRF_A_BOOST p) = 0 → (s.bankS (bankOf ch)).queue = [] → s.rd
      (R.VD_B_BOOSTWAIT_OWNER (bankOf ch)) = 0 →
    ∃ u, exec (.profileStart t ch p cur src rail) s = .next u ∧
    u.rd (R.VD_STAT_PHASE ch) = 4 ∧
    u.rd (R.VD_NOW_I_TGT ch) = s.derate ch (if cur = 0 then s.rd (R.VD_PRF_A_I_HOLD p) else cur) ∧
    (u.valve ch).prf = p ∧
    RegsKept [R.VD_NOW_I_TGT ch, R.VD_STAT_PHASE ch, R.VD_STAT_RST ch] s u) ∧
  (∀ (t ch p src rail : Nat) (cur : Nat) (s : State),
    1 ≤ ch → ch ≤ 32 → p ≤ 14 → s.rd (R.VD_CFG_KIND ch) = 2 → src ≠ 1 → (s.valve ch).latch = 0 → (s.valve
      ch).tripped = none → s.rd (R.VD_PRF_A_BOOST p) = 1 → (s.bankS (bankOf ch)).prior.all (fun (p : BoostPrior)
      => s.ownsBank p.req.ch = false || (s.valve p.req.ch).t0 ≠ max s.now t) = true → 440 ≤ rail → (s.bankS
      (bankOf ch)).queue = [] → s.rd (R.VD_B_BOOSTWAIT_OWNER (bankOf ch)) ≠ 0 → s.ownsBank ch = false → (s.begin
      t).worstWait (bankOf ch) ≤ s.rd (R.VD_B_CFG_WAIT_LIM (bankOf ch)) * 10000 →
    ∃ u, exec (.profileStart t ch p cur src rail) s = .next u ∧
    u.rd (R.VD_STAT_PHASE ch) = 1 ∧
    (u.valve ch).before = s.phase ch ∧
    (u.bankS (bankOf ch)).queue =
      [{ ch, prf := p, hold := if cur = 0 then s.rd (R.VD_PRF_A_I_HOLD p) else cur, since := max s.now t, key := (s.begin t).boostKey ch src }]
      ∧
    u.rd (R.VD_B_BOOSTWAIT_QUEUE (bankOf ch)) = 1 ∧
    RegsKept [R.VD_STAT_PHASE ch, R.VD_STAT_RST ch, R.VD_B_BOOSTWAIT_QUEUE (bankOf ch)] s u) ∧
  (∀ (t ch p src rail : Nat) (cur : Nat) (s : State),
    1 ≤ ch → ch ≤ 32 → p ≤ 14 → s.rd (R.VD_CFG_KIND ch) = 2 → src ≠ 1 → (s.valve ch).latch = 0 → (s.valve
      ch).tripped = none → s.rd (R.VD_PRF_A_BOOST p) = 1 → (s.bankS (bankOf ch)).prior.all (fun (p : BoostPrior)
      => s.ownsBank p.req.ch = false || (s.valve p.req.ch).t0 ≠ max s.now t) = true → (s.bankS (bankOf ch)).queue
      = [] → s.rd (R.VD_B_BOOSTWAIT_OWNER (bankOf ch)) ≠ 0 → s.ownsBank ch = false → s.rd (R.VD_B_CFG_WAIT_LIM
      (bankOf ch)) * 10000 < (s.begin t).worstWait (bankOf ch) → s.ls.dead = false → Room s →
    ∃ u, exec (.profileStart t ch p cur src rail) s = .next u ∧
    u.rd (R.VD_STAT_PHASE ch) = s.rd (R.VD_STAT_PHASE ch) ∧
    u.rd (R.VD_B_BOOSTWAIT_REFUSED (bankOf ch)) = satInc 0xFFFF (s.rd (R.VD_B_BOOSTWAIT_REFUSED (bankOf ch))) ∧
    Logged s u 0x7001 [(ch : Int), (bankOf ch : Int), (((s.begin t).worstWait (bankOf ch) / 1000 : Nat) : Int)]
      ∧
    RegsKept [R.VD_STAT_RST ch, R.VD_B_BOOSTWAIT_REFUSED (bankOf ch)] s u) ∧
  (∀ (t ch src rail : Nat) (s : State),
    1 ≤ ch → ch ≤ 32 → s.rd (R.VD_CFG_KIND ch) = 2 → src = 0 ∨ src = 2 ∨ src = 3 → (s.valve ch).latch = 0 →
      (s.valve ch).tripped = none → s.phase ch = 4 → (s.bankS (bankOf ch)).queue = [] → s.rd
      (R.VD_B_BOOSTWAIT_OWNER (bankOf ch)) = 0 →
    ∃ u, exec (.profileOff t ch src rail) s = .next u ∧
    u.rd (R.VD_STAT_PHASE ch) = 5 ∧
    u.rd (R.VD_NOW_I_TGT ch) = 0 ∧
    (u.valve ch).fastOff = (decide (src = 3) || s.flag (R.VD_PRF_A_DECAY (s.valve ch).prf)) ∧
    RegsKept [R.VD_NOW_I_TGT ch, R.VD_STAT_PHASE ch, R.VD_STAT_RST ch] s u) ∧
  (∀ (t rail : Nat) (r : BoostReq) (s : State),
    440 ≤ rail → s.bankS 1 = {} → s.bankS 3 = {} → s.bankS 4 = {} → s.rd (R.VD_B_BOOSTWAIT_OWNER 2) = 0 →
      (s.bankS 2).queue = [r] → 5 ≤ r.ch → r.ch ≤ 8 → r.prf ≤ 14 → s.ls.dead = false → Room s →
    ∃ u, exec (.boostRailReady t 1 rail) s = .next u ∧
    u.rd (R.VD_STAT_PHASE r.ch) = 2 ∧
    u.rd (R.VD_B_BOOSTWAIT_OWNER 2) = r.ch - 4 ∧
    u.rd (R.VD_B_BOOSTWAIT_QUEUE 2) = 0 ∧
    u.rd (R.VD_B_BOOSTWAIT_WAITS 2) = satInc 0xFFFF (s.rd (R.VD_B_BOOSTWAIT_WAITS 2)) ∧
    u.rd (R.VD_B_BOOSTWAIT_WAIT_MAX 2) = max (s.rd (R.VD_B_BOOSTWAIT_WAIT_MAX 2)) (min ((max s.now t - r.since)
      / 1000) 0xFFFF) ∧
    Logged s u 0x7002 [(r.ch : Int), (((max s.now t - r.since) / 1000 : Nat) : Int)])

/-- Chapter 10, a profile's phases: the peak ends boost and gives TTP, judged when checked (R363, R371), or
T_BOOST_MAX does (R371); the peak's end enters hold at I_HOLD and frees the bank (R363, R365); HOLD_T and the
off phase end (R363); a carrier period measures the mean, saturates above 95 % and is ordered with the dither
(R360, R361); SAT of 100 ms is logged (R361); a step of the coil model moves the two nodes of a channel that is
off (R372; the other cases are in the model). What of this is the model's own choice or reading stands in log
entries 5, 65 and 127. -/
def Obligations.ValvePhasesComplete : Prop :=
  (∀ (t ch : Nat) (s : State),
    1 ≤ ch → ch ≤ 32 → s.phase ch = 2 → (s.valve ch).checked = false →
    ∃ u, exec (.peakReached t ch true) s = .next u ∧
    u.rd (R.VD_STAT_PHASE ch) = 3 ∧
    u.rd (R.VD_STAT_TTP ch) = min ((max s.now t - (s.valve ch).t0 + 50) / 100) 0xFFFF ∧
    (u.valve ch).phaseAt = max s.now t ∧
    RegsExact [R.VD_STAT_PHASE ch, R.VD_STAT_TTP ch] s u) ∧
  (∀ (t ch : Nat) (s : State),
    1 ≤ ch → ch ≤ 32 → (s.valve ch).prf ≤ 14 → s.phase ch = 2 → (s.valve ch).checked = true → (max s.now t -
      (s.valve ch).t0 + 50) / 100 < s.rd (R.VD_PRF_B_TP_MIN (s.valve ch).prf) → s.ls.dead = false → (s.begin
      t).mayLog 0x7003 ch 1000000000 = true → Room s →
    ∃ u, exec (.peakReached t ch true) s = .next u ∧
    u.rd (R.VD_STAT_PHASE ch) = 3 ∧
    Logged s u 0x7003 [(ch : Int), ((s.valve ch).prf : Int), (((max s.now t - (s.valve ch).t0 + 50) / 100 : Nat)
      : Int)]) ∧
  (∀ (t ch : Nat) (s : State),
    1 ≤ ch → ch ≤ 32 → (s.valve ch).prf ≤ 14 → s.phase ch = 2 → (s.valve ch).checked = true → (s.valve ch).t0 +
      s.rd (R.VD_PRF_A_T_BOOST_MAX (s.valve ch).prf) * 1000 ≤ max s.now t → s.ls.dead = false → (s.begin t).mayLog
      0x7004 ch 1000000000 = true → Room s →
    ∃ u, exec (.peakReached t ch false) s = .next u ∧
    u.rd (R.VD_STAT_PHASE ch) = 3 ∧
    Logged s u 0x7004 [(ch : Int), ((s.valve ch).prf : Int), 0xFFFF] ∧
    RegsKept [R.VD_STAT_PHASE ch] s u) ∧
  (∀ (t ch rail : Nat) (s : State),
    1 ≤ ch → ch ≤ 32 → (s.valve ch).prf ≤ 14 → s.phase ch = 3 → (s.valve ch).phaseAt + s.rd (R.VD_PRF_A_T_PEAK
      (s.valve ch).prf) * 1000 ≤ max s.now t → (s.bankS (bankOf ch)).queue = [] →
    ∃ u, exec (.peakEnd t ch rail) s = .next u ∧
    u.rd (R.VD_STAT_PHASE ch) = 4 ∧
    u.rd (R.VD_NOW_I_TGT ch) = s.derate ch (s.valve ch).holdI ∧
    (s.ownsBank ch = true → u.rd (R.VD_B_BOOSTWAIT_OWNER (bankOf ch)) = 0) ∧
    RegsExact [R.VD_STAT_PHASE ch, R.VD_NOW_I_TGT ch, R.VD_B_BOOSTWAIT_OWNER (bankOf ch), R.VD_B_BOOSTWAIT_QUEUE
      (bankOf ch)] s u) ∧
  (∀ (t ch : Nat) (s : State),
    1 ≤ ch → ch ≤ 32 → (s.valve ch).prf ≤ 14 → s.phase ch = 4 → s.rd (R.VD_PRF_B_HOLD_T (s.valve ch).prf) ≠ 0 →
      (s.valve ch).phaseAt + s.rd (R.VD_PRF_B_HOLD_T (s.valve ch).prf) * 1000000 ≤ max s.now t → s.ownsBank ch =
      false →
    ∃ u, exec (.holdEnd t ch) s = .next u ∧
    u.rd (R.VD_STAT_PHASE ch) = 5 ∧
    u.rd (R.VD_NOW_I_TGT ch) = 0 ∧
    (u.valve ch).fastOff = s.flag (R.VD_PRF_A_DECAY (s.valve ch).prf)) ∧
  (∀ (t ch cur : Nat) (s : State),
    1 ≤ ch → ch ≤ 32 → s.phase ch = 5 → cur < 20 →
    ∃ u, exec (.offDone t ch cur) s = .next u ∧
    u.rd (R.VD_STAT_PHASE ch) = 0 ∧
    u.rd (R.VD_NOW_I_MEAS ch) = cur ∧
    RegsExact [R.VD_STAT_PHASE ch, R.VD_NOW_I_MEAS ch] s u) ∧
  (∀ (t ch mean need : Nat) (s : State),
    1 ≤ ch → ch ≤ 32 → s.phase ch = 6 ∨ s.phase ch = 4 → (s.valve ch).ramp = none → s.zeroTest ch = none →
      (s.valve ch).period ≠ some ((s.begin t).carrierNo ch) →
    ∃ u, exec (.carrierPeriod t ch mean need) s = .next u ∧
    u.rd (R.VD_NOW_I_MEAS ch) = min 0xFFFF mean ∧
    u.rd (R.VD_STAT_SAT ch) = bit01 (decide (950 < need)) ∧
    Sent u (.valve ch) 0x10 [roundInt (clampQ 0 4000000 (((s.rd (R.VD_NOW_I_TGT ch) * 1000 : Nat) : Rat) +
      (s.begin t).dither ch)), ((if 950 < need then 1000 else need : Nat) : Int), (s.begin t).carrierStart ch
      ((s.begin t).carrierNo ch)] ∧
    RegsExact [R.VD_NOW_I_MEAS ch, R.VD_STAT_SAT ch] s u) ∧
  (∀ (t ch : Nat) (s : State),
    1 ≤ ch → ch ≤ 32 → s.rd (R.VD_STAT_SAT ch) = 1 → (s.valve ch).satAt + 100000000 ≤ max s.now t → s.ls.dead =
      false → (s.begin t).mayLog 0x700B ch 10000000000 = true → Room s →
    ∃ u, exec (.vdSat t ch) s = .next u ∧
    u.vd = s.vd ∧
    Logged s u 0x700B [(ch : Int), (s.rd (R.VD_NOW_I_TGT ch) : Int)] ∧
    RegsKept [] s u) ∧
  (∀ (t ch : Nat) (tmod : Int) (s : State),
    1 ≤ ch → ch ≤ 32 → valveChannels.all (fun c => c = ch || s.rd (R.VD_CFG_KIND c) = 0) = true → s.rd
      (R.VD_CFG_KIND ch) ≠ 0 → s.phase ch = 0 → s.rd (R.VD_STAT_FIRST ch) = 0 → (s.valve ch).hot = false →
      (s.valve ch).latch = 0 → s.rd (R.VD_STAT_DERATED ch) = 0 → s.vd.coilAt.all (fun (x : Nat) => x + 10000000 ≤
      max s.now t) = true → (coilNodes (s.valve ch).tw (s.valve ch).tb 0 (mkRat tmod 10) ((s.rd
      (R.VD_THERM_RES_REF ch) : Rat) / 1000) (s.rd (R.VD_THERM_TAU_W ch)) (s.rd (R.VD_THERM_TAU_B ch)) ((s.rd
      (R.VD_THERM_RTH_WB ch) : Rat) / 10) ((s.rd (R.VD_THERM_RTH_BA ch) : Rat) / 10) none).1 < (s.rd
      (R.VD_THERM2_T_WARN ch) : Rat) → (s.rd (R.VD_THERM2_T_WARN ch) : Rat) ≤ (s.rd (R.VD_THERM2_T_MAX ch) : Rat)
      →
    ∃ u, exec (.coilModelStep t tmod []) s = .next u ∧
    ((u.valve ch).tw, (u.valve ch).tb) = coilNodes (s.valve ch).tw (s.valve ch).tb 0 (mkRat tmod 10) ((s.rd
      (R.VD_THERM_RES_REF ch) : Rat) / 1000) (s.rd (R.VD_THERM_TAU_W ch)) (s.rd (R.VD_THERM_TAU_B ch)) ((s.rd
      (R.VD_THERM_RTH_WB ch) : Rat) / 10) ((s.rd (R.VD_THERM_RTH_BA ch) : Rat) / 10) none ∧
    u.rd (R.VD_NOW_TW ch) = ofSigned 16 (roundInt ((u.valve ch).tw * 10)) ∧
    u.rd (R.VD_STAT_DERATED ch) = 0 ∧
    RegsExact [R.VD_NOW_TW ch] s u)

/-- Chapter 10, faults (Table 10.7): an open load turns the channel off, a short trips it and a second one latches
it, the retry after 10 ms carries the last command out again; a short to ground and an over-current latch the
whole bank with its high side off (R376 to R378; the channel an over-current is laid to is log entry 33); after
250 ms a channel with RESET HOLD is released (R379). What of this is the model's own choice or reading stands in
log entries 14, 33 and 60. -/
def Obligations.ValveFaultsComplete : Prop :=
  (∀ (t ch cur x : Nat) (s : State),
    1 ≤ ch → ch ≤ 32 → (s.valve ch).lowAt = some x → x + 50000000 ≤ max s.now t → s.phase ch = 4 ∨ s.phase ch =
      6 → 100 ≤ s.rd (R.VD_NOW_I_TGT ch) → s.rd (R.VD_STAT_SAT ch) = 1 → cur * 5 < s.rd (R.VD_NOW_I_TGT ch) →
      s.fnOfChannel 1 ch = none → s.ownsBank ch = false → s.ls.dead = false → Room s →
    ∃ u, exec (.vdOpen t ch cur) s = .next u ∧
    u.rd (R.VD_STAT_FAULT ch) = 1 ∧
    u.rd (R.VD_STAT_PHASE ch) = 5 ∧
    u.rd (R.VD_NOW_I_TGT ch) = 0 ∧
    (u.valve ch).fastOff = true ∧
    Logged s u 0x7005 [(ch : Int), (s.rd (R.VD_NOW_I_TGT ch) : Int), (cur : Int)]) ∧
  (∀ (t ch cur : Nat) (s : State),
    1 ≤ ch → ch ≤ 32 → 15000 < cur → (s.valve ch).latch = 0 → (s.valve ch).tripped = none → (s.valve ch).trips =
      0 → s.ownsBank ch = false → s.ls.dead = false → Room s →
    ∃ u, exec (.vdShort t ch cur) s = .next u ∧
    (u.valve ch).trips = 1 ∧
    (u.valve ch).tripped = some (s.resumePhase ch) ∧
    u.rd (R.VD_STAT_FAULT ch) = 2 ∧
    u.rd (R.VD_STAT_PHASE ch) = 0 ∧
    Logged s u 0x7006 [(ch : Int), 0]) ∧
  (∀ (t ch cur : Nat) (s : State),
    1 ≤ ch → ch ≤ 32 → 15000 < cur → (s.valve ch).latch = 0 → (s.valve ch).tripped = none → 1 ≤ (s.valve
      ch).trips → s.fnOfChannel 1 ch = none → s.ownsBank ch = false → s.ls.dead = false → Room s →
    ∃ u, exec (.vdShort t ch cur) s = .next u ∧
    (u.valve ch).latch = 2 ∧
    u.rd (R.VD_STAT_FAULT ch) = 2 ∧
    u.rd (R.VD_STAT_PHASE ch) = 7 ∧
    u.rd (R.VD_NOW_I_TGT ch) = 0 ∧
    Logged s u 0x7006 [(ch : Int), 1]) ∧
  (∀ (t ch p : Nat) (s : State),
    1 ≤ ch → ch ≤ 32 → (s.valve ch).tripped = some p → p = 4 ∨ p = 6 → (s.valve ch).latchAt + 10000000 ≤ max
      s.now t →
    ∃ u, exec (.vdShortRetry t ch) s = .next u ∧
    (u.valve ch).tripped = none ∧
    u.rd (R.VD_STAT_FAULT ch) = 0 ∧
    u.rd (R.VD_STAT_PHASE ch) = p ∧
    u.rd (R.VD_NOW_I_TGT ch) = s.derate ch (s.valve ch).cmd ∧
    RegsExact [R.VD_STAT_FAULT ch, R.VD_STAT_PHASE ch, R.VD_NOW_I_TGT ch] s u) ∧
  (∀ (t ch cur above : Nat) (s : State),
    1 ≤ ch → ch ≤ 32 → 200 < cur → 1000000 ≤ above → s.phase ch = 0 → (s.bankS (bankOf ch)).hsOff = false →
      s.ls.dead = false → Room s →
    ∃ u, exec (.vdShortGnd t ch cur above) s = .next u ∧
    (u.bankS (bankOf ch)).hsOff = true ∧
    (u.bankS (bankOf ch)).holder = some ch ∧
    u.rd (R.VD_STAT_FAULT ch) = 3 ∧
    (∀ c ∈ valveChannels, bankOf c = bankOf ch → (u.valve c).latch = 3 ∧ u.rd (R.VD_STAT_PHASE c) = 7) ∧
    Logged s u 0x7007 [(bankOf ch : Int), (ch : Int)]) ∧
  (∀ (t b cur : Nat) (s : State),
    1 ≤ b → b ≤ 8 → 30000 < cur → (s.bankS b).hsOff = false → s.ls.dead = false → Room s →
    ∃ u, exec (.vdBankOc t b cur) s = .next u ∧
    (u.bankS b).hsOff = true ∧
    (u.bankS b).holder = some (s.ocHolder b) ∧
    (∀ c ∈ valveChannels, bankOf c = b → (u.valve c).latch = 4 ∧ u.rd (R.VD_STAT_FAULT c) = 4 ∧ u.rd
      (R.VD_STAT_PHASE c) = 7) ∧
    Logged s u 0x7008 [(b : Int), (cur : Int)]) ∧
  (∀ (t ch : Nat) (s : State),
    1 ≤ ch → ch ≤ 32 → s.rd (R.VD_STAT_RST ch) = 1 → (s.valve ch).resetAt + 250000000 ≤ max s.now t → (s.valve
      ch).latch = 0 → s.ownsBank ch = false → s.phase ch = 4 ∨ s.phase ch = 6 →
    ∃ u, exec (.valveResetRelease t ch) s = .next u ∧
    u.rd (R.VD_STAT_PHASE ch) = 5 ∧
    u.rd (R.VD_NOW_I_TGT ch) = 0 ∧
    (u.valve ch).fastOff = s.flag (R.VD_CFG_DECAY ch) ∧
    u.rd (R.VD_STAT_RST ch) = 1)

/-- Chapter 11, switch channels: a command is carried out, a change within 10 ms of the last is deferred and applied
then, an off of a stopped state is not (R385, R387, R388, Table 11.4), a turn-off takes its energy from the
clamp budget (R392); a trip starts its pause or latches the channel at N_LATCH (R389, R390), the pause's end
turns it on again (R390); 175 °C latches it (R393, R394); the open-load status follows the current (R398); a
clear ends every latch and lock, or is blocked (R397). What of this is the model's own choice or reading stands
in log entries 14, 28, 34, 68, 70 and 128. -/
def Obligations.SwitchCommandsComplete : Prop :=
  (∀ (t ch src mj : Nat) (s : State),
    1 ≤ ch → ch ≤ 24 → s.rd (R.LS_CFG_USE ch) = 1 → s.ls.down = false → s.ls.badCopy = false → (s.sw ch).thermal
      = false → (s.sw ch).clamp = false → (s.sw ch).ocLatch = false → (s.sw ch).pause = none → (s.sw
      ch).changedAt.all (fun c => decide (c + 10000000 ≤ s.now)) = true →
    ∃ u, exec (.switchCommand t ch true src mj) s = .next u ∧
    (u.sw ch).cmd = true ∧
    (u.sw ch).out = true ∧
    (u.sw ch).resetRun = false ∧
    (u.sw ch).waiting = none ∧
    u.rd (R.LS_STAT_STATE ch) = 2 ∧
    u.rd (R.LS_STAT_CTRL ch) = 0 ∧
    u.ls.cmdSince = true ∧
    RegsKept [R.LS_STAT_STATE ch, R.LS_STAT_CTRL ch, R.LS_STAT_TRIPS ch, R.LS_STAT_BUDGET_LEFT ch] s u) ∧
  (∀ (t ch src mj : Nat) (s : State),
    1 ≤ ch → ch ≤ 24 → s.rd (R.LS_CFG_USE ch) = 1 → s.ls.down = false → s.ls.badCopy = false → (s.sw ch).thermal
      = false → (s.sw ch).clamp = false → (s.sw ch).ocLatch = false → (s.sw ch).pause = none → (s.sw ch).out =
      true → (s.sw ch).changedAt.all (fun c => decide (c + 10000000 ≤ s.now)) = true ∨ src = 3 ∨ (s.sw ch).cmd =
      false → (mj : Rat) < (s.begin t).budgetLeft ch →
    ∃ u, exec (.switchCommand t ch false src mj) s = .next u ∧
    (u.sw ch).cmd = false ∧
    (u.sw ch).out = false ∧
    u.rd (R.LS_STAT_STATE ch) = 1 ∧
    u.rd (R.LS_NOW_LAST_CLAMP ch) = min 0xFFFF mj ∧
    u.budgetLeft ch = (s.begin t).budgetLeft ch - (mj : Rat) ∧
    RegsKept [R.LS_STAT_STATE ch, R.LS_STAT_CTRL ch, R.LS_STAT_TRIPS ch, R.LS_STAT_BUDGET_LEFT ch,
      R.LS_NOW_LAST_CLAMP ch] s u) ∧
  (∀ (t ch src mj c : Nat) (on : Bool) (s : State),
    1 ≤ ch → ch ≤ 24 → s.rd (R.LS_CFG_USE ch) = 1 → s.latchedSwitch ch = false → on ≠ (s.sw ch).cmd → (s.sw
      ch).changedAt = some c → max s.now t < c + 10000000 → on = true ∨ src ≠ 3 →
    ∃ u, exec (.switchCommand t ch on src mj) s = .next u ∧
    (u.sw ch).waiting = some on ∧
    (u.sw ch).cmd = (s.sw ch).cmd ∧
    (u.sw ch).out = (s.sw ch).out ∧
    u.rd (R.LS_STAT_DEFERRED ch) = satInc 255 (s.rd (R.LS_STAT_DEFERRED ch)) ∧
    RegsKept [R.LS_STAT_DEFERRED ch] s u) ∧
  (∀ (t ch src mj : Nat) (on : Bool) (s : State),
    1 ≤ ch → ch ≤ 24 → s.rd (R.LS_CFG_USE ch) ≠ 1 → s.ls.dead = false → Room s →
    ∃ u, exec (.switchCommand t ch on src mj) s = .next u ∧
    (u.sw ch) = s.sw ch ∧
    Logged s u 0x8006 [(ch : Int), (src : Int)] ∧
    RegsKept [] s u) ∧
  (∀ (t ch mj : Nat) (s : State),
    1 ≤ ch → ch ≤ 24 → s.rd (R.LS_CFG_USE ch) = 1 → s.ls.down = false → s.ls.badCopy = false → (s.sw ch).thermal
      = false → (s.sw ch).clamp = false → (s.sw ch).ocLatch = false → (s.sw ch).pause = none → (s.sw ch).waiting =
      some true → (s.sw ch).changedAt.all (fun c => decide (c + 10000000 ≤ max s.now t)) = true →
    ∃ u, exec (.switchDeferredApply t ch mj) s = .next u ∧
    (u.sw ch).cmd = true ∧
    (u.sw ch).out = true ∧
    (u.sw ch).waiting = none ∧
    u.rd (R.LS_STAT_STATE ch) = 2 ∧
    RegsExact [R.LS_STAT_STATE ch, R.LS_STAT_CTRL ch, R.LS_STAT_TRIPS ch, R.LS_STAT_BUDGET_LEFT ch] s u) ∧
  (∀ (t ch limited above cur mj : Nat) (s : State),
    1 ≤ ch → ch ≤ 24 → s.tripDue ch limited above cur = true → s.rd (R.LS_CFG_USE ch) ≠ 0 → (s.sw ch).out = true
      → (s.sw ch).thermal = false → (s.sw ch).clamp = false → (s.sw ch).frozenAt = none → s.ls.dead = false → (mj
      : Rat) < (s.begin t).budgetLeft ch → (s.begin t).tripCount ch + 1 < s.rd (R.LS_CFG_N_LATCH ch) → (s.begin
      t).mayLog 0x8001 ch 1000000000 = true → (s.sw ch).ocLatch = false → Room s →
    ∃ u, exec (.lsTrip t ch limited above cur mj) s = .next u ∧
    (u.sw ch).out = false ∧
    (u.sw ch).pause = some (max s.now t + retryPause ((s.begin t).tripCount ch + 1)) ∧
    (u.sw ch).ocLatch = false ∧
    u.tripCount ch = (s.begin t).tripCount ch + 1 ∧
    u.rd (R.LS_STAT_STATE ch) = 3 ∧
    Logged s u 0x8001 [(ch : Int), (((s.begin t).tripCount ch + 1 : Nat) : Int), ((retryPause ((s.begin
      t).tripCount ch + 1) / 1000000 : Nat) : Int)] ∧
    RegsKept [R.LS_STAT_STATE ch, R.LS_STAT_CTRL ch, R.LS_STAT_TRIPS ch, R.LS_STAT_BUDGET_LEFT ch,
      R.LS_NOW_LAST_CLAMP ch, R.LS_NOW_I_MEAS ch] s u) ∧
  (∀ (t ch limited above cur mj : Nat) (s : State),
    1 ≤ ch → ch ≤ 24 → s.tripDue ch limited above cur = true → s.rd (R.LS_CFG_USE ch) ≠ 0 → (s.sw ch).out = true
      → (s.sw ch).thermal = false → (s.sw ch).clamp = false → (s.sw ch).frozenAt = none → s.ls.dead = false → (mj
      : Rat) < (s.begin t).budgetLeft ch → s.rd (R.LS_CFG_N_LATCH ch) ≤ (s.begin t).tripCount ch + 1 → s.switchFn
      ch = none → Room s →
    ∃ u, exec (.lsTrip t ch limited above cur mj) s = .next u ∧
    (u.sw ch).out = false ∧
    (u.sw ch).ocLatch = true ∧
    (u.sw ch).pause = none ∧
    u.rd (R.LS_STAT_STATE ch) = 4 ∧
    Logged s u 0x8002 [(ch : Int), (((s.begin t).tripCount ch + 1 : Nat) : Int)] ∧
    RegsKept [R.LS_STAT_STATE ch, R.LS_STAT_CTRL ch, R.LS_STAT_TRIPS ch, R.LS_STAT_BUDGET_LEFT ch,
      R.LS_NOW_LAST_CLAMP ch, R.LS_NOW_I_MEAS ch] s u) ∧
  (∀ (t ch p : Nat) (s : State),
    1 ≤ ch → ch ≤ 24 → s.rd (R.LS_CFG_USE ch) = 1 → s.ls.down = false → s.ls.badCopy = false → (s.sw ch).thermal
      = false → (s.sw ch).clamp = false → (s.sw ch).ocLatch = false → (s.sw ch).pause = some p → p ≤ max s.now t →
      (s.sw ch).out = false → (s.sw ch).resetRun = false →
    ∃ u, exec (.retryPauseEnd t ch) s = .next u ∧
    (u.sw ch).pause = none ∧
    (u.sw ch).out = (s.sw ch).cmd ∧
    u.rd (R.LS_STAT_STATE ch) = (if (s.sw ch).cmd = true then 2 else 1) ∧
    RegsExact [R.LS_STAT_STATE ch, R.LS_STAT_CTRL ch, R.LS_STAT_TRIPS ch, R.LS_STAT_BUDGET_LEFT ch] s u) ∧
  (∀ (t ch mj : Nat) (tj : Int) (s : State),
    1 ≤ ch → ch ≤ 24 → s.rd (R.LS_CFG_USE ch) ≠ 0 → (s.sw ch).thermal = false → 1750 ≤ tj → (s.sw ch).out = true
      → (s.sw ch).clamp = false → s.ls.dead = false → (mj : Rat) < (s.begin t).budgetLeft ch → s.switchFn ch =
      none → Room s →
    ∃ u, exec (.lsThermal t ch tj mj) s = .next u ∧
    (u.sw ch).thermal = true ∧
    (u.sw ch).out = false ∧
    (u.sw ch).frozenAt = some ((s.begin t).counted (s.sw ch)) ∧
    (u.sw ch).pause = none ∧
    u.rd (R.LS_STAT_STATE ch) = 5 ∧
    u.rd (R.LS_NOW_TJ ch) = ofSigned 16 tj ∧
    Logged s u 0x8003 [(ch : Int), tj] ∧
    RegsKept [R.LS_STAT_STATE ch, R.LS_STAT_CTRL ch, R.LS_STAT_TRIPS ch, R.LS_STAT_BUDGET_LEFT ch,
      R.LS_NOW_LAST_CLAMP ch, R.LS_NOW_TJ ch] s u) ∧
  (∀ (t ch cur held : Nat) (s : State),
    1 ≤ ch → ch ≤ 24 → 100000000 ≤ held → (s.sw ch).out = true → s.rd (R.LS_CFG_OPEN_I ch) ≠ 0 → cur < s.rd
      (R.LS_CFG_OPEN_I ch) → s.flag (R.LS_STAT_OPEN ch) = false → s.ls.dead = false → Room s →
    ∃ u, exec (.lsOpen t ch cur held) s = .next u ∧
    u.rd (R.LS_STAT_OPEN ch) = 1 ∧
    u.rd (R.LS_NOW_I_MEAS ch) = min 0xFFFF cur ∧
    u.ls = s.ls ∧
    Logged s u 0x8005 [(ch : Int), (cur : Int)] ∧
    RegsKept [R.LS_STAT_OPEN ch, R.LS_NOW_I_MEAS ch] s u) ∧
  (∀ (t ch cur held : Nat) (s : State),
    1 ≤ ch → ch ≤ 24 → 100000000 ≤ held → s.rd (R.LS_CFG_OPEN_I ch) ≤ cur →
    ∃ u, exec (.lsOpen t ch cur held) s = .next u ∧
    u.rd (R.LS_STAT_OPEN ch) = 0 ∧
    u.rd (R.LS_NOW_I_MEAS ch) = min 0xFFFF cur ∧
    u.ls = s.ls ∧
    RegsExact [R.LS_STAT_OPEN ch, R.LS_NOW_I_MEAS ch] s u) ∧
  (∀ (t n ch : Nat) (tj : Int) (s : State),
    1 ≤ ch → ch ≤ 24 → n ≠ 0 → s.ses.open_.any (fun p => p.2.num = n) = true → s.classAtLeast n 2 = true →
      s.turn n (.clearSwitch) = true → s.rd (R.LS_CFG_USE ch) = 2 → (s.sw ch).thermal = false ∨ toSigned 16
      (ofSigned 16 tj) < 1500 → (s.sw ch).clamp = false ∨ (s.rd (R.LS_CFG_BUDGET ch) : Rat) ≤ (s.begin
      t).budgetLeft ch → (s.sw ch).out = false → s.ls.dead = false → Room s →
    ∃ u, exec (.lsClearRequest t n ch tj) s = .next u ∧
    (u.sw ch).thermal = false ∧
    (u.sw ch).clamp = false ∧
    (u.sw ch).ocLatch = false ∧
    (u.sw ch).trips = [] ∧
    Logged s u 0x8008 [(ch : Int), ((bit01 (s.sw ch).ocLatch + 2 * bit01 (s.sw ch).thermal + 4 * bit01 (s.sw
      ch).clamp : Nat) : Int)] ∧
    Sent u (.session n) Res.OK []) ∧
  (∀ (t n ch b : Nat) (tj : Int) (s : State),
    1 ≤ ch → ch ≤ 24 → n ≠ 0 → s.ses.open_.any (fun p => p.2.num = n) = true → s.classAtLeast n 2 = true →
      s.turn n (.clearSwitch) = true → s.rd (R.LS_CFG_USE ch) = 2 → ((s.begin t).wr (R.LS_NOW_TJ ch) (ofSigned 16
      tj)).switchBlocks ch = some b → s.ls.dead = false → Room s →
    ∃ u, exec (.lsClearRequest t n ch tj) s = .next u ∧
    u.ls = s.ls ∧
    Logged s u 0x8007 [(ch : Int), (b : Int)] ∧
    Sent u (.session n) 0x8007 [] ∧
    RegsKept [R.LS_NOW_TJ ch] s u)

/-- Chapter 11, the dead core and walk-home: 250 ms after a reset's assertion, or 1 s after the release from a Full
reset, with no command since, the core counts as dead (R399, R400); the link watchdog's expiry stands for a
System reset's assertion, logged with the channels that were on (R399, R400); the first link frame ends it with
the dead period logged (R400); pin edges, WH_EN and over-frequency are taken up (R401 to R404), a PIN-DRIVEN
channel following its pin; the power die's copy is taken up after a Full reset, or a bad one keeps every channel
off (R406). What of this is the model's own choice or reading stands in log entries 70, 71 and 128. -/
def Obligations.WalkHomeComplete : Prop :=
  (∀ (t a : Nat) (cl : List (Nat × Nat)) (s : State),
    s.ls.assertAt = some a → s.ls.full = false → s.ls.cmdSince = false → s.ls.dead = false → a + 250000000 ≤ max
      s.now t →
    ∃ u, exec (.resetGraceEnd t cl) s = .next u ∧
    u.ls.dead = true ∧
    u.ls.deadAt = max s.now t ∧
    u.rd R.WH_STAT_DEADS = satInc 255 (s.rd R.WH_STAT_DEADS) ∧
    u.ln = s.ln) ∧
  (∀ (t : Nat) (s : State),
    s.inReset = false → s.ls.dead = false → s.ls.assertAt = none ∨ s.ls.full = true ∨ s.ls.cmdSince = true →
      Room s →
    ∃ u, exec (.linkWatchdogExpire t) s = .next u ∧
    u.ls.assertAt = some (max s.now t) ∧
    u.ls.full = false ∧
    u.ls.cmdSince = false ∧
    u.ls.expired = true ∧
    (∀ n ∈ switchChannels, (u.sw n).out = (s.sw n).out ∧ (u.sw n).waiting = none) ∧
    Logged s u 0x8009 [2, (((switchChannels.filter (fun n => (s.sw n).out)).foldl (fun m n => m + 2 ^ (n - 1)) 0
      : Nat) : Int)]) ∧
  (∀ (t r : Nat) (s : State),
    s.ls.released = some r → s.ls.full = true → s.ls.cmdSince = false → s.ls.dead = false → r + 1000000000 ≤ max
      s.now t →
    ∃ u, exec (.fullResetDead t) s = .next u ∧
    u.ls.dead = true ∧
    u.ls.deadAt = max s.now t ∧
    u.rd R.WH_STAT_DEADS = satInc 255 (s.rd R.WH_STAT_DEADS)) ∧
  (∀ (t : Nat) (cl : List (Nat × Nat)) (s : State),
    s.ls.dead = true → s.ls.held = [] → switchChannels.all (fun n => !(s.sw n).out) = true → (∀ c ∈
      valveChannels, s.rd (R.VD_STAT_RST c) ≠ 3) → Room s →
    ∃ u, exec (.whActive t cl) s = .next u ∧
    u.ls.dead = false ∧
    u.ls.mask = 0 ∧
    u.rd R.WH_STAT_DEAD_MS = min 0xFFFFFFFF ((max s.now t - s.ls.deadAt) / 1000000) ∧
    Logged s u 0x8010 [(((max s.now t - s.ls.deadAt) / 1000000 : Nat) : Int), (s.ls.mask : Int)]) ∧
  (∀ (t p : Nat) (lv : Bool) (cl : List (Nat × Nat)) (s : State),
    1 ≤ p → p ≤ 8 →
    ∃ u, exec (.whPinEdge t p lv cl) s = .next u ∧
    u.rd R.WH_STAT_PIN = setBit (s.rd R.WH_STAT_PIN) (p - 1) lv ∧
    u.rd R.WH_STAT_EN = s.rd R.WH_STAT_EN) ∧
  (∀ (t p ch : Nat) (s : State),
    1 ≤ p → p ≤ 8 → 1 ≤ ch → ch ≤ 24 → s.rd (R.LS_CFG_USE ch) = 2 → s.switchPin ch = some p → s.pinHeld p =
      false → (s.begin t).pinsLive = true → (s.sw ch).out = false → (s.sw ch).pause = none → s.ls.down = false →
      s.ls.badCopy = false → (s.sw ch).thermal = false → (s.sw ch).clamp = false → (s.sw ch).ocLatch = false →
    ∃ u, exec (.whPinEdge t p true []) s = .next u ∧
    (u.sw ch).out = true ∧
    u.rd (R.LS_STAT_STATE ch) = 2 ∧
    u.rd (R.LS_STAT_CTRL ch) = 3) ∧
  (∀ (t : Nat) (lv : Bool) (cl : List (Nat × Nat)) (s : State),
    ∃ u, exec (.whEnChange t lv cl) s = .next u ∧
    u.rd R.WH_STAT_EN = bit01 lv ∧
    u.rd R.WH_STAT_PIN = s.rd R.WH_STAT_PIN) ∧
  (∀ (t p hz : Nat) (cl : List (Nat × Nat)) (s : State),
    1 ≤ p → p ≤ 8 → 440 < hz → s.ls.dead = false → switchChannels.all (fun n => !(s.sw n).out) = true → (∀ c ∈
      valveChannels, s.rd (R.VD_STAT_RST c) ≠ 3) → Room s →
    ∃ u, exec (.whFreq t p hz cl) s = .next u ∧
    u.rd R.WH_STAT_FREQ = setBit (s.rd R.WH_STAT_FREQ) (p - 1) true ∧
    Logged s u 0x8011 [(p : Int), (hz : Int)]) ∧
  (∀ (t p hz : Nat) (cl : List (Nat × Nat)) (s : State),
    1 ≤ p → p ≤ 8 → hz ≤ 400 →
    ∃ u, exec (.whFreq t p hz cl) s = .next u ∧
    u.rd R.WH_STAT_FREQ = setBit (s.rd R.WH_STAT_FREQ) (p - 1) false) ∧
  (∀ (t p hz : Nat) (cl : List (Nat × Nat)) (s : State),
    400 < hz → hz ≤ 440 →
    ∃ u, exec (.whFreq t p hz cl) s = .next u ∧
    RegsExact [] s u ∧
    u.ls = s.ls ∧
    u.vd = s.vd) ∧
  (∀ (t : Nat) (s : State),
    s.ls.full = true → switchChannels.all (fun n => !(s.sw n).out) = true → s.ls.copy = [(R.WH_MAP_LSW 8, 4)] →
    ∃ u, exec (.whStoreLoad t true) s = .next u ∧
    u.ls.live = true ∧
    u.ls.badCopy = false ∧
    u.rd (R.WH_MAP_LSW 8) = 4 ∧
    u.ls.copy = s.ls.copy) ∧
  (∀ (t : Nat) (s : State),
    s.ls.full = true → s.configured = false → s.ls.dead = false → Room s →
    ∃ u, exec (.whStoreLoad t false) s = .next u ∧
    u.ls.live = false ∧
    u.ls.badCopy = true ∧
    u.rd R.WH_STAT_STORE = 0 ∧
    Logged s u 0x8012 [1] ∧
    RegsKept [R.WH_STAT_STORE] s u)

/-- Chapter 12, CAN: a received frame counts RECs down and gives matching signals raw × GAIN + OFFSET with its
stamp, a remote frame is only counted (R411, R415, R419, R420); the head sent leaves the FIFO and is reported
(R419, R422); bus-off is counted, logged and recovered from (R415); CAN.TSMAP pairs the second and the counter
with its rate (R417, R418); an address claim is won, tried further or given up (R425). What of this is the
model's own choice or reading stands in log entries 28, 29, 59, 72 and 129. -/
def Obligations.CanComplete : Prop :=
  (∀ (t ch age : Nat) (f : CanIn) (s : State),
    1 ≤ ch → ch ≤ 10 → s.canOnBus ch = true → f.remote = false → (List.range 512).all (fun n => !s.sigMatches ch
      f n) = true →
    ∃ u, exec (.canFrameRx t ch age f) s = .next u ∧
    u.rd (R.CAN_STAT_REC ch) = recAfter (s.rd (R.CAN_STAT_REC ch)) ∧
    u.lk.sig = s.lk.sig ∧
    (u.opt.fuelAt = if s.rd (R.CAN_CFG_ROLE ch) = 2 ∧ f.ide = true ∧ f.id / 256 % 65536 = 65266 then some (max
      s.now t) else s.opt.fuelAt) ∧
    RegsKept [R.CAN_STAT_REC ch, R.CAN_STAT_DEPTH ch, R.CAN_STAT_TXFULL ch] s u) ∧
  (∀ (t ch age n : Nat) (f : CanIn) (s : State),
    1 ≤ ch → ch ≤ 10 → n < 512 → s.canOnBus ch = true → f.remote = false → s.sigMatches ch f n = true →
      (fieldBits (s.rd (R.CAN_SIG_CFG_START n)) (s.rd (R.CAN_SIG_CFG_LEN n)) (s.rd (R.CAN_SIG_CFG_ORDER n))).all
      (fun q => q < 8 * f.data.length) = true → s.rd (R.CAN_SIG_CFG_SIGNED n) = 0 →
    ∃ u, exec (.canFrameRx t ch age f) s = .next u ∧
    look u.lk.sig n = some (toF32 (((getField f.data (s.rd (R.CAN_SIG_CFG_START n)) (s.rd (R.CAN_SIG_CFG_LEN n))
      (s.rd (R.CAN_SIG_CFG_ORDER n)) : Int) : Rat) * s.rdF (R.CAN_SIG_SCALE_GAIN n) + s.rdF
      (R.CAN_SIG_SCALE_OFFSET n)), (s.begin t).harvestAgo age)) ∧
  (∀ (t ch age : Nat) (f : CanIn) (s : State),
    1 ≤ ch → ch ≤ 10 → s.canOnBus ch = true → f.remote = true →
    ∃ u, exec (.canFrameRx t ch age f) s = .next u ∧
    (u.can ch).remotes = (s.can ch).remotes + 1 ∧
    (u.can ch).fifo = (s.can ch).fifo ∧
    u.lk.sig = s.lk.sig ∧
    u.ses = s.ses ∧
    RegsExact [R.CAN_STAT_DEPTH ch] s u) ∧
  (∀ (t ch age : Nat) (f : FrameS) (s : State),
    1 ≤ ch → ch ≤ 10 → s.canOnBus ch = true → (s.can ch).fifo = [f] → (s.can ch).stack = [] → f.fdf = true ∨
      frameBits f.ide f.data.length * s.canBit ch ≤ age →
    ∃ u, exec (.canFrameTxDone t ch age) s = .next u ∧
    (u.can ch).fifo = [] ∧
    u.rd (R.CAN_STAT_DEPTH ch) = 0 ∧
    u.rd (R.CAN_STAT_TEC ch) = s.rd (R.CAN_STAT_TEC ch) - 1 ∧
    Sent u (.canBus ch) 0 (frameRecord (s.canCount (max s.now t - age)) ch 16 f) ∧
    RegsExact [R.CAN_STAT_DEPTH ch, R.CAN_STAT_TEC ch] s u) ∧
  (∀ (t ch : Nat) (s : State),
    1 ≤ ch → ch ≤ 10 → s.canOnBus ch = true → s.canFns ch = [] → Room s →
    ∃ u, exec (.canBusoff t ch) s = .next u ∧
    (u.can ch).offs = (s.can ch).offs.filter (fun o => max s.now t < o + 10000000000) ++ [max s.now t] ∧
    u.rd (R.CAN_STAT_STATE ch) = 3 ∧
    u.rd (R.CAN_STAT_TEC ch) = 255 ∧
    u.rd (R.CAN_STAT_BUSOFF ch) = satInc 255 (s.rd (R.CAN_STAT_BUSOFF ch)) ∧
    Logged s u 0x9001 [(ch : Int), ((u.can ch).offs.length : Int), (bit01 (decide (s.rd (R.CAN_CFG_BOFF_STOP ch)
      ≤ (u.can ch).offs.length)) : Int)] ∧
    RegsKept [R.CAN_STAT_STATE ch, R.CAN_STAT_TEC ch, R.CAN_STAT_BUSOFF ch, R.CAN_STAT_DEPTH ch] s u) ∧
  (∀ (t ch : Nat) (s : State),
    1 ≤ ch → ch ≤ 10 → s.rd (R.CAN_STAT_STATE ch) = 3 ∨ s.rd (R.CAN_STAT_STATE ch) = 4 → s.rd (R.CAN_CFG_ROLE
      ch) = 0 ∨ s.rd (R.CAN_STAT_ADDR ch) ≠ 0xFE → (s.can ch).fifo = [] → (s.can ch).offs.getLastD 0 + 1408 *
      s.canBit ch ≤ max s.now t →
    ∃ u, exec (.canBusoffRecover t ch) s = .next u ∧
    u.rd (R.CAN_STAT_STATE ch) = 1 ∧
    u.rd (R.CAN_STAT_TEC ch) = 0 ∧
    u.rd (R.CAN_STAT_REC ch) = 0 ∧
    RegsExact [R.CAN_STAT_STATE ch, R.CAN_STAT_TEC ch, R.CAN_STAT_REC ch] s u) ∧
  (∀ (t c : Nat) (sec : Int) (s : State),
    s.islandOut 6 = false → sec = (s.begin t).harvest / 1000000000 * 1000000000 → c = s.canCount (max s.now t -
      ((s.begin t).harvest - sec).toNat) → s.lk.tsmapStep = true ∨ s.lk.tsmapAt.map Prod.fst ≠ some sec →
    ∃ u, exec (.canTsmap t) s = .next u ∧
    u.rd R.CAN_TSMAP_SECOND = ofSigned 64 sec ∧
    u.rd R.CAN_TSMAP_COUNT = c ∧
    (s.lk.tsmapStep = true → u.rd R.CAN_TSMAP_RATE = 0) ∧
    (s.lk.tsmapStep = false → s.lk.tsmapAt.map Prod.fst = some (sec - 1000000000) → u.rd R.CAN_TSMAP_RATE = (c +
      2 ^ 32 - (s.lk.tsmapAt.map Prod.snd).getD 0) % 2 ^ 32) ∧
    u.lk.tsmapStep = false ∧
    u.lk.tsmapAt = some (sec, c) ∧
    RegsExact [R.CAN_TSMAP_SECOND, R.CAN_TSMAP_COUNT, R.CAN_TSMAP_RATE] s u) ∧
  (∀ (t ch : Nat) (s : State),
    1 ≤ ch → ch ≤ 10 → s.rd (R.CAN_CFG_ROLE ch) = 1 ∨ s.rd (R.CAN_CFG_ROLE ch) = 2 → s.canOnBus ch = true → Room
      s →
    ∃ u, exec (.canAddressClaim t ch true) s = .next u ∧
    u.rd (R.CAN_STAT_ADDR ch) = s.claimAddr ch ∧
    u.rd (R.CAN_STAT_STATE ch) = 1 ∧
    Logged s u 0x9004 [(ch : Int), (s.claimAddr ch : Int)] ∧
    RegsKept [R.CAN_STAT_ADDR ch, R.CAN_STAT_STATE ch] s u) ∧
  (∀ (t ch : Nat) (s : State),
    1 ≤ ch → ch ≤ 10 → s.rd (R.CAN_CFG_ROLE ch) = 1 ∨ s.rd (R.CAN_CFG_ROLE ch) = 2 → s.canOnBus ch = true → s.rd
      (R.CAN_CFG_SELFCONF ch) = 0 ∨ 120 ≤ (s.can ch).tried → s.canFns ch = [] → Room s →
    ∃ u, exec (.canAddressClaim t ch false) s = .next u ∧
    u.rd (R.CAN_STAT_ADDR ch) = 0xFE ∧
    u.rd (R.CAN_STAT_STATE ch) = 5 ∧
    Logged s u 0x9005 [(ch : Int), (s.rd (R.CAN_CFG_SA ch) : Int)]) ∧
  (∀ (t ch : Nat) (s : State),
    1 ≤ ch → ch ≤ 10 → s.rd (R.CAN_CFG_ROLE ch) = 1 ∨ s.rd (R.CAN_CFG_ROLE ch) = 2 → s.canOnBus ch = true → s.rd
      (R.CAN_CFG_SELFCONF ch) = 1 → (s.can ch).tried < 120 → (s.can ch).fifo = [] → (s.can ch).stack = [] →
    ∃ u, exec (.canAddressClaim t ch false) s = .next u ∧
    (u.can ch).tried = (s.can ch).tried + 1 ∧
    (u.can ch).fifo =
      [{ id := 0x18EEFF00 + (128 + (s.can ch).tried), ide := true, fdf := false, brs := false, dlc := 8, data := leBytes 8 (s.can ch).name, buffer := 0xFFFF, since := max s.now t }]
      ∧
    u.rd (R.CAN_STAT_STATE ch) = s.rd (R.CAN_STAT_STATE ch))

/-- Chapter 12, Ethernet and field nodes: a link change is logged (R427, R430); Sync, Follow_Up and Announce carry
PTP time and the clock's quality (R428, R429; the accuracy scale is log entry 40); a foreign grandmaster is
logged (R428); a port detects its node, is turned off on a power fault and latched at the third, is powered
again or cleared (R431, R432); its link moves STATE (R433); samples take the port's offset or report a fault
(R433, R434); the time exchange gives an offset and an uncertainty, or none (R434). What of this is the model's
own choice or reading stands in log entries 40, 74, 76 and 129. -/
def Obligations.EthernetAndNodesComplete : Prop :=
  (∀ (t p : Nat) (up : Bool) (s : State),
    1 ≤ p → p ≤ 6 → s.rd (R.ETH_CFG_EN p) = 1 → s.islandOut 5 = false → s.rd (R.ETH_STAT_LINK p) ≠ bit01 up →
      s.rd (R.ETH_STAT_LINK p) ≤ 1 → Room s →
    ∃ u, exec (.ethLink t p up) s = .next u ∧
    u.rd (R.ETH_STAT_LINK p) = bit01 up ∧
    Logged s u 0x9010 [(p : Int), (bit01 up : Int)] ∧
    RegsKept [R.ETH_STAT_LINK p] s u) ∧
  (∀ (t p : Nat) (s : State),
    s.gptpOn p = true → (s.begin t).intervalDue s.lk.syncAt p 125000000 = true →
    ∃ u, exec (.gptpSync t p) s = .next u ∧
    Sent u (.ethPort p) 0x00 [0] ∧
    Sent u (.ethPort p) 0x08 [0, (s.begin t).ptpTime] ∧
    RegsExact [] s u) ∧
  (∀ (t p : Nat) (s : State),
    s.gptpOn p = true → (s.begin t).intervalDue s.lk.announceAt p 1000000000 = true →
    ∃ u, exec (.gptpAnnounce t p) s = .next u ∧
    Sent u (.ethPort p) 0x0B [0, ((clockQuality s.sourceQuality).1 : Int), (clockAccuracy (s.begin t).tbErr :
      Int), ((clockQuality s.sourceQuality).2 : Int), toSigned 16 (s.rd R.TB_UTCOFF_OFFSET) + 19, (s.rd
      R.TB_UTCOFF_KNOWN : Int)] ∧
    Sent u (.ethPort p) 0x02 [0] ∧
    RegsExact [] s u) ∧
  (∀ (t p ident : Nat) (s : State),
    1 ≤ p → s.gptpOn p = true → (s.begin t).mayLog 0x9011 p 10000000000 = true → Room s →
    ∃ u, exec (.ethGmConflict t p ident) s = .next u ∧
    u.rd (R.ETH_STAT_GM_CONFLICT p) = 1 ∧
    look u.lk.conflictAt p = some (max s.now t) ∧
    Logged s u 0x9011 [(p : Int), ((ident % 2 ^ 32 : Nat) : Int)] ∧
    RegsKept [R.ETH_STAT_GM_CONFLICT p] s u) ∧
  (∀ (t p cls : Nat) (v : Bool) (s : State),
    1 ≤ p → p ≤ 12 → s.rd (R.FNP_CFG_EN p) = 1 → s.rd (R.FNP_CFG_PCLASS p) ≠ 0 → s.rd (R.FNP_STAT_STATE p) < 2 →
      s.mode ≠ Mode.SLEEP → (s.nodeS p).tryAt.all (fun (x : Nat) => x + 1000000000 ≤ max s.now t) = true → Room s
      →
    ∃ u, exec (.fnpDetect t p v cls) s = .next u ∧
    u.rd (R.FNP_STAT_STATE p) = (if v = false then 1 else if cls ≠ s.rd (R.FNP_CFG_PCLASS p) then 0 else 2) ∧
    (v = true → cls ≠ s.rd (R.FNP_CFG_PCLASS p) → Logged s u 0x9020 [(p : Int), (cls : Int)]) ∧
    RegsKept [R.FNP_STAT_STATE p] s u) ∧
  (∀ (t p pw above limited : Nat) (s : State),
    1 ≤ p → p ≤ 12 → (s.rd (R.FNP_CFG_PLIM p) * 10 < pw ∧ 50000000 ≤ above) ∨ 5000000 ≤ limited → s.rd
      (R.FNP_STAT_STATE p) = 2 ∨ s.rd (R.FNP_STAT_STATE p) = 3 → s.rd (R.FNP_CFG_PCLASS p) ≠ 0 → Room s →
    ∃ u, exec (.fnpPwrFault t p pw above limited) s = .next u ∧
    (u.nodeS p).faults = (s.nodeS p).faults.filter (fun x => max s.now t < x + 60000000000) ++ [max s.now t] ∧
    u.rd (R.FNP_STAT_STATE p) = (if 3 ≤ (u.nodeS p).faults.length then 5 else 4) ∧
    u.rd (R.FNP_STAT_POWER p) = 0 ∧
    u.rd (R.FNP_STAT_PFAULTS p) = satInc 255 (s.rd (R.FNP_STAT_PFAULTS p)) ∧
    Logged s u 0x9021 [(p : Int), (pw : Int)] ∧
    (3 ≤ (u.nodeS p).faults.length → Logged s u 0x9022 [(p : Int)]) ∧
    RegsKept [R.FNP_STAT_STATE p, R.FNP_STAT_POWER p, R.FNP_STAT_PFAULTS p] s u) ∧
  (∀ (t p o : Nat) (s : State),
    1 ≤ p → p ≤ 12 → s.rd (R.FNP_STAT_STATE p) = 4 → (s.nodeS p).offAt = some o → o + 1000000000 ≤ max s.now t →
    ∃ u, exec (.fnpRepower t p) s = .next u ∧
    u.rd (R.FNP_STAT_STATE p) = 2 ∧
    (u.nodeS p).offAt = none ∧
    RegsExact [R.FNP_STAT_STATE p] s u) ∧
  (∀ (t n p : Nat) (s : State),
    n ≠ 0 → s.ses.open_.any (fun p => p.2.num = n) = true → s.classAtLeast n 2 = true → s.turn n (.clearPort) =
      true → 1 ≤ p → p ≤ 12 → s.rd (R.FNP_STAT_STATE p) = 5 →
    ∃ u, exec (.fnpClear t n p) s = .next u ∧
    u.rd (R.FNP_STAT_STATE p) = 1 ∧
    (u.nodeS p).faults = [] ∧
    Sent u (.session n) Res.OK [] ∧
    RegsExact [R.FNP_STAT_STATE p] s u) ∧
  (∀ (t p : Nat) (up : Bool) (s : State),
    1 ≤ p → p ≤ 12 → s.rd (R.FNP_CFG_EN p) = 1 → s.islandOut 5 = false → s.rd (R.FNP_STAT_STATE p) = (if up =
      true then 2 else 3) → s.rd (R.FNP_CFG_PCLASS p) ≠ 0 →
    ∃ u, exec (.fnpLink t p up) s = .next u ∧
    u.rd (R.FNP_STAT_STATE p) = (if up = true then 3 else 2) ∧
    RegsExact [R.FNP_STAT_STATE p] s u) ∧
  (∀ (t p : Nat) (b : List Nat) (e : NodeIn) (s : State),
    1 ≤ p → p ≤ 12 → s.rd (R.FNP_STAT_STATE p) = 3 → nodeMessage b 1 = true → b.length = 28 → nodeEntries b =
      [e] →
    ∃ u, exec (.samples t p b) s = .next u ∧
    (e.fault = false → look (u.nodeS p).values e.sig = some (e.raw, toSigned 64 (msgField b 8 8) - toSigned 64
      (s.rd (R.FNP_OFF_OFFSET p))) ∧ ¬ e.sig ∈ (u.nodeS p).faulty) ∧
    (e.fault = true → e.sig ∈ (u.nodeS p).faulty ∧ (u.nodeS p).values = (s.nodeS p).values) ∧
    RegsExact [] s u) ∧
  (∀ (t p : Nat) (b : List Nat) (s : State),
    nodeMessage b 1 = false →
    ∃ u, exec (.samples t p b) s = .next u ∧
    u.lk = s.lk ∧
    RegsExact [] s u) ∧
  (∀ (t p : Nat) (s : State),
    1 ≤ p → p ≤ 12 → s.rd (R.FNP_CFG_TIMEX p) = 1 → s.rd (R.FNP_STAT_STATE p) = 3 → (s.nodeS p).reqAt.all (fun
      (x : Int) => x / 1000000000 ≠ (s.begin t).harvest / 1000000000) = true →
    ∃ u, exec (.timeReq t p) s = .next u ∧
    (u.nodeS p).seq = ((s.nodeS p).seq + 1) % 65536 ∧
    (u.nodeS p).t1 = some (s.begin t).harvest ∧
    (u.nodeS p).reqAt = some (s.begin t).harvest ∧
    Sent u (.fieldNode p) 2 (([0x46, 0x4E, 0x50, 0x31, 2, 1] ++ leBytes 2 (u.nodeS p).seq).map Int.ofNat) ∧
    RegsExact [] s u) ∧
  (∀ (t p : Nat) (b : List Nat) (t1 t2 t3 : Int) (s : State),
    1 ≤ p → p ≤ 12 → nodeMessage b 3 = true → b.length = 24 → (s.nodeS p).t1 = some t1 → msgField b 6 2 =
      (s.nodeS p).seq → (s.begin t).harvest ≤ t1 + 50000000 → t2 = toSigned 64 (msgField b 8 8) → t3 = toSigned 64
      (msgField b 16 8) →
    ∃ u, exec (.timeRep t p b) s = .next u ∧
    (u.nodeS p).est = some (((t2 - t1) + (t3 - (s.begin t).harvest)) / 2, ((((s.begin t).harvest - t1) - (t3 -
      t2)) / 2).toNat, max s.now t) ∧
    (u.nodeS p).t1 = none ∧
    u.rd (R.FNP_STAT_UNC p) = min 0xFFFE ((((s.begin t).harvest - t1) - (t3 - t2)) / 2).toNat ∧
    u.rd (R.FNP_OFF_OFFSET p) = (if (s.begin t).portValid p ((((s.begin t).harvest - t1) - (t3 - t2)) / 2).toNat
      = true then ofSigned 64 (((t2 - t1) + (t3 - (s.begin t).harvest)) / 2) else s.rd (R.FNP_OFF_OFFSET p)) ∧
    RegsExact [R.FNP_STAT_UNC p, R.FNP_OFF_OFFSET p] s u) ∧
  (∀ (t p : Nat) (t1 : Int) (s : State),
    (s.nodeS p).t1 = some t1 → t1 + 50000000 ≤ (s.begin t).harvest →
    ∃ u, exec (.timeRepTimeout t p) s = .next u ∧
    (u.nodeS p).t1 = none ∧
    (u.nodeS p).est = none ∧
    RegsExact [] s u)

/-- Chapter 12, the trunk: an announced unit is the one named for its port or not (R435, R438), a worker takes its
upstream port (R435); a link's loss is counted at once and after 100 ms stops a worker's functions and tells the
workers below (R438), as does a notice from above; saturation is shown and logged (R437). What of this is the
model's own choice or reading stands in log entries 28, 73, 129 and 130. -/
def Obligations.TrunkComplete : Prop :=
  (∀ (t p unit ident x : Nat) (s : State),
    1 ≤ p → p ≤ 4 → s.rd (R.TK_STAT_LINK p) = 1 → (s.trunkS p).expected = some x → Room s →
    ∃ u, exec (.tkAnnounce t p unit ident) s = .next u ∧
    u.rd (R.TK_STAT_ROLE p) = (if x = unit ∧ (s.trunkS p).ident = ident then 2 else 3) ∧
    u.rd (R.TK_STAT_UNIT p) = unit ∧
    u.rd (R.TB_WH_ROLE p) = (if x = unit ∧ (s.trunkS p).ident = ident then 2 else 0) ∧
    (u.wh p).driving = decide (x = unit ∧ (s.trunkS p).ident = ident) ∧
    (¬ (x = unit ∧ (s.trunkS p).ident = ident) → Logged s u 0x9031 [(p : Int), (x : Int), (unit : Int)]) ∧
    RegsKept [R.TK_STAT_ROLE p, R.TK_STAT_UNIT p, R.TK_STAT_PHYM p, R.TB_WH_ROLE p] s u) ∧
  (∀ (t p unit ident : Nat) (s : State),
    1 ≤ p → p ≤ 4 → s.rd (R.TK_STAT_LINK p) = 1 → (s.trunkS p).expected = none → s.isWorker = true → s.upstream
      = none →
    ∃ u, exec (.tkAnnounce t p unit ident) s = .next u ∧
    u.rd (R.TK_STAT_ROLE p) = 1 ∧
    u.rd (R.TK_STAT_UNIT p) = unit ∧
    u.rd (R.TB_WH_ROLE p) = 1 ∧
    Sent u (.trunk p) 0x50 [(s.role.unit : Int)] ∧
    RegsExact [R.TK_STAT_ROLE p, R.TK_STAT_UNIT p, R.TB_WH_ROLE p] s u) ∧
  (∀ (t p : Nat) (s : State),
    1 ≤ p → p ≤ 4 → s.rd (R.TK_STAT_LINK p) = 1 →
    ∃ u, exec (.tkLink t p false) s = .next u ∧
    u.rd (R.TK_STAT_LINK p) = 0 ∧
    (u.trunkS p).downAt = some (max s.now t) ∧
    u.rd (R.TK_STAT_DOWNS p) = satInc 0xFFFF (s.rd (R.TK_STAT_DOWNS p)) ∧
    u.fn = s.fn ∧
    RegsExact [R.TK_STAT_LINK p, R.TK_STAT_DOWNS p] s u) ∧
  (∀ (t p : Nat) (s : State),
    1 ≤ p → p ≤ 4 → s.islandOut 5 = false → s.lk.upstreamLost = false →
    ∃ u, exec (.tkLink t p true) s = .next u ∧
    u.rd (R.TK_STAT_LINK p) = 1 ∧
    (u.trunkS p).downAt = none ∧
    RegsExact [R.TK_STAT_LINK p] s u) ∧
  (∀ (t p d q : Nat) (s : State),
    1 ≤ p → p ≤ 4 → s.rd (R.TK_STAT_LINK p) ≠ 1 → s.isWorker = true → s.upstream = some p → s.lk.upstreamLost =
      false → (s.trunkS p).downAt = some d → d + 100000000 ≤ max s.now t → Room s →
    ∃ u, exec (.tkLink t p false) s = .next u ∧
    u.lk.upstreamLost = true ∧
    (∀ f ∈ List.range 48, s.fnMine f = true → (u.fnS f).running = false) ∧
    (1 ≤ q → q ≤ 4 → s.rd (R.TK_STAT_ROLE q) = 2 → Sent u (.trunk q) 0x51 [])) ∧
  (∀ (t p q : Nat) (s : State),
    1 ≤ p → p ≤ 4 → s.isWorker = true → s.upstream = some p → s.lk.upstreamLost = false →
    ∃ u, exec (.tkLinkNotice t p) s = .next u ∧
    u.lk.upstreamLost = true ∧
    (∀ f ∈ List.range 48, s.fnMine f = true → (u.fnS f).running = false) ∧
    (1 ≤ q → q ≤ 4 → s.rd (R.TK_STAT_ROLE q) = 2 → Sent u (.trunk q) 0x51 [])) ∧
  (∀ (t p mb : Nat) (s : State),
    1 ≤ p → p ≤ 4 → 500 < mb → (s.begin t).mayLog 0x9032 p 10000000000 = true → Room s →
    ∃ u, exec (.tkSat t p mb) s = .next u ∧
    u.rd (R.TK_STAT_LOAD01 p) = min 0xFFFF (((s.trunkS p).loads.filter (fun (x : Nat × Nat) => max s.now t < x.1
      + 1000000000) ++ [(max s.now t, mb)]).foldl (fun (m : Nat) (x : Nat × Nat) => max m x.2) 0) ∧
    Logged s u 0x9032 [(p : Int), (mb : Int)] ∧
    RegsKept [R.TK_STAT_LOAD01 p] s u)

/-- Chapter 13, sessions: a failed handshake is logged (R443); a HELLO opens a session of the class granted, in the
lowest free slot, over UDP bound to its partner's address and port, or is refused with CLASS_FULL and logged
(R449, R450, R453, R455, R457); BYE, silence for TIMEOUT, a closed connection and a badly framed message over
TCP end it (R445, R452); KEEPALIVE counts as sending (R452); a stream is subscribed, a snapshot returned (R461);
an end-to-end timer expires once (R465; REACTION 0 here). The reasons of R443 are the model's choice (log
entries 28 and 131). What of this is the model's own choice or reading stands in log entries 28, 58, 131 and
136. -/
def Obligations.SessionsComplete : Prop :=
  (∀ (t c : Nat) (tls : TlsIn) (s : State),
    Room s →
    ∃ u, exec (.tlsHandshake t c tls) s = .next u ∧
    (s.tlsFault tls = 0 → RegsExact [] s u ∧ u.mirror = s.mirror) ∧
    (s.tlsFault tls ≠ 0 → Logged s u 0x9043 [(c : Int), ((s.tlsFault tls : Nat) : Int)]) ∧
    u.ses = s.ses ∧
    RegsKept [] s u) ∧
  (∀ (t k : Nat) (h : HelloIn) (s : State),
    s.hmp.waitRuck = false → carries h = true → h.carrier ≠ 11 ∨ s.pwr.svc = true → s.helloAgain h = none → s.rd
      R.HMP_STAT_SOURCE ≠ 0 → h.services.any (fun p => p.1 = 1 && (agreeVersion p.1 p.2).isNone) = false →
      (agreeAll h.services).isEmpty = false → s.mode ≠ Mode.WALK_HOME ∨ grantClass (s.limitsFor h) h.cls = 0 →
      ((List.range 256).find? (fun (x : Nat) => (look s.ses.open_ x).isNone)) = some k → s.ses.open_.length < 256
      → s.classCount (grantClass (s.limitsFor h) h.cls) < s.rd (R.SES_CLASS_CFG_MAX (grantClass (s.limitsFor h)
      h.cls)) → Room s →
    ∃ u, exec (.hello t h) s = .next u ∧
    (look u.ses.open_ k).map (fun (x : SessionS) => { x with recent := [] }) = some
      { num := s.freeNumber, cls := grantClass (s.limitsFor h) h.cls, carrier := h.carrier, peer := h.peer, tcp := h.tcp, timeout := (if h.timeout = 0 then 10 else h.timeout), lastRx := max s.now t, agreed := agreeAll h.services, udp := if h.tcp = true ∨ h.carrier = 10 then none else some (h.addr, h.port) }
      ∧
    Sent u (.session s.freeNumber) Res.OK (s.helloReply h s.freeNumber (grantClass (s.limitsFor h) h.cls) (if
      h.timeout = 0 then 10 else h.timeout)) ∧
    u.rd (R.SES_S_STAT_SESSION k) = s.freeNumber ∧
    u.rd (R.SES_S_STAT_CLASS k) = grantClass (s.limitsFor h) h.cls ∧
    u.rd R.SES_STAT_OPEN = u.ses.open_.length ∧
    Logged s u 0x9040 [(s.freeNumber : Int), ((grantClass (s.limitsFor h) h.cls : Nat) : Int), (h.carrier :
      Int)] ∧
    RegsKept [R.SES_S_STAT_SESSION k, R.SES_S_STAT_CLASS k, R.SES_S_STAT_CARRIER k, R.SES_S_STAT_PEER k,
      R.SES_S_STAT_E2E k, R.SES_STAT_OPEN] s u) ∧
  (∀ (t : Nat) (h : HelloIn) (s : State),
    s.hmp.waitRuck = false → carries h = true → h.carrier ≠ 11 ∨ s.pwr.svc = true → s.helloAgain h = none → s.rd
      R.HMP_STAT_SOURCE ≠ 0 → h.services.any (fun p => p.1 = 1 && (agreeVersion p.1 p.2).isNone) = false →
      (agreeAll h.services).isEmpty = false → s.mode ≠ Mode.WALK_HOME ∨ grantClass (s.limitsFor h) h.cls = 0 →
      s.rd (R.SES_CLASS_CFG_MAX (grantClass (s.limitsFor h) h.cls)) ≤ s.classCount (grantClass (s.limitsFor h)
      h.cls) → Room s →
    ∃ u, exec (.hello t h) s = .next u ∧
    u.ses = s.ses ∧
    u.rd R.SES_STAT_REFUSED = satInc 0xFFFF (s.rd R.SES_STAT_REFUSED) ∧
    Logged s u 0x9043 [(h.carrier : Int), 4] ∧
    Sent u (.session 0) 4 [] ∧
    RegsKept [R.SES_STAT_REFUSED] s u) ∧
  (∀ (t n : Nat) (m : MsgIn) (s : State),
    n ≠ 0 → m.framed (s.mostBytes n) = true → s.repeated n m = none → s.msgRefusal n 0x0001 m = none → Room s →
    ∃ u, exec (.bye t n m) s = .next u ∧
    u.session? n = none ∧
    u.ses.gate = s.ses.gate ∧
    Sent u (.session n) Res.OK [] ∧
    Logged s u 0x9041 [(n : Int), 0] ∧
    RegsKept [R.SES_S_STAT_SESSION (s.sessionSlot n), R.SES_S_STAT_CLASS (s.sessionSlot n), R.SES_S_STAT_CARRIER
      (s.sessionSlot n), R.SES_S_STAT_PEER (s.sessionSlot n), R.SES_S_STAT_IDLE (s.sessionSlot n),
      R.SES_S_STAT_E2E (s.sessionSlot n), R.SES_STAT_OPEN] s u) ∧
  (∀ (t n : Nat) (m : MsgIn) (s : State),
    n ≠ 0 → m.framed (s.mostBytes n) = true → s.repeated n m = none → s.msgRefusal n 0x0001 m = none →
    ∃ u, exec (.keepalive t n m) s = .next u ∧
    (u.session? n).map (fun (x : SessionS) => x.lastRx) = some (max s.now t) ∧
    u.ses.open_.length = s.ses.open_.length ∧
    Sent u (.session n) Res.OK [] ∧
    RegsExact [] s u) ∧
  (∀ (t n : Nat) (x : SessionS) (s : State),
    s.session? n = some x → x.lastRx + x.timeout * 1000000000 ≤ max s.now t → Room s →
    ∃ u, exec (.sessionTimeout t n) s = .next u ∧
    u.session? n = none ∧
    u.ses.gate = s.ses.gate ∧
    Logged s u 0x9041 [(n : Int), 1] ∧
    RegsKept [R.SES_S_STAT_SESSION (s.sessionSlot n), R.SES_S_STAT_CLASS (s.sessionSlot n), R.SES_S_STAT_CARRIER
      (s.sessionSlot n), R.SES_S_STAT_PEER (s.sessionSlot n), R.SES_S_STAT_IDLE (s.sessionSlot n),
      R.SES_S_STAT_E2E (s.sessionSlot n), R.SES_STAT_OPEN] s u) ∧
  (∀ (t n : Nat) (x : SessionS) (s : State),
    s.session? n = some x → x.tcp = true → Room s →
    ∃ u, exec (.sesConnectionClosed t n) s = .next u ∧
    u.session? n = none ∧
    u.ses.gate = s.ses.gate ∧
    Logged s u 0x9041 [(n : Int), 2] ∧
    RegsKept [R.SES_S_STAT_SESSION (s.sessionSlot n), R.SES_S_STAT_CLASS (s.sessionSlot n), R.SES_S_STAT_CARRIER
      (s.sessionSlot n), R.SES_S_STAT_PEER (s.sessionSlot n), R.SES_S_STAT_IDLE (s.sessionSlot n),
      R.SES_S_STAT_E2E (s.sessionSlot n), R.SES_STAT_OPEN] s u) ∧
  (∀ (t n : Nat) (m : MsgIn) (x : SessionS) (s : State),
    s.session? n = some x → x.tcp = true → m.framed (s.mostBytes n) = false → Room s →
    ∃ u, exec (.badMessage t n m) s = .next u ∧
    u.session? n = none ∧
    Logged s u 0x9041 [(n : Int), 2] ∧
    u.answers = [] ∧
    RegsKept [R.SES_S_STAT_SESSION (s.sessionSlot n), R.SES_S_STAT_CLASS (s.sessionSlot n), R.SES_S_STAT_CARRIER
      (s.sessionSlot n), R.SES_S_STAT_PEER (s.sessionSlot n), R.SES_S_STAT_IDLE (s.sessionSlot n),
      R.SES_S_STAT_E2E (s.sessionSlot n), R.SES_STAT_OPEN] s u) ∧
  (∀ (t n : Nat) (m : MsgIn) (s : State),
    m.framed (s.mostBytes n) = true ∨ s.ses.open_.any (fun p => p.2.num = n && p.2.tcp) = false →
    ∃ u, exec (.badMessage t n m) s = .next u ∧
    u.ses = s.ses ∧
    u.answers = [] ∧
    RegsExact [] s u) ∧
  (∀ (t n st every : Nat) (m : MsgIn) (x : SessionS) (s : State),
    n ≠ 0 → s.session? n = some x → m.framed (s.mostBytes n) = true → s.repeated n m = none → s.msgRefusal n
      0x0012 m = none → st ∉ x.streams → x.streams.length < 32 →
    ∃ u, exec (.streamSubscribe t n m st every) s = .next u ∧
    (u.session? n).map (fun (y : SessionS) => y.streams) = some (x.streams ++ [st]) ∧
    (every ≤ 1 → (u.session? n).map (fun (y : SessionS) => y.every) = some x.every) ∧
    (1 < every → (u.session? n).map (fun (y : SessionS) => y.every) = some (ins x.every st (every, 0))) ∧
    Sent u (.session n) Res.OK [] ∧
    RegsExact [] s u) ∧
  (∀ (t n c o : Nat) (m : MsgIn) (f : List Int) (s : State),
    n ≠ 0 → m.framed (s.mostBytes n) = true → s.repeated n m = none → s.msgRefusal n 0x0012 m = none → s.classOf
      n ≠ Cls.FLEET → s.rd (R.ISP_OUT_DEST c o) = 2 → s.snapshotFrame c o = some f →
    ∃ u, exec (.snapshotRequest t n m c o) s = .next u ∧
    Sent u (.session n) Res.OK f ∧
    u.cams = s.cams ∧
    RegsExact [] s u) ∧
  (∀ (t n id : Nat) (a : AliveS) (d : DataIdS) (s : State),
    s.aliveOf n id = some a → s.ses.cfg.dataIds.find? (fun (x : DataIdS) => x.id = id) = some d → a.expired =
      false → a.lastOk + d.timeout * 1000000 ≤ max s.now t → d.reaction = 0 → Room s →
    ∃ u, exec (.e2eTimeout t n id) s = .next u ∧
    (u.aliveOf n id).map (fun (x : AliveS) => x.expired) = some true ∧
    u.fn = s.fn ∧
    Logged s u 0x9045 [(n : Int), (id : Int), 0] ∧
    RegsKept [] s u)

/-- Chapters 13 and 00, objects: a read returns the fields named, in order, NO_OBJECT, or, for another unit, goes
out to it and comes back with its answer (R458, R459; how a relayed entry is answered is the model's operand,
log entry 131); a write is judged by its class and the field's access code (R13, R14, R454): RW-live takes
effect at once under end-to-end protection and enters the amendment list (R462, R486), RO and TH answer ACCESS,
RW-stop answers NOT_LIVE, NEXT enters the list in SERVICE with the running value unchanged (R487) and is
NOT_LIVE outside it; MAX is written from RESERVE up, no session being evicted (R457). What of this is the
model's own choice or reading stands in log entries 4, 107 and 131. -/
def Obligations.ObjectsComplete : Prop :=
  (∀ (t n : Nat) (m : MsgIn) (e : ObjIn) (s : State),
    n ≠ 0 → m.framed (s.mostBytes n) = true → s.repeated n m = none → s.msgRefusal n 0x0010 m = none → e.unit =
      s.role.unit → entryKeys e.index e.sub ≠ [] → s.classCut (s.classOf n) e.index 0 = false →
    ∃ u, exec (.objectRead t n m [e]) s = .next u ∧
    Sent u (.session n) Res.OK (((s.begin t).touch n).entryValues e.index e.sub) ∧
    RegsExact [] s u) ∧
  (∀ (t n : Nat) (m : MsgIn) (e : ObjIn) (s : State),
    n ≠ 0 → m.framed (s.mostBytes n) = true → s.repeated n m = none → s.msgRefusal n 0x0010 m = none → e.unit =
      s.role.unit → entryKeys e.index e.sub = [] →
    ∃ u, exec (.objectRead t n m [e]) s = .next u ∧
    Sent u (.session n) Res.NO_OBJECT [(e.unit : Int), (e.index : Int), (e.sub : Int)] ∧
    RegsExact [] s u) ∧
  (∀ (t n : Nat) (m : MsgIn) (e : ObjIn) (s : State),
    n ≠ 0 → m.framed (s.mostBytes n) = true → s.repeated n m = none → s.msgRefusal n 0x0010 m = none → e.unit ≠
      s.role.unit → s.reaches e.unit = true → s.classCut (s.classOf n) e.index 0 = false →
    ∃ u, exec (.objectRead t n m [e]) s = .next u ∧
    Sent u (.trunk 0) 0x10 [(e.unit : Int), (e.index : Int), (e.sub : Int), (n : Int)] ∧
    Sent u (.session n) e.remote.1 e.remote.2 ∧
    RegsExact [] s u) ∧
  (∀ (t n v : Nat) (m : MsgIn) (e : ObjIn) (d : FieldDesc) (s : State),
    n ≠ 0 → m.framed (s.mostBytes n) = true → s.repeated n m = none → s.msgRefusal n 0x0010 m = none → e.unit =
      s.role.unit → e.sub < 256 → fieldOf (e.index * 256 + e.sub) = some d → s.mayWrite n (e.index * 256 + e.sub)
      d.acc = true → s.configured = true → d.acc = .rwLive → e.index < 0x6101 ∨ 0x6110 < e.index → (s.protect n
      m).1 = Res.OK → s.served = true → d.admits (d.given v) = true → s.liveRule (e.index * 256 + e.sub) (d.given
      v) = true → s.amend.length < 256 →
    ∃ u, exec (.objectWrite t n m [(e, v)]) s = .next u ∧
    u.rd (e.index * 256 + e.sub) = d.given v ∧
    ({ unit := s.role.unit, kind := 1, key := (e.index * 256 + e.sub), value := d.given v } : AmendS) ∈ u.amend
      ∧
    Sent u (.session n) Res.OK []) ∧
  (∀ (t n v : Nat) (m : MsgIn) (e : ObjIn) (d : FieldDesc) (s : State),
    n ≠ 0 → m.framed (s.mostBytes n) = true → s.repeated n m = none → s.msgRefusal n 0x0010 m = none → e.unit =
      s.role.unit → e.sub < 256 → fieldOf (e.index * 256 + e.sub) = some d → s.mayWrite n (e.index * 256 + e.sub)
      d.acc = true → s.configured = true → d.acc = .ro ∨ d.acc = .th → Room s →
    ∃ u, exec (.objectWrite t n m [(e, v)]) s = .next u ∧
    Sent u (.session n) Res.ACCESS [] ∧
    u.amend = s.amend ∧
    (d.acc = .ro → RegsExact [] s u) ∧
    (d.acc = .th → Logged s u 0x1023 [(e.index : Int), (e.sub : Int)]) ∧
    RegsKept [] s u) ∧
  (∀ (t n v : Nat) (m : MsgIn) (e : ObjIn) (d : FieldDesc) (s : State),
    n ≠ 0 → m.framed (s.mostBytes n) = true → s.repeated n m = none → s.msgRefusal n 0x0010 m = none → e.unit =
      s.role.unit → e.sub < 256 → fieldOf (e.index * 256 + e.sub) = some d → s.mayWrite n (e.index * 256 + e.sub)
      d.acc = true → s.configured = true → d.acc = .next → s.mode = Mode.SERVICE → s.nextOk (e.index * 256 +
      e.sub) (d.given v) d = true → s.amend.length < 256 →
    ∃ u, exec (.objectWrite t n m [(e, v)]) s = .next u ∧
    ({ unit := s.role.unit, kind := 2, key := (e.index * 256 + e.sub), value := d.given v } : AmendS) ∈ u.amend
      ∧
    Sent u (.session n) Res.OK [] ∧
    RegsExact [R.HMP_LIST_ENTRIES] s u) ∧
  (∀ (t n v : Nat) (m : MsgIn) (e : ObjIn) (d : FieldDesc) (s : State),
    n ≠ 0 → m.framed (s.mostBytes n) = true → s.repeated n m = none → s.msgRefusal n 0x0010 m = none → e.unit =
      s.role.unit → e.sub < 256 → fieldOf (e.index * 256 + e.sub) = some d → s.mayWrite n (e.index * 256 + e.sub)
      d.acc = true → s.configured = true → d.acc = .rwStop ∨ d.acc = .next ∧ s.mode ≠ Mode.SERVICE → Room s →
    ∃ u, exec (.objectWrite t n m [(e, v)]) s = .next u ∧
    Sent u (.session n) Res.NOT_LIVE [] ∧
    Logged s u 0x1023 [(e.index : Int), (e.sub : Int)] ∧
    u.amend = s.amend ∧
    RegsKept [] s u) ∧
  (∀ (t n c v : Nat) (s : State),
    n ≠ 0 → s.ses.open_.any (fun p => p.2.num = n) = true → s.turn n (.live (R.SES_CLASS_CFG_MAX c)) = true →
      s.mayLive n (R.SES_CLASS_CFG_MAX c) = true → c ≤ 4 → s.served = true → s.rd (R.SES_CLASS_CFG_RESERVE c) ≤ v
      → v ≤ 255 → s.amend.length < 256 →
    ∃ u, exec (.sesMaxWrite t n c v) s = .next u ∧
    u.rd (R.SES_CLASS_CFG_MAX c) = v ∧
    ({ unit := s.role.unit, kind := 1, key := R.SES_CLASS_CFG_MAX c, value := v } : AmendS) ∈ u.amend ∧
    u.ses.open_ = s.ses.open_ ∧
    u.ses.gate = dropReq n (.live (R.SES_CLASS_CFG_MAX c)) s.ses.gate ∧
    Sent u (.session n) Res.OK [] ∧
    RegsExact [R.SES_CLASS_CFG_MAX c, R.HMP_LIST_ENTRIES] s u) ∧
  (∀ (t n c v : Nat) (s : State),
    n ≠ 0 → s.ses.open_.any (fun p => p.2.num = n) = true → s.turn n (.live (R.SES_CLASS_CFG_MAX c)) = true →
      s.mayLive n (R.SES_CLASS_CFG_MAX c) = true → s.served = true → v < s.rd (R.SES_CLASS_CFG_RESERVE c) ∨ 255 <
      v →
    ∃ u, exec (.sesMaxWrite t n c v) s = .next u ∧
    Sent u (.session n) Res.VALUE [] ∧
    u.amend = s.amend ∧
    u.ses.open_ = s.ses.open_ ∧
    RegsExact [] s u)

/-- Chapter 14: the key's presence is shown and its changes logged (R470); a SERVICE session's image is judged and
its write begun, or refused with the check it fails or the other machine's name (R473, R478, R489, R490); the
write's end shows PENDING and is logged (R490); the shadow copy is written back (R482); a NEXT field enters the
amendment list or finds it full (R486, R487); operator limits are live (R484, R485); a Rucksack is sent, taken,
turned down or relayed, and the third failure gives the worker up (R491, R492). A write for another unit goes
out to it and is answered with its answer (the model's operand, log entry 131). What of this is the model's own
choice or reading stands in log entries 16, 28, 50, 84, 86 and 110. -/
def Obligations.HamperComplete : Prop :=
  (∀ (t : Nat) (k : KeyIn) (s : State),
    s.mode ≠ Mode.OFF → s.mode ≠ Mode.SLEEP → s.hmp.sensedAt.all (fun (x : Nat) => x + 1000000000 ≤ max s.now t)
      = true → s.rd R.HMP_STAT_KEY ≠ 1 → Room s →
    ∃ u, exec (.keySense t (some k)) s = .next u ∧
    u.hmp = { s.hmp with key := some k, sensedAt := some (max s.now t) } ∧
    u.rd R.HMP_STAT_KEY = 1 ∧
    Logged s u 0xA002 [((k.uid % 2 ^ 32 : Nat) : Int)] ∧
    RegsKept [R.HMP_STAT_KEY] s u) ∧
  (∀ (t : Nat) (s : State),
    s.mode ≠ Mode.OFF → s.mode ≠ Mode.SLEEP → s.hmp.sensedAt.all (fun (x : Nat) => x + 1000000000 ≤ max s.now t)
      = true → s.rd R.HMP_STAT_KEY = 1 → Room s →
    ∃ u, exec (.keySense t none) s = .next u ∧
    u.hmp = { s.hmp with key := none, sensedAt := some (max s.now t) } ∧
    u.rd R.HMP_STAT_KEY = 0 ∧
    Logged s u 0xA001 [(s.mode : Int)] ∧
    RegsKept [R.HMP_STAT_KEY] s u) ∧
  (∀ (t n w : Nat) (i : ImageIn) (nm : Bool) (ans : Nat × List Int) (s : State),
    n ≠ 0 → s.svcRefusal n 0x0030 [Cls.SERVICE] true = none → w = s.role.unit → s.writeMode = true →
      s.hmp.key.isSome = true → s.rd R.HMP_STAT_WRITING ≠ 1 → s.offerFault i = none → s.machineOk i nm = true →
    ∃ u, exec (.hamperWrite t n w i nm ans) s = .next u ∧
    u.hmp = { s.hmp with writing := some (i, n) } ∧
    u.rd R.HMP_STAT_WRITING = 1 ∧
    Sent u (.session n) Res.OK [] ∧
    RegsExact [R.HMP_STAT_WRITING] s u) ∧
  (∀ (t n w : Nat) (i : ImageIn) (nm : Bool) (ans : Nat × List Int) (s : State),
    n ≠ 0 → s.svcRefusal n 0x0030 [Cls.SERVICE] true = none → w = s.role.unit → s.writeMode = true →
      s.hmp.key.isSome = true → s.rd R.HMP_STAT_WRITING ≠ 1 → s.offerFault i = none → s.machineOk i nm = false →
      Room s →
    ∃ u, exec (.hamperWrite t n w i nm ans) s = .next u ∧
    u.hmp = s.hmp ∧
    Sent u (.session n) 0xA007 [] ∧
    Logged s u 0xA007 [(i.machineId : Int)] ∧
    RegsKept [] s u) ∧
  (∀ (t n w c o : Nat) (i : ImageIn) (nm : Bool) (ans : Nat × List Int) (s : State),
    n ≠ 0 → s.svcRefusal n 0x0030 [Cls.SERVICE] true = none → w = s.role.unit → s.writeMode = true →
      s.hmp.key.isSome = true → s.rd R.HMP_STAT_WRITING ≠ 1 → s.offerFault i = some (c, o) → Room s →
    ∃ u, exec (.hamperWrite t n w i nm ans) s = .next u ∧
    u.hmp = s.hmp ∧
    Sent u (.session n) 0xA003 [] ∧
    Logged s u 0xA003 [(c : Int), (o : Int)] ∧
    RegsKept [] s u) ∧
  (∀ (t n w : Nat) (i : ImageIn) (nm : Bool) (ans : Nat × List Int) (s : State),
    n ≠ 0 → s.svcRefusal n 0x0030 [Cls.SERVICE] true = none → w ≠ s.role.unit → s.reaches w = true →
    ∃ u, exec (.hamperWrite t n w i nm ans) s = .next u ∧
    u.hmp = s.hmp ∧
    Sent u (.trunk 0) 0x31 [(w : Int), (n : Int)] ∧
    Sent u (.session n) ans.1 ans.2 ∧
    RegsExact [] s u) ∧
  (∀ (t n : Nat) (ok : Bool) (i : ImageIn) (s : State),
    s.hmp.writing = some (i, n) → Room s →
    ∃ u, exec (.hmpWrite t ok) s = .next u ∧
    u.hmp.writing = none ∧
    u.hmp.key.map (fun k => k.image) = s.hmp.key.map (fun _ => if ok = true then i else noHeader i) ∧
    u.rd R.HMP_STAT_PENDING = 1 ∧
    u.rd R.HMP_STAT_WRITING = 0 ∧
    Logged s u 0xA005 [(bit01 (!ok) : Int), (i.generation : Int)] ∧
    RegsKept [R.HMP_STAT_PENDING, R.HMP_STAT_WRITING] s u) ∧
  (∀ (t n : Nat) (h : KeyIn) (s : State),
    n ≠ 0 → s.svcRefusal n 0x0030 [Cls.SERVICE] = none → s.mode = Mode.SERVICE → s.hmp.key.isSome = true → s.rd
      R.HMP_STAT_WRITING ≠ 1 → s.hmp.shadow = some h →
    ∃ u, exec (.shadowWriteBack t n) s = .next u ∧
    u.hmp.writing = some ({ h.image with packs := [] }, n) ∧
    u.rd R.HMP_STAT_WRITING = 1 ∧
    Sent u (.session n) Res.OK [] ∧
    RegsExact [R.HMP_STAT_WRITING] s u) ∧
  (∀ (t n i j v : Nat) (d : FieldDesc) (s : State),
    n ≠ 0 → s.svcRefusal n 0x0010 [Cls.MONITOR, Cls.OPERATOR, Cls.MACHINE, Cls.SERVICE, Cls.FLEET] = none → j <
      256 → fieldOf (i * 256 + j) = some d → s.mayWrite n (i * 256 + j) d.acc = true → d.acc = .next → s.mode =
      Mode.SERVICE → s.nextOk (i * 256 + j) v d = true → s.amend.length < 256 →
    ∃ u, exec (.nextFieldWrite t n i j v) s = .next u ∧
    ({ unit := s.role.unit, kind := 2, key := i * 256 + j, value := v } : AmendS) ∈ u.amend ∧
    Sent u (.session n) Res.OK [] ∧
    RegsExact [R.HMP_LIST_ENTRIES] s u) ∧
  (∀ (t n i j v : Nat) (d : FieldDesc) (s : State),
    n ≠ 0 → s.svcRefusal n 0x0010 [Cls.MONITOR, Cls.OPERATOR, Cls.MACHINE, Cls.SERVICE, Cls.FLEET] = none → j <
      256 → fieldOf (i * 256 + j) = some d → s.mayWrite n (i * 256 + j) d.acc = true → d.acc = .next → s.mode =
      Mode.SERVICE → s.nextOk (i * 256 + j) v d = true → s.amendRoom (i * 256 + j) = false → Room s →
    ∃ u, exec (.nextFieldWrite t n i j v) s = .next u ∧
    u.amend = s.amend ∧
    Sent u (.session n) 0xA00A [] ∧
    Logged s u 0xA00A [(i : Int), (j : Int), (n : Int)] ∧
    RegsKept [] s u) ∧
  (∀ (t n f i v : Nat) (mx : Bool) (s : State),
    n ≠ 0 → s.ses.open_.any (fun p => p.2.num = n) = true → s.turn n (.live (if mx = true then
      R.FN_SP_OPLIM_OPMAX f i else R.FN_SP_OPLIM_OPMIN f i)) = true → s.mayLive n (if mx = true then
      R.FN_SP_OPLIM_OPMAX f i else R.FN_SP_OPLIM_OPMIN f i) = true → f < 48 → i < 16 → s.served = true →
      s.liveRule (if mx = true then R.FN_SP_OPLIM_OPMAX f i else R.FN_SP_OPLIM_OPMIN f i) v = true →
      s.amend.length < 256 →
    ∃ u, exec (.oplimWrite t n f i mx v) s = .next u ∧
    u.rd (if mx = true then R.FN_SP_OPLIM_OPMAX f i else R.FN_SP_OPLIM_OPMIN f i) = v ∧
    ({ unit := s.role.unit, kind := 1, key := (if mx = true then R.FN_SP_OPLIM_OPMAX f i else R.FN_SP_OPLIM_OPMIN f i), value := v }
      : AmendS) ∈ u.amend ∧
    Sent u (.session n) Res.OK [] ∧
    u.ses.gate = dropReq n (.live (if mx = true then R.FN_SP_OPLIM_OPMAX f i else R.FN_SP_OPLIM_OPMIN f i))
      s.ses.gate) ∧
  (∀ (t n f i v : Nat) (mx : Bool) (s : State),
    n ≠ 0 → s.ses.open_.any (fun p => p.2.num = n) = true → s.turn n (.live (if mx = true then
      R.FN_SP_OPLIM_OPMAX f i else R.FN_SP_OPLIM_OPMIN f i)) = true → s.mayLive n (if mx = true then
      R.FN_SP_OPLIM_OPMAX f i else R.FN_SP_OPLIM_OPMIN f i) = true → f < 48 → i < 16 → s.served = true →
      s.liveRule (if mx = true then R.FN_SP_OPLIM_OPMAX f i else R.FN_SP_OPLIM_OPMIN f i) v = false →
    ∃ u, exec (.oplimWrite t n f i mx v) s = .next u ∧
    u.amend = s.amend ∧
    Sent u (.session n) Res.VALUE [] ∧
    RegsExact [] s u) ∧
  (∀ (t unit fw ms p : Nat) (i : ImageIn) (s : State),
    s.isWorker = false → s.configured = true → s.rst.held = false → 9 ≤ s.rst.step → unit ∉ s.md.givenUp →
      s.ruckPort unit = some p → s.hmp.image = some i → Room s →
    ∃ u, exec (.rucksackSend t unit fw ms) s = .next u ∧
    unit ∈ u.md.running ∧
    look u.hmp.sent unit = some (max s.now t) ∧
    Sent u (.trunk p) 0x55 [(unit : Int), ((28 + fw + 320 + i.cfgLen : Nat) : Int)] ∧
    Logged s u 0xA011 [(unit : Int), ((28 + fw + 320 + i.cfgLen : Nat) : Int), (ms : Int)] ∧
    RegsKept [] s u) ∧
  (∀ (t : Nat) (k : RuckIn) (s : State),
    s.hmp.waitRuck = true → k.unit = s.role.unit → s.ruckFault k = 0 →
    ∃ u, exec (.rucksackRx t k) s = .next u ∧
    u.hmp.waitRuck = false ∧
    u.hmp.ruckFw = some k.man.version ∧
    u.role.role = 1 ∧
    u.role.unit = s.role.unit ∧
    u.rst.step = 9) ∧
  (∀ (t : Nat) (k : RuckIn) (s : State),
    s.hmp.waitRuck = true → k.unit = s.role.unit → s.ruckFault k ≠ 0 →
    ∃ u, exec (.rucksackRx t k) s = .next u ∧
    Sent u (.trunk ((s.upstream).getD 0)) 0xA010 [(s.role.unit : Int), (s.ruckFault k : Int)] ∧
    u.hmp = s.hmp ∧
    RegsExact [] s u) ∧
  (∀ (t p : Nat) (k : RuckIn) (s : State),
    s.isWorker = true → k.unit ≠ s.role.unit → s.relayPort k.unit = some p →
    ∃ u, exec (.rucksackRx t k) s = .next u ∧
    Sent u (.trunk p) 0x55 [(k.unit : Int), ((28 + k.fwLen + 320 + k.image.cfgLen : Nat) : Int)] ∧
    u.hmp = s.hmp ∧
    RegsExact [] s u) ∧
  (∀ (t unit cause : Nat) (s : State),
    s.isWorker = false → unit ∉ s.md.givenUp → (look s.hmp.sent unit).isSome = true → (look s.hmp.fails
      unit).getD 0 < 2 → Room s →
    ∃ u, exec (.ruckBad t unit cause) s = .next u ∧
    look u.hmp.fails unit = some ((look s.hmp.fails unit).getD 0 + 1) ∧
    unit ∉ u.md.running ∧
    u.md.givenUp = s.md.givenUp ∧
    Logged s u 0xA010 [(unit : Int), (cause : Int), 0] ∧
    RegsKept [] s u) ∧
  (∀ (t unit cause : Nat) (s : State),
    s.isWorker = false → unit ∉ s.md.givenUp → (look s.hmp.sent unit).isSome = true → 2 ≤ (look s.hmp.fails
      unit).getD 0 → Room s →
    ∃ u, exec (.ruckBad t unit cause) s = .next u ∧
    unit ∈ u.md.givenUp ∧
    unit ∉ u.md.running ∧
    (∀ f ∈ List.range 48, s.fnUsed f = true → s.rd (R.FN_CFG_UNIT f) = unit → 4 ∈ (u.fnS f).causes) ∧
    Logged s u 0xA010 [(unit : Int), (cause : Int), 1])

/-- Chapter 15, the supply: over-voltage is shown and logged once (R496); crank entry cuts the data plane, the
radios and field-node power without a change of mode (R496, R497, Tables 15.3 and 15.4), its end is logged with
its length and lowest VBAT, and a crank of 1 s is a cause of SAFE_STOP (R497, R498, R512); the Thermos sequence
ends in OFF (R516, R523); a sensor supply trips and is retried (R500); the core rail follows PACE in HARVEST and
Table 15.3 elsewhere (R501); temperatures are shown and 135 °C is a cause of SAFE_STOP (R504, R512); the Thermos
test (R514). What of this is the model's own choice or reading stands in log entries 14 and 77. -/
def Obligations.SupplyComplete : Prop :=
  (∀ (t v h : Nat) (s : State),
    36000 < v → 1000000 ≤ h → s.pwr.ovLogged = false → s.powered = true → Room s →
    ∃ u, exec (.pwrOv t v h) s = .next u ∧
    u.rd R.PWR_STAT_OV = 1 ∧
    u.pwr.ovLogged = true ∧
    u.rd R.PWR_STAT_VBAT = min 0xFFFF v ∧
    Logged s u 0xB001 [(v : Int)] ∧
    RegsKept [R.PWR_STAT_OV, R.PWR_STAT_VBAT] s u) ∧
  (∀ (t v h : Nat) (s : State),
    36000 < v → h < 1000000 ∨ s.pwr.ovLogged = true →
    ∃ u, exec (.pwrOv t v h) s = .next u ∧
    u.rd R.PWR_STAT_OV = 1 ∧
    u.rd R.PWR_STAT_VBAT = min 0xFFFF v ∧
    u.mirror = s.mirror ∧
    RegsExact [R.PWR_STAT_OV, R.PWR_STAT_VBAT] s u) ∧
  (∀ (t v h : Nat) (s : State),
    v ≤ 36000 →
    ∃ u, exec (.pwrOv t v h) s = .next u ∧
    u.rd R.PWR_STAT_OV = 0 ∧
    u.pwr.ovLogged = false ∧
    u.rd R.PWR_STAT_VBAT = min 0xFFFF v ∧
    RegsExact [R.PWR_STAT_OV, R.PWR_STAT_VBAT] s u) ∧
  (∀ (t v h : Nat) (s : State),
    s.mode ≠ Mode.OFF → s.mode ≠ Mode.SLEEP → 2000000 ≤ h → s.mode ≠ Mode.TRAILHEAD → s.rst.held = false → s.rd
      R.PWR_STAT_CRANK ≠ 1 → v < 9000 →
    ∃ u, exec (.crankEntry t v h) s = .next u ∧
    u.rd R.PWR_STAT_CRANK = 1 ∧
    u.pwr.crankAt = some (max s.now t) ∧
    u.pwr.crankMin = v ∧
    u.mode = s.mode ∧
    u.rd R.PWR_STAT_CORE = 130 ∧
    u.rd R.PWR_STAT_PD = 9615 ∧
    u.rd R.OBS_STAT_RUN ≠ 1 ∧
    u.gn.on = false ∧
    (∀ p ∈ List.range 13, 1 ≤ p → u.rd (R.FNP_STAT_STATE p) = 0)) ∧
  (∀ (t v lo h c : Nat) (s : State),
    s.pwr.crankAt = some c → 9500 ≤ v → 100000000 ≤ h → s.pwr.crankLong = false → c ≤ max s.now t → Room s →
    ∃ u, exec (.pwrCrank t v lo h) s = .next u ∧
    u.rd R.PWR_STAT_CRANK = 0 ∧
    u.pwr.crankAt = none ∧
    u.pwr.crankMin = min s.pwr.crankMin lo ∧
    u.rd R.PWR_STAT_VBAT = min 0xFFFF v ∧
    u.mode = s.mode ∧
    Logged s u 0xB002 [(((max s.now t - c) / 1000000 : Nat) : Int), ((min s.pwr.crankMin lo : Nat) : Int)]) ∧
  (∀ (t lo c : Nat) (s : State),
    s.pwr.crankAt = some c → c + 1000000000 ≤ max s.now t → s.pwr.crankLong = false → s.isWorker = false → Room
      s →
    ∃ u, exec (.pwrCrankLong t lo) s = .next u ∧
    u.pwr.crankLong = true ∧
    u.hasCause Cause.crankLong = true ∧
    u.md.wanted = true ∧
    u.mode = s.mode ∧
    Logged s u 0xB003 [((min s.pwr.crankMin lo : Nat) : Int)] ∧
    RegsKept [R.MODE_STAT_CAUSES] s u) ∧
  (∀ (t lo h : Nat) (fd : Bool) (s : State),
    s.mode ≠ Mode.OFF → lo < 6000 → 1000000 < h →
    ∃ u, exec (.thermosStart t lo h fd) s = .next u ∧
    u.mode = Mode.OFF ∧
    u.rst.brownOut = true ∧
    u.rst.noFinal = (!(fd || s.flag R.PWR_STAT_THERMOS_OK)) ∧
    u.bb.queue = [] ∧
    u.rd R.PWR_STAT_CORE = 0 ∧
    u.rd R.PWR_STAT_PD = 0 ∧
    u.fn = [] ∧
    u.ses.open_ = []) ∧
  (∀ (t q h : Nat) (s : State),
    1 ≤ q → q ≤ 4 → 10000000 ≤ h → bitOf (s.begin t).domains 13 = true → bitOf (s.rd R.PWR_STAT_SENS) (q - 1) =
      false → (look s.pwr.supAt q).all (fun (x : Nat) => x + 10000000000 ≤ max s.now t) = true → Room s →
    ∃ u, exec (.pwrSens t q h) s = .next u ∧
    u.rd R.PWR_STAT_SENS = setBit (s.rd R.PWR_STAT_SENS) (q - 1) true ∧
    look u.pwr.supAt q = some (max s.now t) ∧
    look u.pwr.supTrips q = some ((look s.pwr.supTrips q).getD 0 + 1) ∧
    Logged s u 0xB004 [(q : Int)] ∧
    RegsKept [R.PWR_STAT_SENS] s u) ∧
  (∀ (t q a : Nat) (s : State),
    1 ≤ q → q ≤ 4 → bitOf (s.rd R.PWR_STAT_SENS) (q - 1) = true → look s.pwr.supAt q = some a → a + 1000000000 ≤
      max s.now t →
    ∃ u, exec (.sensRetry t q) s = .next u ∧
    u.rd R.PWR_STAT_SENS = setBit (s.rd R.PWR_STAT_SENS) (q - 1) false ∧
    look u.pwr.supAt q = some (max s.now t) ∧
    RegsExact [R.PWR_STAT_SENS] s u) ∧
  (∀ (t : Nat) (s : State),
    s.mode = Mode.HARVEST → s.rd R.PWR_STAT_CRANK ≠ 1 → (s.pwr.railAt).all (fun (x : Nat) => x + 10000000 ≤ max
      s.now t) = true →
    ∃ u, exec (.coreRailAdjust t) s = .next u ∧
    u.pwr.railAt = some (max s.now t) ∧
    u.rd R.PWR_STAT_CORE = max 120 (min s.railCeiling (max 140 (min 180 (if s.rd R.CORE_PACE < 0x1800 then min
      180 (s.rd R.PWR_STAT_CORE + 2) else if 0x1A00 < s.rd R.CORE_PACE then s.rd R.PWR_STAT_CORE - 2 else s.rd
      R.PWR_STAT_CORE)))) ∧
    RegsExact [R.PWR_STAT_CORE] s u) ∧
  (∀ (t : Nat) (s : State),
    s.mode ≠ Mode.HARVEST →
    ∃ u, exec (.coreRailAdjust t) s = .next u ∧
    u.rd R.PWR_STAT_CORE = s.railFor ∧
    RegsExact [R.PWR_STAT_CORE] s u) ∧
  (∀ (t se : Nat) (tj pl : Int) (s : State),
    -128 ≤ tj → tj ≤ 127 → 135 ≤ tj ∨ tj < 115 → 135 ≤ tj → s.hasCause Cause.junction = false → s.hasCause
      Cause.junction = false → s.isWorker = false → pl ≤ 85 → Room s →
    ∃ u, exec (.pwrTemp t se tj pl) s = .next u ∧
    u.rd R.PWR_STAT_TJ = ofSigned 8 tj ∧
    u.rd R.PWR_STAT_PLATE = ofSigned 8 pl ∧
    u.hasCause Cause.junction = decide (135 ≤ tj) ∧
    (tj < 115 → RegsExact [R.PWR_STAT_TJ, R.PWR_STAT_PLATE, R.PWR_STAT_CORE] s u)) ∧
  (∀ (t se : Nat) (tj pl : Int) (s : State),
    135 ≤ tj → tj ≤ 255 → s.hasCause Cause.junction = false → s.isWorker = false → Room s →
    ∃ u, exec (.pwrTemp t se tj pl) s = .next u ∧
    u.hasCause Cause.junction = true ∧
    u.md.wanted = true ∧
    Logged s u 0xB005 [(se : Int), tj, 1] ∧
    (85 < pl → (s.begin t).mayLog 0xB005 1 10000000000 = true → Logged s u 0xB005 [(se : Int), pl, 2])) ∧
  (∀ (t se : Nat) (tj pl : Int) (s : State),
    115 ≤ tj → tj < 135 → toSigned 8 (s.rd R.PWR_STAT_TJ) < 115 → Room s →
    ∃ u, exec (.pwrTemp t se tj pl) s = .next u ∧
    Logged s u 0xB005 [(se : Int), tj, 0] ∧
    u.rd R.PWR_STAT_TJ = ofSigned 8 tj ∧
    u.md.wanted = s.md.wanted) ∧
  (∀ (t c : Nat) (ok : Bool) (s : State),
    s.mode ∉ [Mode.OFF, Mode.SLEEP, Mode.TRAILHEAD] → s.pwr.capAt + 86400000000000 ≤ max s.now t → Room s →
    ∃ u, exec (.thermosCapacityTest t ok c) s = .next u ∧
    u.pwr.capAt = max s.now t ∧
    u.rd R.PWR_STAT_THERMOS_OK = bit01 ok ∧
    (ok = false → Logged s u 0xB006 [(c : Int), 0]) ∧
    RegsKept [R.PWR_STAT_THERMOS_OK] s u)

/-- Chapter 15, modes: a request within Table 15.8, its class and its conditions starts the transition, in which the
functions the mode does not name stop and the workers are told (R506 to R509), is refused and logged otherwise,
and waits during a transition (02 R58); causes of SAFE_STOP start theirs (R512), reports of workers set and
clear one (R509, R512); a transition completes with MODE_CHANGE (R505, R507) or in SLEEP (R510); a worker
follows its manager (R509); SLEEP is entered after SLEEP_DELAY and left by a wake line (R510, R511); a bad
loaded section resets the core (R514). What of this is the model's own choice or reading stands in log entries
28, 42, 43, 82, 95 and 135. -/
def Obligations.ModesComplete : Prop :=
  (∀ (t n m c : Nat) (s : State),
    n ≠ 0 → s.ses.open_.any (fun p => p.2.num = n) = true → s.turn n (.mode m) = true → s.md.trans = none →
      s.isWorker = false → s.hmp.sizeHeld = false → s.rd R.UPD_STAT_STATE ≠ 5 → modeClass s.mode m = some c →
      s.classAtLeast n c = true → s.rd R.MODE_STAT_CAUSES = 0 ∨ m = Mode.SAFE_STOP → s.mode ≠ Mode.SERVICE ∨ s.rd
      R.HMP_STAT_WRITING ≠ 1 → m ≠ Mode.WALK_HOME ∨ s.rd R.WH_STAT_EN = 1 → m ≠ Mode.HARVEST ∨ s.notRunning = none
      →
    ∃ u, exec (.modeRequest t n m) s = .next u ∧
    u.md.trans = some { target := m, source := s.mode, t0 := max s.now t } ∧
    u.rd R.MODE_STAT_TRANS = 1 ∧
    u.mode = s.mode ∧
    (∀ f ∈ List.range 48, s.fnMine f = true → s.runsIn f m = false → (u.fnS f).running = false) ∧
    Sent u (.session n) Res.OK [] ∧
    Sent u (.trunk 0) 0x53 [(m : Int)] ∧
    u.ses.gate = dropReq n (.mode m) s.ses.gate) ∧
  (∀ (t n m : Nat) (s : State),
    n ≠ 0 → s.ses.open_.any (fun p => p.2.num = n) = true → s.turn n (.mode m) = true → modeClass s.mode m =
      none ∨ s.isWorker = true ∨ s.hmp.sizeHeld = true → Room s →
    ∃ u, exec (.modeRequest t n m) s = .next u ∧
    u.md = s.md ∧
    u.fn = s.fn ∧
    Sent u (.session n) Res.MODE_REFUSED [] ∧
    Logged s u 0xB021 [(m : Int), (s.mode : Int), (n : Int)] ∧
    RegsKept [] s u) ∧
  (∀ (t n m : Nat) (x : TransS) (s : State),
    n ≠ 0 → s.md.trans = some x → s.rd R.UPD_STAT_STATE ≠ 5 → s.ses.gate.length < 64 →
    ∃ u, exec (.modeRequest t n m) s = .next u ∧
    u.md = s.md ∧
    u.ses.gate = (if s.ses.gate.any (fun r => r.is n (.mode m)) = true then s.ses.gate else s.ses.gate ++
      [{ session := n, kind := .mode m }]) ∧
    RegsExact [] s u) ∧
  (∀ (t : Nat) (s : State),
    s.md.wanted = true → s.md.trans = none → s.isWorker = false → s.hmp.sizeHeld = false → (modeClass s.mode
      Mode.SAFE_STOP).isSome = true →
    ∃ u, exec (.modeTransitionStart t Mode.SAFE_STOP) s = .next u ∧
    u.md.trans = some { target := Mode.SAFE_STOP, source := s.mode, t0 := max s.now t } ∧
    u.rd R.MODE_STAT_TRANS = 1 ∧
    u.mode = s.mode ∧
    (∀ f ∈ List.range 48, s.fnMine f = true → s.runsIn f Mode.SAFE_STOP = false → (u.fnS f).running = false) ∧
    u.md.wanted = false) ∧
  (∀ (t : Nat) (l : List Nat) (x : TransS) (s : State),
    s.md.trans = some x → x.target ≠ Mode.SLEEP → x.target ≠ Mode.UPDATE → s.isWorker = true ∨ s.md.running.any
      (fun u => !l.contains u) = false → x.t0 ≤ max s.now t → Room s →
    ∃ u, exec (.modeChange t l) s = .next u ∧
    u.mode = x.target ∧
    u.md.trans = none ∧
    u.rd R.MODE_STAT_PREV = s.mode ∧
    u.rd R.MODE_STAT_TRANS = 0 ∧
    Logged s u 0xB020 [(s.mode : Int), (x.target : Int), (((max s.now t - x.t0) / 1000 : Nat) : Int)] ∧
    (s.isWorker = true → Sent u (.trunk 0) 0x54 [(s.role.unit : Int), (x.target : Int)])) ∧
  (∀ (t : Nat) (l : List Nat) (x : TransS) (s : State),
    s.md.trans = some x → x.target = Mode.SLEEP → s.pcIdle = true →
    ∃ u, exec (.modeChange t l) s = .next u ∧
    u.mode = Mode.SLEEP ∧
    u.md.trans = none ∧
    u.rd R.MODE_STAT_PREV = s.mode ∧
    u.rst.held = false ∧
    u.fn = [] ∧
    u.rd R.PWR_STAT_CORE = 0) ∧
  (∀ (t : Nat) (l : List Nat) (x : TransS) (s : State),
    s.md.trans = some x → x.target = Mode.UPDATE → s.rst.held = false →
    ∃ u, exec (.modeChange t l) s = .next u ∧
    u.mode = Mode.TRAILHEAD ∧
    u.rst.held = true ∧
    u.rd R.RST_STAT_SOURCE = 6 ∧
    u.rd R.RST_STAT_SCOPE = 1 ∧
    u.md.trans = none) ∧
  (∀ (t m : Nat) (s : State),
    s.isWorker = true → s.mode ∉ [Mode.OFF, Mode.SLEEP, Mode.TRAILHEAD, Mode.CONFIG] → m ≠ Mode.UPDATE →
      s.modeTarget ≠ m →
    ∃ u, exec (.workerModeNotice t m) s = .next u ∧
    u.md.trans = some { target := m, source := s.mode, t0 := max s.now t } ∧
    u.rd R.MODE_STAT_TRANS = 1 ∧
    u.mode = s.mode ∧
    (∀ f ∈ List.range 48, s.fnMine f = true → s.runsIn f m = false → (u.fnS f).running = false)) ∧
  (∀ (t k : Nat) (s : State),
    s.isWorker = false →
    ∃ u, exec (.workerSafeStopReport t k true) s = .next u ∧
    u.md.workerCauses = s.md.workerCauses.filter (· ≠ k) ++ [k] ∧
    u.hasCause Cause.worker = true ∧
    u.md.wanted = true ∧
    RegsExact [R.MODE_STAT_CAUSES] s u) ∧
  (∀ (t k : Nat) (s : State),
    s.isWorker = false →
    ∃ u, exec (.workerSafeStopReport t k false) s = .next u ∧
    u.md.workerCauses = s.md.workerCauses.filter (· ≠ k) ∧
    (u.md.workerCauses = [] → u.hasCause Cause.worker = false) ∧
    u.md.wanted = s.md.wanted ∧
    RegsExact [R.MODE_STAT_CAUSES] s u) ∧
  (∀ (t : Nat) (s : State),
    (s.begin t).sleepDue = true →
    ∃ u, exec (.sleepEntry t) s = .next u ∧
    u.md.trans = some { target := Mode.SLEEP, source := s.mode, t0 := max s.now t } ∧
    u.rd R.MODE_STAT_TRANS = 1 ∧
    u.mode = s.mode ∧
    (∀ f ∈ List.range 48, s.fnMine f = true → s.runsIn f Mode.SLEEP = false → (u.fnS f).running = false) ∧
    u.md.saved = s.mode) ∧
  (∀ (t : Nat) (s : State),
    s.mode = Mode.SLEEP → s.rst.held = false → s.wakeEnabled 1 = true → s.gn.refresh = none →
    ∃ u, exec (.wake t 1 true) s = .next u ∧
    u.rst.held = true ∧
    u.rst.sleepWake = true ∧
    u.rst.clearAt = max s.now t ∧
    bitOf u.pwr.wake 0 = true ∧
    u.pwr.wakeOff = none ∧
    u.mode = Mode.SLEEP ∧
    RegsExact [] s u) ∧
  (∀ (t k : Nat) (s : State),
    1 ≤ k → k ≤ 2 → s.pwr.wake = 2 ^ (k - 1) → s.mode ≠ Mode.SLEEP →
    ∃ u, exec (.wake t k false) s = .next u ∧
    u.pwr.wake = 0 ∧
    u.pwr.wakeOff = some (s.pwr.wakeOff.getD (max s.now t)) ∧
    u.md = s.md ∧
    RegsExact [] s u) ∧
  (∀ (t k : Nat) (s : State),
    s.mode ∉ [Mode.OFF, Mode.SLEEP, Mode.TRAILHEAD] → s.rst.held = false →
    ∃ u, exec (.modeImage t k) s = .next u ∧
    u.mode = Mode.TRAILHEAD ∧
    u.rst.held = true ∧
    u.rd R.RST_STAT_SOURCE = 6 ∧
    u.rd R.RST_STAT_SCOPE = 1 ∧
    u.mirror.window.any (fun e => e.code = 0xB024 && e.payload = [(k : Int)]) = true)

/-- Chapter 15, foreground tests (R515, Tables 15.11 and 15.12): in TEST a coil test starts at once at 500 mA; in
HARVEST it waits for a quiet slot, and 10 s without one answer TEST_BUSY; elsewhere it is refused; a test that
has run its length ends, fills NOW.RES when it measured a coil, turns the valve channel off, is logged and
returned (its result numbers are the model's choice, log entry 28). What of this is the model's own choice or
reading stands in log entries 28 and 45. -/
def Obligations.TestsComplete : Prop :=
  (∀ (t n : Nat) (q : TestIn) (s : State),
    n ≠ 0 → s.ses.open_.any (fun p => p.2.num = n) = true → s.classAtLeast n 3 = true → s.turn n (.test) = true
      → q.unit = s.role.unit → s.mode = Mode.TEST → s.testFields q = true → s.testFn q = none → s.testClash q =
      false → q.test = 1 → q.kind = 1 →
    ∃ u, exec (.foregroundTest t n q) s = .next u ∧
    ({ req := q, session := n, asked := max s.now t, started := some (max s.now t) } : TestS) ∈ u.md.tests ∧
    u.rd (R.VD_NOW_I_TGT q.chan) = s.derate q.chan 500 ∧
    Sent u (.session n) Res.OK [] ∧
    u.ses.gate = dropReq n (.test) s.ses.gate) ∧
  (∀ (t n : Nat) (q : TestIn) (s : State),
    n ≠ 0 → s.ses.open_.any (fun p => p.2.num = n) = true → s.classAtLeast n 3 = true → s.turn n (.test) = true
      → q.unit = s.role.unit → s.mode = Mode.HARVEST → s.testFields q = true → s.testClash q = false → (s.begin
      t).quietSlot q = false → s.md.tests = [] →
    ∃ u, exec (.foregroundTest t n q) s = .next u ∧
    u.md.tests = [{ req := q, session := n, asked := max s.now t }] ∧
    u.vd = s.vd ∧
    RegsExact [] s u) ∧
  (∀ (t n : Nat) (q : TestIn) (s : State),
    n ≠ 0 → s.ses.open_.any (fun p => p.2.num = n) = true → s.classAtLeast n 3 = true → s.turn n (.test) = true
      → q.unit = s.role.unit → s.mode ≠ Mode.TEST → s.mode ≠ Mode.HARVEST → Room s →
    ∃ u, exec (.foregroundTest t n q) s = .next u ∧
    u.md = s.md ∧
    Sent u (.session n) 0xB032 [] ∧
    Logged s u 0xB032 [(q.test : Int), (s.mode : Int)] ∧
    RegsKept [] s u) ∧
  (∀ (t : Nat) (x : TestS) (s : State),
    s.md.tests = [x] → x.started = none → x.asked + 10000000000 ≤ max s.now t → s.session? x.session ≠ none →
      x.session ≠ 0 → Room s →
    ∃ u, exec (.testBusy t x.req.kind x.req.chan) s = .next u ∧
    u.md.tests = [] ∧
    Sent u (.session x.session) 0xB031 [] ∧
    Logged s u 0xB031 [(x.req.test : Int), (s.role.unit : Int), (x.req.chan : Int)] ∧
    RegsKept [] s u) ∧
  (∀ (t v : Nat) (ld : Bool) (x : TestS) (s : State),
    s.md.tests = [x] → x.started.all (fun (a : Nat) => a + 20000000 ≤ max s.now t) = true → x.started.isSome =
      true → x.req.test = 1 → x.req.kind = 1 → 1 ≤ x.req.chan → x.req.chan ≤ 32 → x.session ≠ 0 → s.session?
      x.session ≠ none → s.testFn x.req = none → s.ownsBank x.req.chan = false → s.phase x.req.chan = 6 → Room s →
    ∃ u, exec (.testResult t 1 x.req.chan ld v) s = .next u ∧
    u.md.tests = [] ∧
    u.rd (R.VD_NOW_RES x.req.chan) = v ∧
    u.rd (R.VD_STAT_PHASE x.req.chan) = 5 ∧
    Sent u (.session x.session) Res.OK [(x.req.test : Int), 0, (v : Int)] ∧
    Logged s u 0xB030 [(x.req.test : Int), (s.role.unit : Int), (x.req.chan : Int), 0, (v : Int)]) ∧
  (∀ (t v k c : Nat) (ld : Bool) (x : TestS) (o : Nat × Nat) (s : State),
    s.md.tests = [x] → x.started.isSome = true → x.req.kind = k → x.req.chan = c → x.session ≠ 0 → s.session?
      x.session ≠ none → (s.begin t).testOutcome x ld v = some o → Room s →
    ∃ u, exec (.testResult t k c ld v) s = .next u ∧
    u.md.tests = [] ∧
    Sent u (.session x.session) Res.OK [(x.req.test : Int), (o.1 : Int), (o.2 : Int)] ∧
    Logged s u 0xB030 [(x.req.test : Int), (s.role.unit : Int), (c : Int), (o.1 : Int), (o.2 : Int)] ∧
    (x.req.test = 2 → RegsKept [] s u))

/-- Chapter 15, resets: each source asserts a reset of its scope, recorded in RST.STAT, with the unit in TRAILHEAD
(R516, Tables 15.13a and 15.13b); a block confirmed idle is reset alone (R516, R518); escalation widens the
scope (R517); release starts a firmware slot and reads the key, or finds none and stays (R519, R520, 17 R562);
CONFIG ends in the start mode (R522) or fails after 10 s (R521); power-on goes to a start or to SLEEP (R516,
R523); the loss of VBAT takes the real-time counter and the retention RAM (R516), and SVC_EN sets the service
port (18 R580). What of this is the model's own choice or reading stands in log entries 12, 94, 96, 97, 112 and
121. -/
def Obligations.ResetsComplete : Prop :=
  (∀ (t v h : Nat) (s : State),
    s.mode = Mode.OFF → 9000 ≤ v → 10000000 ≤ h →
    ∃ u, exec (.powerOn t v h) s = .next u ∧
    u.mode = (if s.pwr.wake ≠ 0 then Mode.TRAILHEAD else Mode.SLEEP) ∧
    u.rst.held = decide (s.pwr.wake ≠ 0) ∧
    u.rd R.RST_STAT_SOURCE = bit01 s.rst.brownOut ∧
    u.rd R.RST_STAT_SCOPE = 3 ∧
    u.rd R.PWR_STAT_VBAT = min 0xFFFF v) ∧
  (∀ (t h : Nat) (s : State),
    s.mode ≠ Mode.OFF → s.mode ≠ Mode.SLEEP → s.rst.held = false → 10000 ≤ h →
    ∃ u, exec (.brownOut t h) s = .next u ∧
    u.rst.held = true ∧
    u.rst.clearAt = max s.now t ∧
    u.mode = Mode.TRAILHEAD ∧
    u.rd R.RST_STAT_SOURCE = 1 ∧
    u.rd R.RST_STAT_SCOPE = 3 ∧
    u.rd R.RST_STAT_PLANE = 3 ∧
    u.rd R.RST_STAT_RESETS = 0 ∧
    u.ses.open_ = [] ∧
    u.ln.slots = []) ∧
  (∀ (t h : Nat) (s : State),
    s.mode ≠ Mode.OFF → s.mode ≠ Mode.SLEEP → s.rst.held = false → 10000 ≤ h →
    ∃ u, exec (.resetPin t true h) s = .next u ∧
    u.rst.held = true ∧
    u.rst.clearAt = max s.now t ∧
    u.mode = Mode.TRAILHEAD ∧
    u.rd R.RST_STAT_SOURCE = 2 ∧
    u.rd R.RST_STAT_SCOPE = 2 ∧
    u.rd R.RST_STAT_PLANE = 3 ∧
    u.rd R.RST_STAT_RESETS = satInc 0xFFFF (s.rd R.RST_STAT_RESETS) ∧
    u.ses.open_ = [] ∧
    u.ln.slots = [] ∧
    u.rst.pinLow = true) ∧
  (∀ (t h : Nat) (s : State),
    ∃ u, exec (.resetPin t false h) s = .next u ∧
    u.rst.pinLow = false ∧
    u.rst.clearAt = max s.now t ∧
    u.rst.held = s.rst.held ∧
    RegsExact [] s u) ∧
  (∀ (t p d : Nat) (s : State),
    s.mode ≠ Mode.OFF → s.mode ≠ Mode.SLEEP → s.rst.held = false → watchdogLimit p ≤ d →
    ∃ u, exec (.watchdog t p d) s = .next u ∧
    u.rst.held = true ∧
    u.rst.clearAt = max s.now t ∧
    u.mode = Mode.TRAILHEAD ∧
    u.rd R.RST_STAT_SOURCE = 3 ∧
    u.rd R.RST_STAT_SCOPE = 2 ∧
    u.rd R.RST_STAT_PLANE = p ∧
    u.rd R.RST_STAT_RESETS = satInc 0xFFFF (s.rd R.RST_STAT_RESETS) ∧
    u.ses.open_ = [] ∧
    u.ln.slots = []) ∧
  (∀ (t p : Nat) (s : State),
    s.mode ≠ Mode.OFF → s.mode ≠ Mode.SLEEP → s.rst.held = false →
    ∃ u, exec (.lockUp t p) s = .next u ∧
    u.rst.held = true ∧
    u.rst.clearAt = max s.now t ∧
    u.mode = Mode.TRAILHEAD ∧
    u.rd R.RST_STAT_SOURCE = 5 ∧
    u.rd R.RST_STAT_SCOPE = 2 ∧
    u.rd R.RST_STAT_PLANE = p ∧
    u.rd R.RST_STAT_RESETS = satInc 0xFFFF (s.rd R.RST_STAT_RESETS) ∧
    u.ses.open_ = [] ∧
    u.ln.slots = []) ∧
  (∀ (t b : Nat) (i : Bool) (s : State),
    s.mode ≠ Mode.OFF → s.mode ≠ Mode.SLEEP → s.rst.held = false →
    ∃ u, exec (.softwareReset t 0 true b i) s = .next u ∧
    u.rst.held = true ∧
    u.rst.clearAt = max s.now t ∧
    u.mode = Mode.TRAILHEAD ∧
    u.rd R.RST_STAT_SOURCE = 6 ∧
    u.rd R.RST_STAT_SCOPE = 1 ∧
    u.rd R.RST_STAT_PLANE = 3 ∧
    u.rd R.RST_STAT_RESETS = satInc 0xFFFF (s.rd R.RST_STAT_RESETS) ∧
    u.ses.open_ = [] ∧
    u.ln.slots = []) ∧
  (∀ (t n b : Nat) (s : State),
    s.mode ≠ Mode.OFF → s.mode ≠ Mode.SLEEP → n ≠ 0 → s.ses.open_.any (fun p => p.2.num = n) = true →
      s.classAtLeast n 3 = true → s.turn n (.swReset) = true → b ∉ [3, 4, 5, 6, 9, 10, 11, 12, 13] → s.noTransfers
      b = true →
    ∃ u, exec (.softwareReset t n false b true) s = .next u ∧
    u.rst = { s.rst with block := some b, assertAt := max s.now t } ∧
    u.ses.gate = dropReq n (.swReset) s.ses.gate ∧
    u.mode = s.mode ∧
    Sent u (.session n) Res.OK [] ∧
    RegsExact [] s u) ∧
  (∀ (t n b : Nat) (s : State),
    s.mode ≠ Mode.OFF → s.mode ≠ Mode.SLEEP → n ≠ 0 → s.ses.open_.any (fun p => p.2.num = n) = true →
      s.classAtLeast n 3 = true → s.turn n (.swReset) = true → b ∈ [3, 4, 5, 6, 9] → s.noTransfers b = true → s.rd
      (R.ISL_STAT_HELD b) = 0 →
    ∃ u, exec (.softwareReset t n false b true) s = .next u ∧
    u.rst = { s.rst with block := some b, assertAt := max s.now t } ∧
    u.mode = s.mode ∧
    (u.island b).needSync = true ∧
    (u.island b).waiting = [] ∧
    (u.island b).toIsl = (s.island b).toIsl ∧
    (u.island b).toCore = (s.island b).toCore ∧
    u.rd (R.ISL_STAT_RESTARTS b) = satInc 255 (s.rd (R.ISL_STAT_RESTARTS b)) ∧
    Sent u (.session n) Res.OK []) ∧
  (∀ (t n b : Nat) (i : Bool) (s : State),
    s.mode ≠ Mode.OFF → s.mode ≠ Mode.SLEEP → n ≠ 0 → s.ses.open_.any (fun p => p.2.num = n) = true →
      s.classAtLeast n 3 = true → s.turn n (.swReset) = true → i = false ∨ s.noTransfers b = false → Room s →
    ∃ u, exec (.softwareReset t n false b i) s = .next u ∧
    u.rst = s.rst ∧
    Sent u (.session n) 0xB012 [] ∧
    Logged s u 0xB012 [(b : Int), (n : Int)] ∧
    RegsKept [] s u) ∧
  (∀ (t : Nat) (s : State),
    s.mode ≠ Mode.OFF → s.mode ≠ Mode.SLEEP → s.pwr.svc = true → s.islandOut 5 = false → s.rst.held = false →
    ∃ u, exec (.debugReset t) s = .next u ∧
    u.rst.held = true ∧
    u.rst.clearAt = max s.now t ∧
    u.mode = Mode.TRAILHEAD ∧
    u.rd R.RST_STAT_SOURCE = 7 ∧
    u.rd R.RST_STAT_SCOPE = 1 ∧
    u.rd R.RST_STAT_PLANE = 3 ∧
    u.rd R.RST_STAT_RESETS = satInc 0xFFFF (s.rd R.RST_STAT_RESETS) ∧
    u.ses.open_ = [] ∧
    u.ln.slots = []) ∧
  (∀ (t x : Nat) (s : State),
    s.rst.held = true → s.rd R.RST_STAT_SCOPE < 3 → s.rst.assertAt + 100000 ≤ max s.now t →
    ∃ u, exec (.rstEscalate t x) s = .next u ∧
    u.rst.held = true ∧
    u.rd R.RST_STAT_SCOPE = s.rd R.RST_STAT_SCOPE + 1 ∧
    u.rd R.RST_STAT_ESCAL = satInc 255 (s.rd R.RST_STAT_ESCAL) ∧
    u.rd R.RST_STAT_SOURCE = s.rd R.RST_STAT_SOURCE ∧
    u.mode = Mode.TRAILHEAD ∧
    u.rst.clearAt = (if s.rd R.RST_STAT_SCOPE = 2 then max s.now t + 10000000 else max s.now t) ∧
    u.mirror.window.any (fun e => e.code = 0xB011 && e.payload = [(x : Int), (s.rd R.RST_STAT_SCOPE : Int),
      ((s.rd R.RST_STAT_SCOPE + 1 : Nat) : Int)]) = true) ∧
  (∀ (t : Nat) (x : StartIn) (s : State),
    s.rst.held = true → s.rst.pinLow = false → s.rst.clearAt + 2000000 ≤ max s.now t → (((s.begin
      t).beginRelease x).bootSlot x.badSlots).2 = true → s.rd R.HMP_STAT_SOURCE = 0 → s.hmp.waitRuck = false →
      s.hmp.key = none →
    ∃ u, exec (.resetRelease t x) s = .next u ∧
    u.mode = Mode.CONFIG ∧
    u.rst.held = false ∧
    u.rst.startAt = max s.now t ∧
    u.rst.step = 9 ∧
    u.rd R.HMP_STAT_SOURCE = 0 ∧
    u.rd R.HMP_STAT_READ_MS = x.readMs) ∧
  (∀ (t : Nat) (x : StartIn) (s : State),
    s.rst.held = true → s.rst.pinLow = false → s.rst.clearAt + 2000000 ≤ max s.now t → (((s.begin
      t).beginRelease x).bootSlot x.badSlots).2 = false →
    ∃ u, exec (.resetRelease t x) s = .next u ∧
    u.rst.held = false ∧
    u.rst.step = 5 ∧
    (s.rst.sleepWake = true → u.mode = Mode.TRAILHEAD)) ∧
  (∀ (t m : Nat) (s : State),
    s.configDone = true → s.mode = Mode.CONFIG → s.md.trans = none → s.isWorker = false → Room s →
    ∃ u, exec (.configEnd t m) s = .next u ∧
    u.mode = s.startMode m ∧
    u.rst.step = 11 ∧
    u.ln.running = true ∧
    u.rd R.UPD_STAT_STATE = 0 ∧
    u.rd R.MODE_STAT_PREV = 3 ∧
    Logged s u 0xB020 [3, (s.startMode m : Int), 0]) ∧
  (∀ (t : Nat) (s : State),
    s.mode = Mode.TRAILHEAD ∨ s.mode = Mode.CONFIG → s.rst.held = false → s.configured = true → s.hmp.sizeHeld =
      false → s.isWorker = false → s.rst.startAt + 10000000000 ≤ max s.now t →
    ∃ u, exec (.modeConfigFail t) s = .next u ∧
    u.rst.held = true ∧
    u.mode = Mode.TRAILHEAD ∧
    u.rd R.RST_STAT_SOURCE = 6 ∧
    u.rd R.RST_STAT_SCOPE = 1 ∧
    u.mirror.window.any (fun e => e.code = 0xB023 && e.payload = [(s.rst.step : Int)]) = true) ∧
  (∀ (t v : Nat) (s : State),
    s.mode = Mode.OFF → v < 3000 →
    ∃ u, exec (.vbatLoss t v) s = .next u ∧
    u.tb.rtcValid = false ∧
    u.mem.all (fun c => decide (c.1 / 2 ^ 40 ≠ 20)) = true ∧
    (∀ a ∈ s.mem, a.1 / 2 ^ 40 ≠ 20 → a ∈ u.mem) ∧
    u.gn.retain = none ∧
    RegsExact [] s u) ∧
  (∀ (t : Nat) (g : Bool) (s : State),
    ∃ u, exec (.svcEnChange t g) s = .next u ∧
    u.pwr = { s.pwr with svc := g } ∧
    RegsExact [] s u)

/-- Chapter 16, the black box: the oldest queued record is stamped with hours and cycle or with a sequence number
(R531, R533), goes to the permanent area until it holds 4,096 and then to the circular area, which wraps (R528,
R535), and a write cut short leaves content that is not valid (R529, R535); nothing is written before recovery
(R536); lost records are told once room returns (R535); anchors and hours (R532, R534); blocks of sequence
numbers (R533); read-out to the classes that may have it, from a first stamp on, a worker's with its own answer
(R537; log entries 131 and 132). What of this is the model's own choice or reading stands in log entries 17, 22,
28, 132 and 133. -/
def Obligations.BlackBoxComplete : Prop :=
  (∀ (t : Nat) (it : BbItem) (rest : List BbItem) (s : State),
    s.bb.queue = it :: rest → s.rd R.BB_STAT_READY = 1 → s.rd R.BB_STAT_PERM = 4096 → s.rd R.BB_STAT_FORM = 0 →
      s.rd R.BB_STAT_HEAD + it.bytes ≤ circSize →
    ∃ u, exec (.bbRecordWrite t 3) s = .next u ∧
    u.bb.queue = rest ∧
    ({ pos := s.rd R.BB_STAT_HEAD, item := it, seqForm := false, stampA := (s.begin t).hours, stampB := s.rd R.RST_STAT_CYCLES, valid := true }
      : BbRec) ∈ u.bb.circ ∧
    (∀ r ∈ s.bb.circ, r.clearOf (s.rd R.BB_STAT_HEAD) (s.rd R.BB_STAT_HEAD + it.bytes) = true → r ∈ u.bb.circ) ∧
    u.bb.perm = s.bb.perm ∧
    u.rd R.BB_STAT_HEAD = s.rd R.BB_STAT_HEAD + it.bytes ∧
    RegsExact [R.BB_STAT_HEAD] s u) ∧
  (∀ (t : Nat) (it : BbItem) (rest : List BbItem) (s : State),
    s.bb.queue = it :: rest → s.rd R.BB_STAT_READY = 1 → s.rd R.BB_STAT_PERM = 4096 → s.rd R.BB_STAT_FORM = 0 →
      circSize < s.rd R.BB_STAT_HEAD + it.bytes →
    ∃ u, exec (.bbRecordWrite t 3) s = .next u ∧
    ({ pos := 0, item := it, seqForm := false, stampA := (s.begin t).hours, stampB := s.rd R.RST_STAT_CYCLES, valid := true }
      : BbRec) ∈ u.bb.circ ∧
    (∀ r ∈ u.bb.circ, r.pos + r.item.bytes ≤ s.rd R.BB_STAT_HEAD ∨ r =
      ({ pos := 0, item := it, seqForm := false, stampA := (s.begin t).hours, stampB := s.rd R.RST_STAT_CYCLES, valid := true }
      : BbRec)) ∧
    u.rd R.BB_STAT_HEAD = it.bytes ∧
    RegsExact [R.BB_STAT_HEAD] s u) ∧
  (∀ (t : Nat) (it : BbItem) (rest : List BbItem) (s : State),
    s.bb.queue = it :: rest → s.rd R.BB_STAT_READY = 1 → s.rd R.BB_STAT_PERM < 4095 → s.rd R.BB_STAT_FORM = 0 →
    ∃ u, exec (.bbRecordWrite t 3) s = .next u ∧
    u.bb.queue = rest ∧
    ({ pos := s.bb.permPos, item := it, seqForm := false, stampA := (s.begin t).hours, stampB := s.rd R.RST_STAT_CYCLES, valid := true }
      : BbRec) ∈ u.bb.perm ∧
    u.bb.circ = s.bb.circ ∧
    u.bb.permPos = s.bb.permPos + it.bytes ∧
    u.rd R.BB_STAT_PERM = s.rd R.BB_STAT_PERM + 1 ∧
    RegsExact [R.BB_STAT_PERM] s u) ∧
  (∀ (t : Nat) (it : BbItem) (rest : List BbItem) (s : State),
    s.bb.queue = it :: rest → s.rd R.BB_STAT_READY = 1 → s.rd R.BB_STAT_PERM = 4095 → s.bb.permFullLogged =
      false → Room s →
    ∃ u, exec (.bbRecordWrite t 3) s = .next u ∧
    u.rd R.BB_STAT_PERM = 4096 ∧
    u.rd R.BB_STAT_FULL = 1 ∧
    u.bb.permFullLogged = true ∧
    Logged s u 0xC003 []) ∧
  (∀ (t k : Nat) (it : BbItem) (rest : List BbItem) (s : State),
    s.bb.queue = it :: rest → s.rd R.BB_STAT_READY = 1 → k < 3 → s.rd R.BB_STAT_PERM < 4096 → s.rd
      R.BB_STAT_FORM = 0 →
    ∃ u, exec (.bbRecordWrite t k) s = .next u ∧
    u.bb.queue = rest ∧
    ({ pos := s.bb.permPos, item := it, seqForm := false, stampA := (s.begin t).hours, stampB := s.rd R.RST_STAT_CYCLES, valid := false }
      : BbRec) ∈ u.bb.perm ∧
    u.bb.permPos = s.bb.permPos ∧
    u.bb.ctrlA = s.bb.ctrlA ∧
    u.bb.ctrlB = s.bb.ctrlB ∧
    RegsExact [] s u) ∧
  (∀ (t n m : Nat) (it : BbItem) (rest : List BbItem) (more : List (Nat × Nat)) (s : State),
    s.bb.queue = it :: rest → s.rd R.BB_STAT_READY = 1 → s.rd R.BB_STAT_FORM = 1 → s.bb.blocks = (n, m) :: more
      → s.rd R.BB_STAT_PERM < 4095 →
    ∃ u, exec (.bbRecordWrite t 3) s = .next u ∧
    ({ pos := s.bb.permPos, item := it, seqForm := true, stampA := n, stampB := 0, valid := true } : BbRec) ∈
      u.bb.perm ∧
    u.bb.blocks = (if n = m then more else (n + 1, m) :: more) ∧
    u.bb.lastSeq = n) ∧
  (∀ (t k : Nat) (s : State),
    s.rd R.BB_STAT_READY = 0 ∨ s.bb.queue = [] →
    ∃ u, exec (.bbRecordWrite t k) s = .next u ∧
    u.bb = s.bb ∧
    RegsExact [] s u) ∧
  (∀ (t : Nat) (s : State),
    0 < s.bb.dropped → s.bb.queue.length < 1023 → Room s →
    ∃ u, exec (.bbLost t) s = .next u ∧
    u.bb.dropped = 0 ∧
    ({ typ := 6, payload := leBytes 4 s.bb.dropped } : BbItem) ∈ u.bb.queue ∧
    Logged s u 0xC002 [(s.bb.dropped : Int)] ∧
    RegsKept [] s u) ∧
  (∀ (t : Nat) (s : State),
    s.bb.dropped = 0 ∨ 1024 ≤ s.bb.queue.length →
    ∃ u, exec (.bbLost t) s = .next u ∧
    u.bb = s.bb ∧
    RegsExact [] s u) ∧
  (∀ (t : Nat) (s : State),
    s.bb.opSince.isSome = true → s.bb.anchorAt + 60000 ≤ (s.begin t).hours → s.bb.queue.length < 1024 →
    ∃ u, exec (.bbAnchor t) s = .next u ∧
    u.bb.queue = s.bb.queue ++
      [{ typ := 2, payload := leBytes 6 (s.begin t).hours ++ leBytes 4 (s.rd R.RST_STAT_CYCLES) ++ [s.rd R.TB_STAT_QUAL, 0] ++ leBytes 8 (ofSigned 64 (s.begin t).harvest) ++ leBytes 4 (s.begin t).tbErr }]
      ∧
    u.bb.anchorAt = (s.begin t).hours ∧
    RegsExact [] s u) ∧
  (∀ (t : Nat) (s : State),
    s.bb.opSince.isSome = true → s.bb.anchorAt + 60000 ≤ (s.begin t).hours → 1024 ≤ s.bb.queue.length →
    ∃ u, exec (.bbAnchor t) s = .next u ∧
    u.bb = { s.bb with dropped := s.bb.dropped + 1, anchorAt := (s.begin t).hours } ∧
    u.rd R.BB_STAT_LOST = satInc 0xFFFF (s.rd R.BB_STAT_LOST) ∧
    RegsExact [R.BB_STAT_LOST] s u) ∧
  (∀ (t : Nat) (s : State),
    s.bb.opSince.isSome = true → s.bb.lastCtrl.hours + 100 ≤ (s.begin t).hours → s.bb.ctrlB.count ≤
      s.bb.ctrlA.count →
    ∃ u, exec (.hoursSave t) s = .next u ∧
    u.bb.ctrlA = s.bb.ctrlA ∧
    u.bb.ctrlB.hours = (s.begin t).hours ∧
    u.bb.ctrlB.count = s.bb.ctrlA.count + 1 ∧
    u.bb.ctrlB.perm = s.rd R.BB_STAT_PERM ∧
    u.bb.ctrlB.head = s.rd R.BB_STAT_HEAD ∧
    u.bb.ctrlB.crcOk = true ∧
    RegsExact [] s u) ∧
  (∀ (t : Nat) (s : State),
    s.bb.opSince.isSome = true → s.bb.lastCtrl.hours + 100 ≤ (s.begin t).hours → s.bb.ctrlA.count <
      s.bb.ctrlB.count →
    ∃ u, exec (.hoursSave t) s = .next u ∧
    u.bb.ctrlB = s.bb.ctrlB ∧
    u.bb.ctrlA.hours = (s.begin t).hours ∧
    u.bb.ctrlA.count = s.bb.ctrlB.count + 1 ∧
    RegsExact [] s u) ∧
  (∀ (t unit : Nat) (s : State),
    s.role.size = 2 → s.configured = true → s.reaches unit = true → unit ≠ s.role.unit →
    ∃ u, exec (.seqBlockRequest t unit none) s = .next u ∧
    u.bb.lastCtrl.seqNext = s.bb.lastCtrl.seqNext + 4096 ∧
    u.bb.blocks = s.bb.blocks ∧
    Sent u (.trunk 0) 0x533 [(unit : Int), (s.bb.lastCtrl.seqNext : Int)] ∧
    RegsExact [] s u) ∧
  (∀ (t : Nat) (s : State),
    s.role.size = 2 → s.configured = true → s.isWorker = false → s.bb.seqLeft < 1024 → s.bb.blocks.length < 2 →
    ∃ u, exec (.seqBlockRequest t s.role.unit none) s = .next u ∧
    u.bb.lastCtrl.seqNext = s.bb.lastCtrl.seqNext + 4096 ∧
    u.bb.blocks = s.bb.blocks ++ [(s.bb.lastCtrl.seqNext, s.bb.lastCtrl.seqNext + 4095)] ∧
    RegsExact [] s u) ∧
  (∀ (t : Nat) (s : State),
    s.role.size = 2 → s.configured = true → s.isWorker = true → s.bb.seqLeft < 1024 → s.bb.blocks.length < 2 →
    ∃ u, exec (.seqBlockRequest t s.role.unit none) s = .next u ∧
    u.bb = s.bb ∧
    Sent u (.trunk 0) 0x533 [(s.role.unit : Int)] ∧
    RegsExact [] s u) ∧
  (∀ (t n : Nat) (s : State),
    s.role.size = 2 → s.configured = true → s.isWorker = true → s.bb.blocks.length < 2 →
    ∃ u, exec (.seqBlockRequest t s.role.unit (some n)) s = .next u ∧
    u.bb = { s.bb with blocks := s.bb.blocks ++ [(n, n + 4095)] } ∧
    RegsExact [] s u) ∧
  (∀ (t unit : Nat) (g : Option Nat) (s : State),
    s.role.size ≠ 2 →
    ∃ u, exec (.seqBlockRequest t unit g) s = .next u ∧
    u.bb = s.bb ∧
    RegsExact [] s u) ∧
  (∀ (t n area k : Nat) (f : Option (Bool × Nat × Nat)) (ans : Nat × List Int) (s : State),
    n ≠ 0 → s.svcRefusal n 0x0030 [Cls.SERVICE, Cls.FLEET] = none →
    ∃ u, exec (.bbReadout t n s.role.unit area f k ans) s = .next u ∧
    Sent u (.session n) Res.OK (((s.readRecords area f k).flatMap BbRec.sent).map Int.ofNat) ∧
    u.bb = s.bb ∧
    RegsExact [] s u) ∧
  (∀ (t n unit area k : Nat) (f : Option (Bool × Nat × Nat)) (ans : Nat × List Int) (s : State),
    n ≠ 0 → s.svcRefusal n 0x0030 [Cls.SERVICE, Cls.FLEET] = none → unit ≠ s.role.unit → s.reaches unit = true →
    ∃ u, exec (.bbReadout t n unit area f k ans) s = .next u ∧
    Sent u (.trunk 0) 0x30 [(unit : Int), (area : Int), (k : Int), (n : Int)] ∧
    Sent u (.session n) ans.1 ans.2 ∧
    u.bb = s.bb ∧
    RegsExact [] s u) ∧
  (∀ (t n unit area k : Nat) (f : Option (Bool × Nat × Nat)) (ans : Nat × List Int) (s : State),
    n ≠ 0 → s.svcRefusal n 0x0030 [Cls.SERVICE, Cls.FLEET] = some Res.CLASS →
    ∃ u, exec (.bbReadout t n unit area f k ans) s = .next u ∧
    Sent u (.session n) Res.CLASS [] ∧
    u.bb = s.bb ∧
    RegsExact [] s u)

/-- Chapter 16, the Postcard: an update latches the composed frame and its band and rewrites the commons that
differ, or all four (R544, R545, R550); out of the panel's range it waits (R547); a request during an update is
merged (R545); an update's end is recorded and a scheduled or merged one follows (R545, R547, R548); the held
fault is released by a SERVICE session (R544) and content shows at the next update (R545). What of this is the
model's own choice or reading stands in log entries 14, 28 and 133. -/
def Obligations.PostcardComplete : Prop :=
  (∀ (t : Nat) (temp : Int) (s : State),
    s.pc.asked = true → s.pc.run = none → panelBand temp ≠ 7 → s.pc.fullNext = true →
    ∃ u, exec (.pcUpdate t temp) s = .next u ∧
    u.pc.run = some
      { frame := s.composeFrame, at_ := max s.now t, commons := [0, 1, 2, 3], band := panelBand temp, full := true }
      ∧
    u.pc.frame = s.composeFrame ∧
    u.pc.inProgress = true ∧
    u.pc.asked = false ∧
    u.pc.fullNext = false ∧
    u.rd R.PC_STAT_STATE = 1 ∧
    u.rd R.PC_STAT_BAND = panelBand temp ∧
    u.rd R.PC_STAT_COMMON = 0 ∧
    u.rd R.PC_STAT_TEMP = ofSigned 8 temp ∧
    Sent u .panel 0x10 [0, 36000] ∧
    Sent u .panel 0x10 [1, -36000] ∧
    RegsExact [R.PC_STAT_STATE, R.PC_STAT_BAND, R.PC_STAT_COMMON, R.PC_STAT_TEMP] s u) ∧
  (∀ (t : Nat) (temp : Int) (s : State),
    s.pc.asked = true → s.pc.run = none → panelBand temp ≠ 7 → s.pc.fullNext = false →
    ∃ u, exec (.pcUpdate t temp) s = .next u ∧
    u.pc.run = some
      { frame := s.composeFrame, at_ := max s.now t, commons := changedCommons s.pc.frame s.composeFrame, band := panelBand temp, full := false }
      ∧
    u.pc.frame = s.composeFrame ∧
    u.pc.inProgress = true ∧
    u.pc.asked = false ∧
    u.rd R.PC_STAT_STATE = 1 ∧
    RegsExact [R.PC_STAT_STATE, R.PC_STAT_BAND, R.PC_STAT_COMMON, R.PC_STAT_TEMP] s u) ∧
  (∀ (t : Nat) (temp : Int) (s : State),
    s.pc.asked = true → s.pc.run = none → panelBand temp = 7 → s.bb.queue.length < 1023 → Room s →
    ∃ u, exec (.pcUpdate t temp) s = .next u ∧
    u.pc = { s.pc with asked := false, deferred := true } ∧
    u.rd R.PC_STAT_STATE = 2 ∧
    Logged s u 0xC011 [temp] ∧
    pcItem s.composeFrame 7 2 [] ∈ u.bb.queue ∧
    RegsKept [R.PC_STAT_STATE, R.PC_STAT_TEMP] s u) ∧
  (∀ (t : Nat) (temp : Int) (s : State),
    s.pc.asked = false ∨ s.pc.run.isSome = true →
    ∃ u, exec (.pcUpdate t temp) s = .next u ∧
    u.pc = s.pc ∧
    RegsExact [] s u) ∧
  (∀ (t : Nat) (temp : Int) (r : PcRun) (s : State),
    s.pc.run = some r → r.at_ + r.length ≤ max s.now t → s.rd R.PC_STAT_RESCHED ≠ 1 → s.pc.merged = false →
      s.bb.queue.length < 1024 →
    ∃ u, exec (.pcUpdateDone t temp) s = .next u ∧
    u.pc = { s.pc with run := none, inProgress := false, stress := stressAfter s.pc.stress r.commons } ∧
    u.rd R.PC_STAT_STATE = 0 ∧
    u.rd R.PC_STAT_BAND = 7 ∧
    u.rd R.PC_STAT_RESCHED = 0 ∧
    u.rd R.PC_STAT_WRITES = satInc (2 ^ 27 - 1) (s.rd R.PC_STAT_WRITES) ∧
    u.bb.queue = s.bb.queue ++ [pcItem r.frame r.band 0 r.commons] ∧
    Sent u .panel 0x10 [1, 0] ∧
    Sent u .panel 0x10 [0, 0] ∧
    RegsExact [R.PC_STAT_STATE, R.PC_STAT_BAND, R.PC_STAT_RESCHED, R.PC_STAT_WRITES] s u) ∧
  (∀ (t : Nat) (temp : Int) (r : PcRun) (s : State),
    s.pc.run = some r → r.at_ + r.length ≤ max s.now t → s.rd R.PC_STAT_RESCHED = 1 → panelBand temp ≠ 7 →
    ∃ u, exec (.pcUpdateDone t temp) s = .next u ∧
    u.pc.run = some
      { frame := s.composeFrame, at_ := max s.now t, commons := [0, 1, 2, 3], band := panelBand temp, full := true, fromSched := true }
      ∧
    u.rd R.PC_STAT_STATE = 1 ∧
    u.rd R.PC_STAT_RESCHED = 0) ∧
  (∀ (t : Nat) (temp : Int) (r : PcRun) (s : State),
    s.pc.run = some r → r.at_ + r.length ≤ max s.now t → s.rd R.PC_STAT_RESCHED ≠ 1 → s.pc.merged = true →
      s.pc.fullNext = false → panelBand temp ≠ 7 →
    ∃ u, exec (.pcUpdateDone t temp) s = .next u ∧
    u.pc.run = some
      { frame := s.composeFrame, at_ := max s.now t, commons := changedCommons s.pc.frame s.composeFrame, band := panelBand temp, full := false }
      ∧
    u.pc.merged = false ∧
    u.rd R.PC_STAT_STATE = 1) ∧
  (∀ (t : Nat) (temp : Int) (r : PcRun) (s : State),
    s.pc.run = some r → max s.now t < r.at_ + r.length →
    ∃ u, exec (.pcUpdateDone t temp) s = .next u ∧
    u.pc = s.pc ∧
    RegsExact [] s u) ∧
  (∀ (t : Nat) (temp : Int) (s : State),
    s.pc.deferred = true → panelBand temp ≠ 7 →
    ∃ u, exec (.pcTempReturn t temp) s = .next u ∧
    u.pc.run.map (fun r => (r.frame, r.band, r.full)) = some (s.composeFrame, panelBand temp, s.pc.fullNext) ∧
    u.pc.deferred = false ∧
    u.rd R.PC_STAT_STATE = 1 ∧
    RegsExact [R.PC_STAT_STATE, R.PC_STAT_BAND, R.PC_STAT_COMMON, R.PC_STAT_TEMP] s u) ∧
  (∀ (t : Nat) (temp : Int) (s : State),
    s.pc.deferred = false ∨ panelBand temp = 7 →
    ∃ u, exec (.pcTempReturn t temp) s = .next u ∧
    u.pc = s.pc ∧
    RegsExact [] s u) ∧
  (∀ (t : Nat) (temp : Int) (r : PcRun) (s : State),
    s.pc.run = some r → r.fromSched = false → panelBand temp ≠ r.band →
    ∃ u, exec (.pcReschedule t temp) s = .next u ∧
    u.rd R.PC_STAT_RESCHED = 1 ∧
    u.rd R.PC_STAT_TEMP = ofSigned 8 temp ∧
    u.pc = s.pc ∧
    RegsExact [R.PC_STAT_RESCHED, R.PC_STAT_TEMP] s u) ∧
  (∀ (t : Nat) (temp : Int) (r : PcRun) (s : State),
    s.pc.run = some r → r.fromSched = true ∨ panelBand temp = r.band →
    ∃ u, exec (.pcReschedule t temp) s = .next u ∧
    u.rd R.PC_STAT_TEMP = ofSigned 8 temp ∧
    u.pc = s.pc ∧
    RegsExact [R.PC_STAT_TEMP] s u) ∧
  (∀ (t n : Nat) (s : State),
    n ≠ 0 → s.ses.open_.any (fun p => p.2.num = n) = true → s.classAtLeast n 3 = true → s.turn n (.pcClear) =
      true → s.rd R.PC_STAT_HELD = 1 → Room s →
    ∃ u, exec (.pcClear t n) s = .next u ∧
    u.rd R.PC_STAT_HELD = 0 ∧
    u.rd R.PC_STAT_HUNIT = 0 ∧
    u.rd R.PC_STAT_HCODE = 0 ∧
    Logged s u 0xC012 [(s.rd R.PC_STAT_HCODE : Int), (n : Int)] ∧
    Sent u (.session n) Res.OK [] ∧
    u.ses.gate = dropReq n (.pcClear) s.ses.gate ∧
    RegsKept [R.PC_STAT_HELD, R.PC_STAT_HUNIT, R.PC_STAT_HCODE] s u) ∧
  (∀ (t n : Nat) (s : State),
    n ≠ 0 → s.ses.open_.any (fun p => p.2.num = n) = true → s.turn n (.pcClear) = true → s.classAtLeast n
      Cls.SERVICE = false →
    ∃ u, exec (.pcClear t n) s = .next u ∧
    Sent u (.session n) Res.CLASS [] ∧
    RegsExact [] s u) ∧
  (∀ (t n f v : Nat) (s : State),
    n ≠ 0 → s.ses.open_.any (fun p => p.2.num = n) = true → s.turn n (.live (if f = 0 then R.PC_CFG_AREAMASK
      else R.PC_TEXT_SEGS)) = true → f = 0 ∨ f = 1 → s.mayLive n (if f = 0 then R.PC_CFG_AREAMASK else
      R.PC_TEXT_SEGS) = true → s.served = true → v < (if f = 0 then 2 ^ 12 else 2 ^ 112) →
    ∃ u, exec (.pcContentWrite t n f v) s = .next u ∧
    u.rd (if f = 0 then R.PC_CFG_AREAMASK else R.PC_TEXT_SEGS) = v ∧
    u.pc = s.pc ∧
    Sent u (.session n) Res.OK []) ∧
  (∀ (t n v : Nat) (s : State),
    n ≠ 0 → s.ses.open_.any (fun p => p.2.num = n) = true → s.turn n (.live R.PC_ICONS) = true → s.mayLive n
      R.PC_ICONS = true → s.served = true → v < 2 ^ 32 →
    ∃ u, exec (.pcContentWrite t n 2 v) s = .next u ∧
    u.rd R.PC_ICONS = v ∧
    u.pc = s.pc ∧
    Sent u (.session n) Res.OK []) ∧
  (∀ (t n v : Nat) (s : State),
    n ≠ 0 → s.ses.open_.any (fun p => p.2.num = n) = true → s.turn n (.live R.PC_CFG_AREAMASK) = true →
      s.mayLive n R.PC_CFG_AREAMASK = true → s.served = true → 2 ^ 12 ≤ v →
    ∃ u, exec (.pcContentWrite t n 0 v) s = .next u ∧
    Sent u (.session n) Res.VALUE [] ∧
    RegsExact [] s u)

/-- Chapter 17, the firmware update: BEGIN opens a transfer into the inactive slot, resumes the open one, or is
refused for the manifest, another transfer or a trial image (R555, R556, R557, R564); a block is taken, the last
one beginning verification, or refused (R558); STATUS and ABORT (R556); verification makes the image READY or
asks for the blocks of the section that failed (R559); a transfer expires after 30 min (R557); activation writes
the slot record as TRIAL and waits for the next start or begins the transition to UPDATE (R560, R561); the check
and condition numbers are the model's (log entry 28). What of this is the model's own choice or reading stands
in log entries 16, 28, 88 and 135. -/
def Obligations.UpdateComplete : Prop :=
  (∀ (t n : Nat) (m : ManifestIn) (s : State),
    n ≠ 0 → s.updRefusal n [Cls.SERVICE, Cls.FLEET] = none → s.isWorker = false → s.rd (R.UPD_SLOT_STATE (s.rd
      R.UPD_STAT_ACTIVE)) ≠ 1 → s.rd R.HMP_STAT_WRITING ≠ 1 → s.manifestFault m = 0 → s.upd.man = none → Room s →
    ∃ u, exec (.begin t n m) s = .next u ∧
    u.upd.man = some m ∧
    u.upd.got = [] ∧
    u.rd R.UPD_STAT_STATE = 1 ∧
    u.rd R.UPD_STAT_NBLOCKS = (m.imageLen + 65535) / 65536 ∧
    u.rd R.UPD_STAT_RECEIVED = 0 ∧
    u.rd (R.UPD_SLOT_STATE s.spareSlot) = 0 ∧
    look u.upd.inSlot s.spareSlot = none ∧
    Logged s u 0xA020 [(m.version : Int), ((manifestBlocks m : Nat) : Int), (n : Int)] ∧
    Sent u (.session n) Res.OK [] ∧
    RegsKept ([R.UPD_STAT_STATE, R.UPD_STAT_NBLOCKS, R.UPD_STAT_RECEIVED, R.UPD_STAT_BADCRC] ++
      [R.UPD_SLOT_STATE s.spareSlot, R.UPD_SLOT_VERSION s.spareSlot, R.UPD_SLOT_TRIES s.spareSlot]) s u) ∧
  (∀ (t n : Nat) (m o : ManifestIn) (s : State),
    n ≠ 0 → s.updRefusal n [Cls.SERVICE, Cls.FLEET] = none → s.isWorker = false → s.rd (R.UPD_SLOT_STATE (s.rd
      R.UPD_STAT_ACTIVE)) ≠ 1 → s.rd R.HMP_STAT_WRITING ≠ 1 → s.manifestFault m = 0 → s.upd.man = some o → m = o →
    ∃ u, exec (.begin t n m) s = .next u ∧
    u.upd = s.upd ∧
    Sent u (.session n) Res.OK [] ∧
    RegsExact [] s u) ∧
  (∀ (t n : Nat) (m o : ManifestIn) (s : State),
    n ≠ 0 → s.updRefusal n [Cls.SERVICE, Cls.FLEET] = none → s.isWorker = false → s.rd (R.UPD_SLOT_STATE (s.rd
      R.UPD_STAT_ACTIVE)) ≠ 1 → s.rd R.HMP_STAT_WRITING ≠ 1 → s.manifestFault m = 0 → s.upd.man = some o → m ≠ o →
      Room s →
    ∃ u, exec (.begin t n m) s = .next u ∧
    u.upd = s.upd ∧
    Sent u (.session n) 0xA027 [] ∧
    Logged s u 0xA027 [1] ∧
    RegsKept [] s u) ∧
  (∀ (t n : Nat) (m : ManifestIn) (s : State),
    n ≠ 0 → s.updRefusal n [Cls.SERVICE, Cls.FLEET] = none → s.isWorker = false → s.rd (R.UPD_SLOT_STATE (s.rd
      R.UPD_STAT_ACTIVE)) ≠ 1 → s.rd R.HMP_STAT_WRITING ≠ 1 → s.manifestFault m ≠ 0 → Room s →
    ∃ u, exec (.begin t n m) s = .next u ∧
    u.upd = s.upd ∧
    Sent u (.session n) 0xA021 [] ∧
    Logged s u 0xA021 [(s.manifestFault m : Int)] ∧
    RegsKept [] s u) ∧
  (∀ (t n : Nat) (m : ManifestIn) (s : State),
    n ≠ 0 → s.updRefusal n [Cls.SERVICE, Cls.FLEET] = none → s.isWorker = false → s.rd (R.UPD_SLOT_STATE (s.rd
      R.UPD_STAT_ACTIVE)) = 1 → Room s →
    ∃ u, exec (.begin t n m) s = .next u ∧
    u.upd = s.upd ∧
    Sent u (.session n) 0xA028 [] ∧
    Logged s u 0xA028 [(s.rd (R.UPD_SLOT_VERSION (s.rd R.UPD_STAT_ACTIVE)) : Int)]) ∧
  (∀ (t n b : Nat) (l : List Nat) (m : ManifestIn) (s : State),
    n ≠ 0 → s.updRefusal n [Cls.SERVICE, Cls.FLEET] = none → s.upd.man = some m → b < s.rd R.UPD_STAT_NBLOCKS →
      l.length = blockLen m b → s.rd R.UPD_STAT_STATE = 1 → look s.upd.got b = none →
    ∃ u, exec (.block t n b l (crc32c l)) s = .next u ∧
    look u.upd.got b = some l ∧
    u.upd.lastAt = max s.now t ∧
    u.rd R.UPD_STAT_RECEIVED = u.upd.got.length ∧
    u.upd.got = ins s.upd.got b l ∧
    u.rd R.UPD_STAT_STATE = (if (ins s.upd.got b l).length = s.rd R.UPD_STAT_NBLOCKS then 2 else 1) ∧
    Sent u (.session n) Res.OK [] ∧
    RegsExact [R.UPD_STAT_RECEIVED, R.UPD_STAT_STATE] s u) ∧
  (∀ (t n b c : Nat) (l : List Nat) (m : ManifestIn) (s : State),
    n ≠ 0 → s.updRefusal n [Cls.SERVICE, Cls.FLEET] = none → s.upd.man = some m → b < s.rd R.UPD_STAT_NBLOCKS →
      l.length = blockLen m b → crc32c l ≠ c → Room s →
    ∃ u, exec (.block t n b l c) s = .next u ∧
    u.upd = s.upd ∧
    u.rd R.UPD_STAT_BADCRC = satInc 0xFFFF (s.rd R.UPD_STAT_BADCRC) ∧
    Logged s u 0xA022 [(b : Int)] ∧
    Sent u (.session n) 0xA022 [] ∧
    RegsKept [R.UPD_STAT_BADCRC] s u) ∧
  (∀ (t n b c : Nat) (l : List Nat) (m : ManifestIn) (s : State),
    n ≠ 0 → s.updRefusal n [Cls.SERVICE, Cls.FLEET] = none → s.upd.man = some m → s.rd R.UPD_STAT_NBLOCKS ≤ b ∨
      l.length ≠ blockLen m b →
    ∃ u, exec (.block t n b l c) s = .next u ∧
    u.upd = s.upd ∧
    Sent u (.session n) Res.VALUE [] ∧
    RegsExact [] s u) ∧
  (∀ (t n : Nat) (s : State),
    n ≠ 0 → s.updRefusal n [Cls.MONITOR, Cls.OPERATOR, Cls.MACHINE, Cls.SERVICE, Cls.FLEET] = none →
    ∃ u, exec (.status t n) s = .next u ∧
    u.upd = s.upd ∧
    Sent u (.session n) Res.OK ((s.begin t).objectsOf 0xA100 ++ s.blockMap) ∧
    RegsExact [] s u) ∧
  (∀ (t n : Nat) (s : State),
    n ≠ 0 → s.updRefusal n [Cls.SERVICE, Cls.FLEET] = none → s.rd R.UPD_STAT_STATE ≠ 5 → s.upd.man.isSome = true
      →
    ∃ u, exec (.abort t n) s = .next u ∧
    u.upd.man = none ∧
    u.upd.got = [] ∧
    u.rd R.UPD_STAT_STATE = 0 ∧
    u.rd (R.UPD_SLOT_STATE s.spareSlot) = 0 ∧
    Sent u (.session n) Res.OK [] ∧
    RegsExact ([R.UPD_STAT_STATE, R.UPD_STAT_NBLOCKS, R.UPD_STAT_RECEIVED] ++ [R.UPD_SLOT_STATE s.spareSlot,
      R.UPD_SLOT_VERSION s.spareSlot, R.UPD_SLOT_TRIES s.spareSlot]) s u) ∧
  (∀ (t n : Nat) (s : State),
    n ≠ 0 → s.updRefusal n [Cls.SERVICE, Cls.FLEET] = none → s.rd R.UPD_STAT_STATE = 5 → Room s →
    ∃ u, exec (.abort t n) s = .next u ∧
    u.upd = s.upd ∧
    Sent u (.session n) 0xA027 [] ∧
    Logged s u 0xA027 [4] ∧
    RegsKept [] s u) ∧
  (∀ (t : Nat) (m : ManifestIn) (s : State),
    s.upd.man = some m → s.rd R.UPD_STAT_STATE = 2 → m.sections.all (fun x => sha256 (s.sectionBytes x) =
      x.digest) = true → Room s →
    ∃ u, exec (.updVerify t) s = .next u ∧
    u.rd R.UPD_STAT_STATE = 3 ∧
    u.upd = { s.upd with readyAt := max s.now t } ∧
    Logged s u 0xA024 [(m.version : Int)] ∧
    RegsKept [R.UPD_STAT_STATE] s u) ∧
  (∀ (t : Nat) (m : ManifestIn) (x : SectionIn) (s : State),
    s.upd.man = some m → s.rd R.UPD_STAT_STATE = 2 → m.sections.filter (fun x => sha256 (s.sectionBytes x) ≠
      x.digest) = [x] → Room s →
    ∃ u, exec (.updVerify t) s = .next u ∧
    u.rd R.UPD_STAT_STATE = 1 ∧
    u.upd =
      { s.upd with got := s.upd.got.filter (fun (b : Nat × List Nat) => !(x.first ≤ b.1 && b.1 ≤ x.last)) } ∧
    u.rd R.UPD_STAT_RECEIVED = u.upd.got.length ∧
    Logged s u 0xA023 [(x.kind : Int)] ∧
    RegsKept [R.UPD_STAT_STATE, R.UPD_STAT_RECEIVED] s u) ∧
  (∀ (t : Nat) (s : State),
    s.upd.man = none ∨ s.rd R.UPD_STAT_STATE ≠ 2 →
    ∃ u, exec (.updVerify t) s = .next u ∧
    u.upd = s.upd ∧
    RegsExact [] s u) ∧
  (∀ (t : Nat) (s : State),
    (s.rd R.UPD_STAT_STATE = 1 ∧ s.upd.lastAt + 1800000000000 ≤ max s.now t) ∨ (s.rd R.UPD_STAT_STATE = 3 ∧
      s.upd.readyAt + 1800000000000 ≤ max s.now t) →
    ∃ u, exec (.updExpire t) s = .next u ∧
    u.upd.man = none ∧
    u.upd.got = [] ∧
    u.rd R.UPD_STAT_STATE = 0 ∧
    u.rd (R.UPD_SLOT_STATE s.spareSlot) = 0 ∧
    RegsExact ([R.UPD_STAT_STATE, R.UPD_STAT_NBLOCKS, R.UPD_STAT_RECEIVED] ++ [R.UPD_SLOT_STATE s.spareSlot,
      R.UPD_SLOT_VERSION s.spareSlot, R.UPD_SLOT_TRIES s.spareSlot]) s u) ∧
  (∀ (t : Nat) (s : State),
    s.rd R.UPD_STAT_STATE = 1 → max s.now t < s.upd.lastAt + 1800000000000 →
    ∃ u, exec (.updExpire t) s = .next u ∧
    u.upd = s.upd ∧
    RegsExact [] s u) ∧
  (∀ (t n : Nat) (m : ManifestIn) (s : State),
    n ≠ 0 → s.updRefusal n [Cls.SERVICE, Cls.FLEET] = none → s.activateFault = 0 → s.upd.man = some m → Room s →
    ∃ u, exec (.activate t n true) s = .next u ∧
    u.rd R.UPD_STAT_STATE = 4 ∧
    u.rd (R.UPD_SLOT_STATE s.spareSlot) = 1 ∧
    u.rd (R.UPD_SLOT_VERSION s.spareSlot) = m.version ∧
    u.rd (R.UPD_SLOT_TRIES s.spareSlot) = 0 ∧
    look u.upd.inSlot s.spareSlot = some m ∧
    u.upd.actMode = s.mode ∧
    u.md = s.md ∧
    Logged s u 0xA025 [(m.version : Int), 1, (s.mode : Int)] ∧
    Sent u (.session n) Res.OK [] ∧
    RegsKept ([R.UPD_STAT_STATE] ++ [R.UPD_SLOT_STATE s.spareSlot, R.UPD_SLOT_VERSION s.spareSlot,
      R.UPD_SLOT_TRIES s.spareSlot]) s u) ∧
  (∀ (t n : Nat) (m : ManifestIn) (s : State),
    n ≠ 0 → s.updRefusal n [Cls.SERVICE] = none → s.activateFault = 0 → s.upd.man = some m → Room s →
    ∃ u, exec (.activate t n false) s = .next u ∧
    u.rd R.UPD_STAT_STATE = 5 ∧
    u.rd (R.UPD_SLOT_STATE s.spareSlot) = 1 ∧
    u.md.trans = some { target := Mode.UPDATE, source := s.mode, t0 := max s.now t } ∧
    Logged s u 0xA025 [(m.version : Int), 0, (s.mode : Int)] ∧
    Sent u (.session n) Res.OK []) ∧
  (∀ (t n : Nat) (w : Bool) (s : State),
    n ≠ 0 → s.updRefusal n (if w = true then [Cls.SERVICE, Cls.FLEET] else [Cls.SERVICE]) = none →
      s.activateFault ≠ 0 → Room s →
    ∃ u, exec (.activate t n w) s = .next u ∧
    u.upd = s.upd ∧
    Logged s u 0xA026 [5, (s.activateFault : Int)] ∧
    Sent u (.session n) 0xA026 [] ∧
    RegsKept [] s u) ∧
  (∀ (t n : Nat) (s : State),
    n ≠ 0 → s.updRefusal n [Cls.SERVICE] = some Res.CLASS → s.session? n ≠ none →
    ∃ u, exec (.activate t n false) s = .next u ∧
    u.upd = s.upd ∧
    Sent u (.session n) Res.CLASS [] ∧
    RegsExact [] s u)

/-- Chapter 17, the fleet link: an attempt brings a connection up over the bearer FL.CFG chooses, or the next one
waits twice as long up to RETRY_MAX; a connection lost after 60 s up starts again at 5 s (R568); an attempt is
an operand with its TLS handshake (log entry 135); telemetry is published at each whole multiple of TELE_S or
waits, the oldest of 4,096 dropped (R570); the cart record is broadcast at each 100 ms in FIELD_IDLE and HARVEST
(R571). What of this is the model's own choice or reading stands in log entries 28, 89 and 135. -/
def Obligations.FleetComplete : Prop :=
  (∀ (t k : Nat) (cell wlan v : Bool) (s : State),
    k = 0 ∨ k = 1 → s.isWorker = false → s.rd R.FL_CFG_EN = 1 → s.rd (if k = 0 then R.FL_STAT_SESS else
      R.FL_STAT_MQTT) = 0 → ((look s.fl.conn k).getD {}).tryAt ≤ max s.now t → s.radioOn = true → s.bearer cell
      wlan = some v →
    ∃ u, exec (.flReconnect t k .opens cell wlan) s = .next u ∧
    u.rd (if k = 0 then R.FL_STAT_SESS else R.FL_STAT_MQTT) = 1 ∧
    u.rd R.FL_STAT_VIA_WLAN = bit01 v ∧
    u.fl = s.fl ∧
    Sent u .fleet 0x51 ((k : Int) :: ((if k = 0 then s.rd R.FL_CFG_PSP_PORT else s.rd R.FL_CFG_MQTT_PORT) : Int)
      :: (bit01 v : Int) :: (s.stringAt (s.rd R.FL_CFG_HOST)).map Int.ofNat) ∧
    RegsExact [R.FL_STAT_SESS, R.FL_STAT_MQTT, R.FL_STAT_VIA_WLAN] s u) ∧
  (∀ (t k : Nat) (cell wlan : Bool) (s : State),
    k = 0 ∨ k = 1 → s.isWorker = false → s.rd R.FL_CFG_EN = 1 → s.rd (if k = 0 then R.FL_STAT_SESS else
      R.FL_STAT_MQTT) = 0 → ((look s.fl.conn k).getD {}).tryAt ≤ max s.now t → s.radioOn = false ∨ s.bearer cell
      wlan = none →
    ∃ u, exec (.flReconnect t k .opens cell wlan) s = .next u ∧
    look u.fl.conn k = some
      { wait := min (s.rd R.FL_CFG2_RETRY_MAX) (2 * ((look s.fl.conn k).getD {}).wait), tryAt := max s.now t + ((look s.fl.conn k).getD {}).wait * 1000000000 }
      ∧
    u.rd (if k = 0 then R.FL_STAT_SESS else R.FL_STAT_MQTT) = 0 ∧
    u.fl.queue = s.fl.queue ∧
    RegsExact [] s u) ∧
  (∀ (t k : Nat) (cell wlan : Bool) (s : State),
    k = 0 ∨ k = 1 → s.isWorker = false → s.rd R.FL_CFG_EN = 1 → s.rd (if k = 0 then R.FL_STAT_SESS else
      R.FL_STAT_MQTT) = 1 →
    ∃ u, exec (.flReconnect t k .fails cell wlan) s = .next u ∧
    look u.fl.conn k = some
      { wait := min (s.rd R.FL_CFG2_RETRY_MAX) (2 * ((look s.fl.conn k).getD {}).wait), tryAt := max s.now t + ((look s.fl.conn k).getD {}).wait * 1000000000 }
      ∧
    u.rd (if k = 0 then R.FL_STAT_SESS else R.FL_STAT_MQTT) = 0 ∧
    u.fl.queue = s.fl.queue ∧
    RegsExact [(if k = 0 then R.FL_STAT_SESS else R.FL_STAT_MQTT)] s u) ∧
  (∀ (t k : Nat) (tls : TlsIn) (cell wlan : Bool) (s : State),
    k = 0 ∨ k = 1 → s.isWorker = false → s.rd R.FL_CFG_EN = 1 → s.rd (if k = 0 then R.FL_STAT_SESS else
      R.FL_STAT_MQTT) = 1 → s.radioOn = true → s.bearer cell wlan ≠ none → s.tlsFault tls = 0 → Room s →
    ∃ u, exec (.flReconnect t k (.up tls) cell wlan) s = .next u ∧
    u.rd (if k = 0 then R.FL_STAT_SESS else R.FL_STAT_MQTT) = 2 ∧
    (look u.fl.conn k).map (fun (c : ConnS) => (c.wait, c.upAt)) = some (((look s.fl.conn k).getD {}).wait, max
      s.now t) ∧
    Logged s u 0xA040 [(k : Int), 1, (bit01 (s.rd R.FL_STAT_VIA_WLAN == 1) : Int)] ∧
    (k = 1 → u.fl.queue = [] ∧ u.rd R.FL_STAT_QUEUED = 0 ∧ Sent u .fleet 0x50 ((hexAscii 8 s.hmp.serial).map
      Int.ofNat) ∧ (∀ x ∈ s.fl.queue, Sent u .fleet 0x60 (((s.stringAt (s.rd R.FL_CFG2_TOPIC) ++ [47] ++ hexAscii
      16 (s.rd R.HMP_ID_MACHINE_ID) ++ [47, 116, 101, 108, 101]).length : Int) :: (s.stringAt (s.rd
      R.FL_CFG2_TOPIC) ++ [47] ++ hexAscii 16 (s.rd R.HMP_ID_MACHINE_ID) ++ [47, 116, 101, 108, 101]).map
      Int.ofNat ++ x))) ∧
    (k = 0 → u.fl.queue = s.fl.queue) ∧
    RegsKept [R.FL_STAT_SESS, R.FL_STAT_MQTT, R.FL_STAT_VIA_WLAN, R.FL_STAT_QUEUED] s u) ∧
  (∀ (t k : Nat) (tls : TlsIn) (cell wlan : Bool) (s : State),
    k = 0 ∨ k = 1 → s.isWorker = false → s.rd R.FL_CFG_EN = 1 → s.rd (if k = 0 then R.FL_STAT_SESS else
      R.FL_STAT_MQTT) = 1 → s.radioOn = true → s.bearer cell wlan ≠ none → s.tlsFault tls ≠ 0 → Room s →
    ∃ u, exec (.flReconnect t k (.up tls) cell wlan) s = .next u ∧
    look u.fl.conn k = some
      { wait := min (s.rd R.FL_CFG2_RETRY_MAX) (2 * ((look s.fl.conn k).getD {}).wait), tryAt := max s.now t + ((look s.fl.conn k).getD {}).wait * 1000000000 }
      ∧
    u.rd (if k = 0 then R.FL_STAT_SESS else R.FL_STAT_MQTT) = 0 ∧
    u.fl.queue = s.fl.queue ∧
    Logged s u 0x9043 [(((if s.rd R.FL_STAT_VIA_WLAN = 1 then 8 else 9) : Nat) : Int), ((s.tlsFault tls : Nat) :
      Int)] ∧
    RegsKept [(if k = 0 then R.FL_STAT_SESS else R.FL_STAT_MQTT)] s u) ∧
  (∀ (t k : Nat) (g : FleetStep) (cell wlan : Bool) (s : State),
    k = 0 ∨ k = 1 → s.isWorker = true ∨ s.rd R.FL_CFG_EN ≠ 1 ∨ (g = .opens ∧ (s.rd (if k = 0 then R.FL_STAT_SESS
      else R.FL_STAT_MQTT) ≠ 0 ∨ max s.now t < ((look s.fl.conn k).getD {}).tryAt)) ∨ (g ≠ .opens ∧ s.rd (if k = 0
      then R.FL_STAT_SESS else R.FL_STAT_MQTT) ≠ 1) →
    ∃ u, exec (.flReconnect t k g cell wlan) s = .next u ∧
    u.fl = s.fl ∧
    RegsExact [] s u) ∧
  (∀ (t k : Nat) (s : State),
    k = 0 ∨ k = 1 → s.rd (if k = 0 then R.FL_STAT_SESS else R.FL_STAT_MQTT) = 2 → ((look s.fl.conn k).getD
      {}).upAt + 60000000000 ≤ max s.now t → Room s →
    ∃ u, exec (.flConnectionLost t k) s = .next u ∧
    u.rd (if k = 0 then R.FL_STAT_SESS else R.FL_STAT_MQTT) = 0 ∧
    look u.fl.conn k = some { wait := min (s.rd R.FL_CFG2_RETRY_MAX) 10, tryAt := max s.now t + 5000000000 } ∧
    Logged s u 0xA040 [(k : Int), 0, (s.rd R.FL_STAT_VIA_WLAN : Int)] ∧
    RegsKept [R.FL_STAT_SESS, R.FL_STAT_MQTT] s u) ∧
  (∀ (t k : Nat) (s : State),
    k = 0 ∨ k = 1 → s.rd (if k = 0 then R.FL_STAT_SESS else R.FL_STAT_MQTT) = 2 → max s.now t < ((look s.fl.conn
      k).getD {}).upAt + 60000000000 → Room s →
    ∃ u, exec (.flConnectionLost t k) s = .next u ∧
    u.rd (if k = 0 then R.FL_STAT_SESS else R.FL_STAT_MQTT) = 0 ∧
    look u.fl.conn k = some
      { wait := min (s.rd R.FL_CFG2_RETRY_MAX) (2 * ((look s.fl.conn k).getD {}).wait), tryAt := max s.now t + ((look s.fl.conn k).getD {}).wait * 1000000000 }) ∧
  (∀ (t : Nat) (k : Int) (s : State),
    s.isWorker = false → s.rd R.FL_CFG_EN = 1 → (s.begin t).periodDue (s.rd R.FL_CFG_TELE_S * 1000000000)
      s.fl.teleAt = some k → s.rd R.FL_STAT_MQTT = 2 →
    ∃ u, exec (.telemetryPublish t) s = .next u ∧
    Sent u .fleet 0x60 (((s.stringAt (s.rd R.FL_CFG2_TOPIC) ++ [47] ++ hexAscii 16 (s.rd R.HMP_ID_MACHINE_ID) ++
      [47, 116, 101, 108, 101]).length : Int) :: (s.stringAt (s.rd R.FL_CFG2_TOPIC) ++ [47] ++ hexAscii 16 (s.rd
      R.HMP_ID_MACHINE_ID) ++ [47, 116, 101, 108, 101]).map Int.ofNat ++ (s.begin t).teleRecord) ∧
    u.fl = { s.fl with teleAt := some k } ∧
    RegsExact [] s u) ∧
  (∀ (t : Nat) (k : Int) (s : State),
    s.isWorker = false → s.rd R.FL_CFG_EN = 1 → (s.begin t).periodDue (s.rd R.FL_CFG_TELE_S * 1000000000)
      s.fl.teleAt = some k → s.rd R.FL_STAT_MQTT ≠ 2 → s.fl.queue.length < 4096 →
    ∃ u, exec (.telemetryPublish t) s = .next u ∧
    u.fl = { s.fl with teleAt := some k, queue := s.fl.queue ++ [(s.begin t).teleRecord] } ∧
    u.rd R.FL_STAT_QUEUED = s.fl.queue.length + 1 ∧
    RegsExact [R.FL_STAT_QUEUED] s u) ∧
  (∀ (t : Nat) (k : Int) (s : State),
    s.isWorker = false → s.rd R.FL_CFG_EN = 1 → (s.begin t).periodDue (s.rd R.FL_CFG_TELE_S * 1000000000)
      s.fl.teleAt = some k → s.rd R.FL_STAT_MQTT ≠ 2 → s.fl.queue.length = 4096 → Room s →
    ∃ u, exec (.telemetryPublish t) s = .next u ∧
    u.fl = { s.fl with teleAt := some k, queue := s.fl.queue.drop 1 ++ [(s.begin t).teleRecord] } ∧
    u.rd R.FL_STAT_QUEUED = 4096 ∧
    u.rd R.FL_STAT_DROPPED = satInc 0xFFFF (s.rd R.FL_STAT_DROPPED) ∧
    Logged s u 0xA041 [1] ∧
    RegsKept [R.FL_STAT_QUEUED, R.FL_STAT_DROPPED] s u) ∧
  (∀ (t : Nat) (s : State),
    (s.begin t).periodDue (s.rd R.FL_CFG_TELE_S * 1000000000) s.fl.teleAt = none →
    ∃ u, exec (.telemetryPublish t) s = .next u ∧
    u.fl = s.fl ∧
    RegsExact [] s u) ∧
  (∀ (t q : Nat) (k : Int) (s : State),
    s.rd R.FL_CFG2_CART_EN = 1 → s.mode = Mode.FIELD_IDLE ∨ s.mode = Mode.HARVEST → s.radioOn = true → (s.begin
      t).periodDue 100000000 s.fl.cartAt = some k → q = (s.rd R.FL_STAT_CARTSEQ + 1) % 65536 →
    ∃ u, exec (.cartBroadcast t) s = .next u ∧
    u.rd R.FL_STAT_CARTSEQ = q ∧
    u.fl = { s.fl with cartAt := some k } ∧
    Sent u .fleet 0x61 ((s.rd R.FL_CFG2_CART_PORT : Int) :: (((s.begin t).wr R.FL_STAT_CARTSEQ q).cartRecord
      q).1.map Int.ofNat) ∧
    RegsExact [R.FL_STAT_CARTSEQ] s u) ∧
  (∀ (t : Nat) (s : State),
    s.rd R.FL_CFG2_CART_EN ≠ 1 ∨ (s.mode ≠ Mode.FIELD_IDLE ∧ s.mode ≠ Mode.HARVEST) ∨ s.radioOn = false ∨
      (s.begin t).periodDue 100000000 s.fl.cartAt = none →
    ∃ u, exec (.cartBroadcast t) s = .next u ∧
    u.fl = s.fl ∧
    RegsExact [] s u)

/-- Chapter 18: an input without a launched consumer is converted, judged over range and against its limits, and
shown (R584 to R586, Table 18.8); a frequency, a switch with its comparator, a current whose shunt opens above
30 mA and closes 100 ms later; a hold within 20 µs shares the last one; a camera link above 600 mA for 1 ms, or
the highest above 3.2 A together, is switched off (R592). The wave between conversions is an operand (log entry
136). What a frequency input reads before a full period is a free value (log entry 51). What of this is the
model's own choice or reading stands in log entries 14, 51 and 136. -/
def Obligations.InputsAndCameraPowerComplete : Prop :=
  (∀ (t k : Nat) (x : ReadingIn) (s : State),
    1 ≤ k → k ≤ 24 → onGrid (s.begin t).harvest 1000000 = true → s.uiLaunched k = false → s.rd (R.UI_CFG_MODE k)
      = 1 ∨ s.rd (R.UI_CFG_MODE k) = 3 → (s.uiS k).heldAt.all (fun (h : Nat) => decide (h + 20000 ≤ max s.now t))
      = true → s.uiCause k (s.uiLevel k x) = 0 →
    ∃ u, exec (.uiStatusConvert t k x) s = .next u ∧
    u.rd (R.UI_STAT_VALUE k) = toF32 (s.uiLevel k x * s.rdF (R.UI_SCALE_GAIN k) + s.rdF (R.UI_SCALE_OFFSET k)) ∧
    (u.uiS k).value = some (u.rd (R.UI_STAT_VALUE k)) ∧
    (u.uiS k).bad = 0 ∧
    (u.uiS k).good = satInc 255 (s.uiS k).good ∧
    (u.uiS k).heldAt = some (max s.now t) ∧
    u.rd (R.UI_STAT_FAULT k) = (if s.rd (R.UI_CFG_PLAUS_N k) ≤ satInc 255 (s.uiS k).good then 0 else s.rd
      (R.UI_STAT_FAULT k)) ∧
    RegsExact [R.UI_STAT_VALUE k, R.UI_STAT_FAULT k, R.UI_STAT_CAUSE k] s u) ∧
  (∀ (t k : Nat) (x : ReadingIn) (s : State),
    1 ≤ k → k ≤ 24 → onGrid (s.begin t).harvest 1000000 = true → s.uiLaunched k = false → s.rd (R.UI_CFG_MODE k)
      = 1 ∨ s.rd (R.UI_CFG_MODE k) = 3 → (s.uiS k).heldAt.all (fun (h : Nat) => decide (h + 20000 ≤ max s.now t))
      = true → s.uiCause k (s.uiLevel k x) ≠ 0 →
    ∃ u, exec (.uiStatusConvert t k x) s = .next u ∧
    (u.uiS k).value = none ∧
    (u.uiS k).good = 0 ∧
    (u.uiS k).bad = satInc 255 (s.uiS k).bad ∧
    (s.rd (R.UI_CFG_PLAUS_N k) ≤ satInc 255 (s.uiS k).bad → u.rd (R.UI_STAT_FAULT k) = 1 ∧ u.rd (R.UI_STAT_CAUSE
      k) = s.uiCause k (s.uiLevel k x)) ∧
    (satInc 255 (s.uiS k).bad < s.rd (R.UI_CFG_PLAUS_N k) → RegsExact [] s u) ∧
    RegsExact [R.UI_STAT_FAULT k, R.UI_STAT_CAUSE k] s u) ∧
  (∀ (t k : Nat) (x : ReadingIn) (s : State),
    1 ≤ k → k ≤ 24 → onGrid (s.begin t).harvest 1000000 = true → s.uiLaunched k = false → s.rd (R.UI_CFG_MODE k)
      = 2 → (s.uiS k).heldAt.all (fun (h : Nat) => decide (h + 20000 ≤ max s.now t)) = true → 30 < s.uiLevel k x →
      (s.uiS k).openTill = none →
    ∃ u, exec (.uiStatusConvert t k x) s = .next u ∧
    (u.uiS k).openTill = some (max s.now t + 100000000) ∧
    (u.uiS k).value = none) ∧
  (∀ (t k a b e : Nat) (x : ReadingIn) (s : State),
    1 ≤ k → k ≤ 24 → onGrid (s.begin t).harvest 1000000 = true → s.uiLaunched k = false → s.rd (R.UI_CFG_MODE k)
      = 4 → (s.uiS k).heldAt.all (fun (h : Nat) => decide (h + 20000 ≤ max s.now t)) = true → (((s.begin
      t).uiTrack k x).uiS k).rises = [b, a] → (((s.begin t).uiTrack k x).uiS k).edge = some e → max s.now t < e +
      s.rd (R.UI_CFG_FREQ_TO k) * 1000000 → s.uiCause k (mkRat 1000000000 (b - a)) = 0 →
    ∃ u, exec (.uiStatusConvert t k x) s = .next u ∧
    u.rd (R.UI_STAT_VALUE k) = toF32 (mkRat 1000000000 (b - a) * s.rdF (R.UI_SCALE_GAIN k) + s.rdF
      (R.UI_SCALE_OFFSET k)) ∧
    RegsExact [R.UI_STAT_VALUE k, R.UI_STAT_FAULT k, R.UI_STAT_CAUSE k] s u) ∧
  (∀ (t k : Nat) (x : ReadingIn) (s : State),
    1 ≤ k → k ≤ 24 → onGrid (s.begin t).harvest 1000000 = true → s.uiLaunched k = false → s.rd (R.UI_CFG_MODE k)
      = 4 → (s.uiS k).heldAt.all (fun (h : Nat) => decide (h + 20000 ≤ max s.now t)) = true → (((s.begin
      t).uiTrack k x).uiS k).edge.all (fun (e : Nat) => decide (e + s.rd (R.UI_CFG_FREQ_TO k) * 1000000 ≤ max
      s.now t)) = true → (((s.begin t).uiTrack k x).uiS k).edge.isSome = true → s.uiCause k 0 = 0 →
    ∃ u, exec (.uiStatusConvert t k x) s = .next u ∧
    u.rd (R.UI_STAT_VALUE k) = toF32 (0 * s.rdF (R.UI_SCALE_GAIN k) + s.rdF (R.UI_SCALE_OFFSET k)) ∧
    RegsExact [R.UI_STAT_VALUE k, R.UI_STAT_FAULT k, R.UI_STAT_CAUSE k] s u) ∧
  (∀ (t k : Nat) (x : ReadingIn) (s : State),
    1 ≤ k → k ≤ 24 → onGrid (s.begin t).harvest 1000000 = true → s.uiLaunched k = false → s.rd (R.UI_CFG_MODE k)
      = 5 → x.wave = [] → (s.uiS k).heldAt.all (fun (h : Nat) => decide (h + 20000 ≤ max s.now t)) = true →
    ∃ u, exec (.uiStatusConvert t k x) s = .next u ∧
    (u.uiS k).high = s.uiHigh k (s.uiS k).high (s.uiLevel k x) ∧
    (u.uiS k).taken = (if (s.uiS k).since + 1000000 ≤ max s.now t then (s.uiS k).high else (s.uiS k).taken) ∧
    u.rd (R.UI_STAT_ACTIVE k) = bit01 ((u.uiS k).taken != s.flag (R.UI_CFG_INV k)) ∧
    RegsExact [R.UI_STAT_ACTIVE k, R.UI_STAT_VALUE k, R.UI_STAT_FAULT k, R.UI_STAT_CAUSE k] s u) ∧
  (∀ (t k h : Nat) (x : ReadingIn) (s : State),
    1 ≤ k → k ≤ 24 → onGrid (s.begin t).harvest 1000000 = true → s.uiLaunched k = false → s.rd (R.UI_CFG_MODE k)
      ≠ 0 → (s.uiS k).heldAt = some h → h + 4 < max s.now t → max s.now t < h + 20000 →
    ∃ u, exec (.uiStatusConvert t k x) s = .next u ∧
    u.rd (R.UI_STAT_SHARED k) = satInc 0xFFFF (s.rd (R.UI_STAT_SHARED k)) ∧
    (u.uiS k).value = (s.uiS k).value ∧
    (u.uiS k).heldAt = some h ∧
    RegsExact [R.UI_STAT_SHARED k] s u) ∧
  (∀ (t k : Nat) (x : ReadingIn) (s : State),
    s.uiLaunched k = true ∨ onGrid (s.begin t).harvest 1000000 = false ∨ s.rd (R.UI_CFG_MODE k) = 0 →
    ∃ u, exec (.uiStatusConvert t k x) s = .next u ∧
    u.ui = s.ui ∧
    RegsExact [] s u) ∧
  (∀ (t k e : Nat) (s : State),
    (s.uiS k).openTill = some e → e ≤ max s.now t →
    ∃ u, exec (.uiShuntReclose t k) s = .next u ∧
    u.uiS k = { s.uiS k with openTill := none } ∧
    RegsExact [] s u) ∧
  (∀ (t k e : Nat) (s : State),
    (s.uiS k).openTill = some e → max s.now t < e →
    ∃ u, exec (.uiShuntReclose t k) s = .next u ∧
    u.ui = s.ui ∧
    RegsExact [] s u) ∧
  (∀ (t : Nat) (l : List (Nat × Nat)) (s : State),
    cameras.all (fun c => !(600 < s.linkCurrent l c && decide (1000000 ≤ (l.getD (c - 1) (0, 0)).2))) = true →
      sumNat (cameras.map (s.linkCurrent l)) ≤ 3200 →
    ∃ u, exec (.pocOvercurrent t l) s = .next u ∧
    u.cams = s.cams ∧
    RegsExact [] s u) ∧
  (∀ (t c : Nat) (l : List (Nat × Nat)) (s : State),
    c ∈ cameras → (600 < s.linkCurrent l c && decide (1000000 ≤ (l.getD (c - 1) (0, 0)).2)) = true → cameras.all
      (fun d => d = c || !(600 < s.linkCurrent l d && decide (1000000 ≤ (l.getD (d - 1) (0, 0)).2))) = true →
      sumNat (cameras.map (s.linkCurrent l)) ≤ 3200 + s.linkCurrent l c → s.camUsed c = true → (s.camS c).locked =
      true → Room s →
    ∃ u, exec (.pocOvercurrent t l) s = .next u ∧
    (u.camS c).off = true ∧
    (u.camS c).locked = false ∧
    u.rd (R.CAM_STAT_STATE c) = 4 ∧
    (∀ d ∈ cameras, d ≠ c → u.camS d = s.camS d) ∧
    Logged s u 0x6001 [(c : Int), 0, (s.rd (R.CAM_CFG_GEAR c) : Int), (s.rd (R.CAM_TIME_TRIG_LAT c) : Int)] ∧
    RegsKept [R.CAM_STAT_STATE c] s u) ∧
  (∀ (t c : Nat) (l : List (Nat × Nat)) (s : State),
    c ∈ cameras → 0 < s.linkCurrent l c → cameras.all (fun d => !(600 < s.linkCurrent l d && decide (1000000 ≤
      (l.getD (d - 1) (0, 0)).2))) = true → cameras.all (fun d => decide (d ≤ c) || s.linkCurrent l d = 0) = true
      → 3200 < sumNat (cameras.map (s.linkCurrent l)) → sumNat (cameras.map (s.linkCurrent l)) ≤ 3200 +
      s.linkCurrent l c →
    ∃ u, exec (.pocOvercurrent t l) s = .next u ∧
    (u.camS c).off = true ∧
    (∀ d ∈ cameras, d ≠ c → u.camS d = s.camS d) ∧
    u.ui = s.ui)
end

