-- ==== Sys2Proof/Laws/Follows.lean ====
section
/-! SUPPORT. The calculus of `Follows`: what an operation may change, composed along a meaning. -/

namespace Sys2Proof.Machine

theorem Frame.rfl' (l : List Part) (s : State) : Frame l s s := by
  intro p _; cases p <;> rfl

theorem Part.same_trans (p : Part) {s t u : State} (h : p.same s t) (k : p.same t u) : p.same s u := by
  cases p <;> exact Eq.trans k h

theorem Frame.trans {l : List Part} {s t u : State} (h : Frame l s t) (k : Frame l t u) : Frame l s u :=
  fun p hp => p.same_trans (h p hp) (k p hp)

theorem Frame.mono {l m : List Part} {s t : State} (h : Frame l s t) (k : l ⊆ m) : Frame m s t :=
  fun p hp => h p (fun hl => hp (k hl))

theorem Follows.rfl' (l : List Part) (s : State) : Follows l s s := ⟨Frame.rfl' l s, id⟩

theorem Follows.trans {l : List Part} {s t u : State} (h : Follows l s t) (k : Follows l t u) :
    Follows l s u := ⟨h.frame.trans k.frame, k.bounded ∘ h.bounded⟩

theorem Follows.mono {l m : List Part} {s t : State} (h : Follows l s t) (k : l ⊆ m) : Follows m s t :=
  ⟨h.frame.mono k, h.bounded⟩

/-- An operation whose own lemma allows fewer parts, after others. -/
theorem Follows.next {l m : List Part} {s t u : State} (k : Follows m t u) (hm : m ⊆ l)
    (h : Follows l s t) : Follows l s u := h.trans (k.mono hm)

/-- A fold each step of which keeps to the parts. -/
theorem Follows.foldl {α : Type} {l : List Part} {s t : State} {f : State → α → State} (xs : List α)
    (h : Follows l s t) (k : ∀ u x, Follows l u (f u x)) : Follows l s (xs.foldl f t) := by
  induction xs generalizing t with
  | nil => exact h
  | cons x xs ih => exact ih (h.trans (k t x))

/-- A fold that carries a second value. -/
theorem Follows.foldl1 {α β : Type} {l : List Part} {s : State} {p : State × β} {f : State × β → α → State × β}
    (xs : List α) (h : Follows l s p.1) (k : ∀ q x, Follows l q.1 (f q x).1) :
    Follows l s (xs.foldl f p).1 := by
  induction xs generalizing p with
  | nil => exact h
  | cons x xs ih => exact ih (h.trans (k p x))

theorem Follows.fst {β : Type} {l : List Part} {s : State} {r : State × β} {t : State} {b : β}
    (e : r = (t, b)) (h : Follows l s r.1) : Follows l s t := by rw [e] at h; exact h

theorem Follows.snd {β : Type} {l : List Part} {s : State} {r : β × State} {t : State} {b : β}
    (e : r = (b, t)) (h : Follows l s r.2) : Follows l s t := by rw [e] at h; exact h

theorem Follows.some {l : List Part} {s t : State} {o : Option State}
    (e : o = some t) (h : ∀ u, o = some u → Follows l s u) : Follows l s t := h t e

/-- Fields written in place: the parts they are stand in the list. -/
theorem Follows.upd {l : List Part} {s x : State} {v1 v2 v3 v4 v5 v6 v7 v8 v9 v10 v11 v12 v13 v14 v15 v16 v17 v18 v19 v20 v21 v22 v23 v24 v25 v26 v27 v28 v29 v30 v31 v32 v33 v34 v35 v36 v37 v38 v39 v40 v41}
    (k : Follows l x (State.mk x.pending v1 v2 v3 v4 v5 v6 v7 v8 v9 v10 v11 v12 v13 v14 v15 v16 v17 v18 v19 v20 v21 v22 v23 v24 v25 v26 v27 v28 v29 v30 v31 v32 v33 v34 v35 v36 v37 v38 v39 v40 v41)) (h : Follows l s x) :
    Follows l s (State.mk x.pending v1 v2 v3 v4 v5 v6 v7 v8 v9 v10 v11 v12 v13 v14 v15 v16 v17 v18 v19 v20 v21 v22 v23 v24 v25 v26 v27 v28 v29 v30 v31 v32 v33 v34 v35 v36 v37 v38 v39 v40 v41) := h.trans k

/-- Both branches of a condition. -/
theorem Follows.ite {c : Prop} [Decidable c] {l : List Part} {s a b : State} (h : c → Follows l s a)
    (k : ¬c → Follows l s b) : Follows l s (if c then a else b) := by
  by_cases hc : c
  · rw [if_pos hc]; exact h hc
  · rw [if_neg hc]; exact k hc

/-- An outcome, when it is a next state, follows. -/
def Leads (l : List Part) (s : State) (o : Host.Outcome State Fault Refusal) : Prop :=
  ∀ t, o = .next t → Follows l s t

theorem Leads.next {l : List Part} {s t : State} (h : Follows l s t) : Leads l s (.next t) := by
  intro u e; cases e; exact h

theorem Leads.fault {l : List Part} {s : State} (r : Fault) : Leads l s (.fault r) := by
  intro u e; cases e

theorem Leads.ite {c : Prop} [Decidable c] {l : List Part} {s : State}
    {a b : Host.Outcome State Fault Refusal} (h : c → Leads l s a)
    (k : ¬c → Leads l s b) : Leads l s (if c then a else b) := by
  by_cases hc : c
  · rw [if_pos hc]; exact h hc
  · rw [if_neg hc]; exact k hc

end Sys2Proof.Machine
end

