-- ==== Sys2Proof/Laws/CoreOps.lean ====
section
/-! SUPPORT. What each shared operation may change: registers, the event stream, requests, the one-shot queue, the power die. One lemma per operation: the parts
of the state outside its list are unchanged, and the bounds are kept. -/

namespace Sys2Proof.Machine

theorem State.answer_follows (s : State) (dest : Dest) (code : Nat) (data : (List Int)) :
    Follows [.answers] s (State.answer s dest code data) := by
  unfold State.answer
  refine Follows.upd ⟨?_, ?_⟩ ?_
  · intro p hp; cases p <;> first | exact absurd (by decide) hp | rfl
  · exact fun h => ⟨h.mem, h.window, h.records, h.gate, h.sessions, h.amend, h.held, h.stamps⟩
  exact Follows.rfl' _ _

theorem State.reply_follows (s : State) (session : Nat) (code : Nat) (data : (List Int)) :
    Follows [.answers] s (State.reply s session code data) := by
  unfold State.reply
  refine Follows.ite ?_ ?_
  intro a0
  exact Follows.rfl' _ _
  intro a1
  refine Follows.ite ?_ ?_
  intro a2
  refine Follows.next (State.answer_follows _ _ _ _) (by decide) ?_
  exact Follows.rfl' _ _
  intro a3
  exact Follows.rfl' _ _

theorem State.wr_follows (s : State) (key : Nat) (v : Nat) :
    Follows [.reg] s (State.wr s key v) := by
  unfold State.wr
  refine Follows.upd ⟨?_, ?_⟩ ?_
  · intro p hp; cases p <;> first | exact absurd (by decide) hp | rfl
  · exact fun h => ⟨h.mem, h.window, h.records, h.gate, h.sessions, h.amend, h.held, h.stamps⟩
  exact Follows.rfl' _ _

theorem State.bump_follows (s : State) (key : Nat) (m : Nat) :
    Follows [.reg] s (State.bump s key m) := by
  unfold State.bump
  refine Follows.next (State.wr_follows _ _ _) (by decide) ?_
  exact Follows.rfl' _ _

theorem State.wrs_follows (s : State) (l : List (Nat × Nat)) :
    Follows [.reg] s (State.wrs s l) := by
  unfold State.wrs
  refine Follows.upd ⟨?_, ?_⟩ ?_
  · intro p hp; cases p <;> first | exact absurd (by decide) hp | rfl
  · exact fun h => ⟨h.mem, h.window, h.records, h.gate, h.sessions, h.amend, h.held, h.stamps⟩
  exact Follows.rfl' _ _

theorem State.noteFault_follows (s : State) (e : Event) :
    Follows [.reg] s (State.noteFault s e) := by
  unfold State.noteFault
  refine Follows.ite ?_ ?_
  intro a0
  refine Follows.next (State.wrs_follows _ _) (by decide) ?_
  exact Follows.rfl' _ _
  intro a1
  exact Follows.rfl' _ _

theorem State.bbPush_follows (s : State) (it : BbItem) : Follows [.reg, .bb] s (State.bbPush s it) := by
  unfold State.bbPush
  refine Follows.ite ?_ ?_
  · intro h
    refine Follows.upd ⟨?_, ?_⟩ (Follows.rfl' _ _)
    · intro p hp; cases p <;> first | exact absurd (by decide) hp | rfl
    · exact fun b => ⟨b.mem, b.window, by simp; omega, b.gate, b.sessions, b.amend, b.held, b.stamps⟩
  · intro _
    refine Follows.next (State.bump_follows _ _ _) (by decide) ?_
    refine Follows.upd ⟨?_, ?_⟩ (Follows.rfl' _ _)
    · intro p hp; cases p <;> first | exact absurd (by decide) hp | rfl
    · exact fun b => ⟨b.mem, b.window, b.records, b.gate, b.sessions, b.amend, b.held, b.stamps⟩

theorem State.dtcOn_follows (s : State) (e : Event) :
    Follows [.bb] s (State.dtcOn s e) := by
  unfold State.dtcOn
  refine Follows.upd ⟨?_, ?_⟩ ?_
  · intro p hp; cases p <;> first | exact absurd (by decide) hp | rfl
  · exact fun h => ⟨h.mem, h.window, h.records, h.gate, h.sessions, h.amend, h.held, h.stamps⟩
  exact Follows.rfl' _ _

theorem State.bbAtres_follows (s : State) (e : Event) :
    Follows [.reg, .bb] s (State.bbAtres s e) := by
  unfold State.bbAtres
  extract_lets +onlyGivenNames x0
  split
  refine Follows.next (State.bbPush_follows _ _) (by decide) ?_
  exact Follows.rfl' _ _
  exact Follows.rfl' _ _

theorem State.bbEvent_follows (s : State) (e : Event) :
    Follows [.reg, .bb] s (State.bbEvent s e) := by
  unfold State.bbEvent
  refine Follows.ite ?_ ?_
  intro a0
  extract_lets +onlyGivenNames x1
  have h1 : Follows [.reg, .bb] s x1 := by
    unfold x1
    refine Follows.next (State.bbPush_follows _ _) (by decide) ?_
    exact Follows.rfl' _ _
  clear_value x1
  extract_lets +onlyGivenNames x2
  have h2 : Follows [.reg, .bb] s x2 := by
    unfold x2
    refine Follows.ite ?_ ?_
    intro a3
    refine Follows.next (State.dtcOn_follows _ _) (by decide) ?_
    assumption
    intro a4
    assumption
  clear_value x2
  refine Follows.ite ?_ ?_
  intro a5
  refine Follows.next (State.bbAtres_follows _ _) (by decide) ?_
  assumption
  intro a6
  assumption
  intro a7
  exact Follows.rfl' _ _

theorem State.release_follows (s : State) (e : Event) (late : Bool) :
    Follows [.reg, .mirror, .ses, .bb] s (State.release s e late) := by
  unfold State.release
  extract_lets +onlyGivenNames x0
  extract_lets +onlyGivenNames x1
  extract_lets +onlyGivenNames x2
  have h2 : Follows [.reg, .mirror, .ses, .bb] s x2 := by
    unfold x2
    refine Follows.upd ⟨?_, ?_⟩ ?_
    · intro p hp; cases p <;> first | exact absurd (by decide) hp | rfl
    · exact fun h => ⟨h.mem, h.window, h.records, h.gate, h.sessions, h.amend, h.held, h.stamps⟩
    exact Follows.rfl' _ _
  clear_value x2
  extract_lets +onlyGivenNames x3
  have h3 : Follows [.reg, .mirror, .ses, .bb] s x3 := by
    unfold x3
    refine Follows.ite ?_ ?_
    intro a4
    refine Follows.next (State.bump_follows _ _ _) (by decide) ?_
    assumption
    intro a5
    assumption
  clear_value x3
  extract_lets +onlyGivenNames x6
  extract_lets +onlyGivenNames x7
  have h7 : Follows [.reg, .mirror, .ses, .bb] s x7 := by
    unfold x7
    refine Follows.upd ⟨?_, ?_⟩ ?_
    · intro p hp; cases p <;> first | exact absurd (by decide) hp | rfl
    · exact fun h => ⟨h.mem, h.window, h.records, h.gate, by simpa using h.sessions, h.amend, h.held, h.stamps⟩
    assumption
  clear_value x7
  refine Follows.next (State.noteFault_follows _ _) (by decide) ?_
  refine Follows.next (State.bbEvent_follows _ _) (by decide) ?_
  assumption

theorem State.raise_follows (s : State) (key : Nat) (v : Nat) :
    Follows [.reg] s (State.raise s key v) := by
  unfold State.raise
  refine Follows.ite ?_ ?_
  intro a0
  refine Follows.next (State.wr_follows _ _ _) (by decide) ?_
  exact Follows.rfl' _ _
  intro a1
  exact Follows.rfl' _ _

theorem windowWithout_length (l : List Event) (e : Event) : (windowWithout l e).length ≤ l.length :=
  List.length_filter_le _ _

theorem State.hold_follows (s : State) (e : Event) : Follows [.reg, .mirror, .ses, .bb] s (State.hold s e) := by
  unfold State.hold
  extract_lets +onlyGivenNames x00 x0
  have h0 : Follows [.reg, .mirror, .ses, .bb] s x0 := by
    unfold x0
    refine Follows.ite ?_ ?_
    · intro _; exact Follows.rfl' _ _
    · intro _
      split
      · refine Follows.next (State.release_follows _ _ _) (by decide) ?_
        refine Follows.upd ⟨?_, ?_⟩ (Follows.rfl' _ _)
        · intro p hp; cases p <;> first | exact absurd (by decide) hp | rfl
        · exact fun b => ⟨b.mem, Nat.le_trans (windowWithout_length _ _) b.window, b.records, b.gate, b.sessions, b.amend, b.held, b.stamps⟩
      · exact Follows.rfl' _ _
  clear_value x0
  refine Follows.ite ?_ ?_
  · intro h
    refine Follows.next (State.raise_follows _ _ _) (by decide) ?_
    refine Follows.upd ⟨?_, ?_⟩ h0
    · intro p hp; cases p <;> first | exact absurd (by decide) hp | rfl
    · exact fun b => ⟨b.mem, by simp; omega, b.records, b.gate, b.sessions, b.amend, b.held, b.stamps⟩
  · intro _
    exact Follows.next (State.bump_follows _ _ _) (by decide) h0

theorem State.arrive_follows (s : State) (e : Event) :
    Follows [.reg, .mirror, .ses, .bb] s (State.arrive s e) := by
  unfold State.arrive
  extract_lets +onlyGivenNames x0
  extract_lets +onlyGivenNames x1
  extract_lets +onlyGivenNames x2
  have h2 : Follows [.reg, .mirror, .ses, .bb] s x2 := by
    unfold x2
    refine Follows.upd ⟨?_, ?_⟩ ?_
    · intro p hp; cases p <;> first | exact absurd (by decide) hp | rfl
    · exact fun h => ⟨h.mem, h.window, h.records, h.gate, h.sessions, h.amend, h.held, h.stamps⟩
    exact Follows.rfl' _ _
  refine Follows.ite ?_ ?_
  intro a3
  refine Follows.next (State.release_follows _ _ _) (by decide) ?_
  unfold x2
  refine Follows.upd ⟨?_, ?_⟩ ?_
  · intro p hp; cases p <;> first | exact absurd (by decide) hp | rfl
  · exact fun h => ⟨h.mem, h.window, h.records, h.gate, h.sessions, h.amend, h.held, h.stamps⟩
  exact Follows.rfl' _ _
  intro a4
  refine Follows.next (State.hold_follows _ _) (by decide) ?_
  unfold x2
  refine Follows.upd ⟨?_, ?_⟩ ?_
  · intro p hp; cases p <;> first | exact absurd (by decide) hp | rfl
  · exact fun h => ⟨h.mem, h.window, h.records, h.gate, h.sessions, h.amend, h.held, h.stamps⟩
  exact Follows.rfl' _ _

theorem State.ownEvent_follows (s : State) (e : Event) :
    Follows [.reg, .answers, .mirror, .ses, .bb] s (State.ownEvent s e) := by
  unfold State.ownEvent
  refine Follows.next (State.arrive_follows _ _) (by decide) ?_
  refine Follows.ite ?_ ?_
  intro a0
  refine Follows.next (State.answer_follows _ _ _ _) (by decide) ?_
  exact Follows.rfl' _ _
  intro a1
  exact Follows.rfl' _ _

theorem State.log_follows (s : State) (code : Nat) (payload : (List Int)) (island : Nat) (esc : Bool) (fault : Bool) (input : (Option Int)) :
    Follows [.reg, .answers, .mirror, .ses, .bb] s (State.log s code payload island esc fault input) := by
  unfold State.log
  extract_lets +onlyGivenNames x0
  refine Follows.next (State.ownEvent_follows _ _) (by decide) ?_
  exact Follows.rfl' _ _

theorem State.release_open (s : State) (e : Event) (late : Bool) :
    (s.release e late).ses.open_.length = s.ses.open_.length := by
  unfold State.release
  dsimp only
  rw [(State.noteFault_follows _ _).frame .ses (by decide), (State.bbEvent_follows _ _).frame .ses (by decide)]
  simp only [List.length_map]
  split
  · rw [(State.bump_follows _ _ _).frame .ses (by decide)]
  · rfl

theorem State.hold_open (s : State) (e : Event) : (s.hold e).ses.open_.length = s.ses.open_.length := by
  unfold State.hold
  extract_lets +onlyGivenNames x00 x0
  have h0 : x0.ses.open_.length = s.ses.open_.length := by
    unfold x0
    split
    · rfl
    · split
      · rw [State.release_open]
      · rfl
  clear_value x0
  split
  · rw [(State.raise_follows _ _ _).frame .ses (by decide)]; exact h0
  · rw [(State.bump_follows _ _ _).frame .ses (by decide)]; exact h0

theorem State.arrive_open (s : State) (e : Event) : (s.arrive e).ses.open_.length = s.ses.open_.length := by
  unfold State.arrive
  dsimp only
  split
  · rw [State.release_open]
  · rw [State.hold_open]

theorem State.ownEvent_open (s : State) (e : Event) :
    (s.ownEvent e).ses.open_.length = s.ses.open_.length := by
  unfold State.ownEvent
  rw [State.arrive_open]
  split
  · rw [(State.answer_follows _ _ _ _).frame .ses (by decide)]
  · rfl

/-- Logging an event opens and closes no session. -/
theorem log_sessions (s : State) (code : Nat) (payload : List Int) (island : Nat) (esc fault : Bool)
    (input : Option Int) :
    (s.log code payload island esc fault input).ses.open_.length = s.ses.open_.length := State.ownEvent_open _ _

theorem State.fresh_follows (s : State) (w : Nat) :
    Follows [.free] s (State.fresh s w).2 := by
  unfold State.fresh
  dsimp only
  refine Follows.upd ⟨?_, ?_⟩ ?_
  · intro p hp; cases p <;> first | exact absurd (by decide) hp | rfl
  · exact fun h => ⟨h.mem, h.window, h.records, h.gate, h.sessions, h.amend, h.held, h.stamps⟩
  exact Follows.rfl' _ _

theorem State.begin_follows (s : State) (t : Nat) :
    Follows [.now, .answers] s (State.begin s t) := by
  unfold State.begin
  refine Follows.upd ⟨?_, ?_⟩ ?_
  · intro p hp; cases p <;> first | exact absurd (by decide) hp | rfl
  · exact fun h => ⟨h.mem, h.window, h.records, h.gate, h.sessions, h.amend, h.held, h.stamps⟩
  exact Follows.rfl' _ _

theorem State.clearRegs_follows (s : State) (p : Nat → Bool) :
    Follows [.reg] s (State.clearRegs s p) := by
  unfold State.clearRegs
  refine Follows.upd ⟨?_, ?_⟩ ?_
  · intro p hp; cases p <;> first | exact absurd (by decide) hp | rfl
  · exact fun h => ⟨h.mem, h.window, h.records, h.gate, h.sessions, h.amend, h.held, h.stamps⟩
  exact Follows.rfl' _ _

theorem State.logOnce_follows (s : State) (code : Nat) (scope : Nat) (period : Nat) (payload : (List Int)) (island : Nat) (fault : Bool) :
    Follows [.reg, .answers, .mirror, .ses, .bb] s (State.logOnce s code scope period payload island fault) := by
  unfold State.logOnce
  refine Follows.ite ?_ ?_
  intro a0
  refine Follows.next (State.log_follows _ _ _ _ _ _ _) (by decide) ?_
  refine Follows.upd ⟨?_, ?_⟩ ?_
  · intro p hp; cases p <;> first | exact absurd (by decide) hp | rfl
  · exact fun h => ⟨h.mem, h.window, h.records, h.gate, h.sessions, h.amend, h.held, h.stamps⟩
  exact Follows.rfl' _ _
  intro a1
  exact Follows.rfl' _ _

theorem State.publish_follows (s : State) (stream : Nat) (bytes : Nat) (data : List Int) :
    Follows [.ses] s (State.publish s stream bytes data) := by
  unfold State.publish
  refine Follows.upd ⟨?_, ?_⟩ ?_
  · intro p hp; cases p <;> first | exact absurd (by decide) hp | rfl
  · exact fun h => ⟨h.mem, h.window, h.records, h.gate, by simpa using h.sessions, h.amend, h.held, h.stamps⟩
  exact Follows.rfl' _ _

theorem State.dtcOff_follows (s : State) (p : Nat → List Int → Bool) :
    Follows [.bb] s (State.dtcOff s p) := by
  unfold State.dtcOff
  refine Follows.upd ⟨?_, ?_⟩ ?_
  · intro p hp; cases p <;> first | exact absurd (by decide) hp | rfl
  · exact fun h => ⟨h.mem, h.window, h.records, h.gate, h.sessions, h.amend, h.held, h.stamps⟩
  exact Follows.rfl' _ _

theorem State.enqueue_follows (s : State) (num : Nat) (kind : ReqKind) :
    Follows [.reg, .answers, .mirror, .ses, .bb] s (State.enqueue s num kind) := by
  unfold State.enqueue
  refine Follows.ite (fun _ => ?_) (fun r => ?_)
  · refine Follows.next (State.reply_follows _ _ _ _) (by decide) ?_
    exact Follows.next (State.log_follows _ _ _ _ _ _ _) (by decide) (Follows.rfl' _ _)
  · refine Follows.upd ⟨?_, ?_⟩ (Follows.rfl' _ _)
    · intro p hp; cases p <;> first | exact absurd (by decide) hp | rfl
    · exact fun b => ⟨b.mem, b.window, b.records, by simp; omega, b.sessions, b.amend, b.held, b.stamps⟩

theorem dropReq_length (n : Nat) (k : ReqKind) (l : List GateReq) : (dropReq n k l).length ≤ l.length := by
  induction l with
  | nil => exact Nat.le_refl _
  | cons r t ih => unfold dropReq; split <;> simp <;> omega

/-- A request through the gate changes what its own action changes, the clock and the gate's queue. -/
theorem State.gated_follows (l : List Part) (s : State) (t num : Nat) (kind : ReqKind) (act : State → State)
    (hl : [.now, .reg, .answers, .mirror, .ses, .bb] ⊆ l) (h : ∀ u, Follows l u (act u)) :
    Follows l s (s.gated t num kind act) := by
  unfold State.gated
  extract_lets x0
  have h0 : Follows l s x0 := Follows.next (State.begin_follows _ _)
    (List.Subset.trans (by decide) hl) (Follows.rfl' _ _)
  clear_value x0
  refine Follows.ite (fun _ => Follows.ite (fun _ => h0) (fun _ => h0.trans (h _))) (fun _ => ?_)
  refine Follows.ite (fun _ => ?_) (fun _ => Follows.ite (fun _ => h0) (fun _ =>
    Follows.next (State.enqueue_follows _ _ _) (List.Subset.trans (by decide) hl) h0))
  refine Follows.trans (Follows.upd ⟨?_, ?_⟩ h0) (h _)
  · intro p hp
    cases p <;> first | rfl | exact absurd (hl (by decide)) hp
  · exact fun b => ⟨b.mem, b.window, b.records, Nat.le_trans (dropReq_length _ _ _) b.gate, b.sessions, b.amend, b.held, b.stamps⟩

/-- An entry in the place of the field's latest one takes no room; another takes one place (14 R486). -/
theorem amendPut_length (s : State) (unit kind key value : Nat) :
    (s.amendPut unit kind key value).amend.length ≤ s.amend.length + (if s.amended unit key then 0 else 1) := by
  show (s.amend.filter _ ++ [_]).length ≤ _
  simp only [List.length_append, List.length_singleton]
  split
  · next r =>
    have : (s.amend.filter (fun a => !(decide (a.key = key) && decide (a.unit = unit)))).length < s.amend.length := by
      apply List.length_filter_lt_length_iff_exists.mpr
      obtain ⟨a, ha, hk⟩ := List.any_eq_true.mp r
      exact ⟨a, ha, by simpa using hk⟩
    omega
  · have := List.length_filter_le (fun a => !(decide (a.key = key) && decide (a.unit = unit))) s.amend
    omega

theorem amendPut_bounded (s : State) (unit kind key value : Nat) (h : Bounded s)
    (r : s.amend.length + (if s.amended unit key then 0 else 1) ≤ 256) :
    Bounded (s.amendPut unit kind key value) :=
  ⟨h.mem, h.window, h.records, h.gate, h.sessions, Nat.le_trans (amendPut_length s unit kind key value) r, h.held,
    h.stamps⟩

theorem amendRoom_fits (s : State) (key : Nat) (h : Bounded s) (r : s.amendRoom key = true) :
    s.amend.length + (if s.amended s.role.unit key then 0 else 1) ≤ 256 := by
  have := h.amend
  unfold State.amendRoom at r
  simp only [Bool.or_eq_true, decide_eq_true_eq] at r
  rcases r with r | r
  · split <;> omega
  · rw [if_pos r]; omega

theorem State.amendPut_follows (s : State) (kind key value : Nat) (r : s.amendRoom key = true) :
    Follows [.amend] s (s.amendPut s.role.unit kind key value) := by
  refine ⟨?_, fun h => amendPut_bounded s _ kind key value h (amendRoom_fits s key h r)⟩
  intro p hp; cases p <;> first | exact absurd (by decide) hp | rfl

theorem State.amendCount_follows (s : State) :
    Follows [.reg] s (State.amendCount s) := by
  unfold State.amendCount
  refine Follows.next (State.wr_follows _ _ _) (by decide) ?_
  exact Follows.rfl' _ _

theorem State.turnDown_follows (s : State) (session : Nat) (code : Nat) :
    Follows [.answers] s (State.turnDown s session code) := by
  unfold State.turnDown
  refine Follows.ite ?_ ?_
  intro a0
  refine Follows.next (State.answer_follows _ _ _ _) (by decide) ?_
  exact Follows.rfl' _ _
  intro a1
  refine Follows.next (State.reply_follows _ _ _ _) (by decide) ?_
  exact Follows.rfl' _ _

theorem State.notLive_follows (s : State) (num : Nat) (key : Nat) :
    Follows [.reg, .answers, .mirror, .ses, .bb] s (State.notLive s num key) := by
  unfold State.notLive
  refine Follows.next (State.reply_follows _ _ _ _) (by decide) ?_
  refine Follows.next (State.log_follows _ _ _ _ _ _ _) (by decide) ?_
  exact Follows.rfl' _ _

theorem State.showAmended_follows (s : State) (key : Nat) :
    Follows [.reg] s (State.showAmended s key) := by
  unfold State.showAmended
  extract_lets +onlyGivenNames x0
  refine Follows.ite ?_ ?_
  intro a1
  refine Follows.next (State.wr_follows _ _ _) (by decide) ?_
  exact Follows.rfl' _ _
  intro a2
  exact Follows.rfl' _ _

theorem State.liveApply_follows (s : State) (key v : Nat) : Follows [.reg, .amend] s (s.liveApply key v) := by
  unfold State.liveApply
  dsimp only
  have h1 : Follows [.reg] s ((s.wr key v).showAmended key) :=
    Follows.next (State.showAmended_follows _ _) (by decide)
      (Follows.next (State.wr_follows _ _ _) (by decide) (Follows.rfl' _ _))
  generalize (s.wr key v).showAmended key = u at h1
  have ha : u.amend = s.amend := h1.frame .amend (by decide)
  have hr : u.role = s.role := h1.frame .role (by decide)
  refine Follows.ite (fun r => ?_) (fun _ => Follows.next (State.wr_follows _ _ _) (by decide) (h1.mono (by decide)))
  refine Follows.next (State.amendCount_follows _) (by decide) ?_
  refine (h1.mono (by decide)).trans ((State.amendPut_follows u 1 key v ?_).mono (by decide))
  unfold State.amendRoom State.amended at r ⊢
  rw [ha, hr]; exact r

theorem State.liveWrite_follows (s : State) (num : Nat) (key : Nat) (v : Nat) (valueOk : Bool) :
    Follows [.reg, .answers, .mirror, .ses, .amend, .bb] s (State.liveWrite s num key v valueOk) := by
  unfold State.liveWrite
  refine Follows.ite ?_ ?_
  intro a0
  refine Follows.next (State.reply_follows _ _ _ _) (by decide) ?_
  exact Follows.rfl' _ _
  intro a1
  refine Follows.ite ?_ ?_
  intro a2
  refine Follows.next (State.reply_follows _ _ _ _) (by decide) ?_
  exact Follows.rfl' _ _
  intro a3
  refine Follows.ite ?_ ?_
  intro a4
  refine Follows.next (State.notLive_follows _ _ _) (by decide) ?_
  exact Follows.rfl' _ _
  intro a5
  refine Follows.ite ?_ ?_
  intro a6
  refine Follows.next (State.reply_follows _ _ _ _) (by decide) ?_
  exact Follows.rfl' _ _
  intro a7
  refine Follows.next (State.reply_follows _ _ _ _) (by decide) ?_
  refine Follows.next (State.liveApply_follows _ _ _) (by decide) ?_
  exact Follows.rfl' _ _

theorem State.depthNow_follows (s : State) :
    Follows [.reg] s (State.depthNow s) := by
  unfold State.depthNow
  refine Follows.next (State.raise_follows _ _ _) (by decide) ?_
  refine Follows.next (State.wr_follows _ _ _) (by decide) ?_
  exact Follows.rfl' _ _

theorem State.cancelWhere_follows (s : State) (p : SlotS → Bool) :
    Follows [.reg, .ln] s (State.cancelWhere s p) := by
  unfold State.cancelWhere
  refine Follows.next (State.depthNow_follows _) (by decide) ?_
  refine Follows.upd ⟨?_, ?_⟩ ?_
  · intro p hp; cases p <;> first | exact absurd (by decide) hp | rfl
  · exact fun h => ⟨h.mem, h.window, h.records, h.gate, h.sessions, h.amend, h.held, h.stamps⟩
  exact Follows.rfl' _ _

theorem State.lnNote_follows (s : State) (code : Nat) (scope : Nat) (hold : Nat) (payload : List Int) :
    Follows [.reg, .answers, .mirror, .ses, .bb] s (State.lnNote s code scope hold payload) := by
  unfold State.lnNote
  refine Follows.next (State.logOnce_follows _ _ _ _ _ _ _) (by decide) ?_
  refine Follows.next (State.bump_follows _ _ _) (by decide) ?_
  exact Follows.rfl' _ _

theorem State.lnRefuse_follows (s : State) (session : Nat) (code : Nat) (payload : List Int) :
    Follows [.reg, .answers, .mirror, .ses, .bb] s (State.lnRefuse s session code payload) := by
  unfold State.lnRefuse
  extract_lets +onlyGivenNames x0
  refine Follows.next (State.reply_follows _ _ _ _) (by decide) ?_
  refine Follows.ite ?_ ?_
  intro a1
  refine Follows.next (State.lnNote_follows _ _ _ _ _) (by decide) ?_
  exact Follows.rfl' _ _
  intro a2
  refine Follows.next (State.lnNote_follows _ _ _ _ _) (by decide) ?_
  exact Follows.rfl' _ _

theorem State.setSlot_follows (s : State) (n : Nat) (e : SlotS) :
    Follows [.reg, .ln] s (State.setSlot s n e) := by
  unfold State.setSlot
  refine Follows.next (State.depthNow_follows _) (by decide) ?_
  refine Follows.upd ⟨?_, ?_⟩ ?_
  · intro p hp; cases p <;> first | exact absurd (by decide) hp | rfl
  · exact fun h => ⟨h.mem, h.window, h.records, h.gate, h.sessions, h.amend, h.held, h.stamps⟩
  exact Follows.rfl' _ _

theorem State.pdLog_follows (s : State) (code : Nat) (payload : List Int) (fault : Bool) :
    Follows [.reg, .answers, .mirror, .ls, .ses, .bb] s (State.pdLog s code payload fault) := by
  unfold State.pdLog
  refine Follows.ite ?_ ?_
  · intro _
    extract_lets +onlyGivenNames e
    refine Follows.ite ?_ ?_
    · intro h
      refine Follows.upd ⟨?_, ?_⟩ (Follows.rfl' _ _)
      · intro p hp; cases p <;> first | exact absurd (by decide) hp | rfl
      · exact fun b => ⟨b.mem, b.window, b.records, b.gate, b.sessions, b.amend, by simp; omega, b.stamps⟩
    · intro _
      refine Follows.upd ⟨?_, ?_⟩ (Follows.rfl' _ _)
      · intro p hp; cases p <;> first | exact absurd (by decide) hp | rfl
      · exact fun b => ⟨b.mem, b.window, b.records, b.gate, b.sessions, b.amend, b.held, b.stamps⟩
  · intro _
    exact Follows.next (State.log_follows _ _ _ _ _ _ _) (by decide) (Follows.rfl' _ _)

theorem State.pdLogOnce_follows (s : State) (code : Nat) (scope : Nat) (period : Nat) (payload : List Int) (fault : Bool) :
    Follows [.reg, .answers, .mirror, .ls, .ses, .bb] s (State.pdLogOnce s code scope period payload fault) := by
  unfold State.pdLogOnce
  refine Follows.ite ?_ ?_
  intro a0
  refine Follows.next (State.pdLog_follows _ _ _ _) (by decide) ?_
  refine Follows.upd ⟨?_, ?_⟩ ?_
  · intro p hp; cases p <;> first | exact absurd (by decide) hp | rfl
  · exact fun h => ⟨h.mem, h.window, h.records, h.gate, h.sessions, h.amend, h.held, h.stamps⟩
  exact Follows.rfl' _ _
  intro a1
  exact Follows.rfl' _ _

theorem State.abortTest_follows (s : State) (kind : Nat) (ch : Nat) :
    Follows [.reg, .answers, .mirror, .ses, .bb, .md] s (State.abortTest s kind ch) := by
  unfold State.abortTest
  extract_lets +onlyGivenNames x0
  extract_lets +onlyGivenNames x1
  split
  refine Follows.ite ?_ ?_
  intro a2
  exact Follows.rfl' _ _
  intro a3
  extract_lets +onlyGivenNames x4
  extract_lets +onlyGivenNames x5
  have h5 : Follows [.reg, .answers, .mirror, .ses, .bb, .md] s x5 := by
    unfold x5
    refine Follows.upd ⟨?_, ?_⟩ ?_
    · intro p hp; cases p <;> first | exact absurd (by decide) hp | rfl
    · exact fun h => ⟨h.mem, h.window, h.records, h.gate, h.sessions, h.amend, h.held, h.stamps⟩
    exact Follows.rfl' _ _
  clear_value x5
  refine Follows.next (State.reply_follows _ _ _ _) (by decide) ?_
  refine Follows.next (State.log_follows _ _ _ _ _ _ _) (by decide) ?_
  assumption
  exact Follows.rfl' _ _

theorem State.pdCommand_follows (s : State) :
    Follows [.ls] s (State.pdCommand s) := by
  unfold State.pdCommand
  refine Follows.upd ⟨?_, ?_⟩ ?_
  · intro p hp; cases p <;> first | exact absurd (by decide) hp | rfl
  · exact fun h => ⟨h.mem, h.window, h.records, h.gate, h.sessions, h.amend, h.held, h.stamps⟩
  exact Follows.rfl' _ _

theorem State.setBackup_follows (s : State) (b : Bool) :
    Follows [.vd] s (State.setBackup s b) := by
  unfold State.setBackup
  refine Follows.upd ⟨?_, ?_⟩ ?_
  · intro p hp; cases p <;> first | exact absurd (by decide) hp | rfl
  · exact fun h => ⟨h.mem, h.window, h.records, h.gate, h.sessions, h.amend, h.held, h.stamps⟩
  exact Follows.rfl' _ _

theorem State.pcRequest_follows (s : State) :
    Follows [.pc] s (State.pcRequest s) := by
  unfold State.pcRequest
  refine Follows.ite ?_ ?_
  intro a0
  refine Follows.upd ⟨?_, ?_⟩ ?_
  · intro p hp; cases p <;> first | exact absurd (by decide) hp | rfl
  · exact fun h => ⟨h.mem, h.window, h.records, h.gate, h.sessions, h.amend, h.held, h.stamps⟩
  exact Follows.rfl' _ _
  intro a1
  refine Follows.upd ⟨?_, ?_⟩ ?_
  · intro p hp; cases p <;> first | exact absurd (by decide) hp | rfl
  · exact fun h => ⟨h.mem, h.window, h.records, h.gate, h.sessions, h.amend, h.held, h.stamps⟩
  exact Follows.rfl' _ _

theorem State.disengage_follows (s : State) (reason : Nat) (input : (Option Int)) :
    Follows [.reg, .answers, .mirror, .ses, .bb, .gd] s (State.disengage s reason input) := by
  unfold State.disengage
  refine Follows.ite ?_ ?_
  intro a0
  exact Follows.rfl' _ _
  intro a1
  extract_lets +onlyGivenNames x2
  extract_lets +onlyGivenNames x3
  have h3 : Follows [.reg, .answers, .mirror, .ses, .bb, .gd] s x3 := by
    unfold x3
    refine Follows.next (State.wrs_follows _ _) (by decide) ?_
    exact Follows.rfl' _ _
  clear_value x3
  extract_lets +onlyGivenNames x4
  extract_lets +onlyGivenNames x5
  have h5 : Follows [.reg, .answers, .mirror, .ses, .bb, .gd] s x5 := by
    unfold x5
    refine Follows.upd ⟨?_, ?_⟩ ?_
    · intro p hp; cases p <;> first | exact absurd (by decide) hp | rfl
    · exact fun h => ⟨h.mem, h.window, h.records, h.gate, h.sessions, h.amend, h.held, h.stamps⟩
    assumption
  clear_value x5
  extract_lets +onlyGivenNames x6
  have h6 : Follows [.reg, .answers, .mirror, .ses, .bb, .gd] s x6 := by
    unfold x6
    refine Follows.next (State.log_follows _ _ _ _ _ _ _) (by decide) ?_
    assumption
  clear_value x6
  refine Follows.ite ?_ ?_
  intro a7
  assumption
  intro a8
  refine Follows.next (State.answer_follows _ _ _ _) (by decide) ?_
  assumption

theorem State.noteTransport_follows (s : State) (t0 : Int) (k : Nat) (transport : Nat) :
    Follows [.ym] s (State.noteTransport s t0 k transport) := by
  unfold State.noteTransport
  refine Follows.ite ?_ ?_
  intro a0
  exact Follows.rfl' _ _
  intro a1
  extract_lets +onlyGivenNames x2
  refine Follows.upd ⟨?_, ?_⟩ ?_
  · intro p hp; cases p <;> first | exact absurd (by decide) hp | rfl
  · exact fun h => ⟨h.mem, h.window, h.records, h.gate, h.sessions, h.amend, h.held, h.stamps⟩
  exact Follows.rfl' _ _

theorem State.guidanceStepped_follows (s : State) (by_ : Int) :
    Follows [.gd] s (State.guidanceStepped s by_) := by
  unfold State.guidanceStepped
  extract_lets +onlyGivenNames x0
  refine Follows.upd ⟨?_, ?_⟩ ?_
  · intro p hp; cases p <;> first | exact absurd (by decide) hp | rfl
  · exact fun h => ⟨h.mem, h.window, h.records, h.gate, h.sessions, h.amend, h.held, h.stamps⟩
  exact Follows.rfl' _ _

theorem State.guidanceMode_follows (s : State) (m : Nat) :
    Follows [.reg, .answers, .mirror, .ses, .bb, .gd] s (State.guidanceMode s m) := by
  unfold State.guidanceMode
  refine Follows.ite ?_ ?_
  intro a0
  exact Follows.rfl' _ _
  intro a1
  refine Follows.next (State.wr_follows _ _ _) (by decide) ?_
  refine Follows.next (State.disengage_follows _ _ _) (by decide) ?_
  exact Follows.rfl' _ _

theorem State.engage_follows (s : State) :
    Follows [.reg, .answers, .mirror, .ses, .bb] s (State.engage s) := by
  unfold State.engage
  refine Follows.next (State.log_follows _ _ _ _ _ _ _) (by decide) ?_
  refine Follows.next (State.wr_follows _ _ _) (by decide) ?_
  exact Follows.rfl' _ _

theorem State.noteStereo_follows (s : State) (trig : Int) (values : List Nat) :
    Follows [.ym] s (State.noteStereo s trig values) := by
  unfold State.noteStereo
  extract_lets +onlyGivenNames x0
  refine Follows.upd ⟨?_, ?_⟩ ?_
  · intro p hp; cases p <;> first | exact absurd (by decide) hp | rfl
  · exact fun h => ⟨h.mem, h.window, h.records, h.gate, h.sessions, h.amend, h.held, h.stamps⟩
  exact Follows.rfl' _ _

theorem State.noteMoist_follows (s : State) (stamp : Int) (value : Nat) :
    Follows [.ym] s (State.noteMoist s stamp value) := by
  unfold State.noteMoist
  refine Follows.upd ⟨?_, ?_⟩ ?_
  · intro p hp; cases p <;> first | exact absurd (by decide) hp | rfl
  · exact fun h => ⟨h.mem, h.window, h.records, h.gate, h.sessions, h.amend, h.held, h.stamps⟩
  exact Follows.rfl' _ _

theorem State.setCam_follows (s : State) (cam : Nat) (v : CamS) :
    Follows [.cams] s (State.setCam s cam v) := by
  unfold State.setCam
  refine Follows.upd ⟨?_, ?_⟩ ?_
  · intro p hp; cases p <;> first | exact absurd (by decide) hp | rfl
  · exact fun h => ⟨h.mem, h.window, h.records, h.gate, h.sessions, h.amend, h.held, h.stamps⟩
  exact Follows.rfl' _ _

theorem State.camLog_follows (s : State) (code : Nat) (cam : Nat) (payload : List Int) :
    Follows [.reg, .answers, .mirror, .ses, .bb] s (State.camLog s code cam payload) := by
  unfold State.camLog
  refine Follows.next (State.logOnce_follows _ _ _ _ _ _ _) (by decide) ?_
  exact Follows.rfl' _ _

theorem State.setCamState_follows (s : State) (cam : Nat) (st : Nat) :
    Follows [.reg, .answers, .mirror, .ses, .bb] s (State.setCamState s cam st) := by
  unfold State.setCamState
  extract_lets +onlyGivenNames x0
  refine Follows.ite ?_ ?_
  intro a1
  exact Follows.rfl' _ _
  intro a2
  refine Follows.next (State.camLog_follows _ _ _ _) (by decide) ?_
  refine Follows.next (State.wr_follows _ _ _) (by decide) ?_
  exact Follows.rfl' _ _

theorem State.startCam_follows (s : State) (cam : Nat) :
    Follows [.reg, .answers, .mirror, .ses, .bb, .cams] s (State.startCam s cam) := by
  unfold State.startCam
  refine Follows.ite ?_ ?_
  intro a0
  exact Follows.rfl' _ _
  intro a1
  extract_lets +onlyGivenNames x2
  extract_lets +onlyGivenNames x3
  have h3 : Follows [.reg, .answers, .mirror, .ses, .bb, .cams] s x3 := by
    unfold x3
    refine Follows.next (State.wr_follows _ _ _) (by decide) ?_
    refine Follows.next (State.setCam_follows _ _ _) (by decide) ?_
    exact Follows.rfl' _ _
  clear_value x3
  refine Follows.next (State.setCamState_follows _ _ _) (by decide) ?_
  assumption

theorem State.startCams_follows (s : State) :
    Follows [.reg, .answers, .mirror, .ses, .bb, .cams] s (State.startCams s) := by
  unfold State.startCams
  refine Follows.foldl _ ?_ ?_
  exact Follows.rfl' _ _
  intro a0 a1
  refine Follows.next (State.startCam_follows _ _) (by decide) ?_
  exact Follows.rfl' _ _

theorem State.keepCrops_follows (s : State) (cam : Nat) (last : Option Int) :
    Follows [.cams] s (State.keepCrops s cam last) := by
  unfold State.keepCrops
  split
  refine Follows.next (State.setCam_follows _ _ _) (by decide) ?_
  exact Follows.rfl' _ _
  exact Follows.rfl' _ _

theorem State.cropWrite_follows (s : State) (num : Nat) (cam : Nat) (out : Nat) (field : Nat) (v : Nat) :
    Follows [.reg, .answers, .mirror, .ses, .amend, .bb, .cams] s (State.cropWrite s num cam out field v) := by
  unfold State.cropWrite
  extract_lets +onlyGivenNames x0
  extract_lets +onlyGivenNames x1
  refine Follows.ite ?_ ?_
  intro a2
  refine Follows.next (State.reply_follows _ _ _ _) (by decide) ?_
  exact Follows.rfl' _ _
  intro a3
  refine Follows.ite ?_ ?_
  intro a4
  refine Follows.next (State.reply_follows _ _ _ _) (by decide) ?_
  exact Follows.rfl' _ _
  intro a5
  refine Follows.ite ?_ ?_
  intro a6
  refine Follows.next (State.notLive_follows _ _ _) (by decide) ?_
  exact Follows.rfl' _ _
  intro a7
  refine Follows.ite ?_ ?_
  intro a8
  refine Follows.next (State.reply_follows _ _ _ _) (by decide) ?_
  refine Follows.next (State.camLog_follows _ _ _ _) (by decide) ?_
  exact Follows.rfl' _ _
  intro a9
  extract_lets +onlyGivenNames x10
  extract_lets +onlyGivenNames x11
  have h11 : Follows [.reg, .answers, .mirror, .ses, .amend, .bb, .cams] s x11 := by
    unfold x11
    refine Follows.next (State.liveApply_follows _ _ _) (by decide) ?_
    refine Follows.next (State.keepCrops_follows _ _ _) (by decide) ?_
    exact Follows.rfl' _ _
  clear_value x11
  extract_lets +onlyGivenNames x12
  have h12 : Follows [.reg, .answers, .mirror, .ses, .amend, .bb, .cams] s x12 := by
    unfold x12
    refine Follows.ite ?_ ?_
    intro a13
    assumption
    intro a14
    refine Follows.next (State.liveApply_follows _ _ _) (by decide) ?_
    refine Follows.next (State.keepCrops_follows _ _ _) (by decide) ?_
    assumption
  clear_value x12
  refine Follows.next (State.reply_follows _ _ _ _) (by decide) ?_
  assumption

theorem State.dropFrames_follows (s : State) (cam : Nat) :
    Follows [.cams] s (State.dropFrames s cam) := by
  unfold State.dropFrames
  extract_lets +onlyGivenNames x0
  extract_lets +onlyGivenNames x1
  extract_lets +onlyGivenNames x2
  refine Follows.next (State.setCam_follows _ _ _) (by decide) ?_
  exact Follows.rfl' _ _

theorem State.camsDown_follows (s : State) (st : Nat) :
    Follows [.reg, .answers, .mirror, .ses, .bb, .cams] s (State.camsDown s st) := by
  unfold State.camsDown
  refine Follows.foldl _ ?_ ?_
  exact Follows.rfl' _ _
  intro a0 a1
  refine Follows.ite ?_ ?_
  intro a2
  extract_lets +onlyGivenNames x3
  have h3 : Follows [.reg, .answers, .mirror, .ses, .bb, .cams] a0 x3 := by
    unfold x3
    refine Follows.next (State.dropFrames_follows _ _) (by decide) ?_
    refine Follows.next (State.setCamState_follows _ _ _) (by decide) ?_
    exact Follows.rfl' _ _
  clear_value x3
  refine Follows.next (State.setCam_follows _ _ _) (by decide) ?_
  assumption
  intro a4
  exact Follows.rfl' _ _

theorem State.logLink_follows (s : State) (cam : Nat) (up : Bool) :
    Follows [.reg, .answers, .mirror, .ses, .bb] s (State.logLink s cam up) := by
  unfold State.logLink
  refine Follows.next (State.log_follows _ _ _ _ _ _ _) (by decide) ?_
  exact Follows.rfl' _ _

theorem State.loseLink_follows (s : State) (cam : Nat) :
    Follows [.reg, .answers, .mirror, .ses, .bb, .cams] s (State.loseLink s cam) := by
  unfold State.loseLink
  refine Follows.ite ?_ ?_
  intro a0
  exact Follows.rfl' _ _
  intro a1
  extract_lets +onlyGivenNames x2
  have h2 : Follows [.reg, .answers, .mirror, .ses, .bb, .cams] s x2 := by
    unfold x2
    refine Follows.next (State.dropFrames_follows _ _) (by decide) ?_
    refine Follows.next (State.setCamState_follows _ _ _) (by decide) ?_
    exact Follows.rfl' _ _
  clear_value x2
  refine Follows.next (State.logLink_follows _ _ _) (by decide) ?_
  refine Follows.next (State.setCam_follows _ _ _) (by decide) ?_
  assumption

end Sys2Proof.Machine
end

