-- ==== Sys2Proof/Laws/State.lean ====
section
/-! SUPPORT. The fields of the state after each of the basic updates: what an update does not name is as it
was. -/

namespace Sys2Proof.Machine

/-! ### Beginning a command -/

@[simp] theorem begin_pending (s : State) (t : Nat) : (s.begin t).pending = s.pending := rfl
@[simp] theorem begin_free (s : State) (t : Nat) : (s.begin t).free = s.free := rfl
@[simp] theorem begin_reg (s : State) (t : Nat) : (s.begin t).reg = s.reg := rfl
@[simp] theorem begin_mem (s : State) (t : Nat) : (s.begin t).mem = s.mem := rfl
@[simp] theorem begin_canary (s : State) (t : Nat) : (s.begin t).canary = s.canary := rfl
@[simp] theorem begin_isl (s : State) (t : Nat) : (s.begin t).isl = s.isl := rfl
@[simp] theorem begin_board (s : State) (t : Nat) : (s.begin t).board = s.board := rfl
@[simp] theorem begin_mirror (s : State) (t : Nat) : (s.begin t).mirror = s.mirror := rfl
@[simp] theorem begin_prot (s : State) (t : Nat) : (s.begin t).prot = s.prot := rfl
@[simp] theorem begin_ecc (s : State) (t : Nat) : (s.begin t).ecc = s.ecc := rfl
@[simp] theorem begin_arb (s : State) (t : Nat) : (s.begin t).arb = s.arb := rfl
@[simp] theorem begin_tb (s : State) (t : Nat) : (s.begin t).tb = s.tb := rfl
@[simp] theorem begin_whistle (s : State) (t : Nat) : (s.begin t).whistle = s.whistle := rfl
@[simp] theorem begin_ln (s : State) (t : Nat) : (s.begin t).ln = s.ln := rfl
@[simp] theorem begin_vd (s : State) (t : Nat) : (s.begin t).vd = s.vd := rfl
@[simp] theorem begin_ls (s : State) (t : Nat) : (s.begin t).ls = s.ls := rfl
@[simp] theorem begin_fn (s : State) (t : Nat) : (s.begin t).fn = s.fn := rfl
@[simp] theorem begin_opt (s : State) (t : Nat) : (s.begin t).opt = s.opt := rfl
@[simp] theorem begin_eng (s : State) (t : Nat) : (s.begin t).eng = s.eng := rfl
@[simp] theorem begin_lk (s : State) (t : Nat) : (s.begin t).lk = s.lk := rfl
@[simp] theorem begin_ui (s : State) (t : Nat) : (s.begin t).ui = s.ui := rfl
@[simp] theorem begin_imu (s : State) (t : Nat) : (s.begin t).imu = s.imu := rfl
@[simp] theorem begin_ego (s : State) (t : Nat) : (s.begin t).ego = s.ego := rfl
@[simp] theorem begin_out (s : State) (t : Nat) : (s.begin t).out = s.out := rfl
@[simp] theorem begin_obs (s : State) (t : Nat) : (s.begin t).obs = s.obs := rfl
@[simp] theorem begin_ses (s : State) (t : Nat) : (s.begin t).ses = s.ses := rfl
@[simp] theorem begin_role (s : State) (t : Nat) : (s.begin t).role = s.role := rfl
@[simp] theorem begin_amend (s : State) (t : Nat) : (s.begin t).amend = s.amend := rfl
@[simp] theorem begin_bb (s : State) (t : Nat) : (s.begin t).bb = s.bb := rfl
@[simp] theorem begin_pc (s : State) (t : Nat) : (s.begin t).pc = s.pc := rfl
@[simp] theorem begin_pwr (s : State) (t : Nat) : (s.begin t).pwr = s.pwr := rfl
@[simp] theorem begin_md (s : State) (t : Nat) : (s.begin t).md = s.md := rfl
@[simp] theorem begin_rst (s : State) (t : Nat) : (s.begin t).rst = s.rst := rfl
@[simp] theorem begin_hmp (s : State) (t : Nat) : (s.begin t).hmp = s.hmp := rfl
@[simp] theorem begin_upd (s : State) (t : Nat) : (s.begin t).upd = s.upd := rfl
@[simp] theorem begin_fl (s : State) (t : Nat) : (s.begin t).fl = s.fl := rfl
@[simp] theorem begin_gn (s : State) (t : Nat) : (s.begin t).gn = s.gn := rfl
@[simp] theorem begin_gd (s : State) (t : Nat) : (s.begin t).gd = s.gd := rfl
@[simp] theorem begin_ym (s : State) (t : Nat) : (s.begin t).ym = s.ym := rfl
@[simp] theorem begin_cams (s : State) (t : Nat) : (s.begin t).cams = s.cams := rfl

/-! ### A register written -/

@[simp] theorem wr_pending (s : State) (k v : Nat) : (s.wr k v).pending = s.pending := rfl
@[simp] theorem wr_now (s : State) (k v : Nat) : (s.wr k v).now = s.now := rfl
@[simp] theorem wr_free (s : State) (k v : Nat) : (s.wr k v).free = s.free := rfl
@[simp] theorem wr_mem (s : State) (k v : Nat) : (s.wr k v).mem = s.mem := rfl
@[simp] theorem wr_answers (s : State) (k v : Nat) : (s.wr k v).answers = s.answers := rfl
@[simp] theorem wr_canary (s : State) (k v : Nat) : (s.wr k v).canary = s.canary := rfl
@[simp] theorem wr_isl (s : State) (k v : Nat) : (s.wr k v).isl = s.isl := rfl
@[simp] theorem wr_board (s : State) (k v : Nat) : (s.wr k v).board = s.board := rfl
@[simp] theorem wr_mirror (s : State) (k v : Nat) : (s.wr k v).mirror = s.mirror := rfl
@[simp] theorem wr_prot (s : State) (k v : Nat) : (s.wr k v).prot = s.prot := rfl
@[simp] theorem wr_ecc (s : State) (k v : Nat) : (s.wr k v).ecc = s.ecc := rfl
@[simp] theorem wr_arb (s : State) (k v : Nat) : (s.wr k v).arb = s.arb := rfl
@[simp] theorem wr_tb (s : State) (k v : Nat) : (s.wr k v).tb = s.tb := rfl
@[simp] theorem wr_whistle (s : State) (k v : Nat) : (s.wr k v).whistle = s.whistle := rfl
@[simp] theorem wr_ln (s : State) (k v : Nat) : (s.wr k v).ln = s.ln := rfl
@[simp] theorem wr_vd (s : State) (k v : Nat) : (s.wr k v).vd = s.vd := rfl
@[simp] theorem wr_ls (s : State) (k v : Nat) : (s.wr k v).ls = s.ls := rfl
@[simp] theorem wr_fn (s : State) (k v : Nat) : (s.wr k v).fn = s.fn := rfl
@[simp] theorem wr_opt (s : State) (k v : Nat) : (s.wr k v).opt = s.opt := rfl
@[simp] theorem wr_eng (s : State) (k v : Nat) : (s.wr k v).eng = s.eng := rfl
@[simp] theorem wr_lk (s : State) (k v : Nat) : (s.wr k v).lk = s.lk := rfl
@[simp] theorem wr_ui (s : State) (k v : Nat) : (s.wr k v).ui = s.ui := rfl
@[simp] theorem wr_imu (s : State) (k v : Nat) : (s.wr k v).imu = s.imu := rfl
@[simp] theorem wr_ego (s : State) (k v : Nat) : (s.wr k v).ego = s.ego := rfl
@[simp] theorem wr_out (s : State) (k v : Nat) : (s.wr k v).out = s.out := rfl
@[simp] theorem wr_obs (s : State) (k v : Nat) : (s.wr k v).obs = s.obs := rfl
@[simp] theorem wr_ses (s : State) (k v : Nat) : (s.wr k v).ses = s.ses := rfl
@[simp] theorem wr_role (s : State) (k v : Nat) : (s.wr k v).role = s.role := rfl
@[simp] theorem wr_amend (s : State) (k v : Nat) : (s.wr k v).amend = s.amend := rfl
@[simp] theorem wr_bb (s : State) (k v : Nat) : (s.wr k v).bb = s.bb := rfl
@[simp] theorem wr_pc (s : State) (k v : Nat) : (s.wr k v).pc = s.pc := rfl
@[simp] theorem wr_pwr (s : State) (k v : Nat) : (s.wr k v).pwr = s.pwr := rfl
@[simp] theorem wr_md (s : State) (k v : Nat) : (s.wr k v).md = s.md := rfl
@[simp] theorem wr_rst (s : State) (k v : Nat) : (s.wr k v).rst = s.rst := rfl
@[simp] theorem wr_hmp (s : State) (k v : Nat) : (s.wr k v).hmp = s.hmp := rfl
@[simp] theorem wr_upd (s : State) (k v : Nat) : (s.wr k v).upd = s.upd := rfl
@[simp] theorem wr_fl (s : State) (k v : Nat) : (s.wr k v).fl = s.fl := rfl
@[simp] theorem wr_gn (s : State) (k v : Nat) : (s.wr k v).gn = s.gn := rfl
@[simp] theorem wr_gd (s : State) (k v : Nat) : (s.wr k v).gd = s.gd := rfl
@[simp] theorem wr_ym (s : State) (k v : Nat) : (s.wr k v).ym = s.ym := rfl
@[simp] theorem wr_cams (s : State) (k v : Nat) : (s.wr k v).cams = s.cams := rfl

/-! ### Registers written -/

@[simp] theorem wrs_pending (s : State) (l : List (Nat × Nat)) : (s.wrs l).pending = s.pending := rfl
@[simp] theorem wrs_now (s : State) (l : List (Nat × Nat)) : (s.wrs l).now = s.now := rfl
@[simp] theorem wrs_free (s : State) (l : List (Nat × Nat)) : (s.wrs l).free = s.free := rfl
@[simp] theorem wrs_mem (s : State) (l : List (Nat × Nat)) : (s.wrs l).mem = s.mem := rfl
@[simp] theorem wrs_answers (s : State) (l : List (Nat × Nat)) : (s.wrs l).answers = s.answers := rfl
@[simp] theorem wrs_canary (s : State) (l : List (Nat × Nat)) : (s.wrs l).canary = s.canary := rfl
@[simp] theorem wrs_isl (s : State) (l : List (Nat × Nat)) : (s.wrs l).isl = s.isl := rfl
@[simp] theorem wrs_board (s : State) (l : List (Nat × Nat)) : (s.wrs l).board = s.board := rfl
@[simp] theorem wrs_mirror (s : State) (l : List (Nat × Nat)) : (s.wrs l).mirror = s.mirror := rfl
@[simp] theorem wrs_prot (s : State) (l : List (Nat × Nat)) : (s.wrs l).prot = s.prot := rfl
@[simp] theorem wrs_ecc (s : State) (l : List (Nat × Nat)) : (s.wrs l).ecc = s.ecc := rfl
@[simp] theorem wrs_arb (s : State) (l : List (Nat × Nat)) : (s.wrs l).arb = s.arb := rfl
@[simp] theorem wrs_tb (s : State) (l : List (Nat × Nat)) : (s.wrs l).tb = s.tb := rfl
@[simp] theorem wrs_whistle (s : State) (l : List (Nat × Nat)) : (s.wrs l).whistle = s.whistle := rfl
@[simp] theorem wrs_ln (s : State) (l : List (Nat × Nat)) : (s.wrs l).ln = s.ln := rfl
@[simp] theorem wrs_vd (s : State) (l : List (Nat × Nat)) : (s.wrs l).vd = s.vd := rfl
@[simp] theorem wrs_ls (s : State) (l : List (Nat × Nat)) : (s.wrs l).ls = s.ls := rfl
@[simp] theorem wrs_fn (s : State) (l : List (Nat × Nat)) : (s.wrs l).fn = s.fn := rfl
@[simp] theorem wrs_opt (s : State) (l : List (Nat × Nat)) : (s.wrs l).opt = s.opt := rfl
@[simp] theorem wrs_eng (s : State) (l : List (Nat × Nat)) : (s.wrs l).eng = s.eng := rfl
@[simp] theorem wrs_lk (s : State) (l : List (Nat × Nat)) : (s.wrs l).lk = s.lk := rfl
@[simp] theorem wrs_ui (s : State) (l : List (Nat × Nat)) : (s.wrs l).ui = s.ui := rfl
@[simp] theorem wrs_imu (s : State) (l : List (Nat × Nat)) : (s.wrs l).imu = s.imu := rfl
@[simp] theorem wrs_ego (s : State) (l : List (Nat × Nat)) : (s.wrs l).ego = s.ego := rfl
@[simp] theorem wrs_out (s : State) (l : List (Nat × Nat)) : (s.wrs l).out = s.out := rfl
@[simp] theorem wrs_obs (s : State) (l : List (Nat × Nat)) : (s.wrs l).obs = s.obs := rfl
@[simp] theorem wrs_ses (s : State) (l : List (Nat × Nat)) : (s.wrs l).ses = s.ses := rfl
@[simp] theorem wrs_role (s : State) (l : List (Nat × Nat)) : (s.wrs l).role = s.role := rfl
@[simp] theorem wrs_amend (s : State) (l : List (Nat × Nat)) : (s.wrs l).amend = s.amend := rfl
@[simp] theorem wrs_bb (s : State) (l : List (Nat × Nat)) : (s.wrs l).bb = s.bb := rfl
@[simp] theorem wrs_pc (s : State) (l : List (Nat × Nat)) : (s.wrs l).pc = s.pc := rfl
@[simp] theorem wrs_pwr (s : State) (l : List (Nat × Nat)) : (s.wrs l).pwr = s.pwr := rfl
@[simp] theorem wrs_md (s : State) (l : List (Nat × Nat)) : (s.wrs l).md = s.md := rfl
@[simp] theorem wrs_rst (s : State) (l : List (Nat × Nat)) : (s.wrs l).rst = s.rst := rfl
@[simp] theorem wrs_hmp (s : State) (l : List (Nat × Nat)) : (s.wrs l).hmp = s.hmp := rfl
@[simp] theorem wrs_upd (s : State) (l : List (Nat × Nat)) : (s.wrs l).upd = s.upd := rfl
@[simp] theorem wrs_fl (s : State) (l : List (Nat × Nat)) : (s.wrs l).fl = s.fl := rfl
@[simp] theorem wrs_gn (s : State) (l : List (Nat × Nat)) : (s.wrs l).gn = s.gn := rfl
@[simp] theorem wrs_gd (s : State) (l : List (Nat × Nat)) : (s.wrs l).gd = s.gd := rfl
@[simp] theorem wrs_ym (s : State) (l : List (Nat × Nat)) : (s.wrs l).ym = s.ym := rfl
@[simp] theorem wrs_cams (s : State) (l : List (Nat × Nat)) : (s.wrs l).cams = s.cams := rfl

/-! ### Registers cleared -/

@[simp] theorem clearRegs_pending (s : State) (p : Nat → Bool) : (s.clearRegs p).pending = s.pending := rfl
@[simp] theorem clearRegs_now (s : State) (p : Nat → Bool) : (s.clearRegs p).now = s.now := rfl
@[simp] theorem clearRegs_free (s : State) (p : Nat → Bool) : (s.clearRegs p).free = s.free := rfl
@[simp] theorem clearRegs_mem (s : State) (p : Nat → Bool) : (s.clearRegs p).mem = s.mem := rfl
@[simp] theorem clearRegs_answers (s : State) (p : Nat → Bool) : (s.clearRegs p).answers = s.answers := rfl
@[simp] theorem clearRegs_canary (s : State) (p : Nat → Bool) : (s.clearRegs p).canary = s.canary := rfl
@[simp] theorem clearRegs_isl (s : State) (p : Nat → Bool) : (s.clearRegs p).isl = s.isl := rfl
@[simp] theorem clearRegs_board (s : State) (p : Nat → Bool) : (s.clearRegs p).board = s.board := rfl
@[simp] theorem clearRegs_mirror (s : State) (p : Nat → Bool) : (s.clearRegs p).mirror = s.mirror := rfl
@[simp] theorem clearRegs_prot (s : State) (p : Nat → Bool) : (s.clearRegs p).prot = s.prot := rfl
@[simp] theorem clearRegs_ecc (s : State) (p : Nat → Bool) : (s.clearRegs p).ecc = s.ecc := rfl
@[simp] theorem clearRegs_arb (s : State) (p : Nat → Bool) : (s.clearRegs p).arb = s.arb := rfl
@[simp] theorem clearRegs_tb (s : State) (p : Nat → Bool) : (s.clearRegs p).tb = s.tb := rfl
@[simp] theorem clearRegs_whistle (s : State) (p : Nat → Bool) : (s.clearRegs p).whistle = s.whistle := rfl
@[simp] theorem clearRegs_ln (s : State) (p : Nat → Bool) : (s.clearRegs p).ln = s.ln := rfl
@[simp] theorem clearRegs_vd (s : State) (p : Nat → Bool) : (s.clearRegs p).vd = s.vd := rfl
@[simp] theorem clearRegs_ls (s : State) (p : Nat → Bool) : (s.clearRegs p).ls = s.ls := rfl
@[simp] theorem clearRegs_fn (s : State) (p : Nat → Bool) : (s.clearRegs p).fn = s.fn := rfl
@[simp] theorem clearRegs_opt (s : State) (p : Nat → Bool) : (s.clearRegs p).opt = s.opt := rfl
@[simp] theorem clearRegs_eng (s : State) (p : Nat → Bool) : (s.clearRegs p).eng = s.eng := rfl
@[simp] theorem clearRegs_lk (s : State) (p : Nat → Bool) : (s.clearRegs p).lk = s.lk := rfl
@[simp] theorem clearRegs_ui (s : State) (p : Nat → Bool) : (s.clearRegs p).ui = s.ui := rfl
@[simp] theorem clearRegs_imu (s : State) (p : Nat → Bool) : (s.clearRegs p).imu = s.imu := rfl
@[simp] theorem clearRegs_ego (s : State) (p : Nat → Bool) : (s.clearRegs p).ego = s.ego := rfl
@[simp] theorem clearRegs_out (s : State) (p : Nat → Bool) : (s.clearRegs p).out = s.out := rfl
@[simp] theorem clearRegs_obs (s : State) (p : Nat → Bool) : (s.clearRegs p).obs = s.obs := rfl
@[simp] theorem clearRegs_ses (s : State) (p : Nat → Bool) : (s.clearRegs p).ses = s.ses := rfl
@[simp] theorem clearRegs_role (s : State) (p : Nat → Bool) : (s.clearRegs p).role = s.role := rfl
@[simp] theorem clearRegs_amend (s : State) (p : Nat → Bool) : (s.clearRegs p).amend = s.amend := rfl
@[simp] theorem clearRegs_bb (s : State) (p : Nat → Bool) : (s.clearRegs p).bb = s.bb := rfl
@[simp] theorem clearRegs_pc (s : State) (p : Nat → Bool) : (s.clearRegs p).pc = s.pc := rfl
@[simp] theorem clearRegs_pwr (s : State) (p : Nat → Bool) : (s.clearRegs p).pwr = s.pwr := rfl
@[simp] theorem clearRegs_md (s : State) (p : Nat → Bool) : (s.clearRegs p).md = s.md := rfl
@[simp] theorem clearRegs_rst (s : State) (p : Nat → Bool) : (s.clearRegs p).rst = s.rst := rfl
@[simp] theorem clearRegs_hmp (s : State) (p : Nat → Bool) : (s.clearRegs p).hmp = s.hmp := rfl
@[simp] theorem clearRegs_upd (s : State) (p : Nat → Bool) : (s.clearRegs p).upd = s.upd := rfl
@[simp] theorem clearRegs_fl (s : State) (p : Nat → Bool) : (s.clearRegs p).fl = s.fl := rfl
@[simp] theorem clearRegs_gn (s : State) (p : Nat → Bool) : (s.clearRegs p).gn = s.gn := rfl
@[simp] theorem clearRegs_gd (s : State) (p : Nat → Bool) : (s.clearRegs p).gd = s.gd := rfl
@[simp] theorem clearRegs_ym (s : State) (p : Nat → Bool) : (s.clearRegs p).ym = s.ym := rfl
@[simp] theorem clearRegs_cams (s : State) (p : Nat → Bool) : (s.clearRegs p).cams = s.cams := rfl

/-! ### An answer sent -/

@[simp] theorem answer_pending (s : State) (d : Dest) (c : Nat) (l : List Int) : (s.answer d c l).pending = s.pending := rfl
@[simp] theorem answer_now (s : State) (d : Dest) (c : Nat) (l : List Int) : (s.answer d c l).now = s.now := rfl
@[simp] theorem answer_free (s : State) (d : Dest) (c : Nat) (l : List Int) : (s.answer d c l).free = s.free := rfl
@[simp] theorem answer_reg (s : State) (d : Dest) (c : Nat) (l : List Int) : (s.answer d c l).reg = s.reg := rfl
@[simp] theorem answer_mem (s : State) (d : Dest) (c : Nat) (l : List Int) : (s.answer d c l).mem = s.mem := rfl
@[simp] theorem answer_canary (s : State) (d : Dest) (c : Nat) (l : List Int) : (s.answer d c l).canary = s.canary := rfl
@[simp] theorem answer_isl (s : State) (d : Dest) (c : Nat) (l : List Int) : (s.answer d c l).isl = s.isl := rfl
@[simp] theorem answer_board (s : State) (d : Dest) (c : Nat) (l : List Int) : (s.answer d c l).board = s.board := rfl
@[simp] theorem answer_mirror (s : State) (d : Dest) (c : Nat) (l : List Int) : (s.answer d c l).mirror = s.mirror := rfl
@[simp] theorem answer_prot (s : State) (d : Dest) (c : Nat) (l : List Int) : (s.answer d c l).prot = s.prot := rfl
@[simp] theorem answer_ecc (s : State) (d : Dest) (c : Nat) (l : List Int) : (s.answer d c l).ecc = s.ecc := rfl
@[simp] theorem answer_arb (s : State) (d : Dest) (c : Nat) (l : List Int) : (s.answer d c l).arb = s.arb := rfl
@[simp] theorem answer_tb (s : State) (d : Dest) (c : Nat) (l : List Int) : (s.answer d c l).tb = s.tb := rfl
@[simp] theorem answer_whistle (s : State) (d : Dest) (c : Nat) (l : List Int) : (s.answer d c l).whistle = s.whistle := rfl
@[simp] theorem answer_ln (s : State) (d : Dest) (c : Nat) (l : List Int) : (s.answer d c l).ln = s.ln := rfl
@[simp] theorem answer_vd (s : State) (d : Dest) (c : Nat) (l : List Int) : (s.answer d c l).vd = s.vd := rfl
@[simp] theorem answer_ls (s : State) (d : Dest) (c : Nat) (l : List Int) : (s.answer d c l).ls = s.ls := rfl
@[simp] theorem answer_fn (s : State) (d : Dest) (c : Nat) (l : List Int) : (s.answer d c l).fn = s.fn := rfl
@[simp] theorem answer_opt (s : State) (d : Dest) (c : Nat) (l : List Int) : (s.answer d c l).opt = s.opt := rfl
@[simp] theorem answer_eng (s : State) (d : Dest) (c : Nat) (l : List Int) : (s.answer d c l).eng = s.eng := rfl
@[simp] theorem answer_lk (s : State) (d : Dest) (c : Nat) (l : List Int) : (s.answer d c l).lk = s.lk := rfl
@[simp] theorem answer_ui (s : State) (d : Dest) (c : Nat) (l : List Int) : (s.answer d c l).ui = s.ui := rfl
@[simp] theorem answer_imu (s : State) (d : Dest) (c : Nat) (l : List Int) : (s.answer d c l).imu = s.imu := rfl
@[simp] theorem answer_ego (s : State) (d : Dest) (c : Nat) (l : List Int) : (s.answer d c l).ego = s.ego := rfl
@[simp] theorem answer_out (s : State) (d : Dest) (c : Nat) (l : List Int) : (s.answer d c l).out = s.out := rfl
@[simp] theorem answer_obs (s : State) (d : Dest) (c : Nat) (l : List Int) : (s.answer d c l).obs = s.obs := rfl
@[simp] theorem answer_ses (s : State) (d : Dest) (c : Nat) (l : List Int) : (s.answer d c l).ses = s.ses := rfl
@[simp] theorem answer_role (s : State) (d : Dest) (c : Nat) (l : List Int) : (s.answer d c l).role = s.role := rfl
@[simp] theorem answer_amend (s : State) (d : Dest) (c : Nat) (l : List Int) : (s.answer d c l).amend = s.amend := rfl
@[simp] theorem answer_bb (s : State) (d : Dest) (c : Nat) (l : List Int) : (s.answer d c l).bb = s.bb := rfl
@[simp] theorem answer_pc (s : State) (d : Dest) (c : Nat) (l : List Int) : (s.answer d c l).pc = s.pc := rfl
@[simp] theorem answer_pwr (s : State) (d : Dest) (c : Nat) (l : List Int) : (s.answer d c l).pwr = s.pwr := rfl
@[simp] theorem answer_md (s : State) (d : Dest) (c : Nat) (l : List Int) : (s.answer d c l).md = s.md := rfl
@[simp] theorem answer_rst (s : State) (d : Dest) (c : Nat) (l : List Int) : (s.answer d c l).rst = s.rst := rfl
@[simp] theorem answer_hmp (s : State) (d : Dest) (c : Nat) (l : List Int) : (s.answer d c l).hmp = s.hmp := rfl
@[simp] theorem answer_upd (s : State) (d : Dest) (c : Nat) (l : List Int) : (s.answer d c l).upd = s.upd := rfl
@[simp] theorem answer_fl (s : State) (d : Dest) (c : Nat) (l : List Int) : (s.answer d c l).fl = s.fl := rfl
@[simp] theorem answer_gn (s : State) (d : Dest) (c : Nat) (l : List Int) : (s.answer d c l).gn = s.gn := rfl
@[simp] theorem answer_gd (s : State) (d : Dest) (c : Nat) (l : List Int) : (s.answer d c l).gd = s.gd := rfl
@[simp] theorem answer_ym (s : State) (d : Dest) (c : Nat) (l : List Int) : (s.answer d c l).ym = s.ym := rfl
@[simp] theorem answer_cams (s : State) (d : Dest) (c : Nat) (l : List Int) : (s.answer d c l).cams = s.cams := rfl

/-! ### A function's own state written -/

@[simp] theorem setFn_pending (s : State) (f : Nat) (v : FnS) : (s.setFn f v).pending = s.pending := rfl
@[simp] theorem setFn_now (s : State) (f : Nat) (v : FnS) : (s.setFn f v).now = s.now := rfl
@[simp] theorem setFn_free (s : State) (f : Nat) (v : FnS) : (s.setFn f v).free = s.free := rfl
@[simp] theorem setFn_reg (s : State) (f : Nat) (v : FnS) : (s.setFn f v).reg = s.reg := rfl
@[simp] theorem setFn_mem (s : State) (f : Nat) (v : FnS) : (s.setFn f v).mem = s.mem := rfl
@[simp] theorem setFn_answers (s : State) (f : Nat) (v : FnS) : (s.setFn f v).answers = s.answers := rfl
@[simp] theorem setFn_canary (s : State) (f : Nat) (v : FnS) : (s.setFn f v).canary = s.canary := rfl
@[simp] theorem setFn_isl (s : State) (f : Nat) (v : FnS) : (s.setFn f v).isl = s.isl := rfl
@[simp] theorem setFn_board (s : State) (f : Nat) (v : FnS) : (s.setFn f v).board = s.board := rfl
@[simp] theorem setFn_mirror (s : State) (f : Nat) (v : FnS) : (s.setFn f v).mirror = s.mirror := rfl
@[simp] theorem setFn_prot (s : State) (f : Nat) (v : FnS) : (s.setFn f v).prot = s.prot := rfl
@[simp] theorem setFn_ecc (s : State) (f : Nat) (v : FnS) : (s.setFn f v).ecc = s.ecc := rfl
@[simp] theorem setFn_arb (s : State) (f : Nat) (v : FnS) : (s.setFn f v).arb = s.arb := rfl
@[simp] theorem setFn_tb (s : State) (f : Nat) (v : FnS) : (s.setFn f v).tb = s.tb := rfl
@[simp] theorem setFn_whistle (s : State) (f : Nat) (v : FnS) : (s.setFn f v).whistle = s.whistle := rfl
@[simp] theorem setFn_ln (s : State) (f : Nat) (v : FnS) : (s.setFn f v).ln = s.ln := rfl
@[simp] theorem setFn_vd (s : State) (f : Nat) (v : FnS) : (s.setFn f v).vd = s.vd := rfl
@[simp] theorem setFn_ls (s : State) (f : Nat) (v : FnS) : (s.setFn f v).ls = s.ls := rfl
@[simp] theorem setFn_opt (s : State) (f : Nat) (v : FnS) : (s.setFn f v).opt = s.opt := rfl
@[simp] theorem setFn_eng (s : State) (f : Nat) (v : FnS) : (s.setFn f v).eng = s.eng := rfl
@[simp] theorem setFn_lk (s : State) (f : Nat) (v : FnS) : (s.setFn f v).lk = s.lk := rfl
@[simp] theorem setFn_ui (s : State) (f : Nat) (v : FnS) : (s.setFn f v).ui = s.ui := rfl
@[simp] theorem setFn_imu (s : State) (f : Nat) (v : FnS) : (s.setFn f v).imu = s.imu := rfl
@[simp] theorem setFn_ego (s : State) (f : Nat) (v : FnS) : (s.setFn f v).ego = s.ego := rfl
@[simp] theorem setFn_out (s : State) (f : Nat) (v : FnS) : (s.setFn f v).out = s.out := rfl
@[simp] theorem setFn_obs (s : State) (f : Nat) (v : FnS) : (s.setFn f v).obs = s.obs := rfl
@[simp] theorem setFn_ses (s : State) (f : Nat) (v : FnS) : (s.setFn f v).ses = s.ses := rfl
@[simp] theorem setFn_role (s : State) (f : Nat) (v : FnS) : (s.setFn f v).role = s.role := rfl
@[simp] theorem setFn_amend (s : State) (f : Nat) (v : FnS) : (s.setFn f v).amend = s.amend := rfl
@[simp] theorem setFn_bb (s : State) (f : Nat) (v : FnS) : (s.setFn f v).bb = s.bb := rfl
@[simp] theorem setFn_pc (s : State) (f : Nat) (v : FnS) : (s.setFn f v).pc = s.pc := rfl
@[simp] theorem setFn_pwr (s : State) (f : Nat) (v : FnS) : (s.setFn f v).pwr = s.pwr := rfl
@[simp] theorem setFn_md (s : State) (f : Nat) (v : FnS) : (s.setFn f v).md = s.md := rfl
@[simp] theorem setFn_rst (s : State) (f : Nat) (v : FnS) : (s.setFn f v).rst = s.rst := rfl
@[simp] theorem setFn_hmp (s : State) (f : Nat) (v : FnS) : (s.setFn f v).hmp = s.hmp := rfl
@[simp] theorem setFn_upd (s : State) (f : Nat) (v : FnS) : (s.setFn f v).upd = s.upd := rfl
@[simp] theorem setFn_fl (s : State) (f : Nat) (v : FnS) : (s.setFn f v).fl = s.fl := rfl
@[simp] theorem setFn_gn (s : State) (f : Nat) (v : FnS) : (s.setFn f v).gn = s.gn := rfl
@[simp] theorem setFn_gd (s : State) (f : Nat) (v : FnS) : (s.setFn f v).gd = s.gd := rfl
@[simp] theorem setFn_ym (s : State) (f : Nat) (v : FnS) : (s.setFn f v).ym = s.ym := rfl
@[simp] theorem setFn_cams (s : State) (f : Nat) (v : FnS) : (s.setFn f v).cams = s.cams := rfl

/-! ### A valve channel's own state written -/

@[simp] theorem setValve_pending (s : State) (c : Nat) (v : ValveS) : (s.setValve c v).pending = s.pending := rfl
@[simp] theorem setValve_now (s : State) (c : Nat) (v : ValveS) : (s.setValve c v).now = s.now := rfl
@[simp] theorem setValve_free (s : State) (c : Nat) (v : ValveS) : (s.setValve c v).free = s.free := rfl
@[simp] theorem setValve_reg (s : State) (c : Nat) (v : ValveS) : (s.setValve c v).reg = s.reg := rfl
@[simp] theorem setValve_mem (s : State) (c : Nat) (v : ValveS) : (s.setValve c v).mem = s.mem := rfl
@[simp] theorem setValve_answers (s : State) (c : Nat) (v : ValveS) : (s.setValve c v).answers = s.answers := rfl
@[simp] theorem setValve_canary (s : State) (c : Nat) (v : ValveS) : (s.setValve c v).canary = s.canary := rfl
@[simp] theorem setValve_isl (s : State) (c : Nat) (v : ValveS) : (s.setValve c v).isl = s.isl := rfl
@[simp] theorem setValve_board (s : State) (c : Nat) (v : ValveS) : (s.setValve c v).board = s.board := rfl
@[simp] theorem setValve_mirror (s : State) (c : Nat) (v : ValveS) : (s.setValve c v).mirror = s.mirror := rfl
@[simp] theorem setValve_prot (s : State) (c : Nat) (v : ValveS) : (s.setValve c v).prot = s.prot := rfl
@[simp] theorem setValve_ecc (s : State) (c : Nat) (v : ValveS) : (s.setValve c v).ecc = s.ecc := rfl
@[simp] theorem setValve_arb (s : State) (c : Nat) (v : ValveS) : (s.setValve c v).arb = s.arb := rfl
@[simp] theorem setValve_tb (s : State) (c : Nat) (v : ValveS) : (s.setValve c v).tb = s.tb := rfl
@[simp] theorem setValve_whistle (s : State) (c : Nat) (v : ValveS) : (s.setValve c v).whistle = s.whistle := rfl
@[simp] theorem setValve_ln (s : State) (c : Nat) (v : ValveS) : (s.setValve c v).ln = s.ln := rfl
@[simp] theorem setValve_ls (s : State) (c : Nat) (v : ValveS) : (s.setValve c v).ls = s.ls := rfl
@[simp] theorem setValve_fn (s : State) (c : Nat) (v : ValveS) : (s.setValve c v).fn = s.fn := rfl
@[simp] theorem setValve_opt (s : State) (c : Nat) (v : ValveS) : (s.setValve c v).opt = s.opt := rfl
@[simp] theorem setValve_eng (s : State) (c : Nat) (v : ValveS) : (s.setValve c v).eng = s.eng := rfl
@[simp] theorem setValve_lk (s : State) (c : Nat) (v : ValveS) : (s.setValve c v).lk = s.lk := rfl
@[simp] theorem setValve_ui (s : State) (c : Nat) (v : ValveS) : (s.setValve c v).ui = s.ui := rfl
@[simp] theorem setValve_imu (s : State) (c : Nat) (v : ValveS) : (s.setValve c v).imu = s.imu := rfl
@[simp] theorem setValve_ego (s : State) (c : Nat) (v : ValveS) : (s.setValve c v).ego = s.ego := rfl
@[simp] theorem setValve_out (s : State) (c : Nat) (v : ValveS) : (s.setValve c v).out = s.out := rfl
@[simp] theorem setValve_obs (s : State) (c : Nat) (v : ValveS) : (s.setValve c v).obs = s.obs := rfl
@[simp] theorem setValve_ses (s : State) (c : Nat) (v : ValveS) : (s.setValve c v).ses = s.ses := rfl
@[simp] theorem setValve_role (s : State) (c : Nat) (v : ValveS) : (s.setValve c v).role = s.role := rfl
@[simp] theorem setValve_amend (s : State) (c : Nat) (v : ValveS) : (s.setValve c v).amend = s.amend := rfl
@[simp] theorem setValve_bb (s : State) (c : Nat) (v : ValveS) : (s.setValve c v).bb = s.bb := rfl
@[simp] theorem setValve_pc (s : State) (c : Nat) (v : ValveS) : (s.setValve c v).pc = s.pc := rfl
@[simp] theorem setValve_pwr (s : State) (c : Nat) (v : ValveS) : (s.setValve c v).pwr = s.pwr := rfl
@[simp] theorem setValve_md (s : State) (c : Nat) (v : ValveS) : (s.setValve c v).md = s.md := rfl
@[simp] theorem setValve_rst (s : State) (c : Nat) (v : ValveS) : (s.setValve c v).rst = s.rst := rfl
@[simp] theorem setValve_hmp (s : State) (c : Nat) (v : ValveS) : (s.setValve c v).hmp = s.hmp := rfl
@[simp] theorem setValve_upd (s : State) (c : Nat) (v : ValveS) : (s.setValve c v).upd = s.upd := rfl
@[simp] theorem setValve_fl (s : State) (c : Nat) (v : ValveS) : (s.setValve c v).fl = s.fl := rfl
@[simp] theorem setValve_gn (s : State) (c : Nat) (v : ValveS) : (s.setValve c v).gn = s.gn := rfl
@[simp] theorem setValve_gd (s : State) (c : Nat) (v : ValveS) : (s.setValve c v).gd = s.gd := rfl
@[simp] theorem setValve_ym (s : State) (c : Nat) (v : ValveS) : (s.setValve c v).ym = s.ym := rfl
@[simp] theorem setValve_cams (s : State) (c : Nat) (v : ValveS) : (s.setValve c v).cams = s.cams := rfl

/-! ### A switch channel's own state written -/

@[simp] theorem setSw_pending (s : State) (n : Nat) (v : SwitchS) : (s.setSw n v).pending = s.pending := rfl
@[simp] theorem setSw_now (s : State) (n : Nat) (v : SwitchS) : (s.setSw n v).now = s.now := rfl
@[simp] theorem setSw_free (s : State) (n : Nat) (v : SwitchS) : (s.setSw n v).free = s.free := rfl
@[simp] theorem setSw_reg (s : State) (n : Nat) (v : SwitchS) : (s.setSw n v).reg = s.reg := rfl
@[simp] theorem setSw_mem (s : State) (n : Nat) (v : SwitchS) : (s.setSw n v).mem = s.mem := rfl
@[simp] theorem setSw_answers (s : State) (n : Nat) (v : SwitchS) : (s.setSw n v).answers = s.answers := rfl
@[simp] theorem setSw_canary (s : State) (n : Nat) (v : SwitchS) : (s.setSw n v).canary = s.canary := rfl
@[simp] theorem setSw_isl (s : State) (n : Nat) (v : SwitchS) : (s.setSw n v).isl = s.isl := rfl
@[simp] theorem setSw_board (s : State) (n : Nat) (v : SwitchS) : (s.setSw n v).board = s.board := rfl
@[simp] theorem setSw_mirror (s : State) (n : Nat) (v : SwitchS) : (s.setSw n v).mirror = s.mirror := rfl
@[simp] theorem setSw_prot (s : State) (n : Nat) (v : SwitchS) : (s.setSw n v).prot = s.prot := rfl
@[simp] theorem setSw_ecc (s : State) (n : Nat) (v : SwitchS) : (s.setSw n v).ecc = s.ecc := rfl
@[simp] theorem setSw_arb (s : State) (n : Nat) (v : SwitchS) : (s.setSw n v).arb = s.arb := rfl
@[simp] theorem setSw_tb (s : State) (n : Nat) (v : SwitchS) : (s.setSw n v).tb = s.tb := rfl
@[simp] theorem setSw_whistle (s : State) (n : Nat) (v : SwitchS) : (s.setSw n v).whistle = s.whistle := rfl
@[simp] theorem setSw_ln (s : State) (n : Nat) (v : SwitchS) : (s.setSw n v).ln = s.ln := rfl
@[simp] theorem setSw_vd (s : State) (n : Nat) (v : SwitchS) : (s.setSw n v).vd = s.vd := rfl
@[simp] theorem setSw_fn (s : State) (n : Nat) (v : SwitchS) : (s.setSw n v).fn = s.fn := rfl
@[simp] theorem setSw_opt (s : State) (n : Nat) (v : SwitchS) : (s.setSw n v).opt = s.opt := rfl
@[simp] theorem setSw_eng (s : State) (n : Nat) (v : SwitchS) : (s.setSw n v).eng = s.eng := rfl
@[simp] theorem setSw_lk (s : State) (n : Nat) (v : SwitchS) : (s.setSw n v).lk = s.lk := rfl
@[simp] theorem setSw_ui (s : State) (n : Nat) (v : SwitchS) : (s.setSw n v).ui = s.ui := rfl
@[simp] theorem setSw_imu (s : State) (n : Nat) (v : SwitchS) : (s.setSw n v).imu = s.imu := rfl
@[simp] theorem setSw_ego (s : State) (n : Nat) (v : SwitchS) : (s.setSw n v).ego = s.ego := rfl
@[simp] theorem setSw_out (s : State) (n : Nat) (v : SwitchS) : (s.setSw n v).out = s.out := rfl
@[simp] theorem setSw_obs (s : State) (n : Nat) (v : SwitchS) : (s.setSw n v).obs = s.obs := rfl
@[simp] theorem setSw_ses (s : State) (n : Nat) (v : SwitchS) : (s.setSw n v).ses = s.ses := rfl
@[simp] theorem setSw_role (s : State) (n : Nat) (v : SwitchS) : (s.setSw n v).role = s.role := rfl
@[simp] theorem setSw_amend (s : State) (n : Nat) (v : SwitchS) : (s.setSw n v).amend = s.amend := rfl
@[simp] theorem setSw_bb (s : State) (n : Nat) (v : SwitchS) : (s.setSw n v).bb = s.bb := rfl
@[simp] theorem setSw_pc (s : State) (n : Nat) (v : SwitchS) : (s.setSw n v).pc = s.pc := rfl
@[simp] theorem setSw_pwr (s : State) (n : Nat) (v : SwitchS) : (s.setSw n v).pwr = s.pwr := rfl
@[simp] theorem setSw_md (s : State) (n : Nat) (v : SwitchS) : (s.setSw n v).md = s.md := rfl
@[simp] theorem setSw_rst (s : State) (n : Nat) (v : SwitchS) : (s.setSw n v).rst = s.rst := rfl
@[simp] theorem setSw_hmp (s : State) (n : Nat) (v : SwitchS) : (s.setSw n v).hmp = s.hmp := rfl
@[simp] theorem setSw_upd (s : State) (n : Nat) (v : SwitchS) : (s.setSw n v).upd = s.upd := rfl
@[simp] theorem setSw_fl (s : State) (n : Nat) (v : SwitchS) : (s.setSw n v).fl = s.fl := rfl
@[simp] theorem setSw_gn (s : State) (n : Nat) (v : SwitchS) : (s.setSw n v).gn = s.gn := rfl
@[simp] theorem setSw_gd (s : State) (n : Nat) (v : SwitchS) : (s.setSw n v).gd = s.gd := rfl
@[simp] theorem setSw_ym (s : State) (n : Nat) (v : SwitchS) : (s.setSw n v).ym = s.ym := rfl
@[simp] theorem setSw_cams (s : State) (n : Nat) (v : SwitchS) : (s.setSw n v).cams = s.cams := rfl

@[simp] theorem begin_at (s : State) (t : Nat) : (s.begin t).now = max s.now t := rfl
@[simp] theorem begin_silent (s : State) (t : Nat) : (s.begin t).answers = [] := rfl
@[simp] theorem answer_last (s : State) (d : Dest) (c : Nat) (l : List Int) :
    (s.answer d c l).answers = sendFrame s.answers { dest := d, code := c, data := l } := rfl
@[simp] theorem wr_table (s : State) (k v : Nat) : (s.wr k v).reg = ins s.reg k v := rfl

end Sys2Proof.Machine
end

