-- ==== Sys2Proof/Laws/Registers.lean ====
section
/-! SUPPORT. Reading a register after writing one, and what stays of memory after a byte is written. -/

namespace Sys2Proof.Machine

/-! ### Association lists -/

theorem look_ins {α : Type} (l : List (Nat × α)) (k v' : Nat) (v : α) :
    look (ins l k v) v' = if k = v' then some v else look l v' := by
  induction l with
  | nil => simp [ins, look]
  | cons p t ih =>
    obtain ⟨a, b⟩ := p
    unfold ins
    split
    · simp [look]
    · split
      · next h => subst h; simp only [look]; split <;> simp_all
      · next h => simp only [look, ih]; split <;> split <;> simp_all

@[simp] theorem look_ins_same {α : Type} (l : List (Nat × α)) (k : Nat) (v : α) : look (ins l k v) k = some v := by
  simp [look_ins]

theorem look_ins_ne {α : Type} (l : List (Nat × α)) {k j : Nat} (v : α) (h : k ≠ j) :
    look (ins l k v) j = look l j := by
  simp [look_ins, h]

/-! ### Registers -/

/-- A register read after one is written. -/
theorem rd_wr (s : State) (k v j : Nat) : (s.wr k v).rd j = if k = j then v else s.rd j := by
  unfold State.rd State.wr
  dsimp only
  rw [look_ins]
  split <;> rfl

@[simp] theorem rd_wr_same (s : State) (k v : Nat) : (s.wr k v).rd k = v := by simp [rd_wr]

theorem rd_wr_ne (s : State) {k j : Nat} (v : Nat) (h : k ≠ j) : (s.wr k v).rd j = s.rd j := by
  simp [rd_wr, h]

@[simp] theorem wrs_nil (s : State) : s.wrs [] = s := rfl

theorem wrs_cons (s : State) (e : Nat × Nat) (l : List (Nat × Nat)) : s.wrs (e :: l) = (s.wr e.1 e.2).wrs l := rfl

/-- A register read after several are written: a register that is not among them. -/
theorem rd_wrs_ne (s : State) (l : List (Nat × Nat)) (j : Nat) (h : ∀ e ∈ l, e.1 ≠ j) :
    (s.wrs l).rd j = s.rd j := by
  induction l generalizing s with
  | nil => rfl
  | cons e t ih =>
    rw [wrs_cons, ih _ (fun x hx => h x (List.mem_cons_of_mem _ hx)), rd_wr_ne _ _ (h e List.mem_cons_self)]

theorem rd_wrs_cons (s : State) (e : Nat × Nat) (l : List (Nat × Nat)) (j : Nat) :
    (s.wrs (e :: l)).rd j = ((s.wr e.1 e.2).wrs l).rd j := rfl

@[simp] theorem rd_begin (s : State) (t j : Nat) : (s.begin t).rd j = s.rd j := rfl
@[simp] theorem rd_answer (s : State) (d : Dest) (c : Nat) (l : List Int) (j : Nat) :
    (s.answer d c l).rd j = s.rd j := rfl
@[simp] theorem rd_setFn (s : State) (f : Nat) (v : FnS) (j : Nat) : (s.setFn f v).rd j = s.rd j := rfl
@[simp] theorem rd_setValve (s : State) (c : Nat) (v : ValveS) (j : Nat) : (s.setValve c v).rd j = s.rd j := rfl
@[simp] theorem rd_setSw (s : State) (n : Nat) (v : SwitchS) (j : Nat) : (s.setSw n v).rd j = s.rd j := rfl

theorem rd_bump (s : State) (k m j : Nat) :
    (s.bump k m).rd j = if k = j then satInc m (s.rd k) else s.rd j := rd_wr _ _ _ _

theorem rd_raise (s : State) (k v j : Nat) :
    (s.raise k v).rd j = if k = j then max (s.rd k) v else s.rd j := by
  unfold State.raise
  split
  · next h => rw [rd_wr]; split
              · rw [Nat.max_eq_right (Nat.le_of_lt h)]
              · rfl
  · next h =>
    split
    · next e => subst e; rw [Nat.max_eq_left (Nat.le_of_not_lt h)]
    · rfl

theorem rd_of_reg {s t : State} (h : t.reg = s.reg) (j : Nat) : t.rd j = s.rd j := by
  unfold State.rd; rw [h]

theorem rd_reply (s : State) (n c : Nat) (l : List Int) (j : Nat) : (s.reply n c l).rd j = s.rd j := by
  unfold State.reply
  split
  · rfl
  · split <;> rfl

/-! ### Memory -/

theorem memRead_cons (x : Nat) (y : Byte) (t : List Host.Cell) (b : Nat) :
    memRead ((x, y) :: t) b = if x = b then y else memRead t b := rfl

/-- A byte read after one is written. -/
theorem memRead_memWrite (m : List Host.Cell) (h : Memory.wf m) (a b : Nat) (v : Byte) :
    memRead (memWrite m a v) b = if a = b then v else memRead m b := by
  have low : ∀ (m : List Host.Cell) (a : Nat), (∀ c ∈ m, a < c.1) → memRead m a = unwritten := by
    intro m a hl
    induction m with
    | nil => rfl
    | cons c t ih =>
      obtain ⟨x, y⟩ := c
      have hx : a < x := hl (x, y) List.mem_cons_self
      unfold memRead
      rw [if_neg (by omega)]
      exact ih (fun c hc => hl c (List.mem_cons_of_mem _ hc))
  induction m with
  | nil => unfold memWrite; split <;> simp_all [memRead]
  | cons c t ih =>
    obtain ⟨x, y⟩ := c
    have hp := List.pairwise_cons.mp h.1
    have ht : Memory.wf t := ⟨hp.2, fun c hc => h.2 c (List.mem_cons_of_mem _ hc)⟩
    unfold memWrite
    split
    · next hlt =>
      have la : memRead ((x, y) :: t) a = unwritten := low _ _ (by
        intro c hc
        rcases List.mem_cons.mp hc with rfl | hc
        · exact hlt
        · exact Nat.lt_trans hlt (hp.1 c hc))
      split
      · next hv =>
        split
        · next e => subst e; rw [la, hv]
        · rfl
      · rw [memRead]
    · split
      · next hlt e =>
        subst e
        split
        · next hv =>
          split
          · next e => subst e; rw [hv]; exact low t x (fun c hc => hp.1 c hc)
          · next ne => rw [memRead_cons x y t b, if_neg ne]
        · rw [memRead_cons x v t b, memRead_cons x y t b]
          split <;> rfl
      · next hlt ne =>
        rw [memRead_cons x y _ b, memRead_cons x y t b, ih ht]
        split
        · next e => subst e; rw [if_neg (fun e => ne e.symm)]
        · rfl

theorem memWrite_low (m : List Host.Cell) (a x : Nat) (v : Byte) (hx : x < a) (h : ∀ c ∈ m, x < c.1) :
    ∀ c ∈ memWrite m a v, x < c.1 := by
  induction m with
  | nil =>
    unfold memWrite
    split
    · intro c hc; cases hc
    · intro c hc; rw [List.mem_singleton] at hc; subst hc; exact hx
  | cons d t ih =>
    obtain ⟨y, w⟩ := d
    have hd := h (y, w) List.mem_cons_self
    have ht := fun c hc => h c (List.mem_cons_of_mem (y, w) hc)
    unfold memWrite
    split
    · split
      · exact h
      · intro c hc
        rcases List.mem_cons.mp hc with rfl | hc
        · exact hx
        · exact h c hc
    · split
      · split
        · exact ht
        · intro c hc
          rcases List.mem_cons.mp hc with rfl | hc
          · exact hx
          · exact ht c hc
      · intro c hc
        rcases List.mem_cons.mp hc with rfl | hc
        · exact hd
        · exact ih ht c hc

/-- A byte written keeps the canonical form. -/
theorem memWrite_wf (m : List Host.Cell) (h : Memory.wf m) (a : Nat) (v : Byte) : Memory.wf (memWrite m a v) := by
  induction m with
  | nil =>
    unfold memWrite
    split
    · exact h
    · next hv =>
      refine ⟨List.pairwise_singleton _ _, fun c hc => ?_⟩
      rw [List.mem_singleton] at hc; subst hc; exact hv
  | cons c t ih =>
    obtain ⟨x, y⟩ := c
    have hp := List.pairwise_cons.mp h.1
    have ht : Memory.wf t := ⟨hp.2, fun c hc => h.2 c (List.mem_cons_of_mem _ hc)⟩
    have hy := h.2 (x, y) List.mem_cons_self
    unfold memWrite
    split
    · next hlt =>
      split
      · exact h
      · next hv =>
        refine ⟨List.pairwise_cons.mpr ⟨fun c hc => ?_, h.1⟩, fun c hc => ?_⟩
        · rcases List.mem_cons.mp hc with rfl | hc
          · exact hlt
          · exact Nat.lt_trans hlt (hp.1 c hc)
        · rcases List.mem_cons.mp hc with rfl | hc
          · exact hv
          · exact h.2 c hc
    · split
      · next e =>
        split
        · exact ht
        · next hv =>
          refine ⟨List.pairwise_cons.mpr ⟨fun c hc => ?_, hp.2⟩, fun c hc => ?_⟩
          · have := hp.1 c hc; dsimp only at this ⊢; omega
          · rcases List.mem_cons.mp hc with rfl | hc
            · exact hv
            · exact ht.2 c hc
      · next hlt ne =>
        have k := ih ht
        refine ⟨List.pairwise_cons.mpr ⟨fun c hc => ?_, k.1⟩, fun c hc => ?_⟩
        · exact memWrite_low t a x v (by omega) (fun c hc => hp.1 c hc) c hc
        · rcases List.mem_cons.mp hc with rfl | hc
          · exact hy
          · exact k.2 c hc

end Sys2Proof.Machine
end

