-- ==== Sys2Proof/Laws/Stream.lean ====
section
/-! SUPPORT. What logging an event does: it moves only the registers of `streamRegs`, and while the reorder
window has room it stands the event at the window's end. -/

namespace Sys2Proof.Machine

/-! ### Registers kept -/

theorem RegsKept.rfl' (l : List Nat) (s : State) : RegsKept l s s := fun _ _ _ => rfl

theorem RegsKept.trans {l : List Nat} {s t u : State} (h : RegsKept l s t) (k : RegsKept l t u) :
    RegsKept l s u := fun x hx hs => (k x hx hs).trans (h x hx hs)

theorem RegsKept.mono {l m : List Nat} {s t : State} (h : RegsKept l s t) (k : l ⊆ m) : RegsKept m s t :=
  fun x hx hs => h x (fun hl => hx (k hl)) hs

theorem RegsKept.next {l m : List Nat} {s t u : State} (k : RegsKept m t u) (hm : m ⊆ l) (h : RegsKept l s t) :
    RegsKept l s u := h.trans (k.mono hm)

theorem RegsKept.of_reg {l : List Nat} {s t : State} (h : t.reg = s.reg) : RegsKept l s t :=
  fun x _ _ => rd_of_reg h x

theorem RegsKept.wr {l : List Nat} (s : State) (k v : Nat) (h : k ∈ l ∨ k ∈ streamRegs) :
    RegsKept l s (s.wr k v) := by
  intro x hx hs
  refine rd_wr_ne s v (fun e => ?_)
  subst e
  exact h.elim hx hs

theorem RegsKept.wrs {l : List Nat} (s : State) (e : List (Nat × Nat))
    (h : ∀ x ∈ e, x.1 ∈ l ∨ x.1 ∈ streamRegs) : RegsKept l s (s.wrs e) := by
  induction e generalizing s with
  | nil => exact RegsKept.rfl' _ _
  | cons a t ih =>
    exact (RegsKept.wr s a.1 a.2 (h a List.mem_cons_self)).trans
      (ih _ (fun x hx => h x (List.mem_cons_of_mem _ hx)))

theorem RegsKept.bump {l : List Nat} (s : State) (k m : Nat) (h : k ∈ l ∨ k ∈ streamRegs) :
    RegsKept l s (s.bump k m) := RegsKept.wr s k _ h

theorem RegsKept.raise {l : List Nat} (s : State) (k v : Nat) (h : k ∈ l ∨ k ∈ streamRegs) :
    RegsKept l s (s.raise k v) := by
  unfold State.raise
  split
  · exact RegsKept.wr s k v h
  · exact RegsKept.rfl' _ _

/-! ### The stream -/

theorem bbPush_regs (s : State) (it : BbItem) : RegsKept [] s (s.bbPush it) := by
  unfold State.bbPush
  split
  · exact RegsKept.of_reg rfl
  · refine RegsKept.trans (t := { s with bb := { s.bb with dropped := s.bb.dropped + 1 } }) (RegsKept.of_reg rfl) ?_
    exact RegsKept.bump _ _ _ (Or.inr (by decide))

theorem bbAtres_regs (s : State) (e : Event) : RegsKept [] s (s.bbAtres e) := by
  unfold State.bbAtres
  dsimp only
  split
  · exact bbPush_regs _ _
  · exact RegsKept.rfl' _ _

theorem bbEvent_regs (s : State) (e : Event) : RegsKept [] s (s.bbEvent e) := by
  unfold State.bbEvent
  split
  · extract_lets x0 x1
    have h1 : RegsKept [] s x1 := by
      refine RegsKept.trans (bbPush_regs s { typ := 1, fault := e.fault, payload := e.record }) ?_
      unfold x1
      split <;> exact RegsKept.of_reg rfl
    clear_value x1
    split
    · exact h1.trans (bbAtres_regs _ _)
    · exact h1
  · exact RegsKept.rfl' _ _

theorem noteFault_regs (s : State) (e : Event) : RegsKept [] s (s.noteFault e) := by
  unfold State.noteFault
  split
  · refine RegsKept.wrs _ _ ?_
    intro x hx
    simp only [List.mem_cons, List.not_mem_nil, or_false] at hx
    rcases hx with rfl | rfl | rfl <;> (right; dsimp only; decide)
  · exact RegsKept.rfl' _ _

theorem release_regs (s : State) (e : Event) (late : Bool) : RegsKept [] s (s.release e late) := by
  unfold State.release
  dsimp only
  refine RegsKept.trans ?_ (noteFault_regs _ _)
  refine RegsKept.trans ?_ (bbEvent_regs _ _)
  split
  · refine RegsKept.trans (t := ({ s with mirror := { s.mirror with nextSeq := (s.mirror.nextSeq + 1) % 2 ^ 32 } }.bump R.MIRROR_STAT_LATE 0xFFFF)) ?_ (RegsKept.of_reg rfl)
    refine RegsKept.trans (t := { s with mirror := { s.mirror with nextSeq := (s.mirror.nextSeq + 1) % 2 ^ 32 } }) (RegsKept.of_reg rfl) ?_
    exact RegsKept.bump _ _ _ (Or.inr (by decide))
  · exact RegsKept.of_reg rfl

theorem hold_regs (s : State) (e : Event) : RegsKept [] s (s.hold e) := by
  unfold State.hold
  extract_lets +onlyGivenNames x00 x0
  have h0 : RegsKept [] s x0 := by
    unfold x0
    split
    · exact RegsKept.rfl' _ _
    · split
      · exact RegsKept.trans (t := { s with mirror := { s.mirror with window := windowWithout s.mirror.window _ } })
          (RegsKept.of_reg rfl) (release_regs _ _ _)
      · exact RegsKept.rfl' _ _
  clear_value x0
  split
  · refine h0.trans (RegsKept.trans (t := { x0 with mirror := { x0.mirror with window := x0.mirror.window ++ [e] } })
      (RegsKept.of_reg rfl) ?_)
    exact RegsKept.raise _ _ _ (Or.inr (by decide))
  · exact h0.trans (RegsKept.bump _ _ _ (Or.inr (by decide)))

theorem arrive_regs (s : State) (e : Event) : RegsKept [] s (s.arrive e) := by
  unfold State.arrive
  dsimp only
  refine RegsKept.trans (t := { s with mirror := { s.mirror with arrivals := s.mirror.arrivals + 1 } })
    (RegsKept.of_reg rfl) ?_
  split
  · exact release_regs _ _ _
  · exact hold_regs _ _

theorem ownEvent_regs (s : State) (e : Event) : RegsKept [] s (s.ownEvent e) := by
  unfold State.ownEvent
  refine RegsKept.trans ?_ (arrive_regs _ _)
  split
  · exact RegsKept.of_reg rfl
  · exact RegsKept.rfl' _ _

/-- Logging moves no register but those of `streamRegs`. -/
theorem log_regs (s : State) (code : Nat) (payload : List Int) (island : Nat) (esc fault : Bool)
    (input : Option Int) : RegsKept [] s (s.log code payload island esc fault input) := ownEvent_regs _ _

theorem logOnce_regs (s : State) (code scope period : Nat) (payload : List Int) (island : Nat) (fault : Bool) :
    RegsKept [] s (s.logOnce code scope period payload island fault) := by
  unfold State.logOnce
  split
  · refine RegsKept.trans (t := { s with mirror := { s.mirror with
        holdoffs := ins s.mirror.holdoffs (code * 2 ^ 40 + scope) s.now } }) (RegsKept.of_reg rfl) ?_
    exact log_regs _ _ _ _ _ _ _
  · exact RegsKept.rfl' _ _

theorem pdLog_regs (s : State) (code : Nat) (payload : List Int) (fault : Bool) :
    RegsKept [] s (s.pdLog code payload fault) := by
  unfold State.pdLog
  split
  · dsimp only
    split <;> exact RegsKept.of_reg rfl
  · exact log_regs _ _ _ _ _ _ _

theorem pdLogOnce_regs (s : State) (code scope period : Nat) (payload : List Int) (fault : Bool) :
    RegsKept [] s (s.pdLogOnce code scope period payload fault) := by
  unfold State.pdLogOnce
  split
  · refine RegsKept.trans (t := { s with mirror := { s.mirror with
        holdoffs := ins s.mirror.holdoffs (code * 2 ^ 40 + scope) s.now } }) (RegsKept.of_reg rfl) ?_
    exact pdLog_regs _ _ _ _
  · exact RegsKept.rfl' _ _

/-- A register that logging does not move. -/
theorem log_rd (s : State) (code : Nat) (payload : List Int) (island : Nat) (esc fault : Bool) (input : Option Int)
    (k : Nat) (h : k ∉ streamRegs) : (s.log code payload island esc fault input).rd k = s.rd k :=
  log_regs s code payload island esc fault input k (by simp) h

theorem logOnce_rd (s : State) (code scope period : Nat) (payload : List Int) (island : Nat) (fault : Bool) (k : Nat)
    (h : k ∉ streamRegs) : (s.logOnce code scope period payload island fault).rd k = s.rd k :=
  logOnce_regs s code scope period payload island fault k (by simp) h

theorem pdLog_rd (s : State) (code : Nat) (payload : List Int) (fault : Bool) (k : Nat) (h : k ∉ streamRegs) :
    (s.pdLog code payload fault).rd k = s.rd k := pdLog_regs s code payload fault k (by simp) h

theorem pdLogOnce_rd (s : State) (code scope period : Nat) (payload : List Int) (fault : Bool) (k : Nat)
    (h : k ∉ streamRegs) : (s.pdLogOnce code scope period payload fault).rd k = s.rd k :=
  pdLogOnce_regs s code scope period payload fault k (by simp) h

/-! ### The reorder window -/

theorem raise_mirror (s : State) (k v : Nat) : (s.raise k v).mirror = s.mirror := by
  unfold State.raise; split <;> rfl

/-- The event `log` makes. -/
def State.event (s : State) (code : Nat) (payload : List Int) (island : Nat) (esc fault : Bool)
    (input : Option Int) : Event :=
  { stamp := s.harvest, code, island, escalated := esc, fault := fault || alwaysFault code,
    unit := s.role.unit, payload, steps := s.tb.steps, due := s.now + 50000, arrival := s.mirror.arrivals,
    input := input.getD s.harvest }

/-- With room in the window an event that is not late stands at its end. -/
theorem arrive_held (s : State) (e : Event) (hd : s.now ≤ e.due) (h : s.mirror.window.length < 4096) :
    (s.arrive e).mirror.window = s.mirror.window ++ [{ e with arrival := s.mirror.arrivals }] ∧
    (s.arrive e).mirror.arrivals = s.mirror.arrivals + 1 := by
  unfold State.arrive
  dsimp only
  rw [if_neg (Nat.not_lt.mpr hd)]
  unfold State.hold
  dsimp only
  rw [if_pos h, if_pos h, raise_mirror]
  exact ⟨rfl, rfl⟩

/-- The same for an event of this unit's own, whether or not it sends it on (R69). -/
theorem ownEvent_held (s : State) (e : Event) (hd : s.now ≤ e.due) (h : s.mirror.window.length < 4096) :
    (s.ownEvent e).mirror.window = s.mirror.window ++ [{ e with arrival := s.mirror.arrivals }] ∧
    (s.ownEvent e).mirror.arrivals = s.mirror.arrivals + 1 := by
  unfold State.ownEvent
  split
  · exact arrive_held (s.answer _ _ _) e hd h
  · exact arrive_held s e hd h

/-- With room in the window a logged event stands at its end. -/
theorem log_window (s : State) (code : Nat) (payload : List Int) (island : Nat) (esc fault : Bool)
    (input : Option Int) (h : s.mirror.window.length < 4096) :
    (s.log code payload island esc fault input).mirror.window =
      s.mirror.window ++ [s.event code payload island esc fault input] := by
  exact (ownEvent_held s _ (by dsimp only; omega) h).1

theorem log_arrivals (s : State) (code : Nat) (payload : List Int) (island : Nat) (esc fault : Bool)
    (input : Option Int) (h : s.mirror.window.length < 4096) :
    (s.log code payload island esc fault input).mirror.arrivals = s.mirror.arrivals + 1 := by
  exact (ownEvent_held s _ (by dsimp only; omega) h).2

/-- With room in the window an event logged is seen there. -/
theorem log_logged (s u : State) (code : Nat) (payload : List Int) (island : Nat) (esc fault : Bool)
    (input : Option Int) (h : u.mirror.window.length < 4096) (ha : s.mirror.arrivals ≤ u.mirror.arrivals) :
    Logged s (u.log code payload island esc fault input) code payload :=
  ⟨u.event code payload island esc fault input, by rw [log_window _ _ _ _ _ _ _ h]; simp, rfl, rfl, ha⟩

/-- What was logged before stays while the window has room. -/
theorem Logged.log {s t : State} {code : Nat} {payload : List Int} (h : Logged s t code payload)
    (c : Nat) (p : List Int) (i : Nat) (e f : Bool) (n : Option Int) (r : t.mirror.window.length < 4096) :
    Logged s (t.log c p i e f n) code payload := by
  obtain ⟨x, hx, k⟩ := h
  exact ⟨x, by rw [log_window _ _ _ _ _ _ _ r]; exact List.mem_append_left _ hx, k⟩

theorem Logged.of_mirror {s t u : State} {code : Nat} {payload : List Int} (h : Logged s t code payload)
    (e : u.mirror = t.mirror) : Logged s u code payload := by
  obtain ⟨x, hx, k⟩ := h
  exact ⟨x, by rw [e]; exact hx, k⟩

/-- The power die's event while the core lives. -/
theorem pdLog_alive (s : State) (code : Nat) (payload : List Int) (fault : Bool) (h : s.ls.dead = false) :
    s.pdLog code payload fault = s.log code payload 8 false fault := by
  unfold State.pdLog
  rw [h]
  rfl

/-- An event with a hold-off, when nothing held it off. -/
theorem logOnce_first (s : State) (code scope period : Nat) (payload : List Int) (island : Nat) (fault : Bool)
    (h : s.mayLog code scope period = true) :
    s.logOnce code scope period payload island fault =
      State.log { s with mirror := { s.mirror with
        holdoffs := ins s.mirror.holdoffs (code * 2 ^ 40 + scope) s.now } } code payload island false fault := by
  unfold State.logOnce
  rw [h]
  rfl

/-! ### Answers -/

theorem reply_self (s : State) (c : Nat) (l : List Int) : s.reply 0 c l = s := rfl

/-- A frame sent is among those that leave, whatever its class (12 R436). -/
theorem sendFrame_mem (l : List Answer) (a : Answer) : a ∈ sendFrame l a := by
  unfold sendFrame
  split <;> simp

theorem answer_sent (s : State) (d : Dest) (c : Nat) (l : List Int) : Sent (s.answer d c l) d c l :=
  ⟨_, sendFrame_mem _ _, rfl, rfl, rfl⟩

/-- An open session gets its answer. -/
theorem reply_sent (s : State) (n c : Nat) (l : List Int) (hn : n ≠ 0)
    (h : s.ses.open_.any (fun p => p.2.num = n) = true) : Sent (s.reply n c l) (.session n) c l := by
  unfold State.reply Sent
  rw [if_neg hn, if_pos h]
  exact answer_sent s _ c l

end Sys2Proof.Machine
end

