-- ==== Sys2Proof/Laws/Calculus.lean ====
section
/-! SUPPORT. The calculus of `RegsKept` and `RegsExact`: which registers an operation leaves alone, composed along a
meaning one operation at a time. -/

namespace Sys2Proof.Machine

theorem RegsExact.rfl' (l : List Nat) (s : State) : RegsExact l s s := fun _ _ => rfl

theorem RegsExact.trans {l : List Nat} {s t u : State} (h : RegsExact l s t) (k : RegsExact l t u) :
    RegsExact l s u := fun x hx => (k x hx).trans (h x hx)

theorem RegsExact.of_reg {l : List Nat} {s t : State} (h : t.reg = s.reg) : RegsExact l s t :=
  fun x _ => rd_of_reg h x

theorem RegsKept.of_exact {l : List Nat} {s t : State} (h : RegsExact l s t) : RegsKept l s t := fun x hx _ => h x hx

theorem RegsKept.upd {l : List Nat} {s x : State} {v0 v1 v2 v3 v4 v5 v6 v7 v8 v9 v10 v11 v12 v13 v14 v15 v16 v17 v18 v19 v20
    v21 v22 v23 v24 v25 v26 v27 v28 v29 v30 v31 v32 v33 v34 v35 v36 v37 v38 v39 v40}
    (h : RegsKept l s x) :
    RegsKept l s (State.mk v0 v1 v2 x.reg v3 v4 v5 v6 v7 v8 v9 v10 v11 v12 v13 v14 v15 v16 v17 v18 v19 v20 v21 v22
      v23 v24 v25 v26 v27 v28 v29 v30 v31 v32 v33 v34 v35 v36 v37 v38 v39 v40) := h.trans (RegsKept.of_reg rfl)

theorem RegsExact.upd {l : List Nat} {s x : State} {v0 v1 v2 v3 v4 v5 v6 v7 v8 v9 v10 v11 v12 v13 v14 v15 v16 v17 v18 v19 v20
    v21 v22 v23 v24 v25 v26 v27 v28 v29 v30 v31 v32 v33 v34 v35 v36 v37 v38 v39 v40}
    (h : RegsExact l s x) :
    RegsExact l s (State.mk v0 v1 v2 x.reg v3 v4 v5 v6 v7 v8 v9 v10 v11 v12 v13 v14 v15 v16 v17 v18 v19 v20 v21 v22
      v23 v24 v25 v26 v27 v28 v29 v30 v31 v32 v33 v34 v35 v36 v37 v38 v39 v40) := h.trans (RegsExact.of_reg rfl)

theorem RegsExact.wr {l : List Nat} {s u : State} (k v : Nat) (h : k ∈ l) (h2 : RegsExact l s u) :
    RegsExact l s (u.wr k v) := by
  intro x hx
  rw [rd_wr_ne u v (fun e => hx (by rw [← e]; exact h))]; exact h2 x hx

theorem RegsExact.wrs {l : List Nat} {s u : State} (e : List (Nat × Nat)) (h : ∀ x ∈ e, x.1 ∈ l) (h2 : RegsExact l s u) :
    RegsExact l s (u.wrs e) := by
  intro x hx
  rw [rd_wrs_ne u e x (fun y hy he => hx (by rw [← he]; exact h y hy))]; exact h2 x hx

theorem RegsKept.wr' {l : List Nat} {s u : State} (k v : Nat) (h : k ∈ l) (h2 : RegsKept l s u) :
    RegsKept l s (u.wr k v) := h2.trans (RegsKept.wr _ _ _ (Or.inl h))

theorem RegsKept.wrs' {l : List Nat} {s u : State} (e : List (Nat × Nat)) (h : ∀ x ∈ e, x.1 ∈ l) (h2 : RegsKept l s u) :
    RegsKept l s (u.wrs e) := h2.trans (RegsKept.wrs _ _ (fun x hx => Or.inl (h x hx)))

theorem RegsKept.bump' {l : List Nat} {s u : State} (k v : Nat) (h : k ∈ l) (h2 : RegsKept l s u) :
    RegsKept l s (u.bump k v) := h2.trans (RegsKept.bump _ _ _ (Or.inl h))

theorem RegsKept.raise' {l : List Nat} {s u : State} (k v : Nat) (h : k ∈ l) (h2 : RegsKept l s u) :
    RegsKept l s (u.raise k v) := h2.trans (RegsKept.raise _ _ _ (Or.inl h))

theorem RegsExact.bump' {l : List Nat} {s u : State} (k v : Nat) (h : k ∈ l) (h2 : RegsExact l s u) :
    RegsExact l s (u.bump k v) := RegsExact.wr _ _ h h2

theorem RegsExact.raise' {l : List Nat} {s u : State} (k v : Nat) (h : k ∈ l) (h2 : RegsExact l s u) :
    RegsExact l s (u.raise k v) := by
  unfold State.raise
  split
  · exact RegsExact.wr _ _ h h2
  · exact h2

theorem RegsKept.log' {l : List Nat} {s u : State} (c : Nat) (p : List Int) (i : Nat) (e f : Bool)
    (n : Option Int) (h2 : RegsKept l s u) :
    RegsKept l s (u.log c p i e f n) := (log_regs _ _ _ _ _ _ _).next (by simp) h2

theorem RegsKept.logOnce' {l : List Nat} {s u : State} (c sc pe p i f) (h2 : RegsKept l s u) :
    RegsKept l s (u.logOnce c sc pe p i f) := (logOnce_regs _ _ _ _ _ _ _).next (by simp) h2

theorem RegsKept.pdLog' {l : List Nat} {s u : State} (c p f) (h2 : RegsKept l s u) :
    RegsKept l s (u.pdLog c p f) := (pdLog_regs _ _ _ _).next (by simp) h2

theorem RegsKept.pdLogOnce' {l : List Nat} {s u : State} (c sc pe p f) (h2 : RegsKept l s u) :
    RegsKept l s (u.pdLogOnce c sc pe p f) := (pdLogOnce_regs _ _ _ _ _ _).next (by simp) h2

theorem RegsKept.bbPush' {l : List Nat} {s u : State} (i) (h2 : RegsKept l s u) :
    RegsKept l s (u.bbPush i) := (bbPush_regs _ _).next (by simp) h2

theorem RegsKept.answer' {l : List Nat} {s u : State} (c p i) (h2 : RegsKept l s u) :
    RegsKept l s (u.answer c p i) := h2.trans (RegsKept.of_reg rfl)

theorem RegsExact.answer' {l : List Nat} {s u : State} (c p i) (h2 : RegsExact l s u) :
    RegsExact l s (u.answer c p i) := h2.trans (RegsExact.of_reg rfl)

theorem RegsKept.begin' {l : List Nat} {s u : State} (c) (h2 : RegsKept l s u) :
    RegsKept l s (u.begin c) := h2.trans (RegsKept.of_reg rfl)

theorem RegsExact.begin' {l : List Nat} {s u : State} (c) (h2 : RegsExact l s u) :
    RegsExact l s (u.begin c) := h2.trans (RegsExact.of_reg rfl)

theorem RegsKept.reply' {l : List Nat} {s u : State} (c p i) (h2 : RegsKept l s u) :
    RegsKept l s (u.reply c p i) := fun x hx hs => (rd_reply ..).trans (h2 x hx hs)

theorem RegsExact.reply' {l : List Nat} {s u : State} (c p i) (h2 : RegsExact l s u) :
    RegsExact l s (u.reply c p i) := fun x hx => (rd_reply ..).trans (h2 x hx)

end Sys2Proof.Machine
end

