-- ==== Sys2Proof/Laws/DriveOps.lean ====
section
/-! SUPPORT. What each shared operation may change: valves, switches, CAN, functions, the board. One lemma per operation: the parts
of the state outside its list are unchanged, and the bounds are kept. -/

namespace Sys2Proof.Machine

theorem State.setBank_follows (s : State) (b : Nat) (v : BankS) :
    Follows [.reg, .vd] s (State.setBank s b v) := by
  unfold State.setBank
  refine Follows.next (State.wr_follows _ _ _) (by decide) ?_
  refine Follows.upd ⟨?_, ?_⟩ ?_
  · intro p hp; cases p <;> first | exact absurd (by decide) hp | rfl
  · exact fun h => ⟨h.mem, h.window, h.records, h.gate, h.sessions, h.amend, h.held, h.stamps⟩
  exact Follows.rfl' _ _

theorem State.unqueue_follows (s : State) (ch : Nat) :
    Follows [.reg, .vd] s (State.unqueue s ch) := by
  unfold State.unqueue
  extract_lets +onlyGivenNames x0
  extract_lets +onlyGivenNames x1
  refine Follows.ite ?_ ?_
  intro a2
  refine Follows.next (State.setBank_follows _ _ _) (by decide) ?_
  exact Follows.rfl' _ _
  intro a3
  exact Follows.rfl' _ _

theorem State.setValve_follows (s : State) (ch : Nat) (v : ValveS) :
    Follows [.vd] s (State.setValve s ch v) := by
  unfold State.setValve
  refine Follows.upd ⟨?_, ?_⟩ ?_
  · intro p hp; cases p <;> first | exact absurd (by decide) hp | rfl
  · exact fun h => ⟨h.mem, h.window, h.records, h.gate, h.sessions, h.amend, h.held, h.stamps⟩
  exact Follows.rfl' _ _

theorem State.setPhase_follows (s : State) (ch : Nat) (p : Nat) :
    Follows [.reg, .vd] s (State.setPhase s ch p) := by
  unfold State.setPhase
  extract_lets +onlyGivenNames x0
  extract_lets +onlyGivenNames x1
  refine Follows.next (State.wr_follows _ _ _) (by decide) ?_
  refine Follows.next (State.setValve_follows _ _ _) (by decide) ?_
  exact Follows.rfl' _ _

theorem State.setSide_follows (s : State) (b : Nat) (side : Nat) :
    Follows [.reg, .answers, .vd] s (State.setSide s b side) := by
  unfold State.setSide
  extract_lets +onlyGivenNames x0
  refine Follows.ite ?_ ?_
  intro a1
  exact Follows.rfl' _ _
  intro a2
  refine Follows.next (State.answer_follows _ _ _ _) (by decide) ?_
  refine Follows.next (State.setBank_follows _ _ _) (by decide) ?_
  exact Follows.rfl' _ _

theorem State.startBoost_follows (s : State) (r : BoostReq) :
    Follows [.reg, .answers, .vd] s (State.startBoost s r) := by
  unfold State.startBoost
  extract_lets +onlyGivenNames x0
  extract_lets +onlyGivenNames x1
  extract_lets +onlyGivenNames x2
  have h2 : Follows [.reg, .answers, .vd] s x2 := by
    unfold x2
    refine Follows.next (State.setSide_follows _ _ _) (by decide) ?_
    refine Follows.next (State.setPhase_follows _ _ _) (by decide) ?_
    exact Follows.rfl' _ _
  clear_value x2
  refine Follows.next (State.answer_follows _ _ _ _) (by decide) ?_
  refine Follows.next (State.wrs_follows _ _) (by decide) ?_
  refine Follows.next (State.setValve_follows _ _ _) (by decide) ?_
  assumption

theorem State.startWaited_follows (s : State) (r : BoostReq) :
    Follows [.reg, .answers, .mirror, .vd, .ls, .ses, .bb] s (State.startWaited s r) := by
  unfold State.startWaited
  extract_lets +onlyGivenNames x0
  extract_lets +onlyGivenNames x1
  refine Follows.next (State.pdLog_follows _ _ _ _) (by decide) ?_
  refine Follows.next (State.raise_follows _ _ _) (by decide) ?_
  refine Follows.next (State.bump_follows _ _ _) (by decide) ?_
  refine Follows.next (State.startBoost_follows _ _) (by decide) ?_
  exact Follows.rfl' _ _

theorem State.railLow_follows (s : State) (b : Nat) :
    Follows [.reg, .answers, .mirror, .ls, .ses, .bb] s (State.railLow s b) := by
  unfold State.railLow
  refine Follows.next (State.pdLogOnce_follows _ _ _ _ _ _) (by decide) ?_
  exact Follows.rfl' _ _

theorem State.serveBank_follows (s : State) (b : Nat) :
    Follows [.reg, .answers, .mirror, .vd, .ls, .ses, .bb] s (State.serveBank s b) := by
  unfold State.serveBank
  refine Follows.ite ?_ ?_
  intro a0
  exact Follows.rfl' _ _
  intro a1
  split
  exact Follows.rfl' _ _
  refine Follows.ite ?_ ?_
  intro a2
  refine Follows.next (State.startWaited_follows _ _) (by decide) ?_
  refine Follows.next (State.setBank_follows _ _ _) (by decide) ?_
  exact Follows.rfl' _ _
  intro a3
  refine Follows.next (State.railLow_follows _ _) (by decide) ?_
  exact Follows.rfl' _ _

theorem State.endBoost_follows (s : State) (ch : Nat) :
    Follows [.reg, .answers, .mirror, .vd, .ls, .ses, .bb] s (State.endBoost s ch) := by
  unfold State.endBoost
  extract_lets +onlyGivenNames x0
  refine Follows.ite ?_ ?_
  intro a1
  exact Follows.rfl' _ _
  intro a2
  extract_lets +onlyGivenNames x3
  have h3 : Follows [.reg, .answers, .mirror, .vd, .ls, .ses, .bb] s x3 := by
    unfold x3
    refine Follows.next (State.serveBank_follows _ _) (by decide) ?_
    refine Follows.next (State.wr_follows _ _ _) (by decide) ?_
    exact Follows.rfl' _ _
  clear_value x3
  refine Follows.ite ?_ ?_
  intro a4
  refine Follows.next (State.setSide_follows _ _ _) (by decide) ?_
  assumption
  intro a5
  assumption

theorem State.valveOff_follows (s : State) (ch : Nat) (fast : Bool) :
    Follows [.reg, .answers, .mirror, .vd, .ls, .ses, .bb] s (State.valveOff s ch fast) := by
  unfold State.valveOff
  extract_lets +onlyGivenNames x0
  extract_lets +onlyGivenNames x1
  extract_lets +onlyGivenNames x2
  have h2 : Follows [.reg, .answers, .mirror, .vd, .ls, .ses, .bb] s x2 := by
    unfold x2
    refine Follows.next (State.unqueue_follows _ _) (by decide) ?_
    exact Follows.rfl' _ _
  clear_value x2
  extract_lets +onlyGivenNames x3
  extract_lets +onlyGivenNames x4
  have h4 : Follows [.reg, .answers, .mirror, .vd, .ls, .ses, .bb] s x4 := by
    unfold x4
    refine Follows.next (State.setValve_follows _ _ _) (by decide) ?_
    assumption
  clear_value x4
  extract_lets +onlyGivenNames x5
  have h5 : Follows [.reg, .answers, .mirror, .vd, .ls, .ses, .bb] s x5 := by
    unfold x5
    refine Follows.ite ?_ ?_
    intro a6
    assumption
    intro a7
    refine Follows.next (State.setPhase_follows _ _ _) (by decide) ?_
    assumption
  clear_value x5
  refine Follows.next (State.endBoost_follows _ _) (by decide) ?_
  refine Follows.next (State.answer_follows _ _ _ _) (by decide) ?_
  refine Follows.next (State.wr_follows _ _ _) (by decide) ?_
  assumption

theorem State.unwait_follows (s : State) (ch : Nat) :
    Follows [.reg] s (State.unwait s ch) := by
  unfold State.unwait
  refine Follows.next (State.wr_follows _ _ _) (by decide) ?_
  exact Follows.rfl' _ _

theorem State.dropBoosts_follows (s : State) :
    Follows [.reg, .vd] s (State.dropBoosts s) := by
  unfold State.dropBoosts
  refine Follows.foldl _ ?_ ?_
  exact Follows.rfl' _ _
  intro a0 a1
  extract_lets +onlyGivenNames x2
  extract_lets +onlyGivenNames x3
  extract_lets +onlyGivenNames x4
  have h4 : Follows [.reg, .vd] a0 x4 := by
    unfold x4
    refine Follows.next (State.setBank_follows _ _ _) (by decide) ?_
    exact Follows.rfl' _ _
  clear_value x4
  refine Follows.foldl _ ?_ ?_
  assumption
  intro a5 a6
  refine Follows.next (State.unwait_follows _ _) (by decide) ?_
  exact Follows.rfl' _ _

theorem State.thermosValves_follows (s : State) :
    Follows [.reg, .answers, .mirror, .vd, .ls, .ses, .bb] s (State.thermosValves s) := by
  unfold State.thermosValves
  refine Follows.foldl _ ?_ ?_
  refine Follows.next (State.dropBoosts_follows _) (by decide) ?_
  exact Follows.rfl' _ _
  intro a0 a1
  refine Follows.ite ?_ ?_
  intro a2
  exact Follows.rfl' _ _
  intro a3
  refine Follows.next (State.valveOff_follows _ _ _) (by decide) ?_
  exact Follows.rfl' _ _

theorem State.showTw_follows (s : State) (ch : Nat) :
    Follows [.reg] s (State.showTw s ch) := by
  unfold State.showTw
  refine Follows.next (State.wr_follows _ _ _) (by decide) ?_
  exact Follows.rfl' _ _

theorem State.startCoils_follows (s : State) (tmod : Rat) :
    Follows [.reg, .vd] s (State.startCoils s tmod) := by
  unfold State.startCoils
  refine Follows.foldl _ ?_ ?_
  exact Follows.rfl' _ _
  intro a0 a1
  refine Follows.ite ?_ ?_
  intro a2
  exact Follows.rfl' _ _
  intro a3
  extract_lets +onlyGivenNames x4
  refine Follows.next (State.showTw_follows _ _) (by decide) ?_
  refine Follows.next (State.wr_follows _ _ _) (by decide) ?_
  refine Follows.next (State.setValve_follows _ _ _) (by decide) ?_
  exact Follows.rfl' _ _

theorem State.endValveReset_follows (s : State) (ch : Nat) :
    Follows [.reg, .vd, .ls] s (State.endValveReset s ch) := by
  unfold State.endValveReset
  refine Follows.next (State.wr_follows _ _ _) (by decide) ?_
  refine Follows.next (State.setValve_follows _ _ _) (by decide) ?_
  refine Follows.next (State.pdCommand_follows _) (by decide) ?_
  exact Follows.rfl' _ _

theorem State.regulate_follows (s : State) (ch : Nat) (phase : Nat) (ma : Nat) :
    Follows [.reg, .vd] s (State.regulate s ch phase ma) := by
  unfold State.regulate
  extract_lets +onlyGivenNames x0
  have h0 : Follows [.reg, .vd] s x0 := by
    unfold x0
    refine Follows.next (State.setPhase_follows _ _ _) (by decide) ?_
    exact Follows.rfl' _ _
  clear_value x0
  refine Follows.next (State.wr_follows _ _ _) (by decide) ?_
  refine Follows.next (State.setValve_follows _ _ _) (by decide) ?_
  assumption

theorem State.rampValve_follows (s : State) (ch : Nat) :
    Follows [.reg, .answers, .mirror, .vd, .ls, .ses, .bb] s (State.rampValve s ch) := by
  unfold State.rampValve
  extract_lets +onlyGivenNames x0
  extract_lets +onlyGivenNames x1
  refine Follows.ite ?_ ?_
  intro a2
  exact Follows.rfl' _ _
  intro a3
  refine Follows.ite ?_ ?_
  intro a4
  refine Follows.next (State.valveOff_follows _ _ _) (by decide) ?_
  exact Follows.rfl' _ _
  intro a5
  extract_lets +onlyGivenNames x6
  have h6 : Follows [.reg, .answers, .mirror, .vd, .ls, .ses, .bb] s x6 := by
    unfold x6
    refine Follows.next (State.regulate_follows _ _ _ _) (by decide) ?_
    refine Follows.next (State.unqueue_follows _ _) (by decide) ?_
    exact Follows.rfl' _ _
  clear_value x6
  refine Follows.next (State.endBoost_follows _ _) (by decide) ?_
  refine Follows.next (State.setValve_follows _ _ _) (by decide) ?_
  assumption

theorem State.walkValve_follows (s : State) (ch : Nat) :
    Follows [.reg, .answers, .mirror, .vd, .ls, .ses, .bb] s (State.walkValve s ch) := by
  unfold State.walkValve
  split
  refine Follows.next (State.rampValve_follows _ _) (by decide) ?_
  exact Follows.rfl' _ _
  refine Follows.ite ?_ ?_
  intro a0
  refine Follows.next (State.rampValve_follows _ _) (by decide) ?_
  exact Follows.rfl' _ _
  intro a1
  refine Follows.ite ?_ ?_
  intro a2
  refine Follows.next (State.endBoost_follows _ _) (by decide) ?_
  refine Follows.next (State.regulate_follows _ _ _ _) (by decide) ?_
  refine Follows.next (State.unqueue_follows _ _) (by decide) ?_
  exact Follows.rfl' _ _
  intro a3
  refine Follows.next (State.valveOff_follows _ _ _) (by decide) ?_
  exact Follows.rfl' _ _

theorem State.resetValve_follows (s : State) (ch : Nat) :
    Follows [.reg, .answers, .mirror, .vd, .ls, .ses, .bb] s (State.resetValve s ch) := by
  unfold State.resetValve
  refine Follows.ite ?_ ?_
  intro a0
  exact Follows.rfl' _ _
  intro a1
  extract_lets +onlyGivenNames x2
  extract_lets +onlyGivenNames x3
  extract_lets +onlyGivenNames x4
  have h4 : Follows [.reg, .answers, .mirror, .vd, .ls, .ses, .bb] s x4 := by
    unfold x4
    refine Follows.next (State.wr_follows _ _ _) (by decide) ?_
    refine Follows.next (State.setValve_follows _ _ _) (by decide) ?_
    exact Follows.rfl' _ _
  clear_value x4
  refine Follows.ite ?_ ?_
  intro a5
  assumption
  intro a6
  refine Follows.ite ?_ ?_
  intro a7
  refine Follows.next (State.rampValve_follows _ _) (by decide) ?_
  assumption
  intro a8
  refine Follows.next (State.walkValve_follows _ _) (by decide) ?_
  assumption

theorem State.resetValves_follows (s : State) (scope : Nat) :
    Follows [.reg, .answers, .mirror, .vd, .ls, .ses, .bb] s (State.resetValves s scope) := by
  unfold State.resetValves
  extract_lets +onlyGivenNames x0
  have h0 : Follows [.reg, .answers, .mirror, .vd, .ls, .ses, .bb] s x0 := by
    unfold x0
    refine Follows.next (State.dropBoosts_follows _) (by decide) ?_
    exact Follows.rfl' _ _
  clear_value x0
  extract_lets +onlyGivenNames x1
  refine Follows.foldl _ ?_ ?_
  refine Follows.next (State.pdLog_follows _ _ _ _) (by decide) ?_
  assumption
  intro a2 a3
  refine Follows.next (State.resetValve_follows _ _) (by decide) ?_
  exact Follows.rfl' _ _

theorem State.placeBoost_follows (s : State) (r : BoostReq) :
    Follows [.reg, .answers, .mirror, .vd, .ls, .ses, .bb] s (State.placeBoost s r) := by
  unfold State.placeBoost
  extract_lets +onlyGivenNames x0
  extract_lets +onlyGivenNames x1
  refine Follows.ite ?_ ?_
  intro a2
  extract_lets +onlyGivenNames x3
  refine Follows.next (State.startBoost_follows _ _) (by decide) ?_
  refine Follows.next (State.setBank_follows _ _ _) (by decide) ?_
  exact Follows.rfl' _ _
  intro a4
  refine Follows.ite ?_ ?_
  intro a5
  refine Follows.next (State.pdLog_follows _ _ _ _) (by decide) ?_
  refine Follows.next (State.bump_follows _ _ _) (by decide) ?_
  exact Follows.rfl' _ _
  intro a6
  extract_lets +onlyGivenNames x7
  have h7 : Follows [.reg, .answers, .mirror, .vd, .ls, .ses, .bb] s x7 := by
    unfold x7
    refine Follows.next (State.setBank_follows _ _ _) (by decide) ?_
    refine Follows.next (State.setPhase_follows _ _ _) (by decide) ?_
    exact Follows.rfl' _ _
  clear_value x7
  refine Follows.ite ?_ ?_
  intro a8
  refine Follows.next (State.railLow_follows _ _) (by decide) ?_
  assumption
  intro a9
  assumption

theorem State.stepRamp_follows (s : State) (ch : Nat) :
    Follows [.reg, .answers, .mirror, .vd, .ls, .ses, .bb] s (State.stepRamp s ch) := by
  unfold State.stepRamp
  split
  split
  refine Follows.next (State.wr_follows _ _ _) (by decide) ?_
  exact Follows.rfl' _ _
  exact Follows.rfl' _ _
  extract_lets +onlyGivenNames x0
  refine Follows.ite ?_ ?_
  intro a1
  refine Follows.next (State.valveOff_follows _ _ _) (by decide) ?_
  exact Follows.rfl' _ _
  intro a2
  refine Follows.next (State.wr_follows _ _ _) (by decide) ?_
  exact Follows.rfl' _ _

theorem State.setRail_follows (s : State) (b : Nat) (rail : Nat) :
    Follows [.vd] s (State.setRail s b rail) := by
  unfold State.setRail
  refine Follows.upd ⟨?_, ?_⟩ ?_
  · intro p hp; cases p <;> first | exact absurd (by decide) hp | rfl
  · exact fun h => ⟨h.mem, h.window, h.records, h.gate, h.sessions, h.amend, h.held, h.stamps⟩
  exact Follows.rfl' _ _

theorem State.enterHold_follows (s : State) (ch : Nat) :
    Follows [.reg, .answers, .mirror, .vd, .ls, .ses, .bb] s (State.enterHold s ch) := by
  unfold State.enterHold
  refine Follows.next (State.endBoost_follows _ _) (by decide) ?_
  refine Follows.next (State.regulate_follows _ _ _ _) (by decide) ?_
  exact Follows.rfl' _ _

theorem State.setActPhase_follows (s : State) (ch : Nat) (p : Nat) :
    Follows [.reg, .vd] s (State.setActPhase s ch p) := by
  unfold State.setActPhase
  refine Follows.ite ?_ ?_
  intro a0
  refine Follows.next (State.setValve_follows _ _ _) (by decide) ?_
  exact Follows.rfl' _ _
  intro a1
  refine Follows.next (State.setPhase_follows _ _ _) (by decide) ?_
  exact Follows.rfl' _ _

theorem State.clearValve_follows (s : State) (ch : Nat) :
    Follows [.reg, .answers, .vd, .bb] s (State.clearValve s ch) := by
  unfold State.clearValve
  extract_lets +onlyGivenNames x0
  extract_lets +onlyGivenNames x1
  extract_lets +onlyGivenNames x2
  have h2 : Follows [.reg, .answers, .vd, .bb] s x2 := by
    unfold x2
    refine Follows.next (State.setValve_follows _ _ _) (by decide) ?_
    exact Follows.rfl' _ _
  clear_value x2
  extract_lets +onlyGivenNames x3
  extract_lets +onlyGivenNames x4
  have h4 : Follows [.reg, .answers, .vd, .bb] s x4 := by
    unfold x4
    refine Follows.ite ?_ ?_
    intro a5
    refine Follows.next (State.setSide_follows _ _ _) (by decide) ?_
    refine Follows.next (State.setBank_follows _ _ _) (by decide) ?_
    assumption
    intro a6
    assumption
  clear_value x4
  extract_lets +onlyGivenNames x7
  have h7 : Follows [.reg, .answers, .vd, .bb] s x7 := by
    unfold x7
    refine Follows.next (State.dtcOff_follows _ _) (by decide) ?_
    assumption
  clear_value x7
  refine Follows.ite ?_ ?_
  intro a8
  assumption
  intro a9
  refine Follows.next (State.wr_follows _ _ _) (by decide) ?_
  refine Follows.next (State.setPhase_follows _ _ _) (by decide) ?_
  assumption

theorem State.latchValve_follows (s : State) (ch : Nat) (fault : Nat) :
    Follows [.reg, .answers, .mirror, .vd, .ls, .ses, .bb] s (State.latchValve s ch fault) := by
  unfold State.latchValve
  extract_lets +onlyGivenNames x0
  have h0 : Follows [.reg, .answers, .mirror, .vd, .ls, .ses, .bb] s x0 := by
    unfold x0
    refine Follows.next (State.unqueue_follows _ _) (by decide) ?_
    exact Follows.rfl' _ _
  clear_value x0
  extract_lets +onlyGivenNames x1
  extract_lets +onlyGivenNames x2
  have h2 : Follows [.reg, .answers, .mirror, .vd, .ls, .ses, .bb] s x2 := by
    unfold x2
    refine Follows.next (State.setValve_follows _ _ _) (by decide) ?_
    assumption
  clear_value x2
  refine Follows.next (State.endBoost_follows _ _) (by decide) ?_
  refine Follows.next (State.answer_follows _ _ _ _) (by decide) ?_
  refine Follows.next (State.wrs_follows _ _) (by decide) ?_
  refine Follows.next (State.setPhase_follows _ _ _) (by decide) ?_
  assumption

theorem State.takeBack_follows (s : State) (p : BoostPrior) :
    Follows [.reg, .answers, .vd] s (State.takeBack s p) := by
  unfold State.takeBack
  extract_lets +onlyGivenNames x0
  refine Follows.next (State.setSide_follows _ _ _) (by decide) ?_
  refine Follows.next (State.wrs_follows _ _) (by decide) ?_
  refine Follows.next (State.setValve_follows _ _ _) (by decide) ?_
  exact Follows.rfl' _ _

theorem State.requestBoost_follows (s : State) (ch p hold key : Nat) :
    Follows [.reg, .answers, .mirror, .vd, .ls, .ses, .bb] s (State.requestBoost s ch p hold key) := by
  unfold State.requestBoost
  extract_lets +onlyGivenNames b r k
  refine Follows.ite (fun _ => Follows.next (State.startBoost_follows _ _) (by decide) (Follows.rfl' _ _)) (fun _ => ?_)
  refine Follows.ite (fun _ => Follows.next (State.setBank_follows _ _ _) (by decide) (Follows.rfl' _ _)) (fun _ => ?_)
  extract_lets own later s1 s2
  have h1 : Follows [.reg, .answers, .mirror, .vd, .ls, .ses, .bb] s s1 := by
    unfold s1
    clear_value own
    split
    · exact Follows.next (State.takeBack_follows _ _) (by decide) (Follows.rfl' _ _)
    · exact Follows.rfl' _ _
  clear_value s1
  have h2 : Follows [.reg, .answers, .mirror, .vd, .ls, .ses, .bb] s s2 := by
    unfold s2
    refine Follows.foldl _ h1 (fun u q => ?_)
    refine Follows.next (State.unwait_follows _ _) (by decide) ?_
    exact Follows.next (State.unqueue_follows _ _) (by decide) (Follows.rfl' _ _)
  clear_value s2
  refine Follows.foldl _ (Follows.next (State.placeBoost_follows _ _) (by decide) h2) (fun u q => ?_)
  exact Follows.next (State.placeBoost_follows _ _) (by decide) (Follows.rfl' _ _)

theorem State.startProfile_follows (s : State) (ch : Nat) (p : Nat) (cur : Nat) (key : Nat) :
    Follows [.reg, .answers, .mirror, .vd, .ls, .ses, .bb] s (State.startProfile s ch p cur key) := by
  unfold State.startProfile
  extract_lets +onlyGivenNames x0
  refine Follows.ite ?_ ?_
  intro a1
  refine Follows.next (State.requestBoost_follows _ _ _ _ _) (by decide) ?_
  exact Follows.rfl' _ _
  intro a2
  extract_lets +onlyGivenNames x3
  have h3 : Follows [.reg, .answers, .mirror, .vd, .ls, .ses, .bb] s x3 := by
    unfold x3
    refine Follows.next (State.unqueue_follows _ _) (by decide) ?_
    exact Follows.rfl' _ _
  clear_value x3
  refine Follows.next (State.enterHold_follows _ _) (by decide) ?_
  refine Follows.next (State.setValve_follows _ _ _) (by decide) ?_
  assumption

theorem State.showSwitch_follows (s : State) (n : Nat) :
    Follows [.reg] s (State.showSwitch s n) := by
  unfold State.showSwitch
  extract_lets +onlyGivenNames x0
  extract_lets +onlyGivenNames x1
  refine Follows.next (State.wrs_follows _ _) (by decide) ?_
  exact Follows.rfl' _ _

theorem State.switchTimed_follows (s : State) :
    Follows [.reg] s (State.switchTimed s) := by
  unfold State.switchTimed
  refine Follows.foldl _ ?_ ?_
  exact Follows.rfl' _ _
  intro a0 a1
  refine Follows.next (State.showSwitch_follows _ _) (by decide) ?_
  exact Follows.rfl' _ _

theorem State.compareCopy_follows (s : State) :
    Follows [.reg, .answers, .mirror, .ls, .ses, .bb] s (State.compareCopy s) := by
  unfold State.compareCopy
  extract_lets +onlyGivenNames x0
  refine Follows.ite ?_ ?_
  intro a1
  refine Follows.next (State.wr_follows _ _ _) (by decide) ?_
  exact Follows.rfl' _ _
  intro a2
  refine Follows.next (State.pdLog_follows _ _ _ _) (by decide) ?_
  refine Follows.next (State.wr_follows _ _ _) (by decide) ?_
  refine Follows.upd ⟨?_, ?_⟩ ?_
  · intro p hp; cases p <;> first | exact absurd (by decide) hp | rfl
  · exact fun h => ⟨h.mem, h.window, h.records, h.gate, h.sessions, h.amend, h.held, h.stamps⟩
  exact Follows.rfl' _ _

theorem State.setSw_follows (s : State) (n : Nat) (v : SwitchS) :
    Follows [.ls] s (State.setSw s n v) := by
  unfold State.setSw
  refine Follows.upd ⟨?_, ?_⟩ ?_
  · intro p hp; cases p <;> first | exact absurd (by decide) hp | rfl
  · exact fun h => ⟨h.mem, h.window, h.records, h.gate, h.sessions, h.amend, h.held, h.stamps⟩
  exact Follows.rfl' _ _

theorem State.turnOff_follows (s : State) (n : Nat) (mj : Nat) :
    Follows [.reg, .answers, .mirror, .ls, .ses, .bb] s (State.turnOff s n mj).1 := by
  unfold State.turnOff
  dsimp only
  split
  dsimp only
  refine Follows.next (State.pdLog_follows _ _ _ _) (by decide) ?_
  refine Follows.next (State.setSw_follows _ _ _) (by decide) ?_
  refine Follows.next (State.wr_follows _ _ _) (by decide) ?_
  refine Follows.next (State.setSw_follows _ _ _) (by decide) ?_
  exact Follows.rfl' _ _
  dsimp only
  refine Follows.next (State.wr_follows _ _ _) (by decide) ?_
  refine Follows.next (State.setSw_follows _ _ _) (by decide) ?_
  exact Follows.rfl' _ _

theorem State.applySwitch_follows (s : State) (n : Nat) (mj : Nat) :
    Follows [.reg, .answers, .mirror, .ls, .ses, .bb] s (State.applySwitch s n mj).1 := by
  unfold State.applySwitch
  dsimp only
  split
  dsimp only
  refine Follows.next (State.showSwitch_follows _ _) (by decide) ?_
  refine Follows.next (State.turnOff_follows _ _ _) (by decide) ?_
  refine Follows.ite ?_ ?_
  intro a0
  refine Follows.upd ⟨?_, ?_⟩ ?_
  · intro p hp; cases p <;> first | exact absurd (by decide) hp | rfl
  · exact fun h => ⟨h.mem, h.window, h.records, h.gate, h.sessions, h.amend, h.held, h.stamps⟩
  exact Follows.rfl' _ _
  intro a1
  exact Follows.rfl' _ _
  dsimp only
  refine Follows.next (State.showSwitch_follows _ _) (by decide) ?_
  refine Follows.next (State.setSw_follows _ _ _) (by decide) ?_
  refine Follows.ite ?_ ?_
  intro a2
  refine Follows.upd ⟨?_, ?_⟩ ?_
  · intro p hp; cases p <;> first | exact absurd (by decide) hp | rfl
  · exact fun h => ⟨h.mem, h.window, h.records, h.gate, h.sessions, h.amend, h.held, h.stamps⟩
  exact Follows.rfl' _ _
  intro a3
  exact Follows.rfl' _ _

theorem State.applySwitches_follows (s : State) (clamps : List (Nat × Nat)) :
    Follows [.reg, .answers, .mirror, .ls, .ses, .bb] s (State.applySwitches s clamps).1 := by
  unfold State.applySwitches
  refine Follows.foldl1 _ (Follows.rfl' _ _) ?_
  intro q n
  have h := State.applySwitch_follows q.1 n (energyOf clamps n)
  revert h
  cases q.1.applySwitch n (energyOf clamps n)
  exact id

theorem State.resetSwitches_follows (s : State) (scope : Nat) :
    Follows [.reg, .answers, .mirror, .ls, .ses, .bb] s (State.resetSwitches s scope) := by
  unfold State.resetSwitches
  extract_lets +onlyGivenNames x0
  extract_lets +onlyGivenNames x1
  have h1 : Follows [.reg, .answers, .mirror, .ls, .ses, .bb] s x1 := by
    unfold x1
    refine Follows.next (State.pdLog_follows _ _ _ _) (by decide) ?_
    exact Follows.rfl' _ _
  clear_value x1
  extract_lets +onlyGivenNames x2
  extract_lets +onlyGivenNames x3
  extract_lets +onlyGivenNames x4
  have h4 : Follows [.reg, .answers, .mirror, .ls, .ses, .bb] s x4 := by
    unfold x4
    refine Follows.upd ⟨?_, ?_⟩ ?_
    · intro p hp; cases p <;> first | exact absurd (by decide) hp | rfl
    · exact fun h => ⟨h.mem, h.window, h.records, h.gate, h.sessions, h.amend, h.held, h.stamps⟩
    assumption
  clear_value x4
  refine Follows.foldl _ ?_ ?_
  assumption
  intro a5 a6
  refine Follows.next (State.showSwitch_follows _ _) (by decide) ?_
  refine Follows.next (State.setSw_follows _ _ _) (by decide) ?_
  exact Follows.rfl' _ _

theorem State.walkValves_follows (s : State) :
    Follows [.reg, .answers, .mirror, .vd, .ls, .ses, .bb] s (State.walkValves s) := by
  unfold State.walkValves
  refine Follows.foldl _ ?_ ?_
  exact Follows.rfl' _ _
  intro a0 a1
  refine Follows.ite ?_ ?_
  intro a2
  refine Follows.next (State.walkValve_follows _ _) (by decide) ?_
  exact Follows.rfl' _ _
  intro a3
  exact Follows.rfl' _ _

theorem State.clearSwitch_follows (s : State) (n : Nat) (mj : Nat) :
    Follows [.reg, .answers, .mirror, .ls, .ses, .bb] s (State.clearSwitch s n mj) := by
  unfold State.clearSwitch
  extract_lets +onlyGivenNames x0
  extract_lets +onlyGivenNames x1
  extract_lets +onlyGivenNames x2
  extract_lets +onlyGivenNames x3
  have h3 : Follows [.reg, .answers, .mirror, .ls, .ses, .bb] s x3 := by
    unfold x3
    refine Follows.next (State.setSw_follows _ _ _) (by decide) ?_
    exact Follows.rfl' _ _
  clear_value x3
  extract_lets +onlyGivenNames x4
  have h4 : Follows [.reg, .answers, .mirror, .ls, .ses, .bb] s x4 := by
    unfold x4
    refine Follows.next (State.dtcOff_follows _ _) (by decide) ?_
    assumption
  clear_value x4
  refine Follows.next (State.applySwitch_follows _ _ _) (by decide) ?_
  refine Follows.next (State.pdLog_follows _ _ _ _) (by decide) ?_
  assumption

theorem State.setCan_follows (s : State) (ch : Nat) (c : CanS) :
    Follows [.reg, .lk] s (State.setCan s ch c) := by
  unfold State.setCan
  refine Follows.next (State.wr_follows _ _ _) (by decide) ?_
  refine Follows.upd ⟨?_, ?_⟩ ?_
  · intro p hp; cases p <;> first | exact absurd (by decide) hp | rfl
  · exact fun h => ⟨h.mem, h.window, h.records, h.gate, h.sessions, h.amend, h.held, h.stamps⟩
  exact Follows.rfl' _ _

theorem State.enterFifo_follows (s : State) (ch : Nat) (f : FrameS) :
    Follows [.reg, .answers, .mirror, .lk, .ses, .bb] s (State.enterFifo s ch f) := by
  unfold State.enterFifo
  extract_lets +onlyGivenNames x0
  extract_lets +onlyGivenNames x1
  refine Follows.ite ?_ ?_
  intro a2
  exact Follows.rfl' _ _
  intro a3
  refine Follows.ite ?_ ?_
  intro a4
  refine Follows.next (State.logOnce_follows _ _ _ _ _ _ _) (by decide) ?_
  refine Follows.next (State.bump_follows _ _ _) (by decide) ?_
  exact Follows.rfl' _ _
  intro a5
  refine Follows.next (State.setCan_follows _ _ _) (by decide) ?_
  exact Follows.rfl' _ _

theorem State.feedStack_follows (s : State) (ch : Nat) (x1 : Nat) :
    Follows [.reg, .answers, .mirror, .lk, .ses, .bb] s (State.feedStack s ch x1) := by
  unfold State.feedStack
  split
  exact Follows.rfl' _ _
  split
  exact Follows.rfl' _ _
  refine Follows.ite ?_ ?_
  intro a0
  exact Follows.rfl' _ _
  intro a1
  refine Follows.next (State.feedStack_follows _ _ _) (by decide) ?_
  refine Follows.next (State.enterFifo_follows _ _ _) (by decide) ?_
  refine Follows.next (State.setCan_follows _ _ _) (by decide) ?_
  exact Follows.rfl' _ _

theorem State.stackFrame_follows (s : State) (ch : Nat) (id : Nat) (data : List Nat) :
    Follows [.reg, .answers, .mirror, .lk, .ses, .bb] s (State.stackFrame s ch id data) := by
  unfold State.stackFrame
  extract_lets +onlyGivenNames x0
  refine Follows.next (State.feedStack_follows _ _ _) (by decide) ?_
  refine Follows.next (State.setCan_follows _ _ _) (by decide) ?_
  exact Follows.rfl' _ _

theorem State.sendClaim_follows (s : State) (ch : Nat) (addr : Nat) :
    Follows [.reg, .answers, .mirror, .lk, .ses, .bb] s (State.sendClaim s ch addr) := by
  unfold State.sendClaim
  refine Follows.next (State.stackFrame_follows _ _ _ _) (by decide) ?_
  exact Follows.rfl' _ _

theorem State.startCan_follows (s : State) (ch : Nat) :
    Follows [.reg, .answers, .mirror, .lk, .ses, .bb] s (State.startCan s ch) := by
  unfold State.startCan
  extract_lets +onlyGivenNames x0
  refine Follows.ite ?_ ?_
  intro a1
  exact Follows.rfl' _ _
  intro a2
  extract_lets +onlyGivenNames x3
  have h3 : Follows [.reg, .answers, .mirror, .lk, .ses, .bb] s x3 := by
    unfold x3
    refine Follows.next (State.answer_follows _ _ _ _) (by decide) ?_
    refine Follows.next (State.wr_follows _ _ _) (by decide) ?_
    exact Follows.rfl' _ _
  clear_value x3
  refine Follows.ite ?_ ?_
  intro a4
  refine Follows.next (State.wr_follows _ _ _) (by decide) ?_
  assumption
  intro a5
  refine Follows.next (State.sendClaim_follows _ _ _) (by decide) ?_
  assumption

theorem State.dropAged_follows (s : State) (ch : Nat) (x1 : Nat) :
    Follows [.reg, .answers, .mirror, .lk, .ses, .bb] s (State.dropAged s ch x1) := by
  unfold State.dropAged
  split
  exact Follows.rfl' _ _
  split
  exact Follows.rfl' _ _
  extract_lets +onlyGivenNames x0
  refine Follows.ite ?_ ?_
  intro a1
  refine Follows.next (State.dropAged_follows _ _ _) (by decide) ?_
  refine Follows.next (State.logOnce_follows _ _ _ _ _ _ _) (by decide) ?_
  refine Follows.next (State.bump_follows _ _ _) (by decide) ?_
  refine Follows.next (State.setCan_follows _ _ _) (by decide) ?_
  exact Follows.rfl' _ _
  intro a2
  exact Follows.rfl' _ _

theorem State.rawValue_follows (s : State) (ch : Nat) (b : Nat) (value : Rat) :
    Follows [.free] s (State.rawValue s ch b value).2 := by
  unfold State.rawValue
  dsimp only
  split
  split
  dsimp only
  exact Follows.rfl' _ _
  refine Follows.next (State.fresh_follows _ _) (by decide) ?_
  exact Follows.rfl' _ _
  split
  dsimp only
  exact Follows.rfl' _ _
  refine Follows.next (State.fresh_follows _ _) (by decide) ?_
  exact Follows.rfl' _ _

theorem State.commandFrame_follows (s : State) (ch : Nat) (b : Nat) (value : Rat) (rel : Bool) :
    Follows [.free] s (State.commandFrame s ch b value rel).2 := by
  unfold State.commandFrame
  dsimp only
  split
  dsimp only
  exact Follows.rfl' _ _
  refine Follows.next (State.rawValue_follows _ _ _ _) (by decide) ?_
  exact Follows.rfl' _ _

theorem State.setFn_follows (s : State) (f : Nat) (v : FnS) :
    Follows [.fn] s (State.setFn s f v) := by
  unfold State.setFn
  refine Follows.upd ⟨?_, ?_⟩ ?_
  · intro p hp; cases p <;> first | exact absurd (by decide) hp | rfl
  · exact fun h => ⟨h.mem, h.window, h.records, h.gate, h.sessions, h.amend, h.held, h.stamps⟩
  exact Follows.rfl' _ _

theorem State.showCause_follows (s : State) (f : Nat) :
    Follows [.reg] s (State.showCause s f) := by
  unfold State.showCause
  refine Follows.next (State.wr_follows _ _ _) (by decide) ?_
  exact Follows.rfl' _ _

theorem State.setLoop_follows (s : State) (l : Nat) (v : LoopS) :
    Follows [.eng] s (State.setLoop s l v) := by
  unfold State.setLoop
  refine Follows.upd ⟨?_, ?_⟩ ?_
  · intro p hp; cases p <;> first | exact absurd (by decide) hp | rfl
  · exact fun h => ⟨h.mem, h.window, h.records, h.gate, h.sessions, h.amend, h.held, h.stamps⟩
  exact Follows.rfl' _ _

theorem State.abortTune_follows (s : State) (l : Nat) (result : Nat) :
    Follows [.reg, .answers, .mirror, .eng, .ses, .bb] s (State.abortTune s l result) := by
  unfold State.abortTune
  split
  exact Follows.rfl' _ _
  refine Follows.ite ?_ ?_
  intro a0
  exact Follows.rfl' _ _
  intro a1
  extract_lets +onlyGivenNames x2
  refine Follows.next (State.log_follows _ _ _ _ _ _ _) (by decide) ?_
  refine Follows.next (State.setLoop_follows _ _ _) (by decide) ?_
  exact Follows.rfl' _ _

theorem State.openLoops_follows (s : State) (f : Nat) (cause : Nat) :
    Follows [.reg, .answers, .mirror, .eng, .ses, .bb] s (State.openLoops s f cause) := by
  unfold State.openLoops
  refine Follows.foldl _ ?_ ?_
  exact Follows.rfl' _ _
  intro a0 a1
  extract_lets +onlyGivenNames x2
  have h2 : Follows [.reg, .answers, .mirror, .eng, .ses, .bb] a0 x2 := by
    unfold x2
    refine Follows.next (State.abortTune_follows _ _ _) (by decide) ?_
    exact Follows.rfl' _ _
  clear_value x2
  refine Follows.next (State.wr_follows _ _ _) (by decide) ?_
  refine Follows.next (State.setLoop_follows _ _ _) (by decide) ?_
  assumption

theorem State.noteCmd_follows (s : State) (f : Nat) (u : Rat) :
    Follows [.fn] s (State.noteCmd s f u) := by
  unfold State.noteCmd
  extract_lets +onlyGivenNames x0
  refine Follows.next (State.setFn_follows _ _ _) (by decide) ?_
  exact Follows.rfl' _ _

theorem State.order_follows (s : State) (f : Nat) (src : Nat) (data : List Int) :
    Follows [.answers] s (State.order s f src data) := by
  unfold State.order
  extract_lets +onlyGivenNames x0
  split
  refine Follows.next (State.answer_follows _ _ _ _) (by decide) ?_
  exact Follows.rfl' _ _
  refine Follows.next (State.answer_follows _ _ _ _) (by decide) ?_
  exact Follows.rfl' _ _
  exact Follows.rfl' _ _

theorem State.orderStopped_follows (s : State) (f : Nat) :
    Follows [.answers, .fn] s (State.orderStopped s f) := by
  unfold State.orderStopped
  extract_lets +onlyGivenNames x0
  extract_lets +onlyGivenNames x1
  extract_lets +onlyGivenNames x2
  have h2 : Follows [.answers, .fn] s x2 := by
    unfold x2
    refine Follows.next (State.noteCmd_follows _ _ _) (by decide) ?_
    exact Follows.rfl' _ _
  clear_value x2
  refine Follows.next (State.order_follows _ _ _ _) (by decide) ?_
  assumption

theorem State.stopFn_follows (s : State) (f : Nat) (cause : Nat) (input : (Option Int)) :
    Follows [.reg, .answers, .mirror, .ln, .fn, .eng, .ses, .bb, .gd] s (State.stopFn s f cause input) := by
  unfold State.stopFn
  extract_lets +onlyGivenNames x0
  refine Follows.ite ?_ ?_
  intro a1
  exact Follows.rfl' _ _
  intro a2
  extract_lets +onlyGivenNames x3
  have h3 : Follows [.reg, .answers, .mirror, .ln, .fn, .eng, .ses, .bb, .gd] s x3 := by
    unfold x3
    refine Follows.next (State.setFn_follows _ _ _) (by decide) ?_
    exact Follows.rfl' _ _
  clear_value x3
  refine Follows.ite ?_ ?_
  intro a4
  refine Follows.next (State.showCause_follows _ _) (by decide) ?_
  assumption
  intro a5
  extract_lets +onlyGivenNames x6
  extract_lets +onlyGivenNames x7
  have h7 : Follows [.reg, .answers, .mirror, .ln, .fn, .eng, .ses, .bb, .gd] s x7 := by
    unfold x7
    refine Follows.next (State.setFn_follows _ _ _) (by decide) ?_
    assumption
  clear_value x7
  extract_lets +onlyGivenNames x8
  have h8 : Follows [.reg, .answers, .mirror, .ln, .fn, .eng, .ses, .bb, .gd] s x8 := by
    unfold x8
    refine Follows.next (State.wrs_follows _ _) (by decide) ?_
    refine Follows.next (State.showCause_follows _ _) (by decide) ?_
    assumption
  clear_value x8
  extract_lets +onlyGivenNames x9
  have h9 : Follows [.reg, .answers, .mirror, .ln, .fn, .eng, .ses, .bb, .gd] s x9 := by
    unfold x9
    refine Follows.next (State.cancelWhere_follows _ _) (by decide) ?_
    refine Follows.next (State.bump_follows _ _ _) (by decide) ?_
    assumption
  clear_value x9
  extract_lets +onlyGivenNames x10
  have h10 : Follows [.reg, .answers, .mirror, .ln, .fn, .eng, .ses, .bb, .gd] s x10 := by
    unfold x10
    refine Follows.next (State.log_follows _ _ _ _ _ _ _) (by decide) ?_
    refine Follows.next (State.openLoops_follows _ _ _) (by decide) ?_
    refine Follows.next (State.orderStopped_follows _ _) (by decide) ?_
    assumption
  clear_value x10
  refine Follows.ite ?_ ?_
  intro a11
  refine Follows.next (State.disengage_follows _ _ _) (by decide) ?_
  assumption
  intro a12
  assumption

theorem State.setIdx_follows (s : State) (f : Nat) (i : Nat) (v : IdxS) :
    Follows [.fn] s (State.setIdx s f i v) := by
  unfold State.setIdx
  refine Follows.next (State.setFn_follows _ _ _) (by decide) ?_
  exact Follows.rfl' _ _

theorem State.endCause_follows (s : State) (f : Nat) (cause : Nat) :
    Follows [.reg, .fn] s (State.endCause s f cause) := by
  unfold State.endCause
  extract_lets +onlyGivenNames x0
  refine Follows.ite ?_ ?_
  intro a1
  exact Follows.rfl' _ _
  intro a2
  extract_lets +onlyGivenNames x3
  refine Follows.next (State.showCause_follows _ _) (by decide) ?_
  refine Follows.next (State.setFn_follows _ _ _) (by decide) ?_
  exact Follows.rfl' _ _

theorem State.cohRestored_follows (s : State) :
    Follows [.reg, .fn] s (State.cohRestored s) := by
  unfold State.cohRestored
  refine Follows.foldl _ ?_ ?_
  exact Follows.rfl' _ _
  intro a0 a1
  refine Follows.ite ?_ ?_
  intro a2
  refine Follows.next (State.endCause_follows _ _ _) (by decide) ?_
  exact Follows.rfl' _ _
  intro a3
  exact Follows.rfl' _ _

theorem State.judgeInterlock_follows (s : State) (input : (Option Int)) :
    Follows [.reg, .answers, .mirror, .ln, .fn, .eng, .ses, .bb, .gd] s (State.judgeInterlock s input) := by
  unfold State.judgeInterlock
  refine Follows.ite ?_ ?_
  intro a0
  exact Follows.rfl' _ _
  intro a1
  refine Follows.ite ?_ ?_
  intro a2
  refine Follows.next (State.stopFn_follows _ _ _ _) (by decide) ?_
  exact Follows.rfl' _ _
  intro a3
  refine Follows.next (State.answer_follows _ _ _ _) (by decide) ?_
  exact Follows.rfl' _ _

theorem State.dtcRestart_follows (s : State) (f : Nat) :
    Follows [.bb] s (State.dtcRestart s f) := by
  unfold State.dtcRestart
  refine Follows.next (State.dtcOff_follows _ _) (by decide) ?_
  exact Follows.rfl' _ _

theorem State.sendCmd_follows (s : State) (f : Nat) (src : Nat) (u : Rat) :
    Follows [.answers, .fn] s (State.sendCmd s f src u) := by
  unfold State.sendCmd
  extract_lets +onlyGivenNames x0
  have h0 : Follows [.answers, .fn] s x0 := by
    unfold x0
    refine Follows.next (State.noteCmd_follows _ _ _) (by decide) ?_
    exact Follows.rfl' _ _
  clear_value x0
  refine Follows.ite ?_ ?_
  intro a1
  refine Follows.next (State.order_follows _ _ _ _) (by decide) ?_
  assumption
  intro a2
  refine Follows.next (State.order_follows _ _ _ _) (by decide) ?_
  assumption

theorem State.endOverrides_follows (s : State) (session : Nat) (dataId : Nat) :
    Follows [.fn] s (State.endOverrides s session dataId) := by
  unfold State.endOverrides
  refine Follows.upd ⟨?_, ?_⟩ ?_
  · intro p hp; cases p <;> first | exact absurd (by decide) hp | rfl
  · exact fun h => ⟨h.mem, h.window, h.records, h.gate, h.sessions, h.amend, h.held, h.stamps⟩
  exact Follows.rfl' _ _

theorem State.stopAny_follows (s : State) (f : Nat) (cause : Nat) :
    Follows [.reg, .answers, .mirror, .ln, .fn, .eng, .ses, .bb, .gd] s (State.stopAny s f cause) := by
  unfold State.stopAny
  refine Follows.ite ?_ ?_
  intro a0
  refine Follows.next (State.stopFn_follows _ _ _ _) (by decide) ?_
  exact Follows.rfl' _ _
  intro a1
  refine Follows.next (State.answer_follows _ _ _ _) (by decide) ?_
  exact Follows.rfl' _ _

theorem State.publishSide_follows (s : State) (fn : Nat) (x : Side) :
    Follows [.reg, .answers, .board] s (State.publishSide s fn x) := by
  unfold State.publishSide
  extract_lets +onlyGivenNames x0
  extract_lets +onlyGivenNames x1
  extract_lets +onlyGivenNames x2
  extract_lets +onlyGivenNames x3
  extract_lets +onlyGivenNames x4
  extract_lets +onlyGivenNames x5
  have h5 : Follows [.reg, .answers, .board] s x5 := by
    unfold x5
    refine Follows.ite ?_ ?_
    intro a6
    refine Follows.next (State.bump_follows _ _ _) (by decide) ?_
    exact Follows.rfl' _ _
    intro a7
    exact Follows.rfl' _ _
  clear_value x5
  extract_lets +onlyGivenNames x8
  have h8 : Follows [.reg, .answers, .board] s x8 := by
    unfold x8
    refine Follows.upd ⟨?_, ?_⟩ ?_
    · intro p hp; cases p <;> first | exact absurd (by decide) hp | rfl
    · exact fun h => ⟨h.mem, h.window, h.records, h.gate, h.sessions, h.amend, h.held, h.stamps⟩
    assumption
  clear_value x8
  refine Follows.ite ?_ ?_
  intro a9
  refine Follows.next (State.answer_follows _ _ _ _) (by decide) ?_
  assumption
  intro a10
  assumption

theorem State.publishGuide_follows (s : State) :
    Follows [.reg, .answers, .board] s (State.publishGuide s) := by
  unfold State.publishGuide
  extract_lets +onlyGivenNames x0
  refine Follows.next (State.publishSide_follows _ _ _) (by decide) ?_
  exact Follows.rfl' _ _

end Sys2Proof.Machine
end

