-- ==== Sys2Proof/Laws/SystemOps.lean ====
section
/-! SUPPORT. What each shared operation may change: resets, time, the late hooks, the observer and the planes, functions, configuration, sessions, actions. One lemma per operation: the parts
of the state outside its list are unchanged, and the bounds are kept. -/

namespace Sys2Proof.Machine

theorem State.setDomains_follows (s : State) :
    Follows [.reg] s (State.setDomains s) := by
  unfold State.setDomains
  refine Follows.next (State.wr_follows _ _ _) (by decide) ?_
  exact Follows.rfl' _ _

theorem filter_wf (m : List Host.Cell) (p : Host.Cell → Bool) (h : Memory.wf m) : Memory.wf (m.filter p) :=
  ⟨h.1.sublist List.filter_sublist, fun c hc => h.2 c (List.mem_of_mem_filter hc)⟩

theorem State.cleared_follows (s : State) (scope : Nat) : Follows resetParts s (State.cleared s scope) := by
  unfold State.cleared
  extract_lets full core z isl
  refine Follows.upd ⟨?_, ?_⟩ (Follows.rfl' _ _)
  · intro p hp; cases p <;> first | exact absurd (by decide) hp | rfl
  · intro b
    refine ⟨filter_wf _ _ b.mem, Nat.zero_le _, Nat.zero_le _, Nat.zero_le _, Nat.zero_le _, Nat.zero_le _, ?_, ?_⟩
    · dsimp only; split
      · exact Nat.zero_le _
      · exact b.held
    · dsimp only; split
      · exact b.stamps
      · exact Nat.zero_le _

theorem State.setCoreRail_follows (s : State) :
    Follows [.reg] s (State.setCoreRail s) := by
  unfold State.setCoreRail
  refine Follows.next (State.wr_follows _ _ _) (by decide) ?_
  exact Follows.rfl' _ _

theorem State.resetRecord_follows (s : State) (source : Nat) (scope : Nat) (plane : Nat) :
    Follows [.reg] s (State.resetRecord s source scope plane) := by
  unfold State.resetRecord
  extract_lets +onlyGivenNames x0
  refine Follows.next (State.wrs_follows _ _) (by decide) ?_
  exact Follows.rfl' _ _

theorem State.assertReset_follows (s : State) (source : Nat) (scope : Nat) (plane : Nat) :
    Follows resetParts s (State.assertReset s source scope plane) := by
  unfold State.assertReset
  extract_lets +onlyGivenNames x0
  extract_lets +onlyGivenNames x1
  extract_lets +onlyGivenNames x2
  have h2 : Follows resetParts s x2 := by
    unfold x2
    refine Follows.upd ⟨?_, ?_⟩ ?_
    · intro p hp; cases p <;> first | exact absurd (by decide) hp | rfl
    · exact fun h => ⟨h.mem, h.window, h.records, h.gate, h.sessions, h.amend, h.held, h.stamps⟩
    exact Follows.rfl' _ _
  clear_value x2
  refine Follows.ite ?_ ?_
  intro a3
  assumption
  intro a4
  extract_lets +onlyGivenNames x5
  extract_lets +onlyGivenNames x6
  have h6 : Follows resetParts s x6 := by
    unfold x6
    refine Follows.upd ⟨?_, ?_⟩ ?_
    · intro p hp; cases p <;> first | exact absurd (by decide) hp | rfl
    · exact fun h => ⟨h.mem, h.window, h.records, h.gate, h.sessions, h.amend, h.held, h.stamps⟩
    assumption
  clear_value x6
  extract_lets +onlyGivenNames x7
  have h7 : Follows resetParts s x7 := by
    unfold x7
    refine Follows.next (State.cleared_follows _ _) (by decide) ?_
    assumption
  clear_value x7
  extract_lets +onlyGivenNames x8
  extract_lets +onlyGivenNames x9
  have h9 : Follows resetParts s x9 := by
    unfold x9
    refine Follows.upd ⟨?_, ?_⟩ ?_
    · intro p hp; cases p <;> first | exact absurd (by decide) hp | rfl
    · exact fun h => ⟨h.mem, h.window, h.records, h.gate, h.sessions, h.amend, h.held, h.stamps⟩
    assumption
  clear_value x9
  extract_lets +onlyGivenNames x10
  have h10 : Follows resetParts s x10 := by
    unfold x10
    refine Follows.next (State.wr_follows _ _ _) (by decide) ?_
    refine Follows.next (State.resetRecord_follows _ _ _ _) (by decide) ?_
    assumption
  clear_value x10
  extract_lets +onlyGivenNames x11
  have h11 : Follows resetParts s x11 := by
    unfold x11
    refine Follows.ite ?_ ?_
    intro a12
    assumption
    intro a13
    refine Follows.next (State.resetSwitches_follows _ _) (by decide) ?_
    refine Follows.next (State.resetValves_follows _ _) (by decide) ?_
    assumption
  clear_value x11
  refine Follows.next (State.setDomains_follows _) (by decide) ?_
  refine Follows.next (State.setCoreRail_follows _) (by decide) ?_
  assumption

theorem State.clearCause_follows (s : State) (bit : Nat) :
    Follows [.reg, .answers, .bb] s (State.clearCause s bit) := by
  unfold State.clearCause
  refine Follows.ite ?_ ?_
  intro a0
  exact Follows.rfl' _ _
  intro a1
  extract_lets +onlyGivenNames x2
  extract_lets +onlyGivenNames x3
  have h3 : Follows [.reg, .answers, .bb] s x3 := by
    unfold x3
    refine Follows.next (State.dtcOff_follows _ _) (by decide) ?_
    exact Follows.rfl' _ _
  clear_value x3
  extract_lets +onlyGivenNames x4
  have h4 : Follows [.reg, .answers, .bb] s x4 := by
    unfold x4
    refine Follows.next (State.wr_follows _ _ _) (by decide) ?_
    assumption
  clear_value x4
  refine Follows.ite ?_ ?_
  intro a5
  refine Follows.next (State.answer_follows _ _ _ _) (by decide) ?_
  assumption
  intro a6
  assumption

theorem State.setCause_follows (s : State) (bit : Nat) :
    Follows [.reg, .answers, .md] s (State.setCause s bit) := by
  unfold State.setCause
  extract_lets +onlyGivenNames x0
  have h0 : Follows [.reg, .answers, .md] s x0 := by
    unfold x0
    refine Follows.next (State.wr_follows _ _ _) (by decide) ?_
    exact Follows.rfl' _ _
  clear_value x0
  refine Follows.ite ?_ ?_
  intro a1
  refine Follows.next (State.answer_follows _ _ _ _) (by decide) ?_
  assumption
  intro a2
  refine Follows.upd ⟨?_, ?_⟩ ?_
  · intro p hp; cases p <;> first | exact absurd (by decide) hp | rfl
  · exact fun h => ⟨h.mem, h.window, h.records, h.gate, h.sessions, h.amend, h.held, h.stamps⟩
  assumption

theorem State.bbAnchor_follows (s : State) :
    Follows [.reg, .bb] s (State.bbAnchor s) := by
  unfold State.bbAnchor
  refine Follows.next (State.bbPush_follows _ _) (by decide) ?_
  refine Follows.upd ⟨?_, ?_⟩ ?_
  · intro p hp; cases p <;> first | exact absurd (by decide) hp | rfl
  · exact fun h => ⟨h.mem, h.window, h.records, h.gate, h.sessions, h.amend, h.held, h.stamps⟩
  exact Follows.rfl' _ _

theorem State.timeRegs_follows (s : State) :
    Follows [.reg] s (State.timeRegs s) := by
  unfold State.timeRegs
  extract_lets +onlyGivenNames x0
  refine Follows.next (State.wrs_follows _ _) (by decide) ?_
  exact Follows.rfl' _ _

theorem State.reanchor_follows (s : State) (add : Int) (err : Int) :
    Follows [.tb] s (State.reanchor s add err) := by
  unfold State.reanchor
  refine Follows.upd ⟨?_, ?_⟩ ?_
  · intro p hp; cases p <;> first | exact absurd (by decide) hp | rfl
  · exact fun h => ⟨h.mem, h.window, h.records, h.gate, h.sessions, h.amend, h.held, h.stamps⟩
  exact Follows.rfl' _ _

theorem State.trim_follows (s : State) (err : Int) :
    Follows [.reg, .tb] s (State.trim s err) := by
  unfold State.trim
  refine Follows.next (State.wr_follows _ _ _) (by decide) ?_
  refine Follows.next (State.reanchor_follows _ _ _) (by decide) ?_
  exact Follows.rfl' _ _

theorem State.setQual_follows (s : State) (q : Nat) :
    Follows [.reg, .answers, .mirror, .ses, .bb] s (State.setQual s q) := by
  unfold State.setQual
  extract_lets +onlyGivenNames x0
  refine Follows.ite ?_ ?_
  intro a1
  exact Follows.rfl' _ _
  intro a2
  extract_lets +onlyGivenNames x3
  have h3 : Follows [.reg, .answers, .mirror, .ses, .bb] s x3 := by
    unfold x3
    refine Follows.next (State.wr_follows _ _ _) (by decide) ?_
    exact Follows.rfl' _ _
  clear_value x3
  extract_lets +onlyGivenNames x4
  have h4 : Follows [.reg, .answers, .mirror, .ses, .bb] s x4 := by
    unfold x4
    refine Follows.ite ?_ ?_
    intro a5
    assumption
    intro a6
    refine Follows.next (State.wr_follows _ _ _) (by decide) ?_
    assumption
  clear_value x4
  refine Follows.next (State.bbAnchor_follows _) (by decide) ?_
  refine Follows.next (State.log_follows _ _ _ _ _ _ _) (by decide) ?_
  assumption

theorem State.becomeGood_follows (s : State) (resid : Int) :
    Follows [.reg, .answers, .mirror, .tb, .whistle, .ln, .fn, .ses, .bb] s (State.becomeGood s resid) := by
  unfold State.becomeGood
  extract_lets +onlyGivenNames x0
  have h0 : Follows [.reg, .answers, .mirror, .tb, .whistle, .ln, .fn, .ses, .bb] s x0 := by
    unfold x0
    refine Follows.next (State.reanchor_follows _ _ _) (by decide) ?_
    exact Follows.rfl' _ _
  clear_value x0
  extract_lets +onlyGivenNames x1
  have h1 : Follows [.reg, .answers, .mirror, .tb, .whistle, .ln, .fn, .ses, .bb] s x1 := by
    unfold x1
    refine Follows.next (State.wrs_follows _ _) (by decide) ?_
    assumption
  clear_value x1
  extract_lets +onlyGivenNames x2
  extract_lets +onlyGivenNames x3
  have h3 : Follows [.reg, .answers, .mirror, .tb, .whistle, .ln, .fn, .ses, .bb] s x3 := by
    unfold x3
    refine Follows.upd ⟨?_, ?_⟩ ?_
    · intro p hp; cases p <;> first | exact absurd (by decide) hp | rfl
    · exact fun h => ⟨h.mem, h.window, h.records, h.gate, h.sessions, h.amend, h.held, h.stamps⟩
    assumption
  clear_value x3
  extract_lets +onlyGivenNames x4
  have h4 : Follows [.reg, .answers, .mirror, .tb, .whistle, .ln, .fn, .ses, .bb] s x4 := by
    unfold x4
    refine Follows.next (State.setQual_follows _ _) (by decide) ?_
    assumption
  clear_value x4
  refine Follows.ite ?_ ?_
  intro a5
  extract_lets +onlyGivenNames x6
  refine Follows.next (State.cohRestored_follows _) (by decide) ?_
  refine Follows.upd ⟨?_, ?_⟩ ?_
  · intro p hp; cases p <;> first | exact absurd (by decide) hp | rfl
  · exact fun h => ⟨h.mem, h.window, h.records, h.gate, h.sessions, h.amend, h.held, h.stamps⟩
  assumption
  intro a7
  assumption

theorem State.startSlew_follows (s : State) (err : Int) :
    Follows [.reg, .answers, .mirror, .tb, .ses, .bb] s (State.startSlew s err) := by
  unfold State.startSlew
  refine Follows.next (State.log_follows _ _ _ _ _ _ _) (by decide) ?_
  refine Follows.next (State.wr_follows _ _ _) (by decide) ?_
  refine Follows.next (State.reanchor_follows _ _ _) (by decide) ?_
  exact Follows.rfl' _ _

theorem State.doStep_follows (s : State) (err : Int) :
    Follows [.reg, .answers, .mirror, .tb, .whistle, .ln, .lk, .ses, .bb, .gd] s (State.doStep s err) := by
  unfold State.doStep
  extract_lets +onlyGivenNames x0
  have h0 : Follows [.reg, .answers, .mirror, .tb, .whistle, .ln, .lk, .ses, .bb, .gd] s x0 := by
    unfold x0
    refine Follows.next (State.reanchor_follows _ _ _) (by decide) ?_
    exact Follows.rfl' _ _
  clear_value x0
  extract_lets +onlyGivenNames x1
  extract_lets +onlyGivenNames x2
  have h2 : Follows [.reg, .answers, .mirror, .tb, .whistle, .ln, .lk, .ses, .bb, .gd] s x2 := by
    unfold x2
    refine Follows.upd ⟨?_, ?_⟩ ?_
    · intro p hp; cases p <;> first | exact absurd (by decide) hp | rfl
    · exact fun h => ⟨h.mem, h.window, h.records, h.gate, h.sessions, h.amend, h.held, h.stamps⟩
    assumption
  clear_value x2
  extract_lets +onlyGivenNames x3
  extract_lets +onlyGivenNames x4
  have h4 : Follows [.reg, .answers, .mirror, .tb, .whistle, .ln, .lk, .ses, .bb, .gd] s x4 := by
    unfold x4
    refine Follows.upd ⟨?_, ?_⟩ ?_
    · intro p hp; cases p <;> first | exact absurd (by decide) hp | rfl
    · exact fun h => ⟨h.mem, h.window, h.records, h.gate, h.sessions, h.amend, h.held, h.stamps⟩
    assumption
  clear_value x4
  extract_lets +onlyGivenNames x5
  extract_lets +onlyGivenNames x6
  have h6 : Follows [.reg, .answers, .mirror, .tb, .whistle, .ln, .lk, .ses, .bb, .gd] s x6 := by
    unfold x6
    refine Follows.upd ⟨?_, ?_⟩ ?_
    · intro p hp; cases p <;> first | exact absurd (by decide) hp | rfl
    · exact fun h => ⟨h.mem, h.window, h.records, h.gate, h.sessions, h.amend, h.held, h.stamps⟩
    assumption
  clear_value x6
  extract_lets +onlyGivenNames x7
  have h7 : Follows [.reg, .answers, .mirror, .tb, .whistle, .ln, .lk, .ses, .bb, .gd] s x7 := by
    unfold x7
    refine Follows.next (State.wrs_follows _ _) (by decide) ?_
    assumption
  clear_value x7
  refine Follows.next (State.guidanceStepped_follows _ _) (by decide) ?_
  refine Follows.next (State.log_follows _ _ _ _ _ _ _) (by decide) ?_
  assumption

theorem State.sourceBack_follows (s : State) (err : Int) (othersEmpty : Bool) :
    Follows [.reg, .answers, .mirror, .tb, .whistle, .ln, .fn, .lk, .ses, .bb, .gd] s (State.sourceBack s err othersEmpty) := by
  unfold State.sourceBack
  extract_lets +onlyGivenNames x0
  extract_lets +onlyGivenNames x1
  have h1 : Follows [.reg, .answers, .mirror, .tb, .whistle, .ln, .fn, .lk, .ses, .bb, .gd] s x1 := by
    unfold x1
    refine Follows.upd ⟨?_, ?_⟩ ?_
    · intro p hp; cases p <;> first | exact absurd (by decide) hp | rfl
    · exact fun h => ⟨h.mem, h.window, h.records, h.gate, h.sessions, h.amend, h.held, h.stamps⟩
    exact Follows.rfl' _ _
  clear_value x1
  extract_lets +onlyGivenNames x2
  have h2 : Follows [.reg, .answers, .mirror, .tb, .whistle, .ln, .fn, .lk, .ses, .bb, .gd] s x2 := by
    unfold x2
    refine Follows.next (State.wr_follows _ _ _) (by decide) ?_
    assumption
  clear_value x2
  refine Follows.ite ?_ ?_
  intro a3
  refine Follows.next (State.becomeGood_follows _ _) (by decide) ?_
  assumption
  intro a4
  refine Follows.ite ?_ ?_
  intro a5
  refine Follows.next (State.startSlew_follows _ _) (by decide) ?_
  assumption
  intro a6
  refine Follows.ite ?_ ?_
  intro a7
  refine Follows.next (State.becomeGood_follows _ _) (by decide) ?_
  refine Follows.next (State.doStep_follows _ _) (by decide) ?_
  assumption
  intro a8
  refine Follows.next (State.wr_follows _ _ _) (by decide) ?_
  refine Follows.next (State.startSlew_follows _ _) (by decide) ?_
  assumption

theorem State.loadTime_follows (s : State) :
    Follows [.reg, .tb] s (State.loadTime s) := by
  unfold State.loadTime
  extract_lets +onlyGivenNames x0
  extract_lets +onlyGivenNames x1
  extract_lets +onlyGivenNames x2
  extract_lets +onlyGivenNames x3
  extract_lets +onlyGivenNames x4
  refine Follows.next (State.wr_follows _ _ _) (by decide) ?_
  refine Follows.next (State.wr_follows _ _ _) (by decide) ?_
  refine Follows.upd ⟨?_, ?_⟩ ?_
  · intro p hp; cases p <;> first | exact absurd (by decide) hp | rfl
  · exact fun h => ⟨h.mem, h.window, h.records, h.gate, h.sessions, h.amend, h.held, h.stamps⟩
  exact Follows.rfl' _ _

theorem State.calibrateRtc_follows (s : State) :
    Follows [.tb] s (State.calibrateRtc s) := by
  unfold State.calibrateRtc
  refine Follows.upd ⟨?_, ?_⟩ ?_
  · intro p hp; cases p <;> first | exact absurd (by decide) hp | rfl
  · exact fun h => ⟨h.mem, h.window, h.records, h.gate, h.sessions, h.amend, h.held, h.stamps⟩
  exact Follows.rfl' _ _

theorem State.enterHoldover_follows (s : State) :
    Follows [.reg, .answers, .mirror, .tb, .ses, .bb] s (State.enterHoldover s) := by
  unfold State.enterHoldover
  extract_lets +onlyGivenNames x0
  extract_lets +onlyGivenNames x1
  extract_lets +onlyGivenNames x2
  extract_lets +onlyGivenNames x3
  have h3 : Follows [.reg, .answers, .mirror, .tb, .ses, .bb] s x3 := by
    unfold x3
    refine Follows.upd ⟨?_, ?_⟩ ?_
    · intro p hp; cases p <;> first | exact absurd (by decide) hp | rfl
    · exact fun h => ⟨h.mem, h.window, h.records, h.gate, h.sessions, h.amend, h.held, h.stamps⟩
    exact Follows.rfl' _ _
  clear_value x3
  refine Follows.next (State.setQual_follows _ _) (by decide) ?_
  assumption

theorem State.abandonSlew_follows (s : State) :
    Follows [.reg, .tb] s (State.abandonSlew s) := by
  unfold State.abandonSlew
  extract_lets +onlyGivenNames x0
  extract_lets +onlyGivenNames x1
  have h1 : Follows [.reg, .tb] s x1 := by
    unfold x1
    refine Follows.next (State.reanchor_follows _ _ _) (by decide) ?_
    exact Follows.rfl' _ _
  clear_value x1
  extract_lets +onlyGivenNames x2
  have h2 : Follows [.reg, .tb] s x2 := by
    unfold x2
    refine Follows.next (State.wrs_follows _ _) (by decide) ?_
    assumption
  clear_value x2
  refine Follows.upd ⟨?_, ?_⟩ ?_
  · intro p hp; cases p <;> first | exact absurd (by decide) hp | rfl
  · exact fun h => ⟨h.mem, h.window, h.records, h.gate, h.sessions, h.amend, h.held, h.stamps⟩
  assumption

theorem State.startGnss_follows (s : State) (t0 : Nat) (bad : Option (Nat × Nat)) :
    Follows [.reg, .answers, .mirror, .ses, .bb, .gn] s (State.startGnss s t0 bad) := by
  unfold State.startGnss
  refine Follows.ite ?_ ?_
  intro a0
  exact Follows.rfl' _ _
  intro a1
  extract_lets +onlyGivenNames x2
  extract_lets +onlyGivenNames x3
  have h3 : Follows [.reg, .answers, .mirror, .ses, .bb, .gn] s x3 := by
    unfold x3
    split
    refine Follows.next (State.log_follows _ _ _ _ _ _ _) (by decide) ?_
    refine Follows.upd ⟨?_, ?_⟩ ?_
    · intro p hp; cases p <;> first | exact absurd (by decide) hp | rfl
    · exact fun h => ⟨h.mem, h.window, h.records, h.gate, h.sessions, h.amend, h.held, h.stamps⟩
    exact Follows.rfl' _ _
    exact Follows.rfl' _ _
  clear_value x3
  extract_lets +onlyGivenNames x4
  extract_lets +onlyGivenNames x5
  extract_lets +onlyGivenNames x6
  refine Follows.next (State.wrs_follows _ _) (by decide) ?_
  refine Follows.upd ⟨?_, ?_⟩ ?_
  · intro p hp; cases p <;> first | exact absurd (by decide) hp | rfl
  · exact fun h => ⟨h.mem, h.window, h.records, h.gate, h.sessions, h.amend, h.held, h.stamps⟩
  assumption

theorem State.fleetDown_follows (s : State) (conn : Nat) :
    Follows [.reg, .answers, .mirror, .ses, .bb, .fl] s (State.fleetDown s conn) := by
  unfold State.fleetDown
  extract_lets +onlyGivenNames x0
  extract_lets +onlyGivenNames x1
  extract_lets +onlyGivenNames x2
  extract_lets +onlyGivenNames x3
  refine Follows.ite ?_ ?_
  intro a4
  exact Follows.rfl' _ _
  intro a5
  refine Follows.ite ?_ ?_
  intro a6
  refine Follows.next (State.wr_follows _ _ _) (by decide) ?_
  refine Follows.upd ⟨?_, ?_⟩ ?_
  · intro p hp; cases p <;> first | exact absurd (by decide) hp | rfl
  · exact fun h => ⟨h.mem, h.window, h.records, h.gate, h.sessions, h.amend, h.held, h.stamps⟩
  exact Follows.rfl' _ _
  intro a7
  extract_lets +onlyGivenNames x8
  extract_lets +onlyGivenNames x9
  have h9 : Follows [.reg, .answers, .mirror, .ses, .bb, .fl] s x9 := by
    unfold x9
    refine Follows.next (State.wr_follows _ _ _) (by decide) ?_
    refine Follows.upd ⟨?_, ?_⟩ ?_
    · intro p hp; cases p <;> first | exact absurd (by decide) hp | rfl
    · exact fun h => ⟨h.mem, h.window, h.records, h.gate, h.sessions, h.amend, h.held, h.stamps⟩
    exact Follows.rfl' _ _
  clear_value x9
  refine Follows.next (State.log_follows _ _ _ _ _ _ _) (by decide) ?_
  assumption

theorem State.writeRetention_follows (s : State) :
    Follows [.gn] s (State.writeRetention s) := by
  unfold State.writeRetention
  refine Follows.ite ?_ ?_
  intro a0
  exact Follows.rfl' _ _
  intro a1
  extract_lets +onlyGivenNames x2
  refine Follows.upd ⟨?_, ?_⟩ ?_
  · intro p hp; cases p <;> first | exact absurd (by decide) hp | rfl
  · exact fun h => ⟨h.mem, h.window, h.records, h.gate, h.sessions, h.amend, h.held, h.stamps⟩
  exact Follows.rfl' _ _

theorem State.releaseIdle_follows (s : State) :
    Follows [.reg, .gn] s (State.releaseIdle s) := by
  unfold State.releaseIdle
  refine Follows.foldl _ ?_ ?_
  exact Follows.rfl' _ _
  intro a0 a1
  refine Follows.ite ?_ ?_
  intro a2
  exact Follows.rfl' _ _
  intro a3
  extract_lets +onlyGivenNames x4
  extract_lets +onlyGivenNames x5
  refine Follows.next (State.wrs_follows _ _) (by decide) ?_
  refine Follows.upd ⟨?_, ?_⟩ ?_
  · intro p hp; cases p <;> first | exact absurd (by decide) hp | rfl
  · exact fun h => ⟨h.mem, h.window, h.records, h.gate, h.sessions, h.amend, h.held, h.stamps⟩
  exact Follows.rfl' _ _

theorem State.loseChannels_follows (s : State) :
    Follows [.reg] s (State.loseChannels s) := by
  unfold State.loseChannels
  refine Follows.foldl _ ?_ ?_
  exact Follows.rfl' _ _
  intro a0 a1
  refine Follows.ite ?_ ?_
  intro a2
  exact Follows.rfl' _ _
  intro a3
  refine Follows.next (State.wr_follows _ _ _) (by decide) ?_
  exact Follows.rfl' _ _

theorem State.failTransfers_follows (s : State) (l : List Nat) :
    Follows [.answers] s (State.failTransfers s l) := by
  unfold State.failTransfers
  refine Follows.foldl _ ?_ ?_
  exact Follows.rfl' _ _
  intro a0 a1
  refine Follows.next (State.answer_follows _ _ _ _) (by decide) ?_
  exact Follows.rfl' _ _

theorem State.gnssTimeGone_follows (s : State) :
    Follows [.tb] s (State.gnssTimeGone s) := by
  unfold State.gnssTimeGone
  refine Follows.ite ?_ ?_
  intro a0
  exact Follows.rfl' _ _
  intro a1
  refine Follows.upd ⟨?_, ?_⟩ ?_
  · intro p hp; cases p <;> first | exact absurd (by decide) hp | rfl
  · exact fun h => ⟨h.mem, h.window, h.records, h.gate, h.sessions, h.amend, h.held, h.stamps⟩
  exact Follows.rfl' _ _

theorem State.setTvalid_follows (s : State) (v : Bool) :
    Follows [.reg, .answers, .mirror, .ses, .bb] s (State.setTvalid s v) := by
  unfold State.setTvalid
  refine Follows.ite ?_ ?_
  intro a0
  exact Follows.rfl' _ _
  intro a1
  refine Follows.next (State.log_follows _ _ _ _ _ _ _) (by decide) ?_
  refine Follows.next (State.wr_follows _ _ _) (by decide) ?_
  exact Follows.rfl' _ _

theorem State.netDown_follows (s : State) :
    Follows [.reg, .lk] s (State.netDown s) := by
  unfold State.netDown
  extract_lets +onlyGivenNames x0
  have h0 : Follows [.reg, .lk] s x0 := by
    unfold x0
    refine Follows.foldl _ ?_ ?_
    exact Follows.rfl' _ _
    intro a1 a2
    refine Follows.next (State.wr_follows _ _ _) (by decide) ?_
    exact Follows.rfl' _ _
  clear_value x0
  extract_lets +onlyGivenNames x3
  have h3 : Follows [.reg, .lk] s x3 := by
    unfold x3
    refine Follows.foldl _ ?_ ?_
    assumption
    intro a4 a5
    refine Follows.ite ?_ ?_
    intro a6
    refine Follows.next (State.wr_follows _ _ _) (by decide) ?_
    exact Follows.rfl' _ _
    intro a7
    exact Follows.rfl' _ _
  clear_value x3
  refine Follows.foldl _ ?_ ?_
  assumption
  intro a8 a9
  refine Follows.ite ?_ ?_
  intro a10
  extract_lets +onlyGivenNames x11
  extract_lets +onlyGivenNames x12
  extract_lets +onlyGivenNames x13
  have h13 : Follows [.reg, .lk] a8 x13 := by
    unfold x13
    refine Follows.upd ⟨?_, ?_⟩ ?_
    · intro p hp; cases p <;> first | exact absurd (by decide) hp | rfl
    · exact fun h => ⟨h.mem, h.window, h.records, h.gate, h.sessions, h.amend, h.held, h.stamps⟩
    exact Follows.rfl' _ _
  clear_value x13
  refine Follows.next (State.bump_follows _ _ _) (by decide) ?_
  refine Follows.next (State.wr_follows _ _ _) (by decide) ?_
  assumption
  intro a14
  exact Follows.rfl' _ _

theorem State.canDown_follows (s : State) :
    Follows [.reg, .lk] s (State.canDown s) := by
  unfold State.canDown
  extract_lets +onlyGivenNames x0
  extract_lets +onlyGivenNames x1
  have h1 : Follows [.reg, .lk] s x1 := by
    unfold x1
    refine Follows.upd ⟨?_, ?_⟩ ?_
    · intro p hp; cases p <;> first | exact absurd (by decide) hp | rfl
    · exact fun h => ⟨h.mem, h.window, h.records, h.gate, h.sessions, h.amend, h.held, h.stamps⟩
    exact Follows.rfl' _ _
  clear_value x1
  refine Follows.foldl _ ?_ ?_
  assumption
  intro a2 a3
  refine Follows.ite ?_ ?_
  intro a4
  exact Follows.rfl' _ _
  intro a5
  refine Follows.next (State.wr_follows _ _ _) (by decide) ?_
  exact Follows.rfl' _ _

theorem State.islandDown_follows (s : State) (isl : Nat) :
    Follows [.reg, .answers, .mirror, .tb, .lk, .ses, .bb, .fl, .cams] s (State.islandDown s isl) := by
  unfold State.islandDown
  split
  refine Follows.ite ?_ ?_
  intro a0
  refine Follows.next (State.gnssTimeGone_follows _) (by decide) ?_
  refine Follows.next (State.setTvalid_follows _ _) (by decide) ?_
  refine Follows.next (State.loseChannels_follows _) (by decide) ?_
  exact Follows.rfl' _ _
  intro a1
  exact Follows.rfl' _ _
  refine Follows.next (State.camsDown_follows _ _) (by decide) ?_
  exact Follows.rfl' _ _
  refine Follows.next (State.netDown_follows _) (by decide) ?_
  exact Follows.rfl' _ _
  refine Follows.next (State.canDown_follows _) (by decide) ?_
  exact Follows.rfl' _ _
  refine Follows.next (State.fleetDown_follows _ _) (by decide) ?_
  refine Follows.next (State.fleetDown_follows _ _) (by decide) ?_
  exact Follows.rfl' _ _
  exact Follows.rfl' _ _

theorem State.setIsland_follows (s : State) (n : Nat) (v : IslS) :
    Follows [.isl] s (State.setIsland s n v) := by
  unfold State.setIsland
  refine Follows.upd ⟨?_, ?_⟩ ?_
  · intro p hp; cases p <;> first | exact absurd (by decide) hp | rfl
  · exact fun h => ⟨h.mem, h.window, h.records, h.gate, h.sessions, h.amend, h.held, h.stamps⟩
  exact Follows.rfl' _ _

theorem State.blockRestart_follows (s : State) (isl : Nat) (ok : Bool) :
    Follows [.reg, .answers, .isl, .mirror, .tb, .lk, .ses, .bb, .fl, .cams] s (State.blockRestart s isl ok) := by
  unfold State.blockRestart
  extract_lets +onlyGivenNames x0
  extract_lets +onlyGivenNames x1
  extract_lets +onlyGivenNames x2
  have h2 : Follows [.reg, .answers, .isl, .mirror, .tb, .lk, .ses, .bb, .fl, .cams] s x2 := by
    unfold x2
    refine Follows.next (State.bump_follows _ _ _) (by decide) ?_
    refine Follows.next (State.failTransfers_follows _ _) (by decide) ?_
    exact Follows.rfl' _ _
  clear_value x2
  extract_lets +onlyGivenNames x3
  refine Follows.ite ?_ ?_
  intro a4
  refine Follows.next (State.islandDown_follows _ _) (by decide) ?_
  refine Follows.next (State.wrs_follows _ _) (by decide) ?_
  refine Follows.next (State.setIsland_follows _ _ _) (by decide) ?_
  assumption
  intro a5
  extract_lets +onlyGivenNames x6
  extract_lets +onlyGivenNames x7
  have h7 : Follows [.reg, .answers, .isl, .mirror, .tb, .lk, .ses, .bb, .fl, .cams] s x7 := by
    unfold x7
    refine Follows.next (State.islandDown_follows _ _) (by decide) ?_
    refine Follows.next (State.setIsland_follows _ _ _) (by decide) ?_
    assumption
  clear_value x7
  refine Follows.ite ?_ ?_
  intro a8
  refine Follows.next (State.log_follows _ _ _ _ _ _ _) (by decide) ?_
  refine Follows.next (State.wrs_follows _ _) (by decide) ?_
  assumption
  intro a9
  assumption

theorem State.restartTensor_follows (s : State) :
    Follows [.obs, .cams] s (State.restartTensor s) := by
  unfold State.restartTensor
  refine Follows.upd ⟨?_, ?_⟩ ?_
  · intro p hp; cases p <;> first | exact absurd (by decide) hp | rfl
  · exact fun h => ⟨h.mem, h.window, h.records, h.gate, h.sessions, h.amend, h.held, h.stamps⟩
  exact Follows.rfl' _ _

theorem State.restartIsp_follows (s : State) :
    Follows [.cams] s (State.restartIsp s) := by
  unfold State.restartIsp
  extract_lets +onlyGivenNames x0
  refine Follows.upd ⟨?_, ?_⟩ ?_
  · intro p hp; cases p <;> first | exact absurd (by decide) hp | rfl
  · exact fun h => ⟨h.mem, h.window, h.records, h.gate, h.sessions, h.amend, h.held, h.stamps⟩
  exact Follows.rfl' _ _

theorem State.restartGuide_follows (s : State) :
    Follows [.reg, .gd, .ym] s (State.restartGuide s) := by
  unfold State.restartGuide
  refine Follows.next (State.clearRegs_follows _ _) (by decide) ?_
  refine Follows.upd ⟨?_, ?_⟩ ?_
  · intro p hp; cases p <;> first | exact absurd (by decide) hp | rfl
  · exact fun h => ⟨h.mem, h.window, h.records, h.gate, h.sessions, h.amend, h.held, h.stamps⟩
  exact Follows.rfl' _ _

theorem State.restartManage_follows (s : State) :
    Follows [.reg, .ses] s (State.restartManage s) := by
  unfold State.restartManage
  refine Follows.next (State.clearRegs_follows _ _) (by decide) ?_
  refine Follows.upd ⟨?_, ?_⟩ ?_
  · intro p hp; cases p <;> first | exact absurd (by decide) hp | rfl
  · exact fun h => ⟨h.mem, h.window, h.records, h.gate, by simpa using h.sessions, h.amend, h.held, h.stamps⟩
  exact Follows.rfl' _ _

theorem State.restartBlock_follows (s : State) (block : Nat) :
    Follows [.reg, .answers, .isl, .mirror, .tb, .lk, .obs, .ses, .bb, .fl, .gd, .ym, .cams] s (State.restartBlock s block) := by
  unfold State.restartBlock
  refine Follows.ite ?_ ?_
  intro a0
  refine Follows.ite ?_ ?_
  intro a1
  exact Follows.rfl' _ _
  intro a2
  refine Follows.next (State.blockRestart_follows _ _ _) (by decide) ?_
  exact Follows.rfl' _ _
  intro a3
  refine Follows.ite ?_ ?_
  intro a4
  refine Follows.next (State.restartTensor_follows _) (by decide) ?_
  exact Follows.rfl' _ _
  intro a5
  refine Follows.ite ?_ ?_
  intro a6
  refine Follows.next (State.restartIsp_follows _) (by decide) ?_
  exact Follows.rfl' _ _
  intro a7
  refine Follows.ite ?_ ?_
  intro a8
  refine Follows.next (State.restartGuide_follows _) (by decide) ?_
  exact Follows.rfl' _ _
  intro a9
  refine Follows.ite ?_ ?_
  intro a10
  refine Follows.next (State.restartManage_follows _) (by decide) ?_
  exact Follows.rfl' _ _
  intro a11
  exact Follows.rfl' _ _

theorem State.setSoln_follows (s : State) (new : Nat) (nsv : Nat) :
    Follows [.reg, .answers, .mirror, .ses, .bb] s (State.setSoln s new nsv) := by
  unfold State.setSoln
  extract_lets +onlyGivenNames x0
  refine Follows.ite ?_ ?_
  intro a1
  exact Follows.rfl' _ _
  intro a2
  refine Follows.next (State.log_follows _ _ _ _ _ _ _) (by decide) ?_
  refine Follows.next (State.wr_follows _ _ _) (by decide) ?_
  exact Follows.rfl' _ _

theorem State.stopGnss_follows (s : State) :
    Follows [.reg, .answers, .mirror, .tb, .ses, .bb, .gn] s (State.stopGnss s) := by
  unfold State.stopGnss
  refine Follows.ite ?_ ?_
  intro a0
  exact Follows.rfl' _ _
  intro a1
  extract_lets +onlyGivenNames x2
  have h2 : Follows [.reg, .answers, .mirror, .tb, .ses, .bb, .gn] s x2 := by
    unfold x2
    refine Follows.next (State.wrs_follows _ _) (by decide) ?_
    refine Follows.next (State.gnssTimeGone_follows _) (by decide) ?_
    refine Follows.next (State.setTvalid_follows _ _) (by decide) ?_
    refine Follows.next (State.setSoln_follows _ _ _) (by decide) ?_
    exact Follows.rfl' _ _
  clear_value x2
  extract_lets +onlyGivenNames x3
  have h3 : Follows [.reg, .answers, .mirror, .tb, .ses, .bb, .gn] s x3 := by
    unfold x3
    refine Follows.next (State.clearRegs_follows _ _) (by decide) ?_
    assumption
  clear_value x3
  refine Follows.upd ⟨?_, ?_⟩ ?_
  · intro p hp; cases p <;> first | exact absurd (by decide) hp | rfl
  · exact fun h => ⟨h.mem, h.window, h.records, h.gate, h.sessions, h.amend, h.held, h.stamps⟩
  assumption

theorem State.resumeGnss_follows (s : State) :
    Follows [.reg, .answers, .mirror, .ses, .bb, .gn] s (State.resumeGnss s) := by
  unfold State.resumeGnss
  extract_lets +onlyGivenNames x0
  extract_lets +onlyGivenNames x1
  have h1 : Follows [.reg, .answers, .mirror, .ses, .bb, .gn] s x1 := by
    unfold x1
    refine Follows.next (State.startGnss_follows _ _ _) (by decide) ?_
    exact Follows.rfl' _ _
  clear_value x1
  refine Follows.ite ?_ ?_
  intro a2
  refine Follows.next (State.wr_follows _ _ _) (by decide) ?_
  refine Follows.upd ⟨?_, ?_⟩ ?_
  · intro p hp; cases p <;> first | exact absurd (by decide) hp | rfl
  · exact fun h => ⟨h.mem, h.window, h.records, h.gate, h.sessions, h.amend, h.held, h.stamps⟩
  assumption
  intro a3
  assumption

theorem State.needSyncs_follows (s : State) (l : List Nat) :
    Follows [.isl] s (State.needSyncs s l) := by
  unfold State.needSyncs
  refine Follows.upd ⟨?_, ?_⟩ ?_
  · intro p hp; cases p <;> first | exact absurd (by decide) hp | rfl
  · exact fun h => ⟨h.mem, h.window, h.records, h.gate, h.sessions, h.amend, h.held, h.stamps⟩
  exact Follows.rfl' _ _

theorem State.dataReleased_follows (s : State) :
    Follows [.reg, .answers, .isl, .mirror, .ses, .bb, .gn, .cams] s (State.dataReleased s) := by
  unfold State.dataReleased
  extract_lets +onlyGivenNames x0
  have h0 : Follows [.reg, .answers, .isl, .mirror, .ses, .bb, .gn, .cams] s x0 := by
    unfold x0
    refine Follows.next (State.startCams_follows _) (by decide) ?_
    refine Follows.next (State.resumeGnss_follows _) (by decide) ?_
    refine Follows.next (State.needSyncs_follows _ _) (by decide) ?_
    exact Follows.rfl' _ _
  clear_value x0
  refine Follows.foldl _ ?_ ?_
  assumption
  intro a1 a2
  refine Follows.ite ?_ ?_
  intro a3
  refine Follows.next (State.wr_follows _ _ _) (by decide) ?_
  exact Follows.rfl' _ _
  intro a4
  exact Follows.rfl' _ _

theorem State.canUp_follows (s : State) :
    Follows [.reg, .lk] s (State.canUp s) := by
  unfold State.canUp
  extract_lets +onlyGivenNames x0
  extract_lets +onlyGivenNames x1
  have h1 : Follows [.reg, .lk] s x1 := by
    unfold x1
    refine Follows.upd ⟨?_, ?_⟩ ?_
    · intro p hp; cases p <;> first | exact absurd (by decide) hp | rfl
    · exact fun h => ⟨h.mem, h.window, h.records, h.gate, h.sessions, h.amend, h.held, h.stamps⟩
    exact Follows.rfl' _ _
  clear_value x1
  refine Follows.foldl _ ?_ ?_
  assumption
  intro a2 a3
  refine Follows.ite ?_ ?_
  intro a4
  refine Follows.next (State.wr_follows _ _ _) (by decide) ?_
  exact Follows.rfl' _ _
  intro a5
  exact Follows.rfl' _ _

theorem State.islandUp_follows (s : State) (isl : Nat) :
    Follows [.reg, .answers, .mirror, .lk, .ses, .bb, .gn, .cams] s (State.islandUp s isl) := by
  unfold State.islandUp
  split
  refine Follows.ite ?_ ?_
  intro a0
  refine Follows.next (State.wr_follows _ _ _) (by decide) ?_
  refine Follows.upd ⟨?_, ?_⟩ ?_
  · intro p hp; cases p <;> first | exact absurd (by decide) hp | rfl
  · exact fun h => ⟨h.mem, h.window, h.records, h.gate, h.sessions, h.amend, h.held, h.stamps⟩
  exact Follows.rfl' _ _
  intro a1
  exact Follows.rfl' _ _
  refine Follows.next (State.startCams_follows _) (by decide) ?_
  exact Follows.rfl' _ _
  refine Follows.next (State.canUp_follows _) (by decide) ?_
  exact Follows.rfl' _ _
  exact Follows.rfl' _ _

theorem State.liveAny_follows (s : State) (num : Nat) (key : Nat) (v : Nat) (admitted : Bool) :
    Follows [.reg, .answers, .mirror, .ses, .amend, .bb, .cams] s (State.liveAny s num key v admitted) := by
  unfold State.liveAny
  extract_lets +onlyGivenNames x0
  extract_lets +onlyGivenNames x1
  refine Follows.ite ?_ ?_
  intro a2
  refine Follows.next (State.cropWrite_follows _ _ _ _ _ _) (by decide) ?_
  exact Follows.rfl' _ _
  intro a3
  refine Follows.next (State.liveWrite_follows _ _ _ _ _) (by decide) ?_
  exact Follows.rfl' _ _

theorem State.dataCut_follows (s : State) :
    Follows [.reg, .answers, .mirror, .tb, .ses, .bb, .fl, .gn, .cams] s (State.dataCut s) := by
  unfold State.dataCut
  extract_lets +onlyGivenNames x0
  have h0 : Follows [.reg, .answers, .mirror, .tb, .ses, .bb, .fl, .gn, .cams] s x0 := by
    unfold x0
    refine Follows.next (State.camsDown_follows _ _) (by decide) ?_
    refine Follows.next (State.stopGnss_follows _) (by decide) ?_
    exact Follows.rfl' _ _
  clear_value x0
  extract_lets +onlyGivenNames x1
  have h1 : Follows [.reg, .answers, .mirror, .tb, .ses, .bb, .fl, .gn, .cams] s x1 := by
    unfold x1
    refine Follows.foldl _ ?_ ?_
    assumption
    intro a2 a3
    refine Follows.ite ?_ ?_
    intro a4
    exact Follows.rfl' _ _
    intro a5
    refine Follows.next (State.wr_follows _ _ _) (by decide) ?_
    exact Follows.rfl' _ _
  clear_value x1
  refine Follows.next (State.fleetDown_follows _ _) (by decide) ?_
  refine Follows.next (State.fleetDown_follows _ _) (by decide) ?_
  assumption

theorem State.endRefresh_follows (s : State) (result : Nat) :
    Follows [.reg, .answers, .mirror, .tb, .ses, .bb, .rst, .gn] s (State.endRefresh s result) := by
  unfold State.endRefresh
  extract_lets +onlyGivenNames x0
  extract_lets +onlyGivenNames x1
  have h1 : Follows [.reg, .answers, .mirror, .tb, .ses, .bb, .rst, .gn] s x1 := by
    unfold x1
    refine Follows.next (State.writeRetention_follows _) (by decide) ?_
    exact Follows.rfl' _ _
  clear_value x1
  extract_lets +onlyGivenNames x2
  extract_lets +onlyGivenNames x3
  have h3 : Follows [.reg, .answers, .mirror, .tb, .ses, .bb, .rst, .gn] s x3 := by
    unfold x3
    refine Follows.upd ⟨?_, ?_⟩ ?_
    · intro p hp; cases p <;> first | exact absurd (by decide) hp | rfl
    · exact fun h => ⟨h.mem, h.window, h.records, h.gate, h.sessions, h.amend, h.held, h.stamps⟩
    assumption
  clear_value x3
  extract_lets +onlyGivenNames x4
  have h4 : Follows [.reg, .answers, .mirror, .tb, .ses, .bb, .rst, .gn] s x4 := by
    unfold x4
    refine Follows.next (State.timeRegs_follows _) (by decide) ?_
    refine Follows.next (State.log_follows _ _ _ _ _ _ _) (by decide) ?_
    assumption
  clear_value x4
  extract_lets +onlyGivenNames x5
  have h5 : Follows [.reg, .answers, .mirror, .tb, .ses, .bb, .rst, .gn] s x5 := by
    unfold x5
    refine Follows.next (State.stopGnss_follows _) (by decide) ?_
    refine Follows.next (State.calibrateRtc_follows _) (by decide) ?_
    assumption
  clear_value x5
  extract_lets +onlyGivenNames x6
  extract_lets +onlyGivenNames x7
  have h7 : Follows [.reg, .answers, .mirror, .tb, .ses, .bb, .rst, .gn] s x7 := by
    unfold x7
    refine Follows.upd ⟨?_, ?_⟩ ?_
    · intro p hp; cases p <;> first | exact absurd (by decide) hp | rfl
    · exact fun h => ⟨h.mem, h.window, h.records, h.gate, h.sessions, h.amend, h.held, h.stamps⟩
    assumption
  clear_value x7
  extract_lets +onlyGivenNames x8
  extract_lets +onlyGivenNames x9
  have h9 : Follows [.reg, .answers, .mirror, .tb, .ses, .bb, .rst, .gn] s x9 := by
    unfold x9
    refine Follows.upd ⟨?_, ?_⟩ ?_
    · intro p hp; cases p <;> first | exact absurd (by decide) hp | rfl
    · exact fun h => ⟨h.mem, h.window, h.records, h.gate, h.sessions, h.amend, h.held, Nat.zero_le _⟩
    assumption
  clear_value x9
  refine Follows.next (State.setDomains_follows _) (by decide) ?_
  refine Follows.next (State.wrs_follows _ _) (by decide) ?_
  assumption

theorem State.loseRetention_follows (s : State) :
    Follows [.gn] s (State.loseRetention s) := by
  unfold State.loseRetention
  refine Follows.upd ⟨?_, ?_⟩ ?_
  · intro p hp; cases p <;> first | exact absurd (by decide) hp | rfl
  · exact fun h => ⟨h.mem, h.window, h.records, h.gate, h.sessions, h.amend, h.held, h.stamps⟩
  exact Follows.rfl' _ _

theorem State.denyAccess_follows (s : State) (master : Nat) (region : Nat) (write : Bool) :
    Follows [.reg, .answers, .mirror, .ses, .bb] s (State.denyAccess s master region write) := by
  unfold State.denyAccess
  refine Follows.next (State.answer_follows _ _ _ _) (by decide) ?_
  refine Follows.next (State.logOnce_follows _ _ _ _ _ _ _) (by decide) ?_
  refine Follows.next (State.wr_follows _ _ _) (by decide) ?_
  refine Follows.next (State.bump_follows _ _ _) (by decide) ?_
  exact Follows.rfl' _ _

theorem State.releaseDue_follows (n : Nat) (s : State) :
    Follows [.reg, .mirror, .ses, .bb] s (State.releaseDue n s) := by
  induction n generalizing s with
  | zero => exact Follows.rfl' _ _
  | succ n ih =>
    unfold State.releaseDue
    split
    · exact Follows.rfl' _ _
    · refine Follows.trans ?_ (ih _)
      refine Follows.next (State.release_follows _ _ _) (by decide) ?_
      refine Follows.upd ⟨?_, ?_⟩ (Follows.rfl' _ _)
      · intro p hp; cases p <;> first | exact absurd (by decide) hp | rfl
      · exact fun b => ⟨b.mem, Nat.le_trans (windowWithout_length _ _) b.window, b.records, b.gate, b.sessions, b.amend, b.held, b.stamps⟩

theorem State.drain_follows (s : State) (num : Nat) (n : Nat) :
    Follows [.ses] s (State.drain s num n) := by
  unfold State.drain
  refine Follows.upd ⟨?_, ?_⟩ ?_
  · intro p hp; cases p <;> first | exact absurd (by decide) hp | rfl
  · exact fun h => ⟨h.mem, h.window, h.records, h.gate, by simpa using h.sessions, h.amend, h.held, h.stamps⟩
  exact Follows.rfl' _ _

theorem State.eccCorrected_follows (s : State) (memory : Nat) (offset : Nat) :
    Follows [.reg, .answers, .mirror, .ecc, .ses, .bb] s (State.eccCorrected s memory offset) := by
  unfold State.eccCorrected
  extract_lets +onlyGivenNames x0
  extract_lets +onlyGivenNames x1
  extract_lets +onlyGivenNames x2
  have h2 : Follows [.reg, .answers, .mirror, .ecc, .ses, .bb] s x2 := by
    unfold x2
    refine Follows.upd ⟨?_, ?_⟩ ?_
    · intro p hp; cases p <;> first | exact absurd (by decide) hp | rfl
    · exact fun h => ⟨h.mem, h.window, h.records, h.gate, h.sessions, h.amend, h.held, h.stamps⟩
    exact Follows.rfl' _ _
  clear_value x2
  refine Follows.next (State.logOnce_follows _ _ _ _ _ _ _) (by decide) ?_
  assumption

theorem State.remoteFn_follows (s : State) (code : Nat) (payload : List Int) (stamp : Int) :
    Follows [.reg, .answers, .mirror, .ln, .fn, .eng, .ses, .bb, .gd] s (State.remoteFn s code payload stamp) := by
  unfold State.remoteFn
  split
  extract_lets +onlyGivenNames x0
  extract_lets +onlyGivenNames x1
  have h1 : Follows [.reg, .answers, .mirror, .ln, .fn, .eng, .ses, .bb, .gd] s x1 := by
    unfold x1
    refine Follows.next (State.setFn_follows _ _ _) (by decide) ?_
    exact Follows.rfl' _ _
  clear_value x1
  refine Follows.ite ?_ ?_
  intro a2
  refine Follows.next (State.disengage_follows _ _ _) (by decide) ?_
  assumption
  intro a3
  assumption
  extract_lets +onlyGivenNames x4
  extract_lets +onlyGivenNames x5
  have h5 : Follows [.reg, .answers, .mirror, .ln, .fn, .eng, .ses, .bb, .gd] s x5 := by
    unfold x5
    refine Follows.next (State.setFn_follows _ _ _) (by decide) ?_
    exact Follows.rfl' _ _
  clear_value x5
  refine Follows.ite ?_ ?_
  intro a6
  refine Follows.next (State.judgeInterlock_follows _ _) (by decide) ?_
  assumption
  intro a7
  assumption
  exact Follows.rfl' _ _

theorem State.lockedWrite_follows (s : State) (master : Nat) :
    Follows [.reg, .answers, .mirror, .ses, .bb] s (State.lockedWrite s master) := by
  unfold State.lockedWrite
  refine Follows.next (State.log_follows _ _ _ _ _ _ _) (by decide) ?_
  exact Follows.rfl' _ _

theorem State.destroyEntry_follows (s : State) (slot : Nat) :
    Follows [.reg, .answers, .mirror, .ln, .fn, .eng, .ses, .bb, .gd] s (State.destroyEntry s slot) := by
  unfold State.destroyEntry
  extract_lets +onlyGivenNames x0
  refine Follows.ite ?_ ?_
  intro a1
  extract_lets +onlyGivenNames x2
  have h2 : Follows [.reg, .answers, .mirror, .ln, .fn, .eng, .ses, .bb, .gd] s x2 := by
    unfold x2
    refine Follows.next (State.setSlot_follows _ _ _) (by decide) ?_
    exact Follows.rfl' _ _
  clear_value x2
  split
  refine Follows.next (State.stopFn_follows _ _ _ _) (by decide) ?_
  assumption
  assumption
  intro a3
  exact Follows.rfl' _ _

theorem State.showLoads_follows (s : State) :
    Follows [.reg] s (State.showLoads s) := by
  unfold State.showLoads
  refine Follows.foldl _ ?_ ?_
  exact Follows.rfl' _ _
  intro a0 a1
  extract_lets +onlyGivenNames x2
  refine Follows.next (State.wr_follows _ _ _) (by decide) ?_
  exact Follows.rfl' _ _

theorem State.setUi_follows (s : State) (n : Nat) (u : UiS) :
    Follows [.ui] s (State.setUi s n u) := by
  unfold State.setUi
  refine Follows.upd ⟨?_, ?_⟩ ?_
  · intro p hp; cases p <;> first | exact absurd (by decide) hp | rfl
  · exact fun h => ⟨h.mem, h.window, h.records, h.gate, h.sessions, h.amend, h.held, h.stamps⟩
  exact Follows.rfl' _ _

theorem State.uiReading_follows (s : State) (n : Nat) (r : ReadingIn) :
    Follows [.free, .reg] s (State.uiReading s n r).2 := by
  unfold State.uiReading
  dsimp only
  split
  split
  split
  dsimp only
  exact Follows.rfl' _ _
  split
  dsimp only
  exact Follows.rfl' _ _
  dsimp only
  refine Follows.next (State.fresh_follows _ _) (by decide) ?_
  exact Follows.rfl' _ _
  split
  dsimp only
  exact Follows.rfl' _ _
  split
  dsimp only
  exact Follows.rfl' _ _
  dsimp only
  refine Follows.next (State.fresh_follows _ _) (by decide) ?_
  exact Follows.rfl' _ _
  dsimp only
  refine Follows.next (State.wr_follows _ _ _) (by decide) ?_
  exact Follows.rfl' _ _
  dsimp only
  exact Follows.rfl' _ _

theorem State.judgeUi_follows (s : State) (n : Nat) (q : Rat) :
    Follows [.reg, .ui] s (State.judgeUi s n q) := by
  unfold State.judgeUi
  extract_lets +onlyGivenNames x0
  extract_lets +onlyGivenNames x1
  extract_lets +onlyGivenNames x2
  refine Follows.ite ?_ ?_
  intro a3
  extract_lets +onlyGivenNames x4
  extract_lets +onlyGivenNames x5
  extract_lets +onlyGivenNames x6
  have h6 : Follows [.reg, .ui] s x6 := by
    unfold x6
    refine Follows.next (State.wr_follows _ _ _) (by decide) ?_
    refine Follows.next (State.setUi_follows _ _ _) (by decide) ?_
    exact Follows.rfl' _ _
  clear_value x6
  refine Follows.ite ?_ ?_
  intro a7
  refine Follows.next (State.wrs_follows _ _) (by decide) ?_
  assumption
  intro a8
  assumption
  intro a9
  extract_lets +onlyGivenNames x10
  extract_lets +onlyGivenNames x11
  have h11 : Follows [.reg, .ui] s x11 := by
    unfold x11
    refine Follows.next (State.setUi_follows _ _ _) (by decide) ?_
    exact Follows.rfl' _ _
  clear_value x11
  refine Follows.ite ?_ ?_
  intro a12
  refine Follows.next (State.wrs_follows _ _) (by decide) ?_
  assumption
  intro a13
  assumption

theorem State.uiShunt_follows (s : State) (n : Nat) (q : Rat) :
    Follows [.ui] s (State.uiShunt s n q) := by
  unfold State.uiShunt
  refine Follows.ite ?_ ?_
  intro a0
  refine Follows.next (State.setUi_follows _ _ _) (by decide) ?_
  exact Follows.rfl' _ _
  intro a1
  exact Follows.rfl' _ _

theorem State.uiTrack_follows (s : State) (n : Nat) (r : ReadingIn) :
    Follows [.ui] s (State.uiTrack s n r) := by
  unfold State.uiTrack
  refine Follows.ite ?_ ?_
  intro a0
  exact Follows.rfl' _ _
  intro a1
  extract_lets +onlyGivenNames x2
  refine Follows.next (State.setUi_follows _ _ _) (by decide) ?_
  exact Follows.rfl' _ _

theorem State.convert_follows (s : State) (n : Nat) (r : ReadingIn) :
    Follows [.free, .reg, .ui] s (State.convert s n r) := by
  unfold State.convert
  refine Follows.ite ?_ ?_
  intro a0
  exact Follows.rfl' _ _
  intro a1
  extract_lets +onlyGivenNames x2
  extract_lets +onlyGivenNames x3
  have h3 : Follows [.free, .reg, .ui] s x3 := by
    unfold x3
    refine Follows.next (State.uiTrack_follows _ _ _) (by decide) ?_
    exact Follows.rfl' _ _
  clear_value x3
  split
  refine Follows.ite ?_ ?_
  intro a4
  assumption
  intro a5
  refine Follows.ite ?_ ?_
  intro a6
  refine Follows.next (State.bump_follows _ _ _) (by decide) ?_
  assumption
  intro a7
  unfold x2
  extract_lets +onlyGivenNames x8
  extract_lets +onlyGivenNames x9
  have h9 : Follows [.free, .reg, .ui] s x9 := by
    unfold x9
    refine Follows.next (State.setUi_follows _ _ _) (by decide) ?_
    assumption
  clear_value x9
  split
  refine Follows.next (State.judgeUi_follows _ _ _) (by decide) ?_
  refine Follows.next (State.uiShunt_follows _ _ _) (by decide) ?_
  refine Follows.next (Follows.snd (by assumption) (State.uiReading_follows _ _ _)) (by decide) ?_
  assumption
  unfold x2
  extract_lets +onlyGivenNames x10
  extract_lets +onlyGivenNames x11
  have h11 : Follows [.free, .reg, .ui] s x11 := by
    unfold x11
    refine Follows.next (State.setUi_follows _ _ _) (by decide) ?_
    assumption
  clear_value x11
  split
  refine Follows.next (State.judgeUi_follows _ _ _) (by decide) ?_
  refine Follows.next (State.uiShunt_follows _ _ _) (by decide) ?_
  refine Follows.next (Follows.snd (by assumption) (State.uiReading_follows _ _ _)) (by decide) ?_
  assumption

theorem State.lateLaunch_follows (s : State) (n : Nat) :
    Follows [.reg, .answers, .mirror, .ses, .bb] s (State.lateLaunch s n) := by
  unfold State.lateLaunch
  extract_lets +onlyGivenNames x0
  refine Follows.next (State.logOnce_follows _ _ _ _ _ _ _) (by decide) ?_
  refine Follows.next (State.bump_follows _ _ _) (by decide) ?_
  exact Follows.rfl' _ _

theorem State.fireAction_follows (s : State) (e : SlotS) :
    Follows [.reg, .answers, .mirror, .vd, .fn, .lk, .ses, .bb] s (State.fireAction s e) := by
  unfold State.fireAction
  extract_lets +onlyGivenNames x0
  split
  extract_lets +onlyGivenNames x1
  refine Follows.next (State.setIdx_follows _ _ _ _) (by decide) ?_
  exact Follows.rfl' _ _
  refine Follows.next (State.answer_follows _ _ _ _) (by decide) ?_
  refine Follows.upd ⟨?_, ?_⟩ ?_
  · intro p hp; cases p <;> first | exact absurd (by decide) hp | rfl
  · exact fun h => ⟨h.mem, h.window, h.records, h.gate, h.sessions, h.amend, h.held, h.stamps⟩
  exact Follows.rfl' _ _
  refine Follows.next (State.answer_follows _ _ _ _) (by decide) ?_
  exact Follows.rfl' _ _
  refine Follows.next (State.enterFifo_follows _ _ _) (by decide) ?_
  exact Follows.rfl' _ _
  refine Follows.next (State.log_follows _ _ _ _ _ _ _) (by decide) ?_
  exact Follows.rfl' _ _
  exact Follows.rfl' _ _

theorem State.fireOne_follows (s : State) (n : Nat) (late : Bool) :
    Follows [.reg, .answers, .mirror, .ln, .vd, .fn, .lk, .ses, .bb] s (State.fireOne s n late) := by
  unfold State.fireOne
  extract_lets +onlyGivenNames x0
  extract_lets +onlyGivenNames x1
  have h1 : Follows [.reg, .answers, .mirror, .ln, .vd, .fn, .lk, .ses, .bb] s x1 := by
    unfold x1
    refine Follows.next (State.setSlot_follows _ _ _) (by decide) ?_
    exact Follows.rfl' _ _
  clear_value x1
  extract_lets +onlyGivenNames x2
  have h2 : Follows [.reg, .answers, .mirror, .ln, .vd, .fn, .lk, .ses, .bb] s x2 := by
    unfold x2
    refine Follows.ite ?_ ?_
    intro a3
    refine Follows.next (State.lateLaunch_follows _ _) (by decide) ?_
    assumption
    intro a4
    assumption
  clear_value x2
  refine Follows.ite ?_ ?_
  intro a5
  refine Follows.next (State.fireAction_follows _ _) (by decide) ?_
  assumption
  intro a6
  refine Follows.ite ?_ ?_
  intro a7
  refine Follows.next (State.bump_follows _ _ _) (by decide) ?_
  assumption
  intro a8
  assumption

theorem State.fireDue_follows (s : State) (p : SlotS → Bool) :
    Follows [.reg, .answers, .mirror, .ln, .vd, .fn, .lk, .ses, .bb] s (State.fireDue s p) := by
  unfold State.fireDue
  refine Follows.foldl _ ?_ ?_
  exact Follows.rfl' _ _
  intro a0 a1
  refine Follows.next (State.fireOne_follows _ _ _) (by decide) ?_
  exact Follows.rfl' _ _

theorem State.showBind_follows (s : State) (n : Nat) :
    Follows [.reg] s (State.showBind s n) := by
  unfold State.showBind
  extract_lets +onlyGivenNames x0
  extract_lets +onlyGivenNames x1
  refine Follows.next (State.wr_follows _ _ _) (by decide) ?_
  exact Follows.rfl' _ _

theorem State.setBind_follows (s : State) (n : Nat) (b : BindS) :
    Follows [.obs] s (State.setBind s n b) := by
  unfold State.setBind
  refine Follows.upd ⟨?_, ?_⟩ ?_
  · intro p hp; cases p <;> first | exact absurd (by decide) hp | rfl
  · exact fun h => ⟨h.mem, h.window, h.records, h.gate, h.sessions, h.amend, h.held, h.stamps⟩
  exact Follows.rfl' _ _

theorem State.judgeDrift_follows (s : State) (n : Nat) :
    Follows [.reg, .answers, .mirror, .obs, .ses, .bb] s (State.judgeDrift s n) := by
  unfold State.judgeDrift
  refine Follows.ite ?_ ?_
  intro a0
  exact Follows.rfl' _ _
  intro a1
  extract_lets +onlyGivenNames x2
  extract_lets +onlyGivenNames x3
  split
  refine Follows.next (State.showBind_follows _ _) (by decide) ?_
  refine Follows.next (State.setBind_follows _ _ _) (by decide) ?_
  exact Follows.rfl' _ _
  extract_lets +onlyGivenNames x4
  extract_lets +onlyGivenNames x5
  refine Follows.ite ?_ ?_
  intro a6
  refine Follows.next (State.logOnce_follows _ _ _ _ _ _ _) (by decide) ?_
  refine Follows.next (State.showBind_follows _ _) (by decide) ?_
  refine Follows.next (State.setBind_follows _ _ _) (by decide) ?_
  exact Follows.rfl' _ _
  intro a7
  exact Follows.rfl' _ _

theorem State.takeTransport_follows (s : State) (ch : Nat) (id : Nat) (ide : Bool) (data : List Nat) :
    Follows [.reg, .answers, .mirror, .lk, .ses, .bb, .gn] s (State.takeTransport s ch id ide data) := by
  unfold State.takeTransport
  split
  exact Follows.rfl' _ _
  extract_lets +onlyGivenNames x0
  extract_lets +onlyGivenNames x1
  have h1 : Follows [.reg, .answers, .mirror, .lk, .ses, .bb, .gn] s x1 := by
    unfold x1
    refine Follows.upd ⟨?_, ?_⟩ ?_
    · intro p hp; cases p <;> first | exact absurd (by decide) hp | rfl
    · exact fun h => ⟨h.mem, h.window, h.records, h.gate, h.sessions, h.amend, h.held, h.stamps⟩
    exact Follows.rfl' _ _
  clear_value x1
  refine Follows.ite ?_ ?_
  intro a2
  refine Follows.next (State.stackFrame_follows _ _ _ _) (by decide) ?_
  assumption
  intro a3
  assumption

theorem State.setSession_follows (s : State) (num : Nat) (f : SessionS → SessionS) :
    Follows [.ses] s (State.setSession s num f) := by
  unfold State.setSession
  refine Follows.upd ⟨?_, ?_⟩ ?_
  · intro p hp; cases p <;> first | exact absurd (by decide) hp | rfl
  · exact fun h => ⟨h.mem, h.window, h.records, h.gate, by simpa using h.sessions, h.amend, h.held, h.stamps⟩
  exact Follows.rfl' _ _

theorem State.remember_follows (s : State) (num : Nat) (bytes : List Nat) (l : List Answer) :
    Follows [.ses] s (State.remember s num bytes l) := by
  unfold State.remember
  refine Follows.next (State.setSession_follows _ _ _) (by decide) ?_
  exact Follows.rfl' _ _

theorem State.respond_follows (s : State) (num : Nat) (m : MsgIn) (before : Nat) :
    Follows [.answers, .ses] s (State.respond s num m before) := by
  unfold State.respond
  extract_lets +onlyGivenNames x0
  refine Follows.next (State.remember_follows _ _ _ _) (by decide) ?_
  refine Follows.upd ⟨?_, ?_⟩ ?_
  · intro p hp; cases p <;> first | exact absurd (by decide) hp | rfl
  · exact fun h => ⟨h.mem, h.window, h.records, h.gate, h.sessions, h.amend, h.held, h.stamps⟩
  exact Follows.rfl' _ _

theorem State.e2eCount_follows (s : State) (num : Nat) :
    Follows [.reg] s (State.e2eCount s num) := by
  unfold State.e2eCount
  refine Follows.next (State.bump_follows _ _ _) (by decide) ?_
  refine Follows.next (State.bump_follows _ _ _) (by decide) ?_
  exact Follows.rfl' _ _

theorem State.e2eRefuse_follows (s : State) (num : Nat) (id : Nat) (code : Nat) :
    Follows [.reg, .answers, .mirror, .ses, .bb] s (State.e2eRefuse s num id code) := by
  unfold State.e2eRefuse
  refine Follows.next (State.logOnce_follows _ _ _ _ _ _ _) (by decide) ?_
  refine Follows.next (State.e2eCount_follows _ _) (by decide) ?_
  exact Follows.rfl' _ _

theorem State.setAlive_follows (s : State) (num : Nat) (id : Nat) (alive : Nat) (accepted : Bool) :
    Follows [.ses] s (State.setAlive s num id alive accepted) := by
  unfold State.setAlive
  extract_lets +onlyGivenNames x0
  extract_lets +onlyGivenNames x1
  extract_lets +onlyGivenNames x2
  extract_lets +onlyGivenNames x3
  refine Follows.upd ⟨?_, ?_⟩ ?_
  · intro p hp; cases p <;> first | exact absurd (by decide) hp | rfl
  · exact fun h => ⟨h.mem, h.window, h.records, h.gate, h.sessions, h.amend, h.held, h.stamps⟩
  exact Follows.rfl' _ _

theorem State.e2eCheck_follows (s : State) (num : Nat) (m : MsgIn) (e : E2eS) :
    Follows [.reg, .answers, .mirror, .ses, .bb] s (State.e2eCheck s num m e).2 := by
  unfold State.e2eCheck
  split
  dsimp only
  refine Follows.next (State.e2eRefuse_follows _ _ _ _) (by decide) ?_
  exact Follows.rfl' _ _
  split
  dsimp only
  refine Follows.next (State.e2eRefuse_follows _ _ _ _) (by decide) ?_
  exact Follows.rfl' _ _
  split
  dsimp only
  refine Follows.next (State.e2eRefuse_follows _ _ _ _) (by decide) ?_
  exact Follows.rfl' _ _
  split
  dsimp only
  refine Follows.next (State.setAlive_follows _ _ _ _ _) (by decide) ?_
  exact Follows.rfl' _ _
  dsimp only
  split
  dsimp only
  refine Follows.next (State.e2eCount_follows _ _) (by decide) ?_
  exact Follows.rfl' _ _
  split
  dsimp only
  refine Follows.next (State.setAlive_follows _ _ _ _ _) (by decide) ?_
  exact Follows.rfl' _ _
  dsimp only
  refine Follows.next (State.setAlive_follows _ _ _ _ _) (by decide) ?_
  refine Follows.next (State.e2eRefuse_follows _ _ _ _) (by decide) ?_
  exact Follows.rfl' _ _

theorem State.dropSession_follows (s : State) (num : Nat) : Follows [.reg, .ses] s (State.dropSession s num) := by
  unfold State.dropSession
  extract_lets +onlyGivenNames slot x00 x0
  have h0 : Follows [.reg, .ses] s x0 := by
    refine Follows.upd ⟨?_, ?_⟩ (Follows.rfl' _ _)
    · intro p hp; cases p <;> first | exact absurd (by decide) hp | rfl
    · exact fun b => ⟨b.mem, b.window, b.records, b.gate, Nat.le_trans (List.length_filter_le _ _) b.sessions, b.amend, b.held, b.stamps⟩
  clear_value x0
  refine Follows.next (State.wr_follows _ _ _) (by decide) ?_
  exact Follows.next (State.wrs_follows _ _) (by decide) h0

theorem State.closeSession_follows (s : State) (num : Nat) (reason : Nat) :
    Follows [.reg, .answers, .mirror, .ses, .bb] s (State.closeSession s num reason) := by
  unfold State.closeSession
  split
  exact Follows.rfl' _ _
  refine Follows.next (State.log_follows _ _ _ _ _ _ _) (by decide) ?_
  refine Follows.next (State.dropSession_follows _ _) (by decide) ?_
  exact Follows.rfl' _ _

theorem State.discard_follows (s : State) (num : Nat) :
    Follows [.reg, .answers, .mirror, .ses, .bb] s (State.discard s num) := by
  unfold State.discard
  split
  refine Follows.ite ?_ ?_
  intro a0
  refine Follows.next (State.closeSession_follows _ _ _) (by decide) ?_
  exact Follows.rfl' _ _
  intro a1
  exact Follows.rfl' _ _
  exact Follows.rfl' _ _

theorem State.touch_follows (s : State) (num : Nat) :
    Follows [.ses] s (State.touch s num) := by
  unfold State.touch
  refine Follows.next (State.setSession_follows _ _ _) (by decide) ?_
  exact Follows.rfl' _ _

/-- A message to a session's service changes what its own action changes and the session. -/
theorem State.onMessage_follows (l : List Part) (s : State) (num svc : Nat) (m : MsgIn) (act : State → State)
    (hl : [.reg, .answers, .mirror, .ses, .bb] ⊆ l) (h : ∀ u, Follows l u (act u)) :
    Follows l s (s.onMessage num svc m act) := by
  unfold State.onMessage
  refine Follows.ite (fun _ => Follows.next (State.discard_follows _ _)
    (List.Subset.trans (by decide) hl) (Follows.rfl' _ _)) (fun _ => ?_)
  have ht : Follows l s (s.touch num) := Follows.next (State.touch_follows _ _)
    (List.Subset.trans (by decide) hl) (Follows.rfl' _ _)
  split
  · refine Follows.upd ⟨?_, ?_⟩ ht
    · intro p hp
      cases p <;> first | rfl | exact absurd (hl (by decide)) hp
    · exact fun b => ⟨b.mem, b.window, b.records, b.gate, b.sessions, b.amend, b.held, b.stamps⟩
  · split
    · refine Follows.ite (fun _ => Follows.next (State.answer_follows _ _ _ _)
        (List.Subset.trans (by decide) hl) (Follows.rfl' _ _)) (fun _ => ?_)
      refine Follows.next (State.respond_follows _ _ _ _) (List.Subset.trans (by decide) hl) ?_
      exact Follows.next (State.reply_follows _ _ _ _) (List.Subset.trans (by decide) hl) ht
    · exact Follows.next (State.respond_follows _ _ _ _) (List.Subset.trans (by decide) hl) (ht.trans (h _))

theorem State.protect_follows (s : State) (num : Nat) (m : MsgIn) :
    Follows [.reg, .answers, .mirror, .ses, .bb] s (State.protect s num m).2 := by
  unfold State.protect
  split
  dsimp only
  exact Follows.rfl' _ _
  refine Follows.next (State.e2eCheck_follows _ _ _ _) (by decide) ?_
  exact Follows.rfl' _ _

theorem State.saveCtrlSeq_follows (s : State) (seqNext : Nat) :
    Follows [.bb] s (State.saveCtrlSeq s seqNext) := by
  unfold State.saveCtrlSeq
  extract_lets +onlyGivenNames x0
  refine Follows.ite ?_ ?_
  intro a1
  refine Follows.upd ⟨?_, ?_⟩ ?_
  · intro p hp; cases p <;> first | exact absurd (by decide) hp | rfl
  · exact fun h => ⟨h.mem, h.window, h.records, h.gate, h.sessions, h.amend, h.held, h.stamps⟩
  exact Follows.rfl' _ _
  intro a2
  refine Follows.upd ⟨?_, ?_⟩ ?_
  · intro p hp; cases p <;> first | exact absurd (by decide) hp | rfl
  · exact fun h => ⟨h.mem, h.window, h.records, h.gate, h.sessions, h.amend, h.held, h.stamps⟩
  exact Follows.rfl' _ _

theorem State.holdBlock_follows (s : State) (first : Nat) :
    Follows [.bb] s (State.holdBlock s first) := by
  unfold State.holdBlock
  refine Follows.ite ?_ ?_
  intro a0
  refine Follows.upd ⟨?_, ?_⟩ ?_
  · intro p hp; cases p <;> first | exact absurd (by decide) hp | rfl
  · exact fun h => ⟨h.mem, h.window, h.records, h.gate, h.sessions, h.amend, h.held, h.stamps⟩
  exact Follows.rfl' _ _
  intro a1
  exact Follows.rfl' _ _

theorem State.handOut_follows (s : State) (unit : Nat) :
    Follows [.answers, .bb] s (State.handOut s unit) := by
  unfold State.handOut
  extract_lets +onlyGivenNames x0
  extract_lets +onlyGivenNames x1
  have h1 : Follows [.answers, .bb] s x1 := by
    unfold x1
    refine Follows.next (State.saveCtrlSeq_follows _ _) (by decide) ?_
    exact Follows.rfl' _ _
  clear_value x1
  refine Follows.ite ?_ ?_
  intro a2
  refine Follows.next (State.holdBlock_follows _ _) (by decide) ?_
  assumption
  intro a3
  refine Follows.next (State.answer_follows _ _ _ _) (by decide) ?_
  assumption

theorem State.askSeq_follows (s : State) :
    Follows [.answers, .bb] s (State.askSeq s) := by
  unfold State.askSeq
  refine Follows.ite ?_ ?_
  intro a0
  exact Follows.rfl' _ _
  intro a1
  refine Follows.ite ?_ ?_
  intro a2
  refine Follows.next (State.answer_follows _ _ _ _) (by decide) ?_
  exact Follows.rfl' _ _
  intro a3
  refine Follows.next (State.handOut_follows _ _) (by decide) ?_
  exact Follows.rfl' _ _

theorem State.saveCtrl_follows (s : State) :
    Follows [.bb] s (State.saveCtrl s) := by
  unfold State.saveCtrl
  refine Follows.next (State.saveCtrlSeq_follows _ _) (by decide) ?_
  exact Follows.rfl' _ _

theorem State.nextStamp_follows (s : State) :
    Follows [.bb] s (State.nextStamp s).2 := by
  unfold State.nextStamp
  split
  dsimp only
  exact Follows.rfl' _ _
  split
  dsimp only
  refine Follows.upd ⟨?_, ?_⟩ ?_
  · intro p hp; cases p <;> first | exact absurd (by decide) hp | rfl
  · exact fun h => ⟨h.mem, h.window, h.records, h.gate, h.sessions, h.amend, h.held, h.stamps⟩
  exact Follows.rfl' _ _
  dsimp only
  refine Follows.upd ⟨?_, ?_⟩ ?_
  · intro p hp; cases p <;> first | exact absurd (by decide) hp | rfl
  · exact fun h => ⟨h.mem, h.window, h.records, h.gate, h.sessions, h.amend, h.held, h.stamps⟩
  exact Follows.rfl' _ _

theorem State.storePerm_follows (s : State) (r : BbRec) :
    Follows [.reg, .answers, .mirror, .ses, .bb] s (State.storePerm s r) := by
  unfold State.storePerm
  extract_lets +onlyGivenNames x0
  extract_lets +onlyGivenNames x1
  extract_lets +onlyGivenNames x2
  extract_lets +onlyGivenNames x3
  have h3 : Follows [.reg, .answers, .mirror, .ses, .bb] s x3 := by
    unfold x3
    refine Follows.upd ⟨?_, ?_⟩ ?_
    · intro p hp; cases p <;> first | exact absurd (by decide) hp | rfl
    · exact fun h => ⟨h.mem, h.window, h.records, h.gate, h.sessions, h.amend, h.held, h.stamps⟩
    exact Follows.rfl' _ _
  clear_value x3
  refine Follows.ite ?_ ?_
  intro a4
  assumption
  intro a5
  extract_lets +onlyGivenNames x6
  extract_lets +onlyGivenNames x7
  have h7 : Follows [.reg, .answers, .mirror, .ses, .bb] s x7 := by
    unfold x7
    refine Follows.next (State.bump_follows _ _ _) (by decide) ?_
    refine Follows.upd ⟨?_, ?_⟩ ?_
    · intro p hp; cases p <;> first | exact absurd (by decide) hp | rfl
    · exact fun h => ⟨h.mem, h.window, h.records, h.gate, h.sessions, h.amend, h.held, h.stamps⟩
    assumption
  clear_value x7
  refine Follows.ite ?_ ?_
  intro a8
  refine Follows.next (State.log_follows _ _ _ _ _ _ _) (by decide) ?_
  refine Follows.next (State.wr_follows _ _ _) (by decide) ?_
  refine Follows.upd ⟨?_, ?_⟩ ?_
  · intro p hp; cases p <;> first | exact absurd (by decide) hp | rfl
  · exact fun h => ⟨h.mem, h.window, h.records, h.gate, h.sessions, h.amend, h.held, h.stamps⟩
  assumption
  intro a9
  assumption

theorem State.storeCirc_follows (s : State) (r : BbRec) :
    Follows [.reg, .bb] s (State.storeCirc s r) := by
  unfold State.storeCirc
  extract_lets +onlyGivenNames x0
  extract_lets +onlyGivenNames x1
  extract_lets +onlyGivenNames x2
  extract_lets +onlyGivenNames x3
  extract_lets +onlyGivenNames x4
  extract_lets +onlyGivenNames x5
  extract_lets +onlyGivenNames x6
  extract_lets +onlyGivenNames x7
  have h7 : Follows [.reg, .bb] s x7 := by
    unfold x7
    refine Follows.upd ⟨?_, ?_⟩ ?_
    · intro p hp; cases p <;> first | exact absurd (by decide) hp | rfl
    · exact fun h => ⟨h.mem, h.window, h.records, h.gate, h.sessions, h.amend, h.held, h.stamps⟩
    exact Follows.rfl' _ _
  clear_value x7
  refine Follows.ite ?_ ?_
  intro a8
  refine Follows.next (State.wr_follows _ _ _) (by decide) ?_
  assumption
  intro a9
  refine Follows.next (State.wr_follows _ _ _) (by decide) ?_
  assumption

theorem State.bbWrite_follows (s : State) (it : BbItem) (stepsDone : Nat) :
    Follows [.reg, .answers, .mirror, .ses, .bb] s (State.bbWrite s it stepsDone) := by
  unfold State.bbWrite
  split
  extract_lets +onlyGivenNames x0
  extract_lets +onlyGivenNames x1
  have h1 : Follows [.reg, .answers, .mirror, .ses, .bb] s x1 := by
    unfold x1
    refine Follows.ite ?_ ?_
    intro a2
    refine Follows.next (State.storePerm_follows _ _) (by decide) ?_
    refine Follows.next (Follows.snd (by assumption) (State.nextStamp_follows _)) (by decide) ?_
    exact Follows.rfl' _ _
    intro a3
    refine Follows.next (State.storeCirc_follows _ _) (by decide) ?_
    refine Follows.next (Follows.snd (by assumption) (State.nextStamp_follows _)) (by decide) ?_
    exact Follows.rfl' _ _
  clear_value x1
  refine Follows.ite ?_ ?_
  intro a4
  refine Follows.next (State.saveCtrl_follows _) (by decide) ?_
  assumption
  intro a5
  assumption

theorem State.bbFlush_follows (s : State) :
    Follows [.reg, .answers, .mirror, .ses, .bb] s (State.bbFlush s) := by
  unfold State.bbFlush
  extract_lets +onlyGivenNames x0
  refine Follows.foldl _ ?_ ?_
  refine Follows.upd ⟨?_, ?_⟩ ?_
  · intro p hp; cases p <;> first | exact absurd (by decide) hp | rfl
  · exact fun h => ⟨h.mem, h.window, Nat.zero_le _, h.gate, h.sessions, h.amend, h.held, h.stamps⟩
  exact Follows.rfl' _ _
  intro a1 a2
  refine Follows.next (State.bbWrite_follows _ _ _) (by decide) ?_
  exact Follows.rfl' _ _

theorem State.fireSlot_follows (s : State) (n : Nat) (late : Bool) :
    Follows [.reg, .answers, .mirror, .ln, .vd, .fn, .lk, .ses, .bb] s (State.fireSlot s n late) := by
  unfold State.fireSlot
  extract_lets +onlyGivenNames x0
  refine Follows.next (State.fireOne_follows _ _ _) (by decide) ?_
  refine Follows.next (State.fireDue_follows _ _) (by decide) ?_
  exact Follows.rfl' _ _

theorem State.acceptEntry_follows (s : State) (session : Nat) (e : EntryIn) :
    Follows [.reg, .answers, .mirror, .ln, .vd, .fn, .lk, .ses, .bb] s (State.acceptEntry s session e) := by
  unfold State.acceptEntry
  extract_lets +onlyGivenNames x0
  extract_lets +onlyGivenNames x1
  extract_lets +onlyGivenNames x2
  extract_lets +onlyGivenNames x3
  extract_lets +onlyGivenNames x4
  extract_lets +onlyGivenNames x5
  have h5 : Follows [.reg, .answers, .mirror, .ln, .vd, .fn, .lk, .ses, .bb] s x5 := by
    unfold x5
    refine Follows.upd ⟨?_, ?_⟩ ?_
    · intro p hp; cases p <;> first | exact absurd (by decide) hp | rfl
    · exact fun h => ⟨h.mem, h.window, h.records, h.gate, h.sessions, h.amend, h.held, h.stamps⟩
    exact Follows.rfl' _ _
  clear_value x5
  extract_lets +onlyGivenNames x6
  have h6 : Follows [.reg, .answers, .mirror, .ln, .vd, .fn, .lk, .ses, .bb] s x6 := by
    unfold x6
    refine Follows.next (State.reply_follows _ _ _ _) (by decide) ?_
    refine Follows.next (State.setSlot_follows _ _ _) (by decide) ?_
    assumption
  clear_value x6
  refine Follows.ite ?_ ?_
  intro a7
  refine Follows.next (State.fireSlot_follows _ _ _) (by decide) ?_
  assumption
  intro a8
  assumption

theorem State.insertEntry_follows (s : State) (session : Nat) (unit : Nat) (entry : EntryIn) (remote : Nat × List Int) :
    Follows [.reg, .answers, .mirror, .ln, .vd, .fn, .lk, .ses, .bb] s (State.insertEntry s session unit entry remote) := by
  unfold State.insertEntry
  refine Follows.ite ?_ ?_
  intro a0
  refine Follows.next (State.lnRefuse_follows _ _ _ _) (by decide) ?_
  exact Follows.rfl' _ _
  intro a1
  refine Follows.ite ?_ ?_
  intro a2
  refine Follows.next (State.reply_follows _ _ _ _) (by decide) ?_
  refine Follows.next (State.answer_follows _ _ _ _) (by decide) ?_
  exact Follows.rfl' _ _
  intro a3
  split
  refine Follows.next (State.lnRefuse_follows _ _ _ _) (by decide) ?_
  exact Follows.rfl' _ _
  refine Follows.next (State.acceptEntry_follows _ _ _) (by decide) ?_
  exact Follows.rfl' _ _

theorem State.dropSlot_follows (s : State) (n : Nat) :
    Follows [.reg, .answers, .mirror, .ln, .ses, .bb] s (State.dropSlot s n) := by
  unfold State.dropSlot
  extract_lets +onlyGivenNames x0
  refine Follows.next (State.logOnce_follows _ _ _ _ _ _ _) (by decide) ?_
  refine Follows.next (State.bump_follows _ _ _) (by decide) ?_
  refine Follows.next (State.setSlot_follows _ _ _) (by decide) ?_
  exact Follows.rfl' _ _

theorem State.unusedFn_follows (s : State) (session : Nat) (f : Nat) (i : Nat) :
    Follows [.reg, .answers, .mirror, .ses, .bb] s (State.unusedFn s session f i) := by
  unfold State.unusedFn
  refine Follows.next (State.reply_follows _ _ _ _) (by decide) ?_
  refine Follows.next (State.log_follows _ _ _ _ _ _ _) (by decide) ?_
  exact Follows.rfl' _ _

/-- What is amended stays amended through another entry. -/
theorem amended_put (s : State) (unit kind key value k : Nat) (h : s.amended unit k = true ∨ k = key) :
    (s.amendPut unit kind key value).amended unit k = true := by
  show (s.amend.filter _ ++ [_]).any _ = true
  simp only [List.any_append, List.any_cons, List.any_nil, Bool.or_false, Bool.or_eq_true]
  by_cases e : key = k
  · right; simp [e]
  · left
    rcases h with h | h
    · obtain ⟨a, ha, hk⟩ := List.any_eq_true.mp h
      refine List.any_eq_true.mpr ⟨a, List.mem_filter.mpr ⟨ha, ?_⟩, hk⟩
      simp only [Bool.and_eq_true, decide_eq_true_eq] at hk
      simp [hk.1, Ne.symm e]
    · exact absurd h.symm e

/-- Writes entered as amendments, when the list has a place for each key that has none yet (R210). -/
theorem amendAll_follows (unit : Nat) (ws : List (Nat × Nat)) (s : State) (ks : List Nat)
    (hk : ∀ w ∈ ws, s.amended unit w.1 = true ∨ w.1 ∈ ks) :
    Frame [.reg, .amend] s (ws.foldl (fun (u : State) (w : Nat × Nat) => (u.wr w.1 w.2).amendPut unit 0 w.1 w.2) s) ∧
    (s.amend.length + ks.length ≤ 256 → Bounded s →
      Bounded (ws.foldl (fun (u : State) (w : Nat × Nat) => (u.wr w.1 w.2).amendPut unit 0 w.1 w.2) s)) := by
  induction ws generalizing s ks with
  | nil => exact ⟨Frame.rfl' _ _, fun _ => id⟩
  | cons w ws ih =>
    have hw : Follows [.reg] s (s.wr w.1 w.2) := Follows.next (State.wr_follows _ _ _) (by decide) (Follows.rfl' _ _)
    have ha : (s.wr w.1 w.2).amend = s.amend := rfl
    have hm : ∀ k, (s.wr w.1 w.2).amended unit k = s.amended unit k := fun _ => rfl
    have f1 : Frame [.reg, .amend] s ((s.wr w.1 w.2).amendPut unit 0 w.1 w.2) :=
      (hw.frame.mono (by decide)).trans (by
        intro p hp; cases p <;> first | exact absurd (by decide) hp | rfl)
    have hl := amendPut_length (s.wr w.1 w.2) unit 0 w.1 w.2
    rw [hm, ha] at hl
    rw [List.foldl_cons]
    by_cases hp : s.amended unit w.1 = true
    · rw [if_pos hp] at hl
      obtain ⟨f, b⟩ := ih ((s.wr w.1 w.2).amendPut unit 0 w.1 w.2) ks (fun x hx => by
        rcases hk x (List.mem_cons_of_mem _ hx) with h | h
        · exact Or.inl (amended_put _ _ _ _ _ _ (Or.inl ((hm _).trans h)))
        · exact Or.inr h)
      refine ⟨f1.trans f, fun r h => b (by omega) (amendPut_bounded _ _ _ _ _ (hw.bounded h) ?_)⟩
      rw [hm, ha, if_pos hp]; omega
    · rw [if_neg hp] at hl
      have hin : w.1 ∈ ks := (hk w List.mem_cons_self).resolve_left hp
      have hlen := List.length_erase_of_mem hin
      have hpos : 0 < ks.length := List.length_pos_of_mem hin
      obtain ⟨f, b⟩ := ih ((s.wr w.1 w.2).amendPut unit 0 w.1 w.2) (ks.erase w.1) (fun x hx => by
        by_cases e : x.1 = w.1
        · exact Or.inl (amended_put _ _ _ _ _ _ (Or.inr e))
        · rcases hk x (List.mem_cons_of_mem _ hx) with h | h
          · exact Or.inl (amended_put _ _ _ _ _ _ (Or.inl ((hm _).trans h)))
          · exact Or.inr ((List.mem_erase_of_ne e).mpr h))
      refine ⟨f1.trans f, fun r h => b (by omega) (amendPut_bounded _ _ _ _ _ (hw.bounded h) ?_)⟩
      rw [hm, ha, if_neg hp]; omega

/-- A change set enters its writes where the list has room for them (R210). -/
theorem State.enterSet_follows (s : State) (f unit : Nat) (writes : List (Nat × Nat)) :
    Frame [.reg, .amend] s (s.enterSet f unit writes) ∧
    (s.amend.length + (s.freshKeys unit writes).length ≤ 256 → Bounded s → Bounded (s.enterSet f unit writes)) := by
  unfold State.enterSet
  obtain ⟨fr, b⟩ := amendAll_follows unit writes s (s.freshKeys unit writes) (fun w hw => by
    by_cases h : s.amended unit w.1 = true
    · exact Or.inl h
    · exact Or.inr (List.mem_filter.mpr ⟨List.mem_eraseDups.mpr (List.mem_map.mpr ⟨w, hw, rfl⟩), by simp [h]⟩))
  have k : ∀ u : State, Follows [.reg, .amend] u (u.amendCount.wr (R.FN_STAT_AMENDED f) 1) := fun u =>
    Follows.next (State.wr_follows _ _ _) (by decide)
      (Follows.next (State.amendCount_follows _) (by decide) (Follows.rfl' _ _))
  exact ⟨fr.trans (k _).frame, fun r h => (k _).bounded (b r h)⟩

theorem State.takeSide_follows (s : State) (f : Nat) (instant : Int) :
    Follows [.reg, .board, .fn] s (State.takeSide s f instant) := by
  unfold State.takeSide
  extract_lets +onlyGivenNames x0
  split
  exact Follows.rfl' _ _
  extract_lets +onlyGivenNames x1
  extract_lets +onlyGivenNames x2
  have h2 : Follows [.reg, .board, .fn] s x2 := by
    unfold x2
    refine Follows.upd ⟨?_, ?_⟩ ?_
    · intro p hp; cases p <;> first | exact absurd (by decide) hp | rfl
    · exact fun h => ⟨h.mem, h.window, h.records, h.gate, h.sessions, h.amend, h.held, h.stamps⟩
    exact Follows.rfl' _ _
  clear_value x2
  refine Follows.next (State.wrs_follows _ _) (by decide) ?_
  refine Follows.next (State.setFn_follows _ _ _) (by decide) ?_
  assumption

theorem State.fnMode_follows (s : State) (session : Nat) (req : Nat) :
    Follows [.reg, .answers, .mirror, .ses, .bb] s (State.fnMode s session req) := by
  unfold State.fnMode
  refine Follows.next (State.reply_follows _ _ _ _) (by decide) ?_
  refine Follows.next (State.log_follows _ _ _ _ _ _ _) (by decide) ?_
  exact Follows.rfl' _ _

theorem State.sendAmend_follows (s : State) (session : Nat) (req : Nat) :
    Follows [.reg, .answers, .mirror, .ses, .bb] s (State.sendAmend s session req) := by
  unfold State.sendAmend
  refine Follows.ite ?_ ?_
  intro a0
  refine Follows.next (State.reply_follows _ _ _ _) (by decide) ?_
  exact Follows.rfl' _ _
  intro a1
  refine Follows.ite ?_ ?_
  intro a2
  refine Follows.next (State.fnMode_follows _ _ _) (by decide) ?_
  exact Follows.rfl' _ _
  intro a3
  refine Follows.next (State.reply_follows _ _ _ _) (by decide) ?_
  exact Follows.rfl' _ _

theorem State.guideLaunch_follows (s : State) :
    Follows [.reg, .answers, .mirror, .ln, .fn, .eng, .ses, .bb, .gd] s (State.guideLaunch s) := by
  unfold State.guideLaunch
  extract_lets +onlyGivenNames x0
  refine Follows.ite ?_ ?_
  intro a1
  exact Follows.rfl' _ _
  intro a2
  refine Follows.ite ?_ ?_
  intro a3
  refine Follows.next (State.stopFn_follows _ _ _ _) (by decide) ?_
  exact Follows.rfl' _ _
  intro a4
  split
  refine Follows.ite ?_ ?_
  intro a5
  refine Follows.next (State.stopFn_follows _ _ _ _) (by decide) ?_
  exact Follows.rfl' _ _
  intro a6
  exact Follows.rfl' _ _
  exact Follows.rfl' _ _

theorem State.restartFn_follows (s : State) (f : Nat) (changeSet : Bool) (readings : List (Nat × Nat)) :
    Follows [.reg, .answers, .mirror, .ln, .fn, .eng, .ses, .bb, .gd] s (State.restartFn s f changeSet readings) := by
  unfold State.restartFn
  extract_lets +onlyGivenNames x0
  extract_lets +onlyGivenNames x1
  have h1 : Follows [.reg, .answers, .mirror, .ln, .fn, .eng, .ses, .bb, .gd] s x1 := by
    unfold x1
    refine Follows.foldl _ ?_ ?_
    exact Follows.rfl' _ _
    intro a2 a3
    extract_lets +onlyGivenNames x4
    extract_lets +onlyGivenNames x5
    have h5 : Follows [.reg, .answers, .mirror, .ln, .fn, .eng, .ses, .bb, .gd] a2 x5 := by
      unfold x5
      refine Follows.next (State.setLoop_follows _ _ _) (by decide) ?_
      exact Follows.rfl' _ _
    clear_value x5
    refine Follows.ite ?_ ?_
    intro a6
    assumption
    intro a7
    refine Follows.next (State.wr_follows _ _ _) (by decide) ?_
    assumption
  clear_value x1
  extract_lets +onlyGivenNames x8
  have h8 : Follows [.reg, .answers, .mirror, .ln, .fn, .eng, .ses, .bb, .gd] s x8 := by
    unfold x8
    refine Follows.ite ?_ ?_
    intro a9
    refine Follows.next (State.wr_follows _ _ _) (by decide) ?_
    assumption
    intro a10
    assumption
  clear_value x8
  extract_lets +onlyGivenNames x11
  extract_lets +onlyGivenNames x12
  have h12 : Follows [.reg, .answers, .mirror, .ln, .fn, .eng, .ses, .bb, .gd] s x12 := by
    unfold x12
    refine Follows.next (State.wr_follows _ _ _) (by decide) ?_
    refine Follows.next (State.setFn_follows _ _ _) (by decide) ?_
    assumption
  clear_value x12
  extract_lets +onlyGivenNames x13
  have h13 : Follows [.reg, .answers, .mirror, .ln, .fn, .eng, .ses, .bb, .gd] s x13 := by
    unfold x13
    refine Follows.next (State.dtcRestart_follows _ _) (by decide) ?_
    refine Follows.next (State.log_follows _ _ _ _ _ _ _) (by decide) ?_
    assumption
  clear_value x13
  refine Follows.ite ?_ ?_
  intro a14
  refine Follows.next (State.judgeInterlock_follows _ _) (by decide) ?_
  assumption
  intro a15
  assumption

theorem State.launchOpen_follows (s : State) (f : Nat) :
    Follows [.answers, .fn] s (State.launchOpen s f) := by
  unfold State.launchOpen
  refine Follows.ite ?_ ?_
  intro a0
  refine Follows.next (State.sendCmd_follows _ _ _ _) (by decide) ?_
  exact Follows.rfl' _ _
  intro a1
  exact Follows.rfl' _ _

theorem State.dueRestart_follows (s : State) (f : Nat) (instant : Int) (readings : List (Nat × Nat)) :
    Follows [.reg, .answers, .mirror, .ln, .fn, .eng, .ses, .bb, .gd] s (State.dueRestart s f instant readings).1 := by
  unfold State.dueRestart
  dsimp only
  split
  dsimp only
  exact Follows.rfl' _ _
  split
  dsimp only
  exact Follows.rfl' _ _
  split
  split
  dsimp only
  refine Follows.next (State.restartFn_follows _ _ _ _) (by decide) ?_
  refine Follows.next (State.wr_follows _ _ _) (by decide) ?_
  refine Follows.next (State.showCause_follows _ _) (by decide) ?_
  refine Follows.next (State.setFn_follows _ _ _) (by decide) ?_
  exact Follows.rfl' _ _
  dsimp only
  refine Follows.next (State.wr_follows _ _ _) (by decide) ?_
  refine Follows.next (State.showCause_follows _ _) (by decide) ?_
  refine Follows.next (State.setFn_follows _ _ _) (by decide) ?_
  exact Follows.rfl' _ _
  split
  dsimp only
  refine Follows.next (State.restartFn_follows _ _ _ _) (by decide) ?_
  refine Follows.next (State.wr_follows _ _ _) (by decide) ?_
  refine Follows.next (State.showCause_follows _ _) (by decide) ?_
  refine Follows.next (State.setFn_follows _ _ _) (by decide) ?_
  exact Follows.rfl' _ _
  dsimp only
  refine Follows.next (State.wr_follows _ _ _) (by decide) ?_
  refine Follows.next (State.showCause_follows _ _) (by decide) ?_
  refine Follows.next (State.setFn_follows _ _ _) (by decide) ?_
  exact Follows.rfl' _ _

theorem State.requestRestart_follows (s : State) (session : Nat) (fn : Nat) (tj : Int) (remote : Nat × List Int) :
    Follows [.reg, .answers, .board, .mirror, .vd, .ls, .fn, .ses, .bb] s (State.requestRestart s session fn tj remote) := by
  unfold State.requestRestart
  extract_lets +onlyGivenNames x0
  extract_lets +onlyGivenNames x1
  have h1 : Follows [.reg, .answers, .board, .mirror, .vd, .ls, .fn, .ses, .bb] s x1 := by
    unfold x1
    refine Follows.ite ?_ ?_
    intro a2
    refine Follows.next (State.wr_follows _ _ _) (by decide) ?_
    exact Follows.rfl' _ _
    intro a3
    exact Follows.rfl' _ _
  clear_value x1
  refine Follows.ite ?_ ?_
  intro a4
  refine Follows.next (State.reply_follows _ _ _ _) (by decide) ?_
  assumption
  intro a5
  refine Follows.ite ?_ ?_
  intro a6
  refine Follows.next (State.unusedFn_follows _ _ _ _) (by decide) ?_
  assumption
  intro a7
  refine Follows.ite ?_ ?_
  intro a8
  refine Follows.next (State.reply_follows _ _ _ _) (by decide) ?_
  refine Follows.next (State.log_follows _ _ _ _ _ _ _) (by decide) ?_
  assumption
  intro a9
  split
  refine Follows.next (State.reply_follows _ _ _ _) (by decide) ?_
  refine Follows.next (State.log_follows _ _ _ _ _ _ _) (by decide) ?_
  assumption
  refine Follows.next (State.reply_follows _ _ _ _) (by decide) ?_
  refine Follows.next (State.log_follows _ _ _ _ _ _ _) (by decide) ?_
  assumption
  refine Follows.next (State.reply_follows _ _ _ _) (by decide) ?_
  refine Follows.next (State.pdLog_follows _ _ _ _) (by decide) ?_
  assumption
  extract_lets +onlyGivenNames x10
  have h10 : Follows [.reg, .answers, .board, .mirror, .vd, .ls, .fn, .ses, .bb] s x10 := by
    unfold x10
    refine Follows.ite ?_ ?_
    intro a11
    refine Follows.next (State.publishGuide_follows _) (by decide) ?_
    refine Follows.next (State.engage_follows _) (by decide) ?_
    assumption
    intro a12
    assumption
  clear_value x10
  extract_lets +onlyGivenNames x13
  refine Follows.ite ?_ ?_
  intro a14
  refine Follows.next (State.reply_follows _ _ _ _) (by decide) ?_
  refine Follows.next (State.answer_follows _ _ _ _) (by decide) ?_
  assumption
  intro a15
  refine Follows.ite ?_ ?_
  intro a16
  refine Follows.next (State.reply_follows _ _ _ _) (by decide) ?_
  assumption
  intro a17
  extract_lets +onlyGivenNames x18
  have h18 : Follows [.reg, .answers, .board, .mirror, .vd, .ls, .fn, .ses, .bb] s x18 := by
    unfold x18
    refine Follows.ite ?_ ?_
    intro a19
    refine Follows.next (State.clearValve_follows _ _) (by decide) ?_
    assumption
    intro a20
    refine Follows.ite ?_ ?_
    intro a21
    refine Follows.next (State.clearSwitch_follows _ _ _) (by decide) ?_
    assumption
    intro a22
    assumption
  clear_value x18
  extract_lets +onlyGivenNames x23
  refine Follows.next (State.reply_follows _ _ _ _) (by decide) ?_
  refine Follows.next (State.showCause_follows _ _) (by decide) ?_
  refine Follows.next (State.setFn_follows _ _ _) (by decide) ?_
  assumption

theorem State.launchFade_follows (s : State) (f : Nat) (instant : Int) (was : List Rat) :
    Follows [.fn] s (State.launchFade s f instant was) := by
  unfold State.launchFade
  extract_lets +onlyGivenNames x0
  extract_lets +onlyGivenNames x1
  extract_lets +onlyGivenNames x2
  refine Follows.next (State.setFn_follows _ _ _) (by decide) ?_
  exact Follows.rfl' _ _

theorem State.judgeStale_follows (s : State) (f : Nat) (instant : Int) :
    Follows [.reg, .answers, .mirror, .ses, .bb] s (State.judgeStale s f instant) := by
  unfold State.judgeStale
  extract_lets +onlyGivenNames x0
  extract_lets +onlyGivenNames x1
  refine Follows.ite ?_ ?_
  intro a2
  refine Follows.next (State.logOnce_follows _ _ _ _ _ _ _) (by decide) ?_
  refine Follows.next (State.wr_follows _ _ _) (by decide) ?_
  exact Follows.rfl' _ _
  intro a3
  refine Follows.next (State.wr_follows _ _ _) (by decide) ?_
  exact Follows.rfl' _ _

theorem State.takeShot_follows (s : State) (f : Nat) (i : Nat) (instant : Int) :
    Follows [.fn] s (State.takeShot s f i instant) := by
  unfold State.takeShot
  extract_lets +onlyGivenNames x0
  split
  refine Follows.next (State.setIdx_follows _ _ _ _) (by decide) ?_
  exact Follows.rfl' _ _
  refine Follows.next (State.setIdx_follows _ _ _ _) (by decide) ?_
  exact Follows.rfl' _ _

theorem State.launchIdx_follows (s : State) (f : Nat) (instant : Int) (h : Rat) (move : Bool) (i : Nat) :
    Follows [.reg, .fn] s (State.launchIdx s f instant h move i) := by
  unfold State.launchIdx
  extract_lets +onlyGivenNames x0
  have h0 : Follows [.reg, .fn] s x0 := by
    unfold x0
    refine Follows.next (State.takeShot_follows _ _ _ _) (by decide) ?_
    exact Follows.rfl' _ _
  clear_value x0
  split
  extract_lets +onlyGivenNames x1
  extract_lets +onlyGivenNames x2
  extract_lets +onlyGivenNames x3
  have h3 : Follows [.reg, .fn] s x3 := by
    unfold x3
    refine Follows.ite ?_ ?_
    intro a4
    refine Follows.next (State.wr_follows _ _ _) (by decide) ?_
    assumption
    intro a5
    assumption
  clear_value x3
  extract_lets +onlyGivenNames x6
  have h6 : Follows [.reg, .fn] s x6 := by
    unfold x6
    split
    refine Follows.next (State.wr_follows _ _ _) (by decide) ?_
    assumption
    assumption
  clear_value x6
  refine Follows.ite ?_ ?_
  intro a7
  assumption
  intro a8
  extract_lets +onlyGivenNames x9
  extract_lets +onlyGivenNames x10
  extract_lets +onlyGivenNames x11
  extract_lets +onlyGivenNames x12
  refine Follows.next (State.wr_follows _ _ _) (by decide) ?_
  assumption

theorem State.showRunning_follows (s : State) (f : Nat) (instant : Int) :
    Follows [.reg] s (State.showRunning s f instant) := by
  unfold State.showRunning
  extract_lets +onlyGivenNames x0
  extract_lets +onlyGivenNames x1
  refine Follows.next (State.wrs_follows _ _) (by decide) ?_
  exact Follows.rfl' _ _

theorem State.launchCan_follows (s : State) (f : Nat) :
    Follows [.free, .reg, .answers, .mirror, .fn, .lk, .ses, .bb] s (State.launchCan s f) := by
  unfold State.launchCan
  extract_lets +onlyGivenNames x0
  extract_lets +onlyGivenNames x1
  extract_lets +onlyGivenNames x2
  extract_lets +onlyGivenNames x3
  extract_lets +onlyGivenNames x4
  refine Follows.ite ?_ ?_
  intro a5
  split
  split
  refine Follows.next (State.enterFifo_follows _ _ _) (by decide) ?_
  exact Follows.rfl' _ _
  exact Follows.rfl' _ _
  unfold x4
  split
  refine Follows.next (State.enterFifo_follows _ _ _) (by decide) ?_
  refine Follows.next (State.setFn_follows _ _ _) (by decide) ?_
  refine Follows.next (Follows.snd (by assumption) (State.commandFrame_follows _ _ _ _ _)) (by decide) ?_
  exact Follows.rfl' _ _
  unfold x4
  split
  refine Follows.next (State.enterFifo_follows _ _ _) (by decide) ?_
  refine Follows.next (State.setFn_follows _ _ _) (by decide) ?_
  refine Follows.next (Follows.snd (by assumption) (State.commandFrame_follows _ _ _ _ _)) (by decide) ?_
  exact Follows.rfl' _ _
  intro a6
  split
  unfold x4
  split
  refine Follows.next (State.enterFifo_follows _ _ _) (by decide) ?_
  refine Follows.next (State.setFn_follows _ _ _) (by decide) ?_
  refine Follows.next (Follows.snd (by assumption) (State.commandFrame_follows _ _ _ _ _)) (by decide) ?_
  exact Follows.rfl' _ _
  exact Follows.rfl' _ _

theorem State.showOpt_follows (s : State) :
    Follows [.reg] s (State.showOpt s) := by
  unfold State.showOpt
  extract_lets +onlyGivenNames x0
  refine Follows.next (State.wrs_follows _ _) (by decide) ?_
  exact Follows.rfl' _ _

theorem State.reclamp_follows (s : State) :
    Follows [.fn] s (State.reclamp s) := by
  unfold State.reclamp
  refine Follows.foldl _ ?_ ?_
  exact Follows.rfl' _ _
  intro a0 a1
  refine Follows.ite ?_ ?_
  intro a2
  refine Follows.foldl _ ?_ ?_
  exact Follows.rfl' _ _
  intro a3 a4
  split
  refine Follows.next (State.setIdx_follows _ _ _ _) (by decide) ?_
  exact Follows.rfl' _ _
  exact Follows.rfl' _ _
  intro a5
  exact Follows.rfl' _ _

theorem State.insertShots_follows (s : State) (l : List (Nat × Nat × Int)) :
    Follows [.reg, .answers, .mirror, .ln, .vd, .fn, .lk, .ses, .bb] s (State.insertShots s l) := by
  unfold State.insertShots
  refine Follows.foldl _ ?_ ?_
  exact Follows.rfl' _ _
  intro a0 a1
  extract_lets +onlyGivenNames x2
  extract_lets +onlyGivenNames x3
  extract_lets +onlyGivenNames x4
  split
  refine Follows.ite ?_ ?_
  intro a5
  extract_lets +onlyGivenNames x6
  refine Follows.next (State.insertEntry_follows _ _ _ _ _) (by decide) ?_
  exact Follows.rfl' _ _
  intro a7
  exact Follows.rfl' _ _
  exact Follows.rfl' _ _

theorem State.dstepClamp_follows (s : State) :
    Follows [.reg, .answers, .mirror, .ln, .vd, .fn, .opt, .lk, .ses, .bb] s (State.dstepClamp s) := by
  unfold State.dstepClamp
  refine Follows.ite ?_ ?_
  intro a0
  refine Follows.next (State.showOpt_follows _) (by decide) ?_
  exact Follows.rfl' _ _
  intro a1
  extract_lets +onlyGivenNames x2
  have h2 : Follows [.reg, .answers, .mirror, .ln, .vd, .fn, .opt, .lk, .ses, .bb] s x2 := by
    unfold x2
    refine Follows.next (State.reclamp_follows _) (by decide) ?_
    exact Follows.rfl' _ _
  clear_value x2
  extract_lets +onlyGivenNames x3
  have h3 : Follows [.reg, .answers, .mirror, .ln, .vd, .fn, .opt, .lk, .ses, .bb] s x3 := by
    unfold x3
    refine Follows.next (State.insertShots_follows _ _) (by decide) ?_
    assumption
  clear_value x3
  refine Follows.next (State.showOpt_follows _) (by decide) ?_
  refine Follows.upd ⟨?_, ?_⟩ ?_
  · intro p hp; cases p <;> first | exact absurd (by decide) hp | rfl
  · exact fun h => ⟨h.mem, h.window, h.records, h.gate, h.sessions, h.amend, h.held, h.stamps⟩
  assumption

theorem State.setDstep_follows (s : State) (new : Nat) (cause : Nat) (k : Nat) :
    Follows [.reg, .answers, .mirror, .ln, .vd, .fn, .opt, .lk, .obs, .ses, .bb] s (State.setDstep s new cause k) := by
  unfold State.setDstep
  extract_lets +onlyGivenNames x0
  extract_lets +onlyGivenNames x1
  have h1 : Follows [.reg, .answers, .mirror, .ln, .vd, .fn, .opt, .lk, .obs, .ses, .bb] s x1 := by
    unfold x1
    refine Follows.next (State.wrs_follows _ _) (by decide) ?_
    exact Follows.rfl' _ _
  clear_value x1
  refine Follows.ite ?_ ?_
  intro a2
  assumption
  intro a3
  extract_lets +onlyGivenNames x4
  have h4 : Follows [.reg, .answers, .mirror, .ln, .vd, .fn, .opt, .lk, .obs, .ses, .bb] s x4 := by
    unfold x4
    refine Follows.next (State.log_follows _ _ _ _ _ _ _) (by decide) ?_
    assumption
  clear_value x4
  extract_lets +onlyGivenNames x5
  extract_lets +onlyGivenNames x6
  have h6 : Follows [.reg, .answers, .mirror, .ln, .vd, .fn, .opt, .lk, .obs, .ses, .bb] s x6 := by
    unfold x6
    refine Follows.ite ?_ ?_
    intro a7
    refine Follows.next (State.log_follows _ _ _ _ _ _ _) (by decide) ?_
    refine Follows.upd ⟨?_, ?_⟩ ?_
    · intro p hp; cases p <;> first | exact absurd (by decide) hp | rfl
    · exact fun h => ⟨h.mem, h.window, h.records, h.gate, h.sessions, h.amend, h.held, h.stamps⟩
    assumption
    intro a8
    refine Follows.ite ?_ ?_
    intro a9
    refine Follows.next (State.log_follows _ _ _ _ _ _ _) (by decide) ?_
    assumption
    intro a10
    assumption
  clear_value x6
  refine Follows.next (State.dstepClamp_follows _) (by decide) ?_
  assumption

theorem State.obsBegin_follows (s : State) :
    Follows [.reg, .answers, .mirror, .ln, .vd, .fn, .opt, .lk, .obs, .ses, .bb] s (State.obsBegin s) := by
  unfold State.obsBegin
  refine Follows.ite ?_ ?_
  intro a0
  refine Follows.next (State.showOpt_follows _) (by decide) ?_
  exact Follows.rfl' _ _
  intro a1
  split
  refine Follows.next (State.showOpt_follows _) (by decide) ?_
  refine Follows.next (State.setDstep_follows _ _ _ _) (by decide) ?_
  exact Follows.rfl' _ _
  extract_lets +onlyGivenNames x2
  extract_lets +onlyGivenNames x3
  extract_lets +onlyGivenNames x4
  extract_lets +onlyGivenNames x5
  have h5 : Follows [.reg, .answers, .mirror, .ln, .vd, .fn, .opt, .lk, .obs, .ses, .bb] s x5 := by
    unfold x5
    refine Follows.upd ⟨?_, ?_⟩ ?_
    · intro p hp; cases p <;> first | exact absurd (by decide) hp | rfl
    · exact fun h => ⟨h.mem, h.window, h.records, h.gate, h.sessions, h.amend, h.held, h.stamps⟩
    exact Follows.rfl' _ _
  clear_value x5
  extract_lets +onlyGivenNames x6
  have h6 : Follows [.reg, .answers, .mirror, .ln, .vd, .fn, .opt, .lk, .obs, .ses, .bb] s x6 := by
    unfold x6
    refine Follows.next (State.wrs_follows _ _) (by decide) ?_
    assumption
  clear_value x6
  refine Follows.next (State.showOpt_follows _) (by decide) ?_
  refine Follows.foldl _ ?_ ?_
  assumption
  intro a7 a8
  refine Follows.next (State.showBind_follows _ _) (by decide) ?_
  exact Follows.rfl' _ _

theorem State.obsStop_follows (s : State) (cause : Nat) :
    Follows [.reg, .answers, .mirror, .ln, .vd, .fn, .opt, .lk, .ego, .out, .obs, .ses, .bb] s (State.obsStop s cause) := by
  unfold State.obsStop
  extract_lets +onlyGivenNames x0
  extract_lets +onlyGivenNames x1
  have h1 : Follows [.reg, .answers, .mirror, .ln, .vd, .fn, .opt, .lk, .ego, .out, .obs, .ses, .bb] s x1 := by
    unfold x1
    refine Follows.upd ⟨?_, ?_⟩ ?_
    · intro p hp; cases p <;> first | exact absurd (by decide) hp | rfl
    · exact fun h => ⟨h.mem, h.window, h.records, h.gate, h.sessions, h.amend, h.held, h.stamps⟩
    exact Follows.rfl' _ _
  clear_value x1
  extract_lets +onlyGivenNames x2
  have h2 : Follows [.reg, .answers, .mirror, .ln, .vd, .fn, .opt, .lk, .ego, .out, .obs, .ses, .bb] s x2 := by
    unfold x2
    refine Follows.next (State.wrs_follows _ _) (by decide) ?_
    assumption
  clear_value x2
  refine Follows.next (State.showOpt_follows _) (by decide) ?_
  refine Follows.next (State.setDstep_follows _ _ _ _) (by decide) ?_
  assumption

theorem State.obsMode_follows (s : State) :
    Follows [.reg, .answers, .mirror, .ln, .vd, .fn, .opt, .lk, .ego, .out, .obs, .ses, .bb] s (State.obsMode s) := by
  unfold State.obsMode
  extract_lets +onlyGivenNames x0
  extract_lets +onlyGivenNames x1
  have h1 : Follows [.reg, .answers, .mirror, .ln, .vd, .fn, .opt, .lk, .ego, .out, .obs, .ses, .bb] s x1 := by
    unfold x1
    refine Follows.ite ?_ ?_
    intro a2
    refine Follows.upd ⟨?_, ?_⟩ ?_
    · intro p hp; cases p <;> first | exact absurd (by decide) hp | rfl
    · exact fun h => ⟨h.mem, h.window, h.records, h.gate, h.sessions, h.amend, h.held, h.stamps⟩
    exact Follows.rfl' _ _
    intro a3
    exact Follows.rfl' _ _
  clear_value x1
  refine Follows.ite ?_ ?_
  intro a4
  refine Follows.next (State.obsBegin_follows _) (by decide) ?_
  assumption
  intro a5
  refine Follows.ite ?_ ?_
  intro a6
  refine Follows.next (State.obsStop_follows _ _) (by decide) ?_
  assumption
  intro a7
  refine Follows.next (State.showOpt_follows _) (by decide) ?_
  assumption

theorem State.writeSide_follows (s : State) (f : Nat) (ffs : List Nat) (computed : Int) (ffValid : Bool) :
    Follows [.reg, .answers, .board] s (State.writeSide s f ffs computed ffValid) := by
  unfold State.writeSide
  refine Follows.next (State.publishSide_follows _ _ _) (by decide) ?_
  exact Follows.rfl' _ _

theorem State.setWh_follows (s : State) (port : Nat) (w : WhistleS) :
    Follows [.whistle] s (State.setWh s port w) := by
  unfold State.setWh
  refine Follows.upd ⟨?_, ?_⟩ ?_
  · intro p hp; cases p <;> first | exact absurd (by decide) hp | rfl
  · exact fun h => ⟨h.mem, h.window, h.records, h.gate, h.sessions, h.amend, h.held, h.stamps⟩
  exact Follows.rfl' _ _

theorem State.sendWhistle_follows (s : State) (port : Nat) (typ : Nat) (aux : Nat) :
    Follows [.answers, .whistle] s (State.sendWhistle s port typ aux) := by
  unfold State.sendWhistle
  extract_lets +onlyGivenNames x0
  extract_lets +onlyGivenNames x1
  extract_lets +onlyGivenNames x2
  refine Follows.next (State.answer_follows _ _ _ _) (by decide) ?_
  refine Follows.next (State.setWh_follows _ _ _) (by decide) ?_
  exact Follows.rfl' _ _

theorem State.roundTrip_follows (s : State) (port : Nat) (delay : Nat) :
    Follows [.reg, .answers, .mirror, .whistle, .ses, .bb] s (State.roundTrip s port delay) := by
  unfold State.roundTrip
  extract_lets +onlyGivenNames x0
  have h0 : Follows [.reg, .answers, .mirror, .whistle, .ses, .bb] s x0 := by
    unfold x0
    refine Follows.next (State.wr_follows _ _ _) (by decide) ?_
    exact Follows.rfl' _ _
  clear_value x0
  refine Follows.ite ?_ ?_
  intro a1
  refine Follows.next (State.log_follows _ _ _ _ _ _ _) (by decide) ?_
  refine Follows.next (State.wrs_follows _ _) (by decide) ?_
  refine Follows.next (State.setWh_follows _ _ _) (by decide) ?_
  assumption
  intro a2
  refine Follows.next (State.wr_follows _ _ _) (by decide) ?_
  refine Follows.next (State.setWh_follows _ _ _) (by decide) ?_
  assumption

theorem State.takeUtc_follows (s : State) (aux : Nat) :
    Follows [.reg] s (State.takeUtc s aux) := by
  unfold State.takeUtc
  extract_lets +onlyGivenNames x0
  refine Follows.ite ?_ ?_
  intro a1
  exact Follows.rfl' _ _
  intro a2
  refine Follows.next (State.wrs_follows _ _) (by decide) ?_
  exact Follows.rfl' _ _

theorem State.followMarker_follows (s : State) (port : Nat) (typ : Nat) (bytes : List Nat) (marker : Int) :
    Follows [.reg, .answers, .mirror, .tb, .whistle, .ln, .lk, .ses, .bb, .gd] s (State.followMarker s port typ bytes marker) := by
  unfold State.followMarker
  extract_lets +onlyGivenNames x0
  extract_lets +onlyGivenNames x1
  extract_lets +onlyGivenNames x2
  extract_lets +onlyGivenNames x3
  extract_lets +onlyGivenNames x4
  extract_lets +onlyGivenNames x5
  extract_lets +onlyGivenNames x6
  have h6 : Follows [.reg, .answers, .mirror, .tb, .whistle, .ln, .lk, .ses, .bb, .gd] s x6 := by
    unfold x6
    refine Follows.next (State.setWh_follows _ _ _) (by decide) ?_
    exact Follows.rfl' _ _
  clear_value x6
  extract_lets +onlyGivenNames x7
  have h7 : Follows [.reg, .answers, .mirror, .tb, .whistle, .ln, .lk, .ses, .bb, .gd] s x7 := by
    unfold x7
    refine Follows.next (State.wrs_follows _ _) (by decide) ?_
    assumption
  clear_value x7
  extract_lets +onlyGivenNames x8
  have h8 : Follows [.reg, .answers, .mirror, .tb, .whistle, .ln, .lk, .ses, .bb, .gd] s x8 := by
    unfold x8
    refine Follows.ite ?_ ?_
    intro a9
    refine Follows.next (State.takeUtc_follows _ _) (by decide) ?_
    assumption
    intro a10
    assumption
  clear_value x8
  refine Follows.ite ?_ ?_
  intro a11
  refine Follows.next (State.doStep_follows _ _) (by decide) ?_
  assumption
  intro a12
  refine Follows.ite ?_ ?_
  intro a13
  refine Follows.next (State.trim_follows _ _) (by decide) ?_
  assumption
  intro a14
  assumption

theorem State.setShed_follows (s : State) (level : Nat) (pace : Nat) :
    Follows [.reg, .answers, .canary, .mirror, .ses, .bb, .gn] s (State.setShed s level pace) := by
  unfold State.setShed
  extract_lets +onlyGivenNames x0
  extract_lets +onlyGivenNames x1
  extract_lets +onlyGivenNames x2
  have h2 : Follows [.reg, .answers, .canary, .mirror, .ses, .bb, .gn] s x2 := by
    unfold x2
    refine Follows.upd ⟨?_, ?_⟩ ?_
    · intro p hp; cases p <;> first | exact absurd (by decide) hp | rfl
    · exact fun h => ⟨h.mem, h.window, h.records, h.gate, h.sessions, h.amend, h.held, h.stamps⟩
    exact Follows.rfl' _ _
  clear_value x2
  refine Follows.ite ?_ ?_
  intro a3
  assumption
  intro a4
  refine Follows.next (State.releaseIdle_follows _) (by decide) ?_
  refine Follows.next (State.log_follows _ _ _ _ _ _ _) (by decide) ?_
  refine Follows.next (State.wr_follows _ _ _) (by decide) ?_
  assumption

theorem State.judgeShed_follows (s : State) (pace : Nat) :
    Follows [.reg, .answers, .canary, .mirror, .ses, .bb, .gn] s (State.judgeShed s pace) := by
  unfold State.judgeShed
  extract_lets +onlyGivenNames x0
  extract_lets +onlyGivenNames x1
  extract_lets +onlyGivenNames x2
  have h2 : Follows [.reg, .answers, .canary, .mirror, .ses, .bb, .gn] s x2 := by
    unfold x2
    refine Follows.upd ⟨?_, ?_⟩ ?_
    · intro p hp; cases p <;> first | exact absurd (by decide) hp | rfl
    · exact fun h => ⟨h.mem, h.window, h.records, h.gate, h.sessions, h.amend, h.held, h.stamps⟩
    exact Follows.rfl' _ _
  clear_value x2
  extract_lets +onlyGivenNames x3
  extract_lets +onlyGivenNames x4
  extract_lets +onlyGivenNames x5
  refine Follows.ite ?_ ?_
  intro a6
  refine Follows.next (State.setShed_follows _ _ _) (by decide) ?_
  assumption
  intro a7
  refine Follows.ite ?_ ?_
  intro a8
  refine Follows.next (State.setShed_follows _ _ _) (by decide) ?_
  assumption
  intro a9
  refine Follows.ite ?_ ?_
  intro a10
  refine Follows.next (State.setShed_follows _ _ _) (by decide) ?_
  assumption
  intro a11
  refine Follows.upd ⟨?_, ?_⟩ ?_
  · intro p hp; cases p <;> first | exact absurd (by decide) hp | rfl
  · exact fun h => ⟨h.mem, h.window, h.records, h.gate, h.sessions, h.amend, h.held, h.stamps⟩
  assumption

theorem State.judgeLow_follows (s : State) (pace : Nat) :
    Follows [.reg, .answers, .canary, .mirror, .ses, .bb, .md] s (State.judgeLow s pace) := by
  unfold State.judgeLow
  extract_lets +onlyGivenNames x0
  extract_lets +onlyGivenNames x1
  extract_lets +onlyGivenNames x2
  extract_lets +onlyGivenNames x3
  extract_lets +onlyGivenNames x4
  have h4 : Follows [.reg, .answers, .canary, .mirror, .ses, .bb, .md] s x4 := by
    unfold x4
    refine Follows.upd ⟨?_, ?_⟩ ?_
    · intro p hp; cases p <;> first | exact absurd (by decide) hp | rfl
    · exact fun h => ⟨h.mem, h.window, h.records, h.gate, h.sessions, h.amend, h.held, h.stamps⟩
    exact Follows.rfl' _ _
  clear_value x4
  extract_lets +onlyGivenNames x5
  have h5 : Follows [.reg, .answers, .canary, .mirror, .ses, .bb, .md] s x5 := by
    unfold x5
    refine Follows.ite ?_ ?_
    intro a6
    refine Follows.next (State.setCause_follows _ _) (by decide) ?_
    refine Follows.next (State.log_follows _ _ _ _ _ _ _) (by decide) ?_
    assumption
    intro a7
    refine Follows.ite ?_ ?_
    intro a8
    refine Follows.next (State.log_follows _ _ _ _ _ _ _) (by decide) ?_
    assumption
    intro a9
    assumption
  clear_value x5
  refine Follows.ite ?_ ?_
  intro a10
  refine Follows.next (State.clearCause_follows _ _) (by decide) ?_
  assumption
  intro a11
  assumption

theorem State.excludeRings_follows (s : State) (laps : List Nat) :
    Follows [.reg, .answers, .canary, .mirror, .ses, .bb] s (State.excludeRings s laps) := by
  unfold State.excludeRings
  extract_lets +onlyGivenNames x0
  extract_lets +onlyGivenNames x1
  extract_lets +onlyGivenNames x2
  extract_lets +onlyGivenNames x3
  have h3 : Follows [.reg, .answers, .canary, .mirror, .ses, .bb] s x3 := by
    unfold x3
    refine Follows.upd ⟨?_, ?_⟩ ?_
    · intro p hp; cases p <;> first | exact absurd (by decide) hp | rfl
    · exact fun h => ⟨h.mem, h.window, h.records, h.gate, h.sessions, h.amend, h.held, h.stamps⟩
    exact Follows.rfl' _ _
  clear_value x3
  refine Follows.foldl _ ?_ ?_
  assumption
  intro a4 a5
  refine Follows.next (State.log_follows _ _ _ _ _ _ _) (by decide) ?_
  exact Follows.rfl' _ _

theorem State.publishPace_follows (s : State) (pace : Nat) :
    Follows [.reg, .canary] s (State.publishPace s pace) := by
  unfold State.publishPace
  extract_lets +onlyGivenNames x0
  extract_lets +onlyGivenNames x1
  have h1 : Follows [.reg, .canary] s x1 := by
    unfold x1
    refine Follows.next (State.wrs_follows _ _) (by decide) ?_
    refine Follows.upd ⟨?_, ?_⟩ ?_
    · intro p hp; cases p <;> first | exact absurd (by decide) hp | rfl
    · exact fun h => ⟨h.mem, h.window, h.records, h.gate, h.sessions, h.amend, h.held, h.stamps⟩
    exact Follows.rfl' _ _
  clear_value x1
  refine Follows.ite ?_ ?_
  intro a2
  refine Follows.next (State.bump_follows _ _ _) (by decide) ?_
  assumption
  intro a3
  assumption

theorem State.countStall_follows (s : State) (isl : Nat) (toIsland : Bool) :
    Follows [.reg, .answers, .mirror, .ses, .bb] s (State.countStall s isl toIsland) := by
  unfold State.countStall
  refine Follows.next (State.logOnce_follows _ _ _ _ _ _ _) (by decide) ?_
  refine Follows.next (State.bump_follows _ _ _) (by decide) ?_
  exact Follows.rfl' _ _

theorem State.readFifo_follows (s : State) (isl : Nat) (toIsland : Bool) (x1 : Nat) :
    Follows [.answers, .isl] s (State.readFifo s isl toIsland x1) := by
  unfold State.readFifo
  split
  exact Follows.rfl' _ _
  extract_lets +onlyGivenNames x0
  split
  exact Follows.rfl' _ _
  extract_lets +onlyGivenNames x1
  have h1 : Follows [.answers, .isl] s x1 := by
    unfold x1
    refine Follows.next (State.setIsland_follows _ _ _) (by decide) ?_
    exact Follows.rfl' _ _
  clear_value x1
  extract_lets +onlyGivenNames x2
  have h2 : Follows [.answers, .isl] s x2 := by
    unfold x2
    split
    refine Follows.next (State.answer_follows _ _ _ _) (by decide) ?_
    assumption
    assumption
  clear_value x2
  refine Follows.next (State.readFifo_follows _ _ _ _) (by decide) ?_
  assumption

end Sys2Proof.Machine
end

