-- ==== Sys2Proof/Laws/FamilyOps.lean ====
section
/-! SUPPORT. What each shared operation may change: the observer, the optimiser, links, sessions, the black box, loops, valves, switches. One lemma per operation: the parts
of the state outside its list are unchanged, and the bounds are kept. -/

namespace Sys2Proof.Machine

theorem ins_length {α : Type} (l : List (Nat × α)) (k : Nat) (v : α) :
    (ins l k v).length ≤ l.length + 1 := by
  induction l with
  | nil => simp [ins]
  | cons p t ih =>
    unfold ins
    split
    · simp
    · split
      · simp
      · simp; omega

/-- A session let into a table with room (R455). -/
theorem State.letIn_follows (s : State) (h : HelloIn) (cls : Nat) :
    Frame [.reg, .answers, .mirror, .ses, .bb] s (s.letIn h cls) ∧
    (s.ses.open_.length < 256 → Bounded s → Bounded (s.letIn h cls)) := by
  unfold State.letIn
  extract_lets num slot agreed to_ ss x00 x0 x1 x2
  have f0 : Frame [.reg, .answers, .mirror, .ses, .bb] s x0 := by
    intro p hp; cases p <;> first | exact absurd (by decide) hp | rfl
  have b0 : s.ses.open_.length < 256 → Bounded s → Bounded x0 := fun r h =>
    ⟨h.mem, h.window, h.records, h.gate, Nat.le_trans (ins_length _ _ _) r, h.amend, h.held, h.stamps⟩
  clear_value x0
  have h1 : Follows [.reg, .answers, .mirror, .ses, .bb] x0 x2 :=
    Follows.next (State.log_follows _ _ _ _ _ _ _) (by decide)
      (Follows.next (State.wrs_follows _ _) (by decide) (Follows.rfl' _ _))
  have h2 : Follows [.reg, .answers, .mirror, .ses, .bb] x0
      ((x2.reply num Res.OK (x2.helloReply h num cls to_)).respond num h.msg x2.answers.length) :=
    Follows.next (State.respond_follows _ _ _ _) (by decide)
      (Follows.next (State.reply_follows _ _ _ _) (by decide) h1)
  exact ⟨f0.trans h2.frame, fun r b => h2.bounded (b0 r b)⟩

theorem State.evict_follows (s : State) (v : SessionS) (newCls : Nat) :
    Follows [.reg, .answers, .mirror, .ses, .bb] s (State.evict s v newCls) := by
  unfold State.evict
  extract_lets +onlyGivenNames x0
  have h0 : Follows [.reg, .answers, .mirror, .ses, .bb] s x0 := by
    unfold x0
    refine Follows.next (State.answer_follows _ _ _ _) (by decide) ?_
    exact Follows.rfl' _ _
  clear_value x0
  refine Follows.next (State.log_follows _ _ _ _ _ _ _) (by decide) ?_
  refine Follows.next (State.bump_follows _ _ _) (by decide) ?_
  refine Follows.next (State.dropSession_follows _ _) (by decide) ?_
  assumption

theorem State.readEntry_follows (s : State) (num : Nat) (e : ObjIn) :
    Follows [.reg, .answers] s (State.readEntry s num e) := by
  unfold State.readEntry
  refine Follows.ite ?_ ?_
  intro a0
  refine Follows.ite ?_ ?_
  intro a1
  refine Follows.next (State.reply_follows _ _ _ _) (by decide) ?_
  exact Follows.rfl' _ _
  intro a2
  refine Follows.ite ?_ ?_
  intro a3
  refine Follows.next (State.reply_follows _ _ _ _) (by decide) ?_
  exact Follows.rfl' _ _
  intro a4
  refine Follows.next (State.reply_follows _ _ _ _) (by decide) ?_
  refine Follows.next (State.answer_follows _ _ _ _) (by decide) ?_
  exact Follows.rfl' _ _
  intro a5
  split
  refine Follows.next (State.reply_follows _ _ _ _) (by decide) ?_
  exact Follows.rfl' _ _
  refine Follows.ite ?_ ?_
  intro a6
  refine Follows.next (State.reply_follows _ _ _ _) (by decide) ?_
  exact Follows.rfl' _ _
  intro a7
  refine Follows.next (State.reply_follows _ _ _ _) (by decide) ?_
  exact Follows.rfl' _ _

theorem State.refuseHello_follows (s : State) (h : HelloIn) (code : Nat) :
    Follows [.reg, .answers, .mirror, .ses, .bb] s (State.refuseHello s h code) := by
  unfold State.refuseHello
  extract_lets +onlyGivenNames x0
  have h0 : Follows [.reg, .answers, .mirror, .ses, .bb] s x0 := by
    unfold x0
    refine Follows.next (State.log_follows _ _ _ _ _ _ _) (by decide) ?_
    refine Follows.next (State.bump_follows _ _ _) (by decide) ?_
    exact Follows.rfl' _ _
  clear_value x0
  extract_lets +onlyGivenNames x1
  refine Follows.upd ⟨?_, ?_⟩ ?_
  · intro p hp; cases p <;> first | exact absurd (by decide) hp | rfl
  · exact fun h => ⟨h.mem, h.window, h.records, h.gate, h.sessions, h.amend, h.held, h.stamps⟩
  assumption

theorem victim_mem (s : State) (v : SessionS) (h : s.victim = some v) : ∃ p ∈ s.ses.open_, p.2 = v := by
  unfold State.victim at h
  have key : ∀ (l : List SessionS) (m : Option SessionS) (v : SessionS),
      l.foldl (fun m ss => match m with
        | none => some ss
        | some x => if classRank ss.cls < classRank x.cls ∨
            (classRank ss.cls = classRank x.cls ∧ ss.lastRx < x.lastRx) then some ss else some x) m = some v →
      v ∈ l ∨ m = some v := by
    intro l
    induction l with
    | nil => intro m v h; exact Or.inr h
    | cons a l ih =>
      intro m v h
      rcases ih _ _ h with h | h
      · exact Or.inl (List.mem_cons_of_mem _ h)
      · beta_reduce at h
        split at h
        · cases h; exact Or.inl (List.mem_cons_self)
        · split at h
          · cases h; exact Or.inl (List.mem_cons_self)
          · exact Or.inr h
  rcases key _ _ _ h with h | h
  · have h := List.mem_of_mem_filter h
    obtain ⟨p, hp, e⟩ := List.mem_map.mp h
    exact ⟨p, hp, e⟩
  · cases h

theorem State.admission_follows (s : State) (h : HelloIn) (cls : Nat) :
    Follows [.reg, .answers, .mirror, .ses, .bb] s (State.admission s h cls) := by
  unfold State.admission
  refine Follows.ite (fun _ => Follows.next (State.refuseHello_follows _ _ _) (by decide) (Follows.rfl' _ _)) (fun _ => ?_)
  refine Follows.ite (fun r => ⟨(State.letIn_follows s h cls).1, (State.letIn_follows s h cls).2 r⟩) (fun r => ?_)
  refine Follows.ite (fun _ => ?_) (fun _ => Follows.next (State.refuseHello_follows _ _ _) (by decide) (Follows.rfl' _ _))
  split
  · next v hv =>
    have he : Follows [.reg, .answers, .mirror, .ses, .bb] s (s.evict v cls) :=
      Follows.next (State.evict_follows _ _ _) (by decide) (Follows.rfl' _ _)
    refine ⟨he.frame.trans (State.letIn_follows _ h cls).1, fun b => (State.letIn_follows _ h cls).2 ?_ (he.bounded b)⟩
    obtain ⟨p, hp, e⟩ := victim_mem s v hv
    have hd : ((s.answer (.session v.num) 0x9042).dropSession v.num).ses.open_.length < s.ses.open_.length := by
      show (s.ses.open_.filter _).length < _
      apply List.length_filter_lt_length_iff_exists.mpr
      exact ⟨p, hp, by simp [e]⟩
    have hl : (s.evict v cls).ses.open_.length =
        ((s.answer (.session v.num) 0x9042).dropSession v.num).ses.open_.length := by
      unfold State.evict
      rw [log_sessions]
      rfl
    have := b.sessions
    omega
  · exact Follows.next (State.refuseHello_follows _ _ _) (by decide) (Follows.rfl' _ _)

theorem State.nextWrite_follows (s : State) (num key v : Nat) (valueOk : Bool) :
    Follows [.reg, .answers, .mirror, .ses, .amend, .bb] s (s.nextWrite num key v valueOk) := by
  unfold State.nextWrite
  refine Follows.ite (fun _ => Follows.next (State.notLive_follows _ _ _) (by decide) (Follows.rfl' _ _)) (fun _ => ?_)
  refine Follows.ite (fun _ => Follows.next (State.reply_follows _ _ _ _) (by decide) (Follows.rfl' _ _)) (fun _ => ?_)
  refine Follows.ite (fun r => ?_) (fun _ => ?_)
  · refine Follows.next (State.reply_follows _ _ _ _) (by decide) ?_
    refine Follows.next (State.amendCount_follows _) (by decide) ?_
    exact (State.amendPut_follows _ 2 key v r).mono (by decide)
  · refine Follows.next (State.reply_follows _ _ _ _) (by decide) ?_
    exact Follows.next (State.log_follows _ _ _ _ _ _ _) (by decide) (Follows.rfl' _ _)

theorem State.writeEntry_follows (s : State) (num : Nat) (code : Nat) (e : ObjIn) (raw : Nat) :
    Follows [.reg, .answers, .mirror, .ses, .amend, .bb, .cams] s (State.writeEntry s num code e raw) := by
  unfold State.writeEntry
  extract_lets +onlyGivenNames x0
  split
  refine Follows.next (State.reply_follows _ _ _ _) (by decide) ?_
  exact Follows.rfl' _ _
  extract_lets +onlyGivenNames x1
  refine Follows.ite ?_ ?_
  intro a2
  refine Follows.next (State.reply_follows _ _ _ _) (by decide) ?_
  exact Follows.rfl' _ _
  intro a3
  refine Follows.ite ?_ ?_
  intro a4
  refine Follows.next (State.reply_follows _ _ _ _) (by decide) ?_
  exact Follows.rfl' _ _
  intro a5
  refine Follows.ite ?_ ?_
  intro a6
  refine Follows.next (State.reply_follows _ _ _ _) (by decide) ?_
  exact Follows.rfl' _ _
  intro a7
  refine Follows.ite ?_ ?_
  intro a8
  refine Follows.next (State.reply_follows _ _ _ _) (by decide) ?_
  refine Follows.next (State.answer_follows _ _ _ _) (by decide) ?_
  exact Follows.rfl' _ _
  intro a9
  split
  refine Follows.next (State.reply_follows _ _ _ _) (by decide) ?_
  exact Follows.rfl' _ _
  refine Follows.next (State.reply_follows _ _ _ _) (by decide) ?_
  refine Follows.next (State.log_follows _ _ _ _ _ _ _) (by decide) ?_
  exact Follows.rfl' _ _
  refine Follows.next (State.notLive_follows _ _ _) (by decide) ?_
  exact Follows.rfl' _ _
  refine Follows.next (State.nextWrite_follows _ _ _ _ _) (by decide) ?_
  exact Follows.rfl' _ _
  refine Follows.next (State.liveAny_follows _ _ _ _ _) (by decide) ?_
  exact Follows.rfl' _ _

theorem State.gateNote_follows (s : State) (num : Nat) (kind : ReqKind) (code : Nat) :
    Follows [.reg, .answers, .mirror, .ses, .bb] s (State.gateNote s num kind code) := by
  unfold State.gateNote
  refine Follows.ite ?_ ?_
  intro a0
  refine Follows.next (State.lnNote_follows _ _ _ _ _) (by decide) ?_
  exact Follows.rfl' _ _
  intro a1
  exact Follows.rfl' _ _

theorem State.loadObj_follows (s : State) (r : RecIn) :
    Follows [.reg] s (State.loadObj s r) := by
  unfold State.loadObj
  split
  refine Follows.foldl _ ?_ ?_
  exact Follows.rfl' _ _
  intro a0 a1
  refine Follows.next (State.wr_follows _ _ _) (by decide) ?_
  exact Follows.rfl' _ _
  exact Follows.rfl' _ _

theorem State.loadObjects_follows (s : State) (img : ImageIn) (unit : Nat) :
    Follows [.reg] s (State.loadObjects s img unit) := by
  unfold State.loadObjects
  refine Follows.foldl _ ?_ ?_
  refine Follows.next (State.clearRegs_follows _ _) (by decide) ?_
  exact Follows.rfl' _ _
  intro a0 a1
  refine Follows.next (State.loadObj_follows _ _) (by decide) ?_
  exact Follows.rfl' _ _

theorem State.loadTree_follows (s : State) (img : ImageIn) (unit : Nat) :
    Follows [.lk] s (State.loadTree s img unit) := by
  unfold State.loadTree
  refine Follows.foldl _ ?_ ?_
  exact Follows.rfl' _ _
  intro a0 a1
  split
  refine Follows.ite ?_ ?_
  intro a2
  extract_lets +onlyGivenNames x3
  refine Follows.upd ⟨?_, ?_⟩ ?_
  · intro p hp; cases p <;> first | exact absurd (by decide) hp | rfl
  · exact fun h => ⟨h.mem, h.window, h.records, h.gate, h.sessions, h.amend, h.held, h.stamps⟩
  exact Follows.rfl' _ _
  intro a4
  exact Follows.rfl' _ _
  exact Follows.rfl' _ _

theorem State.loadNames_follows (s : State) (img : ImageIn) (unit : Nat) :
    Follows [.lk] s (State.loadNames s img unit) := by
  unfold State.loadNames
  refine Follows.foldl _ ?_ ?_
  exact Follows.rfl' _ _
  intro a0 a1
  extract_lets +onlyGivenNames x2
  split
  extract_lets +onlyGivenNames x3
  refine Follows.upd ⟨?_, ?_⟩ ?_
  · intro p hp; cases p <;> first | exact absurd (by decide) hp | rfl
  · exact fun h => ⟨h.mem, h.window, h.records, h.gate, h.sessions, h.amend, h.held, h.stamps⟩
  exact Follows.rfl' _ _
  exact Follows.rfl' _ _

theorem State.loadSlots_follows (s : State) (img : ImageIn) (unit : Nat) :
    Follows [.reg, .arb, .cams] s (State.loadSlots s img unit) := by
  unfold State.loadSlots
  extract_lets +onlyGivenNames x0
  have h0 : Follows [.reg, .arb, .cams] s x0 := by
    unfold x0
    split
    refine Follows.foldl _ ?_ ?_
    refine Follows.upd ⟨?_, ?_⟩ ?_
    · intro p hp; cases p <;> first | exact absurd (by decide) hp | rfl
    · exact fun h => ⟨h.mem, h.window, h.records, h.gate, h.sessions, h.amend, h.held, h.stamps⟩
    exact Follows.rfl' _ _
    intro a1 a2
    refine Follows.next (State.wr_follows _ _ _) (by decide) ?_
    exact Follows.rfl' _ _
    exact Follows.rfl' _ _
  clear_value x0
  split
  refine Follows.foldl _ ?_ ?_
  refine Follows.upd ⟨?_, ?_⟩ ?_
  · intro p hp; cases p <;> first | exact absurd (by decide) hp | rfl
  · exact fun h => ⟨h.mem, h.window, h.records, h.gate, h.sessions, h.amend, h.held, h.stamps⟩
  assumption
  intro a3 a4
  refine Follows.next (State.wr_follows _ _ _) (by decide) ?_
  exact Follows.rfl' _ _
  assumption

theorem State.loadProt_follows (s : State) (img : ImageIn) (unit : Nat) :
    Follows [.reg, .prot] s (State.loadProt s img unit) := by
  unfold State.loadProt
  extract_lets +onlyGivenNames x0
  refine Follows.next (State.wrs_follows _ _) (by decide) ?_
  refine Follows.upd ⟨?_, ?_⟩ ?_
  · intro p hp; cases p <;> first | exact absurd (by decide) hp | rfl
  · exact fun h => ⟨h.mem, h.window, h.records, h.gate, h.sessions, h.amend, h.held, h.stamps⟩
  exact Follows.rfl' _ _

theorem State.loadCameras_follows (s : State) (img : ImageIn) (unit : Nat) :
    Follows [.cams] s (State.loadCameras s img unit) := by
  unfold State.loadCameras
  refine Follows.upd ⟨?_, ?_⟩ ?_
  · intro p hp; cases p <;> first | exact absurd (by decide) hp | rfl
  · exact fun h => ⟨h.mem, h.window, h.records, h.gate, h.sessions, h.amend, h.held, h.stamps⟩
  exact Follows.rfl' _ _

theorem State.loadCal_follows (s : State) :
    Follows [.reg] s (State.loadCal s) := by
  unfold State.loadCal
  refine Follows.next (State.wr_follows _ _ _) (by decide) ?_
  exact Follows.rfl' _ _

theorem State.loadOwners_follows (s : State) :
    Follows [.reg] s (State.loadOwners s) := by
  unfold State.loadOwners
  refine Follows.foldl _ ?_ ?_
  exact Follows.rfl' _ _
  intro a0 a1
  refine Follows.ite ?_ ?_
  intro a2
  exact Follows.rfl' _ _
  intro a3
  extract_lets +onlyGivenNames x4
  have h4 : Follows [.reg] a0 x4 := by
    unfold x4
    refine Follows.next (State.wr_follows _ _ _) (by decide) ?_
    exact Follows.rfl' _ _
  clear_value x4
  refine Follows.foldl _ ?_ ?_
  assumption
  intro a5 a6
  refine Follows.next (State.wr_follows _ _ _) (by decide) ?_
  exact Follows.rfl' _ _

theorem State.loadImage_follows (s : State) (img : ImageIn) (role : RoleS) :
    Follows [.reg, .prot, .arb, .lk, .ses, .role, .cams] s (State.loadImage s img role) := by
  unfold State.loadImage
  extract_lets +onlyGivenNames x0
  have h0 : Follows [.reg, .prot, .arb, .lk, .ses, .role, .cams] s x0 := by
    unfold x0
    refine Follows.next (State.loadObjects_follows _ _ _) (by decide) ?_
    refine Follows.upd ⟨?_, ?_⟩ ?_
    · intro p hp; cases p <;> first | exact absurd (by decide) hp | rfl
    · exact fun h => ⟨h.mem, h.window, h.records, h.gate, h.sessions, h.amend, h.held, h.stamps⟩
    exact Follows.rfl' _ _
  clear_value x0
  extract_lets +onlyGivenNames x1
  have h1 : Follows [.reg, .prot, .arb, .lk, .ses, .role, .cams] s x1 := by
    unfold x1
    refine Follows.next (State.wrs_follows _ _) (by decide) ?_
    assumption
  clear_value x1
  extract_lets +onlyGivenNames x2
  have h2 : Follows [.reg, .prot, .arb, .lk, .ses, .role, .cams] s x2 := by
    unfold x2
    refine Follows.next (State.loadTree_follows _ _ _) (by decide) ?_
    refine Follows.next (State.loadNames_follows _ _ _) (by decide) ?_
    refine Follows.next (State.loadSlots_follows _ _ _) (by decide) ?_
    refine Follows.next (State.loadProt_follows _ _ _) (by decide) ?_
    assumption
  clear_value x2
  extract_lets +onlyGivenNames x3
  have h3 : Follows [.reg, .prot, .arb, .lk, .ses, .role, .cams] s x3 := by
    unfold x3
    refine Follows.next (State.loadCameras_follows _ _ _) (by decide) ?_
    assumption
  clear_value x3
  extract_lets +onlyGivenNames x4
  extract_lets +onlyGivenNames x5
  have h5 : Follows [.reg, .prot, .arb, .lk, .ses, .role, .cams] s x5 := by
    unfold x5
    refine Follows.upd ⟨?_, ?_⟩ ?_
    · intro p hp; cases p <;> first | exact absurd (by decide) hp | rfl
    · exact fun h => ⟨h.mem, h.window, h.records, h.gate, h.sessions, h.amend, h.held, h.stamps⟩
    assumption
  clear_value x5
  refine Follows.next (State.loadCal_follows _) (by decide) ?_
  refine Follows.next (State.loadOwners_follows _) (by decide) ?_
  assumption

theorem State.startPack_follows (s : State) :
    Follows [.reg] s (State.startPack s) := by
  unfold State.startPack
  extract_lets +onlyGivenNames x0
  extract_lets +onlyGivenNames x1
  refine Follows.next (State.wr_follows _ _ _) (by decide) ?_
  exact Follows.rfl' _ _

theorem State.loadPacks_follows (s : State) (img : ImageIn) (l : List PackIn) :
    Follows [.reg, .answers, .mirror, .obs, .ses, .bb] s (State.loadPacks s img l) := by
  unfold State.loadPacks
  extract_lets +onlyGivenNames x0
  extract_lets +onlyGivenNames x1
  extract_lets +onlyGivenNames x2
  extract_lets +onlyGivenNames x3
  extract_lets +onlyGivenNames x4
  extract_lets +onlyGivenNames x5
  have h5 : Follows [.reg, .answers, .mirror, .obs, .ses, .bb] s x5 := by
    unfold x5
    refine Follows.upd ⟨?_, ?_⟩ ?_
    · intro p hp; cases p <;> first | exact absurd (by decide) hp | rfl
    · exact fun h => ⟨h.mem, h.window, h.records, h.gate, h.sessions, h.amend, h.held, h.stamps⟩
    exact Follows.rfl' _ _
  clear_value x5
  refine Follows.foldl _ ?_ ?_
  assumption
  intro a6 a7
  refine Follows.next (State.log_follows _ _ _ _ _ _ _) (by decide) ?_
  exact Follows.rfl' _ _

theorem State.useImage_follows (s : State) (img : ImageIn) (uid : Nat) (source : Nat) :
    Follows [.reg, .hmp] s (State.useImage s img uid source) := by
  unfold State.useImage
  refine Follows.next (State.wrs_follows _ _) (by decide) ?_
  refine Follows.upd ⟨?_, ?_⟩ ?_
  · intro p hp; cases p <;> first | exact absurd (by decide) hp | rfl
  · exact fun h => ⟨h.mem, h.window, h.records, h.gate, h.sessions, h.amend, h.held, h.stamps⟩
  exact Follows.rfl' _ _

theorem State.countSample_follows (s : State) (n : Nat) (onTime : Bool) :
    Follows [.reg, .obs] s (State.countSample s n onTime) := by
  unfold State.countSample
  extract_lets +onlyGivenNames x0
  extract_lets +onlyGivenNames x1
  extract_lets +onlyGivenNames x2
  refine Follows.next (State.showBind_follows _ _) (by decide) ?_
  refine Follows.next (State.setBind_follows _ _ _) (by decide) ?_
  exact Follows.rfl' _ _

theorem State.gatherOne_follows (s : State) (t0 : Int) (x : ObsIn) :
    Follows [.reg, .obs] s (State.gatherOne s t0 x) := by
  unfold State.gatherOne
  refine Follows.ite ?_ ?_
  intro a0
  exact Follows.rfl' _ _
  intro a1
  split
  refine Follows.upd ⟨?_, ?_⟩ ?_
  · intro p hp; cases p <;> first | exact absurd (by decide) hp | rfl
  · exact fun h => ⟨h.mem, h.window, h.records, h.gate, h.sessions, h.amend, h.held, h.stamps⟩
  exact Follows.rfl' _ _
  extract_lets +onlyGivenNames x2
  have h2 : Follows [.reg, .obs] s x2 := by
    unfold x2
    refine Follows.next (State.countSample_follows _ _ _) (by decide) ?_
    exact Follows.rfl' _ _
  clear_value x2
  refine Follows.ite ?_ ?_
  intro a3
  assumption
  intro a4
  refine Follows.upd ⟨?_, ?_⟩ ?_
  · intro p hp; cases p <;> first | exact absurd (by decide) hp | rfl
  · exact fun h => ⟨h.mem, h.window, h.records, h.gate, h.sessions, h.amend, h.held, h.stamps⟩
  assumption
  extract_lets +onlyGivenNames x5
  have h5 : Follows [.reg, .obs] s x5 := by
    unfold x5
    refine Follows.next (State.bump_follows _ _ _) (by decide) ?_
    refine Follows.next (State.countSample_follows _ _ _) (by decide) ?_
    exact Follows.rfl' _ _
  clear_value x5
  refine Follows.ite ?_ ?_
  intro a6
  assumption
  intro a7
  refine Follows.upd ⟨?_, ?_⟩ ?_
  · intro p hp; cases p <;> first | exact absurd (by decide) hp | rfl
  · exact fun h => ⟨h.mem, h.window, h.records, h.gate, h.sessions, h.amend, h.held, h.stamps⟩
  assumption
  refine Follows.next (State.bump_follows _ _ _) (by decide) ?_
  refine Follows.next (State.countSample_follows _ _ _) (by decide) ?_
  exact Follows.rfl' _ _

theorem State.stepOnTime_follows (s : State) :
    Follows [.obs] s (State.stepOnTime s) := by
  unfold State.stepOnTime
  refine Follows.ite ?_ ?_
  intro a0
  extract_lets +onlyGivenNames x1
  refine Follows.upd ⟨?_, ?_⟩ ?_
  · intro p hp; cases p <;> first | exact absurd (by decide) hp | rfl
  · exact fun h => ⟨h.mem, h.window, h.records, h.gate, h.sessions, h.amend, h.held, h.stamps⟩
  exact Follows.rfl' _ _
  intro a2
  exact Follows.rfl' _ _

theorem State.judgeLie_follows (s : State) (net : NetIn) (n : Nat) :
    Follows [.reg, .answers, .mirror, .obs, .ses, .bb] s (State.judgeLie s net n) := by
  unfold State.judgeLie
  extract_lets +onlyGivenNames x0
  extract_lets +onlyGivenNames x1
  extract_lets +onlyGivenNames x2
  extract_lets +onlyGivenNames x3
  extract_lets +onlyGivenNames x4
  extract_lets +onlyGivenNames x5
  have h5 : Follows [.reg, .answers, .mirror, .obs, .ses, .bb] s x5 := by
    unfold x5
    refine Follows.next (State.setBind_follows _ _ _) (by decide) ?_
    exact Follows.rfl' _ _
  clear_value x5
  refine Follows.ite ?_ ?_
  intro a6
  assumption
  intro a7
  refine Follows.next (State.logOnce_follows _ _ _ _ _ _ _) (by decide) ?_
  assumption

theorem State.judgeLate_follows (s : State) (n : Nat) :
    Follows [.reg, .answers, .mirror, .obs, .ses, .bb] s (State.judgeLate s n) := by
  unfold State.judgeLate
  extract_lets +onlyGivenNames x0
  extract_lets +onlyGivenNames x1
  extract_lets +onlyGivenNames x2
  extract_lets +onlyGivenNames x3
  extract_lets +onlyGivenNames x4
  extract_lets +onlyGivenNames x5
  extract_lets +onlyGivenNames x6
  have h6 : Follows [.reg, .answers, .mirror, .obs, .ses, .bb] s x6 := by
    unfold x6
    refine Follows.next (State.wr_follows _ _ _) (by decide) ?_
    refine Follows.next (State.setBind_follows _ _ _) (by decide) ?_
    exact Follows.rfl' _ _
  clear_value x6
  refine Follows.ite ?_ ?_
  intro a7
  assumption
  intro a8
  refine Follows.next (State.logOnce_follows _ _ _ _ _ _ _) (by decide) ?_
  assumption

theorem State.judgeSource_follows (s : State) (net : NetIn) (n : Nat) :
    Follows [.reg, .answers, .mirror, .obs, .ses, .bb] s (State.judgeSource s net n) := by
  unfold State.judgeSource
  extract_lets +onlyGivenNames x0
  have h0 : Follows [.reg, .answers, .mirror, .obs, .ses, .bb] s x0 := by
    unfold x0
    refine Follows.next (State.judgeDrift_follows _ _) (by decide) ?_
    refine Follows.next (State.judgeLie_follows _ _ _) (by decide) ?_
    refine Follows.next (State.judgeLate_follows _ _) (by decide) ?_
    exact Follows.rfl' _ _
  clear_value x0
  extract_lets +onlyGivenNames x1
  extract_lets +onlyGivenNames x2
  have h2 : Follows [.reg, .answers, .mirror, .obs, .ses, .bb] s x2 := by
    unfold x2
    refine Follows.ite ?_ ?_
    intro a3
    refine Follows.next (State.countSample_follows _ _ _) (by decide) ?_
    refine Follows.next (State.setBind_follows _ _ _) (by decide) ?_
    assumption
    intro a4
    assumption
  clear_value x2
  extract_lets +onlyGivenNames x5
  extract_lets +onlyGivenNames x6
  have h6 : Follows [.reg, .answers, .mirror, .obs, .ses, .bb] s x6 := by
    unfold x6
    refine Follows.ite ?_ ?_
    intro a7
    refine Follows.next (State.setBind_follows _ _ _) (by decide) ?_
    assumption
    intro a8
    assumption
  clear_value x6
  refine Follows.next (State.wr_follows _ _ _) (by decide) ?_
  refine Follows.next (State.showBind_follows _ _) (by decide) ?_
  assumption

theorem State.publishEgo_follows (s : State) (net : NetIn) (k : Nat) :
    Follows [.ego, .obs, .ses] s (State.publishEgo s net k) := by
  unfold State.publishEgo
  extract_lets +onlyGivenNames x0
  extract_lets +onlyGivenNames x1
  extract_lets +onlyGivenNames x2
  have h2 : Follows [.ego, .obs, .ses] s x2 := by
    unfold x2
    refine Follows.upd ⟨?_, ?_⟩ ?_
    · intro p hp; cases p <;> first | exact absurd (by decide) hp | rfl
    · exact fun h => ⟨h.mem, h.window, h.records, h.gate, h.sessions, h.amend, h.held, h.stamps⟩
    exact Follows.rfl' _ _
  clear_value x2
  refine Follows.ite ?_ ?_
  intro a3
  assumption
  intro a4
  extract_lets +onlyGivenNames x5
  refine Follows.next (State.publish_follows _ _ _ _) (by decide) ?_
  refine Follows.upd ⟨?_, ?_⟩ ?_
  · intro p hp; cases p <;> first | exact absurd (by decide) hp | rfl
  · exact fun h => ⟨h.mem, h.window, h.records, h.gate, h.sessions, h.amend, h.held, h.stamps⟩
  assumption

theorem State.judgeInnov_follows (s : State) (net : NetIn) :
    Follows [.reg, .answers, .mirror, .obs, .ses, .bb] s (State.judgeInnov s net) := by
  unfold State.judgeInnov
  extract_lets +onlyGivenNames x0
  extract_lets +onlyGivenNames x1
  extract_lets +onlyGivenNames x2
  extract_lets +onlyGivenNames x3
  extract_lets +onlyGivenNames x4
  extract_lets +onlyGivenNames x5
  extract_lets +onlyGivenNames x6
  have h6 : Follows [.reg, .answers, .mirror, .obs, .ses, .bb] s x6 := by
    unfold x6
    refine Follows.upd ⟨?_, ?_⟩ ?_
    · intro p hp; cases p <;> first | exact absurd (by decide) hp | rfl
    · exact fun h => ⟨h.mem, h.window, h.records, h.gate, h.sessions, h.amend, h.held, h.stamps⟩
    exact Follows.rfl' _ _
  clear_value x6
  refine Follows.ite ?_ ?_
  intro a7
  assumption
  intro a8
  refine Follows.next (State.log_follows _ _ _ _ _ _ _) (by decide) ?_
  assumption

theorem State.warmDone_follows (s : State) (k : Nat) :
    Follows [.reg, .answers, .mirror, .ln, .vd, .fn, .opt, .lk, .obs, .ses, .bb] s (State.warmDone s k) := by
  unfold State.warmDone
  extract_lets +onlyGivenNames x0
  have h0 : Follows [.reg, .answers, .mirror, .ln, .vd, .fn, .opt, .lk, .obs, .ses, .bb] s x0 := by
    unfold x0
    refine Follows.next (State.log_follows _ _ _ _ _ _ _) (by decide) ?_
    refine Follows.next (State.wrs_follows _ _) (by decide) ?_
    exact Follows.rfl' _ _
  clear_value x0
  split
  refine Follows.next (State.setDstep_follows _ _ _ _) (by decide) ?_
  refine Follows.upd ⟨?_, ?_⟩ ?_
  · intro p hp; cases p <;> first | exact absurd (by decide) hp | rfl
  · exact fun h => ⟨h.mem, h.window, h.records, h.gate, h.sessions, h.amend, h.held, h.stamps⟩
  assumption

theorem State.degrade_follows (s : State) (k : Nat) :
    Follows [.reg, .answers, .mirror, .ln, .vd, .fn, .opt, .lk, .obs, .ses, .bb] s (State.degrade s k) := by
  unfold State.degrade
  split
  extract_lets +onlyGivenNames x0
  refine Follows.ite ?_ ?_
  intro a1
  refine Follows.next (State.setDstep_follows _ _ _ _) (by decide) ?_
  refine Follows.upd ⟨?_, ?_⟩ ?_
  · intro p hp; cases p <;> first | exact absurd (by decide) hp | rfl
  · exact fun h => ⟨h.mem, h.window, h.records, h.gate, h.sessions, h.amend, h.held, h.stamps⟩
  exact Follows.rfl' _ _
  intro a2
  refine Follows.ite ?_ ?_
  intro a3
  refine Follows.upd ⟨?_, ?_⟩ ?_
  · intro p hp; cases p <;> first | exact absurd (by decide) hp | rfl
  · exact fun h => ⟨h.mem, h.window, h.records, h.gate, h.sessions, h.amend, h.held, h.stamps⟩
  exact Follows.rfl' _ _
  intro a4
  split
  refine Follows.upd ⟨?_, ?_⟩ ?_
  · intro p hp; cases p <;> first | exact absurd (by decide) hp | rfl
  · exact fun h => ⟨h.mem, h.window, h.records, h.gate, h.sessions, h.amend, h.held, h.stamps⟩
  exact Follows.rfl' _ _
  refine Follows.ite ?_ ?_
  intro a5
  exact Follows.rfl' _ _
  intro a6
  extract_lets +onlyGivenNames x7
  refine Follows.next (State.setDstep_follows _ _ _ _) (by decide) ?_
  refine Follows.upd ⟨?_, ?_⟩ ?_
  · intro p hp; cases p <;> first | exact absurd (by decide) hp | rfl
  · exact fun h => ⟨h.mem, h.window, h.records, h.gate, h.sessions, h.amend, h.held, h.stamps⟩
  exact Follows.rfl' _ _

theorem State.writeSides_follows (s : State) (net : NetIn) (t0 : Int) :
    Follows [.reg, .answers, .board, .opt] s (State.writeSides s net t0) := by
  unfold State.writeSides
  extract_lets +onlyGivenNames x0
  refine Follows.ite ?_ ?_
  intro a1
  exact Follows.rfl' _ _
  intro a2
  extract_lets +onlyGivenNames x3
  have h3 : Follows [.reg, .answers, .board, .opt] s x3 := by
    unfold x3
    refine Follows.foldl _ ?_ ?_
    exact Follows.rfl' _ _
    intro a4 a5
    refine Follows.ite ?_ ?_
    intro a6
    exact Follows.rfl' _ _
    intro a7
    refine Follows.ite ?_ ?_
    intro a8
    refine Follows.ite ?_ ?_
    intro a9
    refine Follows.next (State.writeSide_follows _ _ _ _ _) (by decide) ?_
    exact Follows.rfl' _ _
    intro a10
    exact Follows.rfl' _ _
    intro a11
    refine Follows.ite ?_ ?_
    intro a12
    refine Follows.next (State.writeSide_follows _ _ _ _ _) (by decide) ?_
    exact Follows.rfl' _ _
    intro a13
    exact Follows.rfl' _ _
  clear_value x3
  refine Follows.upd ⟨?_, ?_⟩ ?_
  · intro p hp; cases p <;> first | exact absurd (by decide) hp | rfl
  · exact fun h => ⟨h.mem, h.window, h.records, h.gate, h.sessions, h.amend, h.held, h.stamps⟩
  assumption

theorem State.publishOut_follows (s : State) (net : NetIn) (k : Nat) (t0 : Int) :
    Follows [.out, .ses, .ym] s (State.publishOut s net k t0) := by
  unfold State.publishOut
  extract_lets +onlyGivenNames x0
  extract_lets +onlyGivenNames x1
  have h1 : Follows [.out, .ses, .ym] s x1 := by
    unfold x1
    refine Follows.next (State.noteTransport_follows _ _ _ _) (by decide) ?_
    exact Follows.rfl' _ _
  clear_value x1
  refine Follows.next (State.publish_follows _ _ _ _) (by decide) ?_
  refine Follows.upd ⟨?_, ?_⟩ ?_
  · intro p hp; cases p <;> first | exact absurd (by decide) hp | rfl
  · exact fun h => ⟨h.mem, h.window, h.records, h.gate, h.sessions, h.amend, h.held, h.stamps⟩
  assumption

theorem State.obsComplete_follows (s : State) (st : ObsStepS) (net : NetIn) :
    Follows [.reg, .answers, .board, .mirror, .ln, .vd, .fn, .opt, .lk, .ego, .out, .obs, .ses, .bb, .ym] s (State.obsComplete s st net) := by
  unfold State.obsComplete
  extract_lets +onlyGivenNames x0
  extract_lets +onlyGivenNames x1
  extract_lets +onlyGivenNames x2
  have h2 : Follows [.reg, .answers, .board, .mirror, .ln, .vd, .fn, .opt, .lk, .ego, .out, .obs, .ses, .bb, .ym] s x2 := by
    unfold x2
    refine Follows.upd ⟨?_, ?_⟩ ?_
    · intro p hp; cases p <;> first | exact absurd (by decide) hp | rfl
    · exact fun h => ⟨h.mem, h.window, h.records, h.gate, h.sessions, h.amend, h.held, h.stamps⟩
    exact Follows.rfl' _ _
  clear_value x2
  extract_lets +onlyGivenNames x3
  have h3 : Follows [.reg, .answers, .board, .mirror, .ln, .vd, .fn, .opt, .lk, .ego, .out, .obs, .ses, .bb, .ym] s x3 := by
    unfold x3
    refine Follows.next (State.wrs_follows _ _) (by decide) ?_
    assumption
  clear_value x3
  extract_lets +onlyGivenNames x4
  have h4 : Follows [.reg, .answers, .board, .mirror, .ln, .vd, .fn, .opt, .lk, .ego, .out, .obs, .ses, .bb, .ym] s x4 := by
    unfold x4
    refine Follows.next (State.stepOnTime_follows _) (by decide) ?_
    refine Follows.next (State.raise_follows _ _ _) (by decide) ?_
    assumption
  clear_value x4
  extract_lets +onlyGivenNames x5
  have h5 : Follows [.reg, .answers, .board, .mirror, .ln, .vd, .fn, .opt, .lk, .ego, .out, .obs, .ses, .bb, .ym] s x5 := by
    unfold x5
    refine Follows.foldl _ ?_ ?_
    assumption
    intro a6 a7
    refine Follows.next (State.judgeSource_follows _ _ _) (by decide) ?_
    exact Follows.rfl' _ _
  clear_value x5
  extract_lets +onlyGivenNames x8
  have h8 : Follows [.reg, .answers, .board, .mirror, .ln, .vd, .fn, .opt, .lk, .ego, .out, .obs, .ses, .bb, .ym] s x8 := by
    unfold x8
    refine Follows.next (State.publishEgo_follows _ _ _) (by decide) ?_
    refine Follows.next (State.judgeInnov_follows _ _) (by decide) ?_
    assumption
  clear_value x8
  extract_lets +onlyGivenNames x9
  extract_lets +onlyGivenNames x10
  have h10 : Follows [.reg, .answers, .board, .mirror, .ln, .vd, .fn, .opt, .lk, .ego, .out, .obs, .ses, .bb, .ym] s x10 := by
    unfold x10
    refine Follows.upd ⟨?_, ?_⟩ ?_
    · intro p hp; cases p <;> first | exact absurd (by decide) hp | rfl
    · exact fun h => ⟨h.mem, h.window, h.records, h.gate, h.sessions, h.amend, h.held, h.stamps⟩
    assumption
  clear_value x10
  refine Follows.ite ?_ ?_
  intro a11
  refine Follows.next (State.showOpt_follows _) (by decide) ?_
  assumption
  intro a12
  extract_lets +onlyGivenNames x13
  have h13 : Follows [.reg, .answers, .board, .mirror, .ln, .vd, .fn, .opt, .lk, .ego, .out, .obs, .ses, .bb, .ym] s x13 := by
    unfold x13
    refine Follows.ite ?_ ?_
    intro a14
    refine Follows.next (State.warmDone_follows _ _) (by decide) ?_
    assumption
    intro a15
    refine Follows.next (State.degrade_follows _ _) (by decide) ?_
    assumption
  clear_value x13
  refine Follows.ite ?_ ?_
  intro a16
  refine Follows.next (State.obsStop_follows _ _) (by decide) ?_
  assumption
  intro a17
  refine Follows.next (State.showOpt_follows _) (by decide) ?_
  refine Follows.next (State.writeSides_follows _ _ _) (by decide) ?_
  refine Follows.next (State.publishOut_follows _ _ _ _) (by decide) ?_
  assumption

theorem State.obsOverrun_follows (s : State) :
    Follows [.reg, .answers, .mirror, .obs, .ses, .bb] s (State.obsOverrun s) := by
  unfold State.obsOverrun
  split
  exact Follows.rfl' _ _
  extract_lets +onlyGivenNames x0
  have h0 : Follows [.reg, .answers, .mirror, .obs, .ses, .bb] s x0 := by
    unfold x0
    refine Follows.next (State.bump_follows _ _ _) (by decide) ?_
    refine Follows.next (State.bump_follows _ _ _) (by decide) ?_
    exact Follows.rfl' _ _
  clear_value x0
  extract_lets +onlyGivenNames x1
  extract_lets +onlyGivenNames x2
  extract_lets +onlyGivenNames x3
  have h3 : Follows [.reg, .answers, .mirror, .obs, .ses, .bb] s x3 := by
    unfold x3
    refine Follows.upd ⟨?_, ?_⟩ ?_
    · intro p hp; cases p <;> first | exact absurd (by decide) hp | rfl
    · exact fun h => ⟨h.mem, h.window, h.records, h.gate, h.sessions, h.amend, h.held, h.stamps⟩
    assumption
  clear_value x3
  refine Follows.next (State.logOnce_follows _ _ _ _ _ _ _) (by decide) ?_
  assumption

theorem State.stampOrder_follows (s : State) :
    Follows [.obs] s (State.stampOrder s) := by
  unfold State.stampOrder
  refine Follows.upd ⟨?_, ?_⟩ ?_
  · intro p hp; cases p <;> first | exact absurd (by decide) hp | rfl
  · exact fun h => ⟨h.mem, h.window, h.records, h.gate, h.sessions, h.amend, h.held, h.stamps⟩
  exact Follows.rfl' _ _

theorem State.publishCycle_follows (s : State) :
    Follows [.reg, .answers, .board] s (State.publishCycle s) := by
  unfold State.publishCycle
  extract_lets +onlyGivenNames x0
  refine Follows.foldl _ ?_ ?_
  exact Follows.rfl' _ _
  intro a1 a2
  extract_lets +onlyGivenNames x3
  refine Follows.ite ?_ ?_
  intro a4
  exact Follows.rfl' _ _
  intro a5
  refine Follows.next (State.writeSide_follows _ _ _ _ _) (by decide) ?_
  exact Follows.rfl' _ _

theorem State.takeMaps_follows (s : State) (maps : List (Nat × Nat × Nat)) :
    Follows [.fn] s (State.takeMaps s maps) := by
  unfold State.takeMaps
  refine Follows.foldl _ ?_ ?_
  exact Follows.rfl' _ _
  intro a0 a1
  refine Follows.ite ?_ ?_
  intro a2
  refine Follows.foldl _ ?_ ?_
  exact Follows.rfl' _ _
  intro a3 a4
  refine Follows.next (State.setIdx_follows _ _ _ _) (by decide) ?_
  exact Follows.rfl' _ _
  intro a5
  exact Follows.rfl' _ _

theorem State.choose_follows (s : State) (l : List CandIn) :
    Follows [.free] s (State.choose s l).2 := by
  unfold State.choose
  split
  dsimp only
  exact Follows.rfl' _ _
  dsimp only
  exact Follows.rfl' _ _
  split
  dsimp only
  refine Follows.next (Follows.snd (by assumption) (State.fresh_follows _ _)) (by decide) ?_
  exact Follows.rfl' _ _

theorem State.takeChoice_follows (s : State) (c : CandIn) :
    Follows [.fn] s (State.takeChoice s c) := by
  unfold State.takeChoice
  refine Follows.foldl _ ?_ ?_
  exact Follows.rfl' _ _
  intro a0 a1
  refine Follows.ite ?_ ?_
  intro a2
  refine Follows.next (State.setIdx_follows _ _ _ _) (by decide) ?_
  exact Follows.rfl' _ _
  intro a3
  exact Follows.rfl' _ _

theorem State.setNode_follows (s : State) (port : Nat) (n : NodeS) :
    Follows [.lk] s (State.setNode s port n) := by
  unfold State.setNode
  refine Follows.upd ⟨?_, ?_⟩ ?_
  · intro p hp; cases p <;> first | exact absurd (by decide) hp | rfl
  · exact fun h => ⟨h.mem, h.window, h.records, h.gate, h.sessions, h.amend, h.held, h.stamps⟩
  exact Follows.rfl' _ _

theorem State.driveWhistle_follows (s : State) (port : Nat) (on : Bool) :
    Follows [.reg, .whistle] s (State.driveWhistle s port on) := by
  unfold State.driveWhistle
  extract_lets +onlyGivenNames x0
  refine Follows.next (State.wr_follows _ _ _) (by decide) ?_
  refine Follows.upd ⟨?_, ?_⟩ ?_
  · intro p hp; cases p <;> first | exact absurd (by decide) hp | rfl
  · exact fun h => ⟨h.mem, h.window, h.records, h.gate, h.sessions, h.amend, h.held, h.stamps⟩
  exact Follows.rfl' _ _

theorem State.sigRaw_follows (s : State) (n : Nat) (data : List Nat) :
    Follows [.free] s (State.sigRaw s n data).2 := by
  unfold State.sigRaw
  dsimp only
  split
  dsimp only
  exact Follows.rfl' _ _
  refine Follows.next (State.fresh_follows _ _) (by decide) ?_
  exact Follows.rfl' _ _

theorem State.takeSignal_follows (s : State) (ch : Nat) (f : CanIn) (stamp : Int) (n : Nat) :
    Follows [.free, .lk] s (State.takeSignal s ch f stamp n) := by
  unfold State.takeSignal
  refine Follows.ite ?_ ?_
  intro a0
  exact Follows.rfl' _ _
  intro a1
  split
  extract_lets +onlyGivenNames x2
  refine Follows.upd ⟨?_, ?_⟩ ?_
  · intro p hp; cases p <;> first | exact absurd (by decide) hp | rfl
  · exact fun h => ⟨h.mem, h.window, h.records, h.gate, h.sessions, h.amend, h.held, h.stamps⟩
  refine Follows.next (Follows.snd (by assumption) (State.sigRaw_follows _ _ _)) (by decide) ?_
  exact Follows.rfl' _ _

theorem State.setTrunk_follows (s : State) (port : Nat) (v : TrunkS) :
    Follows [.lk] s (State.setTrunk s port v) := by
  unfold State.setTrunk
  refine Follows.upd ⟨?_, ?_⟩ ?_
  · intro p hp; cases p <;> first | exact absurd (by decide) hp | rfl
  · exact fun h => ⟨h.mem, h.window, h.records, h.gate, h.sessions, h.amend, h.held, h.stamps⟩
  exact Follows.rfl' _ _

theorem State.upstreamLost_follows (s : State) (port : Nat) :
    Follows [.reg, .answers, .mirror, .ln, .fn, .eng, .lk, .ses, .bb, .gd] s (State.upstreamLost s port) := by
  unfold State.upstreamLost
  extract_lets +onlyGivenNames x0
  extract_lets +onlyGivenNames x1
  have h1 : Follows [.reg, .answers, .mirror, .ln, .fn, .eng, .lk, .ses, .bb, .gd] s x1 := by
    unfold x1
    refine Follows.upd ⟨?_, ?_⟩ ?_
    · intro p hp; cases p <;> first | exact absurd (by decide) hp | rfl
    · exact fun h => ⟨h.mem, h.window, h.records, h.gate, h.sessions, h.amend, h.held, h.stamps⟩
    exact Follows.rfl' _ _
  clear_value x1
  extract_lets +onlyGivenNames x2
  extract_lets +onlyGivenNames x3
  have h3 : Follows [.reg, .answers, .mirror, .ln, .fn, .eng, .lk, .ses, .bb, .gd] s x3 := by
    unfold x3
    refine Follows.next (State.log_follows _ _ _ _ _ _ _) (by decide) ?_
    assumption
  clear_value x3
  extract_lets +onlyGivenNames x4
  have h4 : Follows [.reg, .answers, .mirror, .ln, .fn, .eng, .lk, .ses, .bb, .gd] s x4 := by
    unfold x4
    refine Follows.foldl _ ?_ ?_
    assumption
    intro a5 a6
    refine Follows.next (State.stopFn_follows _ _ _ _) (by decide) ?_
    exact Follows.rfl' _ _
  clear_value x4
  refine Follows.foldl _ ?_ ?_
  assumption
  intro a7 a8
  refine Follows.ite ?_ ?_
  intro a9
  refine Follows.next (State.answer_follows _ _ _ _) (by decide) ?_
  exact Follows.rfl' _ _
  intro a10
  exact Follows.rfl' _ _

theorem State.sendGroup_follows (s : State) (ch : Nat) (pgn : Nat) (data : List Nat) :
    Follows [.reg, .answers, .mirror, .lk, .ses, .bb] s (State.sendGroup s ch pgn data) := by
  unfold State.sendGroup
  extract_lets +onlyGivenNames x0
  extract_lets +onlyGivenNames x1
  extract_lets +onlyGivenNames x2
  refine Follows.ite ?_ ?_
  intro a3
  refine Follows.next (State.stackFrame_follows _ _ _ _) (by decide) ?_
  exact Follows.rfl' _ _
  intro a4
  extract_lets +onlyGivenNames x5
  have h5 : Follows [.reg, .answers, .mirror, .lk, .ses, .bb] s x5 := by
    unfold x5
    refine Follows.next (State.stackFrame_follows _ _ _ _) (by decide) ?_
    exact Follows.rfl' _ _
  clear_value x5
  refine Follows.foldl _ ?_ ?_
  assumption
  intro a6 a7
  refine Follows.next (State.stackFrame_follows _ _ _ _) (by decide) ?_
  exact Follows.rfl' _ _

theorem State.answerDm1_follows (s : State) (ch : Nat) (f : CanIn) :
    Follows [.reg, .answers, .mirror, .lk, .ses, .bb] s (State.answerDm1 s ch f) := by
  unfold State.answerDm1
  extract_lets +onlyGivenNames x0
  extract_lets +onlyGivenNames x1
  refine Follows.ite ?_ ?_
  intro a2
  refine Follows.next (State.sendGroup_follows _ _ _ _) (by decide) ?_
  exact Follows.rfl' _ _
  intro a3
  exact Follows.rfl' _ _

theorem State.takePgn_follows (s : State) (ch : Nat) (f : CanIn) (stamp : Int) :
    Follows [.reg, .opt, .lk] s (State.takePgn s ch f stamp) := by
  unfold State.takePgn
  extract_lets +onlyGivenNames x0
  refine Follows.ite ?_ ?_
  intro a1
  exact Follows.rfl' _ _
  intro a2
  extract_lets +onlyGivenNames x3
  extract_lets +onlyGivenNames x4
  have h4 : Follows [.reg, .opt, .lk] s x4 := by
    unfold x4
    refine Follows.next (State.setCan_follows _ _ _) (by decide) ?_
    exact Follows.rfl' _ _
  clear_value x4
  refine Follows.ite ?_ ?_
  intro a5
  refine Follows.upd ⟨?_, ?_⟩ ?_
  · intro p hp; cases p <;> first | exact absurd (by decide) hp | rfl
  · exact fun h => ⟨h.mem, h.window, h.records, h.gate, h.sessions, h.amend, h.held, h.stamps⟩
  assumption
  intro a6
  assumption

theorem State.setComp_follows (s : State) :
    Follows [.reg, .pc] s (State.setComp s) := by
  unfold State.setComp
  extract_lets +onlyGivenNames x0
  extract_lets +onlyGivenNames x1
  extract_lets +onlyGivenNames x2
  have h2 : Follows [.reg, .pc] s x2 := by
    unfold x2
    refine Follows.ite ?_ ?_
    intro a3
    exact Follows.rfl' _ _
    intro a4
    refine Follows.upd ⟨?_, ?_⟩ ?_
    · intro p hp; cases p <;> first | exact absurd (by decide) hp | rfl
    · exact fun h => ⟨h.mem, h.window, h.records, h.gate, h.sessions, h.amend, h.held, h.stamps⟩
    exact Follows.rfl' _ _
  clear_value x2
  refine Follows.next (State.wr_follows _ _ _) (by decide) ?_
  assumption

theorem State.pcRecord_follows (s : State) (frame : Nat) (band : Nat) (result : Nat) (commons : List Nat) :
    Follows [.reg, .bb] s (State.pcRecord s frame band result commons) := by
  unfold State.pcRecord
  refine Follows.next (State.bbPush_follows _ _) (by decide) ?_
  exact Follows.rfl' _ _

theorem State.railsDown_follows (s : State) :
    Follows [.answers] s (State.railsDown s) := by
  unfold State.railsDown
  refine Follows.next (State.answer_follows _ _ _ _) (by decide) ?_
  refine Follows.next (State.answer_follows _ _ _ _) (by decide) ?_
  exact Follows.rfl' _ _

theorem State.drivePanel_follows (s : State) (frame : Nat) (band : Nat) (commons : List Nat) :
    Follows [.answers] s (State.drivePanel s frame band commons) := by
  unfold State.drivePanel
  extract_lets +onlyGivenNames x0
  extract_lets +onlyGivenNames x1
  have h1 : Follows [.answers] s x1 := by
    unfold x1
    refine Follows.next (State.answer_follows _ _ _ _) (by decide) ?_
    refine Follows.next (State.answer_follows _ _ _ _) (by decide) ?_
    exact Follows.rfl' _ _
  clear_value x1
  refine Follows.foldl _ ?_ ?_
  assumption
  intro a2 a3
  extract_lets +onlyGivenNames x4
  refine Follows.next (State.answer_follows _ _ _ _) (by decide) ?_
  exact Follows.rfl' _ _

theorem State.pcLatch_follows (s : State) (temp : Int) (full : Bool) (fromSched : Bool) :
    Follows [.reg, .answers, .mirror, .ses, .bb, .pc] s (State.pcLatch s temp full fromSched) := by
  unfold State.pcLatch
  extract_lets +onlyGivenNames x0
  extract_lets +onlyGivenNames x1
  extract_lets +onlyGivenNames x2
  extract_lets +onlyGivenNames x3
  have h3 : Follows [.reg, .answers, .mirror, .ses, .bb, .pc] s x3 := by
    unfold x3
    refine Follows.next (State.wr_follows _ _ _) (by decide) ?_
    refine Follows.upd ⟨?_, ?_⟩ ?_
    · intro p hp; cases p <;> first | exact absurd (by decide) hp | rfl
    · exact fun h => ⟨h.mem, h.window, h.records, h.gate, h.sessions, h.amend, h.held, h.stamps⟩
    exact Follows.rfl' _ _
  clear_value x3
  refine Follows.ite ?_ ?_
  intro a4
  refine Follows.next (State.pcRecord_follows _ _ _ _ _) (by decide) ?_
  refine Follows.next (State.log_follows _ _ _ _ _ _ _) (by decide) ?_
  refine Follows.next (State.wr_follows _ _ _) (by decide) ?_
  refine Follows.upd ⟨?_, ?_⟩ ?_
  · intro p hp; cases p <;> first | exact absurd (by decide) hp | rfl
  · exact fun h => ⟨h.mem, h.window, h.records, h.gate, h.sessions, h.amend, h.held, h.stamps⟩
  assumption
  intro a5
  extract_lets +onlyGivenNames x6
  extract_lets +onlyGivenNames x7
  extract_lets +onlyGivenNames x8
  extract_lets +onlyGivenNames x9
  extract_lets +onlyGivenNames x10
  have h10 : Follows [.reg, .answers, .mirror, .ses, .bb, .pc] s x10 := by
    unfold x10
    refine Follows.next (State.wrs_follows _ _) (by decide) ?_
    refine Follows.upd ⟨?_, ?_⟩ ?_
    · intro p hp; cases p <;> first | exact absurd (by decide) hp | rfl
    · exact fun h => ⟨h.mem, h.window, h.records, h.gate, h.sessions, h.amend, h.held, h.stamps⟩
    assumption
  clear_value x10
  refine Follows.next (State.drivePanel_follows _ _ _ _) (by decide) ?_
  assumption

theorem State.placeLoops_follows (s : State) :
    Follows [.reg, .eng] s (State.placeLoops s) := by
  unfold State.placeLoops
  refine Follows.foldl _ ?_ ?_
  exact Follows.rfl' _ _
  intro a0 a1
  extract_lets +onlyGivenNames x2
  extract_lets +onlyGivenNames x3
  refine Follows.next (State.wr_follows _ _ _) (by decide) ?_
  refine Follows.upd ⟨?_, ?_⟩ ?_
  · intro p hp; cases p <;> first | exact absurd (by decide) hp | rfl
  · exact fun h => ⟨h.mem, h.window, h.records, h.gate, h.sessions, h.amend, h.held, h.stamps⟩
  exact Follows.rfl' _ _

theorem State.setWaiting_follows (s : State) (e : Nat) (q : List SampleS) :
    Follows [.eng] s (State.setWaiting s e q) := by
  unfold State.setWaiting
  refine Follows.upd ⟨?_, ?_⟩ ?_
  · intro p hp; cases p <;> first | exact absurd (by decide) hp | rfl
  · exact fun h => ⟨h.mem, h.window, h.records, h.gate, h.sessions, h.amend, h.held, h.stamps⟩
  exact Follows.rfl' _ _

theorem State.commitOut_follows (s : State) (f : Nat) (l : Nat) (u : Rat) :
    Follows [.reg, .answers, .fn] s (State.commitOut s f l u) := by
  unfold State.commitOut
  extract_lets +onlyGivenNames x0
  have h0 : Follows [.reg, .answers, .fn] s x0 := by
    unfold x0
    refine Follows.next (State.wr_follows _ _ _) (by decide) ?_
    exact Follows.rfl' _ _
  clear_value x0
  refine Follows.ite ?_ ?_
  intro a1
  refine Follows.next (State.sendCmd_follows _ _ _ _) (by decide) ?_
  assumption
  intro a2
  assumption

theorem State.finishTune_follows (s : State) (f : Nat) (l : Nat) (v : TuneS) :
    Follows [.reg, .answers, .mirror, .eng, .ses, .bb] s (State.finishTune s f l v) := by
  unfold State.finishTune
  split
  extract_lets +onlyGivenNames x0
  refine Follows.next (State.log_follows _ _ _ _ _ _ _) (by decide) ?_
  refine Follows.next (State.setLoop_follows _ _ _) (by decide) ?_
  exact Follows.rfl' _ _

theorem State.missSample_follows (s : State) (f : Nat) (l : Nat) (x : SampleS) :
    Follows [.reg, .answers, .mirror, .ln, .fn, .eng, .ses, .bb, .gd] s (State.missSample s f l x) := by
  unfold State.missSample
  extract_lets +onlyGivenNames x0
  extract_lets +onlyGivenNames x1
  extract_lets +onlyGivenNames x2
  have h2 : Follows [.reg, .answers, .mirror, .ln, .fn, .eng, .ses, .bb, .gd] s x2 := by
    unfold x2
    refine Follows.next (State.wr_follows _ _ _) (by decide) ?_
    refine Follows.next (State.bump_follows _ _ _) (by decide) ?_
    refine Follows.next (State.setLoop_follows _ _ _) (by decide) ?_
    exact Follows.rfl' _ _
  clear_value x2
  refine Follows.ite ?_ ?_
  intro a3
  refine Follows.next (State.stopFn_follows _ _ _ _) (by decide) ?_
  refine Follows.next (State.logOnce_follows _ _ _ _ _ _ _) (by decide) ?_
  assumption
  intro a4
  assumption

theorem State.checkpoint_follows (s : State) (l : Nat) (x : SampleS) (inp : EvalIn) :
    Follows [.eng] s (State.checkpoint s l x inp) := by
  unfold State.checkpoint
  extract_lets +onlyGivenNames x0
  refine Follows.next (State.setLoop_follows _ _ _) (by decide) ?_
  exact Follows.rfl' _ _

theorem State.trackSample_follows (s : State) (l : Nat) (x : SampleS) (inp : EvalIn) (held : Rat) :
    Follows [.eng] s (State.trackSample s l x inp held) := by
  unfold State.trackSample
  refine Follows.next (State.setLoop_follows _ _ _) (by decide) ?_
  exact Follows.rfl' _ _

theorem State.noteDelay_follows (s : State) (f : Nat) (l : Nat) (instant : Int) :
    Follows [.reg, .answers, .mirror, .ses, .bb] s (State.noteDelay s f l instant) := by
  unfold State.noteDelay
  extract_lets +onlyGivenNames x0
  extract_lets +onlyGivenNames x1
  extract_lets +onlyGivenNames x2
  have h2 : Follows [.reg, .answers, .mirror, .ses, .bb] s x2 := by
    unfold x2
    refine Follows.next (State.raise_follows _ _ _) (by decide) ?_
    exact Follows.rfl' _ _
  clear_value x2
  refine Follows.ite ?_ ?_
  intro a3
  refine Follows.next (State.logOnce_follows _ _ _ _ _ _ _) (by decide) ?_
  refine Follows.next (State.wr_follows _ _ _) (by decide) ?_
  assumption
  intro a4
  assumption

theorem State.endTune_follows (s : State) (l : Nat) (v : TuneS) :
    Follows [.reg, .answers, .mirror, .eng, .ses, .bb] s (State.endTune s l v) := by
  unfold State.endTune
  refine Follows.ite ?_ ?_
  intro a0
  refine Follows.next (State.abortTune_follows _ _ _) (by decide) ?_
  exact Follows.rfl' _ _
  intro a1
  refine Follows.ite ?_ ?_
  intro a2
  refine Follows.next (State.abortTune_follows _ _ _) (by decide) ?_
  exact Follows.rfl' _ _
  intro a3
  refine Follows.next (State.setLoop_follows _ _ _) (by decide) ?_
  exact Follows.rfl' _ _

theorem State.tuneSample_follows (s : State) (f : Nat) (l : Nat) (v : TuneS) (x : SampleS) (inp : EvalIn) :
    Follows [.reg, .answers, .mirror, .fn, .eng, .ses, .bb] s (State.tuneSample s f l v x inp) := by
  unfold State.tuneSample
  extract_lets +onlyGivenNames x0
  extract_lets +onlyGivenNames x1
  extract_lets +onlyGivenNames x2
  have h2 : Follows [.reg, .answers, .mirror, .fn, .eng, .ses, .bb] s x2 := by
    unfold x2
    refine Follows.ite ?_ ?_
    intro a3
    exact Follows.rfl' _ _
    intro a4
    refine Follows.next (State.log_follows _ _ _ _ _ _ _) (by decide) ?_
    refine Follows.next (State.wr_follows _ _ _) (by decide) ?_
    exact Follows.rfl' _ _
  clear_value x2
  extract_lets +onlyGivenNames x5
  extract_lets +onlyGivenNames x6
  extract_lets +onlyGivenNames x7
  have h7 : Follows [.reg, .answers, .mirror, .fn, .eng, .ses, .bb] s x7 := by
    unfold x7
    refine Follows.next (State.setLoop_follows _ _ _) (by decide) ?_
    assumption
  clear_value x7
  extract_lets +onlyGivenNames x8
  refine Follows.ite ?_ ?_
  intro a9
  refine Follows.next (State.abortTune_follows _ _ _) (by decide) ?_
  refine Follows.next (State.trackSample_follows _ _ _ _ _) (by decide) ?_
  assumption
  intro a10
  refine Follows.ite ?_ ?_
  intro a11
  refine Follows.next (State.abortTune_follows _ _ _) (by decide) ?_
  refine Follows.next (State.trackSample_follows _ _ _ _ _) (by decide) ?_
  assumption
  intro a12
  extract_lets +onlyGivenNames x13
  have h13 : Follows [.reg, .answers, .mirror, .fn, .eng, .ses, .bb] s x13 := by
    unfold x13
    refine Follows.next (State.trackSample_follows _ _ _ _ _) (by decide) ?_
    assumption
  clear_value x13
  extract_lets +onlyGivenNames x14
  have h14 : Follows [.reg, .answers, .mirror, .fn, .eng, .ses, .bb] s x14 := by
    unfold x14
    refine Follows.next (State.noteDelay_follows _ _ _ _) (by decide) ?_
    refine Follows.next (State.commitOut_follows _ _ _ _) (by decide) ?_
    refine Follows.next (State.wr_follows _ _ _) (by decide) ?_
    assumption
  clear_value x14
  refine Follows.ite ?_ ?_
  intro a15
  refine Follows.next (State.endTune_follows _ _ _) (by decide) ?_
  assumption
  intro a16
  assumption

theorem State.closedSample_follows (s : State) (f : Nat) (l : Nat) (x : SampleS) (inp : EvalIn) :
    Follows [.reg, .answers, .mirror, .fn, .eng, .ses, .bb] s (State.closedSample s f l x inp) := by
  unfold State.closedSample
  extract_lets +onlyGivenNames x0
  extract_lets +onlyGivenNames x1
  split
  extract_lets +onlyGivenNames x2
  have h2 : Follows [.reg, .answers, .mirror, .fn, .eng, .ses, .bb] s x2 := by
    unfold x2
    refine Follows.next (State.setLoop_follows _ _ _) (by decide) ?_
    exact Follows.rfl' _ _
  clear_value x2
  refine Follows.next (State.noteDelay_follows _ _ _ _) (by decide) ?_
  refine Follows.next (State.commitOut_follows _ _ _ _) (by decide) ?_
  refine Follows.next (State.wrs_follows _ _) (by decide) ?_
  assumption

theorem State.evalSample_follows (s : State) (x : SampleS) :
    Follows [.reg, .answers, .mirror, .ln, .fn, .eng, .ses, .bb, .gd] s (State.evalSample s x) := by
  unfold State.evalSample
  extract_lets +onlyGivenNames x0
  split
  exact Follows.rfl' _ _
  extract_lets +onlyGivenNames x1
  have h1 : Follows [.reg, .answers, .mirror, .ln, .fn, .eng, .ses, .bb, .gd] s x1 := by
    unfold x1
    split
    refine Follows.ite ?_ ?_
    intro a2
    refine Follows.next (State.finishTune_follows _ _ _ _) (by decide) ?_
    exact Follows.rfl' _ _
    intro a3
    exact Follows.rfl' _ _
    exact Follows.rfl' _ _
  clear_value x1
  split
  refine Follows.ite ?_ ?_
  intro a4
  refine Follows.next (State.abortTune_follows _ _ _) (by decide) ?_
  refine Follows.next (State.setLoop_follows _ _ _) (by decide) ?_
  assumption
  intro a5
  refine Follows.ite ?_ ?_
  intro a6
  refine Follows.next (State.missSample_follows _ _ _ _) (by decide) ?_
  assumption
  intro a7
  refine Follows.next (State.setLoop_follows _ _ _) (by decide) ?_
  assumption
  extract_lets +onlyGivenNames x8
  extract_lets +onlyGivenNames x9
  have h9 : Follows [.reg, .answers, .mirror, .ln, .fn, .eng, .ses, .bb, .gd] s x9 := by
    unfold x9
    refine Follows.next (State.checkpoint_follows _ _ _ _) (by decide) ?_
    refine Follows.next (State.wr_follows _ _ _) (by decide) ?_
    assumption
  clear_value x9
  split
  refine Follows.next (State.tuneSample_follows _ _ _ _ _ _) (by decide) ?_
  assumption
  refine Follows.ite ?_ ?_
  intro a10
  refine Follows.next (State.setLoop_follows _ _ _) (by decide) ?_
  assumption
  intro a11
  refine Follows.ite ?_ ?_
  intro a12
  refine Follows.next (State.closedSample_follows _ _ _ _ _) (by decide) ?_
  assumption
  intro a13
  refine Follows.next (State.trackSample_follows _ _ _ _ _) (by decide) ?_
  assumption

theorem State.noteBusy_follows (s : State) (e : Nat) (x : SampleS) :
    Follows [.eng] s (State.noteBusy s e x) := by
  unfold State.noteBusy
  extract_lets +onlyGivenNames x0
  extract_lets +onlyGivenNames x1
  refine Follows.upd ⟨?_, ?_⟩ ?_
  · intro p hp; cases p <;> first | exact absurd (by decide) hp | rfl
  · exact fun h => ⟨h.mem, h.window, h.records, h.gate, h.sessions, h.amend, h.held, h.stamps⟩
  exact Follows.rfl' _ _

theorem State.runNext_follows (s : State) (e : Nat) :
    Follows [.reg, .answers, .mirror, .ln, .fn, .eng, .ses, .bb, .gd] s (State.runNext s e) := by
  unfold State.runNext
  split
  exact Follows.rfl' _ _
  refine Follows.next (State.evalSample_follows _ _) (by decide) ?_
  refine Follows.next (State.noteBusy_follows _ _ _) (by decide) ?_
  refine Follows.next (State.setWaiting_follows _ _ _) (by decide) ?_
  exact Follows.rfl' _ _

theorem State.runAll_follows (s : State) (e : Nat) (x1 : Nat) :
    Follows [.reg, .answers, .mirror, .ln, .fn, .eng, .ses, .bb, .gd] s (State.runAll s e x1) := by
  unfold State.runAll
  split
  exact Follows.rfl' _ _
  refine Follows.next (State.runAll_follows _ _ _) (by decide) ?_
  refine Follows.next (State.runNext_follows _ _) (by decide) ?_
  exact Follows.rfl' _ _

theorem State.evalAgain_follows (s : State) (l : Nat) (c : CheckS) :
    Follows [.reg, .answers, .mirror, .fn, .eng, .ses, .bb] s (State.evalAgain s l c) := by
  unfold State.evalAgain
  extract_lets +onlyGivenNames x0
  extract_lets +onlyGivenNames x1
  have h1 : Follows [.reg, .answers, .mirror, .fn, .eng, .ses, .bb] s x1 := by
    unfold x1
    refine Follows.next (State.setLoop_follows _ _ _) (by decide) ?_
    exact Follows.rfl' _ _
  clear_value x1
  split
  extract_lets +onlyGivenNames x2
  refine Follows.ite ?_ ?_
  intro a3
  refine Follows.next (State.trackSample_follows _ _ _ _ _) (by decide) ?_
  assumption
  intro a4
  refine Follows.ite ?_ ?_
  intro a5
  refine Follows.next (State.setLoop_follows _ _ _) (by decide) ?_
  assumption
  intro a6
  refine Follows.next (State.closedSample_follows _ _ _ _ _) (by decide) ?_
  assumption
  assumption

theorem State.stopEngine_follows (s : State) (e : Nat) :
    Follows [.reg, .answers, .mirror, .ln, .fn, .eng, .ses, .bb, .gd] s (State.stopEngine s e).1 := by
  unfold State.stopEngine
  dsimp only
  refine Follows.foldl _ ?_ ?_
  exact Follows.rfl' _ _
  intro a0 a1
  refine Follows.next (State.stopFn_follows _ _ _ _) (by decide) ?_
  exact Follows.rfl' _ _

theorem State.judgePeak_follows (s : State) (ch : Nat) (ttp : Option Nat) :
    Follows [.reg, .answers, .mirror, .ls, .ses, .bb] s (State.judgePeak s ch ttp) := by
  unfold State.judgePeak
  extract_lets +onlyGivenNames x0
  refine Follows.ite ?_ ?_
  intro a1
  exact Follows.rfl' _ _
  intro a2
  split
  refine Follows.next (State.pdLogOnce_follows _ _ _ _ _ _) (by decide) ?_
  exact Follows.rfl' _ _
  refine Follows.ite ?_ ?_
  intro a3
  refine Follows.next (State.pdLogOnce_follows _ _ _ _ _ _) (by decide) ?_
  exact Follows.rfl' _ _
  intro a4
  refine Follows.ite ?_ ?_
  intro a5
  refine Follows.next (State.pdLogOnce_follows _ _ _ _ _ _) (by decide) ?_
  exact Follows.rfl' _ _
  intro a6
  exact Follows.rfl' _ _

theorem State.badValve_follows (s : State) (ch : Nat) (src : Nat) :
    Follows [.reg, .answers, .mirror, .ls, .ses, .bb] s (State.badValve s ch src) := by
  unfold State.badValve
  refine Follows.next (State.pdLog_follows _ _ _ _) (by decide) ?_
  exact Follows.rfl' _ _

theorem State.valveCommand_follows (l : List Part) (s : State) (ch src : Nat) (ok : Bool) (act : State → State)
    (hl : [.reg, .answers, .mirror, .ln, .vd, .ls, .fn, .eng, .ses, .bb, .md, .gd] ⊆ l)
    (h : ∀ u, Follows l u (act u)) : Follows l s (s.valveCommand ch src ok act) := by
  unfold State.valveCommand
  refine Follows.ite (fun _ => Follows.next (State.badValve_follows _ _ _) ?_ (Follows.rfl' _ _)) (fun _ => ?_)
  · exact List.Subset.trans (by decide) hl
  · extract_lets x0
    have h0 : Follows l s x0 := by
      refine Follows.next (State.abortTest_follows _ _ _) (List.Subset.trans (by decide) hl) ?_
      exact Follows.next (State.endValveReset_follows _ _) (List.Subset.trans (by decide) hl) (Follows.rfl' _ _)
    clear_value x0
    refine Follows.ite (fun _ => ?_) (fun _ => h0.trans (h _))
    split
    · exact Follows.next (State.stopFn_follows _ _ _ _) (List.Subset.trans (by decide) hl) h0
    · exact h0

theorem State.keepCurrent_follows (s : State) (ch : Nat) (afterReset : Bool) :
    Follows [.reg, .vd] s (State.keepCurrent s ch afterReset) := by
  unfold State.keepCurrent
  extract_lets +onlyGivenNames x0
  refine Follows.ite ?_ ?_
  intro a1
  refine Follows.next (State.regulate_follows _ _ _ _) (by decide) ?_
  exact Follows.rfl' _ _
  intro a2
  exact Follows.rfl' _ _

theorem State.setTarget_follows (s : State) (ch : Nat) (ma : Nat) (src : Nat) :
    Follows [.reg, .answers, .mirror, .vd, .ls, .ses, .bb] s (State.setTarget s ch ma src) := by
  unfold State.setTarget
  extract_lets +onlyGivenNames x0
  extract_lets +onlyGivenNames x1
  refine Follows.ite ?_ ?_
  intro a2
  refine Follows.next (State.setValve_follows _ _ _) (by decide) ?_
  exact Follows.rfl' _ _
  intro a3
  refine Follows.ite ?_ ?_
  intro a4
  refine Follows.next (State.valveOff_follows _ _ _) (by decide) ?_
  exact Follows.rfl' _ _
  intro a5
  refine Follows.next (State.endBoost_follows _ _) (by decide) ?_
  refine Follows.next (State.regulate_follows _ _ _ _) (by decide) ?_
  refine Follows.next (State.unqueue_follows _ _) (by decide) ?_
  exact Follows.rfl' _ _

theorem State.stopChannel_follows (s : State) (ch : Nat) :
    Follows [.reg, .answers, .mirror, .ln, .fn, .eng, .ses, .bb, .gd] s (State.stopChannel s ch) := by
  unfold State.stopChannel
  split
  refine Follows.next (State.stopFn_follows _ _ _ _) (by decide) ?_
  exact Follows.rfl' _ _
  exact Follows.rfl' _ _

theorem State.bankFault_follows (s : State) (b : Nat) (fault : Nat) (holder : Nat) :
    Follows [.reg, .answers, .mirror, .ln, .vd, .ls, .fn, .eng, .ses, .bb, .gd] s (State.bankFault s b fault holder) := by
  unfold State.bankFault
  extract_lets +onlyGivenNames x0
  extract_lets +onlyGivenNames x1
  have h1 : Follows [.reg, .answers, .mirror, .ln, .vd, .ls, .fn, .eng, .ses, .bb, .gd] s x1 := by
    unfold x1
    refine Follows.next (State.setBank_follows _ _ _) (by decide) ?_
    exact Follows.rfl' _ _
  clear_value x1
  extract_lets +onlyGivenNames x2
  have h2 : Follows [.reg, .answers, .mirror, .ln, .vd, .ls, .fn, .eng, .ses, .bb, .gd] s x2 := by
    unfold x2
    refine Follows.next (State.setSide_follows _ _ _) (by decide) ?_
    refine Follows.next (State.wr_follows _ _ _) (by decide) ?_
    assumption
  clear_value x2
  extract_lets +onlyGivenNames x3
  extract_lets +onlyGivenNames x4
  have h4 : Follows [.reg, .answers, .mirror, .ln, .vd, .ls, .fn, .eng, .ses, .bb, .gd] s x4 := by
    unfold x4
    refine Follows.foldl _ ?_ ?_
    assumption
    intro a5 a6
    refine Follows.next (State.latchValve_follows _ _ _) (by decide) ?_
    exact Follows.rfl' _ _
  clear_value x4
  refine Follows.foldl _ ?_ ?_
  assumption
  intro a7 a8
  refine Follows.next (State.stopChannel_follows _ _) (by decide) ?_
  exact Follows.rfl' _ _

theorem State.offCommand_follows (s : State) (ch : Nat) (fast : Bool) :
    Follows [.reg, .answers, .mirror, .vd, .ls, .ses, .bb] s (State.offCommand s ch fast) := by
  unfold State.offCommand
  extract_lets +onlyGivenNames x0
  refine Follows.ite ?_ ?_
  intro a1
  refine Follows.next (State.setValve_follows _ _ _) (by decide) ?_
  exact Follows.rfl' _ _
  intro a2
  refine Follows.next (State.valveOff_follows _ _ _) (by decide) ?_
  exact Follows.rfl' _ _

theorem State.protectCoil_follows (s : State) (ch : Nat) :
    Follows [.reg, .answers, .mirror, .ln, .vd, .ls, .fn, .eng, .ses, .bb, .gd] s (State.protectCoil s ch) := by
  unfold State.protectCoil
  extract_lets +onlyGivenNames x0
  extract_lets +onlyGivenNames x1
  extract_lets +onlyGivenNames x2
  extract_lets +onlyGivenNames x3
  extract_lets +onlyGivenNames x4
  have h4 : Follows [.reg, .answers, .mirror, .ln, .vd, .ls, .fn, .eng, .ses, .bb, .gd] s x4 := by
    unfold x4
    refine Follows.next (State.setValve_follows _ _ _) (by decide) ?_
    exact Follows.rfl' _ _
  clear_value x4
  extract_lets +onlyGivenNames x5
  have h5 : Follows [.reg, .answers, .mirror, .ln, .vd, .ls, .fn, .eng, .ses, .bb, .gd] s x5 := by
    unfold x5
    refine Follows.ite ?_ ?_
    intro a6
    refine Follows.next (State.pdLog_follows _ _ _ _) (by decide) ?_
    assumption
    intro a7
    assumption
  clear_value x5
  extract_lets +onlyGivenNames x8
  extract_lets +onlyGivenNames x9
  have h9 : Follows [.reg, .answers, .mirror, .ln, .vd, .ls, .fn, .eng, .ses, .bb, .gd] s x9 := by
    unfold x9
    refine Follows.next (State.wr_follows _ _ _) (by decide) ?_
    assumption
  clear_value x9
  extract_lets +onlyGivenNames x10
  have h10 : Follows [.reg, .answers, .mirror, .ln, .vd, .ls, .fn, .eng, .ses, .bb, .gd] s x10 := by
    unfold x10
    refine Follows.ite ?_ ?_
    intro a11
    refine Follows.next (State.wr_follows _ _ _) (by decide) ?_
    assumption
    intro a12
    assumption
  clear_value x10
  refine Follows.ite ?_ ?_
  intro a13
  extract_lets +onlyGivenNames x14
  have h14 : Follows [.reg, .answers, .mirror, .ln, .vd, .ls, .fn, .eng, .ses, .bb, .gd] s x14 := by
    unfold x14
    refine Follows.next (State.pdLog_follows _ _ _ _) (by decide) ?_
    refine Follows.next (State.latchValve_follows _ _ _) (by decide) ?_
    assumption
  clear_value x14
  split
  refine Follows.next (State.stopFn_follows _ _ _ _) (by decide) ?_
  assumption
  assumption
  intro a15
  assumption

theorem State.coilStep_follows (s : State) (tmod : Rat) (c : CoilIn) :
    Follows [.reg, .answers, .mirror, .ln, .vd, .ls, .fn, .eng, .ses, .bb, .gd] s (State.coilStep s tmod c) := by
  unfold State.coilStep
  extract_lets +onlyGivenNames x0
  extract_lets +onlyGivenNames x1
  extract_lets +onlyGivenNames x2
  extract_lets +onlyGivenNames x3
  split
  extract_lets +onlyGivenNames x4
  extract_lets +onlyGivenNames x5
  extract_lets +onlyGivenNames x6
  extract_lets +onlyGivenNames x7
  extract_lets +onlyGivenNames x8
  have h8 : Follows [.reg, .answers, .mirror, .ln, .vd, .ls, .fn, .eng, .ses, .bb, .gd] s x8 := by
    unfold x8
    refine Follows.next (State.showTw_follows _ _) (by decide) ?_
    refine Follows.next (State.setValve_follows _ _ _) (by decide) ?_
    exact Follows.rfl' _ _
  clear_value x8
  extract_lets +onlyGivenNames x9
  have h9 : Follows [.reg, .answers, .mirror, .ln, .vd, .ls, .fn, .eng, .ses, .bb, .gd] s x9 := by
    unfold x9
    refine Follows.ite ?_ ?_
    intro a10
    refine Follows.next (State.wr_follows _ _ _) (by decide) ?_
    assumption
    intro a11
    assumption
  clear_value x9
  extract_lets +onlyGivenNames x12
  have h12 : Follows [.reg, .answers, .mirror, .ln, .vd, .ls, .fn, .eng, .ses, .bb, .gd] s x12 := by
    unfold x12
    refine Follows.ite ?_ ?_
    intro a13
    refine Follows.next (State.pdLog_follows _ _ _ _) (by decide) ?_
    refine Follows.next (State.wr_follows _ _ _) (by decide) ?_
    assumption
    intro a14
    assumption
  clear_value x12
  refine Follows.next (State.protectCoil_follows _ _) (by decide) ?_
  assumption

theorem State.watchOpen_follows (s : State) (ch : Nat) (mean : Nat) :
    Follows [.vd] s (State.watchOpen s ch mean) := by
  unfold State.watchOpen
  extract_lets +onlyGivenNames x0
  extract_lets +onlyGivenNames x1
  extract_lets +onlyGivenNames x2
  refine Follows.next (State.setValve_follows _ _ _) (by decide) ?_
  exact Follows.rfl' _ _

theorem State.stopSwitchFns_follows (s : State) (chs : List Nat) :
    Follows [.reg, .answers, .mirror, .ln, .fn, .eng, .ses, .bb, .gd] s (State.stopSwitchFns s chs) := by
  unfold State.stopSwitchFns
  refine Follows.foldl _ ?_ ?_
  exact Follows.rfl' _ _
  intro a0 a1
  split
  refine Follows.next (State.stopFn_follows _ _ _ _) (by decide) ?_
  exact Follows.rfl' _ _
  exact Follows.rfl' _ _

theorem State.drive_follows (s : State) (n : Nat) (mj : Nat) :
    Follows [.reg, .answers, .mirror, .ln, .ls, .fn, .eng, .ses, .bb, .gd] s (State.drive s n mj) := by
  unfold State.drive
  split
  refine Follows.ite ?_ ?_
  intro a0
  refine Follows.next (State.stopSwitchFns_follows _ _) (by decide) ?_
  refine Follows.next (Follows.fst (by assumption) (State.applySwitch_follows _ _ _)) (by decide) ?_
  exact Follows.rfl' _ _
  intro a1
  refine Follows.next (Follows.fst (by assumption) (State.applySwitch_follows _ _ _)) (by decide) ?_
  exact Follows.rfl' _ _

theorem State.driveAll_follows (s : State) (clamps : List (Nat × Nat)) :
    Follows [.reg, .answers, .mirror, .ln, .ls, .fn, .eng, .ses, .bb, .gd] s (State.driveAll s clamps) := by
  unfold State.driveAll
  split
  refine Follows.next (State.stopSwitchFns_follows _ _) (by decide) ?_
  refine Follows.next (Follows.fst (by assumption) (State.applySwitches_follows _ _)) (by decide) ?_
  exact Follows.rfl' _ _

theorem State.takeCommand_follows (s : State) (n : Nat) (on : Bool) (mj : Nat) :
    Follows [.reg, .answers, .mirror, .ln, .ls, .fn, .eng, .ses, .bb, .gd] s (State.takeCommand s n on mj) := by
  unfold State.takeCommand
  extract_lets +onlyGivenNames x0
  extract_lets +onlyGivenNames x1
  refine Follows.next (State.drive_follows _ _ _) (by decide) ?_
  refine Follows.next (State.setSw_follows _ _ _) (by decide) ?_
  exact Follows.rfl' _ _

theorem State.coreDead_follows (s : State) (clamps : List (Nat × Nat)) :
    Follows [.reg, .answers, .mirror, .ln, .vd, .ls, .fn, .eng, .ses, .bb, .gd] s (State.coreDead s clamps) := by
  unfold State.coreDead
  extract_lets +onlyGivenNames x0
  extract_lets +onlyGivenNames x1
  have h1 : Follows [.reg, .answers, .mirror, .ln, .vd, .ls, .fn, .eng, .ses, .bb, .gd] s x1 := by
    unfold x1
    refine Follows.upd ⟨?_, ?_⟩ ?_
    · intro p hp; cases p <;> first | exact absurd (by decide) hp | rfl
    · exact fun h => ⟨h.mem, h.window, h.records, h.gate, h.sessions, h.amend, h.held, h.stamps⟩
    exact Follows.rfl' _ _
  clear_value x1
  refine Follows.next (State.walkValves_follows _) (by decide) ?_
  refine Follows.next (State.driveAll_follows _ _) (by decide) ?_
  refine Follows.next (State.bump_follows _ _ _) (by decide) ?_
  assumption

end Sys2Proof.Machine
end

