-- ==== Sys2Proof/Laws/ModeOps.lean ====
section
/-! SUPPORT. What each shared operation may change: modes, power, resets, GNSS, the start, the Hamper, updates, cameras, guidance, yield. One lemma per operation: the parts
of the state outside its list are unchanged, and the bounds are kept. -/

namespace Sys2Proof.Machine

theorem State.stopPlanes_follows (s : State) :
    Follows [.reg, .answers, .mirror, .tb, .ln, .ses, .bb, .gn, .cams] s (State.stopPlanes s) := by
  unfold State.stopPlanes
  extract_lets +onlyGivenNames x0
  have h0 : Follows [.reg, .answers, .mirror, .tb, .ln, .ses, .bb, .gn, .cams] s x0 := by
    unfold x0
    refine Follows.next (State.camsDown_follows _ _) (by decide) ?_
    refine Follows.next (State.stopGnss_follows _) (by decide) ?_
    exact Follows.rfl' _ _
  clear_value x0
  refine Follows.upd ⟨?_, ?_⟩ ?_
  · intro p hp; cases p <;> first | exact absurd (by decide) hp | rfl
  · exact fun h => ⟨h.mem, h.window, h.records, h.gate, h.sessions, h.amend, h.held, h.stamps⟩
  assumption

theorem State.enterMode_follows (s : State) (m : Nat) :
    Follows [.reg, .answers, .isl, .mirror, .tb, .ln, .vd, .ls, .fn, .opt, .lk, .ego, .out, .obs, .ses, .bb, .pc, .pwr, .md, .gn, .cams] s (State.enterMode s m) := by
  unfold State.enterMode
  extract_lets +onlyGivenNames x0
  extract_lets +onlyGivenNames x1
  extract_lets +onlyGivenNames x2
  extract_lets +onlyGivenNames x3
  extract_lets +onlyGivenNames x4
  have h4 : Follows [.reg, .answers, .isl, .mirror, .tb, .ln, .vd, .ls, .fn, .opt, .lk, .ego, .out, .obs, .ses, .bb, .pc, .pwr, .md, .gn, .cams] s x4 := by
    unfold x4
    refine Follows.upd ⟨?_, ?_⟩ ?_
    · intro p hp; cases p <;> first | exact absurd (by decide) hp | rfl
    · exact fun h => ⟨h.mem, h.window, h.records, h.gate, h.sessions, h.amend, h.held, h.stamps⟩
    exact Follows.rfl' _ _
  clear_value x4
  extract_lets +onlyGivenNames x5
  have h5 : Follows [.reg, .answers, .isl, .mirror, .tb, .ln, .vd, .ls, .fn, .opt, .lk, .ego, .out, .obs, .ses, .bb, .pc, .pwr, .md, .gn, .cams] s x5 := by
    unfold x5
    refine Follows.next (State.wrs_follows _ _) (by decide) ?_
    assumption
  clear_value x5
  extract_lets +onlyGivenNames x6
  have h6 : Follows [.reg, .answers, .isl, .mirror, .tb, .ln, .vd, .ls, .fn, .opt, .lk, .ego, .out, .obs, .ses, .bb, .pc, .pwr, .md, .gn, .cams] s x6 := by
    unfold x6
    refine Follows.next (State.setDomains_follows _) (by decide) ?_
    refine Follows.next (State.setCoreRail_follows _) (by decide) ?_
    assumption
  clear_value x6
  extract_lets +onlyGivenNames x7
  have h7 : Follows [.reg, .answers, .isl, .mirror, .tb, .ln, .vd, .ls, .fn, .opt, .lk, .ego, .out, .obs, .ses, .bb, .pc, .pwr, .md, .gn, .cams] s x7 := by
    unfold x7
    refine Follows.foldl _ ?_ ?_
    assumption
    intro a8 a9
    refine Follows.ite ?_ ?_
    intro a10
    refine Follows.next (State.endCause_follows _ _ _) (by decide) ?_
    exact Follows.rfl' _ _
    intro a11
    exact Follows.rfl' _ _
  clear_value x7
  extract_lets +onlyGivenNames x12
  have h12 : Follows [.reg, .answers, .isl, .mirror, .tb, .ln, .vd, .ls, .fn, .opt, .lk, .ego, .out, .obs, .ses, .bb, .pc, .pwr, .md, .gn, .cams] s x12 := by
    unfold x12
    refine Follows.ite ?_ ?_
    intro a13
    refine Follows.next (State.setComp_follows _) (by decide) ?_
    assumption
    intro a14
    assumption
  clear_value x12
  extract_lets +onlyGivenNames x15
  have h15 : Follows [.reg, .answers, .isl, .mirror, .tb, .ln, .vd, .ls, .fn, .opt, .lk, .ego, .out, .obs, .ses, .bb, .pc, .pwr, .md, .gn, .cams] s x15 := by
    unfold x15
    refine Follows.ite ?_ ?_
    intro a16
    refine Follows.next (State.resetSwitches_follows _ _) (by decide) ?_
    refine Follows.next (State.resetValves_follows _ _) (by decide) ?_
    refine Follows.next (State.stopPlanes_follows _) (by decide) ?_
    assumption
    intro a17
    assumption
  clear_value x15
  extract_lets +onlyGivenNames x18
  have h18 : Follows [.reg, .answers, .isl, .mirror, .tb, .ln, .vd, .ls, .fn, .opt, .lk, .ego, .out, .obs, .ses, .bb, .pc, .pwr, .md, .gn, .cams] s x18 := by
    unfold x18
    refine Follows.ite ?_ ?_
    intro a19
    refine Follows.next (State.dataReleased_follows _) (by decide) ?_
    assumption
    intro a20
    assumption
  clear_value x18
  refine Follows.next (State.obsMode_follows _) (by decide) ?_
  assumption

theorem State.completeTransition_follows (s : State) (x : TransS) :
    Follows [.reg, .answers, .isl, .mirror, .tb, .ln, .vd, .ls, .fn, .opt, .lk, .ego, .out, .obs, .ses, .bb, .pc, .pwr, .md, .gn, .cams] s (State.completeTransition s x) := by
  unfold State.completeTransition
  extract_lets +onlyGivenNames x0
  extract_lets +onlyGivenNames x1
  have h1 : Follows [.reg, .answers, .isl, .mirror, .tb, .ln, .vd, .ls, .fn, .opt, .lk, .ego, .out, .obs, .ses, .bb, .pc, .pwr, .md, .gn, .cams] s x1 := by
    unfold x1
    refine Follows.next (State.enterMode_follows _ _) (by decide) ?_
    exact Follows.rfl' _ _
  clear_value x1
  extract_lets +onlyGivenNames x2
  have h2 : Follows [.reg, .answers, .isl, .mirror, .tb, .ln, .vd, .ls, .fn, .opt, .lk, .ego, .out, .obs, .ses, .bb, .pc, .pwr, .md, .gn, .cams] s x2 := by
    unfold x2
    refine Follows.next (State.pcRequest_follows _) (by decide) ?_
    refine Follows.next (State.log_follows _ _ _ _ _ _ _) (by decide) ?_
    assumption
  clear_value x2
  refine Follows.ite ?_ ?_
  intro a3
  refine Follows.next (State.answer_follows _ _ _ _) (by decide) ?_
  assumption
  intro a4
  assumption

theorem State.cancelOnMode_follows (s : State) (target : Nat) :
    Follows [.reg, .answers, .mirror, .ln, .ses, .bb] s (State.cancelOnMode s target) := by
  unfold State.cancelOnMode
  extract_lets +onlyGivenNames x0
  extract_lets +onlyGivenNames x1
  extract_lets +onlyGivenNames x2
  have h2 : Follows [.reg, .answers, .mirror, .ln, .ses, .bb] s x2 := by
    unfold x2
    refine Follows.next (State.cancelWhere_follows _ _) (by decide) ?_
    exact Follows.rfl' _ _
  clear_value x2
  refine Follows.ite ?_ ?_
  intro a3
  refine Follows.next (State.log_follows _ _ _ _ _ _ _) (by decide) ?_
  assumption
  intro a4
  assumption

theorem State.abortTunes_follows (s : State) (f : Nat) :
    Follows [.reg, .answers, .mirror, .eng, .ses, .bb] s (State.abortTunes s f) := by
  unfold State.abortTunes
  refine Follows.foldl _ ?_ ?_
  exact Follows.rfl' _ _
  intro a0 a1
  refine Follows.next (State.abortTune_follows _ _ _) (by decide) ?_
  exact Follows.rfl' _ _

theorem State.startTransition_follows (s : State) (target : Nat) :
    Follows [.reg, .answers, .mirror, .ln, .vd, .fn, .opt, .eng, .lk, .ego, .out, .obs, .ses, .bb, .md, .gd] s (State.startTransition s target) := by
  unfold State.startTransition
  extract_lets +onlyGivenNames x0
  have h0 : Follows [.reg, .answers, .mirror, .ln, .vd, .fn, .opt, .eng, .lk, .ego, .out, .obs, .ses, .bb, .md, .gd] s x0 := by
    unfold x0
    refine Follows.next (State.cancelOnMode_follows _ _) (by decide) ?_
    exact Follows.rfl' _ _
  clear_value x0
  extract_lets +onlyGivenNames x1
  extract_lets +onlyGivenNames x2
  extract_lets +onlyGivenNames x3
  have h3 : Follows [.reg, .answers, .mirror, .ln, .vd, .fn, .opt, .eng, .lk, .ego, .out, .obs, .ses, .bb, .md, .gd] s x3 := by
    unfold x3
    refine Follows.upd ⟨?_, ?_⟩ ?_
    · intro p hp; cases p <;> first | exact absurd (by decide) hp | rfl
    · exact fun h => ⟨h.mem, h.window, h.records, h.gate, h.sessions, h.amend, h.held, h.stamps⟩
    assumption
  clear_value x3
  extract_lets +onlyGivenNames x4
  have h4 : Follows [.reg, .answers, .mirror, .ln, .vd, .fn, .opt, .eng, .lk, .ego, .out, .obs, .ses, .bb, .md, .gd] s x4 := by
    unfold x4
    refine Follows.next (State.wr_follows _ _ _) (by decide) ?_
    assumption
  clear_value x4
  extract_lets +onlyGivenNames x5
  have h5 : Follows [.reg, .answers, .mirror, .ln, .vd, .fn, .opt, .eng, .lk, .ego, .out, .obs, .ses, .bb, .md, .gd] s x5 := by
    unfold x5
    refine Follows.foldl _ ?_ ?_
    assumption
    intro a6 a7
    refine Follows.ite ?_ ?_
    intro a8
    exact Follows.rfl' _ _
    intro a9
    refine Follows.ite ?_ ?_
    intro a10
    refine Follows.next (State.abortTunes_follows _ _) (by decide) ?_
    exact Follows.rfl' _ _
    intro a11
    refine Follows.next (State.stopFn_follows _ _ _ _) (by decide) ?_
    exact Follows.rfl' _ _
  clear_value x5
  extract_lets +onlyGivenNames x12
  have h12 : Follows [.reg, .answers, .mirror, .ln, .vd, .fn, .opt, .eng, .lk, .ego, .out, .obs, .ses, .bb, .md, .gd] s x12 := by
    unfold x12
    refine Follows.upd ⟨?_, ?_⟩ ?_
    · intro p hp; cases p <;> first | exact absurd (by decide) hp | rfl
    · exact fun h => ⟨h.mem, h.window, h.records, h.gate, h.sessions, h.amend, h.held, h.stamps⟩
    assumption
  clear_value x12
  extract_lets +onlyGivenNames x13
  have h13 : Follows [.reg, .answers, .mirror, .ln, .vd, .fn, .opt, .eng, .lk, .ego, .out, .obs, .ses, .bb, .md, .gd] s x13 := by
    unfold x13
    refine Follows.ite ?_ ?_
    intro a14
    refine Follows.next (State.obsStop_follows _ _) (by decide) ?_
    assumption
    intro a15
    assumption
  clear_value x13
  extract_lets +onlyGivenNames x16
  have h16 : Follows [.reg, .answers, .mirror, .ln, .vd, .fn, .opt, .eng, .lk, .ego, .out, .obs, .ses, .bb, .md, .gd] s x16 := by
    unfold x16
    refine Follows.next (State.guidanceMode_follows _ _) (by decide) ?_
    assumption
  clear_value x16
  refine Follows.ite ?_ ?_
  intro a17
  assumption
  intro a18
  refine Follows.next (State.answer_follows _ _ _ _) (by decide) ?_
  assumption

theorem State.sleepOff_follows (s : State) : Follows resetParts s (State.sleepOff s) := by
  unfold State.sleepOff
  extract_lets +onlyGivenNames keep again z0 z1
  have h0 : Follows resetParts s z0 := Follows.next (State.clearRegs_follows _ _) (by decide)
    (Follows.next (State.cleared_follows _ _) (by decide) (Follows.rfl' _ _))
  clear_value z0
  have h1 : Follows resetParts s z1 := Follows.ite
    (fun _ => Follows.next (State.wrs_follows _ _) (by decide) h0) (fun _ => h0)
  clear_value z1
  extract_lets ls x2 rst gn z2
  have hl : z1.ls.held.length ≤ 64 → ls.held.length ≤ 64 := by
    unfold ls
    split
    · exact id
    · exact fun _ => Nat.zero_le _
  clear_value ls
  refine Follows.next (State.wrs_follows _ _) (by decide) (Follows.upd ⟨?_, ?_⟩ h1)
  · intro p hp; cases p <;> first | rfl | exact absurd (by decide) hp
  · exact fun h => ⟨h.mem, h.window, h.records, h.gate, h.sessions, h.amend, hl h.held, h.stamps⟩

theorem State.sleepFlush_follows (s : State) (x : TransS) :
    Follows [.reg, .answers, .mirror, .tb, .ses, .bb] s (State.sleepFlush s x) := by
  unfold State.sleepFlush
  extract_lets +onlyGivenNames x0
  have h0 : Follows [.reg, .answers, .mirror, .tb, .ses, .bb] s x0 := by
    unfold x0
    refine Follows.next (State.log_follows _ _ _ _ _ _ _) (by decide) ?_
    refine Follows.next (State.calibrateRtc_follows _) (by decide) ?_
    exact Follows.rfl' _ _
  clear_value x0
  extract_lets +onlyGivenNames x1
  extract_lets +onlyGivenNames x2
  have h2 : Follows [.reg, .answers, .mirror, .tb, .ses, .bb] s x2 := by
    unfold x2
    refine Follows.next (State.releaseDue_follows _ _) (by decide) ?_
    refine Follows.upd ⟨?_, ?_⟩ ?_
    · intro p hp; cases p <;> first | exact absurd (by decide) hp | rfl
    · exact fun h => ⟨h.mem, by simpa using h.window, h.records, h.gate, h.sessions, h.amend, h.held, h.stamps⟩
    assumption
  clear_value x2
  extract_lets +onlyGivenNames x3
  have h3 : Follows [.reg, .answers, .mirror, .tb, .ses, .bb] s x3 := by
    unfold x3
    refine Follows.next (State.bbFlush_follows _) (by decide) ?_
    assumption
  clear_value x3
  refine Follows.upd ⟨?_, ?_⟩ ?_
  · intro p hp; cases p <;> first | exact absurd (by decide) hp | rfl
  · exact fun h => ⟨h.mem, h.window, h.records, h.gate, h.sessions, h.amend, h.held, h.stamps⟩
  assumption

theorem State.sleepSwitches_follows (s : State) :
    Follows [.reg, .ls] s (State.sleepSwitches s) := by
  unfold State.sleepSwitches
  refine Follows.foldl _ ?_ ?_
  exact Follows.rfl' _ _
  intro a0 a1
  refine Follows.ite ?_ ?_
  intro a2
  refine Follows.next (State.showSwitch_follows _ _) (by decide) ?_
  refine Follows.next (State.setSw_follows _ _ _) (by decide) ?_
  exact Follows.rfl' _ _
  intro a3
  exact Follows.rfl' _ _

theorem State.goSleep_follows (s : State) (x : TransS) :
    Follows resetParts s (State.goSleep s x) := by
  unfold State.goSleep
  extract_lets +onlyGivenNames x0
  extract_lets +onlyGivenNames x1
  extract_lets +onlyGivenNames x2
  have h2 : Follows resetParts s x2 := by
    unfold x2
    refine Follows.next (State.sleepOff_follows _) (by decide) ?_
    refine Follows.next (State.sleepFlush_follows _ _) (by decide) ?_
    exact Follows.rfl' _ _
  clear_value x2
  extract_lets +onlyGivenNames x3
  have h3 : Follows resetParts s x3 := by
    unfold x3
    refine Follows.next (State.wrs_follows _ _) (by decide) ?_
    assumption
  clear_value x3
  extract_lets +onlyGivenNames x4
  have h4 : Follows resetParts s x4 := by
    unfold x4
    refine Follows.ite ?_ ?_
    intro a5
    refine Follows.next (State.sleepSwitches_follows _) (by decide) ?_
    assumption
    intro a6
    assumption
  clear_value x4
  refine Follows.next (State.setDomains_follows _) (by decide) ?_
  refine Follows.next (State.setCoreRail_follows _) (by decide) ?_
  assumption

theorem State.enginesOut_follows (s : State) :
    Follows [.reg, .answers, .mirror, .ln, .fn, .eng, .ses, .bb, .gd] s (State.enginesOut s) := by
  unfold State.enginesOut
  extract_lets +onlyGivenNames x0
  refine Follows.foldl _ ?_ ?_
  exact Follows.rfl' _ _
  intro a1 a2
  refine Follows.ite ?_ ?_
  intro a3
  split
  refine Follows.next (State.log_follows _ _ _ _ _ _ _) (by decide) ?_
  refine Follows.next (Follows.fst (by assumption) (State.stopEngine_follows _ _)) (by decide) ?_
  exact Follows.rfl' _ _
  intro a4
  exact Follows.rfl' _ _

theorem State.firstCommands_follows (s : State) :
    Follows [.reg, .answers, .fn] s (State.firstCommands s) := by
  unfold State.firstCommands
  extract_lets +onlyGivenNames x0
  have h0 : Follows [.reg, .answers, .fn] s x0 := by
    unfold x0
    refine Follows.foldl _ ?_ ?_
    exact Follows.rfl' _ _
    intro a1 a2
    refine Follows.ite ?_ ?_
    intro a3
    refine Follows.next (State.orderStopped_follows _ _) (by decide) ?_
    refine Follows.next (State.showCause_follows _ _) (by decide) ?_
    refine Follows.next (State.wr_follows _ _ _) (by decide) ?_
    exact Follows.rfl' _ _
    intro a4
    exact Follows.rfl' _ _
  clear_value x0
  extract_lets +onlyGivenNames x5
  have h5 : Follows [.reg, .answers, .fn] s x5 := by
    unfold x5
    refine Follows.foldl _ ?_ ?_
    assumption
    intro a6 a7
    refine Follows.ite ?_ ?_
    intro a8
    refine Follows.next (State.answer_follows _ _ _ _) (by decide) ?_
    exact Follows.rfl' _ _
    intro a9
    exact Follows.rfl' _ _
  clear_value x5
  refine Follows.foldl _ ?_ ?_
  assumption
  intro a10 a11
  refine Follows.ite ?_ ?_
  intro a12
  refine Follows.next (State.answer_follows _ _ _ _) (by decide) ?_
  exact Follows.rfl' _ _
  intro a13
  exact Follows.rfl' _ _

theorem State.tornArea_follows (s : State) (area : Nat) (l : List BbRec) :
    Follows [.reg, .answers, .mirror, .ses, .bb] s (State.tornArea s area l) := by
  unfold State.tornArea
  extract_lets +onlyGivenNames x0
  refine Follows.ite ?_ ?_
  intro a1
  exact Follows.rfl' _ _
  intro a2
  refine Follows.next (State.log_follows _ _ _ _ _ _ _) (by decide) ?_
  refine Follows.next (State.wr_follows _ _ _) (by decide) ?_
  exact Follows.rfl' _ _

theorem State.firstRecords_follows (s : State) (serial : Nat) :
    Follows [.reg, .bb] s (State.firstRecords s serial) := by
  unfold State.firstRecords
  extract_lets +onlyGivenNames x0
  extract_lets +onlyGivenNames x1
  extract_lets +onlyGivenNames x2
  have h2 : Follows [.reg, .bb] s x2 := by
    unfold x2
    refine Follows.next (State.bbAnchor_follows _) (by decide) ?_
    refine Follows.next (State.bbPush_follows _ _) (by decide) ?_
    refine Follows.upd ⟨?_, ?_⟩ ?_
    · intro p hp; cases p <;> first | exact absurd (by decide) hp | rfl
    · exact fun h => ⟨h.mem, h.window, Nat.zero_le _, h.gate, h.sessions, h.amend, h.held, h.stamps⟩
    exact Follows.rfl' _ _
  clear_value x2
  refine Follows.foldl _ ?_ ?_
  assumption
  intro a3 a4
  refine Follows.next (State.bbPush_follows _ _) (by decide) ?_
  exact Follows.rfl' _ _

theorem State.composeHeld_follows (s : State) :
    Follows [.reg] s (State.composeHeld s) := by
  unfold State.composeHeld
  split
  refine Follows.next (State.wrs_follows _ _) (by decide) ?_
  exact Follows.rfl' _ _
  exact Follows.rfl' _ _

theorem State.recoverBb_follows (s : State) (bad : List Nat) (serial : Nat) :
    Follows [.reg, .answers, .mirror, .ses, .bb] s (State.recoverBb s bad serial) := by
  unfold State.recoverBb
  extract_lets +onlyGivenNames x0
  extract_lets +onlyGivenNames x1
  extract_lets +onlyGivenNames x2
  extract_lets +onlyGivenNames x3
  extract_lets +onlyGivenNames x4
  extract_lets +onlyGivenNames x5
  have h5 : Follows [.reg, .answers, .mirror, .ses, .bb] s x5 := by
    unfold x5
    refine Follows.next (State.tornArea_follows _ _ _) (by decide) ?_
    refine Follows.next (State.tornArea_follows _ _ _) (by decide) ?_
    exact Follows.rfl' _ _
  clear_value x5
  extract_lets +onlyGivenNames x6
  extract_lets +onlyGivenNames x7
  extract_lets +onlyGivenNames x8
  extract_lets +onlyGivenNames x9
  extract_lets +onlyGivenNames x10
  have h10 : Follows [.reg, .answers, .mirror, .ses, .bb] s x10 := by
    unfold x10
    refine Follows.upd ⟨?_, ?_⟩ ?_
    · intro p hp; cases p <;> first | exact absurd (by decide) hp | rfl
    · exact fun h => ⟨h.mem, h.window, h.records, h.gate, h.sessions, h.amend, h.held, h.stamps⟩
    assumption
  clear_value x10
  extract_lets +onlyGivenNames x11
  have h11 : Follows [.reg, .answers, .mirror, .ses, .bb] s x11 := by
    unfold x11
    refine Follows.next (State.wrs_follows _ _) (by decide) ?_
    assumption
  clear_value x11
  extract_lets +onlyGivenNames x12
  have h12 : Follows [.reg, .answers, .mirror, .ses, .bb] s x12 := by
    unfold x12
    refine Follows.ite ?_ ?_
    intro a13
    refine Follows.next (State.askSeq_follows _) (by decide) ?_
    assumption
    intro a14
    assumption
  clear_value x12
  refine Follows.next (State.firstRecords_follows _ _) (by decide) ?_
  refine Follows.next (State.composeHeld_follows _) (by decide) ?_
  assumption

theorem State.startManagement_follows (s : State) (serial : Nat) :
    Follows [.reg, .answers, .mirror, .ses, .bb, .pc, .upd] s (State.startManagement s serial) := by
  unfold State.startManagement
  extract_lets +onlyGivenNames x0
  have h0 : Follows [.reg, .answers, .mirror, .ses, .bb, .pc, .upd] s x0 := by
    unfold x0
    refine Follows.next (State.recoverBb_follows _ _ _) (by decide) ?_
    exact Follows.rfl' _ _
  clear_value x0
  extract_lets +onlyGivenNames x1
  extract_lets +onlyGivenNames x2
  have h2 : Follows [.reg, .answers, .mirror, .ses, .bb, .pc, .upd] s x2 := by
    unfold x2
    split
    refine Follows.next (State.log_follows _ _ _ _ _ _ _) (by decide) ?_
    refine Follows.upd ⟨?_, ?_⟩ ?_
    · intro p hp; cases p <;> first | exact absurd (by decide) hp | rfl
    · exact fun h => ⟨h.mem, h.window, h.records, h.gate, h.sessions, h.amend, h.held, h.stamps⟩
    assumption
    assumption
  clear_value x2
  extract_lets +onlyGivenNames x3
  have h3 : Follows [.reg, .answers, .mirror, .ses, .bb, .pc, .upd] s x3 := by
    unfold x3
    refine Follows.next (State.setComp_follows _) (by decide) ?_
    assumption
  clear_value x3
  refine Follows.next (State.pcRequest_follows _) (by decide) ?_
  refine Follows.upd ⟨?_, ?_⟩ ?_
  · intro p hp; cases p <;> first | exact absurd (by decide) hp | rfl
  · exact fun h => ⟨h.mem, h.window, h.records, h.gate, h.sessions, h.amend, h.held, h.stamps⟩
  assumption

theorem State.checkSize_follows (s : State) :
    Follows [.reg, .answers, .mirror, .ses, .bb, .hmp] s (State.checkSize s) := by
  unfold State.checkSize
  extract_lets +onlyGivenNames x0
  refine Follows.ite ?_ ?_
  intro a1
  exact Follows.rfl' _ _
  intro a2
  refine Follows.next (State.log_follows _ _ _ _ _ _ _) (by decide) ?_
  refine Follows.upd ⟨?_, ?_⟩ ?_
  · intro p hp; cases p <;> first | exact absurd (by decide) hp | rfl
  · exact fun h => ⟨h.mem, h.window, h.records, h.gate, h.sessions, h.amend, h.held, h.stamps⟩
  exact Follows.rfl' _ _

theorem State.startNetworks_follows (s : State) :
    Follows [.reg, .answers, .mirror, .lk, .ses, .bb] s (State.startNetworks s) := by
  unfold State.startNetworks
  extract_lets +onlyGivenNames x0
  extract_lets +onlyGivenNames x1
  have h1 : Follows [.reg, .answers, .mirror, .lk, .ses, .bb] s x1 := by
    unfold x1
    refine Follows.upd ⟨?_, ?_⟩ ?_
    · intro p hp; cases p <;> first | exact absurd (by decide) hp | rfl
    · exact fun h => ⟨h.mem, h.window, h.records, h.gate, h.sessions, h.amend, h.held, h.stamps⟩
    exact Follows.rfl' _ _
  clear_value x1
  extract_lets +onlyGivenNames x2
  have h2 : Follows [.reg, .answers, .mirror, .lk, .ses, .bb] s x2 := by
    unfold x2
    refine Follows.foldl _ ?_ ?_
    assumption
    intro a3 a4
    refine Follows.next (State.startCan_follows _ _) (by decide) ?_
    exact Follows.rfl' _ _
  clear_value x2
  extract_lets +onlyGivenNames x5
  extract_lets +onlyGivenNames x6
  have h6 : Follows [.reg, .answers, .mirror, .lk, .ses, .bb] s x6 := by
    unfold x6
    refine Follows.ite ?_ ?_
    intro a7
    assumption
    intro a8
    refine Follows.next (State.answer_follows _ _ _ _) (by decide) ?_
    assumption
  clear_value x6
  extract_lets +onlyGivenNames x9
  have h9 : Follows [.reg, .answers, .mirror, .lk, .ses, .bb] s x9 := by
    unfold x9
    refine Follows.foldl _ ?_ ?_
    assumption
    intro a10 a11
    refine Follows.ite ?_ ?_
    intro a12
    refine Follows.next (State.answer_follows _ _ _ _) (by decide) ?_
    exact Follows.rfl' _ _
    intro a13
    exact Follows.rfl' _ _
  clear_value x9
  refine Follows.foldl _ ?_ ?_
  assumption
  intro a14 a15
  refine Follows.ite ?_ ?_
  intro a16
  refine Follows.next (State.answer_follows _ _ _ _) (by decide) ?_
  refine Follows.next (State.wr_follows _ _ _) (by decide) ?_
  exact Follows.rfl' _ _
  intro a17
  exact Follows.rfl' _ _

theorem State.startUnit_follows (s : State) (serial : Nat) :
    Follows [.reg, .answers, .mirror, .ln, .vd, .ls, .fn, .eng, .lk, .ses, .bb, .pc, .rst, .hmp, .upd, .gn, .gd, .cams] s (State.startUnit s serial) := by
  unfold State.startUnit
  extract_lets +onlyGivenNames x0
  have h0 : Follows [.reg, .answers, .mirror, .ln, .vd, .ls, .fn, .eng, .lk, .ses, .bb, .pc, .rst, .hmp, .upd, .gn, .gd, .cams] s x0 := by
    unfold x0
    refine Follows.next (State.switchTimed_follows _) (by decide) ?_
    refine Follows.next (State.compareCopy_follows _) (by decide) ?_
    exact Follows.rfl' _ _
  clear_value x0
  extract_lets +onlyGivenNames x1
  have h1 : Follows [.reg, .answers, .mirror, .ln, .vd, .ls, .fn, .eng, .lk, .ses, .bb, .pc, .rst, .hmp, .upd, .gn, .gd, .cams] s x1 := by
    unfold x1
    refine Follows.next (State.startCoils_follows _ _) (by decide) ?_
    assumption
  clear_value x1
  extract_lets +onlyGivenNames x2
  have h2 : Follows [.reg, .answers, .mirror, .ln, .vd, .ls, .fn, .eng, .lk, .ses, .bb, .pc, .rst, .hmp, .upd, .gn, .gd, .cams] s x2 := by
    unfold x2
    refine Follows.next (State.enginesOut_follows _) (by decide) ?_
    refine Follows.next (State.firstCommands_follows _) (by decide) ?_
    refine Follows.next (State.placeLoops_follows _) (by decide) ?_
    assumption
  clear_value x2
  extract_lets +onlyGivenNames x3
  have h3 : Follows [.reg, .answers, .mirror, .ln, .vd, .ls, .fn, .eng, .lk, .ses, .bb, .pc, .rst, .hmp, .upd, .gn, .gd, .cams] s x3 := by
    unfold x3
    refine Follows.next (State.wr_follows _ _ _) (by decide) ?_
    assumption
  clear_value x3
  extract_lets +onlyGivenNames x4
  have h4 : Follows [.reg, .answers, .mirror, .ln, .vd, .ls, .fn, .eng, .lk, .ses, .bb, .pc, .rst, .hmp, .upd, .gn, .gd, .cams] s x4 := by
    unfold x4
    refine Follows.next (State.startCams_follows _) (by decide) ?_
    refine Follows.next (State.startGnss_follows _ _ _) (by decide) ?_
    assumption
  clear_value x4
  extract_lets +onlyGivenNames x5
  have h5 : Follows [.reg, .answers, .mirror, .ln, .vd, .ls, .fn, .eng, .lk, .ses, .bb, .pc, .rst, .hmp, .upd, .gn, .gd, .cams] s x5 := by
    unfold x5
    refine Follows.next (State.startManagement_follows _ _) (by decide) ?_
    refine Follows.next (State.checkSize_follows _) (by decide) ?_
    refine Follows.next (State.startNetworks_follows _) (by decide) ?_
    assumption
  clear_value x5
  refine Follows.next (State.setDomains_follows _) (by decide) ?_
  refine Follows.upd ⟨?_, ?_⟩ ?_
  · intro p hp; cases p <;> first | exact absurd (by decide) hp | rfl
  · exact fun h => ⟨h.mem, h.window, h.records, h.gate, h.sessions, h.amend, h.held, h.stamps⟩
  assumption

theorem State.readPacks_follows (s : State) :
    Follows [.reg, .answers, .mirror, .obs, .ses, .bb] s (State.readPacks s) := by
  unfold State.readPacks
  split
  refine Follows.next (State.startPack_follows _) (by decide) ?_
  refine Follows.next (State.loadPacks_follows _ _ _) (by decide) ?_
  exact Follows.rfl' _ _
  exact Follows.rfl' _ _

theorem State.unconfigured_follows (s : State) :
    Follows [.reg, .answers, .mirror, .prot, .vd, .ls, .ses, .bb] s (State.unconfigured s) := by
  unfold State.unconfigured
  extract_lets +onlyGivenNames x0
  have h0 : Follows [.reg, .answers, .mirror, .prot, .vd, .ls, .ses, .bb] s x0 := by
    unfold x0
    refine Follows.foldl _ ?_ ?_
    exact Follows.rfl' _ _
    intro a1 a2
    refine Follows.ite ?_ ?_
    intro a3
    exact Follows.rfl' _ _
    intro a4
    refine Follows.next (State.valveOff_follows _ _ _) (by decide) ?_
    exact Follows.rfl' _ _
  clear_value x0
  extract_lets +onlyGivenNames x5
  extract_lets +onlyGivenNames x6
  have h6 : Follows [.reg, .answers, .mirror, .prot, .vd, .ls, .ses, .bb] s x6 := by
    unfold x6
    refine Follows.next (State.loadProt_follows _ _ _) (by decide) ?_
    refine Follows.next (State.clearRegs_follows _ _) (by decide) ?_
    assumption
  clear_value x6
  refine Follows.next (State.applySwitches_follows _ _) (by decide) ?_
  assumption

theorem State.confirmSlot_follows (s : State) :
    Follows [.reg, .answers, .mirror, .ses, .bb, .upd] s (State.confirmSlot s) := by
  unfold State.confirmSlot
  extract_lets +onlyGivenNames x0
  refine Follows.ite ?_ ?_
  intro a1
  exact Follows.rfl' _ _
  intro a2
  extract_lets +onlyGivenNames x3
  extract_lets +onlyGivenNames x4
  extract_lets +onlyGivenNames x5
  have h5 : Follows [.reg, .answers, .mirror, .ses, .bb, .upd] s x5 := by
    unfold x5
    refine Follows.next (State.wrs_follows _ _) (by decide) ?_
    refine Follows.upd ⟨?_, ?_⟩ ?_
    · intro p hp; cases p <;> first | exact absurd (by decide) hp | rfl
    · exact fun h => ⟨h.mem, h.window, h.records, h.gate, h.sessions, h.amend, h.held, h.stamps⟩
    exact Follows.rfl' _ _
  clear_value x5
  refine Follows.next (State.log_follows _ _ _ _ _ _ _) (by decide) ?_
  assumption

theorem State.takeImage_follows (s : State) (img : ImageIn) (uid : Nat) (source : Nat) :
    Follows [.reg, .prot, .arb, .lk, .ses, .role, .hmp, .cams] s (State.takeImage s img uid source) := by
  unfold State.takeImage
  split
  refine Follows.ite ?_ ?_
  intro a0
  extract_lets +onlyGivenNames x1
  have h1 : Follows [.reg, .prot, .arb, .lk, .ses, .role, .hmp, .cams] s x1 := by
    unfold x1
    refine Follows.next (State.useImage_follows _ _ _ _) (by decide) ?_
    refine Follows.upd ⟨?_, ?_⟩ ?_
    · intro p hp; cases p <;> first | exact absurd (by decide) hp | rfl
    · exact fun h => ⟨h.mem, h.window, h.records, h.gate, h.sessions, h.amend, h.held, h.stamps⟩
    exact Follows.rfl' _ _
  clear_value x1
  refine Follows.upd ⟨?_, ?_⟩ ?_
  · intro p hp; cases p <;> first | exact absurd (by decide) hp | rfl
  · exact fun h => ⟨h.mem, h.window, h.records, h.gate, h.sessions, h.amend, h.held, h.stamps⟩
  assumption
  intro a2
  refine Follows.next (State.useImage_follows _ _ _ _) (by decide) ?_
  refine Follows.next (State.loadImage_follows _ _ _) (by decide) ?_
  exact Follows.rfl' _ _
  exact Follows.rfl' _ _

theorem State.storeShadow_follows (s : State) :
    Follows [.hmp] s (State.storeShadow s) := by
  unfold State.storeShadow
  split
  extract_lets +onlyGivenNames x0
  refine Follows.ite ?_ ?_
  intro a1
  exact Follows.rfl' _ _
  intro a2
  refine Follows.upd ⟨?_, ?_⟩ ?_
  · intro p hp; cases p <;> first | exact absurd (by decide) hp | rfl
  · exact fun h => ⟨h.mem, h.window, h.records, h.gate, h.sessions, h.amend, h.held, h.stamps⟩
  exact Follows.rfl' _ _
  exact Follows.rfl' _ _

theorem State.beginRelease_follows (s : State) (start : StartIn) :
    Follows [.reg, .answers, .mirror, .tb, .ls, .ses, .bb, .rst] s (State.beginRelease s start) := by
  unfold State.beginRelease
  extract_lets +onlyGivenNames x0
  extract_lets +onlyGivenNames x1
  extract_lets +onlyGivenNames x2
  extract_lets +onlyGivenNames x3
  extract_lets +onlyGivenNames x4
  extract_lets +onlyGivenNames x5
  have h5 : Follows [.reg, .answers, .mirror, .tb, .ls, .ses, .bb, .rst] s x5 := by
    unfold x5
    refine Follows.upd ⟨?_, ?_⟩ ?_
    · intro p hp; cases p <;> first | exact absurd (by decide) hp | rfl
    · exact fun h => ⟨h.mem, h.window, h.records, h.gate, h.sessions, h.amend, by dsimp only; split <;> first | exact h.held | exact Nat.zero_le _, h.stamps⟩
    exact Follows.rfl' _ _
  clear_value x5
  extract_lets +onlyGivenNames x6
  have h6 : Follows [.reg, .answers, .mirror, .tb, .ls, .ses, .bb, .rst] s x6 := by
    unfold x6
    refine Follows.ite ?_ ?_
    intro a7
    refine Follows.next (State.wrs_follows _ _) (by decide) ?_
    assumption
    intro a8
    assumption
  clear_value x6
  extract_lets +onlyGivenNames x9
  have h9 : Follows [.reg, .answers, .mirror, .tb, .ls, .ses, .bb, .rst] s x9 := by
    unfold x9
    refine Follows.ite ?_ ?_
    intro a10
    refine Follows.next (State.bump_follows _ _ _) (by decide) ?_
    assumption
    intro a11
    assumption
  clear_value x9
  extract_lets +onlyGivenNames x12
  have h12 : Follows [.reg, .answers, .mirror, .tb, .ls, .ses, .bb, .rst] s x12 := by
    unfold x12
    refine Follows.ite ?_ ?_
    intro a13
    refine Follows.next (State.loadTime_follows _) (by decide) ?_
    assumption
    intro a14
    assumption
  clear_value x12
  extract_lets +onlyGivenNames x15
  have h15 : Follows [.reg, .answers, .mirror, .tb, .ls, .ses, .bb, .rst] s x15 := by
    unfold x15
    refine Follows.ite ?_ ?_
    intro a16
    refine Follows.next (State.log_follows _ _ _ _ _ _ _) (by decide) ?_
    assumption
    intro a17
    assumption
  clear_value x15
  extract_lets +onlyGivenNames x18
  extract_lets +onlyGivenNames x19
  have h19 : Follows [.reg, .answers, .mirror, .tb, .ls, .ses, .bb, .rst] s x19 := by
    unfold x19
    refine Follows.upd ⟨?_, ?_⟩ ?_
    · intro p hp; cases p <;> first | exact absurd (by decide) hp | rfl
    · exact fun h => ⟨h.mem, h.window, h.records, h.gate, h.sessions, h.amend, h.held, h.stamps⟩
    assumption
  clear_value x19
  refine Follows.next (State.setDomains_follows _) (by decide) ?_
  refine Follows.next (State.setCoreRail_follows _) (by decide) ?_
  assumption

theorem State.startThermos_follows (s : State) :
    Follows [.reg, .answers, .mirror, .ses, .bb, .pwr, .rst] s (State.startThermos s) := by
  unfold State.startThermos
  extract_lets +onlyGivenNames x0
  extract_lets +onlyGivenNames x1
  extract_lets +onlyGivenNames x2
  extract_lets +onlyGivenNames x3
  extract_lets +onlyGivenNames x4
  have h4 : Follows [.reg, .answers, .mirror, .ses, .bb, .pwr, .rst] s x4 := by
    unfold x4
    refine Follows.next (State.wr_follows _ _ _) (by decide) ?_
    refine Follows.upd ⟨?_, ?_⟩ ?_
    · intro p hp; cases p <;> first | exact absurd (by decide) hp | rfl
    · exact fun h => ⟨h.mem, h.window, h.records, h.gate, h.sessions, h.amend, h.held, h.stamps⟩
    exact Follows.rfl' _ _
  clear_value x4
  refine Follows.ite ?_ ?_
  intro a5
  assumption
  intro a6
  refine Follows.next (State.log_follows _ _ _ _ _ _ _) (by decide) ?_
  assumption

theorem State.bootSlot_follows (s : State) (bad : List Nat) :
    Follows [.reg, .upd] s (State.bootSlot s bad).1 := by
  unfold State.bootSlot
  dsimp only
  split
  split
  dsimp only
  refine Follows.next (State.wrs_follows _ _) (by decide) ?_
  exact Follows.rfl' _ _
  split
  dsimp only
  refine Follows.next (State.wr_follows _ _ _) (by decide) ?_
  refine Follows.upd ⟨?_, ?_⟩ ?_
  · intro p hp; cases p <;> first | exact absurd (by decide) hp | rfl
  · exact fun h => ⟨h.mem, h.window, h.records, h.gate, h.sessions, h.amend, h.held, h.stamps⟩
  refine Follows.next (State.wr_follows _ _ _) (by decide) ?_
  exact Follows.rfl' _ _
  dsimp only
  refine Follows.next (State.wr_follows _ _ _) (by decide) ?_
  exact Follows.rfl' _ _
  split
  dsimp only
  refine Follows.next (State.wr_follows _ _ _) (by decide) ?_
  exact Follows.rfl' _ _
  dsimp only
  exact Follows.rfl' _ _

theorem State.readKey_follows (s : State) :
    Follows resetParts s (State.readKey s) := by
  unfold State.readKey
  extract_lets +onlyGivenNames x0
  have h0 : Follows resetParts s x0 := by
    unfold x0
    refine Follows.upd ⟨?_, ?_⟩ ?_
    · intro p hp; cases p <;> first | exact absurd (by decide) hp | rfl
    · exact fun h => ⟨h.mem, h.window, h.records, h.gate, h.sessions, h.amend, h.held, h.stamps⟩
    exact Follows.rfl' _ _
  clear_value x0
  split
  refine Follows.next (State.log_follows _ _ _ _ _ _ _) (by decide) ?_
  refine Follows.next (State.wr_follows _ _ _) (by decide) ?_
  refine Follows.next (State.unconfigured_follows _) (by decide) ?_
  assumption
  extract_lets +onlyGivenNames x1
  have h1 : Follows resetParts s x1 := by
    unfold x1
    refine Follows.next (State.wr_follows _ _ _) (by decide) ?_
    assumption
  clear_value x1
  split
  refine Follows.next (State.takeImage_follows _ _ _ _) (by decide) ?_
  assumption
  extract_lets +onlyGivenNames x2
  have h2 : Follows resetParts s x2 := by
    unfold x2
    refine Follows.next (State.log_follows _ _ _ _ _ _ _) (by decide) ?_
    assumption
  clear_value x2
  split
  refine Follows.ite ?_ ?_
  intro a3
  refine Follows.next (State.log_follows _ _ _ _ _ _ _) (by decide) ?_
  refine Follows.next (State.takeImage_follows _ _ _ _) (by decide) ?_
  assumption
  intro a4
  refine Follows.next (State.unconfigured_follows _) (by decide) ?_
  assumption
  refine Follows.next (State.unconfigured_follows _) (by decide) ?_
  assumption

theorem State.assignEngines_follows (s : State) (failing : List Nat) :
    Follows [.reg, .eng] s (State.assignEngines s failing) := by
  unfold State.assignEngines
  extract_lets +onlyGivenNames x0
  refine Follows.foldl _ ?_ ?_
  refine Follows.upd ⟨?_, ?_⟩ ?_
  · intro p hp; cases p <;> first | exact absurd (by decide) hp | rfl
  · exact fun h => ⟨h.mem, h.window, h.records, h.gate, h.sessions, h.amend, h.held, h.stamps⟩
  exact Follows.rfl' _ _
  intro a1 a2
  split
  refine Follows.next (State.wrs_follows _ _) (by decide) ?_
  exact Follows.rfl' _ _
  refine Follows.next (State.wrs_follows _ _) (by decide) ?_
  exact Follows.rfl' _ _

theorem State.runStart_follows (s : State) :
    Follows resetParts s (State.runStart s) := by
  unfold State.runStart
  extract_lets +onlyGivenNames x0
  extract_lets +onlyGivenNames x1
  have h1 : Follows resetParts s x1 := by
    unfold x1
    refine Follows.next (State.readKey_follows _) (by decide) ?_
    refine Follows.next (State.assignEngines_follows _ _) (by decide) ?_
    exact Follows.rfl' _ _
  clear_value x1
  extract_lets +onlyGivenNames x2
  have h2 : Follows resetParts s x2 := by
    unfold x2
    refine Follows.next (State.log_follows _ _ _ _ _ _ _) (by decide) ?_
    refine Follows.next (State.startThermos_follows _) (by decide) ?_
    assumption
  clear_value x2
  extract_lets +onlyGivenNames x3
  extract_lets +onlyGivenNames x4
  have h4 : Follows resetParts s x4 := by
    unfold x4
    refine Follows.ite ?_ ?_
    intro a5
    refine Follows.next (State.wr_follows _ _ _) (by decide) ?_
    assumption
    intro a6
    assumption
  clear_value x4
  extract_lets +onlyGivenNames x7
  have h7 : Follows resetParts s x7 := by
    unfold x7
    refine Follows.next (State.wrs_follows _ _) (by decide) ?_
    assumption
  clear_value x7
  extract_lets +onlyGivenNames x8
  extract_lets +onlyGivenNames x9
  have h9 : Follows resetParts s x9 := by
    unfold x9
    refine Follows.upd ⟨?_, ?_⟩ ?_
    · intro p hp; cases p <;> first | exact absurd (by decide) hp | rfl
    · exact fun h => ⟨h.mem, h.window, h.records, h.gate, h.sessions, h.amend, h.held, h.stamps⟩
    assumption
  clear_value x9
  extract_lets +onlyGivenNames x10
  have h10 : Follows resetParts s x10 := by
    unfold x10
    refine Follows.next (State.setDomains_follows _) (by decide) ?_
    refine Follows.next (State.setCoreRail_follows _) (by decide) ?_
    assumption
  clear_value x10
  refine Follows.ite ?_ ?_
  intro a11
  assumption
  intro a12
  refine Follows.ite ?_ ?_
  intro a13
  refine Follows.next (State.startUnit_follows _ _) (by decide) ?_
  refine Follows.next (State.readPacks_follows _) (by decide) ?_
  assumption
  intro a14
  extract_lets +onlyGivenNames x15
  have h15 : Follows resetParts s x15 := by
    unfold x15
    refine Follows.next (State.startManagement_follows _ _) (by decide) ?_
    refine Follows.next (State.enginesOut_follows _) (by decide) ?_
    assumption
  clear_value x15
  refine Follows.next (State.setDomains_follows _) (by decide) ?_
  refine Follows.upd ⟨?_, ?_⟩ ?_
  · intro p hp; cases p <;> first | exact absurd (by decide) hp | rfl
  · exact fun h => ⟨h.mem, h.window, h.records, h.gate, h.sessions, h.amend, h.held, h.stamps⟩
  assumption

theorem State.loadPowerDie_follows (s : State) (wake : Bool) :
    Follows [.upd] s (State.loadPowerDie s wake) := by
  unfold State.loadPowerDie
  refine Follows.ite ?_ ?_
  intro a0
  exact Follows.rfl' _ _
  intro a1
  extract_lets +onlyGivenNames x2
  refine Follows.upd ⟨?_, ?_⟩ ?_
  · intro p hp; cases p <;> first | exact absurd (by decide) hp | rfl
  · exact fun h => ⟨h.mem, h.window, h.records, h.gate, h.sessions, h.amend, h.held, h.stamps⟩
  exact Follows.rfl' _ _

theorem State.busyTest_follows (s : State) (q : TestIn) (session : Nat) :
    Follows [.reg, .answers, .mirror, .ses, .bb] s (State.busyTest s q session) := by
  unfold State.busyTest
  refine Follows.next (State.reply_follows _ _ _ _) (by decide) ?_
  refine Follows.next (State.log_follows _ _ _ _ _ _ _) (by decide) ?_
  exact Follows.rfl' _ _

theorem State.sleepSave_follows (s : State) (mode : Nat) :
    Follows [.reg, .tb, .obs, .bb, .md, .gn] s (State.sleepSave s mode) := by
  unfold State.sleepSave
  extract_lets +onlyGivenNames x0
  extract_lets +onlyGivenNames x1
  have h1 : Follows [.reg, .tb, .obs, .bb, .md, .gn] s x1 := by
    unfold x1
    refine Follows.ite ?_ ?_
    intro a2
    refine Follows.upd ⟨?_, ?_⟩ ?_
    · intro p hp; cases p <;> first | exact absurd (by decide) hp | rfl
    · exact fun h => ⟨h.mem, h.window, h.records, h.gate, h.sessions, h.amend, h.held, h.stamps⟩
    exact Follows.rfl' _ _
    intro a3
    exact Follows.rfl' _ _
  clear_value x1
  extract_lets +onlyGivenNames x4
  extract_lets +onlyGivenNames x5
  extract_lets +onlyGivenNames x6
  extract_lets +onlyGivenNames x7
  have h7 : Follows [.reg, .tb, .obs, .bb, .md, .gn] s x7 := by
    unfold x7
    refine Follows.upd ⟨?_, ?_⟩ ?_
    · intro p hp; cases p <;> first | exact absurd (by decide) hp | rfl
    · exact fun h => ⟨h.mem, h.window, h.records, h.gate, h.sessions, h.amend, h.held, h.stamps⟩
    assumption
  clear_value x7
  refine Follows.next (State.saveCtrl_follows _) (by decide) ?_
  refine Follows.next (State.bbAnchor_follows _) (by decide) ?_
  refine Follows.next (State.writeRetention_follows _) (by decide) ?_
  assumption

theorem State.refuseMode_follows (s : State) (session : Nat) (target : Nat) :
    Follows [.reg, .answers, .mirror, .ses, .bb] s (State.refuseMode s session target) := by
  unfold State.refuseMode
  refine Follows.next (State.reply_follows _ _ _ _) (by decide) ?_
  refine Follows.next (State.log_follows _ _ _ _ _ _ _) (by decide) ?_
  exact Follows.rfl' _ _

theorem State.judgeMode_follows (s : State) (session : Nat) (target : Nat) :
    Follows [.reg, .answers, .mirror, .ln, .vd, .fn, .opt, .eng, .lk, .ego, .out, .obs, .ses, .bb, .md, .gd] s (State.judgeMode s session target) := by
  unfold State.judgeMode
  refine Follows.ite ?_ ?_
  intro a0
  refine Follows.next (State.refuseMode_follows _ _ _) (by decide) ?_
  exact Follows.rfl' _ _
  intro a1
  split
  refine Follows.next (State.refuseMode_follows _ _ _) (by decide) ?_
  exact Follows.rfl' _ _
  refine Follows.ite ?_ ?_
  intro a2
  refine Follows.next (State.reply_follows _ _ _ _) (by decide) ?_
  exact Follows.rfl' _ _
  intro a3
  refine Follows.ite ?_ ?_
  intro a4
  refine Follows.next (State.refuseMode_follows _ _ _) (by decide) ?_
  exact Follows.rfl' _ _
  intro a5
  refine Follows.ite ?_ ?_
  intro a6
  refine Follows.next (State.reply_follows _ _ _ _) (by decide) ?_
  refine Follows.next (State.log_follows _ _ _ _ _ _ _) (by decide) ?_
  exact Follows.rfl' _ _
  intro a7
  refine Follows.ite ?_ ?_
  intro a8
  refine Follows.next (State.refuseMode_follows _ _ _) (by decide) ?_
  exact Follows.rfl' _ _
  intro a9
  split
  refine Follows.next (State.reply_follows _ _ _ _) (by decide) ?_
  refine Follows.next (State.log_follows _ _ _ _ _ _ _) (by decide) ?_
  exact Follows.rfl' _ _
  refine Follows.next (State.startTransition_follows _ _) (by decide) ?_
  refine Follows.next (State.reply_follows _ _ _ _) (by decide) ?_
  exact Follows.rfl' _ _

theorem State.startTest_follows (s : State) (q : TestIn) (session : Nat) :
    Follows [.reg, .answers, .vd, .md] s (State.startTest s q session) := by
  unfold State.startTest
  extract_lets +onlyGivenNames x0
  extract_lets +onlyGivenNames x1
  extract_lets +onlyGivenNames x2
  extract_lets +onlyGivenNames x3
  extract_lets +onlyGivenNames x4
  have h4 : Follows [.reg, .answers, .vd, .md] s x4 := by
    unfold x4
    refine Follows.upd ⟨?_, ?_⟩ ?_
    · intro p hp; cases p <;> first | exact absurd (by decide) hp | rfl
    · exact fun h => ⟨h.mem, h.window, h.records, h.gate, h.sessions, h.amend, h.held, h.stamps⟩
    exact Follows.rfl' _ _
  extract_lets +onlyGivenNames x5
  extract_lets +onlyGivenNames x6
  have h6 : Follows [.reg, .answers, .vd, .md] s x6 := by
    unfold x6
    refine Follows.ite ?_ ?_
    intro a7
    refine Follows.next (State.regulate_follows _ _ _ _) (by decide) ?_
    refine Follows.next (State.unqueue_follows _ _) (by decide) ?_
    unfold x4
    refine Follows.upd ⟨?_, ?_⟩ ?_
    · intro p hp; cases p <;> first | exact absurd (by decide) hp | rfl
    · exact fun h => ⟨h.mem, h.window, h.records, h.gate, h.sessions, h.amend, h.held, h.stamps⟩
    exact Follows.rfl' _ _
    intro a8
    refine Follows.ite ?_ ?_
    intro a9
    refine Follows.next (State.regulate_follows _ _ _ _) (by decide) ?_
    refine Follows.next (State.unqueue_follows _ _) (by decide) ?_
    unfold x4
    refine Follows.upd ⟨?_, ?_⟩ ?_
    · intro p hp; cases p <;> first | exact absurd (by decide) hp | rfl
    · exact fun h => ⟨h.mem, h.window, h.records, h.gate, h.sessions, h.amend, h.held, h.stamps⟩
    exact Follows.rfl' _ _
    intro a10
    unfold x4
    refine Follows.upd ⟨?_, ?_⟩ ?_
    · intro p hp; cases p <;> first | exact absurd (by decide) hp | rfl
    · exact fun h => ⟨h.mem, h.window, h.records, h.gate, h.sessions, h.amend, h.held, h.stamps⟩
    exact Follows.rfl' _ _
  clear_value x6
  refine Follows.next (State.reply_follows _ _ _ _) (by decide) ?_
  assumption

theorem State.goOff_follows (s : State) (noFinal : Bool) :
    Follows resetParts s (State.goOff s noFinal) := by
  unfold State.goOff
  extract_lets +onlyGivenNames x0
  extract_lets +onlyGivenNames x1
  have h1 : Follows resetParts s x1 := by
    unfold x1
    refine Follows.upd ⟨?_, ?_⟩ ?_
    · intro p hp; cases p <;> first | exact absurd (by decide) hp | rfl
    · exact fun h => ⟨h.mem, h.window, h.records, h.gate, h.sessions, h.amend, h.held, h.stamps⟩
    exact Follows.rfl' _ _
  clear_value x1
  extract_lets +onlyGivenNames x2
  have h2 : Follows resetParts s x2 := by
    unfold x2
    refine Follows.next (State.cleared_follows _ _) (by decide) ?_
    assumption
  clear_value x2
  extract_lets +onlyGivenNames x3
  have h3 : Follows resetParts s x3 := by
    unfold x3
    refine Follows.upd ⟨?_, ?_⟩ ?_
    · intro p hp; cases p <;> first | exact absurd (by decide) hp | rfl
    · exact fun h => ⟨h.mem, h.window, h.records, h.gate, h.sessions, h.amend, h.held, h.stamps⟩
    assumption
  clear_value x3
  refine Follows.next (State.setDomains_follows _) (by decide) ?_
  refine Follows.next (State.setCoreRail_follows _) (by decide) ?_
  refine Follows.next (State.wr_follows _ _ _) (by decide) ?_
  assumption

theorem State.setVbat_follows (s : State) (mv : Nat) :
    Follows [.reg] s (State.setVbat s mv) := by
  unfold State.setVbat
  refine Follows.next (State.wr_follows _ _ _) (by decide) ?_
  exact Follows.rfl' _ _

theorem State.parkPanel_follows (s : State) :
    Follows [.reg, .answers, .mirror, .ses, .bb, .pc] s (State.parkPanel s) := by
  unfold State.parkPanel
  split
  exact Follows.rfl' _ _
  extract_lets +onlyGivenNames x0
  extract_lets +onlyGivenNames x1
  extract_lets +onlyGivenNames x2
  extract_lets +onlyGivenNames x3
  have h3 : Follows [.reg, .answers, .mirror, .ses, .bb, .pc] s x3 := by
    unfold x3
    refine Follows.upd ⟨?_, ?_⟩ ?_
    · intro p hp; cases p <;> first | exact absurd (by decide) hp | rfl
    · exact fun h => ⟨h.mem, h.window, h.records, h.gate, h.sessions, h.amend, h.held, h.stamps⟩
    exact Follows.rfl' _ _
  clear_value x3
  extract_lets +onlyGivenNames x4
  have h4 : Follows [.reg, .answers, .mirror, .ses, .bb, .pc] s x4 := by
    unfold x4
    refine Follows.next (State.railsDown_follows _) (by decide) ?_
    refine Follows.next (State.answer_follows _ _ _ _) (by decide) ?_
    assumption
  clear_value x4
  refine Follows.next (State.bbWrite_follows _ _ _) (by decide) ?_
  refine Follows.next (State.bbWrite_follows _ _ _) (by decide) ?_
  assumption

theorem State.crankLow_follows (s : State) (vmin : Nat) :
    Follows [.pwr] s (State.crankLow s vmin) := by
  unfold State.crankLow
  refine Follows.upd ⟨?_, ?_⟩ ?_
  · intro p hp; cases p <;> first | exact absurd (by decide) hp | rfl
  · exact fun h => ⟨h.mem, h.window, h.records, h.gate, h.sessions, h.amend, h.held, h.stamps⟩
  exact Follows.rfl' _ _

theorem State.bbFinal_follows (s : State) (vmin : Nat) :
    Follows [.reg, .answers, .mirror, .ses, .bb] s (State.bbFinal s vmin) := by
  unfold State.bbFinal
  extract_lets +onlyGivenNames x0
  extract_lets +onlyGivenNames x1
  refine Follows.next (State.bbWrite_follows _ _ _) (by decide) ?_
  refine Follows.upd ⟨?_, ?_⟩ ?_
  · intro p hp; cases p <;> first | exact absurd (by decide) hp | rfl
  · exact fun h => ⟨h.mem, h.window, Nat.zero_le _, h.gate, h.sessions, h.amend, h.held, h.stamps⟩
  exact Follows.rfl' _ _

theorem State.resetBlock_follows (s : State) (block : Nat) :
    Follows [.reg, .answers, .isl, .mirror, .tb, .lk, .obs, .ses, .bb, .rst, .fl, .gd, .ym, .cams] s (State.resetBlock s block) := by
  unfold State.resetBlock
  refine Follows.next (State.restartBlock_follows _ _) (by decide) ?_
  refine Follows.upd ⟨?_, ?_⟩ ?_
  · intro p hp; cases p <;> first | exact absurd (by decide) hp | rfl
  · exact fun h => ⟨h.mem, h.window, h.records, h.gate, h.sessions, h.amend, h.held, h.stamps⟩
  exact Follows.rfl' _ _

theorem State.takeWord_follows (s : State) (sig : Nat) (sv : Nat) (word : WordIn) :
    Follows [.gn] s (State.takeWord s sig sv word) := by
  unfold State.takeWord
  refine Follows.ite ?_ ?_
  intro a0
  exact Follows.rfl' _ _
  intro a1
  extract_lets +onlyGivenNames x2
  extract_lets +onlyGivenNames x3
  extract_lets +onlyGivenNames x4
  refine Follows.upd ⟨?_, ?_⟩ ?_
  · intro p hp; cases p <;> first | exact absurd (by decide) hp | rfl
  · exact fun h => ⟨h.mem, h.window, h.records, h.gate, h.sessions, h.amend, h.held, h.stamps⟩
  exact Follows.rfl' _ _

theorem State.resetAmb_follows (s : State) :
    Follows [.reg, .gn] s (State.resetAmb s) := by
  unfold State.resetAmb
  refine Follows.next (State.bump_follows _ _ _) (by decide) ?_
  refine Follows.upd ⟨?_, ?_⟩ ?_
  · intro p hp; cases p <;> first | exact absurd (by decide) hp | rfl
  · exact fun h => ⟨h.mem, h.window, h.records, h.gate, h.sessions, h.amend, h.held, h.stamps⟩
  exact Follows.rfl' _ _

theorem State.setCh_follows (s : State) (n : Nat) (c : ChanS) :
    Follows [.gn] s (State.setCh s n c) := by
  unfold State.setCh
  refine Follows.upd ⟨?_, ?_⟩ ?_
  · intro p hp; cases p <;> first | exact absurd (by decide) hp | rfl
  · exact fun h => ⟨h.mem, h.window, h.records, h.gate, h.sessions, h.amend, h.held, h.stamps⟩
  exact Follows.rfl' _ _

theorem State.setAnt_follows (s : State) (a : Nat) (v : AntS) :
    Follows [.gn] s (State.setAnt s a v) := by
  unfold State.setAnt
  refine Follows.upd ⟨?_, ?_⟩ ?_
  · intro p hp; cases p <;> first | exact absurd (by decide) hp | rfl
  · exact fun h => ⟨h.mem, h.window, h.records, h.gate, h.sessions, h.amend, h.held, h.stamps⟩
  exact Follows.rfl' _ _

theorem State.setCor_follows (s : State) (n : Nat) (c : CorS) :
    Follows [.gn] s (State.setCor s n c) := by
  unfold State.setCor
  refine Follows.upd ⟨?_, ?_⟩ ?_
  · intro p hp; cases p <;> first | exact absurd (by decide) hp | rfl
  · exact fun h => ⟨h.mem, h.window, h.records, h.gate, h.sessions, h.amend, h.held, h.stamps⟩
  exact Follows.rfl' _ _

theorem State.badRtcm_follows (s : State) (n : Nat) :
    Follows [.reg, .answers, .mirror, .ses, .bb, .gn] s (State.badRtcm s n) := by
  unfold State.badRtcm
  extract_lets +onlyGivenNames x0
  refine Follows.next (State.logOnce_follows _ _ _ _ _ _ _) (by decide) ?_
  refine Follows.next (State.setCor_follows _ _ _) (by decide) ?_
  exact Follows.rfl' _ _

theorem State.takeNavUtc_follows (s : State) (sig : Nat) (utc : Option (Int × Nat)) :
    Follows [.reg, .gn] s (State.takeNavUtc s sig utc) := by
  unfold State.takeNavUtc
  split
  exact Follows.rfl' _ _
  extract_lets +onlyGivenNames x0
  extract_lets +onlyGivenNames x1
  refine Follows.ite ?_ ?_
  intro a2
  exact Follows.rfl' _ _
  intro a3
  refine Follows.next (State.wrs_follows _ _) (by decide) ?_
  refine Follows.upd ⟨?_, ?_⟩ ?_
  · intro p hp; cases p <;> first | exact absurd (by decide) hp | rfl
  · exact fun h => ⟨h.mem, h.window, h.records, h.gate, h.sessions, h.amend, h.held, h.stamps⟩
  exact Follows.rfl' _ _

theorem State.latched_follows (s : State) (meas : List MeasIn) (c : Nat) :
    Follows [.free] s (State.latched s meas c).2 := by
  unfold State.latched
  split
  dsimp only
  exact Follows.rfl' _ _
  split
  split
  split
  dsimp only
  refine Follows.next (Follows.snd (by assumption) (State.fresh_follows _ _)) (by decide) ?_
  refine Follows.next (Follows.snd (by assumption) (State.fresh_follows _ _)) (by decide) ?_
  refine Follows.next (Follows.snd (by assumption) (State.fresh_follows _ _)) (by decide) ?_
  exact Follows.rfl' _ _

theorem State.measRecords_follows (s : State) (meas : List MeasIn) : Follows [.free] s (State.measRecords s meas).2 := by
  unfold State.measRecords
  have key : ∀ (cs : List Nat) (q : List Int × State), Follows [.free] s q.2 → Follows [.free] s
      (cs.foldl (fun (acc : List Int × State) (c : Nat) =>
        let (m, z) := acc.2.latched meas c
        (acc.1 ++ z.measRecord m, z)) q).2 := by
    intro cs
    induction cs with
    | nil => exact fun _ h => h
    | cons c cs ih => exact fun q h => ih _ (Follows.next (State.latched_follows _ _ _) (by decide) h)
  exact key _ _ (Follows.rfl' _ _)

theorem State.assign_follows (s : State) (x : SigIn) :
    Follows [.reg, .gn] s (State.assign s x) := by
  unfold State.assign
  split
  exact Follows.rfl' _ _
  extract_lets +onlyGivenNames x0
  extract_lets +onlyGivenNames x1
  extract_lets +onlyGivenNames x2
  extract_lets +onlyGivenNames x3
  have h3 : Follows [.reg, .gn] s x3 := by
    unfold x3
    refine Follows.next (State.wrs_follows _ _) (by decide) ?_
    refine Follows.next (State.setCh_follows _ _ _) (by decide) ?_
    exact Follows.rfl' _ _
  clear_value x3
  refine Follows.ite ?_ ?_
  intro a4
  refine Follows.next (State.wrs_follows _ _) (by decide) ?_
  assumption
  intro a5
  assumption

theorem State.assignAll_follows (s : State) (view : List SigIn) :
    Follows [.reg, .gn] s (State.assignAll s view) := by
  unfold State.assignAll
  extract_lets +onlyGivenNames x0
  refine Follows.foldl _ ?_ ?_
  exact Follows.rfl' _ _
  intro a1 a2
  extract_lets +onlyGivenNames x3
  refine Follows.ite ?_ ?_
  intro a4
  refine Follows.next (State.assign_follows _ _) (by decide) ?_
  exact Follows.rfl' _ _
  intro a5
  exact Follows.rfl' _ _

theorem State.reacquire_follows (s : State) :
    Follows [.reg, .gn] s (State.reacquire s) := by
  unfold State.reacquire
  refine Follows.ite ?_ ?_
  intro a0
  exact Follows.rfl' _ _
  intro a1
  refine Follows.foldl _ ?_ ?_
  exact Follows.rfl' _ _
  intro a2 a3
  refine Follows.ite ?_ ?_
  intro a4
  refine Follows.next (State.wr_follows _ _ _) (by decide) ?_
  refine Follows.next (State.setCh_follows _ _ _) (by decide) ?_
  exact Follows.rfl' _ _
  intro a5
  exact Follows.rfl' _ _

theorem State.switchCor_follows (s : State) (new : Nat) :
    Follows [.reg, .answers, .mirror, .ses, .bb, .gn] s (State.switchCor s new) := by
  unfold State.switchCor
  extract_lets +onlyGivenNames x0
  extract_lets +onlyGivenNames x1
  extract_lets +onlyGivenNames x2
  extract_lets +onlyGivenNames x3
  have h3 : Follows [.reg, .answers, .mirror, .ses, .bb, .gn] s x3 := by
    unfold x3
    refine Follows.ite ?_ ?_
    intro a4
    exact Follows.rfl' _ _
    intro a5
    refine Follows.next (State.resetAmb_follows _) (by decide) ?_
    exact Follows.rfl' _ _
  clear_value x3
  refine Follows.next (State.log_follows _ _ _ _ _ _ _) (by decide) ?_
  refine Follows.next (State.wr_follows _ _ _) (by decide) ?_
  assumption

theorem State.slip_follows (s : State) (n : Nat) :
    Follows [.reg, .answers, .mirror, .ses, .bb, .gn] s (State.slip s n) := by
  unfold State.slip
  extract_lets +onlyGivenNames x0
  extract_lets +onlyGivenNames x1
  have h1 : Follows [.reg, .answers, .mirror, .ses, .bb, .gn] s x1 := by
    unfold x1
    refine Follows.next (State.bump_follows _ _ _) (by decide) ?_
    refine Follows.next (State.setCh_follows _ _ _) (by decide) ?_
    exact Follows.rfl' _ _
  clear_value x1
  refine Follows.next (State.logOnce_follows _ _ _ _ _ _ _) (by decide) ?_
  assumption

theorem State.takeRtcm_follows (s : State) (n : Nat) (msg : RtcmIn) :
    Follows [.reg, .answers, .mirror, .ses, .bb, .gn] s (State.takeRtcm s n msg) := by
  unfold State.takeRtcm
  extract_lets +onlyGivenNames x0
  split
  extract_lets +onlyGivenNames x1
  have h1 : Follows [.reg, .answers, .mirror, .ses, .bb, .gn] s x1 := by
    unfold x1
    refine Follows.ite ?_ ?_
    intro a2
    refine Follows.next (State.answer_follows _ _ _ _) (by decide) ?_
    exact Follows.rfl' _ _
    intro a3
    exact Follows.rfl' _ _
  clear_value x1
  refine Follows.ite ?_ ?_
  intro a4
  extract_lets +onlyGivenNames x5
  extract_lets +onlyGivenNames x6
  extract_lets +onlyGivenNames x7
  have h7 : Follows [.reg, .answers, .mirror, .ses, .bb, .gn] s x7 := by
    unfold x7
    refine Follows.next (State.setCor_follows _ _ _) (by decide) ?_
    assumption
  clear_value x7
  refine Follows.ite ?_ ?_
  intro a8
  refine Follows.next (State.log_follows _ _ _ _ _ _ _) (by decide) ?_
  refine Follows.next (State.resetAmb_follows _) (by decide) ?_
  assumption
  intro a9
  assumption
  intro a10
  refine Follows.ite ?_ ?_
  intro a11
  refine Follows.ite ?_ ?_
  intro a12
  refine Follows.next (State.setCor_follows _ _ _) (by decide) ?_
  assumption
  intro a13
  assumption
  intro a14
  refine Follows.ite ?_ ?_
  intro a15
  assumption
  intro a16
  refine Follows.next (State.setCor_follows _ _ _) (by decide) ?_
  assumption

theorem State.publishPvt_follows (s : State) (p : PvtS) :
    Follows [.reg, .answers, .gn] s (State.publishPvt s p) := by
  unfold State.publishPvt
  extract_lets +onlyGivenNames x0
  extract_lets +onlyGivenNames x1
  have h1 : Follows [.reg, .answers, .gn] s x1 := by
    unfold x1
    refine Follows.next (State.wrs_follows _ _) (by decide) ?_
    refine Follows.upd ⟨?_, ?_⟩ ?_
    · intro p hp; cases p <;> first | exact absurd (by decide) hp | rfl
    · exact fun h => ⟨h.mem, h.window, h.records, h.gate, h.sessions, h.amend, h.held, h.stamps⟩
    exact Follows.rfl' _ _
  clear_value x1
  refine Follows.ite ?_ ?_
  intro a2
  refine Follows.next (State.answer_follows _ _ _ _) (by decide) ?_
  assumption
  intro a3
  assumption

theorem State.judgeConns_follows (s : State) :
    Follows [.answers, .gn] s (State.judgeConns s) := by
  unfold State.judgeConns
  refine Follows.ite ?_ ?_
  intro a0
  exact Follows.rfl' _ _
  intro a1
  refine Follows.foldl _ ?_ ?_
  exact Follows.rfl' _ _
  intro a2 a3
  extract_lets +onlyGivenNames x4
  extract_lets +onlyGivenNames x5
  refine Follows.ite ?_ ?_
  intro a6
  exact Follows.rfl' _ _
  intro a7
  extract_lets +onlyGivenNames x8
  have h8 : Follows [.answers, .gn] a2 x8 := by
    unfold x8
    refine Follows.next (State.setCor_follows _ _ _) (by decide) ?_
    exact Follows.rfl' _ _
  clear_value x8
  refine Follows.next (State.answer_follows _ _ _ _) (by decide) ?_
  assumption

theorem State.judgeCor_follows (s : State) (epoch : Int) :
    Follows [.reg, .answers, .mirror, .ses, .bb, .gn] s (State.judgeCor s epoch) := by
  unfold State.judgeCor
  extract_lets +onlyGivenNames x0
  extract_lets +onlyGivenNames x1
  extract_lets +onlyGivenNames x2
  have h2 : Follows [.reg, .answers, .mirror, .ses, .bb, .gn] s x2 := by
    unfold x2
    refine Follows.foldl _ ?_ ?_
    exact Follows.rfl' _ _
    intro a3 a4
    extract_lets +onlyGivenNames x5
    extract_lets +onlyGivenNames x6
    refine Follows.ite ?_ ?_
    intro a7
    exact Follows.rfl' _ _
    intro a8
    refine Follows.next (State.setCor_follows _ _ _) (by decide) ?_
    exact Follows.rfl' _ _
  clear_value x2
  extract_lets +onlyGivenNames x9
  extract_lets +onlyGivenNames x10
  extract_lets +onlyGivenNames x11
  refine Follows.ite ?_ ?_
  intro a12
  split
  refine Follows.next (State.switchCor_follows _ _) (by decide) ?_
  assumption
  assumption
  intro a13
  split
  refine Follows.next (State.switchCor_follows _ _) (by decide) ?_
  assumption
  refine Follows.ite ?_ ?_
  intro a14
  assumption
  intro a15
  split
  refine Follows.next (State.switchCor_follows _ _) (by decide) ?_
  assumption
  assumption

theorem State.solveHead_follows (s : State) (sol : SolIn) (soln : Nat) :
    Follows [.reg, .answers, .mirror, .ses, .bb, .gn] s (State.solveHead s sol soln).2 := by
  unfold State.solveHead
  dsimp only
  split
  dsimp only
  refine Follows.upd ⟨?_, ?_⟩ ?_
  · intro p hp; cases p <;> first | exact absurd (by decide) hp | rfl
  · exact fun h => ⟨h.mem, h.window, h.records, h.gate, h.sessions, h.amend, h.held, h.stamps⟩
  exact Follows.rfl' _ _
  split
  dsimp only
  exact Follows.rfl' _ _
  split
  dsimp only
  refine Follows.upd ⟨?_, ?_⟩ ?_
  · intro p hp; cases p <;> first | exact absurd (by decide) hp | rfl
  · exact fun h => ⟨h.mem, h.window, h.records, h.gate, h.sessions, h.amend, h.held, h.stamps⟩
  exact Follows.rfl' _ _
  dsimp only
  refine Follows.next (State.log_follows _ _ _ _ _ _ _) (by decide) ?_
  refine Follows.upd ⟨?_, ?_⟩ ?_
  · intro p hp; cases p <;> first | exact absurd (by decide) hp | rfl
  · exact fun h => ⟨h.mem, h.window, h.records, h.gate, h.sessions, h.amend, h.held, h.stamps⟩
  exact Follows.rfl' _ _

theorem State.solveTime_follows (s : State) (sol : SolIn) (soln : Nat) (usable : List Nat) :
    Follows [.reg, .answers, .mirror, .ses, .bb, .gn] s (State.solveTime s sol soln usable) := by
  unfold State.solveTime
  refine Follows.ite ?_ ?_
  intro a0
  exact Follows.rfl' _ _
  intro a1
  split
  refine Follows.next (State.setTvalid_follows _ _) (by decide) ?_
  refine Follows.next (State.wr_follows _ _ _) (by decide) ?_
  refine Follows.upd ⟨?_, ?_⟩ ?_
  · intro p hp; cases p <;> first | exact absurd (by decide) hp | rfl
  · exact fun h => ⟨h.mem, h.window, h.records, h.gate, h.sessions, h.amend, h.held, h.stamps⟩
  exact Follows.rfl' _ _
  extract_lets +onlyGivenNames x2
  extract_lets +onlyGivenNames x3
  extract_lets +onlyGivenNames x4
  extract_lets +onlyGivenNames x5
  extract_lets +onlyGivenNames x6
  have h6 : Follows [.reg, .answers, .mirror, .ses, .bb, .gn] s x6 := by
    unfold x6
    refine Follows.upd ⟨?_, ?_⟩ ?_
    · intro p hp; cases p <;> first | exact absurd (by decide) hp | rfl
    · exact fun h => ⟨h.mem, h.window, h.records, h.gate, h.sessions, h.amend, h.held, h.stamps⟩
    exact Follows.rfl' _ _
  clear_value x6
  refine Follows.next (State.setTvalid_follows _ _) (by decide) ?_
  refine Follows.next (State.wrs_follows _ _) (by decide) ?_
  assumption

theorem State.markUsed_follows (s : State) (used : List Nat) :
    Follows [.reg] s (State.markUsed s used) := by
  unfold State.markUsed
  refine Follows.foldl _ ?_ ?_
  exact Follows.rfl' _ _
  intro a0 a1
  refine Follows.next (State.wr_follows _ _ _) (by decide) ?_
  exact Follows.rfl' _ _

theorem State.firstFix_follows (s : State) (soln : Nat) :
    Follows [.reg, .answers, .mirror, .ses, .bb, .gn] s (State.firstFix s soln) := by
  unfold State.firstFix
  extract_lets +onlyGivenNames x0
  extract_lets +onlyGivenNames x1
  have h1 : Follows [.reg, .answers, .mirror, .ses, .bb, .gn] s x1 := by
    unfold x1
    refine Follows.ite ?_ ?_
    intro a2
    refine Follows.upd ⟨?_, ?_⟩ ?_
    · intro p hp; cases p <;> first | exact absurd (by decide) hp | rfl
    · exact fun h => ⟨h.mem, h.window, h.records, h.gate, h.sessions, h.amend, h.held, h.stamps⟩
    exact Follows.rfl' _ _
    intro a3
    exact Follows.rfl' _ _
  clear_value x1
  refine Follows.ite ?_ ?_
  intro a4
  assumption
  intro a5
  refine Follows.next (State.log_follows _ _ _ _ _ _ _) (by decide) ?_
  refine Follows.upd ⟨?_, ?_⟩ ?_
  · intro p hp; cases p <;> first | exact absurd (by decide) hp | rfl
  · exact fun h => ⟨h.mem, h.window, h.records, h.gate, h.sessions, h.amend, h.held, h.stamps⟩
  assumption

theorem State.writeRefusal_follows (s : State) (session : Nat) :
    ∀ u, State.writeRefusal s session = some u → Follows [.reg, .answers, .mirror, .ses, .bb] s u := by
  intro u h
  unfold State.writeRefusal at h
  split at h
  · cases h
    exact Follows.next (State.reply_follows _ _ _ _) (by decide)
      (Follows.next (State.log_follows _ _ _ _ _ _ _) (by decide) (Follows.rfl' _ _))
  · split at h
    · cases h
      exact Follows.next (State.reply_follows _ _ _ _) (by decide)
        (Follows.next (State.log_follows _ _ _ _ _ _ _) (by decide) (Follows.rfl' _ _))
    · cases h

theorem State.giveUp_follows (s : State) (unit : Nat) :
    Follows [.reg, .fn, .obs, .md] s (State.giveUp s unit) := by
  unfold State.giveUp
  extract_lets +onlyGivenNames x0
  extract_lets +onlyGivenNames x1
  have h1 : Follows [.reg, .fn, .obs, .md] s x1 := by
    unfold x1
    refine Follows.upd ⟨?_, ?_⟩ ?_
    · intro p hp; cases p <;> first | exact absurd (by decide) hp | rfl
    · exact fun h => ⟨h.mem, h.window, h.records, h.gate, h.sessions, h.amend, h.held, h.stamps⟩
    exact Follows.rfl' _ _
  clear_value x1
  extract_lets +onlyGivenNames x2
  have h2 : Follows [.reg, .fn, .obs, .md] s x2 := by
    unfold x2
    refine Follows.foldl _ ?_ ?_
    assumption
    intro a3 a4
    refine Follows.ite ?_ ?_
    intro a5
    extract_lets +onlyGivenNames x6
    extract_lets +onlyGivenNames x7
    refine Follows.next (State.wr_follows _ _ _) (by decide) ?_
    refine Follows.next (State.showCause_follows _ _) (by decide) ?_
    refine Follows.next (State.setFn_follows _ _ _) (by decide) ?_
    exact Follows.rfl' _ _
    intro a8
    exact Follows.rfl' _ _
  clear_value x2
  refine Follows.foldl _ ?_ ?_
  assumption
  intro a9 a10
  refine Follows.ite ?_ ?_
  intro a11
  refine Follows.next (State.showBind_follows _ _) (by decide) ?_
  refine Follows.next (State.setBind_follows _ _ _) (by decide) ?_
  exact Follows.rfl' _ _
  intro a12
  exact Follows.rfl' _ _

theorem State.startWrite_follows (s : State) (session : Nat) (image : ImageIn) :
    Follows [.reg, .answers, .hmp] s (State.startWrite s session image) := by
  unfold State.startWrite
  refine Follows.next (State.reply_follows _ _ _ _) (by decide) ?_
  refine Follows.next (State.wr_follows _ _ _) (by decide) ?_
  refine Follows.upd ⟨?_, ?_⟩ ?_
  · intro p hp; cases p <;> first | exact absurd (by decide) hp | rfl
  · exact fun h => ⟨h.mem, h.window, h.records, h.gate, h.sessions, h.amend, h.held, h.stamps⟩
  exact Follows.rfl' _ _

theorem State.takeBlock_follows (s : State) (n : Nat) (data : List Nat) :
    Follows [.reg, .upd] s (State.takeBlock s n data) := by
  unfold State.takeBlock
  extract_lets +onlyGivenNames x0
  extract_lets +onlyGivenNames x1
  extract_lets +onlyGivenNames x2
  extract_lets +onlyGivenNames x3
  have h3 : Follows [.reg, .upd] s x3 := by
    unfold x3
    refine Follows.upd ⟨?_, ?_⟩ ?_
    · intro p hp; cases p <;> first | exact absurd (by decide) hp | rfl
    · exact fun h => ⟨h.mem, h.window, h.records, h.gate, h.sessions, h.amend, h.held, h.stamps⟩
    exact Follows.rfl' _ _
  clear_value x3
  extract_lets +onlyGivenNames x4
  have h4 : Follows [.reg, .upd] s x4 := by
    unfold x4
    refine Follows.next (State.wr_follows _ _ _) (by decide) ?_
    assumption
  clear_value x4
  refine Follows.ite ?_ ?_
  intro a5
  refine Follows.next (State.wr_follows _ _ _) (by decide) ?_
  assumption
  intro a6
  assumption

theorem State.emptySlot_follows (s : State) :
    Follows [.reg, .upd] s (State.emptySlot s) := by
  unfold State.emptySlot
  extract_lets +onlyGivenNames x0
  extract_lets +onlyGivenNames x1
  extract_lets +onlyGivenNames x2
  have h2 : Follows [.reg, .upd] s x2 := by
    unfold x2
    refine Follows.upd ⟨?_, ?_⟩ ?_
    · intro p hp; cases p <;> first | exact absurd (by decide) hp | rfl
    · exact fun h => ⟨h.mem, h.window, h.records, h.gate, h.sessions, h.amend, h.held, h.stamps⟩
    exact Follows.rfl' _ _
  clear_value x2
  refine Follows.next (State.wrs_follows _ _) (by decide) ?_
  assumption

theorem State.endTransfer_follows (s : State) :
    Follows [.reg, .upd] s (State.endTransfer s) := by
  unfold State.endTransfer
  extract_lets +onlyGivenNames x0
  have h0 : Follows [.reg, .upd] s x0 := by
    unfold x0
    refine Follows.next (State.wrs_follows _ _) (by decide) ?_
    refine Follows.next (State.emptySlot_follows _) (by decide) ?_
    exact Follows.rfl' _ _
  clear_value x0
  refine Follows.upd ⟨?_, ?_⟩ ?_
  · intro p hp; cases p <;> first | exact absurd (by decide) hp | rfl
  · exact fun h => ⟨h.mem, h.window, h.records, h.gate, h.sessions, h.amend, h.held, h.stamps⟩
  assumption

theorem State.updRefused_follows (s : State) (session : Nat) (req : Nat) (cond : Nat) :
    Follows [.reg, .answers, .mirror, .ses, .bb] s (State.updRefused s session req cond) := by
  unfold State.updRefused
  refine Follows.next (State.reply_follows _ _ _ _) (by decide) ?_
  refine Follows.next (State.log_follows _ _ _ _ _ _ _) (by decide) ?_
  exact Follows.rfl' _ _

theorem State.updBusy_follows (s : State) (session : Nat) (req : Nat) :
    Follows [.reg, .answers, .mirror, .ses, .bb] s (State.updBusy s session req) := by
  unfold State.updBusy
  refine Follows.next (State.reply_follows _ _ _ _) (by decide) ?_
  refine Follows.next (State.log_follows _ _ _ _ _ _ _) (by decide) ?_
  exact Follows.rfl' _ _

theorem State.openTransfer_follows (s : State) (session : Nat) (m : ManifestIn) :
    Follows [.reg, .answers, .mirror, .ses, .bb, .upd] s (State.openTransfer s session m) := by
  unfold State.openTransfer
  extract_lets +onlyGivenNames x0
  extract_lets +onlyGivenNames x1
  have h1 : Follows [.reg, .answers, .mirror, .ses, .bb, .upd] s x1 := by
    unfold x1
    refine Follows.next (State.emptySlot_follows _) (by decide) ?_
    exact Follows.rfl' _ _
  clear_value x1
  extract_lets +onlyGivenNames x2
  extract_lets +onlyGivenNames x3
  have h3 : Follows [.reg, .answers, .mirror, .ses, .bb, .upd] s x3 := by
    unfold x3
    refine Follows.upd ⟨?_, ?_⟩ ?_
    · intro p hp; cases p <;> first | exact absurd (by decide) hp | rfl
    · exact fun h => ⟨h.mem, h.window, h.records, h.gate, h.sessions, h.amend, h.held, h.stamps⟩
    assumption
  clear_value x3
  extract_lets +onlyGivenNames x4
  have h4 : Follows [.reg, .answers, .mirror, .ses, .bb, .upd] s x4 := by
    unfold x4
    refine Follows.next (State.wrs_follows _ _) (by decide) ?_
    assumption
  clear_value x4
  refine Follows.next (State.reply_follows _ _ _ _) (by decide) ?_
  refine Follows.next (State.log_follows _ _ _ _ _ _ _) (by decide) ?_
  assumption

theorem State.activateNow_follows (s : State) (session : Nat) (atNext : Bool) (m : ManifestIn) :
    Follows [.reg, .answers, .mirror, .ln, .vd, .fn, .opt, .eng, .lk, .ego, .out, .obs, .ses, .bb, .md, .upd, .gd] s (State.activateNow s session atNext m) := by
  unfold State.activateNow
  extract_lets +onlyGivenNames x0
  extract_lets +onlyGivenNames x1
  extract_lets +onlyGivenNames x2
  extract_lets +onlyGivenNames x3
  have h3 : Follows [.reg, .answers, .mirror, .ln, .vd, .fn, .opt, .eng, .lk, .ego, .out, .obs, .ses, .bb, .md, .upd, .gd] s x3 := by
    unfold x3
    refine Follows.upd ⟨?_, ?_⟩ ?_
    · intro p hp; cases p <;> first | exact absurd (by decide) hp | rfl
    · exact fun h => ⟨h.mem, h.window, h.records, h.gate, h.sessions, h.amend, h.held, h.stamps⟩
    exact Follows.rfl' _ _
  clear_value x3
  extract_lets +onlyGivenNames x4
  have h4 : Follows [.reg, .answers, .mirror, .ln, .vd, .fn, .opt, .eng, .lk, .ego, .out, .obs, .ses, .bb, .md, .upd, .gd] s x4 := by
    unfold x4
    refine Follows.next (State.wrs_follows _ _) (by decide) ?_
    assumption
  clear_value x4
  extract_lets +onlyGivenNames x5
  have h5 : Follows [.reg, .answers, .mirror, .ln, .vd, .fn, .opt, .eng, .lk, .ego, .out, .obs, .ses, .bb, .md, .upd, .gd] s x5 := by
    unfold x5
    refine Follows.next (State.reply_follows _ _ _ _) (by decide) ?_
    refine Follows.next (State.log_follows _ _ _ _ _ _ _) (by decide) ?_
    assumption
  clear_value x5
  refine Follows.ite ?_ ?_
  intro a6
  refine Follows.next (State.wr_follows _ _ _) (by decide) ?_
  assumption
  intro a7
  refine Follows.next (State.wr_follows _ _ _) (by decide) ?_
  refine Follows.next (State.startTransition_follows _ _) (by decide) ?_
  assumption

theorem State.publishTele_follows (s : State) (r : List Int) :
    Follows [.answers] s (State.publishTele s r) := by
  unfold State.publishTele
  extract_lets +onlyGivenNames x0
  refine Follows.next (State.answer_follows _ _ _ _) (by decide) ?_
  exact Follows.rfl' _ _

theorem State.fleetOpens_follows (s : State) (conn : Nat) (wlan : Bool) :
    Follows [.reg, .answers] s (State.fleetOpens s conn wlan) := by
  unfold State.fleetOpens
  extract_lets +onlyGivenNames x0
  refine Follows.next (State.answer_follows _ _ _ _) (by decide) ?_
  refine Follows.next (State.wrs_follows _ _) (by decide) ?_
  exact Follows.rfl' _ _

theorem State.fleetFailed_follows (s : State) (conn : Nat) :
    Follows [.reg, .fl] s (State.fleetFailed s conn) := by
  unfold State.fleetFailed
  extract_lets +onlyGivenNames x0
  extract_lets +onlyGivenNames x1
  refine Follows.next (State.wr_follows _ _ _) (by decide) ?_
  refine Follows.upd ⟨?_, ?_⟩ ?_
  · intro p hp; cases p <;> first | exact absurd (by decide) hp | rfl
  · exact fun h => ⟨h.mem, h.window, h.records, h.gate, h.sessions, h.amend, h.held, h.stamps⟩
  exact Follows.rfl' _ _

theorem State.sendQueued_follows (s : State) :
    Follows [.reg, .answers, .fl] s (State.sendQueued s) := by
  unfold State.sendQueued
  extract_lets +onlyGivenNames x0
  extract_lets +onlyGivenNames x1
  have h1 : Follows [.reg, .answers, .fl] s x1 := by
    unfold x1
    refine Follows.foldl _ ?_ ?_
    exact Follows.rfl' _ _
    intro a2 a3
    refine Follows.next (State.publishTele_follows _ _) (by decide) ?_
    exact Follows.rfl' _ _
  clear_value x1
  refine Follows.next (State.wr_follows _ _ _) (by decide) ?_
  refine Follows.upd ⟨?_, ?_⟩ ?_
  · intro p hp; cases p <;> first | exact absurd (by decide) hp | rfl
  · exact fun h => ⟨h.mem, h.window, h.records, h.gate, h.sessions, h.amend, h.held, h.stamps⟩
  assumption

theorem State.fleetUp_follows (s : State) (conn : Nat) (wlan : Bool) :
    Follows [.reg, .answers, .mirror, .ses, .bb, .fl] s (State.fleetUp s conn wlan) := by
  unfold State.fleetUp
  extract_lets +onlyGivenNames x0
  extract_lets +onlyGivenNames x1
  extract_lets +onlyGivenNames x2
  have h2 : Follows [.reg, .answers, .mirror, .ses, .bb, .fl] s x2 := by
    unfold x2
    refine Follows.upd ⟨?_, ?_⟩ ?_
    · intro p hp; cases p <;> first | exact absurd (by decide) hp | rfl
    · exact fun h => ⟨h.mem, h.window, h.records, h.gate, h.sessions, h.amend, h.held, h.stamps⟩
    exact Follows.rfl' _ _
  clear_value x2
  extract_lets +onlyGivenNames x3
  have h3 : Follows [.reg, .answers, .mirror, .ses, .bb, .fl] s x3 := by
    unfold x3
    refine Follows.next (State.wrs_follows _ _) (by decide) ?_
    assumption
  clear_value x3
  extract_lets +onlyGivenNames x4
  have h4 : Follows [.reg, .answers, .mirror, .ses, .bb, .fl] s x4 := by
    unfold x4
    refine Follows.next (State.log_follows _ _ _ _ _ _ _) (by decide) ?_
    assumption
  clear_value x4
  refine Follows.ite ?_ ?_
  intro a5
  refine Follows.next (State.sendQueued_follows _) (by decide) ?_
  refine Follows.next (State.answer_follows _ _ _ _) (by decide) ?_
  assumption
  intro a6
  assumption

theorem State.cartRecord_follows (s : State) (seq : Nat) :
    Follows [.free] s (State.cartRecord s seq).2 := by
  unfold State.cartRecord
  dsimp only
  split
  dsimp only
  exact Follows.rfl' _ _
  dsimp only
  refine Follows.next (State.fresh_follows _ _) (by decide) ?_
  exact Follows.rfl' _ _

theorem State.triggerCam_follows (s : State) (cam : Nat) (gen : Nat) (instant : Int) :
    Follows [.answers, .cams] s (State.triggerCam s cam gen instant) := by
  unfold State.triggerCam
  refine Follows.ite ?_ ?_
  intro a0
  exact Follows.rfl' _ _
  intro a1
  extract_lets +onlyGivenNames x2
  extract_lets +onlyGivenNames x3
  refine Follows.ite ?_ ?_
  intro a4
  refine Follows.next (State.setCam_follows _ _ _) (by decide) ?_
  exact Follows.rfl' _ _
  intro a5
  refine Follows.next (State.answer_follows _ _ _ _) (by decide) ?_
  refine Follows.next (State.setCam_follows _ _ _) (by decide) ?_
  exact Follows.rfl' _ _

theorem State.firePeriodic_follows (s : State) (gen : Nat) (instant : Int) (reading : ReadingIn) (axes : List Nat) (imuFault : Bool) :
    Follows [.free, .reg, .answers, .ui, .imu, .cams] s (State.firePeriodic s gen instant reading axes imuFault) := by
  unfold State.firePeriodic
  extract_lets +onlyGivenNames x0
  extract_lets +onlyGivenNames x1
  split
  extract_lets +onlyGivenNames x2
  have h2 : Follows [.free, .reg, .answers, .ui, .imu, .cams] s x2 := by
    unfold x2
    refine Follows.ite ?_ ?_
    intro a3
    refine Follows.next (State.convert_follows _ _ _) (by decide) ?_
    exact Follows.rfl' _ _
    intro a4
    exact Follows.rfl' _ _
  clear_value x2
  refine Follows.next (State.answer_follows _ _ _ _) (by decide) ?_
  assumption
  refine Follows.next (State.answer_follows _ _ _ _) (by decide) ?_
  refine Follows.next (State.convert_follows _ _ _) (by decide) ?_
  exact Follows.rfl' _ _
  extract_lets +onlyGivenNames x5
  have h5 : Follows [.free, .reg, .answers, .ui, .imu, .cams] s x5 := by
    unfold x5
    refine Follows.next (State.triggerCam_follows _ _ _ _) (by decide) ?_
    exact Follows.rfl' _ _
  clear_value x5
  extract_lets +onlyGivenNames x6
  refine Follows.ite ?_ ?_
  intro a7
  assumption
  intro a8
  refine Follows.next (State.triggerCam_follows _ _ _ _) (by decide) ?_
  assumption
  refine Follows.next (State.answer_follows _ _ _ _) (by decide) ?_
  exact Follows.rfl' _ _
  refine Follows.upd ⟨?_, ?_⟩ ?_
  · intro p hp; cases p <;> first | exact absurd (by decide) hp | rfl
  · exact fun h => ⟨h.mem, h.window, h.records, h.gate, h.sessions, h.amend, h.held, h.stamps⟩
  exact Follows.rfl' _ _
  exact Follows.rfl' _ _

theorem State.noteFire_follows (s : State) (gen : Nat) (instant : Int) :
    Follows [.ln] s (State.noteFire s gen instant) := by
  unfold State.noteFire
  extract_lets +onlyGivenNames x0
  extract_lets +onlyGivenNames x1
  refine Follows.upd ⟨?_, ?_⟩ ?_
  · intro p hp; cases p <;> first | exact absurd (by decide) hp | rfl
  · exact fun h => ⟨h.mem, h.window, h.records, h.gate, h.sessions, h.amend, h.held, h.stamps⟩
  exact Follows.rfl' _ _

theorem State.cutPower_follows (s : State) (cam : Nat) :
    Follows [.reg, .answers, .mirror, .ses, .bb, .cams] s (State.cutPower s cam) := by
  unfold State.cutPower
  extract_lets +onlyGivenNames x0
  have h0 : Follows [.reg, .answers, .mirror, .ses, .bb, .cams] s x0 := by
    unfold x0
    refine Follows.next (State.loseLink_follows _ _) (by decide) ?_
    exact Follows.rfl' _ _
  clear_value x0
  refine Follows.next (State.setCam_follows _ _ _) (by decide) ?_
  assumption

theorem State.setCore_follows (s : State) (core : Nat) (c : CoreS) :
    Follows [.reg, .cams] s (State.setCore s core c) := by
  unfold State.setCore
  extract_lets +onlyGivenNames x0
  extract_lets +onlyGivenNames x1
  extract_lets +onlyGivenNames x2
  refine Follows.next (State.wrs_follows _ _) (by decide) ?_
  refine Follows.upd ⟨?_, ?_⟩ ?_
  · intro p hp; cases p <;> first | exact absurd (by decide) hp | rfl
  · exact fun h => ⟨h.mem, h.window, h.records, h.gate, h.sessions, h.amend, h.held, h.stamps⟩
  exact Follows.rfl' _ _

theorem State.idleCore_follows (s : State) (core : Nat) :
    Follows [.reg, .cams] s (State.idleCore s core) := by
  unfold State.idleCore
  extract_lets +onlyGivenNames x0
  refine Follows.next (State.setCore_follows _ _ _) (by decide) ?_
  exact Follows.rfl' _ _

theorem State.startUnitOn_follows (s : State) (core : Nat) (cam : Nat) (f : CamFrame) :
    Follows [.reg, .cams] s (State.startUnitOn s core cam f) := by
  unfold State.startUnitOn
  extract_lets +onlyGivenNames x0
  extract_lets +onlyGivenNames x1
  extract_lets +onlyGivenNames x2
  have h2 : Follows [.reg, .cams] s x2 := by
    unfold x2
    refine Follows.next (State.setCam_follows _ _ _) (by decide) ?_
    exact Follows.rfl' _ _
  clear_value x2
  extract_lets +onlyGivenNames x3
  have h3 : Follows [.reg, .cams] s x3 := by
    unfold x3
    refine Follows.next (State.raise_follows _ _ _) (by decide) ?_
    assumption
  clear_value x3
  extract_lets +onlyGivenNames x4
  extract_lets +onlyGivenNames x5
  extract_lets +onlyGivenNames x6
  refine Follows.next (State.setCore_follows _ _ _) (by decide) ?_
  assumption

theorem State.pairGone_follows (s : State) (cam : Nat) (trig : Int) :
    Follows [.cams] s (State.pairGone s cam trig) := by
  unfold State.pairGone
  refine Follows.ite ?_ ?_
  intro a0
  exact Follows.rfl' _ _
  intro a1
  extract_lets +onlyGivenNames x2
  refine Follows.next (State.setCam_follows _ _ _) (by decide) ?_
  exact Follows.rfl' _ _

theorem State.deliver_follows (s : State) (cam : Nat) (f : CamFrame) :
    Follows [.cams] s (State.deliver s cam f) := by
  unfold State.deliver
  refine Follows.foldl _ ?_ ?_
  exact Follows.rfl' _ _
  intro a0 a1
  extract_lets +onlyGivenNames x2
  extract_lets +onlyGivenNames x3
  refine Follows.ite ?_ ?_
  intro a4
  exact Follows.rfl' _ _
  intro a5
  split
  refine Follows.ite ?_ ?_
  intro a6
  exact Follows.rfl' _ _
  intro a7
  extract_lets +onlyGivenNames x8
  refine Follows.next (State.setCam_follows _ _ _) (by decide) ?_
  exact Follows.rfl' _ _
  refine Follows.next (State.setCam_follows _ _ _) (by decide) ?_
  exact Follows.rfl' _ _
  exact Follows.rfl' _ _

theorem State.decideCore_follows (s : State) (core : Nat) : Follows [.reg, .cams] s (State.decideCore s core) := by
  unfold State.decideCore
  extract_lets +onlyGivenNames asking
  refine Follows.ite (fun _ => Follows.rfl' _ _) (fun _ => ?_)
  extract_lets limit x1 a w x2 s1
  have h1 : Follows [.reg, .cams] s s1 := by
    refine Follows.upd ⟨?_, ?_⟩ (Follows.rfl' _ _)
    · intro p hp; cases p <;> first | exact absurd (by decide) hp | rfl
    · exact fun h => ⟨h.mem, h.window, h.records, h.gate, h.sessions, h.amend, h.held, h.stamps⟩
  clear_value s1 w
  rcases w with _ | ⟨q, forced⟩
  · exact h1
  · dsimp only
    have h2 : Follows [.reg, .cams] s
        (if forced = true then s1.bump (R.ISP_ASTAT_FORCED (q + 1)) 0xFFFF else s1) :=
      Follows.ite (fun _ => Follows.next (State.bump_follows _ _ _) (by decide) h1) (fun _ => h1)
    revert h2
    generalize (if forced = true then s1.bump (R.ISP_ASTAT_FORCED (q + 1)) 0xFFFF else s1) = s2
    intro h2
    split
    · exact Follows.next (State.startUnitOn_follows _ _ _ _) (by decide) h2
    · exact h2

theorem State.publishStats_follows (s : State) (cam : Nat) (f : CamFrame) :
    Follows [.free, .ses, .cams] s (State.publishStats s cam f) := by
  unfold State.publishStats
  extract_lets +onlyGivenNames x0
  extract_lets +onlyGivenNames x1
  extract_lets +onlyGivenNames x2
  extract_lets +onlyGivenNames x3
  split
  extract_lets +onlyGivenNames x4
  extract_lets +onlyGivenNames x5
  extract_lets +onlyGivenNames x6
  have h6 : Follows [.free, .ses, .cams] s x6 := by
    unfold x6
    refine Follows.next (State.setCam_follows _ _ _) (by decide) ?_
    refine Follows.next (Follows.snd (by assumption) (State.fresh_follows _ _)) (by decide) ?_
    exact Follows.rfl' _ _
  clear_value x6
  refine Follows.next (State.publish_follows _ _ _ _) (by decide) ?_
  assumption

theorem State.linkUp_follows (s : State) (cam : Nat) (trigLat : Nat) :
    Follows [.reg, .answers, .mirror, .ses, .bb, .cams] s (State.linkUp s cam trigLat) := by
  unfold State.linkUp
  extract_lets +onlyGivenNames x0
  extract_lets +onlyGivenNames x1
  extract_lets +onlyGivenNames x2
  extract_lets +onlyGivenNames x3
  have h3 : Follows [.reg, .answers, .mirror, .ses, .bb, .cams] s x3 := by
    unfold x3
    refine Follows.next (State.wr_follows _ _ _) (by decide) ?_
    refine Follows.next (State.setCam_follows _ _ _) (by decide) ?_
    exact Follows.rfl' _ _
  clear_value x3
  extract_lets +onlyGivenNames x4
  have h4 : Follows [.reg, .answers, .mirror, .ses, .bb, .cams] s x4 := by
    unfold x4
    refine Follows.next (State.answer_follows _ _ _ _) (by decide) ?_
    assumption
  clear_value x4
  refine Follows.next (State.logLink_follows _ _ _) (by decide) ?_
  refine Follows.next (State.setCamState_follows _ _ _) (by decide) ?_
  assumption

theorem State.propose_follows (s : State) (cam : Nat) (ae : Option (Nat × Nat)) :
    Follows [.cams] s (State.propose s cam ae) := by
  unfold State.propose
  extract_lets +onlyGivenNames x0
  split
  refine Follows.ite ?_ ?_
  intro a1
  refine Follows.next (State.setCam_follows _ _ _) (by decide) ?_
  exact Follows.rfl' _ _
  intro a2
  exact Follows.rfl' _ _
  exact Follows.rfl' _ _

theorem State.dropFrame_follows (s : State) (cam : Nat) (f : CamFrame) :
    Follows [.cams] s (State.dropFrame s cam f) := by
  unfold State.dropFrame
  extract_lets +onlyGivenNames x0
  refine Follows.next (State.pairGone_follows _ _ _) (by decide) ?_
  refine Follows.next (State.setCam_follows _ _ _) (by decide) ?_
  exact Follows.rfl' _ _

theorem State.showRate_follows (s : State) (cam : Nat) :
    Follows [.reg, .cams] s (State.showRate s cam) := by
  unfold State.showRate
  extract_lets +onlyGivenNames x0
  extract_lets +onlyGivenNames x1
  refine Follows.next (State.wr_follows _ _ _) (by decide) ?_
  refine Follows.next (State.setCam_follows _ _ _) (by decide) ?_
  exact Follows.rfl' _ _

theorem State.releaseTensor_follows (s : State) (cam : Nat) (trig : Int) :
    Follows [.cams] s (State.releaseTensor s cam trig) := by
  unfold State.releaseTensor
  extract_lets +onlyGivenNames x0
  refine Follows.next (State.setCam_follows _ _ _) (by decide) ?_
  exact Follows.rfl' _ _

theorem State.endRun_follows (s : State) (cam : Nat) (x : Machine.TensorS) :
    Follows [.cams] s (State.endRun s cam x) := by
  unfold State.endRun
  extract_lets +onlyGivenNames x0
  have h0 : Follows [.cams] s x0 := by
    unfold x0
    refine Follows.next (State.releaseTensor_follows _ _ _) (by decide) ?_
    exact Follows.rfl' _ _
  clear_value x0
  refine Follows.ite ?_ ?_
  intro a1
  assumption
  intro a2
  refine Follows.next (State.releaseTensor_follows _ _ _) (by decide) ?_
  assumption

theorem State.dropRun_follows (s : State) (cam : Nat) (x : Machine.TensorS) :
    Follows [.reg, .answers, .mirror, .ses, .bb, .cams] s (State.dropRun s cam x) := by
  unfold State.dropRun
  refine Follows.next (State.camLog_follows _ _ _ _) (by decide) ?_
  refine Follows.next (State.endRun_follows _ _ _) (by decide) ?_
  exact Follows.rfl' _ _

theorem State.frameDone_follows (s : State) (cam : Nat) (f : CamFrame) (ae : Option (Nat × Nat)) :
    Follows [.free, .reg, .ses, .cams] s (State.frameDone s cam f ae) := by
  unfold State.frameDone
  extract_lets +onlyGivenNames x0
  extract_lets +onlyGivenNames x1
  have h1 : Follows [.free, .reg, .ses, .cams] s x1 := by
    unfold x1
    refine Follows.next (State.setCam_follows _ _ _) (by decide) ?_
    exact Follows.rfl' _ _
  clear_value x1
  refine Follows.next (State.showRate_follows _ _) (by decide) ?_
  refine Follows.next (State.propose_follows _ _ _) (by decide) ?_
  refine Follows.next (State.deliver_follows _ _ _) (by decide) ?_
  refine Follows.next (State.publishStats_follows _ _ _) (by decide) ?_
  assumption

theorem State.publishVision_follows (s : State) (cam : Nat) (x : Machine.TensorS) (values : List Nat) :
    Follows [.answers, .ses, .ym, .cams] s (State.publishVision s cam x values) := by
  unfold State.publishVision
  extract_lets +onlyGivenNames x0
  extract_lets +onlyGivenNames x1
  extract_lets +onlyGivenNames x2
  extract_lets +onlyGivenNames x3
  have h3 : Follows [.answers, .ses, .ym, .cams] s x3 := by
    unfold x3
    refine Follows.upd ⟨?_, ?_⟩ ?_
    · intro p hp; cases p <;> first | exact absurd (by decide) hp | rfl
    · exact fun h => ⟨h.mem, h.window, h.records, h.gate, h.sessions, h.amend, h.held, h.stamps⟩
    exact Follows.rfl' _ _
  clear_value x3
  extract_lets +onlyGivenNames x4
  extract_lets +onlyGivenNames x5
  have h5 : Follows [.answers, .ses, .ym, .cams] s x5 := by
    unfold x5
    refine Follows.next (State.publish_follows _ _ _ _) (by decide) ?_
    assumption
  clear_value x5
  extract_lets +onlyGivenNames x6
  have h6 : Follows [.answers, .ses, .ym, .cams] s x6 := by
    unfold x6
    refine Follows.ite ?_ ?_
    intro a7
    refine Follows.next (State.noteStereo_follows _ _ _) (by decide) ?_
    assumption
    intro a8
    assumption
  clear_value x6
  refine Follows.ite ?_ ?_
  intro a9
  refine Follows.next (State.answer_follows _ _ _ _) (by decide) ?_
  assumption
  intro a10
  assumption

theorem State.settleFlight_follows (s : State) (cam : Nat) (fno : Nat) :
    Follows [.cams] s (State.settleFlight s cam fno) := by
  unfold State.settleFlight
  extract_lets +onlyGivenNames x0
  extract_lets +onlyGivenNames x1
  split
  exact Follows.rfl' _ _
  extract_lets +onlyGivenNames x2
  refine Follows.next (State.setCam_follows _ _ _) (by decide) ?_
  exact Follows.rfl' _ _

theorem State.takeFrame_follows (s : State) (cam : Nat) (fno : Nat) (trig : Int) (stamp : Int) (x : FrameIn) :
    Follows [.reg, .answers, .mirror, .ses, .bb, .cams] s (State.takeFrame s cam fno trig stamp x) := by
  unfold State.takeFrame
  extract_lets +onlyGivenNames x0
  extract_lets +onlyGivenNames x1
  extract_lets +onlyGivenNames x2
  have h2 : Follows [.reg, .answers, .mirror, .ses, .bb, .cams] s x2 := by
    unfold x2
    refine Follows.next (State.settleFlight_follows _ _ _) (by decide) ?_
    exact Follows.rfl' _ _
  clear_value x2
  extract_lets +onlyGivenNames x3
  have h3 : Follows [.reg, .answers, .mirror, .ses, .bb, .cams] s x3 := by
    unfold x3
    refine Follows.ite ?_ ?_
    intro a4
    assumption
    intro a5
    refine Follows.next (State.camLog_follows _ _ _ _) (by decide) ?_
    refine Follows.next (State.bump_follows _ _ _) (by decide) ?_
    assumption
  clear_value x3
  extract_lets +onlyGivenNames x6
  extract_lets +onlyGivenNames x7
  extract_lets +onlyGivenNames x8
  have h8 : Follows [.reg, .answers, .mirror, .ses, .bb, .cams] s x8 := by
    unfold x8
    refine Follows.next (State.setCam_follows _ _ _) (by decide) ?_
    assumption
  clear_value x8
  refine Follows.ite ?_ ?_
  intro a9
  refine Follows.next (State.setCamState_follows _ _ _) (by decide) ?_
  assumption
  intro a10
  assumption

theorem State.judgeFrame_follows (s : State) (cam : Nat) (fno : Nat) (trig : Int) (stamp : Int) (f : FrameIn) :
    Follows [.reg, .answers, .mirror, .ses, .bb, .cams] s (State.judgeFrame s cam fno trig stamp f) := by
  unfold State.judgeFrame
  extract_lets +onlyGivenNames x0
  extract_lets +onlyGivenNames x1
  have h1 : Follows [.reg, .answers, .mirror, .ses, .bb, .cams] s x1 := by
    unfold x1
    refine Follows.next (State.wr_follows _ _ _) (by decide) ?_
    exact Follows.rfl' _ _
  clear_value x1
  extract_lets +onlyGivenNames x2
  extract_lets +onlyGivenNames x3
  extract_lets +onlyGivenNames x4
  have h4 : Follows [.reg, .answers, .mirror, .ses, .bb, .cams] s x4 := by
    unfold x4
    refine Follows.next (State.setCam_follows _ _ _) (by decide) ?_
    assumption
  clear_value x4
  extract_lets +onlyGivenNames x5
  refine Follows.ite ?_ ?_
  intro a6
  refine Follows.next (State.pairGone_follows _ _ _) (by decide) ?_
  refine Follows.next (State.bump_follows _ _ _) (by decide) ?_
  assumption
  intro a7
  refine Follows.ite ?_ ?_
  intro a8
  refine Follows.next (State.pairGone_follows _ _ _) (by decide) ?_
  refine Follows.next (State.camLog_follows _ _ _ _) (by decide) ?_
  refine Follows.next (State.bump_follows _ _ _) (by decide) ?_
  assumption
  intro a9
  refine Follows.next (State.takeFrame_follows _ _ _ _ _ _) (by decide) ?_
  assumption

theorem State.frameFault_follows (s : State) (cam : Nat) (f : CamFrame) (hi : Nat) :
    ∀ u, State.frameFault s cam f hi = some u → Follows [.reg, .answers, .mirror, .ses, .bb, .cams] s u := by
  intro u h
  unfold State.frameFault at h
  extract_lets bad at h
  split at h
  · cases h
    refine Follows.next (State.dropFrame_follows _ _ _) (by decide) ?_
    refine Follows.next (State.camLog_follows _ _ _ _) (by decide) ?_
    exact Follows.next (State.bump_follows _ _ _) (by decide) (Follows.rfl' _ _)
  · split at h
    · cases h
      refine Follows.next (State.dropFrame_follows _ _ _) (by decide) ?_
      exact Follows.next (State.bump_follows _ _ _) (by decide) (Follows.rfl' _ _)
    · cases h

theorem State.unitStored_follows (s : State) (cam : Nat) :
    Follows [.reg, .answers, .mirror, .ses, .bb, .cams] s (State.unitStored s cam) := by
  unfold State.unitStored
  extract_lets +onlyGivenNames x0
  split
  exact Follows.rfl' _ _
  extract_lets +onlyGivenNames x1
  refine Follows.ite ?_ ?_
  intro a2
  exact Follows.rfl' _ _
  intro a3
  split
  refine Follows.next (Follows.some (by assumption) (State.frameFault_follows _ _ _ _)) (by decide) ?_
  exact Follows.rfl' _ _
  extract_lets +onlyGivenNames x4
  extract_lets +onlyGivenNames x5
  have h5 : Follows [.reg, .answers, .mirror, .ses, .bb, .cams] s x5 := by
    unfold x5
    refine Follows.next (State.setCam_follows _ _ _) (by decide) ?_
    exact Follows.rfl' _ _
  clear_value x5
  refine Follows.ite ?_ ?_
  intro a6
  refine Follows.next (State.setCamState_follows _ _ _) (by decide) ?_
  assumption
  intro a7
  assumption

theorem State.judgeJump_follows (s : State) (l : LineIn) (x : NavS) (dr : Rat × Rat) :
    Follows [.reg, .answers, .mirror, .ses, .bb, .gd] s (State.judgeJump s l x dr) := by
  unfold State.judgeJump
  extract_lets +onlyGivenNames x0
  extract_lets +onlyGivenNames x1
  extract_lets +onlyGivenNames x2
  extract_lets +onlyGivenNames x3
  extract_lets +onlyGivenNames x4
  have h4 : Follows [.reg, .answers, .mirror, .ses, .bb, .gd] s x4 := by
    unfold x4
    refine Follows.next (State.log_follows _ _ _ _ _ _ _) (by decide) ?_
    exact Follows.rfl' _ _
  clear_value x4
  refine Follows.ite ?_ ?_
  intro a5
  refine Follows.next (State.wr_follows _ _ _) (by decide) ?_
  assumption
  intro a6
  refine Follows.next (State.disengage_follows _ _ _) (by decide) ?_
  assumption

theorem State.judgeReckon_follows (s : State) (g : GuideStep) :
    Follows [.reg, .answers, .mirror, .ses, .bb, .gd] s (State.judgeReckon s g) := by
  unfold State.judgeReckon
  refine Follows.ite ?_ ?_
  intro a0
  refine Follows.next (State.disengage_follows _ _ _) (by decide) ?_
  exact Follows.rfl' _ _
  intro a1
  refine Follows.ite ?_ ?_
  intro a2
  refine Follows.next (State.disengage_follows _ _ _) (by decide) ?_
  exact Follows.rfl' _ _
  intro a3
  refine Follows.ite ?_ ?_
  intro a4
  refine Follows.next (State.disengage_follows _ _ _) (by decide) ?_
  exact Follows.rfl' _ _
  intro a5
  exact Follows.rfl' _ _

theorem State.enterReckon_follows (s : State) (g : GuideStep) :
    Follows [.reg, .answers, .mirror, .ses, .bb, .gd] s (State.enterReckon s g) := by
  unfold State.enterReckon
  refine Follows.ite ?_ ?_
  intro a0
  refine Follows.next (State.disengage_follows _ _ _) (by decide) ?_
  exact Follows.rfl' _ _
  intro a1
  refine Follows.ite ?_ ?_
  intro a2
  refine Follows.next (State.disengage_follows _ _ _) (by decide) ?_
  exact Follows.rfl' _ _
  intro a3
  extract_lets +onlyGivenNames x4
  have h4 : Follows [.reg, .answers, .mirror, .ses, .bb, .gd] s x4 := by
    unfold x4
    refine Follows.next (State.log_follows _ _ _ _ _ _ _) (by decide) ?_
    refine Follows.next (State.wr_follows _ _ _) (by decide) ?_
    exact Follows.rfl' _ _
  clear_value x4
  refine Follows.next (State.judgeReckon_follows _ _) (by decide) ?_
  assumption

theorem State.judgeSteering_follows (s : State) (l : LineIn) (x : NavS) (g : GuideStep) (dr : Rat × Rat) :
    Follows [.reg, .answers, .mirror, .ses, .bb, .gd] s (State.judgeSteering s l x g dr) := by
  unfold State.judgeSteering
  extract_lets +onlyGivenNames x0
  have h0 : Follows [.reg, .answers, .mirror, .ses, .bb, .gd] s x0 := by
    unfold x0
    refine Follows.ite ?_ ?_
    intro a1
    refine Follows.next (State.disengage_follows _ _ _) (by decide) ?_
    exact Follows.rfl' _ _
    intro a2
    exact Follows.rfl' _ _
  clear_value x0
  extract_lets +onlyGivenNames x3
  have h3 : Follows [.reg, .answers, .mirror, .ses, .bb, .gd] s x3 := by
    unfold x3
    refine Follows.ite ?_ ?_
    intro a4
    assumption
    intro a5
    refine Follows.ite ?_ ?_
    intro a6
    refine Follows.ite ?_ ?_
    intro a7
    refine Follows.next (State.disengage_follows _ _ _) (by decide) ?_
    assumption
    intro a8
    refine Follows.ite ?_ ?_
    intro a9
    refine Follows.next (State.disengage_follows _ _ _) (by decide) ?_
    assumption
    intro a10
    assumption
    intro a11
    refine Follows.ite ?_ ?_
    intro a12
    refine Follows.ite ?_ ?_
    intro a13
    refine Follows.next (State.judgeJump_follows _ _ _ _) (by decide) ?_
    assumption
    intro a14
    refine Follows.next (State.judgeReckon_follows _ _) (by decide) ?_
    assumption
    intro a15
    refine Follows.ite ?_ ?_
    intro a16
    refine Follows.next (State.enterReckon_follows _ _) (by decide) ?_
    assumption
    intro a17
    assumption
  clear_value x3
  refine Follows.ite ?_ ?_
  intro a18
  refine Follows.next (State.disengage_follows _ _ _) (by decide) ?_
  assumption
  intro a19
  assumption

theorem State.judgeArmed_follows (s : State) :
    Follows [.reg] s (State.judgeArmed s) := by
  unfold State.judgeArmed
  refine Follows.ite ?_ ?_
  intro a0
  exact Follows.rfl' _ _
  intro a1
  refine Follows.next (State.wr_follows _ _ _) (by decide) ?_
  exact Follows.rfl' _ _

theorem State.commandStep_follows (s : State) (kpath : Rat) :
    Follows [.gd] s (State.commandStep s kpath) := by
  unfold State.commandStep
  refine Follows.ite ?_ ?_
  intro a0
  exact Follows.rfl' _ _
  intro a1
  extract_lets +onlyGivenNames x2
  refine Follows.upd ⟨?_, ?_⟩ ?_
  · intro p hp; cases p <;> first | exact absurd (by decide) hp | rfl
  · exact fun h => ⟨h.mem, h.window, h.records, h.gate, h.sessions, h.amend, h.held, h.stamps⟩
  exact Follows.rfl' _ _

theorem State.beginTurn_follows (s : State) (l : LineIn) (x : NavS) :
    Follows [.gd] s (State.beginTurn s l x) := by
  unfold State.beginTurn
  split
  exact Follows.rfl' _ _
  extract_lets +onlyGivenNames x0
  split
  exact Follows.rfl' _ _
  extract_lets +onlyGivenNames x1
  extract_lets +onlyGivenNames x2
  refine Follows.upd ⟨?_, ?_⟩ ?_
  · intro p hp; cases p <;> first | exact absurd (by decide) hp | rfl
  · exact fun h => ⟨h.mem, h.window, h.records, h.gate, h.sessions, h.amend, h.held, h.stamps⟩
  exact Follows.rfl' _ _

theorem State.endTurn_follows (s : State) (l : LineIn) (x : NavS) :
    Follows [.reg, .gd] s (State.endTurn s l x) := by
  unfold State.endTurn
  split
  exact Follows.rfl' _ _
  split
  refine Follows.ite ?_ ?_
  intro a0
  extract_lets +onlyGivenNames x1
  extract_lets +onlyGivenNames x2
  have h2 : Follows [.reg, .gd] s x2 := by
    unfold x2
    refine Follows.upd ⟨?_, ?_⟩ ?_
    · intro p hp; cases p <;> first | exact absurd (by decide) hp | rfl
    · exact fun h => ⟨h.mem, h.window, h.records, h.gate, h.sessions, h.amend, h.held, h.stamps⟩
    exact Follows.rfl' _ _
  clear_value x2
  extract_lets +onlyGivenNames x3
  have h3 : Follows [.reg, .gd] s x3 := by
    unfold x3
    refine Follows.next (State.wr_follows _ _ _) (by decide) ?_
    assumption
  clear_value x3
  refine Follows.ite ?_ ?_
  intro a4
  refine Follows.next (State.wr_follows _ _ _) (by decide) ?_
  assumption
  intro a5
  assumption
  intro a6
  exact Follows.rfl' _ _
  exact Follows.rfl' _ _

theorem State.storeNav_follows (s : State) (g : GuideStep) (x : NavS) :
    Follows [.reg, .gd] s (State.storeNav s g x) := by
  unfold State.storeNav
  extract_lets +onlyGivenNames x0
  extract_lets +onlyGivenNames x1
  extract_lets +onlyGivenNames x2
  extract_lets +onlyGivenNames x3
  have h3 : Follows [.reg, .gd] s x3 := by
    unfold x3
    refine Follows.upd ⟨?_, ?_⟩ ?_
    · intro p hp; cases p <;> first | exact absurd (by decide) hp | rfl
    · exact fun h => ⟨h.mem, h.window, h.records, h.gate, h.sessions, h.amend, h.held, h.stamps⟩
    exact Follows.rfl' _ _
  clear_value x3
  refine Follows.next (State.wrs_follows _ _) (by decide) ?_
  assumption

theorem State.pathErr_follows (s : State) (l : LineIn) (x : NavS) : Follows [.reg, .gd] s (State.pathErr s l x).1 := by
  have key : ∀ (u : State) (g : GuideS), Follows [.reg, .gd] s u → Follows [.reg, .gd] s { u with gd := g } := by
    intro u g h
    refine Follows.upd ⟨?_, ?_⟩ h
    · intro p hp; cases p <;> first | exact absurd (by decide) hp | rfl
    · exact fun h => ⟨h.mem, h.window, h.records, h.gate, h.sessions, h.amend, h.held, h.stamps⟩
  unfold State.pathErr
  split
  · split
    · exact key _ _ (Follows.rfl' _ _)
    · exact Follows.rfl' _ _
  · split
    · exact Follows.rfl' _ _
    · have h1 : Follows [.reg, .gd] s (if s.gd.newLine || s.rd R.GD_STAT_STATE < 2 then
          s.wr R.GD_STAT_PASS (ofSigned 16 (nearestPass l (x.e, x.n))) else s) :=
        Follows.ite (fun _ => Follows.next (State.wr_follows _ _ _) (by decide) (Follows.rfl' _ _))
          (fun _ => Follows.rfl' _ _)
      revert h1
      dsimp only
      generalize (if (s.gd.newLine || decide (s.rd R.GD_STAT_STATE < 2)) = true then
          s.wr R.GD_STAT_PASS (ofSigned 16 (nearestPass l (x.e, x.n))) else s) = u
      intro h1
      split
      · split
        · exact key _ _ h1
        · split
          · exact key _ _ (key _ _ h1)
          · exact key _ _ h1
      · split
        · exact key _ _ h1
        · exact h1

theorem State.followLine_follows (s : State) (l : LineIn) (x : NavS) (g : GuideStep) (dr : Rat × Rat) :
    Follows [.reg, .answers, .mirror, .ses, .bb, .gd] s (State.followLine s l x g dr) := by
  unfold State.followLine
  split
  extract_lets +onlyGivenNames x0
  extract_lets +onlyGivenNames x1
  have h1 : Follows [.reg, .answers, .mirror, .ses, .bb, .gd] s x1 := by
    unfold x1
    refine Follows.upd ⟨?_, ?_⟩ ?_
    · intro p hp; cases p <;> first | exact absurd (by decide) hp | rfl
    · exact fun h => ⟨h.mem, h.window, h.records, h.gate, h.sessions, h.amend, h.held, h.stamps⟩
    refine Follows.next (Follows.fst (by assumption) (State.pathErr_follows _ _ _)) (by decide) ?_
    refine Follows.next (State.beginTurn_follows _ _ _) (by decide) ?_
    exact Follows.rfl' _ _
  clear_value x1
  extract_lets +onlyGivenNames x2
  have h2 : Follows [.reg, .answers, .mirror, .ses, .bb, .gd] s x2 := by
    unfold x2
    refine Follows.next (State.wrs_follows _ _) (by decide) ?_
    refine Follows.ite ?_ ?_
    intro a3
    assumption
    intro a4
    refine Follows.next (State.endTurn_follows _ _ _) (by decide) ?_
    assumption
  clear_value x2
  refine Follows.next (State.commandStep_follows _ _) (by decide) ?_
  refine Follows.next (State.judgeArmed_follows _) (by decide) ?_
  refine Follows.next (State.judgeSteering_follows _ _ _ _ _) (by decide) ?_
  assumption

theorem State.ticketBad_follows (s : State) (session : Nat) (n : Nat) (reason : Nat) :
    Follows [.reg, .answers, .mirror, .ses, .bb] s (State.ticketBad s session n reason) := by
  unfold State.ticketBad
  refine Follows.next (State.reply_follows _ _ _ _) (by decide) ?_
  refine Follows.next (State.log_follows _ _ _ _ _ _ _) (by decide) ?_
  exact Follows.rfl' _ _

theorem State.putCell_follows (s : State) (d : CellS) :
    Follows [.ym] s (State.putCell s d) := by
  unfold State.putCell
  extract_lets +onlyGivenNames x0
  extract_lets +onlyGivenNames x1
  refine Follows.upd ⟨?_, ?_⟩ ?_
  · intro p hp; cases p <;> first | exact absurd (by decide) hp | rfl
  · exact fun h => ⟨h.mem, h.window, h.records, h.gate, h.sessions, h.amend, h.held, h.stamps⟩
  exact Follows.rfl' _ _

theorem State.placeMass_follows (s : State) (d : CellS) :
    Follows [.reg, .ym] s (State.placeMass s d) := by
  unfold State.placeMass
  extract_lets +onlyGivenNames x0
  have h0 : Follows [.reg, .ym] s x0 := by
    unfold x0
    refine Follows.next (State.wr_follows _ _ _) (by decide) ?_
    exact Follows.rfl' _ _
  clear_value x0
  split
  assumption
  refine Follows.ite ?_ ?_
  intro a1
  refine Follows.next (State.putCell_follows _ _) (by decide) ?_
  exact Follows.rfl' _ _
  intro a2
  split
  refine Follows.next (State.bump_follows _ _ _) (by decide) ?_
  refine Follows.next (State.putCell_follows _ _) (by decide) ?_
  exact Follows.rfl' _ _
  assumption

theorem State.closeCell_follows (s : State) (c : CellS) :
    Follows [.reg, .ym] s (State.closeCell s c) := by
  unfold State.closeCell
  extract_lets +onlyGivenNames x0
  extract_lets +onlyGivenNames x1
  extract_lets +onlyGivenNames x2
  extract_lets +onlyGivenNames x3
  extract_lets +onlyGivenNames x4
  have h4 : Follows [.reg, .ym] s x4 := by
    unfold x4
    refine Follows.upd ⟨?_, ?_⟩ ?_
    · intro p hp; cases p <;> first | exact absurd (by decide) hp | rfl
    · exact fun h => ⟨h.mem, h.window, h.records, h.gate, h.sessions, h.amend, h.held, h.stamps⟩
    exact Follows.rfl' _ _
  clear_value x4
  refine Follows.next (State.wr_follows _ _ _) (by decide) ?_
  refine Follows.next (State.bump_follows _ _ _) (by decide) ?_
  assumption

theorem State.closeCells_follows (s : State) (t : Int) :
    Follows [.reg, .ym] s (State.closeCells s t) := by
  unfold State.closeCells
  refine Follows.foldl _ ?_ ?_
  exact Follows.rfl' _ _
  intro a0 a1
  refine Follows.ite ?_ ?_
  intro a2
  refine Follows.next (State.closeCell_follows _ _) (by decide) ?_
  exact Follows.rfl' _ _
  intro a3
  exact Follows.rfl' _ _

theorem State.showNow_follows (s : State) (delay : Bool) (width : Bool) (moist : Bool) :
    Follows [.reg, .answers, .mirror, .ses, .bb] s (State.showNow s delay width moist) := by
  unfold State.showNow
  extract_lets +onlyGivenNames x0
  extract_lets +onlyGivenNames x1
  extract_lets +onlyGivenNames x2
  extract_lets +onlyGivenNames x3
  have h3 : Follows [.reg, .answers, .mirror, .ses, .bb] s x3 := by
    unfold x3
    unfold x2
    refine Follows.ite ?_ ?_
    intro a4
    refine Follows.ite ?_ ?_
    intro a5
    refine Follows.ite ?_ ?_
    intro a6
    exact Follows.rfl' _ _
    intro a7
    refine Follows.next (State.log_follows _ _ _ _ _ _ _) (by decide) ?_
    exact Follows.rfl' _ _
    intro a8
    refine Follows.next (State.log_follows _ _ _ _ _ _ _) (by decide) ?_
    refine Follows.ite ?_ ?_
    intro a9
    exact Follows.rfl' _ _
    intro a10
    refine Follows.next (State.log_follows _ _ _ _ _ _ _) (by decide) ?_
    exact Follows.rfl' _ _
    intro a11
    refine Follows.next (State.log_follows _ _ _ _ _ _ _) (by decide) ?_
    refine Follows.ite ?_ ?_
    intro a12
    refine Follows.ite ?_ ?_
    intro a13
    exact Follows.rfl' _ _
    intro a14
    refine Follows.next (State.log_follows _ _ _ _ _ _ _) (by decide) ?_
    exact Follows.rfl' _ _
    intro a15
    refine Follows.next (State.log_follows _ _ _ _ _ _ _) (by decide) ?_
    refine Follows.ite ?_ ?_
    intro a16
    exact Follows.rfl' _ _
    intro a17
    refine Follows.next (State.log_follows _ _ _ _ _ _ _) (by decide) ?_
    exact Follows.rfl' _ _
  clear_value x3
  refine Follows.next (State.wr_follows _ _ _) (by decide) ?_
  assumption

theorem State.takeFlow_follows (s : State) (time : Int) (flow : Nat) :
    Follows [.reg, .answers, .mirror, .ses, .bb, .ym] s (State.takeFlow s time flow) := by
  unfold State.takeFlow
  extract_lets +onlyGivenNames x0
  extract_lets +onlyGivenNames x1
  extract_lets +onlyGivenNames x2
  extract_lets +onlyGivenNames x3
  split
  split
  extract_lets +onlyGivenNames x4
  extract_lets +onlyGivenNames x5
  extract_lets +onlyGivenNames x6
  have h6 : Follows [.reg, .answers, .mirror, .ses, .bb, .ym] s x6 := by
    unfold x6
    refine Follows.upd ⟨?_, ?_⟩ ?_
    · intro p hp; cases p <;> first | exact absurd (by decide) hp | rfl
    · exact fun h => ⟨h.mem, h.window, h.records, h.gate, h.sessions, h.amend, h.held, h.stamps⟩
    exact Follows.rfl' _ _
  clear_value x6
  extract_lets +onlyGivenNames x7
  extract_lets +onlyGivenNames x8
  have h8 : Follows [.reg, .answers, .mirror, .ses, .bb, .ym] s x8 := by
    unfold x8
    refine Follows.next (State.placeMass_follows _ _) (by decide) ?_
    refine Follows.next (State.closeCells_follows _ _) (by decide) ?_
    assumption
  clear_value x8
  refine Follows.next (State.wr_follows _ _ _) (by decide) ?_
  refine Follows.next (State.showNow_follows _ _ _ _) (by decide) ?_
  assumption

theorem State.takeTicket_follows (s : State) (raw : Rat) (std : Rat) :
    Follows [.reg, .answers, .mirror, .ses, .bb, .ym] s (State.takeTicket s raw std) := by
  unfold State.takeTicket
  extract_lets +onlyGivenNames x0
  extract_lets +onlyGivenNames x1
  extract_lets +onlyGivenNames x2
  have h2 : Follows [.reg, .answers, .mirror, .ses, .bb, .ym] s x2 := by
    unfold x2
    refine Follows.upd ⟨?_, ?_⟩ ?_
    · intro p hp; cases p <;> first | exact absurd (by decide) hp | rfl
    · exact fun h => ⟨h.mem, h.window, h.records, h.gate, h.sessions, h.amend, h.held, h.stamps⟩
    exact Follows.rfl' _ _
  clear_value x2
  extract_lets +onlyGivenNames x3
  extract_lets +onlyGivenNames x4
  extract_lets +onlyGivenNames x5
  extract_lets +onlyGivenNames x6
  extract_lets +onlyGivenNames x7
  refine Follows.ite ?_ ?_
  intro a8
  refine Follows.next (State.log_follows _ _ _ _ _ _ _) (by decide) ?_
  assumption
  intro a9
  extract_lets +onlyGivenNames x10
  have h10 : Follows [.reg, .answers, .mirror, .ses, .bb, .ym] s x10 := by
    unfold x10
    refine Follows.next (State.wr_follows _ _ _) (by decide) ?_
    refine Follows.next (State.log_follows _ _ _ _ _ _ _) (by decide) ?_
    assumption
  clear_value x10
  refine Follows.upd ⟨?_, ?_⟩ ?_
  · intro p hp; cases p <;> first | exact absurd (by decide) hp | rfl
  · exact fun h => ⟨h.mem, h.window, h.records, h.gate, h.sessions, h.amend, h.held, h.stamps⟩
  assumption

end Sys2Proof.Machine
end

