-- ==== Sys2Proof/WellFormed.lean ====
section
/-! DEFINITION. Which commands are well formed: the relations between operands the manual fixes. A
command outside them is no command of the module; the step does not judge it (log entry 2). -/

namespace Sys2Proof

/-- A message is a string of bytes. -/
def MsgIn.wf (m : MsgIn) : Bool := m.bytes.all (fun b => b < 256)

/-- The operands lie in the ranges the manual gives them. -/
def Instr.wf : Instr → Bool
  | .canaryWindowEnd _ laps => laps.length = 16
  | .islClock _ isl _ => 1 ≤ isl && isl ≤ 9
  | .crossingTransfer _ isl _ _ data _ => 1 ≤ isl && isl ≤ 9 && data < 2 ^ 256
  | .islStall _ isl _ _ => 1 ≤ isl && isl ≤ 9
  | .fifoResync _ isl => 1 ≤ isl && isl ≤ 9
  | .islResyncFail _ isl => 1 ≤ isl && isl ≤ 9
  | .islandRestart _ isl _ => 1 ≤ isl && isl ≤ 9
  | .spbPublish _ fn side => fn < 48 && side.sps.length ≤ 16 && side.ffs.length ≤ 16
  | .functionLaunch _ fn _ _ _ dstep => fn < 48 && dstep ≤ 4
  | .gateRequest _ _ _ msg => msg.wf
  | .mirrorSnapshotRefresh _ => true
  | .eventArrive _ ev => 1 ≤ ev.island && ev.island ≤ 9 && ev.unit ≤ 15 && ev.payload.length ≤ 22
  | .eventRelease _ _ => true
  | .protWrite _ master _ _ => master ≤ 20
  | .masterAccess _ master region _ _ _ ecc => master ≤ 20 && region ≤ 21 && ecc ≤ 2
  | .sramScrub _ partition _ ecc _ => partition ≤ 5 && ecc ≤ 2
  | .dramSlotDecision _ asking => asking.all (fun q => q ≤ 9)
  | .dramPrioWrite _ _ q _ => q ≤ 9
  | .gnssTimeUpdate _ _ _ _ _ => true
  | .pendingStep _ _ _ => true
  | .slewEnd _ _ => true
  | .holdoverEntry _ => true
  | .holdoverExpire _ => true
  | .ppsEdge _ => true
  | .evtEdge _ _ _ _ => true
  | .tbEvtOverrun _ _ => true
  | .tick _ port => 1 ≤ port && port ≤ 4
  | .second _ port => 1 ≤ port && port ≤ 4
  | .whistleFrameRx _ port bytes _ => 1 ≤ port && port ≤ 4 && bytes.all (fun b => b < 256)
  | .rtReq _ port _ => 1 ≤ port && port ≤ 4
  | .rtRep _ port => 1 ≤ port && port ≤ 4
  | .rtRepRx _ port _ _ => 1 ≤ port && port ≤ 4
  | .timeStatusMessage _ _ qual => qual ≤ 3
  | .timeStatusLate _ => true
  | .tbWhLoss _ port => 1 ≤ port && port ≤ 4
  | .lnCohCancel _ => true
  | .whistleReturn _ port _ => 1 ≤ port && port ≤ 4
  | .periodicFire _ gen _ _ _ _ => gen < 512
  | .lnInsert _ _ unit _ _ => unit ≤ 15
  | .oneshotArm _ slot ecc => slot < 8192 && ecc ≤ 2
  | .oneshotFire _ slot => slot < 8192
  | .lnCancel _ _ _ => true
  | .obsStep _ _ => true
  | .obsGatherClose _ => true
  | .obsStepOutput _ net => net.out.length = 14
  | .obsOverrun _ => true
  | .obsSampleArrive _ bind _ _ => bind < 32
  | .sourceMissing _ bind _ => bind < 32
  | .offsetEstimate _ bind _ _ => bind < 32
  | .offsetInvalid _ bind => bind < 32
  | .obsStateEcc _ _ => true
  | .packSelect _ _ _ => true
  | .obsPackChange _ => true
  | .operatorSetpoint _ _ fn _ _ _ _ => fn < 48
  | .optimiserCycle _ _ _ => true
  | .goalSelect _ _ _ => true
  | .fnStopRequest _ _ fn => fn < 48
  | .fnRestartRequest _ _ fn _ _ => fn < 48
  | .changeSet _ _ fn writes _ _ => fn < 48 && 1 ≤ writes.length && writes.length ≤ 32
  | .amendRead _ _ => true
  | .amendCommit _ _ => true
  | .loopSample _ loop _ => loop < 256
  | .loopEvaluate _ engine => engine < 4
  | .autotuneRequest _ _ _ => true
  | .ceMismatch _ engine slot => engine < 4 && slot < 64
  | .ceTakeover _ => true
  | .spareSelfTest _ _ => true
  | .loopStateEcc _ loop good _ => loop < 256 && good ≤ 2
  | .channelDump _ ch _ => ch < 1024
  | .channelRatesArrive _ ch _ _ => ch < 1024
  | .channelLost _ ch => ch < 1024
  | .measEpoch _ _ _ => true
  | .gnSolution _ sol => sol.vel.length = 3 && sol.sig.length = 3
  | .navWord _ word => 1 ≤ word.nbits && word.nbits ≤ 1024
  | .rtcmFrame _ slot _ _ => slot ≤ 2
  | .gnAntOpen _ ant _ => 1 ≤ ant && ant ≤ 2
  | .gnAntShort _ ant => 1 ≤ ant && ant ≤ 2
  | .antRetry _ ant => 1 ≤ ant && ant ≤ 2
  | .retentionWrite _ => true
  | .gnssRefresh _ => true
  | .gnRefresh _ => true
  | .guidanceStep _ _ => true
  | .gdEngage _ _ _ _ => true
  | .turnRequest _ _ _ => true
  | .lineLoad _ _ bytes => bytes.all (fun b => b < 256)
  | .lineSelect _ _ _ => true
  | .ymFlowSample _ _ _ => true
  | .newLoad _ _ => true
  | .ticketEntry _ _ loads _ _ => 1 ≤ loads.length && loads.length ≤ 8
  | .taskdataExport _ _ _ _ => true
  | .frameStart _ cam _ => 1 ≤ cam && cam ≤ 16
  | .camMissed _ cam => 1 ≤ cam && cam ≤ 16
  | .unitReady _ cams => cams.all (fun c => 1 ≤ c && c ≤ 16)
  | .ispUnitDone _ core _ => core ≤ 1
  | .ispAbort _ core => core ≤ 1
  | .settingWrite _ cam _ => 1 ≤ cam && cam ≤ 16
  | .camLink _ cam => 1 ≤ cam && cam ≤ 16
  | .linkRetrain _ cam _ _ => 1 ≤ cam && cam ≤ 16
  | .visionRun _ cam _ => 1 ≤ cam && cam ≤ 16
  | .visDrop _ cam => 1 ≤ cam && cam ≤ 16
  | .visPair _ cam => 1 ≤ cam && cam ≤ 16
  | .cropWrite _ _ cam out field _ => 1 ≤ cam && cam ≤ 16 && out ≤ 3 && field ≤ 3
  | .ispPrioWrite _ _ cam _ => 1 ≤ cam && cam ≤ 16
  | .pocOvercurrent _ currents => currents.length = 16
  | .propTarget _ ch _ _ src _ => 1 ≤ ch && ch ≤ 32 && src ≤ 3
  | .profileStart _ ch prf _ src _ => 1 ≤ ch && ch ≤ 32 && prf ≤ 15 && src ≤ 3
  | .profileOff _ ch src _ => 1 ≤ ch && ch ≤ 32 && src ≤ 3
  | .boostRailReady _ conv rail => (conv = 1 || conv = 2) && 440 ≤ rail
  | .peakReached _ ch _ => 1 ≤ ch && ch ≤ 32
  | .peakEnd _ ch _ => 1 ≤ ch && ch ≤ 32
  | .holdEnd _ ch => 1 ≤ ch && ch ≤ 32
  | .offDone _ ch _ => 1 ≤ ch && ch ≤ 32
  | .carrierPeriod _ ch _ _ => 1 ≤ ch && ch ≤ 32
  | .vdSat _ ch => 1 ≤ ch && ch ≤ 32
  | .coilModelStep _ _ _ => true
  | .vdOpen _ ch _ => 1 ≤ ch && ch ≤ 32
  | .vdShort _ ch _ => 1 ≤ ch && ch ≤ 32
  | .vdShortRetry _ ch => 1 ≤ ch && ch ≤ 32
  | .vdShortGnd _ ch _ _ => 1 ≤ ch && ch ≤ 32
  | .vdBankOc _ bank _ => 1 ≤ bank && bank ≤ 8
  | .valveResetRelease _ ch => 1 ≤ ch && ch ≤ 32
  | .switchCommand _ ch _ src _ => 1 ≤ ch && ch ≤ 24 && src ≤ 3
  | .switchDeferredApply _ ch _ => 1 ≤ ch && ch ≤ 24
  | .lsTrip _ ch _ _ _ _ => 1 ≤ ch && ch ≤ 24
  | .retryPauseEnd _ ch => 1 ≤ ch && ch ≤ 24
  | .lsThermal _ ch _ _ => 1 ≤ ch && ch ≤ 24
  | .lsOpen _ ch _ _ => 1 ≤ ch && ch ≤ 24
  | .lsClearRequest _ _ ch _ => 1 ≤ ch && ch ≤ 24
  | .resetGraceEnd _ _ => true
  | .linkWatchdogExpire _ => true
  | .fullResetDead _ => true
  | .whActive _ _ => true
  | .whPinEdge _ pin _ _ => 1 ≤ pin && pin ≤ 8
  | .whEnChange _ _ _ => true
  | .whFreq _ pin _ _ => 1 ≤ pin && pin ≤ 8
  | .whStoreLoad _ _ => true
  | .canFrameRx _ ch _ frame => 1 ≤ ch && ch ≤ 10 && frame.data.length ≤ 64
  | .canFrameTxDone _ ch _ => 1 ≤ ch && ch ≤ 10
  | .canBusoff _ ch => 1 ≤ ch && ch ≤ 10
  | .canBusoffRecover _ ch => 1 ≤ ch && ch ≤ 10
  | .canTsmap _ => true
  | .canAddressClaim _ ch _ => 1 ≤ ch && ch ≤ 10
  | .ethLink _ port _ => 1 ≤ port && port ≤ 6
  | .gptpSync _ port => 1 ≤ port && port ≤ 6
  | .gptpAnnounce _ port => 1 ≤ port && port ≤ 6
  | .ethGmConflict _ port _ => 1 ≤ port && port ≤ 6
  | .fnpDetect _ port _ _ => 1 ≤ port && port ≤ 12
  | .fnpPwrFault _ port _ _ _ => 1 ≤ port && port ≤ 12
  | .fnpRepower _ port => 1 ≤ port && port ≤ 12
  | .fnpClear _ _ port => 1 ≤ port && port ≤ 12
  | .samples _ port bytes => 1 ≤ port && port ≤ 12 && bytes.all (· < 256)
  | .timeReq _ port => 1 ≤ port && port ≤ 12
  | .timeRep _ port bytes => 1 ≤ port && port ≤ 12 && bytes.all (· < 256)
  | .timeRepTimeout _ port => 1 ≤ port && port ≤ 12
  | .tkAnnounce _ port unit _ => 1 ≤ port && port ≤ 4 && unit ≤ 15
  | .tkLink _ port _ => 1 ≤ port && port ≤ 4
  | .tkSat _ port _ => 1 ≤ port && port ≤ 4
  | .tlsHandshake _ _ _ => true
  | .hello _ h => 1 ≤ h.carrier && h.carrier ≤ 11 && h.cls ≤ 4 && h.timeout ≤ 60 && 1 ≤ h.services.length && h.services.length ≤ 16
  | .bye _ _ msg => msg.wf
  | .keepalive _ _ msg => msg.wf
  | .sessionTimeout _ _ => true
  | .badMessage _ _ msg => msg.wf
  | .objectRead _ _ msg entries => msg.wf && 1 ≤ entries.length && entries.length ≤ 64
  | .objectWrite _ _ msg entries => msg.wf && 1 ≤ entries.length && entries.length ≤ 64
  | .nextFieldWrite _ _ _ _ _ => true
  | .oplimWrite _ _ fn index _ _ => fn < 48 && index < 16
  | .sesMaxWrite _ _ cls _ => cls ≤ 4
  | .pcContentWrite _ _ field _ => field ≤ 2
  | .eventSubscribe _ _ msg => msg.wf
  | .streamSubscribe _ _ msg _ _ => msg.wf
  | .snapshotRequest _ _ msg cam out => msg.wf && 1 ≤ cam && cam ≤ 16 && out ≤ 3
  | .e2eTimeout _ _ _ => true
  | .keySense _ _ => true
  | .hamperWrite _ _ unit _ _ _ => unit ≤ 15
  | .hmpWrite _ _ => true
  | .shadowWriteBack _ _ => true
  | .rucksackSend _ unit _ _ => 1 ≤ unit && unit ≤ 15
  | .rucksackRx _ ruck => 1 ≤ ruck.unit && ruck.unit ≤ 15
  | .ruckBad _ unit _ => 1 ≤ unit && unit ≤ 15
  | .pwrOv _ _ _ => true
  | .crankEntry _ _ _ => true
  | .pwrCrank _ _ _ _ => true
  | .pwrCrankLong _ _ => true
  | .thermosStart _ _ _ _ => true
  | .pwrSens _ sup _ => 1 ≤ sup && sup ≤ 4
  | .sensRetry _ sup => 1 ≤ sup && sup ≤ 4
  | .coreRailAdjust _ => true
  | .pwrTemp _ _ _ _ => true
  | .modeRequest _ _ _ => true
  | .modeTransitionStart _ _ => true
  | .modeChange _ _ => true
  | .workerModeNotice _ _ => true
  | .sleepEntry _ => true
  | .wake _ line _ => 1 ≤ line && line ≤ 2
  | .foregroundTest _ _ _ => true
  | .testBusy _ _ _ => true
  | .testResult _ _ _ _ _ => true
  | .modeImage _ _ => true
  | .thermosCapacityTest _ _ _ => true
  | .powerOn _ _ _ => true
  | .brownOut _ _ => true
  | .resetPin _ _ _ => true
  | .watchdog _ plane _ => plane ≤ 2
  | .lockUp _ plane => plane ≤ 2
  | .softwareReset _ _ _ _ _ => true
  | .debugReset _ => true
  | .rstEscalate _ _ => true
  | .resetRelease _ _ => true
  | .configEnd _ _ => true
  | .modeConfigFail _ => true
  | .bbRecordWrite _ stepsDone => stepsDone ≤ 3
  | .bbLost _ => true
  | .bbAnchor _ => true
  | .hoursSave _ => true
  | .seqBlockRequest _ unit _ => unit ≤ 15
  | .bbReadout _ _ unit area _ _ _ => area ≤ 2 && unit ≤ 15
  | .pcUpdate _ _ => true
  | .pcUpdateDone _ _ => true
  | .pcTempReturn _ _ => true
  | .pcClear _ _ => true
  | .begin _ _ _ => true
  | .block _ _ _ _ _ => true
  | .status _ _ => true
  | .abort _ _ => true
  | .activate _ _ _ => true
  | .updVerify _ => true
  | .updExpire _ => true
  | .flReconnect _ conn _ _ _ => conn ≤ 1
  | .telemetryPublish _ => true
  | .cartBroadcast _ => true
  | .uiStatusConvert _ ui _ => 1 ≤ ui && ui ≤ 24
  | .uiShuntReclose _ ui => 1 ≤ ui && ui ≤ 24
  | .harvestTimeSave _ => true
  | .rtcCalibration _ => true
  | .ggaSend _ slot => slot ≤ 2
  | .fnpLink _ port _ => 1 ≤ port && port ≤ 12
  | .tkLinkNotice _ port => 1 ≤ port && port ≤ 4
  | .sesConnectionClosed _ _ => true
  | .flConnectionLost _ conn => conn ≤ 1
  | .workerSafeStopReport _ unit _ => 1 ≤ unit && unit ≤ 15
  | .svcEnChange _ _ => true
  | .pcReschedule _ _ => true
  | .vbatLoss _ _ => true

end Sys2Proof
end

