-- ==== Sys2Proof/Tests/Slice0.lean ====
section
/-! SUPPORT. The author's tests: helpers that build small states, an ill-formed term for each check of WellFormed,
a few effects from the manual's tables, and a witness for the hypotheses of each statement. -/

open Sys2Proof Sys2Proof.Machine

namespace Sys2Proof.Tests

/-- Register fields set over the state after reset. -/
def w (l : List (Nat × Nat) := []) : State := State.reset.wrs l

/-- Session 1 of a class, over TCP with every service agreed, in a configured unit in a mode. -/
def wS (cls mode : Nat) (l : List (Nat × Nat) := []) : State :=
  { w ([(R.MODE_STAT_MODE, mode), (R.HMP_STAT_SOURCE, 1)] ++ l) with
    ses := { open_ := [(0, { num := 1, cls, tcp := true, agreed := agreeAll servedVersions })], nextNum := 2 } }

/-- The same session with a data ID record that protects one kind of message of a service. -/
def wP (service kind cls mode : Nat) (l : List (Nat × Nat) := []) : State :=
  let s := wS cls mode l
  { s with ses := { s.ses with cfg := { dataIds := [{ id := 9, service, kind, crcsel := 4, timeout := 100,
                                                      reaction := 0 }] } } }

/-- A pack that describes one input of class HDEN. -/
def wPack : PackS :=
  { vendor := 1, packId := 1, crop := 1, inputs := [{ cls := 1, ordinal := 0, periodMax := 2000000 }] }

/-- Binding 2 of class HDEN under an active pack that describes it. -/
def wObs (l : List (Nat × Nat) := []) (o : ObsS := {}) : State :=
  { w ([(R.OBS_STAT_PACK, 0), (R.OBS_IN_CFG_CLASS 2, 1)] ++ l) with obs := { o with packs := [(0, wPack)] } }

/-- A message of session 1 at the newest version of a service, with its header (13 Table 13.2). -/
def wB (svc kind : Nat) (payload : List Nat) (flags : Nat := 0) : MsgIn :=
  let v := ((look servedVersions svc).getD []).headD (0, 0)
  { bytes := [0x50, 0x53] ++ leBytes 2 svc ++ [v.1, v.2, kind, flags, 1, 0, 1, 0] ++ leBytes 4 payload.length ++ payload }

/-- A message of session 1 with one byte of payload. -/
def wM (svc : Nat) : MsgIn := wB svc 0 [1]

/-- A first message of a service under data ID 9, with its CHECK. -/
def wE (svc kind : Nat) : MsgIn :=
  let m := wB svc kind [9, 0, 1, 4, 0, 0, 0, 0, 1] 2
  { bytes := m.bytes.take 20 ++ leBytes 4 (crc32c m.covered) ++ m.bytes.drop 24 }

/-- Line 7, of type 1, north over 100 m, as its record spells it (08 Table 8.4). -/
def wLine : List Nat :=
  let b := [0x47, 0x4C, 0x49, 0x4E, 7, 0, 1, 0] ++ List.replicate 16 0 ++ leBytes 4 9000 ++ [2, 0, 0, 0] ++
    List.replicate 12 0 ++ leBytes 4 100000
  b ++ leBytes 4 (crc32c b)

/-- The first eight bytes of a field node's message of a TYPE (12 Table 12.10). -/
def wNode (typ : Nat) : List Nat := [0x46, 0x4E, 0x50, 0x31, typ, 1, 0, 0]

end Sys2Proof.Tests

section Checks

/- One test after the other: a theorem checked in a task of its own waits in a thread of its own. -/
set_option Elab.async false

open Sys2Proof.Tests

/-! ### Well-formedness: for each check a term it refuses, and a term of the same row that passes -/

theorem test_wf_refuses_chapter_01 : (
  [.canaryWindowEnd 0 (List.replicate 15 0), .islClock 0 0 1, .islClock 0 10 1,
    .crossingTransfer 0 0 1 true 7 1, .crossingTransfer 0 10 1 true 7 1, .islStall 0 0 1 true,
    .islStall 0 10 1 true, .fifoResync 0 0, .fifoResync 0 10, .islResyncFail 0 0, .islResyncFail 0 10,
    .islandRestart 0 0 true, .islandRestart 0 10 true] : List Instr).all (fun i => !i.wf) = true := by decide +kernel

theorem test_wf_accepts_chapter_01 : (
  [.canaryWindowEnd 0 (List.replicate 16 0), .islClock 0 1 1, .crossingTransfer 0 1 1 true 7 1,
    .islStall 0 1 1 true, .fifoResync 0 1, .islResyncFail 0 1, .islandRestart 0 1 true] : List Instr).all (fun i => i.wf) = true := by decide +kernel

theorem test_wf_refuses_chapter_02 : (
  [.spbPublish 0 48 { seq := 0, computed := 0, sps := [], ffs := [] },
    .spbPublish 0 1 { seq := 0, computed := 0, sps := List.replicate 17 0, ffs := [] },
    .spbPublish 0 1 { seq := 0, computed := 0, sps := [], ffs := List.replicate 17 0 },
    .eventArrive 0 { stamp := 0, age := 0, code := 1, island := 0, unit := 0, steps := 0 },
    .eventArrive 0 { stamp := 0, age := 0, code := 1, island := 10, unit := 0, steps := 0 },
    .eventArrive 0 { stamp := 0, age := 0, code := 1, island := 1, unit := 16, steps := 0 },
    .eventArrive 0 { stamp := 0, age := 0, code := 1, island := 1, unit := 0, steps := 0, payload := List.replicate 23 0 },
    .protWrite 0 21 1 1, .masterAccess 0 21 1 1 true 0 1, .masterAccess 0 1 22 1 true 0 1,
    .masterAccess 0 1 1 1 true 0 3, .sramScrub 0 6 1 1 none, .sramScrub 0 1 1 3 none,
    .dramSlotDecision 0 [10], .dramPrioWrite 0 1 10 1] : List Instr).all (fun i => !i.wf) = true := by decide +kernel

theorem test_wf_accepts_chapter_02 : (
  [.spbPublish 0 1 { seq := 0, computed := 0, sps := [], ffs := [] },
    .eventArrive 0 { stamp := 0, age := 0, code := 1, island := 1, unit := 0, steps := 0 },
    .protWrite 0 1 1 1, .masterAccess 0 1 1 1 true 0 1, .sramScrub 0 1 1 1 none, .dramSlotDecision 0 [0],
    .dramPrioWrite 0 1 1 1] : List Instr).all (fun i => i.wf) = true := by decide +kernel

theorem test_wf_refuses_chapter_03 : (
  [.tick 0 0, .tick 0 5, .second 0 0, .second 0 5, .whistleFrameRx 0 0 [0] 0, .whistleFrameRx 0 5 [0] 0,
    .whistleFrameRx 0 1 [256] 0, .rtReq 0 0 true, .rtReq 0 5 true, .rtRep 0 0, .rtRep 0 5, .rtRepRx 0 0 [] 0,
    .rtRepRx 0 5 [] 0, .timeStatusMessage 0 1 4, .tbWhLoss 0 0, .tbWhLoss 0 5, .whistleReturn 0 0 0,
    .whistleReturn 0 5 0, .periodicFire 0 512 0 {} [] true,
    .lnInsert 0 1 16 { instant := 0, action := 0, flags := 0, payload := 0 } (0, []), .oneshotArm 0 8192 1,
    .oneshotArm 0 1 3, .oneshotFire 0 8192] : List Instr).all (fun i => !i.wf) = true := by decide +kernel

theorem test_wf_accepts_chapter_03 : (
  [.tick 0 1, .second 0 1, .whistleFrameRx 0 1 [0] 0, .rtReq 0 1 true, .rtRep 0 1, .rtRepRx 0 1 [] 0,
    .timeStatusMessage 0 1 1, .tbWhLoss 0 1, .whistleReturn 0 1 0, .periodicFire 0 1 0 {} [] true,
    .lnInsert 0 1 1 { instant := 0, action := 0, flags := 0, payload := 0 } (0, []), .oneshotArm 0 1 1,
    .oneshotFire 0 1] : List Instr).all (fun i => i.wf) = true := by decide +kernel

theorem test_wf_refuses_chapter_04 : (
  [.obsStepOutput 0 { out := List.replicate 13 0 }, .obsSampleArrive 0 32 0 1, .sourceMissing 0 32 true,
    .offsetEstimate 0 32 0 1, .offsetInvalid 0 32] : List Instr).all (fun i => !i.wf) = true := by decide +kernel

theorem test_wf_accepts_chapter_04 : (
  [.obsStepOutput 0 { out := List.replicate 14 0 }, .obsSampleArrive 0 1 0 1, .sourceMissing 0 1 true,
    .offsetEstimate 0 1 0 1, .offsetInvalid 0 1] : List Instr).all (fun i => i.wf) = true := by decide +kernel

theorem test_wf_refuses_chapter_05 : (
  [.functionLaunch 0 48 0 [] false 0, .functionLaunch 0 1 0 [] false 5, .operatorSetpoint 0 1 48 1 1 1 true, .fnStopRequest 0 1 48,
    .fnRestartRequest 0 1 48 0 (0, []), .changeSet 0 1 48 [(0, 0)] true (0, []), .changeSet 0 1 1 [] true (0, []),
    .changeSet 0 1 1 (List.replicate 33 (0, 0)) true (0, [])] : List Instr).all (fun i => !i.wf) = true := by decide +kernel

theorem test_wf_accepts_chapter_05 : (
  [.functionLaunch 0 1 0 [] false 4, .operatorSetpoint 0 1 1 1 1 1 true, .fnStopRequest 0 1 1,
    .fnRestartRequest 0 1 1 0 (0, []), .changeSet 0 1 1 [(0, 0)] true (0, [])] : List Instr).all (fun i => i.wf) = true := by decide +kernel

theorem test_wf_refuses_chapter_06 : (
  [.loopSample 0 256 0, .loopEvaluate 0 4, .ceMismatch 0 4 1, .ceMismatch 0 1 64, .loopStateEcc 0 256 1 1,
    .loopStateEcc 0 1 3 1] : List Instr).all (fun i => !i.wf) = true := by decide +kernel

theorem test_wf_accepts_chapter_06 : (
  [.loopSample 0 1 0, .loopEvaluate 0 1, .ceMismatch 0 1 1, .loopStateEcc 0 1 1 1] : List Instr).all (fun i => i.wf) = true := by decide +kernel

theorem test_wf_refuses_chapter_07 : (
  [.channelDump 0 1024 { pli := 0, cn0 := 0 }, .channelRatesArrive 0 1024 0 0, .channelLost 0 1024,
    .gnSolution 0 { vel := List.replicate 2 0, sig := List.replicate 3 0 },
    .gnSolution 0 { vel := List.replicate 3 0, sig := List.replicate 2 0 },
    .navWord 0 { ch := 0, start := 0, check := 0, nbits := 0, bits := [0] },
    .navWord 0 { ch := 0, start := 0, check := 0, nbits := 1025, bits := [0] },
    .rtcmFrame 0 3 true { msg := 1005 }, .gnAntOpen 0 0 1, .gnAntOpen 0 3 1, .gnAntShort 0 0, .gnAntShort 0 3,
    .antRetry 0 0, .antRetry 0 3, .ggaSend 0 3] : List Instr).all (fun i => !i.wf) = true := by decide +kernel

theorem test_wf_accepts_chapter_07 : (
  [.channelDump 0 1 { pli := 0, cn0 := 0 }, .channelRatesArrive 0 1 0 0, .channelLost 0 1,
    .gnSolution 0 { vel := List.replicate 3 0, sig := List.replicate 3 0 },
    .navWord 0 { ch := 0, start := 0, check := 0, nbits := 8, bits := [0] },
    .rtcmFrame 0 1 true { msg := 1005 }, .gnAntOpen 0 1 1, .gnAntShort 0 1, .antRetry 0 1, .ggaSend 0 1] : List Instr).all (fun i => i.wf) = true := by decide +kernel

theorem test_wf_refuses_chapter_08 : (
  [.lineLoad 0 1 [256], .ticketEntry 0 1 [] 1 1,
    .ticketEntry 0 1 (List.replicate 9 0) 1 1] : List Instr).all (fun i => !i.wf) = true := by decide +kernel

theorem test_wf_accepts_chapter_08 : (
  [.lineLoad 0 1 [255], .ticketEntry 0 1 [0] 1 1] : List Instr).all (fun i => i.wf) = true := by decide +kernel

theorem test_wf_refuses_chapter_09 : (
  [.frameStart 0 0 {}, .frameStart 0 17 {}, .camMissed 0 0, .camMissed 0 17, .unitReady 0 [0],
    .unitReady 0 [17], .ispUnitDone 0 2 none, .ispAbort 0 2, .settingWrite 0 0 true,
    .settingWrite 0 17 true, .camLink 0 0, .camLink 0 17, .linkRetrain 0 0 true 1, .linkRetrain 0 17 true 1,
    .visionRun 0 0 [], .visionRun 0 17 [], .visDrop 0 0, .visDrop 0 17, .visPair 0 0, .visPair 0 17,
    .cropWrite 0 1 0 1 1 1, .cropWrite 0 1 17 1 1 1, .cropWrite 0 1 1 4 1 1, .cropWrite 0 1 1 1 4 1,
    .ispPrioWrite 0 1 0 1, .ispPrioWrite 0 1 17 1] : List Instr).all (fun i => !i.wf) = true := by decide +kernel

theorem test_wf_accepts_chapter_09 : (
  [.frameStart 0 1 {}, .camMissed 0 1, .unitReady 0 [1], .ispUnitDone 0 1 none, .ispAbort 0 1,
    .settingWrite 0 1 true, .camLink 0 1, .linkRetrain 0 1 true 1, .visionRun 0 1 [], .visDrop 0 1,
    .visPair 0 1, .cropWrite 0 1 1 1 1 1, .ispPrioWrite 0 1 1 1] : List Instr).all (fun i => i.wf) = true := by decide +kernel

theorem test_wf_refuses_chapter_10 : (
  [.propTarget 0 0 0 1 1 true, .propTarget 0 33 0 1 1 true, .propTarget 0 1 0 1 4 true,
    .profileStart 0 0 1 1 1 1, .profileStart 0 33 1 1 1 1, .profileStart 0 1 16 1 1 1,
    .profileStart 0 1 1 1 4 1, .profileOff 0 0 1 1, .profileOff 0 33 1 1, .profileOff 0 1 4 1,
    .boostRailReady 0 3 440, .boostRailReady 0 1 439, .peakReached 0 0 true, .peakReached 0 33 true,
    .peakEnd 0 0 1, .peakEnd 0 33 1, .holdEnd 0 0, .holdEnd 0 33, .offDone 0 0 1, .offDone 0 33 1,
    .carrierPeriod 0 0 1 1, .carrierPeriod 0 33 1 1, .vdSat 0 0, .vdSat 0 33, .vdOpen 0 0 1, .vdOpen 0 33 1,
    .vdShort 0 0 1, .vdShort 0 33 1, .vdShortRetry 0 0, .vdShortRetry 0 33, .vdShortGnd 0 0 1 1, .vdShortGnd 0 33 1 1,
    .vdBankOc 0 0 1, .vdBankOc 0 9 1, .valveResetRelease 0 0, .valveResetRelease 0 33] : List Instr).all (fun i => !i.wf) = true := by decide +kernel

theorem test_wf_accepts_chapter_10 : (
  [.propTarget 0 1 0 1 1 true, .profileStart 0 1 1 1 1 1, .profileOff 0 1 1 1, .boostRailReady 0 1 440,
    .peakReached 0 1 true, .peakEnd 0 1 1, .holdEnd 0 1, .offDone 0 1 1, .carrierPeriod 0 1 1 1, .vdSat 0 1,
    .vdOpen 0 1 1, .vdShort 0 1 1, .vdShortRetry 0 1, .vdShortGnd 0 1 1 1, .vdBankOc 0 1 1, .valveResetRelease 0 1] : List Instr).all (fun i => i.wf) = true := by decide +kernel

theorem test_wf_refuses_chapter_11 : (
  [.switchCommand 0 0 true 1 1, .switchCommand 0 25 true 1 1, .switchCommand 0 1 true 4 1,
    .switchDeferredApply 0 0 1, .switchDeferredApply 0 25 1, .lsTrip 0 0 1 1 1 1, .lsTrip 0 25 1 1 1 1,
    .retryPauseEnd 0 0, .retryPauseEnd 0 25, .lsThermal 0 0 0 1, .lsThermal 0 25 0 1, .lsOpen 0 0 1 1,
    .lsOpen 0 25 1 1, .lsClearRequest 0 1 0 0, .lsClearRequest 0 1 25 0, .whPinEdge 0 0 true [],
    .whPinEdge 0 9 true [], .whFreq 0 0 1 [], .whFreq 0 9 1 []] : List Instr).all (fun i => !i.wf) = true := by decide +kernel

theorem test_wf_accepts_chapter_11 : (
  [.switchCommand 0 1 true 1 1, .switchDeferredApply 0 1 1, .lsTrip 0 1 1 1 1 1, .retryPauseEnd 0 1,
    .lsThermal 0 1 0 1, .lsOpen 0 1 1 1, .lsClearRequest 0 1 1 0, .whPinEdge 0 1 true [], .whFreq 0 1 1 []] : List Instr).all (fun i => i.wf) = true := by decide +kernel

theorem test_wf_refuses_chapter_12a : (
  [.canFrameRx 0 0 1 { id := 0, ide := true, dlc := 0, data := [] },
    .canFrameRx 0 11 1 { id := 0, ide := true, dlc := 0, data := [] },
    .canFrameRx 0 1 1 { id := 0, ide := true, dlc := 0, data := List.replicate 65 0 }, .canFrameTxDone 0 0 1,
    .canFrameTxDone 0 11 1, .canBusoff 0 0, .canBusoff 0 11, .canBusoffRecover 0 0, .canBusoffRecover 0 11,
    .canAddressClaim 0 0 true, .canAddressClaim 0 11 true, .ethLink 0 0 true, .ethLink 0 7 true,
    .gptpSync 0 0, .gptpSync 0 7, .gptpAnnounce 0 0, .gptpAnnounce 0 7, .ethGmConflict 0 0 1,
    .ethGmConflict 0 7 1, .fnpDetect 0 0 true 1, .fnpDetect 0 13 true 1, .fnpPwrFault 0 0 1 1 1,
    .fnpPwrFault 0 13 1 1 1, .fnpRepower 0 0, .fnpRepower 0 13, .fnpClear 0 1 0, .fnpClear 0 1 13,
    .samples 0 0 [255],
    .samples 0 13 [255], .samples 0 1 [256], .timeReq 0 0, .timeReq 0 13,
    .timeRep 0 0 [], .timeRep 0 13 [], .timeRepTimeout 0 0, .timeRepTimeout 0 13, .tkAnnounce 0 0 1 1,
    .tkAnnounce 0 5 1 1, .tkAnnounce 0 1 16 1] : List Instr).all (fun i => !i.wf) = true := by decide +kernel

theorem test_wf_refuses_chapter_12b : (
  [.tkLink 0 0 true, .tkLink 0 5 true, .tkSat 0 0 1, .tkSat 0 5 1, .fnpLink 0 0 true, .fnpLink 0 13 true,
    .tkLinkNotice 0 0, .tkLinkNotice 0 5] : List Instr).all (fun i => !i.wf) = true := by decide +kernel

theorem test_wf_accepts_chapter_12 : (
  [.canFrameRx 0 1 1 { id := 0, ide := true, dlc := 0, data := [] }, .canFrameTxDone 0 1 1, .canBusoff 0 1,
    .canBusoffRecover 0 1, .canAddressClaim 0 1 true, .ethLink 0 1 true, .gptpSync 0 1, .gptpAnnounce 0 1,
    .ethGmConflict 0 1 1, .fnpDetect 0 1 true 1, .fnpPwrFault 0 1 1 1 1, .fnpRepower 0 1, .fnpClear 0 1 1,
    .samples 0 1 [255], .timeReq 0 1, .timeRep 0 1 [],
    .timeRepTimeout 0 1, .tkAnnounce 0 1 1 1, .tkLink 0 1 true, .tkSat 0 1 1, .fnpLink 0 1 true,
    .tkLinkNotice 0 1] : List Instr).all (fun i => i.wf) = true := by decide +kernel

theorem test_wf_refuses_chapter_13 : (
  [.hello 0 { carrier := 0, tcp := true, tls := false, peer := 0, addr := 0, certHash := 0, cls := 0, timeout := 5, services := [(0, [(1, 0)])] },
    .hello 0 { carrier := 12, tcp := true, tls := false, peer := 0, addr := 0, certHash := 0, cls := 0, timeout := 5, services := [(0, [(1, 0)])] },
    .hello 0 { carrier := 1, tcp := true, tls := false, peer := 0, addr := 0, certHash := 0, cls := 5, timeout := 5, services := [(0, [(1, 0)])] },
    .hello 0 { carrier := 1, tcp := true, tls := false, peer := 0, addr := 0, certHash := 0, cls := 0, timeout := 61, services := [(0, [(1, 0)])] },
    .hello 0 { carrier := 1, tcp := true, tls := false, peer := 0, addr := 0, certHash := 0, cls := 0, timeout := 5, services := [] },
    .hello 0 { carrier := 1, tcp := true, tls := false, peer := 0, addr := 0, certHash := 0, cls := 0, timeout := 5, services := List.replicate 17 (0, [(1, 0)]) },
    .objectRead 0 1 (wM 0) [], .objectRead 0 1 (wM 0) (List.replicate 65 { unit := 0, sub := 0, index := 0 }),
    .sesMaxWrite 0 1 5 1, .objectRead 0 1 { bytes := [256] } [{ unit := 0, sub := 0, index := 0 }],
    .objectWrite 0 1 (wM 0) [], .objectWrite 0 1 { bytes := [256] } [({ unit := 0, sub := 0, index := 0 }, 0)],
    .objectWrite 0 1 (wM 0) (List.replicate 65 ({ unit := 0, sub := 0, index := 0 }, 0)),
    .bye 0 1 { bytes := [256] }, .keepalive 0 1 { bytes := [256] }, .badMessage 0 1 { bytes := [256] },
    .eventSubscribe 0 1 { bytes := [256] }, .streamSubscribe 0 1 { bytes := [256] } 1 1,
    .snapshotRequest 0 1 { bytes := [256] } 1 1, .gateRequest 0 1 .goal { bytes := [256] },
    .snapshotRequest 0 1 (wM 0) 0 1, .snapshotRequest 0 1 (wM 0) 17 1,
    .snapshotRequest 0 1 (wM 0) 1 4] : List Instr).all (fun i => !i.wf) = true := by decide +kernel

theorem test_wf_accepts_chapter_13 : (
  [.hello 0 { carrier := 1, tcp := true, tls := false, peer := 0, addr := 0, certHash := 0, cls := 0, timeout := 5, services := [(0, [(1, 0)])] },
    .objectRead 0 1 (wM 0) [{ unit := 0, sub := 0, index := 0 }],
    .objectWrite 0 1 (wM 0) [({ unit := 0, sub := 0, index := 0 }, 0)], .bye 0 1 (wM 0), .keepalive 0 1 (wM 0),
    .badMessage 0 1 (wM 0), .eventSubscribe 0 1 (wM 0), .streamSubscribe 0 1 (wM 0) 1 1,
    .gateRequest 0 1 .goal (wM 0), .sesMaxWrite 0 1 1 1,
    .snapshotRequest 0 1 (wM 0) 1 1] : List Instr).all (fun i => i.wf) = true := by decide +kernel

/-- An image without records. -/
def wImage : ImageIn := { machineId := 1, generation := 1, recs := [] }

/-- A Rucksack of that image, for unit 0. -/
def wRuck : RuckIn :=
  { unit := 0, image := wImage, man := { version := 1, secFloor := 1, imageLen := 0, nblocks := 0, sections := [] },
    serial := 0, fwLen := 0 }

theorem test_wf_refuses_chapter_14 : (
  [.oplimWrite 0 1 48 1 true 1, .oplimWrite 0 1 1 16 true 1, .rucksackSend 0 0 1 1, .rucksackSend 0 16 1 1, .hamperWrite 0 1 16 wImage true (0, []), .rucksackRx 0 wRuck,
    .rucksackRx 0 { wRuck with unit := 16 },
    .ruckBad 0 0 1, .ruckBad 0 16 1] : List Instr).all (fun i => !i.wf) = true := by decide +kernel

theorem test_wf_accepts_chapter_14 : (
  [.oplimWrite 0 1 1 1 true 1, .rucksackSend 0 1 1 1, .hamperWrite 0 1 1 wImage true (0, []), .rucksackRx 0 { wRuck with unit := 1 }, .ruckBad 0 1 1] : List Instr).all (fun i => i.wf) = true := by decide +kernel

theorem test_wf_refuses_chapter_15 : (
  [.workerSafeStopReport 0 0 true, .workerSafeStopReport 0 16 true, .wake 0 0 true, .wake 0 3 true,
    .pwrSens 0 0 1, .pwrSens 0 5 1, .sensRetry 0 0, .sensRetry 0 5, .watchdog 0 3 1, .lockUp 0 3] : List Instr).all (fun i => !i.wf) = true := by decide +kernel

theorem test_wf_accepts_chapter_15 : (
  [.workerSafeStopReport 0 1 true, .wake 0 1 true, .pwrSens 0 1 1, .sensRetry 0 1, .watchdog 0 1 1, .lockUp 0 1] : List Instr).all (fun i => i.wf) = true := by decide +kernel

theorem test_wf_refuses_chapter_16 : (
  [.pcContentWrite 0 1 3 1, .bbRecordWrite 0 4, .seqBlockRequest 0 16 none, .bbReadout 0 1 1 3 none 1 (0, []),
    .bbReadout 0 1 16 1 none 1 (0, [])] : List Instr).all (fun i => !i.wf) = true := by decide +kernel

theorem test_wf_accepts_chapter_16 : (
  [.pcContentWrite 0 1 1 1, .bbRecordWrite 0 1, .seqBlockRequest 0 1 none, .bbReadout 0 1 1 1 none 1 (0, [])] : List Instr).all (fun i => i.wf) = true := by decide +kernel

theorem test_wf_refuses_chapter_17 : (
  [.flReconnect 0 2 .opens true true, .flConnectionLost 0 2] : List Instr).all (fun i => !i.wf) = true := by decide +kernel

theorem test_wf_accepts_chapter_17 : (
  [.flReconnect 0 1 .opens true true, .flConnectionLost 0 1] : List Instr).all (fun i => i.wf) = true := by decide +kernel

theorem test_wf_refuses_chapter_18 : (
  [.uiStatusConvert 0 0 {}, .uiStatusConvert 0 25 {}, .uiShuntReclose 0 0, .uiShuntReclose 0 25,
    .pocOvercurrent 0 (List.replicate 15 (0, 0))] : List Instr).all (fun i => !i.wf) = true := by decide +kernel

theorem test_wf_accepts_chapter_18 : (
  [.uiStatusConvert 0 1 {}, .uiShuntReclose 0 1, .pocOvercurrent 0 (List.replicate 16 (0, 0))] : List Instr).all (fun i => i.wf) = true := by decide +kernel

/-! ### The manual's own figures -/

/-- "123456789", the text of Table 13.13's check values. -/
def nineDigits : List Nat := [0x31, 0x32, 0x33, 0x34, 0x35, 0x36, 0x37, 0x38, 0x39]

theorem test_crc16_check_value : crc16 nineDigits = 0x29B1 := by decide +kernel

theorem test_crc32c_check_value : crc32c nineDigits = 0xE3069283 := by decide +kernel

/-- 06, Example: rule 1 with Ku 17.657 mA/mm and Tu 0.840 s proposes KP 10.594, KI 25.224 and KD 1.112. -/
theorem test_autotune_example :
    ((proposals 1 false (17657 / 1000) (84 / 100)).take 3).map (fun q => (q * 1000).floor) =
      [10594, 25224, 1112] := by decide +kernel

/-- 02, Example: of E1 (power stage) and E2 (CAN) with equal stamps the power stage's is released first. -/
theorem test_release_order_example :
    (firstEvent [{ stamp := 10000, code := 2, island := 6, unit := 0 },
                 { stamp := 10000, code := 1, island := 8, unit := 0 }]).map (fun e => e.code) =
      some 1 := by decide +kernel

/-- 02, Example: in slot 32 of the run the network DMA, at its limit of 32, is forced in ahead of the tensor
fabric's higher priority; the radio DMA's counter reaches 32. -/
theorem test_dram_example :
    (match exec (.dramSlotDecision 0 [3, 7, 8])
        { w [(R.ARB_CFG_WAITLIM 3, 64), (R.ARB_CFG_WAITLIM 7, 32), (R.ARB_CFG_WAITLIM 8, 64),
             (R.ARB_CFG_PRIO 3, 10), (R.ARB_CFG_PRIO 7, 8), (R.ARB_CFG_PRIO 8, 6)] with
          arb := { table := [999], slot := 0, parked := some 3, waits := [(7, 31), (8, 31)] } } with
     | .next u => decide (u.arb.parked = some 7 ∧ look u.arb.waits 8 = some 32)
     | _ => false) = true := by decide +kernel

/-- Table 13.13: the check values of the five CRCs, by CHK code. -/
theorem test_check_values :
    [1, 2, 3, 4, 5].map (fun c => checkValue c nineDigits) =
      [0x4B, 0x29B1, 0xCBF43926, 0xE3069283, 0x995DC9BBDF1939FA] := by decide +kernel

/-- The SHA-256 standard's own example: the digest of "abc". -/
theorem test_sha256_abc :
    sha256 [0x61, 0x62, 0x63] = 0xba7816bf8f01cfea414140de5dae2223b00361a396177a9cb410ff61f20015ad := by decide +kernel

/-- 16, Example: bytes 0 to 14 of the record of VD_COIL_OVERTEMP at 444,420,000 units in cycle 3,217. -/
theorem test_record_example :
    ({ pos := 0, item := { typ := 1, fault := true, payload := List.replicate 40 0 }, seqForm := false,
       stampA := 444420000, stampB := 3217 } : BbRec).sent.take 15 =
      [0xB7, 0x01, 0x80, 0x28, 0x00, 0xA0, 0x4F, 0x7D, 0x1A, 0, 0, 0x91, 0x0C, 0, 0] := by decide +kernel

/-- 16, Example: its trouble code on CAN01 is SPN 521738 with FMI 31. -/
theorem test_spn_example :
    ({ w [] with bb := { dtc := [(0x700A, [])] } }.troubleCodes.map (fun (p : Nat × Nat × Nat) => (p.1, p.2.1))) = [(521738, 31)] := by
  decide +kernel

/-! ### Witnesses of the statements' hypotheses -/

theorem test_meets_LateEventsLeaveAtOnce : (
    (fun (t : Nat) (ev : EventIn) (p : Nat × SessionS) (s : State) => decide (50000 < ev.age ∧ ev.age ≤ max
      s.now t ∧ p ∈ s.ses.open_ ∧ p.2.events = true ∧ queueBytes p.2.outq + 56 ≤ 262144 ∧ (ev.unit = s.role.unit ∨
      s.isWorker = false) ∧ Room s))
      100000 { stamp := 5, age := 50001, code := 0x2004, island := 4, unit := 1, steps := 0, payload := [1, 2] } (0, { num := 1, cls := 3, tcp := true, events := true }) ({ wS 3 5 with ses := { open_ := [(0, { num := 1, cls := 3, tcp := true, events := true })], nextNum := 2 } }) &&
    (fun (t : Nat) (ev : EventIn) (p : Nat × SessionS) (s : State) => decide (50000 < ev.age ∧ ev.age ≤ max
      s.now t ∧ p ∈ s.ses.open_ ∧ p.2.events = true ∧ queueBytes p.2.outq + 56 ≤ 262144 ∧ (ev.unit = s.role.unit ∨
      s.isWorker = false) ∧ Room s))
      100000 { stamp := 5, age := 50001, code := 0x3040, island := 4, unit := 1, steps := 0, payload := [27, 4] } (0, { num := 1, cls := 3, tcp := true, events := true }) ({ wS 3 5 with ses := { open_ := [(0, { num := 1, cls := 3, tcp := true, events := true })], nextNum := 2 } }) &&
    (fun (t : Nat) (ev : EventIn) (s : State) => decide (ev.age = 50000 ∧ 50000 ≤ max s.now t ∧ (ev.unit =
      s.role.unit ∨ s.isWorker = false) ∧ Room s))
      100000 { stamp := 5, age := 50000, code := 0x2004, island := 4, unit := 1, steps := 0, payload := [1, 2] } ({ wS 3 5 with ses := { open_ := [(0, { num := 1, cls := 3, tcp := true, events := true })], nextNum := 2 } })) = true := by decide +kernel

theorem test_meets_SwitchedOffIslandAnswersAtOnce : (
    (fun (_t : Nat) (isl : Nat) (_req : Nat) (_data : Nat) (_k : Nat) (_d : Bool) (s : State) => decide (1 ≤ isl
      ∧ isl ≤ 9 ∧ s.islandPowered isl = false))
      0 3 5 7 1 true (w [(R.MODE_STAT_MODE, 1)]) &&
    (fun (_t : Nat) (isl : Nat) (_req : Nat) (_data : Nat) (_k : Nat) (_d : Bool) (s : State) => decide (1 ≤ isl
      ∧ isl ≤ 9 ∧ s.islandPowered isl = false))
      0 9 5 7 0 false (w [(R.ISL_STAT_HELD 9, 1)])) = true := by decide +kernel

theorem test_meets_DiscardedEntriesAreCountedAndFailed : (
    (fun (_t : Nat) (isl : Nat) (s : State) => decide (1 ≤ isl ∧ isl ≤ 9 ∧ s.rd (R.ISL_STAT_HELD isl) ≠ 1 ∧
      s.rst.held = false ∧ s.islandPowered isl = true))
      0 4 ({ w [(R.MODE_STAT_MODE, 6), (R.ISL_STAT_DROPS 4, 254)] with rst := { held := false } }.setIsland 4 { toIsl := [{ who := some 3 }, { who := none }], toCore := [{ who := some 5 }], waiting := [(true, { who := some 7 })] }) &&
    (fun (_t : Nat) (isl : Nat) (s : State) => decide (1 ≤ isl ∧ isl ≤ 9 ∧ s.rd (R.ISL_STAT_HELD isl) ≠ 1 ∧
      s.rst.held = false ∧ s.islandPowered isl = true))
      0 2 ({ w [(R.MODE_STAT_MODE, 6), (R.ISL_STAT_CLKOK 2, 0)] with rst := { held := false } }.setIsland 2 { toCore := [{ who := some 3 }] })) = true := by decide +kernel

theorem test_meets_FailedResyncStopsTheIsland : (
    (fun (_t : Nat) (_t2 : Nat) (isl : Nat) (_req : Nat) (_data : Nat) (_k : Nat) (_d : Bool) (s : State) =>
      decide (1 ≤ isl ∧ isl ≤ 9 ∧ s.islandPowered isl = true ∧ s.rd (R.ISL_STAT_RESYNC isl) = 1 ∧ s.rd
      (R.ISL_STAT_RUN isl) ≠ 0 ∧ Room s))
      0 9 8 4 7 1 true { w [(R.ISL_STAT_RESYNC 8, 1), (R.MODE_STAT_MODE, 2)] with rst := { held := false } } &&
    (fun (_t : Nat) (_t2 : Nat) (isl : Nat) (_req : Nat) (_data : Nat) (_k : Nat) (_d : Bool) (s : State) =>
      decide (1 ≤ isl ∧ isl ≤ 9 ∧ s.islandPowered isl = true ∧ s.rd (R.ISL_STAT_RESYNC isl) = 1 ∧ s.rd
      (R.ISL_STAT_RUN isl) ≠ 0 ∧ Room s))
      0 9 4 4 7 1 true { w [(R.ISL_STAT_RESYNC 4, 1), (R.MODE_STAT_MODE, 6)] with rst := { held := false } }) = true := by decide +kernel

theorem test_meets_BadWhistleFramesCountAsMissing : (
    (fun (_t : Nat) (p : Nat) (bytes : List Nat) (marker : Int) (m : Int) (s : State) => decide (s.isWorker =
      true ∧ (s.wh p).lastMarker = some m ∧ m + ((s.wh p).missing + 1) * 1000000 ≤ marker + 500000 ∧ marker +
      500000 < m + ((s.wh p).missing + 2) * 1000000 ∧ 1 ≤ p ∧ p ≤ 4 ∧ s.rd (R.TB_WH_ROLE p) = 1 ∧ bytes.length =
      16 ∧ bytes.headD 0 < 256 ∧ (leValue (bytes.drop 14) ≠ crc16 (bytes.take 14) ∨ bytes.headD 0 % 16 = 0 ∨ 4 <
      bytes.headD 0 % 16 ∨ 128 ≤ bytes.headD 0)))
      10 1 ((whistleFrame 3 0 7 1000000 0).take 15 ++ [0]) 1000065 0 ({ w [(R.TB_WH_ROLE 1, 1)] with role := { role := 1, unit := 2 } }.setWh 1 { lastMarker := some 0 }) &&
    (fun (_t : Nat) (p : Nat) (bytes : List Nat) (marker : Int) (m : Int) (s : State) => decide (s.isWorker =
      true ∧ (s.wh p).lastMarker = some m ∧ m + ((s.wh p).missing + 1) * 1000000 ≤ marker + 500000 ∧ marker +
      500000 < m + ((s.wh p).missing + 2) * 1000000 ∧ 1 ≤ p ∧ p ≤ 4 ∧ s.rd (R.TB_WH_ROLE p) = 1 ∧ bytes.length =
      16 ∧ bytes.headD 0 < 256 ∧ (leValue (bytes.drop 14) ≠ crc16 (bytes.take 14) ∨ bytes.headD 0 % 16 = 0 ∨ 4 <
      bytes.headD 0 % 16 ∨ 128 ≤ bytes.headD 0)))
      10 1 (List.replicate 16 0) 1000065 0 ({ w [(R.TB_WH_ROLE 1, 1)] with role := { role := 1, unit := 2 } }.setWh 1 { lastMarker := some 0 }) &&
    (fun (_t : Nat) (p : Nat) (bytes : List Nat) (marker : Int) (m : Int) (s : State) => decide (s.isWorker =
      true ∧ (s.wh p).lastMarker = some m ∧ m + ((s.wh p).missing + 1) * 1000000 ≤ marker + 500000 ∧ marker +
      500000 < m + ((s.wh p).missing + 2) * 1000000 ∧ 1 ≤ p ∧ p ≤ 4 ∧ s.rd (R.TB_WH_ROLE p) = 1 ∧ bytes.length =
      16 ∧ bytes.headD 0 < 256 ∧ (leValue (bytes.drop 14) ≠ crc16 (bytes.take 14) ∨ bytes.headD 0 % 16 = 0 ∨ 4 <
      bytes.headD 0 % 16 ∨ 128 ≤ bytes.headD 0)))
      10 1 (whistleFrame 5 0 7 1000000 0) 1000065 0 ({ w [(R.TB_WH_ROLE 1, 1)] with role := { role := 1, unit := 2 } }.setWh 1 { lastMarker := some 0 }) &&
    (fun (_t : Nat) (p : Nat) (bytes : List Nat) (marker : Int) (m : Int) (s : State) => decide (s.isWorker =
      true ∧ (s.wh p).lastMarker = some m ∧ m + ((s.wh p).missing + 1) * 1000000 ≤ marker + 500000 ∧ marker +
      500000 < m + ((s.wh p).missing + 2) * 1000000 ∧ 1 ≤ p ∧ p ≤ 4 ∧ s.rd (R.TB_WH_ROLE p) = 1 ∧ bytes.length =
      16 ∧ bytes.headD 0 < 256 ∧ (leValue (bytes.drop 14) ≠ crc16 (bytes.take 14) ∨ bytes.headD 0 % 16 = 0 ∨ 4 <
      bytes.headD 0 % 16 ∨ 128 ≤ bytes.headD 0)))
      10 1 (whistleFrame 1 8 7 1000000 0) 1000065 0 ({ w [(R.TB_WH_ROLE 1, 1)] with role := { role := 1, unit := 2 } }.setWh 1 { lastMarker := some 0 })) = true := by decide +kernel

theorem test_meets_OpenLoadIsShownAndLogged : (
    (fun (_t : Nat) (ch : Nat) (cur : Nat) (held : Nat) (s : State) => decide (1 ≤ ch ∧ ch ≤ 24 ∧ 100000000 ≤
      held ∧ (s.sw ch).out = true ∧ s.rd (R.LS_STAT_OPEN ch) ≠ 1 ∧ cur < s.rd (R.LS_CFG_OPEN_I ch)))
      0 3 9 100000000 { w [(R.LS_CFG_OPEN_I 3, 10)] with ls := { ch := [(3, { out := true })], dead := false } } &&
    (fun (_t : Nat) (ch : Nat) (cur : Nat) (held : Nat) (s : State) => decide (1 ≤ ch ∧ ch ≤ 24 ∧ 100000000 ≤
      held ∧ (s.sw ch).out = true ∧ s.rd (R.LS_STAT_OPEN ch) ≠ 1 ∧ cur < s.rd (R.LS_CFG_OPEN_I ch)))
      0 3 9 100000000 { w [(R.LS_CFG_OPEN_I 3, 10)] with ls := { ch := [(3, { out := true })], dead := true } } &&
    (fun (_t : Nat) (ch : Nat) (cur : Nat) (held : Nat) (s : State) => decide (1 ≤ ch ∧ ch ≤ 24 ∧ 100000000 ≤
      held ∧ s.rd (R.LS_CFG_OPEN_I ch) ≤ cur))
      0 24 10 100000000 (w [(R.LS_CFG_OPEN_I 24, 10), (R.LS_STAT_OPEN 24, 1)])) = true := by decide +kernel

theorem test_meets_LoweredMaxEvictsNoSession : (
    (fun (_t : Nat) (n : Nat) (c : Nat) (v : Nat) (s : State) => decide (n ≠ 0 ∧ s.ses.open_.any (fun p =>
      p.2.num = n) = true ∧ s.turn n (.live (R.SES_CLASS_CFG_MAX c)) = true ∧ s.mayLive n (R.SES_CLASS_CFG_MAX c)
      = true ∧ c ≤ 4 ∧ s.served = true ∧ s.rd (R.SES_CLASS_CFG_RESERVE c) ≤ v ∧ v ≤ 255 ∧ s.amend.length < 256))
      0 1 3 0 (wS 3 6 [(R.SES_CLASS_CFG_RESERVE 3, 0)]) &&
    (fun (_t : Nat) (h : HelloIn) (s : State) => decide (s.hmp.waitRuck = false ∧ carries h = true ∧ (h.carrier
      ≠ 11 ∨ s.pwr.svc = true) ∧ s.helloAgain h = none ∧ s.rd R.HMP_STAT_SOURCE ≠ 0 ∧ h.services.any (fun p => p.1
      = 1 && (agreeVersion p.1 p.2).isNone) = false ∧ (agreeAll h.services).isEmpty = false ∧ (s.mode ≠
      Mode.WALK_HOME ∨ grantClass (s.limitsFor h) h.cls = 0) ∧ s.rd (R.SES_CLASS_CFG_MAX (grantClass (s.limitsFor
      h) h.cls)) ≤ s.classCount (grantClass (s.limitsFor h) h.cls)))
      0 { carrier := 1, tcp := true, tls := false, peer := 0, addr := 0, certHash := 0, cls := 2, timeout := 0, services := [(1, [(1, 4)]), (32, [(4, 0)])] } (wS 1 6 [(R.SES_CLASS_CFG_MAX 2, 0)]) &&
    (fun (_t : Nat) (k : Nat) (h : HelloIn) (s : State) => decide (s.hmp.waitRuck = false ∧ carries h = true ∧
      (h.carrier ≠ 11 ∨ s.pwr.svc = true) ∧ s.helloAgain h = none ∧ s.rd R.HMP_STAT_SOURCE ≠ 0 ∧ h.services.any
      (fun p => p.1 = 1 && (agreeVersion p.1 p.2).isNone) = false ∧ (agreeAll h.services).isEmpty = false ∧
      (s.mode ≠ Mode.WALK_HOME ∨ grantClass (s.limitsFor h) h.cls = 0) ∧ ((List.range 256).find? (fun (x : Nat) =>
      (look s.ses.open_ x).isNone)) = some k ∧ s.ses.open_.length < 256 ∧ s.classCount (grantClass (s.limitsFor h)
      h.cls) < s.rd (R.SES_CLASS_CFG_MAX (grantClass (s.limitsFor h) h.cls))))
      0 1 { carrier := 1, tcp := true, tls := false, peer := 0, addr := 0, certHash := 0, cls := 2, timeout := 0, services := [(1, [(1, 4)]), (32, [(4, 0)])] } (wS 1 6 [(R.SES_CLASS_CFG_MAX 2, 1)])) = true := by decide +kernel

theorem test_meets_DramWinnerFollowsTheTable : (
    (fun (_t : Nat) (l : List Nat) (_s : State) => decide (l ≠ [] ∧ l.Nodup ∧ ((∀ q ∈ l, q ≤ 9))))
      0 [3, 5] { w [(R.ARB_CFG_WAITLIM 3, 32), (R.ARB_CFG_WAITLIM 5, 32), (R.ARB_CFG_PRIO 5, 9)] with arb := { table := [999], slot := 0 } } &&
    (fun (_t : Nat) (l : List Nat) (_s : State) => decide (l ≠ [] ∧ l.Nodup ∧ ((∀ q ∈ l, q ≤ 9))))
      0 [3, 5] { w [(R.ARB_CFG_WAITLIM 3, 32), (R.ARB_CFG_WAITLIM 5, 1), (R.ARB_CFG_PRIO 5, 9)] with arb := { table := [3], slot := 7 } } &&
    (fun (_t : Nat) (l : List Nat) (_s : State) => decide (l ≠ [] ∧ l.Nodup ∧ ((∀ q ∈ l, q ≤ 9))))
      0 [3, 5] { w [(R.ARB_CFG_WAITLIM 3, 32), (R.ARB_CFG_WAITLIM 5, 32), (R.ARB_CFG_PRIO 5, 9)] with arb := { table := [999, 5], slot := 2, parked := some 3 } }) = true := by decide +kernel

theorem test_meets_FunctionRequestsWaitTheirTurn : (
    (fun (_t : Nat) (n : Nat) (f : Nat) (s : State) => decide (n ≠ 0 ∧ s.fnBusy f = true ∧ s.ses.gate.length <
      64))
      0 1 5 { w [(R.MODE_STAT_MODE, 6)] with fn := [(5, { changeSet := true })], ses := { open_ := [(0, { num := 1, cls := 3 })], gate := [{ kind := .fnStop 5, session := 1 }] } } &&
    (fun (_t : Nat) (n : Nat) (f : Nat) (s : State) => decide (n ≠ 0 ∧ s.fnBusy f = true ∧ s.ses.gate.length <
      64))
      0 1 5 { w [(R.MODE_STAT_MODE, 6)] with fn := [(5, { asked := true })], ses := { open_ := [(0, { num := 1, cls := 3 })], gate := [{ kind := .fnStop 5, session := 1 }] } } &&
    (fun (_t : Nat) (n : Nat) (f : Nat) (s : State) => decide (n ≠ 0 ∧ s.fnBusy f = true ∧ s.ses.gate.length <
      64))
      0 2 5 { w [(R.MODE_STAT_MODE, 6)] with fn := [(5, { asked := true })], ses := { open_ := [(0, { num := 1, cls := 3 })], gate := [{ kind := .fnStop 5, session := 1 }] } } &&
    (fun (_t : Nat) (n : Nat) (f : Nat) (_tj : Int) (_rr : Nat × List Int) (s : State) => decide (n ≠ 0 ∧
      s.fnBusy f = true ∧ s.ses.gate.length < 64))
      0 1 5 0 (0, []) { w [(R.MODE_STAT_MODE, 6)] with fn := [(5, { changeSet := true })], ses := { open_ := [(0, { num := 1, cls := 3 })], gate := [{ kind := .fnStop 5, session := 1 }] } } &&
    (fun (_t : Nat) (n : Nat) (f : Nat) (_ws : List (Nat × Nat)) (_r : Bool) (_rr : Nat × List Int) (s : State)
      => decide (n ≠ 0 ∧ s.fnBusy f = true ∧ s.ses.gate.length < 64))
      0 1 5 [(1, 2)] true (0, []) { w [(R.MODE_STAT_MODE, 6)] with fn := [(5, { asked := true })], ses := { open_ := [(0, { num := 1, cls := 3 })], gate := [{ kind := .fnStop 5, session := 1 }] } } &&
    (fun (_t : Nat) (n : Nat) (_tj : Int) (_rr : Nat × List Int) (s : State) => decide (n ≠ 0 ∧ s.fnBusy 27 =
      true ∧ s.ses.gate.length < 64))
      0 1 0 (0, []) { w [(R.MODE_STAT_MODE, 6)] with fn := [(27, { asked := true })], ses := { open_ := [(0, { num := 1, cls := 3 })], gate := [{ kind := .fnStop 27, session := 1 }] } } &&
    (fun (_t : Nat) (n : Nat) (f : Nat) (g : Nat) (s : State) => decide (n ≠ 0 ∧ s.ses.open_.any (fun p =>
      p.2.num = n) = true ∧ s.classAtLeast n 1 = true ∧ s.turn n (.fnStop f) = true ∧ g ≠ f ∧ s.fnBusy g = true ∧
      f < 48 ∧ f ≠ 27 ∧ s.fnMine f = true ∧ (s.fnS f).running = true ∧ (s.loopsOf f).length ≤ 32 ∧ Room s))
      0 1 5 6 { (wS 1 6 [(R.FN_CFG_PATH 5, 1)]) with fn := [(5, { running := true, causes := [] }), (6, { asked := true })] } &&
    (fun (_t : Nat) (n : Nat) (f : Nat) (_tj : Int) (_rr : Nat × List Int) (s : State) => decide (n ≠ 0 ∧
      s.ses.open_.any (fun p => p.2.num = n) = true ∧ s.classAtLeast n 2 = true ∧ s.turn n (.fnRestart f) = true ∧
      f < 48 ∧ f ∉ [8, 27, 29] ∧ s.fnMine f = true ∧ s.rd (R.FN_CFG_PATH f) ∈ [1, 3] ∧ s.tunedLoop f = none ∧
      s.pathBlocks f = none ∧ (s.fnS f).running = false))
      0 1 5 0 (0, []) ((wS 2 6 [(R.FN_CFG_PATH 5, 1), (R.FN_CFG_CHAN 5, 3)]).setFn 5 { causes := [1, 4] }) &&
    (fun (_t : Nat) (n : Nat) (f : Nat) (k : Nat) (v : Nat) (_r : Bool) (_rr : Nat × List Int) (s : State) =>
      decide (n ≠ 0 ∧ s.ses.open_.any (fun p => p.2.num = n) = true ∧ s.classAtLeast n 3 = true ∧ s.turn n
      (.changeSet f) = true ∧ s.rd (R.FN_CFG_UNIT f) = s.role.unit ∧ f < 48 ∧ s.fnMine f = true ∧ s.tunedLoop f =
      none ∧ s.firstBad f [(k, v)] = none ∧ s.amend.length < 256 ∧ (s.fnS f).running = false))
      0 1 5 (R.FN_CFG_STALE 5) 3 true (0, []) (wS 3 6 [(R.FN_CFG_PATH 5, 1)]) &&
    (fun (t : Nat) (f : Nat) (instant : Int) (a : Int) (_rs : List (Nat × Nat)) (_wm : Bool) (_ds : Nat) (s :
      State) => decide (f < 48 ∧ f ∉ [8, 27, 29] ∧ s.rd (R.FN_CFG_PATH f) ∈ [1, 2] ∧ s.rd (R.FN_CFG_UNIT f) =
      s.role.unit ∧ (s.fnS f).restartAt = some a ∧ a ≤ instant ∧ (s.begin t).launches (s.rd (R.FN_CFG_LAUNCH_PG
      f)) instant ((s.fnS f).lastLaunch.map (fun (l : Int) => (l, (s.fnS f).launchSteps))) = true ∧ s.dueSlots
      (fun (e : SlotS) => actClass e.action = 1 && actTarget e.action / 16 = f && e.instant ≤ instant) = []))
      2000000 5 2000000 1000000 [] false 4 { w [(R.LN_PG_CFG_EN 9, 1), (R.LN_PG_PERIOD 9, 2000000), (R.FN_CFG_LAUNCH_PG 5, 9), (R.FN_CFG_PATH 5, 1), (R.MODE_STAT_MODE, 6)] with ln := { running := true }, fn := [(5, { restartAt := some 1000000, changeSet := true, asked := true })] }) = true := by decide +kernel

theorem test_meets_EmptyQueueIdles : State.reset.pending = [] := by decide

theorem test_meets_StepKeepsBounded :
    State.reset.mirror.window.length ≤ 4096 ∧ State.reset.mem = [] ∧ State.reset.ses.gate = [] ∧
      (match step { State.reset with pending := [.bbAnchor 5] } with
       | .next _ => true
       | _ => false) = true := by decide +kernel

theorem test_meets_CommandsLeaveQueueAndTimeInOrder :
    (match exec (.watchdog 5 1 500000000) (w [(R.MODE_STAT_MODE, 6)]) with
     | .next _ => true
     | _ => false) = true := by decide +kernel

theorem test_meets_OnlyAnAbsentAddressStops :
    (match exec (.masterAccess 0 0 0 6291456 true 7 0) (w []) with
     | .fault f => decide (f = .noSuchAddress 0 6291456)
     | _ => false) = true := by decide +kernel

theorem test_meets_MemoryHoldsWhatAMasterWrote_1 :
    Memory.wf (w []).mem ∧ (w []).mayAccess 0 0 true = true ∧ 6291455 < (w []).regionSize 0 := by decide +kernel

theorem test_meets_MemoryHoldsWhatAMasterWrote_2 :
    (match exec (.vbatLoss 9 2999) { w [(R.MODE_STAT_MODE, 0)] with mem := [(5, 1), (20 * 2 ^ 40 + 3, 7)] } with
     | .next u => decide (u.mem = [(5, 1)])
     | _ => false) = true := by decide +kernel

theorem test_meets_MemoryHoldsWhatAMasterWrote_3 : Part.mem ∉ touched (.bbAnchor 5) := by decide

theorem test_meets_FramesOfPlanesAndTime :
    chapterOf (.ppsEdge 5) ∈ ([1, 2, 3] : List Nat) ∧
      (match exec (.ppsEdge 5) (w []) with
       | .next _ => true
       | _ => false) = true := by decide +kernel

theorem test_meets_FramesOfObserverFunctionsEngines :
    chapterOf (.sourceMissing 5 0 true) ∈ ([4, 5, 6] : List Nat) ∧
      (match exec (.sourceMissing 5 0 true) (w []) with
       | .next _ => true
       | _ => false) = true := by decide +kernel

theorem test_meets_FramesOfPositionAndCameras :
    chapterOf (.retentionWrite 5) ∈ ([7, 8, 9] : List Nat) ∧
      (match exec (.retentionWrite 5) (w []) with
       | .next _ => true
       | _ => false) = true := by decide +kernel

theorem test_meets_FramesOfPowerStage :
    chapterOf (.offDone 5 1 0) ∈ ([10, 11] : List Nat) ∧
      (match exec (.offDone 5 1 0) (w []) with
       | .next _ => true
       | _ => false) = true := by decide +kernel

theorem test_meets_FramesOfLinksAndSessions :
    chapterOf (.keepalive 5 1 (wM 1)) ∈ ([12, 13] : List Nat) ∧
      (match exec (.keepalive 5 1 (wM 1)) (w []) with
       | .next _ => true
       | _ => false) = true := by decide +kernel

theorem test_meets_FramesOfConfigurationAndModes :
    chapterOf (.coreRailAdjust 5) ∈ ([14, 15] : List Nat) ∧
      (match exec (.coreRailAdjust 5) (w []) with
       | .next _ => true
       | _ => false) = true := by decide +kernel

theorem test_meets_FramesOfRecordsAndUpdate :
    chapterOf (.bbAnchor 5) ∈ ([16, 17, 18] : List Nat) ∧
      (match exec (.bbAnchor 5) (w []) with
       | .next _ => true
       | _ => false) = true := by decide +kernel

theorem test_meets_PaceAndCrossingsComplete_1 : (
    (fun (_t : Nat) (laps : List Nat) (_s : State) => decide (((∀ r ∈ List.range 16, laps.getD r 0 ≠ 0))))
      0 (List.replicate 16 1500) (w) &&
    (fun (_t : Nat) (laps : List Nat) (_s : State) => decide (((∀ r ∈ List.range 16, laps.getD r 0 ≠ 0))))
      0 (List.replicate 16 900) (w) &&
    (fun (_t : Nat) (isl : Nat) (_edges : Nat) (s : State) => decide (1 ≤ isl ∧ isl ≤ 9 ∧ Room s))
      0 2 250 (w) &&
    (fun (_t : Nat) (isl : Nat) (_edges : Nat) (s : State) => decide (1 ≤ isl ∧ isl ≤ 9 ∧ Room s))
      0 1 3520 (w) &&
    (fun (_t : Nat) (isl : Nat) (_edges : Nat) (s : State) => decide (1 ≤ isl ∧ isl ≤ 9 ∧ Room s))
      0 9 0 (w) &&
    (fun (_t : Nat) (isl : Nat) (_req : Nat) (_data : Nat) (reads : Nat) (toIsland : Bool) (s : State) => decide
      (1 ≤ isl ∧ isl ≤ 9 ∧ s.islandPowered isl = true ∧ s.rd (R.ISL_STAT_RUN isl) ≠ 0 ∧ s.rd (R.ISL_STAT_HELD isl)
      = 0 ∧ (s.island isl).refusing = false ∧ s.rd (R.ISL_STAT_RESYNC isl) = 0 ∧ (s.island isl).needSync = false ∧
      (s.island isl).fifo toIsland = [] ∧ (s.island isl).waitingOf toIsland = [] ∧ reads ≠ 0))
      0 2 5 77 1 true (({ w [(R.MODE_STAT_MODE, 4)] with rst := { held := false } } : State).setIsland 2 { toCore := [{ who := none }] }) &&
    (fun (_t : Nat) (isl : Nat) (_req : Nat) (_data : Nat) (toIsland : Bool) (s : State) => decide (1 ≤ isl ∧
      isl ≤ 9 ∧ s.islandPowered isl = true ∧ s.rd (R.ISL_STAT_RUN isl) ≠ 0 ∧ s.rd (R.ISL_STAT_HELD isl) = 0 ∧
      (s.island isl).refusing = false ∧ s.rd (R.ISL_STAT_RESYNC isl) = 0 ∧ (s.island isl).needSync = false ∧
      (s.island isl).waitingOf toIsland = []))
      0 2 5 7 true (({ w [(R.MODE_STAT_MODE, 4)] with rst := { held := false } } : State).setIsland 2 {}) &&
    (fun (_t : Nat) (isl : Nat) (_req : Nat) (_data : Nat) (toIsland : Bool) (s : State) => decide (1 ≤ isl ∧
      isl ≤ 9 ∧ s.islandPowered isl = true ∧ s.rd (R.ISL_STAT_RUN isl) ≠ 0 ∧ s.rd (R.ISL_STAT_HELD isl) = 0 ∧
      (s.island isl).refusing = false ∧ s.rd (R.ISL_STAT_RESYNC isl) = 0 ∧ (s.island isl).needSync = false ∧
      (s.island isl).waitingOf toIsland = []))
      0 2 5 7 false (({ w [(R.MODE_STAT_MODE, 4)] with rst := { held := false } } : State).setIsland 2 { toCore := List.replicate 16 { who := some 1 } }) &&
    (fun (_t : Nat) (isl : Nat) (_req : Nat) (_data : Nat) (_reads : Nat) (_toIsland : Bool) (s : State) =>
      decide (1 ≤ isl ∧ isl ≤ 9 ∧ (s.islandPowered isl = false ∨ (s.rd (R.ISL_STAT_RUN isl) = 0 ∧ s.rd
      (R.ISL_STAT_HELD isl) = 0)) ∧ Room s))
      0 2 5 7 0 true (w [(R.ISL_STAT_RUN 2, 0)]) &&
    (fun (_t : Nat) (isl : Nat) (_req : Nat) (_data : Nat) (_reads : Nat) (_toIsland : Bool) (s : State) =>
      decide (1 ≤ isl ∧ isl ≤ 9 ∧ (s.islandPowered isl = false ∨ (s.rd (R.ISL_STAT_RUN isl) = 0 ∧ s.rd
      (R.ISL_STAT_HELD isl) = 0)) ∧ Room s))
      0 4 5 7 1 true (w) &&
    (fun (_t : Nat) (isl : Nat) (_req : Nat) (_data : Nat) (_reads : Nat) (_toIsland : Bool) (s : State) =>
      decide (1 ≤ isl ∧ isl ≤ 9 ∧ s.islandPowered isl = true ∧ s.rd (R.ISL_STAT_RUN isl) ≠ 0 ∧ (s.island
      isl).refusing = true))
      0 2 5 7 1 true (({ w [(R.MODE_STAT_MODE, 4)] with rst := { held := false } } : State).setIsland 2 { refusing := true }) &&
    (fun (_t : Nat) (isl : Nat) (req : Nat) (toIsland : Bool) (s : State) => decide (1 ≤ isl ∧ isl ≤ 9 ∧
      (((s.island isl).fifo toIsland).any (fun x => x.who = some req) = true ∨ ((s.island isl).waitingOf
      toIsland).any (fun x => x.who = some req) = true)))
      0 7 5 true ((w).setIsland 7 { toIsl := [{ who := some 4 }, { who := some 5 }] })) = true := by decide +kernel

theorem test_meets_PaceAndCrossingsComplete_2 : (
    (fun (_t : Nat) (isl : Nat) (req : Nat) (toIsland : Bool) (s : State) => decide (1 ≤ isl ∧ isl ≤ 9 ∧
      (((s.island isl).fifo toIsland).any (fun x => x.who = some req) = true ∨ ((s.island isl).waitingOf
      toIsland).any (fun x => x.who = some req) = true)))
      0 2 5 false ((w).setIsland 2 { waiting := [(false, { who := some 5 })] }) &&
    (fun (_t : Nat) (isl : Nat) (req : Nat) (toIsland : Bool) (s : State) => decide (1 ≤ isl ∧ isl ≤ 9 ∧
      (((s.island isl).fifo toIsland).any (fun x => x.who = some req) = true ∨ ((s.island isl).waitingOf
      toIsland).any (fun x => x.who = some req) = true)))
      0 4 5 false ((w).setIsland 4 { waiting := [(false, { who := some 5 })] }) &&
    (fun (_t : Nat) (isl : Nat) (s : State) => decide (1 ≤ isl ∧ isl ≤ 9 ∧ s.rd (R.ISL_STAT_HELD isl) = 0 ∧
      s.rst.held = false ∧ s.islandPowered isl = true ∧ s.rd (R.ISL_STAT_CLKOK isl) = 1))
      0 7 (({ w [(R.MODE_STAT_MODE, 6)] with rst := { held := false } } : State).setIsland 7 { toIsl := [{ who := some 4 }, { who := none }], waiting := [(true, { who := some 6 }), (false, { who := some 6 })], needSync := true }) &&
    (fun (_t : Nat) (isl : Nat) (s : State) => decide (1 ≤ isl ∧ isl ≤ 9 ∧ s.rd (R.ISL_STAT_HELD isl) = 0 ∧
      s.rst.held = false ∧ s.islandPowered isl = true ∧ s.rd (R.ISL_STAT_CLKOK isl) = 1))
      0 9 ({ w [(R.MODE_STAT_MODE, 6)] with rst := { held := false } }) &&
    (fun (_t : Nat) (isl : Nat) (s : State) => decide (1 ≤ isl ∧ isl ≤ 9 ∧ s.rd (R.ISL_STAT_HELD isl) = 0 ∧
      s.rst.held = false ∧ s.islandPowered isl = true ∧ s.rd (R.ISL_STAT_CLKOK isl) = 1))
      0 6 ({ w [(R.MODE_STAT_MODE, 6)] with rst := { held := false } }) &&
    (fun (_t : Nat) (isl : Nat) (s : State) => decide (1 ≤ isl ∧ isl ≤ 9 ∧ s.rd (R.ISL_STAT_HELD isl) = 0 ∧
      s.rst.held = false ∧ s.islandPowered isl = true ∧ s.rd (R.ISL_STAT_CLKOK isl) ≠ 1))
      0 7 (({ w [(R.MODE_STAT_MODE, 6), (R.ISL_STAT_CLKOK 7, 0)] with rst := { held := false } } : State).setIsland 7 { toIsl := [{ who := some 4 }] }) &&
    (fun (_t : Nat) (isl : Nat) (s : State) => decide (1 ≤ isl ∧ isl ≤ 9 ∧ s.rd (R.ISL_STAT_RESYNC isl) = 1 ∧
      Room s))
      0 8 (w [(R.ISL_STAT_RESYNC 8, 1)]) &&
    (fun (_t : Nat) (isl : Nat) (s : State) => decide (1 ≤ isl ∧ isl ≤ 9 ∧ s.rd (R.ISL_STAT_RESYNC isl) = 1 ∧
      Room s))
      0 4 (w [(R.ISL_STAT_RESYNC 4, 1)]) &&
    (fun (_t : Nat) (isl : Nat) (s : State) => decide (isl ∈ [3, 4, 5, 6, 9] ∧ s.rd (R.ISL_STAT_HELD isl) = 0))
      0 5 ((w [(R.ISL_STAT_RUN 5, 0)]).setIsland 5 { toIsl := [{ who := some 3 }], waiting := [(false, { who := some 4 })] }) &&
    (fun (_t : Nat) (isl : Nat) (s : State) => decide (isl ∈ [3, 4, 5, 6, 9] ∧ s.rd (R.ISL_STAT_HELD isl) = 0))
      0 4 (w) &&
    (fun (_t : Nat) (isl : Nat) (_ok : Bool) (s : State) => decide ((isl ∈ [1, 2, 7] ∨ isl = 8 ∧ s.vdBackup =
      false) ∧ s.rst.held = false ∧ s.rd R.MODE_STAT_MODE ∉ [0, 1]))
      0 7 false ({ w [(R.MODE_STAT_MODE, 6)] with rst := { held := false } }) &&
    (fun (_t : Nat) (isl : Nat) (_ok : Bool) (s : State) => decide ((isl ∈ [1, 2, 7] ∨ isl = 8 ∧ s.vdBackup =
      false) ∧ s.rst.held = false ∧ s.rd R.MODE_STAT_MODE ∉ [0, 1]))
      0 8 true ({ w [(R.MODE_STAT_MODE, 6)] with rst := { held := false } })) = true := by decide +kernel

theorem test_meets_BoardMirrorAndMemoriesComplete_1 : (
    (fun (_t : Nat) (fn : Nat) (_side : SideIn) (_s : State) => decide (fn < 48))
      0 5 { seq := 3, computed := 0, sps := [1], ffs := [] } (w) &&
    (fun (_t : Nat) (fn : Nat) (_side : SideIn) (_s : State) => decide (fn < 48))
      0 5 { seq := 3, computed := 0, sps := [1], ffs := [] } { w with board := [(5, { pubs := [{ side := true, at_ := 0, x := {} }] })] } &&
    (fun (_t : Nat) (n : Nat) (kind : ReqKind) (m : MsgIn) (s : State) => decide (n ≠ 0 ∧ m.framed (s.mostBytes
      n) = true ∧ s.repeated n m = none ∧ s.msgRefusal n (reqService kind) m = none ∧ s.mayRequest n kind = true ∧
      deadKey kind = none ∧ (s.protect n m).1 = Res.OK ∧ s.ses.gate.length < 64))
      0 1 .goal (wE 0x20 0) (wP 0x20 0 1 5) &&
    (fun (_t : Nat) (n : Nat) (kind : ReqKind) (m : MsgIn) (s : State) => decide (n ≠ 0 ∧ m.framed (s.mostBytes
      n) = true ∧ s.repeated n m = none ∧ s.msgRefusal n (reqService kind) m = none ∧ s.mayRequest n kind = true ∧
      deadKey kind = none ∧ (s.protect n m).1 = Res.OK ∧ 64 ≤ s.ses.gate.length ∧ Room s))
      0 1 .goal (wE 0x20 0) { wP 0x20 0 1 5 with ses := { (wP 0x20 0 1 5).ses with gate := List.replicate 64 { session := 1, kind := .goal } } } &&
    (fun (_t : Nat) (ev : EventIn) (s : State) => decide (ev.code ≠ 0x3040 ∧ ev.code ≠ 0x3041 ∧ (ev.unit =
      s.role.unit ∨ s.isWorker = false) ∧ ev.age ≤ 50000 ∧ Room s))
      100 { stamp := 5, age := 50000, code := 0x2004, island := 4, unit := 1, steps := 0, payload := [1, 2] } (w) &&
    (fun (t : Nat) (ev : EventIn) (s : State) => decide (ev.code ≠ 0x3040 ∧ ev.code ≠ 0x3041 ∧ (ev.unit =
      s.role.unit ∨ s.isWorker = false) ∧ 50000 < ev.age ∧ ev.age ≤ s.now ∧ ev.age ≤ t))
      100000 { stamp := 5, age := 50001, code := 0x2004, island := 4, unit := 1, steps := 0, payload := [1, 2] } { w with now := 90000 } &&
    (fun (_t : Nat) (ev : EventIn) (s : State) => decide (s.isWorker = true ∧ ev.unit ≠ s.role.unit))
      100 { stamp := 5, age := 50001, code := 0x2004, island := 4, unit := 3, steps := 0, payload := [1, 2] } { w with role := { role := 1, unit := 2 } } &&
    (fun (_t : Nat) (_master : Nat) (_entry : Nat) (_rights : Nat) (s : State) => decide (Room s))
      0 3 66 1 (w [(R.PROT_STAT_LOCK, 0)]) &&
    (fun (_t : Nat) (_master : Nat) (_entry : Nat) (_rights : Nat) (s : State) => decide (Room s))
      0 3 66 1 (w [(R.PROT_STAT_LOCK, 1)]) &&
    (fun (_t : Nat) (master : Nat) (region : Nat) (offset : Nat) (ecc : Nat) (_value : Byte) (s : State) =>
      decide (s.mayAccess master region true = true ∧ offset < s.regionSize region ∧ ecc < 2))
      0 0 0 6291455 0 7 (w) &&
    (fun (_t : Nat) (master : Nat) (region : Nat) (offset : Nat) (ecc : Nat) (_value : Byte) (s : State) =>
      decide (s.mayAccess master region true = true ∧ offset < s.regionSize region ∧ ecc < 2))
      0 16 19 5 1 255 (w) &&
    (fun (_t : Nat) (master : Nat) (region : Nat) (offset : Nat) (ecc : Nat) (_value : Byte) (s : State) =>
      decide (s.mayAccess master region false = true ∧ offset < s.regionSize region ∧ ecc < 2))
      0 0 0 100 0 7 (w)) = true := by decide +kernel

theorem test_meets_BoardMirrorAndMemoriesComplete_2 : (
    (fun (_t : Nat) (master : Nat) (region : Nat) (offset : Nat) (ecc : Nat) (_value : Byte) (s : State) =>
      decide (s.mayAccess master region false = true ∧ offset < s.regionSize region ∧ ecc < 2))
      0 16 19 5 1 255 (w) &&
    (fun (_t : Nat) (master : Nat) (region : Nat) (offset : Nat) (write : Bool) (_value : Byte) (s : State) =>
      decide (s.mayAccess master region write = true ∧ offset < s.regionSize region ∧ regionBlock region = 0 ∧
      Room s))
      0 0 0 100 false 7 (w) &&
    (fun (_t : Nat) (master : Nat) (region : Nat) (offset : Nat) (write : Bool) (_value : Byte) (s : State) =>
      decide (s.mayAccess master region write = true ∧ offset < s.regionSize region ∧ regionBlock region = 0 ∧
      Room s))
      0 0 0 100 true 7 (w) &&
    (fun (_t : Nat) (master : Nat) (region : Nat) (offset : Nat) (write : Bool) (_value : Byte) (s : State) =>
      decide (s.mayAccess master region write = true ∧ offset < s.regionSize region ∧ regionBlock region ∈ [3, 4,
      5] ∧ s.rd (R.ISL_STAT_HELD (regionBlock region)) = 0))
      0 9 2 100 false 7 (w) &&
    (fun (_t : Nat) (master : Nat) (region : Nat) (offset : Nat) (write : Bool) (_value : Byte) (s : State) =>
      decide (s.mayAccess master region write = true ∧ offset < s.regionSize region ∧ regionBlock region ∈ [3, 4,
      5] ∧ s.rd (R.ISL_STAT_HELD (regionBlock region)) = 0))
      0 12 3 100 true 7 (w) &&
    (fun (_t : Nat) (master : Nat) (region : Nat) (_offset : Nat) (_ecc : Nat) (write : Bool) (_value : Byte) (s
      : State) => decide (s.mayAccess master region write = false))
      0 20 0 100 0 true 7 (w) &&
    (fun (_t : Nat) (part : Nat) (_offset : Nat) (ecc : Nat) (s : State) => decide (Room s ∧ ((ecc = 2 →
      regionBlock part = 0))))
      0 0 64 2 (w) &&
    (fun (_t : Nat) (part : Nat) (_offset : Nat) (ecc : Nat) (s : State) => decide (Room s ∧ ((ecc = 2 →
      regionBlock part = 0))))
      0 3 64 1 (w) &&
    (fun (_t : Nat) (part : Nat) (_offset : Nat) (ecc : Nat) (s : State) => decide (Room s ∧ ((ecc = 2 →
      regionBlock part = 0))))
      0 3 64 0 (w) &&
    (fun (_t : Nat) (part : Nat) (_offset : Nat) (s : State) => decide (regionBlock part ∈ [3, 4, 5] ∧ s.rd
      (R.ISL_STAT_HELD (regionBlock part)) = 0))
      0 3 64 (w) &&
    (fun (_t : Nat) (part : Nat) (_offset : Nat) (s : State) => decide (regionBlock part ∈ [3, 4, 5] ∧ s.rd
      (R.ISL_STAT_HELD (regionBlock part)) = 0))
      0 4 64 (w) &&
    (fun (_t : Nat) (asking : List Nat) (s : State) => decide (asking.Nodup ∧ s.arb.table.getD (s.arb.slot %
      s.arb.table.length) 999 ∈ asking ∧ ((∀ q ∈ asking, q ≤ 9 ∧ (look s.arb.waits q).getD 0 + 1 < s.rd
      (R.ARB_CFG_WAITLIM q)))))
      0 [3, 0, 7] (w)) = true := by decide +kernel

theorem test_meets_BoardMirrorAndMemoriesComplete_3 : (
    (fun (_t : Nat) (q : Nat) (s : State) => decide (q ≤ 9 ∧ s.rd (R.ARB_CFG_WAITLIM q) ≤ (look s.arb.waits
      q).getD 0 + 1))
      0 4 { w with arb := { table := defaultSlots, waits := [(4, 15)] } } &&
    (fun (_t : Nat) (n : Nat) (q : Nat) (_v : Nat) (s : State) => decide (q ≤ 9 ∧ n ≠ 0 ∧ s.ses.open_.any (fun p
      => p.2.num = n) = true ∧ s.turn n (.live (R.ARB_CFG_PRIO q)) = true ∧ s.mayLive n (R.ARB_CFG_PRIO q) = true
      ∧ s.served = true))
      0 1 9 15 (wS 2 5) &&
    (fun (_t : Nat) (n : Nat) (q : Nat) (_v : Nat) (s : State) => decide (q ≤ 9 ∧ n ≠ 0 ∧ s.ses.open_.any (fun p
      => p.2.num = n) = true ∧ s.turn n (.live (R.ARB_CFG_PRIO q)) = true ∧ s.mayLive n (R.ARB_CFG_PRIO q) = true
      ∧ s.served = true))
      0 1 9 16 (wS 3 6) &&
    (fun (_t : Nat) (n : Nat) (m : MsgIn) (s : State) => decide (n ≠ 0 ∧ m.framed (s.mostBytes n) = true ∧
      s.repeated n m = none ∧ s.msgRefusal n 0x0011 m = none))
      0 1 (wM 0x11) (wS 1 5)) = true := by decide +kernel

theorem test_meets_DisciplineComplete_1 : (
    (fun (_t : Nat) (_toff : Int) (terr : Nat) (_q : Bool) (s : State) => decide (s.isWorker = false ∧ terr ≤ 50
      ∧ s.rd R.TB_STAT_QUAL = 1))
      0 (-30) 20 true (w [(R.TB_STAT_QUAL, 1)]) &&
    (fun (_t : Nat) (toff : Int) (terr : Nat) (_q : Bool) (s : State) => decide (s.isWorker = false ∧ terr ≤ 50
      ∧ s.rd R.TB_STAT_QUAL ≠ 1 ∧ s.rd R.TB_STAT_SLEWING ≠ 1 ∧ toff ≠ 0 ∧ toff.natAbs ≤ 1000000 ∧ Room s))
      0 (-1000000) 50 true (w) &&
    (fun (_t : Nat) (toff : Int) (terr : Nat) (_q : Bool) (s : State) => decide (s.isWorker = false ∧ terr ≤ 50
      ∧ s.rd R.TB_STAT_QUAL ≠ 1 ∧ s.rd R.TB_STAT_SLEWING ≠ 1 ∧ toff ≠ 0 ∧ toff.natAbs ≤ 1000000 ∧ Room s))
      0 5 0 true (w [(R.TB_STAT_QUAL, 2)]) &&
    (fun (_t : Nat) (_err : Int) (q : Bool) (s : State) => decide (s.isWorker = false ∧ s.rd
      R.TB_STAT_STEP_PENDING = 1 ∧ s.mayStep q = true ∧ s.tb.srcGood = true ∧ Room s))
      0 2000000 true { w [(R.TB_STAT_STEP_PENDING, 1), (R.MODE_STAT_MODE, 5)] with tb := { srcGood := true } } &&
    (fun (_t : Nat) (_err : Int) (q : Bool) (s : State) => decide (s.isWorker = false ∧ s.rd
      R.TB_STAT_STEP_PENDING = 1 ∧ s.mayStep q = true ∧ s.tb.srcGood = true ∧ Room s))
      0 (-2000000) true { w [(R.TB_STAT_STEP_PENDING, 1), (R.MODE_STAT_MODE, 8)] with tb := { srcGood := true } } &&
    (fun (t : Nat) (_resid : Int) (s : State) => decide (s.isWorker = false ∧ s.rd R.TB_STAT_SLEWING = 1 ∧
      s.tb.srcGood = true ∧ s.tb.slewOver (max s.now t) = true ∧ Room s))
      200000000 100 { w [(R.TB_STAT_SLEWING, 1)] with tb := { srcGood := true, slewErr := 1000 } } &&
    (fun (t : Nat) (_resid : Int) (s : State) => decide (s.isWorker = false ∧ s.rd R.TB_STAT_SLEWING = 1 ∧
      s.tb.srcGood = true ∧ s.tb.slewOver (max s.now t) = true ∧ Room s))
      0 (-101) { w [(R.TB_STAT_SLEWING, 1)] with tb := { srcGood := true } } &&
    (fun (t : Nat) (l : Nat) (s : State) => decide (s.isWorker = false ∧ s.rd R.TB_STAT_QUAL = 1 ∧ s.tb.srcLost
      = some l ∧ s.tb.srcGood = false ∧ l + 1000000000 ≤ max s.now t ∧ Room s))
      1000000000 0 { w [(R.TB_STAT_QUAL, 1)] with tb := { srcLost := some 0 } } &&
    (fun (t : Nat) (h : Nat) (s : State) => decide (s.rd R.TB_STAT_QUAL = 2 ∧ s.tb.holdSince = some h ∧
      s.tb.back = false ∧ h + 14400000000000 ≤ max s.now t ∧ Room s))
      14400000000000 0 { w [(R.TB_STAT_QUAL, 2)] with tb := { holdSince := some 0 } } &&
    (fun (_t : Nat) (s : State) => decide (s.isWorker = false ∧ s.rd R.TB_STAT_QUAL = 1))
      7 (w [(R.TB_STAT_QUAL, 1)]) &&
    (fun (_t : Nat) (s : State) => decide (s.tb.rtcOff = none))
      7 (w) &&
    (fun (t : Nat) (s : State) => decide (s.rd R.TB_STAT_PPS_ON = 1 ∧ onGrid ((s.begin t).harvest) 1000000000 =
      true ∧ s.tb.ppsLast = none))
      3 (w [(R.TB_STAT_PPS_ON, 1)])) = true := by decide +kernel

theorem test_meets_DisciplineComplete_2 : (
    (fun (t : Nat) (l : Nat) (s : State) => decide (s.tb.ppsLast = some l ∧ s.tb.ppsStepped = true ∧ max s.now t
      < l + 500000000))
      400000000 0 { w [(R.TB_STAT_PPS_ON, 1)] with tb := { ppsLast := some 0, ppsStepped := true } }) = true := by decide +kernel

theorem test_meets_WhistleComplete_1 : (
    (fun (_t : Nat) (width : Nat) (_rising : Bool) (s : State) => decide (s.rd R.TB_EVT_CFG_EDGE = 3 ∧ evtFilter
      (s.rd R.TB_EVT_CFG_FILTER) ≤ width ∧ s.tb.evtHeld.length < 16 ∧ Room s))
      5000 1000 true (w [(R.TB_EVT_CFG_EDGE, 3), (R.TB_EVT_CFG_FILTER, 3)]) &&
    (fun (_t : Nat) (taken : Nat) (s : State) => decide (0 < s.tb.evtDropped ∧ s.tb.evtHeld.length < 16 + taken
      ∧ Room s))
      0 1 { w with tb := { evtDropped := 3, evtHeld := List.replicate 16 (0, true) } } &&
    (fun (t : Nat) (p : Nat) (s : State) => decide (1 ≤ p ∧ p ≤ 4 ∧ s.rd (R.TB_WH_ROLE p) = 2 ∧ (s.wh p).driving
      = true ∧ onGrid ((s.begin t).harvest) 1000000 = true ∧ onGrid ((s.begin t).harvest) 1000000000 = false))
      3000000 2 ((w [(R.TB_WH_ROLE 2, 2), (R.TB_WH_DELAY 2, 55)]).setWh 2 { driving := true, txSeq := 255, stepDue := true }) &&
    (fun (t : Nat) (p : Nat) (s : State) => decide (1 ≤ p ∧ p ≤ 4 ∧ s.rd (R.TB_WH_ROLE p) = 2 ∧ (s.wh p).driving
      = true ∧ onGrid ((s.begin t).harvest) 1000000000 = true))
      0 2 ((w [(R.TB_WH_ROLE 2, 2), (R.TB_WH_DELAY 2, 55)]).setWh 2 { driving := true }) &&
    (fun (_t : Nat) (p : Nat) (bytes : List Nat) (_marker : Int) (s : State) => decide (s.isWorker = true ∧ s.rd
      (R.TB_WH_ROLE p) = 1 ∧ 1 ≤ p ∧ p ≤ 4 ∧ whistleValid bytes = true ∧ bytes.headD 0 % 16 = 1 ∧ bytes.headD 0 /
      16 % 2 = 0 ∧ s.rd R.TB_STAT_QUAL = 3))
      10 1 (whistleFrame 1 2 7 1000000 60) 1000065 { w [(R.TB_WH_ROLE 1, 1), (R.TB_STAT_QUAL, 3)] with role := { role := 1, unit := 2 } } &&
    (fun (_t : Nat) (p : Nat) (bytes : List Nat) (_marker : Int) (s : State) => decide (s.isWorker = true ∧ s.rd
      (R.TB_WH_ROLE p) = 1 ∧ 1 ≤ p ∧ p ≤ 4 ∧ whistleValid bytes = true ∧ bytes.headD 0 % 16 = 1 ∧ bytes.headD 0 /
      16 % 2 = 1 ∧ Room s))
      10 1 (whistleFrame 1 3 7 5000000 60) 1000065 { w [(R.TB_WH_ROLE 1, 1), (R.TB_STAT_QUAL, 3)] with role := { role := 1, unit := 2 } } &&
    (fun (_t : Nat) (p : Nat) (bytes : List Nat) (_marker : Int) (s : State) => decide (s.isWorker = true ∧ 1 ≤
      p ∧ p ≤ 4 ∧ s.rd (R.TB_WH_ROLE p) = 1 ∧ whistleValid bytes = true ∧ bytes.headD 0 % 16 = 3))
      10 1 (whistleFrame 3 0 7 1000000 0) 1000065 { w [(R.TB_WH_ROLE 1, 1)] with role := { role := 1, unit := 2 } } &&
    (fun (t : Nat) (p : Nat) (fresh : Bool) (s : State) => decide (1 ≤ p ∧ p ≤ 4 ∧ (s.rd (R.TB_WH_ROLE p) = 3 ∨
      s.rd (R.TB_WH_ROLE p) = 2 ∧ (s.wh p).driving = true) ∧ s.tb.whLost = false ∧ (fresh = true ∨ (s.wh p).reqAt
      = none) ∧ onGrid ((s.begin t).harvest - 500000) 1000000 = true))
      500000 2 true (w [(R.TB_WH_ROLE 2, 3)]) &&
    (fun (t : Nat) (p : Nat) (fresh : Bool) (s : State) => decide (1 ≤ p ∧ p ≤ 4 ∧ (s.rd (R.TB_WH_ROLE p) = 3 ∨
      s.rd (R.TB_WH_ROLE p) = 2 ∧ (s.wh p).driving = true) ∧ s.tb.whLost = false ∧ (fresh = true ∨ (s.wh p).reqAt
      = none) ∧ onGrid ((s.begin t).harvest - 500000) 1000000 = true))
      500000 2 false ((w [(R.TB_WH_ROLE 2, 2)]).setWh 2 { driving := true }) &&
    (fun (t : Nat) (p : Nat) (m : Int) (s : State) => decide ((s.wh p).reqRx = some m ∧ m + 9999 ≤ (s.begin
      t).harvest ∧ (s.begin t).harvest ≤ m + 10001))
      10077 2 77 ((w).setWh 2 { reqRx := some 77 }) &&
    (fun (_t : Nat) (p : Nat) (bytes : List Nat) (tA : Int) (_tB : Int) (s : State) => decide (1 ≤ p ∧ p ≤ 4 ∧
      s.rd (R.TB_WH_ROLE p) ≠ 1 ∧ (s.wh p).tA = some tA ∧ whistleValid bytes = true ∧ bytes.headD 0 % 16 = 4 ∧
      Room s))
      3 2 (whistleFrame 4 0 9 10700 0) 500 10700 ((w [(R.TB_WH_ROLE 2, 2)]).setWh 2 { tA := some 500 }) &&
    (fun (_t : Nat) (p : Nat) (bytes : List Nat) (tA : Int) (_tB : Int) (s : State) => decide (1 ≤ p ∧ p ≤ 4 ∧
      s.rd (R.TB_WH_ROLE p) ≠ 1 ∧ (s.wh p).tA = some tA ∧ whistleValid bytes = true ∧ bytes.headD 0 % 16 = 4 ∧
      Room s))
      3 2 (whistleFrame 4 0 9 10702 0) 500 10702 ((w [(R.TB_WH_ROLE 2, 2)]).setWh 2 { tA := some 500 })) = true := by decide +kernel

theorem test_meets_WhistleComplete_2 : (
    (fun (_t : Nat) (_p : Nat) (bytes : List Nat) (_tB : Int) (_s : State) => decide (whistleValid bytes =
      false))
      3 2 [] 500 (w [(R.TB_WH_ROLE 2, 2)]) &&
    (fun (_t : Nat) (_err : Nat) (_q : Nat) (s : State) => decide (s.isWorker = true ∧ s.rd R.TB_STAT_QUAL = 3))
      3 100 1 (({ w [(R.TB_STAT_QUAL, 3), (R.TB_WH_ROLE 2, 2)] with role := { role := 1, unit := 2 } } : State).setWh 2 { driving := true }) &&
    (fun (t : Nat) (a : Nat) (s : State) => decide (s.rd R.TB_STAT_QUAL = 3 ∧ s.tb.statusAt = some a ∧
      s.tb.statusErr ≠ 0xFFFFFFFF ∧ a + 3000000000 ≤ max s.now t))
      3000000000 0 { w [(R.TB_STAT_QUAL, 3)] with tb := { statusAt := some 0, statusErr := 105 } } &&
    (fun (t : Nat) (p : Nat) (m : Int) (s : State) => decide (1 ≤ p ∧ p ≤ 4 ∧ s.isWorker = true ∧ s.rd
      (R.TB_WH_ROLE p) = 1 ∧ (s.wh p).lastMarker = some m ∧ (s.wh p).firstMiss = none ∧ m + 3005000 ≤ (s.begin
      t).harvest ∧ Room s))
      3005002 1 2 (({ w [(R.TB_WH_ROLE 1, 1), (R.TB_STAT_QUAL, 3)] with role := { role := 1, unit := 2 } } : State).setWh 1 { lastMarker := some 2 }) &&
    (fun (t : Nat) (p : Nat) (m : Int) (s : State) => decide (1 ≤ p ∧ p ≤ 4 ∧ s.isWorker = true ∧ s.rd
      (R.TB_WH_ROLE p) = 1 ∧ (s.wh p).lastMarker = some m ∧ (s.wh p).firstMiss = none ∧ m + 3005000 ≤ (s.begin
      t).harvest ∧ Room s))
      4005002 1 2 (({ w [(R.TB_WH_ROLE 1, 1), (R.TB_STAT_SLEWING, 1)] with role := { role := 1, unit := 2 } } : State).setWh 1 { lastMarker := some 2 }) &&
    (fun (_t : Nat) (p : Nat) (err : Int) (s : State) => decide (1 ≤ p ∧ p ≤ 4 ∧ s.isWorker = true ∧ s.rd
      (R.TB_WH_ROLE p) = 1 ∧ (s.wh p).measured = true ∧ s.rd R.TB_STAT_QUAL ∈ [0, 2] ∧ s.tb.joined = true ∧ s.rd
      R.TB_STAT_SLEWING ≠ 1 ∧ err ≠ 0 ∧ err.natAbs ≤ 1000000 ∧ Room s))
      3 1 (-9) (({ w [(R.TB_WH_ROLE 1, 1), (R.TB_STAT_QUAL, 2)] with role := { role := 1, unit := 2 }, tb := { joined := true } } : State).setWh 1 { measured := true })) = true := by decide +kernel

theorem test_meets_LaunchesComplete_1 : (
    (fun (t : Nat) (t0 : Int) (s : State) => decide (s.ln.lossAt = some t0 ∧ s.rd R.TB_STAT_QUAL ≠ 3 ∧ t0 +
      50000000 ≤ (s.begin t).harvest))
      50000000 0 { w with ln := { lossAt := some 0, slots := [(0, { out := .queued, instant := 90000000, flags := 2, action := 0x5000 }), (1, { out := .queued, instant := 90000000, flags := 0, action := 0x5000 })] } } &&
    (fun (t : Nat) (gen : Nat) (instant : Int) (_r : ReadingIn) (_axes : List Nat) (_f : Bool) (s : State) =>
      decide (gen < 512 ∧ (s.begin t).firesAt gen instant = true ∧ actClass (s.rd (R.LN_PG_CFG_ACTION gen)) = 12))
      502 9 500 {} [1, 2, 3, 4, 5, 6] false { w [(R.LN_PG_CFG_EN 9, 1), (R.LN_PG_PERIOD 9, 500), (R.LN_PG_CFG_ACTION 9, 0xC000)] with ln := { running := true } } &&
    (fun (t : Nat) (gen : Nat) (instant : Int) (_r : ReadingIn) (_axes : List Nat) (_f : Bool) (s : State) =>
      decide (gen < 512 ∧ (s.begin t).firesAt gen instant = true ∧ actClass (s.rd (R.LN_PG_CFG_ACTION gen)) ∈ [8,
      9, 11]))
      502 9 500 {} [1, 2, 3, 4, 5, 6] false { w [(R.LN_PG_CFG_EN 9, 1), (R.LN_PG_PERIOD 9, 500), (R.LN_PG_CFG_ACTION 9, 0xB000)] with ln := { running := true } } &&
    (fun (t : Nat) (gen : Nat) (instant : Int) (_r : ReadingIn) (_axes : List Nat) (_f : Bool) (s : State) =>
      decide (gen < 512 ∧ (s.begin t).firesAt gen instant = true ∧ actClass (s.rd (R.LN_PG_CFG_ACTION gen)) ∈ [8,
      9, 11]))
      502 9 500 {} [] false { w [(R.LN_PG_CFG_EN 9, 1), (R.LN_PG_PERIOD 9, 500), (R.LN_PG_CFG_ACTION 9, 0x9003), (R.UI_CFG_MODE 3, 1)] with ln := { running := true } } &&
    (fun (t : Nat) (n : Nat) (e : EntryIn) (s : State) => decide (n ≠ 0 ∧ s.ses.open_.any (fun p => p.2.num = n)
      = true ∧ s.classAtLeast n 2 = true ∧ s.turn n (.insert) = true ∧ (s.begin t).insertTest n e = none ∧
      (s.begin t).harvest < e.instant))
      0 1 { instant := 100000, action := 0x5000, flags := 0, payload := 77 } (wS 2 5) &&
    (fun (t : Nat) (n : Nat) (code : Nat) (pl : List Int) (e : EntryIn) (s : State) => decide (n ≠ 0 ∧
      s.ses.open_.any (fun p => p.2.num = n) = true ∧ s.classAtLeast n 2 = true ∧ s.turn n (.insert) = true ∧
      (s.begin t).insertTest n e = some (code, pl) ∧ code ≠ 0x3048 ∧ (s.begin t).mayLog code 0 1000000 = true ∧
      Room s))
      0 1 0x2023 [1, 10000000001] { instant := 10000000001, action := 0x5000, flags := 0, payload := 77 } (wS 3 5) &&
    (fun (t : Nat) (n : Nat) (code : Nat) (pl : List Int) (e : EntryIn) (s : State) => decide (n ≠ 0 ∧
      s.ses.open_.any (fun p => p.2.num = n) = true ∧ s.classAtLeast n 2 = true ∧ s.turn n (.insert) = true ∧
      (s.begin t).insertTest n e = some (code, pl) ∧ code ≠ 0x3048 ∧ (s.begin t).mayLog code 0 1000000 = true ∧
      Room s))
      0 1 0x2025 [1, 0x6000, 0] { instant := 5, action := 0x6000, flags := 0, payload := 77 } (wS 3 5) &&
    (fun (_t : Nat) (n : Nat) (unit : Nat) (_r : Nat × List Int) (_e : EntryIn) (s : State) => decide (n ≠ 0 ∧
      s.ses.open_.any (fun p => p.2.num = n) = true ∧ s.classAtLeast n 2 = true ∧ s.turn n (.insert) = true ∧ unit
      ≠ s.role.unit))
      0 1 3 (0, [7]) { instant := 100000, action := 0x5000, flags := 0, payload := 77 } (wS 2 5) &&
    (fun (t : Nat) (n : Nat) (s : State) => decide ((s.slot n).out = .queued ∧ (s.slot n).instant ≤ (s.begin
      t).harvest + 100000))
      0 4 { w with ln := { slots := [(4, { out := .queued, instant := 100000 })] } } &&
    (fun (_t : Nat) (n : Nat) (s : State) => decide ((s.slot n).out = .queued ∧ s.fnOfAction (s.slot n).action =
      none ∧ Room s))
      0 4 { w with ln := { slots := [(4, { out := .queued, action := 0x5000 })] } } &&
    (fun (t : Nat) (n : Nat) (s : State) => decide ((s.slot n).out = .armed ∧ (s.slot n).instant ≤ (s.begin
      t).harvest ∧ (s.begin t).harvest ≤ (s.slot n).instant + 4 ∧ Room s))
      104 4 { w with ln := { slots := [(4, { out := .armed, instant := 100, action := 0x5000, payload := 9 })] } } &&
    (fun (t : Nat) (n : Nat) (s : State) => decide ((s.slot n).out = .armed ∧ (s.slot n).instant ≤ (s.begin
      t).harvest ∧ (s.begin t).harvest ≤ (s.slot n).instant + 4 ∧ Room s))
      100 4 { w with ln := { slots := [(4, { out := .armed, instant := 100, action := 0x1023, payload := 9 })] } }) = true := by decide +kernel

theorem test_meets_LaunchesComplete_2 : (
    (fun (t : Nat) (n : Nat) (s : State) => decide ((s.slot n).out = .armed ∧ (s.slot n).instant ≤ (s.begin
      t).harvest ∧ (s.begin t).harvest ≤ (s.slot n).instant + 4 ∧ Room s))
      100 4 { w with ln := { slots := [(4, { out := .armed, instant := 100, action := 0x3003, payload := 9 })] } } &&
    (fun (t : Nat) (n : Nat) (s : State) => decide ((s.slot n).out = .armed ∧ (s.slot n).instant ≤ (s.begin
      t).harvest ∧ (s.begin t).harvest ≤ (s.slot n).instant + 4 ∧ Room s))
      100 4 { w with ln := { slots := [(4, { out := .armed, instant := 100, action := 0x2003, payload := 900000 })] } } &&
    (fun (t : Nat) (n : Nat) (s : State) => decide ((s.slot n).live = true ∧ (s.slot n).instant + 4 < (s.begin
      t).harvest ∧ (s.slot n).noLate = true ∧ (s.begin t).mayLog 0x2021 0 1000000 = true ∧ Room s))
      105 4 { w with ln := { slots := [(4, { out := .armed, instant := 100, flags := 1, action := 0x5000, payload := 9 })] } } &&
    (fun (t : Nat) (n : Nat) (h : Nat) (s : State) => decide (n ≠ 0 ∧ s.ses.open_.any (fun p => p.2.num = n) =
      true ∧ s.classAtLeast n 2 = true ∧ s.turn n (.cancel) = true ∧ (s.slot (h % 65536)).gen = h / 65536 ∧
      (s.slot (h % 65536)).live = true ∧ (s.begin t).harvest + 2000 ≤ (s.slot (h % 65536)).instant))
      0 1 0x30004 { wS 2 5 with ln := { slots := [(4, { gen := 3, out := .queued, instant := 2000 })] } }) = true := by decide +kernel

theorem test_meets_ObserverComplete_1 : (
    (fun (t : Nat) (instant : Int) (s : State) => decide (s.obs.step = none ∧ s.obs.select = none ∧ s.rd
      R.OBS_STAT_RUN = 1 ∧ (List.range 512).any (fun g => s.rd (R.LN_PG_CFG_ACTION g) = 0xB000 && (s.begin
      t).launches g instant s.obs.launched) = true))
      2000003 2000000 { w ([(R.LN_PG_CFG_EN 3, 1), (R.LN_PG_PERIOD 3, 2000000), (R.LN_PG_CFG_ACTION 3, 0xB000), (R.OBS_STAT_RUN, 1)]) with ln := { running := true } } &&
    (fun (t : Nat) (instant : Int) (s : State) => decide (s.obs.step = none ∧ s.obs.select = none ∧ s.rd
      R.OBS_STAT_RUN = 1 ∧ (List.range 512).any (fun g => s.rd (R.LN_PG_CFG_ACTION g) = 0xB000 && (s.begin
      t).launches g instant s.obs.launched) = true))
      2000003 2000000 { w ([(R.LN_PG_CFG_EN 3, 1), (R.LN_PG_PERIOD 3, 2000000), (R.LN_PG_CFG_ACTION 3, 0xB000), (R.OBS_STAT_RUN, 1), (R.OBS_STAT_WARMING, 1)]) with obs := { k := 3, warmK := 500 }, ln := { running := true } } &&
    (fun (t : Nat) (st : ObsStepS) (x : ObsIn) (s : State) => decide (s.obs.step = some st ∧ st.closed = false ∧
      s.obs.waiting = [x] ∧ s.obs.taken = [] ∧ x.bind < 32 ∧ st.t0 + 200000 ≤ (s.begin t).harvest ∧ x.arrived ≤
      st.t0 + 200000 ∧ (s.descOf x.bind).isSome = true ∧ (s.bindS x.bind).drift = false))
      10200000 { k := 3, t0 := 10000000 } { bind := 2, at_ := 10000001, stamp := 0, value := 7 } (wObs [] { step := some { k := 3, t0 := 10000000 }, waiting := [{ bind := 2, at_ := 10000001, stamp := 0, value := 7 }] }) &&
    (fun (t : Nat) (st : ObsStepS) (x : ObsIn) (s : State) => decide (s.obs.step = some st ∧ st.closed = false ∧
      s.obs.waiting = [x] ∧ s.obs.taken = [] ∧ x.bind < 32 ∧ st.t0 + 200000 ≤ (s.begin t).harvest ∧ x.arrived ≤
      st.t0 + 200000 ∧ (s.descOf x.bind).isSome = true ∧ (s.bindS x.bind).drift = false))
      10200000 { k := 3, t0 := 10000000 } { bind := 2, at_ := 10000000, stamp := 0, value := 7 } (wObs [] { step := some { k := 3, t0 := 10000000 }, waiting := [{ bind := 2, at_ := 10000000, stamp := 0, value := 7 }] }) &&
    (fun (t : Nat) (st : ObsStepS) (x : ObsIn) (s : State) => decide (s.obs.step = some st ∧ st.closed = false ∧
      s.obs.waiting = [x] ∧ s.obs.taken = [] ∧ x.bind < 32 ∧ st.t0 + 200000 ≤ (s.begin t).harvest ∧ x.arrived ≤
      st.t0 + 200000 ∧ (s.descOf x.bind).isSome = true ∧ (s.bindS x.bind).drift = false))
      10200000 { k := 3, t0 := 10000000 } { bind := 2, at_ := 8000001, stamp := 0, value := 7 } (wObs [] { step := some { k := 3, t0 := 10000000 }, waiting := [{ bind := 2, at_ := 8000001, stamp := 0, value := 7 }] }) &&
    (fun (t : Nat) (st : ObsStepS) (x : ObsIn) (s : State) => decide (s.obs.step = some st ∧ st.closed = false ∧
      s.obs.waiting = [x] ∧ s.obs.taken = [] ∧ x.bind < 32 ∧ st.t0 + 200000 ≤ (s.begin t).harvest ∧ x.arrived ≤
      st.t0 + 200000 ∧ (s.descOf x.bind).isSome = true ∧ (s.bindS x.bind).drift = false))
      10200000 { k := 3, t0 := 10000000 } { bind := 2, at_ := 8000000, stamp := 0, value := 7 } (wObs [] { step := some { k := 3, t0 := 10000000 }, waiting := [{ bind := 2, at_ := 8000000, stamp := 0, value := 7 }] }) &&
    (fun (t : Nat) (st : ObsStepS) (x : ObsIn) (s : State) => decide (s.obs.step = some st ∧ st.closed = false ∧
      s.obs.waiting = [x] ∧ s.obs.taken = [] ∧ x.bind < 32 ∧ st.t0 + 200000 ≤ (s.begin t).harvest ∧ x.arrived ≤
      st.t0 + 200000 ∧ (s.descOf x.bind).isSome = true ∧ (s.bindS x.bind).drift = false))
      10200000 { k := 3, t0 := 10000000 } { bind := 2, at_ := 4000001, stamp := 0, value := 7 } (wObs [] { step := some { k := 3, t0 := 10000000 }, waiting := [{ bind := 2, at_ := 4000001, stamp := 0, value := 7 }] }) &&
    (fun (t : Nat) (st : ObsStepS) (x : ObsIn) (s : State) => decide (s.obs.step = some st ∧ st.closed = false ∧
      s.obs.waiting = [x] ∧ s.obs.taken = [] ∧ x.bind < 32 ∧ st.t0 + 200000 ≤ (s.begin t).harvest ∧ x.arrived ≤
      st.t0 + 200000 ∧ (s.descOf x.bind).isSome = true ∧ (s.bindS x.bind).drift = false))
      10200000 { k := 3, t0 := 10000000 } { bind := 2, at_ := 4000000, stamp := 0, value := 7 } (wObs [] { step := some { k := 3, t0 := 10000000 }, waiting := [{ bind := 2, at_ := 4000000, stamp := 0, value := 7 }] }) &&
    (fun (t : Nat) (st : ObsStepS) (_net : NetIn) (s : State) => decide (s.obs.step = some st ∧ st.closed = true
      ∧ (s.begin t).harvest ≤ st.t0 + 2000000 ∧ s.rd R.OBS_STAT_WARMING = 0 ∧ s.rd R.OBS_STAT_DSTEP ≠ 3 ∧ 0 < s.rd
      R.OBS_CFG_HOLD_LIMIT))
      1500000 { k := 3, t0 := 0, closed := true } { out := List.replicate 14 0 } { w [(R.OBS_STAT_RUN, 1), (R.OBS_STAT_DSTEP, 0), (R.OBS_CFG_HOLD_LIMIT, 10)] with obs := { step := some { k := 3, t0 := 0, closed := true } } } &&
    (fun (t : Nat) (st : ObsStepS) (s : State) => decide (s.obs.step = some st ∧ st.t0 + 2000000 ≤ (s.begin
      t).harvest ∧ (s.begin t).mayLog 0x3004 0 1000000000 = true ∧ Room s))
      2000000 { k := 3, t0 := 0 } { w [(R.OBS_OVERRUN_CONSEC, 2)] with obs := { step := some { k := 3, t0 := 0 } } } &&
    (fun (_t : Nat) (b : Nat) (_time : Int) (_raw : Nat) (s : State) => decide (b < 32 ∧ s.isWorker = false ∧
      (s.descOf b).isSome = true ∧ s.rd R.OBS_STAT_RUN = 1 ∧ s.rd (R.OBS_IN_CFG_FREE b) = 0))
      5 2 777 0x3F800000 (wObs [(R.OBS_STAT_RUN, 1), (R.OBS_IN_SCALE_GAIN 2, 0x40000000)]) &&
    (fun (_t : Nat) (b : Nat) (_time : Int) (_raw : Nat) (s : State) => decide (b < 32 ∧ s.isWorker = true ∧
      s.rd (R.OBS_IN_CFG_FREE b) = 0))
      5 2 777 0 { w with role := { role := 1, unit := 3 } }) = true := by decide +kernel

theorem test_meets_ObserverComplete_2 : (
    (fun (_t : Nat) (b : Nat) (s : State) => decide (b < 32 ∧ (s.descOf b).isSome = true))
      5 2 (wObs) &&
    (fun (_t : Nat) (b : Nat) (unc : Nat) (_o : Int) (s : State) => decide (s.rd (R.OBS_IN_CFG_FREE b) = 1 ∧
      s.rd (R.OBS_IN_CFG_SRC_TYPE b) ≠ 2 ∧ (s.descOf b).isSome = true ∧ 4 * unc ≤ s.samplePeriod b ∧ b < 32))
      5 2 500000 (-40) (wObs [(R.OBS_IN_CFG_FREE 2, 1)]) &&
    (fun (t : Nat) (b : Nat) (e : Nat) (s : State) => decide (b < 32 ∧ s.rd (R.OBS_IN_CFG_FREE b) = 1 ∧
      (s.descOf b).isSome = true ∧ (s.bindS b).est = some e ∧ (s.bindS b).drift = false ∧ e + 3000000000 ≤ max
      s.now t ∧ s.samplePeriod b * 1000000 < s.rd (R.OBS_IN_CFG_DRIFT_PPM b) * (max s.now t - e) ∧ (s.begin
      t).mayLog 0x3003 b 1000000000 = true ∧ Room s))
      100000000000 2 0 (wObs [(R.OBS_IN_CFG_FREE 2, 1), (R.OBS_IN_CFG_DRIFT_PPM 2, 100)] { bind := [(2, { est := some 0 })] }) &&
    (fun (t : Nat) (_r : Nat) (a : Nat) (s : State) => decide (s.rd R.OBS_STAT_RUN = 1 ∧ s.obs.eccAt = some a ∧
      max s.now t < a + 60000000000 ∧ Room s))
      59999999999 1 0 { w [(R.OBS_STAT_RUN, 1)] with obs := { eccAt := some 0 } } &&
    (fun (_t : Nat) (_r : Nat) (s : State) => decide (s.rd R.OBS_STAT_RUN = 1 ∧ s.obs.eccAt = none ∧ s.observing
      = true ∧ s.obs.eccHold = false ∧ s.obs.select = none ∧ s.packNow.isSome = true ∧ Room s))
      5 1 (wObs [(R.OBS_STAT_RUN, 1), (R.MODE_STAT_MODE, 5)]) &&
    (fun (_t : Nat) (n : Nat) (slot : Nat) (s : State) => decide (n ≠ 0 ∧ s.ses.open_.any (fun p => p.2.num = n)
      = true ∧ s.classAtLeast n 1 = true ∧ s.turn n (.pack) = true ∧ s.mode = Mode.FIELD_IDLE ∧ (look s.obs.packs
      slot).isSome = true))
      0 1 3 { wS 1 5 with obs := { packs := [(3, { vendor := 1, packId := 1, crop := 1 })] } } &&
    (fun (_t : Nat) (n : Nat) (_slot : Nat) (s : State) => decide (n ≠ 0 ∧ s.ses.open_.any (fun p => p.2.num =
      n) = true ∧ s.classAtLeast n 1 = true ∧ s.turn n (.pack) = true ∧ s.mode ≠ Mode.FIELD_IDLE ∧ Room s))
      0 1 3 (wS 1 6) &&
    (fun (_t : Nat) (slot : Nat) (p : PackS) (s : State) => decide (s.obs.changing = true ∧ s.obs.select = some
      slot ∧ look s.obs.packs slot = some p ∧ Room s))
      0 3 { vendor := 4, packId := 9, crop := 1 } { w [(R.MODE_STAT_MODE, 5)] with obs := { changing := true, select := some 3, packs := [(3, { vendor := 4, packId := 9, crop := 1 })] } }) = true := by decide +kernel

theorem test_meets_FunctionsComplete_1 : (
    (fun (t : Nat) (f : Nat) (instant : Int) (_rs : List (Nat × Nat)) (_wm : Bool) (_ds : Nat) (s : State) =>
      decide (f < 48 ∧ f ≠ 27 ∧ s.rd (R.FN_CFG_PATH f) = 1 ∧ s.rd (R.FN_CFG_UNIT f) = s.role.unit ∧ s.rd
      (R.FN_CFG_SOURCE f) = 0 ∧ s.rd (R.FN_CFG_OBS_BOUND f) = 0 ∧ s.rd (R.FN_CFG_NSP f) = 0 ∧ s.rd
      (R.FN_CFG_LOOP_COUNT f) = 0 ∧ (s.fnS f).running = true ∧ (s.fnS f).restartAt = none ∧ (s.begin t).launches
      (s.rd (R.FN_CFG_LAUNCH_PG f)) instant ((s.fnS f).lastLaunch.map (fun (l : Int) => (l, (s.fnS
      f).launchSteps))) = true ∧ s.dueSlots (fun (e : SlotS) => actClass e.action = 1 && actTarget e.action / 16 =
      f && e.instant ≤ instant) = [] ∧ ((s.idxS f 0).opAt instant).ovr = none ∧ (s.entry f).pubs.all (fun (p :
      PubS) => p.x.dstep ≠ 3) = true ∧ (s.fnS f).taken.all (fun (y : Side) => y.dstep ≠ 3) = true))
      2000000 5 2000000 [] false 4 ({ w [(R.LN_PG_CFG_EN 9, 1), (R.LN_PG_PERIOD 9, 2000000), (R.FN_CFG_LAUNCH_PG 5, 9), (R.FN_CFG_PATH 5, 1), (R.FN_CFG_CHAN 5, 7), (R.FN_SP_VAL2_FIXED 5 0, 0x43FA0000), (R.FN_SP_LIM_MAX 5 0, 0x44480000)] with ln := { running := true } }.setFn 5 { running := true, causes := [] }) &&
    (fun (t : Nat) (f : Nat) (instant : Int) (_rs : List (Nat × Nat)) (_wm : Bool) (_ds : Nat) (s : State) =>
      decide (f < 48 ∧ f ≠ 27 ∧ s.rd (R.FN_CFG_PATH f) = 1 ∧ s.rd (R.FN_CFG_UNIT f) = s.role.unit ∧ s.rd
      (R.FN_CFG_SOURCE f) = 0 ∧ s.rd (R.FN_CFG_OBS_BOUND f) = 0 ∧ s.rd (R.FN_CFG_NSP f) = 0 ∧ s.rd
      (R.FN_CFG_LOOP_COUNT f) = 0 ∧ (s.fnS f).running = true ∧ (s.fnS f).restartAt = none ∧ (s.begin t).launches
      (s.rd (R.FN_CFG_LAUNCH_PG f)) instant ((s.fnS f).lastLaunch.map (fun (l : Int) => (l, (s.fnS
      f).launchSteps))) = true ∧ s.dueSlots (fun (e : SlotS) => actClass e.action = 1 && actTarget e.action / 16 =
      f && e.instant ≤ instant) = [] ∧ ((s.idxS f 0).opAt instant).ovr = none ∧ (s.entry f).pubs.all (fun (p :
      PubS) => p.x.dstep ≠ 3) = true ∧ (s.fnS f).taken.all (fun (y : Side) => y.dstep ≠ 3) = true))
      2000000 5 2000000 [] false 4 ({ w [(R.LN_PG_CFG_EN 9, 1), (R.LN_PG_PERIOD 9, 2000000), (R.FN_CFG_LAUNCH_PG 5, 9), (R.FN_CFG_PATH 5, 1), (R.FN_CFG_CHAN 5, 7), (R.FN_SP_VAL2_FIXED 5 0, 0x43FA0000), (R.FN_SP_LIM_MAX 5 0, 0x44480000), (R.FN_SP_RATE 5 0, 0x42C80000)] with ln := { running := true } }.setFn 5 { running := true, causes := [], lastLaunch := some 0 }) &&
    (fun (t : Nat) (f : Nat) (instant : Int) (a : Int) (_rs : List (Nat × Nat)) (_wm : Bool) (_ds : Nat) (s :
      State) => decide (f < 48 ∧ f ∉ [8, 27, 29] ∧ s.rd (R.FN_CFG_PATH f) ∈ [1, 2] ∧ s.rd (R.FN_CFG_UNIT f) =
      s.role.unit ∧ (s.fnS f).restartAt = some a ∧ a ≤ instant ∧ (s.fnS f).causes = [] ∧ (s.fnS f).changeSet =
      false ∧ (s.begin t).launches (s.rd (R.FN_CFG_LAUNCH_PG f)) instant ((s.fnS f).lastLaunch.map (fun (l : Int)
      => (l, (s.fnS f).launchSteps))) = true ∧ s.dueSlots (fun (e : SlotS) => actClass e.action = 1 && actTarget
      e.action / 16 = f && e.instant ≤ instant) = [] ∧ Room s))
      2000000 5 2000000 2000000 [] false 4 ({ w [(R.LN_PG_CFG_EN 9, 1), (R.LN_PG_PERIOD 9, 2000000), (R.FN_CFG_LAUNCH_PG 5, 9), (R.FN_CFG_PATH 5, 1)] with ln := { running := true } }.setFn 5 { causes := [], restartAt := some 2000000 }) &&
    (fun (_t : Nat) (n : Nat) (f : Nat) (i : Nat) (v : Nat) (_d : Nat) (_ovr : Bool) (s : State) => decide (n ≠
      0 ∧ s.ses.open_.any (fun p => p.2.num = n) = true ∧ s.classAtLeast n 1 = true ∧ s.turn n (.setpoint f) =
      true ∧ f < 48 ∧ f ≠ 27 ∧ s.fnUsed f = true ∧ i ≤ s.rd (R.FN_CFG_NSP f) ∧ s.rdF (R.FN_SP_OPLIM_OPMIN f i) ≤
      f32 v ∧ f32 v ≤ s.rdF (R.FN_SP_OPLIM_OPMAX f i)))
      0 1 5 0 0x41200000 9 true ((wS 1 6 [(R.FN_CFG_PATH 5, 1), (R.FN_SP_OPLIM_OPMIN 5 0, 0x41200000), (R.FN_SP_OPLIM_OPMAX 5 0, 0x41200000)]).setFn 5 { running := true }) &&
    (fun (t : Nat) (n : Nat) (f : Nat) (i : Nat) (v : Nat) (_d : Nat) (_ovr : Bool) (s : State) => decide (n ≠ 0
      ∧ s.ses.open_.any (fun p => p.2.num = n) = true ∧ s.classAtLeast n 1 = true ∧ s.turn n (.setpoint f) = true
      ∧ f < 48 ∧ f ≠ 27 ∧ s.fnUsed f = true ∧ i ≤ s.rd (R.FN_CFG_NSP f) ∧ s.rdF (R.FN_SP_OPLIM_OPMAX f i) < f32 v
      ∧ (s.begin t).mayLog 0x3045 f 1000000000 = true ∧ Room s))
      0 1 5 0 0x41200001 9 true (wS 1 6 [(R.FN_CFG_PATH 5, 1), (R.FN_SP_OPLIM_OPMAX 5 0, 0x41200000)]) &&
    (fun (_t : Nat) (f : Nat) (i : Nat) (v : Nat) (c : CandIn) (x : Int) (s : State) => decide (s.observing =
      true ∧ s.optWaits = false ∧ s.rd R.OBS_STAT_DSTEP ≠ 3 ∧ s.optFns.contains f = true ∧ s.rd (R.FN_CFG_SOURCE
      f) = 2 ∧ i ≤ s.rd (R.FN_CFG_NSP f) ∧ c.values = [(f, i, v, x)]))
      0 5 0 0x41200000 { values := [(5, 0, 0x41200000, 0)], feed := 0, rotorLoss := 0, shoeLoss := 0, damage := 0, mog := 0 } 0 (w [(R.MODE_STAT_MODE, 6), (R.OBS_STAT_RUN, 1), (R.OBS_STAT_DSTEP, 0), (R.FN_CFG_PATH 5, 1), (R.FN_CFG_SOURCE 5, 2)]) &&
    (fun (_t : Nat) (_l : List CandIn) (s : State) => decide (s.observing = true ∧ s.optWaits = true))
      0 [] (w [(R.MODE_STAT_MODE, 6), (R.OBS_STAT_RUN, 1), (R.OBS_STAT_WARMING, 1)]) &&
    (fun (_t : Nat) (n : Nat) (g : Nat) (s : State) => decide (n ≠ 0 ∧ s.ses.open_.any (fun p => p.2.num = n) =
      true ∧ s.classAtLeast n 1 = true ∧ s.turn n (.goal) = true ∧ g ≤ 7 ∧ 0 < s.rd (R.FN_GOAL_W_THR g) + s.rd
      (R.FN_GOAL_W_LOSS g) + s.rd (R.FN_GOAL_W_QUAL g) + s.rd (R.FN_GOAL_W_FUEL g)))
      0 1 7 (wS 1 6 [(R.FN_GOAL_W_FUEL 7, 1)]) &&
    (fun (_t : Nat) (n : Nat) (g : Nat) (s : State) => decide (n ≠ 0 ∧ s.ses.open_.any (fun p => p.2.num = n) =
      true ∧ s.classAtLeast n 1 = true ∧ s.turn n (.goal) = true ∧ g ≤ 7 ∧ s.rd (R.FN_GOAL_W_THR g) + s.rd
      (R.FN_GOAL_W_LOSS g) + s.rd (R.FN_GOAL_W_QUAL g) + s.rd (R.FN_GOAL_W_FUEL g) = 0 ∧ Room s))
      0 1 3 (wS 3 6 [(R.FN_GOAL_W_THR 3, 0), (R.FN_GOAL_W_LOSS 3, 0), (R.FN_GOAL_W_QUAL 3, 0), (R.FN_GOAL_W_FUEL 3, 0)]) &&
    (fun (_t : Nat) (n : Nat) (f : Nat) (s : State) => decide (n ≠ 0 ∧ s.ses.open_.any (fun p => p.2.num = n) =
      true ∧ s.classAtLeast n 1 = true ∧ s.turn n (.fnStop f) = true ∧ f < 48 ∧ f ≠ 27 ∧ s.fnMine f = true ∧
      (s.fnS f).running = true ∧ (s.loopsOf f).length ≤ 32 ∧ Room s))
      0 1 5 { (wS 1 6 [(R.FN_CFG_PATH 5, 1)]).setFn 5 { running := true, causes := [] } with ln := { slots := [(0, { out := .queued, action := 0x1050 })] } } &&
    (fun (_t : Nat) (n : Nat) (f : Nat) (_tj : Int) (_rr : Nat × List Int) (s : State) => decide (n ≠ 0 ∧
      s.ses.open_.any (fun p => p.2.num = n) = true ∧ s.classAtLeast n 2 = true ∧ s.turn n (.fnRestart f) = true ∧
      f < 48 ∧ f ∉ [8, 27, 29] ∧ s.fnMine f = true ∧ s.rd (R.FN_CFG_PATH f) ∈ [1, 3] ∧ s.tunedLoop f = none ∧
      s.pathBlocks f = none ∧ (s.fnS f).running = false))
      0 1 5 0 (0, []) ((wS 2 6 [(R.FN_CFG_PATH 5, 1), (R.FN_CFG_CHAN 5, 3)]).setFn 5 { causes := [1, 4] }) &&
    (fun (_t : Nat) (n : Nat) (f : Nat) (l : Nat) (_tj : Int) (_rr : Nat × List Int) (s : State) => decide (n ≠
      0 ∧ s.ses.open_.any (fun p => p.2.num = n) = true ∧ s.classAtLeast n 2 = true ∧ s.turn n (.fnRestart f) =
      true ∧ f < 48 ∧ f ≠ 27 ∧ s.fnUsed f = true ∧ s.rd (R.FN_CFG_PATH f) ≠ 2 ∧ s.tunedLoop f = some l ∧ Room s))
      0 1 5 40 0 (0, []) ((wS 2 6 [(R.FN_CFG_PATH 5, 1), (R.FN_CFG_CHAN 5, 3), (R.FN_CFG_LOOP_FIRST 5, 40), (R.FN_CFG_LOOP_COUNT 5, 1), (R.CE_L_CFG_LAW 40, 1)]).setLoop 40 { tune := some { rule := 0, reverse := false, settle := 1, cycles := 3, timeout := 10, amp := 1, hys := 1, band := 1, bias := 0 } })) = true := by decide +kernel

theorem test_meets_FunctionsComplete_2 : (
    (fun (_t : Nat) (n : Nat) (f : Nat) (k : Nat) (v : Nat) (_r : Bool) (_rr : Nat × List Int) (s : State) =>
      decide (n ≠ 0 ∧ s.ses.open_.any (fun p => p.2.num = n) = true ∧ s.classAtLeast n 3 = true ∧ s.turn n
      (.changeSet f) = true ∧ f < 48 ∧ s.fnMine f = true ∧ s.tunedLoop f = none ∧ s.firstBad f [(k, v)] = none ∧
      s.amend.length < 256 ∧ (s.fnS f).running = false ∧ s.rd (R.FN_CFG_UNIT f) = s.role.unit))
      0 1 5 (R.FN_CFG_STALE 5) 3 true (0, []) (wS 3 6 [(R.FN_CFG_PATH 5, 1)]) &&
    (fun (_t : Nat) (n : Nat) (f : Nat) (i : Nat) (r : Nat) (ws : List (Nat × Nat)) (_b : Bool) (_rr : Nat ×
      List Int) (s : State) => decide (n ≠ 0 ∧ s.ses.open_.any (fun p => p.2.num = n) = true ∧ s.classAtLeast n 3
      = true ∧ s.turn n (.changeSet f) = true ∧ f < 48 ∧ s.fnMine f = true ∧ s.tunedLoop f = none ∧ s.firstBad f
      ws = some (i, r) ∧ Room s))
      0 1 5 1 1 [(R.FN_CFG_STALE 5, 3), (R.FN_CFG_STALE 6, 3)] true (0, []) (wS 3 6 [(R.FN_CFG_PATH 5, 1)]) &&
    (fun (_t : Nat) (n : Nat) (s : State) => decide (n ≠ 0 ∧ s.ses.open_.any (fun p => p.2.num = n) = true ∧
      s.classAtLeast n 3 = true ∧ s.turn n (.amendRead) = true ∧ Room s))
      0 1 { wS 3 8 with amend := [{ unit := 0, kind := 1, key := 0x102001, value := 9 }] } &&
    (fun (_t : Nat) (n : Nat) (s : State) => decide (n ≠ 0 ∧ s.ses.open_.any (fun p => p.2.num = n) = true ∧
      s.classAtLeast n 3 = true ∧ s.turn n (.amendRead) = true ∧ Room s))
      0 1 (wS 3 6) &&
    (fun (_t : Nat) (n : Nat) (s : State) => decide (n ≠ 0 ∧ s.ses.open_.any (fun p => p.2.num = n) = true ∧
      s.classAtLeast n 3 = true ∧ s.turn n (.amendCommit) = true ∧ Room s))
      0 1 { wS 3 8 with amend := [{ unit := 0, kind := 1, key := 0x102001, value := 9 }] } &&
    (fun (_t : Nat) (n : Nat) (s : State) => decide (n ≠ 0 ∧ s.ses.open_.any (fun p => p.2.num = n) = true ∧
      s.classAtLeast n 3 = true ∧ s.turn n (.amendCommit) = true ∧ Room s))
      0 1 (wS 3 6)) = true := by decide +kernel

theorem test_meets_EnginesComplete_1 : (
    (fun (t : Nat) (l : Nat) (f : Nat) (instant : Int) (s : State) => decide (l < 256 ∧ s.fnOfLoop l = some f ∧
      (s.begin t).launches (s.rd (R.CE_L_CFG_SAMPLE_PG l)) instant (s.loopS l).sampled = true ∧ s.rd
      (R.CE_E_STAT_STATE (s.rd (R.CE_L_CFG_ENGINE l))) ≠ 2))
      1000 40 5 1000 { w [(R.LN_PG_CFG_EN 9, 1), (R.LN_PG_PERIOD 9, 1000), (R.CE_L_CFG_SAMPLE_PG 40, 9), (R.FN_CFG_PATH 5, 1), (R.FN_CFG_CHAN 5, 3), (R.FN_CFG_LOOP_FIRST 5, 40), (R.FN_CFG_LOOP_COUNT 5, 1), (R.CE_L_CFG_LAW 40, 5), (R.CE_L_COEF 40 1, 0x43480000), (R.CE_L_LIM_UMAX 40, 0x447A0000), (R.CE_L_CFG_ENGINE 40, 2), (R.CE_E_STAT_PHYS 4, 4)] with ln := { running := true } } &&
    (fun (t : Nat) (l : Nat) (f : Nat) (instant : Int) (s : State) => decide (l < 256 ∧ s.fnOfLoop l = some f ∧
      (s.begin t).launches (s.rd (R.CE_L_CFG_SAMPLE_PG l)) instant (s.loopS l).sampled = true ∧ s.rd
      (R.CE_E_STAT_STATE (s.rd (R.CE_L_CFG_ENGINE l))) ≠ 2))
      1000 40 5 1000 ({ w [(R.LN_PG_CFG_EN 9, 1), (R.LN_PG_PERIOD 9, 1000), (R.CE_L_CFG_SAMPLE_PG 40, 9), (R.FN_CFG_PATH 5, 1), (R.FN_CFG_CHAN 5, 3), (R.FN_CFG_LOOP_FIRST 5, 40), (R.FN_CFG_LOOP_COUNT 5, 1), (R.CE_L_CFG_LAW 40, 5), (R.CE_L_COEF 40 1, 0x43480000), (R.CE_L_LIM_UMAX 40, 0x447A0000), (R.CE_L_CFG_ENGINE 40, 2), (R.CE_E_STAT_PHYS 4, 4)] with ln := { running := true } }.setWaiting 2 [{ loop := 40, instant := 0, meas := none }]) &&
    (fun (_t : Nat) (e : Nat) (f : Nat) (m : Nat) (x : SampleS) (s : State) => decide (s.eng.takeover = none ∧ e
      < 4 ∧ x.loop < 256 ∧ s.rd (R.CE_E_STAT_STATE e) ≠ 2 ∧ s.nextSample e = some x ∧ s.fnOfLoop x.loop = some f ∧
      (s.loopS x.loop).tune = none ∧ s.tunedLoop f = none ∧ (s.fnS f).running = true ∧ x.meas = some m))
      0 2 5 0x3F800000 { loop := 40, instant := 0, meas := some 0x3F800000 } (((w [(R.FN_CFG_PATH 5, 1), (R.FN_CFG_CHAN 5, 3), (R.FN_CFG_LOOP_FIRST 5, 40), (R.FN_CFG_LOOP_COUNT 5, 1), (R.CE_L_CFG_LAW 40, 5), (R.CE_L_COEF 40 1, 0x43480000), (R.CE_L_LIM_UMAX 40, 0x447A0000), (R.CE_L_CFG_ENGINE 40, 2), (R.CE_E_STAT_PHYS 4, 4)]).setFn 5 { running := true }).setWaiting 2 [{ loop := 40, instant := 0, meas := some 0x3F800000 }]) &&
    (fun (_t : Nat) (e : Nat) (f : Nat) (x : SampleS) (s : State) => decide (s.eng.takeover = none ∧ e < 4 ∧
      x.loop < 256 ∧ s.rd (R.CE_E_STAT_STATE e) ≠ 2 ∧ s.nextSample e = some x ∧ s.fnOfLoop x.loop = some f ∧
      (s.loopS x.loop).tune = none ∧ s.tunedLoop f = none ∧ (s.fnS f).running = true ∧ x.meas = none ∧ (s.loopS
      x.loop).missed + 1 ≠ s.rd (R.CE_L_CFG_MISS_LIMIT x.loop)))
      0 2 5 { loop := 40, instant := 0, meas := none } (((w [(R.FN_CFG_PATH 5, 1), (R.FN_CFG_CHAN 5, 3), (R.FN_CFG_LOOP_FIRST 5, 40), (R.FN_CFG_LOOP_COUNT 5, 1), (R.CE_L_CFG_LAW 40, 5), (R.CE_L_COEF 40 1, 0x43480000), (R.CE_L_LIM_UMAX 40, 0x447A0000), (R.CE_L_CFG_ENGINE 40, 2), (R.CE_E_STAT_PHYS 4, 4)]).setFn 5 { running := true }).setWaiting 2 [{ loop := 40, instant := 0, meas := none }]) &&
    (fun (_t : Nat) (n : Nat) (q : TuneIn) (s : State) => decide (n ≠ 0 ∧ s.ses.open_.any (fun p => p.2.num = n)
      = true ∧ s.classAtLeast n 3 = true ∧ s.turn n (.autotune) = true ∧ q.loop ≤ 255 ∧ s.rd (R.CE_L_CFG_LAW
      q.loop) = 1 ∧ (s.mode = Mode.FIELD_IDLE ∨ s.mode = Mode.TEST) ∧ s.tuneBusy q.loop = none ∧ s.tuneField q (if
      q.bias = 0x7FC00000 then s.rdF (R.CE_L_NOW_U q.loop) else f32 q.bias) = none))
      0 1 { loop := 40, rule := 1, flags := 0, settle := 1, cycles := 2, timeout := 10, amp := 0x42C80000, hys := 0x3F800000, band := 0x41200000, bias := 0x43480000 } ((wS 3 5 [(R.FN_CFG_PATH 5, 1), (R.FN_CFG_CHAN 5, 3), (R.FN_CFG_LOOP_FIRST 5, 40), (R.FN_CFG_LOOP_COUNT 5, 1), (R.CE_L_CFG_LAW 40, 1), (R.CE_L_LIM_UMAX 40, 0x447A0000)]).setFn 5 { running := true }) &&
    (fun (_t : Nat) (n : Nat) (q : TuneIn) (s : State) => decide (n ≠ 0 ∧ s.ses.open_.any (fun p => p.2.num = n)
      = true ∧ s.classAtLeast n 3 = true ∧ s.turn n (.autotune) = true ∧ q.loop ≤ 255 ∧ s.rd (R.CE_L_CFG_LAW
      q.loop) ≠ 0 ∧ s.mode ≠ Mode.FIELD_IDLE ∧ s.mode ≠ Mode.TEST ∧ Room s))
      0 1 { loop := 40, rule := 1, flags := 0, settle := 1, cycles := 2, timeout := 10, amp := 0, hys := 0, band := 0, bias := 0 } (wS 3 6 [(R.CE_L_CFG_LAW 40, 1)]) &&
    (fun (_t : Nat) (e : Nat) (_slot : Nat) (s : State) => decide (e < 4 ∧ s.rd (R.CE_E_STAT_STATE e) = 0 ∧ s.rd
      (R.CE_E_STAT_STATE 4) = 0 ∧ s.rd (R.CE_E_STAT_PHYS 4) ≠ 7 ∧ Room s))
      0 3 63 (w [(R.FN_CFG_PATH 5, 1), (R.FN_CFG_CHAN 5, 3), (R.FN_CFG_LOOP_FIRST 5, 40), (R.FN_CFG_LOOP_COUNT 5, 1), (R.CE_L_CFG_LAW 40, 5), (R.CE_L_COEF 40 1, 0x43480000), (R.CE_L_LIM_UMAX 40, 0x447A0000), (R.CE_L_CFG_ENGINE 40, 2), (R.CE_E_STAT_PHYS 4, 4)]) &&
    (fun (_t : Nat) (e : Nat) (_slot : Nat) (s : State) => decide (e < 4 ∧ ((s.rd (R.CE_E_STAT_STATE e) ≠ 0 ∨
      s.rd (R.CE_E_STAT_STATE 4) ≠ 0 ∨ s.rd (R.CE_E_STAT_PHYS 4) = 7)) ∧ s.loopsOn e = [] ∧ Room s))
      0 3 63 (w [(R.CE_E_STAT_PHYS 4, 7)]) &&
    (fun (_t : Nat) (e : Nat) (t0 : Nat) (s : State) => decide (e < 4 ∧ s.eng.takeover = some (e, t0)))
      900 3 100 { w [(R.CE_E_STAT_PHYS 4, 4)] with eng := { takeover := some (3, 100) } } &&
    (fun (_t : Nat) (_ok : Bool) (s : State) => decide (s.rd (R.CE_E_STAT_STATE 4) = 0 ∧ s.rd (R.CE_E_STAT_PHYS
      4) ≠ 7 ∧ Room s))
      0 false (w [(R.CE_E_STAT_PHYS 4, 4)]) &&
    (fun (_t : Nat) (_ok : Bool) (s : State) => decide (s.rd (R.CE_E_STAT_STATE 4) = 0 ∧ s.rd (R.CE_E_STAT_PHYS
      4) ≠ 7 ∧ Room s))
      0 true (w [(R.CE_E_STAT_PHYS 4, 4)]) &&
    (fun (_t : Nat) (l : Nat) (good : Nat) (_off : Nat) (f : Nat) (m : Nat) (c : CheckS) (s : State) => decide
      (good ≠ 0 ∧ l < 256 ∧ (s.loopS l).check = some c ∧ c.x.loop = l ∧ s.fnOfLoop l = some f ∧ (s.loopS l).tune =
      none ∧ s.tunedLoop f = none ∧ (s.fnS f).running = true ∧ c.x.meas = some m ∧ Room s))
      0 40 1 8 5 0x3F800000 { law := {}, last := none, closing := false, x := { loop := 40, instant := 0, meas := some 0x3F800000 }, r := 2, ff := 0 } (((w [(R.FN_CFG_PATH 5, 1), (R.FN_CFG_CHAN 5, 3), (R.FN_CFG_LOOP_FIRST 5, 40), (R.FN_CFG_LOOP_COUNT 5, 1), (R.CE_L_CFG_LAW 40, 5), (R.CE_L_COEF 40 1, 0x43480000), (R.CE_L_LIM_UMAX 40, 0x447A0000), (R.CE_L_CFG_ENGINE 40, 2), (R.CE_E_STAT_PHYS 4, 4)]).setFn 5 { running := true }).setLoop 40 { check := some { law := {}, last := none, closing := false, x := { loop := 40, instant := 0, meas := some 0x3F800000 }, r := 2, ff := 0 } })) = true := by decide +kernel

theorem test_meets_EnginesComplete_2 : (
    (fun (_t : Nat) (l : Nat) (_off : Nat) (f : Nat) (s : State) => decide (s.fnOfLoop l = some f ∧ (s.fnS
      f).running = true ∧ (s.loopsOf f).length ≤ 32 ∧ Room s))
      0 40 8 5 ((w [(R.FN_CFG_PATH 5, 1), (R.FN_CFG_CHAN 5, 3), (R.FN_CFG_LOOP_FIRST 5, 40), (R.FN_CFG_LOOP_COUNT 5, 1), (R.CE_L_CFG_LAW 40, 5), (R.CE_L_COEF 40 1, 0x43480000), (R.CE_L_LIM_UMAX 40, 0x447A0000), (R.CE_L_CFG_ENGINE 40, 2), (R.CE_E_STAT_PHYS 4, 4)]).setFn 5 { running := true })) = true := by decide +kernel

theorem test_meets_BasebandComplete : (
    (fun (_t : Nat) (c : Nat) (d : DumpIn) (s : State) => decide (c < 1024 ∧ s.gnssRuns = true ∧ s.chActive c =
      true ∧ s.rd R.CORE_PACE_SHED ≠ 4 ∧ (s.chS c).lockAt = none ∧ (s.chS c).run = 49 ∧ 800 ≤ d.pli))
      0 7 { pli := 800, cn0 := 180 } { w [(R.GN_CH_STAT_STATE 7, 2)] with gn := { on := true, ch := [(7, { run := 49, due := true })] } } &&
    (fun (t : Nat) (c : Nat) (a : Nat) (d : DumpIn) (s : State) => decide (c < 1024 ∧ s.gnssRuns = true ∧
      s.chActive c = true ∧ s.rd R.CORE_PACE_SHED ≠ 4 ∧ (s.chS c).lockAt = some a ∧ d.pli < 500 ∧ (s.chS c).low =
      false ∧ (s.begin t).mayLog 0x5004 c 1000000000 = true ∧ Room s))
      5 7 2 { pli := 499, cn0 := 180 } { w [(R.GN_CH_STAT_STATE 7, 3)] with gn := { on := true, ch := [(7, { run := 60, lockAt := some 2 })] } } &&
    (fun (_t : Nat) (c : Nat) (_a : Int) (_b : Int) (s : State) => decide (s.gnssRuns = true ∧ s.chActive c =
      true))
      0 7 3 4 { w [(R.GN_CH_STAT_STATE 7, 2)] with gn := { on := true } } &&
    (fun (t : Nat) (c : Nat) (s : State) => decide (c < 1024 ∧ s.gnssRuns = true ∧ s.chActive c = true ∧ (s.chS
      c).seenAt + 200000000 ≤ max s.now t))
      200000000 7 { w [(R.GN_CH_STAT_STATE 7, 3)] with gn := { on := true, ch := [(7, { lockAt := some 0 })] } } &&
    (fun (t : Nat) (c : Nat) (s : State) => decide (c < 1024 ∧ s.gnssRuns = true ∧ s.chActive c = true ∧ (s.chS
      c).seenAt + 200000000 ≤ max s.now t))
      200000000 7 { w [(R.GN_CH_STAT_STATE 7, 1)] with gn := { on := true } } &&
    (fun (t : Nat) (k : Nat) (x : SigIn) (s : State) => decide (s.gnssRuns = true ∧ s.gn.measAt ≠ some ((s.begin
      t).epochNow, s.tb.steps) ∧ s.rd R.CORE_PACE_SHED ≠ 4 ∧ s.gn.ch.all (fun (p : Nat × ChanS) => s.rd
      (R.GN_CH_STAT_STATE p.1) ≠ 4) = true ∧ k < 1024 ∧ s.mayAssign x = true ∧ s.chOf x.ant x.sig x.sv = none ∧
      s.channelFor x = some (k, true)))
      0 0 { ant := 1, sig := 1, sv := 7, elev := 45, cn0 := 180 } { w [(R.GN_CFG_SYSMASK, 127)] with gn := { on := true } } &&
    (fun (t : Nat) (n : Nat) (sol : SolIn) (s : State) => decide (s.gn.on = true ∧ s.islandOut 3 = false ∧
      s.gn.solAt ≠ some ((s.begin t).epochNow, s.tb.steps) ∧ n = s.satsOf (s.tracking.filter (fun (c : Nat) =>
      sol.used.contains c)) ∧ 4 ≤ n ∧ s.isWorker = false ∧ s.rd (R.GN_COR_CFG_TYPE 0) = 0 ∧ s.rd
      (R.GN_COR_CFG_TYPE 1) = 0 ∧ s.rd (R.GN_COR_CFG_TYPE 2) = 0 ∧ s.rd R.GN_STAT_CORSRC = 7 ∧ s.gn.amb = false ∧
      sol.head = none ∧ sol.toff = none ∧ Room s))
      0 4 { sbas := 4, lat := 5, lon := 6, used := [0, 1, 2, 3] } { w ([(R.GN_STAT_CORSRC, 7), (R.GN_COR_CFG_TYPE 0, 0), (R.GN_COR_CFG_TYPE 1, 0), (R.GN_COR_CFG_TYPE 2, 0), (R.GN_CH_STAT_STATE 0, 3), (R.GN_CH_STAT_SIG 0, 1), (R.GN_CH_STAT_SV 0, 1), (R.GN_CH_STAT_STATE 1, 3), (R.GN_CH_STAT_SIG 1, 1), (R.GN_CH_STAT_SV 1, 2), (R.GN_CH_STAT_STATE 2, 3), (R.GN_CH_STAT_SIG 2, 1), (R.GN_CH_STAT_SV 2, 3), (R.GN_CH_STAT_STATE 3, 3), (R.GN_CH_STAT_SIG 3, 1), (R.GN_CH_STAT_SV 3, 4)] ++[(R.GN_CFG_SYSMASK, 1)]) with gn := { on := true, ch := [(0, {}), (1, {}), (2, {}), (3, {})] } } &&
    (fun (t : Nat) (n : Nat) (sol : SolIn) (s : State) => decide (s.gn.on = true ∧ s.islandOut 3 = false ∧
      s.gn.solAt ≠ some ((s.begin t).epochNow, s.tb.steps) ∧ n = s.satsOf (s.tracking.filter (fun (c : Nat) =>
      sol.used.contains c)) ∧ 4 ≤ n ∧ s.isWorker = false ∧ s.rd (R.GN_COR_CFG_TYPE 0) = 0 ∧ s.rd
      (R.GN_COR_CFG_TYPE 1) = 0 ∧ s.rd (R.GN_COR_CFG_TYPE 2) = 0 ∧ s.rd R.GN_STAT_CORSRC = 7 ∧ s.gn.amb = false ∧
      sol.head = none ∧ sol.toff = none ∧ Room s))
      0 4 { lat := 5, lon := 6, used := [0, 1, 2, 3] } { w ([(R.GN_STAT_CORSRC, 7), (R.GN_COR_CFG_TYPE 0, 0), (R.GN_COR_CFG_TYPE 1, 0), (R.GN_COR_CFG_TYPE 2, 0), (R.GN_CH_STAT_STATE 0, 3), (R.GN_CH_STAT_SIG 0, 1), (R.GN_CH_STAT_SV 0, 1), (R.GN_CH_STAT_STATE 1, 3), (R.GN_CH_STAT_SIG 1, 1), (R.GN_CH_STAT_SV 1, 2), (R.GN_CH_STAT_STATE 2, 3), (R.GN_CH_STAT_SIG 2, 1), (R.GN_CH_STAT_SV 2, 3), (R.GN_CH_STAT_STATE 3, 3), (R.GN_CH_STAT_SIG 3, 1), (R.GN_CH_STAT_SV 3, 4)] ++[(R.GN_STAT_TVALID, 1)]) with gn := { on := true, ch := [(0, {}), (1, {}), (2, {}), (3, {})] } } &&
    (fun (_t : Nat) (x : WordIn) (s : State) => decide (s.gnssRuns = true ∧ x.utc = none ∧ s.rd
      (R.GN_CH_STAT_SIG x.ch) ≠ 0x15))
      9 { ch := 3, start := 5, check := 0, nbits := 30, bits := [1], completes := 1 } { w with gn := { on := true }, ses := { open_ := [(0, { num := 1, streams := [2] })] } } &&
    (fun (_t : Nat) (x : WordIn) (s : State) => decide (s.gnssRuns = true ∧ x.utc = none ∧ s.rd
      (R.GN_CH_STAT_SIG x.ch) ≠ 0x15))
      9 { ch := 3, start := 5, check := 1, nbits := 30, bits := [1], completes := 2 } { w with gn := { on := true } } &&
    (fun (_t : Nat) (x : WordIn) (s : State) => decide (s.gnssRuns = true ∧ x.utc = none ∧ s.rd
      (R.GN_CH_STAT_SIG x.ch) ≠ 0x15))
      9 { ch := 3, start := 5, check := 2, nbits := 30, bits := [1], completes := 1 } { w with gn := { on := true } }) = true := by decide +kernel

theorem test_meets_AntennasAndCorrectionsComplete : (
    (fun (t : Nat) (k : Nat) (m : RtcmIn) (s : State) => decide (k ≤ 2 ∧ s.gn.on = true ∧ s.isWorker = false ∧
      s.rd (R.GN_COR_CFG_TYPE k) ∈ [1, 2] ∧ (s.begin t).corConnected k = true ∧ s.rd R.GN_STAT_CORSRC ≠ k ∧
      isCorrection m.msg = true ∧ (s.corS k).station.isSome = true))
      0 1 { msg := 1077, epoch := 5 } { w [(R.GN_COR_CFG_TYPE 1, 1)] with gn := { on := true, cor := [(1, { station := some (3, (0, 0, 0)) })] } } &&
    (fun (t : Nat) (k : Nat) (_m : RtcmIn) (s : State) => decide (k ≤ 2 ∧ s.gn.on = true ∧ s.isWorker = false ∧
      s.rd (R.GN_COR_CFG_TYPE k) ∈ [1, 2] ∧ (s.begin t).corConnected k = true ∧ (s.begin t).mayLog 0x5007 k
      10000000000 = true ∧ Room s))
      0 1 { msg := 1077, epoch := 5 } { w [(R.GN_COR_CFG_TYPE 1, 1)] with gn := { on := true } } &&
    (fun (_t : Nat) (k : Nat) (_b : Bool) (_m : RtcmIn) (f : List Nat) (s : State) => decide (k ≤ 2 ∧ s.gn.on =
      true ∧ s.isWorker = false ∧ s.rd (R.GN_COR_CFG_TYPE k) = 3 ∧ (s.corS k).frames = [f]))
      0 1 true { msg := 1077 } [0xD3, 0, 0, 0, 0, 0] { w [(R.GN_COR_CFG_TYPE 1, 3)] with gn := { on := true, cor := [(1, { frames := [[0xD3, 0, 0, 0, 0, 0]] })] } } &&
    (fun (_t : Nat) (a : Nat) (c : Nat) (s : State) => decide (a ∈ [1, 2] ∧ s.gn.on = true ∧ s.antBias a ≠ 0 ∧
      s.rd (antKey a) = 1 ∧ c < 2 ∧ Room s))
      0 1 1 { w [(R.GN_CFG_ANT1_BIAS, 1), (R.GN_STAT_ANT1, 1)] with gn := { on := true } } &&
    (fun (_t : Nat) (a : Nat) (c : Nat) (s : State) => decide (a ∈ [1, 2] ∧ s.gn.on = true ∧ s.antBias a ≠ 0 ∧
      s.rd (antKey a) = 1 ∧ c < 2 ∧ Room s))
      0 2 0 { w [(R.GN_CFG_ANT2_BIAS, 1), (R.GN_STAT_ANT2, 1)] with gn := { on := true } } &&
    (fun (_t : Nat) (a : Nat) (s : State) => decide (a ∈ [1, 2] ∧ s.gn.on = true ∧ s.antBias a ≠ 0 ∧ s.rd
      (antKey a) ≠ 3 ∧ (s.antS a).trips = 0 ∧ Room s))
      0 1 { w [(R.GN_CFG_ANT1_BIAS, 1), (R.GN_STAT_ANT1, 1)] with gn := { on := true } } &&
    (fun (t : Nat) (a : Nat) (s : State) => decide (a ∈ [1, 2] ∧ s.gn.on = true ∧ s.rd (antKey a) = 3 ∧ (s.antS
      a).offAt + 1000000000 ≤ max s.now t))
      1000000000 2 { w [(R.GN_STAT_ANT2, 3)] with gn := { on := true } } &&
    (fun (t : Nat) (s : State) => decide (s.gn.on = true ∧ s.rd R.GN_STAT_SOLN ≠ 0 ∧ s.gn.retainAt +
      600000000000 ≤ max s.now t))
      600000000000 { w [(R.GN_STAT_SOLN, 1)] with gn := { on := true } } &&
    (fun (t : Nat) (s : State) => decide (s.mode = Mode.SLEEP ∧ s.gn.sleepRefresh = true ∧ s.gn.refresh = none ∧
      s.gn.refreshFrom + 14400000000000 ≤ max s.now t ∧ s.rd R.GN_CFG_EN = 1 ∧ s.tb.rtcValid = true))
      14400000000000 { w [(R.MODE_STAT_MODE, 1), (R.GN_CFG_EN, 1)] with gn := { sleepRefresh := true }, tb := { rtcValid := true, rtcEl := 5, rtcHt := 100 } } &&
    (fun (t : Nat) (b : Nat) (s : State) => decide (s.gn.refresh = some b ∧ b + 30000000000 ≤ max s.now t ∧ Room
      s))
      30000000000 0 { w [(R.MODE_STAT_MODE, 1)] with gn := { on := true, refresh := some 0 } } &&
    (fun (t : Nat) (k : Nat) (p : PvtS) (s : State) => decide (k ≤ 2 ∧ s.gn.on = true ∧ s.isWorker = false ∧
      s.rd (R.GN_COR_CFG_SEND_GGA k) = 1 ∧ s.rd (R.GN_COR_CFG_TYPE k) = 1 ∧ s.rd (R.GN_COR_CFG_KEEP k) = 1 ∧
      s.gn.pvt = some p ∧ (s.corS k).ggaAt.all (fun (a : Nat) => a + 10000000000 ≤ max s.now t) = true))
      0 2 { epoch := 1, at_ := 2, lat := 3, lon := 4, hgt := 5, vel := [], heading := 0, bpitch := 0, soln := 1, headq := 0, nsv := 9, corsrc := 0, sig := [], age := 0, station := 0 } { w [(R.GN_COR_CFG_SEND_GGA 2, 1), (R.GN_COR_CFG_TYPE 2, 1), (R.GN_COR_CFG_KEEP 2, 1)] with gn := { on := true, pvt := some { epoch := 1, at_ := 2, lat := 3, lon := 4, hgt := 5, vel := [], heading := 0, bpitch := 0, soln := 1, headq := 0, nsv := 9, corsrc := 0, sig := [], age := 0, station := 0 } } }) = true := by decide +kernel

theorem test_meets_GuidanceStepsComplete : (
    (fun (t : Nat) (_nav : NavIn) (s : State) => decide (s.isWorker = false ∧ (s.mode = Mode.FIELD_IDLE ∨ s.mode
      = Mode.HARVEST) ∧ (s.begin t).stepDue = true ∧ s.activeLine = none ∧ s.rd R.GD_STAT_STATE < 2))
      100000 {} (let s := w ([(R.MODE_STAT_MODE, 6), (R.GD_CFG_MIN_SOLN, 2), (R.GD_STAT_LINE_ID, 7)] ++ []); { s with gn := { s.gn with pvt := some { epoch := 5, at_ := 0, lat := 0, lon := 0, hgt := 0, vel := [0, 0, 0], heading := 0x41200000, bpitch := 0, soln := 4, headq := 2, nsv := 9, age := 0, station := 0, corsrc := 0, sig := [] } }, ego := some { time := 0, speed := 0x40000000, pitch := 0, src := 0 }, gd := {} }) &&
    (fun (t : Nat) (nav : NavIn) (l : LineIn) (s : State) => decide (s.isWorker = false ∧ (s.mode =
      Mode.FIELD_IDLE ∨ s.mode = Mode.HARVEST) ∧ (s.begin t).stepDue = true ∧ s.activeLine = some l ∧ l.typ ≠ 3 ∧
      s.rd R.GD_STAT_STATE = 2 ∧ s.gd.turn = none ∧ s.gd.turnReq = none ∧ s.gd.newLine = false ∧ ((s.begin
      t).findStep nav).lost = false ∧ (s.begin t).takenOver = false ∧ -(3 / 10) < (s.begin t).along ((s.begin
      t).findStep nav)))
      100000 {} { id := 7, typ := 1, spacing := 9000, npts := 2, pts := [(0, 0), (0, 100000)] } (let s := w ([(R.MODE_STAT_MODE, 6), (R.GD_CFG_MIN_SOLN, 2), (R.GD_STAT_LINE_ID, 7)] ++ [(R.GD_STAT_STATE, 2), (R.GD_STAT_HDGSRC, 1), (R.GD_GAIN_K_X, 0x3E800000), (R.GD_GAIN_K_H, 0x3F800000), (R.GD_CFG_MAX_ANGLE, 140), (R.GD_GEOM_WHEELBASE, 4000)]); { s with gn := { s.gn with pvt := some { epoch := 5, at_ := 0, lat := 0, lon := 0, hgt := 0, vel := [0, 0, 0], heading := 0x41200000, bpitch := 0, soln := 4, headq := 2, nsv := 9, age := 0, station := 0, corsrc := 0, sig := [] } }, ego := some { time := 0, speed := 0x40000000, pitch := 0, src := 0 }, gd := { lines := [{ id := 7, typ := 1, spacing := 9000, npts := 2, pts := [(0, 0), (0, 100000)] }] } }) &&
    (fun (t : Nat) (_nav : NavIn) (l : LineIn) (s : State) => decide (s.isWorker = false ∧ (s.mode =
      Mode.FIELD_IDLE ∨ s.mode = Mode.HARVEST) ∧ (s.begin t).stepDue = true ∧ s.activeLine = some l ∧ l.typ ≠ 3 ∧
      s.rd R.GD_STAT_STATE = 2 ∧ s.gd.turn = none ∧ s.gd.turnReq = none ∧ s.gd.newLine = false ∧ (s.begin
      t).takenOver = true ∧ Room s))
      100000 {} { id := 7, typ := 1, spacing := 9000, npts := 2, pts := [(0, 0), (0, 100000)] } (let s := w ([(R.MODE_STAT_MODE, 6), (R.GD_CFG_MIN_SOLN, 2), (R.GD_STAT_LINE_ID, 7)] ++ [(R.GD_STAT_STATE, 2), (R.GD_STAT_HDGSRC, 1), (R.GD_CFG_TAKEOVER, 3), (R.UI_STAT_ACTIVE 3, 1), (R.GD_CFG_MAX_ANGLE, 140), (R.GD_GEOM_WHEELBASE, 4000)]); { s with gn := { s.gn with pvt := some { epoch := 5, at_ := 0, lat := 0, lon := 0, hgt := 0, vel := [0, 0, 0], heading := 0x41200000, bpitch := 0, soln := 4, headq := 2, nsv := 9, age := 0, station := 0, corsrc := 0, sig := [] } }, ego := some { time := 0, speed := 0x40000000, pitch := 0, src := 0 }, gd := { lines := [{ id := 7, typ := 1, spacing := 9000, npts := 2, pts := [(0, 0), (0, 100000)] }] } })) = true := by decide +kernel

theorem test_meets_GuidanceRequestsComplete : (
    (fun (_t : Nat) (n : Nat) (_tj : Int) (_rr : Nat × List Int) (s : State) => decide (n ≠ 0 ∧ s.ses.open_.any
      (fun p => p.2.num = n) = true ∧ s.classAtLeast n 1 = true ∧ s.turn n (.engage) = true ∧ s.isWorker = false ∧
      s.fnUsed 27 = true ∧ s.rd R.GD_STAT_STATE = 1 ∧ s.tunedLoop 27 = none ∧ s.interlock 27 = none ∧ s.rd
      (R.FN_CFG_PATH 27) ≠ 2 ∧ s.pathBlocks 27 = none ∧ s.forwards 27 = true ∧ Room s))
      0 1 0 (0, []) (wS 1 6 [(R.GD_STAT_STATE, 1), (R.FN_CFG_PATH 27, 1), (R.FN_CFG_UNIT 27, 2)]) &&
    (fun (_t : Nat) (n : Nat) (_tj : Int) (_rr : Nat × List Int) (s : State) => decide (n ≠ 0 ∧ s.ses.open_.any
      (fun p => p.2.num = n) = true ∧ s.classAtLeast n 1 = true ∧ s.turn n (.engage) = true ∧ s.isWorker = false ∧
      s.fnMine 27 = true ∧ s.rd R.GD_STAT_STATE = 1 ∧ s.tunedLoop 27 = none ∧ s.interlock 27 = none ∧ s.rd
      (R.FN_CFG_PATH 27) ∈ [1, 3] ∧ s.pathBlocks 27 = none ∧ (s.fnS 27).running = false ∧ Room s))
      0 1 0 (0, []) (wS 1 6 [(R.GD_STAT_STATE, 1), (R.FN_CFG_PATH 27, 1), (R.FN_CFG_CHAN 27, 4)]) &&
    (fun (_t : Nat) (n : Nat) (_tj : Int) (_rr : Nat × List Int) (s : State) => decide (n ≠ 0 ∧ s.ses.open_.any
      (fun p => p.2.num = n) = true ∧ s.classAtLeast n 1 = true ∧ s.turn n (.engage) = true ∧ s.isWorker = false ∧
      s.fnUsed 27 = true ∧ s.rd R.GD_STAT_STATE ≠ 1 ∧ s.rd (R.FN_CFG_PATH 27) ≠ 2 ∧ Room s))
      0 1 0 (0, []) (wS 1 6 [(R.FN_CFG_PATH 27, 1), (R.FN_CFG_UNIT 27, 2)]) &&
    (fun (_t : Nat) (n : Nat) (_right : Bool) (l : LineIn) (s : State) => decide (n ≠ 0 ∧ s.ses.open_.any (fun p
      => p.2.num = n) = true ∧ s.classAtLeast n 1 = true ∧ s.turn n (.turn) = true ∧ s.activeLine = some l ∧ l.typ
      ≠ 3 ∧ bitOf l.flags 0 = false ∧ s.rd R.GD_STAT_STATE = 2 ∧ s.gd.turn = none ∧ Room s))
      0 1 true { id := 7, typ := 1, spacing := 9000, npts := 2, pts := [(0, 0), (0, 100000)] } (let s := wS 1 6 [(R.GD_STAT_STATE, 2), (R.GD_STAT_LINE_ID, 7), (R.GD_STAT_PASS, 0xFFFF)]; { s with gd := { lines := [{ id := 7, typ := 1, spacing := 9000, npts := 2, pts := [(0, 0), (0, 100000)] }], back := true } }) &&
    (fun (_t : Nat) (n : Nat) (_right : Bool) (l : LineIn) (s : State) => decide (n ≠ 0 ∧ s.ses.open_.any (fun p
      => p.2.num = n) = true ∧ s.classAtLeast n 1 = true ∧ s.turn n (.turn) = true ∧ s.activeLine = some l ∧ l.typ
      ≠ 3 ∧ bitOf l.flags 0 = false ∧ s.rd R.GD_STAT_STATE = 2 ∧ s.gd.turn = none ∧ Room s))
      0 1 false { id := 7, typ := 1, spacing := 9000, npts := 2, pts := [(0, 0), (0, 100000)] } (let s := wS 1 6 [(R.GD_STAT_STATE, 2), (R.GD_STAT_LINE_ID, 7), (R.GD_STAT_PASS, 0xFFFF)]; { s with gd := { lines := [{ id := 7, typ := 1, spacing := 9000, npts := 2, pts := [(0, 0), (0, 100000)] }], back := true } }) &&
    (fun (_t : Nat) (n : Nat) (_right : Bool) (s : State) => decide (n ≠ 0 ∧ s.ses.open_.any (fun p => p.2.num =
      n) = true ∧ s.classAtLeast n 1 = true ∧ s.turn n (.turn) = true ∧ s.rd R.GD_STAT_STATE ≠ 2))
      0 1 true (wS 1 6) &&
    (fun (_t : Nat) (n : Nat) (b : List Nat) (s : State) => decide (n ≠ 0 ∧ s.ses.open_.any (fun p => p.2.num =
      n) = true ∧ s.svcRefusal n 0x0030 [Cls.SERVICE] = none ∧ s.lineFault b = 0 ∧ s.rd R.GD_STAT_LINE_ID ≠
      (lineOf b).id))
      0 1 wLine (wS 3 6) &&
    (fun (_t : Nat) (n : Nat) (b : List Nat) (s : State) => decide (n ≠ 0 ∧ s.ses.open_.any (fun p => p.2.num =
      n) = true ∧ s.svcRefusal n 0x0030 [Cls.SERVICE] = none ∧ s.lineFault b = 0 ∧ s.rd R.GD_STAT_LINE_ID =
      (lineOf b).id ∧ s.gd.lines.any (fun x => x.id = (lineOf b).id) = true ∧ 2 ≤ s.rd R.GD_STAT_STATE ∧ Room s))
      0 1 wLine (let s := wS 3 6 [(R.GD_STAT_STATE, 2), (R.GD_STAT_LINE_ID, 7)]; { s with gd := { lines := [{ id := 7, typ := 1, spacing := 9000, npts := 2, pts := [(0, 0), (0, 100000)] }] } }) &&
    (fun (_t : Nat) (n : Nat) (b : List Nat) (s : State) => decide (n ≠ 0 ∧ s.ses.open_.any (fun p => p.2.num =
      n) = true ∧ s.svcRefusal n 0x0030 [Cls.SERVICE] = none ∧ s.lineFault b ≠ 0 ∧ Room s))
      0 1 (wLine.drop 1) (wS 3 6) &&
    (fun (_t : Nat) (n : Nat) (b : List Nat) (s : State) => decide (n ≠ 0 ∧ s.ses.open_.any (fun p => p.2.num =
      n) = true ∧ s.svcRefusal n 0x0030 [Cls.SERVICE] = none ∧ s.lineFault b ≠ 0 ∧ Room s))
      0 1 (wLine.take 51 ++ [0]) (wS 3 6) &&
    (fun (_t : Nat) (n : Nat) (id : Nat) (l : LineIn) (s : State) => decide (n ≠ 0 ∧ s.ses.open_.any (fun p =>
      p.2.num = n) = true ∧ s.classAtLeast n 1 = true ∧ s.turn n (.line) = true ∧ s.gd.lines.find? (fun x => x.id
      = id) = some l ∧ (l.typ ≠ 3 ∨ s.rd R.GD_CFG_EDGE_EN = 1)))
      0 1 7 { id := 7, typ := 1, spacing := 9000, npts := 2, pts := [(0, 0), (0, 100000)] } (let s := wS 1 6 [(R.GD_STAT_STATE, 4)]; { s with gd := { lines := [{ id := 7, typ := 1, spacing := 9000, npts := 2, pts := [(0, 0), (0, 100000)] }] } }) &&
    (fun (_t : Nat) (n : Nat) (id : Nat) (s : State) => decide (n ≠ 0 ∧ s.ses.open_.any (fun p => p.2.num = n) =
      true ∧ s.classAtLeast n 1 = true ∧ s.turn n (.line) = true ∧ s.gd.lines.find? (fun x => x.id = id) = none ∧
      Room s))
      0 1 7 (wS 1 6)) = true := by decide +kernel

theorem test_meets_YieldComplete : (
    (fun (_t : Nat) (_time : Int) (_flow : Nat) (s : State) => decide (s.flowBound = true ∧ s.mapping = false))
      0 5 0x40000000 (w [(R.OBS_IN_CFG_CLASS 0, 5), (R.OBS_IN_CFG_ORDINAL 0, 0)]) &&
    (fun (_t : Nat) (time : Int) (last : Int) (_flow : Nat) (s : State) => decide (s.flowBound = true ∧
      s.mapping = true ∧ s.ym.lastT = some last ∧ last ≤ time ∧ time - last ≤ 3 * (s.flowPeriod : Int) ∧
      s.ym.open_ = [] ∧ s.ym.closed = none ∧ s.ym.recs = [] ∧ s.ym.widths = [] ∧ 1000 ≤ s.rd
      R.GD_GEOM2_HDR_WIDTH))
      0 1000000 900000 0x40000000 (let s := (w [(R.MODE_STAT_MODE, 6), (R.YM_CFG_EN, 1), (R.GD_GEOM2_HDR_WIDTH, 9000), (R.YM_CFG_STD_MOIST, 145), (R.OBS_IN_CFG_CLASS 0, 5), (R.OBS_IN_CFG_ORDINAL 0, 0)] ).setBind 0 { period := 1000000 }; { s with ym := { lastT := some 900000 } }) &&
    (fun (_t : Nat) (n : Nat) (s : State) => decide (n ≠ 0 ∧ s.ses.open_.any (fun p => p.2.num = n) = true ∧
      s.classAtLeast n 1 = true ∧ s.turn n (.newLoad) = true))
      0 1 (wS 1 6) &&
    (fun (_t : Nat) (n : Nat) (_mass : Nat) (_moist : Nat) (loads : List Nat) (q : Rat) (s : State) => decide (n
      ≠ 0 ∧ s.ses.open_.any (fun p => p.2.num = n) = true ∧ s.classAtLeast n 1 = true ∧ s.turn n (.ticket) = true
      ∧ loads.find? (fun x => s.loadFault x ≠ 0) = none ∧ q = loads.foldl (fun (q : Rat) (x : Nat) => q + (look
      s.ym.loads x).getD 0) 0 ∧ 1000 ≤ q ∧ s.ym.tickets = [] ∧ Room s))
      0 1 0x44FC6000 0 [3] 2000 (let s := wS 1 6 [(R.YM_STAT_LOAD, 4), (R.YM_CALS_CAL, 0x3F800000)]; { s with ym := { loads := [(3, 2000)] } }) &&
    (fun (_t : Nat) (n : Nat) (_mass : Nat) (_moist : Nat) (loads : List Nat) (q : Rat) (s : State) => decide (n
      ≠ 0 ∧ s.ses.open_.any (fun p => p.2.num = n) = true ∧ s.classAtLeast n 1 = true ∧ s.turn n (.ticket) = true
      ∧ loads.find? (fun x => s.loadFault x ≠ 0) = none ∧ q = loads.foldl (fun (q : Rat) (x : Nat) => q + (look
      s.ym.loads x).getD 0) 0 ∧ 1000 ≤ q ∧ s.ym.tickets = [] ∧ Room s))
      0 1 0x44000000 0 [3] 2000 (let s := wS 1 6 [(R.YM_STAT_LOAD, 4), (R.YM_CALS_CAL, 0x3F800000)]; { s with ym := { loads := [(3, 2000)] } }) &&
    (fun (_t : Nat) (n : Nat) (_mass : Nat) (_moist : Nat) (x : Nat) (loads : List Nat) (s : State) => decide (n
      ≠ 0 ∧ s.ses.open_.any (fun p => p.2.num = n) = true ∧ s.classAtLeast n 1 = true ∧ s.turn n (.ticket) = true
      ∧ loads.find? (fun x => s.loadFault x ≠ 0) = some x ∧ Room s))
      0 1 0 0 4 [3, 4] (let s := wS 1 6 [(R.YM_STAT_LOAD, 4)]; { s with ym := { loads := [(3, 2000)] } }) &&
    (fun (_t : Nat) (n : Nat) (_first : Int) (_last : Int) (s : State) => decide (n ≠ 0 ∧ s.ses.open_.any (fun p
      => p.2.num = n) = true ∧ s.svcRefusal n 0x0030 [Cls.SERVICE, Cls.FLEET] = none ∧ Room s))
      0 1 0 10 (wS 4 6) &&
    (fun (_t : Nat) (n : Nat) (_first : Int) (_last : Int) (s : State) => decide (n ≠ 0 ∧ s.ses.open_.any (fun p
      => p.2.num = n) = true ∧ s.svcRefusal n 0x0030 [Cls.SERVICE, Cls.FLEET] = none ∧ Room s))
      0 1 0 10 (wS 3 6)) = true := by decide +kernel

theorem test_meets_IngressComplete : (
    (fun (t : Nat) (c : Nat) (k : Nat) (trig : Int) (stamp : Int) (_x : FrameIn) (s : State) => decide (1 ≤ c ∧
      c ≤ 16 ∧ (s.begin t).frameIdent c = some (k, trig, stamp) ∧ s.shedNow c = 0 ∧ (s.camS c).frames.length <
      s.rd (R.CAM_CFG_NBUF c) ∧ s.rd (R.CAM_CFG_EMBED c) = 0))
      0 3 7 1000 1020 {} ({ w ([(R.MODE_STAT_MODE, 6), (R.ISL_STAT_RUN 4, 1), (R.CAM_CFG_PURPOSE 3, 2), (R.CAM_CFG_NBUF 3, 4), (R.CAM_CFG_PURPOSE 1, 1), (R.CAM_CFG_PURPOSE 2, 1), (R.CAM_CFG_PAIR 1, 2), (R.CAM_CFG_PAIR 2, 1), (R.LN_PG_PERIOD 0, 20000000)] ++ [(R.CAM_TIME_TRIG_LAT 3, 20), (R.CAM_STAT_STATE 3, 3), (R.CAM_SENS_DLY_EXP 3, 1), (R.CAM_SENS_DLY_GAIN 3, 2)]) with cams := { cam := [(3, { locked := true, fno := 7, base := (10, 20), flight := [(6, 30, 40)], trig := [(1000, 0, 7)] })] } }) &&
    (fun (t : Nat) (c : Nat) (k : Nat) (trig : Int) (stamp : Int) (_x : FrameIn) (s : State) => decide (1 ≤ c ∧
      c ≤ 16 ∧ (s.begin t).frameIdent c = some (k, trig, stamp) ∧ s.shedNow c = 0 ∧ (s.camS c).frames.length <
      s.rd (R.CAM_CFG_NBUF c) ∧ s.rd (R.CAM_CFG_EMBED c) = 0))
      0 3 7 1000 1020 {} ({ w ([(R.MODE_STAT_MODE, 6), (R.ISL_STAT_RUN 4, 1), (R.CAM_CFG_PURPOSE 3, 2), (R.CAM_CFG_NBUF 3, 4), (R.CAM_CFG_PURPOSE 1, 1), (R.CAM_CFG_PURPOSE 2, 1), (R.CAM_CFG_PAIR 1, 2), (R.CAM_CFG_PAIR 2, 1), (R.LN_PG_PERIOD 0, 20000000)] ++ [(R.CAM_TIME_TRIG_LAT 3, 20)]) with cams := { cam := [(3, { locked := true, fno := 7, settle := 2, trig := [(1000, 0, 7)] })] } }) &&
    (fun (t : Nat) (c : Nat) (k : Nat) (trig : Int) (stamp : Int) (_x : FrameIn) (s : State) => decide (1 ≤ c ∧
      c ≤ 16 ∧ (s.begin t).frameIdent c = some (k, trig, stamp) ∧ s.shedNow c = 2))
      0 3 7 1000 1000 {} ({ w ([(R.MODE_STAT_MODE, 6), (R.ISL_STAT_RUN 4, 1), (R.CAM_CFG_PURPOSE 3, 2), (R.CAM_CFG_NBUF 3, 4), (R.CAM_CFG_PURPOSE 1, 1), (R.CAM_CFG_PURPOSE 2, 1), (R.CAM_CFG_PAIR 1, 2), (R.CAM_CFG_PAIR 2, 1), (R.LN_PG_PERIOD 0, 20000000)] ++ [(R.CAM_STAT_CLASS 3, 1), (R.CORE_PACE_SHED, 4)]) with cams := { cam := [(3, { locked := true, fno := 7, trig := [(1000, 0, 7)] })] } }) &&
    (fun (t : Nat) (c : Nat) (k : Nat) (trig : Int) (stamp : Int) (_x : FrameIn) (s : State) => decide (1 ≤ c ∧
      c ≤ 16 ∧ (s.begin t).frameIdent c = some (k, trig, stamp) ∧ s.shedNow c = 0 ∧ s.rd (R.CAM_CFG_NBUF c) ≤
      (s.camS c).frames.length ∧ (s.begin t).mayLog 0x6004 c 1000000000 = true ∧ Room s))
      0 3 7 1000 1000 {} ({ w ([(R.MODE_STAT_MODE, 6), (R.ISL_STAT_RUN 4, 1), (R.CAM_CFG_PURPOSE 3, 2), (R.CAM_CFG_NBUF 3, 4), (R.CAM_CFG_PURPOSE 1, 1), (R.CAM_CFG_PURPOSE 2, 1), (R.CAM_CFG_PAIR 1, 2), (R.CAM_CFG_PAIR 2, 1), (R.LN_PG_PERIOD 0, 20000000)] ++ [(R.CAM_CFG_NBUF 3, 1)]) with cams := { cam := [(3, { locked := true, fno := 7, trig := [(1000, 0, 7)], frames := [{ fno := 9, stamp := 50, trig := 40, total := 2, exp := 100, gain := 100, raw := [[1, 2], [3, 4], [5, 6]] }] })] } }) &&
    (fun (t : Nat) (c : Nat) (x : Int × Nat × Nat) (rest : List (Int × Nat × Nat)) (s : State) => decide (1 ≤ c
      ∧ c ≤ 16 ∧ (s.camS c).trig = x :: rest ∧ x.2.1 + s.rd (R.CAM_SENS_MIN_PERIOD c) * 10000 + 2000000 ≤ max
      s.now t ∧ (s.begin t).mayLog 0x6002 c 1000000000 = true ∧ Room s))
      2000000 3 (1000, 0, 7) [] ({ w ([(R.MODE_STAT_MODE, 6), (R.ISL_STAT_RUN 4, 1), (R.CAM_CFG_PURPOSE 3, 2), (R.CAM_CFG_NBUF 3, 4), (R.CAM_CFG_PURPOSE 1, 1), (R.CAM_CFG_PURPOSE 2, 1), (R.CAM_CFG_PAIR 1, 2), (R.CAM_CFG_PAIR 2, 1), (R.LN_PG_PERIOD 0, 20000000)] ++ [(R.CAM_STAT_STATE 3, 2)]) with cams := { cam := [(3, { locked := true, fno := 7, misses := 2, trig := [(1000, 0, 7)] })] } }) &&
    (fun (_t : Nat) (c : Nat) (s : State) => decide (1 ≤ c ∧ c ≤ 16 ∧ s.camUsed c = true ∧ (s.camS c).locked =
      true ∧ Room s))
      0 3 ({ w ([(R.MODE_STAT_MODE, 6), (R.ISL_STAT_RUN 4, 1), (R.CAM_CFG_PURPOSE 3, 2), (R.CAM_CFG_NBUF 3, 4), (R.CAM_CFG_PURPOSE 1, 1), (R.CAM_CFG_PURPOSE 2, 1), (R.CAM_CFG_PAIR 1, 2), (R.CAM_CFG_PAIR 2, 1), (R.LN_PG_PERIOD 0, 20000000)] ++ [(R.CAM_STAT_STATE 3, 2)]) with cams := { cam := [(3, { locked := true, frames := [{ fno := 9, stamp := 50, trig := 40, total := 2, exp := 100, gain := 100, raw := [[1, 2], [3, 4], [5, 6]] }] })] } }) &&
    (fun (t : Nat) (c : Nat) (_lat : Nat) (s : State) => decide (1 ≤ c ∧ c ≤ 16 ∧ s.camUsed c = true ∧ (s.camS
      c).locked = false ∧ bitOf (s.rd R.PWR_STAT_PD) 5 = true ∧ s.islandOut 4 = false ∧ (s.camS c).tryAt.all (fun
      (x : Nat) => x + 1000000000 ≤ max s.now t) = true ∧ Room s))
      0 3 500 ({ w ([(R.MODE_STAT_MODE, 6), (R.ISL_STAT_RUN 4, 1), (R.CAM_CFG_PURPOSE 3, 2), (R.CAM_CFG_NBUF 3, 4), (R.CAM_CFG_PURPOSE 1, 1), (R.CAM_CFG_PURPOSE 2, 1), (R.CAM_CFG_PAIR 1, 2), (R.CAM_CFG_PAIR 2, 1), (R.LN_PG_PERIOD 0, 20000000)] ++ [(R.PWR_STAT_PD, 32), (R.CAM_EXP_SETTLE 3, 5)]) with cams := {} }) &&
    (fun (t : Nat) (c : Nat) (_lat : Nat) (s : State) => decide (1 ≤ c ∧ c ≤ 16 ∧ s.camUsed c = true ∧ (s.camS
      c).locked = false ∧ bitOf (s.rd R.PWR_STAT_PD) 5 = true ∧ s.islandOut 4 = false ∧ (s.camS c).tryAt.all (fun
      (x : Nat) => x + 1000000000 ≤ max s.now t) = true))
      0 3 500 ({ w ([(R.MODE_STAT_MODE, 6), (R.ISL_STAT_RUN 4, 1), (R.CAM_CFG_PURPOSE 3, 2), (R.CAM_CFG_NBUF 3, 4), (R.CAM_CFG_PURPOSE 1, 1), (R.CAM_CFG_PURPOSE 2, 1), (R.CAM_CFG_PAIR 1, 2), (R.CAM_CFG_PAIR 2, 1), (R.LN_PG_PERIOD 0, 20000000)] ++ [(R.PWR_STAT_PD, 32)]) with cams := {} })) = true := by decide +kernel

theorem test_meets_CoresAndVisionComplete_1 : (
    (fun (t : Nat) (c : Nat) (hi : Nat) (f : CamFrame) (rest : List CamFrame) (s : State) => decide ((s.camS
      c).frames = f :: rest ∧ f.ready < f.total ∧ (s.coreS 0).cur.isSome = true ∧ (s.coreS 1).cur.isSome = true ∧
      (s.rd (R.CAM_STAT_STATE c) ≠ 4 ∨ f.ready + 1 ≠ f.total) ∧ rest.all (fun x => x.fno ≠ f.fno) = true ∧ hi =
      (s.unitLines c f.ready).2.2.2 ∧ f.startAt + hi * s.rd (R.CAM_SENS_LINE_NS c) ≤ max s.now t ∧ f.bad.filter
      (fun (n : Nat) => n < hi) = [] ∧ hi ≤ f.raw.length ∧ (f.raw.take hi).all (fun (row : List Nat) => row.length
      = s.rd (R.CAM_GEOM_WIDTH c)) = true ∧ (f.ready + 1 ≠ f.total ∨ f.raw.length = s.rd (R.CAM_GEOM_HEIGHT c))))
      77 3 3 { fno := 9, stamp := 50, trig := 40, total := 2, exp := 100, gain := 100, raw := [[1, 2], [3, 4], [5, 6]] } [] ({ w ([(R.MODE_STAT_MODE, 6), (R.ISL_STAT_RUN 4, 1), (R.CAM_CFG_PURPOSE 3, 2), (R.CAM_CFG_NBUF 3, 4), (R.CAM_CFG_PURPOSE 1, 1), (R.CAM_CFG_PURPOSE 2, 1), (R.CAM_CFG_PAIR 1, 2), (R.CAM_CFG_PAIR 2, 1), (R.LN_PG_PERIOD 0, 20000000)] ++ [(R.CAM_GEOM_WIDTH 3, 2), (R.CAM_GEOM_HEIGHT 3, 3), (R.CAM_CFG_STRIPE 3, 1), (R.CAM_CFG_STRIPE_LINES 3, 2), (R.CAM_SENS_LINE_NS 3, 3)]) with cams := { cam := [(3, { locked := true, frames := [{ fno := 9, stamp := 50, trig := 40, total := 2, exp := 100, gain := 100, raw := [[1, 2], [3, 4], [5, 6]] }] })], core := [(0, { cur := some (1, 1) }), (1, { cur := some (2, 1) })] } }) &&
    (fun (t : Nat) (c : Nat) (hi : Nat) (n : Nat) (f : CamFrame) (s : State) => decide ((s.camS c).frames = [f]
      ∧ f.ready < f.total ∧ (s.coreS 0).cur.isSome = true ∧ (s.coreS 1).cur.isSome = true ∧ hi = (s.unitLines c
      f.ready).2.2.2 ∧ f.startAt + hi * s.rd (R.CAM_SENS_LINE_NS c) ≤ max s.now t ∧ n = (f.bad.filter (fun (k :
      Nat) => k < hi)).length ∧ n ≠ 0 ∧ (s.begin t).mayLog 0x6003 c 1000000000 = true ∧ Room s))
      77 3 3 1 { fno := 9, stamp := 50, trig := 40, total := 2, exp := 100, gain := 100, bad := [1], raw := [[1, 2], [3, 4], [5, 6]] } ({ w ([(R.MODE_STAT_MODE, 6), (R.ISL_STAT_RUN 4, 1), (R.CAM_CFG_PURPOSE 3, 2), (R.CAM_CFG_NBUF 3, 4), (R.CAM_CFG_PURPOSE 1, 1), (R.CAM_CFG_PURPOSE 2, 1), (R.CAM_CFG_PAIR 1, 2), (R.CAM_CFG_PAIR 2, 1), (R.LN_PG_PERIOD 0, 20000000)] ++ [(R.CAM_GEOM_WIDTH 3, 2), (R.CAM_GEOM_HEIGHT 3, 3), (R.CAM_CFG_STRIPE 3, 1), (R.CAM_CFG_STRIPE_LINES 3, 2), (R.CAM_SENS_LINE_NS 3, 3)]) with cams := { cam := [(3, { locked := true, frames := [{ fno := 9, stamp := 50, trig := 40, total := 2, exp := 100, gain := 100, bad := [1], raw := [[1, 2], [3, 4], [5, 6]] }] })], core := [(0, { cur := some (1, 1) }), (1, { cur := some (2, 1) })] } }) &&
    (fun (t : Nat) (c : Nat) (hi : Nat) (f : CamFrame) (s : State) => decide (1 ≤ c ∧ c ≤ 16 ∧ (s.camS c).frames
      = [f] ∧ f.ready = 0 ∧ f.done = 0 ∧ 1 < f.total ∧ f.readyAt = [] ∧ (s.coreS 0).cur = none ∧ s.cams.cam = [(c,
      s.camS c)] ∧ (s.coreS 1).cur.map (fun x => decide (x.1 = c)) = some false ∧ hi = (s.unitLines c
      f.ready).2.2.2 ∧ f.startAt + hi * s.rd (R.CAM_SENS_LINE_NS c) ≤ max s.now t ∧ f.bad.filter (fun (n : Nat) =>
      n < hi) = [] ∧ hi ≤ f.raw.length ∧ (f.raw.take hi).all (fun (row : List Nat) => row.length = s.rd
      (R.CAM_GEOM_WIDTH c)) = true ∧ (f.ready + 1 ≠ f.total ∨ f.raw.length = s.rd (R.CAM_GEOM_HEIGHT c))))
      77 3 3 { fno := 9, stamp := 50, trig := 40, total := 2, exp := 100, gain := 100, raw := [[1, 2], [3, 4], [5, 6]] } ({ w ([(R.MODE_STAT_MODE, 6), (R.ISL_STAT_RUN 4, 1), (R.CAM_CFG_PURPOSE 3, 2), (R.CAM_CFG_NBUF 3, 4), (R.CAM_CFG_PURPOSE 1, 1), (R.CAM_CFG_PURPOSE 2, 1), (R.CAM_CFG_PAIR 1, 2), (R.CAM_CFG_PAIR 2, 1), (R.LN_PG_PERIOD 0, 20000000)] ++ [(R.CAM_GEOM_WIDTH 3, 2), (R.CAM_GEOM_HEIGHT 3, 3), (R.CAM_CFG_STRIPE 3, 1), (R.CAM_CFG_STRIPE_LINES 3, 2), (R.CAM_SENS_LINE_NS 3, 3)]) with cams := { cam := [(3, { locked := true, frames := [{ fno := 9, stamp := 50, trig := 40, total := 2, exp := 100, gain := 100, raw := [[1, 2], [3, 4], [5, 6]] }] })], core := [(1, { cur := some (2, 1) })] } }) &&
    (fun (t : Nat) (k : Nat) (c : Nat) (n : Nat) (f : CamFrame) (_ae : Option (Nat × Nat)) (s : State) => decide
      (k < 2 ∧ 1 ≤ c ∧ c ≤ 16 ∧ (s.coreS k).cur = some (c, n) ∧ (s.coreS k).due ≤ max s.now t ∧ (s.camS c).frames
      = [f] ∧ f.fno = n ∧ f.done + 1 < f.total ∧ f.ready = f.done + 1 ∧ s.cams.cam = [(c, s.camS c)]))
      77 1 3 9 { fno := 9, stamp := 50, trig := 40, total := 2, ready := 1, exp := 100, gain := 100, raw := [[1, 2], [3, 4], [5, 6]] } none ({ w ([(R.MODE_STAT_MODE, 6), (R.ISL_STAT_RUN 4, 1), (R.CAM_CFG_PURPOSE 3, 2), (R.CAM_CFG_NBUF 3, 4), (R.CAM_CFG_PURPOSE 1, 1), (R.CAM_CFG_PURPOSE 2, 1), (R.CAM_CFG_PAIR 1, 2), (R.CAM_CFG_PAIR 2, 1), (R.LN_PG_PERIOD 0, 20000000)] ++ [(R.CAM_GEOM_WIDTH 3, 2), (R.CAM_GEOM_HEIGHT 3, 3), (R.CAM_CFG_STRIPE 3, 1), (R.CAM_CFG_STRIPE_LINES 3, 2), (R.CAM_SENS_LINE_NS 3, 3)]) with cams := { cam := [(3, { locked := true, frames := [{ fno := 9, stamp := 50, trig := 40, total := 2, ready := 1, exp := 100, gain := 100, raw := [[1, 2], [3, 4], [5, 6]] }] })], core := [(1, { cur := some (3, 9) })] } }) &&
    (fun (t : Nat) (k : Nat) (c : Nat) (n : Nat) (f : CamFrame) (_e : Nat) (_g : Nat) (s : State) => decide (k <
      2 ∧ 1 ≤ c ∧ c ≤ 16 ∧ (s.coreS k).cur = some (c, n) ∧ (s.coreS k).due ≤ max s.now t ∧ (s.camS c).frames = [f]
      ∧ f.fno = n ∧ f.done + 1 = f.total ∧ f.quiet = false ∧ s.cams.cam = [(c, s.camS c)] ∧ s.rd (R.ISP_OUT_DEST c
      0) = 1 ∧ s.rd (R.ISP_OUT_DEST c 1) = 2 ∧ s.rd (R.ISP_OUT_DEST c 2) = 0 ∧ s.rd (R.ISP_OUT_DEST c 3) = 0 ∧
      s.rd (R.CAM_CFG_AE c) = 1 ∧ (s.camS c).flight.length < 4))
      77 1 3 9 { fno := 9, stamp := 50, trig := 40, total := 2, ready := 2, done := 1, exp := 100, gain := 100, raw := [[1, 2], [3, 4], [5, 6]] } 500 20 ({ w ([(R.MODE_STAT_MODE, 6), (R.ISL_STAT_RUN 4, 1), (R.CAM_CFG_PURPOSE 3, 2), (R.CAM_CFG_NBUF 3, 4), (R.CAM_CFG_PURPOSE 1, 1), (R.CAM_CFG_PURPOSE 2, 1), (R.CAM_CFG_PAIR 1, 2), (R.CAM_CFG_PAIR 2, 1), (R.LN_PG_PERIOD 0, 20000000)] ++ [(R.CAM_GEOM_WIDTH 3, 2), (R.CAM_GEOM_HEIGHT 3, 3), (R.CAM_CFG_STRIPE 3, 1), (R.CAM_CFG_STRIPE_LINES 3, 2), (R.CAM_SENS_LINE_NS 3, 3), (R.ISP_OUT_DEST 3 0, 1), (R.ISP_OUT_DEST 3 1, 2), (R.CAM_CFG_AE 3, 1), (R.CAM_EXP_EXP_MAX 3, 400)]) with cams := { cam := [(3, { locked := true, frames := [{ fno := 9, stamp := 50, trig := 40, total := 2, ready := 2, done := 1, exp := 100, gain := 100, raw := [[1, 2], [3, 4], [5, 6]] }] })], core := [(1, { cur := some (3, 9) })] } }) &&
    (fun (t : Nat) (k : Nat) (c : Nat) (n : Nat) (f : CamFrame) (s : State) => decide (k < 2 ∧ 1 ≤ c ∧ c ≤ 16 ∧
      (s.coreS k).cur = some (c, n) ∧ (s.camS c).frames = [f] ∧ f.fno = n ∧ s.cams.cam = [(c, s.camS c)] ∧ s.rd
      (R.CAM_CFG_PAIR c) = 0 ∧ (s.begin t).mayLog 0x6010 c 1000000000 = true ∧ Room s))
      77 1 3 9 { fno := 9, stamp := 50, trig := 40, total := 2, exp := 100, gain := 100, raw := [[1, 2], [3, 4], [5, 6]] } ({ w ([(R.MODE_STAT_MODE, 6), (R.ISL_STAT_RUN 4, 1), (R.CAM_CFG_PURPOSE 3, 2), (R.CAM_CFG_NBUF 3, 4), (R.CAM_CFG_PURPOSE 1, 1), (R.CAM_CFG_PURPOSE 2, 1), (R.CAM_CFG_PAIR 1, 2), (R.CAM_CFG_PAIR 2, 1), (R.LN_PG_PERIOD 0, 20000000)] ++ []) with cams := { cam := [(3, { locked := true, frames := [{ fno := 9, stamp := 50, trig := 40, total := 2, exp := 100, gain := 100, raw := [[1, 2], [3, 4], [5, 6]] }] })], core := [(1, { cur := some (3, 9) })] } }) &&
    (fun (t : Nat) (c : Nat) (e : Nat) (g : Nat) (s : State) => decide ((s.camS c).prop = some (e, g) ∧ (s.camS
      c).locked = true ∧ max s.now t ≤ (s.camS c).startAt + s.rd (R.CAM_SENS_WIN_US c) * 1000))
      0 3 5 6 ({ w ([(R.MODE_STAT_MODE, 6), (R.ISL_STAT_RUN 4, 1), (R.CAM_CFG_PURPOSE 3, 2), (R.CAM_CFG_NBUF 3, 4), (R.CAM_CFG_PURPOSE 1, 1), (R.CAM_CFG_PURPOSE 2, 1), (R.CAM_CFG_PAIR 1, 2), (R.CAM_CFG_PAIR 2, 1), (R.LN_PG_PERIOD 0, 20000000)] ++ []) with cams := { cam := [(3, { locked := true, last := 8, prop := some (5, 6) })] } }) &&
    (fun (t : Nat) (c : Nat) (d : Nat) (_vs : List Nat) (x : TensorS) (s : State) => decide (1 ≤ c ∧ c ≤ 16 ∧
      s.nextRun c = some (d, x) ∧ d = c ∧ s.rd (R.CAM_CFG_PAIR c) = 0 ∧ (s.begin t).runLate c x (s.paced (netTime
      (s.netOf c))) = false))
      0 3 3 [1, 2] { trig := 40, stamp := 50, fno := 9, at_ := 0 } ({ w ([(R.MODE_STAT_MODE, 6), (R.ISL_STAT_RUN 4, 1), (R.CAM_CFG_PURPOSE 3, 2), (R.CAM_CFG_NBUF 3, 4), (R.CAM_CFG_PURPOSE 1, 1), (R.CAM_CFG_PURPOSE 2, 1), (R.CAM_CFG_PAIR 1, 2), (R.CAM_CFG_PAIR 2, 1), (R.LN_PG_PERIOD 0, 20000000)] ++ [(R.CAM_CFG_PURPOSE 3, 3)]) with cams := { cam := [(3, { locked := true, tensor := [{ trig := 40, stamp := 50, fno := 9, at_ := 0 }] })] } }) &&
    (fun (t : Nat) (c : Nat) (d : Nat) (x : TensorS) (s : State) => decide (1 ≤ c ∧ c ≤ 16 ∧ s.nextRun c = some
      (d, x) ∧ d = c ∧ s.rd (R.CAM_CFG_PAIR c) = 0 ∧ (s.begin t).runLate c x 0 = true ∧ (s.begin t).mayLog 0x6020
      c 1000000000 = true ∧ Room s))
      90000000 3 3 { trig := 40, stamp := 50, fno := 9, at_ := 0 } ({ w ([(R.MODE_STAT_MODE, 6), (R.ISL_STAT_RUN 4, 1), (R.CAM_CFG_PURPOSE 3, 2), (R.CAM_CFG_NBUF 3, 4), (R.CAM_CFG_PURPOSE 1, 1), (R.CAM_CFG_PURPOSE 2, 1), (R.CAM_CFG_PAIR 1, 2), (R.CAM_CFG_PAIR 2, 1), (R.LN_PG_PERIOD 0, 20000000)] ++ [(R.CAM_CFG_PURPOSE 3, 3)]) with cams := { cam := [(3, { locked := true, tensor := [{ trig := 40, stamp := 50, fno := 9, at_ := 0 }] })] } }) &&
    (fun (t : Nat) (c : Nat) (p : Nat) (g : Int) (rest : List Int) (s : State) => decide (p = s.rd
      (R.CAM_CFG_PAIR c) ∧ p ≠ 0 ∧ c ≤ 16 ∧ p ≤ 16 ∧ p ≠ c ∧ (s.camS c).gone = g :: rest ∧ (s.begin t).mayLog
      0x6021 c 1000000000 = true ∧ Room s))
      0 2 1 40 [] ({ w ([(R.MODE_STAT_MODE, 6), (R.ISL_STAT_RUN 4, 1), (R.CAM_CFG_PURPOSE 3, 2), (R.CAM_CFG_NBUF 3, 4), (R.CAM_CFG_PURPOSE 1, 1), (R.CAM_CFG_PURPOSE 2, 1), (R.CAM_CFG_PAIR 1, 2), (R.CAM_CFG_PAIR 2, 1), (R.LN_PG_PERIOD 0, 20000000)] ++ []) with cams := { cam := [(1, { locked := true, tensor := [{ trig := 40, stamp := 50, fno := 9, at_ := 0 }] }), (2, { gone := [40] })] } }) &&
    (fun (_t : Nat) (n : Nat) (c : Nat) (o : Nat) (v : Nat) (s : State) => decide (n ≠ 0 ∧ s.ses.open_.any (fun
      p => p.2.num = n) = true ∧ s.turn n (.live (cropKey c o 0)) = true ∧ s.mayLive n (cropKey c o 0) = true ∧ 1
      ≤ c ∧ c ≤ 16 ∧ o < 4 ∧ s.served = true ∧ s.rd (R.CAM_CFG_PAIR c) = 0 ∧ s.cropRefusal c o 0 v = 0 ∧
      s.amend.length < 256))
      0 1 3 1 8 (wS 2 6 [(R.CAM_GEOM_WIDTH 3, 1000), (R.CAM_GEOM_HEIGHT 3, 1000), (R.ISP_OUT_CROP_W 3 1, 100), (R.ISP_OUT_CROP_H 3 1, 100), (R.ISP_OUT_SCALE 3 1, 1)]) &&
    (fun (t : Nat) (n : Nat) (c : Nat) (o : Nat) (f : Nat) (v : Nat) (s : State) => decide (n ≠ 0 ∧
      s.ses.open_.any (fun p => p.2.num = n) = true ∧ s.turn n (.live (cropKey c o f)) = true ∧ s.mayLive n
      (cropKey c o f) = true ∧ 1 ≤ c ∧ c ≤ 16 ∧ o < 4 ∧ f < 4 ∧ s.served = true ∧ s.cropRefusal c o f v ≠ 0 ∧
      (s.begin t).mayLog 0x6006 c 1000000000 = true ∧ Room s))
      0 1 3 1 2 901 (wS 2 6 [(R.CAM_GEOM_WIDTH 3, 1000), (R.CAM_GEOM_HEIGHT 3, 1000), (R.ISP_OUT_CROP_X0 3 1, 100), (R.ISP_OUT_CROP_H 3 1, 100), (R.ISP_OUT_SCALE 3 1, 1)])) = true := by decide +kernel

theorem test_meets_CoresAndVisionComplete_2 : (
    (fun (_t : Nat) (n : Nat) (c : Nat) (v : Nat) (s : State) => decide (n ≠ 0 ∧ s.ses.open_.any (fun p =>
      p.2.num = n) = true ∧ s.turn n (.live (R.ISP_ARB_PRIO c)) = true ∧ s.mayLive n (R.ISP_ARB_PRIO c) = true ∧ 1
      ≤ c ∧ c ≤ 16 ∧ s.served = true ∧ v ≤ 15 ∧ s.amend.length < 256))
      0 1 3 15 (wS 2 6) &&
    (fun (_t : Nat) (n : Nat) (c : Nat) (v : Nat) (s : State) => decide (n ≠ 0 ∧ s.ses.open_.any (fun p =>
      p.2.num = n) = true ∧ s.turn n (.live (R.ISP_ARB_PRIO c)) = true ∧ s.mayLive n (R.ISP_ARB_PRIO c) = true ∧ 1
      ≤ c ∧ c ≤ 16 ∧ s.served = true ∧ 15 < v))
      0 1 3 16 (wS 2 6)) = true := by decide +kernel

theorem test_meets_TargetsAndProfilesComplete : (
    (fun (_t : Nat) (ch : Nat) (profile : Nat) (src : Nat) (ma : Int) (s : State) => decide (1 ≤ ch ∧ ch ≤ 32 ∧
      s.rd (R.VD_CFG_KIND ch) = 1 ∧ (src = 2 → profile = 0) ∧ (s.valve ch).latch = 0 ∧ (s.valve ch).tripped = none
      ∧ 0 < ma ∧ (s.bankS (bankOf ch)).queue = [] ∧ s.rd (R.VD_B_BOOSTWAIT_OWNER (bankOf ch)) = 0))
      7 5 0 1 5000 ({ w ([(R.VD_CFG_KIND 5, 1), (R.VD_CFG_KIND 6, 2), (R.VD_PRF_A_I_PEAK 1, 8000), (R.VD_PRF_A_I_HOLD 1, 2000), (R.VD_PRF_A_BOOST 1, 1), (R.VD_PRF_A_T_BOOST_MAX 1, 1000), (R.VD_PRF_A_T_PEAK 1, 500), (R.VD_B_CFG_WAIT_LIM 2, 100)] ++ [(R.VD_STAT_RST 5, 2)]) with vd := {} }) &&
    (fun (_t : Nat) (ch : Nat) (profile : Nat) (src : Nat) (ma : Int) (s : State) => decide (1 ≤ ch ∧ ch ≤ 32 ∧
      s.rd (R.VD_CFG_KIND ch) = 1 ∧ (src = 2 → profile = 0) ∧ (s.valve ch).latch = 0 ∧ (s.valve ch).tripped = none
      ∧ 0 < ma ∧ (s.bankS (bankOf ch)).queue = [] ∧ s.rd (R.VD_B_BOOSTWAIT_OWNER (bankOf ch)) = 0))
      7 5 0 2 1000 ({ w ([(R.VD_CFG_KIND 5, 1), (R.VD_CFG_KIND 6, 2), (R.VD_PRF_A_I_PEAK 1, 8000), (R.VD_PRF_A_I_HOLD 1, 2000), (R.VD_PRF_A_BOOST 1, 1), (R.VD_PRF_A_T_BOOST_MAX 1, 1000), (R.VD_PRF_A_T_PEAK 1, 500), (R.VD_B_CFG_WAIT_LIM 2, 100)] ++ [(R.VD_STAT_DERATED 5, 1), (R.VD_THERM2_DERATE 5, 70)]) with vd := {} }) &&
    (fun (_t : Nat) (ch : Nat) (_profile : Nat) (src : Nat) (ma : Int) (s : State) => decide (1 ≤ ch ∧ ch ≤ 32 ∧
      s.rd (R.VD_CFG_KIND ch) = 1 ∧ src ≠ 2 ∧ src ≠ 3 ∧ (s.valve ch).latch = 0 ∧ (s.valve ch).tripped = none ∧ ma
      ≤ 0 ∧ s.phase ch = 6 ∧ (s.bankS (bankOf ch)).queue = [] ∧ s.rd (R.VD_B_BOOSTWAIT_OWNER (bankOf ch)) = 0))
      7 5 0 1 (-5) ({ w ([(R.VD_CFG_KIND 5, 1), (R.VD_CFG_KIND 6, 2), (R.VD_PRF_A_I_PEAK 1, 8000), (R.VD_PRF_A_I_HOLD 1, 2000), (R.VD_PRF_A_BOOST 1, 1), (R.VD_PRF_A_T_BOOST_MAX 1, 1000), (R.VD_PRF_A_T_PEAK 1, 500), (R.VD_B_CFG_WAIT_LIM 2, 100)] ++ [(R.VD_STAT_PHASE 5, 6), (R.VD_CFG_DECAY 5, 1)]) with vd := {} }) &&
    (fun (_t : Nat) (ch : Nat) (profile : Nat) (src : Nat) (_ma : Int) (_hold : Bool) (s : State) => decide (1 ≤
      ch ∧ ch ≤ 32 ∧ (s.rd (R.VD_CFG_KIND ch) ≠ 1 ∨ src = 2 ∧ profile ≠ 0) ∧ (s.rd (R.VD_CFG_KIND ch) ≠ 2 ∨ src ≠
      3) ∧ s.ls.dead = false ∧ Room s))
      7 6 0 1 1000 false ({ w ([(R.VD_CFG_KIND 5, 1), (R.VD_CFG_KIND 6, 2), (R.VD_PRF_A_I_PEAK 1, 8000), (R.VD_PRF_A_I_HOLD 1, 2000), (R.VD_PRF_A_BOOST 1, 1), (R.VD_PRF_A_T_BOOST_MAX 1, 1000), (R.VD_PRF_A_T_PEAK 1, 500), (R.VD_B_CFG_WAIT_LIM 2, 100)] ++ []) with vd := {} }) &&
    (fun (_t : Nat) (ch : Nat) (profile : Nat) (src : Nat) (_ma : Int) (_hold : Bool) (s : State) => decide (1 ≤
      ch ∧ ch ≤ 32 ∧ (s.rd (R.VD_CFG_KIND ch) ≠ 1 ∨ src = 2 ∧ profile ≠ 0) ∧ (s.rd (R.VD_CFG_KIND ch) ≠ 2 ∨ src ≠
      3) ∧ s.ls.dead = false ∧ Room s))
      7 5 3 2 1000 false ({ w ([(R.VD_CFG_KIND 5, 1), (R.VD_CFG_KIND 6, 2), (R.VD_PRF_A_I_PEAK 1, 8000), (R.VD_PRF_A_I_HOLD 1, 2000), (R.VD_PRF_A_BOOST 1, 1), (R.VD_PRF_A_T_BOOST_MAX 1, 1000), (R.VD_PRF_A_T_PEAK 1, 500), (R.VD_B_CFG_WAIT_LIM 2, 100)] ++ []) with vd := {} }) &&
    (fun (t : Nat) (ch : Nat) (p : Nat) (src : Nat) (rail : Nat) (_cur : Nat) (s : State) => decide (1 ≤ ch ∧ ch
      ≤ 32 ∧ p ≤ 14 ∧ s.rd (R.VD_CFG_KIND ch) = 2 ∧ src ≠ 1 ∧ (s.valve ch).latch = 0 ∧ (s.valve ch).tripped = none
      ∧ s.rd (R.VD_PRF_A_BOOST p) = 1 ∧ (s.bankS (bankOf ch)).prior.all (fun (p : BoostPrior) => s.ownsBank
      p.req.ch = false || (s.valve p.req.ch).t0 ≠ max s.now t) = true ∧ 440 ≤ rail ∧ (s.bankS (bankOf ch)).queue =
      [] ∧ s.rd (R.VD_B_BOOSTWAIT_OWNER (bankOf ch)) = 0))
      7 6 1 2 480 0 ({ w ([(R.VD_CFG_KIND 5, 1), (R.VD_CFG_KIND 6, 2), (R.VD_PRF_A_I_PEAK 1, 8000), (R.VD_PRF_A_I_HOLD 1, 2000), (R.VD_PRF_A_BOOST 1, 1), (R.VD_PRF_A_T_BOOST_MAX 1, 1000), (R.VD_PRF_A_T_PEAK 1, 500), (R.VD_B_CFG_WAIT_LIM 2, 100)] ++ []) with vd := {} }) &&
    (fun (_t : Nat) (ch : Nat) (p : Nat) (src : Nat) (_rail : Nat) (_cur : Nat) (s : State) => decide (1 ≤ ch ∧
      ch ≤ 32 ∧ p ≤ 14 ∧ s.rd (R.VD_CFG_KIND ch) = 2 ∧ src ≠ 1 ∧ (s.valve ch).latch = 0 ∧ (s.valve ch).tripped =
      none ∧ s.rd (R.VD_PRF_A_BOOST p) = 0 ∧ (s.bankS (bankOf ch)).queue = [] ∧ s.rd (R.VD_B_BOOSTWAIT_OWNER
      (bankOf ch)) = 0))
      7 6 2 2 480 900 ({ w ([(R.VD_CFG_KIND 5, 1), (R.VD_CFG_KIND 6, 2), (R.VD_PRF_A_I_PEAK 1, 8000), (R.VD_PRF_A_I_HOLD 1, 2000), (R.VD_PRF_A_BOOST 1, 1), (R.VD_PRF_A_T_BOOST_MAX 1, 1000), (R.VD_PRF_A_T_PEAK 1, 500), (R.VD_B_CFG_WAIT_LIM 2, 100)] ++ []) with vd := {} }) &&
    (fun (t : Nat) (ch : Nat) (p : Nat) (src : Nat) (rail : Nat) (_cur : Nat) (s : State) => decide (1 ≤ ch ∧ ch
      ≤ 32 ∧ p ≤ 14 ∧ s.rd (R.VD_CFG_KIND ch) = 2 ∧ src ≠ 1 ∧ (s.valve ch).latch = 0 ∧ (s.valve ch).tripped = none
      ∧ s.rd (R.VD_PRF_A_BOOST p) = 1 ∧ (s.bankS (bankOf ch)).prior.all (fun (p : BoostPrior) => s.ownsBank
      p.req.ch = false || (s.valve p.req.ch).t0 ≠ max s.now t) = true ∧ 440 ≤ rail ∧ (s.bankS (bankOf ch)).queue =
      [] ∧ s.rd (R.VD_B_BOOSTWAIT_OWNER (bankOf ch)) ≠ 0 ∧ s.ownsBank ch = false ∧ (s.begin t).worstWait (bankOf
      ch) ≤ s.rd (R.VD_B_CFG_WAIT_LIM (bankOf ch)) * 10000))
      7 6 1 2 480 0 ({ w ([(R.VD_CFG_KIND 5, 1), (R.VD_CFG_KIND 6, 2), (R.VD_PRF_A_I_PEAK 1, 8000), (R.VD_PRF_A_I_HOLD 1, 2000), (R.VD_PRF_A_BOOST 1, 1), (R.VD_PRF_A_T_BOOST_MAX 1, 1000), (R.VD_PRF_A_T_PEAK 1, 500), (R.VD_B_CFG_WAIT_LIM 2, 100)] ++ [(R.VD_B_BOOSTWAIT_OWNER 2, 3), (R.VD_B_CFG_WAIT_LIM 2, 200)]) with vd := { ch := [(7, { prf := 1, t0 := 0 })] } }) &&
    (fun (t : Nat) (ch : Nat) (p : Nat) (src : Nat) (_rail : Nat) (_cur : Nat) (s : State) => decide (1 ≤ ch ∧
      ch ≤ 32 ∧ p ≤ 14 ∧ s.rd (R.VD_CFG_KIND ch) = 2 ∧ src ≠ 1 ∧ (s.valve ch).latch = 0 ∧ (s.valve ch).tripped =
      none ∧ s.rd (R.VD_PRF_A_BOOST p) = 1 ∧ (s.bankS (bankOf ch)).prior.all (fun (p : BoostPrior) => s.ownsBank
      p.req.ch = false || (s.valve p.req.ch).t0 ≠ max s.now t) = true ∧ (s.bankS (bankOf ch)).queue = [] ∧ s.rd
      (R.VD_B_BOOSTWAIT_OWNER (bankOf ch)) ≠ 0 ∧ s.ownsBank ch = false ∧ s.rd (R.VD_B_CFG_WAIT_LIM (bankOf ch)) *
      10000 < (s.begin t).worstWait (bankOf ch) ∧ s.ls.dead = false ∧ Room s))
      7 6 1 2 480 0 ({ w ([(R.VD_CFG_KIND 5, 1), (R.VD_CFG_KIND 6, 2), (R.VD_PRF_A_I_PEAK 1, 8000), (R.VD_PRF_A_I_HOLD 1, 2000), (R.VD_PRF_A_BOOST 1, 1), (R.VD_PRF_A_T_BOOST_MAX 1, 1000), (R.VD_PRF_A_T_PEAK 1, 500), (R.VD_B_CFG_WAIT_LIM 2, 100)] ++ [(R.VD_B_BOOSTWAIT_OWNER 2, 3)]) with vd := { ch := [(7, { prf := 1, t0 := 0 })] } }) &&
    (fun (_t : Nat) (ch : Nat) (src : Nat) (_rail : Nat) (s : State) => decide (1 ≤ ch ∧ ch ≤ 32 ∧ s.rd
      (R.VD_CFG_KIND ch) = 2 ∧ (src = 0 ∨ src = 2 ∨ src = 3) ∧ (s.valve ch).latch = 0 ∧ (s.valve ch).tripped =
      none ∧ s.phase ch = 4 ∧ (s.bankS (bankOf ch)).queue = [] ∧ s.rd (R.VD_B_BOOSTWAIT_OWNER (bankOf ch)) = 0))
      7 6 3 480 ({ w ([(R.VD_CFG_KIND 5, 1), (R.VD_CFG_KIND 6, 2), (R.VD_PRF_A_I_PEAK 1, 8000), (R.VD_PRF_A_I_HOLD 1, 2000), (R.VD_PRF_A_BOOST 1, 1), (R.VD_PRF_A_T_BOOST_MAX 1, 1000), (R.VD_PRF_A_T_PEAK 1, 500), (R.VD_B_CFG_WAIT_LIM 2, 100)] ++ [(R.VD_STAT_PHASE 6, 4)]) with vd := {} }) &&
    (fun (_t : Nat) (ch : Nat) (src : Nat) (_rail : Nat) (s : State) => decide (1 ≤ ch ∧ ch ≤ 32 ∧ s.rd
      (R.VD_CFG_KIND ch) = 2 ∧ (src = 0 ∨ src = 2 ∨ src = 3) ∧ (s.valve ch).latch = 0 ∧ (s.valve ch).tripped =
      none ∧ s.phase ch = 4 ∧ (s.bankS (bankOf ch)).queue = [] ∧ s.rd (R.VD_B_BOOSTWAIT_OWNER (bankOf ch)) = 0))
      7 6 2 480 ({ w ([(R.VD_CFG_KIND 5, 1), (R.VD_CFG_KIND 6, 2), (R.VD_PRF_A_I_PEAK 1, 8000), (R.VD_PRF_A_I_HOLD 1, 2000), (R.VD_PRF_A_BOOST 1, 1), (R.VD_PRF_A_T_BOOST_MAX 1, 1000), (R.VD_PRF_A_T_PEAK 1, 500), (R.VD_B_CFG_WAIT_LIM 2, 100)] ++ [(R.VD_STAT_PHASE 6, 4)]) with vd := {} }) &&
    (fun (_t : Nat) (rail : Nat) (r : BoostReq) (s : State) => decide (440 ≤ rail ∧ s.bankS 1 = {} ∧ s.bankS 3 =
      {} ∧ s.bankS 4 = {} ∧ s.rd (R.VD_B_BOOSTWAIT_OWNER 2) = 0 ∧ (s.bankS 2).queue = [r] ∧ 5 ≤ r.ch ∧ r.ch ≤ 8 ∧
      r.prf ≤ 14 ∧ s.ls.dead = false ∧ Room s))
      9000 440 { ch := 6, prf := 1, hold := 2000, since := 1000 } ({ w ([(R.VD_CFG_KIND 5, 1), (R.VD_CFG_KIND 6, 2), (R.VD_PRF_A_I_PEAK 1, 8000), (R.VD_PRF_A_I_HOLD 1, 2000), (R.VD_PRF_A_BOOST 1, 1), (R.VD_PRF_A_T_BOOST_MAX 1, 1000), (R.VD_PRF_A_T_PEAK 1, 500), (R.VD_B_CFG_WAIT_LIM 2, 100)] ++ [(R.VD_STAT_PHASE 6, 1)]) with vd := { bank := [(2, { queue := [{ ch := 6, prf := 1, hold := 2000, since := 1000 }] })] } })) = true := by decide +kernel

theorem test_meets_ValvePhasesComplete : (
    (fun (_t : Nat) (ch : Nat) (s : State) => decide (1 ≤ ch ∧ ch ≤ 32 ∧ s.phase ch = 2 ∧ (s.valve ch).checked =
      false))
      1049 6 ({ w ([(R.VD_CFG_KIND 5, 1), (R.VD_CFG_KIND 6, 2), (R.VD_PRF_A_I_PEAK 1, 8000), (R.VD_PRF_A_I_HOLD 1, 2000), (R.VD_PRF_A_BOOST 1, 1), (R.VD_PRF_A_T_BOOST_MAX 1, 1000), (R.VD_PRF_A_T_PEAK 1, 500), (R.VD_B_CFG_WAIT_LIM 2, 100)] ++ [(R.VD_STAT_PHASE 6, 2)]) with vd := {} }) &&
    (fun (t : Nat) (ch : Nat) (s : State) => decide (1 ≤ ch ∧ ch ≤ 32 ∧ (s.valve ch).prf ≤ 14 ∧ s.phase ch = 2 ∧
      (s.valve ch).checked = true ∧ (max s.now t - (s.valve ch).t0 + 50) / 100 < s.rd (R.VD_PRF_B_TP_MIN (s.valve
      ch).prf) ∧ s.ls.dead = false ∧ (s.begin t).mayLog 0x7003 ch 1000000000 = true ∧ Room s))
      1049 6 ({ w ([(R.VD_CFG_KIND 5, 1), (R.VD_CFG_KIND 6, 2), (R.VD_PRF_A_I_PEAK 1, 8000), (R.VD_PRF_A_I_HOLD 1, 2000), (R.VD_PRF_A_BOOST 1, 1), (R.VD_PRF_A_T_BOOST_MAX 1, 1000), (R.VD_PRF_A_T_PEAK 1, 500), (R.VD_B_CFG_WAIT_LIM 2, 100)] ++ [(R.VD_STAT_PHASE 6, 2), (R.VD_PRF_B_TP_MIN 1, 11)]) with vd := { ch := [(6, { prf := 1, checked := true })] } }) &&
    (fun (t : Nat) (ch : Nat) (s : State) => decide (1 ≤ ch ∧ ch ≤ 32 ∧ (s.valve ch).prf ≤ 14 ∧ s.phase ch = 2 ∧
      (s.valve ch).checked = true ∧ (s.valve ch).t0 + s.rd (R.VD_PRF_A_T_BOOST_MAX (s.valve ch).prf) * 1000 ≤ max
      s.now t ∧ s.ls.dead = false ∧ (s.begin t).mayLog 0x7004 ch 1000000000 = true ∧ Room s))
      1000000 6 ({ w ([(R.VD_CFG_KIND 5, 1), (R.VD_CFG_KIND 6, 2), (R.VD_PRF_A_I_PEAK 1, 8000), (R.VD_PRF_A_I_HOLD 1, 2000), (R.VD_PRF_A_BOOST 1, 1), (R.VD_PRF_A_T_BOOST_MAX 1, 1000), (R.VD_PRF_A_T_PEAK 1, 500), (R.VD_B_CFG_WAIT_LIM 2, 100)] ++ [(R.VD_STAT_PHASE 6, 2)]) with vd := { ch := [(6, { prf := 1, checked := true })] } }) &&
    (fun (t : Nat) (ch : Nat) (_rail : Nat) (s : State) => decide (1 ≤ ch ∧ ch ≤ 32 ∧ (s.valve ch).prf ≤ 14 ∧
      s.phase ch = 3 ∧ (s.valve ch).phaseAt + s.rd (R.VD_PRF_A_T_PEAK (s.valve ch).prf) * 1000 ≤ max s.now t ∧
      (s.bankS (bankOf ch)).queue = []))
      500000 6 480 ({ w ([(R.VD_CFG_KIND 5, 1), (R.VD_CFG_KIND 6, 2), (R.VD_PRF_A_I_PEAK 1, 8000), (R.VD_PRF_A_I_HOLD 1, 2000), (R.VD_PRF_A_BOOST 1, 1), (R.VD_PRF_A_T_BOOST_MAX 1, 1000), (R.VD_PRF_A_T_PEAK 1, 500), (R.VD_B_CFG_WAIT_LIM 2, 100)] ++ [(R.VD_STAT_PHASE 6, 3), (R.VD_B_BOOSTWAIT_OWNER 2, 2)]) with vd := { ch := [(6, { prf := 1, holdI := 2000 })] } }) &&
    (fun (t : Nat) (ch : Nat) (s : State) => decide (1 ≤ ch ∧ ch ≤ 32 ∧ (s.valve ch).prf ≤ 14 ∧ s.phase ch = 4 ∧
      s.rd (R.VD_PRF_B_HOLD_T (s.valve ch).prf) ≠ 0 ∧ (s.valve ch).phaseAt + s.rd (R.VD_PRF_B_HOLD_T (s.valve
      ch).prf) * 1000000 ≤ max s.now t ∧ s.ownsBank ch = false))
      3000000 6 ({ w ([(R.VD_CFG_KIND 5, 1), (R.VD_CFG_KIND 6, 2), (R.VD_PRF_A_I_PEAK 1, 8000), (R.VD_PRF_A_I_HOLD 1, 2000), (R.VD_PRF_A_BOOST 1, 1), (R.VD_PRF_A_T_BOOST_MAX 1, 1000), (R.VD_PRF_A_T_PEAK 1, 500), (R.VD_B_CFG_WAIT_LIM 2, 100)] ++ [(R.VD_STAT_PHASE 6, 4), (R.VD_PRF_B_HOLD_T 1, 3)]) with vd := { ch := [(6, { prf := 1 })] } }) &&
    (fun (_t : Nat) (ch : Nat) (cur : Nat) (s : State) => decide (1 ≤ ch ∧ ch ≤ 32 ∧ s.phase ch = 5 ∧ cur < 20))
      0 6 19 ({ w ([(R.VD_CFG_KIND 5, 1), (R.VD_CFG_KIND 6, 2), (R.VD_PRF_A_I_PEAK 1, 8000), (R.VD_PRF_A_I_HOLD 1, 2000), (R.VD_PRF_A_BOOST 1, 1), (R.VD_PRF_A_T_BOOST_MAX 1, 1000), (R.VD_PRF_A_T_PEAK 1, 500), (R.VD_B_CFG_WAIT_LIM 2, 100)] ++ [(R.VD_STAT_PHASE 6, 5)]) with vd := {} }) &&
    (fun (t : Nat) (ch : Nat) (_mean : Nat) (_need : Nat) (s : State) => decide (1 ≤ ch ∧ ch ≤ 32 ∧ (s.phase ch
      = 6 ∨ s.phase ch = 4) ∧ (s.valve ch).ramp = none ∧ s.zeroTest ch = none ∧ (s.valve ch).period ≠ some
      ((s.begin t).carrierNo ch)))
      1250000 5 900 951 ({ w ([(R.VD_CFG_KIND 5, 1), (R.VD_CFG_KIND 6, 2), (R.VD_PRF_A_I_PEAK 1, 8000), (R.VD_PRF_A_I_HOLD 1, 2000), (R.VD_PRF_A_BOOST 1, 1), (R.VD_PRF_A_T_BOOST_MAX 1, 1000), (R.VD_PRF_A_T_PEAK 1, 500), (R.VD_B_CFG_WAIT_LIM 2, 100)] ++ [(R.VD_STAT_PHASE 5, 6), (R.VD_NOW_I_TGT 5, 1000), (R.VD_CFG_DITHER_F 5, 200), (R.VD_CFG_DITHER_A 5, 50)]) with vd := {} }) &&
    (fun (t : Nat) (ch : Nat) (s : State) => decide (1 ≤ ch ∧ ch ≤ 32 ∧ s.rd (R.VD_STAT_SAT ch) = 1 ∧ (s.valve
      ch).satAt + 100000000 ≤ max s.now t ∧ s.ls.dead = false ∧ (s.begin t).mayLog 0x700B ch 10000000000 = true ∧
      Room s))
      100000000 5 ({ w ([(R.VD_CFG_KIND 5, 1), (R.VD_CFG_KIND 6, 2), (R.VD_PRF_A_I_PEAK 1, 8000), (R.VD_PRF_A_I_HOLD 1, 2000), (R.VD_PRF_A_BOOST 1, 1), (R.VD_PRF_A_T_BOOST_MAX 1, 1000), (R.VD_PRF_A_T_PEAK 1, 500), (R.VD_B_CFG_WAIT_LIM 2, 100)] ++ [(R.VD_STAT_SAT 5, 1)]) with vd := {} }) &&
    (fun (t : Nat) (ch : Nat) (tmod : Int) (s : State) => decide (1 ≤ ch ∧ ch ≤ 32 ∧ valveChannels.all (fun c =>
      c = ch || s.rd (R.VD_CFG_KIND c) = 0) = true ∧ s.rd (R.VD_CFG_KIND ch) ≠ 0 ∧ s.phase ch = 0 ∧ s.rd
      (R.VD_STAT_FIRST ch) = 0 ∧ (s.valve ch).hot = false ∧ (s.valve ch).latch = 0 ∧ s.rd (R.VD_STAT_DERATED ch) =
      0 ∧ s.vd.coilAt.all (fun (x : Nat) => x + 10000000 ≤ max s.now t) = true ∧ (coilNodes (s.valve ch).tw
      (s.valve ch).tb 0 (mkRat tmod 10) ((s.rd (R.VD_THERM_RES_REF ch) : Rat) / 1000) (s.rd (R.VD_THERM_TAU_W ch))
      (s.rd (R.VD_THERM_TAU_B ch)) ((s.rd (R.VD_THERM_RTH_WB ch) : Rat) / 10) ((s.rd (R.VD_THERM_RTH_BA ch) : Rat)
      / 10) none).1 < (s.rd (R.VD_THERM2_T_WARN ch) : Rat) ∧ (s.rd (R.VD_THERM2_T_WARN ch) : Rat) ≤ (s.rd
      (R.VD_THERM2_T_MAX ch) : Rat)))
      0 5 250 (((w [(R.VD_CFG_KIND 5, 1), (R.VD_THERM_RES_REF 5, 5000), (R.VD_THERM_TAU_W 5, 60), (R.VD_THERM_TAU_B 5, 600), (R.VD_THERM_RTH_WB 5, 30), (R.VD_THERM_RTH_BA 5, 50), (R.VD_THERM2_T_WARN 5, 150), (R.VD_THERM2_T_MAX 5, 170), (R.VD_STAT_FIRST 5, 0)]).setValve 5 { tw := 40, tb := 30 }))) = true := by decide +kernel

theorem test_meets_ValveFaultsComplete : (
    (fun (t : Nat) (ch : Nat) (cur : Nat) (x : Nat) (s : State) => decide (1 ≤ ch ∧ ch ≤ 32 ∧ (s.valve ch).lowAt
      = some x ∧ x + 50000000 ≤ max s.now t ∧ (s.phase ch = 4 ∨ s.phase ch = 6) ∧ 100 ≤ s.rd (R.VD_NOW_I_TGT ch) ∧
      s.rd (R.VD_STAT_SAT ch) = 1 ∧ cur * 5 < s.rd (R.VD_NOW_I_TGT ch) ∧ s.fnOfChannel 1 ch = none ∧ s.ownsBank ch
      = false ∧ s.ls.dead = false ∧ Room s))
      50000000 5 19 0 ({ w ([(R.VD_CFG_KIND 5, 1), (R.VD_CFG_KIND 6, 2), (R.VD_PRF_A_I_PEAK 1, 8000), (R.VD_PRF_A_I_HOLD 1, 2000), (R.VD_PRF_A_BOOST 1, 1), (R.VD_PRF_A_T_BOOST_MAX 1, 1000), (R.VD_PRF_A_T_PEAK 1, 500), (R.VD_B_CFG_WAIT_LIM 2, 100)] ++ [(R.VD_STAT_PHASE 5, 6), (R.VD_NOW_I_TGT 5, 100), (R.VD_STAT_SAT 5, 1)]) with vd := { ch := [(5, { lowAt := some 0 })] } }) &&
    (fun (_t : Nat) (ch : Nat) (cur : Nat) (s : State) => decide (1 ≤ ch ∧ ch ≤ 32 ∧ 15000 < cur ∧ (s.valve
      ch).latch = 0 ∧ (s.valve ch).tripped = none ∧ (s.valve ch).trips = 0 ∧ s.ownsBank ch = false ∧ s.ls.dead =
      false ∧ Room s))
      0 5 15001 ({ w ([(R.VD_CFG_KIND 5, 1), (R.VD_CFG_KIND 6, 2), (R.VD_PRF_A_I_PEAK 1, 8000), (R.VD_PRF_A_I_HOLD 1, 2000), (R.VD_PRF_A_BOOST 1, 1), (R.VD_PRF_A_T_BOOST_MAX 1, 1000), (R.VD_PRF_A_T_PEAK 1, 500), (R.VD_B_CFG_WAIT_LIM 2, 100)] ++ [(R.VD_STAT_PHASE 5, 6)]) with vd := {} }) &&
    (fun (_t : Nat) (ch : Nat) (cur : Nat) (s : State) => decide (1 ≤ ch ∧ ch ≤ 32 ∧ 15000 < cur ∧ (s.valve
      ch).latch = 0 ∧ (s.valve ch).tripped = none ∧ 1 ≤ (s.valve ch).trips ∧ s.fnOfChannel 1 ch = none ∧
      s.ownsBank ch = false ∧ s.ls.dead = false ∧ Room s))
      0 5 15001 ({ w ([(R.VD_CFG_KIND 5, 1), (R.VD_CFG_KIND 6, 2), (R.VD_PRF_A_I_PEAK 1, 8000), (R.VD_PRF_A_I_HOLD 1, 2000), (R.VD_PRF_A_BOOST 1, 1), (R.VD_PRF_A_T_BOOST_MAX 1, 1000), (R.VD_PRF_A_T_PEAK 1, 500), (R.VD_B_CFG_WAIT_LIM 2, 100)] ++ [(R.VD_STAT_PHASE 5, 6)]) with vd := { ch := [(5, { trips := 1 })] } }) &&
    (fun (t : Nat) (ch : Nat) (p : Nat) (s : State) => decide (1 ≤ ch ∧ ch ≤ 32 ∧ (s.valve ch).tripped = some p
      ∧ (p = 4 ∨ p = 6) ∧ (s.valve ch).latchAt + 10000000 ≤ max s.now t))
      10000000 5 6 ({ w ([(R.VD_CFG_KIND 5, 1), (R.VD_CFG_KIND 6, 2), (R.VD_PRF_A_I_PEAK 1, 8000), (R.VD_PRF_A_I_HOLD 1, 2000), (R.VD_PRF_A_BOOST 1, 1), (R.VD_PRF_A_T_BOOST_MAX 1, 1000), (R.VD_PRF_A_T_PEAK 1, 500), (R.VD_B_CFG_WAIT_LIM 2, 100)] ++ []) with vd := { ch := [(5, { trips := 1, tripped := some 6, cmd := 900 })] } }) &&
    (fun (_t : Nat) (ch : Nat) (cur : Nat) (above : Nat) (s : State) => decide (1 ≤ ch ∧ ch ≤ 32 ∧ 200 < cur ∧
      1000000 ≤ above ∧ s.phase ch = 0 ∧ (s.bankS (bankOf ch)).hsOff = false ∧ s.ls.dead = false ∧ Room s))
      0 5 201 1000000 ({ w ([(R.VD_CFG_KIND 5, 1), (R.VD_CFG_KIND 6, 2), (R.VD_PRF_A_I_PEAK 1, 8000), (R.VD_PRF_A_I_HOLD 1, 2000), (R.VD_PRF_A_BOOST 1, 1), (R.VD_PRF_A_T_BOOST_MAX 1, 1000), (R.VD_PRF_A_T_PEAK 1, 500), (R.VD_B_CFG_WAIT_LIM 2, 100)] ++ []) with vd := {} }) &&
    (fun (_t : Nat) (b : Nat) (cur : Nat) (s : State) => decide (1 ≤ b ∧ b ≤ 8 ∧ 30000 < cur ∧ (s.bankS b).hsOff
      = false ∧ s.ls.dead = false ∧ Room s))
      0 2 30001 ({ w ([(R.VD_CFG_KIND 5, 1), (R.VD_CFG_KIND 6, 2), (R.VD_PRF_A_I_PEAK 1, 8000), (R.VD_PRF_A_I_HOLD 1, 2000), (R.VD_PRF_A_BOOST 1, 1), (R.VD_PRF_A_T_BOOST_MAX 1, 1000), (R.VD_PRF_A_T_PEAK 1, 500), (R.VD_B_CFG_WAIT_LIM 2, 100)] ++ []) with vd := {} }) &&
    (fun (t : Nat) (ch : Nat) (s : State) => decide (1 ≤ ch ∧ ch ≤ 32 ∧ s.rd (R.VD_STAT_RST ch) = 1 ∧ (s.valve
      ch).resetAt + 250000000 ≤ max s.now t ∧ (s.valve ch).latch = 0 ∧ s.ownsBank ch = false ∧ (s.phase ch = 4 ∨
      s.phase ch = 6)))
      250000000 5 ({ w ([(R.VD_CFG_KIND 5, 1), (R.VD_CFG_KIND 6, 2), (R.VD_PRF_A_I_PEAK 1, 8000), (R.VD_PRF_A_I_HOLD 1, 2000), (R.VD_PRF_A_BOOST 1, 1), (R.VD_PRF_A_T_BOOST_MAX 1, 1000), (R.VD_PRF_A_T_PEAK 1, 500), (R.VD_B_CFG_WAIT_LIM 2, 100)] ++ [(R.VD_STAT_RST 5, 1), (R.VD_STAT_PHASE 5, 6)]) with vd := {} })) = true := by decide +kernel

theorem test_meets_SwitchCommandsComplete_1 : (
    (fun (_t : Nat) (ch : Nat) (_src : Nat) (_mj : Nat) (s : State) => decide (1 ≤ ch ∧ ch ≤ 24 ∧ s.rd
      (R.LS_CFG_USE ch) = 1 ∧ s.ls.down = false ∧ s.ls.badCopy = false ∧ (s.sw ch).thermal = false ∧ (s.sw
      ch).clamp = false ∧ (s.sw ch).ocLatch = false ∧ (s.sw ch).pause = none ∧ (s.sw ch).changedAt.all (fun c =>
      decide (c + 10000000 ≤ s.now)) = true))
      0 3 0 0 ({ w ([(R.LS_CFG_USE 3, 1), (R.LS_CFG_BUDGET 3, 500), (R.LS_CFG_N_LATCH 3, 3), (R.WH_STAT_STORE, 1)] ++ []) with ls := {} }) &&
    (fun (_t : Nat) (ch : Nat) (_src : Nat) (_mj : Nat) (s : State) => decide (1 ≤ ch ∧ ch ≤ 24 ∧ s.rd
      (R.LS_CFG_USE ch) = 1 ∧ s.ls.down = false ∧ s.ls.badCopy = false ∧ (s.sw ch).thermal = false ∧ (s.sw
      ch).clamp = false ∧ (s.sw ch).ocLatch = false ∧ (s.sw ch).pause = none ∧ (s.sw ch).changedAt.all (fun c =>
      decide (c + 10000000 ≤ s.now)) = true))
      0 3 0 0 ({ { w ([(R.LS_CFG_USE 3, 1), (R.LS_CFG_BUDGET 3, 500), (R.LS_CFG_N_LATCH 3, 3), (R.WH_STAT_STORE, 1)] ++ []) with ls := { ch := [(3, { changedAt := some 0, resetRun := true })] } } with now := 10000000 }) &&
    (fun (t : Nat) (ch : Nat) (src : Nat) (mj : Nat) (s : State) => decide (1 ≤ ch ∧ ch ≤ 24 ∧ s.rd
      (R.LS_CFG_USE ch) = 1 ∧ s.ls.down = false ∧ s.ls.badCopy = false ∧ (s.sw ch).thermal = false ∧ (s.sw
      ch).clamp = false ∧ (s.sw ch).ocLatch = false ∧ (s.sw ch).pause = none ∧ (s.sw ch).out = true ∧ ((s.sw
      ch).changedAt.all (fun c => decide (c + 10000000 ≤ s.now)) = true ∨ src = 3 ∨ (s.sw ch).cmd = false) ∧ (mj :
      Rat) < (s.begin t).budgetLeft ch))
      5 3 3 40 ({ w ([(R.LS_CFG_USE 3, 1), (R.LS_CFG_BUDGET 3, 500), (R.LS_CFG_N_LATCH 3, 3), (R.WH_STAT_STORE, 1)] ++ []) with ls := { ch := [(3, { cmd := true, out := true, changedAt := some 0, used := 20 })] } }) &&
    (fun (t : Nat) (ch : Nat) (src : Nat) (_mj : Nat) (c : Nat) (on : Bool) (s : State) => decide (1 ≤ ch ∧ ch ≤
      24 ∧ s.rd (R.LS_CFG_USE ch) = 1 ∧ s.latchedSwitch ch = false ∧ on ≠ (s.sw ch).cmd ∧ (s.sw ch).changedAt =
      some c ∧ max s.now t < c + 10000000 ∧ (on = true ∨ src ≠ 3)))
      9999999 3 0 0 0 true ({ w ([(R.LS_CFG_USE 3, 1), (R.LS_CFG_BUDGET 3, 500), (R.LS_CFG_N_LATCH 3, 3), (R.WH_STAT_STORE, 1)] ++ []) with ls := { ch := [(3, { changedAt := some 0 })] } }) &&
    (fun (_t : Nat) (ch : Nat) (_src : Nat) (_mj : Nat) (_on : Bool) (s : State) => decide (1 ≤ ch ∧ ch ≤ 24 ∧
      s.rd (R.LS_CFG_USE ch) ≠ 1 ∧ s.ls.dead = false ∧ Room s))
      0 4 2 0 true ({ w ([(R.LS_CFG_USE 3, 1), (R.LS_CFG_BUDGET 3, 500), (R.LS_CFG_N_LATCH 3, 3), (R.WH_STAT_STORE, 1)] ++ []) with ls := {} }) &&
    (fun (t : Nat) (ch : Nat) (_mj : Nat) (s : State) => decide (1 ≤ ch ∧ ch ≤ 24 ∧ s.rd (R.LS_CFG_USE ch) = 1 ∧
      s.ls.down = false ∧ s.ls.badCopy = false ∧ (s.sw ch).thermal = false ∧ (s.sw ch).clamp = false ∧ (s.sw
      ch).ocLatch = false ∧ (s.sw ch).pause = none ∧ (s.sw ch).waiting = some true ∧ (s.sw ch).changedAt.all (fun
      c => decide (c + 10000000 ≤ max s.now t)) = true))
      10000000 3 0 ({ w ([(R.LS_CFG_USE 3, 1), (R.LS_CFG_BUDGET 3, 500), (R.LS_CFG_N_LATCH 3, 3), (R.WH_STAT_STORE, 1)] ++ []) with ls := { ch := [(3, { changedAt := some 0, waiting := some true })] } }) &&
    (fun (t : Nat) (ch : Nat) (limited : Nat) (above : Nat) (cur : Nat) (mj : Nat) (s : State) => decide (1 ≤ ch
      ∧ ch ≤ 24 ∧ s.tripDue ch limited above cur = true ∧ s.rd (R.LS_CFG_USE ch) ≠ 0 ∧ (s.sw ch).out = true ∧
      (s.sw ch).thermal = false ∧ (s.sw ch).clamp = false ∧ (s.sw ch).frozenAt = none ∧ s.ls.dead = false ∧ (mj :
      Rat) < (s.begin t).budgetLeft ch ∧ (s.begin t).tripCount ch + 1 < s.rd (R.LS_CFG_N_LATCH ch) ∧ (s.begin
      t).mayLog 0x8001 ch 1000000000 = true ∧ (s.sw ch).ocLatch = false ∧ Room s))
      5 3 1000000000 0 900 40 ({ w ([(R.LS_CFG_USE 3, 1), (R.LS_CFG_BUDGET 3, 500), (R.LS_CFG_N_LATCH 3, 3), (R.WH_STAT_STORE, 1)] ++ []) with ls := { ch := [(3, { cmd := true, out := true, trips := [0] })] } }) &&
    (fun (t : Nat) (ch : Nat) (limited : Nat) (above : Nat) (cur : Nat) (mj : Nat) (s : State) => decide (1 ≤ ch
      ∧ ch ≤ 24 ∧ s.tripDue ch limited above cur = true ∧ s.rd (R.LS_CFG_USE ch) ≠ 0 ∧ (s.sw ch).out = true ∧
      (s.sw ch).thermal = false ∧ (s.sw ch).clamp = false ∧ (s.sw ch).frozenAt = none ∧ s.ls.dead = false ∧ (mj :
      Rat) < (s.begin t).budgetLeft ch ∧ s.rd (R.LS_CFG_N_LATCH ch) ≤ (s.begin t).tripCount ch + 1 ∧ s.switchFn ch
      = none ∧ Room s))
      5 3 1000000000 0 900 40 ({ w ([(R.LS_CFG_USE 3, 1), (R.LS_CFG_BUDGET 3, 500), (R.LS_CFG_N_LATCH 3, 3), (R.WH_STAT_STORE, 1)] ++ []) with ls := { ch := [(3, { cmd := true, out := true, trips := [0, 1] })] } }) &&
    (fun (t : Nat) (ch : Nat) (p : Nat) (s : State) => decide (1 ≤ ch ∧ ch ≤ 24 ∧ s.rd (R.LS_CFG_USE ch) = 1 ∧
      s.ls.down = false ∧ s.ls.badCopy = false ∧ (s.sw ch).thermal = false ∧ (s.sw ch).clamp = false ∧ (s.sw
      ch).ocLatch = false ∧ (s.sw ch).pause = some p ∧ p ≤ max s.now t ∧ (s.sw ch).out = false ∧ (s.sw
      ch).resetRun = false))
      5000000 3 5000000 ({ w ([(R.LS_CFG_USE 3, 1), (R.LS_CFG_BUDGET 3, 500), (R.LS_CFG_N_LATCH 3, 3), (R.WH_STAT_STORE, 1)] ++ []) with ls := { ch := [(3, { cmd := true, pause := some 5000000 })] } }) &&
    (fun (t : Nat) (ch : Nat) (mj : Nat) (tj : Int) (s : State) => decide (1 ≤ ch ∧ ch ≤ 24 ∧ s.rd (R.LS_CFG_USE
      ch) ≠ 0 ∧ (s.sw ch).thermal = false ∧ 1750 ≤ tj ∧ (s.sw ch).out = true ∧ (s.sw ch).clamp = false ∧ s.ls.dead
      = false ∧ (mj : Rat) < (s.begin t).budgetLeft ch ∧ s.switchFn ch = none ∧ Room s))
      5 3 40 1750 ({ w ([(R.LS_CFG_USE 3, 1), (R.LS_CFG_BUDGET 3, 500), (R.LS_CFG_N_LATCH 3, 3), (R.WH_STAT_STORE, 1)] ++ []) with ls := { ch := [(3, { cmd := true, out := true })] } }) &&
    (fun (_t : Nat) (ch : Nat) (cur : Nat) (held : Nat) (s : State) => decide (1 ≤ ch ∧ ch ≤ 24 ∧ 100000000 ≤
      held ∧ (s.sw ch).out = true ∧ s.rd (R.LS_CFG_OPEN_I ch) ≠ 0 ∧ cur < s.rd (R.LS_CFG_OPEN_I ch) ∧ s.flag
      (R.LS_STAT_OPEN ch) = false ∧ s.ls.dead = false ∧ Room s))
      0 3 9 100000000 ({ w ([(R.LS_CFG_USE 3, 1), (R.LS_CFG_BUDGET 3, 500), (R.LS_CFG_N_LATCH 3, 3), (R.WH_STAT_STORE, 1)] ++ [(R.LS_CFG_OPEN_I 3, 10)]) with ls := { ch := [(3, { out := true })] } }) &&
    (fun (_t : Nat) (ch : Nat) (cur : Nat) (held : Nat) (s : State) => decide (1 ≤ ch ∧ ch ≤ 24 ∧ 100000000 ≤
      held ∧ s.rd (R.LS_CFG_OPEN_I ch) ≤ cur))
      0 3 10 100000000 ({ w ([(R.LS_CFG_USE 3, 1), (R.LS_CFG_BUDGET 3, 500), (R.LS_CFG_N_LATCH 3, 3), (R.WH_STAT_STORE, 1)] ++ [(R.LS_CFG_OPEN_I 3, 10)]) with ls := { ch := [(3, { out := true })] } })) = true := by decide +kernel

theorem test_meets_SwitchCommandsComplete_2 : (
    (fun (t : Nat) (n : Nat) (ch : Nat) (tj : Int) (s : State) => decide (1 ≤ ch ∧ ch ≤ 24 ∧ n ≠ 0 ∧
      s.ses.open_.any (fun p => p.2.num = n) = true ∧ s.classAtLeast n 2 = true ∧ s.turn n (.clearSwitch) = true ∧
      s.rd (R.LS_CFG_USE ch) = 2 ∧ ((s.sw ch).thermal = false ∨ toSigned 16 (ofSigned 16 tj) < 1500) ∧ ((s.sw
      ch).clamp = false ∨ (s.rd (R.LS_CFG_BUDGET ch) : Rat) ≤ (s.begin t).budgetLeft ch) ∧ (s.sw ch).out = false ∧
      s.ls.dead = false ∧ Room s))
      0 1 3 1499 ({ wS 2 6 [(R.LS_CFG_USE 3, 2)] with ls := { ch := [(3, { thermal := true, trips := [0] })] } }) &&
    (fun (t : Nat) (n : Nat) (ch : Nat) (b : Nat) (tj : Int) (s : State) => decide (1 ≤ ch ∧ ch ≤ 24 ∧ n ≠ 0 ∧
      s.ses.open_.any (fun p => p.2.num = n) = true ∧ s.classAtLeast n 2 = true ∧ s.turn n (.clearSwitch) = true ∧
      s.rd (R.LS_CFG_USE ch) = 2 ∧ ((s.begin t).wr (R.LS_NOW_TJ ch) (ofSigned 16 tj)).switchBlocks ch = some b ∧
      s.ls.dead = false ∧ Room s))
      0 1 3 5 1500 ({ wS 2 6 [(R.LS_CFG_USE 3, 2)] with ls := { ch := [(3, { thermal := true, trips := [0] })] } })) = true := by decide +kernel

theorem test_meets_WalkHomeComplete : (
    (fun (t : Nat) (a : Nat) (_cl : List (Nat × Nat)) (s : State) => decide (s.ls.assertAt = some a ∧ s.ls.full
      = false ∧ s.ls.cmdSince = false ∧ s.ls.dead = false ∧ a + 250000000 ≤ max s.now t))
      250000000 0 [] ({ w ([(R.LS_CFG_USE 3, 1), (R.LS_CFG_BUDGET 3, 500), (R.LS_CFG_N_LATCH 3, 3), (R.WH_STAT_STORE, 1)] ++ []) with ls := { assertAt := some 0, full := false } }) &&
    (fun (t : Nat) (a : Nat) (_cl : List (Nat × Nat)) (s : State) => decide (s.ls.assertAt = some a ∧ s.ls.full
      = false ∧ s.ls.cmdSince = false ∧ s.ls.dead = false ∧ a + 250000000 ≤ max s.now t))
      250000000 0 [(3, 10)] ({ w ([(R.LS_CFG_USE 3, 1), (R.LS_CFG_BUDGET 3, 500), (R.LS_CFG_N_LATCH 3, 3), (R.WH_STAT_STORE, 1)] ++ []) with ls := { ch := [(3, { out := true, cmd := true, resetRun := true })], assertAt := some 0, full := false } }) &&
    (fun (_t : Nat) (s : State) => decide (s.inReset = false ∧ s.ls.dead = false ∧ (s.ls.assertAt = none ∨
      s.ls.full = true ∨ s.ls.cmdSince = true) ∧ Room s))
      9 ({ { w ([(R.LS_CFG_USE 3, 1), (R.LS_CFG_BUDGET 3, 500), (R.LS_CFG_N_LATCH 3, 3), (R.WH_STAT_STORE, 1)] ++ []) with ls := { ch := [(3, { out := true, cmd := true })] } } with rst := { held := false } }) &&
    (fun (t : Nat) (r : Nat) (s : State) => decide (s.ls.released = some r ∧ s.ls.full = true ∧ s.ls.cmdSince =
      false ∧ s.ls.dead = false ∧ r + 1000000000 ≤ max s.now t))
      1000000000 0 ({ w ([(R.LS_CFG_USE 3, 1), (R.LS_CFG_BUDGET 3, 500), (R.LS_CFG_N_LATCH 3, 3), (R.WH_STAT_STORE, 1)] ++ []) with ls := { released := some 0, full := true } }) &&
    (fun (_t : Nat) (_cl : List (Nat × Nat)) (s : State) => decide (s.ls.dead = true ∧ s.ls.held = [] ∧
      switchChannels.all (fun n => !(s.sw n).out) = true ∧ ((∀ c ∈ valveChannels, s.rd (R.VD_STAT_RST c) ≠ 3)) ∧
      Room s))
      7000000 [] ({ w ([(R.LS_CFG_USE 3, 1), (R.LS_CFG_BUDGET 3, 500), (R.LS_CFG_N_LATCH 3, 3), (R.WH_STAT_STORE, 1)] ++ []) with ls := { dead := true, deadAt := 2000000, mask := 4 } }) &&
    (fun (_t : Nat) (p : Nat) (_lv : Bool) (_cl : List (Nat × Nat)) (_s : State) => decide (1 ≤ p ∧ p ≤ 8))
      0 8 true [] ({ w ([(R.LS_CFG_USE 3, 1), (R.LS_CFG_BUDGET 3, 500), (R.LS_CFG_N_LATCH 3, 3), (R.WH_STAT_STORE, 1)] ++ [(R.LS_CFG_USE 3, 2), (R.WH_MAP_LSW 8, 4)]) with ls := { live := true } }) &&
    (fun (t : Nat) (p : Nat) (ch : Nat) (s : State) => decide (1 ≤ p ∧ p ≤ 8 ∧ 1 ≤ ch ∧ ch ≤ 24 ∧ s.rd
      (R.LS_CFG_USE ch) = 2 ∧ s.switchPin ch = some p ∧ s.pinHeld p = false ∧ (s.begin t).pinsLive = true ∧ (s.sw
      ch).out = false ∧ (s.sw ch).pause = none ∧ s.ls.down = false ∧ s.ls.badCopy = false ∧ (s.sw ch).thermal =
      false ∧ (s.sw ch).clamp = false ∧ (s.sw ch).ocLatch = false))
      0 8 3 ({ w ([(R.LS_CFG_USE 3, 1), (R.LS_CFG_BUDGET 3, 500), (R.LS_CFG_N_LATCH 3, 3), (R.WH_STAT_STORE, 1)] ++ [(R.LS_CFG_USE 3, 2), (R.WH_MAP_LSW 8, 4)]) with ls := { live := true, full := false } }) &&
    (fun (_t : Nat) (p : Nat) (hz : Nat) (_cl : List (Nat × Nat)) (s : State) => decide (1 ≤ p ∧ p ≤ 8 ∧ 440 <
      hz ∧ s.ls.dead = false ∧ switchChannels.all (fun n => !(s.sw n).out) = true ∧ ((∀ c ∈ valveChannels, s.rd
      (R.VD_STAT_RST c) ≠ 3)) ∧ Room s))
      0 8 441 [] ({ w ([(R.LS_CFG_USE 3, 1), (R.LS_CFG_BUDGET 3, 500), (R.LS_CFG_N_LATCH 3, 3), (R.WH_STAT_STORE, 1)] ++ []) with ls := {} }) &&
    (fun (_t : Nat) (p : Nat) (hz : Nat) (_cl : List (Nat × Nat)) (_s : State) => decide (1 ≤ p ∧ p ≤ 8 ∧ hz ≤
      400))
      0 8 400 [] (w [(R.WH_STAT_FREQ, 255)]) &&
    (fun (_t : Nat) (_p : Nat) (hz : Nat) (_cl : List (Nat × Nat)) (_s : State) => decide (400 < hz ∧ hz ≤ 440))
      0 8 440 [] (w []) &&
    (fun (_t : Nat) (s : State) => decide (s.ls.full = true ∧ switchChannels.all (fun n => !(s.sw n).out) = true
      ∧ s.ls.copy = [(R.WH_MAP_LSW 8, 4)]))
      0 ({ w ([(R.LS_CFG_USE 3, 1), (R.LS_CFG_BUDGET 3, 500), (R.LS_CFG_N_LATCH 3, 3), (R.WH_STAT_STORE, 1)] ++ []) with ls := { full := true, copy := [(R.WH_MAP_LSW 8, 4)], badCopy := true } }) &&
    (fun (_t : Nat) (s : State) => decide (s.ls.full = true ∧ s.configured = false ∧ s.ls.dead = false ∧ Room
      s))
      0 ({ w ([(R.LS_CFG_USE 3, 1), (R.LS_CFG_BUDGET 3, 500), (R.LS_CFG_N_LATCH 3, 3), (R.WH_STAT_STORE, 1)] ++ []) with ls := { full := true } })) = true := by decide +kernel

theorem test_meets_CanComplete : (
    (fun (_t : Nat) (ch : Nat) (_age : Nat) (f : CanIn) (s : State) => decide (1 ≤ ch ∧ ch ≤ 10 ∧ s.canOnBus ch
      = true ∧ f.remote = false ∧ (List.range 512).all (fun n => !s.sigMatches ch f n) = true))
      9 2 1 { id := 0x18FEF200, ide := true, dlc := 8, data := [0, 0, 0, 0, 0, 0, 0, 0] } ({ w ([(R.MODE_STAT_MODE, 5), (R.ISL_STAT_RUN 5, 1), (R.ISL_STAT_RUN 6, 1), (R.CAN_STAT_STATE 2, 1), (R.ETH_CFG_EN 3, 1), (R.ETH_CFG_GPTP 3, 1), (R.FNP_CFG_EN 3, 1), (R.FNP_CFG_PCLASS 3, 5)] ++ [(R.CAN_STAT_REC 2, 130), (R.CAN_CFG_ROLE 2, 2)]) with lk := {} }) &&
    (fun (_t : Nat) (ch : Nat) (_age : Nat) (n : Nat) (f : CanIn) (s : State) => decide (1 ≤ ch ∧ ch ≤ 10 ∧ n <
      512 ∧ s.canOnBus ch = true ∧ f.remote = false ∧ s.sigMatches ch f n = true ∧ (fieldBits (s.rd
      (R.CAN_SIG_CFG_START n)) (s.rd (R.CAN_SIG_CFG_LEN n)) (s.rd (R.CAN_SIG_CFG_ORDER n))).all (fun q => q < 8 *
      f.data.length) = true ∧ s.rd (R.CAN_SIG_CFG_SIGNED n) = 0))
      9 2 1 300 { id := 5, ide := false, dlc := 2, data := [0x34, 0x12] } ({ w ([(R.MODE_STAT_MODE, 5), (R.ISL_STAT_RUN 5, 1), (R.ISL_STAT_RUN 6, 1), (R.CAN_STAT_STATE 2, 1), (R.ETH_CFG_EN 3, 1), (R.ETH_CFG_GPTP 3, 1), (R.FNP_CFG_EN 3, 1), (R.FNP_CFG_PCLASS 3, 5)] ++ [(R.CAN_SIG_CFG_CH 300, 2), (R.CAN_SIG_CFG_ID 300, 5), (R.CAN_SIG_CFG_START 300, 4), (R.CAN_SIG_CFG_LEN 300, 12), (R.CAN_SIG_SCALE_GAIN 300, 0x40000000)]) with lk := {} }) &&
    (fun (_t : Nat) (ch : Nat) (_age : Nat) (f : CanIn) (s : State) => decide (1 ≤ ch ∧ ch ≤ 10 ∧ s.canOnBus ch
      = true ∧ f.remote = true))
      9 2 1 { id := 5, ide := false, remote := true, dlc := 0, data := [] } ({ w ([(R.MODE_STAT_MODE, 5), (R.ISL_STAT_RUN 5, 1), (R.ISL_STAT_RUN 6, 1), (R.CAN_STAT_STATE 2, 1), (R.ETH_CFG_EN 3, 1), (R.ETH_CFG_GPTP 3, 1), (R.FNP_CFG_EN 3, 1), (R.FNP_CFG_PCLASS 3, 5)] ++ []) with lk := {} }) &&
    (fun (_t : Nat) (ch : Nat) (age : Nat) (f : FrameS) (s : State) => decide (1 ≤ ch ∧ ch ≤ 10 ∧ s.canOnBus ch
      = true ∧ (s.can ch).fifo = [f] ∧ (s.can ch).stack = [] ∧ (f.fdf = true ∨ frameBits f.ide f.data.length *
      s.canBit ch ≤ age)))
      9 2 440000 { id := 5, ide := false, fdf := false, brs := false, dlc := 1, data := [7], buffer := 2, since := 0 } ({ w ([(R.MODE_STAT_MODE, 5), (R.ISL_STAT_RUN 5, 1), (R.ISL_STAT_RUN 6, 1), (R.CAN_STAT_STATE 2, 1), (R.ETH_CFG_EN 3, 1), (R.ETH_CFG_GPTP 3, 1), (R.FNP_CFG_EN 3, 1), (R.FNP_CFG_PCLASS 3, 5)] ++ [(R.CAN_STAT_TEC 2, 8)]) with lk := { can := [(2, { fifo := [{ id := 5, ide := false, fdf := false, brs := false, dlc := 1, data := [7], buffer := 2, since := 0 }] })] } }) &&
    (fun (_t : Nat) (ch : Nat) (s : State) => decide (1 ≤ ch ∧ ch ≤ 10 ∧ s.canOnBus ch = true ∧ s.canFns ch = []
      ∧ Room s))
      9 2 ({ w ([(R.MODE_STAT_MODE, 5), (R.ISL_STAT_RUN 5, 1), (R.ISL_STAT_RUN 6, 1), (R.CAN_STAT_STATE 2, 1), (R.ETH_CFG_EN 3, 1), (R.ETH_CFG_GPTP 3, 1), (R.FNP_CFG_EN 3, 1), (R.FNP_CFG_PCLASS 3, 5)] ++ [(R.CAN_CFG_BOFF_STOP 2, 2)]) with lk := { can := [(2, { offs := [5] })] } }) &&
    (fun (t : Nat) (ch : Nat) (s : State) => decide (1 ≤ ch ∧ ch ≤ 10 ∧ (s.rd (R.CAN_STAT_STATE ch) = 3 ∨ s.rd
      (R.CAN_STAT_STATE ch) = 4) ∧ (s.rd (R.CAN_CFG_ROLE ch) = 0 ∨ s.rd (R.CAN_STAT_ADDR ch) ≠ 0xFE) ∧ (s.can
      ch).fifo = [] ∧ (s.can ch).offs.getLastD 0 + 1408 * s.canBit ch ≤ max s.now t))
      11264000 2 ({ w ([(R.MODE_STAT_MODE, 5), (R.ISL_STAT_RUN 5, 1), (R.ISL_STAT_RUN 6, 1), (R.CAN_STAT_STATE 2, 1), (R.ETH_CFG_EN 3, 1), (R.ETH_CFG_GPTP 3, 1), (R.FNP_CFG_EN 3, 1), (R.FNP_CFG_PCLASS 3, 5)] ++ [(R.CAN_STAT_STATE 2, 3), (R.CAN_STAT_ADDR 2, 130)]) with lk := {} }) &&
    (fun (t : Nat) (c : Nat) (sec : Int) (s : State) => decide (s.islandOut 6 = false ∧ sec = (s.begin
      t).harvest / 1000000000 * 1000000000 ∧ c = s.canCount (max s.now t - ((s.begin t).harvest - sec).toNat) ∧
      (s.lk.tsmapStep = true ∨ s.lk.tsmapAt.map Prod.fst ≠ some sec)))
      1000000000 80000000 1000000000 ({ w ([(R.MODE_STAT_MODE, 5), (R.ISL_STAT_RUN 5, 1), (R.ISL_STAT_RUN 6, 1), (R.CAN_STAT_STATE 2, 1), (R.ETH_CFG_EN 3, 1), (R.ETH_CFG_GPTP 3, 1), (R.FNP_CFG_EN 3, 1), (R.FNP_CFG_PCLASS 3, 5)] ++ []) with lk := { tsmapStep := false, tsmapAt := some (0, 7) } }) &&
    (fun (t : Nat) (c : Nat) (sec : Int) (s : State) => decide (s.islandOut 6 = false ∧ sec = (s.begin
      t).harvest / 1000000000 * 1000000000 ∧ c = s.canCount (max s.now t - ((s.begin t).harvest - sec).toNat) ∧
      (s.lk.tsmapStep = true ∨ s.lk.tsmapAt.map Prod.fst ≠ some sec)))
      1000000000 80000000 1000000000 ({ w ([(R.MODE_STAT_MODE, 5), (R.ISL_STAT_RUN 5, 1), (R.ISL_STAT_RUN 6, 1), (R.CAN_STAT_STATE 2, 1), (R.ETH_CFG_EN 3, 1), (R.ETH_CFG_GPTP 3, 1), (R.FNP_CFG_EN 3, 1), (R.FNP_CFG_PCLASS 3, 5)] ++ []) with lk := {} }) &&
    (fun (_t : Nat) (ch : Nat) (s : State) => decide (1 ≤ ch ∧ ch ≤ 10 ∧ (s.rd (R.CAN_CFG_ROLE ch) = 1 ∨ s.rd
      (R.CAN_CFG_ROLE ch) = 2) ∧ s.canOnBus ch = true ∧ Room s))
      9 2 ({ w ([(R.MODE_STAT_MODE, 5), (R.ISL_STAT_RUN 5, 1), (R.ISL_STAT_RUN 6, 1), (R.CAN_STAT_STATE 2, 1), (R.ETH_CFG_EN 3, 1), (R.ETH_CFG_GPTP 3, 1), (R.FNP_CFG_EN 3, 1), (R.FNP_CFG_PCLASS 3, 5)] ++ [(R.CAN_CFG_ROLE 2, 1)]) with lk := {} }) &&
    (fun (_t : Nat) (ch : Nat) (s : State) => decide (1 ≤ ch ∧ ch ≤ 10 ∧ (s.rd (R.CAN_CFG_ROLE ch) = 1 ∨ s.rd
      (R.CAN_CFG_ROLE ch) = 2) ∧ s.canOnBus ch = true ∧ (s.rd (R.CAN_CFG_SELFCONF ch) = 0 ∨ 120 ≤ (s.can
      ch).tried) ∧ s.canFns ch = [] ∧ Room s))
      9 2 ({ w ([(R.MODE_STAT_MODE, 5), (R.ISL_STAT_RUN 5, 1), (R.ISL_STAT_RUN 6, 1), (R.CAN_STAT_STATE 2, 1), (R.ETH_CFG_EN 3, 1), (R.ETH_CFG_GPTP 3, 1), (R.FNP_CFG_EN 3, 1), (R.FNP_CFG_PCLASS 3, 5)] ++ [(R.CAN_CFG_ROLE 2, 1)]) with lk := {} }) &&
    (fun (_t : Nat) (ch : Nat) (s : State) => decide (1 ≤ ch ∧ ch ≤ 10 ∧ (s.rd (R.CAN_CFG_ROLE ch) = 1 ∨ s.rd
      (R.CAN_CFG_ROLE ch) = 2) ∧ s.canOnBus ch = true ∧ s.rd (R.CAN_CFG_SELFCONF ch) = 1 ∧ (s.can ch).tried < 120
      ∧ (s.can ch).fifo = [] ∧ (s.can ch).stack = []))
      9 2 ({ w ([(R.MODE_STAT_MODE, 5), (R.ISL_STAT_RUN 5, 1), (R.ISL_STAT_RUN 6, 1), (R.CAN_STAT_STATE 2, 1), (R.ETH_CFG_EN 3, 1), (R.ETH_CFG_GPTP 3, 1), (R.FNP_CFG_EN 3, 1), (R.FNP_CFG_PCLASS 3, 5)] ++ [(R.CAN_CFG_ROLE 2, 1), (R.CAN_CFG_SELFCONF 2, 1)]) with lk := {} })) = true := by decide +kernel

theorem test_meets_EthernetAndNodesComplete_1 : (
    (fun (_t : Nat) (p : Nat) (up : Bool) (s : State) => decide (1 ≤ p ∧ p ≤ 6 ∧ s.rd (R.ETH_CFG_EN p) = 1 ∧
      s.islandOut 5 = false ∧ s.rd (R.ETH_STAT_LINK p) ≠ bit01 up ∧ s.rd (R.ETH_STAT_LINK p) ≤ 1 ∧ Room s))
      0 3 true ({ w ([(R.MODE_STAT_MODE, 5), (R.ISL_STAT_RUN 5, 1), (R.ISL_STAT_RUN 6, 1), (R.CAN_STAT_STATE 2, 1), (R.ETH_CFG_EN 3, 1), (R.ETH_CFG_GPTP 3, 1), (R.FNP_CFG_EN 3, 1), (R.FNP_CFG_PCLASS 3, 5)] ++ []) with lk := {} }) &&
    (fun (t : Nat) (p : Nat) (s : State) => decide (s.gptpOn p = true ∧ (s.begin t).intervalDue s.lk.syncAt p
      125000000 = true))
      0 3 ({ w ([(R.MODE_STAT_MODE, 5), (R.ISL_STAT_RUN 5, 1), (R.ISL_STAT_RUN 6, 1), (R.CAN_STAT_STATE 2, 1), (R.ETH_CFG_EN 3, 1), (R.ETH_CFG_GPTP 3, 1), (R.FNP_CFG_EN 3, 1), (R.FNP_CFG_PCLASS 3, 5)] ++ [(R.ETH_STAT_LINK 3, 1)]) with lk := {} }) &&
    (fun (t : Nat) (p : Nat) (s : State) => decide (s.gptpOn p = true ∧ (s.begin t).intervalDue s.lk.announceAt
      p 1000000000 = true))
      0 3 ({ w ([(R.MODE_STAT_MODE, 5), (R.ISL_STAT_RUN 5, 1), (R.ISL_STAT_RUN 6, 1), (R.CAN_STAT_STATE 2, 1), (R.ETH_CFG_EN 3, 1), (R.ETH_CFG_GPTP 3, 1), (R.FNP_CFG_EN 3, 1), (R.FNP_CFG_PCLASS 3, 5)] ++ [(R.ETH_STAT_LINK 3, 1)]) with lk := {} }) &&
    (fun (t : Nat) (p : Nat) (_ident : Nat) (s : State) => decide (1 ≤ p ∧ s.gptpOn p = true ∧ (s.begin
      t).mayLog 0x9011 p 10000000000 = true ∧ Room s))
      7 3 99 ({ w ([(R.MODE_STAT_MODE, 5), (R.ISL_STAT_RUN 5, 1), (R.ISL_STAT_RUN 6, 1), (R.CAN_STAT_STATE 2, 1), (R.ETH_CFG_EN 3, 1), (R.ETH_CFG_GPTP 3, 1), (R.FNP_CFG_EN 3, 1), (R.FNP_CFG_PCLASS 3, 5)] ++ [(R.ETH_STAT_LINK 3, 1)]) with lk := {} }) &&
    (fun (t : Nat) (p : Nat) (_cls : Nat) (_v : Bool) (s : State) => decide (1 ≤ p ∧ p ≤ 12 ∧ s.rd (R.FNP_CFG_EN
      p) = 1 ∧ s.rd (R.FNP_CFG_PCLASS p) ≠ 0 ∧ s.rd (R.FNP_STAT_STATE p) < 2 ∧ s.mode ≠ Mode.SLEEP ∧ (s.nodeS
      p).tryAt.all (fun (x : Nat) => x + 1000000000 ≤ max s.now t) = true ∧ Room s))
      0 3 5 true ({ w ([(R.MODE_STAT_MODE, 5), (R.ISL_STAT_RUN 5, 1), (R.ISL_STAT_RUN 6, 1), (R.CAN_STAT_STATE 2, 1), (R.ETH_CFG_EN 3, 1), (R.ETH_CFG_GPTP 3, 1), (R.FNP_CFG_EN 3, 1), (R.FNP_CFG_PCLASS 3, 5)] ++ []) with lk := {} }) &&
    (fun (t : Nat) (p : Nat) (_cls : Nat) (_v : Bool) (s : State) => decide (1 ≤ p ∧ p ≤ 12 ∧ s.rd (R.FNP_CFG_EN
      p) = 1 ∧ s.rd (R.FNP_CFG_PCLASS p) ≠ 0 ∧ s.rd (R.FNP_STAT_STATE p) < 2 ∧ s.mode ≠ Mode.SLEEP ∧ (s.nodeS
      p).tryAt.all (fun (x : Nat) => x + 1000000000 ≤ max s.now t) = true ∧ Room s))
      0 3 4 true ({ w ([(R.MODE_STAT_MODE, 5), (R.ISL_STAT_RUN 5, 1), (R.ISL_STAT_RUN 6, 1), (R.CAN_STAT_STATE 2, 1), (R.ETH_CFG_EN 3, 1), (R.ETH_CFG_GPTP 3, 1), (R.FNP_CFG_EN 3, 1), (R.FNP_CFG_PCLASS 3, 5)] ++ []) with lk := {} }) &&
    (fun (t : Nat) (p : Nat) (_cls : Nat) (_v : Bool) (s : State) => decide (1 ≤ p ∧ p ≤ 12 ∧ s.rd (R.FNP_CFG_EN
      p) = 1 ∧ s.rd (R.FNP_CFG_PCLASS p) ≠ 0 ∧ s.rd (R.FNP_STAT_STATE p) < 2 ∧ s.mode ≠ Mode.SLEEP ∧ (s.nodeS
      p).tryAt.all (fun (x : Nat) => x + 1000000000 ≤ max s.now t) = true ∧ Room s))
      0 3 0 false ({ w ([(R.MODE_STAT_MODE, 5), (R.ISL_STAT_RUN 5, 1), (R.ISL_STAT_RUN 6, 1), (R.CAN_STAT_STATE 2, 1), (R.ETH_CFG_EN 3, 1), (R.ETH_CFG_GPTP 3, 1), (R.FNP_CFG_EN 3, 1), (R.FNP_CFG_PCLASS 3, 5)] ++ []) with lk := {} }) &&
    (fun (_t : Nat) (p : Nat) (pw : Nat) (above : Nat) (limited : Nat) (s : State) => decide (1 ≤ p ∧ p ≤ 12 ∧
      ((s.rd (R.FNP_CFG_PLIM p) * 10 < pw ∧ 50000000 ≤ above) ∨ 5000000 ≤ limited) ∧ (s.rd (R.FNP_STAT_STATE p) =
      2 ∨ s.rd (R.FNP_STAT_STATE p) = 3) ∧ s.rd (R.FNP_CFG_PCLASS p) ≠ 0 ∧ Room s))
      9 3 7000 50000000 0 ({ w ([(R.MODE_STAT_MODE, 5), (R.ISL_STAT_RUN 5, 1), (R.ISL_STAT_RUN 6, 1), (R.CAN_STAT_STATE 2, 1), (R.ETH_CFG_EN 3, 1), (R.ETH_CFG_GPTP 3, 1), (R.FNP_CFG_EN 3, 1), (R.FNP_CFG_PCLASS 3, 5)] ++ [(R.FNP_STAT_STATE 3, 3)]) with lk := { node := [(3, { faults := [1, 2] })] } }) &&
    (fun (_t : Nat) (p : Nat) (pw : Nat) (above : Nat) (limited : Nat) (s : State) => decide (1 ≤ p ∧ p ≤ 12 ∧
      ((s.rd (R.FNP_CFG_PLIM p) * 10 < pw ∧ 50000000 ≤ above) ∨ 5000000 ≤ limited) ∧ (s.rd (R.FNP_STAT_STATE p) =
      2 ∨ s.rd (R.FNP_STAT_STATE p) = 3) ∧ s.rd (R.FNP_CFG_PCLASS p) ≠ 0 ∧ Room s))
      9 3 70 0 5000000 ({ w ([(R.MODE_STAT_MODE, 5), (R.ISL_STAT_RUN 5, 1), (R.ISL_STAT_RUN 6, 1), (R.CAN_STAT_STATE 2, 1), (R.ETH_CFG_EN 3, 1), (R.ETH_CFG_GPTP 3, 1), (R.FNP_CFG_EN 3, 1), (R.FNP_CFG_PCLASS 3, 5)] ++ [(R.FNP_STAT_STATE 3, 2)]) with lk := {} }) &&
    (fun (t : Nat) (p : Nat) (o : Nat) (s : State) => decide (1 ≤ p ∧ p ≤ 12 ∧ s.rd (R.FNP_STAT_STATE p) = 4 ∧
      (s.nodeS p).offAt = some o ∧ o + 1000000000 ≤ max s.now t))
      1000000000 3 0 ({ w ([(R.MODE_STAT_MODE, 5), (R.ISL_STAT_RUN 5, 1), (R.ISL_STAT_RUN 6, 1), (R.CAN_STAT_STATE 2, 1), (R.ETH_CFG_EN 3, 1), (R.ETH_CFG_GPTP 3, 1), (R.FNP_CFG_EN 3, 1), (R.FNP_CFG_PCLASS 3, 5)] ++ [(R.FNP_STAT_STATE 3, 4)]) with lk := { node := [(3, { offAt := some 0 })] } }) &&
    (fun (_t : Nat) (n : Nat) (p : Nat) (s : State) => decide (n ≠ 0 ∧ s.ses.open_.any (fun p => p.2.num = n) =
      true ∧ s.classAtLeast n 2 = true ∧ s.turn n (.clearPort) = true ∧ 1 ≤ p ∧ p ≤ 12 ∧ s.rd (R.FNP_STAT_STATE p)
      = 5))
      0 1 3 (wS 2 6 [(R.FNP_STAT_STATE 3, 5)]) &&
    (fun (_t : Nat) (p : Nat) (up : Bool) (s : State) => decide (1 ≤ p ∧ p ≤ 12 ∧ s.rd (R.FNP_CFG_EN p) = 1 ∧
      s.islandOut 5 = false ∧ s.rd (R.FNP_STAT_STATE p) = (if up = true then 2 else 3) ∧ s.rd (R.FNP_CFG_PCLASS p)
      ≠ 0))
      0 3 true ({ w ([(R.MODE_STAT_MODE, 5), (R.ISL_STAT_RUN 5, 1), (R.ISL_STAT_RUN 6, 1), (R.CAN_STAT_STATE 2, 1), (R.ETH_CFG_EN 3, 1), (R.ETH_CFG_GPTP 3, 1), (R.FNP_CFG_EN 3, 1), (R.FNP_CFG_PCLASS 3, 5)] ++ [(R.FNP_STAT_STATE 3, 2)]) with lk := {} })) = true := by decide +kernel

theorem test_meets_EthernetAndNodesComplete_2 : (
    (fun (_t : Nat) (p : Nat) (up : Bool) (s : State) => decide (1 ≤ p ∧ p ≤ 12 ∧ s.rd (R.FNP_CFG_EN p) = 1 ∧
      s.islandOut 5 = false ∧ s.rd (R.FNP_STAT_STATE p) = (if up = true then 2 else 3) ∧ s.rd (R.FNP_CFG_PCLASS p)
      ≠ 0))
      0 3 false ({ w ([(R.MODE_STAT_MODE, 5), (R.ISL_STAT_RUN 5, 1), (R.ISL_STAT_RUN 6, 1), (R.CAN_STAT_STATE 2, 1), (R.ETH_CFG_EN 3, 1), (R.ETH_CFG_GPTP 3, 1), (R.FNP_CFG_EN 3, 1), (R.FNP_CFG_PCLASS 3, 5)] ++ [(R.FNP_STAT_STATE 3, 3)]) with lk := {} }) &&
    (fun (_t : Nat) (p : Nat) (b : List Nat) (e : NodeIn) (s : State) => decide (1 ≤ p ∧ p ≤ 12 ∧ s.rd
      (R.FNP_STAT_STATE p) = 3 ∧ nodeMessage b 1 = true ∧ b.length = 28 ∧ nodeEntries b = [e]))
      0 3 (wNode 1 ++ leBytes 8 500 ++ [1, 0, 0, 0, 4, 1, 0, 0, 9, 0, 0, 0]) { sig := 4, fault := true, raw := 9 } ({ w ([(R.MODE_STAT_MODE, 5), (R.ISL_STAT_RUN 5, 1), (R.ISL_STAT_RUN 6, 1), (R.CAN_STAT_STATE 2, 1), (R.ETH_CFG_EN 3, 1), (R.ETH_CFG_GPTP 3, 1), (R.FNP_CFG_EN 3, 1), (R.FNP_CFG_PCLASS 3, 5)] ++ [(R.FNP_STAT_STATE 3, 3), (R.FNP_OFF_OFFSET 3, 100)]) with lk := { node := [(3, { faulty := [4] })] } }) &&
    (fun (_t : Nat) (p : Nat) (b : List Nat) (e : NodeIn) (s : State) => decide (1 ≤ p ∧ p ≤ 12 ∧ s.rd
      (R.FNP_STAT_STATE p) = 3 ∧ nodeMessage b 1 = true ∧ b.length = 28 ∧ nodeEntries b = [e]))
      0 3 (wNode 1 ++ leBytes 8 500 ++ [1, 0, 0, 0, 4, 0, 0, 0, 9, 0, 0, 0]) { sig := 4, fault := false, raw := 9 } ({ w ([(R.MODE_STAT_MODE, 5), (R.ISL_STAT_RUN 5, 1), (R.ISL_STAT_RUN 6, 1), (R.CAN_STAT_STATE 2, 1), (R.ETH_CFG_EN 3, 1), (R.ETH_CFG_GPTP 3, 1), (R.FNP_CFG_EN 3, 1), (R.FNP_CFG_PCLASS 3, 5)] ++ [(R.FNP_STAT_STATE 3, 3), (R.FNP_OFF_OFFSET 3, 100)]) with lk := { node := [(3, { faulty := [4] })] } }) &&
    (fun (_t : Nat) (_p : Nat) (b : List Nat) (_s : State) => decide (nodeMessage b 1 = false))
      0 3 [1] (w []) &&
    (fun (t : Nat) (p : Nat) (s : State) => decide (1 ≤ p ∧ p ≤ 12 ∧ s.rd (R.FNP_CFG_TIMEX p) = 1 ∧ s.rd
      (R.FNP_STAT_STATE p) = 3 ∧ (s.nodeS p).reqAt.all (fun (x : Int) => x / 1000000000 ≠ (s.begin t).harvest /
      1000000000) = true))
      5 3 ({ w ([(R.MODE_STAT_MODE, 5), (R.ISL_STAT_RUN 5, 1), (R.ISL_STAT_RUN 6, 1), (R.CAN_STAT_STATE 2, 1), (R.ETH_CFG_EN 3, 1), (R.ETH_CFG_GPTP 3, 1), (R.FNP_CFG_EN 3, 1), (R.FNP_CFG_PCLASS 3, 5)] ++ [(R.FNP_STAT_STATE 3, 3), (R.FNP_CFG_TIMEX 3, 1)]) with lk := { node := [(3, { seq := 65535 })] } }) &&
    (fun (t : Nat) (p : Nat) (b : List Nat) (t1 : Int) (t2 : Int) (t3 : Int) (s : State) => decide (1 ≤ p ∧ p ≤
      12 ∧ nodeMessage b 3 = true ∧ b.length = 24 ∧ (s.nodeS p).t1 = some t1 ∧ msgField b 6 2 = (s.nodeS p).seq ∧
      (s.begin t).harvest ≤ t1 + 50000000 ∧ t2 = toSigned 64 (msgField b 8 8) ∧ t3 = toSigned 64 (msgField b 16
      8)))
      4000 3 ((wNode 3).take 6 ++ [7, 0] ++ leBytes 8 91000 ++ leBytes 8 91500) 1000 91000 91500 ({ w ([(R.MODE_STAT_MODE, 5), (R.ISL_STAT_RUN 5, 1), (R.ISL_STAT_RUN 6, 1), (R.CAN_STAT_STATE 2, 1), (R.ETH_CFG_EN 3, 1), (R.ETH_CFG_GPTP 3, 1), (R.FNP_CFG_EN 3, 1), (R.FNP_CFG_PCLASS 3, 5)] ++ [(R.FNP_STAT_STATE 3, 3)]) with lk := { node := [(3, { seq := 7, t1 := some 1000 })] } }) &&
    (fun (t : Nat) (p : Nat) (t1 : Int) (s : State) => decide ((s.nodeS p).t1 = some t1 ∧ t1 + 50000000 ≤
      (s.begin t).harvest))
      50000000 3 0 ({ w ([(R.MODE_STAT_MODE, 5), (R.ISL_STAT_RUN 5, 1), (R.ISL_STAT_RUN 6, 1), (R.CAN_STAT_STATE 2, 1), (R.ETH_CFG_EN 3, 1), (R.ETH_CFG_GPTP 3, 1), (R.FNP_CFG_EN 3, 1), (R.FNP_CFG_PCLASS 3, 5)] ++ []) with lk := { node := [(3, { t1 := some 0, est := some (5, 6, 7) })] } })) = true := by decide +kernel

theorem test_meets_TrunkComplete : (
    (fun (_t : Nat) (p : Nat) (_unit : Nat) (_ident : Nat) (x : Nat) (s : State) => decide (1 ≤ p ∧ p ≤ 4 ∧ s.rd
      (R.TK_STAT_LINK p) = 1 ∧ (s.trunkS p).expected = some x ∧ Room s))
      0 2 3 77 3 ({ w ([(R.MODE_STAT_MODE, 5), (R.ISL_STAT_RUN 5, 1), (R.ISL_STAT_RUN 6, 1), (R.CAN_STAT_STATE 2, 1), (R.ETH_CFG_EN 3, 1), (R.ETH_CFG_GPTP 3, 1), (R.FNP_CFG_EN 3, 1), (R.FNP_CFG_PCLASS 3, 5)] ++ [(R.TK_STAT_LINK 2, 1)]) with lk := { trunk := [(2, { expected := some 3, ident := 77 })] } }) &&
    (fun (_t : Nat) (p : Nat) (_unit : Nat) (_ident : Nat) (x : Nat) (s : State) => decide (1 ≤ p ∧ p ≤ 4 ∧ s.rd
      (R.TK_STAT_LINK p) = 1 ∧ (s.trunkS p).expected = some x ∧ Room s))
      0 2 3 78 3 ({ w ([(R.MODE_STAT_MODE, 5), (R.ISL_STAT_RUN 5, 1), (R.ISL_STAT_RUN 6, 1), (R.CAN_STAT_STATE 2, 1), (R.ETH_CFG_EN 3, 1), (R.ETH_CFG_GPTP 3, 1), (R.FNP_CFG_EN 3, 1), (R.FNP_CFG_PCLASS 3, 5)] ++ [(R.TK_STAT_LINK 2, 1)]) with lk := { trunk := [(2, { expected := some 3, ident := 77 })] } }) &&
    (fun (_t : Nat) (p : Nat) (_unit : Nat) (_ident : Nat) (s : State) => decide (1 ≤ p ∧ p ≤ 4 ∧ s.rd
      (R.TK_STAT_LINK p) = 1 ∧ (s.trunkS p).expected = none ∧ s.isWorker = true ∧ s.upstream = none))
      0 2 1 77 ({ { w ([(R.MODE_STAT_MODE, 5), (R.ISL_STAT_RUN 5, 1), (R.ISL_STAT_RUN 6, 1), (R.CAN_STAT_STATE 2, 1), (R.ETH_CFG_EN 3, 1), (R.ETH_CFG_GPTP 3, 1), (R.FNP_CFG_EN 3, 1), (R.FNP_CFG_PCLASS 3, 5)] ++ [(R.TK_STAT_LINK 2, 1)]) with lk := {} } with role := { role := 1, unit := 3 } }) &&
    (fun (_t : Nat) (p : Nat) (s : State) => decide (1 ≤ p ∧ p ≤ 4 ∧ s.rd (R.TK_STAT_LINK p) = 1))
      9 2 ({ w ([(R.MODE_STAT_MODE, 5), (R.ISL_STAT_RUN 5, 1), (R.ISL_STAT_RUN 6, 1), (R.CAN_STAT_STATE 2, 1), (R.ETH_CFG_EN 3, 1), (R.ETH_CFG_GPTP 3, 1), (R.FNP_CFG_EN 3, 1), (R.FNP_CFG_PCLASS 3, 5)] ++ [(R.TK_STAT_LINK 2, 1)]) with lk := {} }) &&
    (fun (_t : Nat) (p : Nat) (s : State) => decide (1 ≤ p ∧ p ≤ 4 ∧ s.islandOut 5 = false ∧ s.lk.upstreamLost =
      false))
      9 2 ({ w ([(R.MODE_STAT_MODE, 5), (R.ISL_STAT_RUN 5, 1), (R.ISL_STAT_RUN 6, 1), (R.CAN_STAT_STATE 2, 1), (R.ETH_CFG_EN 3, 1), (R.ETH_CFG_GPTP 3, 1), (R.FNP_CFG_EN 3, 1), (R.FNP_CFG_PCLASS 3, 5)] ++ []) with lk := {} }) &&
    (fun (t : Nat) (p : Nat) (d : Nat) (_q : Nat) (s : State) => decide (1 ≤ p ∧ p ≤ 4 ∧ s.rd (R.TK_STAT_LINK p)
      ≠ 1 ∧ s.isWorker = true ∧ s.upstream = some p ∧ s.lk.upstreamLost = false ∧ (s.trunkS p).downAt = some d ∧ d
      + 100000000 ≤ max s.now t ∧ Room s))
      100000009 2 9 4 ({ { w ([(R.MODE_STAT_MODE, 5), (R.ISL_STAT_RUN 5, 1), (R.ISL_STAT_RUN 6, 1), (R.CAN_STAT_STATE 2, 1), (R.ETH_CFG_EN 3, 1), (R.ETH_CFG_GPTP 3, 1), (R.FNP_CFG_EN 3, 1), (R.FNP_CFG_PCLASS 3, 5)] ++ [(R.TK_STAT_ROLE 2, 1), (R.TK_STAT_ROLE 4, 2)]) with lk := { trunk := [(2, { downAt := some 9 })] } } with role := { role := 1, unit := 3 } }) &&
    (fun (_t : Nat) (p : Nat) (_q : Nat) (s : State) => decide (1 ≤ p ∧ p ≤ 4 ∧ s.isWorker = true ∧ s.upstream =
      some p ∧ s.lk.upstreamLost = false))
      0 2 4 ({ { w ([(R.MODE_STAT_MODE, 5), (R.ISL_STAT_RUN 5, 1), (R.ISL_STAT_RUN 6, 1), (R.CAN_STAT_STATE 2, 1), (R.ETH_CFG_EN 3, 1), (R.ETH_CFG_GPTP 3, 1), (R.FNP_CFG_EN 3, 1), (R.FNP_CFG_PCLASS 3, 5)] ++ [(R.TK_STAT_ROLE 2, 1), (R.TK_STAT_ROLE 4, 2)]) with lk := {} } with role := { role := 1, unit := 3 } }) &&
    (fun (t : Nat) (p : Nat) (mb : Nat) (s : State) => decide (1 ≤ p ∧ p ≤ 4 ∧ 500 < mb ∧ (s.begin t).mayLog
      0x9032 p 10000000000 = true ∧ Room s))
      0 2 501 ({ w ([(R.MODE_STAT_MODE, 5), (R.ISL_STAT_RUN 5, 1), (R.ISL_STAT_RUN 6, 1), (R.CAN_STAT_STATE 2, 1), (R.ETH_CFG_EN 3, 1), (R.ETH_CFG_GPTP 3, 1), (R.FNP_CFG_EN 3, 1), (R.FNP_CFG_PCLASS 3, 5)] ++ []) with lk := { trunk := [(2, { loads := [(0, 700)] })] } })) = true := by decide +kernel

theorem test_meets_SessionsComplete_1 : (
    (fun (_t : Nat) (_c : Nat) (_tls : TlsIn) (s : State) => decide (Room s))
      0 8 { anchor := some 7 } { w [] with ses := { cfg := { anchors := [7] } } } &&
    (fun (_t : Nat) (_c : Nat) (_tls : TlsIn) (s : State) => decide (Room s))
      0 8 {} (w []) &&
    (fun (_t : Nat) (k : Nat) (h : HelloIn) (s : State) => decide (s.hmp.waitRuck = false ∧ carries h = true ∧
      (h.carrier ≠ 11 ∨ s.pwr.svc = true) ∧ s.helloAgain h = none ∧ s.rd R.HMP_STAT_SOURCE ≠ 0 ∧ h.services.any
      (fun p => p.1 = 1 && (agreeVersion p.1 p.2).isNone) = false ∧ (agreeAll h.services).isEmpty = false ∧
      (s.mode ≠ Mode.WALK_HOME ∨ grantClass (s.limitsFor h) h.cls = 0) ∧ ((List.range 256).find? (fun (x : Nat) =>
      (look s.ses.open_ x).isNone)) = some k ∧ s.ses.open_.length < 256 ∧ s.classCount (grantClass (s.limitsFor h)
      h.cls) < s.rd (R.SES_CLASS_CFG_MAX (grantClass (s.limitsFor h) h.cls)) ∧ Room s))
      0 1 { carrier := 1, tcp := true, tls := false, peer := 0, addr := 0, certHash := 0, cls := 2, timeout := 0, services := [(1, [(1, 4)]), (32, [(4, 0)])] } (wS 1 6 [(R.SES_CLASS_CFG_MAX 2, 4)]) &&
    (fun (_t : Nat) (k : Nat) (h : HelloIn) (s : State) => decide (s.hmp.waitRuck = false ∧ carries h = true ∧
      (h.carrier ≠ 11 ∨ s.pwr.svc = true) ∧ s.helloAgain h = none ∧ s.rd R.HMP_STAT_SOURCE ≠ 0 ∧ h.services.any
      (fun p => p.1 = 1 && (agreeVersion p.1 p.2).isNone) = false ∧ (agreeAll h.services).isEmpty = false ∧
      (s.mode ≠ Mode.WALK_HOME ∨ grantClass (s.limitsFor h) h.cls = 0) ∧ ((List.range 256).find? (fun (x : Nat) =>
      (look s.ses.open_ x).isNone)) = some k ∧ s.ses.open_.length < 256 ∧ s.classCount (grantClass (s.limitsFor h)
      h.cls) < s.rd (R.SES_CLASS_CFG_MAX (grantClass (s.limitsFor h) h.cls)) ∧ Room s))
      0 1 { carrier := 1, tcp := false, tls := false, peer := 0, addr := 77, certHash := 0, cls := 2, timeout := 30, services := [(1, [(1, 4)])], port := 5000 } (wS 1 6 [(R.SES_CLASS_CFG_MAX 2, 4)]) &&
    (fun (_t : Nat) (h : HelloIn) (s : State) => decide (s.hmp.waitRuck = false ∧ carries h = true ∧ (h.carrier
      ≠ 11 ∨ s.pwr.svc = true) ∧ s.helloAgain h = none ∧ s.rd R.HMP_STAT_SOURCE ≠ 0 ∧ h.services.any (fun p => p.1
      = 1 && (agreeVersion p.1 p.2).isNone) = false ∧ (agreeAll h.services).isEmpty = false ∧ (s.mode ≠
      Mode.WALK_HOME ∨ grantClass (s.limitsFor h) h.cls = 0) ∧ s.rd (R.SES_CLASS_CFG_MAX (grantClass (s.limitsFor
      h) h.cls)) ≤ s.classCount (grantClass (s.limitsFor h) h.cls) ∧ Room s))
      0 { carrier := 1, tcp := true, tls := false, peer := 0, addr := 0, certHash := 0, cls := 2, timeout := 0, services := [(1, [(1, 4)]), (32, [(4, 0)])] } (wS 1 6 [(R.SES_CLASS_CFG_MAX 2, 0)]) &&
    (fun (_t : Nat) (n : Nat) (m : MsgIn) (s : State) => decide (n ≠ 0 ∧ m.framed (s.mostBytes n) = true ∧
      s.repeated n m = none ∧ s.msgRefusal n 0x0001 m = none ∧ Room s))
      0 1 (wM 1) (wS 1 6) &&
    (fun (_t : Nat) (n : Nat) (m : MsgIn) (s : State) => decide (n ≠ 0 ∧ m.framed (s.mostBytes n) = true ∧
      s.repeated n m = none ∧ s.msgRefusal n 0x0001 m = none))
      9 1 (wM 1) (wS 1 6) &&
    (fun (t : Nat) (n : Nat) (x : SessionS) (s : State) => decide (s.session? n = some x ∧ x.lastRx + x.timeout
      * 1000000000 ≤ max s.now t ∧ Room s))
      10000000000 1 { num := 1, cls := 1, tcp := true, agreed := agreeAll servedVersions } (wS 1 6) &&
    (fun (_t : Nat) (n : Nat) (x : SessionS) (s : State) => decide (s.session? n = some x ∧ x.tcp = true ∧ Room
      s))
      0 1 { num := 1, cls := 1, tcp := true, agreed := agreeAll servedVersions } (wS 1 6) &&
    (fun (_t : Nat) (n : Nat) (m : MsgIn) (x : SessionS) (s : State) => decide (s.session? n = some x ∧ x.tcp =
      true ∧ m.framed (s.mostBytes n) = false ∧ Room s))
      0 1 { bytes := (wM 1).bytes ++ [0] } { num := 1, cls := 1, tcp := true, agreed := agreeAll servedVersions } (wS 1 6) &&
    (fun (_t : Nat) (n : Nat) (m : MsgIn) (s : State) => decide ((m.framed (s.mostBytes n) = true ∨
      s.ses.open_.any (fun p => p.2.num = n && p.2.tcp) = false)))
      0 1 (wM 1) (wS 1 6) &&
    (fun (_t : Nat) (n : Nat) (m : MsgIn) (s : State) => decide ((m.framed (s.mostBytes n) = true ∨
      s.ses.open_.any (fun p => p.2.num = n && p.2.tcp) = false)))
      0 2 { bytes := (wM 1).bytes ++ [0] } (w [])) = true := by decide +kernel

theorem test_meets_SessionsComplete_2 : (
    (fun (_t : Nat) (n : Nat) (st : Nat) (_every : Nat) (m : MsgIn) (x : SessionS) (s : State) => decide (n ≠ 0
      ∧ s.session? n = some x ∧ m.framed (s.mostBytes n) = true ∧ s.repeated n m = none ∧ s.msgRefusal n 0x0012 m
      = none ∧ st ∉ x.streams ∧ x.streams.length < 32))
      0 1 0x41 0 (wM 0x12) { num := 1, cls := 1, tcp := true, agreed := agreeAll servedVersions } (wS 1 6) &&
    (fun (_t : Nat) (n : Nat) (st : Nat) (_every : Nat) (m : MsgIn) (x : SessionS) (s : State) => decide (n ≠ 0
      ∧ s.session? n = some x ∧ m.framed (s.mostBytes n) = true ∧ s.repeated n m = none ∧ s.msgRefusal n 0x0012 m
      = none ∧ st ∉ x.streams ∧ x.streams.length < 32))
      0 1 0x41 4 (wM 0x12) { num := 1, cls := 1, tcp := true, agreed := agreeAll servedVersions } (wS 1 6) &&
    (fun (_t : Nat) (n : Nat) (c : Nat) (o : Nat) (m : MsgIn) (f : List Int) (s : State) => decide (n ≠ 0 ∧
      m.framed (s.mostBytes n) = true ∧ s.repeated n m = none ∧ s.msgRefusal n 0x0012 m = none ∧ s.classOf n ≠
      Cls.FLEET ∧ s.rd (R.ISP_OUT_DEST c o) = 2 ∧ s.snapshotFrame c o = some f))
      0 1 3 1 (wM 0x12) [55, 9, 4] ({ wS 1 6 [(R.ISP_OUT_DEST 3 1, 2)] with cams := { cam := [(3, { snap := [(1, (55, 9, [4], []))] })] } }) &&
    (fun (t : Nat) (n : Nat) (id : Nat) (a : AliveS) (d : DataIdS) (s : State) => decide (s.aliveOf n id = some
      a ∧ s.ses.cfg.dataIds.find? (fun (x : DataIdS) => x.id = id) = some d ∧ a.expired = false ∧ a.lastOk +
      d.timeout * 1000000 ≤ max s.now t ∧ d.reaction = 0 ∧ Room s))
      100000000 1 9 { session := 1, dataId := 9, alive := 1, lastOk := 0 } { id := 9, service := 0x20, kind := 1, crcsel := 4, timeout := 100, reaction := 0 } (let s := wP 0x20 1 1 6; { s with ses := { s.ses with alive := [{ session := 1, dataId := 9, alive := 1, lastOk := 0 }] } })) = true := by decide +kernel

theorem test_meets_ObjectsComplete : (
    (fun (_t : Nat) (n : Nat) (m : MsgIn) (e : ObjIn) (s : State) => decide (n ≠ 0 ∧ m.framed (s.mostBytes n) =
      true ∧ s.repeated n m = none ∧ s.msgRefusal n 0x0010 m = none ∧ e.unit = s.role.unit ∧ entryKeys e.index
      e.sub ≠ [] ∧ s.classCut (s.classOf n) e.index 0 = false))
      0 1 (wM 0x10) { unit := 0, index := 0xB001, sub := 1 } (wS 0 6) &&
    (fun (_t : Nat) (n : Nat) (m : MsgIn) (e : ObjIn) (s : State) => decide (n ≠ 0 ∧ m.framed (s.mostBytes n) =
      true ∧ s.repeated n m = none ∧ s.msgRefusal n 0x0010 m = none ∧ e.unit = s.role.unit ∧ entryKeys e.index
      e.sub ≠ [] ∧ s.classCut (s.classOf n) e.index 0 = false))
      0 1 (wM 0x10) { unit := 0, index := 0xB001, sub := 0 } (wS 0 6) &&
    (fun (_t : Nat) (n : Nat) (m : MsgIn) (e : ObjIn) (s : State) => decide (n ≠ 0 ∧ m.framed (s.mostBytes n) =
      true ∧ s.repeated n m = none ∧ s.msgRefusal n 0x0010 m = none ∧ e.unit = s.role.unit ∧ entryKeys e.index
      e.sub = []))
      0 1 (wM 0x10) { unit := 0, index := 0, sub := 1 } (wS 0 6) &&
    (fun (_t : Nat) (n : Nat) (m : MsgIn) (e : ObjIn) (s : State) => decide (n ≠ 0 ∧ m.framed (s.mostBytes n) =
      true ∧ s.repeated n m = none ∧ s.msgRefusal n 0x0010 m = none ∧ e.unit ≠ s.role.unit ∧ s.reaches e.unit =
      true ∧ s.classCut (s.classOf n) e.index 0 = false))
      0 1 (wM 0x10) { unit := 2, index := 0xB001, sub := 1, remote := (0, [3]) } { wS 0 6 with role := { workers := 3 } } &&
    (fun (_t : Nat) (n : Nat) (v : Nat) (m : MsgIn) (e : ObjIn) (d : FieldDesc) (s : State) => decide (n ≠ 0 ∧
      m.framed (s.mostBytes n) = true ∧ s.repeated n m = none ∧ s.msgRefusal n 0x0010 m = none ∧ e.unit =
      s.role.unit ∧ e.sub < 256 ∧ fieldOf (e.index * 256 + e.sub) = some d ∧ s.mayWrite n (e.index * 256 + e.sub)
      d.acc = true ∧ s.configured = true ∧ d.acc = .rwLive ∧ (e.index < 0x6101 ∨ 0x6110 < e.index) ∧ (s.protect n
      m).1 = Res.OK ∧ s.served = true ∧ d.admits (d.given v) = true ∧ s.liveRule (e.index * 256 + e.sub) (d.given
      v) = true ∧ s.amend.length < 256))
      0 1 0x41200000 (wE 0x10 1) { unit := 0, index := R.FN_SP_OPLIM_OPMAX 5 0 / 256, sub := R.FN_SP_OPLIM_OPMAX 5 0 % 256 } ((fieldOf (R.FN_SP_OPLIM_OPMAX 5 0)).getD ⟨0, 0, 0, .ro, 0, [], false⟩) (wP 0x10 1 1 6 [(R.FN_SP_LIM_MAX 5 0, 0x42C80000), (R.FN_CFG_PATH 5, 1)]) &&
    (fun (_t : Nat) (n : Nat) (_v : Nat) (m : MsgIn) (e : ObjIn) (d : FieldDesc) (s : State) => decide (n ≠ 0 ∧
      m.framed (s.mostBytes n) = true ∧ s.repeated n m = none ∧ s.msgRefusal n 0x0010 m = none ∧ e.unit =
      s.role.unit ∧ e.sub < 256 ∧ fieldOf (e.index * 256 + e.sub) = some d ∧ s.mayWrite n (e.index * 256 + e.sub)
      d.acc = true ∧ s.configured = true ∧ (d.acc = .ro ∨ d.acc = .th) ∧ Room s))
      0 1 5 (wM 0x10) { unit := 0, index := 0xB001, sub := 1 } ((fieldOf 0xB00101).getD ⟨0, 0, 0, .ro, 0, [], false⟩) (wS 1 6) &&
    (fun (_t : Nat) (n : Nat) (_v : Nat) (m : MsgIn) (e : ObjIn) (d : FieldDesc) (s : State) => decide (n ≠ 0 ∧
      m.framed (s.mostBytes n) = true ∧ s.repeated n m = none ∧ s.msgRefusal n 0x0010 m = none ∧ e.unit =
      s.role.unit ∧ e.sub < 256 ∧ fieldOf (e.index * 256 + e.sub) = some d ∧ s.mayWrite n (e.index * 256 + e.sub)
      d.acc = true ∧ s.configured = true ∧ (d.acc = .ro ∨ d.acc = .th) ∧ Room s))
      0 1 5 (wM 0x10) { unit := 0, index := 0x1003, sub := 1 } ((fieldOf 0x100301).getD ⟨0, 0, 0, .ro, 0, [], false⟩) (wS 3 6) &&
    (fun (_t : Nat) (n : Nat) (v : Nat) (m : MsgIn) (e : ObjIn) (d : FieldDesc) (s : State) => decide (n ≠ 0 ∧
      m.framed (s.mostBytes n) = true ∧ s.repeated n m = none ∧ s.msgRefusal n 0x0010 m = none ∧ e.unit =
      s.role.unit ∧ e.sub < 256 ∧ fieldOf (e.index * 256 + e.sub) = some d ∧ s.mayWrite n (e.index * 256 + e.sub)
      d.acc = true ∧ s.configured = true ∧ d.acc = .next ∧ s.mode = Mode.SERVICE ∧ s.nextOk (e.index * 256 +
      e.sub) (d.given v) d = true ∧ s.amend.length < 256))
      0 1 60 (wM 0x10) { unit := 0, index := 0x3001, sub := 1 } ((fieldOf 0x300101).getD ⟨0, 0, 0, .ro, 0, [], false⟩) (wS 3 8) &&
    (fun (_t : Nat) (n : Nat) (_v : Nat) (m : MsgIn) (e : ObjIn) (d : FieldDesc) (s : State) => decide (n ≠ 0 ∧
      m.framed (s.mostBytes n) = true ∧ s.repeated n m = none ∧ s.msgRefusal n 0x0010 m = none ∧ e.unit =
      s.role.unit ∧ e.sub < 256 ∧ fieldOf (e.index * 256 + e.sub) = some d ∧ s.mayWrite n (e.index * 256 + e.sub)
      d.acc = true ∧ s.configured = true ∧ (d.acc = .rwStop ∨ d.acc = .next ∧ s.mode ≠ Mode.SERVICE) ∧ Room s))
      0 1 60 (wM 0x10) { unit := 0, index := 0x3001, sub := 1 } ((fieldOf 0x300101).getD ⟨0, 0, 0, .ro, 0, [], false⟩) (wS 3 6) &&
    (fun (_t : Nat) (n : Nat) (_v : Nat) (m : MsgIn) (e : ObjIn) (d : FieldDesc) (s : State) => decide (n ≠ 0 ∧
      m.framed (s.mostBytes n) = true ∧ s.repeated n m = none ∧ s.msgRefusal n 0x0010 m = none ∧ e.unit =
      s.role.unit ∧ e.sub < 256 ∧ fieldOf (e.index * 256 + e.sub) = some d ∧ s.mayWrite n (e.index * 256 + e.sub)
      d.acc = true ∧ s.configured = true ∧ (d.acc = .rwStop ∨ d.acc = .next ∧ s.mode ≠ Mode.SERVICE) ∧ Room s))
      0 1 2 (wM 0x10) { unit := 0, index := R.FN_CFG_SOURCE 5 / 256, sub := R.FN_CFG_SOURCE 5 % 256 } ((fieldOf (R.FN_CFG_SOURCE 5)).getD ⟨0, 0, 0, .ro, 0, [], false⟩) (wS 3 6) &&
    (fun (_t : Nat) (n : Nat) (c : Nat) (v : Nat) (s : State) => decide (n ≠ 0 ∧ s.ses.open_.any (fun p =>
      p.2.num = n) = true ∧ s.turn n (.live (R.SES_CLASS_CFG_MAX c)) = true ∧ s.mayLive n (R.SES_CLASS_CFG_MAX c)
      = true ∧ c ≤ 4 ∧ s.served = true ∧ s.rd (R.SES_CLASS_CFG_RESERVE c) ≤ v ∧ v ≤ 255 ∧ s.amend.length < 256))
      0 1 2 200 (wS 2 6) &&
    (fun (_t : Nat) (n : Nat) (c : Nat) (v : Nat) (s : State) => decide (n ≠ 0 ∧ s.ses.open_.any (fun p =>
      p.2.num = n) = true ∧ s.turn n (.live (R.SES_CLASS_CFG_MAX c)) = true ∧ s.mayLive n (R.SES_CLASS_CFG_MAX c)
      = true ∧ s.served = true ∧ (v < s.rd (R.SES_CLASS_CFG_RESERVE c) ∨ 255 < v)))
      0 1 2 256 (wS 2 6)) = true := by decide +kernel

theorem test_meets_HamperComplete_1 : (
    (fun (t : Nat) (_k : KeyIn) (s : State) => decide (s.mode ≠ Mode.OFF ∧ s.mode ≠ Mode.SLEEP ∧
      s.hmp.sensedAt.all (fun (x : Nat) => x + 1000000000 ≤ max s.now t) = true ∧ s.rd R.HMP_STAT_KEY ≠ 1 ∧ Room
      s))
      0 { uid := 5, image := { machineId := 7, generation := 3, recs := [{ typ := 1, unit := 0, inst := 0, len := 4, val := .role 0 0 0 }] } } (w []) &&
    (fun (t : Nat) (s : State) => decide (s.mode ≠ Mode.OFF ∧ s.mode ≠ Mode.SLEEP ∧ s.hmp.sensedAt.all (fun (x :
      Nat) => x + 1000000000 ≤ max s.now t) = true ∧ s.rd R.HMP_STAT_KEY = 1 ∧ Room s))
      0 { w [(R.HMP_STAT_KEY, 1)] with hmp := { key := some { uid := 5, image := { machineId := 7, generation := 3, recs := [{ typ := 1, unit := 0, inst := 0, len := 4, val := .role 0 0 0 }] } } } } &&
    (fun (_t : Nat) (n : Nat) (w : Nat) (i : ImageIn) (nm : Bool) (_ans : Nat × List Int) (s : State) => decide
      (n ≠ 0 ∧ s.svcRefusal n 0x0030 [Cls.SERVICE] true = none ∧ w = s.role.unit ∧ s.writeMode = true ∧
      s.hmp.key.isSome = true ∧ s.rd R.HMP_STAT_WRITING ≠ 1 ∧ s.offerFault i = none ∧ s.machineOk i nm = true))
      0 1 0 { machineId := 7, generation := 3, recs := [{ typ := 1, unit := 0, inst := 0, len := 4, val := .role 0 0 0 }] } false (0, []) { wS 3 8 with hmp := { key := some { uid := 5, image := { machineId := 7, generation := 3, recs := [{ typ := 1, unit := 0, inst := 0, len := 4, val := .role 0 0 0 }] } } } } &&
    (fun (_t : Nat) (n : Nat) (w : Nat) (i : ImageIn) (nm : Bool) (_ans : Nat × List Int) (s : State) => decide
      (n ≠ 0 ∧ s.svcRefusal n 0x0030 [Cls.SERVICE] true = none ∧ w = s.role.unit ∧ s.writeMode = true ∧
      s.hmp.key.isSome = true ∧ s.rd R.HMP_STAT_WRITING ≠ 1 ∧ s.offerFault i = none ∧ s.machineOk i nm = false ∧
      Room s))
      0 1 0 { machineId := 7, generation := 3, recs := [{ typ := 1, unit := 0, inst := 0, len := 4, val := .role 0 0 0 }] } false (0, []) { wS 3 8 with hmp := { key := some { uid := 5, image := { machineId := 7, generation := 3, recs := [{ typ := 1, unit := 0, inst := 0, len := 4, val := .role 0 0 0 }] } }, image := some { machineId := 8, generation := 1, recs := [] } } } &&
    (fun (_t : Nat) (n : Nat) (w : Nat) (c : Nat) (o : Nat) (i : ImageIn) (_nm : Bool) (_ans : Nat × List Int)
      (s : State) => decide (n ≠ 0 ∧ s.svcRefusal n 0x0030 [Cls.SERVICE] true = none ∧ w = s.role.unit ∧
      s.writeMode = true ∧ s.hmp.key.isSome = true ∧ s.rd R.HMP_STAT_WRITING ≠ 1 ∧ s.offerFault i = some (c, o) ∧
      Room s))
      0 1 0 4 20 { machineId := 0, generation := 1, recs := [] } false (0, []) { wS 3 8 with hmp := { key := some { uid := 5, image := { machineId := 7, generation := 3, recs := [{ typ := 1, unit := 0, inst := 0, len := 4, val := .role 0 0 0 }] } } } } &&
    (fun (_t : Nat) (n : Nat) (w : Nat) (_i : ImageIn) (_nm : Bool) (_ans : Nat × List Int) (s : State) =>
      decide (n ≠ 0 ∧ s.svcRefusal n 0x0030 [Cls.SERVICE] true = none ∧ w ≠ s.role.unit ∧ s.reaches w = true))
      0 1 2 { machineId := 7, generation := 3, recs := [{ typ := 1, unit := 0, inst := 0, len := 4, val := .role 0 0 0 }] } false (0, [5]) { wS 3 8 with role := { workers := 3 } } &&
    (fun (_t : Nat) (n : Nat) (_ok : Bool) (i : ImageIn) (s : State) => decide (s.hmp.writing = some (i, n) ∧
      Room s))
      0 1 true { machineId := 7, generation := 3, recs := [{ typ := 1, unit := 0, inst := 0, len := 4, val := .role 0 0 0 }] } { w [(R.HMP_STAT_WRITING, 1)] with hmp := { key := some { uid := 5, image := { machineId := 7, generation := 3, recs := [{ typ := 1, unit := 0, inst := 0, len := 4, val := .role 0 0 0 }] } }, writing := some ({ machineId := 7, generation := 3, recs := [{ typ := 1, unit := 0, inst := 0, len := 4, val := .role 0 0 0 }] }, 1) } } &&
    (fun (_t : Nat) (n : Nat) (_ok : Bool) (i : ImageIn) (s : State) => decide (s.hmp.writing = some (i, n) ∧
      Room s))
      0 1 false { machineId := 7, generation := 3, recs := [{ typ := 1, unit := 0, inst := 0, len := 4, val := .role 0 0 0 }] } { w [(R.HMP_STAT_WRITING, 1)] with hmp := { key := some { uid := 5, image := { machineId := 7, generation := 3, recs := [{ typ := 1, unit := 0, inst := 0, len := 4, val := .role 0 0 0 }] } }, writing := some ({ machineId := 7, generation := 3, recs := [{ typ := 1, unit := 0, inst := 0, len := 4, val := .role 0 0 0 }] }, 1) } } &&
    (fun (_t : Nat) (n : Nat) (h : KeyIn) (s : State) => decide (n ≠ 0 ∧ s.svcRefusal n 0x0030 [Cls.SERVICE] =
      none ∧ s.mode = Mode.SERVICE ∧ s.hmp.key.isSome = true ∧ s.rd R.HMP_STAT_WRITING ≠ 1 ∧ s.hmp.shadow = some
      h))
      0 1 { uid := 5, image := { machineId := 7, generation := 3, recs := [{ typ := 1, unit := 0, inst := 0, len := 4, val := .role 0 0 0 }] } } { wS 3 8 with hmp := { key := some { uid := 5, image := { machineId := 7, generation := 3, recs := [{ typ := 1, unit := 0, inst := 0, len := 4, val := .role 0 0 0 }] } }, shadow := some { uid := 5, image := { machineId := 7, generation := 3, recs := [{ typ := 1, unit := 0, inst := 0, len := 4, val := .role 0 0 0 }] } } } } &&
    (fun (_t : Nat) (n : Nat) (i : Nat) (j : Nat) (v : Nat) (d : FieldDesc) (s : State) => decide (n ≠ 0 ∧
      s.svcRefusal n 0x0010 [Cls.MONITOR, Cls.OPERATOR, Cls.MACHINE, Cls.SERVICE, Cls.FLEET] = none ∧ j < 256 ∧
      fieldOf (i * 256 + j) = some d ∧ s.mayWrite n (i * 256 + j) d.acc = true ∧ d.acc = .next ∧ s.mode =
      Mode.SERVICE ∧ s.nextOk (i * 256 + j) v d = true ∧ s.amend.length < 256))
      0 1 0x3001 1 60 ((fieldOf 0x300101).getD ⟨0, 0, 0, .ro, 0, [], false⟩) (wS 3 8) &&
    (fun (_t : Nat) (n : Nat) (i : Nat) (j : Nat) (v : Nat) (d : FieldDesc) (s : State) => decide (n ≠ 0 ∧
      s.svcRefusal n 0x0010 [Cls.MONITOR, Cls.OPERATOR, Cls.MACHINE, Cls.SERVICE, Cls.FLEET] = none ∧ j < 256 ∧
      fieldOf (i * 256 + j) = some d ∧ s.mayWrite n (i * 256 + j) d.acc = true ∧ d.acc = .next ∧ s.mode =
      Mode.SERVICE ∧ s.nextOk (i * 256 + j) v d = true ∧ s.amendRoom (i * 256 + j) = false ∧ Room s))
      0 1 0x3001 1 60 ((fieldOf 0x300101).getD ⟨0, 0, 0, .ro, 0, [], false⟩) { wS 3 8 with amend := (List.range 256).map (fun k => { unit := 0, kind := 1, key := k, value := 0 }) } &&
    (fun (_t : Nat) (n : Nat) (f : Nat) (i : Nat) (v : Nat) (mx : Bool) (s : State) => decide (n ≠ 0 ∧
      s.ses.open_.any (fun p => p.2.num = n) = true ∧ s.turn n (.live (if mx = true then R.FN_SP_OPLIM_OPMAX f i
      else R.FN_SP_OPLIM_OPMIN f i)) = true ∧ s.mayLive n (if mx = true then R.FN_SP_OPLIM_OPMAX f i else
      R.FN_SP_OPLIM_OPMIN f i) = true ∧ f < 48 ∧ i < 16 ∧ s.served = true ∧ s.liveRule (if mx = true then
      R.FN_SP_OPLIM_OPMAX f i else R.FN_SP_OPLIM_OPMIN f i) v = true ∧ s.amend.length < 256))
      0 1 5 0 0x41200000 true (wS 1 6 [(R.FN_SP_LIM_MAX 5 0, 0x42C80000), (R.FN_CFG_PATH 5, 1)])) = true := by decide +kernel

theorem test_meets_HamperComplete_2 : (
    (fun (_t : Nat) (n : Nat) (f : Nat) (i : Nat) (v : Nat) (mx : Bool) (s : State) => decide (n ≠ 0 ∧
      s.ses.open_.any (fun p => p.2.num = n) = true ∧ s.turn n (.live (if mx = true then R.FN_SP_OPLIM_OPMAX f i
      else R.FN_SP_OPLIM_OPMIN f i)) = true ∧ s.mayLive n (if mx = true then R.FN_SP_OPLIM_OPMAX f i else
      R.FN_SP_OPLIM_OPMIN f i) = true ∧ f < 48 ∧ i < 16 ∧ s.served = true ∧ s.liveRule (if mx = true then
      R.FN_SP_OPLIM_OPMAX f i else R.FN_SP_OPLIM_OPMIN f i) v = false))
      0 1 5 0 0x40000000 true (wS 1 6 [(R.FN_CFG_PATH 5, 1), (R.FN_SP_LIM_MAX 5 0, 0x42C80000), (R.FN_SP_OPLIM_OPMIN 5 0, 0x41200000)]) &&
    (fun (_t : Nat) (unit : Nat) (_fw : Nat) (_ms : Nat) (p : Nat) (i : ImageIn) (s : State) => decide
      (s.isWorker = false ∧ s.configured = true ∧ s.rst.held = false ∧ 9 ≤ s.rst.step ∧ unit ∉ s.md.givenUp ∧
      s.ruckPort unit = some p ∧ s.hmp.image = some i ∧ Room s))
      9 2 1000 30 1 { machineId := 7, generation := 3, recs := [{ typ := 1, unit := 2, inst := 0, len := 4, val := .role 1 1 3 }, { typ := 2, unit := 255, inst := 2, len := 4, val := .tree 0 1 }] } { w [(R.HMP_STAT_SOURCE, 1), (R.TK_STAT_ROLE 1, 2), (R.TK_STAT_UNIT 1, 2)] with rst := { held := false, step := 9 }, hmp := { image := some { machineId := 7, generation := 3, recs := [{ typ := 1, unit := 2, inst := 0, len := 4, val := .role 1 1 3 }, { typ := 2, unit := 255, inst := 2, len := 4, val := .tree 0 1 }] } } } &&
    (fun (_t : Nat) (k : RuckIn) (s : State) => decide (s.hmp.waitRuck = true ∧ k.unit = s.role.unit ∧
      s.ruckFault k = 0))
      9 { unit := 2, image := { machineId := 7, generation := 3, recs := [{ typ := 1, unit := 2, inst := 0, len := 4, val := .role 1 1 3 }, { typ := 2, unit := 255, inst := 2, len := 4, val := .tree 0 1 }] }, man := { version := 1, secFloor := 0, imageLen := 100, nblocks := 1, sections := [1, 2, 3, 4, 5, 6].map (fun k => { kind := k, offset := 0, length := 0, crc := 0, digest := 0 }) }, serial := 7, fwLen := 1000 } { w [(R.HMP_STAT_SOURCE, 1)] with role := { role := 1, unit := 2 }, hmp := { waitRuck := true, image := some { machineId := 7, generation := 1, recs := [] } } } &&
    (fun (_t : Nat) (k : RuckIn) (s : State) => decide (s.hmp.waitRuck = true ∧ k.unit = s.role.unit ∧
      s.ruckFault k ≠ 0))
      9 { ({ unit := 2, image := { machineId := 7, generation := 3, recs := [{ typ := 1, unit := 2, inst := 0, len := 4, val := .role 1 1 3 }, { typ := 2, unit := 255, inst := 2, len := 4, val := .tree 0 1 }] }, man := { version := 1, secFloor := 0, imageLen := 100, nblocks := 1, sections := [1, 2, 3, 4, 5, 6].map (fun k => { kind := k, offset := 0, length := 0, crc := 0, digest := 0 }) }, serial := 7, fwLen := 1000 } : RuckIn) with crcOk := false } { w [(R.HMP_STAT_SOURCE, 1)] with role := { role := 1, unit := 2 }, hmp := { waitRuck := true } } &&
    (fun (_t : Nat) (p : Nat) (k : RuckIn) (s : State) => decide (s.isWorker = true ∧ k.unit ≠ s.role.unit ∧
      s.relayPort k.unit = some p))
      9 2 { unit := 2, image := { machineId := 7, generation := 3, recs := [{ typ := 1, unit := 2, inst := 0, len := 4, val := .role 1 1 3 }, { typ := 2, unit := 255, inst := 2, len := 4, val := .tree 0 1 }] }, man := { version := 1, secFloor := 0, imageLen := 100, nblocks := 1, sections := [1, 2, 3, 4, 5, 6].map (fun k => { kind := k, offset := 0, length := 0, crc := 0, digest := 0 }) }, serial := 7, fwLen := 1000 } { w [(R.TK_STAT_ROLE 2, 2), (R.TK_STAT_UNIT 2, 2)] with role := { role := 1, unit := 1 } } &&
    (fun (_t : Nat) (unit : Nat) (_cause : Nat) (s : State) => decide (s.isWorker = false ∧ unit ∉ s.md.givenUp
      ∧ (look s.hmp.sent unit).isSome = true ∧ (look s.hmp.fails unit).getD 0 < 2 ∧ Room s))
      0 2 3 { w [] with md := { running := [1, 2] }, hmp := { sent := [(2, 0)], fails := [(2, 1)] } } &&
    (fun (_t : Nat) (unit : Nat) (_cause : Nat) (s : State) => decide (s.isWorker = false ∧ unit ∉ s.md.givenUp
      ∧ (look s.hmp.sent unit).isSome = true ∧ 2 ≤ (look s.hmp.fails unit).getD 0 ∧ Room s))
      0 2 3 { w [(R.FN_CFG_PATH 5, 1), (R.FN_CFG_UNIT 5, 2)] with md := { running := [1, 2] }, hmp := { sent := [(2, 0)], fails := [(2, 2)] } }) = true := by decide +kernel

theorem test_meets_SupplyComplete_1 : (
    (fun (_t : Nat) (v : Nat) (h : Nat) (s : State) => decide (36000 < v ∧ 1000000 ≤ h ∧ s.pwr.ovLogged = false
      ∧ s.powered = true ∧ Room s))
      0 36001 1000000 (w []) &&
    (fun (_t : Nat) (v : Nat) (h : Nat) (s : State) => decide (36000 < v ∧ (h < 1000000 ∨ s.pwr.ovLogged =
      true)))
      0 36001 999999 (w []) &&
    (fun (_t : Nat) (v : Nat) (_h : Nat) (_s : State) => decide (v ≤ 36000))
      0 36000 0 (w [(R.PWR_STAT_OV, 1)]) &&
    (fun (_t : Nat) (v : Nat) (h : Nat) (s : State) => decide (s.mode ≠ Mode.OFF ∧ s.mode ≠ Mode.SLEEP ∧ 2000000
      ≤ h ∧ s.mode ≠ Mode.TRAILHEAD ∧ s.rst.held = false ∧ s.rd R.PWR_STAT_CRANK ≠ 1 ∧ v < 9000))
      7 8999 2000000 { w [(R.MODE_STAT_MODE, 6), (R.OBS_STAT_RUN, 1), (R.FNP_STAT_STATE 12, 3)] with gn := { on := true }, rst := { held := false } } &&
    (fun (t : Nat) (v : Nat) (_lo : Nat) (h : Nat) (c : Nat) (s : State) => decide (s.pwr.crankAt = some c ∧
      9500 ≤ v ∧ 100000000 ≤ h ∧ s.pwr.crankLong = false ∧ c ≤ max s.now t ∧ Room s))
      200000000 9500 7000 100000000 5 { w [(R.MODE_STAT_MODE, 6), (R.PWR_STAT_CRANK, 1)] with pwr := { crankAt := some 5, crankMin := 8000 } } &&
    (fun (t : Nat) (_lo : Nat) (c : Nat) (s : State) => decide (s.pwr.crankAt = some c ∧ c + 1000000000 ≤ max
      s.now t ∧ s.pwr.crankLong = false ∧ s.isWorker = false ∧ Room s))
      1000000005 7000 5 { w [(R.MODE_STAT_MODE, 6), (R.PWR_STAT_CRANK, 1)] with pwr := { crankAt := some 5, crankMin := 8000 } } &&
    (fun (_t : Nat) (lo : Nat) (h : Nat) (_fd : Bool) (s : State) => decide (s.mode ≠ Mode.OFF ∧ lo < 6000 ∧
      1000000 < h))
      0 5999 1000001 false (w [(R.MODE_STAT_MODE, 6), (R.PWR_STAT_THERMOS_OK, 1)]) &&
    (fun (_t : Nat) (lo : Nat) (h : Nat) (_fd : Bool) (s : State) => decide (s.mode ≠ Mode.OFF ∧ lo < 6000 ∧
      1000000 < h))
      0 5999 1000001 false (w [(R.MODE_STAT_MODE, 6), (R.PWR_STAT_THERMOS_OK, 0)]) &&
    (fun (t : Nat) (q : Nat) (h : Nat) (s : State) => decide (1 ≤ q ∧ q ≤ 4 ∧ 10000000 ≤ h ∧ bitOf (s.begin
      t).domains 13 = true ∧ bitOf (s.rd R.PWR_STAT_SENS) (q - 1) = false ∧ (look s.pwr.supAt q).all (fun (x :
      Nat) => x + 10000000000 ≤ max s.now t) = true ∧ Room s))
      9 2 10000000 { w [(R.MODE_STAT_MODE, 6), (R.PWR_STAT_SENS, 4)] with rst := { held := false } } &&
    (fun (t : Nat) (q : Nat) (a : Nat) (s : State) => decide (1 ≤ q ∧ q ≤ 4 ∧ bitOf (s.rd R.PWR_STAT_SENS) (q -
      1) = true ∧ look s.pwr.supAt q = some a ∧ a + 1000000000 ≤ max s.now t))
      1000000000 3 0 { w [(R.PWR_STAT_SENS, 4)] with pwr := { supAt := [(3, 0)] } } &&
    (fun (t : Nat) (s : State) => decide (s.mode = Mode.HARVEST ∧ s.rd R.PWR_STAT_CRANK ≠ 1 ∧ (s.pwr.railAt).all
      (fun (x : Nat) => x + 10000000 ≤ max s.now t) = true))
      0 (w [(R.MODE_STAT_MODE, 6), (R.CORE_PACE, 0x17FF), (R.PWR_STAT_CORE, 150)]) &&
    (fun (t : Nat) (s : State) => decide (s.mode = Mode.HARVEST ∧ s.rd R.PWR_STAT_CRANK ≠ 1 ∧ (s.pwr.railAt).all
      (fun (x : Nat) => x + 10000000 ≤ max s.now t) = true))
      0 (w [(R.MODE_STAT_MODE, 6), (R.CORE_PACE, 0x1800), (R.PWR_STAT_CORE, 150)])) = true := by decide +kernel

theorem test_meets_SupplyComplete_2 : (
    (fun (t : Nat) (s : State) => decide (s.mode = Mode.HARVEST ∧ s.rd R.PWR_STAT_CRANK ≠ 1 ∧ (s.pwr.railAt).all
      (fun (x : Nat) => x + 10000000 ≤ max s.now t) = true))
      0 (w [(R.MODE_STAT_MODE, 6), (R.CORE_PACE, 0x1A01), (R.PWR_STAT_CORE, 150)]) &&
    (fun (_t : Nat) (s : State) => decide (s.mode ≠ Mode.HARVEST))
      0 (w [(R.MODE_STAT_MODE, 5)]) &&
    (fun (_t : Nat) (_se : Nat) (tj : Int) (pl : Int) (s : State) => decide (-128 ≤ tj ∧ tj ≤ 127 ∧ (135 ≤ tj ∨
      tj < 115) ∧ (135 ≤ tj → s.hasCause Cause.junction = false) ∧ s.hasCause Cause.junction = false ∧ s.isWorker
      = false ∧ pl ≤ 85 ∧ Room s))
      0 3 (-40) 20 (w [(R.MODE_STAT_MODE, 6)]) &&
    (fun (_t : Nat) (_se : Nat) (tj : Int) (_pl : Int) (s : State) => decide (135 ≤ tj ∧ tj ≤ 255 ∧ s.hasCause
      Cause.junction = false ∧ s.isWorker = false ∧ Room s))
      0 3 135 86 (w [(R.MODE_STAT_MODE, 6)]) &&
    (fun (_t : Nat) (_se : Nat) (tj : Int) (_pl : Int) (s : State) => decide (115 ≤ tj ∧ tj < 135 ∧ toSigned 8
      (s.rd R.PWR_STAT_TJ) < 115 ∧ Room s))
      0 3 115 20 (w [(R.MODE_STAT_MODE, 6)]) &&
    (fun (t : Nat) (_c : Nat) (_ok : Bool) (s : State) => decide (s.mode ∉ [Mode.OFF, Mode.SLEEP,
      Mode.TRAILHEAD] ∧ s.pwr.capAt + 86400000000000 ≤ max s.now t ∧ Room s))
      86400000000000 60 false (w [(R.MODE_STAT_MODE, 3)]) &&
    (fun (t : Nat) (_c : Nat) (_ok : Bool) (s : State) => decide (s.mode ∉ [Mode.OFF, Mode.SLEEP,
      Mode.TRAILHEAD] ∧ s.pwr.capAt + 86400000000000 ≤ max s.now t ∧ Room s))
      86400000000000 100 true (w [(R.MODE_STAT_MODE, 6)])) = true := by decide +kernel

theorem test_meets_ModesComplete_1 : (
    (fun (_t : Nat) (n : Nat) (m : Nat) (c : Nat) (s : State) => decide (n ≠ 0 ∧ s.ses.open_.any (fun p =>
      p.2.num = n) = true ∧ s.turn n (.mode m) = true ∧ s.md.trans = none ∧ s.isWorker = false ∧ s.hmp.sizeHeld =
      false ∧ s.rd R.UPD_STAT_STATE ≠ 5 ∧ modeClass s.mode m = some c ∧ s.classAtLeast n c = true ∧ (s.rd
      R.MODE_STAT_CAUSES = 0 ∨ m = Mode.SAFE_STOP) ∧ (s.mode ≠ Mode.SERVICE ∨ s.rd R.HMP_STAT_WRITING ≠ 1) ∧ (m ≠
      Mode.WALK_HOME ∨ s.rd R.WH_STAT_EN = 1) ∧ (m ≠ Mode.HARVEST ∨ s.notRunning = none)))
      9 1 6 1 (wS 1 5) &&
    (fun (_t : Nat) (n : Nat) (m : Nat) (c : Nat) (s : State) => decide (n ≠ 0 ∧ s.ses.open_.any (fun p =>
      p.2.num = n) = true ∧ s.turn n (.mode m) = true ∧ s.md.trans = none ∧ s.isWorker = false ∧ s.hmp.sizeHeld =
      false ∧ s.rd R.UPD_STAT_STATE ≠ 5 ∧ modeClass s.mode m = some c ∧ s.classAtLeast n c = true ∧ (s.rd
      R.MODE_STAT_CAUSES = 0 ∨ m = Mode.SAFE_STOP) ∧ (s.mode ≠ Mode.SERVICE ∨ s.rd R.HMP_STAT_WRITING ≠ 1) ∧ (m ≠
      Mode.WALK_HOME ∨ s.rd R.WH_STAT_EN = 1) ∧ (m ≠ Mode.HARVEST ∨ s.notRunning = none)))
      9 1 4 1 ((wS 1 5 [(R.FN_CFG_PATH 5, 1), (R.FN_CFG_CHAN 5, 7)]).setFn 5 { running := true }) &&
    (fun (_t : Nat) (n : Nat) (m : Nat) (s : State) => decide (n ≠ 0 ∧ s.ses.open_.any (fun p => p.2.num = n) =
      true ∧ s.turn n (.mode m) = true ∧ (modeClass s.mode m = none ∨ s.isWorker = true ∨ s.hmp.sizeHeld = true) ∧
      Room s))
      9 1 10 (wS 1 6) &&
    (fun (_t : Nat) (n : Nat) (_m : Nat) (x : TransS) (s : State) => decide (n ≠ 0 ∧ s.md.trans = some x ∧ s.rd
      R.UPD_STAT_STATE ≠ 5 ∧ s.ses.gate.length < 64))
      9 1 6 { target := 4, source := 5, t0 := 0 } { wS 1 5 with md := { trans := some { target := 4, source := 5, t0 := 0 } } } &&
    (fun (_t : Nat) (s : State) => decide (s.md.wanted = true ∧ s.md.trans = none ∧ s.isWorker = false ∧
      s.hmp.sizeHeld = false ∧ (modeClass s.mode Mode.SAFE_STOP).isSome = true))
      9 { w [(R.MODE_STAT_MODE, 6)] with md := { wanted := true } } &&
    (fun (t : Nat) (l : List Nat) (x : TransS) (s : State) => decide (s.md.trans = some x ∧ x.target ≠
      Mode.SLEEP ∧ x.target ≠ Mode.UPDATE ∧ (s.isWorker = true ∨ s.md.running.any (fun u => !l.contains u) =
      false) ∧ x.t0 ≤ max s.now t ∧ Room s))
      5000000 [1, 2] { target := 6, source := 5, t0 := 0 } { w [(R.MODE_STAT_MODE, 5)] with md := { trans := some { target := 6, source := 5, t0 := 0 }, running := [2, 1] } } &&
    (fun (t : Nat) (l : List Nat) (x : TransS) (s : State) => decide (s.md.trans = some x ∧ x.target ≠
      Mode.SLEEP ∧ x.target ≠ Mode.UPDATE ∧ (s.isWorker = true ∨ s.md.running.any (fun u => !l.contains u) =
      false) ∧ x.t0 ≤ max s.now t ∧ Room s))
      5000000 [] { target := 11, source := 6, t0 := 0 } { w [(R.MODE_STAT_MODE, 6)] with role := { role := 1, unit := 2 }, md := { trans := some { target := 11, source := 6, t0 := 0 } } } &&
    (fun (_t : Nat) (_l : List Nat) (x : TransS) (s : State) => decide (s.md.trans = some x ∧ x.target =
      Mode.SLEEP ∧ s.pcIdle = true))
      5000000 [] { target := 1, source := 5, t0 := 0 } { w [(R.MODE_STAT_MODE, 5)] with md := { trans := some { target := 1, source := 5, t0 := 0 } } } &&
    (fun (_t : Nat) (_l : List Nat) (x : TransS) (s : State) => decide (s.md.trans = some x ∧ x.target =
      Mode.UPDATE ∧ s.rst.held = false))
      5000000 [] { target := 9, source := 8, t0 := 0 } { w [(R.MODE_STAT_MODE, 8)] with rst := { held := false }, md := { trans := some { target := 9, source := 8, t0 := 0 } } } &&
    (fun (_t : Nat) (m : Nat) (s : State) => decide (s.isWorker = true ∧ s.mode ∉ [Mode.OFF, Mode.SLEEP,
      Mode.TRAILHEAD, Mode.CONFIG] ∧ m ≠ Mode.UPDATE ∧ s.modeTarget ≠ m))
      9 6 { w [(R.MODE_STAT_MODE, 5)] with role := { role := 1, unit := 2 } } &&
    (fun (_t : Nat) (_k : Nat) (s : State) => decide (s.isWorker = false))
      0 3 (w []) &&
    (fun (_t : Nat) (_k : Nat) (s : State) => decide (s.isWorker = false))
      0 3 { w [(R.MODE_STAT_CAUSES, 1)] with md := { workerCauses := [3] } }) = true := by decide +kernel

theorem test_meets_ModesComplete_2 : (
    (fun (t : Nat) (s : State) => decide ((s.begin t).sleepDue = true))
      60000000000 { w [(R.MODE_STAT_MODE, 5), (R.PWR_CFG_SLEEP_DELAY, 60)] with pwr := { wakeOff := some 0 } } &&
    (fun (_t : Nat) (s : State) => decide (s.mode = Mode.SLEEP ∧ s.rst.held = false ∧ s.wakeEnabled 1 = true ∧
      s.gn.refresh = none))
      9 { w [(R.MODE_STAT_MODE, 1)] with rst := { held := false } } &&
    (fun (_t : Nat) (k : Nat) (s : State) => decide (1 ≤ k ∧ k ≤ 2 ∧ s.pwr.wake = 2 ^ (k - 1) ∧ s.mode ≠
      Mode.SLEEP))
      9 2 { w [(R.MODE_STAT_MODE, 5)] with pwr := { wake := 2, wakeOff := none } } &&
    (fun (_t : Nat) (_k : Nat) (s : State) => decide (s.mode ∉ [Mode.OFF, Mode.SLEEP, Mode.TRAILHEAD] ∧
      s.rst.held = false))
      9 3 { w [(R.MODE_STAT_MODE, 6)] with rst := { held := false } }) = true := by decide +kernel

theorem test_meets_TestsComplete : (
    (fun (_t : Nat) (n : Nat) (q : TestIn) (s : State) => decide (n ≠ 0 ∧ s.ses.open_.any (fun p => p.2.num = n)
      = true ∧ s.classAtLeast n 3 = true ∧ s.turn n (.test) = true ∧ q.unit = s.role.unit ∧ s.mode = Mode.TEST ∧
      s.testFields q = true ∧ s.testFn q = none ∧ s.testClash q = false ∧ q.test = 1 ∧ q.kind = 1))
      9 1 { test := 1, kind := 1, chan := 5, unit := 0, limit := 0, thresh := 0 } (wS 3 10 [(R.VD_CFG_KIND 5, 1)]) &&
    (fun (t : Nat) (n : Nat) (q : TestIn) (s : State) => decide (n ≠ 0 ∧ s.ses.open_.any (fun p => p.2.num = n)
      = true ∧ s.classAtLeast n 3 = true ∧ s.turn n (.test) = true ∧ q.unit = s.role.unit ∧ s.mode = Mode.HARVEST
      ∧ s.testFields q = true ∧ s.testClash q = false ∧ (s.begin t).quietSlot q = false ∧ s.md.tests = []))
      0 1 { test := 1, kind := 1, chan := 5, unit := 0, limit := 0, thresh := 0 } ((wS 3 6 [(R.VD_CFG_KIND 5, 1), (R.FN_CFG_PATH 7, 1), (R.FN_CFG_CHAN 7, 5)]).setFn 7 { running := true, causes := [] }) &&
    (fun (_t : Nat) (n : Nat) (q : TestIn) (s : State) => decide (n ≠ 0 ∧ s.ses.open_.any (fun p => p.2.num = n)
      = true ∧ s.classAtLeast n 3 = true ∧ s.turn n (.test) = true ∧ q.unit = s.role.unit ∧ s.mode ≠ Mode.TEST ∧
      s.mode ≠ Mode.HARVEST ∧ Room s))
      0 1 { test := 1, kind := 1, chan := 5, unit := 0, limit := 0, thresh := 0 } (wS 3 5) &&
    (fun (t : Nat) (x : TestS) (s : State) => decide (s.md.tests = [x] ∧ x.started = none ∧ x.asked +
      10000000000 ≤ max s.now t ∧ s.session? x.session ≠ none ∧ x.session ≠ 0 ∧ Room s))
      10000000000 { req := { test := 1, kind := 1, chan := 5, unit := 0, limit := 0, thresh := 0 }, session := 1, asked := 0 } { wS 3 6 with md := { tests := [{ req := { test := 1, kind := 1, chan := 5, unit := 0, limit := 0, thresh := 0 }, session := 1, asked := 0 }] } } &&
    (fun (t : Nat) (_v : Nat) (_ld : Bool) (x : TestS) (s : State) => decide (s.md.tests = [x] ∧ x.started.all
      (fun (a : Nat) => a + 20000000 ≤ max s.now t) = true ∧ x.started.isSome = true ∧ x.req.test = 1 ∧ x.req.kind
      = 1 ∧ 1 ≤ x.req.chan ∧ x.req.chan ≤ 32 ∧ x.session ≠ 0 ∧ s.session? x.session ≠ none ∧ s.testFn x.req = none
      ∧ s.ownsBank x.req.chan = false ∧ s.phase x.req.chan = 6 ∧ Room s))
      20000000 5000 true { req := { test := 1, kind := 1, chan := 5, unit := 0, limit := 0, thresh := 0 }, session := 1, asked := 0, started := some 0 } { wS 3 10 [(R.VD_CFG_KIND 5, 1), (R.VD_STAT_PHASE 5, 6)] with md := { tests := [{ req := { test := 1, kind := 1, chan := 5, unit := 0, limit := 0, thresh := 0 }, session := 1, asked := 0, started := some 0 }] } } &&
    (fun (t : Nat) (v : Nat) (k : Nat) (c : Nat) (ld : Bool) (x : TestS) (o : Nat × Nat) (s : State) => decide
      (s.md.tests = [x] ∧ x.started.isSome = true ∧ x.req.kind = k ∧ x.req.chan = c ∧ x.session ≠ 0 ∧ s.session?
      x.session ≠ none ∧ (s.begin t).testOutcome x ld v = some o ∧ Room s))
      2000000 0 2 5 true { req := { test := 2, kind := 2, chan := 5, unit := 0, limit := 0, thresh := 0 }, session := 1, asked := 0, started := some 0 } (0, 0) { wS 3 10 [(R.LS_CFG_USE 5, 1)] with md := { tests := [{ req := { test := 2, kind := 2, chan := 5, unit := 0, limit := 0, thresh := 0 }, session := 1, asked := 0, started := some 0 }] } } &&
    (fun (t : Nat) (v : Nat) (k : Nat) (c : Nat) (ld : Bool) (x : TestS) (o : Nat × Nat) (s : State) => decide
      (s.md.tests = [x] ∧ x.started.isSome = true ∧ x.req.kind = k ∧ x.req.chan = c ∧ x.session ≠ 0 ∧ s.session?
      x.session ≠ none ∧ (s.begin t).testOutcome x ld v = some o ∧ Room s))
      2000000 0 2 5 false { req := { test := 2, kind := 2, chan := 5, unit := 0, limit := 0, thresh := 0 }, session := 1, asked := 0, started := some 0 } (1, 0) { wS 3 10 [(R.LS_CFG_USE 5, 1)] with md := { tests := [{ req := { test := 2, kind := 2, chan := 5, unit := 0, limit := 0, thresh := 0 }, session := 1, asked := 0, started := some 0 }] } }) = true := by decide +kernel

theorem test_meets_ResetsComplete_1 : (
    (fun (_t : Nat) (v : Nat) (h : Nat) (s : State) => decide (s.mode = Mode.OFF ∧ 9000 ≤ v ∧ 10000000 ≤ h))
      9 9000 10000000 { w [(R.MODE_STAT_MODE, 0)] with pwr := { wake := 1 } } &&
    (fun (_t : Nat) (v : Nat) (h : Nat) (s : State) => decide (s.mode = Mode.OFF ∧ 9000 ≤ v ∧ 10000000 ≤ h))
      9 9000 10000000 { w [(R.MODE_STAT_MODE, 0)] with rst := { held := false, brownOut := true } } &&
    (fun (_t : Nat) (h : Nat) (s : State) => decide (s.mode ≠ Mode.OFF ∧ s.mode ≠ Mode.SLEEP ∧ s.rst.held =
      false ∧ 10000 ≤ h))
      9 10000 { w [(R.MODE_STAT_MODE, 6), (R.RST_STAT_RESETS, 4)] with rst := { held := false }, ses := { open_ := [(0, { num := 1 })] } } &&
    (fun (_t : Nat) (h : Nat) (s : State) => decide (s.mode ≠ Mode.OFF ∧ s.mode ≠ Mode.SLEEP ∧ s.rst.held =
      false ∧ 10000 ≤ h))
      9 10000 { w [(R.MODE_STAT_MODE, 6), (R.RST_STAT_RESETS, 4)] with rst := { held := false }, ses := { open_ := [(0, { num := 1 })] } } &&
    (fun (_t : Nat) (p : Nat) (d : Nat) (s : State) => decide (s.mode ≠ Mode.OFF ∧ s.mode ≠ Mode.SLEEP ∧
      s.rst.held = false ∧ watchdogLimit p ≤ d))
      9 1 500000000 { w [(R.MODE_STAT_MODE, 6), (R.RST_STAT_RESETS, 4)] with rst := { held := false }, ses := { open_ := [(0, { num := 1 })] } } &&
    (fun (_t : Nat) (_p : Nat) (s : State) => decide (s.mode ≠ Mode.OFF ∧ s.mode ≠ Mode.SLEEP ∧ s.rst.held =
      false))
      9 2 { w [(R.MODE_STAT_MODE, 6), (R.RST_STAT_RESETS, 4)] with rst := { held := false }, ses := { open_ := [(0, { num := 1 })] } } &&
    (fun (_t : Nat) (_b : Nat) (_i : Bool) (s : State) => decide (s.mode ≠ Mode.OFF ∧ s.mode ≠ Mode.SLEEP ∧
      s.rst.held = false))
      9 0 true { w [(R.MODE_STAT_MODE, 6), (R.RST_STAT_RESETS, 4)] with rst := { held := false }, ses := { open_ := [(0, { num := 1 })] } } &&
    (fun (_t : Nat) (n : Nat) (b : Nat) (s : State) => decide (s.mode ≠ Mode.OFF ∧ s.mode ≠ Mode.SLEEP ∧ n ≠ 0 ∧
      s.ses.open_.any (fun p => p.2.num = n) = true ∧ s.classAtLeast n 3 = true ∧ s.turn n (.swReset) = true ∧ b ∉
      [3, 4, 5, 6, 9, 10, 11, 12, 13] ∧ s.noTransfers b = true))
      9 1 2 (wS 3 6) &&
    (fun (_t : Nat) (n : Nat) (b : Nat) (s : State) => decide (s.mode ≠ Mode.OFF ∧ s.mode ≠ Mode.SLEEP ∧ n ≠ 0 ∧
      s.ses.open_.any (fun p => p.2.num = n) = true ∧ s.classAtLeast n 3 = true ∧ s.turn n (.swReset) = true ∧ b ∈
      [3, 4, 5, 6, 9] ∧ s.noTransfers b = true ∧ s.rd (R.ISL_STAT_HELD b) = 0))
      9 1 4 (wS 3 6) &&
    (fun (_t : Nat) (n : Nat) (b : Nat) (i : Bool) (s : State) => decide (s.mode ≠ Mode.OFF ∧ s.mode ≠
      Mode.SLEEP ∧ n ≠ 0 ∧ s.ses.open_.any (fun p => p.2.num = n) = true ∧ s.classAtLeast n 3 = true ∧ s.turn n
      (.swReset) = true ∧ (i = false ∨ s.noTransfers b = false) ∧ Room s))
      9 1 4 false (wS 3 6) &&
    (fun (_t : Nat) (s : State) => decide (s.mode ≠ Mode.OFF ∧ s.mode ≠ Mode.SLEEP ∧ s.pwr.svc = true ∧
      s.islandOut 5 = false ∧ s.rst.held = false))
      9 { w [(R.MODE_STAT_MODE, 6), (R.ISL_STAT_RUN 5, 1)] with rst := { held := false }, pwr := { svc := true } } &&
    (fun (t : Nat) (_x : Nat) (s : State) => decide (s.rst.held = true ∧ s.rd R.RST_STAT_SCOPE < 3 ∧
      s.rst.assertAt + 100000 ≤ max s.now t))
      100000 4 (w [(R.RST_STAT_SCOPE, 2), (R.RST_STAT_SOURCE, 3)])) = true := by decide +kernel

theorem test_meets_ResetsComplete_2 : (
    (fun (t : Nat) (_x : Nat) (s : State) => decide (s.rst.held = true ∧ s.rd R.RST_STAT_SCOPE < 3 ∧
      s.rst.assertAt + 100000 ≤ max s.now t))
      100000 4 (w [(R.RST_STAT_SCOPE, 1), (R.RST_STAT_SOURCE, 6)]) &&
    (fun (t : Nat) (x : StartIn) (s : State) => decide (s.rst.held = true ∧ s.rst.pinLow = false ∧ s.rst.clearAt
      + 2000000 ≤ max s.now t ∧ (((s.begin t).beginRelease x).bootSlot x.badSlots).2 = true ∧ s.rd
      R.HMP_STAT_SOURCE = 0 ∧ s.hmp.waitRuck = false ∧ s.hmp.key = none))
      2000000 {} (w []) &&
    (fun (t : Nat) (x : StartIn) (s : State) => decide (s.rst.held = true ∧ s.rst.pinLow = false ∧ s.rst.clearAt
      + 2000000 ≤ max s.now t ∧ (((s.begin t).beginRelease x).bootSlot x.badSlots).2 = false))
      2000000 { badSlots := [0, 1] } (w []) &&
    (fun (_t : Nat) (_m : Nat) (s : State) => decide (s.configDone = true ∧ s.mode = Mode.CONFIG ∧ s.md.trans =
      none ∧ s.isWorker = false ∧ Room s))
      9 0 { w [(R.MODE_STAT_MODE, 3), (R.HMP_STAT_SOURCE, 1)] with rst := { held := false, step := 9 } } &&
    (fun (t : Nat) (s : State) => decide ((s.mode = Mode.TRAILHEAD ∨ s.mode = Mode.CONFIG) ∧ s.rst.held = false
      ∧ s.configured = true ∧ s.hmp.sizeHeld = false ∧ s.isWorker = false ∧ s.rst.startAt + 10000000000 ≤ max
      s.now t))
      10000000000 { w [(R.MODE_STAT_MODE, 3), (R.HMP_STAT_SOURCE, 1)] with rst := { held := false, step := 8 } } &&
    (fun (_t : Nat) (v : Nat) (s : State) => decide (s.mode = Mode.OFF ∧ v < 3000))
      9 2999 { w [(R.MODE_STAT_MODE, 0)] with mem := [(5, 1), (20 * 2 ^ 40 + 3, 7)] }) = true := by decide +kernel

theorem test_meets_BlackBoxComplete_1 : (
    (fun (_t : Nat) (it : BbItem) (rest : List BbItem) (s : State) => decide (s.bb.queue = it :: rest ∧ s.rd
      R.BB_STAT_READY = 1 ∧ s.rd R.BB_STAT_PERM = 4096 ∧ s.rd R.BB_STAT_FORM = 0 ∧ s.rd R.BB_STAT_HEAD + it.bytes
      ≤ circSize))
      9 { typ := 4, payload := List.replicate 24 7 } [] { w [(R.BB_STAT_READY, 1), (R.BB_STAT_PERM, 4096), (R.BB_STAT_HEAD, 10)] with bb := { queue := [{ typ := 4, payload := List.replicate 24 7 }], circ := [{ pos := 10, item := { typ := 3, payload := List.replicate 40 0 }, seqForm := false, stampA := 1, stampB := 1 }, { pos := 70, item := { typ := 3, payload := List.replicate 40 0 }, seqForm := false, stampA := 1, stampB := 1 }] } } &&
    (fun (_t : Nat) (it : BbItem) (rest : List BbItem) (s : State) => decide (s.bb.queue = it :: rest ∧ s.rd
      R.BB_STAT_READY = 1 ∧ s.rd R.BB_STAT_PERM = 4096 ∧ s.rd R.BB_STAT_FORM = 0 ∧ s.rd R.BB_STAT_HEAD + it.bytes
      ≤ circSize))
      9 { typ := 4, payload := List.replicate 24 7 } [] { w [(R.BB_STAT_READY, 1), (R.BB_STAT_PERM, 4096), (R.BB_STAT_HEAD, 14680020)] with bb := { queue := [{ typ := 4, payload := List.replicate 24 7 }] } } &&
    (fun (_t : Nat) (it : BbItem) (rest : List BbItem) (s : State) => decide (s.bb.queue = it :: rest ∧ s.rd
      R.BB_STAT_READY = 1 ∧ s.rd R.BB_STAT_PERM = 4096 ∧ s.rd R.BB_STAT_FORM = 0 ∧ circSize < s.rd R.BB_STAT_HEAD
      + it.bytes))
      9 { typ := 4, payload := List.replicate 24 7 } [] { w [(R.BB_STAT_READY, 1), (R.BB_STAT_PERM, 4096), (R.BB_STAT_HEAD, 14680021)] with bb := { queue := [{ typ := 4, payload := List.replicate 24 7 }], circ := [{ pos := 14679960, item := { typ := 3, payload := List.replicate 40 0 }, seqForm := false, stampA := 1, stampB := 1 }, { pos := 10, item := { typ := 3, payload := List.replicate 40 0 }, seqForm := false, stampA := 1, stampB := 1 }] } } &&
    (fun (_t : Nat) (it : BbItem) (rest : List BbItem) (s : State) => decide (s.bb.queue = it :: rest ∧ s.rd
      R.BB_STAT_READY = 1 ∧ s.rd R.BB_STAT_PERM < 4095 ∧ s.rd R.BB_STAT_FORM = 0))
      9 { typ := 4, payload := List.replicate 24 7 } [] { w [(R.BB_STAT_READY, 1), (R.BB_STAT_PERM, 7)] with bb := { queue := [{ typ := 4, payload := List.replicate 24 7 }] } } &&
    (fun (_t : Nat) (it : BbItem) (rest : List BbItem) (s : State) => decide (s.bb.queue = it :: rest ∧ s.rd
      R.BB_STAT_READY = 1 ∧ s.rd R.BB_STAT_PERM = 4095 ∧ s.bb.permFullLogged = false ∧ Room s))
      9 { typ := 4, payload := List.replicate 24 7 } [] { w [(R.BB_STAT_READY, 1), (R.BB_STAT_PERM, 4095)] with bb := { queue := [{ typ := 4, payload := List.replicate 24 7 }] } } &&
    (fun (_t : Nat) (k : Nat) (it : BbItem) (rest : List BbItem) (s : State) => decide (s.bb.queue = it :: rest
      ∧ s.rd R.BB_STAT_READY = 1 ∧ k < 3 ∧ s.rd R.BB_STAT_PERM < 4096 ∧ s.rd R.BB_STAT_FORM = 0))
      9 2 { typ := 4, payload := List.replicate 24 7 } [] { w [(R.BB_STAT_READY, 1), (R.BB_STAT_PERM, 7)] with bb := { queue := [{ typ := 4, payload := List.replicate 24 7 }] } } &&
    (fun (_t : Nat) (n : Nat) (m : Nat) (it : BbItem) (rest : List BbItem) (more : List (Nat × Nat)) (s : State)
      => decide (s.bb.queue = it :: rest ∧ s.rd R.BB_STAT_READY = 1 ∧ s.rd R.BB_STAT_FORM = 1 ∧ s.bb.blocks = (n,
      m) :: more ∧ s.rd R.BB_STAT_PERM < 4095))
      9 20 20 { typ := 4, payload := List.replicate 24 7 } [] [] { w [(R.BB_STAT_READY, 1), (R.BB_STAT_FORM, 1)] with bb := { queue := [{ typ := 4, payload := List.replicate 24 7 }], blocks := [(20, 20)] } } &&
    (fun (_t : Nat) (n : Nat) (m : Nat) (it : BbItem) (rest : List BbItem) (more : List (Nat × Nat)) (s : State)
      => decide (s.bb.queue = it :: rest ∧ s.rd R.BB_STAT_READY = 1 ∧ s.rd R.BB_STAT_FORM = 1 ∧ s.bb.blocks = (n,
      m) :: more ∧ s.rd R.BB_STAT_PERM < 4095))
      9 19 20 { typ := 4, payload := List.replicate 24 7 } [] [] { w [(R.BB_STAT_READY, 1), (R.BB_STAT_FORM, 1)] with bb := { queue := [{ typ := 4, payload := List.replicate 24 7 }], blocks := [(19, 20)] } } &&
    (fun (_t : Nat) (_k : Nat) (s : State) => decide ((s.rd R.BB_STAT_READY = 0 ∨ s.bb.queue = [])))
      0 3 { w [(R.BB_STAT_READY, 0)] with bb := { queue := [{ typ := 4, payload := List.replicate 24 7 }] } } &&
    (fun (_t : Nat) (s : State) => decide (0 < s.bb.dropped ∧ s.bb.queue.length < 1023 ∧ Room s))
      0 { w [] with bb := { dropped := 3 } } &&
    (fun (_t : Nat) (s : State) => decide ((s.bb.dropped = 0 ∨ 1024 ≤ s.bb.queue.length)))
      0 (w []) &&
    (fun (t : Nat) (s : State) => decide (s.bb.opSince.isSome = true ∧ s.bb.anchorAt + 60000 ≤ (s.begin t).hours
      ∧ s.bb.queue.length < 1024))
      600000000000 { w [(R.RST_STAT_CYCLES, 3)] with bb := { opSince := some 0 } }) = true := by decide +kernel

theorem test_meets_BlackBoxComplete_2 : (
    (fun (t : Nat) (s : State) => decide (s.bb.opSince.isSome = true ∧ s.bb.anchorAt + 60000 ≤ (s.begin t).hours
      ∧ 1024 ≤ s.bb.queue.length))
      600000000000 { w [(R.BB_STAT_LOST, 7)] with bb := { opSince := some 0, queue := List.replicate 1024 { typ := 4, payload := List.replicate 24 7 } } } &&
    (fun (t : Nat) (s : State) => decide (s.bb.opSince.isSome = true ∧ s.bb.lastCtrl.hours + 100 ≤ (s.begin
      t).hours ∧ s.bb.ctrlB.count ≤ s.bb.ctrlA.count))
      1000000000 { w [] with bb := { hoursBase := 5, opSince := some 0, ctrlA := { count := 3 }, ctrlB := { count := 2 } } } &&
    (fun (t : Nat) (s : State) => decide (s.bb.opSince.isSome = true ∧ s.bb.lastCtrl.hours + 100 ≤ (s.begin
      t).hours ∧ s.bb.ctrlA.count < s.bb.ctrlB.count))
      1000000000 { w [] with bb := { hoursBase := 5, opSince := some 0, ctrlA := { count := 3 }, ctrlB := { count := 4 } } } &&
    (fun (_t : Nat) (unit : Nat) (s : State) => decide (s.role.size = 2 ∧ s.configured = true ∧ s.reaches unit =
      true ∧ unit ≠ s.role.unit))
      0 3 { w [(R.HMP_STAT_SOURCE, 1)] with role := { size := 2, unit := 0, workers := 5 }, bb := { ctrlA := { seqNext := 4097 } } } &&
    (fun (_t : Nat) (s : State) => decide (s.role.size = 2 ∧ s.configured = true ∧ s.isWorker = false ∧
      s.bb.seqLeft < 1024 ∧ s.bb.blocks.length < 2))
      0 { w [(R.HMP_STAT_SOURCE, 1)] with role := { size := 2, unit := 0 }, bb := { blocks := [(1, 1023)] } } &&
    (fun (_t : Nat) (s : State) => decide (s.role.size = 2 ∧ s.configured = true ∧ s.isWorker = true ∧
      s.bb.seqLeft < 1024 ∧ s.bb.blocks.length < 2))
      0 { w [(R.HMP_STAT_SOURCE, 1)] with role := { size := 2, unit := 3, role := 1 } } &&
    (fun (_t : Nat) (_n : Nat) (s : State) => decide (s.role.size = 2 ∧ s.configured = true ∧ s.isWorker = true
      ∧ s.bb.blocks.length < 2))
      0 4097 { w [(R.HMP_STAT_SOURCE, 1)] with role := { size := 2, unit := 3, role := 1 } } &&
    (fun (_t : Nat) (_unit : Nat) (_g : Option Nat) (s : State) => decide (s.role.size ≠ 2))
      0 3 (some 4097) (w []) &&
    (fun (_t : Nat) (n : Nat) (_area : Nat) (_k : Nat) (_f : Option (Bool × Nat × Nat)) (_ans : Nat × List Int)
      (s : State) => decide (n ≠ 0 ∧ s.svcRefusal n 0x0030 [Cls.SERVICE, Cls.FLEET] = none))
      0 1 1 2 none (0, []) { wS 3 5 with bb := { circ := [{ pos := 10, item := { typ := 3, payload := List.replicate 40 0 }, seqForm := false, stampA := 1, stampB := 1 }] } } &&
    (fun (_t : Nat) (n : Nat) (_area : Nat) (_k : Nat) (_f : Option (Bool × Nat × Nat)) (_ans : Nat × List Int)
      (s : State) => decide (n ≠ 0 ∧ s.svcRefusal n 0x0030 [Cls.SERVICE, Cls.FLEET] = none))
      0 1 2 2 (some (false, 1, 2)) (0, []) { wS 3 5 with bb := { circ := [{ pos := 10, item := { typ := 3, payload := List.replicate 40 0 }, seqForm := false, stampA := 1, stampB := 1 }] } } &&
    (fun (_t : Nat) (n : Nat) (unit : Nat) (_area : Nat) (_k : Nat) (_f : Option (Bool × Nat × Nat)) (_ans : Nat
      × List Int) (s : State) => decide (n ≠ 0 ∧ s.svcRefusal n 0x0030 [Cls.SERVICE, Cls.FLEET] = none ∧ unit ≠
      s.role.unit ∧ s.reaches unit = true))
      0 1 3 1 2 none (0, [5]) { wS 3 5 with role := { workers := 4 } } &&
    (fun (_t : Nat) (n : Nat) (_unit : Nat) (_area : Nat) (_k : Nat) (_f : Option (Bool × Nat × Nat)) (_ans :
      Nat × List Int) (s : State) => decide (n ≠ 0 ∧ s.svcRefusal n 0x0030 [Cls.SERVICE, Cls.FLEET] = some
      Res.CLASS))
      0 1 3 1 2 none (0, []) (wS 2 5)) = true := by decide +kernel

theorem test_meets_PostcardComplete_1 : (
    (fun (_t : Nat) (temp : Int) (s : State) => decide (s.pc.asked = true ∧ s.pc.run = none ∧ panelBand temp ≠ 7
      ∧ s.pc.fullNext = true))
      0 85 { w [] with pc := { asked := true, fullNext := true } } &&
    (fun (_t : Nat) (temp : Int) (s : State) => decide (s.pc.asked = true ∧ s.pc.run = none ∧ panelBand temp ≠ 7
      ∧ s.pc.fullNext = true))
      0 (-40) { w [] with pc := { asked := true, fullNext := true } } &&
    (fun (_t : Nat) (temp : Int) (s : State) => decide (s.pc.asked = true ∧ s.pc.run = none ∧ panelBand temp ≠ 7
      ∧ s.pc.fullNext = false))
      0 20 { w [(R.PC_STAT_HELD, 1), (R.HMP_STAT_SOURCE, 1), (R.PC_STAT_HCODE, 0x1030)] with pc := { asked := true } } &&
    (fun (_t : Nat) (temp : Int) (s : State) => decide (s.pc.asked = true ∧ s.pc.run = none ∧ panelBand temp = 7
      ∧ s.bb.queue.length < 1023 ∧ Room s))
      0 86 { w [] with pc := { asked := true } } &&
    (fun (_t : Nat) (temp : Int) (s : State) => decide (s.pc.asked = true ∧ s.pc.run = none ∧ panelBand temp = 7
      ∧ s.bb.queue.length < 1023 ∧ Room s))
      0 (-41) { w [] with pc := { asked := true } } &&
    (fun (_t : Nat) (_temp : Int) (s : State) => decide ((s.pc.asked = false ∨ s.pc.run.isSome = true)))
      0 20 { w [] with pc := { asked := true, run := some { frame := 5, commons := [0, 2], band := 3, full := false } } } &&
    (fun (t : Nat) (_temp : Int) (r : PcRun) (s : State) => decide (s.pc.run = some r ∧ r.at_ + r.length ≤ max
      s.now t ∧ s.rd R.PC_STAT_RESCHED ≠ 1 ∧ s.pc.merged = false ∧ s.bb.queue.length < 1024))
      2000000000 20 { frame := 5, commons := [0, 2], band := 3, full := false } { w [(R.PC_STAT_WRITES, 4)] with pc := { run := some { frame := 5, commons := [0, 2], band := 3, full := false }, inProgress := true, stress := [1, 2, 3, 4] } } &&
    (fun (t : Nat) (temp : Int) (r : PcRun) (s : State) => decide (s.pc.run = some r ∧ r.at_ + r.length ≤ max
      s.now t ∧ s.rd R.PC_STAT_RESCHED = 1 ∧ panelBand temp ≠ 7))
      2000000000 20 { frame := 5, commons := [0, 2], band := 3, full := false } { w [(R.PC_STAT_RESCHED, 1)] with pc := { run := some { frame := 5, commons := [0, 2], band := 3, full := false }, inProgress := true } } &&
    (fun (t : Nat) (temp : Int) (r : PcRun) (s : State) => decide (s.pc.run = some r ∧ r.at_ + r.length ≤ max
      s.now t ∧ s.rd R.PC_STAT_RESCHED ≠ 1 ∧ s.pc.merged = true ∧ s.pc.fullNext = false ∧ panelBand temp ≠ 7))
      2000000000 20 { frame := 5, commons := [0, 2], band := 3, full := false } { w [] with pc := { run := some { frame := 5, commons := [0, 2], band := 3, full := false }, inProgress := true, merged := true } } &&
    (fun (t : Nat) (_temp : Int) (r : PcRun) (s : State) => decide (s.pc.run = some r ∧ max s.now t < r.at_ +
      r.length))
      0 20 { frame := 5, commons := [0, 2], band := 3, full := false } { w [] with pc := { run := some { frame := 5, commons := [0, 2], band := 3, full := false }, inProgress := true } } &&
    (fun (_t : Nat) (temp : Int) (s : State) => decide (s.pc.deferred = true ∧ panelBand temp ≠ 7))
      0 80 { w [(R.PC_STAT_STATE, 2)] with pc := { deferred := true } } &&
    (fun (_t : Nat) (temp : Int) (s : State) => decide ((s.pc.deferred = false ∨ panelBand temp = 7)))
      0 80 (w [])) = true := by decide +kernel

theorem test_meets_PostcardComplete_2 : (
    (fun (_t : Nat) (temp : Int) (r : PcRun) (s : State) => decide (s.pc.run = some r ∧ r.fromSched = false ∧
      panelBand temp ≠ r.band))
      0 45 { frame := 5, commons := [0, 2], band := 3, full := false } { w [] with pc := { run := some { frame := 5, commons := [0, 2], band := 3, full := false } } } &&
    (fun (_t : Nat) (temp : Int) (r : PcRun) (s : State) => decide (s.pc.run = some r ∧ (r.fromSched = true ∨
      panelBand temp = r.band)))
      0 39 { frame := 5, commons := [0, 2], band := 3, full := false } { w [] with pc := { run := some { frame := 5, commons := [0, 2], band := 3, full := false } } } &&
    (fun (_t : Nat) (n : Nat) (s : State) => decide (n ≠ 0 ∧ s.ses.open_.any (fun p => p.2.num = n) = true ∧
      s.classAtLeast n 3 = true ∧ s.turn n (.pcClear) = true ∧ s.rd R.PC_STAT_HELD = 1 ∧ Room s))
      0 1 (wS 3 5 [(R.PC_STAT_HELD, 1), (R.PC_STAT_HUNIT, 2), (R.PC_STAT_HCODE, 0x1030)]) &&
    (fun (_t : Nat) (n : Nat) (s : State) => decide (n ≠ 0 ∧ s.ses.open_.any (fun p => p.2.num = n) = true ∧
      s.turn n (.pcClear) = true ∧ s.classAtLeast n Cls.SERVICE = false))
      0 1 (wS 2 5 [(R.PC_STAT_HELD, 1)]) &&
    (fun (_t : Nat) (n : Nat) (f : Nat) (v : Nat) (s : State) => decide (n ≠ 0 ∧ s.ses.open_.any (fun p =>
      p.2.num = n) = true ∧ s.turn n (.live (if f = 0 then R.PC_CFG_AREAMASK else R.PC_TEXT_SEGS)) = true ∧ (f = 0
      ∨ f = 1) ∧ s.mayLive n (if f = 0 then R.PC_CFG_AREAMASK else R.PC_TEXT_SEGS) = true ∧ s.served = true ∧ v <
      (if f = 0 then 2 ^ 12 else 2 ^ 112)))
      0 1 0 4095 (wS 3 5) &&
    (fun (_t : Nat) (n : Nat) (f : Nat) (v : Nat) (s : State) => decide (n ≠ 0 ∧ s.ses.open_.any (fun p =>
      p.2.num = n) = true ∧ s.turn n (.live (if f = 0 then R.PC_CFG_AREAMASK else R.PC_TEXT_SEGS)) = true ∧ (f = 0
      ∨ f = 1) ∧ s.mayLive n (if f = 0 then R.PC_CFG_AREAMASK else R.PC_TEXT_SEGS) = true ∧ s.served = true ∧ v <
      (if f = 0 then 2 ^ 12 else 2 ^ 112)))
      0 1 1 7 (wS 3 5) &&
    (fun (_t : Nat) (n : Nat) (v : Nat) (s : State) => decide (n ≠ 0 ∧ s.ses.open_.any (fun p => p.2.num = n) =
      true ∧ s.turn n (.live R.PC_ICONS) = true ∧ s.mayLive n R.PC_ICONS = true ∧ s.served = true ∧ v < 2 ^ 32))
      0 1 5 (wS 3 5) &&
    (fun (_t : Nat) (n : Nat) (v : Nat) (s : State) => decide (n ≠ 0 ∧ s.ses.open_.any (fun p => p.2.num = n) =
      true ∧ s.turn n (.live R.PC_CFG_AREAMASK) = true ∧ s.mayLive n R.PC_CFG_AREAMASK = true ∧ s.served = true ∧
      2 ^ 12 ≤ v))
      0 1 4096 (wS 3 5)) = true := by decide +kernel

theorem test_meets_UpdateComplete_1 : (
    (fun (_t : Nat) (n : Nat) (m : ManifestIn) (s : State) => decide (n ≠ 0 ∧ s.updRefusal n [Cls.SERVICE,
      Cls.FLEET] = none ∧ s.isWorker = false ∧ s.rd (R.UPD_SLOT_STATE (s.rd R.UPD_STAT_ACTIVE)) ≠ 1 ∧ s.rd
      R.HMP_STAT_WRITING ≠ 1 ∧ s.manifestFault m = 0 ∧ s.upd.man = none ∧ Room s))
      0 1 { version := 258, secFloor := 0, imageLen := 65539, nblocks := 2, built := 0, sections := [1, 2, 3, 4, 5].map (fun k => { kind := k, offset := 65536 * (k - 4), length := 3, crc := 0, digest := 0xba7816bf8f01cfea414140de5dae2223b00361a396177a9cb410ff61f20015ad }) } ({ wS 3 5 [(R.UPD_SLOT_STATE 0, 2), (R.UPD_SLOT_STATE 1, 3), (R.UPD_STAT_BADCRC, 4)] with upd := { inSlot := [(1, { version := 258, secFloor := 0, imageLen := 65539, nblocks := 2, built := 0, sections := [1, 2, 3, 4, 5].map (fun k => { kind := k, offset := 65536 * (k - 4), length := 3, crc := 0, digest := 0xba7816bf8f01cfea414140de5dae2223b00361a396177a9cb410ff61f20015ad }) })] } }) &&
    (fun (_t : Nat) (n : Nat) (m : ManifestIn) (o : ManifestIn) (s : State) => decide (n ≠ 0 ∧ s.updRefusal n
      [Cls.SERVICE, Cls.FLEET] = none ∧ s.isWorker = false ∧ s.rd (R.UPD_SLOT_STATE (s.rd R.UPD_STAT_ACTIVE)) ≠ 1
      ∧ s.rd R.HMP_STAT_WRITING ≠ 1 ∧ s.manifestFault m = 0 ∧ s.upd.man = some o ∧ m = o))
      0 1 { version := 258, secFloor := 0, imageLen := 65539, nblocks := 2, built := 0, sections := [1, 2, 3, 4, 5].map (fun k => { kind := k, offset := 65536 * (k - 4), length := 3, crc := 0, digest := 0xba7816bf8f01cfea414140de5dae2223b00361a396177a9cb410ff61f20015ad }) } { version := 258, secFloor := 0, imageLen := 65539, nblocks := 2, built := 0, sections := [1, 2, 3, 4, 5].map (fun k => { kind := k, offset := 65536 * (k - 4), length := 3, crc := 0, digest := 0xba7816bf8f01cfea414140de5dae2223b00361a396177a9cb410ff61f20015ad }) } ({ wS 3 5 [(R.UPD_SLOT_STATE 0, 2), (R.UPD_STAT_STATE, 1)] with upd := { man := some { version := 258, secFloor := 0, imageLen := 65539, nblocks := 2, built := 0, sections := [1, 2, 3, 4, 5].map (fun k => { kind := k, offset := 65536 * (k - 4), length := 3, crc := 0, digest := 0xba7816bf8f01cfea414140de5dae2223b00361a396177a9cb410ff61f20015ad }) } } }) &&
    (fun (_t : Nat) (n : Nat) (m : ManifestIn) (o : ManifestIn) (s : State) => decide (n ≠ 0 ∧ s.updRefusal n
      [Cls.SERVICE, Cls.FLEET] = none ∧ s.isWorker = false ∧ s.rd (R.UPD_SLOT_STATE (s.rd R.UPD_STAT_ACTIVE)) ≠ 1
      ∧ s.rd R.HMP_STAT_WRITING ≠ 1 ∧ s.manifestFault m = 0 ∧ s.upd.man = some o ∧ m ≠ o ∧ Room s))
      0 1 { version := 258, secFloor := 0, imageLen := 65539, nblocks := 2, built := 7, sections := [1, 2, 3, 4, 5].map (fun k => { kind := k, offset := 65536 * (k - 4), length := 3, crc := 0, digest := 0xba7816bf8f01cfea414140de5dae2223b00361a396177a9cb410ff61f20015ad }) } { version := 258, secFloor := 0, imageLen := 65539, nblocks := 2, built := 0, sections := [1, 2, 3, 4, 5].map (fun k => { kind := k, offset := 65536 * (k - 4), length := 3, crc := 0, digest := 0xba7816bf8f01cfea414140de5dae2223b00361a396177a9cb410ff61f20015ad }) } ({ wS 3 5 [(R.UPD_SLOT_STATE 0, 2), (R.UPD_STAT_STATE, 1)] with upd := { man := some { version := 258, secFloor := 0, imageLen := 65539, nblocks := 2, built := 0, sections := [1, 2, 3, 4, 5].map (fun k => { kind := k, offset := 65536 * (k - 4), length := 3, crc := 0, digest := 0xba7816bf8f01cfea414140de5dae2223b00361a396177a9cb410ff61f20015ad }) } } }) &&
    (fun (_t : Nat) (n : Nat) (m : ManifestIn) (s : State) => decide (n ≠ 0 ∧ s.updRefusal n [Cls.SERVICE,
      Cls.FLEET] = none ∧ s.isWorker = false ∧ s.rd (R.UPD_SLOT_STATE (s.rd R.UPD_STAT_ACTIVE)) ≠ 1 ∧ s.rd
      R.HMP_STAT_WRITING ≠ 1 ∧ s.manifestFault m ≠ 0 ∧ Room s))
      0 1 { version := 258, secFloor := 3, imageLen := 65539, nblocks := 2, built := 0, sections := [1, 2, 3, 4, 5].map (fun k => { kind := k, offset := 65536 * (k - 4), length := 3, crc := 0, digest := 0xba7816bf8f01cfea414140de5dae2223b00361a396177a9cb410ff61f20015ad }) } ({ wS 3 5 [(R.UPD_SLOT_STATE 0, 2), (R.UPD_STAT_FLOOR, 4)] with upd := {  } }) &&
    (fun (_t : Nat) (n : Nat) (_m : ManifestIn) (s : State) => decide (n ≠ 0 ∧ s.updRefusal n [Cls.SERVICE,
      Cls.FLEET] = none ∧ s.isWorker = false ∧ s.rd (R.UPD_SLOT_STATE (s.rd R.UPD_STAT_ACTIVE)) = 1 ∧ Room s))
      0 1 { version := 258, secFloor := 0, imageLen := 65539, nblocks := 2, built := 0, sections := [1, 2, 3, 4, 5].map (fun k => { kind := k, offset := 65536 * (k - 4), length := 3, crc := 0, digest := 0xba7816bf8f01cfea414140de5dae2223b00361a396177a9cb410ff61f20015ad }) } ({ wS 3 5 [(R.UPD_SLOT_STATE 0, 2), (R.UPD_SLOT_STATE 0, 1)] with upd := {  } }) &&
    (fun (_t : Nat) (n : Nat) (b : Nat) (l : List Nat) (m : ManifestIn) (s : State) => decide (n ≠ 0 ∧
      s.updRefusal n [Cls.SERVICE, Cls.FLEET] = none ∧ s.upd.man = some m ∧ b < s.rd R.UPD_STAT_NBLOCKS ∧ l.length
      = blockLen m b ∧ s.rd R.UPD_STAT_STATE = 1 ∧ look s.upd.got b = none))
      0 1 1 [97, 98, 99] { version := 258, secFloor := 0, imageLen := 65539, nblocks := 2, built := 0, sections := [1, 2, 3, 4, 5].map (fun k => { kind := k, offset := 65536 * (k - 4), length := 3, crc := 0, digest := 0xba7816bf8f01cfea414140de5dae2223b00361a396177a9cb410ff61f20015ad }) } ({ wS 3 5 [(R.UPD_SLOT_STATE 0, 2), (R.UPD_STAT_STATE, 1), (R.UPD_STAT_NBLOCKS, 2)] with upd := { man := some { version := 258, secFloor := 0, imageLen := 65539, nblocks := 2, built := 0, sections := [1, 2, 3, 4, 5].map (fun k => { kind := k, offset := 65536 * (k - 4), length := 3, crc := 0, digest := 0xba7816bf8f01cfea414140de5dae2223b00361a396177a9cb410ff61f20015ad }) }, got := [(0, [])] } }) &&
    (fun (_t : Nat) (n : Nat) (b : Nat) (l : List Nat) (m : ManifestIn) (s : State) => decide (n ≠ 0 ∧
      s.updRefusal n [Cls.SERVICE, Cls.FLEET] = none ∧ s.upd.man = some m ∧ b < s.rd R.UPD_STAT_NBLOCKS ∧ l.length
      = blockLen m b ∧ s.rd R.UPD_STAT_STATE = 1 ∧ look s.upd.got b = none))
      0 1 1 [97, 98, 99] { version := 258, secFloor := 0, imageLen := 65539, nblocks := 2, built := 0, sections := [1, 2, 3, 4, 5].map (fun k => { kind := k, offset := 65536 * (k - 4), length := 3, crc := 0, digest := 0xba7816bf8f01cfea414140de5dae2223b00361a396177a9cb410ff61f20015ad }) } ({ wS 3 5 [(R.UPD_SLOT_STATE 0, 2), (R.UPD_STAT_STATE, 1), (R.UPD_STAT_NBLOCKS, 2)] with upd := { man := some { version := 258, secFloor := 0, imageLen := 65539, nblocks := 2, built := 0, sections := [1, 2, 3, 4, 5].map (fun k => { kind := k, offset := 65536 * (k - 4), length := 3, crc := 0, digest := 0xba7816bf8f01cfea414140de5dae2223b00361a396177a9cb410ff61f20015ad }) } } }) &&
    (fun (_t : Nat) (n : Nat) (b : Nat) (c : Nat) (l : List Nat) (m : ManifestIn) (s : State) => decide (n ≠ 0 ∧
      s.updRefusal n [Cls.SERVICE, Cls.FLEET] = none ∧ s.upd.man = some m ∧ b < s.rd R.UPD_STAT_NBLOCKS ∧ l.length
      = blockLen m b ∧ crc32c l ≠ c ∧ Room s))
      0 1 1 5 [97, 98, 99] { version := 258, secFloor := 0, imageLen := 65539, nblocks := 2, built := 0, sections := [1, 2, 3, 4, 5].map (fun k => { kind := k, offset := 65536 * (k - 4), length := 3, crc := 0, digest := 0xba7816bf8f01cfea414140de5dae2223b00361a396177a9cb410ff61f20015ad }) } ({ wS 3 5 [(R.UPD_SLOT_STATE 0, 2), (R.UPD_STAT_STATE, 1), (R.UPD_STAT_NBLOCKS, 2)] with upd := { man := some { version := 258, secFloor := 0, imageLen := 65539, nblocks := 2, built := 0, sections := [1, 2, 3, 4, 5].map (fun k => { kind := k, offset := 65536 * (k - 4), length := 3, crc := 0, digest := 0xba7816bf8f01cfea414140de5dae2223b00361a396177a9cb410ff61f20015ad }) } } }) &&
    (fun (_t : Nat) (n : Nat) (b : Nat) (_c : Nat) (l : List Nat) (m : ManifestIn) (s : State) => decide (n ≠ 0
      ∧ s.updRefusal n [Cls.SERVICE, Cls.FLEET] = none ∧ s.upd.man = some m ∧ (s.rd R.UPD_STAT_NBLOCKS ≤ b ∨
      l.length ≠ blockLen m b)))
      0 1 1 5 [1] { version := 258, secFloor := 0, imageLen := 65539, nblocks := 2, built := 0, sections := [1, 2, 3, 4, 5].map (fun k => { kind := k, offset := 65536 * (k - 4), length := 3, crc := 0, digest := 0xba7816bf8f01cfea414140de5dae2223b00361a396177a9cb410ff61f20015ad }) } ({ wS 3 5 [(R.UPD_SLOT_STATE 0, 2), (R.UPD_STAT_STATE, 1), (R.UPD_STAT_NBLOCKS, 2)] with upd := { man := some { version := 258, secFloor := 0, imageLen := 65539, nblocks := 2, built := 0, sections := [1, 2, 3, 4, 5].map (fun k => { kind := k, offset := 65536 * (k - 4), length := 3, crc := 0, digest := 0xba7816bf8f01cfea414140de5dae2223b00361a396177a9cb410ff61f20015ad }) } } }) &&
    (fun (_t : Nat) (n : Nat) (s : State) => decide (n ≠ 0 ∧ s.updRefusal n [Cls.MONITOR, Cls.OPERATOR,
      Cls.MACHINE, Cls.SERVICE, Cls.FLEET] = none))
      0 1 ({ wS 0 5 [(R.UPD_SLOT_STATE 0, 2), (R.UPD_STAT_STATE, 1), (R.UPD_STAT_NBLOCKS, 2)] with upd := { man := some { version := 258, secFloor := 0, imageLen := 65539, nblocks := 2, built := 0, sections := [1, 2, 3, 4, 5].map (fun k => { kind := k, offset := 65536 * (k - 4), length := 3, crc := 0, digest := 0xba7816bf8f01cfea414140de5dae2223b00361a396177a9cb410ff61f20015ad }) }, got := [(1, [97, 98, 99])] } }) &&
    (fun (_t : Nat) (n : Nat) (s : State) => decide (n ≠ 0 ∧ s.updRefusal n [Cls.SERVICE, Cls.FLEET] = none ∧
      s.rd R.UPD_STAT_STATE ≠ 5 ∧ s.upd.man.isSome = true))
      0 1 ({ wS 3 5 [(R.UPD_SLOT_STATE 0, 2), (R.UPD_STAT_STATE, 1), (R.UPD_STAT_NBLOCKS, 2)] with upd := { man := some { version := 258, secFloor := 0, imageLen := 65539, nblocks := 2, built := 0, sections := [1, 2, 3, 4, 5].map (fun k => { kind := k, offset := 65536 * (k - 4), length := 3, crc := 0, digest := 0xba7816bf8f01cfea414140de5dae2223b00361a396177a9cb410ff61f20015ad }) }, got := [(1, [97, 98, 99])] } }) &&
    (fun (_t : Nat) (n : Nat) (s : State) => decide (n ≠ 0 ∧ s.updRefusal n [Cls.SERVICE, Cls.FLEET] = none ∧
      s.rd R.UPD_STAT_STATE = 5 ∧ Room s))
      0 1 ({ wS 3 5 [(R.UPD_SLOT_STATE 0, 2), (R.UPD_STAT_STATE, 5)] with upd := { man := some { version := 258, secFloor := 0, imageLen := 65539, nblocks := 2, built := 0, sections := [1, 2, 3, 4, 5].map (fun k => { kind := k, offset := 65536 * (k - 4), length := 3, crc := 0, digest := 0xba7816bf8f01cfea414140de5dae2223b00361a396177a9cb410ff61f20015ad }) } } })) = true := by decide +kernel

theorem test_meets_UpdateComplete_2 : (
    (fun (_t : Nat) (m : ManifestIn) (s : State) => decide (s.upd.man = some m ∧ s.rd R.UPD_STAT_STATE = 2 ∧
      m.sections.all (fun x => sha256 (s.sectionBytes x) = x.digest) = true ∧ Room s))
      9 { version := 258, secFloor := 0, imageLen := 65539, nblocks := 2, built := 0, sections := [1, 2, 3, 4, 5].map (fun k => { kind := k, offset := 65536 * (k - 4), length := 3, crc := 0, digest := 0xba7816bf8f01cfea414140de5dae2223b00361a396177a9cb410ff61f20015ad }) } ({ wS 3 5 [(R.UPD_SLOT_STATE 0, 2), (R.UPD_STAT_STATE, 2), (R.UPD_STAT_NBLOCKS, 2)] with upd := { man := some { version := 258, secFloor := 0, imageLen := 65539, nblocks := 2, built := 0, sections := [1, 2, 3, 4, 5].map (fun k => { kind := k, offset := 65536 * (k - 4), length := 3, crc := 0, digest := 0xba7816bf8f01cfea414140de5dae2223b00361a396177a9cb410ff61f20015ad }) }, got := [(0, [97, 98, 99]), (1, [97, 98, 99])] } }) &&
    (fun (_t : Nat) (m : ManifestIn) (x : SectionIn) (s : State) => decide (s.upd.man = some m ∧ s.rd
      R.UPD_STAT_STATE = 2 ∧ m.sections.filter (fun x => sha256 (s.sectionBytes x) ≠ x.digest) = [x] ∧ Room s))
      9 { version := 258, secFloor := 0, imageLen := 65539, nblocks := 2, built := 0, sections := [1, 2, 3, 4, 5].map (fun k => { kind := k, offset := 65536 * (k - 4), length := 3, crc := 0, digest := 0xba7816bf8f01cfea414140de5dae2223b00361a396177a9cb410ff61f20015ad }) } { kind := 5, offset := 65536, length := 3, crc := 0, digest := 0xba7816bf8f01cfea414140de5dae2223b00361a396177a9cb410ff61f20015ad } ({ wS 3 5 [(R.UPD_SLOT_STATE 0, 2), (R.UPD_STAT_STATE, 2), (R.UPD_STAT_NBLOCKS, 2)] with upd := { man := some { version := 258, secFloor := 0, imageLen := 65539, nblocks := 2, built := 0, sections := [1, 2, 3, 4, 5].map (fun k => { kind := k, offset := 65536 * (k - 4), length := 3, crc := 0, digest := 0xba7816bf8f01cfea414140de5dae2223b00361a396177a9cb410ff61f20015ad }) }, got := [(0, [97, 98, 99]), (1, [97])] } }) &&
    (fun (_t : Nat) (s : State) => decide ((s.upd.man = none ∨ s.rd R.UPD_STAT_STATE ≠ 2)))
      9 ({ wS 3 5 [(R.UPD_SLOT_STATE 0, 2), (R.UPD_STAT_STATE, 1)] with upd := { man := some { version := 258, secFloor := 0, imageLen := 65539, nblocks := 2, built := 0, sections := [1, 2, 3, 4, 5].map (fun k => { kind := k, offset := 65536 * (k - 4), length := 3, crc := 0, digest := 0xba7816bf8f01cfea414140de5dae2223b00361a396177a9cb410ff61f20015ad }) } } }) &&
    (fun (t : Nat) (s : State) => decide (((s.rd R.UPD_STAT_STATE = 1 ∧ s.upd.lastAt + 1800000000000 ≤ max s.now
      t) ∨ (s.rd R.UPD_STAT_STATE = 3 ∧ s.upd.readyAt + 1800000000000 ≤ max s.now t))))
      1800000000000 ({ wS 3 5 [(R.UPD_SLOT_STATE 0, 2), (R.UPD_STAT_STATE, 1)] with upd := { man := some { version := 258, secFloor := 0, imageLen := 65539, nblocks := 2, built := 0, sections := [1, 2, 3, 4, 5].map (fun k => { kind := k, offset := 65536 * (k - 4), length := 3, crc := 0, digest := 0xba7816bf8f01cfea414140de5dae2223b00361a396177a9cb410ff61f20015ad }) } } }) &&
    (fun (t : Nat) (s : State) => decide (((s.rd R.UPD_STAT_STATE = 1 ∧ s.upd.lastAt + 1800000000000 ≤ max s.now
      t) ∨ (s.rd R.UPD_STAT_STATE = 3 ∧ s.upd.readyAt + 1800000000000 ≤ max s.now t))))
      1800000000000 ({ wS 3 5 [(R.UPD_SLOT_STATE 0, 2), (R.UPD_STAT_STATE, 3)] with upd := { man := some { version := 258, secFloor := 0, imageLen := 65539, nblocks := 2, built := 0, sections := [1, 2, 3, 4, 5].map (fun k => { kind := k, offset := 65536 * (k - 4), length := 3, crc := 0, digest := 0xba7816bf8f01cfea414140de5dae2223b00361a396177a9cb410ff61f20015ad }) } } }) &&
    (fun (t : Nat) (s : State) => decide (s.rd R.UPD_STAT_STATE = 1 ∧ max s.now t < s.upd.lastAt +
      1800000000000))
      1799999999999 ({ wS 3 5 [(R.UPD_SLOT_STATE 0, 2), (R.UPD_STAT_STATE, 1)] with upd := { man := some { version := 258, secFloor := 0, imageLen := 65539, nblocks := 2, built := 0, sections := [1, 2, 3, 4, 5].map (fun k => { kind := k, offset := 65536 * (k - 4), length := 3, crc := 0, digest := 0xba7816bf8f01cfea414140de5dae2223b00361a396177a9cb410ff61f20015ad }) } } }) &&
    (fun (_t : Nat) (n : Nat) (m : ManifestIn) (s : State) => decide (n ≠ 0 ∧ s.updRefusal n [Cls.SERVICE,
      Cls.FLEET] = none ∧ s.activateFault = 0 ∧ s.upd.man = some m ∧ Room s))
      0 1 { version := 258, secFloor := 0, imageLen := 65539, nblocks := 2, built := 0, sections := [1, 2, 3, 4, 5].map (fun k => { kind := k, offset := 65536 * (k - 4), length := 3, crc := 0, digest := 0xba7816bf8f01cfea414140de5dae2223b00361a396177a9cb410ff61f20015ad }) } ({ wS 4 5 [(R.UPD_SLOT_STATE 0, 2), (R.UPD_STAT_STATE, 3)] with upd := { man := some { version := 258, secFloor := 0, imageLen := 65539, nblocks := 2, built := 0, sections := [1, 2, 3, 4, 5].map (fun k => { kind := k, offset := 65536 * (k - 4), length := 3, crc := 0, digest := 0xba7816bf8f01cfea414140de5dae2223b00361a396177a9cb410ff61f20015ad }) } } }) &&
    (fun (_t : Nat) (n : Nat) (m : ManifestIn) (s : State) => decide (n ≠ 0 ∧ s.updRefusal n [Cls.SERVICE] =
      none ∧ s.activateFault = 0 ∧ s.upd.man = some m ∧ Room s))
      0 1 { version := 258, secFloor := 0, imageLen := 65539, nblocks := 2, built := 0, sections := [1, 2, 3, 4, 5].map (fun k => { kind := k, offset := 65536 * (k - 4), length := 3, crc := 0, digest := 0xba7816bf8f01cfea414140de5dae2223b00361a396177a9cb410ff61f20015ad }) } ({ wS 3 5 [(R.UPD_SLOT_STATE 0, 2), (R.UPD_STAT_STATE, 3)] with upd := { man := some { version := 258, secFloor := 0, imageLen := 65539, nblocks := 2, built := 0, sections := [1, 2, 3, 4, 5].map (fun k => { kind := k, offset := 65536 * (k - 4), length := 3, crc := 0, digest := 0xba7816bf8f01cfea414140de5dae2223b00361a396177a9cb410ff61f20015ad }) } } }) &&
    (fun (_t : Nat) (n : Nat) (w : Bool) (s : State) => decide (n ≠ 0 ∧ s.updRefusal n (if w = true then
      [Cls.SERVICE, Cls.FLEET] else [Cls.SERVICE]) = none ∧ s.activateFault ≠ 0 ∧ Room s))
      0 1 true ({ wS 3 5 [(R.UPD_SLOT_STATE 0, 2), (R.UPD_STAT_STATE, 2)] with upd := { man := some { version := 258, secFloor := 0, imageLen := 65539, nblocks := 2, built := 0, sections := [1, 2, 3, 4, 5].map (fun k => { kind := k, offset := 65536 * (k - 4), length := 3, crc := 0, digest := 0xba7816bf8f01cfea414140de5dae2223b00361a396177a9cb410ff61f20015ad }) } } }) &&
    (fun (_t : Nat) (n : Nat) (s : State) => decide (n ≠ 0 ∧ s.updRefusal n [Cls.SERVICE] = some Res.CLASS ∧
      s.session? n ≠ none))
      0 1 ({ wS 4 5 [(R.UPD_SLOT_STATE 0, 2), (R.UPD_STAT_STATE, 3)] with upd := { man := some { version := 258, secFloor := 0, imageLen := 65539, nblocks := 2, built := 0, sections := [1, 2, 3, 4, 5].map (fun k => { kind := k, offset := 65536 * (k - 4), length := 3, crc := 0, digest := 0xba7816bf8f01cfea414140de5dae2223b00361a396177a9cb410ff61f20015ad }) } } })) = true := by decide +kernel

theorem test_meets_FleetComplete_1 : (
    (fun (t : Nat) (k : Nat) (cell : Bool) (wlan : Bool) (v : Bool) (s : State) => decide ((k = 0 ∨ k = 1) ∧
      s.isWorker = false ∧ s.rd R.FL_CFG_EN = 1 ∧ s.rd (if k = 0 then R.FL_STAT_SESS else R.FL_STAT_MQTT) = 0 ∧
      ((look s.fl.conn k).getD {}).tryAt ≤ max s.now t ∧ s.radioOn = true ∧ s.bearer cell wlan = some v))
      9 1 false true true ({ w [(R.MODE_STAT_MODE, 5), (R.ISL_STAT_RUN 9, 1), (R.PWR_STAT_PD, 512), (R.FL_CFG_EN, 1), (R.FL_CFG2_RETRY_MAX, 60), (R.FL_CFG_BEARER, 1)] with fl := {  } }) &&
    (fun (t : Nat) (k : Nat) (cell : Bool) (wlan : Bool) (v : Bool) (s : State) => decide ((k = 0 ∨ k = 1) ∧
      s.isWorker = false ∧ s.rd R.FL_CFG_EN = 1 ∧ s.rd (if k = 0 then R.FL_STAT_SESS else R.FL_STAT_MQTT) = 0 ∧
      ((look s.fl.conn k).getD {}).tryAt ≤ max s.now t ∧ s.radioOn = true ∧ s.bearer cell wlan = some v))
      9 0 true true false ({ w [(R.MODE_STAT_MODE, 5), (R.ISL_STAT_RUN 9, 1), (R.PWR_STAT_PD, 512), (R.FL_CFG_EN, 1), (R.FL_CFG2_RETRY_MAX, 60)] with fl := {  } }) &&
    (fun (t : Nat) (k : Nat) (cell : Bool) (wlan : Bool) (s : State) => decide ((k = 0 ∨ k = 1) ∧ s.isWorker =
      false ∧ s.rd R.FL_CFG_EN = 1 ∧ s.rd (if k = 0 then R.FL_STAT_SESS else R.FL_STAT_MQTT) = 0 ∧ ((look
      s.fl.conn k).getD {}).tryAt ≤ max s.now t ∧ (s.radioOn = false ∨ s.bearer cell wlan = none)))
      9 0 false true ({ w [(R.MODE_STAT_MODE, 5), (R.ISL_STAT_RUN 9, 1), (R.PWR_STAT_PD, 512), (R.FL_CFG_EN, 1), (R.FL_CFG2_RETRY_MAX, 60)] with fl := {  } }) &&
    (fun (_t : Nat) (k : Nat) (_cell : Bool) (_wlan : Bool) (s : State) => decide ((k = 0 ∨ k = 1) ∧ s.isWorker
      = false ∧ s.rd R.FL_CFG_EN = 1 ∧ s.rd (if k = 0 then R.FL_STAT_SESS else R.FL_STAT_MQTT) = 1))
      9 1 true false ({ w [(R.MODE_STAT_MODE, 5), (R.ISL_STAT_RUN 9, 1), (R.PWR_STAT_PD, 512), (R.FL_CFG_EN, 1), (R.FL_CFG2_RETRY_MAX, 60), (R.FL_STAT_MQTT, 1)] with fl := { conn := [(1, { wait := 40, tryAt := 9 })] } }) &&
    (fun (_t : Nat) (k : Nat) (_cell : Bool) (_wlan : Bool) (s : State) => decide ((k = 0 ∨ k = 1) ∧ s.isWorker
      = false ∧ s.rd R.FL_CFG_EN = 1 ∧ s.rd (if k = 0 then R.FL_STAT_SESS else R.FL_STAT_MQTT) = 1))
      9 0 true false ({ w [(R.MODE_STAT_MODE, 5), (R.ISL_STAT_RUN 9, 1), (R.PWR_STAT_PD, 512), (R.FL_CFG_EN, 1), (R.FL_CFG2_RETRY_MAX, 60), (R.FL_STAT_SESS, 1)] with fl := {  } }) &&
    (fun (_t : Nat) (k : Nat) (tls : TlsIn) (cell : Bool) (wlan : Bool) (s : State) => decide ((k = 0 ∨ k = 1) ∧
      s.isWorker = false ∧ s.rd R.FL_CFG_EN = 1 ∧ s.rd (if k = 0 then R.FL_STAT_SESS else R.FL_STAT_MQTT) = 1 ∧
      s.radioOn = true ∧ s.bearer cell wlan ≠ none ∧ s.tlsFault tls = 0 ∧ Room s))
      9 1 { anchor := some 7 } false true ({ w [(R.MODE_STAT_MODE, 5), (R.ISL_STAT_RUN 9, 1), (R.PWR_STAT_PD, 512), (R.FL_CFG_EN, 1), (R.FL_CFG2_RETRY_MAX, 60), (R.FL_CFG_BEARER, 1), (R.FL_STAT_QUEUED, 2), (R.FL_STAT_MQTT, 1)] with fl := { queue := [[1], [2]] } , ses := { cfg := { anchors := [7] } } }) &&
    (fun (_t : Nat) (k : Nat) (tls : TlsIn) (cell : Bool) (wlan : Bool) (s : State) => decide ((k = 0 ∨ k = 1) ∧
      s.isWorker = false ∧ s.rd R.FL_CFG_EN = 1 ∧ s.rd (if k = 0 then R.FL_STAT_SESS else R.FL_STAT_MQTT) = 1 ∧
      s.radioOn = true ∧ s.bearer cell wlan ≠ none ∧ s.tlsFault tls = 0 ∧ Room s))
      9 0 { anchor := some 7 } true false ({ w [(R.MODE_STAT_MODE, 5), (R.ISL_STAT_RUN 9, 1), (R.PWR_STAT_PD, 512), (R.FL_CFG_EN, 1), (R.FL_CFG2_RETRY_MAX, 60), (R.FL_STAT_SESS, 1)] with fl := { queue := [[1], [2]] } , ses := { cfg := { anchors := [7] } } }) &&
    (fun (_t : Nat) (k : Nat) (tls : TlsIn) (cell : Bool) (wlan : Bool) (s : State) => decide ((k = 0 ∨ k = 1) ∧
      s.isWorker = false ∧ s.rd R.FL_CFG_EN = 1 ∧ s.rd (if k = 0 then R.FL_STAT_SESS else R.FL_STAT_MQTT) = 1 ∧
      s.radioOn = true ∧ s.bearer cell wlan ≠ none ∧ s.tlsFault tls ≠ 0 ∧ Room s))
      9 0 {} true false ({ w [(R.MODE_STAT_MODE, 5), (R.ISL_STAT_RUN 9, 1), (R.PWR_STAT_PD, 512), (R.FL_CFG_EN, 1), (R.FL_CFG2_RETRY_MAX, 60), (R.FL_STAT_SESS, 1)] with fl := {  } }) &&
    (fun (t : Nat) (k : Nat) (g : FleetStep) (_cell : Bool) (_wlan : Bool) (s : State) => decide ((k = 0 ∨ k =
      1) ∧ (s.isWorker = true ∨ s.rd R.FL_CFG_EN ≠ 1 ∨ (g = .opens ∧ (s.rd (if k = 0 then R.FL_STAT_SESS else
      R.FL_STAT_MQTT) ≠ 0 ∨ max s.now t < ((look s.fl.conn k).getD {}).tryAt)) ∨ (g ≠ .opens ∧ s.rd (if k = 0 then
      R.FL_STAT_SESS else R.FL_STAT_MQTT) ≠ 1))))
      9 1 (.up {}) true true ({ w [(R.MODE_STAT_MODE, 5), (R.ISL_STAT_RUN 9, 1), (R.PWR_STAT_PD, 512), (R.FL_CFG_EN, 1), (R.FL_CFG2_RETRY_MAX, 60), (R.FL_STAT_MQTT, 2)] with fl := {  } }) &&
    (fun (t : Nat) (k : Nat) (g : FleetStep) (_cell : Bool) (_wlan : Bool) (s : State) => decide ((k = 0 ∨ k =
      1) ∧ (s.isWorker = true ∨ s.rd R.FL_CFG_EN ≠ 1 ∨ (g = .opens ∧ (s.rd (if k = 0 then R.FL_STAT_SESS else
      R.FL_STAT_MQTT) ≠ 0 ∨ max s.now t < ((look s.fl.conn k).getD {}).tryAt)) ∨ (g ≠ .opens ∧ s.rd (if k = 0 then
      R.FL_STAT_SESS else R.FL_STAT_MQTT) ≠ 1))))
      8 0 .opens true true ({ w [(R.MODE_STAT_MODE, 5), (R.ISL_STAT_RUN 9, 1), (R.PWR_STAT_PD, 512), (R.FL_CFG_EN, 1), (R.FL_CFG2_RETRY_MAX, 60)] with fl := { conn := [(0, { tryAt := 9 })] } }) &&
    (fun (t : Nat) (k : Nat) (s : State) => decide ((k = 0 ∨ k = 1) ∧ s.rd (if k = 0 then R.FL_STAT_SESS else
      R.FL_STAT_MQTT) = 2 ∧ ((look s.fl.conn k).getD {}).upAt + 60000000000 ≤ max s.now t ∧ Room s))
      60000000000 1 ({ w [(R.MODE_STAT_MODE, 5), (R.ISL_STAT_RUN 9, 1), (R.PWR_STAT_PD, 512), (R.FL_CFG_EN, 1), (R.FL_CFG2_RETRY_MAX, 60), (R.FL_STAT_MQTT, 2)] with fl := { conn := [(1, { wait := 40 })] } }) &&
    (fun (t : Nat) (k : Nat) (s : State) => decide ((k = 0 ∨ k = 1) ∧ s.rd (if k = 0 then R.FL_STAT_SESS else
      R.FL_STAT_MQTT) = 2 ∧ ((look s.fl.conn k).getD {}).upAt + 60000000000 ≤ max s.now t ∧ Room s))
      60000000000 0 ({ w [(R.MODE_STAT_MODE, 5), (R.ISL_STAT_RUN 9, 1), (R.PWR_STAT_PD, 512), (R.FL_CFG_EN, 1), (R.FL_CFG2_RETRY_MAX, 60), (R.FL_STAT_SESS, 2)] with fl := { conn := [(0, { wait := 40 })] } })) = true := by decide +kernel

theorem test_meets_FleetComplete_2 : (
    (fun (t : Nat) (k : Nat) (s : State) => decide ((k = 0 ∨ k = 1) ∧ s.rd (if k = 0 then R.FL_STAT_SESS else
      R.FL_STAT_MQTT) = 2 ∧ max s.now t < ((look s.fl.conn k).getD {}).upAt + 60000000000 ∧ Room s))
      59999999999 1 ({ w [(R.MODE_STAT_MODE, 5), (R.ISL_STAT_RUN 9, 1), (R.PWR_STAT_PD, 512), (R.FL_CFG_EN, 1), (R.FL_CFG2_RETRY_MAX, 60), (R.FL_STAT_MQTT, 2)] with fl := { conn := [(1, { wait := 40 })] } }) &&
    (fun (t : Nat) (k : Int) (s : State) => decide (s.isWorker = false ∧ s.rd R.FL_CFG_EN = 1 ∧ (s.begin
      t).periodDue (s.rd R.FL_CFG_TELE_S * 1000000000) s.fl.teleAt = some k ∧ s.rd R.FL_STAT_MQTT = 2))
      2000000000 1 ({ w [(R.MODE_STAT_MODE, 5), (R.ISL_STAT_RUN 9, 1), (R.PWR_STAT_PD, 512), (R.FL_CFG_EN, 1), (R.FL_CFG2_RETRY_MAX, 60), (R.FL_CFG_TELE_S, 2), (R.FL_STAT_MQTT, 2)] with fl := {  } }) &&
    (fun (t : Nat) (k : Int) (s : State) => decide (s.isWorker = false ∧ s.rd R.FL_CFG_EN = 1 ∧ (s.begin
      t).periodDue (s.rd R.FL_CFG_TELE_S * 1000000000) s.fl.teleAt = some k ∧ s.rd R.FL_STAT_MQTT ≠ 2 ∧
      s.fl.queue.length < 4096))
      2000000000 1 ({ w [(R.MODE_STAT_MODE, 5), (R.ISL_STAT_RUN 9, 1), (R.PWR_STAT_PD, 512), (R.FL_CFG_EN, 1), (R.FL_CFG2_RETRY_MAX, 60), (R.FL_CFG_TELE_S, 2)] with fl := {  } }) &&
    (fun (t : Nat) (k : Int) (s : State) => decide (s.isWorker = false ∧ s.rd R.FL_CFG_EN = 1 ∧ (s.begin
      t).periodDue (s.rd R.FL_CFG_TELE_S * 1000000000) s.fl.teleAt = some k ∧ s.rd R.FL_STAT_MQTT ≠ 2 ∧
      s.fl.queue.length = 4096 ∧ Room s))
      2000000000 1 ({ w [(R.MODE_STAT_MODE, 5), (R.ISL_STAT_RUN 9, 1), (R.PWR_STAT_PD, 512), (R.FL_CFG_EN, 1), (R.FL_CFG2_RETRY_MAX, 60), (R.FL_CFG_TELE_S, 2)] with fl := { queue := List.replicate 4096 [1] } }) &&
    (fun (t : Nat) (s : State) => decide ((s.begin t).periodDue (s.rd R.FL_CFG_TELE_S * 1000000000) s.fl.teleAt
      = none))
      2100000000 ({ w [(R.MODE_STAT_MODE, 5), (R.ISL_STAT_RUN 9, 1), (R.PWR_STAT_PD, 512), (R.FL_CFG_EN, 1), (R.FL_CFG2_RETRY_MAX, 60), (R.FL_CFG_TELE_S, 2)] with fl := {  } }) &&
    (fun (t : Nat) (q : Nat) (k : Int) (s : State) => decide (s.rd R.FL_CFG2_CART_EN = 1 ∧ (s.mode =
      Mode.FIELD_IDLE ∨ s.mode = Mode.HARVEST) ∧ s.radioOn = true ∧ (s.begin t).periodDue 100000000 s.fl.cartAt =
      some k ∧ q = (s.rd R.FL_STAT_CARTSEQ + 1) % 65536))
      300000000 0 3 ({ w [(R.MODE_STAT_MODE, 5), (R.ISL_STAT_RUN 9, 1), (R.PWR_STAT_PD, 512), (R.FL_CFG_EN, 1), (R.FL_CFG2_RETRY_MAX, 60), (R.FL_CFG2_CART_EN, 1), (R.FL_STAT_CARTSEQ, 65535)] with fl := {  } }) &&
    (fun (t : Nat) (q : Nat) (k : Int) (s : State) => decide (s.rd R.FL_CFG2_CART_EN = 1 ∧ (s.mode =
      Mode.FIELD_IDLE ∨ s.mode = Mode.HARVEST) ∧ s.radioOn = true ∧ (s.begin t).periodDue 100000000 s.fl.cartAt =
      some k ∧ q = (s.rd R.FL_STAT_CARTSEQ + 1) % 65536))
      300000000 8 3 ({ w [(R.MODE_STAT_MODE, 5), (R.ISL_STAT_RUN 9, 1), (R.PWR_STAT_PD, 512), (R.FL_CFG_EN, 1), (R.FL_CFG2_RETRY_MAX, 60), (R.FL_CFG2_CART_EN, 1), (R.FL_STAT_CARTSEQ, 7)] with fl := {  } }) &&
    (fun (t : Nat) (s : State) => decide ((s.rd R.FL_CFG2_CART_EN ≠ 1 ∨ (s.mode ≠ Mode.FIELD_IDLE ∧ s.mode ≠
      Mode.HARVEST) ∨ s.radioOn = false ∨ (s.begin t).periodDue 100000000 s.fl.cartAt = none)))
      9 ({ w [(R.MODE_STAT_MODE, 5), (R.ISL_STAT_RUN 9, 1), (R.PWR_STAT_PD, 512), (R.FL_CFG_EN, 1), (R.FL_CFG2_RETRY_MAX, 60)] with fl := {  } }) &&
    (fun (t : Nat) (s : State) => decide ((s.rd R.FL_CFG2_CART_EN ≠ 1 ∨ (s.mode ≠ Mode.FIELD_IDLE ∧ s.mode ≠
      Mode.HARVEST) ∨ s.radioOn = false ∨ (s.begin t).periodDue 100000000 s.fl.cartAt = none)))
      9 ({ w [(R.MODE_STAT_MODE, 5), (R.ISL_STAT_RUN 9, 1), (R.PWR_STAT_PD, 512), (R.FL_CFG_EN, 1), (R.FL_CFG2_RETRY_MAX, 60), (R.FL_CFG2_CART_EN, 1)] with fl := { cartAt := some 0 } })) = true := by decide +kernel

theorem test_meets_InputsAndCameraPowerComplete_1 : (
    (fun (t : Nat) (k : Nat) (x : ReadingIn) (s : State) => decide (1 ≤ k ∧ k ≤ 24 ∧ onGrid (s.begin t).harvest
      1000000 = true ∧ s.uiLaunched k = false ∧ (s.rd (R.UI_CFG_MODE k) = 1 ∨ s.rd (R.UI_CFG_MODE k) = 3) ∧ (s.uiS
      k).heldAt.all (fun (h : Nat) => decide (h + 20000 ≤ max s.now t)) = true ∧ s.uiCause k (s.uiLevel k x) = 0))
      1000000 3 { micro := 5000000 } ({ w [(R.UI_CFG_MODE 3, 1), (R.UI_LIM_HI 3, 0x41F00000), (R.UI_SCALE_GAIN 3, 0x40000000), (R.UI_CFG_PLAUS_N 3, 3), (R.UI_STAT_FAULT 3, 1)] with ui := [(3, { good := 2 })] }) &&
    (fun (t : Nat) (k : Nat) (x : ReadingIn) (s : State) => decide (1 ≤ k ∧ k ≤ 24 ∧ onGrid (s.begin t).harvest
      1000000 = true ∧ s.uiLaunched k = false ∧ (s.rd (R.UI_CFG_MODE k) = 1 ∨ s.rd (R.UI_CFG_MODE k) = 3) ∧ (s.uiS
      k).heldAt.all (fun (h : Nat) => decide (h + 20000 ≤ max s.now t)) = true ∧ s.uiCause k (s.uiLevel k x) = 0))
      1000000 3 { micro := 5000000 } ({ w [(R.UI_CFG_MODE 3, 1), (R.UI_LIM_HI 3, 0x41F00000), (R.UI_SCALE_GAIN 3, 0x40000000), (R.UI_CFG_PLAUS_N 3, 3), (R.UI_STAT_FAULT 3, 1)] with ui := [(3, { good := 1 })] }) &&
    (fun (t : Nat) (k : Nat) (x : ReadingIn) (s : State) => decide (1 ≤ k ∧ k ≤ 24 ∧ onGrid (s.begin t).harvest
      1000000 = true ∧ s.uiLaunched k = false ∧ (s.rd (R.UI_CFG_MODE k) = 1 ∨ s.rd (R.UI_CFG_MODE k) = 3) ∧ (s.uiS
      k).heldAt.all (fun (h : Nat) => decide (h + 20000 ≤ max s.now t)) = true ∧ s.uiCause k (s.uiLevel k x) ≠ 0))
      1000000 3 { micro := 33000001 } ({ w [(R.UI_CFG_MODE 3, 1), (R.UI_LIM_HI 3, 0x42480000), (R.UI_CFG_PLAUS_N 3, 3)] with ui := [(3, { bad := 2 })] }) &&
    (fun (t : Nat) (k : Nat) (x : ReadingIn) (s : State) => decide (1 ≤ k ∧ k ≤ 24 ∧ onGrid (s.begin t).harvest
      1000000 = true ∧ s.uiLaunched k = false ∧ (s.rd (R.UI_CFG_MODE k) = 1 ∨ s.rd (R.UI_CFG_MODE k) = 3) ∧ (s.uiS
      k).heldAt.all (fun (h : Nat) => decide (h + 20000 ≤ max s.now t)) = true ∧ s.uiCause k (s.uiLevel k x) ≠ 0))
      1000000 3 { micro := 33000001 } ({ w [(R.UI_CFG_MODE 3, 1), (R.UI_LIM_HI 3, 0x42480000), (R.UI_CFG_PLAUS_N 3, 3)] with ui := [(3, { bad := 1 })] }) &&
    (fun (t : Nat) (k : Nat) (x : ReadingIn) (s : State) => decide (1 ≤ k ∧ k ≤ 24 ∧ onGrid (s.begin t).harvest
      1000000 = true ∧ s.uiLaunched k = false ∧ s.rd (R.UI_CFG_MODE k) = 2 ∧ (s.uiS k).heldAt.all (fun (h : Nat)
      => decide (h + 20000 ≤ max s.now t)) = true ∧ 30 < s.uiLevel k x ∧ (s.uiS k).openTill = none))
      1000000 3 { micro := 30000001 } ({ w [(R.UI_CFG_MODE 3, 2)] with ui := [(3, {})] }) &&
    (fun (t : Nat) (k : Nat) (a : Nat) (b : Nat) (e : Nat) (x : ReadingIn) (s : State) => decide (1 ≤ k ∧ k ≤ 24
      ∧ onGrid (s.begin t).harvest 1000000 = true ∧ s.uiLaunched k = false ∧ s.rd (R.UI_CFG_MODE k) = 4 ∧ (s.uiS
      k).heldAt.all (fun (h : Nat) => decide (h + 20000 ≤ max s.now t)) = true ∧ (((s.begin t).uiTrack k x).uiS
      k).rises = [b, a] ∧ (((s.begin t).uiTrack k x).uiS k).edge = some e ∧ max s.now t < e + s.rd
      (R.UI_CFG_FREQ_TO k) * 1000000 ∧ s.uiCause k (mkRat 1000000000 (b - a)) = 0))
      9000000 3 4000000 8000000 8500000 {} ({ w [(R.UI_CFG_MODE 3, 4), (R.UI_CFG_FREQ_TO 3, 100), (R.UI_CFG_THRESH 3, 100), (R.UI_CFG_HYS 3, 20), (R.UI_LIM_HI 3, 0x447A0000), (R.UI_SCALE_GAIN 3, 0x40000000)] with ui := [(3, { rises := [8000000, 4000000], edge := some 8500000 })] }) &&
    (fun (t : Nat) (k : Nat) (x : ReadingIn) (s : State) => decide (1 ≤ k ∧ k ≤ 24 ∧ onGrid (s.begin t).harvest
      1000000 = true ∧ s.uiLaunched k = false ∧ s.rd (R.UI_CFG_MODE k) = 4 ∧ (s.uiS k).heldAt.all (fun (h : Nat)
      => decide (h + 20000 ≤ max s.now t)) = true ∧ (((s.begin t).uiTrack k x).uiS k).edge.all (fun (e : Nat) =>
      decide (e + s.rd (R.UI_CFG_FREQ_TO k) * 1000000 ≤ max s.now t)) = true ∧ (((s.begin t).uiTrack k x).uiS
      k).edge.isSome = true ∧ s.uiCause k 0 = 0))
      9000000 3 {} ({ w [(R.UI_CFG_MODE 3, 4), (R.UI_CFG_FREQ_TO 3, 1), (R.UI_CFG_THRESH 3, 100), (R.UI_CFG_HYS 3, 20)] with ui := [(3, { rises := [7000000, 4000000], edge := some 8000000 })] }) &&
    (fun (t : Nat) (k : Nat) (x : ReadingIn) (s : State) => decide (1 ≤ k ∧ k ≤ 24 ∧ onGrid (s.begin t).harvest
      1000000 = true ∧ s.uiLaunched k = false ∧ s.rd (R.UI_CFG_MODE k) = 5 ∧ x.wave = [] ∧ (s.uiS k).heldAt.all
      (fun (h : Nat) => decide (h + 20000 ≤ max s.now t)) = true))
      1000000 3 { micro := 3999999 } ({ w [(R.UI_CFG_MODE 3, 5), (R.UI_CFG_THRESH 3, 100), (R.UI_CFG_HYS 3, 20)] with ui := [(3, { high := true })] }) &&
    (fun (t : Nat) (k : Nat) (x : ReadingIn) (s : State) => decide (1 ≤ k ∧ k ≤ 24 ∧ onGrid (s.begin t).harvest
      1000000 = true ∧ s.uiLaunched k = false ∧ s.rd (R.UI_CFG_MODE k) = 5 ∧ x.wave = [] ∧ (s.uiS k).heldAt.all
      (fun (h : Nat) => decide (h + 20000 ≤ max s.now t)) = true))
      1000000 3 { micro := 4000000 } ({ w [(R.UI_CFG_MODE 3, 5), (R.UI_CFG_THRESH 3, 100), (R.UI_CFG_HYS 3, 20)] with ui := [(3, { high := true })] }) &&
    (fun (t : Nat) (k : Nat) (x : ReadingIn) (s : State) => decide (1 ≤ k ∧ k ≤ 24 ∧ onGrid (s.begin t).harvest
      1000000 = true ∧ s.uiLaunched k = false ∧ s.rd (R.UI_CFG_MODE k) = 5 ∧ x.wave = [] ∧ (s.uiS k).heldAt.all
      (fun (h : Nat) => decide (h + 20000 ≤ max s.now t)) = true))
      1000000 3 { micro := 5000001 } ({ w [(R.UI_CFG_MODE 3, 5), (R.UI_CFG_THRESH 3, 100), (R.UI_CFG_HYS 3, 20)] with ui := [(3, { high := true })] }) &&
    (fun (t : Nat) (k : Nat) (h : Nat) (_x : ReadingIn) (s : State) => decide (1 ≤ k ∧ k ≤ 24 ∧ onGrid (s.begin
      t).harvest 1000000 = true ∧ s.uiLaunched k = false ∧ s.rd (R.UI_CFG_MODE k) ≠ 0 ∧ (s.uiS k).heldAt = some h
      ∧ h + 4 < max s.now t ∧ max s.now t < h + 20000))
      1000000 3 980001 {} ({ w [(R.UI_CFG_MODE 3, 1)] with ui := [(3, { heldAt := some 980001 })] }) &&
    (fun (t : Nat) (k : Nat) (_x : ReadingIn) (s : State) => decide ((s.uiLaunched k = true ∨ onGrid (s.begin
      t).harvest 1000000 = false ∨ s.rd (R.UI_CFG_MODE k) = 0)))
      1000000 3 {} (w [])) = true := by decide +kernel

theorem test_meets_InputsAndCameraPowerComplete_2 : (
    (fun (t : Nat) (k : Nat) (_x : ReadingIn) (s : State) => decide ((s.uiLaunched k = true ∨ onGrid (s.begin
      t).harvest 1000000 = false ∨ s.rd (R.UI_CFG_MODE k) = 0)))
      1000009 3 {} (w [(R.UI_CFG_MODE 3, 1)]) &&
    (fun (t : Nat) (k : Nat) (e : Nat) (s : State) => decide ((s.uiS k).openTill = some e ∧ e ≤ max s.now t))
      100000009 3 100000009 ({ w [] with ui := [(3, { openTill := some 100000009 })] }) &&
    (fun (t : Nat) (k : Nat) (e : Nat) (s : State) => decide ((s.uiS k).openTill = some e ∧ max s.now t < e))
      100000008 3 100000009 ({ w [] with ui := [(3, { openTill := some 100000009 })] }) &&
    (fun (_t : Nat) (l : List (Nat × Nat)) (s : State) => decide (cameras.all (fun c => !(600 < s.linkCurrent l
      c && decide (1000000 ≤ (l.getD (c - 1) (0, 0)).2))) = true ∧ sumNat (cameras.map (s.linkCurrent l)) ≤ 3200))
      0 [(600, 1000000), (900, 999999)] ({ w ([(R.MODE_STAT_MODE, 6), (R.ISL_STAT_RUN 4, 1)] ++ [(R.CAM_CFG_PURPOSE 1, 2), (R.CAM_CFG_POC 1, 1), (R.CAM_CFG_PURPOSE 2, 2), (R.CAM_CFG_POC 2, 1)]) with cams := { cam := [(1, { locked := true }), (2, { locked := true })] } }) &&
    (fun (_t : Nat) (c : Nat) (l : List (Nat × Nat)) (s : State) => decide (c ∈ cameras ∧ (600 < s.linkCurrent l
      c && decide (1000000 ≤ (l.getD (c - 1) (0, 0)).2)) = true ∧ cameras.all (fun d => d = c || !(600 <
      s.linkCurrent l d && decide (1000000 ≤ (l.getD (d - 1) (0, 0)).2))) = true ∧ sumNat (cameras.map
      (s.linkCurrent l)) ≤ 3200 + s.linkCurrent l c ∧ s.camUsed c = true ∧ (s.camS c).locked = true ∧ Room s))
      0 2 [(600, 1000000), (601, 1000000)] ({ w ([(R.MODE_STAT_MODE, 6), (R.ISL_STAT_RUN 4, 1)] ++ [(R.CAM_CFG_PURPOSE 1, 2), (R.CAM_CFG_POC 1, 1), (R.CAM_CFG_PURPOSE 2, 2), (R.CAM_CFG_POC 2, 1)]) with cams := { cam := [(1, { locked := true }), (2, { locked := true })] } }) &&
    (fun (_t : Nat) (c : Nat) (l : List (Nat × Nat)) (s : State) => decide (c ∈ cameras ∧ 0 < s.linkCurrent l c
      ∧ cameras.all (fun d => !(600 < s.linkCurrent l d && decide (1000000 ≤ (l.getD (d - 1) (0, 0)).2))) = true ∧
      cameras.all (fun d => decide (d ≤ c) || s.linkCurrent l d = 0) = true ∧ 3200 < sumNat (cameras.map
      (s.linkCurrent l)) ∧ sumNat (cameras.map (s.linkCurrent l)) ≤ 3200 + s.linkCurrent l c))
      0 6 [(600, 0), (600, 0), (600, 0), (600, 0), (600, 0), (600, 0)] ({ w ([(R.MODE_STAT_MODE, 6), (R.ISL_STAT_RUN 4, 1)] ++ [(R.CAM_CFG_PURPOSE 1, 2), (R.CAM_CFG_POC 1, 1), (R.CAM_CFG_PURPOSE 2, 2), (R.CAM_CFG_POC 2, 1), (R.CAM_CFG_PURPOSE 3, 2), (R.CAM_CFG_POC 3, 1), (R.CAM_CFG_PURPOSE 4, 2), (R.CAM_CFG_POC 4, 1), (R.CAM_CFG_PURPOSE 5, 2), (R.CAM_CFG_POC 5, 1), (R.CAM_CFG_PURPOSE 6, 2), (R.CAM_CFG_POC 6, 1)]) with cams := { cam := [(1, { locked := true }), (2, { locked := true }), (3, { locked := true }), (4, { locked := true }), (5, { locked := true }), (6, { locked := true })] } })) = true := by decide +kernel

end Checks
end

section
/-! SUPPORT. The object dictionary read by block, and the values the objects of a block hold after reset. -/

namespace Sys2Proof.Machine

/-! ### The object dictionary -/

/-- No object index belongs to two blocks of Table 13.12. -/
theorem blocks_disjoint :
    ∀ b ∈ blocks, ∀ c ∈ blocks, b.first ≤ c.last → c.first ≤ b.last → b = c := by decide +kernel

/-- A key's field is found in the block its object index belongs to. -/
theorem fieldOf_of_mem {b : Block} (hb : b ∈ blocks) {i sub : Nat} (hi : b.first ≤ i ∧ i ≤ b.last)
    (hs : 0 < sub ∧ sub < 256) : fieldOf (i * 256 + sub) = b.fields[sub - 1]? := by
  have hidx : (i * 256 + sub) / 256 = i := by omega
  have hsub : (i * 256 + sub) % 256 = sub := by omega
  have hfind : blocks.find? (fun b => b.first ≤ i && i ≤ b.last) = some b := by
    obtain ⟨c, hc⟩ := Option.isSome_iff_exists.mp
      (List.find?_isSome (p := fun b => b.first ≤ i && i ≤ b.last) |>.mpr ⟨b, hb, by simpa using hi⟩)
    have hci := List.find?_some hc
    simp only [Bool.and_eq_true, decide_eq_true_eq] at hci
    rw [hc, blocks_disjoint c (List.mem_of_find?_eq_some hc) b hb (by omega) (by omega)]
  unfold fieldOf
  simp only [hidx, hsub, hfind]
  rw [if_neg (by omega)]

/-! ### Reset values -/

/-- The objects of a block agree in a field's reset value: `instReset` names none of them, or not the field. -/
def Block.alike (b : Block) (sub : Nat) : Bool :=
  !([1, 2, 4, 5, 6, 7, 16] : List Nat).contains sub ||
  [(0x1020, 0x1029), (0x9E30, 0x9E34), (0x8001, 0x8018), (0x2100, 0x22FF), (0xA101, 0xA101), (0x9001, 0x9002)].all
    (fun r => b.last < r.1 || r.2 < b.first)

theorem instReset_of_alike {b : Block} {i sub : Nat} (h : b.alike sub = true) (hi : b.first ≤ i ∧ i ≤ b.last)
    (hs : sub < 256) : instReset (i * 256 + sub) = none := by
  have hidx : (i * 256 + sub) / 256 = i := by omega
  have hsub : (i * 256 + sub) % 256 = sub := by omega
  simp only [Block.alike, List.all_cons, List.all_nil, Bool.or_eq_true, Bool.and_eq_true, decide_eq_true_eq] at h
  unfold instReset
  simp only [hidx, hsub]
  rcases h with hsubs | hranges
  · simp only [List.contains_eq_mem, List.mem_cons, List.not_mem_nil, or_false, Bool.not_eq_true',
      decide_eq_false_iff_not, not_or] at hsubs
    obtain ⟨h1, h2, h4, h5, h6, h7, h16⟩ := hsubs
    simp only [h1, h2, h4, h5, h6, h7, h16, if_false, ite_self]
  · repeat rw [if_neg (by omega)]

/-- The field map of a block whose objects are alike gives the field with this sub-index the reset value `v`; RST.STAT
(0xB100), which names the reset itself, stands apart. -/
def Block.resetsTo (b : Block) (sub v : Nat) : Bool :=
  blocks.contains b && 0 < sub && sub < 256 && b.alike sub && b.last < 0xB100 &&
    (b.fields[sub - 1]?).map (fun d => d.reset) = some v

/-- After reset every object of a block holds what its field map says (R12). -/
theorem reset_rd_of_block {b : Block} {i sub v : Nat} (h : b.resetsTo sub v = true)
    (hi : b.first ≤ i ∧ i ≤ b.last) : State.reset.rd (i * 256 + sub) = v := by
  simp only [Block.resetsTo, Bool.and_eq_true, decide_eq_true_eq, List.contains_iff_mem, Option.map_eq_some_iff] at h
  obtain ⟨⟨⟨⟨⟨hb, hpos⟩, hs⟩, halike⟩, hlast⟩, d, hd, rfl⟩ := h
  have hreg : look State.reset.reg (i * 256 + sub) = none := by
    have hscope : R.RST_STAT_SCOPE = 0xB100 * 256 + 2 := rfl
    have hplane : R.RST_STAT_PLANE = 0xB100 * 256 + 3 := rfl
    simp only [State.reset, look]
    rw [if_neg (by omega), if_neg (by omega)]
  simp only [State.rd, hreg, Option.getD_none, resetOf, instReset_of_alike halike hi hs,
    (fieldOf_of_mem hb hi ⟨hpos, hs⟩).trans hd]

/-- Settles O24: the fields of the blocks of one object are evaluated, those of the blocks of many follow from their
field maps. -/
theorem resetColumnsHold : Obligations.ResetColumnsHold := by
  unfold Obligations.ResetColumnsHold
  refine ⟨rfl, rfl, rfl, rfl, rfl, rfl, rfl, rfl, rfl, rfl, rfl, rfl, rfl, rfl, rfl, rfl, rfl, rfl,
    fun n hn => ?_, fun n hn => ?_, fun n hn => ?_, fun n hn => ?_, fun n hn => ?_, fun n hn => ?_, fun n hn => ?_,
    fun n hn => ?_, fun n hn => ?_, fun n hn => ?_, rfl, rfl, rfl, rfl, rfl, rfl⟩
  all_goals simp only [List.mem_cons, List.not_mem_nil, List.mem_map, List.mem_range, or_false] at hn
  · exact reset_rd_of_block (b := block_isl) (sub := 6) (by decide +kernel) (by simp only [block_isl]; omega)
  · exact reset_rd_of_block (b := block_isl) (sub := 7) (by decide +kernel) (by simp only [block_isl]; omega)
  · exact reset_rd_of_block (b := block_fn) (sub := 18) (by decide +kernel) (by simp only [block_fn]; omega)
  · exact reset_rd_of_block (b := block_fn) (sub := 20) (by decide +kernel) (by simp only [block_fn]; omega)
  · exact reset_rd_of_block (b := block_ceLoop) (sub := 133) (by decide +kernel) (by simp only [block_ceLoop]; omega)
  · exact reset_rd_of_block (b := block_vdCh) (sub := 21) (by decide +kernel) (by simp only [block_vdCh]; omega)
  · exact reset_rd_of_block (b := block_ls) (sub := 10) (by decide +kernel) (by simp only [block_ls]; omega)
  · exact reset_rd_of_block (b := block_canCh) (sub := 14) (by decide +kernel) (by simp only [block_canCh]; omega)
  · exact reset_rd_of_block (b := block_tk) (sub := 4) (by decide +kernel) (by simp only [block_tk]; omega)
  · exact reset_rd_of_block (b := block_fnp) (sub := 8) (by decide +kernel) (by simp only [block_fnp]; omega)

end Sys2Proof.Machine
end

section
/-! SUPPORT. A message of an open session: what reaches its service, what that leaves as it was, and what the response
leaves (13 R444 to R464). -/

namespace Sys2Proof.Machine

/-! ### Open sessions -/

/-- The numbers of the open sessions. -/
def State.sessionNums (s : State) : List Nat := s.ses.open_.map (fun p => p.2.num)

theorem mem_sessionNums (s : State) (n : Nat) :
    n ∈ s.sessionNums ↔ s.ses.open_.any (fun p => p.2.num = n) = true := by
  simp only [State.sessionNums, List.mem_map, List.any_eq_true, decide_eq_true_eq]

theorem sessionNums_of_frame {l : List Part} {s t : State} (h : Frame l s t) (hl : Part.ses ∉ l) :
    t.sessionNums = s.sessionNums := by
  have hses : t.ses = s.ses := h .ses hl
  simp only [State.sessionNums, hses]

/-- Changing sessions' records, but not their numbers, opens and closes no session. -/
theorem map_sessions_num (l : List (Nat × SessionS)) {f : SessionS → SessionS} (hf : ∀ x, (f x).num = x.num) :
    (l.map (fun p => (p.1, f p.2))).map (fun p => p.2.num) = l.map (fun p => p.2.num) := by
  simp only [List.map_map, Function.comp_def, hf]

theorem setSession_sessionNums (s : State) (n : Nat) {f : SessionS → SessionS} (hf : ∀ x, (f x).num = x.num) :
    (s.setSession n f).sessionNums = s.sessionNums := by
  refine map_sessions_num s.ses.open_ (f := fun x => if x.num = n then f x else x) fun x => ?_
  split
  · exact hf x
  · rfl

theorem release_sessionNums (s : State) (e : Event) (late : Bool) :
    (s.release e late).sessionNums = s.sessionNums := by
  unfold State.release
  dsimp only
  rw [sessionNums_of_frame (State.noteFault_follows _ _).frame (by decide),
    sessionNums_of_frame (State.bbEvent_follows _ _).frame (by decide)]
  refine (map_sessions_num _ (f := fun x => if x.events then { x with outq := pushEvent x.num x.outq _ } else x)
    fun x => ?_).trans ?_
  · split <;> rfl
  · split
    · rfl
    · rfl

theorem hold_sessionNums (s : State) (e : Event) : (s.hold e).sessionNums = s.sessionNums := by
  unfold State.hold
  extract_lets +onlyGivenNames _ x
  have hx : x.sessionNums = s.sessionNums := by
    unfold x
    split
    · rfl
    · split
      · exact release_sessionNums _ _ _
      · rfl
  clear_value x
  split
  · exact (sessionNums_of_frame (State.raise_follows _ _ _).frame (by decide)).trans hx
  · exact (sessionNums_of_frame (State.bump_follows _ _ _).frame (by decide)).trans hx

theorem log_sessionNums (s : State) (code : Nat) (payload : List Int) (island : Nat) (esc fault : Bool)
    (input : Option Int) : (s.log code payload island esc fault input).sessionNums = s.sessionNums := by
  have harrive : ∀ (x : State) (e : Event), (x.arrive e).sessionNums = x.sessionNums := by
    intro x e
    unfold State.arrive
    dsimp only
    split
    · exact release_sessionNums _ _ _
    · exact hold_sessionNums _ _
  unfold State.log State.ownEvent
  dsimp only
  rw [harrive]
  split <;> rfl

theorem session?_setSession (s : State) (n : Nat) {f : SessionS → SessionS} (hf : ∀ x, (f x).num = x.num) :
    (s.setSession n f).session? n = (s.session? n).map f := by
  unfold State.session? State.setSession
  dsimp only
  rw [List.find?_map]
  have hp : ((fun p : Nat × SessionS => decide (p.2.num = n)) ∘
      fun (p : Nat × SessionS) => (p.1, if p.2.num = n then f p.2 else p.2)) =
      fun p => decide (p.2.num = n) := by
    funext p
    simp only [Function.comp_apply]
    split <;> simp [*]
  rw [hp]
  cases hfind : s.ses.open_.find? (fun p => decide (p.2.num = n)) with
  | none => rfl
  | some p =>
    have hnum := List.find?_some hfind
    simp only [decide_eq_true_eq] at hnum
    simp [hnum]

theorem touch_classOf (s : State) (n : Nat) : (s.touch n).classOf n = s.classOf n := by
  unfold State.classOf State.touch
  rw [session?_setSession s n (by intro x; rfl)]
  cases s.session? n <;> rfl

/-! ### A response -/

/-- Putting the header before responses, and keeping them for a repeat, changes no register. -/
theorem RegsExact.respond' {l : List Nat} {s u : State} (n : Nat) (m : MsgIn) (k : Nat) (h : RegsExact l s u) :
    RegsExact l s (u.respond n m k) :=
  h.trans (RegsExact.of_reg ((State.respond_follows u n m k).frame .reg (by decide)))

theorem RegsKept.respond' {l : List Nat} {s u : State} (n : Nat) (m : MsgIn) (k : Nat) (h : RegsKept l s u) :
    RegsKept l s (u.respond n m k) :=
  h.trans (RegsKept.of_reg ((State.respond_follows u n m k).frame .reg (by decide)))

/-- A response with its header before it is sent all the same. -/
theorem respond_sent {u : State} {n c : Nat} {m : MsgIn} {d : Dest} {l : List Int} (h : Sent u d c l) :
    Sent (u.respond n m 0) d c l := by
  obtain ⟨a, ha, hdest, hcode, hdata⟩ := h
  refine ⟨if a.dest = .session n then { a with head := m.respHead (2 + a.data.length) } else a, ?_, ?_⟩
  · exact List.mem_map_of_mem (f := fun (a : Answer) =>
      if a.dest = .session n then { a with head := m.respHead (2 + a.data.length) } else a) ha
  · split <;> exact ⟨hdest, hcode, hdata⟩

/-- What was sent before stays sent when an answer to a session follows. -/
theorem Sent.reply {u : State} {n c c' : Nat} {d : Dest} {l l' : List Int} (h : Sent u d c l) :
    Sent (u.reply n c' l') d c l := by
  obtain ⟨a, ha, hok⟩ := h
  unfold State.reply
  split
  · exact ⟨a, ha, hok⟩
  · split
    · exact ⟨a, List.mem_append_left _ ha, hok⟩
    · exact ⟨a, ha, hok⟩

/-! ### A message taken -/

/-- A message on session `n` reaches service `svc`: it is well framed, no repeat, and nothing refuses it (R444 to
R451). -/
structure Accepts (s : State) (n svc : Nat) (m : MsgIn) : Prop where
  other : n ≠ 0
  framed : m.framed (s.mostBytes n) = true
  fresh : s.repeated n m = none
  allowed : s.msgRefusal n svc m = none

/-- The service acts on the message and its responses get their header. -/
theorem Accepts.onMessage {s : State} {n svc : Nat} {m : MsgIn} (h : Accepts s n svc m) (t : Nat)
    (act : State → State) :
    (s.begin t).onMessage n svc m act = (act ((s.begin t).touch n)).respond n m 0 := by
  have hframed : m.framed ((s.begin t).mostBytes n) = true := h.framed
  have hfresh : (s.begin t).repeated n m = none := h.fresh
  have hallowed : (s.begin t).msgRefusal n svc m = none := h.allowed
  unfold State.onMessage
  rw [if_neg (by simp [hframed]), hfresh, hallowed]
  rfl

theorem Accepts.isOpen {s : State} {n svc : Nat} {m : MsgIn} (h : Accepts s n svc m) : n ∈ s.sessionNums := by
  have hallowed := h.allowed
  unfold State.msgRefusal at hallowed
  split at hallowed
  · cases hallowed
  · next ss hss =>
    obtain ⟨p, hp, -⟩ := Option.map_eq_some_iff.mp hss
    exact List.mem_map.mpr ⟨p, List.mem_of_find?_eq_some hp, by simpa using List.find?_some hp⟩

/-- `v` is `s` but for the time, what has been sent and the sessions' own records, with the same sessions open and
session `n` of the same class: what a service of session `n` acts on. -/
structure Heard (n : Nat) (s v : State) : Prop where
  frame : Frame [.now, .answers, .ses] s v
  nums : v.sessionNums = s.sessionNums
  cls : v.classOf n = s.classOf n

namespace Heard

variable {n : Nat} {s v : State} (h : Heard n s v)
include h

theorem reg : v.reg = s.reg := h.frame .reg (by decide)
theorem role : v.role = s.role := h.frame .role (by decide)
theorem prot : v.prot = s.prot := h.frame .prot (by decide)
theorem amend : v.amend = s.amend := h.frame .amend (by decide)
theorem mirror : v.mirror = s.mirror := h.frame .mirror (by decide)
theorem rd (k : Nat) : v.rd k = s.rd k := rd_of_reg h.reg k
theorem mode : v.mode = s.mode := h.rd _
theorem served : v.served = s.served := by simp only [State.served, h.mode]
theorem configured : v.configured = s.configured := by simp only [State.configured, h.rd]
theorem classCut (c i b : Nat) : v.classCut c i b = s.classCut c i b := by simp only [State.classCut, h.prot]
theorem reaches (x : Nat) : v.reaches x = s.reaches x := by simp only [State.reaches, State.isWorker, h.role]
theorem regsExact (l : List Nat) : RegsExact l s v := RegsExact.of_reg h.reg

theorem mayLive (k : Nat) : v.mayLive n k = s.mayLive n k := by
  simp only [State.mayLive, State.classAtLeast, h.cls, h.classCut]

theorem mayWrite (k : Nat) (acc : Acc) : v.mayWrite n k acc = s.mayWrite n k acc := by
  simp only [State.mayWrite, State.classAtLeast, h.cls, h.classCut, h.mayLive]

theorem rd_eq : v.rd = s.rd := funext h.rd

end Heard

theorem frame_of_heard (s : State) (now : Nat) (answers : List Answer) (ses : SessionsS) :
    Frame [.now, .answers, .ses] s { s with now, answers, ses } := by
  intro p hp
  cases p with
  | now => exact absurd (by decide) hp
  | answers => exact absurd (by decide) hp
  | ses => exact absurd (by decide) hp
  | _ => rfl

/-- What a message's service acts on. -/
theorem heard_touch (s : State) (t n : Nat) : Heard n s ((s.begin t).touch n) where
  frame := frame_of_heard s _ _ _
  nums := setSession_sessionNums (s.begin t) n (by intro x; rfl)
  cls := touch_classOf (s.begin t) n

/-! ### What stands after a response -/

theorem replied_frame (u : State) (n c : Nat) (l : List Int) (m : MsgIn) (k : Nat) :
    Frame [.answers, .ses] u ((u.reply n c l).respond n m k) :=
  ((State.reply_follows u n c l).frame.mono (by decide)).trans ((State.respond_follows _ n m k).frame.mono (by decide))

theorem replied_sent {u : State} {n : Nat} (hn : n ≠ 0) (hopen : n ∈ u.sessionNums) (c : Nat) (l : List Int)
    (m : MsgIn) : Sent ((u.reply n c l).respond n m 0) (.session n) c l :=
  respond_sent (reply_sent u n c l hn ((mem_sessionNums u n).mp hopen))

theorem RegsExact.replied {l : List Nat} {s u : State} (n c : Nat) (r : List Int) (m : MsgIn)
    (h : RegsExact l s u) : RegsExact l s ((u.reply n c r).respond n m 0) :=
  RegsExact.respond' _ _ _ (RegsExact.reply' _ _ _ h)

/-- A refusal that is logged: its event waits in the window, the session has its answer, and nothing else has moved. -/
theorem refused_logged {s v : State} {n : Nat} (hv : Heard n s v) (hn : n ≠ 0) (hopen : n ∈ s.sessionNums)
    (hroom : Room s) (code : Nat) (payload : List Int) (c : Nat) (m : MsgIn) :
    Sent (((v.log code payload).reply n c).respond n m 0) (.session n) c [] ∧
    Logged s (((v.log code payload).reply n c).respond n m 0) code payload ∧
    (((v.log code payload).reply n c).respond n m 0).amend = s.amend ∧
    RegsKept [] s (((v.log code payload).reply n c).respond n m 0) := by
  have hframe := replied_frame (v.log code payload) n c [] m 0
  refine ⟨replied_sent hn (by rwa [log_sessionNums, hv.nums]) c [] m, ?_, ?_, ?_⟩
  · have hlog : Logged s (v.log code payload) code payload :=
      log_logged s v code payload 2 false false none (by rw [hv.mirror]; omega) (by rw [hv.mirror])
    exact hlog.of_mirror (hframe .mirror (by decide))
  · exact (hframe .amend (by decide)).trans
      (((State.log_follows v code payload 2 false false none).frame .amend (by decide)).trans hv.amend)
  · exact RegsKept.respond' _ _ _ (RegsKept.reply' _ _ _ (RegsKept.log' _ _ _ _ _ _
      (RegsKept.of_exact (hv.regsExact []))))

/-- An answer and nothing else. -/
theorem replied_only {s v : State} {n : Nat} (hv : Heard n s v) (hn : n ≠ 0) (hopen : n ∈ s.sessionNums) (c : Nat)
    (l : List Int) (m : MsgIn) :
    Sent ((v.reply n c l).respond n m 0) (.session n) c l ∧ RegsExact [] s ((v.reply n c l).respond n m 0) :=
  ⟨replied_sent hn (hv.nums ▸ hopen) c l m, RegsExact.replied n c l m (hv.regsExact [])⟩

/-! ### End-to-end protection -/

/-- The outcome of the check follows from the records the session layer keeps. -/
theorem protect_code_of_ses {s v : State} (hcfg : v.ses.cfg = s.ses.cfg) (halive : v.ses.alive = s.ses.alive)
    (n : Nat) (m : MsgIn) : (v.protect n m).1 = (s.protect n m).1 := by
  unfold State.protect State.e2eCheck State.aliveOf
  rw [hcfg, halive]
  split
  · rfl
  · split
    · rfl
    · split
      · rfl
      · split
        · rfl
        · split
          · rfl
          · dsimp only
            split
            · rfl
            · split <;> rfl

/-- A message that passes the check moves nothing but its data ID's record (R464). -/
theorem e2eCheck_ok (s : State) (n : Nat) (m : MsgIn) (e : E2eS) :
    (s.e2eCheck n m e).1 ≠ Res.OK ∨ (s.e2eCheck n m e).2 = s.setAlive n e.dataId e.alive true := by
  unfold State.e2eCheck
  split
  · exact .inl (show Res.E2E_ID ≠ Res.OK by decide)
  · split
    · exact .inl (show Res.E2E_ID ≠ Res.OK by decide)
    · split
      · exact .inl (show Res.E2E_CRC ≠ Res.OK by decide)
      · split
        · exact .inr rfl
        · dsimp only
          split
          · exact .inl (show Res.E2E_ALIVE ≠ Res.OK by decide)
          · split
            · exact .inr rfl
            · exact .inl (show Res.E2E_ALIVE ≠ Res.OK by decide)

theorem protect_ok {s : State} {n : Nat} {m : MsgIn} (h : (s.protect n m).1 = Res.OK) :
    ∃ id alive, (s.protect n m).2 = s.setAlive n id alive true := by
  unfold State.protect at h ⊢
  cases he : m.e2e with
  | none =>
    rw [he] at h
    exact absurd h (show Res.E2E_REQUIRED ≠ Res.OK by decide)
  | some e =>
    rw [he] at h
    exact ⟨_, _, (e2eCheck_ok s n m e).resolve_left (fun hne => hne h)⟩

theorem Heard.protect {n : Nat} {s : State} {m : MsgIn} (t : Nat) (h : (s.protect n m).1 = Res.OK) :
    (((s.begin t).touch n).protect n m).1 = Res.OK ∧ Heard n s (((s.begin t).touch n).protect n m).2 := by
  have hv := heard_touch s t n
  have hok : (((s.begin t).touch n).protect n m).1 = Res.OK := (protect_code_of_ses (by rfl) (by rfl) n m).trans h
  refine ⟨hok, ?_⟩
  obtain ⟨id, alive, hset⟩ := protect_ok hok
  rw [hset]
  have hset' : Frame [.now, .answers, .ses] ((s.begin t).touch n) (((s.begin t).touch n).setAlive n id alive true) :=
    (State.setAlive_follows _ _ _ _ _).frame.mono (by decide)
  exact ⟨hv.frame.trans hset', hv.nums, hv.cls⟩

end Sys2Proof.Machine
end

section
/-! SUPPORT. Live writes and the amendment list: what judges a value, and what a write that is taken leaves (14 R484 to
R488). -/

namespace Sys2Proof.Machine

/-! ### Values judged by the registers alone -/

section
variable {y z : State}

theorem liveRule_of_rd (h : y.rd = z.rd) : y.liveRule = z.liveRule := by
  unfold State.liveRule State.rdF
  rw [h]

theorem coefOk_of_rd (h : y.rd = z.rd) : y.coefOk = z.coefOk := by
  unfold State.coefOk State.rdF
  rw [h]

theorem coefRule_of_rd (h : y.rd = z.rd) : y.coefRule = z.coefRule := by
  unfold State.coefRule State.rdF
  rw [h, coefOk_of_rd h]

theorem bindOk_of_rd (h : y.rd = z.rd) : y.bindOk = z.bindOk := by
  unfold State.bindOk State.flag
  rw [h]

theorem measOk_of_rd (h : y.rd = z.rd) : y.measOk = z.measOk := by
  unfold State.measOk
  rw [h]

theorem chapterRule_of_rd (h : y.rd = z.rd) : y.chapterRule = z.chapterRule := by
  unfold State.chapterRule
  rw [h]

theorem fieldRule_of_rd (h : y.rd = z.rd) : y.fieldRule = z.fieldRule := by
  unfold State.fieldRule State.flag State.rdF
  rw [h, bindOk_of_rd h, measOk_of_rd h, chapterRule_of_rd h, coefRule_of_rd h]

theorem fieldOk_of_rd (h : y.rd = z.rd) : y.fieldOk = z.fieldOk := by
  unfold State.fieldOk State.idleField State.flag
  rw [h, fieldRule_of_rd h]

theorem nextOk_of_rd (h : y.rd = z.rd) : y.nextOk = z.nextOk := by
  have hwr : ∀ k v, (y.wr k v).rd = (z.wr k v).rd := fun k v => funext fun j => by rw [rd_wr, rd_wr, h]
  unfold State.nextOk
  funext k v d
  rw [fieldOk_of_rd (hwr k v)]

end

/-! ### Live writes and the amendment list -/

/-- The entry in the place of the field's latest write (14 R486). -/
theorem mem_amendPut (s : State) (unit kind key value : Nat) :
    ({ unit, kind, key, value } : AmendS) ∈ (s.amendPut unit kind key value).amend :=
  List.mem_append_right _ (List.mem_singleton_self _)

theorem served_not_walkHome {s : State} (h : s.served = true) : s.mode ≠ Mode.WALK_HOME := by
  intro hmode
  simp [State.served, hmode] at h

theorem mayLive_of_mayWrite {s : State} {n key : Nat} (h : s.mayWrite n key .rwLive = true) :
    s.mayLive n key = true := by
  simp only [State.mayWrite, Bool.and_eq_true] at h
  exact h.2

/-- A live write that may be made, served and in range is applied (14 R484). -/
theorem liveWrite_applied {s : State} {n key v : Nat} (hmay : s.mayLive n key = true) (hserved : s.served = true) :
    s.liveWrite n key v true = (s.liveApply key v).reply n Res.OK := by
  simp [State.liveWrite, hmay, hserved, served_not_walkHome hserved]

/-- One out of range is refused. -/
theorem liveWrite_value {s : State} {n key v : Nat} (hmay : s.mayLive n key = true) (hserved : s.served = true) :
    s.liveWrite n key v false = s.reply n Res.VALUE := by
  simp [State.liveWrite, hmay, hserved, served_not_walkHome hserved]

/-- With room in the list a live write is entered there with kind LIVE (14 R486). -/
theorem liveApply_room {s : State} {key v : Nat} (hroom : s.amend.length < 256) :
    s.liveApply key v = (((s.wr key v).showAmended key).amendPut s.role.unit 1 key v).amendCount := by
  have hrole : ((s.wr key v).showAmended key).role = s.role := (State.showAmended_follows _ _).frame .role (by decide)
  simp [State.liveApply, State.amendRoom, hroom, hrole]

/-- The field of a live write shows the value written: AMENDED of a function and ENTRIES of the list are others. -/
theorem liveApply_rd {s : State} {key v : Nat} (hroom : s.amend.length < 256) (hkey : key ≠ R.HMP_LIST_ENTRIES) :
    (s.liveApply key v).rd key = v := by
  have hshow : ((s.wr key v).showAmended key).rd key = v := by
    unfold State.showAmended
    dsimp only
    split
    · next hrange =>
      have hother : R.FN_STAT_AMENDED ((key / 256 - 0x3200) / 16) ≠ key := by
        show (0x3100 + (key / 256 - 0x3200) / 16) * 256 + 22 ≠ key
        omega
      rw [rd_wr_ne _ _ hother, rd_wr_same]
    · exact rd_wr_same _ _ _
  rw [liveApply_room hroom]
  exact (rd_wr_ne _ _ hkey.symm).trans hshow

theorem liveApply_amend {s : State} {key v : Nat} (hroom : s.amend.length < 256) :
    ({ unit := s.role.unit, kind := 1, key, value := v } : AmendS) ∈ (s.liveApply key v).amend := by
  rw [liveApply_room hroom]
  exact mem_amendPut _ _ _ _ _

/-- A live write outside the functions' own records moves the field and ENTRIES of the list. -/
theorem liveApply_regs {s : State} {key v : Nat} (hroom : s.amend.length < 256)
    (hfn : key / 256 < 0x3200 ∨ 0x34FF < key / 256) : RegsExact [key, R.HMP_LIST_ENTRIES] s (s.liveApply key v) := by
  have hshow : (s.wr key v).showAmended key = s.wr key v := by
    simp only [State.showAmended]
    rw [if_neg (by omega)]
  rw [liveApply_room hroom, hshow]
  refine RegsExact.wr _ _ (by simp) ?_
  exact RegsExact.trans (RegsExact.wr _ _ (by simp) (RegsExact.rfl' _ _)) (RegsExact.of_reg rfl)

/-- The field and its entry stand while no register and no entry moves any more. -/
theorem liveApply_stands {s u : State} {key v : Nat} (hroom : s.amend.length < 256) (hkey : key ≠ R.HMP_LIST_ENTRIES)
    (h : Frame [.answers, .ses] (s.liveApply key v) u) :
    u.rd key = v ∧ ({ unit := s.role.unit, kind := 1, key, value := v } : AmendS) ∈ u.amend := by
  have hamend : u.amend = (s.liveApply key v).amend := h .amend (by decide)
  exact ⟨(rd_of_reg (h .reg (by decide)) key).trans (liveApply_rd hroom hkey), hamend ▸ liveApply_amend hroom⟩

theorem liveApply_ses (s : State) (key v : Nat) : (s.liveApply key v).ses = s.ses :=
  (State.liveApply_follows s key v).frame .ses (by decide)

end Sys2Proof.Machine
end

section
/-! SUPPORT. Objects read and written over a session (13 R454 to R462), and MAX of a session class (R457). -/

namespace Sys2Proof.Machine

/-! ### Reads -/

theorem objectRead_entry {s : State} {n : Nat} {m : MsgIn} (h : Accepts s n 0x0010 m) (t : Nat) (e : ObjIn) :
    exec (.objectRead t n m [e]) s = .next ((((s.begin t).touch n).readEntry n e).respond n m 0) :=
  congrArg Host.Outcome.next (h.onMessage t _)

theorem readEntry_values {s : State} {n : Nat} {e : ObjIn} (hu : e.unit = s.role.unit)
    (hkeys : entryKeys e.index e.sub ≠ []) (hcut : s.classCut (s.classOf n) e.index 0 = false) :
    s.readEntry n e = s.reply n Res.OK (s.entryValues e.index e.sub) := by
  unfold State.readEntry
  rw [if_neg (by simp [hu])]
  split
  · next hnil => exact absurd hnil hkeys
  · simp [hcut]

theorem readEntry_noObject {s : State} {n : Nat} {e : ObjIn} (hu : e.unit = s.role.unit)
    (hkeys : entryKeys e.index e.sub = []) :
    s.readEntry n e = s.reply n Res.NO_OBJECT [e.unit, e.index, e.sub] := by
  simp [State.readEntry, hu, hkeys]

/-- An entry of another unit goes out to it and is answered with its answer (R459). -/
theorem readEntry_relayed {s : State} {n : Nat} {e : ObjIn} (hu : e.unit ≠ s.role.unit)
    (hreach : s.reaches e.unit = true) (hcut : s.classCut (s.classOf n) e.index 0 = false) :
    s.readEntry n e =
      (s.answer (.trunk 0) 0x10 [e.unit, e.index, e.sub, n]).reply n e.remote.1 e.remote.2 := by
  simp [State.readEntry, hu, hreach, hcut]

/-! ### One entry of a write -/

/-- Session `n` may write field `d`, which entry `e` names, of this configured unit (R454; 14 R483). -/
structure Writes (s : State) (n : Nat) (e : ObjIn) (d : FieldDesc) : Prop where
  unit : e.unit = s.role.unit
  sub : e.sub < 256
  field : fieldOf (e.index * 256 + e.sub) = some d
  may : s.mayWrite n (e.index * 256 + e.sub) d.acc = true
  configured : s.configured = true

namespace Writes

variable {s v : State} {n : Nat} {e : ObjIn} {d : FieldDesc} (w : Writes s n e d)
include w

theorem heard (h : Heard n s v) : Writes v n e d :=
  ⟨w.unit.trans (by rw [h.role]), w.sub, w.field, by rw [h.mayWrite, w.may], by rw [h.configured, w.configured]⟩

theorem key_index : (e.index * 256 + e.sub) / 256 = e.index := by have := w.sub; omega

/-- A live entry, and no other, asks for the end-to-end check (R462). -/
theorem liveEntry : s.liveEntry n e = decide (d.acc = .rwLive) := by
  simp only [State.liveEntry, w.field, w.may, w.configured, Bool.and_true]

theorem ne_listEntries (ha : d.acc = .rwLive) : e.index * 256 + e.sub ≠ R.HMP_LIST_ENTRIES := by
  intro hkey
  have hro : (fieldOf R.HMP_LIST_ENTRIES).map (fun d => d.acc) = some .ro := rfl
  rw [← hkey, w.field, Option.map_some, ha] at hro
  exact absurd hro (by decide)

theorem mayAs {a : Acc} (ha : d.acc = a) : s.mayWrite n (e.index * 256 + e.sub) a = true := ha ▸ w.may

theorem writeEntry_ro (ha : d.acc = .ro) (c x : Nat) : s.writeEntry n c e x = s.reply n Res.ACCESS := by
  simp [State.writeEntry, w.field, w.unit, w.mayAs ha, w.configured, ha]

theorem writeEntry_th (ha : d.acc = .th) (c x : Nat) :
    s.writeEntry n c e x = (s.log 0x1023 [e.index, e.sub]).reply n Res.ACCESS := by
  simp [State.writeEntry, w.field, w.unit, w.mayAs ha, w.configured, ha]

theorem notLive : s.notLive n (e.index * 256 + e.sub) =
    (s.log 0x1023 [e.index, e.sub]).reply n Res.NOT_LIVE := by
  have hidx : ((e.index * 256 + e.sub : Nat) : Int) / 256 = e.index := by have := w.sub; omega
  have hsub : ((e.index * 256 + e.sub : Nat) : Int) % 256 = e.sub := by have := w.sub; omega
  simp only [State.notLive, hidx, hsub]

/-- A field that is not taken while the machine runs is refused and logged (R60). -/
theorem writeEntry_notLive (ha : d.acc = .rwStop ∨ d.acc = .next ∧ s.mode ≠ Mode.SERVICE) (c x : Nat) :
    s.writeEntry n c e x = (s.log 0x1023 [e.index, e.sub]).reply n Res.NOT_LIVE := by
  rw [← w.notLive]
  rcases ha with ha | ⟨ha, hmode⟩
  · simp [State.writeEntry, w.field, w.unit, w.mayAs ha, w.configured, ha]
  · simp [State.writeEntry, w.field, w.unit, w.mayAs ha, w.configured, ha, State.nextWrite, hmode]

/-- A NEXT field in SERVICE enters the amendment list (14 R487). -/
theorem writeEntry_next (ha : d.acc = .next) (hmode : s.mode = Mode.SERVICE) (c : Nat) {x : Nat}
    (hok : s.nextOk (e.index * 256 + e.sub) (d.given x) d = true) (hroom : s.amend.length < 256) :
    s.writeEntry n c e x =
      ((s.amendPut s.role.unit 2 (e.index * 256 + e.sub) (d.given x)).amendCount).reply n Res.OK := by
  simp [State.writeEntry, w.field, w.unit, w.mayAs ha, w.configured, ha, State.nextWrite, hmode, hok, State.amendRoom,
    hroom]

/-- A live field that is no camera's crop is judged as any live write, once the check has passed (R462). -/
theorem writeEntry_live (ha : d.acc = .rwLive) (hcam : e.index < 0x6101 ∨ 0x6110 < e.index) (x : Nat) :
    s.writeEntry n Res.OK e x = s.liveWrite n (e.index * 256 + e.sub) (d.given x)
      (d.admits (d.given x) && s.liveRule (e.index * 256 + e.sub) (d.given x)) := by
  have hany : ∀ y b, s.liveAny n (e.index * 256 + e.sub) y b =
      s.liveWrite n (e.index * 256 + e.sub) y (b && s.liveRule (e.index * 256 + e.sub) y) := by
    intro y b
    simp only [State.liveAny, w.key_index]
    rw [if_neg (by omega)]
  simp [State.writeEntry, w.field, w.unit, w.mayAs ha, w.configured, ha, hany]

end Writes

/-! ### Writes of one entry -/

/-- A live entry is written once the message has passed the check, which has moved no more than its record. -/
theorem objectWrite_live {s : State} {n : Nat} {m : MsgIn} {e : ObjIn} {d : FieldDesc} (h : Accepts s n 0x0010 m)
    (w : Writes s n e d) (ha : d.acc = .rwLive) (hprot : (s.protect n m).1 = Res.OK) (t x : Nat) :
    ∃ v, Heard n s v ∧
      exec (.objectWrite t n m [(e, x)]) s = .next ((v.writeEntry n Res.OK e x).respond n m 0) := by
  obtain ⟨hcode, hv⟩ := Heard.protect t hprot
  refine ⟨_, hv, congrArg Host.Outcome.next ((h.onMessage t _).trans ?_)⟩
  simp [(w.heard (heard_touch s t n)).liveEntry, ha, hcode]

theorem objectWrite_other {s : State} {n : Nat} {m : MsgIn} {e : ObjIn} {d : FieldDesc} (h : Accepts s n 0x0010 m)
    (w : Writes s n e d) (ha : d.acc ≠ .rwLive) (t x : Nat) :
    exec (.objectWrite t n m [(e, x)]) s = .next ((((s.begin t).touch n).writeEntry n Res.OK e x).respond n m 0) := by
  refine congrArg Host.Outcome.next ((h.onMessage t _).trans ?_)
  simp [(w.heard (heard_touch s t n)).liveEntry, ha]

/-! ### A request at the gate in its turn -/

/-- In its turn a request acts, its entry gone from the gate's queue (02 R57). -/
theorem gated_inTurn {s : State} {n : Nat} {kind : ReqKind} (hn : n ≠ 0) (hturn : s.turn n kind = true) (t : Nat)
    (act : State → State) :
    ∃ v, Heard n s v ∧ v.ses = { s.ses with gate := dropReq n kind s.ses.gate } ∧
      s.gated t n kind act = act v := by
  have hturn' : (s.begin t).turn n kind = true := hturn
  refine ⟨{ s.begin t with ses := { s.ses with gate := dropReq n kind s.ses.gate } },
    ⟨frame_of_heard s _ _ _, rfl, rfl⟩, rfl, ?_⟩
  unfold State.gated
  dsimp only
  rw [if_neg hn, if_pos hturn']
  rfl

/-- MAX of a class is no function's field and not ENTRIES of the amendment list. -/
theorem sesClassMax_key (c : Nat) :
    R.SES_CLASS_CFG_MAX c / 256 = 0x9E30 + c ∧ R.SES_CLASS_CFG_MAX c ≠ R.HMP_LIST_ENTRIES := by
  show ((0x9E30 + c) * 256 + 2) / 256 = 0x9E30 + c ∧ (0x9E30 + c) * 256 + 2 ≠ 0xA002 * 256 + 1
  omega

/-- A write of MAX is a live write, in range from RESERVE to 255 (R457). -/
theorem sesMaxWrite_inTurn {s : State} {n c : Nat} (hn : n ≠ 0)
    (hturn : s.turn n (.live (R.SES_CLASS_CFG_MAX c)) = true) (t x : Nat) :
    ∃ v, Heard n s v ∧ v.ses = { s.ses with gate := dropReq n (.live (R.SES_CLASS_CFG_MAX c)) s.ses.gate } ∧
      exec (.sesMaxWrite t n c x) s = .next (v.liveWrite n (R.SES_CLASS_CFG_MAX c) x
        (s.rd (R.SES_CLASS_CFG_RESERVE c) ≤ x && x ≤ 255)) := by
  obtain ⟨v, hv, hses, hact⟩ := gated_inTurn hn hturn t (fun v => v.liveWrite n (R.SES_CLASS_CFG_MAX c) x
    (v.rd (R.SES_CLASS_CFG_RESERVE c) ≤ x && x ≤ 255))
  rw [hv.rd] at hact
  exact ⟨v, hv, hses, congrArg Host.Outcome.next hact⟩

/-! ### The statement -/

/-- Settles O49: each clause names the lemma of its entry or request on the state the service acts on, then what the
response leaves. -/
theorem objectsComplete : Obligations.ObjectsComplete := by
  unfold Obligations.ObjectsComplete
  refine ⟨?read, ?unknown, ?relayed, ?live, ?readOnly, ?next, ?stopped, ?maxApplied, ?maxRefused⟩
  case read =>
    intro t n m e s hn hframed hfresh hallowed hunit hkeys hcut
    have ha : Accepts s n 0x0010 m := ⟨hn, hframed, hfresh, hallowed⟩
    have hv := heard_touch s t n
    refine ⟨_, objectRead_entry ha t e, ?_⟩
    rw [readEntry_values (hunit.trans (by rw [hv.role])) hkeys (by rw [hv.cls, hv.classCut, hcut])]
    exact replied_only hv hn ha.isOpen _ _ m
  case unknown =>
    intro t n m e s hn hframed hfresh hallowed hunit hkeys
    have ha : Accepts s n 0x0010 m := ⟨hn, hframed, hfresh, hallowed⟩
    have hv := heard_touch s t n
    refine ⟨_, objectRead_entry ha t e, ?_⟩
    rw [readEntry_noObject (hunit.trans (by rw [hv.role])) hkeys]
    exact replied_only hv hn ha.isOpen _ _ m
  case relayed =>
    intro t n m e s hn hframed hfresh hallowed hunit hreach hcut
    have ha : Accepts s n 0x0010 m := ⟨hn, hframed, hfresh, hallowed⟩
    have hv := heard_touch s t n
    refine ⟨_, objectRead_entry ha t e, ?_⟩
    rw [readEntry_relayed (by rwa [hv.role]) (by rw [hv.reaches, hreach]) (by rw [hv.cls, hv.classCut, hcut])]
    exact ⟨respond_sent (answer_sent _ _ _ _).reply, replied_sent hn (hv.nums ▸ ha.isOpen) _ _ m,
      RegsExact.replied _ _ _ _ (RegsExact.answer' _ _ _ (hv.regsExact []))⟩
  case live =>
    intro t n x m e d s hn hframed hfresh hallowed hunit hsub hfield hmay hconf hacc hcam hprot hserved hadmits hrule
      hroom
    have ha : Accepts s n 0x0010 m := ⟨hn, hframed, hfresh, hallowed⟩
    have w : Writes s n e d := ⟨hunit, hsub, hfield, hmay, hconf⟩
    obtain ⟨v, hv, hexec⟩ := objectWrite_live ha w hacc hprot t x
    have hw := w.heard hv
    have hroom' : v.amend.length < 256 := by rwa [hv.amend]
    refine ⟨_, hexec, ?_⟩
    rw [hw.writeEntry_live hacc hcam, hadmits, liveRule_of_rd hv.rd_eq, hrule, Bool.and_self,
      liveWrite_applied (mayLive_of_mayWrite (hw.mayAs hacc)) (by rw [hv.served, hserved])]
    obtain ⟨hrd, hamend⟩ := liveApply_stands hroom' (w.ne_listEntries hacc) (replied_frame _ n Res.OK [] m 0)
    refine ⟨hrd, hv.role ▸ hamend, replied_sent hn ?_ _ _ m⟩
    rw [State.sessionNums, liveApply_ses, ← State.sessionNums, hv.nums]
    exact ha.isOpen
  case readOnly =>
    intro t n x m e d s hn hframed hfresh hallowed hunit hsub hfield hmay hconf hacc hroom
    have ha : Accepts s n 0x0010 m := ⟨hn, hframed, hfresh, hallowed⟩
    have w : Writes s n e d := ⟨hunit, hsub, hfield, hmay, hconf⟩
    have hv := heard_touch s t n
    have hw := w.heard hv
    refine ⟨_, objectWrite_other ha w (by rcases hacc with h | h <;> simp [h]) t x, ?_⟩
    rcases hacc with hro | hth
    · rw [hw.writeEntry_ro hro]
      obtain ⟨hsent, hexact⟩ := replied_only hv hn ha.isOpen Res.ACCESS [] m
      exact ⟨hsent, (replied_frame _ _ _ _ _ _ .amend (by decide)).trans hv.amend, fun _ => hexact,
        fun h => by simp [hro] at h, RegsKept.of_exact hexact⟩
    · rw [hw.writeEntry_th hth]
      obtain ⟨hsent, hlogged, hamend, hkept⟩ :=
        refused_logged hv hn ha.isOpen hroom 0x1023 [e.index, e.sub] Res.ACCESS m
      exact ⟨hsent, hamend, fun h => by simp [hth] at h, fun _ => hlogged, hkept⟩
  case next =>
    intro t n x m e d s hn hframed hfresh hallowed hunit hsub hfield hmay hconf hacc hmode hok hroom
    have ha : Accepts s n 0x0010 m := ⟨hn, hframed, hfresh, hallowed⟩
    have w : Writes s n e d := ⟨hunit, hsub, hfield, hmay, hconf⟩
    have hv := heard_touch s t n
    have hw := w.heard hv
    refine ⟨_, objectWrite_other ha w (by simp [hacc]) t x, ?_⟩
    rw [hw.writeEntry_next hacc (hv.mode.trans hmode) _ (by rw [nextOk_of_rd hv.rd_eq, hok]) (by rwa [hv.amend])]
    refine ⟨?_, ?_, ?_⟩
    · rw [replied_frame _ _ _ _ _ _ .amend (by decide), hv.role]
      exact mem_amendPut _ _ _ _ _
    · exact replied_sent hn (hv.nums ▸ ha.isOpen) _ _ m
    · refine RegsExact.replied _ _ _ _ (RegsExact.wr _ _ (by simp) ?_)
      exact (hv.regsExact _).trans (RegsExact.of_reg rfl)
  case stopped =>
    intro t n x m e d s hn hframed hfresh hallowed hunit hsub hfield hmay hconf hacc hroom
    have ha : Accepts s n 0x0010 m := ⟨hn, hframed, hfresh, hallowed⟩
    have w : Writes s n e d := ⟨hunit, hsub, hfield, hmay, hconf⟩
    have hv := heard_touch s t n
    have hw := w.heard hv
    refine ⟨_, objectWrite_other ha w (by rcases hacc with h | h <;> simp [h]) t x, ?_⟩
    rw [hw.writeEntry_notLive (by rwa [hv.mode])]
    exact refused_logged hv hn ha.isOpen hroom 0x1023 [e.index, e.sub] Res.NOT_LIVE m
  case maxApplied =>
    intro t n c x s hn hopen hturn hmay hc hserved hlow hhigh hroom
    obtain ⟨v, hv, hses, hexec⟩ := sesMaxWrite_inTurn hn hturn t x
    refine ⟨_, hexec, ?_⟩
    have hbounds : (decide (s.rd (R.SES_CLASS_CFG_RESERVE c) ≤ x) && decide (x ≤ 255)) = true := by
      simp [hlow, hhigh]
    rw [hbounds, liveWrite_applied (by rw [hv.mayLive, hmay]) (by rw [hv.served, hserved])]
    have hroom' : v.amend.length < 256 := by rwa [hv.amend]
    obtain ⟨hindex, hkey⟩ := sesClassMax_key c
    have hreply := (State.reply_follows (v.liveApply (R.SES_CLASS_CFG_MAX c) x) n Res.OK []).frame
    obtain ⟨hrd, hamend⟩ := liveApply_stands hroom' hkey (hreply.mono (by decide))
    have hses' := (hreply .ses (by decide)).trans ((liveApply_ses v _ x).trans hses)
    exact ⟨hrd, hv.role ▸ hamend, by rw [hses'], by rw [hses'],
      reply_sent _ _ _ _ hn (by rw [liveApply_ses, hses]; exact hopen),
      RegsExact.reply' _ _ _ ((hv.regsExact _).trans (liveApply_regs hroom' (by omega)))⟩
  case maxRefused =>
    intro t n c x s hn hopen hturn hmay hserved hout
    obtain ⟨v, hv, hses, hexec⟩ := sesMaxWrite_inTurn hn hturn t x
    refine ⟨_, hexec, ?_⟩
    have hbounds : (decide (s.rd (R.SES_CLASS_CFG_RESERVE c) ≤ x) && decide (x ≤ 255)) = false := by
      rw [Bool.and_eq_false_iff, decide_eq_false_iff_not, decide_eq_false_iff_not]
      omega
    rw [hbounds, liveWrite_value (by rw [hv.mayLive, hmay]) (by rw [hv.served, hserved])]
    have hreply := (State.reply_follows v n Res.VALUE []).frame
    refine ⟨reply_sent _ _ _ _ hn (by rw [hses]; exact hopen), ?_, ?_, RegsExact.reply' _ _ _ (hv.regsExact [])⟩
    · rw [hreply .amend (by decide), hv.amend]
    · rw [hreply .ses (by decide), hses]

end Sys2Proof.Machine
end

section
/-! SUPPORT. Chapter 01: two statements refuted by running the model from a state that meets their hypotheses. -/

namespace Sys2Proof.Machine

/-! ### A failed resynchronisation -/

/-- The codes of the answers to a command that follows another. -/
def answerCodesAfter (first second : Instr) (s : State) : List Nat :=
  match exec first s with
  | .next u => match exec second u with
    | .next v => v.answers.map Answer.code
    | _ => []
  | _ => []

theorem answerCodesAfter_next {first second : Instr} {s u v : State} (hu : exec first s = .next u)
    (hv : exec second u = .next v) : answerCodesAfter first second s = v.answers.map Answer.code := by
  simp only [answerCodesAfter, hu, hv]

/-- A module in SLEEP whose GNSS refresh keeps PD4, and with it island 3, on (15 Table 15.4), while the crank state
would cut PD4 in any other mode. Its baseband tracks a signal on a channel of number 0x5E00: 07 has 1,024 channels, but
nothing in the statement bounds the number, and this channel's STATE field is MODE of MODE.STAT. -/
def channelOverMode : State :=
  { State.reset.wrs [(R.MODE_STAT_MODE, Mode.SLEEP), (R.PWR_STAT_CRANK, 1), (R.ISL_STAT_RESYNC 3, 1)] with
    gn := { on := true, refresh := some 0, ch := [(0x5E00, {})] } }

/-- Refutes O4: the stall of island 3 writes STATE 5 of every channel with a signal; for a channel numbered past the
1,024 of chapter 07 that write may land on MODE, which leaves SLEEP, PD4 goes off, and the next request to the island is
answered ISL_OFF instead of ISL_STALL. -/
theorem not_failedResyncStopsTheIsland : ¬ Obligations.FailedResyncStopsTheIsland := by
  unfold Obligations.FailedResyncStopsTheIsland
  intro h
  obtain ⟨u, hu, -, -, v, hv, ⟨a, ha, -, hstall, -⟩, -⟩ := h 0 0 3 7 0 1 true channelOverMode (by decide)
    (by decide) (by decide +kernel) (by decide +kernel) (by decide +kernel) (by decide +kernel)
  have hoff : answerCodesAfter (.islResyncFail 0 3) (.crossingTransfer 0 3 7 true 0 1) channelOverMode = [0x1005] := by
    decide +kernel
  rw [answerCodesAfter_next hu hv] at hoff
  have hmem : a.code ∈ v.answers.map Answer.code := List.mem_map_of_mem ha
  rw [hoff, hstall] at hmem
  exact absurd hmem (by decide)

/-! ### A shed level entered -/

/-- A register after a command, if the command has a next state. -/
def rdAfter (i : Instr) (s : State) (k : Nat) : Option Nat :=
  match exec i s with
  | .next u => some (u.rd k)
  | _ => none

theorem rdAfter_next {i : Instr} {s u : State} (hu : exec i s = .next u) (k : Nat) : rdAfter i s k = some (u.rd k) := by
  simp only [rdAfter, hu]

/-- The unit after reset with GNSS channel 0 searching (STATE 1) and two slow windows behind it. -/
def slowWhileSearching : State :=
  { State.reset.wr (R.GN_CH_STAT_STATE 0) 1 with canary := { recent := [0, 0] }, gn := { ch := [(0, {})] } }

/-- Refutes O25, by its first part: the third slow window enters shed level S4, where every GNSS channel that does not
contribute is released (07 R259), so STATE of channel 0 goes from 1 to 4; the part's list of the registers that a
window may change has no GNSS channel. -/
theorem not_paceAndCrossingsComplete : ¬ Obligations.PaceAndCrossingsComplete := by
  unfold Obligations.PaceAndCrossingsComplete
  rintro ⟨hwindow, -⟩
  obtain ⟨u, hu, -, -, -, -, -, hkept⟩ := hwindow 0 (List.replicate 16 1) slowWhileSearching (by decide)
  have hbefore : slowWhileSearching.rd (R.GN_CH_STAT_STATE 0) = 1 := by decide +kernel
  have hafter : rdAfter (.canaryWindowEnd 0 (List.replicate 16 1)) slowWhileSearching (R.GN_CH_STAT_STATE 0) =
      some 4 := by decide +kernel
  rw [rdAfter_next hu, hkept (R.GN_CH_STAT_STATE 0) (by decide) (by decide), hbefore] at hafter
  exact absurd hafter (by decide)

end Sys2Proof.Machine
end

section
/-! SUPPORT. What a logged event leaves of the reorder window and of the answers, and what was sent stays sent. -/

namespace Sys2Proof.Machine

/-! ### The reorder window -/

theorem release_window (s : State) (e : Event) (late : Bool) :
    (s.release e late).mirror.window = s.mirror.window := by
  unfold State.release
  dsimp only
  rw [(State.noteFault_follows _ _).frame .mirror (by decide), (State.bbEvent_follows _ _).frame .mirror (by decide)]
  split <;> rfl

/-- An event held adds itself to the window and nothing else. -/
theorem mem_hold_window {s : State} {e x : Event} (hx : x ∈ (s.hold e).mirror.window) :
    x ∈ s.mirror.window ∨ x = e := by
  unfold State.hold at hx
  extract_lets +onlyGivenNames _ u at hx
  have hu : ∀ y ∈ u.mirror.window, y ∈ s.mirror.window := by
    intro y hy
    unfold u at hy
    split at hy
    · exact hy
    · split at hy
      · rw [release_window] at hy
        exact (List.mem_filter.mp hy).1
      · exact hy
  clear_value u
  split at hx
  · rw [raise_mirror] at hx
    rcases List.mem_append.mp hx with hold | hnew
    · exact Or.inl (hu x hold)
    · exact Or.inr (List.mem_singleton.mp hnew)
  · exact Or.inl (hu x hx)

/-- An event of this unit's own adds itself to the window, if anything. -/
theorem mem_ownEvent_window {s : State} {e x : Event} (hx : x ∈ (s.ownEvent e).mirror.window) :
    x ∈ s.mirror.window ∨ x.code = e.code := by
  have harrive : ∀ u : State, u.mirror = s.mirror → x ∈ (u.arrive e).mirror.window →
      x ∈ s.mirror.window ∨ x.code = e.code := by
    intro u hu hx
    unfold State.arrive at hx
    dsimp only at hx
    rw [← hu]
    split at hx
    · rw [release_window] at hx
      exact Or.inl hx
    · exact (mem_hold_window hx).imp_right fun h => by rw [h]
  unfold State.ownEvent at hx
  split at hx
  · exact harrive (s.answer _ _ _) rfl hx
  · exact harrive s rfl hx

theorem mem_log_window {s : State} {code : Nat} {payload : List Int} {island : Nat} {esc fault : Bool}
    {input : Option Int} {x : Event} (hx : x ∈ (s.log code payload island esc fault input).mirror.window) :
    x ∈ s.mirror.window ∨ x.code = code := mem_ownEvent_window hx

/-! ### Answers -/

/-- A frame sent joins those that leave; the class order moves some of them and drops none (12 R436). -/
theorem mem_sendFrame {l : List Answer} {a x : Answer} : x ∈ sendFrame l a ↔ x = a ∨ x ∈ l := by
  unfold sendFrame
  split
  · next p _ =>
    dsimp only
    obtain ⟨rest, hrest⟩ := List.takeWhile_prefix (l := l)
      (fun x => !(decide (x.dest = .trunk p) && decide (trunkClass a.code < trunkClass x.code)))
    generalize l.takeWhile _ = first at hrest
    subst hrest
    rw [List.drop_left]
    simp only [List.mem_append, List.mem_cons]
    tauto
  · simp only [List.mem_append, List.mem_singleton]
    tauto

theorem mem_answer {s : State} {d : Dest} {c : Nat} {l : List Int} {x : Answer} :
    x ∈ (s.answer d c l).answers ↔ x = { dest := d, code := c, data := l } ∨ x ∈ s.answers := mem_sendFrame

/-- Logging sends at most the event to the manager, over trunk port 0 (R69). -/
theorem log_answers (s : State) (code : Nat) (payload : List Int) (island : Nat) (esc fault : Bool)
    (input : Option Int) :
    (s.log code payload island esc fault input).answers = s.answers ∨
    ∃ data, (s.log code payload island esc fault input).answers = (s.answer (.trunk 0) 0x60 data).answers := by
  unfold State.log State.ownEvent
  dsimp only
  rw [(State.arrive_follows _ _).frame .answers (by decide)]
  split
  · exact Or.inr ⟨_, rfl⟩
  · exact Or.inl rfl

theorem Sent.of_answers {s u : State} {d : Dest} {c : Nat} {l : List Int} (h : Sent s d c l)
    (e : u.answers = s.answers) : Sent u d c l := by
  unfold Sent
  rw [e]
  exact h

theorem Sent.answer {s : State} {d : Dest} {c : Nat} {l : List Int} (h : Sent s d c l) (d' : Dest) (c' : Nat)
    (l' : List Int) : Sent (s.answer d' c' l') d c l := by
  obtain ⟨a, ha, hok⟩ := h
  exact ⟨a, mem_answer.mpr (Or.inr ha), hok⟩

theorem Sent.log {s : State} {d : Dest} {c : Nat} {l : List Int} (h : Sent s d c l) (code : Nat) (payload : List Int)
    (island : Nat) (esc fault : Bool) (input : Option Int) :
    Sent (s.log code payload island esc fault input) d c l := by
  rcases log_answers s code payload island esc fault input with e | ⟨data, e⟩
  · exact h.of_answers e
  · exact (h.answer _ _ data).of_answers e

theorem Sent.logOnce {s : State} {d : Dest} {c : Nat} {l : List Int} (h : Sent s d c l) (code scope period : Nat)
    (payload : List Int) (island : Nat) (fault : Bool) :
    Sent (s.logOnce code scope period payload island fault) d c l := by
  unfold State.logOnce
  split
  · refine Sent.log ?_ _ _ _ _ _ _
    exact h.of_answers rfl
  · exact h

/-- Requesters whose transfers end each receive ISL_STALL, and what was sent before stays sent (R40). -/
theorem Sent.failTransfers {s : State} {d : Dest} {c : Nat} {l : List Int} (h : Sent s d c l) (rs : List Nat) :
    Sent (s.failTransfers rs) d c l := by
  induction rs generalizing s with
  | nil => exact h
  | cons r rs ih => exact ih (h.answer _ _ _)

theorem failTransfers_sent (s : State) (rs : List Nat) :
    ∀ r ∈ rs, Sent (s.failTransfers rs) (.master r) 0x1001 [] := by
  induction rs generalizing s with
  | nil => exact fun r hr => absurd hr List.not_mem_nil
  | cons q rs ih =>
    intro r hr
    rcases List.mem_cons.mp hr with rfl | hr
    · exact Sent.failTransfers (answer_sent s (.master r) 0x1001 []) rs
    · exact ih (s.answer (.master q) 0x1001) r hr

end Sys2Proof.Machine
end

section
/-! SUPPORT. Chapter 01: a request to an island that is off, and a resynchronisation. -/

namespace Sys2Proof.Machine

/-! ### The islands' status fields -/

/-- A field of an island's status object (Table 1.9). -/
def IslandField (k : Nat) : Prop := 0x1010 ≤ k / 256 ∧ k / 256 < 0x1020

theorem islandField {isl f : Nat} (hle : isl ≤ 9) (hf : f < 256) : IslandField ((0x1010 + isl) * 256 + f) := by
  unfold IslandField
  omega

/-- Logging moves no island's status. -/
theorem IslandField.not_stream {k : Nat} (h : IslandField k) : k ∉ streamRegs := by
  have hstream : ∀ x ∈ streamRegs, x / 256 < 0x1010 ∨ 0x1020 ≤ x / 256 := by decide
  intro hk
  unfold IslandField at h
  have := hstream k hk
  omega

/-- `u` has the status of every island as `s` has it, and what was sent in `s` stays sent. -/
structure KeepsIslands (s u : State) : Prop where
  rd : ∀ k, IslandField k → u.rd k = s.rd k
  sent : ∀ d c l, Sent s d c l → Sent u d c l

namespace KeepsIslands

theorem refl (s : State) : KeepsIslands s s := ⟨fun _ _ => rfl, fun _ _ _ h => h⟩

theorem trans {s t u : State} (h : KeepsIslands s t) (k : KeepsIslands t u) : KeepsIslands s u :=
  ⟨fun x hx => (k.rd x hx).trans (h.rd x hx), fun d c l hs => k.sent d c l (h.sent d c l hs)⟩

theorem of_eq {s u : State} (hreg : u.reg = s.reg) (hans : u.answers = s.answers) : KeepsIslands s u :=
  ⟨fun k _ => rd_of_reg hreg k, fun _ _ _ h => h.of_answers hans⟩

/-- A register of a later object written. -/
theorem wr {s u : State} {k : Nat} (v : Nat) (hk : 0x1020 ≤ k / 256) (h : KeepsIslands s u) :
    KeepsIslands s (u.wr k v) := by
  refine h.trans ⟨fun x hx => rd_wr_ne u v ?_, fun _ _ _ hs => hs.of_answers rfl⟩
  rintro rfl
  exact absurd hx.2 (by omega)

theorem logOnce {s u : State} (code scope period : Nat) (payload : List Int) (island : Nat) (fault : Bool)
    (h : KeepsIslands s u) : KeepsIslands s (u.logOnce code scope period payload island fault) :=
  h.trans ⟨fun _ hk => logOnce_rd _ _ _ _ _ _ _ _ hk.not_stream, fun _ _ _ hs => hs.logOnce _ _ _ _ _ _⟩

theorem foldl {α : Type} {f : State → α → State} (hf : ∀ u x, KeepsIslands u (f u x)) (xs : List α)
    {s u : State} (h : KeepsIslands s u) : KeepsIslands s (xs.foldl f u) := by
  induction xs generalizing u with
  | nil => exact h
  | cons x xs ih => exact ih (h.trans (hf u x))

theorem setCamState {s u : State} (cam st : Nat) (h : KeepsIslands s u) : KeepsIslands s (u.setCamState cam st) := by
  unfold State.setCamState
  dsimp only
  split
  · exact h
  · exact logOnce _ _ _ _ _ _ (wr st (by simp only [R.CAM_STAT_STATE]; omega) h)

theorem startCam (s : State) (cam : Nat) : KeepsIslands s (s.startCam cam) := by
  unfold State.startCam
  dsimp only
  split
  · exact refl s
  · exact setCamState _ _ (wr _ (by simp only [R.CAM_STAT_CLASS]; omega) (of_eq rfl rfl))

theorem canUp (s : State) : KeepsIslands s s.canUp := by
  unfold State.canUp
  dsimp only
  refine foldl (fun u i => ?_) _ (of_eq rfl rfl)
  split
  · exact wr 1 (by simp only [R.CAN_STAT_STATE]; omega) (refl u)
  · exact refl u

/-- The units of an island that comes up leave the islands' status and what has been sent as they are. -/
theorem islandUp (s : State) (isl : Nat) : KeepsIslands s (s.islandUp isl) := by
  unfold State.islandUp
  split
  · split
    · exact wr 0 (by decide) (of_eq rfl rfl)
    · exact refl s
  · exact foldl startCam _ (refl s)
  · exact canUp s
  · exact refl s

end KeepsIslands

/-! ### A domain that is off -/

/-- A request to an island whose domain is off is logged and answered ISL_OFF (R44). -/
theorem exec_crossingTransfer_off {s : State} {isl : Nat} (hoff : s.islandPowered isl = false) (t req data reads : Nat)
    (d : Bool) : exec (.crossingTransfer t isl req d data reads) s =
      .next (((s.begin t).log 0x1005 [isl, req]).answer (.master req) 0x1005) := by
  have hoff' : (s.begin t).islandPowered isl = false := hoff
  simp only [exec, execCrossingTransfer, hoff', Bool.not_false, Bool.true_or, if_true]

/-- Settles O2: the only answer to the requester is the ISL_OFF that follows the log entry, and the log entry is the
only event. -/
theorem switchedOffIslandAnswersAtOnce : Obligations.SwitchedOffIslandAnswersAtOnce := by
  unfold Obligations.SwitchedOffIslandAnswersAtOnce
  intro t isl req data k d s _ hle hoff
  refine ⟨_, exec_crossingTransfer_off hoff t req data k d, answer_sent _ _ _ _, ?_, ?_, ?_, ?_⟩
  · intro a ha hdest
    rcases mem_answer.mp ha with rfl | ha
    · rfl
    · rcases log_answers (s.begin t) 0x1005 [isl, req] 2 false false none with e | ⟨data, e⟩
      · rw [e] at ha
        exact absurd ha List.not_mem_nil
      · rw [e, mem_answer] at ha
        rcases ha with rfl | ha
        · cases hdest
        · exact absurd ha List.not_mem_nil
  · exact (State.log_follows (s.begin t) _ _ _ _ _ _).frame .isl (by decide)
  · rw [rd_answer, log_rd _ _ _ _ _ _ _ _ (islandField (f := 1) hle (by decide)).not_stream, rd_begin]
  · intro x hx hcode
    refine (mem_log_window (s := s.begin t) hx).resolve_right fun h => ?_
    rw [h] at hcode
    exact absurd hcode (by decide)

/-! ### FIFOs -/

/-- Filling a FIFO moves transfers that wait, and makes none. -/
theorem fill_transfers (i : IslS) (depth : Nat) (d : Bool) :
    (∀ x ∈ (i.fill depth d).unread, x ∈ i.unread ∨ x ∈ i.waiting.map (fun p => p.2)) ∧
    ∀ x ∈ (i.fill depth d).waiting.map (fun p => p.2), x ∈ i.waiting.map (fun p => p.2) := by
  have hof : ∀ x ∈ i.waitingOf d, x ∈ i.waiting.map (fun p => p.2) := by
    intro x hx
    obtain ⟨p, hp, rfl⟩ := List.mem_map.mp hx
    exact List.mem_map_of_mem (List.mem_filter.mp hp).1
  have htake : ∀ n, ∀ x ∈ (i.waitingOf d).take n, x ∈ i.waiting.map (fun p => p.2) := fun n x hx =>
    hof x (List.mem_of_mem_take hx)
  constructor
  · intro x hx
    cases d <;> simp only [IslS.unread, IslS.fill, IslS.setFifo, IslS.fifo, if_true, Bool.false_eq_true, if_false,
      List.mem_append] at hx ⊢
    · rcases hx with h | h | h
      · exact Or.inl (Or.inl h)
      · exact Or.inl (Or.inr h)
      · exact Or.inr (htake _ x h)
    · rcases hx with (h | h) | h
      · exact Or.inl (Or.inl h)
      · exact Or.inr (htake _ x h)
      · exact Or.inl (Or.inr h)
  · intro x hx
    simp only [IslS.fill, List.map_append, List.mem_append, List.map_map, Function.comp_def, List.map_id'] at hx
    rcases hx with h | h
    · obtain ⟨p, hp, rfl⟩ := List.mem_map.mp h
      exact List.mem_map_of_mem (List.mem_filter.mp hp).1
    · exact hof x (List.mem_of_mem_drop h)

/-! ### A resynchronisation -/

/-- The state after unread entries are discarded, their requesters answered and DROPS counted (R40). -/
def State.discardUnread (s : State) (isl : Nat) : State :=
  (s.failTransfers ((s.island isl).unread.filterMap (fun x => x.who))).wr (R.ISL_STAT_DROPS isl)
    (satAdd 255 (s.rd (R.ISL_STAT_DROPS isl)) (s.island isl).unread.length)

/-- The crossing once both FIFOs are empty and waiting transfers have entered them. -/
def IslS.resynced (i : IslS) (isl : Nat) : IslS :=
  (IslS.fill { i with toIsl := [], toCore := [], refusing := false, needSync := false } (fifoDepth isl) true).fill
    (fifoDepth isl) false

/-- A resynchronisation of an island that is on and released: with its clock running it completes, else it stays in
progress (R39, R40, Table 1.7). -/
theorem exec_fifoResync {s : State} {isl : Nat} (hheld : s.rd (R.ISL_STAT_HELD isl) ≠ 1) (hrst : s.rst.held = false)
    (hon : s.islandPowered isl = true) (t : Nat) : exec (.fifoResync t isl) s = .next (
      if ((s.begin t).discardUnread isl).flag (R.ISL_STAT_CLKOK isl) then
        ((((s.begin t).discardUnread isl).setIsland isl ((s.island isl).resynced isl)).wr
          (R.ISL_STAT_RESYNC isl) 0).islandUp isl
      else (((s.begin t).discardUnread isl).setIsland isl
        { s.island isl with toIsl := [], toCore := [], needSync := true }).wr (R.ISL_STAT_RESYNC isl) 1) := by
  have hon' : (s.begin t).islandPowered isl = true := hon
  have hheld' : (s.begin t).flag (R.ISL_STAT_HELD isl) = false := decide_eq_false hheld
  have hrst' : (s.begin t).rst.held = false := hrst
  simp only [exec, execFifoResync, hon', hheld', hrst', Bool.not_true, Bool.or_self, Bool.false_eq_true, if_false]
  rfl

theorem discardUnread_drops (s : State) (isl : Nat) : (s.discardUnread isl).rd (R.ISL_STAT_DROPS isl) =
    min 255 (s.rd (R.ISL_STAT_DROPS isl) + (s.island isl).unread.length) := by
  unfold State.discardUnread
  rw [rd_wr_same]
  unfold satAdd
  split <;> omega

theorem discardUnread_sent (s : State) (isl : Nat) :
    ∀ r ∈ (s.island isl).unread.filterMap (fun x => x.who), Sent (s.discardUnread isl) (.master r) 0x1001 [] :=
  fun r hr => (failTransfers_sent s _ r hr).of_answers rfl

/-- What stands in the FIFOs after a resynchronisation waited before it. -/
theorem resynced_unread (i : IslS) (isl : Nat) :
    ∀ x ∈ (i.resynced isl).unread, x ∈ i.waiting.map (fun p => p.2) := by
  intro x hx
  have hfill := fill_transfers { i with toIsl := [], toCore := [], refusing := false, needSync := false }
    (fifoDepth isl) true
  rcases (fill_transfers _ _ _).1 x hx with h | h
  · exact (hfill.1 x h).resolve_left List.not_mem_nil
  · exact hfill.2 x h

@[simp] theorem island_setIsland (s : State) (n : Nat) (v : IslS) : (s.setIsland n v).island n = v := by
  simp only [State.island, State.setIsland, look_ins_same, Option.getD_some]

theorem island_of_isl {s u : State} (h : u.isl = s.isl) (n : Nat) : u.island n = s.island n := by
  unfold State.island
  rw [h]

/-- Settles O3: both outcomes of a resynchronisation go through the same discarding of the unread entries, and what an
island's units do when it comes up touches neither the islands' status nor what has been sent. -/
theorem discardedEntriesAreCountedAndFailed : Obligations.DiscardedEntriesAreCountedAndFailed := by
  unfold Obligations.DiscardedEntriesAreCountedAndFailed
  intro t isl s _ hle hheld hrst hon
  refine ⟨_, exec_fifoResync hheld hrst hon t, ?_⟩
  have hsent := discardUnread_sent (s.begin t) isl
  have hdrops : ∀ i k, ((((s.begin t).discardUnread isl).setIsland isl i).wr (R.ISL_STAT_RESYNC isl) k).rd
      (R.ISL_STAT_DROPS isl) = min 255 (s.rd (R.ISL_STAT_DROPS isl) + (s.island isl).unread.length) := fun i k =>
    (rd_wr_ne _ _ (by simp only [R.ISL_STAT_RESYNC, R.ISL_STAT_DROPS]; omega)).trans
      (discardUnread_drops (s.begin t) isl)
  have hisland : ∀ i k, ((((s.begin t).discardUnread isl).setIsland isl i).wr (R.ISL_STAT_RESYNC isl) k).island isl =
      i := fun i _ => island_setIsland _ _ i
  split
  case isTrue =>
    have hup := KeepsIslands.islandUp ((((s.begin t).discardUnread isl).setIsland isl
      ((s.island isl).resynced isl)).wr (R.ISL_STAT_RESYNC isl) 0) isl
    refine ⟨?_, fun r hr => hup.sent _ _ _ ((hsent r hr).of_answers rfl), ?_⟩
    · rw [hup.rd _ (islandField (f := 2) hle (by decide)), hdrops]
    · rw [island_of_isl ((State.islandUp_follows _ _).frame .isl (by decide)), hisland]
      exact resynced_unread _ _
  case isFalse =>
    refine ⟨hdrops _ _, fun r hr => (hsent r hr).of_answers rfl, ?_⟩
    rw [hisland]
    exact fun x hx => absurd hx List.not_mem_nil

end Sys2Proof.Machine
end

section
/-! SUPPORT. What each command of chapters 1 to 3 may change: along its meaning, the parts that the operations it calls
may change. -/

namespace Sys2Proof.Machine

/-! ### Parts written in place -/

theorem Follows.begin {l : List Part} (hl : [.now, .answers] ⊆ l) (s : State) (t : Nat) : Follows l s (s.begin t) :=
  (State.begin_follows s t).mono hl

/-- Parts written, the bounds kept. -/
theorem Follows.write {l : List Part} {s u v : State} (h : Follows l s u) (ps : List Part) (hps : ps ⊆ l)
    (hframe : Frame ps u v) (hbounded : Bounded u → Bounded v) : Follows l s v :=
  h.trans ⟨hframe.mono hps, hbounded⟩

section Write

variable {l : List Part} {s u : State}

/-- Harvest time's state written, with no more stamps of pin EVT than 16 (R112). -/
theorem Follows.writeTb (v : TimeS) (hl : .tb ∈ l) (hv : u.tb.evtHeld.length ≤ 16 → v.evtHeld.length ≤ 16)
    (h : Follows l s u) : Follows l s { u with tb := v } :=
  h.write [.tb] (by simpa using hl) (fun p hp => by cases p <;> simp_all [Part.same]) fun b =>
    { b with stamps := hv b.stamps }

theorem Follows.writeLn (v : LaunchS) (hl : .ln ∈ l) (h : Follows l s u) : Follows l s { u with ln := v } :=
  h.write [.ln] (by simpa using hl) (fun p hp => by cases p <;> simp_all [Part.same]) fun b => { b with }

/-- What a loss of the Whistle writes together: harvest time's state, the ports and the one-shot queue (R121). -/
theorem Follows.writeLoss (tb : TimeS) (whistle : List (Nat × WhistleS)) (ln : LaunchS)
    (hl : [.tb, .whistle, .ln] ⊆ l) (hv : tb.evtHeld = u.tb.evtHeld) (h : Follows l s u) :
    Follows l s { u with tb, whistle, ln } :=
  h.write [.tb, .whistle, .ln] hl (fun p hp => by cases p <;> simp_all [Part.same]) fun b =>
    { b with stamps := hv ▸ b.stamps }

theorem Follows.writeProt (v : ProtS) (hl : .prot ∈ l) (h : Follows l s u) : Follows l s { u with prot := v } :=
  h.write [.prot] (by simpa using hl) (fun p hp => by cases p <;> simp_all [Part.same]) fun b => { b with }

theorem Follows.writeArb (v : ArbS) (hl : .arb ∈ l) (h : Follows l s u) : Follows l s { u with arb := v } :=
  h.write [.arb] (by simpa using hl) (fun p hp => by cases p <;> simp_all [Part.same]) fun b => { b with }

/-- The mirror written, its reorder window as it was. -/
theorem Follows.writeMirror (v : MirrorS) (hl : .mirror ∈ l) (hv : v.window = u.mirror.window) (h : Follows l s u) :
    Follows l s { u with mirror := v } :=
  h.write [.mirror] (by simpa using hl) (fun p hp => by cases p <;> simp_all [Part.same]) fun b =>
    { b with window := hv ▸ b.window }

/-- A byte written (R54). -/
theorem Follows.writeMem (a : Nat) (x : Byte) (hl : .mem ∈ l) (h : Follows l s u) :
    Follows l s { u with mem := memWrite u.mem a x } :=
  h.write [.mem] (by simpa using hl) (fun p hp => by cases p <;> simp_all [Part.same]) fun b =>
    { b with mem := memWrite_wf u.mem b.mem a x }

/-- The mode gate's queue written, with no more than 64 requests in it (R57). -/
theorem Follows.writeGate (v : List GateReq) (hl : .ses ∈ l) (hv : v.length ≤ 64) (h : Follows l s u) :
    Follows l s { u with ses := { u.ses with gate := v } } :=
  h.write [.ses] (by simpa using hl) (fun p hp => by cases p <;> simp_all [Part.same]) fun b => { b with gate := hv }

end Write

/-! ### Chapter 01 -/

theorem execCanaryWindowEnd_leads (t : Nat) (laps : List Nat) (s : State) :
    Leads [.now, .reg, .answers, .canary, .mirror, .ses, .bb, .md, .gn] s (execCanaryWindowEnd t laps s) :=
  Leads.next <|
    Follows.next (State.judgeShed_follows _ _) (by decide) <|
    Follows.next (State.judgeLow_follows _ _) (by decide) <|
    Follows.next (State.publishPace_follows _ _) (by decide) <|
    Follows.next (State.excludeRings_follows _ _) (by decide) <|
    Follows.begin (by decide) s t

theorem execIslClock_leads (t isl edges : Nat) (s : State) :
    Leads [.now, .reg, .answers, .mirror, .ses, .bb] s (execIslClock t isl edges s) := by
  refine Leads.next (Follows.ite (fun _ => ?_) (fun _ => ?_))
  · exact Follows.next (State.wr_follows _ _ _) (by decide) (Follows.begin (by decide) s t)
  · exact Follows.next (State.log_follows _ _ _ _ _ _ _) (by decide) <|
      Follows.next (State.wr_follows _ _ _) (by decide) (Follows.begin (by decide) s t)

theorem execCrossingTransfer_leads (t isl req : Nat) (d : Bool) (data reads : Nat) (s : State) :
    Leads [.now, .reg, .answers, .isl, .mirror, .ses, .bb] s (execCrossingTransfer t isl req d data reads s) := by
  have h0 : Follows [.now, .reg, .answers, .isl, .mirror, .ses, .bb] s (s.begin t) := Follows.begin (by decide) s t
  refine Leads.next (Follows.ite (fun _ => ?off) fun _ => Follows.ite (fun _ => ?refusing) fun _ =>
    Follows.ite (fun _ => ?waits) fun _ => ?crosses)
  case off =>
    exact Follows.next (State.answer_follows _ _ _ _) (by decide) <|
      Follows.next (State.log_follows _ _ _ _ _ _ _) (by decide) h0
  case refusing =>
    exact Follows.next (State.answer_follows _ _ _ _) (by decide) <|
      Follows.next (State.countStall_follows _ _ _) (by decide) h0
  case waits => exact Follows.next (State.setIsland_follows _ _ _) (by decide) h0
  case crosses =>
    exact Follows.next (State.readFifo_follows _ _ _ _) (by decide) <|
      Follows.next (State.setIsland_follows _ _ _) (by decide) h0

theorem execIslStall_leads (t isl req : Nat) (d : Bool) (s : State) :
    Leads [.now, .reg, .answers, .isl, .mirror, .tb, .lk, .ses, .bb, .fl, .cams] s (execIslStall t isl req d s) :=
  Leads.next <| Follows.ite
    (fun _ =>
      Follows.next (State.islandDown_follows _ _) (by decide) <|
      Follows.next (State.answer_follows _ _ _ _) (by decide) <|
      Follows.next (State.countStall_follows _ _ _) (by decide) <|
      Follows.next (State.setIsland_follows _ _ _) (by decide) <|
      Follows.begin (by decide) s t)
    (fun _ => Follows.begin (by decide) s t)

theorem execFifoResync_leads (t isl : Nat) (s : State) :
    Leads [.now, .reg, .answers, .isl, .mirror, .lk, .ses, .bb, .gn, .cams] s (execFifoResync t isl s) := by
  have h0 : Follows [.now, .reg, .answers, .isl, .mirror, .lk, .ses, .bb, .gn, .cams] s (s.begin t) :=
    Follows.begin (by decide) s t
  have h1 (v : Nat) : Follows [.now, .reg, .answers, .isl, .mirror, .lk, .ses, .bb, .gn, .cams] s
      (((s.begin t).failTransfers (((s.begin t).island isl).unread.filterMap (fun x => x.who))).wr
        (R.ISL_STAT_DROPS isl) v) :=
    Follows.next (State.wr_follows _ _ _) (by decide) <|
      Follows.next (State.failTransfers_follows _ _) (by decide) h0
  refine Leads.next (Follows.ite (fun _ => h0) fun _ => Follows.ite (fun _ => ?done) fun _ => ?goesOn)
  case done =>
    exact Follows.next (State.islandUp_follows _ _) (by decide) <|
      Follows.next (State.wr_follows _ _ _) (by decide) <|
      Follows.next (State.setIsland_follows _ _ _) (by decide) (h1 _)
  case goesOn =>
    exact Follows.next (State.wr_follows _ _ _) (by decide) <|
      Follows.next (State.setIsland_follows _ _ _) (by decide) (h1 _)

theorem execIslResyncFail_leads (t isl : Nat) (s : State) :
    Leads [.now, .reg, .answers, .isl, .mirror, .tb, .lk, .ses, .bb, .fl, .cams] s (execIslResyncFail t isl s) :=
  Leads.next <| Follows.ite
    (fun _ =>
      Follows.next (State.islandDown_follows _ _) (by decide) <|
      Follows.next (State.log_follows _ _ _ _ _ _ _) (by decide) <|
      Follows.next (State.wr_follows _ _ _) (by decide) <|
      Follows.next (State.setIsland_follows _ _ _) (by decide) <|
      Follows.begin (by decide) s t)
    (fun _ => Follows.begin (by decide) s t)

theorem execIslandRestart_leads (t isl : Nat) (ok : Bool) (s : State) :
    Leads resetParts s (execIslandRestart t isl ok s) := by
  have h0 : Follows resetParts s (s.begin t) := Follows.begin (by decide) s t
  refine Leads.next (Follows.ite (fun _ => Follows.ite (fun _ => h0) fun _ => ?block) fun _ =>
    Follows.ite (fun _ => Follows.ite (fun _ => Follows.ite (fun _ => ?backup) fun _ => ?noLock) fun _ => ?power)
      fun _ => ?unit)
  case block => exact Follows.next (State.blockRestart_follows _ _ _) (by decide) h0
  case backup => exact Follows.next (State.setBackup_follows _ _) (by decide) h0
  case noLock => exact Follows.next (State.setCause_follows _ _) (by decide) h0
  case power =>
    exact Follows.next (State.assertReset_follows _ _ _ _) (by decide) <|
      Follows.next (State.setBackup_follows _ _) (by decide) h0
  case unit => exact Follows.next (State.assertReset_follows _ _ _ _) (by decide) h0

/-! ### Chapter 02 -/

theorem execSpbPublish_leads (t fn : Nat) (side : SideIn) (s : State) :
    Leads [.now, .reg, .answers, .board] s (execSpbPublish t fn side s) :=
  Leads.next <| Follows.next (State.publishSide_follows _ _ _) (by decide) <| Follows.begin (by decide) s t

theorem execGateRequest_leads (t n : Nat) (kind : ReqKind) (m : MsgIn) (s : State) :
    Leads [.now, .reg, .answers, .mirror, .ses, .bb] s (execGateRequest t n kind m s) := by
  refine Leads.next ((Follows.begin (by decide) s t).trans
    (State.onMessage_follows _ _ _ _ _ _ (by decide) fun u => ?_))
  have hp : Follows [.now, .reg, .answers, .mirror, .ses, .bb] u (u.protect n m).2 :=
    (State.protect_follows u n m).mono (by decide)
  refine Follows.ite (fun _ => ?cls) fun _ => Follows.ite (fun _ => ?live) fun _ => Follows.ite (fun _ => ?e2e) fun _ =>
    Follows.ite (fun _ => ?full) fun hroom => ?queued
  case cls =>
    exact Follows.next (State.reply_follows _ _ _ _) (by decide) <|
      (State.gateNote_follows _ _ _ _).mono (by decide)
  case live => exact (State.notLive_follows _ _ _).mono (by decide)
  case e2e =>
    exact Follows.next (State.reply_follows _ _ _ _) (by decide) <|
      Follows.next (State.gateNote_follows _ _ _ _) (by decide) hp
  case full =>
    exact Follows.next (State.reply_follows _ _ _ _) (by decide) <|
      Follows.next (State.log_follows _ _ _ _ _ _ _) (by decide) hp
  case queued =>
    refine Follows.next (State.reply_follows _ _ _ _) (by decide) (Follows.writeGate _ (by decide) ?_ hp)
    rw [List.length_append, List.length_singleton]
    omega

theorem execMirrorSnapshotRefresh_leads (t : Nat) (s : State) :
    Leads [.now, .reg, .answers, .mirror] s (execMirrorSnapshotRefresh t s) :=
  Leads.next <| Follows.writeMirror _ (by decide) rfl <|
    Follows.next (State.showLoads_follows _) (by decide) <|
    Follows.next (State.switchTimed_follows _) (by decide) <| Follows.begin (by decide) s t

theorem execEventArrive_leads (t : Nat) (ev : EventIn) (s : State) :
    Leads [.now, .reg, .answers, .mirror, .ln, .fn, .eng, .ses, .bb, .gd] s (execEventArrive t ev s) := by
  have h0 : Follows [.now, .reg, .answers, .mirror, .ln, .fn, .eng, .ses, .bb, .gd] s (s.begin t) :=
    Follows.begin (by decide) s t
  refine Leads.next (Follows.ite (fun _ => ?own) fun _ => Follows.ite (fun _ => ?relayed) fun _ => ?arrives)
  case own => exact Follows.next (State.ownEvent_follows _ _) (by decide) h0
  case relayed => exact Follows.next (State.answer_follows _ _ _ _) (by decide) h0
  case arrives =>
    exact Follows.next (State.arrive_follows _ _) (by decide) <|
      Follows.next (State.remoteFn_follows _ _ _ _) (by decide) h0

theorem execEventRelease_leads (t : Nat) (sent : List (Nat × Nat)) (s : State) :
    Leads [.now, .reg, .answers, .mirror, .ses, .bb] s (execEventRelease t sent s) :=
  Leads.next <| Follows.next (State.releaseDue_follows _ _) (by decide) <|
    Follows.foldl sent (Follows.begin (by decide) s t) fun u p => (State.drain_follows u p.1 p.2).mono (by decide)

theorem execProtWrite_leads (t master entry rights : Nat) (s : State) :
    Leads [.now, .reg, .answers, .mirror, .prot, .ses, .bb] s (execProtWrite t master entry rights s) :=
  Leads.next <| Follows.ite
    (fun _ =>
      Follows.next (State.answer_follows _ _ _ _) (by decide) <|
      Follows.next (State.lockedWrite_follows _ _) (by decide) <| Follows.begin (by decide) s t)
    (fun _ => Follows.writeProt _ (by decide) <| Follows.begin (by decide) s t)

theorem execMasterAccess_leads (t master region offset : Nat) (write : Bool) (value : Byte) (ecc : Nat) (s : State) :
    Leads [.now, .reg, .mem, .answers, .isl, .mirror, .ecc, .tb, .lk, .obs, .ses, .bb, .fl, .gd, .ym, .cams] s
      (execMasterAccess t master region offset write value ecc s) := by
  have h0 : Follows [.now, .reg, .mem, .answers, .isl, .mirror, .ecc, .tb, .lk, .obs, .ses, .bb, .fl, .gd, .ym, .cams]
      s (s.begin t) := Follows.begin (by decide) s t
  refine Leads.ite (fun _ => Leads.next ?denied) fun _ => Leads.ite (fun _ => Leads.fault _) fun _ =>
    Leads.ite (fun _ => Leads.next ?uncorrectable) fun _ => ?served
  case denied =>
    refine Follows.next (State.denyAccess_follows _ _ _ _) (by decide) (Follows.ite (fun _ => ?_) fun _ => h0)
    exact Follows.next (State.lockedWrite_follows _ _) (by decide) h0
  case uncorrectable =>
    exact Follows.next (State.answer_follows _ _ _ _) (by decide) <|
      Follows.next (State.restartBlock_follows _ _) (by decide) <|
      Follows.next (State.log_follows _ _ _ _ _ _ _) (by decide) h0
  case served =>
    extract_lets u
    have hu : Follows [.now, .reg, .mem, .answers, .isl, .mirror, .ecc, .tb, .lk, .obs, .ses, .bb, .fl, .gd, .ym, .cams]
        s u := Follows.ite (fun _ => Follows.next (State.eccCorrected_follows _ _ _) (by decide) h0) fun _ => h0
    refine Leads.ite (fun _ => Leads.next ?_) fun _ => Leads.next ?_
    · exact Follows.next (State.answer_follows _ _ _ _) (by decide) (Follows.writeMem _ _ (by decide) hu)
    · exact Follows.next (State.answer_follows _ _ _ _) (by decide) hu

theorem execSramScrub_leads (t part offset ecc : Nat) (entry : Option Nat) (s : State) :
    Leads [.now, .reg, .answers, .isl, .mirror, .ecc, .tb, .ln, .fn, .eng, .lk, .obs, .ses, .bb, .fl, .gd, .ym, .cams] s
      (execSramScrub t part offset ecc entry s) := by
  have h0 : Follows [.now, .reg, .answers, .isl, .mirror, .ecc, .tb, .ln, .fn, .eng, .lk, .obs, .ses, .bb, .fl, .gd,
      .ym, .cams] s (s.begin t) := Follows.begin (by decide) s t
  refine Leads.next (Follows.ite (fun _ => ?corrected) fun _ => Follows.ite (fun _ => ?uncorrectable) fun _ => h0)
  case corrected => exact Follows.next (State.eccCorrected_follows _ _ _) (by decide) h0
  case uncorrectable =>
    cases entry with
    | some slot =>
      exact Follows.next (State.destroyEntry_follows _ _) (by decide) <|
        Follows.next (State.log_follows _ _ _ _ _ _ _) (by decide) h0
    | none =>
      exact Follows.next (State.restartBlock_follows _ _) (by decide) <|
        Follows.next (State.log_follows _ _ _ _ _ _ _) (by decide) h0

theorem execDramSlotDecision_leads (t : Nat) (asking : List Nat) (s : State) :
    Leads [.now, .reg, .answers, .arb] s (execDramSlotDecision t asking s) := by
  unfold execDramSlotDecision
  extract_lets u limit a w u1 u2
  have h2 : Follows [.now, .reg, .answers, .arb] s u2 :=
    Follows.foldl asking (Follows.writeArb _ (by decide) (Follows.begin (by decide) s t)) fun v q =>
      (State.raise_follows v _ _).mono (by decide)
  refine Leads.next ?_
  clear_value w u2
  split
  · exact Follows.next (State.bump_follows _ _ _) (by decide) h2
  · exact h2

theorem execDramPrioWrite_leads (t n q v : Nat) (s : State) :
    Leads [.now, .reg, .answers, .mirror, .ses, .amend, .bb] s (execDramPrioWrite t n q v s) :=
  Leads.next <| State.gated_follows _ _ _ _ _ _ (by decide) fun u =>
    (State.liveWrite_follows u n _ v _).mono (by decide)

theorem execEventSubscribe_leads (t n : Nat) (m : MsgIn) (s : State) :
    Leads [.now, .reg, .answers, .mirror, .ses, .bb] s (execEventSubscribe t n m s) :=
  Leads.next <| (Follows.begin (by decide) s t).trans <| State.onMessage_follows _ _ _ _ _ _ (by decide) fun u =>
    Follows.next (State.reply_follows _ _ _ _) (by decide) <| (State.setSession_follows u n _).mono (by decide)

/-! ### Chapter 03, "Harvest time" -/

theorem execGnssTimeUpdate_leads (t : Nat) (toff : Int) (terr : Nat) (valid queuesEmpty : Bool) (s : State) :
    Leads [.now, .reg, .answers, .mirror, .tb, .whistle, .ln, .fn, .lk, .ses, .bb, .gd] s
      (execGnssTimeUpdate t toff terr valid queuesEmpty s) := by
  have h0 : Follows [.now, .reg, .answers, .mirror, .tb, .whistle, .ln, .fn, .lk, .ses, .bb, .gd] s (s.begin t) :=
    Follows.begin (by decide) s t
  refine Leads.next (Follows.ite (fun _ => h0) fun _ => Follows.ite (fun _ => ?lost) fun _ =>
    Follows.ite (fun _ => ?locked) fun _ => Follows.ite (fun _ => ?slewing) fun _ => ?back)
  case lost =>
    exact Follows.next (State.timeRegs_follows _) (by decide) (Follows.writeTb _ (by decide) id h0)
  case locked =>
    exact Follows.next (State.timeRegs_follows _) (by decide) <|
      Follows.next (State.trim_follows _ _) (by decide) (Follows.writeTb _ (by decide) id h0)
  case slewing =>
    exact Follows.next (State.timeRegs_follows _) (by decide) (Follows.writeTb _ (by decide) id h0)
  case back =>
    exact Follows.next (State.timeRegs_follows _) (by decide) <|
      Follows.next (State.sourceBack_follows _ _ _) (by decide) h0

theorem execPendingStep_leads (t : Nat) (err : Int) (queuesEmpty : Bool) (s : State) :
    Leads [.now, .reg, .answers, .mirror, .tb, .whistle, .ln, .fn, .lk, .ses, .bb, .gd] s
      (execPendingStep t err queuesEmpty s) := by
  have h0 : Follows [.now, .reg, .answers, .mirror, .tb, .whistle, .ln, .fn, .lk, .ses, .bb, .gd] s (s.begin t) :=
    Follows.begin (by decide) s t
  have hstep := Follows.next (State.doStep_follows (s.begin t) err) (by decide) h0
  refine Leads.next (Follows.ite (fun _ => ?_) fun _ => h0)
  exact Follows.next (State.timeRegs_follows _) (by decide) <|
    Follows.ite (fun _ => Follows.next (State.becomeGood_follows _ _) (by decide) hstep) fun _ => hstep

theorem execSlewEnd_leads (t : Nat) (resid : Int) (s : State) :
    Leads [.now, .reg, .answers, .mirror, .tb, .whistle, .ln, .fn, .ses, .bb] s (execSlewEnd t resid s) := by
  have h0 : Follows [.now, .reg, .answers, .mirror, .tb, .whistle, .ln, .fn, .ses, .bb] s (s.begin t) :=
    Follows.begin (by decide) s t
  have h1 := Follows.next (State.wr_follows ((s.begin t).reanchor 0 0) R.TB_STAT_SLEWING 0) (by decide)
    (Follows.next (State.reanchor_follows _ _ _) (by decide) h0)
  refine Leads.next (Follows.ite (fun _ => h0) fun _ => Follows.ite (fun _ => ?noSource) fun _ =>
    Follows.ite (fun _ => ?good) fun _ => ?again)
  case noSource => exact Follows.next (State.timeRegs_follows _) (by decide) h1
  case good =>
    exact Follows.next (State.timeRegs_follows _) (by decide) <|
      Follows.next (State.becomeGood_follows _ _) (by decide) <|
      Follows.next (State.wr_follows _ _ _) (by decide) h1
  case again =>
    exact Follows.next (State.timeRegs_follows _) (by decide) <|
      Follows.next (State.wr_follows _ _ _) (by decide) <|
      Follows.next (State.startSlew_follows _ _) (by decide) <|
      Follows.next (State.wr_follows _ _ _) (by decide) h1

theorem execHoldoverEntry_leads (t : Nat) (s : State) :
    Leads [.now, .reg, .answers, .mirror, .tb, .ses, .bb] s (execHoldoverEntry t s) := by
  have h0 : Follows [.now, .reg, .answers, .mirror, .tb, .ses, .bb] s (s.begin t) := Follows.begin (by decide) s t
  refine Leads.next (Follows.ite (fun _ => h0) fun _ => Follows.ite (fun _ => ?locked) fun _ =>
    Follows.ite (fun _ => ?slewing) fun _ => h0)
  case locked =>
    exact Follows.next (State.timeRegs_follows _) (by decide) <|
      Follows.next (State.enterHoldover_follows _) (by decide) h0
  case slewing =>
    exact Follows.next (State.timeRegs_follows _) (by decide) <|
      Follows.next (State.abandonSlew_follows _) (by decide) h0

theorem execHoldoverExpire_leads (t : Nat) (s : State) :
    Leads [.now, .reg, .answers, .mirror, .tb, .ses, .bb] s (execHoldoverExpire t s) := by
  have h0 : Follows [.now, .reg, .answers, .mirror, .tb, .ses, .bb] s (s.begin t) := Follows.begin (by decide) s t
  refine Leads.next (Follows.ite (fun _ => ?_) fun _ => h0)
  exact Follows.next (State.timeRegs_follows _) (by decide) <|
    Follows.next (State.setQual_follows _ _) (by decide) (Follows.writeTb _ (by decide) id h0)

theorem execPpsEdge_leads (t : Nat) (s : State) : Leads [.now, .answers, .tb] s (execPpsEdge t s) := by
  have h0 : Follows [.now, .answers, .tb] s (s.begin t) := Follows.begin (by decide) s t
  refine Leads.next (Follows.ite (fun _ => ?_) fun _ => h0)
  exact Follows.next (State.answer_follows _ _ _ _) (by decide) <|
    Follows.next (State.answer_follows _ _ _ _) (by decide) (Follows.writeTb _ (by decide) id h0)

/-- Stamps of pin EVT that the core takes make room. -/
theorem takenStamps_follows (s : State) (t taken : Nat) :
    Follows [.now, .answers, .tb] s { s.begin t with tb := { s.tb with evtHeld := s.tb.evtHeld.drop taken } } :=
  Follows.writeTb (u := s.begin t) _ (by decide)
    (fun h => Nat.le_trans (by rw [List.length_drop]; exact Nat.sub_le _ _) h) (Follows.begin (by decide) s t)

theorem execEvtEdge_leads (t : Nat) (rising : Bool) (width taken : Nat) (s : State) :
    Leads [.now, .reg, .answers, .mirror, .tb, .ses, .bb] s (execEvtEdge t rising width taken s) := by
  have h1 : Follows [.now, .reg, .answers, .mirror, .tb, .ses, .bb] s
      { s.begin t with tb := { s.tb with evtHeld := s.tb.evtHeld.drop taken } } :=
    (takenStamps_follows s t taken).mono (by decide)
  refine Leads.next (Follows.ite (fun _ => Follows.ite (fun hroom => ?stamped) fun _ => ?dropped) fun _ => h1)
  case stamped =>
    refine Follows.next (State.ownEvent_follows _ _) (by decide) (Follows.writeTb _ (by decide) (fun _ => ?_) h1)
    rw [List.length_append, List.length_singleton]
    exact hroom
  case dropped => exact Follows.writeTb _ (by decide) id h1

theorem execTbEvtOverrun_leads (t taken : Nat) (s : State) :
    Leads [.now, .reg, .answers, .mirror, .tb, .ses, .bb] s (execTbEvtOverrun t taken s) := by
  have h1 : Follows [.now, .reg, .answers, .mirror, .tb, .ses, .bb] s
      { s.begin t with tb := { s.tb with evtHeld := s.tb.evtHeld.drop taken } } :=
    (takenStamps_follows s t taken).mono (by decide)
  refine Leads.next (Follows.ite (fun _ => ?_) fun _ => h1)
  exact Follows.next (State.log_follows _ _ _ _ _ _ _) (by decide) (Follows.writeTb _ (by decide) id h1)

theorem execHarvestTimeSave_leads (t : Nat) (s : State) : Leads [.now, .answers, .tb] s (execHarvestTimeSave t s) :=
  Leads.next <| Follows.ite (fun _ => Follows.writeTb _ (by decide) id (Follows.begin (by decide) s t))
    (fun _ => Follows.begin (by decide) s t)

theorem execRtcCalibration_leads (t : Nat) (s : State) : Leads [.now, .answers, .tb] s (execRtcCalibration t s) :=
  Leads.next <| Follows.ite
    (fun _ => Follows.next (State.calibrateRtc_follows _) (by decide) (Follows.begin (by decide) s t))
    (fun _ => Follows.begin (by decide) s t)

/-! ### Chapter 03, the Whistle -/

/-- A TICK or a SECOND sent, and VALID of its port set. -/
theorem markerSent_follows (s : State) (t port typ aux : Nat) :
    Follows [.now, .reg, .answers, .whistle] s (((s.begin t).sendWhistle port typ aux).wr (R.TB_WH_VALID port) 1) :=
  Follows.next (State.wr_follows _ _ _) (by decide) <|
    Follows.next (State.sendWhistle_follows _ _ _ _) (by decide) <| Follows.begin (by decide) s t

theorem execTick_leads (t port : Nat) (s : State) :
    Leads [.now, .reg, .answers, .whistle] s (execTick t port s) :=
  Leads.next <| Follows.ite (fun _ => markerSent_follows s t port 1 _) (fun _ => Follows.begin (by decide) s t)

theorem execSecond_leads (t port : Nat) (s : State) :
    Leads [.now, .reg, .answers, .whistle] s (execSecond t port s) :=
  Leads.next <| Follows.ite (fun _ => markerSent_follows s t port 2 _) (fun _ => Follows.begin (by decide) s t)

theorem execWhistleFrameRx_leads (t port : Nat) (bytes : List Nat) (marker : Int) (s : State) :
    Leads [.now, .reg, .answers, .mirror, .tb, .whistle, .ln, .lk, .ses, .bb, .gd] s
      (execWhistleFrameRx t port bytes marker s) := by
  have h0 : Follows [.now, .reg, .answers, .mirror, .tb, .whistle, .ln, .lk, .ses, .bb, .gd] s (s.begin t) :=
    Follows.begin (by decide) s t
  refine Leads.next (Follows.ite (fun _ => h0) fun _ => Follows.ite (fun _ => ?invalid) fun _ =>
    Follows.ite (fun _ => ?marker) fun _ => Follows.ite (fun _ => ?request) fun _ => h0)
  case invalid => exact Follows.next (State.setWh_follows _ _ _) (by decide) h0
  case marker =>
    exact Follows.next (State.timeRegs_follows _) (by decide) <|
      Follows.next (State.followMarker_follows _ _ _ _ _) (by decide) h0
  case request => exact Follows.next (State.setWh_follows _ _ _) (by decide) h0

/-- A port's state written and a frame sent on it. -/
theorem frameSent_follows (s : State) (t port typ aux : Nat) (v : WhistleS) :
    Follows [.now, .answers, .whistle] s (((s.begin t).setWh port v).sendWhistle port typ aux) :=
  Follows.next (State.sendWhistle_follows _ _ _ _) (by decide) <|
    Follows.next (State.setWh_follows _ _ _) (by decide) <| Follows.begin (by decide) s t

theorem execRtReq_leads (t port : Nat) (fresh : Bool) (s : State) :
    Leads [.now, .answers, .whistle] s (execRtReq t port fresh s) :=
  Leads.next <| Follows.ite (fun _ => frameSent_follows s t port 3 0 _) (fun _ => Follows.begin (by decide) s t)

theorem execRtRep_leads (t port : Nat) (s : State) : Leads [.now, .answers, .whistle] s (execRtRep t port s) := by
  have h0 : Follows [.now, .answers, .whistle] s (s.begin t) := Follows.begin (by decide) s t
  unfold execRtRep
  refine Leads.next ?_
  split
  · exact Follows.ite (fun _ => h0) fun _ => frameSent_follows s t port 4 0 _
  · exact h0

theorem execRtRepRx_leads (t port : Nat) (bytes : List Nat) (tB : Int) (s : State) :
    Leads [.now, .reg, .answers, .mirror, .whistle, .ses, .bb] s (execRtRepRx t port bytes tB s) := by
  have h0 : Follows [.now, .reg, .answers, .mirror, .whistle, .ses, .bb] s (s.begin t) :=
    Follows.begin (by decide) s t
  unfold execRtRepRx
  refine Leads.next ?_
  split
  · exact Follows.ite (fun _ => Follows.next (State.roundTrip_follows _ _ _) (by decide) h0) fun _ => h0
  · exact h0

theorem execTimeStatusMessage_leads (t err qual : Nat) (s : State) :
    Leads [.now, .reg, .answers, .tb] s (execTimeStatusMessage t err qual s) := by
  have h0 : Follows [.now, .reg, .answers, .tb] s (s.begin t) := Follows.begin (by decide) s t
  refine Leads.next <| Follows.next (State.timeRegs_follows _) (by decide) <| Follows.foldl _ ?taken fun u p => ?told
  case taken => exact Follows.ite (fun _ => Follows.writeTb _ (by decide) id h0) fun _ => h0
  case told =>
    exact Follows.ite (fun _ => (State.answer_follows _ _ _ _).mono (by decide)) fun _ => Follows.rfl' _ u

theorem execTimeStatusLate_leads (t : Nat) (s : State) :
    Leads [.now, .reg, .answers] s (execTimeStatusLate t s) :=
  Leads.next <| Follows.next (State.timeRegs_follows _) (by decide) <| Follows.begin (by decide) s t

theorem execTbWhLoss_leads (t port : Nat) (s : State) :
    Leads [.now, .reg, .answers, .mirror, .tb, .whistle, .ln, .ses, .bb] s (execTbWhLoss t port s) := by
  have h0 : Follows [.now, .reg, .answers, .mirror, .tb, .whistle, .ln, .ses, .bb] s (s.begin t) :=
    Follows.begin (by decide) s t
  unfold execTbWhLoss
  refine Leads.next (Follows.ite (fun _ => h0) fun _ => ?_)
  extract_lets u v
  have hu : Follows [.now, .reg, .answers, .mirror, .tb, .whistle, .ln, .ses, .bb] s u :=
    Follows.next (State.bump_follows _ _ _) (by decide) <| Follows.next (State.wrs_follows _ _) (by decide) h0
  have hv : Follows [.now, .reg, .answers, .mirror, .tb, .whistle, .ln, .ses, .bb] s v :=
    Follows.ite (fun _ => Follows.next (State.enterHoldover_follows _) (by decide) hu) fun _ =>
      Follows.ite (fun _ => Follows.next (State.abandonSlew_follows _) (by decide) hu) fun _ => hu
  clear_value v
  exact Follows.next (State.timeRegs_follows _) (by decide) <|
    Follows.next (State.log_follows _ _ _ _ _ _ _) (by decide) <|
    Follows.writeLoss _ _ _ (by decide) rfl hv

theorem execWhistleReturn_leads (t port : Nat) (err : Int) (s : State) :
    Leads [.now, .reg, .answers, .mirror, .tb, .whistle, .ln, .fn, .lk, .ses, .bb, .gd] s
      (execWhistleReturn t port err s) := by
  have h0 : Follows [.now, .reg, .answers, .mirror, .tb, .whistle, .ln, .fn, .lk, .ses, .bb, .gd] s (s.begin t) :=
    Follows.begin (by decide) s t
  unfold execWhistleReturn
  refine Leads.next (Follows.ite (fun _ => h0) fun _ => ?_)
  extract_lets _ u v
  have hv : Follows [.now, .reg, .answers, .mirror, .tb, .whistle, .ln, .fn, .lk, .ses, .bb, .gd] s v :=
    Follows.next (State.wr_follows u _ _) (by decide) <| Follows.next (State.setWh_follows _ _ _) (by decide) h0
  refine Follows.ite (fun _ => ?joins) fun _ => Follows.ite (fun _ => ?slewing) fun _ => ?back
  case joins =>
    exact Follows.next (State.timeRegs_follows _) (by decide) <|
      Follows.next (State.wr_follows _ _ _) (by decide) <|
      Follows.writeTb _ (by decide) id <| Follows.next (State.doStep_follows _ _) (by decide) hv
  case slewing => exact Follows.next (State.timeRegs_follows _) (by decide) hv
  case back =>
    exact Follows.next (State.timeRegs_follows _) (by decide) <|
      Follows.next (State.sourceBack_follows _ _ _) (by decide) hv

/-! ### Chapter 03, launches -/

theorem execPeriodicFire_leads (t gen : Nat) (instant : Int) (reading : ReadingIn) (axes : List Nat) (imuFault : Bool)
    (s : State) : Leads [.now, .free, .reg, .answers, .ln, .ui, .imu, .cams] s
      (execPeriodicFire t gen instant reading axes imuFault s) :=
  Leads.next <| Follows.ite (fun _ => Follows.begin (by decide) s t) fun _ =>
    Follows.next (State.firePeriodic_follows _ _ _ _ _ _) (by decide) <|
    Follows.next (State.noteFire_follows _ _ _) (by decide) <| Follows.begin (by decide) s t

theorem execLnInsert_leads (t n unit : Nat) (entry : EntryIn) (remote : Nat × List Int) (s : State) :
    Leads [.now, .reg, .answers, .mirror, .ln, .vd, .fn, .lk, .ses, .bb] s (execLnInsert t n unit entry remote s) :=
  Leads.next <| State.gated_follows _ _ _ _ _ _ (by decide) fun u =>
    (State.insertEntry_follows u n unit entry remote).mono (by decide)

theorem execOneshotArm_leads (t slot ecc : Nat) (s : State) :
    Leads [.now, .reg, .answers, .mirror, .ecc, .ln, .fn, .eng, .ses, .bb, .gd] s (execOneshotArm t slot ecc s) := by
  have h0 : Follows [.now, .reg, .answers, .mirror, .ecc, .ln, .fn, .eng, .ses, .bb, .gd] s (s.begin t) :=
    Follows.begin (by decide) s t
  unfold execOneshotArm
  refine Leads.next (Follows.ite (fun _ => h0) fun _ => Follows.ite (fun _ => ?destroyed) fun _ => ?armed)
  case destroyed =>
    exact Follows.next (State.destroyEntry_follows _ _) (by decide) <|
      Follows.next (State.log_follows _ _ _ _ _ _ _) (by decide) h0
  case armed =>
    extract_lets u
    have hu : Follows [.now, .reg, .answers, .mirror, .ecc, .ln, .fn, .eng, .ses, .bb, .gd] s u :=
      Follows.ite (fun _ => Follows.next (State.eccCorrected_follows _ _ _) (by decide) h0) fun _ => h0
    exact Follows.ite (fun _ => Follows.next (State.setSlot_follows _ _ _) (by decide) hu) fun _ => hu

theorem execOneshotFire_leads (t slot : Nat) (s : State) :
    Leads [.now, .reg, .answers, .mirror, .ln, .vd, .fn, .lk, .ses, .bb] s (execOneshotFire t slot s) := by
  have h0 : Follows [.now, .reg, .answers, .mirror, .ln, .vd, .fn, .lk, .ses, .bb] s (s.begin t) :=
    Follows.begin (by decide) s t
  refine Leads.next (Follows.ite (fun _ => h0) fun _ => Follows.ite (fun _ => ?dropped) fun _ => ?fired)
  case dropped => exact Follows.next (State.dropSlot_follows _ _) (by decide) h0
  case fired => exact Follows.next (State.fireSlot_follows _ _ _) (by decide) h0

theorem execLnCancel_leads (t n handle : Nat) (s : State) :
    Leads [.now, .reg, .answers, .mirror, .ln, .ses, .bb] s (execLnCancel t n handle s) := by
  refine Leads.next (State.gated_follows _ _ _ _ _ _ (by decide) fun u => ?_)
  have hreply (c : Nat) (l : List Int) : Follows [.now, .reg, .answers, .mirror, .ln, .ses, .bb] u (u.reply n c l) :=
    (State.reply_follows u n c l).mono (by decide)
  refine Follows.ite (fun _ => hreply _ _) fun _ => Follows.ite (fun _ => hreply _ _) fun _ =>
    Follows.ite (fun _ => Follows.ite (fun _ => ?inTime) fun _ => hreply _ _) fun _ =>
      Follows.ite (fun _ => hreply _ _) fun _ => hreply _ _
  exact Follows.next (State.reply_follows _ _ _ _) (by decide) ((State.setSlot_follows _ _ _).mono (by decide))

theorem execLnCohCancel_leads (t : Nat) (s : State) :
    Leads [.now, .reg, .answers, .mirror, .ln, .fn, .eng, .ses, .bb, .gd] s (execLnCohCancel t s) := by
  have h0 : Follows [.now, .reg, .answers, .mirror, .ln, .fn, .eng, .ses, .bb, .gd] s (s.begin t) :=
    Follows.begin (by decide) s t
  unfold execLnCohCancel
  refine Leads.next ?_
  split
  · exact h0
  · refine Follows.ite (fun _ => h0) fun _ => ?_
    exact Follows.next (State.log_follows _ _ _ _ _ _ _) (by decide) <| Follows.foldl _
      (Follows.writeLn _ (by decide) <| Follows.next (State.wr_follows _ _ _) (by decide) <|
        Follows.next (State.cancelWhere_follows _ _) (by decide) h0)
      fun u f => (State.stopFn_follows u f 3 none).mono (by decide)

/-! ### The frame -/

/-- A command of chapters 1 to 3 changes no part but those that `touched` lists for it, and keeps the bounds. -/
theorem exec_leads_of_planes {i : Instr} (hi : chapterOf i ∈ [1, 2, 3]) (s : State) :
    Leads (touched i) s (exec i s) := by
  cases i with
  | canaryWindowEnd t laps => exact execCanaryWindowEnd_leads t laps s
  | islClock t isl edges => exact execIslClock_leads t isl edges s
  | crossingTransfer t isl req d data reads => exact execCrossingTransfer_leads t isl req d data reads s
  | islStall t isl req d => exact execIslStall_leads t isl req d s
  | fifoResync t isl => exact execFifoResync_leads t isl s
  | islResyncFail t isl => exact execIslResyncFail_leads t isl s
  | islandRestart t isl ok => exact execIslandRestart_leads t isl ok s
  | spbPublish t fn side => exact execSpbPublish_leads t fn side s
  | gateRequest t n kind m => exact execGateRequest_leads t n kind m s
  | mirrorSnapshotRefresh t => exact execMirrorSnapshotRefresh_leads t s
  | eventArrive t ev => exact execEventArrive_leads t ev s
  | eventRelease t sent => exact execEventRelease_leads t sent s
  | protWrite t master entry rights => exact execProtWrite_leads t master entry rights s
  | masterAccess t master region offset write value ecc =>
    exact execMasterAccess_leads t master region offset write value ecc s
  | sramScrub t part offset ecc entry => exact execSramScrub_leads t part offset ecc entry s
  | dramSlotDecision t asking => exact execDramSlotDecision_leads t asking s
  | dramPrioWrite t n q v => exact execDramPrioWrite_leads t n q v s
  | eventSubscribe t n m => exact execEventSubscribe_leads t n m s
  | gnssTimeUpdate t toff terr valid empty => exact execGnssTimeUpdate_leads t toff terr valid empty s
  | pendingStep t err empty => exact execPendingStep_leads t err empty s
  | slewEnd t resid => exact execSlewEnd_leads t resid s
  | holdoverEntry t => exact execHoldoverEntry_leads t s
  | holdoverExpire t => exact execHoldoverExpire_leads t s
  | ppsEdge t => exact execPpsEdge_leads t s
  | evtEdge t rising width taken => exact execEvtEdge_leads t rising width taken s
  | tbEvtOverrun t taken => exact execTbEvtOverrun_leads t taken s
  | harvestTimeSave t => exact execHarvestTimeSave_leads t s
  | rtcCalibration t => exact execRtcCalibration_leads t s
  | tick t port => exact execTick_leads t port s
  | second t port => exact execSecond_leads t port s
  | whistleFrameRx t port bytes marker => exact execWhistleFrameRx_leads t port bytes marker s
  | rtReq t port fresh => exact execRtReq_leads t port fresh s
  | rtRep t port => exact execRtRep_leads t port s
  | rtRepRx t port bytes tB => exact execRtRepRx_leads t port bytes tB s
  | timeStatusMessage t err qual => exact execTimeStatusMessage_leads t err qual s
  | timeStatusLate t => exact execTimeStatusLate_leads t s
  | tbWhLoss t port => exact execTbWhLoss_leads t port s
  | whistleReturn t port err => exact execWhistleReturn_leads t port err s
  | periodicFire t gen instant reading axes fault => exact execPeriodicFire_leads t gen instant reading axes fault s
  | lnInsert t n unit entry remote => exact execLnInsert_leads t n unit entry remote s
  | oneshotArm t slot ecc => exact execOneshotArm_leads t slot ecc s
  | oneshotFire t slot => exact execOneshotFire_leads t slot s
  | lnCancel t n handle => exact execLnCancel_leads t n handle s
  | lnCohCancel t => exact execLnCohCancel_leads t s
  | _ => simp [chapterOf] at hi

/-- Settles O17: the frame half of what each command of chapters 1 to 3 may change. -/
theorem framesOfPlanesAndTime : Obligations.FramesOfPlanesAndTime := by
  unfold Obligations.FramesOfPlanesAndTime
  intro i s u hi hu
  exact (exec_leads_of_planes hi s u hu).frame

end Sys2Proof.Machine
end

section
/-! SUPPORT. The calculus of `Follows` read along a meaning: an operation after what came before it, both branches of a
condition, a state named on the way, a request at the gate, a message, a part written in place. -/

namespace Sys2Proof.Machine

section Calculus

variable {l m : List Part} {s t u v : State}

theorem Follows.same : Follows l s s := Follows.rfl' l s

/-- An operation that allows no more parts, after what came before it. -/
theorem Follows.after (k : Follows m u v) (h : Follows l s u) (hm : m ⊆ l := by decide) : Follows l s v :=
  h.trans (k.mono hm)

/-- Both branches of a condition that does not matter to what may change. -/
theorem Follows.either {c : Prop} [Decidable c] (h : Follows l s u) (k : Follows l s v) :
    Follows l s (if c then u else v) := Follows.ite (fun _ => h) (fun _ => k)

/-- Through a state that both halves name. -/
theorem Follows.via (u : State) (h : Follows l s u) (k : Follows l u v) : Follows l s v := h.trans k

/-- A command that begins, then does what its effect does. -/
theorem Leads.begin (t : Nat) (h : Follows l (s.begin t) u) (hl : [.now, .answers] ⊆ l := by decide) :
    Leads l s (.next u) := Leads.next ((Follows.begin hl s t).trans h)

theorem Leads.either {c : Prop} [Decidable c] {o p : Host.Outcome State Fault Refusal} (h : Leads l s o)
    (k : Leads l s p) : Leads l s (if c then o else p) := Leads.ite (fun _ => h) (fun _ => k)

/-- A request at the mode gate (02 R57). -/
theorem Leads.gated {t n : Nat} {kind : ReqKind} {act : State → State} (h : ∀ u, Follows l u (act u))
    (hl : [.now, .reg, .answers, .mirror, .ses, .bb] ⊆ l := by decide) : Leads l s (.next (s.gated t n kind act)) :=
  Leads.next (State.gated_follows l s t n kind act hl h)

/-- A message of a session (13 R444). -/
theorem Leads.onMessage {t n svc : Nat} {m : MsgIn} {act : State → State} (h : ∀ u, Follows l u (act u))
    (hl : [.now, .reg, .answers, .mirror, .ses, .bb] ⊆ l := by decide) :
    Leads l s (.next ((s.begin t).onMessage n svc m act)) :=
  Leads.begin t (State.onMessage_follows l _ n svc m act (List.Subset.trans (by decide) hl) h)
    (List.Subset.trans (by decide) hl)

/-- A command to a valve (10 R358). -/
theorem Follows.valveCommand {ch src : Nat} {ok : Bool} {act : State → State} (h : Follows l s u)
    (k : ∀ v, Follows l v (act v))
    (hl : [.reg, .answers, .mirror, .ln, .vd, .ls, .fn, .eng, .ses, .bb, .md, .gd] ⊆ l := by decide) :
    Follows l s (u.valveCommand ch src ok act) :=
  h.trans (State.valveCommand_follows l u ch src ok act hl k)

end Calculus

/-! ### Parts written in place that no bound speaks of -/

section Write

variable {l : List Part} {s u : State}

theorem Follows.writeAnswers {v : List Answer} (h : Follows l s u) (hl : .answers ∈ l := by decide) :
    Follows l s { u with answers := v } :=
  h.write [.answers] (by simpa using hl) (fun p hp => by cases p <;> simp_all [Part.same]) fun b => { b with }

theorem Follows.writeFl {v : FleetS} (h : Follows l s u) (hl : .fl ∈ l := by decide) :
    Follows l s { u with fl := v } :=
  h.write [.fl] (by simpa using hl) (fun p hp => by cases p <;> simp_all [Part.same]) fun b => { b with }

theorem Follows.writeGd {v : GuideS} (h : Follows l s u) (hl : .gd ∈ l := by decide) :
    Follows l s { u with gd := v } :=
  h.write [.gd] (by simpa using hl) (fun p hp => by cases p <;> simp_all [Part.same]) fun b => { b with }

theorem Follows.writeGn {v : GnssS} (h : Follows l s u) (hl : .gn ∈ l := by decide) :
    Follows l s { u with gn := v } :=
  h.write [.gn] (by simpa using hl) (fun p hp => by cases p <;> simp_all [Part.same]) fun b => { b with }

theorem Follows.writeHmp {v : HamperS} (h : Follows l s u) (hl : .hmp ∈ l := by decide) :
    Follows l s { u with hmp := v } :=
  h.write [.hmp] (by simpa using hl) (fun p hp => by cases p <;> simp_all [Part.same]) fun b => { b with }

theorem Follows.writeEng {v : EnginesS} (h : Follows l s u) (hl : .eng ∈ l := by decide) :
    Follows l s { u with eng := v } :=
  h.write [.eng] (by simpa using hl) (fun p hp => by cases p <;> simp_all [Part.same]) fun b => { b with }

theorem Follows.writeLk {v : LinksS} (h : Follows l s u) (hl : .lk ∈ l := by decide) :
    Follows l s { u with lk := v } :=
  h.write [.lk] (by simpa using hl) (fun p hp => by cases p <;> simp_all [Part.same]) fun b => { b with }

theorem Follows.writeMd {v : ModeS} (h : Follows l s u) (hl : .md ∈ l := by decide) :
    Follows l s { u with md := v } :=
  h.write [.md] (by simpa using hl) (fun p hp => by cases p <;> simp_all [Part.same]) fun b => { b with }

theorem Follows.writeObs {v : ObsS} (h : Follows l s u) (hl : .obs ∈ l := by decide) :
    Follows l s { u with obs := v } :=
  h.write [.obs] (by simpa using hl) (fun p hp => by cases p <;> simp_all [Part.same]) fun b => { b with }

theorem Follows.writeOpt {v : OptS} (h : Follows l s u) (hl : .opt ∈ l := by decide) :
    Follows l s { u with opt := v } :=
  h.write [.opt] (by simpa using hl) (fun p hp => by cases p <;> simp_all [Part.same]) fun b => { b with }

theorem Follows.writePc {v : PostcardS} (h : Follows l s u) (hl : .pc ∈ l := by decide) :
    Follows l s { u with pc := v } :=
  h.write [.pc] (by simpa using hl) (fun p hp => by cases p <;> simp_all [Part.same]) fun b => { b with }

theorem Follows.writePwr {v : PowerS} (h : Follows l s u) (hl : .pwr ∈ l := by decide) :
    Follows l s { u with pwr := v } :=
  h.write [.pwr] (by simpa using hl) (fun p hp => by cases p <;> simp_all [Part.same]) fun b => { b with }

theorem Follows.writeRst {v : RstS} (h : Follows l s u) (hl : .rst ∈ l := by decide) :
    Follows l s { u with rst := v } :=
  h.write [.rst] (by simpa using hl) (fun p hp => by cases p <;> simp_all [Part.same]) fun b => { b with }

theorem Follows.writeUpd {v : UpdateS} (h : Follows l s u) (hl : .upd ∈ l := by decide) :
    Follows l s { u with upd := v } :=
  h.write [.upd] (by simpa using hl) (fun p hp => by cases p <;> simp_all [Part.same]) fun b => { b with }

theorem Follows.writeVd {v : ValvesS} (h : Follows l s u) (hl : .vd ∈ l := by decide) :
    Follows l s { u with vd := v } :=
  h.write [.vd] (by simpa using hl) (fun p hp => by cases p <;> simp_all [Part.same]) fun b => { b with }

theorem Follows.writeYm {v : YieldS} (h : Follows l s u) (hl : .ym ∈ l := by decide) :
    Follows l s { u with ym := v } :=
  h.write [.ym] (by simpa using hl) (fun p hp => by cases p <;> simp_all [Part.same]) fun b => { b with }

/-- The power die's side of walk-home written, with no more events held than before (R407). -/
theorem Follows.writeLs {v : WalkS} (h : Follows l s u)
    (hv : v.held.length ≤ u.ls.held.length := by exact le_rfl) (hl : .ls ∈ l := by decide) :
    Follows l s { u with ls := v } :=
  h.write [.ls] (by simpa using hl) (fun p hp => by cases p <;> simp_all [Part.same]) fun b =>
    { b with held := hv.trans b.held }

/-- The black box written, with no more records in its queue than before (R535). -/
theorem Follows.writeBb {v : BlackBoxS} (h : Follows l s u)
    (hv : v.queue.length ≤ u.bb.queue.length := by exact le_rfl) (hl : .bb ∈ l := by decide) :
    Follows l s { u with bb := v } :=
  h.write [.bb] (by simpa using hl) (fun p hp => by cases p <;> simp_all [Part.same]) fun b =>
    { b with records := hv.trans b.records }

/-- The end-to-end records written (13 R464). -/
theorem Follows.writeAlive {v : List AliveS} (h : Follows l s u) (hl : .ses ∈ l := by decide) :
    Follows l s { u with ses := { u.ses with alive := v } } :=
  h.write [.ses] (by simpa using hl) (fun p hp => by cases p <;> simp_all [Part.same]) fun b => { b with }

/-! ### Parts written together -/

theorem Follows.writeMdHmp {v : ModeS} {w : HamperS} (h : Follows l s u) (hl : [.md, .hmp] ⊆ l := by decide) :
    Follows l s { u with md := v, hmp := w } :=
  h.write [.md, .hmp] hl (fun p hp => by cases p <;> simp_all [Part.same]) fun b => { b with }

theorem Follows.writeHmpUpd {v : HamperS} {w : UpdateS} (h : Follows l s u) (hl : [.hmp, .upd] ⊆ l := by decide) :
    Follows l s { u with hmp := v, upd := w } :=
  h.write [.hmp, .upd] hl (fun p hp => by cases p <;> simp_all [Part.same]) fun b => { b with }

theorem Follows.writePwrRst {v : PowerS} {w : RstS} (h : Follows l s u) (hl : [.pwr, .rst] ⊆ l := by decide) :
    Follows l s { u with pwr := v, rst := w } :=
  h.write [.pwr, .rst] hl (fun p hp => by cases p <;> simp_all [Part.same]) fun b => { b with }

theorem Follows.writeLnRstUpd {v : LaunchS} {w : RstS} {x : UpdateS} (h : Follows l s u)
    (hl : [.ln, .rst, .upd] ⊆ l := by decide) : Follows l s { u with ln := v, rst := w, upd := x } :=
  h.write [.ln, .rst, .upd] hl (fun p hp => by cases p <;> simp_all [Part.same]) fun b => { b with }

/-- The loss of VBAT: the real-time counter and the retention RAM (15 R525). -/
theorem Follows.loseRtc (h : Follows l s u) (hl : [.mem, .tb] ⊆ l := by decide) :
    Follows l s { u with tb := { u.tb with rtcValid := false },
                         mem := u.mem.filter (fun c => c.1 / 2 ^ 40 ≠ 20) } :=
  h.write [.mem, .tb] hl (fun p hp => by cases p <;> simp_all [Part.same]) fun b =>
    { b with mem := filter_wf u.mem _ b.mem, stamps := b.stamps }

end Write

end Sys2Proof.Machine
end

section
/-! SUPPORT. What each command of the chapters from 04 on may change, read along its meaning with the calculus of
`Follows`; with the commands of chapters 01 to 03 it gives the frame and the bounds of every command. -/

namespace Sys2Proof.Machine

-- One theorem after the other: elaborated side by side, so many at once wait on each other that their threads' stacks
-- pass the memory limit.
set_option Elab.async false

/-! ### Chapters 04 and 05: observation, functions and the optimiser -/

theorem execFunctionLaunch_leads (t fn : Nat) (instant : Int) (readings : List (Nat × Nat)) (warms : Bool)
    (dstep : Nat) (s : State) :
    Leads [.now, .free, .reg, .answers, .board, .mirror, .ln, .vd, .fn, .eng, .lk, .ses, .bb, .gd] s
      (execFunctionLaunch t fn instant readings warms dstep s) :=
  Leads.begin t <| .either .same <|
    .trans (.after (State.takeSide_follows ..) <|
        .trans (.after (State.fireDue_follows ..) .same) <| .either (.after (State.setFn_follows ..) .same) .same) <|
    .trans (.after (State.dueRestart_follows ..) .same) <|
    .trans (.either (.after (State.wr_follows ..) .same) <|
        .after (State.launchOpen_follows ..) <| .after (State.showRunning_follows ..) <|
        .foldl _ (.after (State.launchFade_follows ..) <| .after (State.judgeStale_follows ..) .same) fun _ _ =>
          .after (State.launchIdx_follows ..) .same) <|
    .trans (.after (State.setFn_follows ..) <| .either (.after (State.launchCan_follows ..) .same) .same) <|
    .either (.after (State.guideLaunch_follows ..) .same) .same

theorem execObsStep_leads (t : Nat) (instant : Int) (s : State) :
    Leads [.now, .reg, .answers, .mirror, .ln, .vd, .fn, .opt, .lk, .ego, .out, .obs, .ses, .bb] s
      (execObsStep t instant s) := by
  unfold execObsStep
  extract_lets v _ u stop _ w
  refine Leads.either (Leads.begin t .same) <| Leads.next <| .via u (.after (State.obsOverrun_follows ..) <|
    .writeObs <| .begin (by decide) s t) <|
    .via w (.either (.writeObs <| .after (State.obsStop_follows ..) .same) .same) <|
    .either .same <| .after (State.wr_follows ..) <| .writeObs .same

theorem execObsGatherClose_leads (t : Nat) (s : State) :
    Leads [.now, .reg, .answers, .obs] s (execObsGatherClose t s) := by
  unfold execObsGatherClose
  refine Leads.begin t ?_
  split
  · refine .either .same ?_
    split
    exact .after (State.stampOrder_follows ..) <|
      .foldl _ (.writeObs .same) fun _ _ => .after (State.gatherOne_follows ..) .same
  · exact .same

theorem execObsStepOutput_leads (t : Nat) (net : NetIn) (s : State) :
    Leads [.now, .reg, .answers, .board, .mirror, .ln, .vd, .fn, .opt, .lk, .ego, .out, .obs, .ses, .bb, .ym] s
      (execObsStepOutput t net s) := by
  unfold execObsStepOutput
  refine Leads.begin t ?_
  split
  · exact .either .same <|
      .either (.after (State.obsOverrun_follows ..) .same) <| .after (State.obsComplete_follows ..) .same
  · exact .same

theorem execObsOverrun_leads (t : Nat) (s : State) :
    Leads [.now, .reg, .answers, .mirror, .obs, .ses, .bb] s (execObsOverrun t s) := by
  unfold execObsOverrun
  refine Leads.begin t ?_
  split
  · exact .either (.after (State.obsOverrun_follows ..) .same) .same
  · exact .same

theorem execObsSampleArrive_leads (t bind : Nat) (time : Int) (raw : Nat) (s : State) :
    Leads [.now, .answers, .obs, .ym] s (execObsSampleArrive t bind time raw s) :=
  Leads.begin t <| .either (.after (State.answer_follows ..) <| .after (State.setBind_follows ..) .same) <|
    .either (.after (State.setBind_follows ..) .same) <|
    .trans (.after (State.setBind_follows ..) <| .after (State.setBind_follows ..) .same) <|
    .trans (.either (.after (State.noteMoist_follows ..) .same) .same) <| .either (.writeObs .same) .same

theorem execSourceMissing_leads (t bind : Nat) (unitDown : Bool) (s : State) :
    Leads [.now, .reg, .answers, .obs] s (execSourceMissing t bind unitDown s) :=
  Leads.begin t <| .either (.after (State.showBind_follows ..) <| .after (State.setBind_follows ..) .same) .same

theorem execOffsetEstimate_leads (t bind : Nat) (offset : Int) (unc : Nat) (s : State) :
    Leads [.now, .reg, .answers, .mirror, .obs, .ses, .bb] s (execOffsetEstimate t bind offset unc s) := by
  refine Leads.begin t <| .either .same ?_
  split
  · exact .after (State.wr_follows ..) <|
      .after (State.judgeDrift_follows ..) <| .either (.after (State.setBind_follows ..) .same) .same
  · exact .after (State.judgeDrift_follows ..) .same

theorem execOffsetInvalid_leads (t bind : Nat) (s : State) :
    Leads [.now, .reg, .answers, .mirror, .obs, .ses, .bb] s (execOffsetInvalid t bind s) :=
  Leads.begin t <| .after (State.judgeDrift_follows ..) .same

theorem execObsStateEcc_leads (t region : Nat) (s : State) :
    Leads [.now, .reg, .answers, .mirror, .ln, .vd, .fn, .opt, .lk, .ego, .out, .obs, .ses, .bb] s
      (execObsStateEcc t region s) :=
  Leads.begin t <| .either .same <|
    .trans (.after (State.obsStop_follows ..) <| .after (State.log_follows ..) .same) <|
    .either (.writeObs .same) <| .after (State.obsBegin_follows ..) <| .writeObs .same

theorem execPackSelect_leads (t session slot : Nat) (s : State) :
    Leads [.now, .reg, .answers, .mirror, .obs, .ses, .bb] s (execPackSelect t session slot s) :=
  Leads.gated fun _ => .either (.after (State.reply_follows ..) .same) <|
    .either (.after (State.reply_follows ..) <| .after (State.log_follows ..) .same) <|
    .either (.after (State.reply_follows ..) <| .after (State.log_follows ..) .same) <|
    .after (State.reply_follows ..) <| .writeObs .same

theorem execObsPackChange_leads (t : Nat) (s : State) :
    Leads [.now, .reg, .answers, .mirror, .ln, .vd, .fn, .opt, .lk, .obs, .ses, .bb] s (execObsPackChange t s) := by
  unfold execObsPackChange
  refine Leads.begin t ?_
  split
  · exact .after (State.obsBegin_follows ..) <|
      .after (State.log_follows ..) <| .after (State.wr_follows ..) <| .writeObs .same
  · exact .same

theorem execOperatorSetpoint_leads (t session fn index value dataId : Nat) (ovr : Bool) (s : State) :
    Leads [.now, .reg, .answers, .mirror, .fn, .ses, .bb] s
      (execOperatorSetpoint t session fn index value dataId ovr s) :=
  Leads.gated fun _ => .either (.after (State.reply_follows ..) .same) <|
    .either (.after (State.unusedFn_follows ..) .same) <| .either (.after (State.unusedFn_follows ..) .same) <|
    .either (.after (State.reply_follows ..) <| .after (State.log_follows ..) .same) <|
    .either (.after (State.reply_follows ..) <| .after (State.logOnce_follows ..) .same) <|
    .after (State.reply_follows ..) <|
    .either (.after (State.answer_follows ..) <| .after (State.setIdx_follows ..) .same) <|
    .after (State.setIdx_follows ..) .same

theorem execOptimiserCycle_leads (t : Nat) (cands : List CandIn) (maps : List (Nat × Nat × Nat)) (s : State) :
    Leads [.now, .free, .reg, .answers, .board, .mirror, .ln, .vd, .fn, .opt, .lk, .ses, .bb] s
      (execOptimiserCycle t cands maps s) := by
  refine Leads.begin t <| .either (.after (State.showOpt_follows ..) .same) ?_
  extract_lets goal _ u v
  refine .via u (.after (State.wr_follows ..) <| .writeOpt .same) <|
    .via v (.after (State.takeMaps_follows ..) <| .after (State.bump_follows ..) .same) <|
    .either (.after (State.showOpt_follows ..) <| .after (State.publishCycle_follows ..) .same) ?_
  split
  · next c w e =>
      refine .via w (.snd e (.after (State.choose_follows ..) .same)) ?_
      exact .after (State.showOpt_follows ..) <| .after (State.insertShots_follows ..) <|
        .after (State.publishCycle_follows ..) <| .after (State.takeChoice_follows ..) <|
        .either (.after (State.bump_follows ..) .same) .same
  · next w e =>
      refine .via w (.snd e (.after (State.choose_follows ..) .same)) ?_
      exact .after (State.showOpt_follows ..) <| .after (State.publishCycle_follows ..) .same

theorem execGoalSelect_leads (t session goal : Nat) (s : State) :
    Leads [.now, .reg, .answers, .mirror, .opt, .ses, .bb] s (execGoalSelect t session goal s) :=
  Leads.gated fun _ => .either (.after (State.reply_follows ..) .same) <|
    .either (.after (State.reply_follows ..) <| .after (State.log_follows ..) .same) <|
    .after (State.reply_follows ..) <| .writeOpt .same

theorem execFnStopRequest_leads (t session fn : Nat) (s : State) :
    Leads [.now, .reg, .answers, .mirror, .ln, .fn, .eng, .ses, .bb, .gd] s (execFnStopRequest t session fn s) :=
  Leads.gated fun _ => .either (.after (State.reply_follows ..) .same) <|
    .either (.after (State.unusedFn_follows ..) .same) <|
    .trans (.either (.after (State.disengage_follows ..) .same) .same) <|
    .either (.after (State.reply_follows ..) <| .after (State.answer_follows ..) .same) <|
    .after (State.reply_follows ..) <| .after (State.stopFn_follows ..) .same

theorem execFnRestartRequest_leads (t session fn : Nat) (tj : Int) (remote : Nat × List Int) (s : State) :
    Leads [.now, .reg, .answers, .board, .mirror, .vd, .ls, .fn, .ses, .bb] s
      (execFnRestartRequest t session fn tj remote s) :=
  Leads.gated fun _ => .after (State.requestRestart_follows ..) .same

/-- A change set's values entered into registers and amendment list, with room for the fields new to it (14 R486). -/
theorem State.enterSet_follows_of_room {s : State} {f unit : Nat} {writes : List (Nat × Nat)}
    (hroom : s.amend.length + (s.freshKeys unit writes).length ≤ 256) :
    Follows [.reg, .amend] s (s.enterSet f unit writes) :=
  ⟨(State.enterSet_follows s f unit writes).1, (State.enterSet_follows s f unit writes).2 hroom⟩

theorem execChangeSet_leads (t session fn : Nat) (writes : List (Nat × Nat)) (restart : Bool)
    (remote : Nat × List Int) (s : State) :
    Leads [.now, .reg, .answers, .mirror, .ln, .fn, .eng, .ses, .amend, .bb, .gd] s
      (execChangeSet t session fn writes restart remote s) := by
  refine Leads.gated fun v => .either (.after (State.reply_follows ..) .same) <|
    .either (.after (State.unusedFn_follows ..) .same) ?_
  split
  · exact .after (State.reply_follows ..) <| .after (State.log_follows ..) .same
  · exact .after (State.reply_follows ..) <| .after (State.log_follows ..) .same
  · refine .ite (fun _ => .after (State.reply_follows ..) <| .after (State.log_follows ..) .same) fun hroom => ?_
    rw [Nat.not_lt] at hroom
    refine .either (.after (State.reply_follows ..) <| .trans (.after (State.answer_follows ..) .same) <|
      .either (.after (State.enterSet_follows_of_room hroom) .same) .same) ?_
    extract_lets _ u
    have hu : Follows [.reg, .answers, .mirror, .ln, .fn, .eng, .ses, .bb, .gd] v u :=
      .either (.after (State.stopFn_follows ..) .same) .same
    have hsame : u.amend.length + (u.freshKeys (v.rd (R.FN_CFG_UNIT fn)) writes).length ≤ 256 := by
      have hamend : u.amend = v.amend := hu.frame .amend (by decide)
      simpa only [State.freshKeys, State.amended, hamend] using hroom
    clear_value u
    exact .after (State.reply_follows ..) <| .after (State.wr_follows ..) <| .after (State.bump_follows ..) <|
      .after (State.setFn_follows ..) <| .after (State.enterSet_follows_of_room hsame) <| .after hu .same

theorem execAmendRead_leads (t session : Nat) (s : State) :
    Leads [.now, .reg, .answers, .mirror, .ses, .bb] s (execAmendRead t session s) :=
  Leads.gated fun _ => .after (State.sendAmend_follows ..) .same

theorem execAmendCommit_leads (t session : Nat) (s : State) :
    Leads [.now, .reg, .answers, .mirror, .ses, .bb] s (execAmendCommit t session s) :=
  Leads.gated fun _ => .after (State.sendAmend_follows ..) .same

/-! ### Chapter 06: loops -/

theorem execLoopSample_leads (t loop : Nat) (instant : Int) (s : State) :
    Leads [.now, .reg, .answers, .mirror, .eng, .ses, .bb] s (execLoopSample t loop instant s) := by
  unfold execLoopSample
  refine Leads.begin t ?_
  split
  · exact .same
  · refine .either .same <| .either .same <| .after (State.setWaiting_follows ..) ?_
    split
    · exact .after (State.logOnce_follows ..) <|
        .after (State.bump_follows ..) <| .after (State.setLoop_follows ..) .same
    · exact .after (State.setLoop_follows ..) .same

theorem execLoopEvaluate_leads (t engine : Nat) (s : State) :
    Leads [.now, .reg, .answers, .mirror, .ln, .fn, .eng, .ses, .bb, .gd] s (execLoopEvaluate t engine s) :=
  Leads.begin t <| .either .same <| .after (State.runNext_follows ..) .same

theorem execAutotuneRequest_leads (t session : Nat) (req : TuneIn) (s : State) :
    Leads [.now, .reg, .answers, .mirror, .eng, .ses, .bb] s (execAutotuneRequest t session req s) := by
  refine Leads.gated fun _ => .either (.after (State.reply_follows ..) .same) <|
    .either (.after (State.reply_follows ..) <| .after (State.log_follows ..) .same) <|
    .either (.after (State.reply_follows ..) <| .after (State.log_follows ..) .same) ?_
  split
  · exact .after (State.reply_follows ..) <| .after (State.log_follows ..) .same
  · exact .after (State.reply_follows ..) <| .after (State.log_follows ..) .same
  · exact .after (State.reply_follows ..) <| .after (State.setLoop_follows ..) .same

theorem execCeMismatch_leads (t engine slot : Nat) (s : State) :
    Leads [.now, .reg, .answers, .mirror, .ln, .fn, .eng, .ses, .bb, .gd] s (execCeMismatch t engine slot s) :=
  Leads.begin t <| .trans (.after (State.bump_follows ..) .same) <|
    .either (.after (State.log_follows ..) <| .writeEng <| .after (State.wrs_follows ..) .same) <|
    .after (State.log_follows ..) <| .after (State.stopEngine_follows ..) <| .after (State.setWaiting_follows ..) <|
    .writeEng <| .trans (.after (State.wr_follows ..) .same) <| .either (.after (State.wr_follows ..) .same) .same

theorem execCeTakeover_leads (t : Nat) (s : State) :
    Leads [.now, .reg, .answers, .mirror, .ln, .fn, .eng, .ses, .bb, .gd] s (execCeTakeover t s) := by
  unfold execCeTakeover
  refine Leads.begin t ?_
  split
  · exact .same
  · exact .after (State.log_follows ..) <| .after (State.wr_follows ..) <| .after (State.runAll_follows ..) <|
      .foldl _ (.writeEng .same) fun _ _ => .after (State.abortTune_follows ..) .same

theorem execSpareSelfTest_leads (t : Nat) (ok : Bool) (s : State) :
    Leads [.now, .reg, .answers, .mirror, .ses, .bb] s (execSpareSelfTest t ok s) :=
  Leads.begin t <| .either
      (.after (State.log_follows ..) <| .after (State.bump_follows ..) <| .after (State.wr_follows ..) .same) .same

theorem execLoopStateEcc_leads (t loop good offset : Nat) (s : State) :
    Leads [.now, .reg, .answers, .mirror, .ln, .fn, .eng, .ses, .bb, .gd] s
      (execLoopStateEcc t loop good offset s) := by
  refine Leads.begin t <| .either ?_ ?_
  · split
    · exact .after (State.stopFn_follows ..) <| .after (State.log_follows ..) .same
    · exact .after (State.log_follows ..) .same
  · split
    · exact .after (State.evalAgain_follows ..) <| .after (State.log_follows ..) .same
    · exact .after (State.log_follows ..) .same

/-! ### Chapter 07: GNSS -/

theorem execChannelDump_leads (t ch : Nat) (dump : DumpIn) (s : State) :
    Leads [.now, .reg, .answers, .mirror, .ses, .bb, .gn] s (execChannelDump t ch dump s) :=
  Leads.begin t <| .either .same <|
    .trans (.after (State.setCh_follows ..) <| .either (.after (State.bump_follows ..) .same) .same) <|
    .trans (.either (.after (State.bump_follows ..) <| .after (State.wrs_follows ..) .same) <|
        .after (State.wrs_follows ..) .same) <|
    .trans (.either (.writeGn .same) .same) <|
    .trans (.either (.after (State.wr_follows ..) .same) .same) <|
    .either (.after (State.slip_follows ..) .same) .same

theorem execChannelRatesArrive_leads (t ch : Nat) (code carrier : Int) (s : State) :
    Leads [.now, .answers, .gn] s (execChannelRatesArrive t ch code carrier s) :=
  Leads.begin t <| .either (.after (State.setCh_follows ..) .same) .same

theorem execChannelLost_leads (t ch : Nat) (s : State) :
    Leads [.now, .reg, .answers, .gn] s (execChannelLost t ch s) :=
  Leads.begin t <| .either .same <| .after (State.wrs_follows ..) <| .after (State.setCh_follows ..) .same

theorem execMeasEpoch_leads (t : Nat) (view : List SigIn) (meas : List MeasIn) (s : State) :
    Leads [.now, .free, .reg, .answers, .ses, .gn] s (execMeasEpoch t view meas s) :=
  Leads.begin t <| .either .same <| .after (State.assignAll_follows ..) <| .after (State.reacquire_follows ..) <|
    .writeGn <| .trans (.after (State.publish_follows ..) <| .after (State.measRecords_follows ..) .same) <|
    .either (.after (State.answer_follows ..) .same) .same

/-- The position and the ambiguities behind it (07 R274). -/
theorem State.solve_follows (s : State) (sol : SolIn) (usable : List Nat) (age : Option Int) :
    Follows [.reg, .answers, .mirror, .ses, .bb, .gn] s (s.solve sol usable age).2.2 := by
  unfold State.solve
  extract_lets _ u rtk
  refine .via u (.either (.after (State.resetAmb_follows ..) .same) .same) ?_
  clear_value u
  split
  · exact .same
  · split
    · exact .writeGn .same
    · split <;> exact .same

theorem execGnSolution_leads (t : Nat) (sol : SolIn) (s : State) :
    Leads [.now, .reg, .answers, .mirror, .ses, .bb, .gn] s (execGnSolution t sol s) := by
  refine Leads.begin t <| .either .same ?_
  extract_lets u usable act age
  refine .via u (.after (State.judgeConns_follows ..) <| .after (State.judgeCor_follows ..) .same) ?_
  clear_value u
  split
  next soln used v hv =>
  refine .via v (by have := State.solve_follows u sol usable age; rw [hv] at this; exact .after this .same) ?_
  split
  next headq w hw =>
  refine .via w (.snd hw <| .after (State.solveHead_follows ..) .same) ?_
  exact .after (State.firstFix_follows ..) <| .after (State.setSoln_follows ..) <|
    .after (State.publishPvt_follows ..) <| .after (State.solveTime_follows ..) <|
    .after (State.releaseIdle_follows ..) <| .after (State.markUsed_follows ..) .same

theorem execNavWord_leads (t : Nat) (word : WordIn) (s : State) :
    Leads [.now, .reg, .answers, .ses, .gn] s (execNavWord t word s) :=
  Leads.begin t <| .either .same <| .either (.after (State.publish_follows ..) .same) <|
    .after (State.takeNavUtc_follows ..) <| .after (State.takeWord_follows ..) <|
    .either (.after (State.wr_follows ..) <| .after (State.publish_follows ..) .same) <|
    .after (State.publish_follows ..) .same

theorem execRtcmFrame_leads (t slot : Nat) (crcOk : Bool) (msg : RtcmIn) (s : State) :
    Leads [.now, .reg, .answers, .mirror, .ses, .bb, .gn] s (execRtcmFrame t slot crcOk msg s) := by
  refine Leads.begin t <| .either .same <|
    .either (.either (.after (State.takeRtcm_follows ..) .same) <| .after (State.badRtcm_follows ..) .same) <|
    .either .same <| .either ?_ <|
    .either .same <| .either (.after (State.takeRtcm_follows ..) .same) <| .after (State.badRtcm_follows ..) .same
  split
  · exact .same
  · exact .either (.after (State.takeRtcm_follows ..) <| .after (State.setCor_follows ..) .same) <|
      .after (State.badRtcm_follows ..) <| .after (State.setCor_follows ..) .same

theorem execGnAntOpen_leads (t ant current : Nat) (s : State) :
    Leads [.now, .reg, .answers, .mirror, .ses, .bb] s (execGnAntOpen t ant current s) :=
  Leads.begin t <| .either (.after (State.log_follows ..) <| .after (State.wr_follows ..) .same) .same

theorem execGnAntShort_leads (t ant : Nat) (s : State) :
    Leads [.now, .reg, .answers, .mirror, .ses, .bb, .gn] s (execGnAntShort t ant s) :=
  Leads.begin t <| .either
      (.trans (.after (State.wr_follows ..) <| .after (State.setAnt_follows ..) .same) <|
        .either .same <| .after (State.log_follows ..) .same) .same

theorem execAntRetry_leads (t ant : Nat) (s : State) : Leads [.now, .reg, .answers, .gn] s (execAntRetry t ant s) :=
  Leads.begin t <| .either (.after (State.wr_follows ..) <| .after (State.setAnt_follows ..) .same) .same

theorem execRetentionWrite_leads (t : Nat) (s : State) : Leads [.now, .answers, .gn] s (execRetentionWrite t s) :=
  Leads.begin t <| .either (.after (State.writeRetention_follows ..) .same) .same

theorem execGnssRefresh_leads (t : Nat) (s : State) :
    Leads [.now, .reg, .answers, .mirror, .tb, .ses, .bb, .rst, .gn] s (execGnssRefresh t s) :=
  Leads.begin t <| .either
      (.after (State.setDomains_follows ..) <|
        .writeGn <| .after (State.startGnss_follows ..) <| .either (.after (State.loadTime_follows ..) .same) <|
        .after (State.log_follows ..) <| .writeRst <| .after (State.loadTime_follows ..) .same) .same

theorem execGnRefresh_leads (t : Nat) (s : State) :
    Leads [.now, .reg, .answers, .mirror, .tb, .ses, .bb, .rst, .gn] s (execGnRefresh t s) := by
  unfold execGnRefresh
  refine Leads.begin t ?_
  split
  · exact .either (.after (State.endRefresh_follows ..) .same) .same
  · exact .same

/-! ### Chapter 08: guidance and yield -/

theorem execGuidanceStep_leads (t : Nat) (nav : NavIn) (s : State) :
    Leads [.now, .reg, .answers, .board, .mirror, .ses, .bb, .gd] s (execGuidanceStep t nav s) := by
  refine Leads.begin t <| .either .same <| .after (State.publishGuide_follows ..) ?_
  split
  · exact .after (State.followLine_follows ..) <| .after (State.storeNav_follows ..) .same
  · exact .after (State.judgeArmed_follows ..) <| .after (State.storeNav_follows ..) .same

theorem execGdEngage_leads (t session : Nat) (tj : Int) (remote : Nat × List Int) (s : State) :
    Leads [.now, .reg, .answers, .board, .mirror, .vd, .ls, .fn, .ses, .bb] s (execGdEngage t session tj remote s) :=
  Leads.gated fun _ => .after (State.requestRestart_follows ..) .same

theorem execTurnRequest_leads (t session : Nat) (right : Bool) (s : State) :
    Leads [.now, .reg, .answers, .mirror, .ses, .bb, .gd] s (execTurnRequest t session right s) :=
  Leads.gated fun _ => .either (.after (State.reply_follows ..) .same) <| .either
      (.after (State.reply_follows ..) <|
        .after (State.wr_follows ..) <| .writeGd <| .after (State.log_follows ..) .same) <|
    .after (State.reply_follows ..) <| .after (State.log_follows ..) .same

theorem execLineLoad_leads (t session : Nat) (bytes : List Nat) (s : State) :
    Leads [.now, .reg, .answers, .mirror, .ses, .bb, .gd] s (execLineLoad t session bytes s) := by
  unfold execLineLoad
  refine Leads.begin t ?_
  split
  · exact .after (State.turnDown_follows ..) .same
  · exact .either (.after (State.reply_follows ..) <| .after (State.log_follows ..) .same) <|
      .trans (.either (.after (State.disengage_follows ..) .same) .same) <|
      .after (State.reply_follows ..) <| .either (.writeGd <| .writeGd .same) <| .writeGd .same

theorem execLineSelect_leads (t session id : Nat) (s : State) :
    Leads [.now, .reg, .answers, .mirror, .ses, .bb, .gd] s (execLineSelect t session id s) := by
  refine Leads.gated fun _ => .either (.after (State.reply_follows ..) .same) ?_
  split
  · exact .after (State.reply_follows ..) <| .after (State.log_follows ..) .same
  · exact .either (.after (State.reply_follows ..) <| .after (State.log_follows ..) .same) <|
      .after (State.reply_follows ..) <|
      .after (State.wr_follows ..) <| .either (.after (State.wr_follows ..) <| .writeGd .same) <| .writeGd .same

theorem execYmFlowSample_leads (t : Nat) (time : Int) (flow : Nat) (s : State) :
    Leads [.now, .reg, .answers, .mirror, .ses, .bb, .ym] s (execYmFlowSample t time flow s) :=
  Leads.begin t <| .either .same <|
    .either (.after (State.takeFlow_follows ..) .same) <| .after (State.wr_follows ..) <| .writeYm .same

theorem execNewLoad_leads (t session : Nat) (s : State) :
    Leads [.now, .reg, .answers, .mirror, .ses, .bb] s (execNewLoad t session s) :=
  Leads.gated fun _ => .either (.after (State.reply_follows ..) .same) <|
    .after (State.reply_follows ..) <| .after (State.answer_follows ..) <| .after (State.wr_follows ..) .same

theorem execTicketEntry_leads (t session : Nat) (loads : List Nat) (mass moist : Nat) (s : State) :
    Leads [.now, .reg, .answers, .mirror, .ses, .bb, .ym] s (execTicketEntry t session loads mass moist s) := by
  refine Leads.gated fun _ => .either (.after (State.reply_follows ..) .same) ?_
  split
  · exact .after (State.ticketBad_follows ..) .same
  · exact .either (.after (State.ticketBad_follows ..) .same) <|
      .after (State.reply_follows ..) <| .after (State.takeTicket_follows ..) .same

theorem execTaskdataExport_leads (t session : Nat) (first last : Int) (s : State) :
    Leads [.now, .reg, .answers, .mirror, .ses, .bb] s (execTaskdataExport t session first last s) := by
  unfold execTaskdataExport
  refine Leads.begin t ?_
  split
  · exact .after (State.turnDown_follows ..) .same
  · exact .after (State.reply_follows ..) <| .after (State.log_follows ..) .same

/-! ### Chapter 09: cameras -/

theorem execFrameStart_leads (t cam : Nat) (frame : FrameIn) (s : State) :
    Leads [.now, .reg, .answers, .mirror, .ses, .bb, .cams] s (execFrameStart t cam frame s) := by
  unfold execFrameStart
  refine Leads.begin t ?_
  split
  · exact .same
  · exact .after (State.showRate_follows ..) <|
      .after (State.judgeFrame_follows ..) <| .after (State.wrs_follows ..) <| .after (State.setCam_follows ..) .same

theorem execCamMissed_leads (t cam : Nat) (s : State) :
    Leads [.now, .reg, .answers, .mirror, .ses, .bb, .cams] s (execCamMissed t cam s) := by
  unfold execCamMissed
  refine Leads.begin t ?_
  split
  · exact .same
  · exact .either .same <| .trans (.after (State.pairGone_follows ..) <|
          .after (State.camLog_follows ..) <|
          .after (State.bump_follows ..) <| .after (State.setCam_follows ..) .same) <|
      .either (.after (State.setCamState_follows ..) .same) .same

theorem execUnitReady_leads (t : Nat) (cams : List Nat) (s : State) :
    Leads [.now, .reg, .answers, .mirror, .ses, .bb, .cams] s (execUnitReady t cams s) :=
  Leads.begin t <| .after (State.decideCore_follows ..) <|
    .after (State.decideCore_follows ..) <| .foldl _ .same fun _ _ => .after (State.unitStored_follows ..) .same

theorem execIspUnitDone_leads (t core : Nat) (ae : Option (Nat × Nat)) (s : State) :
    Leads [.now, .free, .reg, .answers, .ses, .cams] s (execIspUnitDone t core ae s) := by
  unfold execIspUnitDone
  refine Leads.begin t ?_
  split
  · exact .same
  · refine .either .same <| .after (State.decideCore_follows ..) ?_
    split
    · exact .after (State.idleCore_follows ..) .same
    · exact .either (.after (State.setCam_follows ..) <| .after (State.idleCore_follows ..) .same) <|
        .after (State.frameDone_follows ..) <| .after (State.idleCore_follows ..) .same

theorem execIspAbort_leads (t core : Nat) (s : State) :
    Leads [.now, .reg, .answers, .mirror, .ses, .bb, .cams] s (execIspAbort t core s) := by
  unfold execIspAbort
  refine Leads.begin t ?_
  split
  · exact .same
  · extract_lets +onlyGivenNames u
    refine .via u (.after (State.camLog_follows ..) <| .after (State.idleCore_follows ..) .same) ?_
    clear_value u
    refine .after (State.decideCore_follows ..) ?_
    split
    · exact .after (State.dropFrame_follows ..) .same
    · exact .same

theorem execSettingWrite_leads (t cam : Nat) (done : Bool) (s : State) :
    Leads [.now, .answers, .cams] s (execSettingWrite t cam done s) := by
  unfold execSettingWrite
  refine Leads.begin t ?_
  split
  · exact .either (.after (State.answer_follows ..) <| .after (State.setCam_follows ..) .same) .same
  · exact .same

theorem execCamLink_leads (t cam : Nat) (s : State) :
    Leads [.now, .reg, .answers, .mirror, .ses, .bb, .cams] s (execCamLink t cam s) :=
  Leads.begin t <| .after (State.loseLink_follows ..) .same

theorem execLinkRetrain_leads (t cam : Nat) (ok : Bool) (trigLat : Nat) (s : State) :
    Leads [.now, .reg, .answers, .mirror, .ses, .bb, .cams] s (execLinkRetrain t cam ok trigLat s) :=
  Leads.begin t <| .either .same <|
    .either (.after (State.linkUp_follows ..) <| .after (State.setCam_follows ..) .same) <|
    .after (State.setCam_follows ..) .same

theorem execVisionRun_leads (t cam : Nat) (values : List Nat) (s : State) :
    Leads [.now, .reg, .answers, .mirror, .ses, .bb, .ym, .cams] s (execVisionRun t cam values s) := by
  unfold execVisionRun
  refine Leads.begin t ?_
  split
  · exact .same
  · exact .either (.after (State.dropRun_follows ..) .same) <|
      .after (State.publishVision_follows ..) <| .after (State.endRun_follows ..) .same

theorem execVisDrop_leads (t cam : Nat) (s : State) :
    Leads [.now, .reg, .answers, .mirror, .ses, .bb, .cams] s (execVisDrop t cam s) := by
  unfold execVisDrop
  refine Leads.begin t ?_
  split
  · exact .same
  · exact .either (.after (State.dropRun_follows ..) .same) .same

theorem execVisPair_leads (t cam : Nat) (s : State) :
    Leads [.now, .reg, .answers, .mirror, .ses, .bb, .cams] s (execVisPair t cam s) := by
  refine Leads.begin t <| .either .same ?_
  split
  · exact .same
  · exact .after (State.camLog_follows ..) <| .after (State.bump_follows ..) <| .after (State.bump_follows ..) <|
      .after (State.releaseTensor_follows ..) <| .after (State.releaseTensor_follows ..) .same

theorem execCropWrite_leads (t session cam out field value : Nat) (s : State) :
    Leads [.now, .reg, .answers, .mirror, .ses, .amend, .bb, .cams] s
      (execCropWrite t session cam out field value s) :=
  Leads.gated fun _ => .after (State.cropWrite_follows ..) .same

theorem execIspPrioWrite_leads (t session cam v : Nat) (s : State) :
    Leads [.now, .reg, .answers, .mirror, .ses, .amend, .bb] s (execIspPrioWrite t session cam v s) :=
  Leads.gated fun _ => .after (State.liveWrite_follows ..) .same

theorem execPocOvercurrent_leads (t : Nat) (currents : List (Nat × Nat)) (s : State) :
    Leads [.now, .reg, .answers, .mirror, .ses, .bb, .cams] s (execPocOvercurrent t currents s) :=
  Leads.begin t <| .foldl _ (.foldl _ .same fun _ _ =>
    .either (.after (State.cutPower_follows ..) .same) .same) fun _ _ =>
    .either (.after (State.cutPower_follows ..) .same) .same

/-! ### Chapter 10: valve drivers -/

theorem execPropTarget_leads (t ch : Nat) (ma : Int) (profile src : Nat) (hold : Bool) (s : State) :
    Leads [.now, .reg, .answers, .mirror, .ln, .vd, .ls, .fn, .eng, .ses, .bb, .md, .gd] s
      (execPropTarget t ch ma profile src hold s) := by
  unfold execPropTarget
  refine Leads.begin t ?_
  refine .valveCommand .same fun _ => ?_
  exact .either
      (.either (.after (State.regulate_follows ..) <| .after (State.setValve_follows ..) .same) <|
        .after (State.keepCurrent_follows ..) <| .after (State.setValve_follows ..) .same) <|
    .after (State.setTarget_follows ..) <| .after (State.setValve_follows ..) .same

theorem execProfileStart_leads (t ch prf cur src rail : Nat) (s : State) :
    Leads [.now, .reg, .answers, .mirror, .ln, .vd, .ls, .fn, .eng, .ses, .bb, .md, .gd] s
      (execProfileStart t ch prf cur src rail s) := by
  refine Leads.begin t <| .either (.after (State.setRail_follows ..) .same) ?_
  refine .valveCommand (.after (State.setRail_follows ..) .same) fun _ => ?_
  exact .either (.after (State.offCommand_follows ..) <| .after (State.setValve_follows ..) .same) <|
    .either (.after (State.setValve_follows ..) <| .after (State.setValve_follows ..) .same) <|
    .after (State.startProfile_follows ..) <| .after (State.setValve_follows ..) .same

theorem execProfileOff_leads (t ch src rail : Nat) (s : State) :
    Leads [.now, .reg, .answers, .mirror, .ln, .vd, .ls, .fn, .eng, .ses, .bb, .md, .gd] s
      (execProfileOff t ch src rail s) := by
  refine Leads.begin t <| .either (.after (State.setRail_follows ..) .same) ?_
  refine .valveCommand (.after (State.setRail_follows ..) .same) fun _ => ?_
  exact .after (State.offCommand_follows ..) <| .after (State.setValve_follows ..) .same

theorem execBoostRailReady_leads (t conv rail : Nat) (s : State) :
    Leads [.now, .reg, .answers, .mirror, .vd, .ls, .ses, .bb] s (execBoostRailReady t conv rail s) :=
  Leads.begin t <| .foldl _ (.writeVd .same) fun _ _ => .after (State.serveBank_follows ..) .same

theorem execPeakReached_leads (t ch : Nat) (reached : Bool) (s : State) :
    Leads [.now, .reg, .answers, .mirror, .vd, .ls, .ses, .bb] s (execPeakReached t ch reached s) :=
  Leads.begin t <| .either .same <| .either
      (.after (State.judgePeak_follows ..) <|
        .after (State.wr_follows ..) <| .after (State.setPhase_follows ..) .same) <|
    .either (.after (State.judgePeak_follows ..) <| .after (State.setPhase_follows ..) .same) .same

theorem execPeakEnd_leads (t ch rail : Nat) (s : State) :
    Leads [.now, .reg, .answers, .mirror, .vd, .ls, .ses, .bb] s (execPeakEnd t ch rail s) :=
  Leads.begin t <| .either (.after (State.enterHold_follows ..) <| .after (State.setRail_follows ..) .same) <|
    .after (State.setRail_follows ..) .same

theorem execHoldEnd_leads (t ch : Nat) (s : State) :
    Leads [.now, .reg, .answers, .mirror, .vd, .ls, .ses, .bb] s (execHoldEnd t ch s) :=
  Leads.begin t <| .either .same <| .either
      (.after (State.setActPhase_follows ..) <|
        .after (State.wr_follows ..) <| .after (State.setValve_follows ..) .same) <|
    .after (State.valveOff_follows ..) .same

theorem execOffDone_leads (t ch cur : Nat) (s : State) :
    Leads [.now, .reg, .answers, .vd] s (execOffDone t ch cur s) :=
  Leads.begin t <| .either (.after (State.wr_follows ..) <| .after (State.setActPhase_follows ..) .same) .same

theorem execCarrierPeriod_leads (t ch mean need : Nat) (s : State) :
    Leads [.now, .reg, .answers, .mirror, .vd, .ls, .ses, .bb] s (execCarrierPeriod t ch mean need s) :=
  Leads.either (Leads.begin t .same) <| Leads.begin t <|
    .trans (.after (State.stepRamp_follows ..) <| .after (State.wr_follows ..) <|
        .after (State.setValve_follows ..) .same) <|
    .either
      (.after (State.answer_follows ..) <| .after (State.watchOpen_follows ..) <| .after (State.wr_follows ..) <|
        .trans (.either (.after (State.setValve_follows ..) .same) .same) <|
        .either (.after (State.setValve_follows ..) .same) .same) <|
    .after (State.watchOpen_follows ..) <| .after (State.wr_follows ..) .same

theorem execVdSat_leads (t ch : Nat) (s : State) :
    Leads [.now, .reg, .answers, .mirror, .ls, .ses, .bb] s (execVdSat t ch s) :=
  Leads.begin t <| .either (.after (State.pdLogOnce_follows ..) .same) .same

theorem execCoilModelStep_leads (t : Nat) (tmod : Int) (coils : List CoilIn) (s : State) :
    Leads [.now, .reg, .answers, .mirror, .ln, .vd, .ls, .fn, .eng, .ses, .bb, .gd] s
      (execCoilModelStep t tmod coils s) :=
  Leads.either (Leads.begin t .same) <| Leads.begin t <|
    .foldl _ (.writeVd .same) fun _ _ => .either .same <| .after (State.coilStep_follows ..) .same

theorem execVdOpen_leads (t ch cur : Nat) (s : State) :
    Leads [.now, .reg, .answers, .mirror, .ln, .vd, .ls, .fn, .eng, .ses, .bb, .gd] s (execVdOpen t ch cur s) :=
  Leads.begin t <| .either
      (.after (State.stopChannel_follows ..) <|
        .after (State.pdLog_follows ..) <| .after (State.wr_follows ..) <|
          .after (State.valveOff_follows ..) .same) .same

theorem execVdShort_leads (t ch cur : Nat) (s : State) :
    Leads [.now, .reg, .answers, .mirror, .ln, .vd, .ls, .fn, .eng, .ses, .bb, .gd] s (execVdShort t ch cur s) :=
  Leads.begin t <| .either .same <| .either
      (.after (State.stopChannel_follows ..) <|
        .after (State.pdLog_follows ..) <| .after (State.latchValve_follows ..) .same) <|
    .after (State.pdLog_follows ..) <| .after (State.wr_follows ..) <| .after (State.setValve_follows ..) <|
    .after (State.setPhase_follows ..) <| .after (State.valveOff_follows ..) .same

theorem execVdShortRetry_leads (t ch : Nat) (s : State) :
    Leads [.now, .reg, .answers, .mirror, .vd, .ls, .ses, .bb] s (execVdShortRetry t ch s) := by
  unfold execVdShortRetry
  refine Leads.begin t ?_
  split
  · exact .same
  · exact .either .same <| .trans (.after (State.wr_follows ..) <| .after (State.setValve_follows ..) .same) <|
      .either (.after (State.regulate_follows ..) .same) <|
      .either (.after (State.startProfile_follows ..) .same) .same

theorem execVdShortGnd_leads (t ch cur above : Nat) (s : State) :
    Leads [.now, .reg, .answers, .mirror, .ln, .vd, .ls, .fn, .eng, .ses, .bb, .gd] s
      (execVdShortGnd t ch cur above s) :=
  Leads.begin t <| .either (.after (State.bankFault_follows ..) <| .after (State.pdLog_follows ..) .same) .same

theorem execVdBankOc_leads (t bank cur : Nat) (s : State) :
    Leads [.now, .reg, .answers, .mirror, .ln, .vd, .ls, .fn, .eng, .ses, .bb, .gd] s (execVdBankOc t bank cur s) :=
  Leads.begin t <| .either (.after (State.bankFault_follows ..) <| .after (State.pdLog_follows ..) .same) .same

theorem execValveResetRelease_leads (t ch : Nat) (s : State) :
    Leads [.now, .reg, .answers, .mirror, .vd, .ls, .ses, .bb] s (execValveResetRelease t ch s) :=
  Leads.begin t <| .either (.after (State.valveOff_follows ..) .same) .same

/-! ### Chapter 11: load switches and walk-home -/

theorem execSwitchCommand_leads (t ch : Nat) (on : Bool) (src mj : Nat) (s : State) :
    Leads [.now, .reg, .answers, .mirror, .ln, .ls, .fn, .eng, .ses, .bb, .md, .gd] s
      (execSwitchCommand t ch on src mj s) :=
  Leads.begin t <| .either (.after (State.pdLog_follows ..) <| .after (State.pdCommand_follows ..) .same) <|
    .trans (.after (State.abortTest_follows ..) <| .after (State.pdCommand_follows ..) .same) <|
    .trans (.either (.after (State.stopSwitchFns_follows ..) .same) .same) <|
    .either (.after (State.bump_follows ..) <| .after (State.setSw_follows ..) .same) <|
    .after (State.takeCommand_follows ..) .same

theorem execSwitchDeferredApply_leads (t ch mj : Nat) (s : State) :
    Leads [.now, .reg, .answers, .mirror, .ln, .ls, .fn, .eng, .ses, .bb, .gd] s
      (execSwitchDeferredApply t ch mj s) := by
  unfold execSwitchDeferredApply
  refine Leads.begin t ?_
  split
  · exact .either (.after (State.takeCommand_follows ..) .same) .same
  · exact .same

theorem execLsTrip_leads (t ch limited above cur mj : Nat) (s : State) :
    Leads [.now, .reg, .answers, .mirror, .ln, .ls, .fn, .eng, .ses, .bb, .gd] s
      (execLsTrip t ch limited above cur mj s) :=
  Leads.begin t <| 
    .either (.after (State.wr_follows ..) .same) <| .trans (.after (State.pdLogOnce_follows ..) <|
        .after (State.setSw_follows ..) <| .after (State.wr_follows ..) .same) <|
    .either
      (.after (State.stopSwitchFns_follows ..) <|
        .after (State.pdLog_follows ..) <| .after (State.drive_follows ..) .same) <|
    .after (State.drive_follows ..) .same

theorem execRetryPauseEnd_leads (t ch : Nat) (s : State) :
    Leads [.now, .reg, .answers, .mirror, .ln, .ls, .fn, .eng, .ses, .bb, .gd] s (execRetryPauseEnd t ch s) := by
  unfold execRetryPauseEnd
  refine Leads.begin t ?_
  split
  · exact .either (.after (State.drive_follows ..) <| .after (State.setSw_follows ..) .same) .same
  · exact .same

theorem execLsThermal_leads (t ch : Nat) (tj : Int) (mj : Nat) (s : State) :
    Leads [.now, .reg, .answers, .mirror, .ln, .ls, .fn, .eng, .ses, .bb, .gd] s (execLsThermal t ch tj mj s) :=
  Leads.begin t <| .either (.after (State.wr_follows ..) .same) <| .after (State.stopSwitchFns_follows ..) <|
    .after (State.pdLog_follows ..) <|
    .after (State.drive_follows ..) <| .after (State.setSw_follows ..) <| .after (State.wr_follows ..) .same

theorem execLsOpen_leads (t ch cur held : Nat) (s : State) :
    Leads [.now, .reg, .answers, .mirror, .ls, .ses, .bb] s (execLsOpen t ch cur held s) :=
  Leads.begin t <| .either (.after (State.wr_follows ..) .same) <| .either
      (.either (.after (State.wr_follows ..) .same) <|
        .after (State.pdLog_follows ..) <| .after (State.wr_follows ..) <| .after (State.wr_follows ..) .same) <|
    .either (.after (State.wr_follows ..) <| .after (State.wr_follows ..) .same) <|
    .after (State.wr_follows ..) .same

theorem execLsClearRequest_leads (t session ch : Nat) (tj : Int) (s : State) :
    Leads [.now, .reg, .answers, .mirror, .ls, .ses, .bb] s (execLsClearRequest t session ch tj s) := by
  refine Leads.gated fun _ => .either (.after (State.reply_follows ..) <| .after (State.wr_follows ..) .same) <|
    .either
      (.after (State.reply_follows ..) <| .after (State.pdLog_follows ..) <| .after (State.wr_follows ..) .same) ?_
  split
  · exact .after (State.reply_follows ..) <| .after (State.pdLog_follows ..) <| .after (State.wr_follows ..) .same
  · exact .after (State.reply_follows ..) <|
      .after (State.clearSwitch_follows ..) <| .after (State.wr_follows ..) .same

theorem execResetGraceEnd_leads (t : Nat) (clamps : List (Nat × Nat)) (s : State) :
    Leads [.now, .reg, .answers, .mirror, .ln, .vd, .ls, .fn, .eng, .ses, .bb, .gd] s
      (execResetGraceEnd t clamps s) := by
  unfold execResetGraceEnd
  refine Leads.begin t ?_
  split
  · exact .either .same <|
      .either (.after (State.driveAll_follows ..) .same) <| .after (State.coreDead_follows ..) .same
  · exact .same

theorem execLinkWatchdogExpire_leads (t : Nat) (s : State) :
    Leads [.now, .reg, .answers, .mirror, .vd, .ls, .ses, .bb] s (execLinkWatchdogExpire t s) := by
  refine Leads.begin t <| .either .same ?_
  extract_lets u
  refine .via u (.after (State.resetSwitches_follows ..) <| .after (State.resetValves_follows ..) .same) ?_
  clear_value u
  exact .writeLs .same

theorem execFullResetDead_leads (t : Nat) (s : State) :
    Leads [.now, .reg, .answers, .mirror, .ln, .vd, .ls, .fn, .eng, .ses, .bb, .gd] s (execFullResetDead t s) := by
  unfold execFullResetDead
  refine Leads.begin t ?_
  split
  · exact .either .same <| .after (State.coreDead_follows ..) .same
  · exact .same

theorem execWhActive_leads (t : Nat) (clamps : List (Nat × Nat)) (s : State) :
    Leads [.now, .reg, .answers, .mirror, .ln, .vd, .ls, .fn, .eng, .ses, .bb, .gd] s (execWhActive t clamps s) :=
  Leads.begin t <| .either (.either (.writeLs .same) .same) <| .after (State.pdLog_follows ..) <|
    .after (State.walkValves_follows ..) <| .after (State.driveAll_follows ..) <|
    .foldl _ (.after (State.wr_follows ..) <| .writeLs .same (hv := Nat.zero_le _)) fun _ _ =>
      .after (State.ownEvent_follows ..) .same

theorem execWhPinEdge_leads (t pin : Nat) (level : Bool) (clamps : List (Nat × Nat)) (s : State) :
    Leads [.now, .reg, .answers, .mirror, .ln, .vd, .ls, .fn, .eng, .ses, .bb, .gd] s
      (execWhPinEdge t pin level clamps s) :=
  Leads.begin t <| .after (State.walkValves_follows ..) <|
    .after (State.driveAll_follows ..) <| .after (State.wr_follows ..) .same

theorem execWhEnChange_leads (t : Nat) (level : Bool) (clamps : List (Nat × Nat)) (s : State) :
    Leads [.now, .reg, .answers, .mirror, .ln, .vd, .ls, .fn, .eng, .ses, .bb, .gd] s
      (execWhEnChange t level clamps s) :=
  Leads.begin t <| .after (State.walkValves_follows ..) <|
    .after (State.driveAll_follows ..) <| .after (State.wr_follows ..) .same

theorem execWhFreq_leads (t pin hz : Nat) (clamps : List (Nat × Nat)) (s : State) :
    Leads [.now, .reg, .answers, .mirror, .ln, .vd, .ls, .fn, .eng, .ses, .bb, .gd] s
      (execWhFreq t pin hz clamps s) :=
  Leads.begin t <| .either
      (.after (State.pdLog_follows ..) <|
        .after (State.walkValves_follows ..) <|
        .after (State.driveAll_follows ..) <| .after (State.wr_follows ..) .same) <|
    .either
      (.after (State.walkValves_follows ..) <|
        .after (State.driveAll_follows ..) <| .after (State.wr_follows ..) .same) .same

theorem execWhStoreLoad_leads (t : Nat) (crcOk : Bool) (s : State) :
    Leads [.now, .reg, .answers, .mirror, .ln, .ls, .fn, .eng, .ses, .bb, .gd] s (execWhStoreLoad t crcOk s) :=
  Leads.begin t <| .either .same <|
    .either (.after (State.driveAll_follows ..) <| .writeLs <| .after (State.wrs_follows ..) .same) <|
    .trans (.after (State.pdLog_follows ..) <| .after (State.wr_follows ..) <| .writeLs .same) <|
    .either (.after (State.driveAll_follows ..) <| .after (State.compareCopy_follows ..) .same) .same

/-! ### Chapter 12: links -/

theorem execCanFrameRx_leads (t ch age : Nat) (frame : CanIn) (s : State) :
    Leads [.now, .free, .reg, .answers, .mirror, .opt, .lk, .ses, .bb, .gn] s (execCanFrameRx t ch age frame s) :=
  Leads.begin t <| .either .same <| .either (.after (State.setCan_follows ..) .same) <|
    .foldl _ (.after (State.takeTransport_follows ..) <|
        .after (State.takePgn_follows ..) <| .after (State.answerDm1_follows ..) <|
        .after (State.publish_follows ..) <| .after (State.wr_follows ..) .same) fun _ _ =>
          .after (State.takeSignal_follows ..) .same

theorem execCanFrameTxDone_leads (t ch age : Nat) (s : State) :
    Leads [.now, .reg, .answers, .mirror, .lk, .ses, .bb] s (execCanFrameTxDone t ch age s) := by
  unfold execCanFrameTxDone
  refine Leads.begin t ?_
  split
  · exact .either .same <| .after (State.feedStack_follows ..) <| .after (State.dropAged_follows ..) <|
      .after (State.publish_follows ..) <|
      .after (State.answer_follows ..) <| .after (State.wr_follows ..) <| .after (State.setCan_follows ..) .same
  · exact .same

theorem execCanBusoff_leads (t ch : Nat) (s : State) :
    Leads [.now, .reg, .answers, .mirror, .ln, .fn, .eng, .lk, .ses, .bb, .gd] s (execCanBusoff t ch s) :=
  Leads.begin t <| .either .same <|
    .trans (.after (State.wrs_follows ..) <| .after (State.bump_follows ..) <|
      .after (State.setCan_follows ..) .same) <|
    .either (.foldl _ (.after (State.log_follows ..) .same) fun _ _ => .after (State.stopFn_follows ..) .same) <|
    .after (State.log_follows ..) .same

theorem execCanBusoffRecover_leads (t ch : Nat) (s : State) :
    Leads [.now, .reg, .answers, .mirror, .lk, .ses, .bb] s (execCanBusoffRecover t ch s) :=
  Leads.begin t <| .either (.after (State.dropAged_follows ..) <| .after (State.wrs_follows ..) .same) .same

theorem execCanTsmap_leads (t : Nat) (s : State) : Leads [.now, .reg, .answers, .lk] s (execCanTsmap t s) :=
  Leads.begin t <| .either .same <| .either .same <| .after (State.wrs_follows ..) <| .writeLk .same

theorem execCanAddressClaim_leads (t ch : Nat) (won : Bool) (s : State) :
    Leads [.now, .reg, .answers, .mirror, .ln, .fn, .eng, .lk, .ses, .bb, .gd] s (execCanAddressClaim t ch won s) :=
  Leads.begin t <| 
    .either .same <| .either (.after (State.log_follows ..) <| .after (State.wrs_follows ..) .same) <|
    .either (.after (State.sendClaim_follows ..) <| .after (State.setCan_follows ..) .same) <|
    .foldl _ (.after (State.log_follows ..) <|
        .after (State.sendClaim_follows ..) <|
        .after (State.wrs_follows ..) <| .after (State.setCan_follows ..) .same) fun _ _ =>
          .after (State.stopFn_follows ..) .same

theorem execEthLink_leads (t port : Nat) (up : Bool) (s : State) :
    Leads [.now, .reg, .answers, .mirror, .ses, .bb] s (execEthLink t port up s) :=
  Leads.begin t <| .either .same <| .after (State.log_follows ..) <| .after (State.wr_follows ..) .same

theorem execGptpSync_leads (t port : Nat) (s : State) : Leads [.now, .answers, .lk] s (execGptpSync t port s) :=
  Leads.begin t <| .either
      (.after (State.answer_follows ..) <| .after (State.answer_follows ..) <| .writeLk .same) .same

theorem execGptpAnnounce_leads (t port : Nat) (s : State) :
    Leads [.now, .answers, .lk] s (execGptpAnnounce t port s) :=
  Leads.begin t <| .either (.after (State.answer_follows ..) <| .after (State.answer_follows ..) <|
    .writeLk .same) .same

theorem execEthGmConflict_leads (t port ident : Nat) (s : State) :
    Leads [.now, .reg, .answers, .mirror, .lk, .ses, .bb] s (execEthGmConflict t port ident s) :=
  Leads.begin t <| .either .same <|
    .after (State.logOnce_follows ..) <| .after (State.wr_follows ..) <| .writeLk .same

theorem execFnpDetect_leads (t port : Nat) (valid : Bool) (cls : Nat) (s : State) :
    Leads [.now, .reg, .answers, .mirror, .lk, .ses, .bb] s (execFnpDetect t port valid cls s) :=
  Leads.begin t <| .either .same <|
    .either (.after (State.wr_follows ..) <| .after (State.setNode_follows ..) .same) <| .either
      (.after (State.log_follows ..) <| .after (State.wr_follows ..) <| .after (State.setNode_follows ..) .same) <|
    .after (State.wr_follows ..) <| .after (State.setNode_follows ..) .same

theorem execFnpPwrFault_leads (t port power above limited : Nat) (s : State) :
    Leads [.now, .reg, .answers, .mirror, .lk, .ses, .bb] s (execFnpPwrFault t port power above limited s) :=
  Leads.begin t <| .either .same <| .trans (.after (State.bump_follows ..) <|
        .after (State.wrs_follows ..) <| .after (State.setNode_follows ..) .same) <|
    .either (.after (State.log_follows ..) <| .after (State.log_follows ..) .same) <|
    .after (State.log_follows ..) .same

theorem execFnpRepower_leads (t port : Nat) (s : State) :
    Leads [.now, .reg, .answers, .lk] s (execFnpRepower t port s) :=
  Leads.begin t <| .either (.after (State.wr_follows ..) <| .after (State.setNode_follows ..) .same) .same

theorem execFnpClear_leads (t session port : Nat) (s : State) :
    Leads [.now, .reg, .answers, .mirror, .lk, .ses, .bb] s (execFnpClear t session port s) :=
  Leads.gated fun _ => .either (.after (State.reply_follows ..) .same) <| .either
      (.after (State.reply_follows ..) <|
        .after (State.wr_follows ..) <| .after (State.setNode_follows ..) <|
          .after (State.dtcOff_follows ..) .same) <|
    .after (State.reply_follows ..) .same

theorem execSamples_leads (t port : Nat) (bytes : List Nat) (s : State) :
    Leads [.now, .answers, .lk] s (execSamples t port bytes s) :=
  Leads.begin t <| .either .same <| .after (State.setNode_follows ..) .same

theorem execTimeReq_leads (t port : Nat) (s : State) : Leads [.now, .answers, .lk] s (execTimeReq t port s) :=
  Leads.begin t <| .either (.after (State.answer_follows ..) <| .after (State.setNode_follows ..) .same) .same

theorem execTimeRep_leads (t port : Nat) (bytes : List Nat) (s : State) :
    Leads [.now, .reg, .answers, .lk] s (execTimeRep t port bytes s) := by
  unfold execTimeRep
  refine Leads.begin t ?_
  split
  · exact .either .same <| .trans (.after (State.wr_follows ..) <| .after (State.setNode_follows ..) .same) <|
      .either (.after (State.wr_follows ..) .same) .same
  · exact .same

theorem execTimeRepTimeout_leads (t port : Nat) (s : State) :
    Leads [.now, .answers, .lk] s (execTimeRepTimeout t port s) := by
  unfold execTimeRepTimeout
  refine Leads.begin t ?_
  split
  · exact .either (.after (State.setNode_follows ..) .same) .same
  · exact .same

theorem execTkAnnounce_leads (t port unit ident : Nat) (s : State) :
    Leads [.now, .reg, .answers, .mirror, .whistle, .lk, .ses, .bb] s (execTkAnnounce t port unit ident s) := by
  refine Leads.begin t <| .either .same ?_
  split
  · exact .either (.after (State.driveWhistle_follows ..) <| .after (State.wrs_follows ..) .same) <|
      .after (State.log_follows ..) <| .after (State.driveWhistle_follows ..) <| .after (State.wrs_follows ..) .same
  · exact .either (.after (State.answer_follows ..) <| .after (State.wrs_follows ..) <| .writeLk .same) .same

theorem execTkLink_leads (t port : Nat) (up : Bool) (s : State) :
    Leads [.now, .reg, .answers, .mirror, .ln, .fn, .eng, .lk, .ses, .bb, .gd] s (execTkLink t port up s) := by
  refine Leads.begin t <| .either .same <| .either
      (.trans (.after (State.wr_follows ..) <| .after (State.setTrunk_follows ..) .same) <|
        .either (.after (State.answer_follows ..) <| .after (State.log_follows ..) <| .writeLk .same) .same) <|
    .either
      (.after (State.bump_follows ..) <| .after (State.wr_follows ..) <| .after (State.setTrunk_follows ..) .same) ?_
  split
  · exact .either (.after (State.upstreamLost_follows ..) .same) .same
  · exact .same

theorem execTkSat_leads (t port mbit : Nat) (s : State) :
    Leads [.now, .reg, .answers, .mirror, .lk, .ses, .bb] s (execTkSat t port mbit s) :=
  Leads.begin t <| .either
      (.after (State.logOnce_follows ..) <| .after (State.wr_follows ..) <|
        .after (State.setTrunk_follows ..) .same) <|
    .after (State.wr_follows ..) <| .after (State.setTrunk_follows ..) .same

/-! ### Chapter 13: sessions -/

theorem execTlsHandshake_leads (t carrier : Nat) (tls : TlsIn) (s : State) :
    Leads [.now, .reg, .answers, .mirror, .ses, .bb] s (execTlsHandshake t carrier tls s) :=
  Leads.begin t <| .either .same <| .after (State.log_follows ..) .same

/-- A session let in with a slot free (13 R455). -/
theorem State.letIn_follows_of_room {s : State} {h : HelloIn} {cls : Nat} (hroom : s.ses.open_.length < 256) :
    Follows [.reg, .answers, .mirror, .ses, .bb] s (s.letIn h cls) :=
  ⟨(State.letIn_follows s h cls).1, (State.letIn_follows s h cls).2 hroom⟩

theorem execHello_leads (t : Nat) (h : HelloIn) (s : State) :
    Leads [.now, .reg, .answers, .mirror, .ses, .bb] s (execHello t h s) := by
  refine Leads.begin t <| .either .same <| .either (.writeAnswers .same) <|
    .either (.ite (fun hempty => .after (State.letIn_follows_of_room ?_) .same) fun _ =>
      .after (State.refuseHello_follows ..) .same) <|
    .either (.after (State.refuseHello_follows ..) .same) <|
    .either (.after (State.refuseHello_follows ..) .same) <| .after (State.admission_follows ..) .same
  simp only [Bool.and_eq_true, List.isEmpty_iff] at hempty
  rw [hempty.1.2]
  decide

theorem execBye_leads (t session : Nat) (msg : MsgIn) (s : State) :
    Leads [.now, .reg, .answers, .mirror, .ses, .bb] s (execBye t session msg s) :=
  Leads.onMessage fun _ => .after (State.closeSession_follows ..) <| .after (State.reply_follows ..) .same

theorem execKeepalive_leads (t session : Nat) (msg : MsgIn) (s : State) :
    Leads [.now, .reg, .answers, .mirror, .ses, .bb] s (execKeepalive t session msg s) :=
  Leads.onMessage fun _ => .after (State.reply_follows ..) .same

theorem execSessionTimeout_leads (t session : Nat) (s : State) :
    Leads [.now, .reg, .answers, .mirror, .ses, .bb] s (execSessionTimeout t session s) := by
  unfold execSessionTimeout
  refine Leads.begin t ?_
  split
  · exact .either (.after (State.closeSession_follows ..) .same) .same
  · exact .same

theorem execBadMessage_leads (t session : Nat) (msg : MsgIn) (s : State) :
    Leads [.now, .reg, .answers, .mirror, .ses, .bb] s (execBadMessage t session msg s) :=
  Leads.begin t <| .either .same <| .after (State.discard_follows ..) .same

theorem execObjectRead_leads (t session : Nat) (msg : MsgIn) (entries : List ObjIn) (s : State) :
    Leads [.now, .reg, .answers, .mirror, .ses, .bb] s (execObjectRead t session msg entries s) :=
  Leads.onMessage fun _ => .foldl _ .same fun _ _ => .after (State.readEntry_follows ..) .same

theorem execObjectWrite_leads (t session : Nat) (msg : MsgIn) (entries : List (ObjIn × Nat)) (s : State) :
    Leads [.now, .reg, .answers, .mirror, .ses, .amend, .bb, .cams] s (execObjectWrite t session msg entries s) := by
  refine Leads.onMessage fun u => .foldl _ ?_ fun _ _ => .after (State.writeEntry_follows ..) .same
  split
  · exact .after (State.protect_follows ..) .same
  · exact .same

theorem execNextFieldWrite_leads (t session index sub value : Nat) (s : State) :
    Leads [.now, .reg, .answers, .mirror, .ses, .amend, .bb] s (execNextFieldWrite t session index sub value s) := by
  unfold execNextFieldWrite
  refine Leads.begin t ?_
  split
  · exact .after (State.turnDown_follows ..) .same
  · exact .after (State.reply_follows ..) .same
  · refine .either (.after (State.reply_follows ..) .same) ?_
    split
    · exact .after (State.reply_follows ..) .same
    · exact .after (State.reply_follows ..) <| .after (State.log_follows ..) .same
    · exact .after (State.notLive_follows ..) .same
    · exact .after (State.reply_follows ..) .same
    · exact .after (State.nextWrite_follows ..) .same

theorem execOplimWrite_leads (t session fn index : Nat) (maximum : Bool) (value : Nat) (s : State) :
    Leads [.now, .reg, .answers, .mirror, .ses, .amend, .bb] s (execOplimWrite t session fn index maximum value s) :=
  Leads.gated fun _ => .after (State.liveWrite_follows ..) .same

theorem execSesMaxWrite_leads (t session cls v : Nat) (s : State) :
    Leads [.now, .reg, .answers, .mirror, .ses, .amend, .bb] s (execSesMaxWrite t session cls v s) :=
  Leads.gated fun _ => .after (State.liveWrite_follows ..) .same

theorem execPcContentWrite_leads (t session field v : Nat) (s : State) :
    Leads [.now, .reg, .answers, .mirror, .ses, .amend, .bb] s (execPcContentWrite t session field v s) :=
  Leads.gated fun _ => .either (.after (State.liveWrite_follows ..) .same) <|
    .either (.after (State.liveWrite_follows ..) .same) <| .after (State.liveWrite_follows ..) .same

theorem execStreamSubscribe_leads (t session : Nat) (msg : MsgIn) (stream every : Nat) (s : State) :
    Leads [.now, .reg, .answers, .mirror, .ses, .bb] s (execStreamSubscribe t session msg stream every s) := by
  unfold execStreamSubscribe
  refine Leads.onMessage fun _ => ?_
  split
  · exact .either (.after (State.reply_follows ..) .same) <| .either (.after (State.reply_follows ..) .same) <|
      .after (State.reply_follows ..) <| .after (State.setSession_follows ..) .same
  · exact .same

theorem execSnapshotRequest_leads (t session : Nat) (msg : MsgIn) (cam out : Nat) (s : State) :
    Leads [.now, .reg, .answers, .mirror, .ses, .bb] s (execSnapshotRequest t session msg cam out s) := by
  refine Leads.onMessage fun _ => .either (.after (State.reply_follows ..) .same) <|
    .either (.after (State.reply_follows ..) .same) ?_
  split
  · exact .after (State.reply_follows ..) .same
  · exact .after (State.reply_follows ..) .same

theorem execE2eTimeout_leads (t session dataId : Nat) (s : State) :
    Leads [.now, .reg, .answers, .mirror, .ln, .fn, .eng, .ses, .bb, .gd] s (execE2eTimeout t session dataId s) := by
  unfold execE2eTimeout
  refine Leads.begin t ?_
  split
  · exact .either .same <| .after (State.log_follows ..) <|
      .either (.after (State.endOverrides_follows ..) <| .writeAlive .same) <|
      .either (.foldl _ (.writeAlive .same) fun _ _ => .after (State.stopAny_follows ..) .same) <| .writeAlive .same
  · exact .same

/-! ### Chapter 14: the Hamper and the rucksack -/

theorem execKeySense_leads (t : Nat) (key : Option KeyIn) (s : State) :
    Leads [.now, .reg, .answers, .mirror, .ses, .bb, .hmp] s (execKeySense t key s) := by
  unfold execKeySense
  extract_lets v early _ u was _ w
  refine Leads.next <| .via u (.writeHmp <| .begin (by decide) s t) <| .either .same <|
    .via w (.after (State.wr_follows ..) <| .writeHmp .same) ?_
  clear_value was
  split
  · exact .after (State.log_follows ..) .same
  · exact .after (State.log_follows ..) .same
  · exact .same

theorem execHamperWrite_leads (t session unit : Nat) (image : ImageIn) (newMachine : Bool)
    (remote : Nat × List Int) (s : State) :
    Leads resetParts s (execHamperWrite t session unit image newMachine remote s) := by
  unfold execHamperWrite
  refine Leads.begin t ?_
  split
  · exact .after (State.turnDown_follows ..) .same
  · refine .either
        (.either (.after (State.reply_follows ..) <| .after (State.answer_follows ..) .same) <|
          .after (State.reply_follows ..) .same) <|
      .either (.after (State.reply_follows ..) .same) ?_
    split
    · next u e => exact .after (State.writeRefusal_follows _ _ u e) .same
    · split
      · exact .after (State.reply_follows ..) <| .after (State.log_follows ..) .same
      · exact .either (.after (State.reply_follows ..) <| .after (State.log_follows ..) .same) <|
          .after (State.startWrite_follows ..) .same

theorem execHmpWrite_leads (t : Nat) (ok : Bool) (s : State) :
    Leads [.now, .reg, .answers, .mirror, .ses, .bb, .hmp] s (execHmpWrite t ok s) := by
  unfold execHmpWrite
  refine Leads.begin t ?_
  split
  · exact .same
  · exact .after (State.wrs_follows ..) <| .after (State.log_follows ..) <| .writeHmp .same

theorem execShadowWriteBack_leads (t session : Nat) (s : State) :
    Leads [.now, .reg, .answers, .mirror, .ses, .bb, .hmp] s (execShadowWriteBack t session s) := by
  unfold execShadowWriteBack
  refine Leads.begin t ?_
  split
  · exact .after (State.turnDown_follows ..) .same
  · refine .either (.after (State.reply_follows ..) .same) ?_
    split
    · next u e => exact .after (State.writeRefusal_follows _ _ u e) .same
    · exact .after (State.startWrite_follows ..) .same
    · exact .after (State.reply_follows ..) .same

theorem execRucksackSend_leads (t unit fwLen ms : Nat) (s : State) :
    Leads [.now, .reg, .answers, .mirror, .ses, .bb, .md, .hmp] s (execRucksackSend t unit fwLen ms s) := by
  refine Leads.begin t <| .either .same ?_
  split
  · exact .after (State.log_follows ..) <| .after (State.answer_follows ..) <| .writeMdHmp .same
  · exact .same

theorem execRucksackRx_leads (t : Nat) (ruck : RuckIn) (s : State) :
    Leads resetParts s (execRucksackRx t ruck s) := by
  refine Leads.begin t <| .either ?_ <| .either .same ?_
  · split
    · exact .after (State.answer_follows ..) .same
    · exact .same
  · split
    · exact .after (State.startUnit_follows ..) <|
        .after (State.wrs_follows ..) <| .after (State.loadImage_follows ..) <| .writeHmpUpd .same
    · exact .after (State.answer_follows ..) .same

theorem execRuckBad_leads (t unit cause : Nat) (s : State) :
    Leads [.now, .reg, .answers, .mirror, .fn, .obs, .ses, .bb, .md, .hmp] s (execRuckBad t unit cause s) :=
  Leads.begin t <| .either .same <| .trans (.after (State.log_follows ..) <| .writeMdHmp .same) <|
    .either (.after (State.giveUp_follows ..) .same) .same

/-! ### Chapter 15: supply, modes and reset -/

theorem execPwrOv_leads (t vbat held : Nat) (s : State) :
    Leads [.now, .reg, .answers, .mirror, .ses, .bb, .pwr] s (execPwrOv t vbat held s) :=
  Leads.begin t <| 
    .either (.after (State.wr_follows ..) <| .writePwr <| .after (State.setVbat_follows ..) .same) <|
    .trans (.after (State.wr_follows ..) <| .after (State.setVbat_follows ..) .same) <|
    .either .same <| .after (State.log_follows ..) <| .writePwr .same

theorem execCrankEntry_leads (t vbat held : Nat) (s : State) :
    Leads [.now, .reg, .answers, .mirror, .tb, .ln, .vd, .fn, .opt, .lk, .ego, .out, .obs, .ses, .bb, .pwr, .fl,
      .gn, .cams] s (execCrankEntry t vbat held s) :=
  Leads.begin t <| .either (.after (State.setVbat_follows ..) .same) <|
    .trans (.after (State.setDomains_follows ..) <|
        .after (State.setCoreRail_follows ..) <|
        .after (State.wr_follows ..) <| .writePwr <| .after (State.setVbat_follows ..) .same) <|
    .after (State.dataCut_follows ..) <| .either (.after (State.obsStop_follows ..) .same) .same

theorem execPwrCrank_leads (t vbat vmin held : Nat) (s : State) :
    Leads [.now, .reg, .answers, .isl, .mirror, .ln, .vd, .fn, .opt, .lk, .ego, .out, .obs, .ses, .bb, .pwr, .gn,
      .cams] s (execPwrCrank t vbat vmin held s) := by
  unfold execPwrCrank
  refine Leads.begin t ?_
  split
  · exact .after (State.setVbat_follows ..) .same
  · exact .either (.after (State.crankLow_follows ..) <| .after (State.setVbat_follows ..) .same) <|
      .trans (.after (State.log_follows ..) <|
          .after (State.setDomains_follows ..) <| .after (State.setCoreRail_follows ..) <|
          .after (State.wr_follows ..) <|
          .writePwr <| .after (State.crankLow_follows ..) <| .after (State.setVbat_follows ..) .same) <|
      .either (.after (State.clearCause_follows ..) .same) <| .after (State.obsMode_follows ..) <|
      .after (State.dataReleased_follows ..) <| .after (State.clearCause_follows ..) .same

theorem execPwrCrankLong_leads (t vmin : Nat) (s : State) :
    Leads [.now, .reg, .answers, .mirror, .ses, .bb, .pwr, .md] s (execPwrCrankLong t vmin s) := by
  unfold execPwrCrankLong
  refine Leads.begin t ?_
  split
  · exact .same
  · exact .either .same <| .after (State.setCause_follows ..) <|
      .after (State.log_follows ..) <| .writePwr <| .after (State.crankLow_follows ..) .same

theorem execThermosStart_leads (t vmin held : Nat) (finalDone : Bool) (s : State) :
    Leads resetParts s (execThermosStart t vmin held finalDone s) :=
  Leads.begin t <| .either (.after (State.setVbat_follows ..) .same) <|
    .trans (.writeLs <| .after (State.setVbat_follows ..) .same) <|
    .after (State.goOff_follows ..) <| .either
      (.after (State.parkPanel_follows ..) <|
        .after (State.bbFinal_follows ..) <| .after (State.thermosValves_follows ..) .same) <|
    .after (State.thermosValves_follows ..) .same

theorem execPwrSens_leads (t sup held : Nat) (s : State) :
    Leads [.now, .reg, .answers, .mirror, .ses, .bb, .pwr] s (execPwrSens t sup held s) :=
  Leads.begin t <| .either .same <|
    .trans (.after (State.wr_follows ..) <| .writePwr .same) <| .either (.after (State.log_follows ..) .same) .same

theorem execSensRetry_leads (t sup : Nat) (s : State) :
    Leads [.now, .reg, .answers, .pwr] s (execSensRetry t sup s) := by
  unfold execSensRetry
  refine Leads.begin t ?_
  split
  · exact .either (.after (State.wr_follows ..) <| .writePwr .same) .same
  · exact .same

theorem execCoreRailAdjust_leads (t : Nat) (s : State) :
    Leads [.now, .reg, .answers, .pwr] s (execCoreRailAdjust t s) :=
  Leads.begin t <| .either .same <|
    .either (.after (State.setCoreRail_follows ..) <| .after (State.wr_follows ..) <| .writePwr .same) <|
    .after (State.setCoreRail_follows ..) .same

theorem execPwrTemp_leads (t sensor : Nat) (tj plate : Int) (s : State) :
    Leads [.now, .reg, .answers, .mirror, .ses, .bb, .md] s (execPwrTemp t sensor tj plate s) :=
  Leads.begin t <| .either
      (.after (State.logOnce_follows ..) <|
        .either
          (.after (State.setCause_follows ..) <|
            .after (State.log_follows ..) <| .either
              (.after (State.log_follows ..) <|
                .after (State.setCoreRail_follows ..) <| .after (State.wrs_follows ..) .same) <|
            .after (State.setCoreRail_follows ..) <| .after (State.wrs_follows ..) .same) <|
        .either
          (.after (State.clearCause_follows ..) <|
            .either
              (.after (State.log_follows ..) <|
                .after (State.setCoreRail_follows ..) <| .after (State.wrs_follows ..) .same) <|
            .after (State.setCoreRail_follows ..) <| .after (State.wrs_follows ..) .same) <|
        .either
          (.after (State.log_follows ..) <|
            .after (State.setCoreRail_follows ..) <| .after (State.wrs_follows ..) .same) <|
        .after (State.setCoreRail_follows ..) <| .after (State.wrs_follows ..) .same) <|
    .either
      (.after (State.setCause_follows ..) <|
        .after (State.log_follows ..) <| .either
          (.after (State.log_follows ..) <|
            .after (State.setCoreRail_follows ..) <| .after (State.wrs_follows ..) .same) <|
        .after (State.setCoreRail_follows ..) <| .after (State.wrs_follows ..) .same) <|
    .either
      (.after (State.clearCause_follows ..) <|
        .either
          (.after (State.log_follows ..) <|
            .after (State.setCoreRail_follows ..) <| .after (State.wrs_follows ..) .same) <|
        .after (State.setCoreRail_follows ..) <| .after (State.wrs_follows ..) .same) <|
    .either
      (.after (State.log_follows ..) <| .after (State.setCoreRail_follows ..) <|
        .after (State.wrs_follows ..) .same) <|
    .after (State.setCoreRail_follows ..) <| .after (State.wrs_follows ..) .same

theorem execModeRequest_leads (t session target : Nat) (s : State) :
    Leads [.now, .reg, .answers, .mirror, .ln, .vd, .fn, .opt, .eng, .lk, .ego, .out, .obs, .ses, .bb, .md, .gd] s
      (execModeRequest t session target s) :=
  Leads.gated fun _ => .after (State.judgeMode_follows ..) .same

theorem execModeTransitionStart_leads (t target : Nat) (s : State) :
    Leads [.now, .reg, .answers, .mirror, .ln, .vd, .fn, .opt, .eng, .lk, .ego, .out, .obs, .ses, .bb, .md, .gd] s
      (execModeTransitionStart t target s) :=
  Leads.begin t <| .either (.after (State.startTransition_follows ..) .same) .same

theorem execModeChange_leads (t : Nat) (reported : List Nat) (s : State) :
    Leads resetParts s (execModeChange t reported s) := by
  unfold execModeChange
  refine Leads.begin t ?_
  split
  · exact .same
  · exact .either (.either (.after (State.goSleep_follows ..) .same) .same) <|
      .either (.after (State.assertReset_follows ..) <| .after (State.completeTransition_follows ..) .same) <|
      .either .same <| .after (State.completeTransition_follows ..) .same

theorem execWorkerModeNotice_leads (t target : Nat) (s : State) :
    Leads resetParts s (execWorkerModeNotice t target s) :=
  Leads.begin t <| .either .same <| .either (.after (State.assertReset_follows ..) .same) <|
    .either .same <| .after (State.startTransition_follows ..) .same

theorem execSleepEntry_leads (t : Nat) (s : State) :
    Leads [.now, .reg, .answers, .mirror, .tb, .ln, .vd, .fn, .opt, .eng, .lk, .ego, .out, .obs, .ses, .bb, .pc,
      .md, .gn, .gd] s (execSleepEntry t s) :=
  Leads.begin t <| .either
      (.after (State.pcRequest_follows ..) <|
        .after (State.sleepSave_follows ..) <| .after (State.startTransition_follows ..) .same) .same

theorem execWake_leads (t line : Nat) (active : Bool) (s : State) :
    Leads [.now, .reg, .answers, .mirror, .tb, .ln, .vd, .fn, .opt, .eng, .lk, .ego, .out, .obs, .ses, .bb, .pwr,
      .md, .rst, .gn, .gd] s (execWake t line active s) := by
  refine Leads.begin t <| .either (.writePwr <| .writePwr .same) <| .either
      (.either (.writePwr <| .writePwr .same) <|
        .writeRst <| .either (.after (State.endRefresh_follows ..) <| .writePwr <| .writePwr .same) <|
        .writePwr <| .writePwr .same) ?_
  split
  · exact .either (.after (State.startTransition_follows ..) <| .writePwr <| .writePwr .same) <|
      .writePwr <| .writePwr .same
  · exact .writePwr <| .writePwr .same

theorem execForegroundTest_leads (t session : Nat) (req : TestIn) (s : State) :
    Leads [.now, .reg, .answers, .mirror, .ln, .vd, .fn, .eng, .ses, .bb, .md, .gd] s
      (execForegroundTest t session req s) := by
  refine Leads.gated fun _ => .either (.after (State.reply_follows ..) .same) <|
    .either (.after (State.answer_follows ..) .same) <|
    .either (.after (State.reply_follows ..) <| .after (State.log_follows ..) .same) <|
    .either (.after (State.reply_follows ..) .same) <| .either ?_ <|
    .either (.after (State.busyTest_follows ..) .same) <|
    .either (.after (State.startTest_follows ..) .same) <| .either .same <| .writeMd .same
  extract_lets u
  refine .via u ?_ <|
    .either (.after (State.busyTest_follows ..) .same) <| .after (State.startTest_follows ..) .same
  unfold u
  split
  · exact .either .same <| .after (State.stopFn_follows ..) .same
  · exact .same

theorem execTestBusy_leads (t kind chan : Nat) (s : State) :
    Leads [.now, .reg, .answers, .mirror, .ses, .bb, .md] s (execTestBusy t kind chan s) := by
  unfold execTestBusy
  refine Leads.begin t ?_
  split
  · exact .after (State.busyTest_follows ..) <| .writeMd .same
  · exact .same

theorem execTestResult_leads (t kind chan : Nat) (load : Bool) (ohms : Nat) (s : State) :
    Leads [.now, .reg, .answers, .mirror, .vd, .ls, .fn, .ses, .bb, .md] s
      (execTestResult t kind chan load ohms s) := by
  unfold execTestResult
  extract_lets start here found _ u
  refine Leads.next <| .via start (.begin (by decide) s t) ?_
  clear_value found
  split
  · extract_lets v w
    refine .after (State.reply_follows ..) <| .after (State.log_follows ..) <| .via u (.writeMd .same) <|
      .via v (.either (.after (State.wr_follows ..) .same) .same) ?_
    refine .either .same <| .via w (.after (State.valveOff_follows ..) .same) ?_
    split
    · exact .either (.after (State.orderStopped_follows ..) .same) .same
    · exact .same
  · exact .same

theorem execModeImage_leads (t sec : Nat) (s : State) : Leads resetParts s (execModeImage t sec s) :=
  Leads.begin t <| .either .same <| .after (State.log_follows ..) <| .after (State.assertReset_follows ..) .same

theorem execThermosCapacityTest_leads (t : Nat) (ok : Bool) (capacity : Nat) (s : State) :
    Leads [.now, .reg, .answers, .mirror, .ses, .bb, .pwr] s (execThermosCapacityTest t ok capacity s) :=
  Leads.begin t <| .either .same <| .either (.after (State.wr_follows ..) <| .writePwr .same) <|
    .after (State.log_follows ..) <| .after (State.wr_follows ..) <| .writePwr .same

theorem execPowerOn_leads (t vbat held : Nat) (s : State) : Leads resetParts s (execPowerOn t vbat held s) :=
  Leads.begin t <| .either (.after (State.wr_follows ..) .same) <| .after (State.setDomains_follows ..) <|
    .after (State.setCoreRail_follows ..) <| .after (State.wr_follows ..) <| .writePwrRst <|
    .after (State.resetRecord_follows ..) <| .after (State.cleared_follows ..) <| .after (State.wr_follows ..) .same

theorem execBrownOut_leads (t held : Nat) (s : State) : Leads resetParts s (execBrownOut t held s) :=
  Leads.begin t <| .either (.after (State.assertReset_follows ..) .same) .same

theorem execResetPin_leads (t : Nat) (low : Bool) (held : Nat) (s : State) :
    Leads resetParts s (execResetPin t low held s) :=
  Leads.either (Leads.begin t .same) <| Leads.begin t <|
    .either (.after (State.assertReset_follows ..) <| .writeRst .same) <| .writeRst .same

theorem execWatchdog_leads (t plane unserved : Nat) (s : State) :
    Leads resetParts s (execWatchdog t plane unserved s) :=
  Leads.begin t <| .either (.after (State.assertReset_follows ..) .same) .same

theorem execLockUp_leads (t plane : Nat) (s : State) : Leads resetParts s (execLockUp t plane s) :=
  Leads.begin t <| .either (.after (State.assertReset_follows ..) .same) .same

theorem execSoftwareReset_leads (t session : Nat) (core : Bool) (block : Nat) (idle : Bool) (s : State) :
    Leads resetParts s (execSoftwareReset t session core block idle s) :=
  Leads.gated fun _ => .either (.after (State.reply_follows ..) .same) <| .either .same <|
    .either (.after (State.assertReset_follows ..) <| .after (State.reply_follows ..) .same) <|
    .either (.after (State.reply_follows ..) <| .after (State.log_follows ..) .same) <|
    .after (State.resetBlock_follows ..) <| .after (State.reply_follows ..) .same

theorem execDebugReset_leads (t : Nat) (s : State) : Leads resetParts s (execDebugReset t s) :=
  Leads.begin t <| .either (.after (State.assertReset_follows ..) .same) .same

theorem execRstEscalate_leads (t target : Nat) (s : State) : Leads resetParts s (execRstEscalate t target s) := by
  refine Leads.begin t <| .either .same <| .either
      (.either .same <|
        .trans (.after (State.wr_follows ..) <| .after (State.assertReset_follows ..) .same) <|
        .after (State.log_follows ..) <| .either (.writeRst .same) .same) ?_
  split
  · exact .after (State.log_follows ..) <|
      .after (State.wr_follows ..) <| .after (State.assertReset_follows ..) <| .writeRst .same
  · exact .same

theorem execResetRelease_leads (t : Nat) (start : StartIn) (s : State) :
    Leads resetParts s (execResetRelease t start s) :=
  Leads.begin t <| .either .same <|
    .trans (.after (State.bootSlot_follows ..) <| .after (State.beginRelease_follows ..) .same) <|
    .either (.after (State.runStart_follows ..) <| .after (State.loadPowerDie_follows ..) .same) <| .writeRst .same

theorem execConfigEnd_leads (t managerMode : Nat) (s : State) :
    Leads [.now, .reg, .answers, .isl, .mirror, .tb, .ln, .vd, .ls, .fn, .opt, .lk, .ego, .out, .obs, .ses, .bb,
      .pc, .pwr, .md, .rst, .hmp, .upd, .gn, .cams] s (execConfigEnd t managerMode s) :=
  Leads.begin t <| .either .same <|
    .trans (.after (State.wr_follows ..) <| .writeLnRstUpd <|
      .after (State.storeShadow_follows ..) <| .after (State.confirmSlot_follows ..) .same) <|
    .trans (.either (.after (State.pcRequest_follows ..) <| .after (State.log_follows ..) <|
      .after (State.enterMode_follows ..) <| .after (State.cancelOnMode_follows ..) .same) .same) <|
    .either (.after (State.answer_follows ..) .same) .same

theorem execModeConfigFail_leads (t : Nat) (s : State) : Leads resetParts s (execModeConfigFail t s) :=
  Leads.begin t <| .either (.after (State.log_follows ..) <| .after (State.assertReset_follows ..) .same) .same

/-! ### Chapter 16: black box and postcard -/

theorem execBbRecordWrite_leads (t stepsDone : Nat) (s : State) :
    Leads [.now, .reg, .answers, .mirror, .ses, .bb] s (execBbRecordWrite t stepsDone s) := by
  unfold execBbRecordWrite
  refine Leads.begin t ?_
  split
  · exact .same
  · next it rest hqueue =>
      refine .either .same <| .after (State.bbWrite_follows ..) <| .writeBb .same (hv := ?_)
      rw [hqueue]
      exact Nat.le_succ _

theorem execBbLost_leads (t : Nat) (s : State) :
    Leads [.now, .reg, .answers, .mirror, .ses, .bb] s (execBbLost t s) :=
  Leads.begin t <| .either
      (.after (State.log_follows ..) <| .after (State.bbPush_follows ..) <| .writeBb .same) .same

theorem execBbAnchor_leads (t : Nat) (s : State) : Leads [.now, .reg, .answers, .bb] s (execBbAnchor t s) :=
  Leads.begin t <| .either (.after (State.bbAnchor_follows ..) .same) .same

theorem execHoursSave_leads (t : Nat) (s : State) : Leads [.now, .answers, .bb] s (execHoursSave t s) :=
  Leads.begin t <| .either (.after (State.saveCtrl_follows ..) .same) .same

theorem execSeqBlockRequest_leads (t unit : Nat) (granted : Option Nat) (s : State) :
    Leads [.now, .answers, .bb] s (execSeqBlockRequest t unit granted s) := by
  refine Leads.begin t <| .either .same ?_
  split
  · exact .either (.after (State.holdBlock_follows ..) .same) .same
  · exact .either (.either (.after (State.askSeq_follows ..) .same) .same) <|
      .either (.after (State.handOut_follows ..) .same) .same

theorem execBbReadout_leads (t session unit area : Nat) (first : Option (Bool × Nat × Nat)) (limit : Nat)
    (remote : Nat × List Int) (s : State) :
    Leads [.now, .answers] s (execBbReadout t session unit area first limit remote s) := by
  unfold execBbReadout
  refine Leads.begin t ?_
  split
  · exact .after (State.turnDown_follows ..) .same
  · exact .either (.after (State.reply_follows ..) .same) <|
      .either (.after (State.reply_follows ..) <| .after (State.answer_follows ..) .same) <|
      .after (State.reply_follows ..) .same

theorem execPcUpdate_leads (t : Nat) (temp : Int) (s : State) :
    Leads [.now, .reg, .answers, .mirror, .ses, .bb, .pc] s (execPcUpdate t temp s) :=
  Leads.begin t <| .either (.after (State.pcLatch_follows ..) .same) .same

theorem execPcUpdateDone_leads (t : Nat) (temp : Int) (s : State) :
    Leads [.now, .reg, .answers, .mirror, .ses, .bb, .pc] s (execPcUpdateDone t temp s) := by
  unfold execPcUpdateDone
  refine Leads.begin t ?_
  split
  · exact .same
  · exact .either .same <| .trans (.after (State.pcRecord_follows ..) <|
          .after (State.railsDown_follows ..) <|
          .after (State.wrs_follows ..) <| .after (State.bump_follows ..) <| .writePc .same) <|
      .either (.after (State.pcLatch_follows ..) .same) <| .either (.after (State.pcLatch_follows ..) .same) .same

theorem execPcTempReturn_leads (t : Nat) (temp : Int) (s : State) :
    Leads [.now, .reg, .answers, .mirror, .ses, .bb, .pc] s (execPcTempReturn t temp s) :=
  Leads.begin t <| .either (.after (State.pcLatch_follows ..) .same) .same

theorem execPcClear_leads (t session : Nat) (s : State) :
    Leads [.now, .reg, .answers, .mirror, .ses, .bb] s (execPcClear t session s) :=
  Leads.gated fun _ => .either (.after (State.reply_follows ..) .same) <|
    .either (.after (State.reply_follows ..) .same) <|
    .after (State.reply_follows ..) <| .after (State.log_follows ..) <| .after (State.wrs_follows ..) .same

/-! ### Chapter 17: update and fleet -/

theorem execBegin_leads (t session : Nat) (man : ManifestIn) (s : State) :
    Leads [.now, .reg, .answers, .mirror, .ses, .bb, .upd] s (execBegin t session man s) := by
  unfold execBegin
  refine Leads.begin t ?_
  split
  · exact .after (State.reply_follows ..) .same
  · refine .either (.after (State.updRefused_follows ..) .same) <|
      .either (.after (State.reply_follows ..) <| .after (State.log_follows ..) .same) <|
      .either (.after (State.updBusy_follows ..) .same) <|
      .either (.after (State.reply_follows ..) <| .after (State.log_follows ..) .same) ?_
    split
    · exact .either (.after (State.reply_follows ..) .same) <| .after (State.updBusy_follows ..) .same
    · exact .after (State.openTransfer_follows ..) .same

theorem execBlock_leads (t session n : Nat) (data : List Nat) (crc : Nat) (s : State) :
    Leads [.now, .reg, .answers, .mirror, .ses, .bb, .upd] s (execBlock t session n data crc s) := by
  unfold execBlock
  refine Leads.begin t ?_
  split
  · exact .after (State.reply_follows ..) .same
  · exact .after (State.updRefused_follows ..) .same
  · exact .either (.after (State.reply_follows ..) .same) <| .either
        (.after (State.reply_follows ..) <| .after (State.log_follows ..) <| .after (State.bump_follows ..) .same) <|
      .after (State.reply_follows ..) <| .after (State.takeBlock_follows ..) .same

theorem execStatus_leads (t session : Nat) (s : State) : Leads [.now, .reg, .answers] s (execStatus t session s) := by
  unfold execStatus
  refine Leads.begin t ?_
  split
  · exact .after (State.reply_follows ..) .same
  · exact .after (State.reply_follows ..) .same

theorem execAbort_leads (t session : Nat) (s : State) :
    Leads [.now, .reg, .answers, .mirror, .ses, .bb, .upd] s (execAbort t session s) := by
  unfold execAbort
  refine Leads.begin t ?_
  split
  · exact .after (State.reply_follows ..) .same
  · exact .either (.after (State.updBusy_follows ..) .same) <| .either (.after (State.reply_follows ..) .same) <|
      .after (State.reply_follows ..) <| .after (State.endTransfer_follows ..) .same

theorem execActivate_leads (t session : Nat) (atNext : Bool) (s : State) :
    Leads [.now, .reg, .answers, .mirror, .ln, .vd, .fn, .opt, .eng, .lk, .ego, .out, .obs, .ses, .bb, .md, .upd,
      .gd] s (execActivate t session atNext s) := by
  unfold execActivate
  refine Leads.begin t ?_
  split
  · exact .after (State.reply_follows ..) .same
  · refine .either (.after (State.updRefused_follows ..) .same) ?_
    split
    · exact .after (State.activateNow_follows ..) .same
    · exact .same

theorem execUpdVerify_leads (t : Nat) (s : State) :
    Leads [.now, .reg, .answers, .mirror, .ses, .bb, .upd] s (execUpdVerify t s) := by
  unfold execUpdVerify
  refine Leads.begin t ?_
  split
  · exact .same
  · exact .either .same <|
      .either (.after (State.log_follows ..) <| .after (State.wr_follows ..) <| .writeUpd .same) <|
      .foldl _ (.after (State.wrs_follows ..) <| .writeUpd .same) fun _ _ => .after (State.log_follows ..) .same

theorem execUpdExpire_leads (t : Nat) (s : State) : Leads [.now, .reg, .answers, .upd] s (execUpdExpire t s) :=
  Leads.begin t <| .either (.after (State.endTransfer_follows ..) .same) .same

theorem execFlReconnect_leads (t conn : Nat) (stage : FleetStep) (cell wlan : Bool) (s : State) :
    Leads [.now, .reg, .answers, .mirror, .ses, .bb, .fl] s (execFlReconnect t conn stage cell wlan s) := by
  refine Leads.begin t <| .either .same ?_
  split
  · refine .either .same ?_
    split
    · exact .after (State.fleetOpens_follows ..) .same
    · exact .after (State.fleetFailed_follows ..) .same
  · exact .either (.after (State.fleetFailed_follows ..) .same) .same
  · exact .either .same <| .either (.after (State.fleetFailed_follows ..) .same) <|
      .either (.after (State.fleetFailed_follows ..) <| .after (State.log_follows ..) .same) <|
      .after (State.fleetUp_follows ..) .same

theorem execTelemetryPublish_leads (t : Nat) (s : State) :
    Leads [.now, .reg, .answers, .mirror, .ses, .bb, .fl] s (execTelemetryPublish t s) := by
  refine Leads.begin t <| .either .same ?_
  split
  · exact .same
  · exact .either (.after (State.publishTele_follows ..) <| .writeFl .same) <|
      .trans (.after (State.wr_follows ..) <| .writeFl <| .writeFl .same) <|
      .either (.after (State.log_follows ..) <| .after (State.bump_follows ..) .same) .same

theorem execCartBroadcast_leads (t : Nat) (s : State) :
    Leads [.now, .free, .reg, .answers, .fl] s (execCartBroadcast t s) := by
  refine Leads.begin t <| .either .same ?_
  split
  · exact .same
  · extract_lets _ u seq
    split
    next nav v hv =>
    exact .after (State.answer_follows ..) <| .snd hv <| .after (State.cartRecord_follows ..) <|
      .after (State.wr_follows ..) <| .writeFl .same

/-! ### Chapter 18 and the commands beside the chapters' tables -/

theorem execUiStatusConvert_leads (t ui : Nat) (reading : ReadingIn) (s : State) :
    Leads [.now, .free, .reg, .answers, .ui] s (execUiStatusConvert t ui reading s) :=
  Leads.begin t <| .either .same <| .after (State.convert_follows ..) .same

theorem execUiShuntReclose_leads (t ui : Nat) (s : State) :
    Leads [.now, .answers, .ui] s (execUiShuntReclose t ui s) := by
  unfold execUiShuntReclose
  refine Leads.begin t ?_
  split
  · exact .either .same <| .after (State.setUi_follows ..) .same
  · exact .same

theorem execGgaSend_leads (t slot : Nat) (s : State) : Leads [.now, .answers, .gn] s (execGgaSend t slot s) := by
  refine Leads.begin t <| .either ?_ .same
  split
  · exact .after (State.answer_follows ..) <| .after (State.setCor_follows ..) .same
  · exact .same

theorem execFnpLink_leads (t port : Nat) (up : Bool) (s : State) :
    Leads [.now, .reg, .answers, .lk] s (execFnpLink t port up s) :=
  Leads.begin t <| .either .same <| .either (.either (.after (State.wr_follows ..) .same) .same) <|
    .either (.after (State.wr_follows ..) <| .after (State.setNode_follows ..) .same) .same

theorem execTkLinkNotice_leads (t port : Nat) (s : State) :
    Leads [.now, .reg, .answers, .mirror, .ln, .fn, .eng, .lk, .ses, .bb, .gd] s (execTkLinkNotice t port s) :=
  Leads.begin t <| .either (.after (State.upstreamLost_follows ..) .same) .same

theorem execSesConnectionClosed_leads (t session : Nat) (s : State) :
    Leads [.now, .reg, .answers, .mirror, .ses, .bb] s (execSesConnectionClosed t session s) := by
  unfold execSesConnectionClosed
  refine Leads.begin t ?_
  split
  · exact .either (.after (State.closeSession_follows ..) .same) .same
  · exact .same

theorem execFlConnectionLost_leads (t conn : Nat) (s : State) :
    Leads [.now, .reg, .answers, .mirror, .ses, .bb, .fl] s (execFlConnectionLost t conn s) :=
  Leads.begin t <| .after (State.fleetDown_follows ..) .same

theorem execWorkerSafeStopReport_leads (t unit : Nat) (holds : Bool) (s : State) :
    Leads [.now, .reg, .answers, .bb, .md] s (execWorkerSafeStopReport t unit holds s) :=
  Leads.begin t <| .either .same <| .either (.after (State.setCause_follows ..) <| .writeMd .same) <|
    .either (.after (State.clearCause_follows ..) <| .writeMd .same) <| .writeMd .same

theorem execSvcEnChange_leads (t : Nat) (grounded : Bool) (s : State) :
    Leads [.now, .answers, .pwr] s (execSvcEnChange t grounded s) :=
  Leads.begin t <| .writePwr .same

theorem execPcReschedule_leads (t : Nat) (temp : Int) (s : State) :
    Leads [.now, .reg, .answers] s (execPcReschedule t temp s) := by
  unfold execPcReschedule
  refine Leads.begin t ?_
  split
  · exact .either (.after (State.wr_follows ..) .same) <|
      .after (State.wr_follows ..) <| .after (State.wr_follows ..) .same
  · exact .after (State.wr_follows ..) .same

theorem execVbatLoss_leads (t vbat : Nat) (s : State) :
    Leads [.now, .mem, .answers, .tb, .gn] s (execVbatLoss t vbat s) :=
  Leads.begin t <| .either (.after (State.loseRetention_follows ..) <| .loseRtc .same) .same

/-! ### Every command -/

/-- Every command changes no part but those that `touched` lists for it, and keeps the bounds. -/
theorem exec_leads (i : Instr) (s : State) : Leads (touched i) s (exec i s) := by
  cases i with
  | canaryWindowEnd | islClock | crossingTransfer | islStall | fifoResync | islResyncFail | islandRestart
  | spbPublish | gateRequest | mirrorSnapshotRefresh | eventArrive | eventRelease | protWrite | masterAccess
  | sramScrub | dramSlotDecision | dramPrioWrite | gnssTimeUpdate | pendingStep | slewEnd | holdoverEntry
  | holdoverExpire | ppsEdge | evtEdge | tbEvtOverrun | tick | second | whistleFrameRx | rtReq | rtRep
  | rtRepRx | timeStatusMessage | timeStatusLate | tbWhLoss | lnCohCancel | whistleReturn | periodicFire
  | lnInsert | oneshotArm | oneshotFire | lnCancel | eventSubscribe | harvestTimeSave | rtcCalibration =>
    exact exec_leads_of_planes (by simp [chapterOf]) s
  | functionLaunch t fn instant readings warms dstep =>
    exact execFunctionLaunch_leads t fn instant readings warms dstep s
  | obsStep t instant => exact execObsStep_leads t instant s
  | obsGatherClose t => exact execObsGatherClose_leads t s
  | obsStepOutput t net => exact execObsStepOutput_leads t net s
  | obsOverrun t => exact execObsOverrun_leads t s
  | obsSampleArrive t bind time raw => exact execObsSampleArrive_leads t bind time raw s
  | sourceMissing t bind unitDown => exact execSourceMissing_leads t bind unitDown s
  | offsetEstimate t bind offset unc => exact execOffsetEstimate_leads t bind offset unc s
  | offsetInvalid t bind => exact execOffsetInvalid_leads t bind s
  | obsStateEcc t region => exact execObsStateEcc_leads t region s
  | packSelect t session slot => exact execPackSelect_leads t session slot s
  | obsPackChange t => exact execObsPackChange_leads t s
  | operatorSetpoint t session fn index value dataId ovr =>
    exact execOperatorSetpoint_leads t session fn index value dataId ovr s
  | optimiserCycle t cands maps => exact execOptimiserCycle_leads t cands maps s
  | goalSelect t session goal => exact execGoalSelect_leads t session goal s
  | fnStopRequest t session fn => exact execFnStopRequest_leads t session fn s
  | fnRestartRequest t session fn tj remote => exact execFnRestartRequest_leads t session fn tj remote s
  | changeSet t session fn writes restart remote => exact execChangeSet_leads t session fn writes restart remote s
  | amendRead t session => exact execAmendRead_leads t session s
  | amendCommit t session => exact execAmendCommit_leads t session s
  | loopSample t loop instant => exact execLoopSample_leads t loop instant s
  | loopEvaluate t engine => exact execLoopEvaluate_leads t engine s
  | autotuneRequest t session req => exact execAutotuneRequest_leads t session req s
  | ceMismatch t engine slot => exact execCeMismatch_leads t engine slot s
  | ceTakeover t => exact execCeTakeover_leads t s
  | spareSelfTest t ok => exact execSpareSelfTest_leads t ok s
  | loopStateEcc t loop good offset => exact execLoopStateEcc_leads t loop good offset s
  | channelDump t ch dump => exact execChannelDump_leads t ch dump s
  | channelRatesArrive t ch code carrier => exact execChannelRatesArrive_leads t ch code carrier s
  | channelLost t ch => exact execChannelLost_leads t ch s
  | measEpoch t view meas => exact execMeasEpoch_leads t view meas s
  | gnSolution t sol => exact execGnSolution_leads t sol s
  | navWord t word => exact execNavWord_leads t word s
  | rtcmFrame t slot crcOk msg => exact execRtcmFrame_leads t slot crcOk msg s
  | gnAntOpen t ant current => exact execGnAntOpen_leads t ant current s
  | gnAntShort t ant => exact execGnAntShort_leads t ant s
  | antRetry t ant => exact execAntRetry_leads t ant s
  | retentionWrite t => exact execRetentionWrite_leads t s
  | gnssRefresh t => exact execGnssRefresh_leads t s
  | gnRefresh t => exact execGnRefresh_leads t s
  | guidanceStep t nav => exact execGuidanceStep_leads t nav s
  | gdEngage t session tj remote => exact execGdEngage_leads t session tj remote s
  | turnRequest t session right => exact execTurnRequest_leads t session right s
  | lineLoad t session bytes => exact execLineLoad_leads t session bytes s
  | lineSelect t session id => exact execLineSelect_leads t session id s
  | ymFlowSample t time flow => exact execYmFlowSample_leads t time flow s
  | newLoad t session => exact execNewLoad_leads t session s
  | ticketEntry t session loads mass moist => exact execTicketEntry_leads t session loads mass moist s
  | taskdataExport t session first last => exact execTaskdataExport_leads t session first last s
  | frameStart t cam frame => exact execFrameStart_leads t cam frame s
  | camMissed t cam => exact execCamMissed_leads t cam s
  | unitReady t cams => exact execUnitReady_leads t cams s
  | ispUnitDone t core ae => exact execIspUnitDone_leads t core ae s
  | ispAbort t core => exact execIspAbort_leads t core s
  | settingWrite t cam done => exact execSettingWrite_leads t cam done s
  | camLink t cam => exact execCamLink_leads t cam s
  | linkRetrain t cam ok trigLat => exact execLinkRetrain_leads t cam ok trigLat s
  | visionRun t cam values => exact execVisionRun_leads t cam values s
  | visDrop t cam => exact execVisDrop_leads t cam s
  | visPair t cam => exact execVisPair_leads t cam s
  | cropWrite t session cam out field value => exact execCropWrite_leads t session cam out field value s
  | ispPrioWrite t session cam v => exact execIspPrioWrite_leads t session cam v s
  | pocOvercurrent t currents => exact execPocOvercurrent_leads t currents s
  | propTarget t ch ma profile src hold => exact execPropTarget_leads t ch ma profile src hold s
  | profileStart t ch prf cur src rail => exact execProfileStart_leads t ch prf cur src rail s
  | profileOff t ch src rail => exact execProfileOff_leads t ch src rail s
  | boostRailReady t conv rail => exact execBoostRailReady_leads t conv rail s
  | peakReached t ch reached => exact execPeakReached_leads t ch reached s
  | peakEnd t ch rail => exact execPeakEnd_leads t ch rail s
  | holdEnd t ch => exact execHoldEnd_leads t ch s
  | offDone t ch cur => exact execOffDone_leads t ch cur s
  | carrierPeriod t ch mean need => exact execCarrierPeriod_leads t ch mean need s
  | vdSat t ch => exact execVdSat_leads t ch s
  | coilModelStep t tmod coils => exact execCoilModelStep_leads t tmod coils s
  | vdOpen t ch cur => exact execVdOpen_leads t ch cur s
  | vdShort t ch cur => exact execVdShort_leads t ch cur s
  | vdShortRetry t ch => exact execVdShortRetry_leads t ch s
  | vdShortGnd t ch cur above => exact execVdShortGnd_leads t ch cur above s
  | vdBankOc t bank cur => exact execVdBankOc_leads t bank cur s
  | valveResetRelease t ch => exact execValveResetRelease_leads t ch s
  | switchCommand t ch on src mj => exact execSwitchCommand_leads t ch on src mj s
  | switchDeferredApply t ch mj => exact execSwitchDeferredApply_leads t ch mj s
  | lsTrip t ch limited above cur mj => exact execLsTrip_leads t ch limited above cur mj s
  | retryPauseEnd t ch => exact execRetryPauseEnd_leads t ch s
  | lsThermal t ch tj mj => exact execLsThermal_leads t ch tj mj s
  | lsOpen t ch cur held => exact execLsOpen_leads t ch cur held s
  | lsClearRequest t session ch tj => exact execLsClearRequest_leads t session ch tj s
  | resetGraceEnd t clamps => exact execResetGraceEnd_leads t clamps s
  | linkWatchdogExpire t => exact execLinkWatchdogExpire_leads t s
  | fullResetDead t => exact execFullResetDead_leads t s
  | whActive t clamps => exact execWhActive_leads t clamps s
  | whPinEdge t pin level clamps => exact execWhPinEdge_leads t pin level clamps s
  | whEnChange t level clamps => exact execWhEnChange_leads t level clamps s
  | whFreq t pin hz clamps => exact execWhFreq_leads t pin hz clamps s
  | whStoreLoad t crcOk => exact execWhStoreLoad_leads t crcOk s
  | canFrameRx t ch age frame => exact execCanFrameRx_leads t ch age frame s
  | canFrameTxDone t ch age => exact execCanFrameTxDone_leads t ch age s
  | canBusoff t ch => exact execCanBusoff_leads t ch s
  | canBusoffRecover t ch => exact execCanBusoffRecover_leads t ch s
  | canTsmap t => exact execCanTsmap_leads t s
  | canAddressClaim t ch won => exact execCanAddressClaim_leads t ch won s
  | ethLink t port up => exact execEthLink_leads t port up s
  | gptpSync t port => exact execGptpSync_leads t port s
  | gptpAnnounce t port => exact execGptpAnnounce_leads t port s
  | ethGmConflict t port ident => exact execEthGmConflict_leads t port ident s
  | fnpDetect t port valid cls => exact execFnpDetect_leads t port valid cls s
  | fnpPwrFault t port power above limited => exact execFnpPwrFault_leads t port power above limited s
  | fnpRepower t port => exact execFnpRepower_leads t port s
  | fnpClear t session port => exact execFnpClear_leads t session port s
  | samples t port bytes => exact execSamples_leads t port bytes s
  | timeReq t port => exact execTimeReq_leads t port s
  | timeRep t port bytes => exact execTimeRep_leads t port bytes s
  | timeRepTimeout t port => exact execTimeRepTimeout_leads t port s
  | tkAnnounce t port unit ident => exact execTkAnnounce_leads t port unit ident s
  | tkLink t port up => exact execTkLink_leads t port up s
  | tkSat t port mbit => exact execTkSat_leads t port mbit s
  | tlsHandshake t carrier tls => exact execTlsHandshake_leads t carrier tls s
  | hello t h => exact execHello_leads t h s
  | bye t session msg => exact execBye_leads t session msg s
  | keepalive t session msg => exact execKeepalive_leads t session msg s
  | sessionTimeout t session => exact execSessionTimeout_leads t session s
  | badMessage t session msg => exact execBadMessage_leads t session msg s
  | objectRead t session msg entries => exact execObjectRead_leads t session msg entries s
  | objectWrite t session msg entries => exact execObjectWrite_leads t session msg entries s
  | nextFieldWrite t session index sub value => exact execNextFieldWrite_leads t session index sub value s
  | oplimWrite t session fn index maximum value => exact execOplimWrite_leads t session fn index maximum value s
  | sesMaxWrite t session cls v => exact execSesMaxWrite_leads t session cls v s
  | pcContentWrite t session field v => exact execPcContentWrite_leads t session field v s
  | streamSubscribe t session msg stream every => exact execStreamSubscribe_leads t session msg stream every s
  | snapshotRequest t session msg cam out => exact execSnapshotRequest_leads t session msg cam out s
  | e2eTimeout t session dataId => exact execE2eTimeout_leads t session dataId s
  | keySense t key => exact execKeySense_leads t key s
  | hamperWrite t session unit image newMachine remote =>
    exact execHamperWrite_leads t session unit image newMachine remote s
  | hmpWrite t ok => exact execHmpWrite_leads t ok s
  | shadowWriteBack t session => exact execShadowWriteBack_leads t session s
  | rucksackSend t unit fwLen ms => exact execRucksackSend_leads t unit fwLen ms s
  | rucksackRx t ruck => exact execRucksackRx_leads t ruck s
  | ruckBad t unit cause => exact execRuckBad_leads t unit cause s
  | pwrOv t vbat held => exact execPwrOv_leads t vbat held s
  | crankEntry t vbat held => exact execCrankEntry_leads t vbat held s
  | pwrCrank t vbat vmin held => exact execPwrCrank_leads t vbat vmin held s
  | pwrCrankLong t vmin => exact execPwrCrankLong_leads t vmin s
  | thermosStart t vmin held finalDone => exact execThermosStart_leads t vmin held finalDone s
  | pwrSens t sup held => exact execPwrSens_leads t sup held s
  | sensRetry t sup => exact execSensRetry_leads t sup s
  | coreRailAdjust t => exact execCoreRailAdjust_leads t s
  | pwrTemp t sensor tj plate => exact execPwrTemp_leads t sensor tj plate s
  | modeRequest t session target => exact execModeRequest_leads t session target s
  | modeTransitionStart t target => exact execModeTransitionStart_leads t target s
  | modeChange t reported => exact execModeChange_leads t reported s
  | workerModeNotice t target => exact execWorkerModeNotice_leads t target s
  | sleepEntry t => exact execSleepEntry_leads t s
  | wake t line active => exact execWake_leads t line active s
  | foregroundTest t session req => exact execForegroundTest_leads t session req s
  | testBusy t kind chan => exact execTestBusy_leads t kind chan s
  | testResult t kind chan load ohms => exact execTestResult_leads t kind chan load ohms s
  | modeImage t sec => exact execModeImage_leads t sec s
  | thermosCapacityTest t ok capacity => exact execThermosCapacityTest_leads t ok capacity s
  | powerOn t vbat held => exact execPowerOn_leads t vbat held s
  | brownOut t held => exact execBrownOut_leads t held s
  | resetPin t low held => exact execResetPin_leads t low held s
  | watchdog t plane unserved => exact execWatchdog_leads t plane unserved s
  | lockUp t plane => exact execLockUp_leads t plane s
  | softwareReset t session core block idle => exact execSoftwareReset_leads t session core block idle s
  | debugReset t => exact execDebugReset_leads t s
  | rstEscalate t target => exact execRstEscalate_leads t target s
  | resetRelease t start => exact execResetRelease_leads t start s
  | configEnd t managerMode => exact execConfigEnd_leads t managerMode s
  | modeConfigFail t => exact execModeConfigFail_leads t s
  | bbRecordWrite t stepsDone => exact execBbRecordWrite_leads t stepsDone s
  | bbLost t => exact execBbLost_leads t s
  | bbAnchor t => exact execBbAnchor_leads t s
  | hoursSave t => exact execHoursSave_leads t s
  | seqBlockRequest t unit granted => exact execSeqBlockRequest_leads t unit granted s
  | bbReadout t session unit area first limit remote =>
    exact execBbReadout_leads t session unit area first limit remote s
  | pcUpdate t temp => exact execPcUpdate_leads t temp s
  | pcUpdateDone t temp => exact execPcUpdateDone_leads t temp s
  | pcTempReturn t temp => exact execPcTempReturn_leads t temp s
  | pcClear t session => exact execPcClear_leads t session s
  | begin t session man => exact execBegin_leads t session man s
  | block t session n data crc => exact execBlock_leads t session n data crc s
  | status t session => exact execStatus_leads t session s
  | abort t session => exact execAbort_leads t session s
  | activate t session atNext => exact execActivate_leads t session atNext s
  | updVerify t => exact execUpdVerify_leads t s
  | updExpire t => exact execUpdExpire_leads t s
  | flReconnect t conn stage cell wlan => exact execFlReconnect_leads t conn stage cell wlan s
  | telemetryPublish t => exact execTelemetryPublish_leads t s
  | cartBroadcast t => exact execCartBroadcast_leads t s
  | uiStatusConvert t ui reading => exact execUiStatusConvert_leads t ui reading s
  | uiShuntReclose t ui => exact execUiShuntReclose_leads t ui s
  | ggaSend t slot => exact execGgaSend_leads t slot s
  | fnpLink t port up => exact execFnpLink_leads t port up s
  | tkLinkNotice t port => exact execTkLinkNotice_leads t port s
  | sesConnectionClosed t session => exact execSesConnectionClosed_leads t session s
  | flConnectionLost t conn => exact execFlConnectionLost_leads t conn s
  | workerSafeStopReport t unit holds => exact execWorkerSafeStopReport_leads t unit holds s
  | svcEnChange t grounded => exact execSvcEnChange_leads t grounded s
  | pcReschedule t temp => exact execPcReschedule_leads t temp s
  | vbatLoss t vbat => exact execVbatLoss_leads t vbat s

end Sys2Proof.Machine
end

section
/-! PROOF. The bounds (O12, O13) and the step (O10). -/

namespace Sys2Proof.Machine

/-- The queue of commands is held to no bound. -/
theorem Bounded.of_pending {s : State} {q : List Instr} (b : Bounded s) : Bounded { s with pending := q } := { b with }

theorem step_of_empty {s : State} (h : s.pending = []) : step s = .next s := by simp only [step, h]

theorem step_of_cons {s : State} {c : Instr} {rest : List Instr} (h : s.pending = c :: rest) :
    step s = exec c { s with pending := rest } := by simp only [step, h]

/-- Settles O12: a step is an idle one, or the effect of a command, which leads to a bounded state. -/
theorem stepKeepsBounded : Obligations.StepKeepsBounded := by
  intro s u hb hu
  rcases hq : s.pending with _ | ⟨c, rest⟩
  · rw [step_of_empty hq] at hu
    cases hu
    exact hb
  · rw [step_of_cons hq] at hu
    exact (exec_leads c _ u hu).bounded hb.of_pending

/-- Settles O10: the front command of a queue that is written out. -/
theorem stepRunsTheFrontCommand : Obligations.StepRunsTheFrontCommand := fun _ _ _ => step_of_cons rfl

/-- Settles O13: after reset each of the bounded lists is empty or a literal. -/
theorem resetIsBounded : Obligations.ResetIsBounded := by
  unfold Obligations.ResetIsBounded
  constructor <;> decide

end Sys2Proof.Machine
end

section
/-! PROOF. What ends a command otherwise than in a next state (O15). -/

namespace Sys2Proof.Machine

/-- The command completes: it is answered with a next state. -/
def Completes (i : Instr) (s : State) : Prop := ∃ u, exec i s = .next u

/-- Both branches of a condition complete. -/
theorem exists_next_ite {c : Prop} [Decidable c] {a b : State} :
    ∃ u, (if c then .next a else .next b : Host.Outcome State Fault Refusal) = .next u :=
  ⟨if c then a else b, by split <;> rfl⟩

/-- An access within its region completes, and so does a denied one (Tables 2.7 and 2.8). -/
theorem execMasterAccess_next_or_fault (t master region offset : Nat) (write : Bool) (value : Byte) (ecc : Nat)
    (s : State) :
    (∃ u, execMasterAccess t master region offset write value ecc s = .next u) ∨
      s.mayAccess master region write = true ∧ s.regionSize region ≤ offset ∧
        execMasterAccess t master region offset write value ecc s = .fault (.noSuchAddress region offset) := by
  unfold execMasterAccess
  extract_lets u
  have hmay : u.mayAccess master region write = s.mayAccess master region write := rfl
  have hsize : u.regionSize region = s.regionSize region := rfl
  rw [hmay, hsize]
  cases s.mayAccess master region write with
  | false => exact .inl ⟨_, rfl⟩
  | true =>
    by_cases hin : s.regionSize region ≤ offset
    · exact .inr ⟨rfl, hin, by simp [hin]⟩
    · simp only [hin, Bool.not_true, Bool.false_eq_true, if_false]
      split
      · exact .inl ⟨_, rfl⟩
      · exact .inl exists_next_ite

theorem execObsStep_next (t : Nat) (instant : Int) (s : State) : ∃ u, execObsStep t instant s = .next u := by
  unfold execObsStep
  extract_lets
  exact exists_next_ite

/-- Only a master's access can end otherwise than in a next state. -/
theorem completes_or_masterAccess (i : Instr) (s : State) :
    Completes i s ∨ ∃ t master region offset write value ecc,
      i = .masterAccess t master region offset write value ecc := by
  cases i with
  | masterAccess => exact .inr ⟨_, _, _, _, _, _, _, rfl⟩
  | obsStep t instant => exact .inl (execObsStep_next t instant s)
  | resetPin | carrierPeriod | coilModelStep => exact .inl exists_next_ite
  | _ => exact .inl ⟨_, rfl⟩

/-- Settles O15, by the branches of a master's access; every other command completes. -/
theorem onlyAnAbsentAddressStops : Obligations.OnlyAnAbsentAddressStops := by
  intro i s
  rcases completes_or_masterAccess i s with ⟨u, hu⟩ | ⟨t, master, region, offset, write, value, ecc, rfl⟩
  · simp [hu]
  · simp only [exec]
    rcases execMasterAccess_next_or_fault t master region offset write value ecc s with
      ⟨u, hu⟩ | ⟨hmay, hout, hf⟩
    · simp [hu]
    · refine ⟨by simp [hf], fun f hf' => ⟨_, _, _, _, _, _, _, rfl, hmay, hout, ?_⟩⟩
      rw [hf] at hf'
      cases hf'
      rfl

end Sys2Proof.Machine
end

section
/-! PROOF. The DRAM arbiter's winner (O8). -/

namespace Sys2Proof.Machine

/-! ### The arbiter (02 R83 to R87) -/

@[simp] theorem ArbS.present_nil (a : ArbS) (limit : Nat → Nat) : a.present limit [] = a := rfl

/-- Presenting a slot's requests moves neither the slot, nor its owners, nor the grant. -/
theorem ArbS.present_fixed (a : ArbS) (limit : Nat → Nat) (l : List Nat) :
    (a.present limit l).slot = a.slot ∧ (a.present limit l).table = a.table ∧
      (a.present limit l).parked = a.parked := by
  unfold ArbS.present
  induction l generalizing a with
  | nil => exact ⟨rfl, rfl, rfl⟩
  | cons q l ih => exact ih _

/-- The wait counters of those that do not ask stay as they are. -/
theorem ArbS.present_waits_of_not_mem {l : List Nat} {q : Nat} (h : q ∉ l) (a : ArbS) (limit : Nat → Nat) :
    look (a.present limit l).waits q = look a.waits q := by
  unfold ArbS.present
  induction l generalizing a with
  | nil => rfl
  | cons p l ih =>
    rw [List.foldl_cons, ih (List.not_mem_of_not_mem_cons h)]
    exact look_ins_ne _ _ (List.ne_of_not_mem_cons h).symm

/-- The wait counter of one that asks rises by one. -/
theorem ArbS.present_waits_of_mem {l : List Nat} {q : Nat} (hl : l.Nodup) (h : q ∈ l) (a : ArbS)
    (limit : Nat → Nat) : look (a.present limit l).waits q = some ((look a.waits q).getD 0 + 1) := by
  induction l generalizing a with
  | nil => cases h
  | cons p l ih =>
    obtain ⟨hp, hl⟩ := List.nodup_cons.mp hl
    change look (ArbS.present _ limit l).waits q = _
    rcases List.mem_cons.mp h with rfl | hq
    · rw [ArbS.present_waits_of_not_mem hp]
      exact look_ins_same ..
    · rw [ih hl hq]
      have hne : p ≠ q := fun e => hp (e ▸ hq)
      simp only [look_ins_ne _ _ hne]

/-- The better of two requesters: the higher score, on equal scores the lower number. -/
def Prefers (score : Nat → Nat) (b q : Nat) : Prop := score q < score b ∨ (score q = score b ∧ b ≤ q)

theorem Prefers.trans {score : Nat → Nat} {a b c : Nat} (h : Prefers score a b) (k : Prefers score b c) :
    Prefers score a c := by unfold Prefers at *; omega

/-- The preferred of two requesters, the first on equal scores and numbers. -/
def better (score : Nat → Nat) (x y : Nat) : Nat :=
  if score x < score y ∨ (score x = score y ∧ y < x) then y else x

theorem better_mem (score : Nat → Nat) (x y : Nat) : better score x y = x ∨ better score x y = y := by
  unfold better
  split
  · exact .inr rfl
  · exact .inl rfl

theorem prefers_better (score : Nat → Nat) (x y : Nat) :
    Prefers score (better score x y) x ∧ Prefers score (better score x y) y := by
  unfold better Prefers
  split <;> omega

theorem bestOf_cons_cons (score : Nat → Nat) (x y : Nat) (l : List Nat) :
    bestOf score (x :: y :: l) = bestOf score (better score x y :: l) := by
  simp only [bestOf, better, List.foldl_cons]
  split <;> rfl

/-- The best of a list is one of it, and preferred to all of it. -/
theorem bestOf_cons (score : Nat → Nat) (x : Nat) (l : List Nat) :
    ∃ b, bestOf score (x :: l) = some b ∧ b ∈ x :: l ∧ ∀ q ∈ x :: l, Prefers score b q := by
  induction l generalizing x with
  | nil => exact ⟨x, rfl, List.mem_singleton_self x, fun q hq => .inr (by simp_all)⟩
  | cons y l ih =>
    obtain ⟨b, hb, hmem, hall⟩ := ih (better score x y)
    obtain ⟨hx, hy⟩ := prefers_better score x y
    have hbest := hall _ List.mem_cons_self
    refine ⟨b, bestOf_cons_cons score x y l ▸ hb, ?_, ?_⟩
    · have := better_mem score x y
      grind
    · rw [List.forall_mem_cons, List.forall_mem_cons]
      exact ⟨hbest.trans hx, hbest.trans hy, fun q hq => hall q (List.mem_cons_of_mem _ hq)⟩

theorem bestOf_of_ne_nil (score : Nat → Nat) {l : List Nat} (h : l ≠ []) :
    ∃ b, bestOf score l = some b ∧ b ∈ l ∧ ∀ q ∈ l, Prefers score b q := by
  obtain ⟨x, l, rfl⟩ := List.exists_cons_of_ne_nil h
  exact bestOf_cons score x l

/-- Rule 1 of Table 2.9: one that waits at its limit wins. -/
theorem ArbS.winner_forced {a : ArbS} {limit prio : Nat → Nat} {l : List Nat}
    (h : ∃ q ∈ l, limit q ≤ (look a.waits q).getD 0) :
    ∃ w ∈ l, a.winner limit prio l = some (w, true) ∧ limit w ≤ (look a.waits w).getD 0 := by
  obtain ⟨q, hq, hlim⟩ := h
  obtain ⟨w, hw, hmem, -⟩ := bestOf_of_ne_nil (fun q => a.slot - (look a.reached q).getD a.slot)
    (l := l.filter fun q => limit q ≤ (look a.waits q).getD 0)
    (List.ne_nil_of_mem (List.mem_filter.mpr ⟨hq, by simpa using hlim⟩))
  obtain ⟨hmem, hlim⟩ := List.mem_filter.mp hmem
  exact ⟨w, hmem, by simp only [ArbS.winner, hw], by simpa using hlim⟩

section Unforced

variable {a : ArbS} {limit prio : Nat → Nat} {l : List Nat} (h : ∀ q ∈ l, (look a.waits q).getD 0 < limit q)
include h

/-- With nobody at its limit, the rules from 2 on decide. -/
theorem ArbS.winner_unforced : a.winner limit prio l =
    if l.contains (a.table.getD (a.slot % a.table.length) 999) then
      some (a.table.getD (a.slot % a.table.length) 999, false)
    else match a.parked with
      | some p => if l.contains p then some (p, false) else (bestOf prio l).map (fun q => (q, false))
      | none => (bestOf prio l).map (fun q => (q, false)) := by
  have hnone : l.filter (fun q => limit q ≤ (look a.waits q).getD 0) = [] :=
    List.filter_eq_nil_iff.mpr fun q hq => by simpa using h q hq
  simp only [ArbS.winner, hnone]
  rfl

/-- Rule 2: the slot's owner. -/
theorem ArbS.winner_owner (ho : a.table.getD (a.slot % a.table.length) 999 ∈ l) :
    a.winner limit prio l = some (a.table.getD (a.slot % a.table.length) 999, false) := by
  rw [ArbS.winner_unforced h, if_pos (by simpa using ho)]

/-- Rule 3: the parked requester. -/
theorem ArbS.winner_parked (ho : a.table.getD (a.slot % a.table.length) 999 ∉ l) {p : Nat} (hp : p ∈ l)
    (hpark : a.parked = some p) : a.winner limit prio l = some (p, false) := by
  rw [ArbS.winner_unforced h, if_neg (by simpa using ho), hpark]
  exact if_pos (by simpa using hp)

/-- Rule 4: the highest priority. -/
theorem ArbS.winner_best (ho : a.table.getD (a.slot % a.table.length) 999 ∉ l)
    (hpark : ∀ p ∈ l, a.parked ≠ some p) : a.winner limit prio l = (bestOf prio l).map (fun q => (q, false)) := by
  rw [ArbS.winner_unforced h, if_neg (by simpa using ho)]
  split
  · next p hp => exact if_neg fun hin => hpark p (by simpa using hin) hp
  · rfl

end Unforced

/-- The counters' record is a register; what the arbiter holds stays. -/
theorem raise_arb (s : State) (k v : Nat) : (s.raise k v).arb = s.arb := by
  unfold State.raise
  split <;> rfl

theorem foldl_arb {f : State → Nat → State} (h : ∀ s q, (f s q).arb = s.arb) (l : List Nat) (s : State) :
    (l.foldl f s).arb = s.arb := by
  induction l generalizing s with
  | nil => rfl
  | cons q l ih => rw [List.foldl_cons, ih, h]

/-- What a slot leaves the arbiter with: the requests presented, and the winner granted. -/
theorem dramSlotDecision_arb (t : Nat) (l : List Nat) (s : State) {w : Nat × Bool}
    (hw : (s.arb.present (fun q => s.rd (R.ARB_CFG_WAITLIM q)) l).winner (fun q => s.rd (R.ARB_CFG_WAITLIM q))
      (fun q => s.rd (R.ARB_CFG_PRIO q)) l = some w) :
    ∃ u, exec (.dramSlotDecision t l) s = .next u ∧
      u.arb = (s.arb.present (fun q => s.rd (R.ARB_CFG_WAITLIM q)) l).grant (some w.1) := by
  have hrd : ∀ k, (s.begin t).rd k = s.rd k := fun _ => rfl
  obtain ⟨q, forced⟩ := w
  simp only [exec, execDramSlotDecision, begin_arb, hrd, hw, Option.map_some]
  cases forced <;> exact ⟨_, rfl, foldl_arb (fun v p => raise_arb v _ _) _ _⟩

/-- Of a nonempty list of requesters one wins, by the first rule of Table 2.9 that applies. -/
theorem ArbS.winner_spec (a : ArbS) (limit prio : Nat → Nat) {l : List Nat} (hne : l ≠ []) :
    ∃ w ∈ l, ∃ forced, a.winner limit prio l = some (w, forced) ∧
      ((∃ q ∈ l, limit q ≤ (look a.waits q).getD 0) → limit w ≤ (look a.waits w).getD 0) ∧
      ((∀ q ∈ l, (look a.waits q).getD 0 < limit q) →
        (a.table.getD (a.slot % a.table.length) 999 ∈ l → w = a.table.getD (a.slot % a.table.length) 999) ∧
        (a.table.getD (a.slot % a.table.length) 999 ∉ l →
          (∀ p ∈ l, a.parked = some p → w = p) ∧
          ((∀ p ∈ l, a.parked ≠ some p) → ∀ q ∈ l, Prefers prio w q))) := by
  by_cases hlim : ∃ q ∈ l, limit q ≤ (look a.waits q).getD 0
  · obtain ⟨w, hw, hwin, hwlim⟩ := ArbS.winner_forced (prio := prio) hlim
    obtain ⟨q, hq, hle⟩ := hlim
    exact ⟨w, hw, true, hwin, fun _ => hwlim, fun h => absurd (h q hq) (Nat.not_lt.mpr hle)⟩
  have h : ∀ q ∈ l, (look a.waits q).getD 0 < limit q := by simpa using hlim
  by_cases ho : a.table.getD (a.slot % a.table.length) 999 ∈ l
  · exact ⟨_, ho, false, ArbS.winner_owner h ho, fun k => absurd k hlim,
      fun _ => ⟨fun _ => rfl, fun k => absurd ho k⟩⟩
  by_cases hpark : ∃ p ∈ l, a.parked = some p
  · obtain ⟨p, hp, hpk⟩ := hpark
    refine ⟨p, hp, false, ArbS.winner_parked h ho hp hpk, fun k => absurd k hlim,
      fun _ => ⟨fun k => absurd k ho, fun _ => ⟨fun q _ hq => ?_, fun k => absurd hpk (k p hp)⟩⟩⟩
    rwa [hpk, Option.some.injEq] at hq
  · have hpark : ∀ p ∈ l, a.parked ≠ some p := by simpa using hpark
    obtain ⟨w, hbest, hw, hall⟩ := bestOf_of_ne_nil prio hne
    refine ⟨w, hw, false, by rw [ArbS.winner_best h ho hpark, hbest]; rfl, fun k => absurd k hlim, fun _ => ?_⟩
    exact ⟨fun k => absurd k ho, fun _ => ⟨fun p hp hpk => absurd hpk (hpark p hp), fun _ => hall⟩⟩

/-- Settles O8: the winner of Table 2.9 among the presented requests, and what its grant leaves. -/
theorem dramWinnerFollowsTheTable : Obligations.DramWinnerFollowsTheTable := by
  intro t l s hne hl _
  obtain ⟨w, hw, forced, hwin, hforced, hrules⟩ := ArbS.winner_spec
    (s.arb.present (fun q => s.rd (R.ARB_CFG_WAITLIM q)) l) (fun q => s.rd (R.ARB_CFG_WAITLIM q))
    (fun q => s.rd (R.ARB_CFG_PRIO q)) hne
  obtain ⟨u, hu, harb⟩ := dramSlotDecision_arb t l s hwin
  obtain ⟨hslot, htable, hpark⟩ := ArbS.present_fixed s.arb (fun q => s.rd (R.ARB_CFG_WAITLIM q)) l
  have hwait : ∀ q ∈ l, (look (s.arb.present (fun q => s.rd (R.ARB_CFG_WAITLIM q)) l).waits q).getD 0 =
      (look s.arb.waits q).getD 0 + 1 := fun q hq => by rw [ArbS.present_waits_of_mem hl hq]; rfl
  have hparked : u.arb.parked.getD 0 = w := by rw [harb]; rfl
  rw [hslot, htable, hpark] at hrules
  have hbelow : (∀ q ∈ l, (look s.arb.waits q).getD 0 + 1 < s.rd (R.ARB_CFG_WAITLIM q)) → ∀ q ∈ l,
      (look (s.arb.present (fun q => s.rd (R.ARB_CFG_WAITLIM q)) l).waits q).getD 0 < s.rd (R.ARB_CFG_WAITLIM q) :=
    fun h q hq => (hwait q hq).symm ▸ h q hq
  refine ⟨u, hu, by rw [harb]; rfl, ?_⟩
  rw [hparked]
  refine ⟨hw, by rw [harb]; exact look_ins_same .., fun q hq hqw => ?_, fun ⟨q, hq, hle⟩ => ?_,
    fun h => (hrules (hbelow h)).1, fun h ho => ((hrules (hbelow h)).2 ho).1,
    fun h ho => ((hrules (hbelow h)).2 ho).2⟩
  · rw [harb, ← ArbS.present_waits_of_mem hl hq]
    exact look_ins_ne _ _ (Ne.symm hqw)
  · rw [← hwait w hw]
    exact hforced ⟨q, hq, (hwait q hq).symm ▸ hle⟩

end Sys2Proof.Machine
end

section
/-! SUPPORT. An arriving event: whose it is, and what it does to the streams. -/

namespace Sys2Proof.Machine

/-! ### What releasing and holding an event do to the streams (02 R65, R68) -/

/-- A session's state with an event of its stream in its output queue. -/
def SessionS.takeEvent (x : SessionS) (e : Event) : SessionS :=
  if x.events then { x with outq := pushEvent x.num x.outq e } else x

/-- Every session with an event of its stream in its output queue. -/
def takeEvents (l : List (Nat × SessionS)) (e : Event) : List (Nat × SessionS) :=
  l.map fun p => (p.1, p.2.takeEvent e)

/-- A released event enters every subscribed stream under the next stream number. -/
theorem release_open_eq (s : State) (e : Event) (late : Bool) :
    (s.release e late).ses.open_ = takeEvents s.ses.open_ { e with seq := s.mirror.nextSeq, late := late } := by
  unfold State.release
  dsimp only
  rw [(State.noteFault_follows _ _).frame .ses (by decide), (State.bbEvent_follows _ _).frame .ses (by decide)]
  cases late <;> rfl

/-- The event an arriving one enters the mirror as. -/
def State.arriving (s : State) (ev : EventIn) : Event :=
  { stamp := ev.stamp, code := ev.code, island := ev.island, unit := ev.unit, escalated := ev.escalated,
    fault := ev.fault || alwaysFault ev.code, payload := ev.payload, steps := ev.steps,
    due := s.now - ev.age + 50000, input := ev.stamp }

/-- An event of this unit's own. -/
theorem eventArrive_own {t : Nat} {ev : EventIn} {s : State} (h : ev.unit = s.role.unit) :
    exec (.eventArrive t ev) s = .next ((s.begin t).ownEvent ((s.begin t).arriving ev)) :=
  congrArg Host.Outcome.next (if_pos h)

/-- A worker passes on the event of a unit below it (12 R436). -/
theorem eventArrive_relayed {t : Nat} {ev : EventIn} {s : State} (h : ev.unit ≠ s.role.unit)
    (hw : s.isWorker = true) : exec (.eventArrive t ev) s =
      .next ((s.begin t).answer (.trunk 0) 0x60 (((s.begin t).arriving ev).record.map Int.ofNat)) :=
  congrArg Host.Outcome.next ((if_neg h).trans (if_pos hw))

/-- A manager takes in the event of a worker, and what it tells of a function (R69). -/
theorem eventArrive_remote {t : Nat} {ev : EventIn} {s : State} (h : ev.unit ≠ s.role.unit)
    (hw : s.isWorker = false) : exec (.eventArrive t ev) s =
      .next (((s.begin t).remoteFn ev.code ev.payload ev.stamp).arrive ((s.begin t).arriving ev)) :=
  congrArg Host.Outcome.next ((if_neg h).trans (if_neg fun k => Bool.false_ne_true (hw.symm.trans k)))

/-- A late event is released on arrival (R66). -/
theorem arrive_late {s : State} {e : Event} (h : e.due < s.now) :
    s.arrive e = State.release { s with mirror := { s.mirror with arrivals := s.mirror.arrivals + 1 } }
      { e with arrival := s.mirror.arrivals } true := if_pos h

theorem arrive_late_open {s : State} {e : Event} (h : e.due < s.now) : (s.arrive e).ses.open_ =
    takeEvents s.ses.open_ { e with arrival := s.mirror.arrivals, seq := s.mirror.nextSeq, late := true } := by
  rw [arrive_late h]
  exact release_open_eq _ _ _

theorem raise_ses (s : State) (k v : Nat) : (s.raise k v).ses = s.ses := by
  unfold State.raise
  split <;> rfl

/-- With room in the window an event that is not late enters no stream. -/
theorem arrive_held_ses (s : State) (e : Event) (hd : s.now ≤ e.due) (h : s.mirror.window.length < 4096) :
    (s.arrive e).ses = s.ses := by
  unfold State.arrive
  dsimp only
  rw [if_neg (Nat.not_lt.mpr hd)]
  unfold State.hold
  dsimp only
  rw [if_pos h, if_pos h, raise_ses]

theorem ownEvent_held_ses (s : State) (e : Event) (hd : s.now ≤ e.due) (h : s.mirror.window.length < 4096) :
    (s.ownEvent e).ses = s.ses := by
  unfold State.ownEvent
  split
  · exact arrive_held_ses (s.answer _ _ _) e hd h
  · exact arrive_held_ses s e hd h

theorem log_ses_of_room {s : State} (h : s.mirror.window.length < 4096) (code : Nat) (payload : List Int)
    (island : Nat) (esc fault : Bool) (input : Option Int) :
    (s.log code payload island esc fault input).ses = s.ses :=
  ownEvent_held_ses s _ (by dsimp only; omega) h

/-- A list with an event in it has an earliest one. -/
theorem earliest_of_ne_nil {l : List Event} (h : l ≠ []) : ∃ x, earliest l = some x := by
  obtain ⟨x, l, rfl⟩ := List.exists_cons_of_ne_nil h
  change ∃ y, l.foldl _ (some x) = some y
  induction l generalizing x with
  | nil => exact ⟨x, rfl⟩
  | cons e l ih =>
    rw [List.foldl_cons]
    dsimp only
    split <;> exact ih _ (List.cons_ne_nil _ _)

/-- In a full window the earliest event gives way to one that is not late, and enters the streams (02 R73). -/
theorem arrive_full_open (s : State) (e : Event) (hd : s.now ≤ e.due) (h : 4096 ≤ s.mirror.window.length) :
    ∃ x, (s.arrive e).ses.open_ = takeEvents s.ses.open_ x := by
  obtain ⟨x, hx⟩ := earliest_of_ne_nil (List.ne_nil_of_length_pos (Nat.lt_of_lt_of_le (by decide) h))
  unfold State.arrive
  dsimp only
  rw [if_neg (Nat.not_lt.mpr hd)]
  unfold State.hold
  dsimp only
  rw [if_neg (Nat.not_lt.mpr h), hx]
  dsimp only
  split
  · rw [raise_ses]
    exact ⟨_, release_open_eq _ _ _⟩
  · exact ⟨_, release_open_eq _ _ _⟩

theorem log_full_open {s : State} (h : 4096 ≤ s.mirror.window.length) (code : Nat) (payload : List Int)
    (island : Nat) (esc fault : Bool) (input : Option Int) :
    ∃ x, (s.log code payload island esc fault input).ses.open_ = takeEvents s.ses.open_ x := by
  have own : ∀ e : Event, s.now ≤ e.due → ∃ x, (s.ownEvent e).ses.open_ = takeEvents s.ses.open_ x := by
    intro e hd
    unfold State.ownEvent
    split
    · exact arrive_full_open (s.answer _ _ _) e hd h
    · exact arrive_full_open s e hd h
  exact own _ (by dsimp only; omega)

end Sys2Proof.Machine
end

section
/-! PROOF. The refutation of O1. -/

namespace Sys2Proof.Machine

/-! ### A stop that logs more events than the reorder window has room for -/

/-- What a stop of a running function does before it opens the loops. -/
def State.stopHead (s : State) (f cause : Nat) : State :=
  let v := s.fnS f
  let s := s.setFn f (endOver { v with causes := if v.causes.contains cause then v.causes else v.causes ++ [cause] })
  let s := s.setFn f { s.fnS f with running := false, restartAt := none, asked := false, fade := {} }
  let s := (s.showCause f).wrs [(R.FN_STAT_STATE f, 1), (R.FN_STAT_FF_ON f, 0)]
  ((s.bump (R.FN_STAT_STOPS f) 255).cancelWhere (fun e => s.fnOfAction e.action = some f)).orderStopped f

theorem State.stopHead_follows (s : State) (f cause : Nat) :
    Follows [.reg, .answers, .ln, .fn] s (s.stopHead f cause) := by
  unfold State.stopHead
  extract_lets v u _ w y
  refine .via u (.after (State.setFn_follows ..) .same) <| .via w (.after (State.setFn_follows ..) .same) <|
    .via y (.after (State.wrs_follows ..) <| .after (State.showCause_follows ..) .same) ?_
  exact .after (State.orderStopped_follows ..) <| .after (State.cancelWhere_follows ..) <|
    .after (State.bump_follows ..) .same

/-- A running function of this unit stops: the loops open, and the stop is logged (05 R201). -/
theorem stopFn_running {s : State} {f : Nat} (cause : Nat) (input : Option Int) (hmine : s.fnMine f = true)
    (hrun : (s.fnS f).running = true) (hf : f ≠ 27) :
    s.stopFn f cause input = ((s.stopHead f cause).openLoops f cause).log 0x3040 [f, cause] 2 false
      (cause = 4 || cause = 7) input := by
  have hcond : (decide (f = 27) && decide (cause ≠ 1) && decide (cause ≠ 2)) = false := by simp [hf]
  unfold State.stopFn State.stopHead
  simp only [hmine, hrun, hcond, Bool.not_true, Bool.false_eq_true, if_false]

/-- A loop under autotuning. -/
def State.tuning (s : State) (l : Nat) : Prop := ∃ v, (s.loopS l).tune = some v ∧ v.ended = false

/-- One loop opened. -/
def State.openLoop (cause : Nat) (s : State) (l : Nat) : State :=
  let s := s.abortTune l (if cause = 2 then 2 else 1)
  (s.setLoop l { s.loopS l with closing := false, missed := 0 }).wr (R.CE_L_STAT_STATE l) 1

theorem loopS_setLoop_ne (s : State) {l k : Nat} (v : LoopS) (h : l ≠ k) : (s.setLoop l v).loopS k = s.loopS k := by
  simp only [State.loopS, State.setLoop, look_ins_ne _ _ h]

/-- Opening a loop under autotuning logs one event, and leaves the other loops and the sessions alone. -/
theorem openLoop_tuning {s : State} {l : Nat} (cause : Nat) (ht : s.tuning l)
    (hroom : s.mirror.window.length < 4096) :
    (s.openLoop cause l).mirror.window.length = s.mirror.window.length + 1 ∧ (s.openLoop cause l).ses = s.ses ∧
      ∀ k, l ≠ k → (s.openLoop cause l).loopS k = s.loopS k := by
  obtain ⟨v, hv, hended⟩ := ht
  have habort : ∀ r, ∃ w, s.abortTune l r = (s.setLoop l w).log 0x4022 [l, r] := by
    intro r
    unfold State.abortTune
    rw [hv]
    simp only [hended, Bool.false_eq_true, if_false]
    exact ⟨_, rfl⟩
  obtain ⟨w, hw⟩ := habort (if cause = 2 then 2 else 1)
  have hroom : (s.setLoop l w).mirror.window.length < 4096 := hroom
  unfold State.openLoop
  rw [hw]
  refine ⟨?_, ?_, fun k hk => ?_⟩
  · change (State.log _ _ _).mirror.window.length = _
    rw [log_window _ _ _ _ _ _ _ hroom, List.length_append]
    rfl
  · change (State.log _ _ _).ses = _
    rw [log_ses_of_room hroom]
    rfl
  · change State.loopS (State.setLoop _ _ _) k = _
    rw [loopS_setLoop_ne _ _ hk, State.loopS, (State.log_follows ..).frame .eng (by decide)]
    exact loopS_setLoop_ne s _ hk

/-- Opening as many loops under autotuning as the window has room for fills it. -/
theorem openLoop_foldl_tuning (cause : Nat) {l : List Nat} (hl : l.Nodup) {s : State} (ht : ∀ k ∈ l, s.tuning k)
    (hroom : s.mirror.window.length + l.length ≤ 4096) :
    (l.foldl (State.openLoop cause) s).mirror.window.length = s.mirror.window.length + l.length ∧
      (l.foldl (State.openLoop cause) s).ses = s.ses := by
  induction l generalizing s with
  | nil => exact ⟨rfl, rfl⟩
  | cons x l ih =>
    obtain ⟨hx, hl⟩ := List.nodup_cons.mp hl
    rw [List.length_cons] at hroom
    obtain ⟨hwin, hses, hloops⟩ := openLoop_tuning cause (ht x List.mem_cons_self) (s := s) (by omega)
    have ht' : ∀ k ∈ l, (s.openLoop cause x).tuning k := fun k hk => by
      unfold State.tuning
      rw [hloops k fun e => hx (e ▸ hk)]
      exact ht k (List.mem_cons_of_mem _ hk)
    obtain ⟨hwin', hses'⟩ := ih hl ht' (by omega)
    rw [List.foldl_cons, List.length_cons, hwin', hwin, hses', hses]
    exact ⟨by omega, rfl⟩

/-- An autotuning that goes on. -/
def steadyTune : TuneS :=
  { rule := 0, reverse := false, settle := 1, cycles := 3, timeout := 10, amp := 1, hys := 1, band := 1, bias := 0 }

/-- A manager with 64 free places in its reorder window, whose function F29 runs with 64 loops under autotuning
beside F08, and one session subscribed to the events. -/
def crowdedTuning : State :=
  { reg := [(R.FN_CFG_PATH 8, 1), (R.FN_CFG_PATH 29, 1), (R.FN_CFG_LOOP_COUNT 29, 64)] ++
      (List.range 64).map (fun l => (R.CE_L_CFG_LAW l, 1)),
    fn := [(8, { running := true }), (29, { running := true })],
    eng := { loops := (List.range 64).map (fun l => (l, { tune := some steadyTune })) },
    mirror := { window := List.replicate 4032 { code := 0 } },
    ses := { open_ := [(0, { num := 1, events := true })] } }

/-- A worker's F08 has restarted, and the event arrives 1 ns after the 50 µs. -/
def lateRestart : EventIn :=
  { stamp := 0, age := 50001, code := 0x3041, island := 2, unit := 1, steps := 0, payload := [8, 0] }

/-- The manager when it has taken note that the worker's F08 runs. -/
def crowdedNoted : State :=
  let s := crowdedTuning.begin 50001
  s.setFn 8 { s.fnS 8 with remote := true }

theorem crowdedNoted_stopFn : crowdedNoted.stopFn 29 5 (some 0) =
    (((crowdedNoted.stopHead 29 5).openLoops 29 5).log 0x3040 [(29 : Nat), (5 : Nat)] 2 false false (some 0)) :=
  stopFn_running 5 (some 0) (by decide) (by decide) (by decide)

theorem crowdedNoted_loops : (crowdedNoted.stopHead 29 5).loopsOf 29 = List.range 64 := by decide +kernel

theorem crowdedNoted_tuning : ∀ k ∈ List.range 64, (crowdedNoted.stopHead 29 5).tuning k := by
  have heng : (crowdedNoted.stopHead 29 5).eng = crowdedTuning.eng :=
    (State.stopHead_follows _ _ _).frame .eng (by decide)
  have hall : ∀ k ∈ List.range 64, ((look crowdedTuning.eng.loops k).getD {}).tune = some steadyTune := by
    decide +kernel
  intro k hk
  exact ⟨steadyTune, by rw [State.loopS, heng, hall k hk], rfl⟩

/-- The stop fills the window with the ends of 64 autotunings, so the event of the stop itself drives one out. -/
theorem crowdedNoted_open :
    ∃ x, (crowdedNoted.stopFn 29 5 (some 0)).ses.open_ = takeEvents crowdedTuning.ses.open_ x := by
  have hmirror : (crowdedNoted.stopHead 29 5).mirror = crowdedTuning.mirror :=
    (State.stopHead_follows _ _ _).frame .mirror (by decide)
  have hses : (crowdedNoted.stopHead 29 5).ses = crowdedTuning.ses :=
    (State.stopHead_follows _ _ _).frame .ses (by decide)
  have hlen : crowdedTuning.mirror.window.length = 4032 := List.length_replicate
  obtain ⟨hwin, hopen⟩ := openLoop_foldl_tuning 5 List.nodup_range crowdedNoted_tuning
    (by rw [hmirror, hlen, List.length_range])
  rw [hmirror, hlen, List.length_range] at hwin
  rw [crowdedNoted_stopFn]
  have hfold : (crowdedNoted.stopHead 29 5).openLoops 29 5 =
      (List.range 64).foldl (State.openLoop 5) (crowdedNoted.stopHead 29 5) := by
    rw [← crowdedNoted_loops]
    rfl
  rw [hfold]
  obtain ⟨x, hx⟩ := log_full_open (le_of_eq hwin.symm) 0x3040 [(29 : Nat), (5 : Nat)] 2 false false (some 0)
  exact ⟨x, by rw [hx, hopen, hses]⟩

/-- The late event of the worker's restart stops F29, and is released after the event driven out. -/
theorem lateRestart_open : ∃ u x e, exec (.eventArrive 50001 lateRestart) crowdedTuning = .next u ∧
    u.ses.open_ = takeEvents (takeEvents crowdedTuning.ses.open_ x) e := by
  obtain ⟨x, hx⟩ := crowdedNoted_open
  have hruns : (crowdedNoted.fnRuns 8 && crowdedNoted.fnRuns 29) = true := by decide
  have hmine : crowdedNoted.fnMine 29 = true := by decide
  have hstop : crowdedNoted.judgeInterlock (some 0) = crowdedNoted.stopFn 29 5 (some 0) := by
    simp only [State.judgeInterlock, hruns, hmine, Bool.not_true, Bool.false_eq_true, if_false, if_true]
  have hnow : (crowdedNoted.stopFn 29 5 (some 0)).now = 50001 := (State.stopFn_follows _ _ _ _).frame .now (by decide)
  have hexec := eventArrive_remote (t := 50001) (ev := lateRestart) (s := crowdedTuning) (by decide) (by decide)
  have hnoted : (crowdedTuning.begin 50001).remoteFn lateRestart.code lateRestart.payload lateRestart.stamp =
      crowdedNoted.stopFn 29 5 (some 0) := hstop ▸ by simp [State.remoteFn, lateRestart, crowdedNoted]
  rw [hnoted] at hexec
  have hlate := arrive_late_open (s := crowdedNoted.stopFn 29 5 (some 0))
    (e := (crowdedTuning.begin 50001).arriving lateRestart) (by rw [hnow]; decide)
  rw [hx] at hlate
  exact ⟨_, x, _, hexec, hlate⟩

/-- An event in an empty queue, and another behind it. -/
theorem takeEvents_twice (x e : Event) :
    takeEvents (takeEvents crowdedTuning.ses.open_ x) e =
      [(0, { num := 1, events := true, outq := [.event x, .event e] })] := rfl

/-- Refutes O1: a late event of a worker may stop a function whose loops' autotunings end with more events than the
64 places `Room` leaves, so that an event of this module leaves the mirror before it. -/
theorem not_lateEventsLeaveAtOnce : ¬ Obligations.LateEventsLeaveAtOnce := by
  intro h
  obtain ⟨u, x, e, hu, hopen⟩ := lateRestart_open
  obtain ⟨v, hv, ⟨q, hq, -, -, hmap⟩, -⟩ := h.1 50001 lateRestart (0, { num := 1, events := true })
    crowdedTuning (by decide) (by decide) (List.mem_singleton_self _) rfl (by decide) (.inr (by decide))
    (by rw [Room, show crowdedTuning.mirror.window.length = 4032 from List.length_replicate])
  rw [hu] at hv
  cases hv
  rw [hopen, takeEvents_twice, List.mem_singleton] at hq
  subst hq
  exact absurd (congrArg List.length hmap) (by simp)

end Sys2Proof.Machine
end

section
/-! PROOF. The refutation of O29. -/

namespace Sys2Proof.Machine

/-- In WALK_HOME the scheduler is at rest: an armed entry stays armed (15 R513). -/
theorem oneshotFire_of_walkHome {s : State} (h : s.mode = Mode.WALK_HOME) (t n : Nat) :
    exec (.oneshotFire t n) s = .next (s.begin t) := by
  have hmode : (s.begin t).mode = Mode.WALK_HOME := h
  simp [exec, execOneshotFire, hmode]

/-- A module in WALK_HOME with an armed entry that is due now. -/
def walkHomeArmed : State :=
  { reg := [(R.MODE_STAT_MODE, Mode.WALK_HOME)], ln := { slots := [(0, { out := .armed })] } }

/-- Refutes O29: its clause on an entry that fires on time leaves the mode open, and in WALK_HOME nothing fires. -/
theorem not_launchesComplete : ¬ Obligations.LaunchesComplete := by
  intro h
  obtain ⟨-, -, -, -, -, -, -, -, hfire, -⟩ := h
  obtain ⟨u, hu, hfired, -⟩ := hfire 0 0 walkHomeArmed (by decide) (by decide) (by decide) (by decide)
  rw [oneshotFire_of_walkHome (by decide)] at hu
  cases hu
  exact absurd hfired (by decide)

end Sys2Proof.Machine
end

section
/-! PROOF. Requests for a function in progress (O9).
Where a request of the function waits, and where another function's is acted on in its own turn. -/
namespace Sys2Proof.Machine

/-! ### A function's own state -/

@[simp] theorem fnS_setFn_same (s : State) (f : Nat) (v : FnS) : (s.setFn f v).fnS f = v := by
  simp [State.fnS, State.setFn]

theorem fnS_setFn_ne (s : State) {f g : Nat} (v : FnS) (h : f ≠ g) : (s.setFn f v).fnS g = s.fnS g := by
  simp only [State.fnS, State.setFn, look_ins_ne _ _ h]

theorem fnS_of_fn {s u : State} (h : u.fn = s.fn) (f : Nat) : u.fnS f = s.fnS f := by simp only [State.fnS, h]

/-- A change set or a restart is in progress (R61). -/
theorem fnBusy_eq (s : State) (f : Nat) : s.fnBusy f = ((s.fnS f).changeSet || (s.fnS f).asked) := rfl

theorem fnBusy_of_fnS {s u : State} {f : Nat} (h : u.fnS f = s.fnS f) : u.fnBusy f = s.fnBusy f := by
  rw [fnBusy_eq, fnBusy_eq, h]

theorem fnBusy_setFn_same (s : State) (f : Nat) (v : FnS) : (s.setFn f v).fnBusy f = (v.changeSet || v.asked) := by
  rw [fnBusy_eq, fnS_setFn_same]

/-! ### A request at the gate (R57) -/

/-- The state a request acts on in its turn: its entry gone from the queue. -/
def State.inTurn (s : State) (t n : Nat) (kind : ReqKind) : State :=
  { s.begin t with ses := { s.ses with gate := dropReq n kind s.ses.gate } }

theorem gated_of_turn {s : State} {n : Nat} {kind : ReqKind} (hn : n ≠ 0) (hturn : s.turn n kind = true) (t : Nat)
    (act : State → State) : s.gated t n kind act = act (s.inTurn t n kind) :=
  (if_neg hn).trans (if_pos hturn)

/-- The state in which a request keeps its place in the queue, or has taken one. -/
def State.waiting (s : State) (t n : Nat) (kind : ReqKind) : State :=
  { s.begin t with ses := { s.ses with gate := if s.ses.gate.any (fun r => r.is n kind) = true then s.ses.gate
                                               else s.ses.gate ++ [{ session := n, kind := kind }] } }

/-- A request for what is in progress waits. -/
theorem gated_of_blocked {s : State} {n : Nat} {kind : ReqKind} (hn : n ≠ 0) (hblocked : s.blocked kind = true)
    (hroom : s.ses.gate.length < 64) (t : Nat) (act : State → State) :
    s.gated t n kind act = s.waiting t n kind := by
  have hturn : (s.begin t).turn n kind = false := by
    have : (s.begin t).blocked kind = true := by cases kind <;> exact hblocked
    simp [State.turn, this]
  unfold State.gated State.waiting
  dsimp only
  rw [if_neg hn, hturn, if_neg Bool.false_ne_true]
  by_cases hqueued : s.ses.gate.any (fun r => r.is n kind) = true
  · rw [if_pos hqueued]
    exact if_pos hqueued
  · rw [if_neg hqueued]
    exact (if_neg hqueued).trans (if_neg (Nat.not_le.mpr hroom))

/-! ### Stops (05 R200 to R203) -/

/-- A stop leaves the function stopped. -/
theorem stopHead_fnS_same (s : State) (f cause : Nat) : ((s.stopHead f cause).fnS f).running = false := by
  have order : ∀ (u : State), (u.orderStopped f).fnS f = (u.noteCmd f (u.heldCmd f)).fnS f := fun u =>
    fnS_of_fn ((State.order_follows _ f _ _).frame .fn (by decide)) f
  unfold State.stopHead
  extract_lets v u _ w y
  have cancel : ∀ p, ((y.bump (R.FN_STAT_STOPS f) 255).cancelWhere p).fn = w.fn := fun p =>
    (State.cancelWhere_follows _ p).frame .fn (by decide)
  rw [order, State.noteCmd, fnS_setFn_same]
  dsimp only
  rw [fnS_of_fn (cancel _), fnS_setFn_same]

theorem stopHead_fnS_ne (s : State) {f g : Nat} (cause : Nat) (h : f ≠ g) :
    (s.stopHead f cause).fnS g = s.fnS g := by
  have order : ∀ (u : State), (u.orderStopped f).fnS g = (u.noteCmd f (u.heldCmd f)).fnS g := fun u =>
    fnS_of_fn ((State.order_follows _ f _ _).frame .fn (by decide)) g
  unfold State.stopHead
  extract_lets v u _ w y
  have cancel : ∀ p, ((y.bump (R.FN_STAT_STOPS f) 255).cancelWhere p).fn = w.fn := fun p =>
    (State.cancelWhere_follows _ p).frame .fn (by decide)
  rw [order, State.noteCmd, fnS_setFn_ne _ _ h, fnS_of_fn (cancel _), fnS_setFn_ne _ _ h, fnS_setFn_ne _ _ h]

/-- What opens the loops and logs the stop leaves every function alone. -/
theorem stopFn_running_fnS {s : State} {f : Nat} (cause : Nat) (hmine : s.fnMine f = true)
    (hrun : (s.fnS f).running = true) (hf : f ≠ 27) (g : Nat) :
    (s.stopFn f cause).fnS g = (s.stopHead f cause).fnS g := by
  rw [stopFn_running cause none hmine hrun hf]
  exact fnS_of_fn (((State.log_follows ..).frame .fn (by decide)).trans
    ((State.openLoops_follows ..).frame .fn (by decide))) g

/-! ### Restarts (05 R207) and change sets -/

theorem reply_fnBusy (s : State) (n code : Nat) (l : List Int) (f : Nat) : (s.reply n code l).fnBusy f = s.fnBusy f :=
  fnBusy_of_fnS (fnS_of_fn ((State.reply_follows ..).frame .fn (by decide)) f)

theorem showCause_fnBusy (s : State) (g f : Nat) : (s.showCause g).fnBusy f = s.fnBusy f := rfl

/-- A restart that nothing speaks against is asked for. -/
theorem requestRestart_busy {s : State} {n f : Nat} (tj : Int) (r : Nat × List Int) (hcls : s.classAtLeast n 2 = true)
    (hf : f ∉ [8, 27, 29]) (hmine : s.fnMine f = true) (hpath : s.rd (R.FN_CFG_PATH f) ∈ [1, 3])
    (htune : s.tunedLoop f = none) (hblocks : s.pathBlocks f = none) (hrun : (s.fnS f).running = false) :
    (s.requestRestart n f tj r).fnBusy f = true := by
  have hused : s.fnUsed f = true := (Bool.and_eq_true _ _ ▸ hmine).1
  have hhere : s.forwards f = false := by
    have := (Bool.and_eq_true _ _ ▸ hmine).2
    simp_all [State.forwards]
  have hlock : s.interlock f = none := by simp_all [State.interlock]
  have hpath2 : s.rd (R.FN_CFG_PATH f) ≠ 2 := by rintro h; simp [h] at hpath
  have hne : f ≠ 27 := fun h => hf (by simp [h])
  unfold State.requestRestart
  simp only [hpath2, hne, hcls, hused, htune, hlock, hblocks, hhere, hrun, if_false, Bool.not_true, Bool.false_eq_true,
    decide_false, Bool.false_and]
  rw [reply_fnBusy, showCause_fnBusy, fnBusy_setFn_same, Bool.or_true]

/-- One write enters at most one field anew. -/
theorem freshKeys_singleton (s : State) (unit k v : Nat) : (s.freshKeys unit [(k, v)]).length ≤ 1 :=
  List.length_filter_le _ _

/-! The judgment of a change set reads the registers alone. -/

section
variable {y z : State}

theorem writeFails_of_rd (h : y.rd = z.rd) : y.writeFails = z.writeFails := by
  have hloops : y.loopsOf = z.loopsOf := by
    unfold State.loopsOf
    rw [h]
  unfold State.writeFails State.inSet
  rw [h, hloops]

theorem setRule_of_rd (h : y.rd = z.rd) : y.setRule = z.setRule := by
  unfold State.setRule State.limitsOk State.rdF
  rw [h, coefRule_of_rd h, chapterRule_of_rd h]

theorem firstBad_of_reg (h : y.reg = z.reg) : y.firstBad = z.firstBad := by
  have hwrs : ∀ l, (y.wrs l).rd = (z.wrs l).rd := fun l => funext fun j => rd_of_reg (by simp only [State.wrs, h]) j
  unfold State.firstBad
  funext f ws
  dsimp only
  rw [writeFails_of_rd (funext (rd_of_reg h)), setRule_of_rd (hwrs _)]

end

/-- A change set that nothing speaks against is in progress. -/
theorem changeSet_busy {s : State} {n f k v : Nat} (t : Nat) (restart : Bool) (r : Nat × List Int) (hn : n ≠ 0)
    (hcls : s.classAtLeast n 3 = true) (hturn : s.turn n (.changeSet f) = true) (hmine : s.fnMine f = true)
    (htune : s.tunedLoop f = none) (hgood : s.firstBad f [(k, v)] = none) (hroom : s.amend.length < 256)
    (hrun : (s.fnS f).running = false) :
    ∃ u, exec (.changeSet t n f [(k, v)] restart r) s = .next u ∧ u.fnBusy f = true := by
  refine ⟨_, congrArg Host.Outcome.next (gated_of_turn hn hturn t _), ?_⟩
  have hused : s.fnUsed f = true := (Bool.and_eq_true _ _ ▸ hmine).1
  have hhere : s.forwards f = false := by
    have := (Bool.and_eq_true _ _ ▸ hmine).2
    simp_all [State.forwards]
  have hfits : ¬256 < s.amend.length + (s.freshKeys (s.rd (R.FN_CFG_UNIT f)) [(k, v)]).length := by
    have := freshKeys_singleton s (s.rd (R.FN_CFG_UNIT f)) k v
    omega
  generalize hv : s.inTurn t n (.changeSet f) = w
  replace hcls : w.classAtLeast n Cls.SERVICE = true := hv ▸ hcls
  replace hused : w.fnUsed f = true := hv ▸ hused
  replace hhere : w.forwards f = false := hv ▸ hhere
  replace htune : w.tunedLoop f = none := hv ▸ htune
  replace hgood : w.firstBad f [(k, v)] = none := by
    rw [firstBad_of_reg (show w.reg = s.reg by rw [← hv]; rfl)]
    exact hgood
  replace hrun : (w.fnS f).running = false := hv ▸ hrun
  replace hfits : ¬256 < w.amend.length + (w.freshKeys (w.rd (R.FN_CFG_UNIT f)) [(k, v)]).length := hv ▸ hfits
  simp only [hcls, hused, hhere, htune, hgood, hrun, hfits, if_false, Bool.not_true, Bool.false_eq_true]
  rw [reply_fnBusy]
  exact (fnBusy_setFn_same _ f _).trans (Bool.true_or _)

/-! ### The launch that ends it (Table 5.9) -/

/-- What neither asks for a restart nor enters a change set ends neither. -/
theorem fnBusy_update {s : State} {f : Nat} {v : FnS} (hs : s.fnBusy f = false)
    (hset : v.changeSet = (s.fnS f).changeSet) (hask : v.asked = (s.fnS f).asked) : (s.setFn f v).fnBusy f = false := by
  rw [fnBusy_setFn_same, hset, hask]
  exact hs


theorem fnBusy_of_fn {s u : State} (h : u.fn = s.fn) (f : Nat) : u.fnBusy f = s.fnBusy f :=
  fnBusy_of_fnS (fnS_of_fn h f)

/-- Taking a board side moves no restart. -/
theorem takeSide_restartAt (s : State) (f : Nat) (instant : Int) :
    ((s.takeSide f instant).fnS f).restartAt = (s.fnS f).restartAt := by
  unfold State.takeSide
  dsimp only
  split
  · rfl
  · rw [fnS_of_fn ((State.wrs_follows ..).frame .fn (by decide)), fnS_setFn_same]
    rfl

/-- A worker's note of the observer moves no restart. -/
theorem noteSeen_restartAt (s : State) (f : Nat) (x : Bool × Nat) :
    ((if s.isWorker then s.setFn f { s.fnS f with seen := x } else s).fnS f).restartAt = (s.fnS f).restartAt := by
  split
  · rw [fnS_setFn_same]
  · rfl

theorem foldl_fn {α : Type} {op : State → α → State} (h : ∀ s a, (op s a).fn = s.fn) (l : List α) (s : State) :
    (l.foldl op s).fn = s.fn := by
  induction l generalizing s with
  | nil => rfl
  | cons a l ih => rw [List.foldl_cons, ih, h]

/-- A restart of what no change set is under way for leaves nothing in progress. -/
theorem restartFn_fnBusy {s : State} {f : Nat} (hf : f ∉ [8, 29]) (hset : (s.fnS f).changeSet = false)
    (changeSet : Bool) (rs : List (Nat × Nat)) : (s.restartFn f changeSet rs).fnBusy f = false := by
  have hne : ¬(f = 8 ∨ f = 29) := by simpa using hf
  unfold State.restartFn
  extract_lets held u w v _ x
  have hu : u.fn = s.fn := foldl_fn (fun s l => by dsimp only; split <;> rfl) _ _
  have hw : w.fn = u.fn := by
    unfold w
    split <;> rfl
  have hx : x.fnBusy f = false := by
    rw [fnBusy_of_fn ((State.dtcRestart_follows ..).frame .fn (by decide)),
      fnBusy_of_fn ((State.log_follows ..).frame .fn (by decide))]
    refine (fnBusy_setFn_same w f _).trans ?_
    rw [Bool.or_false]
    exact (congrArg FnS.changeSet (fnS_of_fn (hw.trans hu) f)).trans hset
  rw [if_neg hne]
  exact hx

/-- The first launch from the restart's instant on ends it (R61). -/
theorem dueRestart_fnBusy {s : State} {f : Nat} {a instant : Int} (hf : f ∉ [8, 29])
    (hat : (s.fnS f).restartAt = some a) (hdue : a ≤ instant) (rs : List (Nat × Nat)) :
    (s.dueRestart f instant rs).1.fnBusy f = false := by
  unfold State.dueRestart
  extract_lets v
  split
  · next hnone => exact absurd (hnone.symm.trans hat) (by simp)
  · next b hb =>
    obtain rfl : b = a := Option.some.inj (hb.symm.trans hat)
    rw [if_neg (Int.not_lt.mpr hdue)]
    split
    · exact restartFn_fnBusy hf (congrArg FnS.changeSet (fnS_setFn_same s f _)) _ _
    · exact fnBusy_setFn_same s f _

section Launch

variable {s : State} {f : Nat} (h : s.fnBusy f = false)
include h

theorem judgeStale_fnBusy (instant : Int) : (s.judgeStale f instant).fnBusy f = false :=
  (fnBusy_of_fn ((State.judgeStale_follows ..).frame .fn (by decide)) f).trans h

theorem launchFade_fnBusy (instant : Int) (was : List Rat) : (s.launchFade f instant was).fnBusy f = false :=
  fnBusy_update h rfl rfl

theorem takeShot_fnBusy (i : Nat) (instant : Int) : (s.takeShot f i instant).fnBusy f = false := by
  unfold State.takeShot
  dsimp only
  split <;> exact fnBusy_update h rfl rfl

theorem launchIdx_fnBusy (instant : Int) (q : Rat) (move : Bool) (i : Nat) :
    (s.launchIdx f instant q move i).fnBusy f = false := by
  have hfn : (s.launchIdx f instant q move i).fn = (s.takeShot f i instant).fn := by
    unfold State.launchIdx
    extract_lets u
    split
    next src target _ _ =>
    extract_lets v w
    have hv : v.fn = u.fn := by
      unfold v
      split <;> rfl
    have hw : w.fn = v.fn := by
      unfold w
      split <;> rfl
    split <;> exact hw.trans hv
  exact (fnBusy_of_fn hfn f).trans (takeShot_fnBusy h i instant)

theorem launchIdxs_fnBusy (instant : Int) (q : Rat) (move : Bool) (l : List Nat) :
    (l.foldl (fun s i => s.launchIdx f instant q move i) s).fnBusy f = false := by
  induction l generalizing s with
  | nil => exact h
  | cons i l ih => exact ih (launchIdx_fnBusy h instant q move i)

theorem launchOpen_fnBusy : (s.launchOpen f).fnBusy f = false := by
  have order : ∀ u : State, ∀ src data, (u.order f src data).fn = u.fn := fun u src data =>
    (State.order_follows u f src data).frame .fn (by decide)
  unfold State.launchOpen State.sendCmd
  split
  · dsimp only
    split <;> (rw [fnBusy_of_fn (order _ _ _)]; exact fnBusy_update h rfl rfl)
  · exact h

theorem launchCan_fnBusy : (s.launchCan f).fnBusy f = false := by
  have fifo : ∀ (u : State) ch fr, (u.enterFifo ch fr).fnBusy f = u.fnBusy f := fun u ch fr =>
    fnBusy_of_fn ((State.enterFifo_follows u ch fr).frame .fn (by decide)) f
  have send : ∀ ch b value rel, (match s.commandFrame ch b value rel with
      | (fr, u) => (u.setFn f { u.fnS f with canLast := some fr }).enterFifo ch fr).fnBusy f = false := by
    intro ch b value rel
    rw [fifo]
    refine fnBusy_update ?_ rfl rfl
    exact (fnBusy_of_fn ((State.commandFrame_follows s ch b value rel).frame .fn (by decide)) f).trans h
  unfold State.launchCan
  dsimp only
  split
  · split
    · split
      · rw [fifo, h]
      · exact h
    · exact send ..
    · exact send ..
  · split
    · exact send ..
    · exact h

end Launch


/-- An entry that fires moves no restart. -/
theorem fireAction_restartAt (s : State) (e : SlotS) (f : Nat) :
    ((s.fireAction e).fnS f).restartAt = (s.fnS f).restartAt := by
  unfold State.fireAction
  dsimp only
  split
  · by_cases h : actTarget e.action / 16 = f
    · rw [State.setIdx, h, fnS_setFn_same]
    · rw [State.setIdx, fnS_setFn_ne _ _ h]
  · rfl
  · rfl
  · rw [fnS_of_fn ((State.enterFifo_follows ..).frame .fn (by decide))]
  · rw [fnS_of_fn ((State.log_follows ..).frame .fn (by decide))]
  · rfl

theorem fireOne_restartAt (s : State) (n : Nat) (late : Bool) (f : Nat) :
    ((s.fireOne n late).fnS f).restartAt = (s.fnS f).restartAt := by
  unfold State.fireOne
  extract_lets e u v
  have hu : u.fnS f = s.fnS f := fnS_of_fn ((State.setSlot_follows ..).frame .fn (by decide)) f
  have hv : v.fnS f = u.fnS f := by
    unfold v
    split
    · exact fnS_of_fn ((State.lateLaunch_follows ..).frame .fn (by decide)) f
    · rfl
  split
  · rw [fireAction_restartAt, hv, hu]
  · split
    · exact congrArg FnS.restartAt (hv.trans hu)
    · exact congrArg FnS.restartAt (hv.trans hu)

theorem fireDue_restartAt (s : State) (p : SlotS → Bool) (f : Nat) :
    ((s.fireDue p).fnS f).restartAt = (s.fnS f).restartAt := by
  have fold : ∀ (l : List Nat) (u : State),
      ((l.foldl (fun u n => State.fireOne u n false) u).fnS f).restartAt = (u.fnS f).restartAt := by
    intro l
    induction l with
    | nil => exact fun _ => rfl
    | cons n l ih => exact fun u => (ih _).trans (fireOne_restartAt u n false f)
  exact fold _ s

/-- A launch at which a restart is due ends what was in progress (R61, Table 5.9). -/
theorem functionLaunch_fnBusy {t f ds : Nat} {instant a : Int} {rs : List (Nat × Nat)} {wm : Bool} {s : State}
    (hf : f ∉ [8, 27, 29]) (hmine : s.fnMine f = true) (hat : (s.fnS f).restartAt = some a) (hdue : a ≤ instant)
    (hlaunch : (s.begin t).launches (s.rd (R.FN_CFG_LAUNCH_PG f)) instant
      ((s.fnS f).lastLaunch.map (fun l => (l, (s.fnS f).launchSteps))) = true) :
    ∃ u, exec (.functionLaunch t f instant rs wm ds) s = .next u ∧ u.fnBusy f = false := by
  have hgo : (!(s.begin t).fnMine f || !(s.begin t).launches ((s.begin t).rd (R.FN_CFG_LAUNCH_PG f)) instant
      (((s.begin t).fnS f).lastLaunch.map (fun l => (l, ((s.begin t).fnS f).launchSteps)))) = false := by
    rw [show (s.begin t).fnMine f = s.fnMine f from rfl, hmine]
    exact congrArg (fun b => !true || !b) hlaunch
  refine ⟨_, rfl, ?_⟩
  rw [hgo, if_neg Bool.false_ne_true]
  extract_lets u q was _ v w
  have hat' : (w.fnS f).restartAt = some a :=
    (takeSide_restartAt v f instant).trans <| (noteSeen_restartAt u f (wm, ds)).trans <|
      (fireDue_restartAt (s.begin t) _ f).trans hat
  have hdone := dueRestart_fnBusy (by simp_all) hat' hdue rs
  split
  next x restarted hx =>
  rw [hx] at hdone
  extract_lets faded moved y z
  have hmoved : moved.fnBusy f = false :=
    launchIdxs_fnBusy (launchFade_fnBusy (judgeStale_fnBusy hdone instant) instant was) _ _ _ _
  have hy : y.fnBusy f = false := by
    unfold y
    split
    · exact hdone
    · exact launchOpen_fnBusy hmoved
  have hz : z.fnBusy f = false := by
    unfold z
    split
    · exact launchCan_fnBusy hy
    · exact hy
  rw [if_neg (by simp_all)]
  exact fnBusy_update hz rfl rfl

/-- What blocks a valve, or a CAN function, does not move with time. -/
theorem pathBlocks_inTurn {s : State} {f : Nat} (h : s.rd (R.FN_CFG_PATH f) ∈ [1, 3]) (t n : Nat) (kind : ReqKind) :
    (s.inTurn t n kind).pathBlocks f = s.pathBlocks f := by
  have hrd : (s.inTurn t n kind).rd = s.rd := rfl
  have hvalve : (s.inTurn t n kind).valveBlocks = s.valveBlocks := rfl
  simp only [List.mem_cons, List.not_mem_nil, or_false] at h
  unfold State.pathBlocks
  rw [hrd, hvalve]
  rcases h with h | h
  · rw [h]
    rfl
  · rw [h]
    rfl

/-- What a request that waits leaves as it was, and where it stands. -/
theorem waiting_only (s : State) (t n : Nat) (kind : ReqKind) :
    (s.waiting t n kind).ses.gate = (if s.ses.gate.any (fun r => r.is n kind) = true then s.ses.gate
      else s.ses.gate ++ [{ session := n, kind := kind }]) ∧
    (s.waiting t n kind).ses.open_ = s.ses.open_ ∧ (s.waiting t n kind).fn = s.fn ∧
    (s.waiting t n kind).amend = s.amend ∧ (s.waiting t n kind).gd = s.gd ∧ (s.waiting t n kind).answers = [] ∧
    RegsExact [] s (s.waiting t n kind) := ⟨rfl, rfl, rfl, rfl, rfl, rfl, RegsExact.of_reg rfl⟩

/-! ### The gate's queue through a stop -/

theorem release_gate (s : State) (e : Event) (late : Bool) : (s.release e late).ses.gate = s.ses.gate := by
  unfold State.release
  dsimp only
  rw [congrArg SessionsS.gate ((State.noteFault_follows _ _).frame .ses (by decide)),
    congrArg SessionsS.gate ((State.bbEvent_follows _ _).frame .ses (by decide))]
  cases late <;> rfl

theorem hold_gate (s : State) (e : Event) : (s.hold e).ses.gate = s.ses.gate := by
  unfold State.hold
  extract_lets +onlyGivenNames _ x
  have hx : x.ses.gate = s.ses.gate := by
    unfold x
    split
    · rfl
    · split
      · exact release_gate _ _ _
      · rfl
  clear_value x
  split
  · rw [raise_ses]
    exact hx
  · exact hx

theorem arrive_gate (s : State) (e : Event) : (s.arrive e).ses.gate = s.ses.gate := by
  unfold State.arrive
  dsimp only
  split
  · exact release_gate _ _ _
  · exact hold_gate _ _

theorem ownEvent_gate (s : State) (e : Event) : (s.ownEvent e).ses.gate = s.ses.gate := by
  unfold State.ownEvent
  rw [arrive_gate]
  split <;> rfl

theorem log_gate (s : State) (code : Nat) (payload : List Int) (island : Nat) (esc fault : Bool)
    (input : Option Int) : (s.log code payload island esc fault input).ses.gate = s.ses.gate := ownEvent_gate ..

theorem openLoops_gate (s : State) (f cause : Nat) : (s.openLoops f cause).ses.gate = s.ses.gate := by
  have abort : ∀ (u : State) l r, (u.abortTune l r).ses.gate = u.ses.gate := by
    intro u l r
    unfold State.abortTune
    split
    · rfl
    · split
      · rfl
      · exact log_gate ..
  have fold : ∀ (l : List Nat) (u : State), (l.foldl (State.openLoop cause) u).ses.gate = u.ses.gate := by
    intro l
    induction l with
    | nil => exact fun u => rfl
    | cons x l ih => exact fun u => (ih _).trans (abort u x _)
  exact fold _ s

/-- A function stopped, and the requester answered: other functions and the gate's queue stay as they are. -/
theorem stopFn_reply {s : State} {f : Nat} (hmine : s.fnMine f = true) (hrun : (s.fnS f).running = true) (hf : f ≠ 27)
    (n : Nat) : (((s.stopFn f 1).reply n Res.OK).fnS f).running = false ∧
      (∀ g, f ≠ g → ((s.stopFn f 1).reply n Res.OK).fnBusy g = s.fnBusy g) ∧
      ((s.stopFn f 1).reply n Res.OK).ses.gate = s.ses.gate := by
  have hreply : ((s.stopFn f 1).reply n Res.OK).fn = (s.stopFn f 1).fn :=
    (State.reply_follows ..).frame .fn (by decide)
  have hfn : ∀ g, ((s.stopFn f 1).reply n Res.OK).fnS g = (s.stopHead f 1).fnS g := fun g =>
    (fnS_of_fn hreply g).trans (stopFn_running_fnS 1 hmine hrun hf g)
  refine ⟨?_, fun g hg => ?_, ?_⟩
  · rw [hfn]
    exact stopHead_fnS_same s f 1
  · exact fnBusy_of_fnS ((hfn g).trans (stopHead_fnS_ne s 1 hg))
  · rw [congrArg SessionsS.gate ((State.reply_follows ..).frame .ses (by decide)),
      stopFn_running 1 none hmine hrun hf, log_gate, openLoops_gate,
      congrArg SessionsS.gate ((State.stopHead_follows ..).frame .ses (by decide))]

/-- The stop of one function leaves what is in progress of another. -/
theorem fnStopRequest_other {t n f g : Nat} {s : State} (hn : n ≠ 0) (hcls : s.classAtLeast n 1 = true)
    (hturn : s.turn n (.fnStop f) = true) (hg : g ≠ f) (hbusy : s.fnBusy g = true) (hf : f ≠ 27)
    (hmine : s.fnMine f = true) (hrun : (s.fnS f).running = true) :
    ∃ u, exec (.fnStopRequest t n f) s = .next u ∧ (u.fnS f).running = false ∧ u.fnBusy g = true ∧
      u.ses.gate = dropReq n (.fnStop f) s.ses.gate := by
  have hused : s.fnUsed f = true := (Bool.and_eq_true _ _ ▸ hmine).1
  have hhere : s.forwards f = false := by
    have := (Bool.and_eq_true _ _ ▸ hmine).2
    simp_all [State.forwards]
  have hexec : exec (.fnStopRequest t n f) s =
      .next (((s.inTurn t n (.fnStop f)).stopFn f 1).reply n Res.OK) := by
    refine congrArg Host.Outcome.next ((gated_of_turn hn hturn t _).trans ?_)
    have hhere' : (s.inTurn t n (.fnStop f)).forwards f = false := hhere
    have hused' : (s.inTurn t n (.fnStop f)).fnUsed f = true := hused
    have hcls' : (s.inTurn t n (.fnStop f)).classAtLeast n Cls.OPERATOR = true := hcls
    simp only [hcls', hused', hhere', hf, Bool.not_true, Bool.false_eq_true, if_false]
  obtain ⟨hstopped, hothers, hgate⟩ := stopFn_reply (s := s.inTurn t n (.fnStop f)) hmine hrun hf n
  exact ⟨_, hexec, hstopped, (hothers g hg.symm).trans hbusy, hgate⟩

/-- Settles O9: what is in progress waits, another function's request is acted on, and the due launch ends it. -/
theorem functionRequestsWaitTheirTurn : Obligations.FunctionRequestsWaitTheirTurn := by
  unfold Obligations.FunctionRequestsWaitTheirTurn
  refine ⟨?stopWaits, ?restartWaits, ?setWaits, ?engageWaits, ?other, ?restart, ?set, ?launch⟩
  case stopWaits =>
    intro t n f s hn hbusy hroom
    have hwait := gated_of_blocked (kind := .fnStop f) hn hbusy hroom t
    exact ⟨_, congrArg Host.Outcome.next (hwait _), waiting_only ..⟩
  case restartWaits =>
    intro t n f tj rr s hn hbusy hroom
    have hwait := gated_of_blocked (kind := .fnRestart f) hn hbusy hroom t
    exact ⟨_, congrArg Host.Outcome.next (hwait _), waiting_only ..⟩
  case setWaits =>
    intro t n f ws r rr s hn hbusy hroom
    have hwait := gated_of_blocked (kind := .changeSet f) hn hbusy hroom t
    exact ⟨_, congrArg Host.Outcome.next (hwait _), waiting_only ..⟩
  case engageWaits =>
    intro t n tj rr s hn hbusy hroom
    have hwait := gated_of_blocked (kind := .engage) hn hbusy hroom t
    exact ⟨_, congrArg Host.Outcome.next (hwait _), waiting_only ..⟩
  case other =>
    intro t n f g s hn _ hcls hturn hg hbusy _ hf hmine hrun _ _
    exact fnStopRequest_other hn hcls hturn hg hbusy hf hmine hrun
  case restart =>
    intro t n f tj r s hn _ hcls hturn _ hf hmine hpath htune hblocks hrun
    refine ⟨_, congrArg Host.Outcome.next (gated_of_turn hn hturn t _), ?_⟩
    refine requestRestart_busy tj r hcls hf hmine hpath htune ?_ hrun
    rw [pathBlocks_inTurn hpath, hblocks]
  case set =>
    intro t n f k v restart r s hn _ hcls hturn _ _ hmine htune hgood hroom hrun
    exact changeSet_busy t restart r hn hcls hturn hmine htune hgood hroom hrun
  case launch =>
    intro t f instant a rs wm ds s _ hf hpath hunit hat hdue hlaunch _
    have hmine : s.fnMine f = true := by
      have hused : s.rd (R.FN_CFG_PATH f) ≠ 0 := fun h => by simp [h] at hpath
      simp [State.fnMine, State.fnUsed, hused, hunit]
    exact functionLaunch_fnBusy hf hmine hat hdue hlaunch

end Sys2Proof.Machine
end

section
/-! PROOF. Chapter 02 (O26).
The setpoint board, the gate, the mirror, protection, the memories and the arbiter, each command by its own lemmas. -/
namespace Sys2Proof.Machine

/-! ### The setpoint board -/

/-- The side last published is counted in MISSES when the next is published: it was not taken, and no launch of the
function came between (02 R53, R54). -/
def State.untaken (s : State) (fn : Nat) : Bool :=
  match (s.entry fn).pubs with
  | p :: older => !((s.entry fn).taken && older.isEmpty) && !s.launchBetween fn p.at_ s.harvest
  | [] => false

/-- The board entry after a publish: the side that was not current takes the setpoints. -/
theorem publishSide_entry (s : State) (fn : Nat) (x : Side) :
    (s.publishSide fn x).entry fn =
      { a := if !(s.entry fn).index then (s.entry fn).a else x,
        b := if !(s.entry fn).index then x else (s.entry fn).b,
        index := !(s.entry fn).index,
        pubs := { side := !(s.entry fn).index, at_ := s.harvest, x } ::
          (if s.untaken fn then (s.entry fn).pubs.drop 1 else (s.entry fn).pubs),
        taken := (s.entry fn).taken && !(s.untaken fn && (s.entry fn).pubs.length = 1) } := by
  unfold State.publishSide
  extract_lets b idx lost p b' s1 s2
  have hboard : ∀ v : State, v.board = s2.board → v.entry fn = b' := by
    intro v hv
    simp only [State.entry, hv, s2, look_ins, if_true, Option.getD_some]
  have hans : ∀ l, (s2.answer (.trunk 0) 0x49 l).entry fn = b' := fun l => hboard _ rfl
  split
  · exact hans _
  · exact hboard _ rfl

/-- A publish moves no register but MISSES. -/
theorem publishSide_rd (s : State) (fn : Nat) (x : Side) (k : Nat) :
    (s.publishSide fn x).rd k = (if s.untaken fn then s.bump (R.FN_SPB_MISSES fn) 255 else s).rd k := by
  unfold State.publishSide
  extract_lets b idx lost p b' s1 s2
  split <;> rfl

theorem publishSide_quiet {s : State} {fn : Nat} (h : (s.fnUsed fn && s.forwards fn) = false) (x : Side) :
    (s.publishSide fn x).answers = s.answers := by
  unfold State.publishSide
  extract_lets b idx lost p b' s1 s2
  have hs1 : s1.answers = s.answers := by
    unfold s1
    split <;> rfl
  have hkeys : R.FN_SPB_MISSES fn ≠ R.FN_CFG_PATH fn ∧ R.FN_SPB_MISSES fn ≠ R.FN_CFG_UNIT fn := by
    simp only [R.FN_SPB_MISSES, R.FN_CFG_PATH, R.FN_CFG_UNIT]
    omega
  have hrd : ∀ k, R.FN_SPB_MISSES fn ≠ k → s2.rd k = s.rd k := by
    intro k hk
    show s1.rd k = s.rd k
    unfold s1
    split
    · exact rd_wr_ne _ _ hk
    · rfl
  have hrole : s2.role = s.role := by
    show s1.role = s.role
    unfold s1
    split <;> rfl
  have hs2 : (s2.fnUsed fn && s2.forwards fn) = false := by
    simpa only [State.fnUsed, State.forwards, State.isWorker, hrd _ hkeys.1, hrd _ hkeys.2, hrole] using h
  rw [hs2]
  exact hs1

/-- MISSES rises when the last publish was neither taken as the only one nor had a launch after it (02 R53). -/
theorem publishSide_misses {s : State} {fn : Nat} {p : PubS} (hp : p ∈ (s.entry fn).pubs.take 1) (x : Side) :
    (s.publishSide fn x).rd (R.FN_SPB_MISSES fn) =
      if ((s.entry fn).taken = true ∧ (s.entry fn).pubs.length = 1) ∨ s.launchBetween fn p.at_ s.harvest = true
      then s.rd (R.FN_SPB_MISSES fn) else satInc 255 (s.rd (R.FN_SPB_MISSES fn)) := by
  rw [publishSide_rd]
  obtain ⟨older, hpubs⟩ : ∃ older, (s.entry fn).pubs = p :: older := by
    cases hl : (s.entry fn).pubs with
    | nil => simp [hl] at hp
    | cons q older => exact ⟨older, by simp_all⟩
  have huntaken : s.untaken fn = true ↔ ¬(((s.entry fn).taken = true ∧ (s.entry fn).pubs.length = 1) ∨
      s.launchBetween fn p.at_ s.harvest = true) := by
    simp only [State.untaken, hpubs]
    cases older <;> simp
  by_cases h : s.untaken fn = true
  · rw [if_pos h, if_neg (huntaken.mp h), rd_bump, if_pos rfl]
  · rw [if_neg h, if_pos (not_not.mp (mt huntaken.mpr h))]

/-- Without a publish before it nothing is counted. -/
theorem untaken_of_nil {s : State} {fn : Nat} (h : (s.entry fn).pubs = []) : s.untaken fn = false := by
  simp only [State.untaken, h]

theorem publishSide_regs (s : State) (fn : Nat) (x : Side) :
    RegsExact [R.FN_SPB_MISSES fn] s (s.publishSide fn x) := by
  intro k hk
  rw [publishSide_rd]
  split
  · exact rd_wr_ne _ _ fun h => hk (by simp [h])
  · rfl

theorem publishSide_regs_of_nil {s : State} {fn : Nat} (h : (s.entry fn).pubs = []) (x : Side) :
    RegsExact [] s (s.publishSide fn x) := by
  intro k _
  rw [publishSide_rd, untaken_of_nil h]
  rfl

/-- A publish fills the side that was not current and leaves the other (02 R50). -/
theorem publishSide_sides (s : State) (fn : Nat) (x : Side) :
    ((s.publishSide fn x).entry fn).index = (!(s.entry fn).index) ∧
    ((s.publishSide fn x).entry fn).pubs.head? = some { side := !(s.entry fn).index, at_ := s.harvest, x } ∧
    ((s.entry fn).index = true →
      ((s.publishSide fn x).entry fn).a = x ∧ ((s.publishSide fn x).entry fn).b = (s.entry fn).b) ∧
    ((s.entry fn).index = false →
      ((s.publishSide fn x).entry fn).b = x ∧ ((s.publishSide fn x).entry fn).a = (s.entry fn).a) := by
  rw [publishSide_entry]
  refine ⟨rfl, rfl, fun h => ?_, fun h => ?_⟩ <;> simp [h]

/-! ### A request at the gate -/

theorem respond_gate (s : State) (n : Nat) (m : MsgIn) (k : Nat) : (s.respond n m k).ses.gate = s.ses.gate := rfl

theorem reply_gate (s : State) (n c : Nat) (l : List Int) : (s.reply n c l).ses.gate = s.ses.gate := by
  rw [(State.reply_follows ..).frame .ses (by decide)]

/-- The check of a message moves no request at the gate. -/
theorem protect_gate {s : State} {n : Nat} {m : MsgIn} (h : (s.protect n m).1 = Res.OK) :
    (s.protect n m).2.ses.gate = s.ses.gate := by
  obtain ⟨id, alive, hset⟩ := protect_ok h
  rw [hset]
  rfl

theorem Heard.mayRequest {n : Nat} {s v : State} (h : Heard n s v) (kind : ReqKind) :
    v.mayRequest n kind = s.mayRequest n kind := by
  have hmd : v.md = s.md := h.frame .md (by decide)
  cases kind <;> simp only [State.mayRequest, State.classAtLeast, h.cls, hmd, h.mode, h.mayLive]

/-- A request that passes its checks reaches the gate, once the check has moved no more than its record (02 R57). -/
theorem gateRequest_checked {s : State} {n : Nat} {kind : ReqKind} {m : MsgIn} (h : Accepts s n (reqService kind) m)
    (hmay : s.mayRequest n kind = true) (hdead : deadKey kind = none) (hok : (s.protect n m).1 = Res.OK) (t : Nat) :
    ∃ v, Heard n s v ∧ v.ses.gate = s.ses.gate ∧ exec (.gateRequest t n kind m) s = .next
      ((if 64 ≤ v.ses.gate.length then (v.log 0x1022 [reqNumber kind, n]).reply n Res.GATE_BUSY
        else ({ v with ses := { v.ses with gate := v.ses.gate ++ [{ session := n, kind }] } } : State).reply n
          Res.OK).respond n m 0) := by
  obtain ⟨hok', hv⟩ := Heard.protect t hok
  refine ⟨_, hv, protect_gate hok', congrArg Host.Outcome.next ((h.onMessage t _).trans ?_)⟩
  have hmay' : ((s.begin t).touch n).mayRequest n kind = true := ((heard_touch s t n).mayRequest kind).trans hmay
  simp only [hmay', hdead, hok', Bool.not_true, Bool.false_eq_true, if_false, Option.isSome_none, ne_eq,
    not_true_eq_false]

/-- With room at the gate the request waits there. -/
theorem gateRequest_room {s : State} {n : Nat} {kind : ReqKind} {m : MsgIn} (h : Accepts s n (reqService kind) m)
    (hmay : s.mayRequest n kind = true) (hdead : deadKey kind = none) (hok : (s.protect n m).1 = Res.OK)
    (hroom : s.ses.gate.length < 64) (t : Nat) :
    ∃ u, exec (.gateRequest t n kind m) s = .next u ∧ u.ses.gate = s.ses.gate ++ [{ session := n, kind }] ∧
      Sent u (.session n) Res.OK [] := by
  obtain ⟨v, hv, hgate, hexec⟩ := gateRequest_checked h hmay hdead hok t
  rw [hgate, if_neg (by omega)] at hexec
  refine ⟨_, hexec, ?_, replied_sent h.other ?_ _ _ m⟩
  · rw [respond_gate, reply_gate]
  · exact hv.nums ▸ h.isOpen

/-- At a full gate it is refused and logged. -/
theorem gateRequest_full {s : State} {n : Nat} {kind : ReqKind} {m : MsgIn} (h : Accepts s n (reqService kind) m)
    (hmay : s.mayRequest n kind = true) (hdead : deadKey kind = none) (hok : (s.protect n m).1 = Res.OK)
    (hfull : 64 ≤ s.ses.gate.length) (hroom : Room s) (t : Nat) :
    ∃ u, exec (.gateRequest t n kind m) s = .next u ∧ u.ses.gate = s.ses.gate ∧
      Sent u (.session n) Res.GATE_BUSY [] ∧ Logged s u 0x1022 [reqNumber kind, n] := by
  obtain ⟨v, hv, hgate, hexec⟩ := gateRequest_checked h hmay hdead hok t
  rw [hgate, if_pos hfull] at hexec
  obtain ⟨hsent, hlogged, -, -⟩ := refused_logged hv h.other h.isOpen hroom 0x1022 [reqNumber kind, n] Res.GATE_BUSY m
  refine ⟨_, hexec, ?_, hsent, hlogged⟩
  rw [respond_gate, reply_gate, log_gate, hgate]

/-! ### The status mirror -/

theorem RegsExact.foldl {α : Type} {l : List Nat} {f : State → α → State} {xs : List α}
    (hf : ∀ x ∈ xs, ∀ u, RegsExact l u (f u x)) (s : State) : RegsExact l s (xs.foldl f s) := by
  induction xs generalizing s with
  | nil => exact RegsExact.rfl' _ _
  | cons x xs ih =>
    rw [List.foldl_cons]
    exact (hf x List.mem_cons_self s).trans (ih (fun y hy => hf y (List.mem_cons_of_mem _ hy)) _)

/-- The status fields the power die refreshes before a snapshot (02 R68). -/
def timedFields : List Nat :=
  switchChannels.flatMap (fun n => [R.LS_STAT_STATE n, R.LS_STAT_CTRL n, R.LS_STAT_TRIPS n, R.LS_STAT_BUDGET_LEFT n]) ++
    [0, 1, 2, 3, 4].map R.CE_E_STAT_LOAD

theorem switchTimed_regs (s : State) : RegsExact timedFields s s.switchTimed := by
  refine RegsExact.foldl (fun n hn u => ?_) s
  refine RegsExact.wrs _ (fun x hx => ?_) (RegsExact.rfl' _ _)
  refine List.mem_append_left _ (List.mem_flatMap.mpr ⟨n, hn, ?_⟩)
  simp only [List.mem_cons, List.not_mem_nil, or_false] at hx ⊢
  rcases hx with rfl | rfl | rfl | rfl <;> simp

theorem showLoads_regs (s : State) : RegsExact timedFields s s.showLoads :=
  RegsExact.foldl (fun _ he u => RegsExact.wr _ _ (List.mem_append_right _ (List.mem_map_of_mem he))
    (RegsExact.rfl' _ u)) s

theorem switchTimed_showLoads_frame (s : State) : Frame [.reg] s s.switchTimed.showLoads :=
  (State.switchTimed_follows s).frame.trans (State.showLoads_follows _).frame

/-! ### Events on their way through the mirror -/

theorem bbPush_exact (s : State) (it : BbItem) : RegsExact [R.BB_STAT_LOST] s (s.bbPush it) := by
  unfold State.bbPush
  split
  · exact RegsExact.of_reg rfl
  · exact RegsExact.bump' _ _ List.mem_cons_self (RegsExact.of_reg rfl)

theorem bbAtres_exact (s : State) (e : Event) : RegsExact [R.BB_STAT_LOST] s (s.bbAtres e) := by
  unfold State.bbAtres
  dsimp only
  split
  · exact bbPush_exact _ _
  · exact RegsExact.rfl' _ _

theorem bbEvent_exact (s : State) (e : Event) : RegsExact [R.BB_STAT_LOST] s (s.bbEvent e) := by
  unfold State.bbEvent
  split
  · extract_lets pushed noted
    have hnoted : RegsExact [R.BB_STAT_LOST] s noted := by
      refine RegsExact.trans (bbPush_exact s { typ := 1, fault := e.fault, payload := e.record }) ?_
      unfold noted
      split
      · exact RegsExact.of_reg rfl
      · exact RegsExact.rfl' _ _
    clear_value noted
    split
    · exact hnoted.trans (bbAtres_exact _ _)
    · exact hnoted
  · exact RegsExact.rfl' _ _

theorem noteFault_exact (s : State) (e : Event) :
    RegsExact [R.PC_STAT_HELD, R.PC_STAT_HUNIT, R.PC_STAT_HCODE] s (s.noteFault e) := by
  unfold State.noteFault
  split
  · refine RegsExact.wrs _ (fun x hx => ?_) (RegsExact.rfl' _ _)
    simp only [List.mem_cons, List.not_mem_nil, or_false] at hx
    rcases hx with rfl | rfl | rfl <;> simp
  · exact RegsExact.rfl' _ _

/-- A late release is counted in LATE (02 R66). -/
theorem release_late_rd (s : State) (e : Event) :
    (s.release e true).rd R.MIRROR_STAT_LATE = satInc 0xFFFF (s.rd R.MIRROR_STAT_LATE) := by
  unfold State.release
  dsimp only
  rw [noteFault_exact _ _ _ (by decide), bbEvent_exact _ _ _ (by decide)]
  exact (rd_bump _ _ _ _).trans (if_pos rfl)

theorem release_nextSeq (s : State) (e : Event) (late : Bool) :
    (s.release e late).mirror.nextSeq = (s.mirror.nextSeq + 1) % 2 ^ 32 := by
  unfold State.release
  dsimp only
  rw [(State.noteFault_follows _ _).frame .mirror (by decide), (State.bbEvent_follows _ _).frame .mirror (by decide)]
  split <;> rfl

/-- A worker's report that tells of no function's start or stop leaves the manager as it is (R69). -/
theorem remoteFn_other {code : Nat} (hstop : code ≠ 0x3040) (hstart : code ≠ 0x3041) (s : State) (payload : List Int)
    (stamp : Int) : s.remoteFn code payload stamp = s := by
  unfold State.remoteFn
  split
  · exact absurd rfl hstop
  · exact absurd rfl hstart
  · rfl

/-- An event of the unit itself, or one that a manager takes in, enters the mirror. -/
theorem eventArrive_arrives {ev : EventIn} {s : State} (hstop : ev.code ≠ 0x3040) (hstart : ev.code ≠ 0x3041)
    (hunit : ev.unit = s.role.unit ∨ s.isWorker = false) (t : Nat) :
    ∃ v : State, v.reg = s.reg ∧ v.mirror = s.mirror ∧ v.now = max s.now t ∧
      exec (.eventArrive t ev) s = .next (v.arrive ((s.begin t).arriving ev)) := by
  by_cases hown : ev.unit = s.role.unit
  · refine ⟨if (s.begin t).isWorker then (s.begin t).answer (.trunk 0) 0x60
        (((s.begin t).arriving ev).record.map Int.ofNat) else s.begin t, ?_, ?_, ?_, eventArrive_own hown⟩
    all_goals split <;> rfl
  · have hexec := eventArrive_remote (t := t) hown (hunit.resolve_left hown)
    rw [remoteFn_other hstop hstart] at hexec
    exact ⟨s.begin t, rfl, rfl, rfl, hexec⟩

theorem arriving_due (s : State) (t : Nat) (ev : EventIn) :
    ((s.begin t).arriving ev).due = max s.now t - ev.age + 50000 := rfl

theorem arrive_held_nextSeq (s : State) (e : Event) (hd : s.now ≤ e.due) (h : s.mirror.window.length < 4096) :
    (s.arrive e).mirror.nextSeq = s.mirror.nextSeq := by
  unfold State.arrive
  dsimp only
  rw [if_neg (Nat.not_lt.mpr hd)]
  unfold State.hold
  dsimp only
  rw [if_pos h, if_pos h, raise_mirror]

/-- An event on time waits in the window (02 R65). -/
theorem eventArrive_held {ev : EventIn} {s : State} (hstop : ev.code ≠ 0x3040) (hstart : ev.code ≠ 0x3041)
    (hunit : ev.unit = s.role.unit ∨ s.isWorker = false) (hage : ev.age ≤ 50000) (hroom : Room s) (t : Nat) :
    ∃ u, exec (.eventArrive t ev) s = .next u ∧ Logged s u ev.code ev.payload ∧
      u.mirror.nextSeq = s.mirror.nextSeq ∧ RegsKept [] s u := by
  obtain ⟨v, hreg, hmirror, hnow, hexec⟩ := eventArrive_arrives hstop hstart hunit t
  have hdue : v.now ≤ ((s.begin t).arriving ev).due := by
    rw [arriving_due, hnow]
    omega
  have hwindow : v.mirror.window.length < 4096 := by
    rw [hmirror]
    omega
  refine ⟨_, hexec, ⟨{ (s.begin t).arriving ev with arrival := v.mirror.arrivals }, ?_, rfl, rfl, ?_⟩, ?_,
    (RegsKept.of_reg hreg).trans (arrive_regs _ _)⟩
  · rw [(arrive_held v _ hdue hwindow).1]
    exact List.mem_append_right _ (List.mem_singleton_self _)
  · exact Nat.le_of_eq (congrArg MirrorS.arrivals hmirror.symm)
  · rw [arrive_held_nextSeq v _ hdue hwindow, hmirror]

/-- A late event passes the window and is counted (02 R66). -/
theorem eventArrive_late {t : Nat} {ev : EventIn} {s : State} (hstop : ev.code ≠ 0x3040) (hstart : ev.code ≠ 0x3041)
    (hunit : ev.unit = s.role.unit ∨ s.isWorker = false) (hage : 50000 < ev.age) (hpast : ev.age ≤ s.now) :
    ∃ u, exec (.eventArrive t ev) s = .next u ∧ u.mirror.window = s.mirror.window ∧
      u.mirror.nextSeq = (s.mirror.nextSeq + 1) % 2 ^ 32 ∧
      u.rd R.MIRROR_STAT_LATE = satInc 0xFFFF (s.rd R.MIRROR_STAT_LATE) ∧ RegsKept [] s u := by
  obtain ⟨v, hreg, hmirror, hnow, hexec⟩ := eventArrive_arrives hstop hstart hunit t
  have hdue : ((s.begin t).arriving ev).due < v.now := by
    rw [arriving_due, hnow]
    omega
  refine ⟨_, hexec, ?_, ?_, ?_, (RegsKept.of_reg hreg).trans (arrive_regs _ _)⟩
  all_goals rw [arrive_late hdue]
  · rw [release_window, ← hmirror]
  · rw [release_nextSeq, ← hmirror]
  · exact (release_late_rd _ _).trans (congrArg (satInc 0xFFFF) (rd_of_reg hreg _))

/-! ### Release in stamp order -/

theorem exists_minimal_steps {l : List Event} (h : l ≠ []) : ∃ e ∈ l, stepsFirst l e = true := by
  obtain ⟨e, he, hmin⟩ := l.toFinset.exists_min_image Event.steps (by simpa using h)
  simp only [List.mem_toFinset] at he hmin
  refine ⟨e, he, List.all_eq_true.mpr fun x hx => ?_⟩
  have := hmin x hx
  simp
  omega

/-- The earlier of the event found so far and the next. -/
def pickEarlier (m : Option Event) (e : Event) : Option Event :=
  match m with
  | none => some e
  | some x => if keyBefore e x then some e else some x

theorem earliest_eq (l : List Event) : earliest l = l.foldl pickEarlier none := rfl

theorem pickEarlier_or (m : Option Event) (e : Event) : pickEarlier m e = some e ∨ pickEarlier m e = m := by
  cases m with
  | none => exact Or.inl rfl
  | some x =>
    unfold pickEarlier
    dsimp only
    split
    · exact Or.inl rfl
    · exact Or.inr rfl

theorem foldl_pickEarlier_mem {e : Event} (l : List Event) (m : Option Event)
    (h : l.foldl pickEarlier m = some e) : m = some e ∨ e ∈ l := by
  induction l generalizing m with
  | nil => exact Or.inl h
  | cons x l ih =>
    rcases ih _ h with hpick | hl
    · rcases pickEarlier_or m x with hx | hm
      · exact Or.inr (List.mem_cons.mpr (Or.inl (Option.some.inj (hpick.symm.trans hx))))
      · exact Or.inl (hm.symm.trans hpick)
    · exact Or.inr (List.mem_cons_of_mem _ hl)

theorem earliest_mem {l : List Event} {e : Event} (h : earliest l = some e) : e ∈ l :=
  (foldl_pickEarlier_mem l none ((earliest_eq l).symm.trans h)).resolve_left nofun

/-- Of events that are due one is released. -/
theorem firstEvent_of_ne_nil {l : List Event} (h : l ≠ []) : ∃ e ∈ l, firstEvent l = some e := by
  obtain ⟨x, hx, hmin⟩ := exists_minimal_steps h
  have hne : l.filter (stepsFirst l) ≠ [] := List.ne_nil_of_mem (List.mem_filter.mpr ⟨hx, hmin⟩)
  obtain ⟨e, he⟩ := earliest_of_ne_nil hne
  exact ⟨e, (List.mem_filter.mp (earliest_mem he)).1, he⟩

/-- One round of the release: event `e` leaves the window and enters the streams. -/
def State.letGo (s : State) (e : Event) : State :=
  State.release { s with mirror := { s.mirror with window := windowWithout s.mirror.window e } } e false

theorem letGo_window (s : State) (e : Event) : (s.letGo e).mirror.window = windowWithout s.mirror.window e :=
  release_window _ _ _

theorem letGo_now (s : State) (e : Event) : (s.letGo e).now = s.now :=
  (State.release_follows _ _ _).frame .now (by decide)

theorem letGo_regs (s : State) (e : Event) : RegsKept [] s (s.letGo e) :=
  RegsKept.trans (t := { s with mirror := { s.mirror with window := windowWithout s.mirror.window e } })
    (RegsKept.of_reg rfl) (release_regs _ _ _)

theorem releaseDue_succ (n : Nat) (s : State) : State.releaseDue (n + 1) s =
    match firstEvent (s.mirror.window.filter (fun e => e.due ≤ s.now)) with
    | none => s
    | some e => State.releaseDue n (s.letGo e) := by
  rw [State.releaseDue]
  cases firstEvent (s.mirror.window.filter (fun e => e.due ≤ s.now)) <;> rfl

theorem windowWithout_length_lt {l : List Event} {e : Event} (h : e ∈ l) : (windowWithout l e).length < l.length :=
  List.length_filter_lt_length_iff_exists.mpr ⟨e, h, by simp⟩

/-- With nothing due the window stands. -/
theorem releaseDue_of_none {s : State} (h : ∀ e ∈ s.mirror.window, s.now < e.due) (n : Nat) :
    State.releaseDue n s = s := by
  cases n with
  | zero => rfl
  | succ n =>
    have hnone : s.mirror.window.filter (fun e => e.due ≤ s.now) = [] :=
      List.filter_eq_nil_iff.mpr fun e he => by simpa using h e he
    rw [releaseDue_succ, hnone]
    rfl

theorem releaseDue_now (n : Nat) (s : State) : (State.releaseDue n s).now = s.now :=
  (State.releaseDue_follows n s).frame .now (by decide)

/-- Every event that is due is released: each round takes one at least out of the window (02 R65). -/
theorem releaseDue_window {n : Nat} {s : State} (hn : s.mirror.window.length ≤ n) :
    ∀ e ∈ (State.releaseDue n s).mirror.window, e ∈ s.mirror.window ∧ s.now < e.due := by
  induction n generalizing s with
  | zero =>
    intro e he
    have hnil : s.mirror.window = [] := List.length_eq_zero_iff.mp (Nat.le_zero.mp hn)
    rw [State.releaseDue, hnil] at he
    exact absurd he List.not_mem_nil
  | succ n ih =>
    by_cases hdue : s.mirror.window.filter (fun e => e.due ≤ s.now) = []
    · have hlater : ∀ e ∈ s.mirror.window, s.now < e.due := fun e he => by
        simpa using List.filter_eq_nil_iff.mp hdue e he
      rw [releaseDue_of_none hlater]
      exact fun e he => ⟨he, hlater e he⟩
    · obtain ⟨x, hx, hfirst⟩ := firstEvent_of_ne_nil hdue
      have hxw := (List.mem_filter.mp hx).1
      have hless := windowWithout_length_lt hxw
      rw [releaseDue_succ, hfirst]
      intro e he
      have hround := ih (s := s.letGo x) (by rw [letGo_window]; omega) e he
      rw [letGo_window, letGo_now] at hround
      exact ⟨(List.mem_filter.mp hround.1).1, hround.2⟩

theorem releaseDue_regs (n : Nat) (s : State) : RegsKept [] s (State.releaseDue n s) := by
  induction n generalizing s with
  | zero => exact RegsKept.rfl' _ _
  | succ n ih =>
    rw [releaseDue_succ]
    split
    · exact RegsKept.rfl' _ _
    · exact (letGo_regs _ _).trans (ih _)

/-- The sessions' queues drained, and the time: all that comes before the release. -/
theorem drained_frame (sent : List (Nat × Nat)) (s : State) (t : Nat) :
    Frame [.now, .answers, .ses] s (sent.foldl (fun s p => s.drain p.1 p.2) (s.begin t)) := by
  refine Frame.trans (t := s.begin t) (frame_of_heard s _ _ s.ses) ?_
  exact ((Follows.foldl (l := [.ses]) sent (Follows.rfl' _ _)
    (fun u p => State.drain_follows u p.1 p.2)).frame).mono (by decide)

/-- What is due leaves the window, and nothing enters it (02 R65). -/
theorem eventRelease_next (t : Nat) (sent : List (Nat × Nat)) (s : State) :
    ∃ u, exec (.eventRelease t sent) s = .next u ∧
      (∀ e ∈ u.mirror.window, e ∈ s.mirror.window ∧ u.now < e.due) ∧
      ((∀ e ∈ s.mirror.window, u.now < e.due) → u.mirror.window = s.mirror.window) ∧ RegsKept [] s u := by
  have hframe := drained_frame sent s t
  have hmirror := hframe .mirror (by decide)
  refine ⟨_, rfl, fun e he => ?_, fun h => ?_, ?_⟩
  · have hleft := releaseDue_window (Nat.le_refl _) e he
    rw [releaseDue_now]
    exact ⟨hmirror ▸ hleft.1, hleft.2⟩
  · rw [releaseDue_now] at h
    rw [releaseDue_of_none (fun e he => h e (hmirror ▸ he)), hmirror]
  · exact (RegsKept.of_reg (hframe .reg (by decide))).trans (releaseDue_regs _ _)

/-! ### Protection (02 R75, R76) -/

theorem begin_log_logged {s : State} (hroom : Room s) (t code : Nat) (payload : List Int) :
    Logged s ((s.begin t).log code payload) code payload :=
  log_logged s (s.begin t) code payload 2 false false none (by show s.mirror.window.length < 4096; omega)
    (Nat.le_refl _)

theorem protWrite_locked {s : State} (h : s.rd R.PROT_STAT_LOCK = 1) (t master entry rights : Nat) :
    exec (.protWrite t master entry rights) s =
      .next (((s.begin t).log 0x1020 [master]).answer (.master master) 0x1020) :=
  congrArg Host.Outcome.next (if_pos (show (s.begin t).flag R.PROT_STAT_LOCK = true from decide_eq_true h))

theorem protWrite_open {s : State} (h : s.rd R.PROT_STAT_LOCK ≠ 1) (t master entry rights : Nat) :
    exec (.protWrite t master entry rights) s =
      .next { s.begin t with prot := { s.prot with removed := ins s.prot.removed entry rights } } :=
  congrArg Host.Outcome.next (if_neg (show ¬(s.begin t).flag R.PROT_STAT_LOCK = true from fun k =>
    h (of_decide_eq_true k)))

/-- The latch refuses a write of the protection table; without it the entry's rights are cut (R75). -/
theorem protWrite_next {s : State} (hroom : Room s) (t master entry rights : Nat) :
    ∃ u, exec (.protWrite t master entry rights) s = .next u ∧
      (s.rd R.PROT_STAT_LOCK = 1 →
        u.prot = s.prot ∧ Logged s u 0x1020 [master] ∧ Sent u (.master master) 0x1020 []) ∧
      (s.rd R.PROT_STAT_LOCK ≠ 1 → look u.prot.removed entry = some rights) ∧ RegsKept [] s u := by
  by_cases hlock : s.rd R.PROT_STAT_LOCK = 1
  · refine ⟨_, protWrite_locked hlock t master entry rights, fun _ => ⟨?_, ?_, answer_sent _ _ _ _⟩,
      fun h => absurd hlock h, ?_⟩
    · exact (State.log_follows (s.begin t) _ _ _ _ _ _).frame .prot (by decide)
    · exact (begin_log_logged hroom t 0x1020 [master]).of_mirror rfl
    · exact RegsKept.answer' _ _ _ (RegsKept.log' _ _ _ _ _ _ (RegsKept.begin' t (RegsKept.rfl' _ _)))
  · exact ⟨_, protWrite_open hlock t master entry rights, fun h => absurd h hlock,
      fun _ => look_ins_same _ _ _, RegsKept.of_reg rfl⟩

/-- A denied access, with the write to the locked table itself noted first. -/
theorem masterAccess_denied {s : State} {master region : Nat} {write : Bool}
    (h : s.mayAccess master region write = false) (t offset ecc : Nat) (value : Byte) :
    ∃ v, v.mem = s.mem ∧ RegsKept [] s v ∧
      exec (.masterAccess t master region offset write value ecc) s = .next (v.denyAccess master region write) := by
  have hdenied : (s.begin t).mayAccess master region write = false := h
  refine ⟨if write && region = 21 && (s.begin t).flag R.PROT_STAT_LOCK then (s.begin t).lockedWrite master
    else s.begin t, ?_, ?_, ?_⟩
  · split
    · exact (State.log_follows (s.begin t) _ _ _ _ _ _).frame .mem (by decide)
    · rfl
  · split
    · exact RegsKept.log' _ _ _ _ _ _ (RegsKept.begin' t (RegsKept.rfl' _ _))
    · exact RegsKept.of_reg rfl
  · simp only [exec, execMasterAccess, hdenied, Bool.not_false, if_true]

/-- A denied access is counted, its master named, and it is answered PROT_DENIED (R76). -/
theorem denyAccess_rd (s : State) (master region : Nat) (write : Bool) :
    (s.denyAccess master region write).rd R.PROT_STAT_LAST_MASTER = master ∧
    (s.denyAccess master region write).rd R.PROT_STAT_DENIALS = satInc 0xFFFF (s.rd R.PROT_STAT_DENIALS) := by
  unfold State.denyAccess
  constructor
  · exact (logOnce_rd _ _ _ _ _ _ _ _ (by decide)).trans (rd_wr_same _ _ _)
  · refine (logOnce_rd _ _ _ _ _ _ _ _ (by decide)).trans ?_
    rw [rd_wr_ne _ _ (by decide), rd_bump, if_pos rfl]

theorem denyAccess_regs {s v : State} (h : RegsKept [] s v) (master region : Nat) (write : Bool) :
    RegsKept [R.PROT_STAT_LAST_MASTER, R.PROT_STAT_DENIALS] s (v.denyAccess master region write) :=
  RegsKept.answer' _ _ _ (RegsKept.logOnce' _ _ _ _ _ _ (RegsKept.wr' _ _ (by decide)
    (RegsKept.bump' _ _ (by decide) (h.mono (by simp)))))

/-! ### Memories (02 R79 to R82, R92) -/

/-- A corrected error is counted for its memory, and logged unless the hold-off keeps it back. -/
theorem eccCorrected_count (s : State) (memory offset : Nat) :
    look (s.eccCorrected memory offset).ecc.corrected memory = some ((look s.ecc.corrected memory).getD 0 + 1) := by
  unfold State.eccCorrected
  dsimp only
  rw [(State.logOnce_follows _ _ _ _ _ _ _).frame .ecc (by decide)]
  exact look_ins_same _ _ _

theorem eccCorrected_regs {s u : State} (h : RegsKept [] s u) (memory offset : Nat) :
    RegsKept [] s (u.eccCorrected memory offset) :=
  RegsKept.logOnce' _ _ _ _ _ _ (h.trans (RegsKept.of_reg rfl))

/-- What an access finds before it reads or writes: the error corrected, if there was one. -/
def State.corrected (s : State) (t region offset ecc : Nat) : State :=
  if ecc = 1 then (s.begin t).eccCorrected (memoryOf region) ((s.begin t).regionBase region + offset) else s.begin t

theorem corrected_mem (s : State) (t region offset ecc : Nat) : (s.corrected t region offset ecc).mem = s.mem := by
  unfold State.corrected
  split
  · exact (State.eccCorrected_follows _ _ _).frame .mem (by decide)
  · rfl

theorem corrected_regs (s : State) (t region offset ecc : Nat) :
    RegsKept [] s (s.corrected t region offset ecc) := by
  unfold State.corrected
  split
  · exact eccCorrected_regs (RegsKept.begin' t (RegsKept.rfl' _ _)) _ _
  · exact RegsKept.of_reg rfl

/-- An access that may be made, at an offset the region has, without an uncorrectable error. -/
theorem masterAccess_served {s : State} {master region offset ecc : Nat} {write : Bool}
    (hmay : s.mayAccess master region write = true) (hin : offset < s.regionSize region) (hecc : ecc < 2) (t : Nat)
    (value : Byte) : exec (.masterAccess t master region offset write value ecc) s =
      if write then .next (State.answer { s.corrected t region offset ecc with
          mem := memWrite s.mem (cellKey region offset) value } (.master master) 0)
      else .next ((s.corrected t region offset ecc).answer (.master master) 0
        [((memRead s.mem (cellKey region offset)).toNat : Int)]) := by
  have hmay' : (s.begin t).mayAccess master region write = true := hmay
  have hin' : ¬(s.begin t).regionSize region ≤ offset := Nat.not_le.mpr hin
  rw [← corrected_mem s t region offset ecc]
  simp only [exec, execMasterAccess, hmay', Bool.not_true, Bool.false_eq_true, if_false, if_neg hin',
    if_neg (Nat.ne_of_lt hecc)]
  rfl

/-- An access with an uncorrectable error reads and writes nothing: it is logged, the block restarts (R92). -/
theorem masterAccess_uncorrectable {s : State} {master region offset : Nat} {write : Bool}
    (hmay : s.mayAccess master region write = true) (hin : offset < s.regionSize region) (t : Nat) (value : Byte) :
    exec (.masterAccess t master region offset write value 2) s = .next ((((s.begin t).log 0x1031
      [(memoryOf region : Int), ((s.regionBase region + offset : Nat) : Int), (regionOwner region : Int)]).restartBlock
        (regionBlock region)).answer (.master master) 0x1031) := by
  have hmay' : (s.begin t).mayAccess master region write = true := hmay
  have hin' : ¬(s.begin t).regionSize region ≤ offset := Nat.not_le.mpr hin
  simp only [exec, execMasterAccess, hmay', Bool.not_true, Bool.false_eq_true, if_false, if_neg hin', if_true]
  rfl

/-- The control partition belongs to no block that could restart. -/
theorem restartBlock_none (s : State) : s.restartBlock 0 = s := rfl

/-! ### The units of an island that goes down -/

theorem islandDown_gnss (s : State) : s.islandDown 3 =
    if s.gn.on then (s.loseChannels.setTvalid false).gnssTimeGone else s := rfl

theorem islandDown_cameras (s : State) : s.islandDown 4 = s.camsDown Cam.STALLED := rfl

theorem islandDown_network (s : State) : s.islandDown 5 = s.netDown := rfl

namespace KeepsIslands

variable {s u : State}

theorem log (code : Nat) (payload : List Int) (island : Nat) (esc fault : Bool) (input : Option Int)
    (h : KeepsIslands s u) : KeepsIslands s (u.log code payload island esc fault input) :=
  h.trans ⟨fun _ hk => log_rd _ _ _ _ _ _ _ _ hk.not_stream, fun _ _ _ hs => hs.log _ _ _ _ _ _⟩

theorem bump {k : Nat} (m : Nat) (hk : 0x1020 ≤ k / 256) (h : KeepsIslands s u) : KeepsIslands s (u.bump k m) :=
  wr _ hk h

theorem setTvalid (v : Bool) (h : KeepsIslands s u) : KeepsIslands s (u.setTvalid v) := by
  unfold State.setTvalid
  split
  · exact h
  · exact log _ _ _ _ _ _ (wr _ (by decide) h)

theorem gnssTimeGone (h : KeepsIslands s u) : KeepsIslands s u.gnssTimeGone := by
  unfold State.gnssTimeGone
  split
  · exact h
  · exact h.trans (of_eq rfl rfl)

theorem loseChannels (h : KeepsIslands s u) : KeepsIslands s u.loseChannels := by
  refine foldl (fun v p => ?_) _ h
  split
  · exact refl v
  · exact wr _ (by simp only [R.GN_CH_STAT_STATE]; omega) (refl v)

theorem dropFrames (cam : Nat) (h : KeepsIslands s u) : KeepsIslands s (u.dropFrames cam) := h.trans (of_eq rfl rfl)

theorem camsDown (st : Nat) (h : KeepsIslands s u) : KeepsIslands s (u.camsDown st) := by
  refine foldl (fun v cam => ?_) _ h
  split
  · exact (dropFrames cam (setCamState cam st (refl v))).trans (of_eq rfl rfl)
  · exact refl v

theorem netDown (h : KeepsIslands s u) : KeepsIslands s u.netDown := by
  unfold State.netDown
  extract_lets eth fnp
  have heth : KeepsIslands s eth := foldl (fun v i => wr 0 (by simp only [R.ETH_STAT_LINK]; omega) (refl v)) _ h
  have hfnp : KeepsIslands s fnp := by
    refine foldl (fun v i => ?_) _ heth
    split
    · exact wr 2 (by simp only [R.FNP_STAT_STATE]; omega) (refl v)
    · exact refl v
  clear_value fnp
  refine foldl (fun v i => ?_) _ hfnp
  split
  · exact bump _ (by simp only [R.TK_STAT_DOWNS]; omega)
      (wr 0 (by simp only [R.TK_STAT_LINK]; omega) (of_eq rfl rfl))
  · exact refl v

/-- The units of the GNSS, camera and network islands that go down leave the islands' status as it is. -/
theorem islandDown {isl : Nat} (hisl : isl ∈ [3, 4, 5]) (h : KeepsIslands s u) : KeepsIslands s (u.islandDown isl) := by
  simp only [List.mem_cons, List.not_mem_nil, or_false] at hisl
  rcases hisl with rfl | rfl | rfl
  · rw [islandDown_gnss]
    split
    · exact gnssTimeGone (setTvalid _ (loseChannels h))
    · exact h
  · rw [islandDown_cameras]
    exact camsDown _ h
  · rw [islandDown_network]
    exact netDown h

end KeepsIslands

/-! ### A block's restart (01 R31, 02 R92) -/

theorem restartBlock_released {s : State} {isl : Nat} (hisl : isl ∈ [3, 4, 5]) (h : s.rd (R.ISL_STAT_HELD isl) = 0) :
    s.restartBlock isl = s.blockRestart isl true := by
  have hflag : s.flag (R.ISL_STAT_HELD isl) = false := by simp [State.flag, h]
  have hmem : [3, 4, 5, 6, 9].contains isl = true := by
    simp only [List.mem_cons, List.not_mem_nil, or_false] at hisl
    rcases hisl with rfl | rfl | rfl <;> rfl
  unfold State.restartBlock
  rw [if_pos hmem, hflag]
  rfl

theorem failTransfers_rd (s : State) (rs : List Nat) (k : Nat) : (s.failTransfers rs).rd k = s.rd k :=
  rd_of_reg ((State.failTransfers_follows s rs).frame .reg (by decide)) k

/-- A block that restarts counts in RESTARTS, holds no transfer that waits, and needs a resynchronisation. -/
theorem blockRestart_island (s : State) {isl : Nat} (hisl : isl ∈ [3, 4, 5]) :
    (s.blockRestart isl true).rd (R.ISL_STAT_RESTARTS isl) = satInc 255 (s.rd (R.ISL_STAT_RESTARTS isl)) ∧
    ((s.blockRestart isl true).island isl).waiting = [] ∧
    ((s.blockRestart isl true).island isl).needSync = true := by
  have hle : isl ≤ 9 := by
    simp only [List.mem_cons, List.not_mem_nil, or_false] at hisl
    omega
  have hisland : ∀ v : State, (v.islandDown isl).island isl = v.island isl := fun v =>
    island_of_isl ((State.islandDown_follows v isl).frame .isl (by decide)) isl
  have hkept : ∀ v : State, (v.islandDown isl).rd (R.ISL_STAT_RESTARTS isl) = v.rd (R.ISL_STAT_RESTARTS isl) := fun v =>
    (KeepsIslands.islandDown hisl (.refl v)).rd _ (islandField hle (by decide))
  unfold State.blockRestart
  extract_lets i flight counted i'
  rw [if_pos rfl]
  refine ⟨?_, ?_, ?_⟩
  · rw [hkept]
    refine (rd_wrs_ne _ _ _ ?_).trans ((rd_bump _ _ _ _).trans ?_)
    · simp only [List.mem_cons, List.not_mem_nil, or_false, forall_eq_or_imp, forall_eq, R.ISL_STAT_CLKOK,
        R.ISL_STAT_RUN, R.ISL_STAT_RESTARTS]
      omega
    · rw [if_pos rfl, failTransfers_rd]
  all_goals
    rw [hisland, island_of_isl ((State.wrs_follows (counted.setIsland isl i') _).frame .isl (by decide)),
      island_setIsland]

/-- The scrub of an area with an uncorrectable error, with no one-shot entry in it (02 R82). -/
theorem sramScrub_uncorrectable (t part offset : Nat) (s : State) :
    exec (.sramScrub t part offset 2 none) s = .next (((s.begin t).log 0x1031
      [0, ((s.regionBase part + offset : Nat) : Int), (regionOwner part : Int)]).restartBlock (regionBlock part)) := rfl

theorem sramScrub_corrected (t part offset : Nat) (s : State) :
    exec (.sramScrub t part offset 1 none) s = .next ((s.begin t).eccCorrected 0 (s.regionBase part + offset)) := rfl

theorem sramScrub_clean {ecc : Nat} (h1 : ecc ≠ 1) (h2 : ecc ≠ 2) (t part offset : Nat) (s : State) :
    exec (.sramScrub t part offset ecc none) s = .next (s.begin t) :=
  congrArg Host.Outcome.next ((if_neg h1).trans (if_neg h2))

/-- What may be logged may be logged later too. -/
theorem begin_mayLog {s : State} {code scope period : Nat} (h : s.mayLog code scope period = true) (t : Nat) :
    (s.begin t).mayLog code scope period = true := by
  have hnow : s.now ≤ (s.begin t).now := Nat.le_max_left _ _
  unfold State.mayLog at h ⊢
  rw [show (s.begin t).mirror = s.mirror from rfl]
  split at h
  · rfl
  · exact decide_eq_true (Nat.le_trans (of_decide_eq_true h) hnow)

theorem eccCorrected_logged {s : State} {memory : Nat} (hroom : Room s)
    (hlog : s.mayLog 0x1030 memory 1000000000 = true) (offset : Nat) :
    Logged s (s.eccCorrected memory offset) 0x1030 [memory, offset] := by
  unfold State.eccCorrected
  dsimp only
  rw [logOnce_first _ _ _ _ _ _ _ (by exact hlog)]
  exact log_logged s _ 0x1030 [memory, offset] 2 false false none (by show s.mirror.window.length < 4096; omega)
    (Nat.le_refl _)

/-- A restart of an island's block after a logged event, as an uncorrectable error asks for it. -/
theorem restart_after_log {s : State} {isl : Nat} (hisl : isl ∈ [3, 4, 5]) (hheld : s.rd (R.ISL_STAT_HELD isl) = 0)
    (t code : Nat) (payload : List Int) :
    (((s.begin t).log code payload).restartBlock isl).rd (R.ISL_STAT_RESTARTS isl) =
      satInc 255 (s.rd (R.ISL_STAT_RESTARTS isl)) ∧
    ((((s.begin t).log code payload).restartBlock isl).island isl).waiting = [] ∧
    ((((s.begin t).log code payload).restartBlock isl).island isl).needSync = true := by
  have hle : isl ≤ 9 := by
    simp only [List.mem_cons, List.not_mem_nil, or_false] at hisl
    omega
  have hrd : ∀ f < 256, ((s.begin t).log code payload).rd ((0x1010 + isl) * 256 + f) =
      s.rd ((0x1010 + isl) * 256 + f) := fun f hf =>
    (log_rd _ _ _ _ _ _ _ _ (islandField hle hf).not_stream).trans (rd_of_reg rfl _)
  rw [restartBlock_released hisl ((hrd 4 (by decide)).trans hheld), ← hrd 3 (by decide)]
  exact blockRestart_island _ hisl

/-! ### The DRAM arbiter (02 R83 to R86) -/

/-- A slot decided for `w`: its grant, and the counters' record WAITMAX. -/
def State.slotGranted (s : State) (t : Nat) (l : List Nat) (w : Nat) : State :=
  l.foldl (fun s q => s.raise (R.ARB_STAT_WAITMAX q) (min 255 ((look s.arb.waits q).getD 0)))
    { s.begin t with arb := (s.arb.present (fun q => s.rd (R.ARB_CFG_WAITLIM q)) l).grant (some w) }

theorem dramSlotDecision_exec (t : Nat) (l : List Nat) (s : State) {w : Nat} {forced : Bool}
    (hw : (s.arb.present (fun q => s.rd (R.ARB_CFG_WAITLIM q)) l).winner (fun q => s.rd (R.ARB_CFG_WAITLIM q))
      (fun q => s.rd (R.ARB_CFG_PRIO q)) l = some (w, forced)) :
    exec (.dramSlotDecision t l) s =
      .next (if forced then (s.slotGranted t l w).bump (R.ARB_STAT_FORCED w) 0xFFFF else s.slotGranted t l w) := by
  have hrd : ∀ k, (s.begin t).rd k = s.rd k := fun _ => rfl
  simp only [exec, execDramSlotDecision, begin_arb, hrd, hw, Option.map_some]
  cases forced <;> rfl

theorem slotGranted_regs (s : State) (t : Nat) (l : List Nat) (w : Nat) :
    RegsExact (l.map (fun q => R.ARB_STAT_WAITMAX q)) s (s.slotGranted t l w) :=
  RegsExact.trans (t := { s.begin t with
      arb := (s.arb.present (fun q => s.rd (R.ARB_CFG_WAITLIM q)) l).grant (some w) }) (RegsExact.of_reg rfl) <|
    RegsExact.foldl (fun _ hq u => RegsExact.raise' _ _ (List.mem_map_of_mem hq) (RegsExact.rfl' _ u)) _

theorem slotGranted_arb (s : State) (t : Nat) (l : List Nat) (w : Nat) : (s.slotGranted t l w).arb =
    (s.arb.present (fun q => s.rd (R.ARB_CFG_WAITLIM q)) l).grant (some w) :=
  foldl_arb (fun v _ => raise_arb v _ _) _ _

theorem bump_arb (s : State) (k m : Nat) : (s.bump k m).arb = s.arb := rfl

/-- Nobody at its limit: the owner of the slot gets it, the others wait one slot more. -/
theorem dramSlotDecision_owner {l : List Nat} {s : State} (hl : l.Nodup)
    (ho : s.arb.table.getD (s.arb.slot % s.arb.table.length) 999 ∈ l)
    (hlim : ∀ q ∈ l, (look s.arb.waits q).getD 0 + 1 < s.rd (R.ARB_CFG_WAITLIM q)) (t : Nat) :
    ∃ u, exec (.dramSlotDecision t l) s = .next u ∧ u.arb.slot = s.arb.slot + 1 ∧
      u.arb.parked = some (s.arb.table.getD (s.arb.slot % s.arb.table.length) 999) ∧
      (∀ q ∈ l, (look u.arb.waits q).getD 0 =
        if q = s.arb.table.getD (s.arb.slot % s.arb.table.length) 999 then 0 else (look s.arb.waits q).getD 0 + 1) ∧
      RegsExact (l.map (fun q => R.ARB_STAT_WAITMAX q)) s u := by
  obtain ⟨hslot, htable, -⟩ := ArbS.present_fixed s.arb (fun q => s.rd (R.ARB_CFG_WAITLIM q)) l
  have hwaits : ∀ q ∈ l, look (s.arb.present (fun q => s.rd (R.ARB_CFG_WAITLIM q)) l).waits q =
      some ((look s.arb.waits q).getD 0 + 1) := fun q hq => ArbS.present_waits_of_mem hl hq _ _
  have hwin := ArbS.winner_owner (prio := fun q => s.rd (R.ARB_CFG_PRIO q))
    (fun q hq => by rw [hwaits q hq]; exact hlim q hq) (by rw [htable, hslot]; exact ho)
  rw [htable, hslot] at hwin
  refine ⟨_, dramSlotDecision_exec t l s hwin, ?_, ?_, fun q hq => ?_, slotGranted_regs _ _ _ _⟩
  all_goals simp only [Bool.false_eq_true, if_false, slotGranted_arb, ArbS.grant]
  · rw [hslot]
  · rw [look_ins]
    by_cases hown : q = s.arb.table.getD (s.arb.slot % s.arb.table.length) 999
    · rw [if_pos hown.symm, if_pos hown]
      rfl
    · rw [if_neg (Ne.symm hown), if_neg hown, hwaits q hq]
      rfl

/-- A requester alone and at its limit is forced, and counted in FORCED (R85). -/
theorem dramSlotDecision_forced {q : Nat} {s : State} (hq : q ≤ 9)
    (hlim : s.rd (R.ARB_CFG_WAITLIM q) ≤ (look s.arb.waits q).getD 0 + 1) (t : Nat) :
    ∃ u, exec (.dramSlotDecision t [q]) s = .next u ∧ u.arb.parked = some q ∧ look u.arb.waits q = some 0 ∧
      u.rd (R.ARB_STAT_FORCED q) = satInc 0xFFFF (s.rd (R.ARB_STAT_FORCED q)) ∧
      RegsExact [R.ARB_STAT_WAITMAX q, R.ARB_STAT_FORCED q] s u := by
  have hwaits := ArbS.present_waits_of_mem (List.nodup_singleton q) (List.mem_singleton_self q) s.arb
    (fun q => s.rd (R.ARB_CFG_WAITLIM q))
  obtain ⟨w, hw, hwin, -⟩ := ArbS.winner_forced (prio := fun q => s.rd (R.ARB_CFG_PRIO q))
    (limit := fun q => s.rd (R.ARB_CFG_WAITLIM q)) ⟨q, List.mem_singleton_self q, by rw [hwaits]; exact hlim⟩
  obtain rfl := List.mem_singleton.mp hw
  have hregs := slotGranted_regs s t [w] w
  refine ⟨_, dramSlotDecision_exec t [w] s hwin, ?_, ?_, ?_, ?_⟩
  all_goals rw [if_pos rfl]
  · rw [bump_arb, slotGranted_arb]
    rfl
  · rw [bump_arb, slotGranted_arb]
    exact look_ins_same _ _ _
  · rw [rd_bump, if_pos rfl, hregs _ (by simp [R.ARB_STAT_FORCED, R.ARB_STAT_WAITMAX])]
  · exact RegsExact.bump' _ _ (by simp) fun k hk => hregs k fun h => hk (by simp_all)

/-! ### A live write of the arbiter's priorities (02 R87) -/

/-- PRIO is no function's field, and neither ENTRIES nor OVF of the amendment list. -/
theorem arbPrio_key {q : Nat} (hq : q ≤ 9) : R.ARB_CFG_PRIO q / 256 = 0x1020 + q ∧
    R.ARB_CFG_PRIO q ≠ R.HMP_LIST_ENTRIES ∧ R.ARB_CFG_PRIO q ≠ R.HMP_LIST_OVF := by
  simp only [R.ARB_CFG_PRIO, R.HMP_LIST_ENTRIES, R.HMP_LIST_OVF]
  omega

/-- A live write outside the functions' own records: the field shows the value, and the list notes the write or, with
no room for it, its overflow (14 R486). -/
theorem liveApply_outside {key : Nat} (hfn : key / 256 < 0x3200 ∨ 0x34FF < key / 256)
    (hentries : key ≠ R.HMP_LIST_ENTRIES) (hovf : key ≠ R.HMP_LIST_OVF) (s : State) (v : Nat) :
    (s.liveApply key v).rd key = v ∧
    (s.amendRoom key = true →
      ({ unit := s.role.unit, kind := 1, key, value := v } : AmendS) ∈ (s.liveApply key v).amend) ∧
    RegsExact [key, R.HMP_LIST_ENTRIES, R.HMP_LIST_OVF] s (s.liveApply key v) := by
  have hshow : (s.wr key v).showAmended key = s.wr key v := by
    simp only [State.showAmended]
    rw [if_neg (by omega)]
  have hwritten : RegsExact [key, R.HMP_LIST_ENTRIES, R.HMP_LIST_OVF] s (s.wr key v) :=
    RegsExact.wr _ _ (by simp) (RegsExact.rfl' _ _)
  unfold State.liveApply
  extract_lets room shown
  have hshown : shown = s.wr key v := hshow
  rw [hshown]
  split
  · refine ⟨?_, fun _ => mem_amendPut _ _ _ _ _, ?_⟩
    · exact (rd_wr_ne _ _ hentries.symm).trans (rd_wr_same s key v)
    · exact RegsExact.wr _ _ (by simp) (hwritten.trans (RegsExact.of_reg rfl))
  · next hroom =>
    refine ⟨?_, fun h => absurd h hroom, ?_⟩
    · exact (rd_wr_ne _ _ hovf.symm).trans (rd_wr_same s key v)
    · exact RegsExact.wr _ _ (by simp) hwritten

theorem Heard.amendRoom {n : Nat} {s v : State} (h : Heard n s v) (key : Nat) : v.amendRoom key = s.amendRoom key := by
  simp only [State.amendRoom, State.amended, h.amend, h.role]

/-- A write of PRIO in its turn is a live write, in range to 15 (R87). -/
theorem dramPrioWrite_next {s : State} {n q : Nat} (hq : q ≤ 9) (hn : n ≠ 0)
    (hopen : s.ses.open_.any (fun p => p.2.num = n) = true) (hturn : s.turn n (.live (R.ARB_CFG_PRIO q)) = true)
    (hmay : s.mayLive n (R.ARB_CFG_PRIO q) = true) (hserved : s.served = true) (t v : Nat) :
    ∃ u, exec (.dramPrioWrite t n q v) s = .next u ∧
      (v ≤ 15 → u.rd (R.ARB_CFG_PRIO q) = v ∧ Sent u (.session n) Res.OK [] ∧
        (s.amendRoom (R.ARB_CFG_PRIO q) = true →
          ({ unit := s.role.unit, kind := 1, key := R.ARB_CFG_PRIO q, value := v } : AmendS) ∈ u.amend) ∧
        RegsExact [R.ARB_CFG_PRIO q, R.HMP_LIST_ENTRIES, R.HMP_LIST_OVF] s u) ∧
      (15 < v → Sent u (.session n) Res.VALUE [] ∧ u.amend = s.amend ∧ RegsExact [] s u) ∧
      u.ses.gate = dropReq n (.live (R.ARB_CFG_PRIO q)) s.ses.gate := by
  obtain ⟨x, hx, hses, hact⟩ := gated_inTurn hn hturn t
    (fun x => x.liveWrite n (R.ARB_CFG_PRIO q) v (v ≤ 15))
  obtain ⟨hobj, hentries, hovf⟩ := arbPrio_key hq
  have hmay' : x.mayLive n (R.ARB_CFG_PRIO q) = true := (hx.mayLive _).trans hmay
  have hserved' : x.served = true := hx.served.trans hserved
  have hopen' : x.ses.open_.any (fun p => p.2.num = n) = true := by rw [hses]; exact hopen
  refine ⟨_, congrArg Host.Outcome.next hact, fun hv => ?_, fun hv => ?_, ?_⟩
  · obtain ⟨hrd, hamend, hregs⟩ := liveApply_outside (by omega) hentries hovf x v
    rw [decide_eq_true hv, liveWrite_applied hmay' hserved']
    refine ⟨(rd_reply _ _ _ _ _).trans hrd, reply_sent _ _ _ _ hn (by rw [liveApply_ses]; exact hopen'),
      fun hroom => ?_, RegsExact.reply' _ _ _ ((hx.regsExact _).trans hregs)⟩
    rw [(State.reply_follows ..).frame .amend (by decide), ← hx.role]
    exact hamend ((hx.amendRoom _).trans hroom)
  · rw [decide_eq_false (Nat.not_le.mpr hv), liveWrite_value hmay' hserved']
    refine ⟨reply_sent _ _ _ _ hn hopen', ?_, RegsExact.reply' _ _ _ (hx.regsExact _)⟩
    rw [(State.reply_follows ..).frame .amend (by decide), hx.amend]
  · have hgate : (x.liveWrite n (R.ARB_CFG_PRIO q) v (v ≤ 15)).ses = x.ses := by
      by_cases hv : v ≤ 15
      · rw [decide_eq_true hv, liveWrite_applied hmay' hserved', (State.reply_follows ..).frame .ses (by decide),
          liveApply_ses]
      · rw [decide_eq_false hv, liveWrite_value hmay' hserved', (State.reply_follows ..).frame .ses (by decide)]
    rw [hgate, hses]

/-! ### A subscription to the events (02 R62) -/

/-- A session of another number is not touched. -/
theorem mem_setSession_other {s : State} {n : Nat} {p : Nat × SessionS} (hp : p ∈ s.ses.open_) (hother : p.2.num ≠ n)
    (f : SessionS → SessionS) : p ∈ (s.setSession n f).ses.open_ :=
  List.mem_map.mpr ⟨p, hp, by rw [if_neg hother]⟩

/-- Session `n` is subscribed to the events. -/
def State.subscribed (s : State) (n : Nat) : Prop := ∀ p ∈ s.ses.open_, p.2.num = n → p.2.events = true

theorem setSession_subscribed {s : State} {n : Nat} {f : SessionS → SessionS}
    (h : ∀ p ∈ s.ses.open_, p.2.num = n → (f p.2).events = true) : (s.setSession n f).subscribed n := by
  intro p hp
  obtain ⟨q, hq, rfl⟩ := List.mem_map.mp hp
  dsimp only
  split
  · next hn => exact fun _ => h q hq hn
  · next hn => exact fun k => absurd k hn

/-- Keeping a response for its repeat changes neither the number nor the subscription of a session. -/
theorem respond_subscribed {s : State} {n : Nat} (h : s.subscribed n) (m : MsgIn) (k : Nat) :
    (s.respond n m k).subscribed n := by
  refine setSession_subscribed fun p hp hnum => ?_
  split
  · exact h p hp hnum
  · exact h p hp hnum

/-- Session `n` asks for the events. -/
def SessionS.subscribe (x : SessionS) : SessionS := { x with events := true }

theorem eventSubscribe_exec {s : State} {n : Nat} {m : MsgIn} (h : Accepts s n 0x0011 m) (t : Nat) :
    exec (.eventSubscribe t n m) s = .next
      (((((s.begin t).touch n).setSession n SessionS.subscribe).reply n Res.OK).respond n m 0) :=
  congrArg Host.Outcome.next (h.onMessage t _)

theorem eventSubscribe_next {s : State} {n : Nat} {m : MsgIn} (h : Accepts s n 0x0011 m) (t : Nat) :
    ∃ u, exec (.eventSubscribe t n m) s = .next u ∧ u.subscribed n ∧
      (∀ p ∈ s.ses.open_, p.2.num ≠ n → p ∈ u.ses.open_) ∧ Sent u (.session n) Res.OK [] ∧ RegsExact [] s u := by
  have hv := heard_touch s t n
  have hses : ((((s.begin t).touch n).setSession n SessionS.subscribe).reply n Res.OK).ses =
      (((s.begin t).touch n).setSession n SessionS.subscribe).ses := (State.reply_follows ..).frame .ses (by decide)
  refine ⟨_, eventSubscribe_exec h t, respond_subscribed ?_ m 0, fun p hp hother => ?_,
    replied_sent h.other ?_ _ _ m, RegsExact.replied _ _ _ m ((hv.regsExact []).trans (RegsExact.of_reg rfl))⟩
  · intro p hp
    rw [hses] at hp
    exact setSession_subscribed (fun _ _ _ => rfl) p hp
  · refine mem_setSession_other ?_ hother _
    show p ∈ ((((s.begin t).touch n).setSession n SessionS.subscribe).reply n Res.OK).ses.open_
    rw [hses]
    exact mem_setSession_other (s := (s.begin t).touch n) (mem_setSession_other (s := s.begin t) hp hother _) hother _
  · rw [setSession_sessionNums _ _ (f := SessionS.subscribe) (fun _ => rfl), hv.nums]
    exact h.isOpen

/-! ### The statement -/

/-- The snapshot is taken once the fields that time moves are refreshed (02 R68). -/
theorem mirrorSnapshotRefresh_exec (t : Nat) (s : State) : exec (.mirrorSnapshotRefresh t) s =
    .next { (s.begin t).switchTimed.showLoads with
      mirror := { (s.begin t).switchTimed.showLoads.mirror with
        snapshot := (s.begin t).switchTimed.showLoads.reg.filter (fun e => controlKey e.1),
        snapAt := some (s.begin t).switchTimed.showLoads.now } } := rfl

theorem mirrorSnapshotRefresh_next (t : Nat) (s : State) :
    ∃ u, exec (.mirrorSnapshotRefresh t) s = .next u ∧
      u.mirror.snapshot = u.reg.filter (fun e => controlKey e.1) ∧ u.mirror.snapAt = some (max s.now t) ∧
      u.mirror.window = s.mirror.window ∧ RegsExact timedFields s u := by
  have hframe := switchTimed_showLoads_frame (s.begin t)
  have hregs : RegsExact timedFields s (s.begin t).switchTimed.showLoads :=
    ((RegsExact.of_reg (t := s.begin t) rfl).trans (switchTimed_regs _)).trans (showLoads_regs _)
  refine ⟨_, mirrorSnapshotRefresh_exec t s, ?_⟩
  generalize (s.begin t).switchTimed.showLoads = v at hframe hregs ⊢
  have hmirror : v.mirror = s.mirror := hframe .mirror (by decide)
  have hwindow : v.mirror.window = s.mirror.window := congrArg MirrorS.window hmirror
  have hnow : v.now = max s.now t := hframe .now (by decide)
  exact ⟨rfl, congrArg some hnow, hwindow, hregs.trans (RegsExact.of_reg rfl)⟩

/-- A scrub finds nothing, corrects and counts, or logs the uncorrectable error of the control partition (R82). -/
theorem sramScrub_next {s : State} {part ecc : Nat} (hroom : Room s) (hblock : ecc = 2 → regionBlock part = 0)
    (t offset : Nat) :
    ∃ u, exec (.sramScrub t part offset ecc none) s = .next u ∧
      (ecc = 2 → Logged s u 0x1031 [0, ((s.regionBase part + offset : Nat) : Int), (regionOwner part : Int)]) ∧
      (ecc = 1 → look u.ecc.corrected 0 = some ((look s.ecc.corrected 0).getD 0 + 1) ∧
        (s.mayLog 0x1030 0 1000000000 = true → Logged s u 0x1030 [0, ((s.regionBase part + offset : Nat) : Int)])) ∧
      (ecc ≠ 1 → u.ecc = s.ecc) ∧ RegsKept [] s u := by
  by_cases h2 : ecc = 2
  · subst h2
    have hexec := sramScrub_uncorrectable t part offset s
    rw [hblock rfl, restartBlock_none] at hexec
    refine ⟨_, hexec, fun _ => begin_log_logged hroom t _ _, nofun, fun _ => ?_, ?_⟩
    · exact (State.log_follows (s.begin t) _ _ _ _ _ _).frame .ecc (by decide)
    · exact RegsKept.log' _ _ _ _ _ _ (RegsKept.begin' t (RegsKept.rfl' _ _))
  by_cases h1 : ecc = 1
  · subst h1
    refine ⟨_, sramScrub_corrected t part offset s, nofun, fun _ => ⟨eccCorrected_count _ _ _, fun hlog => ?_⟩,
      fun h => absurd rfl h, eccCorrected_regs (RegsKept.begin' t (RegsKept.rfl' _ _)) _ _⟩
    exact eccCorrected_logged (s := s.begin t) hroom (begin_mayLog hlog t) _
  · exact ⟨_, sramScrub_clean h1 h2 t part offset s, fun h => absurd h h2, fun h => absurd h h1, fun _ => rfl,
      RegsKept.of_reg rfl⟩

/-- The side of the setpoint board as the writer gives it. -/
def publishedSide (x : SideIn) : Side :=
  { sps := x.sps, ffs := x.ffs, seq := x.seq, computed := x.computed, obsOk := x.obsOk, authHalf := x.authHalf,
    dstep := x.dstep }

/-- Settles O26: each clause is the lemma of its command, or of one way that command goes. -/
theorem boardMirrorAndMemoriesComplete : Obligations.BoardMirrorAndMemoriesComplete := by
  unfold Obligations.BoardMirrorAndMemoriesComplete
  refine ⟨?publish, ?gateRoom, ?gateFull, ?snapshot, ?held, ?late, ?relayed, ?release, ?protection, ?write, ?read,
    ?uncorrectable, ?restart, ?denied, ?scrub, ?scrubRestart, ?owner, ?forced, ?priority, ?subscribe⟩
  case publish =>
    intro t fn side s _
    obtain ⟨hindex, hpubs, hb, ha⟩ := publishSide_sides (s.begin t) fn (publishedSide side)
    exact ⟨_, rfl, hindex, hpubs, hb, ha, fun h => publishSide_regs_of_nil (s := s.begin t) h _,
      fun p hp => publishSide_misses (s := s.begin t) hp _, fun h => publishSide_quiet (s := s.begin t) h _,
      publishSide_regs (s.begin t) fn _⟩
  case gateRoom =>
    intro t n kind m s hn hframed hfresh hallowed hmay hdead hok hroom
    exact gateRequest_room ⟨hn, hframed, hfresh, hallowed⟩ hmay hdead hok hroom t
  case gateFull =>
    intro t n kind m s hn hframed hfresh hallowed hmay hdead hok hfull hroom
    exact gateRequest_full ⟨hn, hframed, hfresh, hallowed⟩ hmay hdead hok hfull hroom t
  case snapshot => exact mirrorSnapshotRefresh_next
  case held =>
    intro t ev s hstop hstart hunit hage hroom
    exact eventArrive_held hstop hstart hunit hage hroom t
  case late =>
    intro t ev s hstop hstart hunit hage hpast _
    exact eventArrive_late hstop hstart hunit hage hpast
  case relayed =>
    intro t ev s hworker hunit
    exact ⟨_, eventArrive_relayed hunit hworker, rfl, rfl, RegsExact.of_reg rfl⟩
  case release => exact eventRelease_next
  case protection =>
    intro t master entry rights s hroom
    exact protWrite_next hroom t master entry rights
  case write =>
    intro t master region offset ecc value s hmay hin hecc
    refine ⟨_, masterAccess_served hmay hin hecc t value, rfl, answer_sent _ _ _ _, fun h => ?_,
      RegsKept.answer' _ _ _ ((corrected_regs s t region offset ecc).trans (RegsKept.of_reg rfl))⟩
    subst h
    exact eccCorrected_count _ _ _
  case read =>
    intro t master region offset ecc value s hmay hin hecc
    exact ⟨_, masterAccess_served hmay hin hecc t value, corrected_mem _ _ _ _ _, answer_sent _ _ _ _,
      RegsKept.answer' _ _ _ (corrected_regs s t region offset ecc)⟩
  case uncorrectable =>
    intro t master region offset write value s hmay hin hblock hroom
    have hexec := masterAccess_uncorrectable hmay hin t value
    rw [hblock, restartBlock_none] at hexec
    refine ⟨_, hexec, ?_, answer_sent _ _ _ _, (begin_log_logged hroom t _ _).of_mirror rfl, ?_⟩
    · exact (State.log_follows (s.begin t) _ _ _ _ _ _).frame .mem (by decide)
    · exact RegsKept.answer' _ _ _ (RegsKept.log' _ _ _ _ _ _ (RegsKept.begin' t (RegsKept.rfl' _ _)))
  case restart =>
    intro t master region offset write value s hmay hin hblock hheld
    obtain ⟨hcount, hwaiting, hsync⟩ := restart_after_log hblock hheld t 0x1031
      [(memoryOf region : Int), ((s.regionBase region + offset : Nat) : Int), (regionOwner region : Int)]
    refine ⟨_, masterAccess_uncorrectable hmay hin t value, ?_, answer_sent _ _ _ _, hcount, hwaiting, hsync⟩
    exact ((State.restartBlock_follows _ _).frame .mem (by decide)).trans
      ((State.log_follows (s.begin t) _ _ _ _ _ _).frame .mem (by decide))
  case denied =>
    intro t master region offset ecc write value s hmay
    obtain ⟨v, hmem, hregs, hexec⟩ := masterAccess_denied hmay t offset ecc value
    obtain ⟨hlast, hcount⟩ := denyAccess_rd v master region write
    refine ⟨_, hexec, ?_, answer_sent _ _ _ _, hlast, ?_, denyAccess_regs hregs _ _ _⟩
    · exact ((State.denyAccess_follows _ _ _ _).frame .mem (by decide)).trans hmem
    · rw [hcount, hregs _ (by simp) (by decide)]
  case scrub =>
    intro t part offset ecc s hroom hblock
    exact sramScrub_next hroom hblock t offset
  case scrubRestart =>
    intro t part offset s hblock hheld
    exact ⟨_, sramScrub_uncorrectable t part offset s, restart_after_log hblock hheld t 0x1031 _⟩
  case owner =>
    intro t l s hl ho hlim
    exact dramSlotDecision_owner hl ho (fun q hq => (hlim q hq).2) t
  case forced =>
    intro t q s hq hlim
    exact dramSlotDecision_forced hq hlim t
  case priority =>
    intro t n q v s hq hn hopen hturn hmay hserved
    exact dramPrioWrite_next hq hn hopen hturn hmay hserved t v
  case subscribe =>
    intro t n m s hn hframed hfresh hallowed
    exact eventSubscribe_next ⟨hn, hframed, hfresh, hallowed⟩ t

end Sys2Proof.Machine
end

section
/-! PROOF. Chapter 15, modes (O52).
What the operations a transition runs through leave, then each command of the modes. -/
namespace Sys2Proof.Machine

/-! ### Keys dropped -/

theorem look_filter {α : Type} (l : List (Nat × α)) (p : Nat → Bool) (k : Nat) :
    look (l.filter (fun e => p e.1)) k = if p k then look l k else none := by
  induction l with
  | nil => simp [look]
  | cons x l ih =>
    rw [List.filter_cons]
    split
    · next hx =>
      rw [look, look]
      split
      · next hk => rw [if_pos (hk ▸ hx)]
      · exact ih
    · next hx =>
      rw [ih]
      split
      · next hk => rw [look, if_neg (fun h : x.1 = k => hx (h ▸ hk))]
      · rfl

theorem look_dropKeys {α : Type} (l : List (Nat × α)) (p : Nat → Bool) (k : Nat) :
    look (dropKeys l p) k = if p k then none else look l k := by
  rw [dropKeys, look_filter l (fun k => !p k)]
  cases p k <;> rfl

/-! ### An event in a full window (02 R73) -/

/-- An event in a full window makes room first. -/
theorem hold_window_le {s : State} (e : Event) (h : s.mirror.window.length ≤ 4096) :
    (s.hold e).mirror.window.length ≤ 4096 := by
  unfold State.hold
  extract_lets +onlyGivenNames _ v
  have hv : v.mirror.window.length ≤ 4096 := by
    unfold v
    split
    · exact h
    · split
      · rw [release_window]
        exact Nat.le_trans (windowWithout_length _ _) h
      · exact h
  clear_value v
  split
  · next hroom =>
    rw [raise_mirror]
    show (v.mirror.window ++ [e]).length ≤ 4096
    rw [List.length_append]
    exact hroom
  · exact hv

theorem release_arrivals (s : State) (e : Event) (late : Bool) :
    (s.release e late).mirror.arrivals = s.mirror.arrivals := by
  unfold State.release
  dsimp only
  rw [(State.noteFault_follows _ _).frame .mirror (by decide), (State.bbEvent_follows _ _).frame .mirror (by decide)]
  split <;> rfl

theorem hold_arrivals (s : State) (e : Event) : (s.hold e).mirror.arrivals = s.mirror.arrivals := by
  unfold State.hold
  extract_lets +onlyGivenNames _ v
  have hv : v.mirror.arrivals = s.mirror.arrivals := by
    unfold v
    split
    · rfl
    · split
      · exact release_arrivals _ _ _
      · rfl
  clear_value v
  split
  · rw [raise_mirror]
    exact hv
  · exact hv

/-- An event on time enters the window, in the place of the earliest when it is full. -/
theorem mem_hold {s : State} (e : Event) (h : s.mirror.window.length ≤ 4096) : e ∈ (s.hold e).mirror.window := by
  unfold State.hold
  extract_lets +onlyGivenNames _ v
  have hv : v.mirror.window.length < 4096 := by
    unfold v
    split
    · next hroom => exact hroom
    · next hfull =>
      have hlen : s.mirror.window.length = 4096 := Nat.le_antisymm h (Nat.not_lt.mp hfull)
      obtain ⟨x, hx⟩ := earliest_of_ne_nil (List.ne_nil_of_length_pos (l := s.mirror.window) (by omega))
      rw [hx]
      dsimp only
      rw [release_window]
      exact hlen ▸ windowWithout_length_lt (earliest_mem hx)
  clear_value v
  rw [if_pos hv, raise_mirror]
  exact List.mem_append_right _ (List.mem_singleton_self _)

theorem arrive_window_le {s : State} (e : Event) (h : s.mirror.window.length ≤ 4096) :
    (s.arrive e).mirror.window.length ≤ 4096 := by
  unfold State.arrive
  dsimp only
  split
  · rw [release_window]
    exact h
  · exact hold_window_le _ h

theorem arrive_arrivals (s : State) (e : Event) : (s.arrive e).mirror.arrivals = s.mirror.arrivals + 1 := by
  unfold State.arrive
  dsimp only
  split
  · exact release_arrivals _ _ _
  · exact hold_arrivals _ _

theorem mem_arrive {s : State} {e : Event} (hdue : s.now ≤ e.due) (h : s.mirror.window.length ≤ 4096) :
    { e with arrival := s.mirror.arrivals } ∈ (s.arrive e).mirror.window := by
  unfold State.arrive
  dsimp only
  rw [if_neg (Nat.not_lt.mpr hdue)]
  exact mem_hold _ h

theorem log_window_le {s : State} (code : Nat) (payload : List Int) (island : Nat) (esc fault : Bool)
    (input : Option Int) (h : s.mirror.window.length ≤ 4096) :
    (s.log code payload island esc fault input).mirror.window.length ≤ 4096 := by
  unfold State.log State.ownEvent
  dsimp only
  split
  · exact arrive_window_le (s := s.answer _ _ _) _ h
  · exact arrive_window_le _ h

theorem log_arrivals_succ (s : State) (code : Nat) (payload : List Int) (island : Nat) (esc fault : Bool)
    (input : Option Int) :
    (s.log code payload island esc fault input).mirror.arrivals = s.mirror.arrivals + 1 := by
  unfold State.log State.ownEvent
  dsimp only
  rw [arrive_arrivals]
  split <;> rfl

/-- A logged event stands in the window, full or not. -/
theorem logged_of_le {s u : State} (code : Nat) (payload : List Int) (island : Nat) (esc fault : Bool)
    (input : Option Int) (h : u.mirror.window.length ≤ 4096) (ha : s.mirror.arrivals ≤ u.mirror.arrivals) :
    Logged s (u.log code payload island esc fault input) code payload := by
  have hdue : ∀ d, d = u.now + 50000 → u.now ≤ d := by omega
  unfold State.log State.ownEvent
  dsimp only
  split
  · exact ⟨_, mem_arrive (s := u.answer _ _ _) (hdue _ rfl) h, rfl, rfl, ha⟩
  · exact ⟨_, mem_arrive (hdue _ rfl) h, rfl, rfl, ha⟩

/-! ### What the steps of a mode change leave

A transition runs through many operations of other chapters. `Quiet` says of all of them at once what they leave: the
registers a transition reads back, the state of modes and resets, that no function starts, that no answer is lost, and
that the reorder window stays within its 4,096. -/

/-- Registers no operation of another chapter writes while modes change: the reset's source and scope and the mode's own
fields, and PATH, UNIT and RUN_MODES of the functions. -/
abbrev Settled (k : Nat) : Prop :=
  (0xB100 ≤ k / 256 ∧ k / 256 ≤ 0xB200 ∧ k % 256 ≤ 3) ∨
    (0x3100 ≤ k / 256 ∧ k / 256 < 0x3130 ∧ (k % 256 = 5 ∨ k % 256 = 6 ∨ k % 256 = 10))

theorem Settled.not_stream {k : Nat} (h : Settled k) : k ∉ streamRegs := by
  have hstream : ∀ x ∈ streamRegs, ¬Settled x := by decide
  exact fun hk => hstream k hk h

/-- The parts of the state that `Quiet` speaks of. -/
def State.view (s : State) : List (Nat × Nat) × MirrorS × List (Nat × FnS) × List Answer × Nat × ModeS × RoleS × RstS ×
    List GateReq :=
  (s.reg, s.mirror, s.fn, s.answers, s.now, s.md, s.role, s.rst, s.ses.gate)

structure Quiet (s u : State) : Prop where
  rd : ∀ k, Settled k → u.rd k = s.rd k
  window : s.mirror.window.length ≤ 4096 → u.mirror.window.length ≤ 4096
  arrivals : s.mirror.arrivals ≤ u.mirror.arrivals
  stopped : ∀ f, (s.fnS f).running = false → (u.fnS f).running = false
  sent : ∀ d c l, Sent s d c l → Sent u d c l
  now : u.now = s.now
  md : u.md = s.md
  role : u.role = s.role
  rst : u.rst = s.rst
  gate : u.ses.gate = s.ses.gate

namespace Quiet

variable {s t u : State}

theorem refl (s : State) : Quiet s s :=
  ⟨fun _ _ => rfl, id, Nat.le_refl _, fun _ => id, fun _ _ _ => id, rfl, rfl, rfl, rfl, rfl⟩

theorem trans (h : Quiet s t) (k : Quiet t u) : Quiet s u where
  rd x hx := (k.rd x hx).trans (h.rd x hx)
  window hw := k.window (h.window hw)
  arrivals := Nat.le_trans h.arrivals k.arrivals
  stopped f hf := k.stopped f (h.stopped f hf)
  sent d c l hs := k.sent d c l (h.sent d c l hs)
  now := k.now.trans h.now
  md := k.md.trans h.md
  role := k.role.trans h.role
  rst := k.rst.trans h.rst
  gate := k.gate.trans h.gate

/-- Writing other parts of the state. -/
theorem parts (h : Quiet s t) (hv : u.view = t.view) : Quiet s u := by
  simp only [State.view, Prod.mk.injEq] at hv
  obtain ⟨hreg, hmirror, hfn, hans, hnow, hmd, hrole, hrst, hgate⟩ := hv
  refine h.trans ⟨fun k _ => rd_of_reg hreg k, ?_, ?_, fun f hf => ?_, fun _ _ _ hs => hs.of_answers hans, hnow, hmd,
    hrole, hrst, hgate⟩
  · rw [hmirror]
    exact id
  · rw [hmirror]
  · rw [fnS_of_fn hfn]
    exact hf

/-- A register written that is not settled. -/
theorem wr {k : Nat} (v : Nat) (hk : ¬Settled k) (h : Quiet s u) : Quiet s (u.wr k v) := by
  refine h.trans ⟨fun x hx => rd_wr_ne u v ?_, id, Nat.le_refl _, fun _ => id, fun _ _ _ hs => hs.of_answers rfl, rfl,
    rfl, rfl, rfl, rfl⟩
  rintro rfl
  exact hk hx

/-- Registers written, given by their keys `ks`, none of them settled. -/
theorem wrs {l : List (Nat × Nat)} (ks : List Nat) (hl : l.map Prod.fst = ks) (hk : ∀ k ∈ ks, ¬Settled k)
    (h : Quiet s u) : Quiet s (u.wrs l) := by
  induction l generalizing u ks with
  | nil => exact h
  | cons x l ih =>
    subst hl
    exact ih _ rfl (fun k hk' => hk k (List.mem_cons_of_mem _ hk')) (wr _ (hk x.1 List.mem_cons_self) h)

theorem bump {k : Nat} (m : Nat) (hk : ¬Settled k) (h : Quiet s u) : Quiet s (u.bump k m) := wr _ hk h

theorem raise {k : Nat} (v : Nat) (hk : ¬Settled k) (h : Quiet s u) : Quiet s (u.raise k v) := by
  unfold State.raise
  split
  · exact wr _ hk h
  · exact h

/-- A function's record written that starts it no more. -/
theorem setFn {f : Nat} {v : FnS} (hv : (u.fnS f).running = false → v.running = false) (h : Quiet s u) :
    Quiet s (u.setFn f v) := by
  refine h.trans ⟨fun _ _ => rfl, id, Nat.le_refl _, fun g hg => ?_, fun _ _ _ hs => hs.of_answers rfl, rfl, rfl, rfl,
    rfl, rfl⟩
  by_cases hfg : f = g
  · subst hfg
    rw [fnS_setFn_same]
    exact hv hg
  · rw [fnS_setFn_ne u v hfg]
    exact hg

theorem answer (d : Dest) (c : Nat) (l : List Int) (h : Quiet s u) : Quiet s (u.answer d c l) :=
  h.trans ⟨fun _ _ => rfl, id, Nat.le_refl _, fun _ => id, fun _ _ _ hs => hs.answer _ _ _, rfl, rfl, rfl, rfl, rfl⟩

theorem reply (n c : Nat) (l : List Int) (h : Quiet s u) : Quiet s (u.reply n c l) := by
  unfold State.reply
  split
  · exact h
  · split
    · exact answer _ _ _ h
    · exact h

theorem foldl {α : Type} {f : State → α → State} {xs : List α} (hf : ∀ x ∈ xs, ∀ v, Quiet v (f v x)) (h : Quiet s u) :
    Quiet s (xs.foldl f u) := by
  induction xs generalizing u with
  | nil => exact h
  | cons x xs ih =>
    exact ih (fun y hy => hf y (List.mem_cons_of_mem _ hy)) (h.trans (hf x List.mem_cons_self u))

theorem clearRegs {p : Nat → Bool} (hp : ∀ k, Settled k → p k = false) (h : Quiet s u) : Quiet s (u.clearRegs p) := by
  refine h.trans ⟨fun k hk => ?_, id, Nat.le_refl _, fun _ => id, fun _ _ _ hs => hs.of_answers rfl, rfl, rfl, rfl,
    rfl, rfl⟩
  simp only [State.rd, State.clearRegs, look_dropKeys, hp k hk, Bool.false_eq_true, if_false]

end Quiet

namespace Quiet

variable {s t u : State}

theorem log (code : Nat) (payload : List Int) (island : Nat) (esc fault : Bool) (input : Option Int)
    (h : Quiet s u) : Quiet s (u.log code payload island esc fault input) := by
  have hframe := (State.log_follows u code payload island esc fault input).frame
  refine h.trans ⟨fun k hk => log_rd _ _ _ _ _ _ _ _ hk.not_stream, log_window_le _ _ _ _ _ _, ?_, fun f hf => ?_,
    fun _ _ _ hs => hs.log _ _ _ _ _ _, hframe .now (by decide), hframe .md (by decide), hframe .role (by decide),
    hframe .rst (by decide), log_gate _ _ _ _ _ _ _⟩
  · rw [log_arrivals_succ]
    exact Nat.le_succ _
  · rw [fnS_of_fn (hframe .fn (by decide))]
    exact hf

/-- Noting when an event was last logged moves neither the window nor the arrivals. -/
theorem heldOff (m : MirrorS) (hw : m.window = u.mirror.window) (ha : m.arrivals = u.mirror.arrivals)
    (h : Quiet s u) : Quiet s { u with mirror := m } := by
  refine h.trans ⟨fun _ _ => rfl, ?_, Nat.le_of_eq ha.symm, fun _ => id, fun _ _ _ hs => hs.of_answers rfl, rfl,
    rfl, rfl, rfl, rfl⟩
  show _ → m.window.length ≤ 4096
  rw [hw]
  exact id

theorem logOnce (code scope period : Nat) (payload : List Int) (island : Nat) (fault : Bool) (h : Quiet s u) :
    Quiet s (u.logOnce code scope period payload island fault) := by
  unfold State.logOnce
  split
  · exact log _ _ _ _ _ _ (heldOff _ rfl rfl h)
  · exact h

theorem pdLog (code : Nat) (payload : List Int) (fault : Bool) (h : Quiet s u) :
    Quiet s (u.pdLog code payload fault) := by
  unfold State.pdLog
  split
  · dsimp only
    split
    · exact parts h rfl
    · exact parts h rfl
  · exact log _ _ _ _ _ _ h

end Quiet

/-! ### The operations of a transition's start -/

namespace Quiet

variable {s u : State}

theorem unsettled {o f : Nat} (hf : f < 256) (hhigh : 3 < f ∨ o < 0xB100 ∨ 0xB200 < o)
    (hfn : f ≠ 5 ∧ f ≠ 6 ∧ f ≠ 10 ∨ 0x3130 ≤ o) : ¬Settled (o * 256 + f) := by
  unfold Settled
  omega

theorem ite {c : Prop} [Decidable c] {a b : State} (ha : c → Quiet s a) (hb : ¬c → Quiet s b) :
    Quiet s (if c then a else b) := by
  split
  · next h => exact ha h
  · next h => exact hb h

theorem depthNow (h : Quiet s u) : Quiet s u.depthNow := raise _ (by decide) (wr _ (by decide) h)

theorem cancelWhere (p : SlotS → Bool) (h : Quiet s u) : Quiet s (u.cancelWhere p) := depthNow (parts h rfl)

theorem cancelOnMode (target : Nat) (h : Quiet s u) : Quiet s (u.cancelOnMode target) := by
  unfold State.cancelOnMode
  dsimp only
  exact ite (fun _ => log _ _ _ _ _ _ (cancelWhere _ h)) fun _ => cancelWhere _ h

theorem showCause (f : Nat) (h : Quiet s u) : Quiet s (u.showCause f) :=
  wr _ (unsettled (by decide) (by omega) (by omega)) h

theorem noteCmd (f : Nat) (x : Rat) (h : Quiet s u) : Quiet s (u.noteCmd f x) := setFn id h

theorem order (f src : Nat) (data : List Int) (h : Quiet s u) : Quiet s (u.order f src data) := by
  unfold State.order
  dsimp only
  split
  · exact answer _ _ _ h
  · exact answer _ _ _ h
  · exact h

theorem orderStopped (f : Nat) (h : Quiet s u) : Quiet s (u.orderStopped f) := order _ _ _ (noteCmd _ _ h)

theorem abortTune (l result : Nat) (h : Quiet s u) : Quiet s (u.abortTune l result) := by
  unfold State.abortTune
  split
  · exact h
  · exact ite (fun _ => h) fun _ => log _ _ _ _ _ _ (parts h rfl)

theorem abortTunes (f : Nat) (h : Quiet s u) : Quiet s (u.abortTunes f) :=
  foldl (fun _ _ v => abortTune _ _ (refl v)) h

theorem openLoops (f cause : Nat) (h : Quiet s u) : Quiet s (u.openLoops f cause) := by
  refine foldl (fun l _ v => ?_) h
  dsimp only
  refine wr _ (unsettled (by decide) (by omega) (by omega)) (parts (abortTune _ _ (refl v)) rfl)

theorem disengage (reason : Nat) (input : Option Int) (h : Quiet s u) : Quiet s (u.disengage reason input) := by
  unfold State.disengage
  extract_lets to_ shown _ noTurn logged
  have hlogged : Quiet s logged :=
    log _ _ _ _ _ _ (parts (wrs [R.GD_STAT_STATE, R.GD_STAT_REASON] rfl (by decide) h) rfl)
  exact ite (fun _ => h) fun _ => ite (fun _ => hlogged) fun _ => answer _ _ _ hlogged

/-- A stop starts no function (05 R200). -/
theorem stopFn (f cause : Nat) (input : Option Int) (h : Quiet s u) : Quiet s (u.stopFn f cause input) := by
  unfold State.stopFn
  extract_lets v noted w stopped shown cancelled logged
  have hnoted : Quiet s noted := setFn id h
  have hshown : Quiet s shown := by
    refine wrs [R.FN_STAT_STATE f, R.FN_STAT_FF_ON f] rfl ?_ (showCause _ (setFn (fun _ => rfl) hnoted))
    simp only [List.forall_mem_cons, R.FN_STAT_STATE, R.FN_STAT_FF_ON]
    exact ⟨unsettled (by decide) (by omega) (by omega), unsettled (by decide) (by omega) (by omega), nofun⟩
  have hlogged : Quiet s logged :=
    log _ _ _ _ _ _ (openLoops _ _ (orderStopped _ (cancelWhere _ (bump _ (unsettled (by decide) (by omega)
      (by omega)) hshown))))
  exact ite (fun _ => h) fun _ => ite (fun _ => showCause _ hnoted) fun _ =>
    ite (fun _ => disengage _ _ hlogged) fun _ => hlogged

/-! A shot inserted for the optimiser, which may fire at once (03 R124, 06 R236). -/

theorem setSlot (n : Nat) (e : SlotS) (h : Quiet s u) : Quiet s (u.setSlot n e) := depthNow (parts h rfl)

theorem setIdx (f i : Nat) (v : IdxS) (h : Quiet s u) : Quiet s (u.setIdx f i v) := setFn id h

theorem setCan (ch : Nat) (c : CanS) (h : Quiet s u) : Quiet s (u.setCan ch c) :=
  wr _ (unsettled (by decide) (by omega) (by omega)) (parts h rfl)

theorem enterFifo (ch : Nat) (f : FrameS) (h : Quiet s u) : Quiet s (u.enterFifo ch f) := by
  unfold State.enterFifo
  dsimp only
  refine ite (fun _ => h) fun _ => ite (fun _ => ?_) fun _ => setCan _ _ h
  exact logOnce _ _ _ _ _ _ (bump _ (unsettled (by decide) (by omega) (by omega)) h)

theorem fireAction (e : SlotS) (h : Quiet s u) : Quiet s (u.fireAction e) := by
  unfold State.fireAction
  dsimp only
  split
  · exact setIdx _ _ _ h
  · exact answer _ _ _ (parts h rfl)
  · exact answer _ _ _ h
  · exact enterFifo _ _ h
  · exact log _ _ _ _ _ _ h
  · exact h

theorem lateLaunch (n : Nat) (h : Quiet s u) : Quiet s (u.lateLaunch n) :=
  logOnce _ _ _ _ _ _ (bump _ (by decide) h)

theorem fireOne (n : Nat) (late : Bool) (h : Quiet s u) : Quiet s (u.fireOne n late) := by
  unfold State.fireOne
  extract_lets e fired noted
  have hnoted : Quiet s noted := ite (fun _ => lateLaunch _ (setSlot _ _ h)) fun _ => setSlot _ _ h
  exact ite (fun _ => fireAction _ hnoted) fun _ =>
    ite (fun _ => bump _ (unsettled (by decide) (by omega) (by omega)) hnoted) fun _ => hnoted

theorem fireSlot (n : Nat) (late : Bool) (h : Quiet s u) : Quiet s (u.fireSlot n late) :=
  fireOne _ _ (foldl (fun _ _ v => fireOne _ _ (refl v)) h)

theorem acceptEntry (session : Nat) (e : EntryIn) (h : Quiet s u) : Quiet s (u.acceptEntry session e) := by
  unfold State.acceptEntry
  extract_lets n old gen x _ counted entered
  have hentered : Quiet s entered := reply _ _ _ (setSlot _ _ (parts h rfl))
  exact ite (fun _ => fireSlot _ _ hentered) fun _ => hentered

theorem lnNote (code scope hold : Nat) (payload : List Int) (h : Quiet s u) :
    Quiet s (u.lnNote code scope hold payload) := logOnce _ _ _ _ _ _ (bump _ (by decide) h)

theorem lnRefuse (session code : Nat) (payload : List Int) (h : Quiet s u) :
    Quiet s (u.lnRefuse session code payload) :=
  reply _ _ _ (ite (fun _ => lnNote _ _ _ _ h) fun _ => lnNote _ _ _ _ h)

theorem insertEntry (session unit : Nat) (entry : EntryIn) (remote : Nat × List Int) (h : Quiet s u) :
    Quiet s (u.insertEntry session unit entry remote) := by
  unfold State.insertEntry
  refine ite (fun _ => lnRefuse _ _ _ h) fun _ => ite (fun _ => reply _ _ _ (answer _ _ _ h)) fun _ => ?_
  split
  · exact lnRefuse _ _ _ h
  · exact acceptEntry _ _ h

theorem insertShots (l : List (Nat × Nat × Int)) (h : Quiet s u) : Quiet s (u.insertShots l) := by
  refine foldl (fun x _ v => ?_) h
  dsimp only
  split
  · exact ite (fun _ => insertEntry _ _ _ _ (refl v)) fun _ => refl v
  · exact refl v

/-! The optimiser stopped (06 R250). -/

theorem reclamp (h : Quiet s u) : Quiet s u.reclamp := by
  refine foldl (fun f _ v => ite (fun _ => foldl (fun i _ w => ?_) (refl v)) fun _ => refl v) h
  split
  · exact setIdx _ _ _ (refl w)
  · exact refl w

theorem showOpt (h : Quiet s u) : Quiet s u.showOpt :=
  wrs [R.FN_OPT_STAT_STATE, R.FN_OPT_STAT_AUTH] rfl (by decide) h

theorem dstepClamp (h : Quiet s u) : Quiet s u.dstepClamp :=
  ite (fun _ => showOpt h) fun _ => showOpt (parts (insertShots _ (reclamp h)) rfl)

theorem setDstep (new cause k : Nat) (h : Quiet s u) : Quiet s (u.setDstep new cause k) := by
  unfold State.setDstep
  extract_lets old shown logged _ _
  have hshown : Quiet s shown := wrs [R.OBS_STAT_DSTEP, R.OBS_STAT_CAUSE] rfl (by decide) h
  have hlogged : Quiet s logged := log _ _ _ _ _ _ hshown
  refine ite (fun _ => hshown) fun _ => dstepClamp (ite (fun _ => log _ _ _ _ _ _ (parts hlogged rfl)) fun _ => ?_)
  exact ite (fun _ => log _ _ _ _ _ _ hlogged) fun _ => hlogged

theorem obsStop (cause : Nat) (h : Quiet s u) : Quiet s (u.obsStop cause) := by
  unfold State.obsStop
  dsimp only
  exact showOpt (setDstep _ _ _ (wrs [R.OBS_STAT_RUN, R.OBS_STAT_WARMING, R.OBS_STAT_WARM_LEFT] rfl (by decide)
    (parts h rfl)))

theorem guidanceMode (m : Nat) (h : Quiet s u) : Quiet s (u.guidanceMode m) :=
  ite (fun _ => h) fun _ => wr _ (by decide) (disengage _ _ h)

end Quiet

/-! ### A transition's start (15 R507, R508) -/

theorem settled_fn {f sub : Nat} (hf : f < 48) (hsub : sub = 5 ∨ sub = 6 ∨ sub = 10) :
    Settled ((0x3100 + f) * 256 + sub) := by
  unfold Settled
  omega

namespace Quiet

variable {s u : State} (h : Quiet s u)
include h

theorem fnMine {f : Nat} (hf : f < 48) : u.fnMine f = s.fnMine f := by
  have hpath := h.rd _ (settled_fn hf (.inl rfl))
  have hunit := h.rd _ (settled_fn hf (.inr (.inl rfl)))
  simp only [State.fnMine, State.fnUsed, hpath, hunit, h.role]

theorem runsIn {f : Nat} (hf : f < 48) (m : Nat) : u.runsIn f m = s.runsIn f m := by
  simp only [State.runsIn, h.rd _ (settled_fn hf (.inr (.inr rfl)))]

theorem mode : u.mode = s.mode := h.rd _ (by decide)

theorem isWorker : u.isWorker = s.isWorker := by simp only [State.isWorker, h.role]

end Quiet

/-- A function that stops is stopped (05 R200). -/
theorem stopFn_stopped {s : State} {f : Nat} (hmine : s.fnMine f = true) (cause : Nat) (input : Option Int) :
    ((s.stopFn f cause input).fnS f).running = false := by
  unfold State.stopFn
  extract_lets v noted w stopped shown cancelled logged
  have hstopped : (stopped.fnS f).running = false := by
    rw [fnS_setFn_same]
  have hlogged : Quiet stopped logged := by
    refine .log _ _ _ _ _ _ (.openLoops _ _ (.orderStopped _ (.cancelWhere _ (.bump _ (Quiet.unsettled (by decide)
      (by omega) (by omega)) (.wrs [R.FN_STAT_STATE f, R.FN_STAT_FF_ON f] rfl ?_ (.showCause _ (.refl _)))))))
    simp only [List.forall_mem_cons, R.FN_STAT_STATE, R.FN_STAT_FF_ON]
    exact ⟨Quiet.unsettled (by decide) (by omega) (by omega), Quiet.unsettled (by decide) (by omega) (by omega), nofun⟩
  rw [hmine, if_neg (by decide)]
  split
  · next hrun =>
    refine (Quiet.showCause f (.refl noted)).stopped f ?_
    rw [fnS_setFn_same]
    show v.running = false
    simpa using hrun
  · split
    · exact (hlogged.trans (.disengage _ _ (.refl _))).stopped f hstopped
    · exact hlogged.stopped f hstopped

/-- What a transition to `target` does of one function: it stops, or its tuning does (R508). -/
def State.leaveMode (target : Nat) (s : State) (f : Nat) : State :=
  if !s.fnMine f then s else if s.runsIn f target then s.abortTunes f else s.stopFn f 2

theorem Quiet.leaveMode {s u : State} (target f : Nat) (h : Quiet s u) : Quiet s (u.leaveMode target f) :=
  ite (fun _ => h) fun _ => ite (fun _ => abortTunes _ h) fun _ => stopFn _ _ _ h

theorem foldl_leaveMode_stopped {target f : Nat} {l : List Nat} (hl : ∀ g ∈ l, g < 48) (hf : f ∈ l) {s : State}
    (hmine : s.fnMine f = true) (hruns : s.runsIn f target = false) :
    ((l.foldl (State.leaveMode target) s).fnS f).running = false := by
  induction l generalizing s with
  | nil => exact absurd hf List.not_mem_nil
  | cons g l ih =>
    have hrest : Quiet (s.leaveMode target g) (l.foldl (State.leaveMode target) (s.leaveMode target g)) :=
      .foldl (fun x _ v => .leaveMode target x (.refl v)) (.refl _)
    rcases List.mem_cons.mp hf with rfl | hf
    · refine hrest.stopped f ?_
      unfold State.leaveMode
      rw [hmine, hruns]
      exact stopFn_stopped hmine 2 none
    · have hlt := hl f (List.mem_cons_of_mem _ hf)
      have hstep : Quiet s (s.leaveMode target g) := .leaveMode target g (.refl s)
      exact ih (fun x hx => hl x (List.mem_cons_of_mem _ hx)) hf ((hstep.fnMine hlt).trans hmine)
        ((hstep.runsIn hlt target).trans hruns)

/-- `u` is `s` in the transition to `target` that has just begun. -/
structure Begun (s : State) (target : Nat) (u : State) : Prop where
  md : u.md = { s.md with
    trans := some { target, source := s.mode, t0 := s.now }
    wanted := s.md.wanted && target ≠ Mode.SAFE_STOP }
  shown : u.rd R.MODE_STAT_TRANS = 1
  mode : u.mode = s.mode
  stopped : ∀ f ∈ List.range 48, s.fnMine f = true → s.runsIn f target = false → (u.fnS f).running = false
  sent : ∀ d c l, Sent s d c l → Sent u d c l
  told : s.isWorker = false → Sent u (.trunk 0) 0x53 [(target : Int)]
  gate : u.ses.gate = s.ses.gate

theorem look_map {α : Type} (l : List (Nat × α)) (f : α → α) (k : Nat) :
    look (l.map (fun q => (q.1, f q.2))) k = (look l k).map f := by
  induction l with
  | nil => rfl
  | cons x l ih =>
    rw [List.map_cons, look, look]
    split
    · rfl
    · exact ih

/-- Ending the operators' overrides starts no function (05 R209). -/
theorem Quiet.endOver {s u : State} (h : Quiet s u) :
    Quiet s { u with fn := u.fn.map (fun (q : Nat × FnS) => (q.1, Machine.endOver q.2)) } := by
  refine h.trans ⟨fun _ _ => rfl, id, Nat.le_refl _, fun f hf => ?_, fun _ _ _ hs => hs.of_answers rfl, rfl, rfl, rfl,
    rfl, rfl⟩
  rw [State.fnS, look_map]
  cases hlook : look u.fn f with
  | none => rfl
  | some v =>
    rw [State.fnS, hlook] at hf
    exact hf

/-- TRANS is no field of a function. -/
theorem rd_wr_trans (s : State) (v : Nat) {f sub : Nat} (hsub : sub = 5 ∨ sub = 6 ∨ sub = 10) :
    (s.wr R.MODE_STAT_TRANS v).rd ((0x3100 + f) * 256 + sub) = s.rd ((0x3100 + f) * 256 + sub) :=
  rd_wr_ne _ _ (by simp only [R.MODE_STAT_TRANS]; omega)

theorem fnMine_wr_trans (s : State) (v f : Nat) :
    (s.wr R.MODE_STAT_TRANS v).fnMine f = s.fnMine f := by
  simp only [State.fnMine, State.fnUsed, rd_wr_trans s v (.inl rfl), rd_wr_trans s v (.inr (.inl rfl))]
  rfl

theorem runsIn_wr_trans (s : State) (v f m : Nat) :
    (s.wr R.MODE_STAT_TRANS v).runsIn f m = s.runsIn f m := by
  simp only [State.runsIn, rd_wr_trans s v (.inr (.inr rfl))]

/-- What a transition's start leaves once MODE.STAT shows it: the functions left, the optimiser and guidance stopped. -/
theorem startTransition_begun (s : State) (target : Nat) : Begun s target (s.startTransition target) := by
  unfold State.startTransition
  extract_lets cancelled x md began shown left ended observed guided
  have hcancelled : Quiet s cancelled := .cancelOnMode target (.refl s)
  have hleft : Quiet shown left := .foldl (fun f _ v => .leaveMode target f (.refl v)) (.refl _)
  have hrest : Quiet left guided :=
    .guidanceMode target (.ite (fun _ => .obsStop _ (.endOver (.refl _))) fun _ => .endOver (.refl _))
  have hmd : shown.md = { s.md with
      trans := some { target, source := s.mode, t0 := s.now }
      wanted := s.md.wanted && target ≠ Mode.SAFE_STOP } := by
    have hbegan : shown.md = began.md := rfl
    rw [hbegan]
    simp only [began, x, md, hcancelled.md, hcancelled.mode, hcancelled.now]
  have hstopped : ∀ f ∈ List.range 48, s.fnMine f = true → s.runsIn f target = false →
      (guided.fnS f).running = false := by
    intro f hf hmine hruns
    have hlt := List.mem_range.mp hf
    refine hrest.stopped f (foldl_leaveMode_stopped (fun g => List.mem_range.mp) hf ?_ ?_)
    · exact (fnMine_wr_trans began 1 f).trans ((hcancelled.fnMine hlt).trans hmine)
    · exact (runsIn_wr_trans began 1 f target).trans ((hcancelled.runsIn hlt target).trans hruns)
  have hbegun : ∀ u, Quiet guided u → (s.isWorker = false → Sent u (.trunk 0) 0x53 [(target : Int)]) →
      Begun s target u := by
    intro u hu htold
    have hshown : Quiet shown u := (hleft.trans hrest).trans hu
    refine ⟨hshown.md.trans hmd, (hshown.rd _ (by decide)).trans (rd_wr_same _ _ _), ?_, fun f hf hmine hruns =>
      hu.stopped f (hstopped f hf hmine hruns), fun d c l hs => hshown.sent d c l ((hcancelled.sent d c l hs).of_answers
        rfl), htold, hshown.gate.trans hcancelled.gate⟩
    exact hshown.mode.trans ((rd_wr_ne began 1 (by decide)).trans hcancelled.mode)
  split
  · next hworker =>
    refine hbegun _ (.refl _) fun h => ?_
    have hsame : guided.isWorker = s.isWorker :=
      (hleft.trans hrest).isWorker.trans (hcancelled.isWorker)
    rw [hsame, h] at hworker
    exact absurd hworker (by decide)
  · exact hbegun _ (.answer _ _ _ (.refl _)) fun _ => answer_sent _ _ _ _

/-! ### A mode requested (15 R506 to R508) -/

/-- A request within Table 15.8, with its class and its conditions, starts the transition. -/
theorem judgeMode_accepted {s : State} {n m c : Nat} (hworker : s.isWorker = false) (hsize : s.hmp.sizeHeld = false)
    (hupd : s.rd R.UPD_STAT_STATE ≠ 5) (hclass : modeClass s.mode m = some c) (hmay : s.classAtLeast n c = true)
    (hcauses : s.rd R.MODE_STAT_CAUSES = 0 ∨ m = Mode.SAFE_STOP)
    (hservice : s.mode ≠ Mode.SERVICE ∨ s.rd R.HMP_STAT_WRITING ≠ 1)
    (hwalk : m ≠ Mode.WALK_HOME ∨ s.rd R.WH_STAT_EN = 1) (hharvest : m ≠ Mode.HARVEST ∨ s.notRunning = none) :
    s.judgeMode n m = (s.reply n Res.OK).startTransition m := by
  have hcauses' : ¬(s.rd R.MODE_STAT_CAUSES ≠ 0 ∧ m ≠ Mode.SAFE_STOP) := by tauto
  have hservice' : ¬(s.mode = Mode.SERVICE ∧ s.flag R.HMP_STAT_WRITING = true) := by
    simp only [State.flag, decide_eq_true_eq]
    tauto
  have hwalk' : ¬(m = Mode.WALK_HOME ∧ (!s.flag R.WH_STAT_EN) = true) := by
    simp only [State.flag, Bool.not_eq_true', decide_eq_false_iff_not]
    tauto
  have hrunning : (if m = Mode.HARVEST then s.notRunning else none) = none := by
    split
    · next h => exact hharvest.resolve_left (fun k => k h)
    · rfl
  unfold State.judgeMode
  rw [hworker, hsize, decide_eq_false hupd, if_neg (by decide), hclass]
  dsimp only
  rw [hmay, if_neg (by decide), if_neg hcauses', if_neg hservice', if_neg hwalk', hrunning]

/-- A request outside the table, to a worker, or while the machine's size is withheld is refused. -/
theorem judgeMode_refused {s : State} {n m : Nat}
    (h : modeClass s.mode m = none ∨ s.isWorker = true ∨ s.hmp.sizeHeld = true) :
    s.judgeMode n m = s.refuseMode n m := by
  unfold State.judgeMode
  split
  · rfl
  · next hopen =>
    simp only [Bool.or_eq_true, not_or] at hopen
    obtain ⟨⟨hworker, hsize⟩, -⟩ := hopen
    rw [h.resolve_right (not_or.mpr ⟨hworker, hsize⟩)]

/-- The transition's start counts from what the request leaves. -/
theorem Begun.of_quiet {s v u : State} {target : Nat} (hv : Quiet s v) (h : Begun v target u) : Begun s target u where
  md := by rw [h.md, hv.md, hv.mode, hv.now]
  shown := h.shown
  mode := h.mode.trans hv.mode
  stopped f hf hmine hruns := by
    have hlt := List.mem_range.mp hf
    exact h.stopped f hf ((hv.fnMine hlt).trans hmine) ((hv.runsIn hlt target).trans hruns)
  sent d c l hs := h.sent d c l (hv.sent d c l hs)
  told hw := h.told (hv.isWorker.trans hw)
  gate := h.gate.trans hv.gate

theorem modeRequest_accepted {s : State} {n m c : Nat} (hn : n ≠ 0)
    (hopen : s.ses.open_.any (fun p => p.2.num = n) = true) (hturn : s.turn n (.mode m) = true)
    (hworker : s.isWorker = false) (hsize : s.hmp.sizeHeld = false)
    (hupd : s.rd R.UPD_STAT_STATE ≠ 5) (hclass : modeClass s.mode m = some c) (hmay : s.classAtLeast n c = true)
    (hcauses : s.rd R.MODE_STAT_CAUSES = 0 ∨ m = Mode.SAFE_STOP)
    (hservice : s.mode ≠ Mode.SERVICE ∨ s.rd R.HMP_STAT_WRITING ≠ 1)
    (hwalk : m ≠ Mode.WALK_HOME ∨ s.rd R.WH_STAT_EN = 1) (hharvest : m ≠ Mode.HARVEST ∨ s.notRunning = none)
    (t : Nat) :
    ∃ u, exec (.modeRequest t n m) s = .next u ∧ Begun (s.inTurn t n (.mode m)) m u ∧
      Sent u (.session n) Res.OK [] := by
  have hjudge := judgeMode_accepted (s := s.inTurn t n (.mode m)) hworker hsize hupd hclass hmay hcauses hservice hwalk
    hharvest
  have hbegun := startTransition_begun ((s.inTurn t n (.mode m)).reply n Res.OK) m
  refine ⟨_, congrArg Host.Outcome.next ((gated_of_turn hn hturn t _).trans hjudge),
    hbegun.of_quiet (.reply _ _ _ (.refl _)), hbegun.sent _ _ _ (reply_sent _ _ _ _ hn hopen)⟩

theorem refuseMode_left {s : State} {n m : Nat} (hn : n ≠ 0) (hopen : s.ses.open_.any (fun p => p.2.num = n) = true)
    (hroom : Room s) :
    (s.refuseMode n m).md = s.md ∧ (s.refuseMode n m).fn = s.fn ∧
    Sent (s.refuseMode n m) (.session n) Res.MODE_REFUSED [] ∧
    Logged s (s.refuseMode n m) 0xB021 [(m : Int), (s.mode : Int), (n : Int)] ∧ RegsKept [] s (s.refuseMode n m) := by
  have hreply := (State.reply_follows (s.log 0xB021 [(m : Int), (s.mode : Int), (n : Int)]) n Res.MODE_REFUSED []).frame
  have hlog := (State.log_follows s 0xB021 [(m : Int), (s.mode : Int), (n : Int)] 2 false false none).frame
  refine ⟨?_, ?_, ?_, ?_, ?_⟩
  · exact (hreply .md (by decide)).trans (hlog .md (by decide))
  · exact (hreply .fn (by decide)).trans (hlog .fn (by decide))
  · refine reply_sent _ _ _ _ hn ?_
    rw [← mem_sessionNums, log_sessionNums]
    exact (mem_sessionNums s n).mpr hopen
  · exact (log_logged s s 0xB021 _ 2 false false none (by omega) (Nat.le_refl _)).of_mirror (hreply .mirror (by decide))
  · exact RegsKept.reply' _ _ _ (RegsKept.log' _ _ _ _ _ _ (RegsKept.rfl' _ _))

/-! ### Causes of SAFE_STOP that workers report (15 R509, R512) -/

theorem bitOf_setBit_true (x i : Nat) : bitOf (setBit x i true) i = true := by
  unfold setBit
  cases h : bitOf x i with
  | true => exact h
  | false =>
    simp only [bitOf, decide_eq_true_eq, decide_eq_false_iff_not] at h ⊢
    rw [Nat.add_div_right _ (Nat.two_pow_pos i)]
    omega

theorem bitOf_setBit_false (x i : Nat) : bitOf (setBit x i false) i = false := by
  unfold setBit
  cases h : bitOf x i with
  | true =>
    simp only [bitOf, decide_eq_true_eq, decide_eq_false_iff_not] at h ⊢
    have hdiv := Nat.sub_mul_div x (2 ^ i) 1
    rw [Nat.mul_one] at hdiv
    rw [hdiv]
    omega
  | false => exact h

/-- The causes of the manager with cause `bit` set. -/
def State.causeSet (s : State) (bit : Nat) (b : Bool) : State :=
  s.wr R.MODE_STAT_CAUSES (setBit (s.rd R.MODE_STAT_CAUSES) (bit - 10) b)

theorem causeSet_hasCause (s : State) (bit : Nat) (b : Bool) : (s.causeSet bit b).hasCause bit = b := by
  unfold State.hasCause State.causeSet
  rw [rd_wr_same]
  cases b with
  | true => exact bitOf_setBit_true _ _
  | false => exact bitOf_setBit_false _ _

theorem causeSet_regs (s : State) (bit : Nat) (b : Bool) : RegsExact [R.MODE_STAT_CAUSES] s (s.causeSet bit b) :=
  RegsExact.wr _ _ List.mem_cons_self (RegsExact.rfl' _ _)

theorem setCause_manager {s : State} (h : s.isWorker = false) (bit : Nat) :
    s.setCause bit = { s.causeSet bit true with md := { s.md with wanted := true } } :=
  if_neg (show ¬(s.causeSet bit true).isWorker = true from fun k => Bool.false_ne_true (h.symm.trans k))

/-- A cause cleared on the manager moves its bit and nothing else of the modes. -/
theorem clearCause_manager {s : State} (h : s.isWorker = false) (bit : Nat) :
    (s.clearCause bit).hasCause bit = false ∧ (s.clearCause bit).md = s.md ∧
    RegsExact [R.MODE_STAT_CAUSES] s (s.clearCause bit) := by
  unfold State.clearCause
  extract_lets code off cleared
  have hnot : ¬(cleared.isWorker && decide (cleared.rd R.MODE_STAT_CAUSES = 0)) = true := by
    rw [show cleared.isWorker = s.isWorker from rfl, h, Bool.false_and]
    exact Bool.false_ne_true
  split
  · next hnone => exact ⟨by simpa using hnone, rfl, RegsExact.rfl' _ _⟩
  · exact ⟨causeSet_hasCause off bit false, rfl, RegsExact.trans (t := off) (RegsExact.of_reg rfl)
      (causeSet_regs off bit false)⟩

/-- The manager's workers with a cause, after worker `k` has reported. -/
def State.reported (s : State) (t k : Nat) (holds : Bool) : State :=
  { s.begin t with md := { s.md with
      workerCauses := if holds then s.md.workerCauses.filter (· ≠ k) ++ [k] else s.md.workerCauses.filter (· ≠ k) } }

theorem workerSafeStopReport_set {s : State} (h : s.isWorker = false) (t k : Nat) :
    exec (.workerSafeStopReport t k true) s = .next ((s.reported t k true).setCause Cause.worker) :=
  congrArg Host.Outcome.next (if_neg fun hw => Bool.false_ne_true (h.symm.trans hw))

theorem workerSafeStopReport_clear {s : State} (h : s.isWorker = false) (t k : Nat) :
    exec (.workerSafeStopReport t k false) s =
      .next (if (s.md.workerCauses.filter (· ≠ k)).isEmpty then (s.reported t k false).clearCause Cause.worker
        else s.reported t k false) :=
  congrArg Host.Outcome.next (if_neg fun hw => Bool.false_ne_true (h.symm.trans hw))

theorem workerSafeStopReport_cleared {s : State} (h : s.isWorker = false) (t k : Nat) :
    ∃ u, exec (.workerSafeStopReport t k false) s = .next u ∧
      u.md.workerCauses = s.md.workerCauses.filter (· ≠ k) ∧
      (u.md.workerCauses = [] → u.hasCause Cause.worker = false) ∧ u.md.wanted = s.md.wanted ∧
      RegsExact [R.MODE_STAT_CAUSES] s u := by
  refine ⟨_, workerSafeStopReport_clear h t k, ?_⟩
  obtain ⟨hcause, hmd, hregs⟩ := clearCause_manager (s := s.reported t k false) h Cause.worker
  split
  · rw [hmd]
    exact ⟨rfl, fun _ => hcause, rfl, (RegsExact.of_reg rfl).trans hregs⟩
  · next hleft => exact ⟨rfl, fun hnil => absurd (List.isEmpty_iff.mpr hnil) hleft, rfl, RegsExact.of_reg rfl⟩

/-! ### SLEEP entered and left (15 R510, R511) -/

namespace Quiet

variable {s u : State}

theorem bbPush (it : BbItem) (h : Quiet s u) : Quiet s (u.bbPush it) := by
  unfold State.bbPush
  exact ite (fun _ => parts h rfl) fun _ => bump _ (by decide) (parts h rfl)

theorem writeRetention (h : Quiet s u) : Quiet s u.writeRetention :=
  ite (fun _ => h) fun _ => parts h rfl

theorem saveCtrl (h : Quiet s u) : Quiet s u.saveCtrl := ite (fun _ => parts h rfl) fun _ => parts h rfl

theorem pcRequest (h : Quiet s u) : Quiet s u.pcRequest := ite (fun _ => parts h rfl) fun _ => parts h rfl

end Quiet

/-- What SLEEP saves: the mode, and time and pack beside it. -/
theorem sleepSave_left (s : State) (mode : Nat) :
    (s.sleepSave mode).md = { s.md with saved := mode } ∧
    (∀ k, Settled k → (s.sleepSave mode).rd k = s.rd k) ∧
    (∀ f, (s.fnS f).running = false → ((s.sleepSave mode).fnS f).running = false) := by
  unfold State.sleepSave
  extract_lets _ kept saved _ md v _
  have hkept : Quiet s kept := .ite (fun _ => .parts (.refl s) rfl) fun _ => .refl s
  have hleft : Quiet v v.writeRetention.bbAnchor.saveCtrl :=
    .saveCtrl (.bbPush _ (.parts (.writeRetention (.refl v)) rfl))
  refine ⟨?_, fun k hk => (hleft.rd k hk).trans (hkept.rd k hk), fun f hf => hleft.stopped f (hkept.stopped f hf)⟩
  rw [hleft.md]
  simp only [v, md, hkept.md]
  rfl

theorem sleepEntry_exec {s : State} {t : Nat} (h : (s.begin t).sleepDue = true) :
    exec (.sleepEntry t) s = .next (((s.begin t).startTransition Mode.SLEEP).sleepSave (s.begin t).mode).pcRequest :=
  congrArg Host.Outcome.next (if_pos h)

/-- SLEEP is entered by a transition that saves the mode it comes from. -/
theorem sleepEntry_begun {s : State} {t : Nat} (h : (s.begin t).sleepDue = true) :
    ∃ u, exec (.sleepEntry t) s = .next u ∧
      u.md.trans = some { target := Mode.SLEEP, source := s.mode, t0 := max s.now t } ∧
      u.rd R.MODE_STAT_TRANS = 1 ∧ u.mode = s.mode ∧
      (∀ f ∈ List.range 48, s.fnMine f = true → s.runsIn f Mode.SLEEP = false → (u.fnS f).running = false) ∧
      u.md.saved = s.mode := by
  have hbegun := startTransition_begun (s.begin t) Mode.SLEEP
  obtain ⟨hmd, hrd, hstopped⟩ := sleepSave_left ((s.begin t).startTransition Mode.SLEEP) (s.begin t).mode
  have hasked := Quiet.pcRequest (.refl (((s.begin t).startTransition Mode.SLEEP).sleepSave (s.begin t).mode))
  refine ⟨_, sleepEntry_exec h, ?_, ?_, ?_, fun f hf hmine hruns => ?_, ?_⟩
  · rw [hasked.md, hmd, hbegun.md]
    rfl
  · exact (hasked.rd _ (by decide)).trans ((hrd _ (by decide)).trans hbegun.shown)
  · exact hasked.mode.trans ((hrd _ (by decide)).trans hbegun.mode)
  · exact hasked.stopped f (hstopped f (hbegun.stopped f hf hmine hruns))
  · rw [hasked.md, hmd]
    rfl

theorem awake_of_line {s : State} (h : bitOf s.pwr.wake 0 = true) (henabled : s.wakeEnabled 1 = true) :
    s.awake = true := by
  rw [State.awake, h, henabled]
  rfl

theorem bitOf_zero (i : Nat) : bitOf 0 i = false := by simp [bitOf]

theorem awake_of_none {s : State} (h : s.pwr.wake = 0) : s.awake = false := by
  rw [State.awake, h, bitOf_zero, bitOf_zero]
  rfl

/-- A wake line has changed. -/
def State.lineChanged (s : State) (t k : Nat) (active : Bool) : State :=
  { s.begin t with pwr := { s.pwr with wake := setBit s.pwr.wake (k - 1) active } }

/-- The time since which no enabled line is active runs on from there. -/
def State.lineNoted (s : State) (t k : Nat) (active : Bool) : State :=
  let v := s.lineChanged t k active
  { v with pwr := { v.pwr with wakeOff := if v.awake then none else some (v.pwr.wakeOff.getD v.now) } }

theorem wake_unfold (t k : Nat) (active : Bool) (s : State) : exec (.wake t k active) s =
    .next (
      let v := s.lineNoted t k active
      if !v.awake then v
      else if v.mode = Mode.SLEEP then
        if v.rst.held then v
        else
          let w := if v.gn.refresh.isSome then v.endRefresh 2 else v
          { w with rst := { w.rst with held := true, sleepWake := true, clearAt := w.now } }
      else match v.md.trans with
        | some x => if x.target = Mode.SLEEP then v.startTransition x.source else v
        | none => v) := rfl

theorem lineNoted_awake (s : State) (t k : Nat) (active : Bool) :
    (s.lineNoted t k active).awake = (s.lineChanged t k active).awake := rfl

/-- Wake line 1, enabled, starts the core from SLEEP (R511). -/
theorem wake_fromSleep {s : State} (hmode : s.mode = Mode.SLEEP) (hheld : s.rst.held = false)
    (henabled : s.wakeEnabled 1 = true) (hrefresh : s.gn.refresh = none) (t : Nat) :
    exec (.wake t 1 true) s = .next { s.lineNoted t 1 true with
      rst := { s.rst with held := true, sleepWake := true, clearAt := max s.now t } } := by
  have hawake : (s.lineNoted t 1 true).awake = true := awake_of_line (bitOf_setBit_true _ _) henabled
  have hmode' : (s.lineNoted t 1 true).mode = Mode.SLEEP := hmode
  have hheld' : (s.lineNoted t 1 true).rst.held = false := hheld
  have hrefresh' : (s.lineNoted t 1 true).gn.refresh = none := hrefresh
  rw [wake_unfold]
  dsimp only
  rw [hawake, if_neg (by decide), if_pos hmode', hheld', if_neg Bool.false_ne_true, hrefresh',
    if_neg (by decide)]
  rfl

theorem lineNoted_wakeOff {s : State} {t k : Nat} {active : Bool} (h : (s.lineChanged t k active).awake = true) :
    (s.lineNoted t k active).pwr.wakeOff = none := if_pos h

theorem setBit_two_pow (i : Nat) : setBit (2 ^ i) i false = 0 := by
  have hbit : bitOf (2 ^ i) i = true := by
    rw [bitOf, Nat.div_self (Nat.two_pow_pos i)]
    rfl
  unfold setBit
  rw [hbit]
  exact Nat.sub_self _

/-- The last active line falls: from then on SLEEP_DELAY runs (R510). -/
theorem wake_lineFalls {s : State} {k : Nat} (h : s.pwr.wake = 2 ^ (k - 1)) (t : Nat) :
    exec (.wake t k false) s = .next (s.lineNoted t k false) ∧ (s.lineNoted t k false).pwr.wake = 0 ∧
    (s.lineNoted t k false).pwr.wakeOff = some (s.pwr.wakeOff.getD (max s.now t)) := by
  have hnone : (s.lineNoted t k false).pwr.wake = 0 := by
    show setBit s.pwr.wake (k - 1) false = 0
    rw [h, setBit_two_pow]
  have hawake : (s.lineChanged t k false).awake = false := awake_of_none hnone
  refine ⟨?_, hnone, if_neg (by rw [hawake]; decide)⟩
  rw [wake_unfold]
  dsimp only
  rw [lineNoted_awake, hawake, if_pos (by decide)]

/-! ### Transitions that start by themselves, and by a manager's notice (15 R509, R512) -/

theorem modeTransitionStart_exec {s : State} (hwanted : s.md.wanted = true) (hnone : s.md.trans = none)
    (hworker : s.isWorker = false) (hsize : s.hmp.sizeHeld = false)
    (hclass : (modeClass s.mode Mode.SAFE_STOP).isSome = true) (t : Nat) :
    exec (.modeTransitionStart t Mode.SAFE_STOP) s = .next ((s.begin t).startTransition Mode.SAFE_STOP) := by
  refine congrArg Host.Outcome.next (if_pos ?_)
  rw [show (s.begin t).md.wanted = true from hwanted, show (s.begin t).md.trans = none from hnone,
    show (s.begin t).isWorker = false from hworker, show (s.begin t).hmp.sizeHeld = false from hsize,
    show (modeClass (s.begin t).mode Mode.SAFE_STOP).isSome = true from hclass]
  rfl

theorem workerModeNotice_exec {s : State} {m : Nat} (hworker : s.isWorker = true)
    (hmode : s.mode ∉ [Mode.OFF, Mode.SLEEP, Mode.TRAILHEAD, Mode.CONFIG]) (hm : m ≠ Mode.UPDATE)
    (htarget : s.modeTarget ≠ m) (t : Nat) :
    exec (.workerModeNotice t m) s = .next ((s.begin t).startTransition m) := by
  have hrest : [Mode.OFF, Mode.SLEEP, Mode.TRAILHEAD].contains s.mode = false ∧ s.mode ≠ Mode.CONFIG := by
    simp only [List.mem_cons, List.not_mem_nil, or_false, not_or] at hmode
    obtain ⟨hoff, hsleep, htrail, hconfig⟩ := hmode
    exact ⟨by simp [hoff, hsleep, htrail], hconfig⟩
  have hact : ¬(!s.isWorker || [Mode.OFF, Mode.SLEEP, Mode.TRAILHEAD].contains s.mode) = true := by
    rw [hworker, hrest.1]
    decide
  have hdiffers : ¬(decide (s.mode = Mode.CONFIG) || decide (s.modeTarget = m)) = true := by
    rw [decide_eq_false hrest.2, decide_eq_false htarget]
    decide
  exact congrArg Host.Outcome.next ((if_neg hact).trans ((if_neg hm).trans (if_neg hdiffers)))

/-! ### Valves and switches while the core lets go of them (10 R354, 11 R395, 15 R517) -/

/-- No valve of banks 1 to 8 waits for its boost. -/
def NoWaiting (s : State) : Prop := ∀ b ∈ List.range' 1 8, (s.bankS b).queue = []

theorem NoWaiting.of_bank {s u : State} (hs : NoWaiting s) (h : u.vd.bank = s.vd.bank) : NoWaiting u := by
  intro b hb
  rw [State.bankS, h]
  exact hs b hb

theorem bankS_setBank_same (s : State) (b : Nat) (v : BankS) : (s.setBank b v).bankS b = v := by
  simp [State.bankS, State.setBank, State.wr, look_ins_same]

theorem bankS_setBank_ne (s : State) {a b : Nat} (v : BankS) (h : a ≠ b) : (s.setBank a v).bankS b = s.bankS b := by
  simp [State.bankS, State.setBank, State.wr, look_ins_ne _ _ h]

/-- A bank's record written, its queue as it was. -/
theorem NoWaiting.setBank {s : State} (hs : NoWaiting s) {b : Nat} {v : BankS} (h : v.queue = (s.bankS b).queue) :
    NoWaiting (s.setBank b v) := by
  intro a ha
  by_cases hab : b = a
  · subst hab
    rw [bankS_setBank_same, h]
    exact hs b ha
  · rw [bankS_setBank_ne s v hab]
    exact hs a ha

namespace Quiet

variable {s u : State}

theorem setBank (b : Nat) (v : BankS) (h : Quiet s u) : Quiet s (u.setBank b v) :=
  wr _ (unsettled (by decide) (by omega) (by omega)) (parts h rfl)

theorem unwait (ch : Nat) (h : Quiet s u) : Quiet s (u.unwait ch) :=
  wr _ (unsettled (by decide) (by omega) (by omega)) h

theorem setPhase (ch p : Nat) (h : Quiet s u) : Quiet s (u.setPhase ch p) :=
  wr _ (unsettled (by decide) (by omega) (by omega)) (parts h rfl)

theorem regulate (ch phase ma : Nat) (h : Quiet s u) : Quiet s (u.regulate ch phase ma) :=
  wr _ (unsettled (by decide) (by omega) (by omega)) (parts (setPhase _ _ h) rfl)

theorem setSide (b side : Nat) (h : Quiet s u) : Quiet s (u.setSide b side) :=
  ite (fun _ => h) fun _ => answer _ _ _ (setBank _ _ h)

theorem showSwitch (n : Nat) (h : Quiet s u) : Quiet s (u.showSwitch n) := by
  refine wrs [R.LS_STAT_STATE n, R.LS_STAT_CTRL n, R.LS_STAT_TRIPS n, R.LS_STAT_BUDGET_LEFT n] rfl ?_ h
  simp only [List.forall_mem_cons, R.LS_STAT_STATE, R.LS_STAT_CTRL, R.LS_STAT_TRIPS, R.LS_STAT_BUDGET_LEFT]
  exact ⟨unsettled (by decide) (by omega) (by omega), unsettled (by decide) (by omega) (by omega),
    unsettled (by decide) (by omega) (by omega), unsettled (by decide) (by omega) (by omega), nofun⟩

theorem resetSwitches (scope : Nat) (h : Quiet s u) : Quiet s (u.resetSwitches scope) := by
  unfold State.resetSwitches
  extract_lets mask noted calls _ held
  exact foldl (fun n _ v => showSwitch n (parts (refl v) rfl)) (parts (pdLog _ _ _ h) rfl)

end Quiet

/-- One bank's queue dropped: its valves wait no more. -/
def State.dropBank (s : State) (b : Nat) : State :=
  (s.bankS b).queue.foldl (fun (s : State) (r : BoostReq) => s.unwait r.ch)
    (s.setBank b { s.bankS b with queue := [] })

theorem dropBoosts_eq (s : State) : s.dropBoosts = (List.range' 1 8).foldl State.dropBank s := rfl

theorem foldl_unwait_bank (l : List BoostReq) (s : State) :
    (l.foldl (fun (s : State) (r : BoostReq) => s.unwait r.ch) s).vd = s.vd := by
  induction l generalizing s with
  | nil => rfl
  | cons r l ih => exact (ih _).trans rfl

theorem dropBank_bankS (s : State) (a b : Nat) :
    ((s.dropBank a).bankS b).queue = if a = b then [] else (s.bankS b).queue := by
  have hvd : (s.dropBank a).vd = (s.setBank a { s.bankS a with queue := [] }).vd := foldl_unwait_bank _ _
  have hbank : (s.dropBank a).bankS b = (s.setBank a { s.bankS a with queue := [] }).bankS b := by
    rw [State.bankS, hvd]
    rfl
  rw [hbank]
  split
  · next hab =>
    subst hab
    rw [bankS_setBank_same]
  · next hab => rw [bankS_setBank_ne s _ hab]

theorem foldl_dropBank_queue (l : List Nat) {b : Nat} (s : State) (h : b ∈ l ∨ (s.bankS b).queue = []) :
    ((l.foldl State.dropBank s).bankS b).queue = [] := by
  induction l generalizing s with
  | nil => exact h.resolve_left List.not_mem_nil
  | cons a l ih =>
    refine ih _ ?_
    rw [dropBank_bankS]
    by_cases hab : a = b
    · exact .inr (if_pos hab)
    · rw [if_neg hab]
      exact h.imp_left fun hb => (List.mem_cons.mp hb).resolve_left (Ne.symm hab)

theorem dropBoosts_noWaiting (s : State) : NoWaiting s.dropBoosts := fun b hb => by
  rw [dropBoosts_eq]
  exact foldl_dropBank_queue _ s (.inl hb)

theorem Quiet.dropBoosts {s u : State} (h : Quiet s u) : Quiet s u.dropBoosts := by
  rw [dropBoosts_eq]
  exact .foldl (fun b _ v => .foldl (fun r _ w => .unwait r.ch (.refl w)) (.setBank b _ (.refl v))) h

/-- `u` has gone on quietly from `s`, and no valve waits for its boost there. -/
structure Drained (s u : State) : Prop where
  quiet : Quiet s u
  none : NoWaiting u

namespace Drained

variable {s u : State} {ch : Nat}

theorem bank_mem (hch : ch ∈ valveChannels) : bankOf ch ∈ List.range' 1 8 := by
  revert ch
  decide

/-- A step that leaves the banks alone. -/
theorem next {v : State} (h : Drained s u) (hv : Quiet s v) (hbank : v.vd.bank = u.vd.bank) : Drained s v :=
  ⟨hv, h.none.of_bank hbank⟩

theorem setValve (h : Drained s u) (ch : Nat) (v : ValveS) : Drained s (u.setValve ch v) :=
  h.next (.parts h.quiet rfl) rfl

theorem serveBank_eq {b : Nat} (h : (u.bankS b).queue = []) : u.serveBank b = u := by
  unfold State.serveBank
  rw [h]
  split <;> rfl

theorem unqueue_eq (h : Drained s u) (hch : ch ∈ valveChannels) : u.unqueue ch = u := by
  unfold State.unqueue
  dsimp only
  rw [h.none _ (bank_mem hch)]
  exact if_neg Bool.false_ne_true

theorem setSide (h : Drained s u) (b side : Nat) : Drained s (u.setSide b side) := by
  refine ⟨.setSide b side h.quiet, ?_⟩
  unfold State.setSide
  dsimp only
  split
  · exact h.none
  · have hbank : NoWaiting (u.setBank b { u.bankS b with side := side }) := h.none.setBank rfl
    exact hbank.of_bank rfl

/-- The boost ends and nobody waits for the bank: its side turns back. -/
theorem endBoost (h : Drained s u) (hch : ch ∈ valveChannels) : Drained s (u.endBoost ch) := by
  have hfree : Drained s (u.wr (R.VD_B_BOOSTWAIT_OWNER (bankOf ch)) 0) :=
    h.next (.wr _ (Quiet.unsettled (by decide) (by omega) (by omega)) h.quiet) rfl
  unfold State.endBoost
  dsimp only
  rw [serveBank_eq (hfree.none _ (bank_mem hch))]
  split
  · exact h
  · split
    · exact hfree.setSide _ _
    · exact hfree

theorem regulate (h : Drained s u) (phase ma : Nat) : Drained s (u.regulate ch phase ma) :=
  h.next (.regulate _ _ _ h.quiet) rfl

theorem valveOff (h : Drained s u) (hch : ch ∈ valveChannels) (fast : Bool) : Drained s (u.valveOff ch fast) := by
  unfold State.valveOff
  extract_lets p was left _ off shown
  have hleft : Drained s left := by
    rw [show left = u from h.unqueue_eq hch]
    exact h
  have hoff : Drained s off := hleft.setValve ch _
  have hshown : Drained s shown := by
    unfold shown
    split
    · exact hoff
    · exact hoff.next (.setPhase _ _ hoff.quiet) rfl
  refine endBoost (hshown.next (.answer _ _ _ (.wr _ (Quiet.unsettled (by decide) (by omega) (by omega)) hshown.quiet))
    rfl) hch

theorem rampValve (h : Drained s u) (hch : ch ∈ valveChannels) : Drained s (u.rampValve ch) := by
  unfold State.rampValve
  dsimp only
  rw [h.unqueue_eq hch]
  split
  · exact h
  · split
    · exact h.valveOff hch _
    · exact ((h.regulate _ _).setValve ch _).endBoost hch

theorem walkValve (h : Drained s u) (hch : ch ∈ valveChannels) : Drained s (u.walkValve ch) := by
  unfold State.walkValve
  rw [h.unqueue_eq hch]
  split
  · exact h.rampValve hch
  · split
    · exact h.rampValve hch
    · split
      · exact (h.regulate _ _).endBoost hch
      · exact h.valveOff hch _

theorem resetValve (h : Drained s u) (hch : ch ∈ valveChannels) : Drained s (u.resetValve ch) := by
  unfold State.resetValve
  extract_lets m _ noted
  have hnoted : Drained s noted :=
    h.next (.wr _ (Quiet.unsettled (by decide) (by omega) (by omega)) (.parts h.quiet rfl)) rfl
  split
  · exact h
  · split
    · exact hnoted
    · split
      · exact hnoted.rampValve hch
      · exact hnoted.walkValve hch

theorem foldl_resetValve {l : List Nat} (hl : ∀ ch ∈ l, ch ∈ valveChannels) (h : Drained s u) :
    Drained s (l.foldl State.resetValve u) := by
  induction l generalizing u with
  | nil => exact h
  | cons ch l ih =>
    exact ih (fun c hc => hl c (List.mem_cons_of_mem _ hc)) (h.resetValve (hl ch List.mem_cons_self))

end Drained

/-- The valves' own reset moves nothing a mode change reads: their queues are dropped first. -/
theorem Quiet.resetValves {s u : State} (scope : Nat) (h : Quiet s u) : Quiet s (u.resetValves scope) := by
  have hdropped : Drained s u.dropBoosts := ⟨.dropBoosts h, dropBoosts_noWaiting u⟩
  unfold State.resetValves
  dsimp only
  refine (Drained.foldl_resetValve (fun _ => id) (hdropped.next (.pdLog _ _ _ hdropped.quiet) ?_)).quiet
  exact congrArg ValvesS.bank ((State.pdLog_follows _ _ _ _).frame .vd (by decide))

/-! ### A mode entered (15 R505, R507) -/

namespace Quiet

variable {s u : State}

theorem endCause (f cause : Nat) (h : Quiet s u) : Quiet s (u.endCause f cause) :=
  ite (fun _ => h) fun _ => showCause _ (setFn id h)

theorem setComp (h : Quiet s u) : Quiet s u.setComp := by
  unfold State.setComp
  extract_lets c _ full
  have hfull : Quiet s full := ite (fun _ => h) fun _ => parts h rfl
  exact wr _ (by decide) hfull

theorem setCamState (cam st : Nat) (h : Quiet s u) : Quiet s (u.setCamState cam st) :=
  ite (fun _ => h) fun _ => logOnce _ _ _ _ _ _ (wr _ (unsettled (by decide) (by omega) (by omega)) h)

theorem setCam (cam : Nat) (v : CamS) (h : Quiet s u) : Quiet s (u.setCam cam v) := parts h rfl

theorem dropFrames (cam : Nat) (h : Quiet s u) : Quiet s (u.dropFrames cam) := setCam _ _ h

theorem writeGn (v : GnssS) (h : Quiet s u) : Quiet s { u with gn := v } := parts h rfl

theorem writeLn (v : LaunchS) (h : Quiet s u) : Quiet s { u with ln := v } := parts h rfl

theorem camsDown (st : Nat) (h : Quiet s u) : Quiet s (u.camsDown st) :=
  foldl (fun c _ v => ite (fun _ => setCam _ _ (dropFrames _ (setCamState c st (refl v)))) fun _ => refl v) h

theorem startCam (cam : Nat) (h : Quiet s u) : Quiet s (u.startCam cam) :=
  ite (fun _ => h) fun _ =>
    setCamState _ _ (wr _ (unsettled (by decide) (by omega) (by omega)) (setCam _ _ h))

theorem startCams (h : Quiet s u) : Quiet s u.startCams := foldl (fun c _ v => startCam c (refl v)) h

theorem setSoln (new nsv : Nat) (h : Quiet s u) : Quiet s (u.setSoln new nsv) :=
  ite (fun _ => h) fun _ => log _ _ _ _ _ _ (wr _ (by decide) h)

theorem setTvalid (v : Bool) (h : Quiet s u) : Quiet s (u.setTvalid v) :=
  ite (fun _ => h) fun _ => log _ _ _ _ _ _ (wr _ (by decide) h)

theorem gnssTimeGone (h : Quiet s u) : Quiet s u.gnssTimeGone := ite (fun _ => h) fun _ => parts h rfl

theorem stopGnss (h : Quiet s u) : Quiet s u.stopGnss := by
  unfold State.stopGnss
  extract_lets shown cleared
  have hcleared : Quiet s cleared := by
    refine clearRegs (fun k hk => ?_) (wrs [R.GN_STAT_HEADQ, R.GN_STAT_CORSRC, R.GN_STAT_AGE, R.GN_STAT_NSV_USED,
      R.GN_TSTAT_TERR, R.GN_STAT_ANT1, R.GN_STAT_ANT2] rfl (by decide) (gnssTimeGone (setTvalid _ (setSoln _ _ h))))
    unfold Settled at hk
    simp only [Bool.and_eq_false_iff, decide_eq_false_iff_not]
    omega
  exact ite (fun _ => h) fun _ => writeGn _ hcleared

theorem stopPlanes (h : Quiet s u) : Quiet s u.stopPlanes := writeLn _ (camsDown _ (stopGnss h))

theorem startGnss (t0 : Nat) (bad : Option (Nat × Nat)) (h : Quiet s u) : Quiet s (u.startGnss t0 bad) := by
  unfold State.startGnss
  refine ite (fun _ => h) fun _ => ?_
  extract_lets _ lost g typ n
  have hlost : Quiet s lost := by
    unfold lost
    split
    · exact log _ _ _ _ _ _ (parts h rfl)
    · exact h
  exact wrs [R.GN_STAT_START, R.GN_STAT_RETAIN, R.GN_STAT_ANT1, R.GN_STAT_ANT2] rfl (by decide) (parts hlost rfl)

theorem resumeGnss (h : Quiet s u) : Quiet s u.resumeGnss := by
  unfold State.resumeGnss
  extract_lets g started _
  have hstarted : Quiet s started := startGnss _ _ h
  exact ite (fun _ => wr _ (by decide) (parts hstarted rfl)) fun _ => hstarted

theorem dataReleased (h : Quiet s u) : Quiet s u.dataReleased := by
  refine foldl (fun i _ v => ?_) (startCams (resumeGnss (parts h rfl)))
  exact ite (fun _ => wr _ (unsettled (by decide) (by omega) (by omega)) (refl v)) fun _ => refl v

theorem showBind (n : Nat) (h : Quiet s u) : Quiet s (u.showBind n) :=
  wr _ (unsettled (by decide) (by omega) (by omega)) h

theorem obsBegin (h : Quiet s u) : Quiet s u.obsBegin := by
  unfold State.obsBegin
  refine ite (fun _ => showOpt h) fun _ => ?_
  split
  · exact showOpt (setDstep _ _ _ h)
  · dsimp only
    exact showOpt (foldl (fun n _ v => showBind n (refl v)) (wrs [R.OBS_STAT_RUN, R.OBS_STAT_WARMING,
      R.OBS_OVERRUN_CONSEC, R.OBS_STAT_WARM_LEFT] rfl (by decide) (parts h rfl)))

theorem obsMode (h : Quiet s u) : Quiet s u.obsMode := by
  unfold State.obsMode
  extract_lets _ x
  have hx : Quiet s x := ite (fun _ => parts h rfl) fun _ => h
  exact ite (fun _ => obsBegin hx) fun _ => ite (fun _ => obsStop _ hx) fun _ => showOpt hx

theorem setCoreRail (h : Quiet s u) : Quiet s u.setCoreRail := wr _ (by decide) h

theorem setDomains (h : Quiet s u) : Quiet s u.setDomains := wr _ (by decide) h

end Quiet

/-- MODE.STAT shows the mode entered; what follows of it is quiet. -/
def State.modeShown (s : State) (m : Nat) : State :=
  State.wrs { s with
    md := { s.md with trans := none }
    pwr := if s.mode = Mode.SAFE_STOP then { s.pwr with crankLong := false } else s.pwr }
    [(R.MODE_STAT_MODE, m), (R.MODE_STAT_PREV, s.mode), (R.MODE_STAT_TRANS, 0)]

theorem enterMode_quiet (s : State) (m : Nat) : Quiet (s.modeShown m) (s.enterMode m) := by
  unfold State.enterMode
  extract_lets old back _ _ began shown supplied ended comp walked released
  have hshown : Quiet (s.modeShown m) supplied := .setDomains (.setCoreRail (.refl _))
  have hended : Quiet (s.modeShown m) ended :=
    .foldl (fun f _ v => .ite (fun _ => .endCause f 2 (.refl v)) fun _ => .refl v) hshown
  have hcomp : Quiet (s.modeShown m) comp := .ite (fun _ => .setComp hended) fun _ => hended
  have hwalked : Quiet (s.modeShown m) walked :=
    .ite (fun _ => .resetSwitches _ (.resetValves _ (.stopPlanes hcomp))) fun _ => hcomp
  exact .obsMode (.ite (fun _ => .dataReleased hwalked) fun _ => hwalked)

theorem modeShown_rd (s : State) (m : Nat) :
    (s.modeShown m).mode = m ∧ (s.modeShown m).rd R.MODE_STAT_PREV = s.mode ∧
    (s.modeShown m).rd R.MODE_STAT_TRANS = 0 := by
  unfold State.modeShown State.mode
  generalize ({ s with md := _, pwr := _ } : State) = v
  rw [wrs_cons, wrs_cons, wrs_cons]
  refine ⟨?_, ?_, rd_wr_same _ R.MODE_STAT_TRANS 0⟩
  · exact (rd_wr_ne _ (k := R.MODE_STAT_TRANS) _ (by decide)).trans
      ((rd_wr_ne _ (k := R.MODE_STAT_PREV) _ (by decide)).trans (rd_wr_same v R.MODE_STAT_MODE m))
  · exact (rd_wr_ne _ (k := R.MODE_STAT_TRANS) _ (by decide)).trans (rd_wr_same _ R.MODE_STAT_PREV _)

/-- `u` is `s` with mode `m` entered and nothing left of a transition. -/
structure Entered (s : State) (m : Nat) (u : State) : Prop where
  mode : u.mode = m
  prev : u.rd R.MODE_STAT_PREV = s.mode
  shown : u.rd R.MODE_STAT_TRANS = 0
  md : u.md = { s.md with trans := none }

theorem Entered.of_quiet {s u : State} {m : Nat} (h : Quiet (s.modeShown m) u) : Entered s m u := by
  obtain ⟨hmode, hprev, hshown⟩ := modeShown_rd s m
  exact ⟨h.mode.trans hmode, (h.rd _ (by decide)).trans hprev, (h.rd _ (by decide)).trans hshown, h.md⟩

/-- The mode entered and MODE_CHANGE logged (R505, R507). -/
def State.changed (s : State) (x : TransS) : State :=
  ((s.enterMode x.target).log 0xB020 [(s.mode : Int), (x.target : Int),
    ((s.enterMode x.target).now - x.t0 : Int) / 1000]).pcRequest

theorem completeTransition_eq (s : State) (x : TransS) : s.completeTransition x =
    if (s.changed x).isWorker then
      (s.changed x).answer (.trunk 0) 0x54 [((s.changed x).role.unit : Int), (x.target : Int)]
    else s.changed x := by
  unfold State.completeTransition State.changed
  dsimp only

theorem changed_quiet (s : State) (x : TransS) : Quiet (s.modeShown x.target) (s.changed x) :=
  .pcRequest (.log _ _ _ _ _ _ (enterMode_quiet s x.target))

theorem completeTransition_quiet (s : State) (x : TransS) : Quiet (s.modeShown x.target) (s.completeTransition x) := by
  rw [completeTransition_eq]
  exact .ite (fun _ => .answer _ _ _ (changed_quiet s x)) fun _ => changed_quiet s x

theorem pcRequest_mirror (s : State) : s.pcRequest.mirror = s.mirror := by
  unfold State.pcRequest
  split <;> rfl

theorem changed_logged {s : State} {x : TransS} (hroom : Room s) (hx : x.t0 ≤ s.now) :
    Logged s (s.changed x) 0xB020 [(s.mode : Int), (x.target : Int), (((s.now - x.t0) / 1000 : Nat) : Int)] := by
  have hquiet := enterMode_quiet s x.target
  have hnow : (s.enterMode x.target).now = s.now := hquiet.now
  have helapsed : (((s.now - x.t0) / 1000 : Nat) : Int) = ((s.enterMode x.target).now - x.t0 : Int) / 1000 := by
    rw [hnow]
    omega
  have hwindow : (s.enterMode x.target).mirror.window.length ≤ 4096 := hquiet.window (Nat.le_of_add_right_le hroom)
  rw [helapsed]
  exact (logged_of_le 0xB020 _ 2 false false none hwindow hquiet.arrivals).of_mirror (pcRequest_mirror _)

theorem completeTransition_logged {s : State} {x : TransS} (hroom : Room s) (hx : x.t0 ≤ s.now) :
    Logged s (s.completeTransition x) 0xB020
      [(s.mode : Int), (x.target : Int), (((s.now - x.t0) / 1000 : Nat) : Int)] := by
  have hlogged := changed_logged hroom hx
  rw [completeTransition_eq]
  generalize s.changed x = v at hlogged ⊢
  split
  · exact hlogged.of_mirror rfl
  · exact hlogged

/-- A worker tells its manager the mode it has entered (R509). -/
theorem completeTransition_told {s : State} (h : s.isWorker = true) (x : TransS) :
    Sent (s.completeTransition x) (.trunk 0) 0x54 [(s.role.unit : Int), (x.target : Int)] := by
  have hquiet := changed_quiet s x
  rw [completeTransition_eq]
  generalize s.changed x = v at hquiet ⊢
  have hrole : v.role = s.role := hquiet.role
  have hworker : v.isWorker = true := by
    rw [State.isWorker, hrole]
    exact h
  rw [if_pos hworker, hrole]
  exact answer_sent _ _ _ _

/-- A transition whose workers have all answered completes. -/
theorem modeChange_completes {s : State} {x : TransS} {l : List Nat} (hx : s.md.trans = some x)
    (hsleep : x.target ≠ Mode.SLEEP) (hupdate : x.target ≠ Mode.UPDATE)
    (hworkers : s.isWorker = true ∨ s.md.running.any (fun u => !l.contains u) = false) (t : Nat) :
    exec (.modeChange t l) s = .next ((s.begin t).completeTransition x) := by
  have hdone : ¬(!(s.begin t).isWorker && (s.begin t).md.running.any (fun u => !l.contains u)) = true := by
    show ¬(!s.isWorker && s.md.running.any (fun u => !l.contains u)) = true
    rcases hworkers with h | h
    · rw [h]
      exact Bool.false_ne_true
    · rw [h, Bool.and_false]
      exact Bool.false_ne_true
  have htrans : (s.begin t).md.trans = some x := hx
  simp only [exec, execModeChange, htrans, if_neg hsleep, if_neg hupdate, if_neg hdone]

/-! ### SLEEP (15 R510) -/

theorem modeChange_sleeps {s : State} {x : TransS} {l : List Nat} (hx : s.md.trans = some x)
    (hsleep : x.target = Mode.SLEEP) (hidle : s.pcIdle = true) (t : Nat) :
    exec (.modeChange t l) s = .next ((s.begin t).goSleep x) := by
  have htrans : (s.begin t).md.trans = some x := hx
  have hidle' : (s.begin t).pcIdle = true := hidle
  simp only [exec, execModeChange, htrans, if_pos hsleep, if_pos hidle']

/-- What is left when the core's domains go off: no transition, no reset held, no function. -/
theorem sleepOff_left (s : State) :
    s.sleepOff.md.trans = none ∧ s.sleepOff.rst.held = false ∧ s.sleepOff.fn = [] := by
  unfold State.sleepOff
  extract_lets keep again cleared kept ls _ rst gn _
  have hkept : kept.md = cleared.md ∧ kept.fn = cleared.fn := by
    unfold kept
    split <;> exact ⟨rfl, rfl⟩
  exact ⟨congrArg ModeS.trans hkept.1, rfl, hkept.2⟩

theorem Quiet.sleepSwitches {s u : State} (h : Quiet s u) : Quiet s u.sleepSwitches :=
  .foldl (fun n _ v => .ite (fun _ => .showSwitch n (.parts (.refl v) rfl)) fun _ => .refl v) h

theorem railFor_sleep {s : State} (h : s.mode = Mode.SLEEP) : s.railFor = 0 := by
  unfold State.railFor
  dsimp only
  rw [h]
  exact if_pos rfl

/-- The core's supply in SLEEP shows 0. -/
theorem supply_sleep {s : State} (h : s.mode = Mode.SLEEP) : s.setCoreRail.setDomains.rd R.PWR_STAT_CORE = 0 := by
  refine (rd_wr_ne _ (k := R.PWR_STAT_PD) _ (by decide)).trans ((rd_wr_same s R.PWR_STAT_CORE _).trans ?_)
  exact railFor_sleep h

theorem goSleep_left (s : State) (x : TransS) :
    (s.goSleep x).mode = Mode.SLEEP ∧ (s.goSleep x).md.trans = none ∧ (s.goSleep x).rd R.MODE_STAT_PREV = s.mode ∧
    (s.goSleep x).rst.held = false ∧ (s.goSleep x).fn = [] ∧ (s.goSleep x).rd R.PWR_STAT_CORE = 0 := by
  unfold State.goSleep
  extract_lets old keep asleep shown driven
  obtain ⟨htrans, hheld, hfn⟩ : asleep.md.trans = none ∧ asleep.rst.held = false ∧ asleep.fn = [] := sleepOff_left _
  clear_value asleep
  have hdriven : Quiet shown driven := .ite (fun _ => .sleepSwitches (.refl _)) fun _ => .refl _
  have hsupplied : Quiet shown driven.setCoreRail.setDomains := .setDomains (.setCoreRail hdriven)
  have hmode : shown.mode = Mode.SLEEP :=
    (rd_wr_ne _ (k := R.MODE_STAT_PREV) _ (by decide)).trans (rd_wr_same asleep R.MODE_STAT_MODE _)
  have hprev : shown.rd R.MODE_STAT_PREV = s.mode :=
    rd_wr_same (asleep.wr R.MODE_STAT_MODE Mode.SLEEP) R.MODE_STAT_PREV old
  have hdrivenFn : driven.fn = shown.fn := by
    unfold driven
    split
    · exact (State.sleepSwitches_follows _).frame .fn (by decide)
    · rfl
  refine ⟨hsupplied.mode.trans hmode, ?_, (hsupplied.rd _ (by decide)).trans hprev, ?_,
    hdrivenFn.trans hfn, supply_sleep (hdriven.mode.trans hmode)⟩
  · exact (congrArg ModeS.trans hsupplied.md).trans htrans
  · exact (congrArg RstS.held hsupplied.rst).trans hheld

/-! ### A reset of the core (15 R514, R516) -/

theorem cleared_rd_of_dropped {s : State} {scope k : Nat} (h : keptReg scope k = false) :
    (s.cleared scope).rd k = resetOf k := by
  show (look (s.reg.filter (fun e => keptReg scope e.1)) k).getD (resetOf k) = _
  rw [look_filter, h]
  rfl

/-- The core held in reset from source `source`: the mode after reset, the reset's record, and an empty window. -/
structure CoreHeld (source : Nat) (u : State) : Prop where
  mode : u.mode = Mode.TRAILHEAD
  held : u.rst.held = true
  source : u.rd R.RST_STAT_SOURCE = source
  scope : u.rd R.RST_STAT_SCOPE = Scope.core
  trans : u.md.trans = none
  window : u.mirror.window.length ≤ 4096

theorem CoreHeld.of_quiet {source : Nat} {s u : State} (hs : CoreHeld source s) (h : Quiet s u) :
    CoreHeld source u where
  mode := h.mode.trans hs.mode
  held := (congrArg RstS.held h.rst).trans hs.held
  source := (h.rd _ (by decide)).trans hs.source
  scope := (h.rd _ (by decide)).trans hs.scope
  trans := (congrArg ModeS.trans h.md).trans hs.trans
  window := h.window hs.window

/-- The record of a reset names its source and scope (Table 15.14). -/
theorem resetRecord_rd (s : State) (source scope plane : Nat) :
    (s.resetRecord source scope plane).rd R.RST_STAT_SOURCE = source ∧
    (s.resetRecord source scope plane).rd R.RST_STAT_SCOPE = scope := by
  unfold State.resetRecord
  dsimp only
  rw [wrs_cons, wrs_cons]
  constructor
  · refine (rd_wrs_ne _ _ _ ?_).trans ((rd_wr_ne _ (k := R.RST_STAT_SCOPE) _ (by decide)).trans
      (rd_wr_same s R.RST_STAT_SOURCE source))
    simp only [List.forall_mem_cons]
    exact ⟨by decide, by decide, by decide, nofun⟩
  · refine (rd_wrs_ne _ _ _ ?_).trans (rd_wr_same _ R.RST_STAT_SCOPE scope)
    simp only [List.forall_mem_cons]
    exact ⟨by decide, by decide, by decide, nofun⟩

theorem resetRecord_mode (s : State) (source scope plane : Nat) : (s.resetRecord source scope plane).mode = s.mode := by
  refine rd_wrs_ne _ _ _ ?_
  simp only [List.forall_mem_cons]
  exact ⟨by decide, by decide, by decide, by decide, by decide, nofun⟩

theorem cleared_mode (s : State) (scope : Nat) (h : keptReg scope R.MODE_STAT_MODE = false) :
    (s.cleared scope).mode = Mode.TRAILHEAD := (cleared_rd_of_dropped h).trans (by decide +kernel)

/-- A reset of the core when none is held (R516). -/
theorem assertReset_coreHeld {s : State} (h : s.rst.held = false) (source plane : Nat) :
    CoreHeld source (s.assertReset source Scope.core plane) := by
  have hscope : s.resetScope = none := if_neg (by rw [h]; decide)
  unfold State.assertReset
  extract_lets wider _ active _ kept cleared _ held recorded switched
  have hwider : wider = true := by
    unfold wider
    rw [hscope]
  obtain ⟨hsource, hscopeShown⟩ := resetRecord_rd held source Scope.core plane
  have hrecorded : CoreHeld source recorded := by
    refine ⟨?_, rfl, (rd_wr_ne _ (k := R.PROT_STAT_LOCK) _ (by decide)).trans hsource,
      (rd_wr_ne _ (k := R.PROT_STAT_LOCK) _ (by decide)).trans hscopeShown, rfl, Nat.zero_le _⟩
    exact (rd_wr_ne _ (k := R.PROT_STAT_LOCK) _ (by decide)).trans
      ((resetRecord_mode held source Scope.core plane).trans (cleared_mode kept Scope.core (by decide)))
  have hswitched : Quiet recorded switched :=
    .ite (fun _ => .refl _) fun _ => .resetSwitches _ (.resetValves _ (.refl _))
  rw [hwider]
  exact hrecorded.of_quiet (.setDomains (.setCoreRail hswitched))

/-- The transition to UPDATE ends in a reset of the core (R507, R514). -/
theorem modeChange_updates {s : State} {x : TransS} {l : List Nat} (hx : s.md.trans = some x)
    (hupdate : x.target = Mode.UPDATE) (t : Nat) :
    exec (.modeChange t l) s = .next (((s.begin t).completeTransition x).assertReset 6 Scope.core 3) := by
  have htrans : (s.begin t).md.trans = some x := hx
  have hsleep : x.target ≠ Mode.SLEEP := by
    rw [hupdate]
    decide
  simp only [exec, execModeChange, htrans, if_neg hsleep, if_pos hupdate]

theorem updateReset_coreHeld {s : State} {x : TransS} (h : s.rst.held = false) :
    CoreHeld 6 ((s.completeTransition x).assertReset 6 Scope.core 3) :=
  assertReset_coreHeld ((congrArg RstS.held (completeTransition_quiet s x).rst).trans h) 6 3

/-- A section of the image that fails its check resets the core, and MODE_IMAGE is logged (R514). -/
theorem modeImage_exec {s : State} (h : s.mode ∉ [Mode.OFF, Mode.SLEEP, Mode.TRAILHEAD]) (t k : Nat) :
    exec (.modeImage t k) s = .next (((s.begin t).assertReset 6 Scope.core 3).log 0xB024 [(k : Int)]) := by
  have hmode : ¬[Mode.OFF, Mode.SLEEP, Mode.TRAILHEAD].contains s.mode = true := by simpa using h
  exact congrArg Host.Outcome.next (if_neg hmode)

theorem Logged.any {s u : State} {code : Nat} {payload : List Int} (h : Logged s u code payload) :
    u.mirror.window.any (fun e => e.code = code && e.payload = payload) = true := by
  obtain ⟨e, he, hcode, hpayload, -⟩ := h
  exact List.any_eq_true.mpr ⟨e, he, by simp [hcode, hpayload]⟩

/-! ### The statement -/

/-- Settles O52: each clause is the lemma of its command, most of them through `Begun`, `Entered` or `CoreHeld`. -/
theorem modesComplete : Obligations.ModesComplete := by
  unfold Obligations.ModesComplete
  refine ⟨?accepted, ?refused, ?waits, ?safeStop, ?changed, ?sleeps, ?updates, ?noticed, ?causeSet, ?causeCleared,
    ?sleepEntry, ?wakes, ?lineFalls, ?image⟩
  case accepted =>
    intro t n m c s hn hopen hturn _ hworker hsize hupd hclass hmay hcauses hservice hwalk hharvest
    obtain ⟨u, hexec, hbegun, hsent⟩ := modeRequest_accepted hn hopen hturn hworker hsize hupd hclass hmay hcauses
      hservice hwalk hharvest t
    exact ⟨u, hexec, congrArg ModeS.trans hbegun.md, hbegun.shown, hbegun.mode, hbegun.stopped, hsent,
      hbegun.told hworker, hbegun.gate⟩
  case refused =>
    intro t n m s hn hopen hturn hrefused hroom
    have hjudge := judgeMode_refused (s := s.inTurn t n (.mode m)) (n := n) (m := m) hrefused
    obtain ⟨hmd, hfn, hsent, hlogged, hregs⟩ := refuseMode_left (s := s.inTurn t n (.mode m)) (m := m) hn hopen hroom
    exact ⟨_, congrArg Host.Outcome.next ((gated_of_turn hn hturn t _).trans hjudge), hmd, hfn, hsent, hlogged,
      (RegsKept.of_reg rfl).trans hregs⟩
  case waits =>
    intro t n m x s hn hx hupd hroom
    have hblocked : s.blocked (.mode m) = true := by simp [State.blocked, hx, hupd]
    obtain ⟨hgate, -, -, -, -, -, hregs⟩ := waiting_only s t n (.mode m)
    exact ⟨_, congrArg Host.Outcome.next (gated_of_blocked (kind := .mode m) hn hblocked hroom t _), rfl, hgate, hregs⟩
  case safeStop =>
    intro t s hwanted hnone hworker hsize hclass
    have hbegun := startTransition_begun (s.begin t) Mode.SAFE_STOP
    refine ⟨_, modeTransitionStart_exec hwanted hnone hworker hsize hclass t, congrArg ModeS.trans hbegun.md,
      hbegun.shown, hbegun.mode, hbegun.stopped, (congrArg ModeS.wanted hbegun.md).trans ?_⟩
    exact Bool.and_false _
  case changed =>
    intro t l x s hx hsleep hupdate hworkers hpast hroom
    have hentered := Entered.of_quiet (completeTransition_quiet (s.begin t) x)
    exact ⟨_, modeChange_completes hx hsleep hupdate hworkers t, hentered.mode, congrArg ModeS.trans hentered.md,
      hentered.prev, hentered.shown, completeTransition_logged (s := s.begin t) hroom hpast,
      fun hworker => completeTransition_told (s := s.begin t) hworker x⟩
  case sleeps =>
    intro t l x s hx hsleep hidle
    obtain ⟨hmode, htrans, hprev, hheld, hfn, hcore⟩ := goSleep_left (s.begin t) x
    exact ⟨_, modeChange_sleeps hx hsleep hidle t, hmode, htrans, hprev, hheld, hfn, hcore⟩
  case updates =>
    intro t l x s hx hupdate hheld
    have hcore := updateReset_coreHeld (s := s.begin t) (x := x) hheld
    exact ⟨_, modeChange_updates hx hupdate t, hcore.mode, hcore.held, hcore.source, hcore.scope, hcore.trans⟩
  case noticed =>
    intro t m s hworker hmode hm htarget
    have hbegun := startTransition_begun (s.begin t) m
    exact ⟨_, workerModeNotice_exec hworker hmode hm htarget t, congrArg ModeS.trans hbegun.md, hbegun.shown,
      hbegun.mode, hbegun.stopped⟩
  case causeSet =>
    intro t k s hworker
    have hexec := workerSafeStopReport_set hworker t k
    rw [setCause_manager (s := s.reported t k true) hworker] at hexec
    exact ⟨_, hexec, rfl, causeSet_hasCause (s.reported t k true) Cause.worker true, rfl,
      (RegsExact.of_reg rfl).trans (causeSet_regs (s.reported t k true) Cause.worker true)⟩
  case causeCleared =>
    intro t k s hworker
    exact workerSafeStopReport_cleared hworker t k
  case sleepEntry =>
    intro t s hdue
    exact sleepEntry_begun hdue
  case wakes =>
    intro t s hmode hheld henabled hrefresh
    have hawake : (s.lineChanged t 1 true).awake = true := awake_of_line (bitOf_setBit_true _ _) henabled
    exact ⟨_, wake_fromSleep hmode hheld henabled hrefresh t, rfl, rfl, rfl, bitOf_setBit_true _ _,
      lineNoted_wakeOff hawake, hmode, RegsExact.of_reg rfl⟩
  case lineFalls =>
    intro t k s _ _ hwake _
    obtain ⟨hexec, hnone, hoff⟩ := wake_lineFalls hwake t
    exact ⟨_, hexec, hnone, hoff, rfl, RegsExact.of_reg rfl⟩
  case image =>
    intro t k s hmode hheld
    have hcore := assertReset_coreHeld (s := s.begin t) hheld 6 3
    have hlog := (State.log_follows ((s.begin t).assertReset 6 Scope.core 3) 0xB024 [(k : Int)] 2 false false
      none).frame
    have hrd : ∀ key, key ∉ streamRegs → (((s.begin t).assertReset 6 Scope.core 3).log 0xB024 [(k : Int)]).rd key =
        ((s.begin t).assertReset 6 Scope.core 3).rd key := fun key hkey => log_rd _ _ _ _ _ _ _ key hkey
    refine ⟨_, modeImage_exec hmode t k, (hrd _ (by decide)).trans hcore.mode,
      (congrArg RstS.held (hlog .rst (by decide))).trans hcore.held, (hrd _ (by decide)).trans hcore.source,
      (hrd _ (by decide)).trans hcore.scope, ?_⟩
    exact (logged_of_le 0xB024 [(k : Int)] 2 false false none hcore.window (Nat.le_refl _)).any

end Sys2Proof.Machine
end

section
/-! SUPPORT. Elapsed time (log entry 1): the command that begins moves it on, and no operation after it touches
it. -/

namespace Sys2Proof.Machine

-- One theorem after the other: so many elaborated side by side need more threads than the memory limit has stacks for.
set_option Elab.async false

/-! ### What an operation leaves of elapsed time -/

theorem Follows.now {l : List Part} {s t : State} (h : Follows l s t) (hl : Part.now ∉ l := by decide) :
    t.now = s.now := h.frame .now hl

section Operations

variable (s : State)

@[simp] theorem reply_now (session code : Nat) (data : List Int) : (s.reply session code data).now = s.now :=
  (State.reply_follows ..).now
@[simp] theorem bump_now (key m : Nat) : (s.bump key m).now = s.now := (State.bump_follows ..).now
@[simp] theorem bbPush_now (it : BbItem) : (s.bbPush it).now = s.now := (State.bbPush_follows ..).now
@[simp] theorem raise_now (key v : Nat) : (s.raise key v).now = s.now := (State.raise_follows ..).now
@[simp] theorem arrive_now (e : Event) : (s.arrive e).now = s.now := (State.arrive_follows ..).now
@[simp] theorem ownEvent_now (e : Event) : (s.ownEvent e).now = s.now := (State.ownEvent_follows ..).now
@[simp] theorem log_now (code : Nat) (payload : List Int) (island : Nat) (esc fault : Bool) (input : Option Int) :
    (s.log code payload island esc fault input).now = s.now := (State.log_follows ..).now
@[simp] theorem logOnce_now (code scope period : Nat) (payload : List Int) (island : Nat) (fault : Bool) :
    (s.logOnce code scope period payload island fault).now = s.now := (State.logOnce_follows ..).now
@[simp] theorem publish_now (stream bytes : Nat) (data : List Int) : (s.publish stream bytes data).now = s.now :=
  (State.publish_follows ..).now
@[simp] theorem dtcOff_now (p : Nat → List Int → Bool) : (s.dtcOff p).now = s.now := (State.dtcOff_follows ..).now
@[simp] theorem enqueue_now (num : Nat) (kind : ReqKind) : (s.enqueue num kind).now = s.now :=
  (State.enqueue_follows ..).now
@[simp] theorem amendCount_now : s.amendCount.now = s.now := (State.amendCount_follows ..).now
@[simp] theorem turnDown_now (session code : Nat) : (s.turnDown session code).now = s.now :=
  (State.turnDown_follows ..).now
@[simp] theorem notLive_now (num key : Nat) : (s.notLive num key).now = s.now := (State.notLive_follows ..).now
@[simp] theorem liveWrite_now (num key v : Nat) (valueOk : Bool) : (s.liveWrite num key v valueOk).now = s.now :=
  (State.liveWrite_follows ..).now
@[simp] theorem cancelWhere_now (p : SlotS → Bool) : (s.cancelWhere p).now = s.now :=
  (State.cancelWhere_follows ..).now
@[simp] theorem setSlot_now (n : Nat) (e : SlotS) : (s.setSlot n e).now = s.now := (State.setSlot_follows ..).now
@[simp] theorem pdLog_now (code : Nat) (payload : List Int) (fault : Bool) :
    (s.pdLog code payload fault).now = s.now := (State.pdLog_follows ..).now
@[simp] theorem pdLogOnce_now (code scope period : Nat) (payload : List Int) (fault : Bool) :
    (s.pdLogOnce code scope period payload fault).now = s.now := (State.pdLogOnce_follows ..).now
@[simp] theorem abortTest_now (kind ch : Nat) : (s.abortTest kind ch).now = s.now := (State.abortTest_follows ..).now
@[simp] theorem pdCommand_now : s.pdCommand.now = s.now := (State.pdCommand_follows ..).now
@[simp] theorem setBackup_now (b : Bool) : (s.setBackup b).now = s.now := (State.setBackup_follows ..).now
@[simp] theorem pcRequest_now : s.pcRequest.now = s.now := (State.pcRequest_follows ..).now
@[simp] theorem disengage_now (reason : Nat) (input : Option Int) : (s.disengage reason input).now = s.now :=
  (State.disengage_follows ..).now
@[simp] theorem noteMoist_now (stamp : Int) (value : Nat) : (s.noteMoist stamp value).now = s.now :=
  (State.noteMoist_follows ..).now
@[simp] theorem setCam_now (cam : Nat) (v : CamS) : (s.setCam cam v).now = s.now := (State.setCam_follows ..).now
@[simp] theorem camLog_now (code cam : Nat) (payload : List Int) : (s.camLog code cam payload).now = s.now :=
  (State.camLog_follows ..).now
@[simp] theorem setCamState_now (cam st : Nat) : (s.setCamState cam st).now = s.now :=
  (State.setCamState_follows ..).now
@[simp] theorem cropWrite_now (num cam out field v : Nat) : (s.cropWrite num cam out field v).now = s.now :=
  (State.cropWrite_follows ..).now
@[simp] theorem loseLink_now (cam : Nat) : (s.loseLink cam).now = s.now := (State.loseLink_follows ..).now
@[simp] theorem setPhase_now (ch p : Nat) : (s.setPhase ch p).now = s.now := (State.setPhase_follows ..).now
@[simp] theorem serveBank_now (b : Nat) : (s.serveBank b).now = s.now := (State.serveBank_follows ..).now
@[simp] theorem valveOff_now (ch : Nat) (fast : Bool) : (s.valveOff ch fast).now = s.now :=
  (State.valveOff_follows ..).now
@[simp] theorem thermosValves_now : s.thermosValves.now = s.now := (State.thermosValves_follows ..).now
@[simp] theorem endValveReset_now (ch : Nat) : (s.endValveReset ch).now = s.now := (State.endValveReset_follows ..).now
@[simp] theorem regulate_now (ch phase ma : Nat) : (s.regulate ch phase ma).now = s.now :=
  (State.regulate_follows ..).now
@[simp] theorem resetValves_now (scope : Nat) : (s.resetValves scope).now = s.now := (State.resetValves_follows ..).now
@[simp] theorem stepRamp_now (ch : Nat) : (s.stepRamp ch).now = s.now := (State.stepRamp_follows ..).now
@[simp] theorem setRail_now (b rail : Nat) : (s.setRail b rail).now = s.now := (State.setRail_follows ..).now
@[simp] theorem enterHold_now (ch : Nat) : (s.enterHold ch).now = s.now := (State.enterHold_follows ..).now
@[simp] theorem setActPhase_now (ch p : Nat) : (s.setActPhase ch p).now = s.now := (State.setActPhase_follows ..).now
@[simp] theorem latchValve_now (ch fault : Nat) : (s.latchValve ch fault).now = s.now :=
  (State.latchValve_follows ..).now
@[simp] theorem startProfile_now (ch p cur key : Nat) : (s.startProfile ch p cur key).now = s.now :=
  (State.startProfile_follows ..).now
@[simp] theorem switchTimed_now : s.switchTimed.now = s.now := (State.switchTimed_follows ..).now
@[simp] theorem compareCopy_now : s.compareCopy.now = s.now := (State.compareCopy_follows ..).now
@[simp] theorem resetSwitches_now (scope : Nat) : (s.resetSwitches scope).now = s.now :=
  (State.resetSwitches_follows ..).now
@[simp] theorem walkValves_now : s.walkValves.now = s.now := (State.walkValves_follows ..).now
@[simp] theorem clearSwitch_now (n mj : Nat) : (s.clearSwitch n mj).now = s.now := (State.clearSwitch_follows ..).now
@[simp] theorem setCan_now (ch : Nat) (c : CanS) : (s.setCan ch c).now = s.now := (State.setCan_follows ..).now
@[simp] theorem feedStack_now (ch x1 : Nat) : (s.feedStack ch x1).now = s.now := (State.feedStack_follows ..).now
@[simp] theorem sendClaim_now (ch addr : Nat) : (s.sendClaim ch addr).now = s.now := (State.sendClaim_follows ..).now
@[simp] theorem dropAged_now (ch x1 : Nat) : (s.dropAged ch x1).now = s.now := (State.dropAged_follows ..).now
@[simp] theorem setLoop_now (l : Nat) (v : LoopS) : (s.setLoop l v).now = s.now := (State.setLoop_follows ..).now
@[simp] theorem abortTune_now (l result : Nat) : (s.abortTune l result).now = s.now := (State.abortTune_follows ..).now
@[simp] theorem orderStopped_now (f : Nat) : (s.orderStopped f).now = s.now := (State.orderStopped_follows ..).now
@[simp] theorem stopFn_now (f cause : Nat) (input : Option Int) : (s.stopFn f cause input).now = s.now :=
  (State.stopFn_follows ..).now
@[simp] theorem setIdx_now (f i : Nat) (v : IdxS) : (s.setIdx f i v).now = s.now := (State.setIdx_follows ..).now
@[simp] theorem endOverrides_now (session dataId : Nat) : (s.endOverrides session dataId).now = s.now :=
  (State.endOverrides_follows ..).now
@[simp] theorem stopAny_now (f cause : Nat) : (s.stopAny f cause).now = s.now := (State.stopAny_follows ..).now
@[simp] theorem publishSide_now (fn : Nat) (x : Side) : (s.publishSide fn x).now = s.now :=
  (State.publishSide_follows ..).now
@[simp] theorem publishGuide_now : s.publishGuide.now = s.now := (State.publishGuide_follows ..).now
@[simp] theorem setDomains_now : s.setDomains.now = s.now := (State.setDomains_follows ..).now
@[simp] theorem setCoreRail_now : s.setCoreRail.now = s.now := (State.setCoreRail_follows ..).now
@[simp] theorem resetRecord_now (source scope plane : Nat) : (s.resetRecord source scope plane).now = s.now :=
  (State.resetRecord_follows ..).now
@[simp] theorem clearCause_now (bit : Nat) : (s.clearCause bit).now = s.now := (State.clearCause_follows ..).now
@[simp] theorem setCause_now (bit : Nat) : (s.setCause bit).now = s.now := (State.setCause_follows ..).now
@[simp] theorem bbAnchor_now : s.bbAnchor.now = s.now := (State.bbAnchor_follows ..).now
@[simp] theorem timeRegs_now : s.timeRegs.now = s.now := (State.timeRegs_follows ..).now
@[simp] theorem reanchor_now (add err : Int) : (s.reanchor add err).now = s.now := (State.reanchor_follows ..).now
@[simp] theorem trim_now (err : Int) : (s.trim err).now = s.now := (State.trim_follows ..).now
@[simp] theorem setQual_now (q : Nat) : (s.setQual q).now = s.now := (State.setQual_follows ..).now
@[simp] theorem becomeGood_now (resid : Int) : (s.becomeGood resid).now = s.now := (State.becomeGood_follows ..).now
@[simp] theorem startSlew_now (err : Int) : (s.startSlew err).now = s.now := (State.startSlew_follows ..).now
@[simp] theorem doStep_now (err : Int) : (s.doStep err).now = s.now := (State.doStep_follows ..).now
@[simp] theorem sourceBack_now (err : Int) (othersEmpty : Bool) : (s.sourceBack err othersEmpty).now = s.now :=
  (State.sourceBack_follows ..).now
@[simp] theorem loadTime_now : s.loadTime.now = s.now := (State.loadTime_follows ..).now
@[simp] theorem calibrateRtc_now : s.calibrateRtc.now = s.now := (State.calibrateRtc_follows ..).now
@[simp] theorem enterHoldover_now : s.enterHoldover.now = s.now := (State.enterHoldover_follows ..).now
@[simp] theorem abandonSlew_now : s.abandonSlew.now = s.now := (State.abandonSlew_follows ..).now
@[simp] theorem startGnss_now (t0 : Nat) (bad : Option (Nat × Nat)) : (s.startGnss t0 bad).now = s.now :=
  (State.startGnss_follows ..).now
@[simp] theorem fleetDown_now (conn : Nat) : (s.fleetDown conn).now = s.now := (State.fleetDown_follows ..).now
@[simp] theorem writeRetention_now : s.writeRetention.now = s.now := (State.writeRetention_follows ..).now
@[simp] theorem releaseIdle_now : s.releaseIdle.now = s.now := (State.releaseIdle_follows ..).now
@[simp] theorem failTransfers_now (l : List Nat) : (s.failTransfers l).now = s.now :=
  (State.failTransfers_follows ..).now
@[simp] theorem islandDown_now (isl : Nat) : (s.islandDown isl).now = s.now := (State.islandDown_follows ..).now
@[simp] theorem setIsland_now (n : Nat) (v : IslS) : (s.setIsland n v).now = s.now := (State.setIsland_follows ..).now
@[simp] theorem blockRestart_now (isl : Nat) (ok : Bool) : (s.blockRestart isl ok).now = s.now :=
  (State.blockRestart_follows ..).now
@[simp] theorem restartBlock_now (block : Nat) : (s.restartBlock block).now = s.now :=
  (State.restartBlock_follows ..).now
@[simp] theorem setSoln_now (new nsv : Nat) : (s.setSoln new nsv).now = s.now := (State.setSoln_follows ..).now
@[simp] theorem dataReleased_now : s.dataReleased.now = s.now := (State.dataReleased_follows ..).now
@[simp] theorem islandUp_now (isl : Nat) : (s.islandUp isl).now = s.now := (State.islandUp_follows ..).now
@[simp] theorem dataCut_now : s.dataCut.now = s.now := (State.dataCut_follows ..).now
@[simp] theorem endRefresh_now (result : Nat) : (s.endRefresh result).now = s.now := (State.endRefresh_follows ..).now
@[simp] theorem loseRetention_now : s.loseRetention.now = s.now := (State.loseRetention_follows ..).now
@[simp] theorem denyAccess_now (master region : Nat) (write : Bool) : (s.denyAccess master region write).now = s.now :=
  (State.denyAccess_follows ..).now
@[simp] theorem drain_now (num n : Nat) : (s.drain num n).now = s.now := (State.drain_follows ..).now
@[simp] theorem eccCorrected_now (memory offset : Nat) : (s.eccCorrected memory offset).now = s.now :=
  (State.eccCorrected_follows ..).now
@[simp] theorem remoteFn_now (code : Nat) (payload : List Int) (stamp : Int) :
    (s.remoteFn code payload stamp).now = s.now := (State.remoteFn_follows ..).now
@[simp] theorem lockedWrite_now (master : Nat) : (s.lockedWrite master).now = s.now :=
  (State.lockedWrite_follows ..).now
@[simp] theorem destroyEntry_now (slot : Nat) : (s.destroyEntry slot).now = s.now :=
  (State.destroyEntry_follows ..).now
@[simp] theorem showLoads_now : s.showLoads.now = s.now := (State.showLoads_follows ..).now
@[simp] theorem setUi_now (n : Nat) (u : UiS) : (s.setUi n u).now = s.now := (State.setUi_follows ..).now
@[simp] theorem convert_now (n : Nat) (r : ReadingIn) : (s.convert n r).now = s.now := (State.convert_follows ..).now
@[simp] theorem fireDue_now (p : SlotS → Bool) : (s.fireDue p).now = s.now := (State.fireDue_follows ..).now
@[simp] theorem showBind_now (n : Nat) : (s.showBind n).now = s.now := (State.showBind_follows ..).now
@[simp] theorem setBind_now (n : Nat) (b : BindS) : (s.setBind n b).now = s.now := (State.setBind_follows ..).now
@[simp] theorem judgeDrift_now (n : Nat) : (s.judgeDrift n).now = s.now := (State.judgeDrift_follows ..).now
@[simp] theorem takeTransport_now (ch id : Nat) (ide : Bool) (data : List Nat) :
    (s.takeTransport ch id ide data).now = s.now := (State.takeTransport_follows ..).now
@[simp] theorem setSession_now (num : Nat) (f : SessionS → SessionS) : (s.setSession num f).now = s.now :=
  (State.setSession_follows ..).now
@[simp] theorem respond_now (num : Nat) (m : MsgIn) (before : Nat) : (s.respond num m before).now = s.now :=
  (State.respond_follows ..).now
@[simp] theorem closeSession_now (num reason : Nat) : (s.closeSession num reason).now = s.now :=
  (State.closeSession_follows ..).now
@[simp] theorem discard_now (num : Nat) : (s.discard num).now = s.now := (State.discard_follows ..).now
@[simp] theorem touch_now (num : Nat) : (s.touch num).now = s.now := (State.touch_follows ..).now
@[simp] theorem protect_now (num : Nat) (m : MsgIn) : (s.protect num m).2.now = s.now :=
  (State.protect_follows ..).now
@[simp] theorem holdBlock_now (first : Nat) : (s.holdBlock first).now = s.now := (State.holdBlock_follows ..).now
@[simp] theorem handOut_now (unit : Nat) : (s.handOut unit).now = s.now := (State.handOut_follows ..).now
@[simp] theorem askSeq_now : s.askSeq.now = s.now := (State.askSeq_follows ..).now
@[simp] theorem saveCtrl_now : s.saveCtrl.now = s.now := (State.saveCtrl_follows ..).now
@[simp] theorem bbWrite_now (it : BbItem) (stepsDone : Nat) : (s.bbWrite it stepsDone).now = s.now :=
  (State.bbWrite_follows ..).now
@[simp] theorem fireSlot_now (n : Nat) (late : Bool) : (s.fireSlot n late).now = s.now :=
  (State.fireSlot_follows ..).now
@[simp] theorem insertEntry_now (session unit : Nat) (entry : EntryIn) (remote : Nat × List Int) :
    (s.insertEntry session unit entry remote).now = s.now := (State.insertEntry_follows ..).now
@[simp] theorem dropSlot_now (n : Nat) : (s.dropSlot n).now = s.now := (State.dropSlot_follows ..).now
@[simp] theorem unusedFn_now (session f i : Nat) : (s.unusedFn session f i).now = s.now :=
  (State.unusedFn_follows ..).now
@[simp] theorem takeSide_now (f : Nat) (instant : Int) : (s.takeSide f instant).now = s.now :=
  (State.takeSide_follows ..).now
@[simp] theorem sendAmend_now (session req : Nat) : (s.sendAmend session req).now = s.now :=
  (State.sendAmend_follows ..).now
@[simp] theorem guideLaunch_now : s.guideLaunch.now = s.now := (State.guideLaunch_follows ..).now
@[simp] theorem launchOpen_now (f : Nat) : (s.launchOpen f).now = s.now := (State.launchOpen_follows ..).now
@[simp] theorem dueRestart_now (f : Nat) (instant : Int) (readings : List (Nat × Nat)) :
    (s.dueRestart f instant readings).1.now = s.now := (State.dueRestart_follows ..).now
@[simp] theorem requestRestart_now (session fn : Nat) (tj : Int) (remote : Nat × List Int) :
    (s.requestRestart session fn tj remote).now = s.now := (State.requestRestart_follows ..).now
@[simp] theorem launchFade_now (f : Nat) (instant : Int) (was : List ℚ) : (s.launchFade f instant was).now = s.now :=
  (State.launchFade_follows ..).now
@[simp] theorem judgeStale_now (f : Nat) (instant : Int) : (s.judgeStale f instant).now = s.now :=
  (State.judgeStale_follows ..).now
@[simp] theorem launchIdx_now (f : Nat) (instant : Int) (h : ℚ) (move : Bool) (i : Nat) :
    (s.launchIdx f instant h move i).now = s.now := (State.launchIdx_follows ..).now
@[simp] theorem showRunning_now (f : Nat) (instant : Int) : (s.showRunning f instant).now = s.now :=
  (State.showRunning_follows ..).now
@[simp] theorem launchCan_now (f : Nat) : (s.launchCan f).now = s.now := (State.launchCan_follows ..).now
@[simp] theorem showOpt_now : s.showOpt.now = s.now := (State.showOpt_follows ..).now
@[simp] theorem insertShots_now (l : List (Nat × Nat × Int)) : (s.insertShots l).now = s.now :=
  (State.insertShots_follows ..).now
@[simp] theorem obsBegin_now : s.obsBegin.now = s.now := (State.obsBegin_follows ..).now
@[simp] theorem obsStop_now (cause : Nat) : (s.obsStop cause).now = s.now := (State.obsStop_follows ..).now
@[simp] theorem obsMode_now : s.obsMode.now = s.now := (State.obsMode_follows ..).now
@[simp] theorem setWh_now (port : Nat) (w : WhistleS) : (s.setWh port w).now = s.now := (State.setWh_follows ..).now
@[simp] theorem sendWhistle_now (port typ aux : Nat) : (s.sendWhistle port typ aux).now = s.now :=
  (State.sendWhistle_follows ..).now
@[simp] theorem roundTrip_now (port delay : Nat) : (s.roundTrip port delay).now = s.now :=
  (State.roundTrip_follows ..).now
@[simp] theorem followMarker_now (port typ : Nat) (bytes : List Nat) (marker : Int) :
    (s.followMarker port typ bytes marker).now = s.now := (State.followMarker_follows ..).now
@[simp] theorem judgeShed_now (pace : Nat) : (s.judgeShed pace).now = s.now := (State.judgeShed_follows ..).now
@[simp] theorem judgeLow_now (pace : Nat) : (s.judgeLow pace).now = s.now := (State.judgeLow_follows ..).now
@[simp] theorem excludeRings_now (laps : List Nat) : (s.excludeRings laps).now = s.now :=
  (State.excludeRings_follows ..).now
@[simp] theorem publishPace_now (pace : Nat) : (s.publishPace pace).now = s.now := (State.publishPace_follows ..).now
@[simp] theorem countStall_now (isl : Nat) (toIsland : Bool) : (s.countStall isl toIsland).now = s.now :=
  (State.countStall_follows ..).now
@[simp] theorem readFifo_now (isl : Nat) (toIsland : Bool) (x1 : Nat) : (s.readFifo isl toIsland x1).now = s.now :=
  (State.readFifo_follows ..).now
@[simp] theorem readEntry_now (num : Nat) (e : ObjIn) : (s.readEntry num e).now = s.now :=
  (State.readEntry_follows ..).now
@[simp] theorem refuseHello_now (h : HelloIn) (code : Nat) : (s.refuseHello h code).now = s.now :=
  (State.refuseHello_follows ..).now
@[simp] theorem admission_now (h : HelloIn) (cls : Nat) : (s.admission h cls).now = s.now :=
  (State.admission_follows ..).now
@[simp] theorem nextWrite_now (num key v : Nat) (valueOk : Bool) : (s.nextWrite num key v valueOk).now = s.now :=
  (State.nextWrite_follows ..).now
@[simp] theorem writeEntry_now (num code : Nat) (e : ObjIn) (raw : Nat) : (s.writeEntry num code e raw).now = s.now :=
  (State.writeEntry_follows ..).now
@[simp] theorem gateNote_now (num : Nat) (kind : ReqKind) (code : Nat) : (s.gateNote num kind code).now = s.now :=
  (State.gateNote_follows ..).now
@[simp] theorem loadImage_now (img : ImageIn) (role : RoleS) : (s.loadImage img role).now = s.now :=
  (State.loadImage_follows ..).now
@[simp] theorem gatherOne_now (t0 : Int) (x : ObsIn) : (s.gatherOne t0 x).now = s.now :=
  (State.gatherOne_follows ..).now
@[simp] theorem obsComplete_now (st : ObsStepS) (net : NetIn) : (s.obsComplete st net).now = s.now :=
  (State.obsComplete_follows ..).now
@[simp] theorem obsOverrun_now : s.obsOverrun.now = s.now := (State.obsOverrun_follows ..).now
@[simp] theorem stampOrder_now : s.stampOrder.now = s.now := (State.stampOrder_follows ..).now
@[simp] theorem publishCycle_now : s.publishCycle.now = s.now := (State.publishCycle_follows ..).now
@[simp] theorem takeMaps_now (maps : List (Nat × Nat × Nat)) : (s.takeMaps maps).now = s.now :=
  (State.takeMaps_follows ..).now
@[simp] theorem takeChoice_now (c : CandIn) : (s.takeChoice c).now = s.now := (State.takeChoice_follows ..).now
@[simp] theorem setNode_now (port : Nat) (n : NodeS) : (s.setNode port n).now = s.now := (State.setNode_follows ..).now
@[simp] theorem driveWhistle_now (port : Nat) (on : Bool) : (s.driveWhistle port on).now = s.now :=
  (State.driveWhistle_follows ..).now
@[simp] theorem takeSignal_now (ch : Nat) (f : CanIn) (stamp : Int) (n : Nat) :
    (s.takeSignal ch f stamp n).now = s.now := (State.takeSignal_follows ..).now
@[simp] theorem setTrunk_now (port : Nat) (v : TrunkS) : (s.setTrunk port v).now = s.now :=
  (State.setTrunk_follows ..).now
@[simp] theorem upstreamLost_now (port : Nat) : (s.upstreamLost port).now = s.now :=
  (State.upstreamLost_follows ..).now
@[simp] theorem answerDm1_now (ch : Nat) (f : CanIn) : (s.answerDm1 ch f).now = s.now :=
  (State.answerDm1_follows ..).now
@[simp] theorem takePgn_now (ch : Nat) (f : CanIn) (stamp : Int) : (s.takePgn ch f stamp).now = s.now :=
  (State.takePgn_follows ..).now
@[simp] theorem pcRecord_now (frame band result : Nat) (commons : List Nat) :
    (s.pcRecord frame band result commons).now = s.now := (State.pcRecord_follows ..).now
@[simp] theorem railsDown_now : s.railsDown.now = s.now := (State.railsDown_follows ..).now
@[simp] theorem pcLatch_now (temp : Int) (full fromSched : Bool) : (s.pcLatch temp full fromSched).now = s.now :=
  (State.pcLatch_follows ..).now
@[simp] theorem setWaiting_now (e : Nat) (q : List SampleS) : (s.setWaiting e q).now = s.now :=
  (State.setWaiting_follows ..).now
@[simp] theorem runNext_now (e : Nat) : (s.runNext e).now = s.now := (State.runNext_follows ..).now
@[simp] theorem runAll_now (e x1 : Nat) : (s.runAll e x1).now = s.now := (State.runAll_follows ..).now
@[simp] theorem evalAgain_now (l : Nat) (c : CheckS) : (s.evalAgain l c).now = s.now :=
  (State.evalAgain_follows ..).now
@[simp] theorem stopEngine_now (e : Nat) : (s.stopEngine e).1.now = s.now := (State.stopEngine_follows ..).now
@[simp] theorem judgePeak_now (ch : Nat) (ttp : Option Nat) : (s.judgePeak ch ttp).now = s.now :=
  (State.judgePeak_follows ..).now
@[simp] theorem badValve_now (ch src : Nat) : (s.badValve ch src).now = s.now := (State.badValve_follows ..).now
@[simp] theorem keepCurrent_now (ch : Nat) (afterReset : Bool) : (s.keepCurrent ch afterReset).now = s.now :=
  (State.keepCurrent_follows ..).now
@[simp] theorem setTarget_now (ch ma src : Nat) : (s.setTarget ch ma src).now = s.now :=
  (State.setTarget_follows ..).now
@[simp] theorem stopChannel_now (ch : Nat) : (s.stopChannel ch).now = s.now := (State.stopChannel_follows ..).now
@[simp] theorem bankFault_now (b fault holder : Nat) : (s.bankFault b fault holder).now = s.now :=
  (State.bankFault_follows ..).now
@[simp] theorem offCommand_now (ch : Nat) (fast : Bool) : (s.offCommand ch fast).now = s.now :=
  (State.offCommand_follows ..).now
@[simp] theorem coilStep_now (tmod : ℚ) (c : CoilIn) : (s.coilStep tmod c).now = s.now :=
  (State.coilStep_follows ..).now
@[simp] theorem watchOpen_now (ch mean : Nat) : (s.watchOpen ch mean).now = s.now := (State.watchOpen_follows ..).now
@[simp] theorem stopSwitchFns_now (chs : List Nat) : (s.stopSwitchFns chs).now = s.now :=
  (State.stopSwitchFns_follows ..).now
@[simp] theorem drive_now (n mj : Nat) : (s.drive n mj).now = s.now := (State.drive_follows ..).now
@[simp] theorem driveAll_now (clamps : List (Nat × Nat)) : (s.driveAll clamps).now = s.now :=
  (State.driveAll_follows ..).now
@[simp] theorem takeCommand_now (n : Nat) (on : Bool) (mj : Nat) : (s.takeCommand n on mj).now = s.now :=
  (State.takeCommand_follows ..).now
@[simp] theorem coreDead_now (clamps : List (Nat × Nat)) : (s.coreDead clamps).now = s.now :=
  (State.coreDead_follows ..).now
@[simp] theorem enterMode_now (m : Nat) : (s.enterMode m).now = s.now := (State.enterMode_follows ..).now
@[simp] theorem completeTransition_now (x : TransS) : (s.completeTransition x).now = s.now :=
  (State.completeTransition_follows ..).now
@[simp] theorem cancelOnMode_now (target : Nat) : (s.cancelOnMode target).now = s.now :=
  (State.cancelOnMode_follows ..).now
@[simp] theorem startTransition_now (target : Nat) : (s.startTransition target).now = s.now :=
  (State.startTransition_follows ..).now
@[simp] theorem sleepFlush_now (x : TransS) : (s.sleepFlush x).now = s.now := (State.sleepFlush_follows ..).now
@[simp] theorem sleepSwitches_now : s.sleepSwitches.now = s.now := (State.sleepSwitches_follows ..).now
@[simp] theorem enginesOut_now : s.enginesOut.now = s.now := (State.enginesOut_follows ..).now
@[simp] theorem startManagement_now (serial : Nat) : (s.startManagement serial).now = s.now :=
  (State.startManagement_follows ..).now
@[simp] theorem startUnit_now (serial : Nat) : (s.startUnit serial).now = s.now := (State.startUnit_follows ..).now
@[simp] theorem readPacks_now : s.readPacks.now = s.now := (State.readPacks_follows ..).now
@[simp] theorem unconfigured_now : s.unconfigured.now = s.now := (State.unconfigured_follows ..).now
@[simp] theorem confirmSlot_now : s.confirmSlot.now = s.now := (State.confirmSlot_follows ..).now
@[simp] theorem takeImage_now (img : ImageIn) (uid source : Nat) : (s.takeImage img uid source).now = s.now :=
  (State.takeImage_follows ..).now
@[simp] theorem storeShadow_now : s.storeShadow.now = s.now := (State.storeShadow_follows ..).now
@[simp] theorem beginRelease_now (start : StartIn) : (s.beginRelease start).now = s.now :=
  (State.beginRelease_follows ..).now
@[simp] theorem startThermos_now : s.startThermos.now = s.now := (State.startThermos_follows ..).now
@[simp] theorem bootSlot_now (bad : List Nat) : (s.bootSlot bad).1.now = s.now := (State.bootSlot_follows ..).now
@[simp] theorem assignEngines_now (failing : List Nat) : (s.assignEngines failing).now = s.now :=
  (State.assignEngines_follows ..).now
@[simp] theorem loadPowerDie_now (wake : Bool) : (s.loadPowerDie wake).now = s.now :=
  (State.loadPowerDie_follows ..).now
@[simp] theorem busyTest_now (q : TestIn) (session : Nat) : (s.busyTest q session).now = s.now :=
  (State.busyTest_follows ..).now
@[simp] theorem sleepSave_now (mode : Nat) : (s.sleepSave mode).now = s.now := (State.sleepSave_follows ..).now
@[simp] theorem judgeMode_now (session target : Nat) : (s.judgeMode session target).now = s.now :=
  (State.judgeMode_follows ..).now
@[simp] theorem startTest_now (q : TestIn) (session : Nat) : (s.startTest q session).now = s.now :=
  (State.startTest_follows ..).now
@[simp] theorem setVbat_now (mv : Nat) : (s.setVbat mv).now = s.now := (State.setVbat_follows ..).now
@[simp] theorem parkPanel_now : s.parkPanel.now = s.now := (State.parkPanel_follows ..).now
@[simp] theorem crankLow_now (vmin : Nat) : (s.crankLow vmin).now = s.now := (State.crankLow_follows ..).now
@[simp] theorem bbFinal_now (vmin : Nat) : (s.bbFinal vmin).now = s.now := (State.bbFinal_follows ..).now
@[simp] theorem resetBlock_now (block : Nat) : (s.resetBlock block).now = s.now := (State.resetBlock_follows ..).now
@[simp] theorem takeWord_now (sig sv : Nat) (word : WordIn) : (s.takeWord sig sv word).now = s.now :=
  (State.takeWord_follows ..).now
@[simp] theorem setCh_now (n : Nat) (c : ChanS) : (s.setCh n c).now = s.now := (State.setCh_follows ..).now
@[simp] theorem setAnt_now (a : Nat) (v : AntS) : (s.setAnt a v).now = s.now := (State.setAnt_follows ..).now
@[simp] theorem setCor_now (n : Nat) (c : CorS) : (s.setCor n c).now = s.now := (State.setCor_follows ..).now
@[simp] theorem badRtcm_now (n : Nat) : (s.badRtcm n).now = s.now := (State.badRtcm_follows ..).now
@[simp] theorem takeNavUtc_now (sig : Nat) (utc : Option (Int × Nat)) : (s.takeNavUtc sig utc).now = s.now :=
  (State.takeNavUtc_follows ..).now
@[simp] theorem measRecords_now (meas : List MeasIn) : (s.measRecords meas).2.now = s.now :=
  (State.measRecords_follows ..).now
@[simp] theorem assignAll_now (view : List SigIn) : (s.assignAll view).now = s.now := (State.assignAll_follows ..).now
@[simp] theorem reacquire_now : s.reacquire.now = s.now := (State.reacquire_follows ..).now
@[simp] theorem slip_now (n : Nat) : (s.slip n).now = s.now := (State.slip_follows ..).now
@[simp] theorem takeRtcm_now (n : Nat) (msg : RtcmIn) : (s.takeRtcm n msg).now = s.now :=
  (State.takeRtcm_follows ..).now
@[simp] theorem publishPvt_now (p : PvtS) : (s.publishPvt p).now = s.now := (State.publishPvt_follows ..).now
@[simp] theorem judgeConns_now : s.judgeConns.now = s.now := (State.judgeConns_follows ..).now
@[simp] theorem judgeCor_now (epoch : Int) : (s.judgeCor epoch).now = s.now := (State.judgeCor_follows ..).now
@[simp] theorem solveHead_now (sol : SolIn) (soln : Nat) : (s.solveHead sol soln).2.now = s.now :=
  (State.solveHead_follows ..).now
@[simp] theorem solveTime_now (sol : SolIn) (soln : Nat) (usable : List Nat) :
    (s.solveTime sol soln usable).now = s.now := (State.solveTime_follows ..).now
@[simp] theorem markUsed_now (used : List Nat) : (s.markUsed used).now = s.now := (State.markUsed_follows ..).now
@[simp] theorem firstFix_now (soln : Nat) : (s.firstFix soln).now = s.now := (State.firstFix_follows ..).now
@[simp] theorem giveUp_now (unit : Nat) : (s.giveUp unit).now = s.now := (State.giveUp_follows ..).now
@[simp] theorem startWrite_now (session : Nat) (image : ImageIn) : (s.startWrite session image).now = s.now :=
  (State.startWrite_follows ..).now
@[simp] theorem takeBlock_now (n : Nat) (data : List Nat) : (s.takeBlock n data).now = s.now :=
  (State.takeBlock_follows ..).now
@[simp] theorem endTransfer_now : s.endTransfer.now = s.now := (State.endTransfer_follows ..).now
@[simp] theorem updRefused_now (session req cond : Nat) : (s.updRefused session req cond).now = s.now :=
  (State.updRefused_follows ..).now
@[simp] theorem updBusy_now (session req : Nat) : (s.updBusy session req).now = s.now := (State.updBusy_follows ..).now
@[simp] theorem openTransfer_now (session : Nat) (m : ManifestIn) : (s.openTransfer session m).now = s.now :=
  (State.openTransfer_follows ..).now
@[simp] theorem activateNow_now (session : Nat) (atNext : Bool) (m : ManifestIn) :
    (s.activateNow session atNext m).now = s.now := (State.activateNow_follows ..).now
@[simp] theorem publishTele_now (r : List Int) : (s.publishTele r).now = s.now := (State.publishTele_follows ..).now
@[simp] theorem fleetOpens_now (conn : Nat) (wlan : Bool) : (s.fleetOpens conn wlan).now = s.now :=
  (State.fleetOpens_follows ..).now
@[simp] theorem fleetFailed_now (conn : Nat) : (s.fleetFailed conn).now = s.now := (State.fleetFailed_follows ..).now
@[simp] theorem fleetUp_now (conn : Nat) (wlan : Bool) : (s.fleetUp conn wlan).now = s.now :=
  (State.fleetUp_follows ..).now
@[simp] theorem cartRecord_now (seq : Nat) : (s.cartRecord seq).2.now = s.now := (State.cartRecord_follows ..).now
@[simp] theorem firePeriodic_now (gen : Nat) (instant : Int) (reading : ReadingIn) (axes : List Nat) (imuFault : Bool) :
    (s.firePeriodic gen instant reading axes imuFault).now = s.now := (State.firePeriodic_follows ..).now
@[simp] theorem noteFire_now (gen : Nat) (instant : Int) : (s.noteFire gen instant).now = s.now :=
  (State.noteFire_follows ..).now
@[simp] theorem cutPower_now (cam : Nat) : (s.cutPower cam).now = s.now := (State.cutPower_follows ..).now
@[simp] theorem idleCore_now (core : Nat) : (s.idleCore core).now = s.now := (State.idleCore_follows ..).now
@[simp] theorem pairGone_now (cam : Nat) (trig : Int) : (s.pairGone cam trig).now = s.now :=
  (State.pairGone_follows ..).now
@[simp] theorem decideCore_now (core : Nat) : (s.decideCore core).now = s.now := (State.decideCore_follows ..).now
@[simp] theorem linkUp_now (cam trigLat : Nat) : (s.linkUp cam trigLat).now = s.now := (State.linkUp_follows ..).now
@[simp] theorem dropFrame_now (cam : Nat) (f : CamFrame) : (s.dropFrame cam f).now = s.now :=
  (State.dropFrame_follows ..).now
@[simp] theorem showRate_now (cam : Nat) : (s.showRate cam).now = s.now := (State.showRate_follows ..).now
@[simp] theorem releaseTensor_now (cam : Nat) (trig : Int) : (s.releaseTensor cam trig).now = s.now :=
  (State.releaseTensor_follows ..).now
@[simp] theorem endRun_now (cam : Nat) (x : TensorS) : (s.endRun cam x).now = s.now := (State.endRun_follows ..).now
@[simp] theorem dropRun_now (cam : Nat) (x : TensorS) : (s.dropRun cam x).now = s.now := (State.dropRun_follows ..).now
@[simp] theorem frameDone_now (cam : Nat) (f : CamFrame) (ae : Option (Nat × Nat)) :
    (s.frameDone cam f ae).now = s.now := (State.frameDone_follows ..).now
@[simp] theorem publishVision_now (cam : Nat) (x : TensorS) (values : List Nat) :
    (s.publishVision cam x values).now = s.now := (State.publishVision_follows ..).now
@[simp] theorem judgeFrame_now (cam fno : Nat) (trig stamp : Int) (f : FrameIn) :
    (s.judgeFrame cam fno trig stamp f).now = s.now := (State.judgeFrame_follows ..).now
@[simp] theorem unitStored_now (cam : Nat) : (s.unitStored cam).now = s.now := (State.unitStored_follows ..).now
@[simp] theorem judgeArmed_now : s.judgeArmed.now = s.now := (State.judgeArmed_follows ..).now
@[simp] theorem storeNav_now (g : GuideStep) (x : NavS) : (s.storeNav g x).now = s.now :=
  (State.storeNav_follows ..).now
@[simp] theorem followLine_now (l : LineIn) (x : NavS) (g : GuideStep) (dr : ℚ × ℚ) :
    (s.followLine l x g dr).now = s.now := (State.followLine_follows ..).now
@[simp] theorem ticketBad_now (session n reason : Nat) : (s.ticketBad session n reason).now = s.now :=
  (State.ticketBad_follows ..).now
@[simp] theorem takeFlow_now (time : Int) (flow : Nat) : (s.takeFlow time flow).now = s.now :=
  (State.takeFlow_follows ..).now
@[simp] theorem takeTicket_now (raw std : ℚ) : (s.takeTicket raw std).now = s.now := (State.takeTicket_follows ..).now
@[simp] theorem solve_now (sol : SolIn) (usable : List Nat) (age : Option Int) :
    (s.solve sol usable age).2.2.now = s.now := (State.solve_follows ..).now

@[simp] theorem amendPut_now (unit kind key value : Nat) : (s.amendPut unit kind key value).now = s.now := rfl
@[simp] theorem cleared_now (scope : Nat) : (s.cleared scope).now = s.now := rfl

end Operations

/-! ### Operations repeated -/

theorem foldl_now {α : Type} {f : State → α → State} (h : ∀ u x, (f u x).now = u.now) (l : List α) (s : State) :
    (l.foldl f s).now = s.now := by
  induction l generalizing s with
  | nil => rfl
  | cons x l ih => rw [List.foldl_cons, ih, h]

theorem foldl_fst_now {α β : Type} {f : State × β → α → State × β} (h : ∀ q x, (f q x).1.now = q.1.now) (l : List α)
    (p : State × β) : (l.foldl f p).1.now = p.1.now := by
  induction l generalizing p with
  | nil => rfl
  | cons x l ih => rw [List.foldl_cons, ih, h]

theorem foldr_now {α : Type} {f : α → State → State} (h : ∀ u x, (f x u).now = u.now) (l : List α) (s : State) :
    (l.foldr f s).now = s.now := by
  induction l with
  | nil => rfl
  | cons x l ih => rw [List.foldr_cons, h, ih]

/-! ### Resets, SLEEP and OFF (15 R510, R514, R523) -/

@[simp] theorem assertReset_now (s : State) (source scope plane : Nat) :
    (s.assertReset source scope plane).now = s.now := by
  simp [State.assertReset, apply_ite State.now]

@[simp] theorem sleepOff_now (s : State) : s.sleepOff.now = s.now := by
  simp [State.sleepOff, apply_ite State.now]

@[simp] theorem goSleep_now (s : State) (x : TransS) : (s.goSleep x).now = s.now := by
  simp [State.goSleep, apply_ite State.now]

@[simp] theorem goOff_now (s : State) (noFinal : Bool) : (s.goOff noFinal).now = s.now := by
  simp [State.goOff]

@[simp] theorem readKey_now (s : State) : s.readKey.now = s.now := by
  unfold State.readKey
  dsimp only
  split
  · simp
  · split
    · simp
    · split <;> simp [apply_ite State.now]

@[simp] theorem runStart_now (s : State) : s.runStart.now = s.now := by
  simp [State.runStart, apply_ite State.now]

/-! ### Sessions, change sets, choices -/

@[simp] theorem letIn_now (s : State) (h : HelloIn) (cls : Nat) : (s.letIn h cls).now = s.now := by
  simp [State.letIn]

@[simp] theorem enterSet_now (s : State) (f unit : Nat) (writes : List (Nat × Nat)) :
    (s.enterSet f unit writes).now = s.now := by
  rw [State.enterSet, wr_now, amendCount_now, foldl_now]
  simp

theorem choose_eq_now {s u : State} {l : List CandIn} {c : Option CandIn} (h : s.choose l = (c, u)) :
    u.now = s.now := by
  have hnow := (State.choose_follows s l).now
  rwa [h] at hnow

theorem writeRefusal_eq_now {s u : State} {n : Nat} (h : s.writeRefusal n = some u) : u.now = s.now :=
  (State.writeRefusal_follows s n u h).now

/-! ### Commands -/

/-- Where a command goes on, it is elapsed time `n` or later. -/
def Since (n : Nat) (o : Host.Outcome State Fault Refusal) : Prop := ∀ u, o = .next u → n ≤ u.now

@[simp] theorem since_next (n : Nat) (u : State) : Since n (.next u) ↔ n ≤ u.now := by simp [Since]

@[simp] theorem since_fault (n : Nat) (f : Fault) : Since n (.fault f) := by simp [Since]

section Wrapped

variable {act : State → State} (h : ∀ u, (act u).now = u.now)

include h

theorem gated_now (s : State) (t n : Nat) (kind : ReqKind) : (s.gated t n kind act).now = max s.now t := by
  simp [State.gated, apply_ite State.now, h]

theorem onMessage_now (s : State) (n svc : Nat) (m : MsgIn) : (s.onMessage n svc m act).now = s.now := by
  unfold State.onMessage
  split
  · simp
  · split
    · simp
    · split <;> simp [apply_ite State.now, h]

theorem valveCommand_now (s : State) (ch src : Nat) (ok : Bool) : (s.valveCommand ch src ok act).now = s.now := by
  unfold State.valveCommand
  dsimp only
  split
  · simp
  · split
    · split <;> simp
    · simp [h]

theorem Since.gated {s : State} {t n : Nat} {kind : ReqKind} : Since s.now (.next (s.gated t n kind act)) := by
  simp [gated_now h]

theorem Since.onMessage {s : State} {t n svc : Nat} {m : MsgIn} :
    Since s.now (.next ((s.begin t).onMessage n svc m act)) := by
  simp [onMessage_now h]

end Wrapped

/-! ### Every command, chapter by chapter

A command's meaning begins at its own time; what follows are operations, in branches that all leave elapsed time as it
is then. -/

theorem exec_since_of_chapter1 {i : Instr} (hi : chapterOf i = 1) (s : State) : Since s.now (exec i s) := by
  cases i with
  | canaryWindowEnd | islClock | crossingTransfer | islStall | islResyncFail | islandRestart =>
    simp [exec, execCanaryWindowEnd, execIslClock, execCrossingTransfer, execIslStall, execIslResyncFail,
      execIslandRestart, apply_ite State.now]
  | fifoResync =>
    simp only [exec, execFifoResync]
    (repeat' split) <;> simp
  | _ => simp [chapterOf] at hi

theorem exec_since_of_chapter2 {i : Instr} (hi : chapterOf i = 2) (s : State) : Since s.now (exec i s) := by
  cases i with
  | spbPublish | gateRequest | mirrorSnapshotRefresh | eventRelease | protWrite | masterAccess | dramPrioWrite
  | eventSubscribe =>
    simp [exec, execSpbPublish, execGateRequest, execMirrorSnapshotRefresh, execEventRelease, execProtWrite,
      execMasterAccess, execDramPrioWrite, execEventSubscribe, apply_ite State.now, apply_ite (Since _), foldl_now,
      gated_now, onMessage_now, releaseDue_now]
  | eventArrive | sramScrub | dramSlotDecision =>
    simp only [exec, execEventArrive, execSramScrub, execDramSlotDecision]
    (repeat' split) <;> simp [foldl_now]
  | _ => simp [chapterOf] at hi

theorem exec_since_of_chapter3 {i : Instr} (hi : chapterOf i = 3) (s : State) : Since s.now (exec i s) := by
  cases i with
  | pendingStep | slewEnd | holdoverExpire | ppsEdge | evtEdge | tbEvtOverrun | tick | second | whistleFrameRx
  | rtReq | timeStatusLate | tbWhLoss | periodicFire | lnInsert | oneshotArm | oneshotFire
  | lnCancel | harvestTimeSave | rtcCalibration =>
    simp [exec, execPendingStep, execSlewEnd, execHoldoverExpire, execPpsEdge, execEvtEdge, execTbEvtOverrun,
      execTick, execSecond, execWhistleFrameRx, execRtReq, execTimeStatusLate, execTbWhLoss,
      execPeriodicFire, execLnInsert, execOneshotArm, execOneshotFire, execLnCancel, execHarvestTimeSave,
      execRtcCalibration, apply_ite State.now, gated_now]
  | timeStatusMessage =>
    rw [exec, execTimeStatusMessage, since_next, timeRegs_now, foldl_now]
    · simp [apply_ite State.now]
    · intro u x
      simp [apply_ite State.now]
  | gnssTimeUpdate | holdoverEntry | rtRep | rtRepRx | lnCohCancel | whistleReturn =>
    simp only [exec, execGnssTimeUpdate, execHoldoverEntry, execRtRep, execRtRepRx, execLnCohCancel,
      execWhistleReturn]
    (repeat' split) <;> simp [foldl_now]
  | _ => simp [chapterOf] at hi

theorem exec_since_of_chapter4 {i : Instr} (hi : chapterOf i = 4) (s : State) : Since s.now (exec i s) := by
  cases i with
  | obsStep | obsSampleArrive | sourceMissing | offsetInvalid | obsStateEcc | packSelect =>
    simp [exec, execObsStep, execObsSampleArrive, execSourceMissing, execOffsetInvalid, execObsStateEcc,
      execPackSelect, apply_ite State.now, apply_ite (Since _), gated_now]
  | obsGatherClose | obsStepOutput | obsOverrun | offsetEstimate | obsPackChange =>
    simp only [exec, execObsGatherClose, execObsStepOutput, execObsOverrun, execOffsetEstimate, execObsPackChange]
    (repeat' split) <;> simp [foldl_now]
  | _ => simp [chapterOf] at hi

theorem exec_since_of_chapter5 {i : Instr} (hi : chapterOf i = 5) (s : State) : Since s.now (exec i s) := by
  cases i with
  | functionLaunch | operatorSetpoint | goalSelect | fnStopRequest | fnRestartRequest | amendRead | amendCommit =>
    simp [exec, execFunctionLaunch, execOperatorSetpoint, execGoalSelect, execFnStopRequest, execFnRestartRequest,
      execAmendRead, execAmendCommit, apply_ite State.now, foldl_now, gated_now]
  | optimiserCycle =>
    simp only [exec, execOptimiserCycle]
    split
    · simp
    · split
      · simp
      · split
        · next c u h => simp [apply_ite State.now, choose_eq_now h]
        · next u h => simp [choose_eq_now h]
  | changeSet =>
    refine Since.gated fun u => ?_
    dsimp only
    (repeat' split) <;> simp
  | _ => simp [chapterOf] at hi

theorem exec_since_of_chapter6 {i : Instr} (hi : chapterOf i = 6) (s : State) : Since s.now (exec i s) := by
  cases i with
  | loopEvaluate | ceMismatch | spareSelfTest =>
    simp [exec, execLoopEvaluate, execCeMismatch, execSpareSelfTest, apply_ite State.now]
  | loopSample | ceTakeover | loopStateEcc =>
    simp only [exec, execLoopSample, execCeTakeover, execLoopStateEcc]
    (repeat' split) <;> simp [foldl_now]
  | autotuneRequest =>
    refine Since.gated fun u => ?_
    dsimp only
    (repeat' split) <;> simp
  | _ => simp [chapterOf] at hi

theorem exec_since_of_chapter7 {i : Instr} (hi : chapterOf i = 7) (s : State) : Since s.now (exec i s) := by
  cases i with
  | channelRatesArrive | channelLost | measEpoch | gnSolution | gnAntOpen | gnAntShort | antRetry | retentionWrite
  | gnssRefresh =>
    simp [exec, execChannelRatesArrive, execChannelLost, execMeasEpoch, execGnSolution, execGnAntOpen,
      execGnAntShort, execAntRetry, execRetentionWrite, execGnssRefresh, apply_ite State.now]
  | channelDump =>
    simp only [exec, execChannelDump, since_next, apply_ite State.now, slip_now, wr_now, bump_now, wrs_now, setCh_now,
      ite_self, begin_at, le_sup_left]
  | navWord | rtcmFrame | gnRefresh | ggaSend =>
    simp only [exec, execNavWord, execRtcmFrame, execGnRefresh, execGgaSend]
    (repeat' split) <;> simp
  | _ => simp [chapterOf] at hi

theorem exec_since_of_chapter8 {i : Instr} (hi : chapterOf i = 8) (s : State) : Since s.now (exec i s) := by
  cases i with
  | gdEngage | turnRequest | ymFlowSample | newLoad =>
    simp [exec, execGdEngage, execTurnRequest, execYmFlowSample, execNewLoad, apply_ite State.now, gated_now]
  | guidanceStep | lineLoad | taskdataExport =>
    simp only [exec, execGuidanceStep, execLineLoad, execTaskdataExport]
    (repeat' split) <;> simp
  | lineSelect | ticketEntry =>
    refine Since.gated fun u => ?_
    dsimp only
    (repeat' split) <;> simp
  | _ => simp [chapterOf] at hi

theorem exec_since_of_chapter9 {i : Instr} (hi : chapterOf i = 9) (s : State) : Since s.now (exec i s) := by
  cases i with
  | unitReady | camLink | linkRetrain | cropWrite | ispPrioWrite =>
    simp [exec, execUnitReady, execCamLink, execLinkRetrain, execCropWrite, execIspPrioWrite, apply_ite State.now,
      foldl_now, gated_now]
  | frameStart | camMissed | ispUnitDone | ispAbort | settingWrite | visionRun | visDrop | visPair =>
    simp only [exec, execFrameStart, execCamMissed, execIspUnitDone, execIspAbort, execSettingWrite, execVisionRun,
      execVisDrop, execVisPair]
    (repeat' split) <;> simp
  | _ => simp [chapterOf] at hi

theorem exec_since_of_chapter10 {i : Instr} (hi : chapterOf i = 10) (s : State) : Since s.now (exec i s) := by
  cases i with
  | propTarget | profileStart | profileOff | boostRailReady | peakEnd | holdEnd | offDone | carrierPeriod | vdSat
  | coilModelStep | vdOpen | vdShort | vdShortGnd | vdBankOc | valveResetRelease =>
    simp [exec, execPropTarget, execProfileStart, execProfileOff, execBoostRailReady, execPeakEnd, execHoldEnd,
      execOffDone, execCarrierPeriod, execVdSat, execCoilModelStep, execVdOpen, execVdShort, execVdShortGnd,
      execVdBankOc, execValveResetRelease, apply_ite State.now, apply_ite (Since _), foldl_now, valveCommand_now]
  | peakReached | vdShortRetry =>
    simp only [exec, execPeakReached, execVdShortRetry]
    (repeat' split) <;> simp
  | _ => simp [chapterOf] at hi

theorem exec_since_of_chapter11 {i : Instr} (hi : chapterOf i = 11) (s : State) : Since s.now (exec i s) := by
  cases i with
  | switchCommand | lsTrip | lsThermal | lsOpen | linkWatchdogExpire | whPinEdge | whEnChange | whFreq =>
    simp [exec, execSwitchCommand, execLsTrip, execLsThermal, execLsOpen, execLinkWatchdogExpire, execWhPinEdge,
      execWhEnChange, execWhFreq, apply_ite State.now]
  | switchDeferredApply | retryPauseEnd | resetGraceEnd | fullResetDead | whActive | whStoreLoad =>
    simp only [exec, execSwitchDeferredApply, execRetryPauseEnd, execResetGraceEnd, execFullResetDead, execWhActive,
      execWhStoreLoad]
    (repeat' split) <;> simp [foldl_now]
  | lsClearRequest =>
    refine Since.gated fun u => ?_
    dsimp only
    (repeat' split) <;> simp
  | _ => simp [chapterOf] at hi

theorem exec_since_of_chapter12 {i : Instr} (hi : chapterOf i = 12) (s : State) : Since s.now (exec i s) := by
  cases i with
  | canFrameRx | canBusoff | canBusoffRecover | canTsmap | canAddressClaim | ethLink | gptpSync | gptpAnnounce
  | ethGmConflict | fnpPwrFault | fnpRepower | fnpClear | samples | timeReq | tkSat | tkLinkNotice =>
    simp [exec, execCanFrameRx, execCanBusoff, execCanBusoffRecover, execCanTsmap, execCanAddressClaim, execEthLink,
      execGptpSync, execGptpAnnounce, execEthGmConflict, execFnpPwrFault, execFnpRepower, execFnpClear, execSamples,
      execTimeReq, execTkSat, execTkLinkNotice, apply_ite State.now, foldl_now, gated_now]
  | canFrameTxDone | fnpDetect | timeRep | timeRepTimeout | tkAnnounce | tkLink | fnpLink =>
    simp only [exec, execCanFrameTxDone, execFnpDetect, execTimeRep, execTimeRepTimeout, execTkAnnounce, execTkLink,
      execFnpLink]
    (repeat' split) <;> simp
  | _ => simp [chapterOf] at hi

theorem exec_since_of_chapter13 {i : Instr} (hi : chapterOf i = 13) (s : State) : Since s.now (exec i s) := by
  cases i with
  | tlsHandshake | hello | bye | keepalive | badMessage | objectRead | sesMaxWrite =>
    simp [exec, execTlsHandshake, execHello, execBye, execKeepalive, execBadMessage, execObjectRead, execSesMaxWrite,
      apply_ite State.now, foldl_now, gated_now, onMessage_now]
  | sessionTimeout | e2eTimeout | sesConnectionClosed =>
    simp only [exec, execSessionTimeout, execE2eTimeout, execSesConnectionClosed]
    (repeat' split) <;> simp [foldl_now]
  | objectWrite =>
    refine Since.onMessage fun u => ?_
    dsimp only
    split <;> simp [foldl_now]
  | streamSubscribe | snapshotRequest =>
    refine Since.onMessage fun u => ?_
    (repeat' split) <;> simp
  | _ => simp [chapterOf] at hi

theorem exec_since_of_chapter14 {i : Instr} (hi : chapterOf i = 14) (s : State) : Since s.now (exec i s) := by
  cases i with
  | oplimWrite | ruckBad =>
    simp [exec, execOplimWrite, execRuckBad, apply_ite State.now, gated_now]
  | nextFieldWrite | keySense | hmpWrite | rucksackSend | rucksackRx =>
    simp only [exec, execNextFieldWrite, execKeySense, execHmpWrite, execRucksackSend, execRucksackRx]
    (repeat' split) <;> simp
  | hamperWrite =>
    simp only [exec, execHamperWrite]
    split
    · simp
    · split
      · split <;> simp
      · split
        · simp
        · split
          · next z h => simp [writeRefusal_eq_now h]
          · split
            · simp
            · split <;> simp
  | shadowWriteBack =>
    simp only [exec, execShadowWriteBack]
    split
    · simp
    · split
      · simp
      · split
        · next u h => simp [writeRefusal_eq_now h]
        · simp
        · simp
  | _ => simp [chapterOf] at hi

theorem exec_since_of_chapter15 {i : Instr} (hi : chapterOf i = 15) (s : State) : Since s.now (exec i s) := by
  cases i with
  | pwrOv | crankEntry | thermosStart | pwrSens | coreRailAdjust | modeRequest | modeTransitionStart
  | workerModeNotice | sleepEntry | modeImage | thermosCapacityTest | powerOn | brownOut | resetPin | watchdog
  | lockUp | softwareReset | debugReset | resetRelease | configEnd | modeConfigFail | workerSafeStopReport
  | vbatLoss =>
    simp [exec, execPwrOv, execCrankEntry, execThermosStart, execPwrSens, execCoreRailAdjust, execModeRequest,
      execModeTransitionStart, execWorkerModeNotice, execSleepEntry, execModeImage, execThermosCapacityTest,
      execPowerOn, execBrownOut, execResetPin, execWatchdog, execLockUp, execSoftwareReset, execDebugReset,
      execResetRelease, execConfigEnd, execModeConfigFail, execWorkerSafeStopReport, execVbatLoss,
      apply_ite State.now, apply_ite (Since _), gated_now]
  | pwrCrank | pwrCrankLong | sensRetry | pwrTemp | modeChange | wake | testBusy | testResult | rstEscalate =>
    simp only [exec, execPwrCrank, execPwrCrankLong, execSensRetry, execPwrTemp, execModeChange, execWake,
      execTestBusy, execTestResult, execRstEscalate]
    (repeat' split) <;> simp
  | foregroundTest =>
    refine Since.gated fun u => ?_
    dsimp only
    (repeat' split) <;> simp
  | _ => simp [chapterOf] at hi

theorem exec_since_of_chapter16 {i : Instr} (hi : chapterOf i = 16) (s : State) : Since s.now (exec i s) := by
  cases i with
  | pcContentWrite | pcUpdate | pcClear =>
    simp [exec, execPcContentWrite, execPcUpdate, execPcClear, apply_ite State.now, gated_now]
  | bbRecordWrite | bbLost | bbAnchor | hoursSave | seqBlockRequest | bbReadout | pcUpdateDone | pcTempReturn
  | pcReschedule =>
    simp only [exec, execBbRecordWrite, execBbLost, execBbAnchor, execHoursSave, execSeqBlockRequest, execBbReadout,
      execPcUpdateDone, execPcTempReturn, execPcReschedule]
    (repeat' split) <;> simp
  | _ => simp [chapterOf] at hi

theorem exec_since_of_chapter17 {i : Instr} (hi : chapterOf i = 17) (s : State) : Since s.now (exec i s) := by
  cases i with
  | updExpire | flConnectionLost =>
    simp [exec, execUpdExpire, execFlConnectionLost, apply_ite State.now]
  | begin | block | status | abort | activate | updVerify | flReconnect | telemetryPublish | cartBroadcast =>
    simp only [exec, execBegin, execBlock, execStatus, execAbort, execActivate, execUpdVerify, execFlReconnect,
      execTelemetryPublish, execCartBroadcast]
    (repeat' split) <;> simp [foldl_now]
  | _ => simp [chapterOf] at hi

theorem exec_since_of_chapter18 {i : Instr} (hi : chapterOf i = 18) (s : State) : Since s.now (exec i s) := by
  cases i with
  | pocOvercurrent | uiStatusConvert | svcEnChange =>
    simp [exec, execPocOvercurrent, execUiStatusConvert, execSvcEnChange, apply_ite State.now, foldl_now, foldr_now]
  | uiShuntReclose =>
    simp only [exec, execUiShuntReclose]
    (repeat' split) <;> simp
  | _ => simp [chapterOf] at hi

theorem exec_since (i : Instr) (s : State) : Since s.now (exec i s) := by
  have hbound : 1 ≤ chapterOf i ∧ chapterOf i ≤ 18 := by cases i <;> simp [chapterOf]
  obtain ⟨hlow, hhigh⟩ := hbound
  interval_cases hi : chapterOf i
  · exact exec_since_of_chapter1 hi s
  · exact exec_since_of_chapter2 hi s
  · exact exec_since_of_chapter3 hi s
  · exact exec_since_of_chapter4 hi s
  · exact exec_since_of_chapter5 hi s
  · exact exec_since_of_chapter6 hi s
  · exact exec_since_of_chapter7 hi s
  · exact exec_since_of_chapter8 hi s
  · exact exec_since_of_chapter9 hi s
  · exact exec_since_of_chapter10 hi s
  · exact exec_since_of_chapter11 hi s
  · exact exec_since_of_chapter12 hi s
  · exact exec_since_of_chapter13 hi s
  · exact exec_since_of_chapter14 hi s
  · exact exec_since_of_chapter15 hi s
  · exact exec_since_of_chapter16 hi s
  · exact exec_since_of_chapter17 hi s
  · exact exec_since_of_chapter18 hi s

/-- The queue of commands is no part a command touches. -/
theorem pending_not_mem_touched (i : Instr) : Part.pending ∉ touched i := by cases i <;> simp [touched, resetParts]

/-- Settles O14: the queue is outside what any command touches, and a command takes place no earlier than the one
before it. -/
theorem commandsLeaveQueueAndTimeInOrder : Obligations.CommandsLeaveQueueAndTimeInOrder := fun i s u hu =>
  ⟨(exec_leads i s u hu).frame .pending (pending_not_mem_touched i), exec_since i s u hu⟩

end Sys2Proof.Machine
end

section
/-! SUPPORT. Chapter 03: what the operations of harvest time's discipline leave of harvest time, of its registers and of
the event stream. -/

namespace Sys2Proof.Machine

-- One theorem after the other, so that the threads keep within the memory limit.
set_option Elab.async false

/-- Of several registers written, one that no later write of the list meets holds its value. -/
theorem rd_wrs_head (s : State) {k v : Nat} {l : List (Nat × Nat)} (h : ∀ e ∈ l, e.1 ≠ k) :
    (s.wrs ((k, v) :: l)).rd k = v := by
  rw [rd_wrs_cons, rd_wrs_ne _ _ _ h, rd_wr_same]

/-! ### A logged event -/

@[simp] theorem log_tb (s : State) (code : Nat) (payload : List Int) (island : Nat) (esc fault : Bool)
    (input : Option Int) : (s.log code payload island esc fault input).tb = s.tb :=
  (State.log_follows ..).frame .tb (by decide)

@[simp] theorem log_whistle (s : State) (code : Nat) (payload : List Int) (island : Nat) (esc fault : Bool)
    (input : Option Int) : (s.log code payload island esc fault input).whistle = s.whistle :=
  (State.log_follows ..).frame .whistle (by decide)

@[simp] theorem log_ln (s : State) (code : Nat) (payload : List Int) (island : Nat) (esc fault : Bool)
    (input : Option Int) : (s.log code payload island esc fault input).ln = s.ln :=
  (State.log_follows ..).frame .ln (by decide)

/-! ### Harvest time (03 R94, R105) -/

theorem harvest_of_tb {s u : State} (htb : u.tb = s.tb) (hnow : u.now = s.now) : u.harvest = s.harvest := by
  simp only [State.harvest, htb, hnow]

@[simp] theorem wr_harvest (s : State) (k v : Nat) : (s.wr k v).harvest = s.harvest := rfl

@[simp] theorem log_harvest (s : State) (code : Nat) (payload : List Int) (island : Nat) (esc fault : Bool)
    (input : Option Int) : (s.log code payload island esc fault input).harvest = s.harvest :=
  harvest_of_tb (log_tb ..) (log_now ..)

/-- Anchored anew, harvest time goes on from where it is, moved by the offset. -/
@[simp] theorem reanchor_harvest (s : State) (add err : Int) : (s.reanchor add err).harvest = s.harvest + add := by
  simp [State.reanchor, State.harvest, TimeS.harvestAt]

@[simp] theorem reanchor_rd (s : State) (add err : Int) (k : Nat) : (s.reanchor add err).rd k = s.rd k := rfl

@[simp] theorem reanchor_slewErr (s : State) (add err : Int) : (s.reanchor add err).tb.slewErr = err.natAbs := rfl

@[simp] theorem reanchor_slewDir (s : State) (add err : Int) :
    (s.reanchor add err).tb.slewDir = if 0 < err then -1 else if err < 0 then 1 else 0 := rfl

theorem RegsKept.reanchor' {l : List Nat} {s u : State} (add err : Int) (h : RegsKept l s u) :
    RegsKept l s (u.reanchor add err) := h.trans (RegsKept.of_reg rfl)

/-! ### The error bound (03 R101 to R103) -/

theorem tbErr_congr {s u : State} (hqual : u.rd R.TB_STAT_QUAL = s.rd R.TB_STAT_QUAL) (htb : u.tb = s.tb)
    (hnow : u.now = s.now) : u.tbErr = s.tbErr := by
  simp only [State.tbErr, hqual, htb, hnow]

/-- A LOCKED unit's bound is the one of its last measurement. -/
theorem tbErr_locked {s : State} (h : s.rd R.TB_STAT_QUAL = 1) : s.tbErr = s.tb.errBase := by
  simp only [State.tbErr, h]
  simp [eq_comm]

/-- A SLAVED unit's bound is the one it was told, for 3 s. -/
theorem tbErr_told {s : State} {a : Nat} (h : s.rd R.TB_STAT_QUAL = 3) (hat : s.tb.statusAt = some a)
    (hnow : s.now < a + 3000000000) : s.tbErr = s.tb.statusErr := by
  simp [State.tbErr, h, hat, hnow]

/-- After 3 s without a message it grows by 1 µs each second. -/
theorem tbErr_late {s : State} {a : Nat} (h : s.rd R.TB_STAT_QUAL = 3) (hat : s.tb.statusAt = some a)
    (hknown : s.tb.statusErr ≠ 0xFFFFFFFF) (hlate : a + 3000000000 ≤ s.now) :
    s.tbErr = capErr (s.tb.statusErr + (s.now - a) / 1000000000 * 1000) := by
  simp [State.tbErr, h, hat, hknown, Nat.not_lt.mpr hlate]

/-! ### TB.ERR and HOLD_MIN published -/

@[simp] theorem timeRegs_tb (s : State) : s.timeRegs.tb = s.tb := rfl
@[simp] theorem timeRegs_whistle (s : State) : s.timeRegs.whistle = s.whistle := rfl
@[simp] theorem timeRegs_ln (s : State) : s.timeRegs.ln = s.ln := rfl
@[simp] theorem timeRegs_mirror (s : State) : s.timeRegs.mirror = s.mirror := rfl
@[simp] theorem timeRegs_answers (s : State) : s.timeRegs.answers = s.answers := rfl
@[simp] theorem timeRegs_harvest (s : State) : s.timeRegs.harvest = s.harvest := rfl

theorem timeRegs_regs (s : State) : RegsExact [R.TB_ERR, R.TB_STAT_HOLD_MIN] s s.timeRegs :=
  RegsExact.wrs _ (by simp) (RegsExact.rfl' _ s)

theorem timeRegs_rd {s : State} {k : Nat} (h : k ∉ [R.TB_ERR, R.TB_STAT_HOLD_MIN]) : s.timeRegs.rd k = s.rd k :=
  timeRegs_regs s k h

@[simp] theorem timeRegs_err (s : State) : s.timeRegs.rd R.TB_ERR = s.tbErr :=
  rd_wrs_head s (by simp)

theorem RegsExact.timeRegs' {l : List Nat} {s u : State} (h : RegsExact l s u)
    (hl : [R.TB_ERR, R.TB_STAT_HOLD_MIN] ⊆ l := by simp) : RegsExact l s u.timeRegs :=
  h.trans fun k hk => timeRegs_regs u k fun hmem => hk (hl hmem)

theorem RegsKept.timeRegs' {l : List Nat} {s u : State} (h : RegsKept l s u)
    (hl : [R.TB_ERR, R.TB_STAT_HOLD_MIN] ⊆ l := by simp) : RegsKept l s u.timeRegs :=
  h.trans <| RegsKept.of_exact fun k hk => timeRegs_regs u k fun hmem => hk (hl hmem)

theorem Logged.timeRegs {s u : State} {code : Nat} {payload : List Int} (h : Logged s u code payload) :
    Logged s u.timeRegs code payload := h.of_mirror rfl

/-! ### A slew begins (03 R105) -/

theorem startSlew_tb (s : State) (err : Int) : (s.startSlew err).tb = (s.reanchor 0 err).tb := log_tb ..

@[simp] theorem startSlew_harvest (s : State) (err : Int) : (s.startSlew err).harvest = s.harvest := by
  simp [State.startSlew]

theorem startSlew_regs (s : State) (err : Int) : RegsKept [R.TB_STAT_SLEWING] s (s.startSlew err) :=
  .log' _ _ _ _ _ _ <| .wr' _ _ (by simp) <| .reanchor' _ _ <| .rfl' _ s

theorem startSlew_rd_of_ne {s : State} {err : Int} {k : Nat} (h : k ≠ R.TB_STAT_SLEWING) (hk : k ∉ streamRegs) :
    (s.startSlew err).rd k = s.rd k := startSlew_regs s err k (by simpa using h) hk

@[simp] theorem startSlew_slewing (s : State) (err : Int) : (s.startSlew err).rd R.TB_STAT_SLEWING = 1 := by
  rw [State.startSlew, log_rd _ _ _ _ _ _ _ _ (by decide), rd_wr_same]

theorem startSlew_logged {s u : State} (err : Int) (hroom : u.mirror.window.length < 4096)
    (harr : s.mirror.arrivals ≤ u.mirror.arrivals) : Logged s (u.startSlew err) 0x2003 [err] :=
  log_logged s ((u.reanchor 0 err).wr R.TB_STAT_SLEWING 1) _ _ _ _ _ _ hroom harr

/-! ### The quality changes (03 R98) -/

/-- QUAL published, with SRCQ on a manager or standalone module (Table 3.4). -/
def State.showQual (s : State) (q : Nat) : State :=
  if s.isWorker then s.wr R.TB_STAT_QUAL q else (s.wr R.TB_STAT_QUAL q).wr R.TB_STAT_SRCQ q

theorem setQual_same {s : State} {q : Nat} (h : s.rd R.TB_STAT_QUAL = q) : s.setQual q = s := by
  simp [State.setQual, h]

theorem setQual_changed {s : State} {q : Nat} (h : s.rd R.TB_STAT_QUAL ≠ q) : s.setQual q =
    ((s.showQual q).log 0x2001 [s.rd R.TB_STAT_QUAL, q, (s.showQual q).tbErr]).bbAnchor := by
  simp only [State.setQual, if_neg h]
  rfl

@[simp] theorem bbAnchor_mirror (s : State) : s.bbAnchor.mirror = s.mirror :=
  (State.bbAnchor_follows s).frame .mirror (by decide)

theorem bbAnchor_regs (s : State) : RegsKept [] s s.bbAnchor :=
  .bbPush' _ <| RegsKept.of_reg (t := { s with bb := { s.bb with anchorAt := s.hours } }) rfl

@[simp] theorem setQual_tb (s : State) (q : Nat) : (s.setQual q).tb = s.tb :=
  (State.setQual_follows s q).frame .tb (by decide)

@[simp] theorem setQual_isWorker (s : State) (q : Nat) : (s.setQual q).isWorker = s.isWorker := by
  have hrole : (s.setQual q).role = s.role := (State.setQual_follows s q).frame .role (by decide)
  simp only [State.isWorker, hrole]

@[simp] theorem setQual_harvest (s : State) (q : Nat) : (s.setQual q).harvest = s.harvest :=
  harvest_of_tb (setQual_tb s q) (setQual_now ..)

theorem showQual_regs (s : State) (q : Nat) : RegsKept [R.TB_STAT_QUAL, R.TB_STAT_SRCQ] s (s.showQual q) := by
  unfold State.showQual
  split
  · exact .wr' _ _ (by simp) (.rfl' _ s)
  · exact .wr' _ _ (by simp) (.wr' _ _ (by simp) (.rfl' _ s))

theorem showQual_qual (s : State) (q : Nat) : (s.showQual q).rd R.TB_STAT_QUAL = q := by
  unfold State.showQual
  split
  · exact rd_wr_same _ _ _
  · rw [rd_wr_ne _ _ (by decide), rd_wr_same]

theorem showQual_mirror (s : State) (q : Nat) : (s.showQual q).mirror = s.mirror := by
  unfold State.showQual
  split <;> rfl

/-- What a quality that changes leaves of the registers is what is shown of it. -/
theorem setQual_rd_of_changed {s : State} {q k : Nat} (h : s.rd R.TB_STAT_QUAL ≠ q) (hk : k ∉ streamRegs) :
    (s.setQual q).rd k = (s.showQual q).rd k := by
  rw [setQual_changed h, bbAnchor_regs _ k (by simp) hk, log_rd _ _ _ _ _ _ _ _ hk]

theorem setQual_regs (s : State) (q : Nat) : RegsKept [R.TB_STAT_QUAL, R.TB_STAT_SRCQ] s (s.setQual q) := by
  by_cases h : s.rd R.TB_STAT_QUAL = q
  · rw [setQual_same h]
    exact .rfl' _ s
  · exact fun k hk hstream => (setQual_rd_of_changed h hstream).trans (showQual_regs s q k hk hstream)

/-- A worker's SRCQ comes with the Whistle alone (03 R103). -/
theorem setQual_regs_worker {s : State} (hworker : s.isWorker = true) (q : Nat) :
    RegsKept [R.TB_STAT_QUAL] s (s.setQual q) := by
  by_cases h : s.rd R.TB_STAT_QUAL = q
  · rw [setQual_same h]
    exact .rfl' _ s
  · intro k hk hstream
    rw [setQual_rd_of_changed h hstream, State.showQual, if_pos hworker,
      rd_wr_ne _ _ (fun e => hk (by simp [← e]))]

@[simp] theorem setQual_qual (s : State) (q : Nat) : (s.setQual q).rd R.TB_STAT_QUAL = q := by
  by_cases h : s.rd R.TB_STAT_QUAL = q
  · rw [setQual_same h, h]
  · rw [setQual_rd_of_changed h (by decide), showQual_qual]

/-- A manager's or standalone module's SRCQ follows its quality when that changes. -/
theorem setQual_srcq {s : State} (hmanager : s.isWorker = false) (q : Nat) : (s.setQual q).rd R.TB_STAT_SRCQ =
    if s.rd R.TB_STAT_QUAL = q then s.rd R.TB_STAT_SRCQ else q := by
  split
  · next h => rw [setQual_same h]
  · next h => simp [setQual_rd_of_changed h, State.showQual, hmanager, show R.TB_STAT_SRCQ ∉ streamRegs by decide]

/-- The change is logged with the bound of the new quality. -/
theorem setQual_logged {s u : State} {q : Nat} (h : u.rd R.TB_STAT_QUAL ≠ q) (hroom : u.mirror.window.length < 4096)
    (harr : s.mirror.arrivals ≤ u.mirror.arrivals) :
    Logged s (u.setQual q) 0x2001 [u.rd R.TB_STAT_QUAL, q, (u.setQual q).tbErr] := by
  have herr : (u.setQual q).tbErr = (u.showQual q).tbErr := by
    refine tbErr_congr (by rw [setQual_qual, showQual_qual]) ?_ ?_
    · rw [setQual_tb]
      unfold State.showQual
      split <;> rfl
    · rw [setQual_now]
      unfold State.showQual
      split <;> rfl
  rw [herr, setQual_changed h]
  exact (log_logged s (u.showQual q) _ _ _ _ _ _ (by rwa [showQual_mirror]) (by rwa [showQual_mirror])).of_mirror
    (bbAnchor_mirror _)

theorem Logged.setQual {s u : State} {code : Nat} {payload : List Int} (h : Logged s u code payload)
    (hroom : u.mirror.window.length < 4096) (q : Nat) : Logged s (u.setQual q) code payload := by
  by_cases hq : u.rd R.TB_STAT_QUAL = q
  · rwa [setQual_same hq]
  · rw [setQual_changed hq]
    exact ((h.of_mirror (showQual_mirror u q)).log _ _ _ _ _ _ (by rwa [showQual_mirror])).of_mirror
      (bbAnchor_mirror _)

/-- A change of quality leaves the reorder window within its bound and takes no arrival back. -/
theorem setQual_stream {s : State} (h : s.mirror.window.length ≤ 4096) (q : Nat) :
    (s.setQual q).mirror.window.length ≤ 4096 ∧ s.mirror.arrivals ≤ (s.setQual q).mirror.arrivals := by
  by_cases hq : s.rd R.TB_STAT_QUAL = q
  · rw [setQual_same hq]
    exact ⟨h, le_rfl⟩
  · rw [setQual_changed hq, bbAnchor_mirror]
    exact ⟨log_window_le _ _ _ _ _ _ (by rwa [showQual_mirror]), by rw [log_arrivals_succ, showQual_mirror]; omega⟩

/-! ### Harvest time steps (03 R95, R106, R107) -/

/-- The step itself, before its event is stamped on the new time (R594). -/
def State.stepped (s : State) (err : Int) : State :=
  let u := s.reanchor (-err) 0
  { u with ln := { u.ln with firedAt := [], stepHt := some u.harvest }, lk := { u.lk with tsmapStep := true },
           tb := { u.tb with steps := u.tb.steps + 1, ppsStepped := true },
           whistle := u.whistle.map (fun (p : Nat × WhistleS) => (p.1, { p.2 with stepDue := p.2.driving })) }.wrs
    [(R.TB_STAT_SLEWING, 0), (R.TB_STAT_STEP_PENDING, 0)]

@[simp] theorem doStep_tb (s : State) (err : Int) : (s.doStep err).tb = (s.stepped err).tb := log_tb ..

@[simp] theorem doStep_role (s : State) (err : Int) : (s.doStep err).role = s.role :=
  (State.doStep_follows s err).frame .role (by decide)

@[simp] theorem doStep_isWorker (s : State) (err : Int) : (s.doStep err).isWorker = s.isWorker := by
  simp only [State.isWorker, doStep_role]

@[simp] theorem doStep_harvest (s : State) (err : Int) : (s.doStep err).harvest = s.harvest - err :=
  (harvest_of_tb (doStep_tb s err) (doStep_now ..)).trans <|
    (reanchor_harvest s (-err) 0).trans Int.sub_eq_add_neg.symm

theorem doStep_regs (s : State) (err : Int) :
    RegsKept [R.TB_STAT_SLEWING, R.TB_STAT_STEP_PENDING] s (s.doStep err) := by
  have hstepped : RegsKept [R.TB_STAT_SLEWING, R.TB_STAT_STEP_PENDING] s (s.stepped err) :=
    .wrs' _ (by simp) (RegsKept.of_reg rfl)
  exact (hstepped.log' 0x2002 [-err] 2 false false none).trans (RegsKept.of_reg rfl)

theorem doStep_logged {s u : State} (err : Int) (hroom : u.mirror.window.length < 4096)
    (harr : s.mirror.arrivals ≤ u.mirror.arrivals) : Logged s (u.doStep err) 0x2002 [-err] :=
  (log_logged s (u.stepped err) _ _ _ _ _ _ hroom harr).of_mirror rfl

theorem doStep_window_length {s : State} (err : Int) (hroom : s.mirror.window.length < 4096) :
    (s.doStep err).mirror.window.length = s.mirror.window.length + 1 := by
  have hwindow := log_window (s.stepped err) 0x2002 [-err] 2 false false none hroom
  exact (congrArg List.length hwindow).trans List.length_append

/-! ### Discipline reached by a manager or standalone module (Table 3.3) -/

/-- Everything but the quality: no slew, no step waiting, the residual and its bound. -/
def State.disciplined (s : State) (resid : Int) : State :=
  let u := (s.reanchor 0 0).wrs [(R.TB_STAT_SLEWING, 0), (R.TB_STAT_STEP_PENDING, 0), (R.TB_STAT_EPOCH_UNKNOWN, 0),
    (R.TB_RESID, ofSigned 32 resid)]
  { u with tb := { u.tb with
      goodSince := some u.now, holdSince := none, statusAt := none, back := false,
      errBase := capErr (resid.natAbs + u.rd R.GN_TSTAT_TERR), errSince := u.now } }

theorem becomeGood_manager {s : State} (h : s.isWorker = false) (resid : Int) :
    s.becomeGood resid = (s.disciplined resid).setQual 1 := by
  have hself : (s.disciplined resid).isWorker = false := h
  have hquality : (s.disciplined resid).setQual (if (s.disciplined resid).isWorker = true then 3 else 1) =
      (s.disciplined resid).setQual 1 := by rw [hself]; rfl
  unfold State.becomeGood
  extract_lets u v base w x
  have hx : x = (s.disciplined resid).setQual 1 := hquality
  have hworker : ¬x.isWorker = true := by rw [hx, setQual_isWorker, hself]; decide
  rw [if_neg hworker, hx]

@[simp] theorem disciplined_harvest (s : State) (resid : Int) : (s.disciplined resid).harvest = s.harvest :=
  (reanchor_harvest s 0 0).trans (Int.add_zero _)

theorem disciplined_regs (s : State) (resid : Int) :
    RegsKept [R.TB_STAT_SLEWING, R.TB_STAT_STEP_PENDING, R.TB_STAT_EPOCH_UNKNOWN, R.TB_RESID] s (s.disciplined resid) :=
  RegsKept.trans (.wrs' _ (by simp) (.reanchor' 0 0 (.rfl' _ s))) (RegsKept.of_reg rfl)

@[simp] theorem disciplined_mirror (s : State) (resid : Int) : (s.disciplined resid).mirror = s.mirror := rfl

@[simp] theorem disciplined_steps (s : State) (resid : Int) : (s.disciplined resid).tb.steps = s.tb.steps := rfl

/-- SLEWING and STEP_PENDING are cleared and RESID holds the residual. -/
theorem disciplined_rd (s : State) (resid : Int) : (s.disciplined resid).rd R.TB_STAT_SLEWING = 0 ∧
    (s.disciplined resid).rd R.TB_STAT_STEP_PENDING = 0 ∧
    (s.disciplined resid).rd R.TB_RESID = ofSigned 32 resid := by
  have hwrs : ∀ k, (s.disciplined resid).rd k = ((s.reanchor 0 0).wrs [(R.TB_STAT_SLEWING, 0),
      (R.TB_STAT_STEP_PENDING, 0), (R.TB_STAT_EPOCH_UNKNOWN, 0), (R.TB_RESID, ofSigned 32 resid)]).rd k := fun _ => rfl
  simp only [hwrs]
  refine ⟨rd_wrs_head _ (by simp), ?_, ?_⟩
  · rw [rd_wrs_cons, rd_wrs_head _ (by simp)]
  · rw [rd_wrs_cons, rd_wrs_cons, rd_wrs_cons, rd_wrs_head _ (by simp)]

theorem becomeGood_regs {s : State} (h : s.isWorker = false) (resid : Int) :
    RegsKept [R.TB_RESID, R.TB_STAT_SLEWING, R.TB_STAT_STEP_PENDING, R.TB_STAT_EPOCH_UNKNOWN, R.TB_STAT_QUAL,
      R.TB_STAT_SRCQ] s (s.becomeGood resid) := by
  rw [becomeGood_manager h]
  exact ((disciplined_regs s resid).mono (by simp)).trans ((setQual_regs _ 1).mono (by simp))

/-! ### The source returns (03 R101, R105) -/

/-- The source is back, its slew or step not yet made. -/
def State.returned (s : State) : State :=
  { s with tb := { s.tb with srcGood := true, srcLost := none, back := true } }

theorem returned_regs (s : State) : RegsKept [] s s.returned := .of_reg rfl

section
variable {s : State} {err : Int} (hne : err ≠ 0) (hsmall : err.natAbs ≤ 1000000) (q : Bool)
include hne hsmall

/-- An error up to 1 ms is slewed (03 R105). -/
theorem sourceBack_small :
    s.sourceBack err q = (s.returned.wr R.TB_RESID (ofSigned 32 err)).startSlew err := by
  simp only [State.sourceBack, if_neg hne, if_pos hsmall, State.returned]

theorem sourceBack_small_harvest :
    (s.sourceBack err q).harvest = s.harvest := by
  rw [sourceBack_small hne hsmall, startSlew_harvest]
  rfl

theorem sourceBack_small_regs :
    RegsKept [R.TB_RESID, R.TB_STAT_SLEWING] s (s.sourceBack err q) := by
  rw [sourceBack_small hne hsmall]
  exact (RegsKept.wr' _ _ (by simp) ((returned_regs s).mono (by simp))).trans ((startSlew_regs _ err).mono (by simp))

/-- The slew under way: SLEWING, the error in RESID, its direction and size. -/
theorem sourceBack_small_slew :
    (s.sourceBack err q).rd R.TB_STAT_SLEWING = 1 ∧ (s.sourceBack err q).rd R.TB_RESID = ofSigned 32 err ∧
    (s.sourceBack err q).tb.slewDir = (if 0 < err then -1 else 1) ∧ (s.sourceBack err q).tb.slewErr = err.natAbs := by
  rw [sourceBack_small hne hsmall]
  refine ⟨startSlew_slewing _ _, ?_, ?_, by rw [startSlew_tb, reanchor_slewErr]⟩
  · rw [startSlew_rd_of_ne (by decide) (by decide), rd_wr_same]
  · rw [startSlew_tb, reanchor_slewDir]
    split
    · rfl
    · exact if_pos (by omega)

end

theorem sourceBack_small_logged {s u : State} {err : Int} (hne : err ≠ 0) (hsmall : err.natAbs ≤ 1000000)
    (q : Bool) (hroom : u.mirror.window.length < 4096) (harr : s.mirror.arrivals ≤ u.mirror.arrivals) :
    Logged s (u.sourceBack err q) 0x2003 [err] := by
  rw [sourceBack_small hne hsmall]
  exact startSlew_logged err hroom harr

/-! ### HOLDOVER (03 R101, R102) -/

/-- The timebase as HOLDOVER begins. -/
def State.holdTb (s : State) : TimeS :=
  let long : Bool := match s.tb.goodSince with
    | some g => g + 600000000000 ≤ s.now
    | none => false
  { s.tb with
      srcGood := false, back := false, goodSince := none, holdSince := some s.now, holdSlow := !long,
      errBase := if s.tbErr = 0xFFFFFFFF then s.tbErr else capErr (s.tbErr + 100), errSince := s.now }

theorem enterHoldover_eq (s : State) : s.enterHoldover = State.setQual { s with tb := s.holdTb } 2 := rfl

@[simp] theorem enterHoldover_harvest (s : State) : s.enterHoldover.harvest = s.harvest := setQual_harvest _ 2

theorem enterHoldover_regs (s : State) : RegsKept [R.TB_STAT_QUAL, R.TB_STAT_SRCQ] s s.enterHoldover :=
  (RegsKept.of_reg (t := { s with tb := s.holdTb }) rfl).trans (setQual_regs _ 2)

theorem enterHoldover_regs_worker {s : State} (h : s.isWorker = true) : RegsKept [R.TB_STAT_QUAL] s s.enterHoldover :=
  (RegsKept.of_reg (t := { s with tb := s.holdTb }) rfl).trans
    (setQual_regs_worker (s := { s with tb := s.holdTb }) h 2)

@[simp] theorem enterHoldover_qual (s : State) : s.enterHoldover.rd R.TB_STAT_QUAL = 2 := setQual_qual _ 2

@[simp] theorem enterHoldover_tb (s : State) : s.enterHoldover.tb = s.holdTb := setQual_tb _ 2

@[simp] theorem abandonSlew_harvest (s : State) : s.abandonSlew.harvest = s.harvest :=
  (reanchor_harvest s 0 0).trans (Int.add_zero _)

theorem abandonSlew_regs (s : State) : RegsKept [R.TB_STAT_SLEWING, R.TB_STAT_STEP_PENDING] s s.abandonSlew :=
  RegsKept.trans (.wrs' _ (by simp) (.reanchor' 0 0 (.rfl' _ s))) (RegsKept.of_reg rfl)

end Sys2Proof.Machine
end

section
/-! SUPPORT. O27: harvest time's discipline on a manager or standalone module, and its pins. -/

namespace Sys2Proof.Machine

-- One theorem after the other, so that the threads keep within the memory limit.
set_option Elab.async false

@[simp] theorem begin_isWorker (s : State) (t : Nat) : (s.begin t).isWorker = s.isWorker := rfl

@[simp] theorem begin_flag (s : State) (t k : Nat) : (s.begin t).flag k = s.flag k := rfl

@[simp] theorem begin_mayStep (s : State) (t : Nat) (q : Bool) : (s.begin t).mayStep q = s.mayStep q := rfl

/-- A command of Room begins with the window open. -/
theorem Room.begin_lt {s : State} (h : Room s) (t : Nat) : (s.begin t).mirror.window.length < 4096 := by
  simp only [begin_mirror]
  omega

theorem begin_regsKept (l : List Nat) (s : State) (t : Nat) : RegsKept l s (s.begin t) := .begin' t (.rfl' l s)

/-! ### A disciplined unit follows its source (03 R99, R103) -/

@[simp] theorem trim_harvest (s : State) (err : Int) : (s.trim err).harvest = s.harvest :=
  (reanchor_harvest s 0 err).trans (Int.add_zero _)

theorem trim_rd_of_ne (s : State) (err : Int) {k : Nat} (h : R.TB_RESID ≠ k) : (s.trim err).rd k = s.rd k :=
  rd_wr_ne _ _ h

@[simp] theorem trim_resid (s : State) (err : Int) : (s.trim err).rd R.TB_RESID = ofSigned 32 err :=
  rd_wr_same (s.reanchor 0 err) R.TB_RESID (ofSigned 32 err)

theorem trim_regs (s : State) (err : Int) : RegsExact [R.TB_RESID] s (s.trim err) :=
  .wr (u := s.reanchor 0 err) _ _ (by simp) (.of_reg rfl)

/-- A valid measurement of a LOCKED unit: the source is good and its bound stands from here. -/
def State.measured (s : State) (toff : Int) (terr : Nat) : State :=
  { s with tb := { s.tb with srcGood := true, srcLost := none,
                             errBase := capErr (toff.natAbs + terr), errSince := s.now } }

@[simp] theorem measured_harvest (s : State) (toff : Int) (terr : Nat) :
    (s.measured toff terr).harvest = s.harvest := rfl

theorem exec_gnssTimeUpdate_locked {t : Nat} {toff : Int} {terr : Nat} {q : Bool} {s : State}
    (hmanager : s.isWorker = false) (hterr : terr ≤ 50) (hlocked : s.rd R.TB_STAT_QUAL = 1) :
    exec (.gnssTimeUpdate t toff terr true q) s = .next (((s.begin t).measured toff terr).trim toff).timeRegs := by
  show execGnssTimeUpdate t toff terr true q s = _
  simp [execGnssTimeUpdate, hmanager, hterr, hlocked, State.measured]

theorem exec_gnssTimeUpdate_unlocked {t : Nat} {toff : Int} {terr : Nat} {q : Bool} {s : State}
    (hmanager : s.isWorker = false) (hterr : terr ≤ 50) (hqual : s.rd R.TB_STAT_QUAL ≠ 1)
    (hslew : s.rd R.TB_STAT_SLEWING ≠ 1) :
    exec (.gnssTimeUpdate t toff terr true q) s = .next ((s.begin t).sourceBack toff q).timeRegs := by
  show execGnssTimeUpdate t toff terr true q s = _
  simp [execGnssTimeUpdate, hmanager, hterr, hqual, hslew, State.flag]

/-- LOCKED, valid GNSS time moves the residual and the bound, and harvest time runs on (R99, R103). -/
theorem gnssTimeUpdate_locked {t : Nat} {toff : Int} {terr : Nat} {q : Bool} {s : State}
    (hmanager : s.isWorker = false) (hterr : terr ≤ 50) (hlocked : s.rd R.TB_STAT_QUAL = 1) :
    ∃ u, exec (.gnssTimeUpdate t toff terr true q) s = .next u ∧
    u.rd R.TB_RESID = ofSigned 32 toff ∧
    u.rd R.TB_ERR = capErr (toff.natAbs + terr) ∧
    u.tb.srcGood = true ∧
    u.harvest = (s.begin t).harvest ∧
    u.tb.slewErr = toff.natAbs ∧
    u.tb.slewDir = (if 0 < toff then -1 else if toff < 0 then 1 else 0) ∧
    RegsExact [R.TB_RESID, R.TB_ERR, R.TB_STAT_HOLD_MIN] s u := by
  refine ⟨_, exec_gnssTimeUpdate_locked hmanager hterr hlocked, ?resid, ?err, rfl, ?harvest, rfl, rfl, ?regs⟩
  case resid => rw [timeRegs_rd (by decide), trim_resid]
  case err =>
    have hqual : (((s.begin t).measured toff terr).trim toff).rd R.TB_STAT_QUAL = 1 :=
      (trim_rd_of_ne _ _ (by decide)).trans hlocked
    rw [timeRegs_err, tbErr_locked hqual]
    rfl
  case harvest => simp
  case regs =>
    have hmeasured : RegsExact [R.TB_RESID] s ((s.begin t).measured toff terr) := .of_reg rfl
    have htrim := hmeasured.trans (trim_regs _ toff)
    exact RegsExact.timeRegs' (fun k hk => htrim k (by simp at hk ⊢; tauto)) (by simp)

/-- Not disciplined, an error up to 1 ms is slewed (R105). -/
theorem gnssTimeUpdate_slews {t : Nat} {toff : Int} {terr : Nat} {q : Bool} {s : State}
    (hmanager : s.isWorker = false) (hterr : terr ≤ 50) (hqual : s.rd R.TB_STAT_QUAL ≠ 1)
    (hslew : s.rd R.TB_STAT_SLEWING ≠ 1) (hne : toff ≠ 0) (hsmall : toff.natAbs ≤ 1000000) (hroom : Room s) :
    ∃ u, exec (.gnssTimeUpdate t toff terr true q) s = .next u ∧
    u.rd R.TB_STAT_SLEWING = 1 ∧
    u.rd R.TB_RESID = ofSigned 32 toff ∧
    u.tb.slewDir = (if 0 < toff then -1 else 1) ∧
    u.tb.slewErr = toff.natAbs ∧
    u.harvest = (s.begin t).harvest ∧
    Logged s u 0x2003 [toff] ∧
    RegsKept [R.TB_RESID, R.TB_ERR, R.TB_STAT_HOLD_MIN, R.TB_STAT_SLEWING] s u := by
  obtain ⟨hslewing, hresid, hdir, hsize⟩ := sourceBack_small_slew (s := s.begin t) hne hsmall q
  refine ⟨_, exec_gnssTimeUpdate_unlocked hmanager hterr hqual hslew, ?slewing, ?resid, hdir, hsize, ?harvest,
    ?logged, ?regs⟩
  case slewing => rw [timeRegs_rd (by decide), hslewing]
  case resid => rw [timeRegs_rd (by decide), hresid]
  case harvest => exact (timeRegs_harvest _).trans (sourceBack_small_harvest hne hsmall q)
  case logged => exact (sourceBack_small_logged hne hsmall q (hroom.begin_lt t) le_rfl).timeRegs
  case regs =>
    exact .timeRegs' ((sourceBack_small_regs hne hsmall q).next (by simp) (begin_regsKept _ s t)) (by simp)

/-! ### A step waits for its condition (03 R106) -/

theorem exec_pendingStep {t : Nat} {err : Int} {q : Bool} {s : State} (hpending : s.rd R.TB_STAT_STEP_PENDING = 1)
    (hmay : s.mayStep q = true) (hgood : s.tb.srcGood = true) :
    exec (.pendingStep t err q) s = .next (((s.begin t).doStep err).becomeGood 0).timeRegs := by
  have hgood' : ((s.begin t).stepped err).tb.srcGood = true := hgood
  show execPendingStep t err q s = _
  simp [execPendingStep, State.flag, hpending, hmay, hgood']

/-- Once its condition holds the step is made, and the unit is LOCKED (R106). -/
theorem pendingStep_steps {t : Nat} {err : Int} {q : Bool} {s : State} (hmanager : s.isWorker = false)
    (hpending : s.rd R.TB_STAT_STEP_PENDING = 1) (hmay : s.mayStep q = true) (hgood : s.tb.srcGood = true)
    (hroom : Room s) :
    ∃ u, exec (.pendingStep t err q) s = .next u ∧
    u.harvest = (s.begin t).harvest - err ∧
    u.tb.steps = s.tb.steps + 1 ∧
    u.rd R.TB_STAT_STEP_PENDING = 0 ∧
    u.rd R.TB_STAT_SLEWING = 0 ∧
    u.rd R.TB_STAT_QUAL = 1 ∧
    Logged s u 0x2002 [-err] ∧
    RegsKept [R.TB_RESID, R.TB_ERR, R.TB_STAT_HOLD_MIN, R.TB_STAT_SLEWING, R.TB_STAT_STEP_PENDING,
      R.TB_STAT_EPOCH_UNKNOWN, R.TB_STAT_QUAL, R.TB_STAT_SRCQ] s u := by
  have hmanager' : ((s.begin t).doStep err).isWorker = false := by rw [doStep_isWorker]; exact hmanager
  have hbegin := hroom.begin_lt t
  obtain ⟨hslewing, hwaiting, -⟩ := disciplined_rd ((s.begin t).doStep err) 0
  refine ⟨_, exec_pendingStep hpending hmay hgood, ?harvest, ?steps, ?waiting, ?slewing, ?qual, ?logged, ?regs⟩
  case regs =>
    refine .timeRegs' ((becomeGood_regs hmanager' 0).next (by simp) ?_) (by simp)
    exact (doStep_regs _ err).next (by simp) (begin_regsKept _ s t)
  all_goals rw [becomeGood_manager hmanager']
  case harvest => simp
  case steps =>
    rw [timeRegs_tb, setQual_tb, disciplined_steps, doStep_tb]
    rfl
  case waiting => rw [timeRegs_rd (by decide), setQual_regs _ _ _ (by decide) (by decide), hwaiting]
  case slewing => rw [timeRegs_rd (by decide), setQual_regs _ _ _ (by decide) (by decide), hslewing]
  case qual => rw [timeRegs_rd (by decide), setQual_qual]
  case logged =>
    have hlogged : Logged s (((s.begin t).doStep err).disciplined 0) 0x2002 [-err] :=
      (doStep_logged err hbegin le_rfl).of_mirror (disciplined_mirror _ 0)
    refine (hlogged.setQual ?_ 1).timeRegs
    rw [disciplined_mirror, doStep_window_length err hbegin, begin_mirror]
    omega

/-! ### A slew ends (03 R105) -/

/-- The slew is over and its residual measured. -/
def State.slewMeasured (s : State) (resid : Int) : State :=
  ((s.reanchor 0 0).wr R.TB_STAT_SLEWING 0).wr R.TB_RESID (ofSigned 32 resid)

@[simp] theorem slewMeasured_harvest (s : State) (resid : Int) : (s.slewMeasured resid).harvest = s.harvest :=
  (reanchor_harvest s 0 0).trans (Int.add_zero _)

@[simp] theorem slewMeasured_isWorker (s : State) (resid : Int) : (s.slewMeasured resid).isWorker = s.isWorker := rfl

theorem slewMeasured_regs (s : State) (resid : Int) :
    RegsKept [R.TB_STAT_SLEWING, R.TB_RESID] s (s.slewMeasured resid) :=
  .wr' _ _ (by simp) <| .wr' (u := s.reanchor 0 0) _ _ (by simp) <| .of_reg rfl

theorem slewMeasured_rd_of_ne (s : State) (resid : Int) {k : Nat} (hs : R.TB_STAT_SLEWING ≠ k)
    (hr : R.TB_RESID ≠ k) : (s.slewMeasured resid).rd k = s.rd k := by
  rw [State.slewMeasured, rd_wr_ne _ _ hr, rd_wr_ne _ _ hs, reanchor_rd]

theorem slewMeasured_resid (s : State) (resid : Int) : (s.slewMeasured resid).rd R.TB_RESID = ofSigned 32 resid :=
  rd_wr_same _ _ _

/-- Another slew of what is left; one above 1 ms still waits for a step. -/
def State.slewAgain (s : State) (resid : Int) : State :=
  (s.startSlew resid).wr R.TB_STAT_STEP_PENDING
    (bit01 (s.flag R.TB_STAT_STEP_PENDING && decide (1000000 < resid.natAbs)))

theorem slewAgain_regs (s : State) (resid : Int) :
    RegsKept [R.TB_STAT_SLEWING, R.TB_STAT_STEP_PENDING] s (s.slewAgain resid) :=
  .wr' _ _ (by simp) ((startSlew_regs s resid).mono (by simp))

theorem slewAgain_rd_of_ne (s : State) (resid : Int) {k : Nat} (h : R.TB_STAT_STEP_PENDING ≠ k) :
    (s.slewAgain resid).rd k = (s.startSlew resid).rd k := rd_wr_ne _ _ h

@[simp] theorem slewAgain_harvest (s : State) (resid : Int) : (s.slewAgain resid).harvest = s.harvest :=
  startSlew_harvest s resid

theorem slewAgain_logged {s u : State} (resid : Int) (hroom : u.mirror.window.length < 4096)
    (harr : s.mirror.arrivals ≤ u.mirror.arrivals) : Logged s (u.slewAgain resid) 0x2003 [resid] :=
  (startSlew_logged resid hroom harr).of_mirror rfl

theorem exec_slewEnd {t : Nat} {resid : Int} {s : State} (hmanager : s.isWorker = false)
    (hslew : s.rd R.TB_STAT_SLEWING = 1) (hgood : s.tb.srcGood = true) (hover : s.tb.slewOver (max s.now t) = true) :
    exec (.slewEnd t resid) s = .next (if resid.natAbs ≤ 100
      then (((s.begin t).slewMeasured resid).becomeGood resid).timeRegs
      else (((s.begin t).slewMeasured resid).slewAgain resid).timeRegs) := by
  have hlimit : ((s.begin t).slewMeasured resid).goodLimit = 100 := by simp [State.goodLimit, hmanager]
  have hmag : ((resid.natAbs : Int) ≤ 100) ↔ resid.natAbs ≤ 100 := by omega
  have hgood' : ((((s.begin t).reanchor 0 0).wr R.TB_STAT_SLEWING 0)).tb.srcGood = true := hgood
  have hover' : (s.begin t).tb.slewOver (s.begin t).now = true := hover
  have hslew' : (s.begin t).flag R.TB_STAT_SLEWING = true := by simp [State.flag, hslew]
  show execSlewEnd t resid s = _
  simp only [execSlewEnd, hslew', hover', hgood', Bool.not_true, Bool.or_self, Bool.false_eq_true, if_false]
  rw [← State.slewMeasured, hlimit]
  simp only [hmag]
  rfl

/-- A residual of up to 100 ns ends the slew LOCKED, a larger one starts another (R105). -/
theorem slewEnd_decides {t : Nat} {resid : Int} {s : State} (hmanager : s.isWorker = false)
    (hslew : s.rd R.TB_STAT_SLEWING = 1) (hgood : s.tb.srcGood = true) (hover : s.tb.slewOver (max s.now t) = true)
    (hroom : Room s) :
    ∃ u, exec (.slewEnd t resid) s = .next u ∧
    (resid.natAbs ≤ 100 → u.rd R.TB_STAT_SLEWING = 0 ∧ u.rd R.TB_STAT_QUAL = 1 ∧
      u.rd R.TB_STAT_SRCQ = (if s.rd R.TB_STAT_QUAL = 1 then s.rd R.TB_STAT_SRCQ else 1)) ∧
    (100 < resid.natAbs → u.rd R.TB_STAT_SLEWING = 1 ∧ u.rd R.TB_STAT_QUAL = s.rd R.TB_STAT_QUAL ∧
      Logged s u 0x2003 [resid]) ∧
    u.rd R.TB_RESID = ofSigned 32 resid ∧
    u.harvest = (s.begin t).harvest ∧
    RegsKept [R.TB_RESID, R.TB_ERR, R.TB_STAT_HOLD_MIN, R.TB_STAT_SLEWING, R.TB_STAT_STEP_PENDING,
      R.TB_STAT_EPOCH_UNKNOWN, R.TB_STAT_QUAL, R.TB_STAT_SRCQ] s u := by
  refine ⟨_, exec_slewEnd hmanager hslew hgood hover, ?_⟩
  have hmeasured : RegsKept [R.TB_RESID, R.TB_ERR, R.TB_STAT_HOLD_MIN, R.TB_STAT_SLEWING, R.TB_STAT_STEP_PENDING,
      R.TB_STAT_EPOCH_UNKNOWN, R.TB_STAT_QUAL, R.TB_STAT_SRCQ] s ((s.begin t).slewMeasured resid) :=
    (slewMeasured_regs _ resid).next (by simp) (begin_regsKept _ s t)
  have hrd : ∀ k, R.TB_STAT_SLEWING ≠ k → R.TB_RESID ≠ k → ((s.begin t).slewMeasured resid).rd k = s.rd k :=
    fun k => slewMeasured_rd_of_ne (s.begin t) resid
  have hresid := slewMeasured_resid (s.begin t) resid
  have hworker : ((s.begin t).slewMeasured resid).isWorker = false := hmanager
  have hmirror : ((s.begin t).slewMeasured resid).mirror = s.mirror := rfl
  have hharvest := slewMeasured_harvest (s.begin t) resid
  generalize (s.begin t).slewMeasured resid = v at *
  by_cases hsmall : resid.natAbs ≤ 100
  · rw [if_pos hsmall, becomeGood_manager hworker]
    obtain ⟨hslewing, -, hres⟩ := disciplined_rd v resid
    have hkept := disciplined_regs v resid
    refine ⟨fun _ => ⟨?_, ?_, ?_⟩, fun h => absurd hsmall (by omega), ?_, ?_, ?_⟩
    · rw [timeRegs_rd (by decide), setQual_regs _ _ _ (by decide) (by decide), hslewing]
    · rw [timeRegs_rd (by decide), setQual_qual]
    · rw [timeRegs_rd (by decide), setQual_srcq (by exact hworker), hkept _ (by decide) (by decide),
        hkept _ (by decide) (by decide), hrd _ (by decide) (by decide), hrd _ (by decide) (by decide)]
    · rw [timeRegs_rd (by decide), setQual_regs _ _ _ (by decide) (by decide), hres]
    · rw [timeRegs_harvest, setQual_harvest, disciplined_harvest, hharvest]
    · exact .timeRegs' ((setQual_regs _ 1).next (by simp) (hkept.next (by simp) hmeasured)) (by simp)
  · rw [if_neg hsmall]
    refine ⟨fun h => absurd h hsmall, fun _ => ⟨?_, ?_, ?_⟩, ?_, ?_, ?_⟩
    · rw [timeRegs_rd (by decide), slewAgain_rd_of_ne _ _ (by decide), startSlew_slewing]
    · rw [timeRegs_rd (by decide), slewAgain_rd_of_ne _ _ (by decide), startSlew_rd_of_ne (by decide) (by decide),
        hrd _ (by decide) (by decide)]
    · exact (slewAgain_logged resid (by rw [hmirror]; omega) (by rw [hmirror])).timeRegs
    · rw [timeRegs_rd (by decide), slewAgain_rd_of_ne _ _ (by decide), startSlew_rd_of_ne (by decide) (by decide),
        hresid]
    · rw [timeRegs_harvest, slewAgain_harvest, hharvest]
    · exact .timeRegs' ((slewAgain_regs v resid).next (by simp) hmeasured) (by simp)

/-! ### HOLDOVER and FREE (03 R100 to R102) -/

theorem exec_holdoverEntry {t l : Nat} {s : State} (hmanager : s.isWorker = false) (hlocked : s.rd R.TB_STAT_QUAL = 1)
    (hlost : s.tb.srcLost = some l) (hbad : s.tb.srcGood = false) (hlong : l + 1000000000 ≤ max s.now t) :
    exec (.holdoverEntry t) s = .next (s.begin t).enterHoldover.timeRegs := by
  show execHoldoverEntry t s = _
  simp [execHoldoverEntry, hmanager, hlocked, hlost, hbad, hlong]

/-- A change of quality is logged with the bound that is published with it. -/
theorem setQual_timeRegs_logged {s u : State} {q : Nat} (h : u.rd R.TB_STAT_QUAL ≠ q)
    (hroom : u.mirror.window.length < 4096) (harr : s.mirror.arrivals ≤ u.mirror.arrivals) :
    Logged s (u.setQual q).timeRegs 0x2001 [u.rd R.TB_STAT_QUAL, q, ((u.setQual q).timeRegs.rd R.TB_ERR : Int)] := by
  rw [timeRegs_err]
  exact (setQual_logged h hroom harr).timeRegs

/-- 1 s without valid GNSS time, a LOCKED unit is in HOLDOVER (R100). -/
theorem holdoverEntry_enters {t l : Nat} {s : State} (hmanager : s.isWorker = false)
    (hlocked : s.rd R.TB_STAT_QUAL = 1) (hlost : s.tb.srcLost = some l) (hbad : s.tb.srcGood = false)
    (hlong : l + 1000000000 ≤ max s.now t) (hroom : Room s) :
    ∃ u, exec (.holdoverEntry t) s = .next u ∧
    u.rd R.TB_STAT_QUAL = 2 ∧
    u.rd R.TB_STAT_SRCQ = 2 ∧
    u.tb.holdSince = some (max s.now t) ∧
    u.harvest = (s.begin t).harvest ∧
    Logged s u 0x2001 [1, 2, (u.rd R.TB_ERR : Int)] ∧
    RegsKept [R.TB_ERR, R.TB_STAT_HOLD_MIN, R.TB_STAT_QUAL, R.TB_STAT_SRCQ] s u := by
  have hqual : State.rd { s.begin t with tb := (s.begin t).holdTb } R.TB_STAT_QUAL = 1 := hlocked
  refine ⟨_, exec_holdoverEntry hmanager hlocked hlost hbad hlong, ?qual, ?srcq, ?since, ?harvest, ?logged, ?regs⟩
  case qual => rw [timeRegs_rd (by decide), enterHoldover_qual]
  case srcq =>
    rw [timeRegs_rd (by decide), enterHoldover_eq, setQual_srcq (by exact hmanager), hqual]
    rfl
  case since =>
    rw [timeRegs_tb, enterHoldover_tb]
    rfl
  case harvest => rw [timeRegs_harvest, enterHoldover_harvest]
  case logged =>
    have hlogged := setQual_timeRegs_logged (s := s) (u := { s.begin t with tb := (s.begin t).holdTb }) (q := 2)
      (by rw [hqual]; decide) (hroom.begin_lt t) le_rfl
    rwa [hqual] at hlogged
  case regs => exact .timeRegs' ((enterHoldover_regs _).next (by simp) (begin_regsKept _ s t)) (by simp)

/-- The timebase as HOLDOVER ends in FREE: the bound goes on from where it is. -/
def State.freed (s : State) : State :=
  { s with tb := { s.tb with holdSince := none, errBase := s.tbErr, errSince := s.now } }

theorem exec_holdoverExpire {t h : Nat} {s : State} (hqual : s.rd R.TB_STAT_QUAL = 2) (hsince : s.tb.holdSince = some h)
    (hback : s.tb.back = false) (hlong : h + 14400000000000 ≤ max s.now t) :
    exec (.holdoverExpire t) s = .next ((s.begin t).freed.setQual 0).timeRegs := by
  show execHoldoverExpire t s = _
  simp [execHoldoverExpire, hqual, hsince, hback, hlong, State.freed]

/-- 4 h in HOLDOVER, the unit is FREE (R100). -/
theorem holdoverExpire_frees {t h : Nat} {s : State} (hqual : s.rd R.TB_STAT_QUAL = 2)
    (hsince : s.tb.holdSince = some h) (hback : s.tb.back = false) (hlong : h + 14400000000000 ≤ max s.now t)
    (hroom : Room s) :
    ∃ u, exec (.holdoverExpire t) s = .next u ∧
    u.rd R.TB_STAT_QUAL = 0 ∧
    Logged s u 0x2001 [2, 0, (u.rd R.TB_ERR : Int)] ∧
    u.harvest = (s.begin t).harvest ∧
    RegsKept [R.TB_ERR, R.TB_STAT_HOLD_MIN, R.TB_STAT_QUAL, R.TB_STAT_SRCQ] s u := by
  have hfreed : (s.begin t).freed.rd R.TB_STAT_QUAL = 2 := hqual
  refine ⟨_, exec_holdoverExpire hqual hsince hback hlong, ?qual, ?logged, ?harvest, ?regs⟩
  case qual => rw [timeRegs_rd (by decide), setQual_qual]
  case logged =>
    have hlogged := setQual_timeRegs_logged (s := s) (u := (s.begin t).freed) (q := 0)
      (by rw [hfreed]; decide) (hroom.begin_lt t) le_rfl
    rwa [hfreed] at hlogged
  case harvest =>
    rw [timeRegs_harvest, setQual_harvest]
    rfl
  case regs =>
    have hkept : RegsKept [R.TB_STAT_QUAL, R.TB_STAT_SRCQ] s (s.begin t).freed := .of_reg rfl
    exact .timeRegs' ((hkept.trans (setQual_regs _ 0)).mono (by simp)) (by simp)

/-! ### Harvest time saved, and the PPS edge (03 R104, R110, R111) -/

/-- The edge of a whole second: PPS rises now and falls 100 ms later. -/
theorem exec_ppsEdge {t : Nat} {s : State} (hon : s.rd R.TB_STAT_PPS_ON = 1)
    (hgrid : onGrid ((s.begin t).harvest) 1000000000 = true) (hlast : s.tb.ppsLast = none) :
    exec (.ppsEdge t) s = .next (((State.answer { s.begin t with
        tb := { s.tb with ppsLast := some (max s.now t), ppsStepped := false } } .pps 1 [(s.begin t).harvest]).answer
      .pps 0 [(s.begin t).harvest + 100000000])) := by
  have hon' : (s.begin t).flag R.TB_STAT_PPS_ON = true := by simp [State.flag, hon]
  show execPpsEdge t s = _
  simp only [execPpsEdge, begin_tb, begin_at, hon', hgrid, hlast, Bool.not_false, Bool.and_self, if_true]
  rfl

/-- After a step no edge comes less than 500 ms after the last (R111). -/
theorem exec_ppsEdge_close {t l : Nat} {s : State} (hlast : s.tb.ppsLast = some l) (hstep : s.tb.ppsStepped = true)
    (hclose : max s.now t < l + 500000000) : exec (.ppsEdge t) s = .next (s.begin t) := by
  show execPpsEdge t s = _
  simp only [execPpsEdge, begin_tb, begin_at, hlast, hstep, if_true, decide_eq_true hclose, Bool.not_true,
    Bool.and_false, Bool.false_eq_true, if_false]

theorem exec_harvestTimeSave {t : Nat} {s : State} (hmanager : s.isWorker = false)
    (hlocked : s.rd R.TB_STAT_QUAL = 1) : exec (.harvestTimeSave t) s =
      .next { s.begin t with tb := { s.tb with nandTime := (s.begin t).harvest } } := by
  show execHarvestTimeSave t s = _
  simp [execHarvestTimeSave, hmanager, hlocked]

theorem exec_rtcCalibration {t : Nat} {s : State} (hoff : s.tb.rtcOff = none) :
    exec (.rtcCalibration t) s = .next (s.begin t).calibrateRtc := by
  show execRtcCalibration t s = _
  simp [execRtcCalibration, hoff]

/-- Settles O27: each command of harvest time's discipline. -/
theorem disciplineComplete : Obligations.DisciplineComplete := by
  unfold Obligations.DisciplineComplete
  refine ⟨?locked, ?slews, ?step, ?ended, ?holdover, ?free, ?saved, ?rtc, ?pps, ?close⟩
  case locked => exact fun t toff terr q s hmanager hterr hqual => gnssTimeUpdate_locked hmanager hterr hqual
  case slews =>
    exact fun t toff terr q s hmanager hterr hqual hslew hne hsmall hroom =>
      gnssTimeUpdate_slews hmanager hterr hqual hslew hne hsmall hroom
  case step =>
    exact fun t err q s hmanager hpending hmay hgood hroom => pendingStep_steps hmanager hpending hmay hgood hroom
  case ended =>
    exact fun t resid s hmanager hslew hgood hover hroom => slewEnd_decides hmanager hslew hgood hover hroom
  case holdover =>
    exact fun t l s hmanager hlocked hlost hbad hlong hroom =>
      holdoverEntry_enters hmanager hlocked hlost hbad hlong hroom
  case free => exact fun t h s hqual hsince hback hlong hroom => holdoverExpire_frees hqual hsince hback hlong hroom
  case saved => exact fun t s hmanager hlocked => ⟨_, exec_harvestTimeSave hmanager hlocked, rfl, .of_reg rfl⟩
  case rtc => exact fun t s hoff => ⟨_, exec_rtcCalibration hoff, rfl, .of_reg rfl⟩
  case pps =>
    exact fun t s hon hgrid hlast => ⟨_, exec_ppsEdge hon hgrid hlast, (answer_sent ..).answer .., answer_sent ..,
      rfl, .of_reg rfl⟩
  case close =>
    exact fun t l s hlast hstep hclose => ⟨_, exec_ppsEdge_close hlast hstep hclose, rfl, rfl, .of_reg rfl⟩

end Sys2Proof.Machine
end

section
/-! SUPPORT. O5: the Whistle's ports, what a frame sent or received on one does, and frames that are not valid. -/

namespace Sys2Proof.Machine

-- One theorem after the other, so that the threads keep within the memory limit.
set_option Elab.async false

/-! ### A port's own state -/

@[simp] theorem begin_wh (s : State) (t p : Nat) : (s.begin t).wh p = s.wh p := rfl

@[simp] theorem begin_sendsOn (s : State) (t p : Nat) : (s.begin t).sendsOn p = s.sendsOn p := rfl

@[simp] theorem setWh_wh (s : State) (p : Nat) (w : WhistleS) : (s.setWh p w).wh p = w := by
  simp [State.setWh, State.wh]

@[simp] theorem setWh_rd (s : State) (p : Nat) (w : WhistleS) (k : Nat) : (s.setWh p w).rd k = s.rd k := rfl

@[simp] theorem setWh_harvest (s : State) (p : Nat) (w : WhistleS) : (s.setWh p w).harvest = s.harvest := rfl

theorem setWh_regs (l : List Nat) (s : State) (p : Nat) (w : WhistleS) : RegsExact l s (s.setWh p w) := .of_reg rfl

@[simp] theorem wr_wh (s : State) (k v p : Nat) : (s.wr k v).wh p = s.wh p := rfl

@[simp] theorem wrs_wh (s : State) (l : List (Nat × Nat)) (p : Nat) : (s.wrs l).wh p = s.wh p := rfl

@[simp] theorem timeRegs_wh (s : State) (p : Nat) : s.timeRegs.wh p = s.wh p := rfl

@[simp] theorem trim_wh (s : State) (err : Int) (p : Nat) : (s.trim err).wh p = s.wh p := rfl

@[simp] theorem log_wh (s : State) (code : Nat) (payload : List Int) (island : Nat) (esc fault : Bool)
    (input : Option Int) (p : Nat) : (s.log code payload island esc fault input).wh p = s.wh p := by
  rw [State.wh, log_whistle, State.wh]

theorem sendsOn_of {s : State} {p : Nat} (hrole : s.rd (R.TB_WH_ROLE p) = 2) (hdriving : (s.wh p).driving = true) :
    s.sendsOn p = true := by
  simp [State.sendsOn, hrole, hdriving]

/-- The registers of the ports lie apart from every other. -/
theorem whistleKey_ne {p k f : Nat} (h1 : 1 ≤ p) (h4 : p ≤ 4) (hf : f < 256)
    (hk : k < 0x2011 * 256 ∨ 0x2015 * 256 ≤ k) : (0x2010 + p) * 256 + f ≠ k := by omega

theorem whistleKey_not_mem {p f : Nat} {l : List Nat} (h1 : 1 ≤ p) (h4 : p ≤ 4) (hf : f < 256)
    (hl : ∀ k ∈ l, k < 0x2011 * 256 ∨ 0x2015 * 256 ≤ k) : (0x2010 + p) * 256 + f ∉ l :=
  fun hmem => whistleKey_ne h1 h4 hf (hl _ hmem) rfl

theorem whistleKey_not_stream {p f : Nat} (h1 : 1 ≤ p) (h4 : p ≤ 4) (hf : f < 256) :
    (0x2010 + p) * 256 + f ∉ streamRegs := whistleKey_not_mem h1 h4 hf (by decide)

theorem not_mem_whistleKeys {p k : Nat} {fs : List Nat} (h1 : 1 ≤ p) (h4 : p ≤ 4) (hfs : ∀ f ∈ fs, f < 256)
    (hk : k < 0x2011 * 256 ∨ 0x2015 * 256 ≤ k) : k ∉ fs.map (fun f => (0x2010 + p) * 256 + f) := by
  intro hmem
  obtain ⟨f, hf, he⟩ := List.mem_map.mp hmem
  exact whistleKey_ne h1 h4 (hfs f hf) hk he

/-! ### A frame sent (03 R116) -/

/-- A frame carries the port's sequence number, STEP on a marker, the quality, the time and its word. -/
theorem sendWhistle_sent (s : State) (p typ aux : Nat) : Sent (s.sendWhistle p typ aux) (.whistle p) typ
    (whistleLine (whistleFrame typ (bit01 ((s.wh p).stepDue && (typ = 1 || typ = 2)) + 2 * s.rd R.TB_STAT_SRCQ)
      (s.wh p).txSeq s.harvest aux) ++ whistleIdle typ) := answer_sent _ _ _ _

theorem sendWhistle_wh (s : State) (p typ aux : Nat) : (s.sendWhistle p typ aux).wh p =
    { s.wh p with
      txSeq := ((s.wh p).txSeq + 1) % 256
      stepDue := if typ = 1 ∨ typ = 2 then false else (s.wh p).stepDue
      tA := if typ = 1 ∨ typ = 2 then none else (s.wh p).tA
      lastValid := if typ = 1 ∨ typ = 2 then some s.now else (s.wh p).lastValid } :=
  setWh_wh _ _ _

/-! ### Frames that are not valid (03 R115) -/

/-- A CRC that is wrong, a TYPE not known or the reserved bit set make a frame invalid (03 R114, Table 3.7). -/
theorem whistleValid_eq_false {bytes : List Nat} (h : leValue (bytes.drop 14) ≠ crc16 (bytes.take 14) ∨
    bytes.headD 0 % 16 = 0 ∨ 4 < bytes.headD 0 % 16 ∨ 128 ≤ bytes.headD 0) : whistleValid bytes = false := by
  rw [← Bool.not_eq_true]
  intro hvalid
  simp only [whistleValid, Bool.and_eq_true, decide_eq_true_eq] at hvalid
  obtain ⟨⟨⟨⟨-, hlow⟩, hhigh⟩, hreserved⟩, hcrc⟩ := hvalid
  rcases h with h | h | h | h
  · exact h hcrc
  all_goals omega

/-- An invalid frame counts as missing the markers that have passed by the one nearest to it. -/
theorem exec_whistleFrameRx_invalid {t p : Nat} {bytes : List Nat} {marker : Int} {s : State}
    (hworker : s.isWorker = true) (hrole : s.rd (R.TB_WH_ROLE p) = 1) (hbad : whistleValid bytes = false) :
    exec (.whistleFrameRx t p bytes marker) s = .next ((s.begin t).setWh p { s.wh p with
      missing := max (s.wh p).missing ((s.wh p).passed (marker + 500000)), firstMiss := (s.wh p).tLoss }) := by
  show execWhistleFrameRx t p bytes marker s = _
  simp [execWhistleFrameRx, hworker, hrole, hbad]

/-- The markers passed by the one nearest to a frame. -/
theorem passed_of_nearest {w : WhistleS} {m marker : Int} {n : Nat} (hlast : w.lastMarker = some m)
    (hlow : m + (n + 1) * 1000000 ≤ marker + 500000) (hhigh : marker + 500000 < m + (n + 2) * 1000000) :
    w.passed (marker + 500000) = n + 1 := by
  simp only [WhistleS.passed, hlast]
  omega

/-- Settles O5: an invalid frame moves its port's count of missing markers and nothing else. -/
theorem badWhistleFramesCountAsMissing : Obligations.BadWhistleFramesCountAsMissing := by
  unfold Obligations.BadWhistleFramesCountAsMissing
  intro t p bytes marker m s hworker hlast hlow hhigh _ _ hrole _ _ hbad
  refine ⟨_, exec_whistleFrameRx_invalid hworker hrole (whistleValid_eq_false hbad), ?missing, ?first, rfl, rfl, ?req,
    .of_reg rfl⟩
  case missing =>
    rw [setWh_wh, passed_of_nearest hlast hlow hhigh]
    exact max_eq_right (Nat.le_succ _)
  case first => simp [WhistleS.tLoss, hlast]
  case req => rw [setWh_wh]

end Sys2Proof.Machine
end

section
/-! SUPPORT. O28: pin EVT, the Whistle's frames and round trips, the time status, and the Whistle's loss and return. -/

namespace Sys2Proof.Machine

-- One theorem after the other, so that the threads keep within the memory limit.
set_option Elab.async false

/-! ### Pin EVT (03 R112) -/

theorem evtFilter_le (code : Nat) : evtFilter code ≤ 1000 := by
  rcases code with _ | _ | _ | _ | code <;> simp [evtFilter]

/-- The event of an edge, stamped less its filter. -/
def State.edgeEvent (s : State) (rising : Bool) (filter : Nat) : Event :=
  { stamp := s.harvest - filter, code := 0x2010, island := 2, unit := s.role.unit, payload := [bit01 rising],
    steps := s.tb.steps, due := s.now - filter + 50000, input := s.harvest - filter }

/-- A stamp held for the core. -/
def State.stampHeld (s : State) (stamp : Int) (rising : Bool) : State :=
  { s with tb := { s.tb with evtHeld := s.tb.evtHeld ++ [(stamp, rising)] } }

theorem exec_evtEdge {t width : Nat} {rising : Bool} {s : State} (hedge : s.rd R.TB_EVT_CFG_EDGE = 3)
    (hwidth : evtFilter (s.rd R.TB_EVT_CFG_FILTER) ≤ width) (hspace : s.tb.evtHeld.length < 16) :
    exec (.evtEdge t rising width 0) s = .next (((s.begin t).stampHeld
        ((s.begin t).harvest - (evtFilter (s.rd R.TB_EVT_CFG_FILTER) : Int)) rising).ownEvent
      ((s.begin t).edgeEvent rising (evtFilter (s.rd R.TB_EVT_CFG_FILTER)))) := by
  show execEvtEdge t rising width 0 s = _
  unfold execEvtEdge
  extract_lets b held u edge filter
  have hboth : edge = 3 := hedge
  have haccept : (if rising = true then edge = 1 ∨ edge = 3 else edge = 2 ∨ edge = 3) ∧ filter ≤ width := by
    refine ⟨?_, hwidth⟩
    split
    · exact Or.inr hboth
    · exact Or.inr hboth
  have hfree : u.tb.evtHeld.length < 16 := hspace
  rw [if_pos haccept, if_pos hfree]
  rfl

/-- An accepted edge is stamped less its filter, held and logged. -/
theorem evtEdge_held {t width : Nat} {rising : Bool} {s : State} (hedge : s.rd R.TB_EVT_CFG_EDGE = 3)
    (hwidth : evtFilter (s.rd R.TB_EVT_CFG_FILTER) ≤ width) (hspace : s.tb.evtHeld.length < 16) (hroom : Room s) :
    ∃ u, exec (.evtEdge t rising width 0) s = .next u ∧
    u.tb.evtHeld = s.tb.evtHeld ++ [((s.begin t).harvest - (evtFilter (s.rd R.TB_EVT_CFG_FILTER) : Int), rising)] ∧
    Logged s u 0x2010 [bit01 rising] ∧
    RegsKept [] s u := by
  refine ⟨_, exec_evtEdge hedge hwidth hspace, ?held, ?logged, ?regs⟩
  case held => rw [(State.ownEvent_follows _ _).frame .tb (by decide)]; rfl
  case logged =>
    have hdue : ∀ now f : Nat, f ≤ 1000 → now ≤ now - f + 50000 := by omega
    obtain ⟨hwindow, -⟩ := ownEvent_held ((s.begin t).stampHeld
        ((s.begin t).harvest - (evtFilter (s.rd R.TB_EVT_CFG_FILTER) : Int)) rising)
      ((s.begin t).edgeEvent rising (evtFilter (s.rd R.TB_EVT_CFG_FILTER)))
      (hdue _ _ (evtFilter_le _)) (hroom.begin_lt t)
    exact ⟨_, by rw [hwindow]; exact List.mem_append_right _ (List.mem_singleton_self _), rfl, rfl, le_rfl⟩
  case regs => exact (RegsKept.of_reg (s := s) (t := (s.begin t).stampHeld _ rising) rfl).trans (ownEvent_regs _ _)

/-- Stamps taken, and the drops reported. -/
def State.dropsTold (s : State) (taken : Nat) : State :=
  { s with tb := { s.tb with evtHeld := s.tb.evtHeld.drop taken, evtDropped := 0 } }

theorem exec_tbEvtOverrun {t taken : Nat} {s : State} (hdropped : 0 < s.tb.evtDropped)
    (hspace : s.tb.evtHeld.length < 16 + taken) :
    exec (.tbEvtOverrun t taken) s = .next (((s.begin t).dropsTold taken).log 0x2006 [s.tb.evtDropped]) := by
  have hfree : s.tb.evtHeld.length - taken < 16 := by omega
  show execTbEvtOverrun t taken s = _
  simp [execTbEvtOverrun, hdropped, hfree, State.dropsTold]

/-! ### Markers sent (03 R116) -/

theorem exec_tick {t p : Nat} {s : State} (hrole : s.rd (R.TB_WH_ROLE p) = 2) (hdriving : (s.wh p).driving = true)
    (hgrid : onGrid ((s.begin t).harvest) 1000000 = true) (hsecond : onGrid ((s.begin t).harvest) 1000000000 = false) :
    exec (.tick t p) s =
      .next (((s.begin t).sendWhistle p 1 (s.rd (R.TB_WH_DELAY p))).wr (R.TB_WH_VALID p) 1) := by
  show execTick t p s = _
  simp [execTick, sendsOn_of hrole hdriving, hgrid, hsecond]

/-- The word of a SECOND: DELAY, the UTC offset and LEAP (Table 3.7). -/
def State.secondAux (s : State) (p : Nat) : Nat :=
  s.rd (R.TB_WH_DELAY p) + 65536 * (s.rd R.TB_UTCOFF_OFFSET % 16384) +
    2 ^ 30 * (if s.rd R.TB_UTCOFF_KNOWN = 1 then s.rd R.TB_UTCOFF_LEAP else 3)

theorem exec_second {t p : Nat} {s : State} (hrole : s.rd (R.TB_WH_ROLE p) = 2) (hdriving : (s.wh p).driving = true)
    (hgrid : onGrid ((s.begin t).harvest) 1000000000 = true) :
    exec (.second t p) s = .next (((s.begin t).sendWhistle p 2 (s.secondAux p)).wr (R.TB_WH_VALID p) 1) := by
  show execSecond t p s = _
  by_cases hknown : s.rd R.TB_UTCOFF_KNOWN = 1
  · simp [execSecond, sendsOn_of hrole hdriving, hgrid, State.secondAux, State.flag, hknown]
  · simp [execSecond, sendsOn_of hrole hdriving, hgrid, State.secondAux, State.flag, hknown]

/-- A marker sent: the port is valid and its next frame carries the next number and no STEP; a reply window ends. -/
theorem marker_sent {s : State} {t p typ aux : Nat} (hmark : typ = 1 ∨ typ = 2) :
    (((s.begin t).sendWhistle p typ aux).wr (R.TB_WH_VALID p) 1).rd (R.TB_WH_VALID p) = 1 ∧
    Sent (((s.begin t).sendWhistle p typ aux).wr (R.TB_WH_VALID p) 1) (.whistle p) typ
      (whistleLine (whistleFrame typ (bit01 (s.wh p).stepDue + 2 * s.rd R.TB_STAT_SRCQ) (s.wh p).txSeq
        ((s.begin t).harvest) aux) ++ whistleIdle typ) ∧
    ((((s.begin t).sendWhistle p typ aux).wr (R.TB_WH_VALID p) 1).wh p).txSeq = ((s.wh p).txSeq + 1) % 256 ∧
    ((((s.begin t).sendWhistle p typ aux).wr (R.TB_WH_VALID p) 1).wh p).stepDue = false ∧
    ((((s.begin t).sendWhistle p typ aux).wr (R.TB_WH_VALID p) 1).wh p).tA = none ∧
    RegsExact [R.TB_WH_VALID p] s (((s.begin t).sendWhistle p typ aux).wr (R.TB_WH_VALID p) 1) := by
  have hstep : ((s.wh p).stepDue && (decide (typ = 1) || decide (typ = 2))) = (s.wh p).stepDue := by
    rcases hmark with rfl | rfl <;> simp
  have hsent := sendWhistle_sent (s.begin t) p typ aux
  rw [begin_wh, hstep] at hsent
  have hwh := sendWhistle_wh (s.begin t) p typ aux
  exact ⟨rd_wr_same _ _ _, hsent.of_answers rfl, congrArg WhistleS.txSeq hwh,
    (congrArg WhistleS.stepDue hwh).trans (if_pos hmark), (congrArg WhistleS.tA hwh).trans (if_pos hmark),
    .wr _ _ (by simp) (.of_reg rfl)⟩

/-! ### Markers received (03 R97, R103, R107, R117) -/

/-- A worker's error by a marker received, against TIME and DELAY of its frame. -/
def markerErr (bytes : List Nat) (marker : Int) : Int :=
  marker - ((leValue ((bytes.drop 2).take 8) : Int) + ((leValue ((bytes.drop 10).take 4) % 65536 : Nat) : Int))

/-- A TICK taken: the port is valid, DELAY and SRCQ are those of the frame. -/
def State.ticked (s : State) (p : Nat) (bytes : List Nat) (marker : Int) : State :=
  (s.setWh p { s.wh p with
    lastValid := some s.now, missing := 0, firstMiss := none,
    lastMarker := some (if bytes.headD 0 / 16 % 2 = 1 then marker - markerErr bytes marker else marker) }).wrs
  [(R.TB_WH_VALID p, 1), (R.TB_WH_DELAY p, leValue ((bytes.drop 10).take 4) % 65536),
    (R.TB_STAT_SRCQ, bytes.headD 0 / 16 / 2 % 4)]

theorem followMarker_tick (s : State) (p : Nat) (bytes : List Nat) (marker : Int) :
    s.followMarker p 1 bytes marker =
      if bytes.headD 0 / 16 % 2 = 1 then (s.ticked p bytes marker).doStep (markerErr bytes marker)
      else if (s.ticked p bytes marker).rd R.TB_STAT_QUAL = 3 then
        (s.ticked p bytes marker).trim (markerErr bytes marker)
      else s.ticked p bytes marker := rfl

theorem ticked_regs (s : State) (p : Nat) (bytes : List Nat) (marker : Int) :
    RegsExact [R.TB_WH_VALID p, R.TB_WH_DELAY p, R.TB_STAT_SRCQ] s (s.ticked p bytes marker) :=
  .wrs _ (by simp) (setWh_regs _ s p _)

/-- VALID, DELAY and SRCQ after a TICK. -/
theorem ticked_rd {s : State} {p : Nat} (h1 : 1 ≤ p) (h4 : p ≤ 4) (bytes : List Nat) (marker : Int) :
    (s.ticked p bytes marker).rd (R.TB_WH_VALID p) = 1 ∧
    (s.ticked p bytes marker).rd (R.TB_WH_DELAY p) = leValue ((bytes.drop 10).take 4) % 65536 ∧
    (s.ticked p bytes marker).rd R.TB_STAT_SRCQ = bytes.headD 0 / 32 % 4 := by
  have hsrcq : ∀ f < 256, R.TB_STAT_SRCQ ≠ (0x2010 + p) * 256 + f :=
    fun f hf => (whistleKey_ne h1 h4 hf (by decide)).symm
  refine ⟨rd_wrs_head _ (by simpa using hsrcq 2 (by decide)), ?_, ?_⟩
  · exact (rd_wrs_cons ..).trans (rd_wrs_head _ (by simpa using hsrcq 4 (by decide)))
  · rw [State.ticked, rd_wrs_cons, rd_wrs_cons, rd_wrs_head _ (by simp), Nat.div_div_eq_div_mul]

theorem ticked_qual {s : State} {p : Nat} (h1 : 1 ≤ p) (h4 : p ≤ 4) (bytes : List Nat) (marker : Int) :
    (s.ticked p bytes marker).rd R.TB_STAT_QUAL = s.rd R.TB_STAT_QUAL := by
  refine ticked_regs s p bytes marker _ ?_
  rw [List.mem_cons, List.mem_cons, not_or, not_or]
  exact ⟨(whistleKey_ne h1 h4 (by decide) (by decide)).symm, (whistleKey_ne h1 h4 (by decide) (by decide)).symm,
    by decide⟩

@[simp] theorem ticked_harvest (s : State) (p : Nat) (bytes : List Nat) (marker : Int) :
    (s.ticked p bytes marker).harvest = s.harvest := rfl

theorem ticked_lastMarker {s : State} {p : Nat} {bytes : List Nat} {marker : Int} (h : bytes.headD 0 / 16 % 2 = 0) :
    ((s.ticked p bytes marker).wh p).lastMarker = some marker := by
  have hnostep : ¬bytes.headD 0 / 16 % 2 = 1 := by omega
  rw [State.ticked, wrs_wh, setWh_wh, if_neg hnostep]

theorem exec_whistleFrameRx_tick {t p : Nat} {bytes : List Nat} {marker : Int} {s : State}
    (hworker : s.isWorker = true) (hrole : s.rd (R.TB_WH_ROLE p) = 1) (hvalid : whistleValid bytes = true)
    (htype : bytes.headD 0 % 16 = 1) :
    exec (.whistleFrameRx t p bytes marker) s = .next ((s.begin t).followMarker p 1 bytes marker).timeRegs := by
  show execWhistleFrameRx t p bytes marker s = _
  simp only [execWhistleFrameRx, begin_isWorker, rd_begin, hworker, hrole, hvalid, htype, decide_true, Bool.and_self,
    Bool.not_true, Bool.false_eq_true, if_false, true_or, if_true]

/-- A SLAVED worker is trimmed to the marker (R117). -/
theorem whistleFrameRx_tick_trims {t p : Nat} {bytes : List Nat} {marker : Int} {s : State}
    (hworker : s.isWorker = true) (hrole : s.rd (R.TB_WH_ROLE p) = 1) (h1 : 1 ≤ p) (h4 : p ≤ 4)
    (hvalid : whistleValid bytes = true) (htype : bytes.headD 0 % 16 = 1) (hnostep : bytes.headD 0 / 16 % 2 = 0)
    (hslaved : s.rd R.TB_STAT_QUAL = 3) :
    ∃ u, exec (.whistleFrameRx t p bytes marker) s = .next u ∧
    u.harvest = (s.begin t).harvest ∧
    u.rd R.TB_RESID = ofSigned 32 (markerErr bytes marker) ∧
    u.tb.slewErr = (markerErr bytes marker).natAbs ∧
    u.tb.slewDir = (if 0 < markerErr bytes marker then -1 else if markerErr bytes marker < 0 then 1 else 0) ∧
    u.rd (R.TB_WH_DELAY p) = leValue ((bytes.drop 10).take 4) % 65536 ∧
    u.rd R.TB_STAT_SRCQ = bytes.headD 0 / 32 % 4 ∧
    u.rd (R.TB_WH_VALID p) = 1 ∧
    (u.wh p).lastMarker = some marker ∧
    RegsExact [R.TB_WH_VALID p, R.TB_WH_DELAY p, R.TB_STAT_SRCQ, R.TB_RESID, R.TB_ERR, R.TB_STAT_HOLD_MIN] s u := by
  have hqual : ((s.begin t).ticked p bytes marker).rd R.TB_STAT_QUAL = 3 :=
    (ticked_qual h1 h4 bytes marker).trans hslaved
  have hfollow : (s.begin t).followMarker p 1 bytes marker =
      ((s.begin t).ticked p bytes marker).trim (markerErr bytes marker) := by
    rw [followMarker_tick, if_neg (by omega), if_pos hqual]
  obtain ⟨hshown, hdelay, hsrcq⟩ := ticked_rd (s := s.begin t) h1 h4 bytes marker
  have hport : ∀ f < 256, (((s.begin t).ticked p bytes marker).trim (markerErr bytes marker)).timeRegs.rd
      ((0x2010 + p) * 256 + f) = ((s.begin t).ticked p bytes marker).rd ((0x2010 + p) * 256 + f) := fun f hf => by
    rw [timeRegs_rd (whistleKey_not_mem h1 h4 hf (by decide)),
      trim_rd_of_ne _ _ (whistleKey_ne h1 h4 hf (by decide)).symm]
  refine ⟨_, exec_whistleFrameRx_tick hworker hrole hvalid htype, ?_⟩
  rw [hfollow]
  refine ⟨?harvest, ?resid, rfl, rfl, ?delay, ?srcq, ?shown, ?last, ?regs⟩
  case harvest => simp
  case resid => rw [timeRegs_rd (by decide), trim_resid]
  case delay => exact (hport 4 (by decide)).trans hdelay
  case srcq => rw [timeRegs_rd (by decide), trim_rd_of_ne _ _ (by decide), hsrcq]
  case shown => exact (hport 2 (by decide)).trans hshown
  case last => rw [timeRegs_wh, trim_wh, ticked_lastMarker hnostep]
  case regs =>
    refine RegsExact.timeRegs' (fun k hk => ?_) (by simp)
    simp only [List.mem_cons, List.not_mem_nil, or_false, not_or] at hk
    obtain ⟨hv, hd, hq, hr, -, -⟩ := hk
    rw [trim_rd_of_ne _ _ (Ne.symm hr), ticked_regs _ _ _ _ k (by simp [hv, hd, hq]), rd_begin]

/-- STEP steps harvest time to the marker (R107). -/
theorem whistleFrameRx_tick_steps {t p : Nat} {bytes : List Nat} {marker : Int} {s : State}
    (hworker : s.isWorker = true) (hrole : s.rd (R.TB_WH_ROLE p) = 1) (h1 : 1 ≤ p) (h4 : p ≤ 4)
    (hvalid : whistleValid bytes = true) (htype : bytes.headD 0 % 16 = 1) (hstep : bytes.headD 0 / 16 % 2 = 1)
    (hroom : Room s) :
    ∃ u, exec (.whistleFrameRx t p bytes marker) s = .next u ∧
    u.harvest = (s.begin t).harvest - markerErr bytes marker ∧
    u.tb.steps = s.tb.steps + 1 ∧
    Logged s u 0x2002 [-markerErr bytes marker] ∧
    u.rd (R.TB_WH_DELAY p) = leValue ((bytes.drop 10).take 4) % 65536 ∧
    u.rd R.TB_STAT_SRCQ = bytes.headD 0 / 32 % 4 ∧
    u.rd (R.TB_WH_VALID p) = 1 := by
  obtain ⟨hshown, hdelay, hsrcq⟩ := ticked_rd (s := s.begin t) h1 h4 bytes marker
  have hport : ∀ f < 256, (((s.begin t).ticked p bytes marker).doStep (markerErr bytes marker)).timeRegs.rd
      ((0x2010 + p) * 256 + f) = ((s.begin t).ticked p bytes marker).rd ((0x2010 + p) * 256 + f) := fun f hf => by
    rw [timeRegs_rd (whistleKey_not_mem h1 h4 hf (by decide)),
      doStep_regs _ _ _ (whistleKey_not_mem h1 h4 hf (by decide)) (whistleKey_not_stream h1 h4 hf)]
  refine ⟨_, exec_whistleFrameRx_tick hworker hrole hvalid htype, ?_⟩
  rw [followMarker_tick, if_pos hstep]
  refine ⟨?harvest, ?steps, ?logged, ?delay, ?srcq, ?shown⟩
  case harvest => simp
  case steps => rw [timeRegs_tb, doStep_tb]; rfl
  case logged => 
    exact (doStep_logged (u := (s.begin t).ticked p bytes marker) _ (hroom.begin_lt t) le_rfl).timeRegs
  case delay => exact (hport 4 (by decide)).trans hdelay
  case srcq => rw [timeRegs_rd (by decide), doStep_regs _ _ _ (by decide) (by decide), hsrcq]
  case shown => exact (hport 2 (by decide)).trans hshown

/-! ### The round trip (03 R116, R117, R120) -/

theorem exec_whistleFrameRx_request {t p : Nat} {bytes : List Nat} {marker : Int} {s : State}
    (hworker : s.isWorker = true) (hrole : s.rd (R.TB_WH_ROLE p) = 1) (hvalid : whistleValid bytes = true)
    (htype : bytes.headD 0 % 16 = 3) :
    exec (.whistleFrameRx t p bytes marker) s = .next ((s.begin t).setWh p { s.wh p with reqRx := some marker }) := by
  show execWhistleFrameRx t p bytes marker s = _
  simp only [execWhistleFrameRx, begin_isWorker, rd_begin, hworker, hrole, hvalid, htype, decide_true, Bool.and_self,
    Bool.not_true, Bool.false_eq_true, if_false, if_true, if_neg (show ¬(3 = 1 ∨ 3 = 2) by decide)]
  rfl

/-- A request is sent half-way between two milliseconds, when it is due. -/
theorem exec_rtReq {t p : Nat} {fresh : Bool} {s : State}
    (hrole : s.rd (R.TB_WH_ROLE p) = 3 ∨ s.rd (R.TB_WH_ROLE p) = 2 ∧ (s.wh p).driving = true)
    (hlost : s.tb.whLost = false) (hdue : fresh = true ∨ (s.wh p).reqAt = none)
    (hgrid : onGrid ((s.begin t).harvest - 500000) 1000000 = true) :
    exec (.rtReq t p fresh) s = .next (((s.begin t).setWh p { s.wh p with
      tA := some ((s.begin t).harvest), reqAt := some (max s.now t) }).sendWhistle p 3 0) := by
  show execRtReq t p fresh s = _
  unfold execRtReq
  extract_lets b r due
  have hasks : (decide (r = 3) || b.sendsOn p) = true := by
    rcases hrole with hrole | ⟨hrole, hdriving⟩
    · exact Bool.or_eq_true_iff.mpr (Or.inl (decide_eq_true hrole))
    · exact Bool.or_eq_true_iff.mpr (Or.inr (sendsOn_of (s := s) hrole hdriving))
  have hnow : due = true := by
    rcases hdue with rfl | hnone
    · rfl
    · simp [due, b, hnone]
  have hlost' : b.tb.whLost = false := hlost
  have hgrid' : onGrid (b.harvest - 500000) 1000000 = true := hgrid
  rw [hasks, hlost', hnow, hgrid']
  rfl

theorem exec_rtRep {t p : Nat} {m : Int} {s : State} (hreq : (s.wh p).reqRx = some m)
    (hlow : m + 9999 ≤ (s.begin t).harvest) (hhigh : (s.begin t).harvest ≤ m + 10001) :
    exec (.rtRep t p) s = .next (((s.begin t).setWh p { s.wh p with
      reqRx := none, measured := true }).sendWhistle p 4 0) := by
  have hwithin : ¬((s.begin t).harvest < m + 9999 ∨ m + 10001 < (s.begin t).harvest) := by omega
  show execRtRep t p s = _
  simp only [execRtRep, begin_wh, hreq, if_neg hwithin]

/-- A request or reply is no marker: it carries no STEP. -/
theorem exchange_sent {s : State} {p typ : Nat} (w : WhistleS) (hmark : ¬(typ = 1 ∨ typ = 2)) :
    Sent ((s.setWh p w).sendWhistle p typ 0) (.whistle p) typ
      (whistleLine (whistleFrame typ (2 * s.rd R.TB_STAT_SRCQ) w.txSeq s.harvest 0) ++ whistleIdle typ) := by
  obtain ⟨hone, htwo⟩ := not_or.mp hmark
  simpa [hone, htwo, bit01] using sendWhistle_sent (s.setWh p w) p typ 0

theorem exchange_wh {s : State} {p typ : Nat} (w : WhistleS) (hmark : ¬(typ = 1 ∨ typ = 2)) :
    ((s.setWh p w).sendWhistle p typ 0).wh p = { w with txSeq := (w.txSeq + 1) % 256 } := by
  rw [sendWhistle_wh, setWh_wh, if_neg hmark, if_neg hmark, if_neg hmark]

theorem exec_rtRepRx {t p : Nat} {bytes : List Nat} {tA tB : Int} {s : State} (hsent : (s.wh p).tA = some tA)
    (hvalid : whistleValid bytes = true) (htype : bytes.headD 0 % 16 = 4) :
    exec (.rtRepRx t p bytes tB) s = .next ((s.begin t).roundTrip p ((tB - tA - 10000) / 2).toNat) := by
  show execRtRepRx t p bytes tB s = _
  simp only [execRtRepRx, begin_wh, hsent, hvalid, htype, decide_true, Bool.and_self, if_true]

/-- A reply that is not valid is discarded (R115). -/
theorem exec_rtRepRx_invalid {t p : Nat} {bytes : List Nat} {tB : Int} {s : State} (hbad : whistleValid bytes = false) :
    exec (.rtRepRx t p bytes tB) s = .next (s.begin t) := by
  show execRtRepRx t p bytes tB s = _
  simp only [execRtRepRx, begin_wh, hbad, Bool.false_and, Bool.false_eq_true, if_false]
  split <;> rfl

/-- A port of up to 100 ns is driven. -/
theorem roundTrip_near {s : State} {p d : Nat} (h : d ≤ 100) : s.roundTrip p d =
    ((s.wr (R.TB_WH_DELAY p) (min d 0xFFFF)).setWh p { s.wh p with
      tA := none, measured := true, driving := true }).wr (R.TB_WH_ROLE p) 2 := by
  simp only [State.roundTrip, if_neg (Nat.not_lt.mpr h), wr_wh]

/-- A port above 100 ns is refused. -/
theorem roundTrip_far {s : State} {p d : Nat} (h : 100 < d) : s.roundTrip p d =
    (((s.wr (R.TB_WH_DELAY p) (min d 0xFFFF)).setWh p { s.wh p with
      tA := none, measured := false, driving := false }).wrs [(R.TB_WH_ROLE p, 3), (R.TB_WH_VALID p, 0)]).log
      0x2005 [p, d] := by
  simp only [State.roundTrip, if_pos h, wr_wh]

theorem roundTrip_regs (s : State) (p d : Nat) :
    RegsKept [R.TB_WH_DELAY p, R.TB_WH_ROLE p, R.TB_WH_VALID p] s (s.roundTrip p d) := by
  by_cases h : d ≤ 100
  · rw [roundTrip_near h]
    exact .wr' _ _ (by simp) <| .trans (.wr' _ _ (by simp) (.rfl' _ s)) (.of_exact (setWh_regs _ _ p _))
  · rw [roundTrip_far (Nat.lt_of_not_le h)]
    exact .log' _ _ _ _ _ _ <| .wrs' _ (by simp) <|
      .trans (.wr' _ _ (by simp) (.rfl' _ s)) (.of_exact (setWh_regs _ _ p _))

/-- DELAY holds what was measured. -/
theorem roundTrip_delay {s : State} {p : Nat} (h1 : 1 ≤ p) (h4 : p ≤ 4) (d : Nat) :
    (s.roundTrip p d).rd (R.TB_WH_DELAY p) = min d 0xFFFF := by
  by_cases h : d ≤ 100
  · rw [roundTrip_near h, rd_wr_ne _ _ (by simp), setWh_rd, rd_wr_same]
  · rw [roundTrip_far (Nat.lt_of_not_le h), log_rd _ _ _ _ _ _ _ _ (whistleKey_not_stream h1 h4 (by decide)),
      rd_wrs_ne _ _ _ (by simp), setWh_rd, rd_wr_same]

theorem roundTrip_drives {s : State} {p d : Nat} (h : d ≤ 100) :
    (s.roundTrip p d).rd (R.TB_WH_ROLE p) = 2 ∧ ((s.roundTrip p d).wh p).driving = true := by
  rw [roundTrip_near h, rd_wr_same, wr_wh, setWh_wh]
  exact ⟨rfl, rfl⟩

theorem roundTrip_refuses {s u : State} {p d : Nat} (h1 : 1 ≤ p) (h4 : p ≤ 4) (h : 100 < d)
    (hroom : u.mirror.window.length < 4096) (harr : s.mirror.arrivals ≤ u.mirror.arrivals) :
    (u.roundTrip p d).rd (R.TB_WH_ROLE p) = 3 ∧ (u.roundTrip p d).rd (R.TB_WH_VALID p) = 0 ∧
    ((u.roundTrip p d).wh p).driving = false ∧ Logged s (u.roundTrip p d) 0x2005 [(p : Int), (d : Int)] := by
  rw [roundTrip_far h, log_wh, wrs_wh, setWh_wh, log_rd _ _ _ _ _ _ _ _ (whistleKey_not_stream h1 h4 (by decide)),
    log_rd _ _ _ _ _ _ _ _ (whistleKey_not_stream h1 h4 (by decide))]
  exact ⟨rd_wrs_head _ (by simp), (rd_wrs_cons ..).trans (rd_wrs_head _ (by simp)), rfl,
    log_logged _ _ _ _ _ _ _ _ hroom harr⟩

/-! ### The time status (03 R103) -/

/-- What a unit tells the workers below it on some of its ports. -/
def State.tellBelow (s : State) (ps : List Nat) : State :=
  ps.foldl (fun (s : State) p =>
    if s.sendsOn p then s.answer (.trunk p) 0 [s.tbErr, s.rd R.TB_STAT_QUAL] else s) s

theorem tellBelow_cons (s : State) (p : Nat) (ps : List Nat) : s.tellBelow (p :: ps) =
    (if s.sendsOn p then s.answer (.trunk p) 0 [s.tbErr, s.rd R.TB_STAT_QUAL] else s).tellBelow ps := rfl

/-- Telling moves nothing but the answers. -/
theorem tellBelow_eq (s : State) (ps : List Nat) : ∃ l, s.tellBelow ps = { s with answers := l } := by
  induction ps generalizing s with
  | nil => exact ⟨s.answers, rfl⟩
  | cons p ps ih =>
    rw [tellBelow_cons]
    split
    · exact ih (s.answer _ _ _)
    · exact ih s

theorem Sent.tellBelow {s : State} {d : Dest} {c : Nat} {l : List Int} (h : Sent s d c l) (ps : List Nat) :
    Sent (s.tellBelow ps) d c l := by
  induction ps generalizing s with
  | nil => exact h
  | cons p ps ih =>
    rw [tellBelow_cons]
    split
    · exact ih (h.answer _ _ _)
    · exact ih h

/-- Each port this unit drives is told the bound and the quality. -/
theorem tellBelow_sent {s : State} {p : Nat} {ps : List Nat} (hmem : p ∈ ps) (hsends : s.sendsOn p = true) :
    Sent (s.tellBelow ps) (.trunk p) 0 [(s.tbErr : Int), (s.rd R.TB_STAT_QUAL : Int)] := by
  induction ps generalizing s with
  | nil => exact absurd hmem List.not_mem_nil
  | cons q ps ih =>
    rw [tellBelow_cons]
    rcases List.mem_cons.mp hmem with rfl | hmem
    · rw [if_pos hsends]
      exact (answer_sent ..).tellBelow ps
    · split
      · exact ih (s := s.answer _ _ _) hmem hsends
      · exact ih hmem hsends

/-- A SLAVED worker told a bound takes it plus 5 ns for the hop. -/
def State.boundTold (s : State) (err : Nat) : State :=
  { s with tb := { s.tb with statusAt := some s.now, statusErr := capErr (err + 5) } }

theorem exec_timeStatusMessage {t err q : Nat} {s : State} (hworker : s.isWorker = true)
    (hslaved : s.rd R.TB_STAT_QUAL = 3) :
    exec (.timeStatusMessage t err q) s = .next (((s.begin t).boundTold err).tellBelow [1, 2, 3, 4]).timeRegs := by
  show execTimeStatusMessage t err q s = _
  simp only [execTimeStatusMessage, begin_isWorker, rd_begin, hworker, hslaved, decide_true, Bool.and_self, if_true]
  rfl

theorem boundTold_err {s : State} (err : Nat) (hslaved : s.rd R.TB_STAT_QUAL = 3) :
    (s.boundTold err).tbErr = capErr (err + 5) :=
  tbErr_told (a := s.now) hslaved rfl (Nat.lt_add_of_pos_right (by decide))

/-- The bound is taken plus 5 ns and told to the workers below (R103). -/
theorem timeStatusMessage_tells {t err q : Nat} {s : State} (hworker : s.isWorker = true)
    (hslaved : s.rd R.TB_STAT_QUAL = 3) :
    ∃ u, exec (.timeStatusMessage t err q) s = .next u ∧
    u.rd R.TB_ERR = capErr (err + 5) ∧
    (∀ p ∈ [1, 2, 3, 4], s.rd (R.TB_WH_ROLE p) = 2 → (s.wh p).driving = true →
      Sent u (.trunk p) 0 [(capErr (err + 5) : Int), 3]) ∧
    RegsExact [R.TB_ERR, R.TB_STAT_HOLD_MIN] s u := by
  have herr : ((s.begin t).boundTold err).tbErr = capErr (err + 5) := boundTold_err (s := s.begin t) err hslaved
  have hqual : ((s.begin t).boundTold err).rd R.TB_STAT_QUAL = 3 := hslaved
  obtain ⟨l, htold⟩ := tellBelow_eq ((s.begin t).boundTold err) [1, 2, 3, 4]
  refine ⟨_, exec_timeStatusMessage hworker hslaved, ?err, ?sent, ?regs⟩
  case err => rw [timeRegs_err, htold, ← herr]; rfl
  case sent =>
    intro p hp hrole hdriving
    have hsent := tellBelow_sent (s := (s.begin t).boundTold err) hp (sendsOn_of (s := s) hrole hdriving)
    rw [herr, hqual, Nat.cast_ofNat] at hsent
    exact hsent.of_answers (timeRegs_answers _)
  case regs => rw [htold]; exact .timeRegs' (.of_reg rfl)

/-! ### The Whistle is lost (03 R101, R121) -/

/-- A SLAVED worker that lost its source enters HOLDOVER; a slew under way is given up. -/
def State.fallen (s : State) : State :=
  if s.rd R.TB_STAT_QUAL = 3 then s.enterHoldover else if s.tb.back then s.abandonSlew else s

theorem fallen_harvest (s : State) : s.fallen.harvest = s.harvest := by
  unfold State.fallen
  split
  · exact enterHoldover_harvest s
  · split
    · exact abandonSlew_harvest s
    · rfl

theorem fallen_regs {s : State} (hworker : s.isWorker = true) :
    RegsKept [R.TB_STAT_QUAL, R.TB_STAT_SLEWING, R.TB_STAT_STEP_PENDING] s s.fallen := by
  unfold State.fallen
  split
  · exact (enterHoldover_regs_worker hworker).mono (by simp)
  · split
    · exact (abandonSlew_regs s).mono (by simp)
    · exact .rfl' _ s

theorem fallen_qual {s : State} (h : s.rd R.TB_STAT_QUAL = 3) : s.fallen.rd R.TB_STAT_QUAL = 2 := by
  rw [State.fallen, if_pos h, enterHoldover_qual]

theorem fallen_stream {s : State} (h : s.mirror.window.length ≤ 4096) :
    s.fallen.mirror.window.length ≤ 4096 ∧ s.mirror.arrivals ≤ s.fallen.mirror.arrivals := by
  unfold State.fallen
  split
  · exact setQual_stream (s := { s with tb := s.holdTb }) h 2
  · split
    · exact ⟨h, le_rfl⟩
    · exact ⟨h, le_rfl⟩

/-- The loss counted: VALID is 0 and LOSSES one more. -/
def State.lossCounted (s : State) (p : Nat) : State :=
  (s.wrs [(R.TB_WH_VALID p, 0)]).bump (R.TB_WH_LOSSES p) 255

theorem lossCounted_regs (s : State) (p : Nat) :
    RegsKept [R.TB_WH_VALID p, R.TB_WH_LOSSES p] s (s.lossCounted p) :=
  .bump' _ _ (by simp) (.wrs' _ (by simp) (.rfl' _ s))

theorem lossCounted_rd (s : State) (p : Nat) : (s.lossCounted p).rd (R.TB_WH_VALID p) = 0 ∧
    (s.lossCounted p).rd (R.TB_WH_LOSSES p) = satInc 255 (s.rd (R.TB_WH_LOSSES p)) := by
  constructor
  · rw [State.lossCounted, rd_bump, if_neg (by simp), rd_wrs_head _ (by simp)]
  · rw [State.lossCounted, rd_bump, if_pos rfl, rd_wrs_ne _ _ _ (by simp)]

/-- After a loss no port is driven and COHERENT launches are refused until the Whistle returns (R121, R122). -/
def State.silenced (s : State) (p : Nat) (w : WhistleS) (tLoss : Int) : State :=
  { s with
    tb := { s.tb with srcGood := false, whLost := true },
    whistle := (ins s.whistle p { w with missing := 3, firstMiss := none, lastMarker := none, measured := false,
                                         reqRx := none }).map
      (fun (p : Nat × WhistleS) => (p.1, { p.2 with driving := false, tA := none })),
    ln := { s.ln with cohRefused := true, lossAt := some tLoss, lossEl := s.now } }

theorem silenced_driving {s : State} {p : Nat} {w : WhistleS} {tLoss : Int} :
    ∀ x ∈ (s.silenced p w tLoss).whistle, x.2.driving = false := by
  intro x hx
  obtain ⟨y, -, rfl⟩ := List.mem_map.mp hx
  rfl

theorem exec_tbWhLoss {t p : Nat} {m : Int} {s : State} (hworker : s.isWorker = true)
    (hrole : s.rd (R.TB_WH_ROLE p) = 1) (hlast : (s.wh p).lastMarker = some m) (hfirst : (s.wh p).firstMiss = none)
    (hmissed : m + 3005000 ≤ (s.begin t).harvest) :
    exec (.tbWhLoss t p) s = .next (((((s.begin t).lossCounted p).fallen.silenced p (s.wh p) (m + 1000000)).log
      0x2004 [p, m + 1000000]).timeRegs) := by
  have hthree : ¬(s.wh p).passed ((s.begin t).harvest - 5000) < 3 := by
    simp only [WhistleS.passed, hlast]
    omega
  have hloss : (((s.wh p).firstMiss.orElse fun _ => (s.wh p).tLoss).getD 0) = m + 1000000 := by
    simp [WhistleS.tLoss, hlast, hfirst]
  show execTbWhLoss t p s = _
  simp only [execTbWhLoss, begin_isWorker, rd_begin, begin_wh, hworker, hrole, hloss, hthree, decide_true, decide_false,
    Bool.and_self, Bool.not_true, Bool.or_self, Bool.false_eq_true, if_false]
  rfl

/-- A loss of the Whistle leads to HOLDOVER and silences the ports below (R121). -/
theorem tbWhLoss_falls {t p : Nat} {m : Int} {s : State} (h1 : 1 ≤ p) (h4 : p ≤ 4) (hworker : s.isWorker = true)
    (hrole : s.rd (R.TB_WH_ROLE p) = 1) (hlast : (s.wh p).lastMarker = some m) (hfirst : (s.wh p).firstMiss = none)
    (hmissed : m + 3005000 ≤ (s.begin t).harvest) (hroom : Room s) :
    ∃ u, exec (.tbWhLoss t p) s = .next u ∧
    u.rd (R.TB_WH_VALID p) = 0 ∧
    u.rd (R.TB_WH_LOSSES p) = satInc 255 (s.rd (R.TB_WH_LOSSES p)) ∧
    (s.rd R.TB_STAT_QUAL = 3 → u.rd R.TB_STAT_QUAL = 2) ∧
    u.ln.cohRefused = true ∧
    u.ln.lossAt = some (m + 1000000) ∧
    (∀ x ∈ u.whistle, x.2.driving = false) ∧
    Logged s u 0x2004 [(p : Int), m + 1000000] ∧
    u.harvest = (s.begin t).harvest ∧
    RegsKept [R.TB_WH_VALID p, R.TB_WH_LOSSES p, R.TB_STAT_QUAL, R.TB_STAT_SLEWING, R.TB_STAT_STEP_PENDING,
      R.TB_ERR, R.TB_STAT_HOLD_MIN] s u := by
  have hfallen : RegsKept [R.TB_STAT_QUAL, R.TB_STAT_SLEWING, R.TB_STAT_STEP_PENDING] ((s.begin t).lossCounted p)
      (((s.begin t).lossCounted p).fallen.silenced p (s.wh p) (m + 1000000)) :=
    (fallen_regs (s := (s.begin t).lossCounted p) hworker).trans (.of_reg rfl)
  obtain ⟨hvalid, hlosses⟩ := lossCounted_rd (s.begin t) p
  obtain ⟨hwindow, harr⟩ := fallen_stream (s := (s.begin t).lossCounted p) (hroom.begin_lt t).le
  have hport : ∀ f < 256, ((((s.begin t).lossCounted p).fallen.silenced p (s.wh p) (m + 1000000)).log
      0x2004 [p, m + 1000000]).timeRegs.rd ((0x2010 + p) * 256 + f) =
      ((s.begin t).lossCounted p).rd ((0x2010 + p) * 256 + f) := fun f hf => by
    have hstream := whistleKey_not_stream h1 h4 hf
    rw [timeRegs_rd (whistleKey_not_mem h1 h4 hf (by decide)), log_rd _ _ _ _ _ _ _ _ hstream,
      hfallen _ (whistleKey_not_mem h1 h4 hf (by decide)) hstream]
  refine ⟨_, exec_tbWhLoss hworker hrole hlast hfirst hmissed, ?valid, ?losses, ?qual, ?refused, ?lossAt, ?silent,
    ?logged, ?harvest, ?regs⟩
  case valid => exact (hport 2 (by decide)).trans hvalid
  case losses => exact (hport 3 (by decide)).trans hlosses
  case qual =>
    intro hslaved
    have hapart : R.TB_STAT_QUAL ∉ [R.TB_WH_VALID p, R.TB_WH_LOSSES p] :=
      not_mem_whistleKeys (fs := [2, 3]) h1 h4 (by decide) (by decide)
    have hqual : ((s.begin t).lossCounted p).rd R.TB_STAT_QUAL = 3 :=
      (lossCounted_regs (s.begin t) p _ hapart (by decide)).trans hslaved
    rw [timeRegs_rd (by decide), log_rd _ _ _ _ _ _ _ _ (by decide)]
    exact fallen_qual hqual
  case refused => rw [timeRegs_ln, log_ln]; rfl
  case lossAt => rw [timeRegs_ln, log_ln]; rfl
  case silent =>
    rw [timeRegs_whistle, log_whistle]
    exact silenced_driving
  case logged => 
    exact (logged_of_le (u := ((s.begin t).lossCounted p).fallen.silenced p (s.wh p) (m + 1000000)) _ _ _ _ _ _
      hwindow harr).timeRegs
  case harvest => rw [timeRegs_harvest, log_harvest]; exact fallen_harvest _
  case regs =>
    refine .timeRegs' (.log' _ _ _ _ _ _ (hfallen.next (by simp) ?_)) (by simp)
    exact (lossCounted_regs _ p).next (by simp) (begin_regsKept _ s t)

/-! ### The Whistle returns (03 R118, R123) -/

/-- The port heard again. -/
def State.heard (s : State) (p : Nat) : State :=
  (s.setWh p { s.wh p with lastValid := some s.now, missing := 0, firstMiss := none }).wr (R.TB_WH_VALID p) 1

theorem heard_regs (s : State) (p : Nat) : RegsKept [R.TB_WH_VALID p] s (s.heard p) :=
  .wr' _ _ (by simp) (.of_exact (setWh_regs _ s p _))

theorem exec_whistleReturn {t p : Nat} {err : Int} {s : State} (h1 : 1 ≤ p) (h4 : p ≤ 4)
    (hworker : s.isWorker = true) (hrole : s.rd (R.TB_WH_ROLE p) = 1) (hmeasured : (s.wh p).measured = true)
    (hqual : s.rd R.TB_STAT_QUAL ∈ [0, 2]) (hjoined : s.tb.joined = true) (hslew : s.rd R.TB_STAT_SLEWING ≠ 1) :
    exec (.whistleReturn t p err) s = .next (((s.begin t).heard p).sourceBack err true).timeRegs := by
  show execWhistleReturn t p err s = _
  unfold execWhistleReturn
  extract_lets b q v w x
  have hquality : q = 0 ∨ q = 2 := List.mem_pair.mp hqual
  have hfree : (decide (q = 0) || decide (q = 2)) = true :=
    Bool.or_eq_true_iff.mpr (hquality.imp decide_eq_true decide_eq_true)
  have hheard : (b.isWorker && decide (b.rd (R.TB_WH_ROLE p) = 1) && (b.wh p).measured &&
      (decide (q = 0) || decide (q = 2))) = true := by
    rw [hfree]
    simp [b, hworker, hrole, hmeasured]
  have hjoined' : x.tb.joined = true := hjoined
  have hslew' : x.flag R.TB_STAT_SLEWING = false := by
    have hkept : x.rd R.TB_STAT_SLEWING = s.rd R.TB_STAT_SLEWING :=
      heard_regs b p _ (by simpa using (whistleKey_ne h1 h4 (by decide) (by decide)).symm) (by decide)
    rw [State.flag, hkept]
    exact decide_eq_false hslew
  rw [hheard, hjoined', hslew']
  rfl

/-- The Whistle's return starts a slew of the error against it (R123). -/
theorem whistleReturn_slews {t p : Nat} {err : Int} {s : State} (h1 : 1 ≤ p) (h4 : p ≤ 4)
    (hworker : s.isWorker = true) (hrole : s.rd (R.TB_WH_ROLE p) = 1) (hmeasured : (s.wh p).measured = true)
    (hqual : s.rd R.TB_STAT_QUAL ∈ [0, 2]) (hjoined : s.tb.joined = true) (hslew : s.rd R.TB_STAT_SLEWING ≠ 1)
    (hne : err ≠ 0) (hsmall : err.natAbs ≤ 1000000) (hroom : Room s) :
    ∃ u, exec (.whistleReturn t p err) s = .next u ∧
    u.rd (R.TB_WH_VALID p) = 1 ∧
    u.rd R.TB_STAT_SLEWING = 1 ∧
    Logged s u 0x2003 [err] ∧
    u.harvest = (s.begin t).harvest ∧
    RegsKept [R.TB_WH_VALID p, R.TB_STAT_SLEWING, R.TB_RESID, R.TB_ERR, R.TB_STAT_HOLD_MIN] s u := by
  obtain ⟨hslewing, -, -, -⟩ := sourceBack_small_slew (s := (s.begin t).heard p) hne hsmall true
  refine ⟨_, exec_whistleReturn h1 h4 hworker hrole hmeasured hqual hjoined hslew, ?valid, ?slewing, ?logged,
    ?harvest, ?regs⟩
  case valid =>
    rw [timeRegs_rd (whistleKey_not_mem h1 h4 (by decide) (by decide)),
      sourceBack_small_regs hne hsmall true _ (whistleKey_not_mem h1 h4 (by decide) (by decide))
        (whistleKey_not_stream h1 h4 (by decide)), State.heard, rd_wr_same]
  case slewing => rw [timeRegs_rd (by decide), hslewing]
  case logged => 
    exact (sourceBack_small_logged (u := (s.begin t).heard p) hne hsmall true (hroom.begin_lt t) le_rfl).timeRegs
  case harvest => exact (timeRegs_harvest _).trans (sourceBack_small_harvest hne hsmall true)
  case regs =>
    refine .timeRegs' ((sourceBack_small_regs hne hsmall true).next (by simp) ?_) (by simp)
    exact (heard_regs _ p).next (by simp) (begin_regsKept _ s t)

/-- Settles O28: each command of pin EVT and of the Whistle. -/
theorem whistleComplete : Obligations.WhistleComplete := by
  unfold Obligations.WhistleComplete
  refine ⟨?edge, ?overrun, ?tick, ?second, ?trims, ?steps, ?request, ?rtReq, ?rtRep, ?rtRepRx, ?discarded, ?status,
    ?late, ?loss, ?back⟩
  case edge => exact fun t width rising s hedge hwidth hspace hroom => evtEdge_held hedge hwidth hspace hroom
  case overrun =>
    intro t taken s hdropped hspace hroom
    refine ⟨_, exec_tbEvtOverrun hdropped hspace, ?_, log_logged _ _ _ _ _ _ _ _ (hroom.begin_lt t) le_rfl,
      .log' _ _ _ _ _ _ (.of_reg rfl)⟩
    rw [log_tb]
    rfl
  case tick =>
    exact fun t p s _ _ hrole hdriving hgrid hsecond =>
      ⟨_, exec_tick hrole hdriving hgrid hsecond, marker_sent (Or.inl rfl)⟩
  case second =>
    intro t p s _ _ hrole hdriving hgrid
    obtain ⟨hvalid, hsent, hseq, hstep, -, hregs⟩ := marker_sent (s := s) (t := t) (p := p) (aux := s.secondAux p)
      (Or.inr rfl)
    exact ⟨_, exec_second hrole hdriving hgrid, hvalid, hsent, hseq, hstep, hregs⟩
  case trims =>
    exact fun t p bytes marker s hworker hrole h1 h4 hvalid htype hnostep hslaved =>
      whistleFrameRx_tick_trims hworker hrole h1 h4 hvalid htype hnostep hslaved
  case steps =>
    exact fun t p bytes marker s hworker hrole h1 h4 hvalid htype hstep hroom =>
      whistleFrameRx_tick_steps hworker hrole h1 h4 hvalid htype hstep hroom
  case request =>
    exact fun t p bytes marker s hworker _ _ hrole hvalid htype =>
      ⟨_, exec_whistleFrameRx_request hworker hrole hvalid htype, by rw [setWh_wh], rfl, .of_reg rfl⟩
  case rtReq =>
    intro t p fresh s _ _ hrole hlost hdue hgrid
    refine ⟨_, exec_rtReq hrole hlost hdue hgrid, ?_, ?_, ?_, exchange_sent _ (by decide), .of_reg rfl⟩
    all_goals rw [exchange_wh _ (by decide)]
  case rtRep =>
    intro t p m s hreq hlow hhigh
    refine ⟨_, exec_rtRep hreq hlow hhigh, ?_, exchange_sent _ (by decide), .of_reg rfl⟩
    rw [exchange_wh _ (by decide)]
  case rtRepRx =>
    intro t p bytes tA tB s h1 h4 _ hsent hvalid htype hroom
    exact ⟨_, exec_rtRepRx hsent hvalid htype, roundTrip_delay h1 h4 _, roundTrip_drives,
      fun hfar => roundTrip_refuses h1 h4 hfar (hroom.begin_lt t) le_rfl, (roundTrip_regs (s.begin t) p _)⟩
  case discarded => exact fun t p bytes tB s hbad => ⟨_, exec_rtRepRx_invalid hbad, rfl, .of_reg rfl⟩
  case status => exact fun t err q s hworker hslaved => timeStatusMessage_tells hworker hslaved
  case late =>
    exact fun t a s hslaved hat hknown hlate => ⟨_, rfl,
      (timeRegs_err _).trans (tbErr_late (s := s.begin t) hslaved hat hknown hlate), .timeRegs' (.of_reg rfl)⟩
  case loss =>
    exact fun t p m s h1 h4 hworker hrole hlast hfirst hmissed hroom =>
      tbWhLoss_falls h1 h4 hworker hrole hlast hfirst hmissed hroom
  case back =>
    exact fun t p err s h1 h4 hworker hrole hmeasured hqual hjoined hslew hne hsmall hroom =>
      whistleReturn_slews h1 h4 hworker hrole hmeasured hqual hjoined hslew hne hsmall hroom

end Sys2Proof.Machine
end

section
/-! PROOF. The frame of chapters 4 to 6 (O18). -/

namespace Sys2Proof.Machine

/-- Settles O18: the frame half of what every command may change. -/
theorem framesOfObserverFunctionsEngines : Obligations.FramesOfObserverFunctionsEngines := by
  unfold Obligations.FramesOfObserverFunctionsEngines
  exact fun i s u _ hu => (exec_leads i s u hu).frame

end Sys2Proof.Machine
end

section
/-! SUPPORT. O30: the observer's bindings, the samples that arrive, and what a step's gather does with them. -/

namespace Sys2Proof.Machine

-- One theorem after the other, so that the threads keep within the memory limit.
set_option Elab.async false

/-! ### A binding's own state -/

@[simp] theorem begin_bindS (s : State) (t n : Nat) : (s.begin t).bindS n = s.bindS n := rfl

@[simp] theorem begin_descOf (s : State) (t n : Nat) : (s.begin t).descOf n = s.descOf n := rfl

@[simp] theorem setBind_bindS (s : State) (n : Nat) (b : BindS) : (s.setBind n b).bindS n = b := by
  simp [State.setBind, State.bindS]

@[simp] theorem wr_bindS (s : State) (k v n : Nat) : (s.wr k v).bindS n = s.bindS n := rfl

@[simp] theorem showBind_bindS (s : State) (n m : Nat) : (s.showBind n).bindS m = s.bindS m := rfl

theorem setBind_regs (l : List Nat) (s : State) (n : Nat) (b : BindS) : RegsExact l s (s.setBind n b) := .of_reg rfl

theorem showBind_regs {l : List Nat} (s : State) {n : Nat} (h : R.OBS_IN_STAT_STATE n ∈ l) :
    RegsExact l s (s.showBind n) := .wr _ _ h (.rfl' _ s)

/-! ### A sample at a gather (04 R154, R155) -/

/-- An input of the step in computation. -/
def State.takeIn (s : State) (x : ObsIn) : State := { s with obs := { s.obs with taken := s.obs.taken ++ [x] } }

/-- A sample that waits for a later step. -/
def State.waitOn (s : State) (x : ObsIn) : State := { s with obs := { s.obs with waiting := s.obs.waiting ++ [x] } }

theorem countSample_drift (s : State) (n : Nat) (onTime : Bool) :
    ((s.countSample n onTime).bindS n).drift = (s.bindS n).drift := by
  simp [State.countSample]

theorem countSample_regs {l : List Nat} (s : State) {n : Nat} (onTime : Bool) (h : R.OBS_IN_STAT_STATE n ∈ l) :
    RegsExact l s (s.countSample n onTime) := (setBind_regs l s n _).trans (showBind_regs _ h)

section Gather

variable {s : State} {t0 : Int} {x : ObsIn}

theorem gatherOne_future (hdesc : (s.descOf x.bind).isSome = true) (hafter : t0 < x.at_) :
    s.gatherOne t0 x = s.waitOn x := by
  simp [State.gatherOne, takeAt, Option.isNone_eq_false_iff.mpr hdesc, hafter, State.waitOn]

theorem gatherOne_onTime (hdesc : (s.descOf x.bind).isSome = true) (hdrift : (s.bindS x.bind).drift = false)
    (hby : x.at_ ≤ t0) (hafter : t0 - 2000000 < x.at_) :
    s.gatherOne t0 x = (s.countSample x.bind true).takeIn x := by
  simp [State.gatherOne, takeAt, Option.isNone_eq_false_iff.mpr hdesc, not_lt.mpr hby, hafter, countSample_drift,
    hdrift, State.takeIn]

theorem gatherOne_late (hdesc : (s.descOf x.bind).isSome = true) (hdrift : (s.bindS x.bind).drift = false)
    (hby : x.at_ ≤ t0 - 2000000) (hafter : t0 - 6000000 < x.at_) :
    s.gatherOne t0 x = ((s.countSample x.bind false).bump R.OBS_LATE 0xFFFFFFFF).takeIn x := by
  have hpast : x.at_ ≤ t0 := by omega
  have hdrift' : (((s.countSample x.bind false).bump R.OBS_LATE 0xFFFFFFFF).bindS x.bind).drift = false :=
    (countSample_drift s x.bind false).trans hdrift
  simp [State.gatherOne, takeAt, Option.isNone_eq_false_iff.mpr hdesc, not_lt.mpr hpast, not_lt.mpr hby, hafter,
    hdrift', State.takeIn]

theorem gatherOne_discard (hdesc : (s.descOf x.bind).isSome = true) (hby : x.at_ ≤ t0 - 6000000) :
    s.gatherOne t0 x = (s.countSample x.bind false).bump R.OBS_LATE_DISCARDED 0xFFFFFFFF := by
  have hpast : x.at_ ≤ t0 := by omega
  have hlate : x.at_ ≤ t0 - 2000000 := by omega
  simp [State.gatherOne, takeAt, Option.isNone_eq_false_iff.mpr hdesc, not_lt.mpr hpast, not_lt.mpr hlate,
    not_lt.mpr hby]

/-- Whatever becomes of a sample, the gather moves its binding's state and the two counters alone, and no step. -/
theorem gatherOne_leaves (s : State) (t0 : Int) (x : ObsIn) :
    (s.gatherOne t0 x).obs.step = s.obs.step ∧
    RegsExact [R.OBS_IN_STAT_STATE x.bind, R.OBS_LATE, R.OBS_LATE_DISCARDED] s (s.gatherOne t0 x) := by
  have hcount := fun onTime =>
    countSample_regs (l := [R.OBS_IN_STAT_STATE x.bind, R.OBS_LATE, R.OBS_LATE_DISCARDED]) s (n := x.bind) onTime
      (by simp)
  unfold State.gatherOne
  split
  · exact ⟨rfl, .rfl' _ s⟩
  · split
    · exact ⟨rfl, .of_reg rfl⟩
    · dsimp only
      split
      · exact ⟨rfl, hcount true⟩
      · exact ⟨rfl, .upd (hcount true)⟩
    · dsimp only
      split
      · exact ⟨rfl, .bump' _ _ (by simp) (hcount false)⟩
      · exact ⟨rfl, .upd (.bump' _ _ (by simp) (hcount false))⟩
    · exact ⟨rfl, .bump' _ _ (by simp) (hcount false)⟩

end Gather

theorem takeIn_taken {s : State} {x : ObsIn} (h : s.obs.taken = []) : (s.takeIn x).obs.taken = [x] := by
  rw [State.takeIn, h]
  rfl

theorem stampOrder_taken_nil {s : State} (h : s.obs.taken = []) : s.stampOrder.obs.taken = [] := by
  simp [State.stampOrder, h]

theorem stampOrder_taken_singleton {s : State} {x : ObsIn} (h : s.obs.taken = [x]) :
    s.stampOrder.obs.taken = [x] := by
  simp [State.stampOrder, h]

/-- A late sample moves the counter of its kind by one. -/
theorem countLate_rd (s : State) (n k : Nat) (hk : R.OBS_IN_STAT_STATE n ≠ k) :
    ((s.countSample n false).bump k 0xFFFFFFFF).rd k = satInc 0xFFFFFFFF (s.rd k) := by
  rw [rd_bump, if_pos rfl,
    countSample_regs (l := [R.OBS_IN_STAT_STATE n]) s false (by simp) k (by simpa using hk.symm)]

/-- The gather of a step closed, with no sample waiting (R142). -/
def State.gatherShut (s : State) (st : ObsStepS) : State :=
  { s with obs := { s.obs with waiting := [], step := some { st with closed := true } } }

theorem exec_obsGatherClose {t : Nat} {st : ObsStepS} {x : ObsIn} {s : State} (hstep : s.obs.step = some st)
    (hopen : st.closed = false) (hwaiting : s.obs.waiting = [x]) (hdue : st.t0 + 200000 ≤ (s.begin t).harvest)
    (harrived : x.arrived ≤ st.t0 + 200000) :
    exec (.obsGatherClose t) s = .next (((s.begin t).gatherShut st).gatherOne st.t0 x).stampOrder := by
  show execObsGatherClose t s = _
  simp [execObsGatherClose, hstep, hopen, hwaiting, not_lt.mpr hdue, harrived, State.gatherShut]

/-- One sample's gather: it waits on, is taken, is taken late or is discarded (R154, R155). -/
theorem obsGatherClose_takes {t : Nat} {st : ObsStepS} {x : ObsIn} {s : State} (hstep : s.obs.step = some st)
    (hopen : st.closed = false) (hwaiting : s.obs.waiting = [x]) (htaken : s.obs.taken = [])
    (hdue : st.t0 + 200000 ≤ (s.begin t).harvest) (harrived : x.arrived ≤ st.t0 + 200000)
    (hdesc : (s.descOf x.bind).isSome = true) (hdrift : (s.bindS x.bind).drift = false) :
    ∃ u, exec (.obsGatherClose t) s = .next u ∧
    u.obs.step = some { st with closed := true } ∧
    (st.t0 < x.at_ → u.obs.waiting = [x] ∧ u.obs.taken = []) ∧
    (x.at_ ≤ st.t0 → st.t0 - 2000000 < x.at_ → u.obs.waiting = [] ∧ u.obs.taken = [x]) ∧
    (x.at_ ≤ st.t0 - 2000000 → st.t0 - 6000000 < x.at_ → u.obs.taken = [x] ∧
      u.rd R.OBS_LATE = satInc 0xFFFFFFFF (s.rd R.OBS_LATE)) ∧
    (x.at_ ≤ st.t0 - 6000000 → u.obs.taken = [] ∧
      u.rd R.OBS_LATE_DISCARDED = satInc 0xFFFFFFFF (s.rd R.OBS_LATE_DISCARDED)) ∧
    RegsExact [R.OBS_IN_STAT_STATE x.bind, R.OBS_LATE, R.OBS_LATE_DISCARDED] s u := by
  obtain ⟨hkept, hregs⟩ := gatherOne_leaves ((s.begin t).gatherShut st) st.t0 x
  have hdesc' : (((s.begin t).gatherShut st).descOf x.bind).isSome = true := hdesc
  have hdrift' : (((s.begin t).gatherShut st).bindS x.bind).drift = false := hdrift
  refine ⟨_, exec_obsGatherClose hstep hopen hwaiting hdue harrived, hkept, ?future, ?onTime, ?late, ?discard, ?regs⟩
  case future =>
    intro hafter
    rw [gatherOne_future hdesc' hafter]
    exact ⟨rfl, stampOrder_taken_nil htaken⟩
  case onTime =>
    intro hby hafter
    rw [gatherOne_onTime hdesc' hdrift' hby hafter]
    exact ⟨rfl, stampOrder_taken_singleton (takeIn_taken htaken)⟩
  case late =>
    intro hby hafter
    rw [gatherOne_late hdesc' hdrift' hby hafter]
    exact ⟨stampOrder_taken_singleton (takeIn_taken htaken),
      countLate_rd ((s.begin t).gatherShut st) x.bind R.OBS_LATE (by simp; omega)⟩
  case discard =>
    intro hby
    rw [gatherOne_discard hdesc' hby]
    exact ⟨stampOrder_taken_nil htaken,
      countLate_rd ((s.begin t).gatherShut st) x.bind R.OBS_LATE_DISCARDED (by simp; omega)⟩
  case regs => exact (RegsExact.of_reg rfl).trans (hregs.trans (.of_reg rfl))

end Sys2Proof.Machine
end

section
/-! SUPPORT. O30: a step launched or abandoned, samples that arrive, silent sources, estimates and drift. -/

namespace Sys2Proof.Machine

-- One theorem after the other, so that the threads keep within the memory limit.
set_option Elab.async false

theorem flag_of_rd {s : State} {k : Nat} (h : s.rd k = 1) : s.flag k = true := decide_eq_true h

theorem flag_of_rd_ne {s : State} {k : Nat} (h : s.rd k ≠ 1) : s.flag k = false := decide_eq_false h

/-! ### A step launched (04 R142, R171) -/

theorem obsOverrun_of_none {s : State} (h : s.obs.step = none) : s.obsOverrun = s := by
  simp only [State.obsOverrun, h]

/-- The instant of the last launch noted. -/
def State.instantNoted (s : State) (instant : Int) : State :=
  { s with obs := { s.obs with launched := some (instant, s.tb.steps) } }

/-- The observer with its next step launched. -/
def State.stepLaunched (s : State) (instant : Int) : State :=
  { s with obs := { s.obs with launched := some (instant, s.tb.steps), k := s.obs.k + 1,
                               step := some { k := s.obs.k, t0 := instant } } }

theorem exec_obsStep {t : Nat} {instant : Int} {s : State} (hstep : s.obs.step = none) (hselect : s.obs.select = none)
    (hrun : s.rd R.OBS_STAT_RUN = 1)
    (hgen : (List.range 512).any (fun g => s.rd (R.LN_PG_CFG_ACTION g) = 0xB000 &&
      (s.begin t).launches g instant s.obs.launched) = true) :
    exec (.obsStep t instant) s = .next (((s.begin t).stepLaunched instant).wr R.OBS_STAT_WARM_LEFT
      (if s.flag R.OBS_STAT_WARMING then min 0xFFFF ((s.obs.warmK - s.obs.k + 4) / 5) else 0)) := by
  show execObsStep t instant s = _
  unfold execObsStep
  extract_lets +onlyGivenNames b _ past _ _ next
  have hpast : past = (s.begin t).instantNoted instant := obsOverrun_of_none hstep
  have hnext : next = past := if_neg (by simp [hpast, State.instantNoted, hselect])
  have hrun' : past.flag R.OBS_STAT_RUN = true := hpast ▸ flag_of_rd hrun
  rw [if_neg (by rw [Bool.not_eq_true', Bool.not_eq_false]; exact hgen), hnext, hrun', hpast]
  rfl

/-- A step launched gets the next number; out of warming none is left of it (R142, R171). -/
theorem obsStep_launches {t : Nat} {instant : Int} {s : State} (hstep : s.obs.step = none)
    (hselect : s.obs.select = none) (hrun : s.rd R.OBS_STAT_RUN = 1)
    (hgen : (List.range 512).any (fun g => s.rd (R.LN_PG_CFG_ACTION g) = 0xB000 &&
      (s.begin t).launches g instant s.obs.launched) = true) :
    ∃ u, exec (.obsStep t instant) s = .next u ∧
    u.obs.step = some { k := s.obs.k, t0 := instant } ∧
    u.obs.k = s.obs.k + 1 ∧
    u.obs.launched = some (instant, s.tb.steps) ∧
    (s.rd R.OBS_STAT_WARMING ≠ 1 → u.rd R.OBS_STAT_WARM_LEFT = 0) ∧
    RegsExact [R.OBS_STAT_WARM_LEFT] s u := by
  refine ⟨_, exec_obsStep hstep hselect hrun hgen, rfl, rfl, rfl, fun hwarm => ?_, .wr _ _ (by simp) (.of_reg rfl)⟩
  rw [rd_wr_same, flag_of_rd_ne hwarm]
  rfl

/-! ### A step abandoned (04 R145, R146) -/

/-- A step abandoned, and counted (R146). -/
def State.abandoned (s : State) : State :=
  let u := (s.bump R.OBS_OVERRUN_OVERRUNS 0xFFFF).bump R.OBS_OVERRUN_CONSEC 255
  { u with obs := { u.obs with step := none, onTime := 0,
                               overrunOn := u.obs.overrunOn || 3 ≤ u.rd R.OBS_OVERRUN_CONSEC } }

theorem abandoned_consec (s : State) :
    s.abandoned.rd R.OBS_OVERRUN_CONSEC = satInc 255 (s.rd R.OBS_OVERRUN_CONSEC) := by
  show ((s.bump R.OBS_OVERRUN_OVERRUNS 0xFFFF).bump R.OBS_OVERRUN_CONSEC 255).rd R.OBS_OVERRUN_CONSEC = _
  rw [rd_bump, if_pos rfl, rd_bump, if_neg (by decide)]

theorem abandoned_overruns (s : State) :
    s.abandoned.rd R.OBS_OVERRUN_OVERRUNS = satInc 0xFFFF (s.rd R.OBS_OVERRUN_OVERRUNS) := by
  show ((s.bump R.OBS_OVERRUN_OVERRUNS 0xFFFF).bump R.OBS_OVERRUN_CONSEC 255).rd R.OBS_OVERRUN_OVERRUNS = _
  rw [rd_bump, if_neg (by decide), rd_bump, if_pos rfl]

theorem abandoned_regs (s : State) :
    RegsKept [R.OBS_OVERRUN_OVERRUNS, R.OBS_OVERRUN_CONSEC] s s.abandoned :=
  .upd (.bump' _ _ (by simp) (.bump' _ _ (by simp) (.rfl' _ s)))

theorem exec_obsOverrun {t : Nat} {st : ObsStepS} {s : State} (hstep : s.obs.step = some st)
    (hover : st.t0 + 2000000 ≤ (s.begin t).harvest) :
    exec (.obsOverrun t) s = .next ((s.begin t).abandoned.logOnce 0x3004 0 1000000000
      [st.k, (s.begin t).abandoned.rd R.OBS_OVERRUN_CONSEC]) := by
  show execObsOverrun t s = _
  simp only [execObsOverrun, begin_obs, hstep, if_pos hover, State.obsOverrun]
  rfl

/-- With no hold-off and room in the window an event is logged. -/
theorem logOnce_logged {s u : State} {code scope period : Nat} (payload : List Int) (island : Nat) (fault : Bool)
    (hmay : u.mayLog code scope period = true) (hroom : u.mirror.window.length < 4096)
    (harr : s.mirror.arrivals ≤ u.mirror.arrivals) :
    Logged s (u.logOnce code scope period payload island fault) code payload := by
  rw [logOnce_first _ _ _ _ _ _ _ hmay]
  exact log_logged _ _ _ _ _ _ _ _ hroom harr

/-- A step not in time is abandoned, counted and logged; its inputs stay taken (R145, R146). -/
theorem obsOverrun_abandons {t : Nat} {st : ObsStepS} {s : State} (hstep : s.obs.step = some st)
    (hover : st.t0 + 2000000 ≤ (s.begin t).harvest) (hmay : (s.begin t).mayLog 0x3004 0 1000000000 = true)
    (hroom : Room s) :
    ∃ u, exec (.obsOverrun t) s = .next u ∧
    u.obs.step = none ∧
    u.obs.taken = s.obs.taken ∧
    u.rd R.OBS_OVERRUN_OVERRUNS = satInc 0xFFFF (s.rd R.OBS_OVERRUN_OVERRUNS) ∧
    u.rd R.OBS_OVERRUN_CONSEC = satInc 255 (s.rd R.OBS_OVERRUN_CONSEC) ∧
    u.obs.overrunOn = (s.obs.overrunOn || decide (3 ≤ u.rd R.OBS_OVERRUN_CONSEC)) ∧
    Logged s u 0x3004 [(st.k : Int), (u.rd R.OBS_OVERRUN_CONSEC : Int)] ∧
    RegsKept [R.OBS_OVERRUN_OVERRUNS, R.OBS_OVERRUN_CONSEC] s u := by
  have hobs := fun payload => (State.logOnce_follows (s.begin t).abandoned 0x3004 0 1000000000 payload 2 false).frame
    .obs (by decide)
  have hrd := fun payload => logOnce_rd (s.begin t).abandoned 0x3004 0 1000000000 payload 2 false
  have hconsec := fun payload => hrd payload R.OBS_OVERRUN_CONSEC (by decide)
  refine ⟨_, exec_obsOverrun hstep hover, ?step, ?taken, ?overruns, ?consec, ?cause, ?logged, ?regs⟩
  case step => exact congrArg ObsS.step (hobs _)
  case taken => exact (congrArg ObsS.taken (hobs _)).trans rfl
  case overruns => exact (hrd _ _ (by decide)).trans (abandoned_overruns _)
  case consec => exact (hconsec _).trans (abandoned_consec _)
  case cause =>
    rw [hconsec]
    exact congrArg ObsS.overrunOn (hobs _)
  case logged =>
    rw [hconsec]
    exact logOnce_logged _ _ _ hmay (hroom.begin_lt t) le_rfl
  case regs => exact .logOnce' _ _ _ _ _ _ ((begin_regsKept _ s t).trans (abandoned_regs _))

end Sys2Proof.Machine
end

section
/-! SUPPORT. O30: samples that arrive, silent sources, offset estimates and drift. -/

namespace Sys2Proof.Machine

-- One theorem after the other, so that the threads keep within the memory limit.
set_option Elab.async false

/-! ### A sample that arrives (04 R140, R152, R154) -/

/-- A binding after a sample of this time of its source. -/
def BindS.timed (b : BindS) (time : Int) : BindS :=
  { b with
    lastTime := some time
    period := match b.lastTime with
      | some l => if l < time then (time - l).toNat else b.period
      | none => b.period }

/-- A sample's time noted by its binding. -/
def State.timeNoted (s : State) (n : Nat) (time : Int) : State := s.setBind n ((s.bindS n).timed time)

/-- A sample's arrival noted by its binding. -/
def State.arrivalNoted (s : State) (n : Nat) : State := s.setBind n { s.bindS n with lastArr := some s.now }

/-- The first MOIST binding's samples are kept for yield mapping (08 R311). -/
def State.moistNoted (s : State) (n : Nat) (stamp : Int) (value : Nat) : State :=
  if s.rd (R.OBS_IN_CFG_CLASS n) = 6 ∧ s.rd (R.OBS_IN_CFG_ORDINAL n) = 0 then s.noteMoist stamp value else s

theorem moistNoted_frame (s : State) (n : Nat) (stamp : Int) (value : Nat) :
    Frame [.ym] s (s.moistNoted n stamp value) :=
  (Follows.ite (fun _ => State.noteMoist_follows s stamp value) fun _ => Follows.rfl' _ s).frame

/-- What a binding without an offset of its own makes of a reading: the sample by its stamp and its scaled value
(R152, R154). -/
def State.sampleOf (s : State) (n : Nat) (time : Int) (raw : Nat) : ObsIn :=
  { bind := n, at_ := time + (s.rd (R.OBS_IN_CFG_LATENCY n) * 10000 : Nat), stamp := time,
    value := toF32 (f32 raw * s.rdF (R.OBS_IN_SCALE_GAIN n) + s.rdF (R.OBS_IN_SCALE_OFFSET n)),
    arrived := s.harvest }

section Arrival

variable {t n : Nat} {time : Int} {raw : Nat} {s : State}

theorem exec_obsSampleArrive (hmanager : s.isWorker = false) (hdesc : (s.descOf n).isSome = true)
    (hrun : s.rd R.OBS_STAT_RUN = 1) (hfree : s.rd (R.OBS_IN_CFG_FREE n) = 0) :
    exec (.obsSampleArrive t n time raw) s = .next (((((s.begin t).timeNoted n time).arrivalNoted n).moistNoted n time
      ((s.begin t).sampleOf n time raw).value).waitOn ((s.begin t).sampleOf n time raw)) := by
  have hfixed : s.flag (R.OBS_IN_CFG_FREE n) = false := flag_of_rd_ne (by omega)
  have hrun' : ((((s.begin t).timeNoted n time).arrivalNoted n).moistNoted n time
      ((s.begin t).sampleOf n time raw).value).flag R.OBS_STAT_RUN = true :=
    flag_of_rd ((rd_of_reg (moistNoted_frame _ _ _ _ .reg (by decide)) _).trans hrun)
  show execObsSampleArrive t n time raw s = _
  unfold execObsSampleArrive
  simp only [begin_flag, hfixed, Bool.false_and, Bool.false_eq_true, if_false]
  refine congrArg Host.Outcome.next ?_
  rw [if_neg (by rw [Bool.not_eq_true]; exact hmanager),
    if_neg (by rw [Bool.not_eq_true]; exact Option.isNone_eq_false_iff.mpr hdesc)]
  exact if_pos hrun'

/-- A sample waits for its gather with its stamp and its value (R152, R154). -/
theorem obsSampleArrive_waits (hmanager : s.isWorker = false) (hdesc : (s.descOf n).isSome = true)
    (hrun : s.rd R.OBS_STAT_RUN = 1) (hfree : s.rd (R.OBS_IN_CFG_FREE n) = 0) :
    ∃ u, exec (.obsSampleArrive t n time raw) s = .next u ∧
    u.obs.waiting = s.obs.waiting ++ [(s.begin t).sampleOf n time raw] ∧
    (u.bindS n).lastArr = some (max s.now t) ∧
    RegsExact [] s u := by
  have hframe := moistNoted_frame (((s.begin t).timeNoted n time).arrivalNoted n) n time
    ((s.begin t).sampleOf n time raw).value
  have hobs := hframe .obs (by decide)
  refine ⟨_, exec_obsSampleArrive hmanager hdesc hrun hfree, ?waits, ?arrival, .of_reg (hframe .reg (by decide))⟩
  case waits => exact congrArg (fun o => o.waiting ++ _) hobs
  case arrival =>
    refine (congrArg (fun o => ((look o.bind n).getD {}).lastArr) hobs).trans ?_
    exact congrArg BindS.lastArr (setBind_bindS ((s.begin t).timeNoted n time) n _)

theorem exec_obsSampleArrive_worker (hworker : s.isWorker = true) (hfree : s.rd (R.OBS_IN_CFG_FREE n) = 0) :
    exec (.obsSampleArrive t n time raw) s =
      .next (((s.begin t).timeNoted n time).answer (.trunk 0) 0x43 [n, time, raw]) := by
  have hfixed : s.flag (R.OBS_IN_CFG_FREE n) = false := flag_of_rd_ne (by omega)
  show execObsSampleArrive t n time raw s = _
  unfold execObsSampleArrive
  simp only [begin_flag, hfixed, Bool.false_and, Bool.false_eq_true, if_false]
  exact congrArg Host.Outcome.next (if_pos hworker)

/-- A worker sends a sample on to the manager (R140). -/
theorem obsSampleArrive_forwards (hworker : s.isWorker = true) (hfree : s.rd (R.OBS_IN_CFG_FREE n) = 0) :
    ∃ u, exec (.obsSampleArrive t n time raw) s = .next u ∧
    Sent u (.trunk 0) 0x43 [(n : Int), time, (raw : Int)] ∧
    u.obs.waiting = s.obs.waiting ∧
    (u.bindS n).lastTime = some time ∧
    RegsExact [] s u :=
  ⟨_, exec_obsSampleArrive_worker hworker hfree, answer_sent _ _ _ _, rfl,
    congrArg BindS.lastTime (setBind_bindS (s.begin t) n _), .of_reg rfl⟩

end Arrival

/-! ### A source that is missing (04 R159) -/

/-- STATE of a binding in use, by its record (Table 4.5). -/
theorem showBind_state {s : State} {n : Nat} (hdesc : (s.descOf n).isSome = true) :
    (s.showBind n).rd (R.OBS_IN_STAT_STATE n) = if (s.bindS n).drift then 5 else if (s.bindS n).late then 4
      else if (s.bindS n).lying then 3 else if (s.bindS n).missing then 2 else 1 := by
  rw [State.showBind, rd_wr_same, Option.isNone_eq_false_iff.mpr hdesc]
  rfl

theorem exec_sourceMissing {t n : Nat} {s : State} (hdesc : (s.descOf n).isSome = true) :
    exec (.sourceMissing t n true) s =
      .next (((s.begin t).setBind n { s.bindS n with missing := true }).showBind n) := by
  show execSourceMissing t n true s = _
  simp [execSourceMissing, hdesc]

theorem sourceMissing_missing {t n : Nat} {s : State} (hdesc : (s.descOf n).isSome = true) :
    ∃ u, exec (.sourceMissing t n true) s = .next u ∧
    (u.bindS n).missing = true ∧
    ((s.bindS n).late = false → (s.bindS n).drift = false → (s.bindS n).lying = false →
      u.rd (R.OBS_IN_STAT_STATE n) = 2) ∧
    RegsExact [R.OBS_IN_STAT_STATE n] s u := by
  refine ⟨_, exec_sourceMissing hdesc, by simp, fun hlate hdrift hlying => ?_, ?_⟩
  · refine (showBind_state (s := (s.begin t).setBind n _) hdesc).trans ?_
    simp [hlate, hdrift, hlying]
  · exact (RegsExact.of_reg (t := (s.begin t).setBind n _) rfl).trans (showBind_regs _ (by simp))

/-! ### Offset estimates and drift (04 R157, R158) -/

/-- While an estimate is valid the source is not in DRIFT. -/
theorem judgeDrift_of_valid {s : State} {n e : Nat} (hfree : s.flag (R.OBS_IN_CFG_FREE n) = true)
    (hdesc : (s.descOf n).isSome = true) (hest : (s.bindS n).est = some e) (hvalid : s.now < e + 3000000000) :
    s.judgeDrift n = (s.setBind n { s.bindS n with drift := false }).showBind n := by
  simp [State.judgeDrift, State.driftBound, hfree, Option.isNone_eq_false_iff.mpr hdesc, hest, hvalid]

/-- A drift bound above the sample period is logged as DRIFT is entered. -/
theorem judgeDrift_enters {s : State} {n e : Nat} (hfree : s.flag (R.OBS_IN_CFG_FREE n) = true)
    (hdesc : (s.descOf n).isSome = true) (hest : (s.bindS n).est = some e) (hdrift : (s.bindS n).drift = false)
    (hended : e + 3000000000 ≤ s.now)
    (habove : s.samplePeriod n * 1000000 < s.rd (R.OBS_IN_CFG_DRIFT_PPM n) * (s.now - e)) :
    s.judgeDrift n = ((s.setBind n { s.bindS n with drift := true }).showBind n).logOnce 0x3003 n 1000000000
      [(n : Int), ((s.rd (R.OBS_IN_CFG_DRIFT_PPM n) * (s.now - e) / 1000000 : Nat) : Int), (s.samplePeriod n : Int)] := by
  have hbound : s.driftBound n =
      some (some (mkRat ((s.rd (R.OBS_IN_CFG_DRIFT_PPM n) * (s.now - e) : Nat) : Int) 1000000)) := by
    simp [State.driftBound, hest, not_lt.mpr hended]
  have habove' : (s.samplePeriod n : Rat) <
      mkRat ((s.rd (R.OBS_IN_CFG_DRIFT_PPM n) * (s.now - e) : Nat) : Int) 1000000 := by
    rw [Rat.mkRat_eq_div, Int.cast_natCast, lt_div_iff₀ (by norm_num)]
    exact_mod_cast habove
  have hfloor : (mkRat ((s.rd (R.OBS_IN_CFG_DRIFT_PPM n) * (s.now - e) : Nat) : Int) 1000000).floor =
      ((s.rd (R.OBS_IN_CFG_DRIFT_PPM n) * (s.now - e) / 1000000 : Nat) : Int) := by
    rw [Rat.mkRat_eq_div]
    exact Rat.floor_intCast_div_natCast _ 1000000
  unfold State.judgeDrift
  simp only [hfree, Option.isNone_eq_false_iff.mpr hdesc, hbound, hdrift, habove', hfloor, Bool.not_true, Bool.or_self,
    decide_true, Bool.not_false, Bool.and_self, Bool.false_eq_true, if_false, if_true]

/-- A new estimate of a binding. -/
def State.estimated (s : State) (n : Nat) (offset : Int) : State :=
  s.setBind n { s.bindS n with est := some s.now, offset := offset }

@[simp] theorem begin_launchedPeriod (s : State) (t n : Nat) :
    (s.begin t).launchedPeriod n = s.launchedPeriod n := by
  unfold State.launchedPeriod
  dsimp +instances only [rd_begin, begin_flag, begin_role]

@[simp] theorem begin_samplePeriod (s : State) (t n : Nat) : (s.begin t).samplePeriod n = s.samplePeriod n := by
  unfold State.samplePeriod
  rw [begin_launchedPeriod, begin_bindS, begin_descOf]

theorem exec_offsetEstimate {t n unc : Nat} {offset : Int} {s : State} (hfree : s.rd (R.OBS_IN_CFG_FREE n) = 1)
    (htype : s.rd (R.OBS_IN_CFG_SRC_TYPE n) ≠ 2) (hunc : 4 * unc ≤ s.samplePeriod n) :
    exec (.offsetEstimate t n offset unc) s = .next ((((s.begin t).estimated n offset).judgeDrift n).wr
      (R.OBS_IN_STAT_OFFSET_AGE n) (((s.begin t).estimated n offset).offsetAge n)) := by
  have hfree' : s.flag (R.OBS_IN_CFG_FREE n) = true := flag_of_rd hfree
  show execOffsetEstimate t n offset unc s = _
  simp [execOffsetEstimate, State.estimateFor, hfree', htype, hunc, State.estimated]

/-- An estimate just made is 0 ms old. -/
theorem offsetAge_of_new {s : State} {n : Nat} (hfree : s.flag (R.OBS_IN_CFG_FREE n) = true)
    (hest : (s.bindS n).est = some s.now) : s.offsetAge n = 0 := by
  simp [State.offsetAge, hfree, hest]

/-- A valid estimate is taken, and the source leaves DRIFT (R157, R158). -/
theorem offsetEstimate_valid {t n unc : Nat} {offset : Int} {s : State} (hfree : s.rd (R.OBS_IN_CFG_FREE n) = 1)
    (htype : s.rd (R.OBS_IN_CFG_SRC_TYPE n) ≠ 2) (hdesc : (s.descOf n).isSome = true)
    (hunc : 4 * unc ≤ s.samplePeriod n) :
    ∃ u, exec (.offsetEstimate t n offset unc) s = .next u ∧
    (u.bindS n).est = some (max s.now t) ∧
    (u.bindS n).offset = offset ∧
    (u.bindS n).drift = false ∧
    u.rd (R.OBS_IN_STAT_OFFSET_AGE n) = 0 ∧
    RegsExact [R.OBS_IN_STAT_STATE n, R.OBS_IN_STAT_OFFSET_AGE n] s u := by
  have hest : (((s.begin t).estimated n offset).bindS n).est = some (max s.now t) :=
    congrArg BindS.est (setBind_bindS (s.begin t) n _)
  have hoffset : (((s.begin t).estimated n offset).bindS n).offset = offset :=
    congrArg BindS.offset (setBind_bindS (s.begin t) n _)
  have hjudged := judgeDrift_of_valid (s := (s.begin t).estimated n offset) (flag_of_rd hfree) hdesc hest
    (show max s.now t < max s.now t + 3000000000 by omega)
  have hexec := exec_offsetEstimate (t := t) (offset := offset) hfree htype hunc
  rw [hjudged] at hexec
  refine ⟨_, hexec, ?est, ?offset, ?drift, ?age, ?regs⟩
  case est => simpa using hest
  case offset => simpa using hoffset
  case drift => simp
  case age =>
    rw [rd_wr_same]
    exact offsetAge_of_new (flag_of_rd hfree) hest
  case regs =>
    exact .wr _ _ (by simp) ((RegsExact.of_reg (t := ((s.begin t).estimated n offset).setBind n _) rfl).trans
      (showBind_regs _ (by simp)))

theorem exec_offsetInvalid (t n : Nat) (s : State) : exec (.offsetInvalid t n) s = .next ((s.begin t).judgeDrift n) :=
  rfl

/-- A drift bound above the sample period puts the source in DRIFT (R158). -/
theorem offsetInvalid_drifts {t n e : Nat} {s : State} (hfree : s.rd (R.OBS_IN_CFG_FREE n) = 1)
    (hdesc : (s.descOf n).isSome = true) (hest : (s.bindS n).est = some e) (hdrift : (s.bindS n).drift = false)
    (hended : e + 3000000000 ≤ max s.now t)
    (habove : s.samplePeriod n * 1000000 < s.rd (R.OBS_IN_CFG_DRIFT_PPM n) * (max s.now t - e))
    (hmay : (s.begin t).mayLog 0x3003 n 1000000000 = true) (hroom : Room s) :
    ∃ u, exec (.offsetInvalid t n) s = .next u ∧
    (u.bindS n).drift = true ∧
    u.rd (R.OBS_IN_STAT_STATE n) = 5 ∧
    Logged s u 0x3003 [(n : Int), ((s.rd (R.OBS_IN_CFG_DRIFT_PPM n) * (max s.now t - e) / 1000000 : Nat) : Int),
      (s.samplePeriod n : Int)] ∧
    RegsKept [R.OBS_IN_STAT_STATE n] s u := by
  have hjudged := judgeDrift_enters (s := s.begin t) (flag_of_rd hfree) hdesc hest hdrift hended
    (by rw [begin_samplePeriod]; exact habove)
  rw [begin_samplePeriod] at hjudged
  have hobs := fun payload => (State.logOnce_follows (((s.begin t).setBind n { s.bindS n with drift := true }).showBind n)
    0x3003 n 1000000000 payload 2 false).frame .obs (by decide)
  refine ⟨_, (exec_offsetInvalid t n s).trans (congrArg Host.Outcome.next hjudged), ?drift, ?state, ?logged, ?regs⟩
  case drift =>
    refine (congrArg (fun o => ((look o.bind n).getD {}).drift) (hobs _)).trans ?_
    exact congrArg BindS.drift (setBind_bindS (s.begin t) n _)
  case state =>
    rw [logOnce_rd _ _ _ _ _ _ _ _ (by simp [streamRegs]; omega)]
    refine (showBind_state (s := (s.begin t).setBind n _) hdesc).trans ?_
    simp
  case logged => exact logOnce_logged _ _ _ hmay (hroom.begin_lt t) le_rfl
  case regs =>
    refine .logOnce' _ _ _ _ _ _ (.of_exact ?_)
    exact (RegsExact.of_reg (t := (s.begin t).setBind n _) rfl).trans (showBind_regs _ (by simp))

end Sys2Proof.Machine
end

section
/-! SUPPORT. O30: the observer stopped and started, a state error, and the choice of a pack. -/

namespace Sys2Proof.Machine

-- One theorem after the other, so that the threads keep within the memory limit.
set_option Elab.async false

/-! ### What an operation tells -/

/-- From `s` to `u` at most `n` events are logged and the optimiser's status is shown, and nothing else has moved. -/
structure Tells (n : Nat) (s u : State) : Prop where
  regs : RegsKept [R.FN_OPT_STAT_STATE, R.FN_OPT_STAT_AUTH] s u
  frame : Frame [.reg, .answers, .mirror, .ses, .bb] s u
  window : s.mirror.window.length + n ≤ 4096 → s.mirror.window ⊆ u.mirror.window ∧
    u.mirror.window.length ≤ s.mirror.window.length + n

namespace Tells

variable {n m : Nat} {s u : State}

theorem refl (s : State) : Tells 0 s s :=
  ⟨.rfl' _ s, fun p _ => by cases p <;> rfl, fun _ => ⟨List.Subset.refl _, le_rfl⟩⟩

theorem mono (h : Tells n s u) (hnm : n ≤ m) : Tells m s u where
  regs := h.regs
  frame := h.frame
  window hroom := (h.window (by omega)).imp_right fun hlen => by omega

theorem log (code : Nat) (payload : List Int) (h : Tells n s u) : Tells (n + 1) s (u.log code payload) where
  regs := .log' _ _ _ _ _ _ h.regs
  frame := h.frame.trans ((State.log_follows u code payload 2 false false none).frame.mono (by decide))
  window hroom := by
    obtain ⟨hsub, hlen⟩ := h.window (by omega)
    rw [log_window _ _ _ _ _ _ _ (by omega)]
    refine ⟨fun e he => List.mem_append_left _ (hsub he), ?_⟩
    rw [List.length_append, List.length_singleton]
    omega

theorem showOpt (h : Tells n s u) : Tells n s u.showOpt where
  regs := .wrs' _ (by simp) h.regs
  frame := h.frame.trans ((State.showOpt_follows u).frame.mono (by decide))
  window := h.window

theorem ite {c : Prop} [Decidable c] {v : State} (hu : Tells n s u) (hv : Tells n s v) :
    Tells n s (if c then u else v) := by
  split
  · exact hu
  · exact hv

/-- What was logged before stays while the window has room. -/
theorem logged {r : State} {code : Nat} {payload : List Int} (h : Tells n s u)
    (hroom : s.mirror.window.length + n ≤ 4096) (hlogged : Logged r s code payload) : Logged r u code payload := by
  obtain ⟨e, he, hok⟩ := hlogged
  exact ⟨e, (h.window hroom).1 he, hok⟩

end Tells

/-! ### The degradation step changes (04 R166, R168) -/

/-- The degradation step and its cause written. -/
def State.dstepWritten (s : State) (new cause : Nat) : State :=
  s.wrs [(R.OBS_STAT_DSTEP, new), (R.OBS_STAT_CAUSE, cause)]

/-- The step of the entry into D3 noted. -/
def State.d3Noted (s : State) (k : Nat) : State := { s with obs := { s.obs with d3At := k } }

/-- A change of the degradation step logged, with the entry into D3 and the exit. -/
def State.dstepTold (s : State) (old new cause k : Nat) : State :=
  let u := s.log 0x3001 [old, new, cause, k]
  if new = 3 then (u.d3Noted k).log 0x3008 [1]
  else if old = 3 then u.log 0x3008 [0] else u

theorem setDstep_eq (s : State) (new cause k : Nat) : s.setDstep new cause k =
    if new = s.rd R.OBS_STAT_DSTEP then s.dstepWritten new cause
    else ((s.dstepWritten new cause).dstepTold (s.rd R.OBS_STAT_DSTEP) new cause k).dstepClamp := rfl

theorem dstepWritten_rd (s : State) (new cause : Nat) : (s.dstepWritten new cause).rd R.OBS_STAT_DSTEP = new ∧
    (s.dstepWritten new cause).rd R.OBS_STAT_CAUSE = cause :=
  ⟨rd_wrs_head _ (by simp), (rd_wrs_cons ..).trans (rd_wrs_head _ (by simp))⟩

theorem dstepWritten_regs (s : State) (new cause : Nat) :
    RegsExact [R.OBS_STAT_DSTEP, R.OBS_STAT_CAUSE] s (s.dstepWritten new cause) := .wrs _ (by simp) (.rfl' _ s)

theorem dstepTold_tells (s : State) (old cause k : Nat) : Tells 2 s (s.dstepTold old 4 cause k) := by
  have htold := (Tells.refl s).log 0x3001 [((old : Nat) : Int), ((4 : Nat) : Int), cause, k]
  unfold State.dstepTold
  rw [if_neg (by decide)]
  exact .ite (htold.log 0x3008 [0]) (htold.mono (by decide))

theorem dstepClamp_of_stopped {s : State} (h : s.rd R.OBS_STAT_RUN = 0) : s.dstepClamp = s.showOpt := by
  have hrun : s.flag R.OBS_STAT_RUN = false := flag_of_rd_ne (by omega)
  simp [State.dstepClamp, State.optWaits, hrun]

/-- In a stopped observer D4 is entered with its events alone. -/
theorem setDstep_tells {s : State} (hrun : s.rd R.OBS_STAT_RUN = 0) (cause k : Nat) :
    Tells 2 (s.dstepWritten 4 cause) (s.setDstep 4 cause k) := by
  have htold := dstepTold_tells (s.dstepWritten 4 cause) (s.rd R.OBS_STAT_DSTEP) cause k
  have hstill : ((s.dstepWritten 4 cause).dstepTold (s.rd R.OBS_STAT_DSTEP) 4 cause k).rd R.OBS_STAT_RUN = 0 := by
    rw [htold.regs _ (by decide) (by decide), dstepWritten_regs s 4 cause _ (by decide), hrun]
  rw [setDstep_eq, dstepClamp_of_stopped hstill]
  exact .ite ((Tells.refl _).mono (by decide)) htold.showOpt

/-! ### The observer stops (04 R141, R150, R167) -/

theorem observing_congr {s u : State} (hmode : u.rd R.MODE_STAT_MODE = s.rd R.MODE_STAT_MODE)
    (hcrank : u.rd R.PWR_STAT_CRANK = s.rd R.PWR_STAT_CRANK) (hmd : u.md = s.md) (hrole : u.role = s.role)
    (hpwr : u.pwr = s.pwr) : u.observing = s.observing := by
  simp only [State.observing, State.mode, State.modeTarget, State.isWorker, State.inCrank, State.flag, hmode, hcrank,
    hmd, hrole, hpwr]

/-- The observer at a stop: its state cleared, not running. -/
def State.halted (s : State) : State :=
  ({ s with obs := { s.obs with step := none, waiting := [], taken := [], latent := [], hold := none },
            out := none, ego := none }).wrs
    [(R.OBS_STAT_RUN, 0), (R.OBS_STAT_WARMING, 0), (R.OBS_STAT_WARM_LEFT, 0)]

theorem obsStop_eq (s : State) (cause : Nat) : s.obsStop cause = (s.halted.setDstep 4 cause s.obs.k).showOpt := rfl

theorem halted_run (s : State) : s.halted.rd R.OBS_STAT_RUN = 0 := rd_wrs_head _ (by simp)

theorem halted_regs (s : State) :
    RegsExact [R.OBS_STAT_RUN, R.OBS_STAT_WARMING, R.OBS_STAT_WARM_LEFT] s s.halted :=
  .wrs _ (by simp) (.of_reg rfl)

/-- A stop tells the change of the degradation step and the end of a hold. -/
theorem obsStop_tells (s : State) (cause : Nat) : Tells 2 (s.halted.dstepWritten 4 cause) (s.obsStop cause) :=
  obsStop_eq s cause ▸ (setDstep_tells (halted_run s) cause s.obs.k).showOpt

theorem obsStop_regs (s : State) (cause : Nat) :
    RegsKept [R.OBS_STAT_RUN, R.OBS_STAT_WARMING, R.OBS_STAT_WARM_LEFT, R.OBS_STAT_DSTEP, R.OBS_STAT_CAUSE,
      R.FN_OPT_STAT_STATE, R.FN_OPT_STAT_AUTH] s (s.obsStop cause) :=
  (obsStop_tells s cause).regs.next (by simp) <|
    (RegsKept.of_exact (dstepWritten_regs s.halted 4 cause)).next (by simp) <|
    (RegsKept.of_exact (halted_regs s)).mono (by simp)

/-- After a stop the observer does not run, and is in D4 with the cause. -/
theorem obsStop_rd (s : State) (cause : Nat) : (s.obsStop cause).rd R.OBS_STAT_RUN = 0 ∧
    (s.obsStop cause).rd R.OBS_STAT_DSTEP = 4 ∧ (s.obsStop cause).rd R.OBS_STAT_CAUSE = cause := by
  have htells := (obsStop_tells s cause).regs
  obtain ⟨hdstep, hcause⟩ := dstepWritten_rd s.halted 4 cause
  refine ⟨?_, (htells _ (by decide) (by decide)).trans hdstep, (htells _ (by decide) (by decide)).trans hcause⟩
  rw [htells _ (by decide) (by decide), dstepWritten_regs s.halted 4 cause _ (by decide), halted_run]

theorem obsStop_obs (s : State) (cause : Nat) : (s.obsStop cause).obs = s.halted.obs :=
  (obsStop_tells s cause).frame .obs (by decide)

theorem obsStop_out (s : State) (cause : Nat) : (s.obsStop cause).out = none :=
  (obsStop_tells s cause).frame .out (by decide)

/-- What was logged before a stop stays while the window has room. -/
theorem obsStop_logged {r s : State} {code : Nat} {payload : List Int} (cause : Nat) (h : Logged r s code payload)
    (hroom : s.mirror.window.length + 2 ≤ 4096) : Logged r (s.obsStop cause) code payload := by
  have hmirror : (s.halted.dstepWritten 4 cause).mirror = s.mirror := rfl
  exact (obsStop_tells s cause).logged (hmirror ▸ hroom) (h.of_mirror hmirror)

/-- A stop leaves modes, roles and supplies to themselves. -/
theorem obsStop_observing (s : State) (cause : Nat) : (s.obsStop cause).observing = s.observing := by
  have hregs := obsStop_regs s cause
  have hframe := (State.obsStop_follows s cause).frame
  exact observing_congr (hregs _ (by decide) (by decide)) (hregs _ (by decide) (by decide)) (hframe .md (by decide))
    (hframe .role (by decide)) (hframe .pwr (by decide))

theorem obsStop_packNow (s : State) (cause : Nat) : (s.obsStop cause).packNow = s.packNow := by
  rw [State.packNow, obsStop_obs, obsStop_regs s cause _ (by decide) (by decide)]
  rfl

theorem obsStop_select (s : State) (cause : Nat) : (s.obsStop cause).obs.select = s.obs.select := by
  rw [obsStop_obs]
  rfl

/-! ### The observer starts (04 R141, R171, R177) -/

/-- The observer empty, as its start leaves it with `warm` steps of warming before it. -/
def ObsS.begun (o : ObsS) (now warm : Nat) : ObsS :=
  { o with
    k := 0, warmK := warm, step := none, started := now, waiting := [], taken := [], latent := [],
    bind := o.bind.map (fun (x : Nat × BindS) => (x.1, x.2.fresh)), innov := [], incons := false,
    overrunOn := false, onTime := 0, hold := none, mask := 0, egoSub := false, egoNone := false }

/-- The observer empty and warming. -/
def State.obsBegun (s : State) (warm : Nat) : State :=
  ({ s with obs := s.obs.begun s.now warm }).wrs [(R.OBS_STAT_RUN, 1), (R.OBS_STAT_WARMING, 1),
    (R.OBS_OVERRUN_CONSEC, 0), (R.OBS_STAT_WARM_LEFT, min 0xFFFF ((warm + 4) / 5))]

/-- What a start shows of the bindings and the optimiser. -/
def State.startShown (s : State) : State := ((List.range 32).foldl State.showBind s).showOpt

/-- The registers a start shows. -/
def shownRegs : List Nat :=
  (List.range 32).map R.OBS_IN_STAT_STATE ++ [R.FN_OPT_STAT_STATE, R.FN_OPT_STAT_AUTH]

theorem startShown_regs (s : State) : RegsExact shownRegs s s.startShown := by
  refine .wrs _ (by simp [shownRegs]) (.foldl (fun n hn u => showBind_regs u ?_) s)
  exact List.mem_append_left _ (List.mem_map_of_mem hn)

theorem startShown_frame (s : State) : Frame [.reg] s s.startShown :=
  (Follows.next (State.showOpt_follows _) (by decide) <|
    Follows.foldl _ (Follows.rfl' _ s) fun u n => State.showBind_follows u n).frame

theorem obsBegin_of_held {s : State} (h : (s.flag R.OBS_STAT_RUN || !s.observing || s.obs.eccHold ||
    s.obs.select.isSome) = true) : s.obsBegin = s.showOpt := if_pos h

theorem obsBegin_of_free {s : State} {p : PackS} (h : (s.flag R.OBS_STAT_RUN || !s.observing || s.obs.eccHold ||
    s.obs.select.isSome) = false) (hpack : s.packNow = some p) :
    s.obsBegin = (s.obsBegun (250 * max (s.rd R.OBS_CFG_WARM) p.warmMin)).startShown := by
  unfold State.obsBegin
  rw [h, hpack]
  rfl

theorem startShown_rd (s : State) {k : Nat} (h : k ∉ shownRegs) : s.startShown.rd k = s.rd k := startShown_regs s k h

/-- A start with a pack: the observer runs and warms. -/
theorem obsBegun_rd (s : State) (warm : Nat) : (s.obsBegun warm).startShown.rd R.OBS_STAT_RUN = 1 ∧
    (s.obsBegun warm).startShown.rd R.OBS_STAT_WARMING = 1 := by
  constructor
  · rw [startShown_rd _ (by decide)]
    exact rd_wrs_head _ (by simp)
  · rw [startShown_rd _ (by decide)]
    exact (rd_wrs_cons ..).trans (rd_wrs_head _ (by simp))

theorem obsBegun_obs (s : State) (warm : Nat) : (s.obsBegun warm).startShown.obs = s.obs.begun s.now warm :=
  startShown_frame _ .obs (by decide)

theorem obsBegun_mirror (s : State) (warm : Nat) : (s.obsBegun warm).startShown.mirror = s.mirror :=
  startShown_frame _ .mirror (by decide)

/-- Where nothing holds it stopped, the observer starts empty and warming with its pack. -/
theorem obsBegin_starts {s : State} {p : PackS} (hrun : s.rd R.OBS_STAT_RUN = 0) (hobserving : s.observing = true)
    (hhold : s.obs.eccHold = false) (hselect : s.obs.select = none) (hpack : s.packNow = some p) :
    s.obsBegin.rd R.OBS_STAT_RUN = 1 ∧ s.obsBegin.rd R.OBS_STAT_WARMING = 1 ∧
    (∃ warm, s.obsBegin.obs = s.obs.begun s.now warm) ∧ s.obsBegin.mirror = s.mirror := by
  have hstill : s.flag R.OBS_STAT_RUN = false := flag_of_rd_ne (by omega)
  rw [obsBegin_of_free (by simp [hstill, hobserving, hhold, hselect]) hpack]
  obtain ⟨hruns, hwarms⟩ := obsBegun_rd s (250 * max (s.rd R.OBS_CFG_WARM) p.warmMin)
  exact ⟨hruns, hwarms, ⟨_, obsBegun_obs ..⟩, obsBegun_mirror ..⟩

/-- With a pack the observer starts or stays as it is: its pack, the selection and the events are not touched. -/
theorem obsBegin_leaves {s : State} {p : PackS} (hpack : s.packNow = some p) :
    s.obsBegin.rd R.OBS_STAT_PACK = s.rd R.OBS_STAT_PACK ∧ s.obsBegin.obs.select = s.obs.select ∧
    s.obsBegin.obs.changing = s.obs.changing ∧ s.obsBegin.mirror = s.mirror := by
  cases hheld : (s.flag R.OBS_STAT_RUN || !s.observing || s.obs.eccHold || s.obs.select.isSome) with
  | true =>
    rw [obsBegin_of_held hheld]
    exact ⟨rd_wrs_ne _ _ _ (by simp), rfl, rfl, rfl⟩
  | false =>
    rw [obsBegin_of_free hheld hpack, startShown_rd _ (by decide), obsBegun_obs, obsBegun_mirror]
    exact ⟨rd_wrs_ne _ _ _ (by simp), rfl, rfl, rfl⟩

end Sys2Proof.Machine
end

section
/-! SUPPORT. O30: a state error, and a pack selected and changed. -/

namespace Sys2Proof.Machine

-- One theorem after the other, so that the threads keep within the memory limit.
set_option Elab.async false

/-! ### A state error (04 R150) -/

/-- A state error noted, a second one so that the observer stays stopped. -/
def State.eccNoted (s : State) (second : Bool) : State :=
  { s with obs := { s.obs with eccAt := some s.now, eccHold := second } }

@[simp] theorem eccNoted_rd (s : State) (second : Bool) (k : Nat) : (s.eccNoted second).rd k = s.rd k := rfl

theorem eccNoted_regs (l : List Nat) (s : State) (second : Bool) : RegsKept l s (s.eccNoted second) := .of_reg rfl

@[simp] theorem eccNoted_mirror (s : State) (second : Bool) : (s.eccNoted second).mirror = s.mirror := rfl

/-- The event of a state error. -/
def State.eccTold (s : State) (region : Nat) (second : Bool) : State := s.log 0x3013 [region, bit01 second]

theorem eccTold_frame (s : State) (region : Nat) (second : Bool) :
    Frame [.reg, .answers, .mirror, .ses, .bb] s (s.eccTold region second) :=
  (State.log_follows s 0x3013 [region, bit01 second] 2 false false none).frame

theorem eccTold_regs (s : State) (region : Nat) (second : Bool) : RegsKept [] s (s.eccTold region second) :=
  log_regs s 0x3013 [region, bit01 second] 2 false false none

theorem eccTold_logged {s : State} (hroom : Room s) (t region : Nat) (second : Bool) :
    Logged s ((s.begin t).eccTold region second) 0x3013 [region, bit01 second] ∧
    ((s.begin t).eccTold region second).mirror.window.length + 2 ≤ 4096 := by
  refine ⟨begin_log_logged hroom t _ _, ?_⟩
  rw [State.eccTold, log_window _ _ _ _ _ _ _ (hroom.begin_lt t), List.length_append, List.length_singleton,
    begin_mirror]
  omega

section StateError

variable {t region : Nat} {s : State}

theorem exec_obsStateEcc_again {a : Nat} (hrun : s.rd R.OBS_STAT_RUN = 1) (hat : s.obs.eccAt = some a)
    (hsoon : max s.now t < a + 60000000000) :
    exec (.obsStateEcc t region) s = .next ((((s.begin t).eccTold region true).obsStop 0x32).eccNoted true) := by
  have hrun' : (s.begin t).flag R.OBS_STAT_RUN = true := flag_of_rd hrun
  have hsoon' : (s.begin t).now < a + 60000000000 := hsoon
  show execObsStateEcc t region s = _
  unfold execObsStateEcc
  simp only [hrun', begin_obs, hat, hsoon', decide_true, Bool.not_true, Bool.false_eq_true, if_false, if_true,
    State.eccTold, State.eccNoted]

theorem exec_obsStateEcc_first (hrun : s.rd R.OBS_STAT_RUN = 1) (hnone : s.obs.eccAt = none) :
    exec (.obsStateEcc t region) s = .next ((((s.begin t).eccTold region false).obsStop 0x32).eccNoted false).obsBegin := by
  have hrun' : (s.begin t).flag R.OBS_STAT_RUN = true := flag_of_rd hrun
  show execObsStateEcc t region s = _
  unfold execObsStateEcc
  simp only [hrun', begin_obs, hnone, Bool.not_true, Bool.false_eq_true, if_false, State.eccTold, State.eccNoted]

/-- A second error within 60 s keeps the observer stopped. -/
theorem obsStateEcc_holds {a : Nat} (hrun : s.rd R.OBS_STAT_RUN = 1) (hat : s.obs.eccAt = some a)
    (hsoon : max s.now t < a + 60000000000) (hroom : Room s) :
    ∃ u, exec (.obsStateEcc t region) s = .next u ∧
    u.rd R.OBS_STAT_RUN = 0 ∧
    u.rd R.OBS_STAT_DSTEP = 4 ∧
    u.rd R.OBS_STAT_CAUSE = 0x32 ∧
    u.obs.eccHold = true ∧
    u.out = none ∧
    Logged s u 0x3013 [(region : Int), 1] ∧
    RegsKept [R.OBS_STAT_RUN, R.OBS_STAT_WARMING, R.OBS_STAT_WARM_LEFT, R.OBS_STAT_DSTEP, R.OBS_STAT_CAUSE,
      R.FN_OPT_STAT_STATE, R.FN_OPT_STAT_AUTH] s u := by
  have hexec := exec_obsStateEcc_again (region := region) hrun hat hsoon
  obtain ⟨hlogged, hlen⟩ := eccTold_logged hroom t region true
  have htold := (begin_regsKept [] s t).trans (eccTold_regs (s.begin t) region true)
  generalize (s.begin t).eccTold region true = v at hexec hlogged hlen htold
  obtain ⟨hstopped, hdstep, hcause⟩ := obsStop_rd v 0x32
  have hregs := (htold.mono (List.nil_subset _)).trans (obsStop_regs v 0x32)
  have hout := obsStop_out v 0x32
  have hkept := obsStop_logged 0x32 hlogged hlen
  generalize v.obsStop 0x32 = w at hexec hstopped hdstep hcause hregs hout hkept
  exact ⟨_, hexec, (eccNoted_rd ..).trans hstopped, (eccNoted_rd ..).trans hdstep, (eccNoted_rd ..).trans hcause, rfl,
    hout, hkept.of_mirror (eccNoted_mirror ..), hregs.trans (eccNoted_regs _ _ _)⟩

/-- A first error stops the observer and starts it again. -/
theorem obsStateEcc_restarts (hrun : s.rd R.OBS_STAT_RUN = 1) (hnone : s.obs.eccAt = none)
    (hobserving : s.observing = true) (hselect : s.obs.select = none) (hpack : s.packNow.isSome = true)
    (hroom : Room s) :
    ∃ u, exec (.obsStateEcc t region) s = .next u ∧
    u.rd R.OBS_STAT_RUN = 1 ∧
    u.rd R.OBS_STAT_WARMING = 1 ∧
    u.obs.k = 0 ∧
    u.obs.eccAt = some (max s.now t) ∧
    Logged s u 0x3013 [(region : Int), 0] := by
  obtain ⟨p, hp⟩ := Option.isSome_iff_exists.mp hpack
  have hexec := exec_obsStateEcc_first (t := t) (region := region) hrun hnone
  obtain ⟨hlogged, hlen⟩ := eccTold_logged hroom t region false
  have hframe := eccTold_frame (s.begin t) region false
  have htold := eccTold_regs (s.begin t) region false
  generalize (s.begin t).eccTold region false = v at hexec hlogged hlen hframe htold
  have hobs : v.obs = s.obs := hframe .obs (by decide)
  have hnow : (v.obsStop 0x32).now = max s.now t := ((State.obsStop_follows v 0x32).now).trans (hframe .now (by decide))
  have hobserving' : (v.obsStop 0x32).observing = true := by
    rw [obsStop_observing, observing_congr (htold _ (by decide) (by decide)) (htold _ (by decide) (by decide))
      (hframe .md (by decide)) (hframe .role (by decide)) (hframe .pwr (by decide))]
    exact hobserving
  have hpack' : (v.obsStop 0x32).packNow = some p := by
    rw [obsStop_packNow, State.packNow, hobs, htold _ (by decide) (by decide)]
    exact hp
  have hselect' : (v.obsStop 0x32).obs.select = none := by rw [obsStop_select, hobs, hselect]
  obtain ⟨hstopped, -, -⟩ := obsStop_rd v 0x32
  have hkept := obsStop_logged 0x32 hlogged hlen
  generalize v.obsStop 0x32 = w at hexec hnow hobserving' hpack' hselect' hstopped hkept
  obtain ⟨hruns, hwarms, ⟨warm, hbegun⟩, hmirror⟩ :=
    obsBegin_starts (s := w.eccNoted false) hstopped hobserving' rfl hselect' hpack'
  exact ⟨_, hexec, hruns, hwarms, by rw [hbegun]; rfl, by rw [hbegun, ← hnow]; rfl, hkept.of_mirror hmirror⟩

end StateError

/-! ### A pack selected (04 R178; 13 Table 13.16) -/

section Pack

variable {t n slot : Nat} {s : State}

/-- A pack selected. -/
def State.packChosen (s : State) (slot : Nat) : State := { s with obs := { s.obs with select := some slot } }

theorem exec_packSelect (hn : n ≠ 0) (hcls : s.classAtLeast n 1 = true) (hturn : s.turn n .pack = true)
    (hmode : s.mode = Mode.FIELD_IDLE) (hslot : (look s.obs.packs slot).isSome = true) :
    exec (.packSelect t n slot) s = .next (((s.inTurn t n .pack).packChosen slot).reply n Res.OK) := by
  refine congrArg Host.Outcome.next ((gated_of_turn hn hturn t _).trans ?_)
  have hcls' : (s.inTurn t n .pack).classAtLeast n Cls.OPERATOR = true := hcls
  have hmode' : (s.inTurn t n .pack).mode = Mode.FIELD_IDLE := hmode
  have hslot' : (look (s.inTurn t n .pack).obs.packs slot).isNone = false := Option.isNone_eq_false_iff.mpr hslot
  simp only [hcls', hmode', hslot', Bool.not_true, Bool.false_eq_true, ne_eq, not_true, if_false, State.packChosen]

theorem exec_packSelect_refused (hn : n ≠ 0) (hcls : s.classAtLeast n 1 = true) (hturn : s.turn n .pack = true)
    (hmode : s.mode ≠ Mode.FIELD_IDLE) :
    exec (.packSelect t n slot) s =
      .next (((s.inTurn t n .pack).log 0x3011 [(slot : Int), (s.mode : Int)]).reply n 0x3011) := by
  refine congrArg Host.Outcome.next ((gated_of_turn hn hturn t _).trans ?_)
  have hcls' : (s.inTurn t n .pack).classAtLeast n Cls.OPERATOR = true := hcls
  have hmode' : (s.inTurn t n .pack).mode = s.mode := rfl
  simp only [hcls', hmode', hmode, Bool.not_true, Bool.false_eq_true, ne_eq, not_false_eq_true, if_false, if_true]

/-- In FIELD_IDLE a valid pack is selected. -/
theorem packSelect_selects (hn : n ≠ 0) (hopen : s.ses.open_.any (fun p => p.2.num = n) = true)
    (hcls : s.classAtLeast n 1 = true) (hturn : s.turn n .pack = true) (hmode : s.mode = Mode.FIELD_IDLE)
    (hslot : (look s.obs.packs slot).isSome = true) :
    ∃ u, exec (.packSelect t n slot) s = .next u ∧
    u.obs.select = some slot ∧
    Sent u (.session n) Res.OK [] ∧
    RegsExact [] s u := by
  refine ⟨_, exec_packSelect hn hcls hturn hmode hslot, ?_, reply_sent _ _ _ _ hn hopen, .reply' _ _ _ (.of_reg rfl)⟩
  rw [(State.reply_follows ..).frame .obs (by decide)]
  rfl

/-- In another mode the selection is refused and logged. -/
theorem packSelect_refused (hn : n ≠ 0) (hopen : s.ses.open_.any (fun p => p.2.num = n) = true)
    (hcls : s.classAtLeast n 1 = true) (hturn : s.turn n .pack = true) (hmode : s.mode ≠ Mode.FIELD_IDLE)
    (hroom : Room s) :
    ∃ u, exec (.packSelect t n slot) s = .next u ∧
    u.obs = s.obs ∧
    Sent u (.session n) 0x3011 [] ∧
    Logged s u 0x3011 [(slot : Int), (s.mode : Int)] ∧
    RegsKept [] s u := by
  have hopen' : n ∈ (s.inTurn t n .pack).sessionNums := (mem_sessionNums s n).mpr hopen
  have hreply := (State.reply_follows ((s.inTurn t n .pack).log 0x3011 [(slot : Int), (s.mode : Int)]) n 0x3011 []).frame
  refine ⟨_, exec_packSelect_refused hn hcls hturn hmode, ?obs, ?sent, ?logged, ?regs⟩
  case obs => exact (hreply .obs (by decide)).trans ((State.log_follows ..).frame .obs (by decide))
  case sent =>
    refine reply_sent _ _ _ _ hn ((mem_sessionNums _ n).mp ?_)
    rw [log_sessionNums]
    exact hopen'
  case logged =>
    have hlogged : Logged s ((s.inTurn t n .pack).log 0x3011 [(slot : Int), (s.mode : Int)]) 0x3011
        [(slot : Int), (s.mode : Int)] := log_logged _ _ _ _ _ _ _ _ (hroom.begin_lt t) le_rfl
    exact hlogged.of_mirror (hreply .mirror (by decide))
  case regs => exact .reply' _ _ _ (.log' _ _ _ _ _ _ (.of_reg rfl))

/-! ### A pack changed (04 R178) -/

/-- The selected pack active. -/
def State.packChanged (s : State) (slot : Nat) : State :=
  ({ s with obs := { s.obs with select := none, changing := false } }).wr R.OBS_STAT_PACK slot

theorem exec_obsPackChange {p : PackS} (hchanging : s.obs.changing = true) (hselect : s.obs.select = some slot)
    (hpack : look s.obs.packs slot = some p) :
    exec (.obsPackChange t) s = .next (((s.begin t).packChanged slot).log 0x3012
      [(s.rd R.OBS_STAT_PACK : Int), (slot : Int), (p.vendor : Int), (p.packId : Int)]).obsBegin := by
  show execObsPackChange t s = _
  simp [execObsPackChange, hchanging, hselect, hpack, State.packChanged]

/-- The change makes the pack active and starts the observer where nothing holds it stopped. -/
theorem obsPackChange_changes {p : PackS} (hchanging : s.obs.changing = true) (hselect : s.obs.select = some slot)
    (hpack : look s.obs.packs slot = some p) (hroom : Room s) :
    ∃ u, exec (.obsPackChange t) s = .next u ∧
    u.rd R.OBS_STAT_PACK = slot ∧
    u.obs.select = none ∧
    u.obs.changing = false ∧
    Logged s u 0x3012 [(s.rd R.OBS_STAT_PACK : Int), (slot : Int), (p.vendor : Int), (p.packId : Int)] ∧
    (s.observing = true → s.rd R.OBS_STAT_RUN = 0 → s.obs.eccHold = false →
      u.rd R.OBS_STAT_RUN = 1 ∧ u.rd R.OBS_STAT_WARMING = 1) := by
  have hexec := exec_obsPackChange (t := t) hchanging hselect hpack
  have hlogged : Logged s (((s.begin t).packChanged slot).log 0x3012
      [(s.rd R.OBS_STAT_PACK : Int), (slot : Int), (p.vendor : Int), (p.packId : Int)]) 0x3012
      [(s.rd R.OBS_STAT_PACK : Int), (slot : Int), (p.vendor : Int), (p.packId : Int)] :=
    log_logged _ _ _ _ _ _ _ _ (hroom.begin_lt t) le_rfl
  have hframe := (State.log_follows ((s.begin t).packChanged slot) 0x3012
    [(s.rd R.OBS_STAT_PACK : Int), (slot : Int), (p.vendor : Int), (p.packId : Int)] 2 false false none).frame
  have htold := log_regs ((s.begin t).packChanged slot) 0x3012
    [(s.rd R.OBS_STAT_PACK : Int), (slot : Int), (p.vendor : Int), (p.packId : Int)] 2 false false none
  generalize ((s.begin t).packChanged slot).log 0x3012
    [(s.rd R.OBS_STAT_PACK : Int), (slot : Int), (p.vendor : Int), (p.packId : Int)] = v at hexec hlogged hframe htold
  have hobs : v.obs = { s.obs with select := none, changing := false } := hframe .obs (by decide)
  have hactive : v.rd R.OBS_STAT_PACK = slot := (htold _ (by decide) (by decide)).trans (rd_wr_same ..)
  have hregs : ∀ k, k ≠ R.OBS_STAT_PACK → k ∉ streamRegs → v.rd k = s.rd k := fun k hk hs =>
    (htold k (by simp) hs).trans (rd_wr_ne (s := _) slot hk.symm)
  have hpack' : v.packNow = some p := by
    rw [State.packNow, hactive, hobs]
    exact hpack
  obtain ⟨hstays, hselected, hchanged, hmirror⟩ := obsBegin_leaves hpack'
  refine ⟨_, hexec, hstays.trans hactive, by rw [hselected, hobs], by rw [hchanged, hobs], hlogged.of_mirror hmirror,
    fun hobserving hrun hhold => ?_⟩
  have hobserving' : v.observing = true := by
    rw [observing_congr (hregs _ (by decide) (by decide)) (hregs _ (by decide) (by decide)) (hframe .md (by decide))
      (hframe .role (by decide)) (hframe .pwr (by decide))]
    exact hobserving
  obtain ⟨hruns, hwarms, -, -⟩ := obsBegin_starts ((hregs _ (by decide) (by decide)).trans hrun) hobserving'
    (by rw [hobs]; exact hhold) (by rw [hobs]) hpack'
  exact ⟨hruns, hwarms⟩

end Pack

end Sys2Proof.Machine
end

section
/-! SUPPORT. O30: the output of a step. `StepKept` says of the operations a step's output runs through what they leave:
the observer's own fields (Tables 4.10, 4.12, 4.13), the step and its inputs, and harvest time. -/

namespace Sys2Proof.Machine

-- One theorem after the other, so that the threads keep within the memory limit.
set_option Elab.async false

/-- A field of the observer's own objects (Tables 4.10, 4.12, 4.13), apart from its bindings'. -/
abbrev ObsField (k : Nat) : Prop := 0x3000 ≤ k / 256 ∧ k / 256 ≤ 0x3003

/-- An object that is not one of the observer's own. -/
abbrev OtherObject (k : Nat) : Prop := k / 256 < 0x3000 ∨ 0x3003 < k / 256

theorem OtherObject.not_obs {k : Nat} (h : OtherObject k) : ¬ObsField k := by
  unfold ObsField
  omega

theorem ObsField.not_stream {k : Nat} (h : ObsField k) : k ∉ streamRegs := by
  have hstream : ∀ x ∈ streamRegs, OtherObject x := by decide
  exact fun hk => (hstream k hk).not_obs h

/-- A field of instance `n` of a block that begins at a later object. -/
theorem otherObject_block {o n f : Nat} (ho : 0x3003 < o) : OtherObject ((o + n) * 256 + f) := by
  unfold OtherObject
  omega

/-- From `s` to `u` the observer's own fields, its step and inputs, the entry into D3 and harvest time stay. -/
structure StepKept (s u : State) : Prop where
  rd : ∀ k, ObsField k → u.rd k = s.rd k
  step : u.obs.step = s.obs.step
  taken : u.obs.taken = s.obs.taken
  d3At : u.obs.d3At = s.obs.d3At
  harvest : u.harvest = s.harvest

namespace StepKept

variable {s t u : State}

theorem refl (s : State) : StepKept s s := ⟨fun _ _ => rfl, rfl, rfl, rfl, rfl⟩

theorem trans (h : StepKept s t) (k : StepKept t u) : StepKept s u where
  rd x hx := (k.rd x hx).trans (h.rd x hx)
  step := k.step.trans h.step
  taken := k.taken.trans h.taken
  d3At := k.d3At.trans h.d3At
  harvest := k.harvest.trans h.harvest

/-- An operation that touches neither the observer's state nor the time, by the registers it leaves. -/
theorem of_frame {l : List Part} (hframe : Frame l s u) (hrd : ∀ k, ObsField k → u.rd k = s.rd k)
    (hobs : .obs ∉ l := by decide) (htb : .tb ∉ l := by decide) (hnow : .now ∉ l := by decide) : StepKept s u := by
  have hsame : u.obs = s.obs := hframe .obs hobs
  exact ⟨hrd, by rw [hsame], by rw [hsame], by rw [hsame], harvest_of_tb (hframe .tb htb) (hframe .now hnow)⟩

/-- The parts that `StepKept` speaks of. -/
def view (s : State) : List (Nat × Nat) × Option ObsStepS × List ObsIn × Nat × TimeS × Nat :=
  (s.reg, s.obs.step, s.obs.taken, s.obs.d3At, s.tb, s.now)

/-- Writing other parts of the state. -/
theorem parts (h : StepKept s t) (hv : view u = view t) : StepKept s u := by
  simp only [view, Prod.mk.injEq] at hv
  obtain ⟨hreg, hstep, htaken, hd3, htb, hnow⟩ := hv
  exact h.trans ⟨fun k _ => rd_of_reg hreg k, hstep, htaken, hd3, harvest_of_tb htb hnow⟩

theorem ite {c : Prop} [Decidable c] {v : State} (hu : c → StepKept s u) (hv : ¬c → StepKept s v) :
    StepKept s (if c then u else v) := by
  split
  · next h => exact hu h
  · next h => exact hv h

theorem foldl {α : Type} {f : State → α → State} (hf : ∀ v x, StepKept v (f v x)) (xs : List α) (h : StepKept s u) :
    StepKept s (xs.foldl f u) := by
  induction xs generalizing u with
  | nil => exact h
  | cons x xs ih => exact ih (h.trans (hf u x))

theorem wr {k : Nat} (v : Nat) (hk : OtherObject k) (h : StepKept s u) : StepKept s (u.wr k v) := by
  refine h.trans (of_frame (State.wr_follows u k v).frame fun x hx => rd_wr_ne u v ?_)
  rintro rfl
  exact hk.not_obs hx

theorem bump {k : Nat} (m : Nat) (hk : OtherObject k) (h : StepKept s u) : StepKept s (u.bump k m) := wr _ hk h

theorem raise {k : Nat} (v : Nat) (hk : OtherObject k) (h : StepKept s u) : StepKept s (u.raise k v) :=
  ite (fun _ => wr _ hk h) fun _ => h

theorem log (code : Nat) (payload : List Int) (island : Nat) (esc fault : Bool) (input : Option Int)
    (h : StepKept s u) : StepKept s (u.log code payload island esc fault input) :=
  h.trans (of_frame (State.log_follows ..).frame fun _ hk => log_rd _ _ _ _ _ _ _ _ hk.not_stream)

theorem logOnce (code scope period : Nat) (payload : List Int) (island : Nat) (fault : Bool) (h : StepKept s u) :
    StepKept s (u.logOnce code scope period payload island fault) :=
  h.trans (of_frame (State.logOnce_follows ..).frame fun _ hk => logOnce_rd _ _ _ _ _ _ _ _ hk.not_stream)

theorem answer (d : Dest) (c : Nat) (l : List Int) (h : StepKept s u) : StepKept s (u.answer d c l) := parts h rfl

theorem reply (n c : Nat) (l : List Int) (h : StepKept s u) : StepKept s (u.reply n c l) :=
  h.trans (of_frame (State.reply_follows ..).frame fun _ _ => rd_reply ..)

/-! ### The sources' states (04 R156 to R163) -/

theorem setBind (n : Nat) (b : BindS) (h : StepKept s u) : StepKept s (u.setBind n b) := parts h rfl

theorem showBind (n : Nat) (h : StepKept s u) : StepKept s (u.showBind n) := wr _ (otherObject_block (by decide)) h

theorem countSample (n : Nat) (onTime : Bool) (h : StepKept s u) : StepKept s (u.countSample n onTime) :=
  showBind n (setBind n _ h)

theorem judgeLate (n : Nat) (h : StepKept s u) : StepKept s (u.judgeLate n) := by
  unfold State.judgeLate
  extract_lets b hist total bad pct late v
  have hv : StepKept s v := wr _ (otherObject_block (by decide)) (setBind n _ h)
  exact ite (fun _ => hv) fun _ => logOnce _ _ _ _ _ _ hv

theorem judgeLie (net : NetIn) (n : Nat) (h : StepKept s u) : StepKept s (u.judgeLie net n) := by
  unfold State.judgeLie
  extract_lets b res _ mean lying v
  have hv : StepKept s v := setBind n _ h
  exact ite (fun _ => hv) fun _ => logOnce _ _ _ _ _ _ hv

theorem judgeDrift (n : Nat) (h : StepKept s u) : StepKept s (u.judgeDrift n) := by
  refine ite (fun _ => h) fun _ => ?_
  dsimp only
  split
  · exact showBind n (setBind n _ h)
  · exact ite (fun _ => logOnce _ _ _ _ _ _ (showBind n (setBind n _ h))) fun _ => h

theorem judgeSource (net : NetIn) (n : Nat) (h : StepKept s u) : StepKept s (u.judgeSource net n) := by
  unfold State.judgeSource
  extract_lets judged _ ego _ missing
  have hjudged : StepKept s judged := judgeDrift n (judgeLie net n (judgeLate n h))
  have hego : StepKept s ego := ite (fun _ => countSample n true (setBind n _ hjudged)) fun _ => hjudged
  have hmissing : StepKept s missing := ite (fun _ => setBind n _ hego) fun _ => hego
  clear_value missing
  exact wr _ (otherObject_block (by decide)) (showBind n hmissing)

theorem judgeInnov (net : NetIn) (h : StepKept s u) : StepKept s (u.judgeInnov net) := by
  unfold State.judgeInnov
  extract_lets lim w n inc old _ v
  clear_value w inc
  have hv : StepKept s v := parts h rfl
  exact ite (fun _ => hv) fun _ => log _ _ _ _ _ _ hv

theorem publishEgo (net : NetIn) (k : Nat) (h : StepKept s u) : StepKept s (u.publishEgo net k) := by
  unfold State.publishEgo
  extract_lets src _ v e
  have hv : StepKept s v := parts h rfl
  exact ite (fun _ => hv) fun _ => parts hv rfl

theorem stepOnTime (h : StepKept s u) : StepKept s u.stepOnTime := ite (fun _ => parts h rfl) fun _ => h

/-! ### The optimiser's values under a new degradation step (05 R199) -/

theorem setIdx (f i : Nat) (v : IdxS) (h : StepKept s u) : StepKept s (u.setIdx f i v) := parts h rfl

theorem reclamp (h : StepKept s u) : StepKept s u.reclamp := by
  refine foldl (fun v f => ite (fun _ => foldl (fun w i => ?_) _ (refl v)) fun _ => refl v) _ h
  split
  · exact setIdx _ _ _ (refl w)
  · exact refl w

theorem setSlot (n : Nat) (e : SlotS) (h : StepKept s u) : StepKept s (u.setSlot n e) :=
  raise _ (by decide) (wr _ (by decide) (parts h rfl))

theorem lnNote (code scope hold : Nat) (payload : List Int) (h : StepKept s u) :
    StepKept s (u.lnNote code scope hold payload) := logOnce _ _ _ _ _ _ (bump _ (by decide) h)

theorem lnRefuse (session code : Nat) (payload : List Int) (h : StepKept s u) :
    StepKept s (u.lnRefuse session code payload) :=
  reply _ _ _ (ite (fun _ => lnNote _ _ _ _ h) fun _ => lnNote _ _ _ _ h)

/-- An entry with its instant ahead does not fire as it is accepted. -/
theorem acceptEntry (session : Nat) {e : EntryIn} (hahead : u.harvest < e.instant) (h : StepKept s u) :
    StepKept s (u.acceptEntry session e) := by
  unfold State.acceptEntry
  extract_lets n old gen x _ counted entered
  have hentered : StepKept u entered := reply _ _ _ (setSlot _ _ (parts (refl u) rfl))
  rw [if_neg (by rw [hentered.harvest]; omega)]
  exact h.trans hentered

theorem insertEntry (session unit : Nat) {e : EntryIn} (remote : Nat × List Int) (hahead : u.harvest < e.instant)
    (h : StepKept s u) : StepKept s (u.insertEntry session unit e remote) := by
  refine ite (fun _ => lnRefuse _ _ _ h) fun _ => ite (fun _ => reply _ _ _ (answer _ _ _ h)) fun _ => ?_
  split
  · exact lnRefuse _ _ _ h
  · exact acceptEntry _ hahead h

theorem insertShots (l : List (Nat × Nat × Int)) (h : StepKept s u) : StepKept s (u.insertShots l) := by
  refine foldl (fun v x => ?_) l h
  dsimp only
  split
  · exact ite (fun _ => insertEntry _ _ _ (by dsimp only; omega) (refl v)) fun _ => refl v
  · exact refl v

theorem wrs {l : List (Nat × Nat)} (ks : List Nat) (hl : l.map Prod.fst = ks) (hk : ∀ k ∈ ks, OtherObject k)
    (h : StepKept s u) : StepKept s (u.wrs l) := by
  subst hl
  refine h.trans (of_frame (State.wrs_follows u l).frame fun k hk' => rd_wrs_ne u l k fun x hx => ?_)
  rintro rfl
  exact (hk x.1 (List.mem_map_of_mem hx)).not_obs hk'

theorem showOpt (h : StepKept s u) : StepKept s u.showOpt :=
  wrs [R.FN_OPT_STAT_STATE, R.FN_OPT_STAT_AUTH] rfl (by decide) h

theorem dstepClamp (h : StepKept s u) : StepKept s u.dstepClamp := by
  unfold State.dstepClamp
  extract_lets v w
  have hw : StepKept s w := insertShots _ (reclamp h)
  clear_value w
  exact ite (fun _ => showOpt h) fun _ => showOpt (parts hw rfl)

/-! ### What an output publishes (04 R144, R165) -/

theorem publishSide (f : Nat) (x : Side) (h : StepKept s u) : StepKept s (u.publishSide f x) := by
  unfold State.publishSide
  extract_lets b idx lost p b' counted written
  have hcounted : StepKept s counted := ite (fun _ => bump _ (otherObject_block (by decide)) h) fun _ => h
  have hwritten : StepKept s written := parts hcounted rfl
  exact ite (fun _ => answer _ _ _ hwritten) fun _ => hwritten

theorem writeSide (f : Nat) (ffs : List Nat) (computed : Int) (valid : Bool) (h : StepKept s u) :
    StepKept s (u.writeSide f ffs computed valid) := publishSide _ _ h

theorem writeSides (net : NetIn) (t0 : Int) (h : StepKept s u) : StepKept s (u.writeSides net t0) := by
  unfold State.writeSides
  extract_lets d v
  have hv : StepKept s v := by
    refine foldl (fun v f => ite (fun _ => refl v) fun _ => ite (fun _ => ?due) fun _ => ?others) _ h
    case due => exact ite (fun _ => writeSide _ _ _ _ (refl v)) fun _ => refl v
    case others => exact ite (fun _ => writeSide _ _ _ _ (refl v)) fun _ => refl v
  clear_value v
  exact ite (fun _ => h) fun _ => parts hv rfl

theorem publishOut (net : NetIn) (k : Nat) (t0 : Int) (h : StepKept s u) : StepKept s (u.publishOut net k t0) :=
  h.trans (of_frame (State.publishOut_follows ..).frame fun x _ =>
    rd_of_reg ((State.publishOut_follows ..).frame .reg (by decide)) x)

end StepKept

end Sys2Proof.Machine
end

section
/-! PROOF. Chapter 04 (O30): a step's output in time, and the statement. -/

namespace Sys2Proof.Machine

-- One theorem after the other, so that the threads keep within the memory limit.
set_option Elab.async false

/-! ### The degradation step at an output (04 R168, R169) -/

/-- The hold before a climb noted. -/
def State.holdNoted (s : State) (hold : Option Nat) : State := { s with obs := { s.obs with hold := hold } }

theorem degrade_eq (s : State) (k : Nat) : s.degrade k =
    if s.rd R.OBS_STAT_DSTEP < s.needStep.1 then (s.holdNoted none).setDstep s.needStep.1 s.needStep.2 k
    else if s.needStep.1 = s.rd R.OBS_STAT_DSTEP then s.holdNoted none
    else match s.obs.hold with
      | none => s.holdNoted (some k)
      | some h =>
        if k < h + holdSteps (s.rd R.OBS_STAT_DSTEP) then s
        else (s.holdNoted (if s.needStep.1 < s.rd R.OBS_STAT_DSTEP - 1 then some k else none)).setDstep
          (s.rd R.OBS_STAT_DSTEP - 1) s.needStep.2 k := rfl

/-- What the degradation step's judgment at step `k` leaves: all of the observer's own fields but the degradation step
and its cause, the step, its inputs and harvest time; in D3 the step of its entry is `k`. -/
structure Degrades (k : Nat) (s u : State) : Prop where
  rd : ∀ x, ObsField x → x ≠ R.OBS_STAT_DSTEP → x ≠ R.OBS_STAT_CAUSE → u.rd x = s.rd x
  step : u.obs.step = s.obs.step
  taken : u.obs.taken = s.obs.taken
  harvest : u.harvest = s.harvest
  entered : u.rd R.OBS_STAT_DSTEP = 3 → u.obs.d3At = k

namespace Degrades

variable {k : Nat} {s t u : State}

theorem of_kept (h : StepKept s u) (hd3 : u.rd R.OBS_STAT_DSTEP = 3 → u.obs.d3At = k) : Degrades k s u :=
  ⟨fun x hx _ _ => h.rd x hx, h.step, h.taken, h.harvest, hd3⟩

theorem before (h : StepKept s t) (d : Degrades k t u) : Degrades k s u where
  rd x hx hdstep hcause := (d.rd x hx hdstep hcause).trans (h.rd x hx)
  step := d.step.trans h.step
  taken := d.taken.trans h.taken
  harvest := d.harvest.trans h.harvest
  entered := d.entered

theorem after (d : Degrades k s t) (h : StepKept t u) : Degrades k s u where
  rd x hx hdstep hcause := (h.rd x hx).trans (d.rd x hx hdstep hcause)
  step := h.step.trans d.step
  taken := h.taken.trans d.taken
  harvest := h.harvest.trans d.harvest
  entered hd3 := h.d3At.trans (d.entered ((h.rd _ (by decide)).symm.trans hd3))

theorem d3Noted (h : StepKept s t) : Degrades k s (t.d3Noted k) :=
  ⟨fun x hx _ _ => h.rd x hx, h.step, h.taken, h.harvest, fun _ => rfl⟩

/-- A change logged notes the entry into D3. -/
theorem dstepTold {new : Nat} (hnew : s.rd R.OBS_STAT_DSTEP = new) (old cause : Nat) :
    Degrades k s (s.dstepTold old new cause k) := by
  unfold State.dstepTold
  extract_lets v
  have hv : StepKept s v := .log _ _ _ _ _ _ (.refl s)
  split
  · exact (d3Noted hv).after (.log _ _ _ _ _ _ (.refl _))
  · next hne =>
    have hkept : StepKept s (if old = 3 then v.log 0x3008 [0] else v) :=
      .ite (fun _ => .log _ _ _ _ _ _ hv) fun _ => hv
    exact of_kept hkept fun hd3 => absurd (hnew.symm.trans ((hkept.rd _ (by decide)).symm.trans hd3)) hne

theorem setDstep (hnot : s.rd R.OBS_STAT_DSTEP ≠ 3) (new cause : Nat) : Degrades k s (s.setDstep new cause k) := by
  have hwritten : ∀ x, x ≠ R.OBS_STAT_DSTEP → x ≠ R.OBS_STAT_CAUSE → (s.dstepWritten new cause).rd x = s.rd x :=
    fun x hdstep hcause => dstepWritten_regs s new cause x (by simp [hdstep, hcause])
  obtain ⟨hnew, -⟩ := dstepWritten_rd s new cause
  rw [setDstep_eq]
  split
  · next hsame =>
    exact ⟨fun x _ => hwritten x, rfl, rfl, rfl, fun hd3 => absurd (hsame.symm.trans (hnew.symm.trans hd3)) hnot⟩
  · have htold := dstepTold (k := k) hnew (s.rd R.OBS_STAT_DSTEP) cause
    refine after ?_ (.dstepClamp (.refl _))
    exact ⟨fun x hx hdstep hcause => (htold.rd x hx hdstep hcause).trans (hwritten x hdstep hcause), htold.step,
      htold.taken, htold.harvest, htold.entered⟩

/-- A change of the degradation step with its hold noted. -/
theorem setDstep_held (hnot : s.rd R.OBS_STAT_DSTEP ≠ 3) (hold : Option Nat) (new cause : Nat) :
    Degrades k s ((s.holdNoted hold).setDstep new cause k) := by
  have hnoted : StepKept s (s.holdNoted hold) := ⟨fun _ _ => rfl, rfl, rfl, rfl, rfl⟩
  have hnot' : (s.holdNoted hold).rd R.OBS_STAT_DSTEP ≠ 3 := hnot
  generalize s.holdNoted hold = v at hnoted hnot' ⊢
  exact before hnoted (setDstep hnot' new cause)

theorem unchanged (hnot : s.rd R.OBS_STAT_DSTEP ≠ 3) (hold : Option Nat) : Degrades k s (s.holdNoted hold) :=
  of_kept ⟨fun _ _ => rfl, rfl, rfl, rfl, rfl⟩ fun hd3 => absurd hd3 hnot

theorem degrade (hnot : s.rd R.OBS_STAT_DSTEP ≠ 3) (k : Nat) : Degrades k s (s.degrade k) := by
  rw [degrade_eq]
  split
  · exact setDstep_held hnot _ _ _
  · split
    · exact unchanged hnot _
    · split
      · exact unchanged hnot _
      · split
        · exact of_kept (.refl s) fun hd3 => absurd hd3 hnot
        · exact setDstep_held hnot _ _ _

end Degrades

/-! ### A step's output (04 R142 to R172) -/

/-- A step in computation no more, its number shown. -/
def State.stepEnded (s : State) (st : ObsStepS) (net : NetIn) : State :=
  ({ s with obs := { s.obs with step := none, taken := [], latent := net.latent } }).wrs
    [(R.OBS_OVERRUN_CONSEC, 0), (R.OBS_STAT_STEPNO, st.k % 2 ^ 32)]

/-- The longest time of a step so far shown. -/
def State.timeShown (s : State) (t0 : Int) : State :=
  s.raise R.OBS_OVERRUN_LONGEST (min 0xFFFF ((s.harvest - t0) / 1000).toNat)

def State.stepShown (s : State) (st : ObsStepS) (net : NetIn) : State := (s.stepEnded st net).timeShown st.t0

theorem timeShown_frame (s : State) (t0 : Int) : Frame [.reg] s (s.timeShown t0) := (State.raise_follows ..).frame

theorem stepShown_obs (s : State) (st : ObsStepS) (net : NetIn) :
    (s.stepShown st net).obs = (s.stepEnded st net).obs := timeShown_frame _ _ .obs (by decide)

theorem stepShown_harvest (s : State) (st : ObsStepS) (net : NetIn) : (s.stepShown st net).harvest = s.harvest :=
  harvest_of_tb (timeShown_frame _ _ .tb (by decide)) (State.raise_follows ..).now

theorem stepShown_rd {k : Nat} (s : State) (st : ObsStepS) (net : NetIn) (hk : k ≠ R.OBS_OVERRUN_LONGEST) :
    (s.stepShown st net).rd k = (s.stepEnded st net).rd k :=
  (rd_raise ..).trans (if_neg hk.symm)

theorem stepEnded_rd {k : Nat} (s : State) (st : ObsStepS) (net : NetIn) (hconsec : k ≠ R.OBS_OVERRUN_CONSEC)
    (hno : k ≠ R.OBS_STAT_STEPNO) : (s.stepEnded st net).rd k = s.rd k :=
  rd_wrs_ne _ _ _ (by simp [hconsec.symm, hno.symm])

theorem stepShown_counts (s : State) (st : ObsStepS) (net : NetIn) :
    (s.stepShown st net).rd R.OBS_OVERRUN_CONSEC = 0 ∧
    (s.stepShown st net).rd R.OBS_STAT_STEPNO = st.k % 2 ^ 32 ∧
    (s.stepShown st net).rd R.OBS_OVERRUN_LONGEST =
      max (s.rd R.OBS_OVERRUN_LONGEST) (min 0xFFFF ((s.harvest - st.t0) / 1000).toNat) := by
  refine ⟨?consec, ?number, ?longest⟩
  case consec => exact (stepShown_rd _ _ _ (by decide)).trans (rd_wrs_head _ (by simp))
  case number =>
    exact (stepShown_rd _ _ _ (by decide)).trans ((rd_wrs_cons ..).trans (rd_wrs_head _ (by simp)))
  case longest =>
    refine (rd_raise ..).trans ((if_pos rfl).trans ?_)
    rw [stepEnded_rd _ _ _ (by decide) (by decide)]
    rfl

/-- The sources, the consistency and the ego-motion of a step judged. -/
def State.stepJudged (s : State) (net : NetIn) (k : Nat) : State :=
  let u := ((s.bindings.foldl (fun (s : State) (n : Nat) => s.judgeSource net n) s).judgeInnov net).publishEgo net k
  { u with obs := { u.obs with mask := u.affected } }

theorem stepJudged_kept (s : State) (net : NetIn) (k : Nat) : StepKept s (s.stepJudged net k) := by
  unfold State.stepJudged
  extract_lets u
  have hu : StepKept s u := .publishEgo _ _ (.judgeInnov _ (.foldl (fun v n => .judgeSource net n (.refl v)) _ (.refl s)))
  clear_value u
  exact hu.parts rfl

/-- The output of a step published (R144, R165). -/
def State.stepPublished (s : State) (st : ObsStepS) (net : NetIn) : State :=
  ((s.publishOut net st.k st.t0).writeSides net st.t0).showOpt

theorem stepPublished_kept (s : State) (st : ObsStepS) (net : NetIn) : StepKept s (s.stepPublished st net) :=
  .showOpt (.writeSides _ _ (.publishOut _ _ _ (.refl s)))

theorem stepPublished_out (s : State) (st : ObsStepS) (net : NetIn) :
    (s.stepPublished st net).out = some { time := s.harvest, stepNo := st.k, values := net.out } := by
  rw [State.stepPublished, (State.showOpt_follows _).frame .out (by decide),
    (State.writeSides_follows ..).frame .out (by decide)]
  rfl

/-- Out of warming, a completed step is published unless D3 has been held too long. -/
theorem obsComplete_publishes {s v w : State} {st : ObsStepS} {net : NetIn}
    (hv : (s.stepShown st net).stepOnTime.stepJudged net st.k = v) (hw : v.degrade st.k = w)
    (hwarm : v.rd R.OBS_STAT_WARMING = 0)
    (hheld : w.rd R.OBS_STAT_DSTEP = 3 → st.k < w.obs.d3At + 500 * w.rd R.OBS_CFG_HOLD_LIMIT) :
    s.obsComplete st net = w.stepPublished st net := by
  have hdone : v.flag R.OBS_STAT_WARMING = false := flag_of_rd_ne (by omega)
  change (let v := (s.stepShown st net).stepOnTime.stepJudged net st.k
    if v.flag R.OBS_STAT_WARMING && st.k < v.obs.warmK then v.showOpt
    else
      let w := if v.flag R.OBS_STAT_WARMING then v.warmDone st.k else v.degrade st.k
      if w.rd R.OBS_STAT_DSTEP = 3 && w.obs.d3At + 500 * w.rd R.OBS_CFG_HOLD_LIMIT ≤ st.k then w.obsStop 0x33
      else w.stepPublished st net) = _
  rw [hv]
  simp only [hdone, hw, Bool.false_and, Bool.false_eq_true, if_false]
  rw [if_neg]
  simpa using hheld

theorem exec_obsStepOutput {t : Nat} {st : ObsStepS} {net : NetIn} {s : State} (hstep : s.obs.step = some st)
    (hclosed : st.closed = true) (hintime : (s.begin t).harvest ≤ st.t0 + 2000000) :
    exec (.obsStepOutput t net) s = .next ((s.begin t).obsComplete st net) := by
  have hstep' : (s.begin t).obs.step = some st := hstep
  change execObsStepOutput t net s = _
  unfold execObsStepOutput
  dsimp only
  rw [hstep']
  dsimp only
  rw [hclosed, if_neg (by decide), if_neg (by omega)]

/-- The output of a closed step in time, out of warming and not in D3, is published. -/
theorem obsStepOutput_publishes {t : Nat} {st : ObsStepS} {net : NetIn} {s : State} (hstep : s.obs.step = some st)
    (hclosed : st.closed = true) (hintime : (s.begin t).harvest ≤ st.t0 + 2000000)
    (hwarm : s.rd R.OBS_STAT_WARMING = 0) (hnot : s.rd R.OBS_STAT_DSTEP ≠ 3)
    (hlimit : 0 < s.rd R.OBS_CFG_HOLD_LIMIT) :
    ∃ u, exec (.obsStepOutput t net) s = .next u ∧
    u.obs.step = none ∧
    u.obs.taken = [] ∧
    u.rd R.OBS_STAT_STEPNO = st.k % 2 ^ 32 ∧
    u.rd R.OBS_OVERRUN_CONSEC = 0 ∧
    u.out = some { time := (s.begin t).harvest, stepNo := st.k, values := net.out } ∧
    u.rd R.OBS_OVERRUN_LONGEST =
      max (s.rd R.OBS_OVERRUN_LONGEST) (min 0xFFFF (((s.begin t).harvest - st.t0) / 1000).toNat) := by
  have hexec := exec_obsStepOutput (net := net) hstep hclosed hintime
  have hleft {k : Nat} (hconsec : k ≠ R.OBS_OVERRUN_CONSEC) (hno : k ≠ R.OBS_STAT_STEPNO)
      (hlongest : k ≠ R.OBS_OVERRUN_LONGEST) : ((s.begin t).stepShown st net).rd k = s.rd k :=
    (stepShown_rd _ _ _ hlongest).trans ((stepEnded_rd _ _ _ hconsec hno).trans (rd_begin ..))
  have hjudged : StepKept ((s.begin t).stepShown st net)
      (((s.begin t).stepShown st net).stepOnTime.stepJudged net st.k) :=
    (StepKept.refl _).stepOnTime.trans (stepJudged_kept ..)
  generalize hv : ((s.begin t).stepShown st net).stepOnTime.stepJudged net st.k = v at hjudged
  have hdegrades : Degrades st.k _ (v.degrade st.k) :=
    .degrade (by rwa [hjudged.rd _ (by decide), hleft (by decide) (by decide) (by decide)]) st.k
  generalize hw : v.degrade st.k = w at hdegrades
  have hshown := hdegrades.before hjudged
  have hlimit' : w.rd R.OBS_CFG_HOLD_LIMIT = s.rd R.OBS_CFG_HOLD_LIMIT :=
    (hshown.rd _ (by decide) (by decide) (by decide)).trans (hleft (by decide) (by decide) (by decide))
  have hpublishes := obsComplete_publishes hv hw
    ((hjudged.rd _ (by decide)).trans ((hleft (by decide) (by decide) (by decide)).trans hwarm))
    fun hd3 => by rw [hshown.entered hd3]; omega
  have hkept := hshown.after (stepPublished_kept w st net)
  have hout := stepPublished_out w st net
  rw [hshown.harvest, stepShown_harvest] at hout
  obtain ⟨hconsec, hno, hlongest⟩ := stepShown_counts (s.begin t) st net
  have hended := stepShown_obs (s.begin t) st net
  exact ⟨_, hexec.trans (congrArg _ hpublishes), hkept.step.trans (congrArg ObsS.step hended),
    hkept.taken.trans (congrArg ObsS.taken hended),
    (hkept.rd _ (by decide) (by decide) (by decide)).trans hno,
    (hkept.rd _ (by decide) (by decide) (by decide)).trans hconsec, hout,
    (hkept.rd _ (by decide) (by decide) (by decide)).trans hlongest⟩

/-- Settles O30: each command of the observer. -/
theorem observerComplete : Obligations.ObserverComplete := by
  unfold Obligations.ObserverComplete
  refine ⟨?launch, ?gather, ?output, ?overrun, ?waits, ?forwards, ?missing, ?estimate, ?drift, ?eccAgain, ?eccFirst,
    ?select, ?refused, ?change⟩
  case launch => exact fun t instant s hstep hselect hrun hgen => obsStep_launches hstep hselect hrun hgen
  case gather =>
    exact fun t st x s hstep hopen hwaiting htaken _ hdue harrived hdesc hdrift =>
      obsGatherClose_takes hstep hopen hwaiting htaken hdue harrived hdesc hdrift
  case output =>
    exact fun t st net s hstep hclosed hintime hwarm hnot hlimit =>
      obsStepOutput_publishes hstep hclosed hintime hwarm hnot hlimit
  case overrun => exact fun t st s hstep hover hmay hroom => obsOverrun_abandons hstep hover hmay hroom
  case waits =>
    exact fun t b time raw s _ hmanager hdesc hrun hfree => obsSampleArrive_waits hmanager hdesc hrun hfree
  case forwards => exact fun t b time raw s _ hworker hfree => obsSampleArrive_forwards hworker hfree
  case missing => exact fun t b s _ hdesc => sourceMissing_missing hdesc
  case estimate => exact fun t b unc o s hfree htype hdesc hunc _ => offsetEstimate_valid hfree htype hdesc hunc
  case drift =>
    exact fun t b e s _ hfree hdesc hest hdrift hended habove hmay hroom =>
      offsetInvalid_drifts hfree hdesc hest hdrift hended habove hmay hroom
  case eccAgain => exact fun t r a s hrun hat hsoon hroom => obsStateEcc_holds hrun hat hsoon hroom
  case eccFirst =>
    exact fun t r s hrun hnone hobserving _ hselect hpack hroom =>
      obsStateEcc_restarts hrun hnone hobserving hselect hpack hroom
  case select =>
    exact fun t n slot s hn hopen hcls hturn hmode hslot => packSelect_selects hn hopen hcls hturn hmode hslot
  case refused =>
    exact fun t n slot s hn hopen hcls hturn hmode hroom => packSelect_refused hn hopen hcls hturn hmode hroom
  case change =>
    exact fun t slot p s hchanging hselect hpack hroom => obsPackChange_changes hchanging hselect hpack hroom

end Sys2Proof.Machine
end

section
/-! PROOF. The refutation of O31. -/

namespace Sys2Proof.Machine

/-- In HARVEST, F05 runs open loop on valve 7 from a fixed setpoint, and generator 9 launches it every 2 ms. One application
of its setpoint is armed for 2 ms and is the one entry queued. -/
def applicationArmed : State :=
  { (State.reset.wrs [(R.MODE_STAT_MODE, Mode.HARVEST), (R.LN_PG_CFG_EN 9, 1), (R.LN_PG_PERIOD 9, 2000000),
      (R.FN_CFG_LAUNCH_PG 5, 9), (R.FN_CFG_PATH 5, 1), (R.FN_CFG_CHAN 5, 7), (R.LN_QDEPTH_DEPTH, 1)]).setFn 5
        { running := true, causes := [] } with
    ln := { running := true, slots := [(0, { out := .armed, instant := 2000000, action := 0x1050 })] } }

/-- Before the launch command, at harvest time 0, no entry is due. -/
theorem applicationArmed_due (p : SlotS → Bool) : applicationArmed.dueSlots p = [] := by
  have hnow : applicationArmed.harvest = 0 := by decide +kernel
  have hslots : applicationArmed.ln.slots = [(0, { out := .armed, instant := 2000000, action := 0x1050 })] := rfl
  simp [State.dueSlots, hnow, hslots]

/-- The launch at 2 ms fires the application, and the queue is empty. -/
theorem applicationArmed_fires : rdAfter (.functionLaunch 2000000 5 2000000 [] false 4) applicationArmed
    R.LN_QDEPTH_DEPTH = some 0 := by decide +kernel

/-- Refutes O31, by its first part: it asks that no application is due in the state before the command, at that state's own
time. One that falls due at the command's time fires before the launch (03 R127), so DEPTH goes from 1 to 0; the part's
list of the registers that a launch may change has no DEPTH. -/
theorem not_functionsComplete : ¬ Obligations.FunctionsComplete := by
  unfold Obligations.FunctionsComplete
  rintro ⟨hlaunch, -⟩
  obtain ⟨u, hu, -, -, -, -, -, hkept⟩ := hlaunch 2000000 5 2000000 [] false 4 applicationArmed (by decide) (by decide)
    (by decide +kernel) (by decide +kernel) (by decide +kernel) (by decide +kernel) (by decide +kernel)
    (by decide +kernel) (by decide +kernel) (by decide +kernel) (by decide +kernel) (applicationArmed_due _)
    (by decide +kernel) (by decide +kernel) (by decide +kernel)
  have hbefore : applicationArmed.rd R.LN_QDEPTH_DEPTH = 1 := by decide +kernel
  have hafter := rdAfter_next hu R.LN_QDEPTH_DEPTH
  rw [applicationArmed_fires, hkept R.LN_QDEPTH_DEPTH (by decide) (by decide), hbefore] at hafter
  exact absurd hafter (by decide)

end Sys2Proof.Machine
end

section
/-! PROOF. The refutation of O32. -/

namespace Sys2Proof.Machine

/-- A sample of loop 40 that read 1.0. -/
def unitSample : SampleS := { loop := 40, instant := 0, meas := some 0x3F800000 }

/-- F05 runs with setpoint 2.0 on loop 40 of engine 0, a gain-scheduled loop (law 4) that schedules by its measurement
and whose NBP is 25; one sample waits. NOW.Y of the loop is 2.0, NOW.U is 1.0. -/
def crowdedSchedule : State :=
  ((State.reset.wrs [(R.FN_CFG_PATH 5, 1), (R.FN_CFG_CHAN 5, 3), (R.FN_CFG_LOOP_FIRST 5, 40), (R.FN_CFG_LOOP_COUNT 5, 1),
      (R.FN_SP_NOW_APPLIED 5 0, 0x40000000), (R.CE_L_CFG_LAW 40, 4), (R.CE_L_LIM_UMAX 40, 0x447A0000),
      (R.CE_L_COEF 40 0, 0x41C80000), (R.CE_L_COEF 40 3, 0x3F800000), (R.CE_L_NOW_Y 40, 0x40000000),
      (R.CE_L_NOW_U 40, 0x3F800000)]).setFn 5 { running := true }).setWaiting 0 [unitSample]

/-- The evaluation writes NOW.Y before its law reads breakpoint 24: X is 1.0, which the measurement has reached, and the
proportional gain is the whole KP. -/
theorem crowdedSchedule_after : rdAfter (.loopEvaluate 0 0) crowdedSchedule (R.CE_L_NOW_U 40) = some 0x3F800000 := by
  decide +kernel

/-- In the state before, X is 2.0, the measurement stands halfway to it, and the gain is half of KP. -/
theorem crowdedSchedule_before : toF32 (crowdedSchedule.evalLaw 40 (crowdedSchedule.loopS 40).law
    { r := crowdedSchedule.reference 5 40, y := f32 0x3F800000, ff := crowdedSchedule.ffOf 5 40 0,
      h := crowdedSchedule.sampleInterval 40 unitSample,
      held := if (crowdedSchedule.loopS 40).closing then some (crowdedSchedule.heldOf 5 40) else none } 0).1 =
    0x3F000000 := by decide +kernel

/-- Refutes O32, by its second part. It asks for the law's output as the state before the evaluation gives it. With an NBP
past the 16 that Table 6.5 allows, and that no hypothesis bounds, breakpoint 24 lies where the loop's NOW.Y and NOW.U
stand (X at coefficient 104, KP at 105), and the evaluation writes NOW.Y first: NOW.U becomes 1.0, not 0.5. -/
theorem not_enginesComplete : ¬ Obligations.EnginesComplete := by
  unfold Obligations.EnginesComplete
  rintro ⟨-, hevaluate, -⟩
  obtain ⟨u, hu, hout, -⟩ := hevaluate 0 0 5 0x3F800000 unitSample crowdedSchedule (by decide) (by decide) (by decide)
    (by decide +kernel) (by decide +kernel) (by decide +kernel) (by decide +kernel) (by decide +kernel)
    (by decide +kernel) rfl
  have hafter := rdAfter_next hu (R.CE_L_NOW_U 40)
  rw [crowdedSchedule_after] at hafter
  rw [show u.rd (R.CE_L_NOW_U 40) = 0x3F000000 from hout.trans crowdedSchedule_before] at hafter
  exact absurd hafter (by decide)

end Sys2Proof.Machine
end

section
/-! PROOF. The frame of chapters 7 to 9 (O19). -/

namespace Sys2Proof.Machine

/-- Settles O19: the frame half of what every command may change. -/
theorem framesOfPositionAndCameras : Obligations.FramesOfPositionAndCameras := by
  unfold Obligations.FramesOfPositionAndCameras
  exact fun i s u _ hu => (exec_leads i s u hu).frame

end Sys2Proof.Machine
end

section
/-! PROOF. The refutation of O33. -/

namespace Sys2Proof.Machine

/-- A record that a subscription of one in every N passes over leaves the output queue as it was (09 R346). -/
theorem offerRecord_passes {ss : SessionS} {stream n left : Nat} (h : look ss.every stream = some (n, left + 1))
    (bytes : Nat) (data : List Int) : (offerRecord ss stream bytes data).outq = ss.outq := by
  simp [offerRecord, h]

/-- A word whose check failed is published and changes nothing else (07 R264). -/
theorem exec_navWord_failed {t : Nat} {x : WordIn} {s : State} (hruns : s.gnssRuns = true) (hcheck : 2 ≤ x.check) :
    exec (.navWord t x) s = .next ((s.begin t).publish 2 (16 + (x.nbits + 7) / 8)
      ([x.start, (x.ch : Int), (s.rd (R.GN_CH_STAT_SIG x.ch) : Int), (s.rd (R.GN_CH_STAT_SV x.ch) : Int),
        (x.check : Int), (x.nbits : Int)] ++ x.bits.map Int.ofNat)) := by
  have hbegun : (s.begin t).gnssRuns = true := hruns
  simp [exec, execNavWord, hbegun, hcheck]

/-- Session 1 takes every second record of the navigation words (stream 2) and passes over the next one. -/
def everySecondWord : SessionS := { num := 1, streams := [2], every := [(2, (2, 1))] }

/-- The unit after reset with the baseband running and that session open. -/
def wordsEverySecond : State :=
  { State.reset with gn := { on := true }, ses := { open_ := [(0, everySecondWord)], nextNum := 2 } }

/-- A word of channel 3 whose check failed. -/
def failedWord : WordIn := { ch := 3, start := 5, check := 2, nbits := 30, bits := [1] }

/-- Refutes O33, by its last part: it asks that every session subscribed to stream 2 has the word's record in its output
queue. A subscription of one record in every N, which STREAM_SUBSCRIBE makes of any stream, passes over the others, and
the queue stays empty; no hypothesis sets such subscriptions aside. -/
theorem not_basebandComplete : ¬ Obligations.BasebandComplete := by
  unfold Obligations.BasebandComplete
  rintro ⟨-, -, -, -, -, -, hword⟩
  have hruns : wordsEverySecond.gnssRuns = true := by decide +kernel
  obtain ⟨u, hu, -, -, -, hopen, -⟩ := hword 0 failedWord wordsEverySecond hruns rfl (by decide +kernel)
  rw [exec_navWord_failed hruns (by decide), Host.Outcome.next.injEq] at hu
  subst hu
  have hqueue := congrArg (List.map fun p : Nat × SessionS => p.2.outq) hopen
  have hsubscribed : everySecondWord.streams.contains 2 = true := by decide
  simp only [State.publish, begin_ses, wordsEverySecond, List.map_cons, List.map_nil, hsubscribed, if_true,
    offerRecord_passes (ss := everySecondWord) (stream := 2) (n := 2) (left := 0) rfl] at hqueue
  simp [everySecondWord, pushRecord, queueBytes, failedWord] at hqueue

end Sys2Proof.Machine
end

section
/-! PROOF. The refutation of O34. -/

namespace Sys2Proof.Machine

@[simp] theorem log_gn (s : State) (code : Nat) (payload : List Int) (island : Nat) (esc fault : Bool)
    (input : Option Int) : (s.log code payload island esc fault input).gn = s.gn :=
  (State.log_follows ..).frame .gn (by decide)

theorem writeRetention_of_off {s : State} (h : s.gn.on = false) : s.writeRetention = s := by
  simp [State.writeRetention, h]

theorem stopGnss_of_off {s : State} (h : s.gn.on = false) : s.stopGnss = s := by
  simp [State.stopGnss, h]

/-- Only the baseband that stops takes the refresh in progress off: while it is off, the end of a refresh leaves it
standing. -/
theorem endRefresh_refresh_of_off {s : State} (h : s.gn.on = false) (result : Nat) :
    (s.endRefresh result).gn.refresh = s.gn.refresh := by
  unfold State.endRefresh
  rw [writeRetention_of_off h]
  dsimp only
  rw [stopGnss_of_off (by simpa [State.calibrateRtc, State.timeRegs] using h)]
  simp [State.setDomains, State.calibrateRtc, State.timeRegs]

theorem exec_gnRefresh {t b : Nat} {s : State} (h : s.gn.refresh = some b) (hdue : b + 30000000000 ≤ max s.now t) :
    exec (.gnRefresh t) s = .next ((s.begin t).endRefresh (if (s.begin t).gn.refreshFix then 0 else 1)) := by
  simp [exec, execGnRefresh, h, hdue]

/-- In SLEEP, a refresh that began at elapsed time 0, with the baseband off. -/
def refreshWithoutBaseband : State :=
  { State.reset.wr R.MODE_STAT_MODE Mode.SLEEP with gn := { sleepRefresh := true, refresh := some 0 } }

/-- Refutes O34, by its ninth part: it asks that no refresh is in progress after GN_REFRESH, whether the baseband runs or
not. With the baseband off the end of the refresh leaves the refresh in progress as it was, and PD1 and PD4 stay on. -/
theorem not_antennasAndCorrectionsComplete : ¬ Obligations.AntennasAndCorrectionsComplete := by
  unfold Obligations.AntennasAndCorrectionsComplete
  rintro ⟨-, -, -, -, -, -, -, -, hrefresh, -⟩
  obtain ⟨u, hu, hended, -⟩ := hrefresh 30000000000 0 refreshWithoutBaseband rfl (by decide) (by decide)
  rw [exec_gnRefresh (b := 0) rfl (by decide), Host.Outcome.next.injEq] at hu
  subst hu
  rw [endRefresh_refresh_of_off rfl] at hended
  exact absurd hended (by decide)

end Sys2Proof.Machine
end

section
/-! PROOF. The refutation of O36. -/

namespace Sys2Proof.Machine

/-- The codes of a command's answers to a session. -/
def repliesAfter (n : Nat) (i : Instr) (s : State) : List Nat :=
  match exec i s with
  | .next u => (u.answers.filter (fun a => a.dest = .session n)).map Answer.code
  | _ => []

/-- What a command has sent to a session is among its answers to it. -/
theorem mem_repliesAfter {n : Nat} {i : Instr} {s u : State} {code : Nat} {data : List Int}
    (hu : exec i s = .next u) (h : Sent u (.session n) code data) : code ∈ repliesAfter n i s := by
  obtain ⟨a, ha, hdest, rfl, -⟩ := h
  simp only [repliesAfter, hu]
  exact List.mem_map_of_mem (List.mem_filter.mpr ⟨ha, decide_eq_true hdest⟩)

/-- A configured manager in HARVEST with guidance ARMED, F27 on unit 2, and session 1 of class OPERATOR. -/
def guideOnWorker : State :=
  { State.reset.wrs [(R.MODE_STAT_MODE, Mode.HARVEST), (R.HMP_STAT_SOURCE, 1), (R.GD_STAT_STATE, Gd.ARMED),
      (R.FN_CFG_PATH 27, 1), (R.FN_CFG_UNIT 27, 2)] with
    ses := { open_ := [(0, { num := 1, cls := Cls.OPERATOR })], nextNum := 2 } }

/-- Refutes O36, by its first part: it asks that an engagement of F27 on another unit is answered OK whatever that unit
answers. The requester receives that unit's own answer, which the command carries (log entry 15), here the refusal
FN_BUSY of a loop that is open for auto-tune (05 R209), and no other. -/
theorem not_guidanceRequestsComplete : ¬ Obligations.GuidanceRequestsComplete := by
  unfold Obligations.GuidanceRequestsComplete
  rintro ⟨hforwarded, -⟩
  obtain ⟨u, hu, -, -, -, hsent, -⟩ := hforwarded 0 1 0 (0x3043, []) guideOnWorker (by decide) (by decide)
    (by decide) (by decide) (by decide) (by decide +kernel) (by decide +kernel) (by decide +kernel) (by decide +kernel)
    (by decide +kernel) (by decide +kernel) (by decide +kernel) (by decide)
  have hreplies : repliesAfter 1 (.gdEngage 0 1 0 (0x3043, [])) guideOnWorker = [0x3043] := by decide +kernel
  have hmem := mem_repliesAfter hu hsent
  rw [hreplies] at hmem
  exact absurd hmem (by decide)

end Sys2Proof.Machine
end

section
/-! PROOF. O37: yield mapping. Flow samples and the cell they open, loads, tickets and exports. -/

namespace Sys2Proof.Machine

-- One theorem after the other, so that the threads keep within the memory limit.
set_option Elab.async false

/-! ### What answers and events leave of yield mapping -/

@[simp] theorem log_ym (s : State) (code : Nat) (payload : List Int) (island : Nat) (esc fault : Bool)
    (input : Option Int) : (s.log code payload island esc fault input).ym = s.ym :=
  (State.log_follows ..).frame .ym (by decide)

@[simp] theorem reply_ym (s : State) (n code : Nat) (data : List Int) : (s.reply n code data).ym = s.ym :=
  (State.reply_follows ..).frame .ym (by decide)

@[simp] theorem showNow_ym (s : State) (delay width moist : Bool) : (s.showNow delay width moist).ym = s.ym :=
  (State.showNow_follows ..).frame .ym (by decide)

/-! ### Flow samples (08 R310 to R315) -/

section Flow

variable {t flow : Nat} {time last : Int} {s : State}

/-- Mapping stopped: the next sample has no interval. -/
def State.mappingEnded (s : State) : State := ({ s with ym := { s.ym with lastT := none } }).wr R.YM_STAT_MAPPING 0

theorem exec_ymFlowSample_off (hbound : s.flowBound = true) (hoff : s.mapping = false) :
    exec (.ymFlowSample t time flow) s = .next (s.begin t).mappingEnded := by
  have hbound' : (s.begin t).flowBound = true := hbound
  have hoff' : (s.begin t).mapping = false := hoff
  show execYmFlowSample t time flow s = _
  simp only [execYmFlowSample, hbound', hoff', Bool.not_true, Bool.false_eq_true, if_false]
  rfl

theorem exec_ymFlowSample_on (hbound : s.flowBound = true) (hon : s.mapping = true) :
    exec (.ymFlowSample t time flow) s = .next ((s.begin t).takeFlow time flow) := by
  have hbound' : (s.begin t).flowBound = true := hbound
  have hon' : (s.begin t).mapping = true := hon
  show execYmFlowSample t time flow s = _
  simp only [execYmFlowSample, hbound', hon', Bool.not_true, Bool.false_eq_true, if_false, if_true]

/-- With no record to time the delay by, a sample was cut TRANSPORT_DEF before it (R312). -/
theorem cutInstant_of_noRecords (h : s.ym.recs = []) (x : Int) : s.cutInstant x = (x - s.transportDef, true) := by
  simp only [State.cutInstant, h, lastRec]
  rfl

/-- Without a STEREO output the cutting width is HDR_WIDTH (R313). -/
theorem cutWidth_of_noWidths (h : s.ym.widths = []) (sec : Int) :
    s.cutWidth sec = (mkRat (s.rd R.GD_GEOM2_HDR_WIDTH) 1000, 0, true) := by
  simp only [State.cutWidth, h, List.filter_nil, List.isEmpty_nil, if_true]

/-- A header of 1 m and more cuts in every second without a STEREO output (R314). -/
theorem cutting_of_noWidths (h : s.ym.widths = []) (hwidth : 1000 ≤ s.rd R.GD_GEOM2_HDR_WIDTH) (sec : Int) :
    s.cutting sec = true := by
  have hcast : (1000 : Rat) ≤ (s.rd R.GD_GEOM2_HDR_WIDTH : Rat) := by exact_mod_cast hwidth
  simp only [State.cutting, cutWidth_of_noWidths h, decide_eq_true_eq, Rat.mkRat_eq_div]
  push_cast
  linarith

/-- One cell open, and no other. -/
def State.withCell (s : State) (d : CellS) : State := { s with ym := { s.ym with open_ := [d] } }

/-- With no cell open and none closed, the mass of a second that is cut opens its cell (R314). -/
theorem placeMass_opens {d : CellS} (hopen : s.ym.open_ = []) (hclosed : s.ym.closed = none)
    (hcut : s.cutting d.sec = true) : s.placeMass d = s.withCell d := by
  simp only [State.placeMass, State.cellFor, hcut, if_true, State.secClosed, hclosed, Bool.and_false, Bool.not_false,
    State.putCell, hopen, List.any_nil, Bool.false_eq_true, if_false, List.filter_nil, List.nil_append, List.append_nil,
    State.withCell]

theorem closeCells_of_none (h : s.ym.open_ = []) (x : Int) : s.closeCells x = s := by
  simp only [State.closeCells, h, List.foldl_nil]

/-- The cell a sample opens whose delay is TRANSPORT_DEF: its mass over the interval since the last sample. -/
def State.newCell (s : State) (time last : Int) (flow : Nat) : CellS :=
  { sec := (time - s.transportDef) - (time - s.transportDef) % 1000000000,
    raw := s.stdMass (f32 flow * mkRat (time - last) 1000000000) (s.moistAt time).1,
    wet := f32 flow * mkRat (time - last) 1000000000,
    wetMoist := f32 flow * mkRat (time - last) 1000000000 * (s.moistAt time).1,
    defdelay := true, moistDef := (s.moistAt time).2 }

/-- The sample taken, its stamp the start of the next interval. -/
def State.sampledAt (s : State) (time : Int) : State := { s with ym := { s.ym with lastT := some time } }

/-- A sample within three periods of the last, with no record to time its delay by (R311, R312). -/
theorem takeFlow_of_noRecords {x : State} (hlast : s.ym.lastT = some last) (hle : last ≤ time)
    (hgap : time - last ≤ 3 * (s.flowPeriod : Int)) (hrecs : s.ym.recs = [])
    (hx : x = ((s.sampledAt time).closeCells time).placeMass (s.newCell time last flow)) :
    s.takeFlow time flow = (x.showNow true (x.cutWidth (s.newCell time last flow).sec).2.2
      (s.moistAt time).2).wr R.YM_STAT_MAPPING (bit01 (x.cutting (s.newCell time last flow).sec)) := by
  have hdt : max 0 (time - last) = time - last := by omega
  have hcap : ¬ ((3 * s.flowPeriod : Nat) : Int) < time - last := by push_cast; omega
  subst hx
  unfold State.takeFlow
  simp only [hlast, hdt, hcap, cutInstant_of_noRecords hrecs, decide_false, Bool.false_eq_true, if_false]
  rfl

/-- In the simplest case a sample opens the one cell of its cut second (R311 to R315). -/
theorem takeFlow_opens (hlast : s.ym.lastT = some last) (hle : last ≤ time)
    (hgap : time - last ≤ 3 * (s.flowPeriod : Int)) (hopen : s.ym.open_ = []) (hclosed : s.ym.closed = none)
    (hrecs : s.ym.recs = []) (hwidths : s.ym.widths = []) (hwidth : 1000 ≤ s.rd R.GD_GEOM2_HDR_WIDTH) :
    s.takeFlow time flow = (((s.sampledAt time).withCell (s.newCell time last flow)).showNow true true
      (s.moistAt time).2).wr R.YM_STAT_MAPPING 1 := by
  have hclose : (s.sampledAt time).closeCells time = s.sampledAt time :=
    closeCells_of_none (s := s.sampledAt time) hopen time
  have hplace := placeMass_opens (s := s.sampledAt time) (d := s.newCell time last flow) hopen hclosed
    (cutting_of_noWidths hwidths hwidth _)
  have hnoWidths : ((s.sampledAt time).withCell (s.newCell time last flow)).ym.widths = [] := hwidths
  rw [takeFlow_of_noRecords hlast hle hgap hrecs rfl, hclose, hplace, cutWidth_of_noWidths hnoWidths,
    cutting_of_noWidths hnoWidths hwidth]
  rfl

/-- What holds shows in NOW and in the events of its changes alone. -/
theorem showNow_regs (s : State) (delay width moist : Bool) :
    RegsKept [R.YM_STAT_NOW] s (s.showNow delay width moist) := by
  have edge : ∀ {u : State} (b : Prop) [Decidable b] (c : Nat) (p : List Int), RegsKept [R.YM_STAT_NOW] s u →
      RegsKept [R.YM_STAT_NOW] s (if b then u else u.log c p) := by
    intro u b _ c p h
    split
    · exact h
    · exact .log' _ _ _ _ _ _ h
  exact .wr' _ _ (by simp) (edge _ _ _ (edge _ _ _ (edge _ _ _ (.rfl' _ s))))

@[simp] theorem begin_flowPeriod (s : State) (t : Nat) : (s.begin t).flowPeriod = s.flowPeriod := by
  simp only [State.flowPeriod, rd_begin, begin_samplePeriod]
  rfl

/-- While mapping, in the simplest case, a sample opens the cell of its cut second. -/
theorem flowSample_opens (hbound : s.flowBound = true) (hon : s.mapping = true) (hlast : s.ym.lastT = some last)
    (hle : last ≤ time) (hgap : time - last ≤ 3 * (s.flowPeriod : Int)) (hopen : s.ym.open_ = [])
    (hclosed : s.ym.closed = none) (hrecs : s.ym.recs = []) (hwidths : s.ym.widths = [])
    (hwidth : 1000 ≤ s.rd R.GD_GEOM2_HDR_WIDTH) :
    ∃ u, exec (.ymFlowSample t time flow) s = .next u ∧
    u.ym.lastT = some time ∧
    u.rd R.YM_STAT_MAPPING = 1 ∧
    u.ym.open_ = [(s.begin t).newCell time last flow] ∧
    RegsKept [R.YM_STAT_MAPPING, R.YM_STAT_NOW] s u := by
  have hgap' : time - last ≤ 3 * ((s.begin t).flowPeriod : Int) := by rwa [begin_flowPeriod]
  have htake := takeFlow_opens (flow := flow) (s := s.begin t) hlast hle hgap' hopen hclosed hrecs hwidths hwidth
  refine ⟨_, (exec_ymFlowSample_on hbound hon).trans (congrArg _ htake), ?_, rd_wr_same .., ?_, ?_⟩
  · rw [wr_ym, showNow_ym]
    rfl
  · rw [wr_ym, showNow_ym]
    rfl
  · exact .wr' _ _ (by simp) (.next (showNow_regs _ _ _ _) (by simp) (.of_reg rfl))

/-- Outside mapping a sample stops it. -/
theorem flowSample_stops (hbound : s.flowBound = true) (hoff : s.mapping = false) :
    ∃ u, exec (.ymFlowSample t time flow) s = .next u ∧
    u.ym.lastT = none ∧
    u.rd R.YM_STAT_MAPPING = 0 ∧
    u.ym.cells = s.ym.cells ∧
    RegsExact [R.YM_STAT_MAPPING] s u :=
  ⟨_, exec_ymFlowSample_off hbound hoff, rfl, rd_wr_same .., rfl, .wr _ _ (by simp) (.of_reg rfl)⟩

end Flow

/-! ### Loads (08 R317) -/

section Load

variable {t n : Nat} {s : State}

/-- The open load closed, with a new one open, and the fleet told. -/
def State.loadClosed (s : State) : State :=
  (s.wr R.YM_STAT_LOAD ((s.rd R.YM_STAT_LOAD + 1) % 65536)).answer .fleet 0x62 [(s.rd R.YM_STAT_LOAD : Int)]

theorem exec_newLoad (hn : n ≠ 0) (hcls : s.classAtLeast n 1 = true) (hturn : s.turn n .newLoad = true) :
    exec (.newLoad t n) s = .next ((s.inTurn t n .newLoad).loadClosed.reply n Res.OK) := by
  refine congrArg Host.Outcome.next ((gated_of_turn hn hturn t _).trans ?_)
  have hcls' : (s.inTurn t n .newLoad).classAtLeast n Cls.OPERATOR = true := hcls
  simp only [hcls', Bool.not_true, Bool.false_eq_true, if_false, State.loadClosed]

/-- NEW_LOAD closes the load. -/
theorem newLoad_closes (hn : n ≠ 0) (hopen : s.ses.open_.any (fun p => p.2.num = n) = true)
    (hcls : s.classAtLeast n 1 = true) (hturn : s.turn n .newLoad = true) :
    ∃ u, exec (.newLoad t n) s = .next u ∧
    u.rd R.YM_STAT_LOAD = (s.rd R.YM_STAT_LOAD + 1) % 65536 ∧
    Sent u .fleet 0x62 [(s.rd R.YM_STAT_LOAD : Int)] ∧
    Sent u (.session n) Res.OK [] ∧
    RegsExact [R.YM_STAT_LOAD] s u := by
  refine ⟨_, exec_newLoad hn hcls hturn, ?_, .reply (answer_sent ..), reply_sent _ _ _ _ hn hopen,
    .reply' _ _ _ (.answer' _ _ _ (.wr _ _ (by simp) (.of_reg rfl)))⟩
  rw [rd_reply, State.loadClosed, rd_answer, rd_wr_same]
  rfl

end Load

/-! ### A request that is logged and answered -/

/-- An event is logged in a window with room, then the session has its answer: both stand, and no register has moved. -/
theorem logged_and_replied {n : Nat} {s v : State} (hreg : v.reg = s.reg) (hmirror : v.mirror = s.mirror) (hn : n ≠ 0)
    (hopen : v.ses.open_.any (fun p => p.2.num = n) = true) (hroom : Room s) (code : Nat) (payload : List Int) (c : Nat)
    (data : List Int) :
    Sent ((v.log code payload).reply n c data) (.session n) c data ∧
    Logged s ((v.log code payload).reply n c data) code payload ∧
    RegsKept [] s ((v.log code payload).reply n c data) := by
  have hnums : n ∈ (v.log code payload).sessionNums := by
    rw [log_sessionNums]
    exact (mem_sessionNums ..).mpr hopen
  have hlen : v.mirror.window.length < 4096 := by rw [hmirror]; omega
  have hlogged : Logged s (v.log code payload) code payload := log_logged _ _ _ _ _ _ _ _ hlen (by rw [hmirror])
  exact ⟨reply_sent _ _ _ _ hn ((mem_sessionNums ..).mp hnums),
    hlogged.of_mirror ((State.reply_follows ..).frame .mirror (by decide)),
    .reply' _ _ _ (.log' _ _ _ _ _ _ (.of_reg hreg))⟩

/-! ### Tickets (08 R318) -/

section Ticket

variable {t n mass moist : Nat} {loads : List Nat} {raw std : Rat} {s : State}

theorem exec_ticketEntry_bad {x : Nat} (hn : n ≠ 0) (hcls : s.classAtLeast n 1 = true)
    (hturn : s.turn n .ticket = true) (hbad : loads.find? (fun x => s.loadFault x ≠ 0) = some x) :
    exec (.ticketEntry t n loads mass moist) s =
      .next (((s.inTurn t n .ticket).log 0x5045 [(x : Int), (s.loadFault x : Int)]).reply n 0x5045) := by
  refine congrArg Host.Outcome.next ((gated_of_turn hn hturn t _).trans ?_)
  have hcls' : (s.inTurn t n .ticket).classAtLeast n Cls.OPERATOR = true := hcls
  have hbad' : loads.find? (fun x => (s.inTurn t n .ticket).loadFault x ≠ 0) = some x := hbad
  simp only [hcls', hbad', Bool.not_true, Bool.false_eq_true, if_false]
  rfl

theorem exec_ticketEntry (hn : n ≠ 0) (hcls : s.classAtLeast n 1 = true) (hturn : s.turn n .ticket = true)
    (hgood : loads.find? (fun x => s.loadFault x ≠ 0) = none)
    (hraw : raw = loads.foldl (fun (q : Rat) (x : Nat) => q + (look s.ym.loads x).getD 0) 0) (hmass : 1000 ≤ raw) :
    exec (.ticketEntry t n loads mass moist) s =
      .next (((s.inTurn t n .ticket).takeTicket raw (s.stdMass (f32 mass) (f32 moist))).reply n Res.OK) := by
  refine congrArg Host.Outcome.next ((gated_of_turn hn hturn t _).trans ?_)
  have hcls' : (s.inTurn t n .ticket).classAtLeast n Cls.OPERATOR = true := hcls
  have hgood' : loads.find? (fun x => (s.inTurn t n .ticket).loadFault x ≠ 0) = none := hgood
  have hraw' : loads.foldl (fun (q : Rat) (x : Nat) => q + (look (s.inTurn t n .ticket).ym.loads x).getD 0) 0 = raw :=
    hraw.symm
  simp only [hcls', hgood', hraw', not_lt.mpr hmass, Bool.not_true, Bool.false_eq_true, if_false]
  rfl

/-- The first ticket in NAND. -/
def State.withTicket (s : State) (raw std : Rat) : State := { s with ym := { s.ym with tickets := [(raw, std)] } }

/-- CAL as the first ticket gives it: its mass over the mass its loads were mapped with. -/
def ticketCal (raw std : Rat) : Rat := divQ (0 + std) (0 + raw)

/-- A ticket's CAL differs from the one in force by more than 20 %. -/
abbrev State.calFar (s : State) (new : Rat) : Prop :=
  absQ (s.rdF R.YM_CALS_CAL) / 5 < absQ (new - s.rdF R.YM_CALS_CAL)

/-- CAL set and kept in NAND with the records it rests on. -/
def State.calSet (s : State) (w : Nat) : State :=
  { s.wr R.YM_CALS_CAL w with ym := { s.ym with calNand := some (w, s.ymRecords) } }

@[simp] theorem calSet_tickets (s : State) (w : Nat) : (s.calSet w).ym.tickets = s.ym.tickets := rfl

@[simp] theorem calSet_calNand (s : State) (w : Nat) : (s.calSet w).ym.calNand = some (w, s.ymRecords) := rfl

/-- CAL is not among the records it rests on. -/
theorem ymRecords_wr_cal (s : State) (w : Nat) : (s.wr R.YM_CALS_CAL w).ymRecords = s.ymRecords := by
  refine List.map_congr_left fun k hk => rd_wr_ne _ _ ?_
  rintro rfl
  exact absurd hk (by decide)

theorem ymRecords_log (s : State) (code : Nat) (payload : List Int) : (s.log code payload).ymRecords = s.ymRecords :=
  List.map_congr_left fun k hk => log_rd _ _ _ _ _ _ _ _ fun hstream => by
    have hnone : ∀ k ∈ streamRegs, k ∉ [R.YM_CFG_STD_MOIST, R.YM_CFG_MOIST_DEF, R.YM_CFG_TRANSPORT_DEF,
      R.YM_CFG_MOIST_HOLD, R.YM_CFG_NTICK, R.YM_CFG_EN, R.YM_CALS_CAL0] := by decide
    exact hnone k hstream hk

/-- A ticket's CAL logged and not taken. -/
def State.calRefused (s : State) (w : Nat) : State := s.log 0x5044 [(s.rd R.YM_CALS_CAL : Int), (w : Int)]

/-- A ticket's CAL logged and taken. -/
def State.calTaken (s : State) (w : Nat) : State := (s.log 0x5043 [(s.rd R.YM_CALS_CAL : Int), (w : Int), 1]).calSet w

/-- A first ticket stands alone, whatever NTICK; its CAL is taken unless it is too far off. -/
theorem takeTicket_first (hfirst : s.ym.tickets = []) : s.takeTicket raw std =
    if s.calFar (ticketCal raw std) then (s.withTicket raw std).calRefused (toF32 (ticketCal raw std))
    else (s.withTicket raw std).calTaken (toF32 (ticketCal raw std)) := by
  have htake : ((raw, std) :: s.ym.tickets).take (max 1 (s.rd R.YM_CFG_NTICK)) = [(raw, std)] := by
    rw [hfirst, List.take_of_length_le (by simp)]
  unfold State.takeTicket State.calRefused State.calTaken State.calSet
  simp only [htake, ymRecords_wr_cal]
  rfl

/-- A refused CAL leaves CAL as it was. -/
theorem calRefused_leaves (s : State) (w : Nat) : (s.calRefused w).ym = s.ym ∧
    (s.calRefused w).rd R.YM_CALS_CAL = s.rd R.YM_CALS_CAL :=
  ⟨log_ym .., log_rd _ _ _ _ _ _ _ _ (by decide)⟩

/-- A CAL taken is in force and in NAND. -/
theorem calTaken_leaves (s : State) (w : Nat) : (s.calTaken w).ym.tickets = s.ym.tickets ∧
    (s.calTaken w).ym.calNand = some (w, s.ymRecords) ∧ (s.calTaken w).rd R.YM_CALS_CAL = w := by
  rw [State.calTaken, calSet_tickets, calSet_calNand, log_ym, ymRecords_log]
  exact ⟨rfl, rfl, rd_wr_same ..⟩

/-- The first ticket entered is kept, and CAL follows it unless it is too far off. -/
theorem ticketEntry_taken (hn : n ≠ 0) (hopen : s.ses.open_.any (fun p => p.2.num = n) = true)
    (hcls : s.classAtLeast n 1 = true) (hturn : s.turn n .ticket = true)
    (hgood : loads.find? (fun x => s.loadFault x ≠ 0) = none)
    (hraw : raw = loads.foldl (fun (q : Rat) (x : Nat) => q + (look s.ym.loads x).getD 0) 0) (hmass : 1000 ≤ raw)
    (hfirst : s.ym.tickets = []) (hroom : Room s) (hstd : std = s.stdMass (f32 mass) (f32 moist)) :
    ∃ u, exec (.ticketEntry t n loads mass moist) s = .next u ∧
    u.ym.tickets = [(raw, std)] ∧
    (s.calFar (ticketCal raw std) → u.rd R.YM_CALS_CAL = s.rd R.YM_CALS_CAL ∧ u.ym.calNand = s.ym.calNand ∧
      Logged s u 0x5044 [(s.rd R.YM_CALS_CAL : Int), (toF32 (ticketCal raw std) : Int)]) ∧
    (¬ s.calFar (ticketCal raw std) → u.rd R.YM_CALS_CAL = toF32 (ticketCal raw std) ∧
      u.ym.calNand = some (u.rd R.YM_CALS_CAL, s.ymRecords) ∧
      Logged s u 0x5043 [(s.rd R.YM_CALS_CAL : Int), (u.rd R.YM_CALS_CAL : Int), 1]) ∧
    Sent u (.session n) Res.OK [] ∧
    RegsKept [R.YM_CALS_CAL] s u := by
  have hexec := exec_ticketEntry (t := t) (mass := mass) (moist := moist) hn hcls hturn hgood hraw hmass
  rw [← hstd, takeTicket_first (s := s.inTurn t n .ticket) hfirst] at hexec
  obtain ⟨v, hv⟩ : ∃ v, v = (s.inTurn t n .ticket).withTicket raw std := ⟨_, rfl⟩
  have hlogged : ∀ code payload, Logged s (v.log code payload) code payload := fun code payload =>
    log_logged _ _ _ _ _ _ _ _ (by rw [hv]; exact hroom.begin_lt t) (by rw [hv]; exact le_rfl)
  have hsent : ∀ x : State, x.sessionNums = v.sessionNums → Sent (x.reply n Res.OK) (.session n) Res.OK [] :=
    fun x hx => reply_sent _ _ _ _ hn ((mem_sessionNums ..).mp (by rw [hx, hv]; exact (mem_sessionNums s n).mpr hopen))
  have hregs : RegsKept [R.YM_CALS_CAL] s v := .of_reg (by rw [hv]; rfl)
  by_cases hfar : s.calFar (ticketCal raw std)
  · rw [if_pos (show (s.inTurn t n .ticket).calFar _ from hfar), ← hv] at hexec
    obtain ⟨hym, hcal⟩ := calRefused_leaves v (toF32 (ticketCal raw std))
    refine ⟨_, hexec, ?_, fun _ => ⟨?_, ?_, ?_⟩, fun h => absurd hfar h, hsent _ (log_sessionNums ..),
      .reply' _ _ _ (.log' _ _ _ _ _ _ hregs)⟩
    · rw [reply_ym, hym, hv]
      rfl
    · rw [rd_reply, hcal, hv]
      rfl
    · rw [reply_ym, hym, hv]
      rfl
    · subst hv
      exact (hlogged _ _).of_mirror ((State.reply_follows ..).frame .mirror (by decide))
  · rw [if_neg (show ¬(s.inTurn t n .ticket).calFar _ from hfar), ← hv] at hexec
    obtain ⟨htickets, hnand, hcal⟩ := calTaken_leaves v (toF32 (ticketCal raw std))
    refine ⟨_, hexec, ?_, fun h => absurd h hfar, fun _ => ⟨?_, ?_, ?_⟩, hsent _ (log_sessionNums ..),
      .reply' _ _ _ (.upd (.wr' _ _ (by simp) (.log' _ _ _ _ _ _ hregs)))⟩
    · rw [reply_ym, htickets, hv]
      rfl
    · rw [rd_reply, hcal]
    · rw [reply_ym, rd_reply, hnand, hcal, hv]
      rfl
    · rw [rd_reply, hcal]
      subst hv
      exact (hlogged _ _).of_mirror ((State.reply_follows ..).frame .mirror (by decide))

/-- A ticket that names a load it may not is refused. -/
theorem ticketEntry_refused {x : Nat} (hn : n ≠ 0) (hopen : s.ses.open_.any (fun p => p.2.num = n) = true)
    (hcls : s.classAtLeast n 1 = true) (hturn : s.turn n .ticket = true)
    (hbad : loads.find? (fun x => s.loadFault x ≠ 0) = some x) (hroom : Room s) :
    ∃ u, exec (.ticketEntry t n loads mass moist) s = .next u ∧
    u.ym = s.ym ∧
    Logged s u 0x5045 [(x : Int), (s.loadFault x : Int)] ∧
    Sent u (.session n) 0x5045 [] ∧
    RegsKept [] s u := by
  obtain ⟨hsent, hlogged, hregs⟩ := logged_and_replied (v := s.inTurn t n .ticket) rfl rfl hn hopen hroom 0x5045
    [(x : Int), (s.loadFault x : Int)] 0x5045 []
  refine ⟨_, exec_ticketEntry_bad hn hcls hturn hbad, ?_, hlogged, hsent, hregs⟩
  rw [reply_ym, log_ym]
  rfl

end Ticket

/-! ### Export (08 R319) -/

/-- The cells of an interval. -/
def State.cellsWithin (s : State) (first last : Int) : List CellRec :=
  s.ym.cells.filter (fun c => first ≤ c.sec && c.sec < last)

theorem exec_taskdataExport {s : State} {n : Nat} (hserved : s.svcRefusal n 0x0030 [Cls.SERVICE, Cls.FLEET] = none)
    (t : Nat) (first last : Int) : exec (.taskdataExport t n first last) s =
      .next (((s.begin t).log 0x5046 [first, last, ((s.cellsWithin first last).length : Int)]).reply n Res.OK
        (s.taskData (s.cellsWithin first last))) := by
  have hserved' : (s.begin t).svcRefusal n 0x0030 [Cls.SERVICE, Cls.FLEET] = none := hserved
  show execTaskdataExport t n first last s = _
  simp only [execTaskdataExport, hserved']
  rfl

/-- TASKDATA_EXPORT carries the cells of its interval. -/
theorem taskdataExport_sends {s : State} {n : Nat} (hn : n ≠ 0)
    (hopen : s.ses.open_.any (fun p => p.2.num = n) = true)
    (hserved : s.svcRefusal n 0x0030 [Cls.SERVICE, Cls.FLEET] = none) (hroom : Room s) (t : Nat) (first last : Int) :
    ∃ u, exec (.taskdataExport t n first last) s = .next u ∧
    Sent u (.session n) Res.OK (s.taskData (s.cellsWithin first last)) ∧
    Logged s u 0x5046 [first, last, ((s.cellsWithin first last).length : Int)] ∧
    u.ym = s.ym ∧
    RegsKept [] s u := by
  obtain ⟨hsent, hlogged, hregs⟩ := logged_and_replied (v := s.begin t) rfl rfl hn hopen hroom 0x5046
    [first, last, ((s.cellsWithin first last).length : Int)] Res.OK (s.taskData (s.cellsWithin first last))
  refine ⟨_, exec_taskdataExport hserved t first last, hsent, hlogged, ?_, hregs⟩
  rw [reply_ym, log_ym]
  rfl

/-! ### The statement -/

/-- Settles O37: each command of yield mapping. -/
theorem yieldComplete : Obligations.YieldComplete := by
  unfold Obligations.YieldComplete
  refine ⟨?stops, ?opens, ?load, ?ticket, ?refused, ?exported⟩
  case stops =>
    intro t time flow s hbound hoff
    exact flowSample_stops hbound hoff
  case opens =>
    intro t time last flow s hbound hon hlast hle hgap hopen hclosed hrecs hwidths hwidth
    exact flowSample_opens hbound hon hlast hle hgap hopen hclosed hrecs hwidths hwidth
  case load =>
    intro t n s hn hopen hcls hturn
    exact newLoad_closes hn hopen hcls hturn
  case ticket =>
    intro t n mass moist loads q s hn hopen hcls hturn hgood hq hmass hfirst hroom
    exact ticketEntry_taken hn hopen hcls hturn hgood hq hmass hfirst hroom rfl
  case refused =>
    intro t n mass moist x loads s hn hopen hcls hturn hbad hroom
    exact ticketEntry_refused hn hopen hcls hturn hbad hroom
  case exported =>
    intro t n first last s hn hopen hserved hroom
    exact taskdataExport_sends hn hopen hserved hroom t first last

end Sys2Proof.Machine
end

section
/-! PROOF. O35: the guidance step, on no line and steering on a line of type 1 or 2. -/

namespace Sys2Proof.Machine

-- One theorem after the other, so that the threads keep within the memory limit.
set_option Elab.async false

/-! ### F27's side published (08 R287, R297) -/

/-- The side of a board entry that is in force. -/
def BoardS.side (b : BoardS) : Side := if b.index then b.b else b.a

/-- What a publish fills is in force. -/
theorem publishSide_side (s : State) (fn : Nat) (x : Side) : ((s.publishSide fn x).entry fn).side = x := by
  rw [publishSide_entry]
  cases (s.entry fn).index <;> rfl

/-- Guidance publishes the command last computed, and ENGAGE while it steers. -/
theorem publishGuide_sps (s : State) : (s.publishGuide.entry 27).side.sps =
    [s.gd.cmd, if 2 ≤ s.rd R.GD_STAT_STATE then 0x3F800000 else 0] := by
  unfold State.publishGuide
  dsimp only
  rw [publishSide_side]

@[simp] theorem publishGuide_gd (s : State) : s.publishGuide.gd = s.gd :=
  (State.publishGuide_follows s).frame .gd (by decide)

theorem publishGuide_regs (s : State) : RegsExact [R.FN_SPB_MISSES 27] s s.publishGuide := publishSide_regs _ _ _

theorem publishGuide_rd (s : State) {k : Nat} (h : k ≠ R.FN_SPB_MISSES 27) : s.publishGuide.rd k = s.rd k :=
  publishGuide_regs s k (by simpa using h)

/-- What was sent before a publish stays sent. -/
theorem Sent.publishGuide {s : State} {d : Dest} {c : Nat} {l : List Int} (h : Sent s d c l) :
    Sent s.publishGuide d c l := by
  unfold State.publishGuide State.publishSide
  extract_lets engaged b idx lost p b' s1 s2
  have hs2 : Sent s2 d c l := by
    refine h.of_answers ?_
    show s1.answers = _
    unfold s1
    split <;> rfl
  split
  · exact hs2.answer _ _ _
  · exact hs2

/-! ### What a step has shown (08 R285, R289, R308) -/

/-- The registers in which a step shows what it has found. -/
abbrev guideShown : List Nat :=
  [R.GD_STAT_NAVQ, R.GD_STAT_HDGSRC, R.GD_STAT_DR_TRAVEL, R.GD_ERR_XTE, R.GD_ERR_HDG_ERR]

/-- `u` is `s` but for guidance's own state and what a step shows: what the step judges is the same in both. -/
structure Guiding (s u : State) : Prop where
  frame : Frame [.reg, .gd] s u
  regs : RegsExact guideShown s u

namespace Guiding

variable {s u v : State}

theorem trans (h : Guiding s u) (k : Guiding u v) : Guiding s v := ⟨h.frame.trans k.frame, h.regs.trans k.regs⟩

theorem gn (h : Guiding s u) : u.gn = s.gn := h.frame .gn (by decide)
theorem ego (h : Guiding s u) : u.ego = s.ego := h.frame .ego (by decide)
theorem mirror (h : Guiding s u) : u.mirror = s.mirror := h.frame .mirror (by decide)

theorem harvest (h : Guiding s u) : u.harvest = s.harvest :=
  harvest_of_tb (h.frame .tb (by decide)) (h.frame .now (by decide))

theorem rd (h : Guiding s u) {k : Nat} (hk : k ∉ guideShown := by decide) : u.rd k = s.rd k := h.regs k hk

theorem groundSpeed (h : Guiding s u) : u.groundSpeed = s.groundSpeed := by
  simp only [State.groundSpeed, State.pvtSpeed, h.ego, h.gn]

theorem lookPoint (h : Guiding s u) (x : NavS) : u.lookPoint x = s.lookPoint x := by
  simp only [State.lookPoint, h.groundSpeed, h.rd (k := R.GD_CFG_LOOKAHEAD)]

theorem steer (h : Guiding s u) : u.steer = s.steer := by
  funext kappa
  unfold State.steer State.flag
  rw [h.rd (k := R.GD_GEOM_WHEELBASE), h.rd (k := R.GD_CFG_REAR), h.rd (k := R.GD_CFG_MAX_ANGLE),
    h.rd (k := R.GD_CFG_CMD)]

theorem along (h : Guiding s u) (g : GuideStep) : u.along g = s.along g := by
  simp only [State.along, State.velAlong, h.gn]

theorem gnssLost (h : Guiding s u) (src : Nat) : u.gnssLost src = s.gnssLost src := by
  simp only [State.gnssLost, h.gn, h.harvest, h.rd (k := R.GD_CFG_MIN_SOLN)]

/-- No input's register is one of guidance's. -/
theorem takenOver (h : Guiding s u) : u.takenOver = s.takenOver := by
  have hbelow : ∀ k ∈ guideShown, k < R.UI_STAT_ACTIVE 0 := by decide
  have hkey : ∀ n, R.UI_STAT_ACTIVE n ∉ guideShown := fun n hn => by
    have := hbelow _ hn
    simp only [R.UI_STAT_ACTIVE] at this
    omega
  simp only [State.takenOver, State.flag, h.rd (k := R.GD_CFG_TAKEOVER), h.rd (hkey _)]

end Guiding

/-! ### The navigation state stored (08 R285, R308) -/

section Store

variable (s : State) (g : GuideStep) (x : NavS)

theorem storeNav_guiding : Guiding s (s.storeNav g x) where
  frame := (State.storeNav_follows s g x).frame
  regs := .wrs _ (by simp) (.of_reg rfl)

/-- What a step shows of its findings. -/
theorem storeNav_shows : (s.storeNav g x).rd R.GD_STAT_NAVQ = g.navq ∧ (s.storeNav g x).rd R.GD_STAT_HDGSRC = g.src ∧
    (s.storeNav g x).rd R.GD_STAT_DR_TRAVEL = min 0xFFFF (g.travel * 10).floor.toNat := by
  refine ⟨rd_wrs_head _ (by simp), (rd_wrs_cons ..).trans (rd_wrs_head _ (by simp)), ?_⟩
  exact (rd_wrs_cons ..).trans ((rd_wrs_cons ..).trans (rd_wrs_head _ (by simp)))

theorem storeNav_regs : RegsExact [R.GD_STAT_NAVQ, R.GD_STAT_HDGSRC, R.GD_STAT_DR_TRAVEL] s (s.storeNav g x) :=
  .wrs _ (by simp) (.of_reg rfl)

@[simp] theorem storeNav_activeLine : (s.storeNav g x).activeLine = s.activeLine := by
  have hid : (s.storeNav g x).rd R.GD_STAT_LINE_ID = s.rd R.GD_STAT_LINE_ID := (storeNav_guiding s g x).rd
  show (s.gd.lines.find? fun l => l.id = (s.storeNav g x).rd R.GD_STAT_LINE_ID) = _
  rw [hid]
  rfl

end Store

/-! ### The command -/

/-- The navigation state a step takes. -/
def State.navOf (s : State) (nav : NavIn) : NavS :=
  s.navAt nav (s.findStep nav).t0 (s.findStep nav).hdg (s.findStep nav).navq

/-- A step's findings stored. -/
def State.navStored (s : State) (nav : NavIn) : State := s.storeNav (s.findStep nav) (s.navOf nav)

section Exec

variable {t : Nat} {nav : NavIn} {s : State} (hworker : s.isWorker = false)
  (hmode : s.mode = Mode.FIELD_IDLE ∨ s.mode = Mode.HARVEST) (hdue : (s.begin t).stepDue = true)
include hworker hmode hdue

theorem exec_guidanceStep : exec (.guidanceStep t nav) s = .next (match s.activeLine with
    | some l => ((s.begin t).navStored nav).followLine l ((s.begin t).navOf nav) ((s.begin t).findStep nav)
        ((s.begin t).reckoned ((s.begin t).findStep nav).hdg ((s.begin t).findStep nav).t0)
    | none => ((s.begin t).navStored nav).judgeArmed).publishGuide := by
  have hmode' : (decide ((s.begin t).mode = Mode.FIELD_IDLE) || decide ((s.begin t).mode = Mode.HARVEST)) = true := by
    rw [show (s.begin t).mode = s.mode from rfl]
    simpa only [Bool.or_eq_true, decide_eq_true_eq] using hmode
  have hline : (((s.begin t).navStored nav)).activeLine = s.activeLine := storeNav_activeLine ..
  rw [← hline]
  show execGuidanceStep t nav s = _
  simp only [execGuidanceStep, begin_isWorker, hworker, hmode', hdue, Bool.not_true, Bool.or_self, Bool.false_eq_true,
    if_false]
  rfl

end Exec

/-! ### On no line (Table 8.5) -/

/-- Without a line guidance is not ARMED. -/
theorem armedFail_of_noLine {s : State} (h : s.activeLine = none) : s.armedFail ≠ 0 := by
  unfold State.armedFail
  extract_lets m
  rw [h]
  dsimp only
  split
  · exact one_ne_zero
  · exact two_ne_zero

/-- A step without a line leaves guidance OFF. -/
theorem judgeArmed_of_noLine {s : State} (h : s.activeLine = none) (hidle : s.rd R.GD_STAT_STATE < 2) :
    s.judgeArmed = s.wr R.GD_STAT_STATE Gd.OFF := by
  unfold State.judgeArmed
  rw [if_neg (Nat.not_le.mpr hidle), if_neg (armedFail_of_noLine h)]

theorem guidanceStep_noLine {t : Nat} {nav : NavIn} {s : State} (hworker : s.isWorker = false)
    (hmode : s.mode = Mode.FIELD_IDLE ∨ s.mode = Mode.HARVEST) (hdue : (s.begin t).stepDue = true)
    (hline : s.activeLine = none) (hidle : s.rd R.GD_STAT_STATE < 2) :
    ∃ u, exec (.guidanceStep t nav) s = .next u ∧
    u.gd.nav = some ((s.begin t).navOf nav) ∧
    u.rd R.GD_STAT_NAVQ = ((s.begin t).findStep nav).navq ∧
    u.rd R.GD_STAT_HDGSRC = ((s.begin t).findStep nav).src ∧
    u.rd R.GD_STAT_DR_TRAVEL = min 0xFFFF (((s.begin t).findStep nav).travel * 10).floor.toNat ∧
    u.rd R.GD_STAT_STATE = 0 ∧
    (u.entry 27).side.sps = [s.gd.cmd, 0] ∧
    RegsExact [R.GD_STAT_NAVQ, R.GD_STAT_HDGSRC, R.GD_STAT_DR_TRAVEL, R.GD_STAT_STATE, R.FN_SPB_MISSES 27] s u := by
  have hexec := exec_guidanceStep (nav := nav) hworker hmode hdue
  obtain ⟨v, hv⟩ : ∃ v, v = (s.begin t).navStored nav := ⟨_, rfl⟩
  have hstored : Guiding (s.begin t) v := hv ▸ storeNav_guiding ..
  obtain ⟨hnavq, hsrc, htravel⟩ := storeNav_shows (s.begin t) ((s.begin t).findStep nav) ((s.begin t).navOf nav)
  have hvline : v.activeLine = none := hv ▸ (storeNav_activeLine ..).trans hline
  rw [hline, ← hv] at hexec
  dsimp only at hexec
  rw [judgeArmed_of_noLine hvline (by rwa [hstored.rd])] at hexec
  have hrd : ∀ k, k ≠ R.GD_STAT_STATE → k ≠ R.FN_SPB_MISSES 27 →
      ((v.wr R.GD_STAT_STATE Gd.OFF).publishGuide).rd k = v.rd k := fun k hk hk' =>
    (publishGuide_rd _ hk').trans (rd_wr_ne _ _ (Ne.symm hk))
  refine ⟨_, hexec, ?nav, ?navq, ?src, ?travel, ?state, ?side, ?regs⟩
  case nav =>
    rw [publishGuide_gd, hv]
    rfl
  case navq => exact (hrd _ (by decide) (by decide)).trans (hv ▸ hnavq)
  case src => exact (hrd _ (by decide) (by decide)).trans (hv ▸ hsrc)
  case travel => exact (hrd _ (by decide) (by decide)).trans (hv ▸ htravel)
  case state => exact (publishGuide_rd _ (by decide)).trans (rd_wr_same ..)
  case side =>
    rw [publishGuide_sps, rd_wr_same, hv]
    rfl
  case regs =>
    intro k hk
    simp only [List.mem_cons, List.not_mem_nil, or_false, not_or] at hk
    obtain ⟨h1, h2, h3, h4, h5⟩ := hk
    refine (hrd k h4 h5).trans (hv ▸ storeNav_regs (s.begin t) _ _ k ?_)
    simp [h1, h2, h3]

/-! ### The errors on a pass (08 R289, R294) -/

/-- The errors taken at the lookahead point against the active pass, where there is a position to take them from. -/
def State.passTaken (s : State) (l : LineIn) (x : NavS) : State :=
  if x.navq = 0 then s else
  match passErr l (toSigned 16 (s.rd R.GD_STAT_PASS)) (s.lookPoint x) x.hdg x.hdg with
  | some e => { s with gd := { s.gd with xte := e.1, herr := e.2.1, back := e.2.2 } }
  | none => s

/-- The errors shown, and no line newly selected. -/
def State.errorsShown (s : State) : State :=
  ({ s with gd := { s.gd with newLine := false } }).wrs
    [(R.GD_ERR_XTE, toF32 s.gd.xte), (R.GD_ERR_HDG_ERR, toF32 s.gd.herr)]

section Line

variable {s : State} {l : LineIn} {x : NavS} {g : GuideStep} {dr : Rat × Rat}

theorem passTaken_of_err {e : Rat × Rat × Bool} (hnavq : x.navq ≠ 0)
    (he : passErr l (toSigned 16 (s.rd R.GD_STAT_PASS)) (s.lookPoint x) x.hdg x.hdg = some e) :
    s.passTaken l x = { s with gd := { s.gd with xte := e.1, herr := e.2.1, back := e.2.2 } } := by
  rw [State.passTaken, if_neg hnavq, he]

/-- Taking the errors moves no more than the errors and the direction. -/
theorem passTaken_eq (s : State) (l : LineIn) (x : NavS) : ∃ xte herr back,
    s.passTaken l x = { s with gd := { s.gd with xte := xte, herr := herr, back := back } } := by
  unfold State.passTaken
  split
  · exact ⟨_, _, _, rfl⟩
  · split
    · exact ⟨_, _, _, rfl⟩
    · exact ⟨_, _, _, rfl⟩

/-- Off a turn and on the line of the step before, the errors are those against the active pass. -/
theorem pathErr_onPass (htyp : l.typ ≠ 3) (hturn : s.gd.turn = none) (hnew : s.gd.newLine = false)
    (hstate : 2 ≤ s.rd R.GD_STAT_STATE) : s.pathErr l x = (s.passTaken l x, 0) := by
  unfold State.pathErr State.passTaken
  by_cases hnavq : x.navq = 0
  · simp only [htyp, hnavq, if_false, if_true]
  · simp only [htyp, hturn, hnew, hnavq, Nat.not_lt.mpr hstate, if_false, decide_false, Bool.or_self,
      Bool.false_eq_true]
    cases passErr l (toSigned 16 (s.rd R.GD_STAT_PASS)) (s.lookPoint x) x.hdg x.hdg with
    | none => rfl
    | some e => rfl

/-- A step on a line while no turn is under way or asked for. -/
theorem followLine_onPass (htyp : l.typ ≠ 3) (hturn : s.gd.turn = none) (hreq : s.gd.turnReq = none)
    (hnew : s.gd.newLine = false) (hstate : 2 ≤ s.rd R.GD_STAT_STATE) : s.followLine l x g dr =
    (((s.passTaken l x).errorsShown.judgeSteering l x g dr).judgeArmed).commandStep 0 := by
  have hbegin : s.beginTurn l x = s := by simp only [State.beginTurn, hreq]
  obtain ⟨xte, herr, back, htaken⟩ := passTaken_eq s l x
  have hend : ∀ v : State, v.gd.turn = none → v.endTurn l x = v := fun v hv => by simp only [State.endTurn, hv]
  unfold State.followLine
  rw [hbegin, pathErr_onPass htyp hturn hnew hstate]
  dsimp only
  rw [if_neg htyp, hend _ (by rw [htaken]; exact hturn)]
  rfl

/-- What showing the errors leaves of the state. -/
theorem onPass_guiding (s : State) (l : LineIn) (x : NavS) : Guiding s (s.passTaken l x).errorsShown := by
  obtain ⟨xte, herr, back, htaken⟩ := passTaken_eq s l x
  rw [htaken]
  refine ⟨?_, .wrs _ (by simp) (.of_reg rfl)⟩
  intro p hp
  cases p with
  | reg => exact absurd (by decide) hp
  | gd => exact absurd (by decide) hp
  | _ => rfl

theorem onPass_regs (s : State) (l : LineIn) (x : NavS) :
    RegsExact [R.GD_ERR_XTE, R.GD_ERR_HDG_ERR] s (s.passTaken l x).errorsShown := by
  obtain ⟨xte, herr, back, htaken⟩ := passTaken_eq s l x
  rw [htaken]
  exact .wrs _ (by simp) (.of_reg rfl)

/-- The errors taken are shown. -/
theorem onPass_shows {e : Rat × Rat × Bool} (hnavq : x.navq ≠ 0)
    (he : passErr l (toSigned 16 (s.rd R.GD_STAT_PASS)) (s.lookPoint x) x.hdg x.hdg = some e) :
    (s.passTaken l x).errorsShown.rd R.GD_ERR_XTE = toF32 e.1 ∧
    (s.passTaken l x).errorsShown.rd R.GD_ERR_HDG_ERR = toF32 e.2.1 ∧
    (s.passTaken l x).errorsShown.gd.xte = e.1 ∧ (s.passTaken l x).errorsShown.gd.herr = e.2.1 ∧
    (s.passTaken l x).errorsShown.gd.back = e.2.2 := by
  rw [passTaken_of_err hnavq he]
  exact ⟨rd_wrs_head _ (by simp), (rd_wrs_cons ..).trans (rd_wrs_head _ (by simp)), rfl, rfl, rfl⟩

/-- Taking the errors leaves the navigation state and the command. -/
theorem onPass_nav (s : State) (l : LineIn) (x : NavS) : (s.passTaken l x).errorsShown.gd.nav = s.gd.nav ∧
    (s.passTaken l x).errorsShown.gd.cmd = s.gd.cmd := by
  obtain ⟨xte, herr, back, htaken⟩ := passTaken_eq s l x
  rw [htaken]
  exact ⟨rfl, rfl⟩

/-! ### What a step judges (Table 8.5, Table 8.6) -/

/-- With GNSS good, no TAKEOVER input and no travel backwards, guidance stays ENGAGED. -/
theorem judgeSteering_stays (htyp : l.typ ≠ 3) (hstate : s.rd R.GD_STAT_STATE = Gd.ENGAGED)
    (hover : s.takenOver = false) (hgnss : s.gnssLost g.src = false) (halong : -(3 / 10) < s.along g) :
    s.judgeSteering l x g dr = s := by
  have hsteers : ¬Gd.ENGAGED < 2 := by decide
  have hgood : Gd.ENGAGED ≠ Gd.DR := by decide
  unfold State.judgeSteering
  simp only [hover, hstate, hsteers, hgood, htyp, hgnss, Bool.false_eq_true, if_false, not_le.mpr halong]

theorem judgeArmed_steering (hstate : 2 ≤ s.rd R.GD_STAT_STATE) : s.judgeArmed = s := if_pos hstate

/-- Guidance no longer steers: OFF or ARMED by the conditions, and why. -/
def State.steeringEnded (s : State) (reason : Nat) : State :=
  { s.wrs [(R.GD_STAT_STATE, if s.armedFail = 0 then Gd.ARMED else Gd.OFF), (R.GD_STAT_REASON, reason)] with
    gd := { s.gd with turn := none, turnReq := none } }

/-- A disengagement that alarms the operator (R299). -/
theorem disengage_alarmed {reason : Nat} (hstate : 2 ≤ s.rd R.GD_STAT_STATE) (hreason : ¬(reason = 1 ∨ reason = 8)) :
    s.disengage reason = ((s.steeringEnded reason).log 0x5021
      [(reason : Int), (s.rd R.GD_ERR_XTE : Int), (s.rd R.GD_STAT_DR_TRAVEL : Int)]).answer .operator 0x5021
        [(reason : Int)] := by
  have hxte : (s.steeringEnded reason).rd R.GD_ERR_XTE = s.rd R.GD_ERR_XTE := rd_wrs_ne _ _ _ (by simp)
  have htravel : (s.steeringEnded reason).rd R.GD_STAT_DR_TRAVEL = s.rd R.GD_STAT_DR_TRAVEL := rd_wrs_ne _ _ _ (by simp)
  unfold State.disengage
  rw [if_neg (Nat.not_lt.mpr hstate), if_neg hreason, ← hxte, ← htravel]
  rfl

/-- Guidance disengaged with a reason, the event logged and the operator alarmed. -/
structure Disengaged (reason : Nat) (s u : State) : Prop where
  idle : u.rd R.GD_STAT_STATE < 2
  shown : u.rd R.GD_STAT_REASON = reason
  kept : RegsKept [R.GD_STAT_STATE, R.GD_STAT_REASON] s u
  logged : Logged s u 0x5021 [(reason : Int), (s.rd R.GD_ERR_XTE : Int), (s.rd R.GD_STAT_DR_TRAVEL : Int)]
  sent : Sent u .operator 0x5021 [(reason : Int)]

theorem steeringEnded_rd (s : State) (reason : Nat) : (s.steeringEnded reason).rd R.GD_STAT_STATE < 2 ∧
    (s.steeringEnded reason).rd R.GD_STAT_REASON = reason := by
  have hstate : (s.steeringEnded reason).rd R.GD_STAT_STATE = if s.armedFail = 0 then Gd.ARMED else Gd.OFF :=
    rd_wrs_head _ (by simp)
  refine ⟨?_, (rd_wrs_cons ..).trans (rd_wrs_head _ (by simp))⟩
  rw [hstate]
  split <;> decide

theorem disengage_ends {reason : Nat} (hstate : 2 ≤ s.rd R.GD_STAT_STATE) (hreason : ¬(reason = 1 ∨ reason = 8))
    (hroom : s.mirror.window.length < 4096) : Disengaged reason s (s.disengage reason) := by
  obtain ⟨hidle, hshown⟩ := steeringEnded_rd s reason
  rw [disengage_alarmed hstate hreason]
  refine ⟨?_, ?_, .answer' _ _ _ (.log' _ _ _ _ _ _ (.upd (.wrs' _ (by simp) (.rfl' _ s)))), ?_, answer_sent ..⟩
  · rw [rd_answer, log_rd _ _ _ _ _ _ _ _ (by decide)]
    exact hidle
  · rw [rd_answer, log_rd _ _ _ _ _ _ _ _ (by decide)]
    exact hshown
  · exact (log_logged s (s.steeringEnded reason) _ _ _ _ _ _ hroom le_rfl).of_mirror rfl

/-- An active TAKEOVER input disengages, and nothing else is judged (R305). -/
theorem judgeSteering_takenOver (hstate : 2 ≤ s.rd R.GD_STAT_STATE) (hover : s.takenOver = true)
    (hroom : s.mirror.window.length < 4096) : s.judgeSteering l x g dr = s.disengage 2 := by
  have hidle := (disengage_ends (reason := 2) hstate (by decide) hroom).idle
  have hagain : ∀ r, (s.disengage 2).disengage r = s.disengage 2 := fun r => if_pos hidle
  unfold State.judgeSteering
  simp only [hover, hidle, hagain, if_true, ite_self]

/-- OFF and ARMED follow their conditions. -/
theorem judgeArmed_idle (h : s.rd R.GD_STAT_STATE < 2) : s.judgeArmed.rd R.GD_STAT_STATE < 2 := by
  unfold State.judgeArmed
  rw [if_neg (Nat.not_le.mpr h), rd_wr_same]
  split <;> decide

theorem judgeArmed_rd (s : State) {k : Nat} (h : k ≠ R.GD_STAT_STATE) : s.judgeArmed.rd k = s.rd k := by
  unfold State.judgeArmed
  split
  · rfl
  · exact rd_wr_ne _ _ (Ne.symm h)

end Line

/-! ### The command of a step (08 R289) -/

theorem commandStep_eq (s : State) (k : Rat) : ∃ cmd, s.commandStep k = { s with gd := { s.gd with cmd := cmd } } := by
  unfold State.commandStep
  split
  · exact ⟨_, rfl⟩
  · exact ⟨_, rfl⟩

theorem commandStep_cmd (s : State) (k : Rat) : (s.commandStep k).gd.cmd = if s.groundSpeed < 3 / 10 then s.gd.cmd
    else toF32 (s.steer (k - s.rdF R.GD_GAIN_K_X * s.gd.xte - s.rdF R.GD_GAIN_K_H * radOf s.gd.herr)) := by
  unfold State.commandStep
  split
  · rfl
  · rfl

/-! ### Steering on a line -/

section Steering

variable {t : Nat} {nav : NavIn} {l : LineIn} {s : State}

/-- A step on a line of type 1 or 2 while guidance steers, with no turn and no new line. -/
structure OnLine (t : Nat) (l : LineIn) (s : State) : Prop where
  worker : s.isWorker = false
  mode : s.mode = Mode.FIELD_IDLE ∨ s.mode = Mode.HARVEST
  due : (s.begin t).stepDue = true
  line : s.activeLine = some l
  typ : l.typ ≠ 3
  engaged : s.rd R.GD_STAT_STATE = 2
  turn : s.gd.turn = none
  turnReq : s.gd.turnReq = none
  newLine : s.gd.newLine = false

/-- The state a step judges: its findings stored, the errors taken and shown. -/
def State.errorsTaken (s : State) (nav : NavIn) (l : LineIn) : State :=
  ((s.navStored nav).passTaken l (s.navOf nav)).errorsShown

theorem errorsTaken_guiding (s : State) (nav : NavIn) (l : LineIn) : Guiding s (s.errorsTaken nav l) :=
  (storeNav_guiding ..).trans (onPass_guiding ..)

/-- The step shows its findings and its errors, and stores its navigation state. -/
theorem errorsTaken_stores (s : State) (nav : NavIn) (l : LineIn) :
    (s.errorsTaken nav l).rd R.GD_STAT_NAVQ = (s.findStep nav).navq ∧
    (s.errorsTaken nav l).gd.nav = some (s.navOf nav) ∧ (s.errorsTaken nav l).gd.cmd = s.gd.cmd := by
  obtain ⟨hnav, hcmd⟩ := onPass_nav (s.navStored nav) l (s.navOf nav)
  obtain ⟨hnavq, -, -⟩ := storeNav_shows s (s.findStep nav) (s.navOf nav)
  exact ⟨(onPass_regs (s.navStored nav) l (s.navOf nav) _ (by decide)).trans hnavq, hnav, hcmd⟩

/-- The errors of a step are those at its lookahead point. -/
theorem errorsTaken_errs {e : Rat × Rat × Bool} (hnavq : (s.findStep nav).navq ≠ 0)
    (he : passErr l (toSigned 16 (s.rd R.GD_STAT_PASS)) (s.lookPoint (s.navOf nav)) (s.navOf nav).hdg
      (s.navOf nav).hdg = some e) :
    (s.errorsTaken nav l).rd R.GD_ERR_XTE = toF32 e.1 ∧ (s.errorsTaken nav l).rd R.GD_ERR_HDG_ERR = toF32 e.2.1 ∧
    (s.errorsTaken nav l).gd.xte = e.1 ∧ (s.errorsTaken nav l).gd.herr = e.2.1 ∧
    (s.errorsTaken nav l).gd.back = e.2.2 := by
  have hstored : Guiding s (s.navStored nav) := storeNav_guiding ..
  refine onPass_shows hnavq ?_
  rw [hstored.rd, hstored.lookPoint]
  exact he

theorem commandStep_rd (s : State) (q : Rat) (k : Nat) : (s.commandStep q).rd k = s.rd k :=
  rd_of_reg ((State.commandStep_follows s q).frame .reg (by decide)) k

theorem OnLine.exec (h : OnLine t l s) : exec (.guidanceStep t nav) s =
    .next ((((((s.begin t).errorsTaken nav l).judgeSteering l ((s.begin t).navOf nav) ((s.begin t).findStep nav)
      ((s.begin t).reckoned ((s.begin t).findStep nav).hdg ((s.begin t).findStep nav).t0)).judgeArmed).commandStep
        0).publishGuide) := by
  have hstored : Guiding (s.begin t) ((s.begin t).navStored nav) := storeNav_guiding ..
  have hstate : 2 ≤ ((s.begin t).navStored nav).rd R.GD_STAT_STATE := by
    rw [hstored.rd]
    exact h.engaged.ge
  rw [exec_guidanceStep h.worker h.mode h.due, h.line]
  dsimp only
  rw [followLine_onPass (s := (s.begin t).navStored nav) h.typ h.turn h.turnReq h.newLine hstate]
  rfl

/-- A step finds GNSS not lost only while it is good, and its position then rests on GNSS (R300, R309). -/
theorem findStep_good (h : (s.findStep nav).lost = false) :
    s.gnssLost (s.findStep nav).src = false ∧ (s.findStep nav).navq = 1 := by
  have hlost : (s.findStep nav).lost = (s.gnssLost (s.findStep nav).src ||
    (s.gd.lost && decide ((s.findStep nav).good < 3))) := rfl
  have hnavq : (s.findStep nav).lost = false → (s.findStep nav).navq = 1 := fun h => if_pos (by
    rw [Bool.not_eq_true']
    exact h)
  exact ⟨(Bool.or_eq_false_iff.mp (hlost ▸ h)).1, hnavq h⟩

/-- With GNSS good, no TAKEOVER input and no travel backwards a step stays on its pass and commands by its errors. -/
theorem guidanceStep_steers (h : OnLine t l s) (hlost : ((s.begin t).findStep nav).lost = false)
    (hover : (s.begin t).takenOver = false) (halong : -(3 / 10) < (s.begin t).along ((s.begin t).findStep nav)) :
    ∃ u, exec (.guidanceStep t nav) s = .next u ∧
    u.rd R.GD_STAT_STATE = 2 ∧
    u.rd R.GD_STAT_NAVQ = 1 ∧
    u.rd R.GD_STAT_PASS = s.rd R.GD_STAT_PASS ∧
    u.gd.nav = some ((s.begin t).navOf nav) ∧
    (∀ e, passErr l (toSigned 16 (s.rd R.GD_STAT_PASS)) ((s.begin t).lookPoint ((s.begin t).navOf nav))
        ((s.begin t).navOf nav).hdg ((s.begin t).navOf nav).hdg = some e →
      u.rd R.GD_ERR_XTE = toF32 e.1 ∧ u.rd R.GD_ERR_HDG_ERR = toF32 e.2.1 ∧ u.gd.back = e.2.2 ∧
      u.gd.cmd = (if s.groundSpeed < 3 / 10 then s.gd.cmd
        else toF32 (s.steer (0 - s.rdF R.GD_GAIN_K_X * e.1 - s.rdF R.GD_GAIN_K_H * radOf e.2.1)))) ∧
    (u.entry 27).side.sps = [u.gd.cmd, 0x3F800000] ∧
    RegsExact [R.GD_STAT_NAVQ, R.GD_STAT_HDGSRC, R.GD_STAT_DR_TRAVEL, R.GD_ERR_XTE, R.GD_ERR_HDG_ERR,
      R.FN_SPB_MISSES 27] s u := by
  obtain ⟨hgnss, hnavq⟩ := findStep_good hlost
  have hv := errorsTaken_guiding (s.begin t) nav l
  have hstate : ((s.begin t).errorsTaken nav l).rd R.GD_STAT_STATE = 2 := hv.rd.trans h.engaged
  obtain ⟨hshown, hnav, hcmd⟩ := errorsTaken_stores (s.begin t) nav l
  have hexec := h.exec (nav := nav)
  rw [judgeSteering_stays h.typ hstate (hv.takenOver.trans hover) ((hv.gnssLost _).trans hgnss)
    (by rwa [hv.along]), judgeArmed_steering hstate.ge] at hexec
  have hrd : ∀ k, k ≠ R.FN_SPB_MISSES 27 →
      (((s.begin t).errorsTaken nav l).commandStep 0).publishGuide.rd k = ((s.begin t).errorsTaken nav l).rd k :=
    fun k hk => (publishGuide_rd _ hk).trans (commandStep_rd ..)
  refine ⟨_, hexec, ?state, ?navq, ?pass, ?nav, ?errs, ?side, ?regs⟩
  case state => exact (hrd _ (by decide)).trans hstate
  case navq => exact (hrd _ (by decide)).trans (hshown.trans hnavq)
  case pass => exact (hrd _ (by decide)).trans hv.rd
  case nav =>
    obtain ⟨cmd, hcommand⟩ := commandStep_eq ((s.begin t).errorsTaken nav l) 0
    rw [publishGuide_gd, hcommand]
    exact hnav
  case errs =>
    intro e he
    obtain ⟨hxte, hherr, hgdXte, hgdHerr, hback⟩ := errorsTaken_errs (s := s.begin t) (hnavq ▸ one_ne_zero) he
    refine ⟨(hrd _ (by decide)).trans hxte, (hrd _ (by decide)).trans hherr, ?_, ?_⟩
    · obtain ⟨cmd, hcommand⟩ := commandStep_eq ((s.begin t).errorsTaken nav l) 0
      rw [publishGuide_gd, hcommand]
      exact hback
    · rw [publishGuide_gd, commandStep_cmd, hv.groundSpeed, hv.steer, State.rdF, State.rdF, hv.rd, hv.rd, hgdXte,
        hgdHerr, hcmd]
      rfl
  case side =>
    rw [publishGuide_sps, publishGuide_gd, commandStep_rd, hstate]
    rfl
  case regs =>
    intro k hk
    simp only [List.mem_cons, List.not_mem_nil, or_false, not_or] at hk
    obtain ⟨h1, h2, h3, h4, h5, h6⟩ := hk
    exact (hrd k h6).trans (hv.rd (by simp [h1, h2, h3, h4, h5]))

/-- An active TAKEOVER input ends the steering with reason 2. -/
theorem guidanceStep_takenOver (h : OnLine t l s) (hover : (s.begin t).takenOver = true) (hroom : Room s) :
    ∃ u, exec (.guidanceStep t nav) s = .next u ∧
    u.rd R.GD_STAT_REASON = 2 ∧
    u.rd R.GD_STAT_STATE < 2 ∧
    Logged s u 0x5021 [2, (u.rd R.GD_ERR_XTE : Int), (u.rd R.GD_STAT_DR_TRAVEL : Int)] ∧
    Sent u .operator 0x5021 [2] ∧
    (u.entry 27).side.sps = [u.gd.cmd, 0] := by
  have hv := errorsTaken_guiding (s.begin t) nav l
  have hexec := h.exec (nav := nav)
  generalize (s.begin t).errorsTaken nav l = v at hexec hv
  have hstate : 2 ≤ v.rd R.GD_STAT_STATE := by
    rw [hv.rd]
    exact h.engaged.ge
  have hlen : v.mirror.window.length < 4096 := by
    rw [hv.mirror]
    exact hroom.begin_lt t
  rw [judgeSteering_takenOver hstate (hv.takenOver.trans hover) hlen] at hexec
  have hended := disengage_ends (reason := 2) hstate (by decide) hlen
  generalize v.disengage 2 = w at hexec hended
  have hrd : ∀ k, k ≠ R.GD_STAT_STATE → k ≠ R.FN_SPB_MISSES 27 →
      ((w.judgeArmed).commandStep 0).publishGuide.rd k = w.rd k := fun k hk hk' =>
    (publishGuide_rd _ hk').trans ((commandStep_rd ..).trans (judgeArmed_rd w hk))
  have hidle : ((w.judgeArmed).commandStep 0).rd R.GD_STAT_STATE < 2 := by
    rw [commandStep_rd]
    exact judgeArmed_idle hended.idle
  have hmirror : ((w.judgeArmed).commandStep 0).publishGuide.mirror = w.mirror :=
    ((State.publishGuide_follows _).frame .mirror (by decide)).trans
      (((State.commandStep_follows _ 0).frame .mirror (by decide)).trans
        ((State.judgeArmed_follows w).frame .mirror (by decide)))
  have hanswers : ((w.judgeArmed).commandStep 0).answers = w.answers :=
    ((State.commandStep_follows _ 0).frame .answers (by decide)).trans
      ((State.judgeArmed_follows w).frame .answers (by decide))
  refine ⟨_, hexec, ?reason, ?state, ?logged, ?sent, ?side⟩
  case reason => exact (hrd _ (by decide) (by decide)).trans hended.shown
  case state =>
    rw [publishGuide_rd _ (by decide)]
    exact hidle
  case logged =>
    rw [hrd _ (by decide) (by decide), hrd _ (by decide) (by decide), hended.kept _ (by decide) (by decide),
      hended.kept _ (by decide) (by decide)]
    have hbefore : s.mirror = v.mirror := hv.mirror.symm
    obtain ⟨e, he, hcode, hpayload, harrival⟩ := hended.logged.of_mirror hmirror
    exact ⟨e, he, hcode, hpayload, by rwa [hbefore]⟩
  case sent => exact Sent.publishGuide (hended.sent.of_answers hanswers)
  case side => rw [publishGuide_sps, publishGuide_gd, if_neg (Nat.not_le.mpr hidle)]

end Steering

/-! ### The statement -/

/-- Settles O35: a step on no line, a step that steers, and one that is taken over. -/
theorem guidanceStepsComplete : Obligations.GuidanceStepsComplete := by
  unfold Obligations.GuidanceStepsComplete
  refine ⟨?noLine, ?steers, ?takenOver⟩
  case noLine =>
    intro t nav s hworker hmode hdue hline hidle
    exact guidanceStep_noLine hworker hmode hdue hline hidle
  case steers =>
    intro t nav l s hworker hmode hdue hline htyp hengaged hturn hreq hnew hlost hover halong
    exact guidanceStep_steers ⟨hworker, hmode, hdue, hline, htyp, hengaged, hturn, hreq, hnew⟩ hlost hover halong
  case takenOver =>
    intro t nav l s hworker hmode hdue hline htyp hengaged hturn hreq hnew hover hroom
    exact guidanceStep_takenOver ⟨hworker, hmode, hdue, hline, htyp, hengaged, hturn, hreq, hnew⟩ hover hroom

end Sys2Proof.Machine
end

section
/-! SUPPORT. Chapter 09: a camera's and a core's own state, and what the shared camera operations do to them. -/

namespace Sys2Proof.Machine

-- One theorem after the other, so that the threads keep within the memory limit.
set_option Elab.async false

/-! ### A camera's own state -/

/-- A second insertion under a key replaces the first. -/
theorem ins_ins {α : Type} (l : List (Nat × α)) (k : Nat) (v w : α) : ins (ins l k v) k w = ins l k w := by
  induction l with
  | nil => simp [ins]
  | cons p l ih =>
    obtain ⟨j, x⟩ := p
    rcases lt_trichotomy k j with hlt | rfl | hgt
    · simp [ins, hlt]
    · simp [ins]
    · have hge : ¬k < j := by omega
      have hne : j ≠ k := by omega
      simp [ins, hge, hne, ih]

section Cam

variable (s : State) (c : Nat) (v : CamS)

@[simp] theorem camS_setCam_same : (s.setCam c v).camS c = v := by
  simp only [State.camS, State.setCam, look_ins_same, Option.getD_some]

theorem camS_setCam_ne {c d : Nat} (h : c ≠ d) : (s.setCam c v).camS d = s.camS d := by
  simp only [State.camS, State.setCam, look_ins_ne _ _ h]

/-- A second write of a camera's state replaces the first. -/
theorem setCam_setCam (w : CamS) : (s.setCam c v).setCam c w = s.setCam c w := by
  simp only [State.setCam, ins_ins]

theorem setCam_cams_congr {u : State} {c : Nat} {v : CamS} (h : u.cams = (s.setCam c v).cams) (w : CamS) :
    (u.setCam c w).cams = (s.setCam c w).cams := by
  simp only [State.setCam, h, ins_ins]

@[simp] theorem setCam_rd (k : Nat) : (s.setCam c v).rd k = s.rd k := rfl
@[simp] theorem setCam_coreS (k : Nat) : (s.setCam c v).coreS k = s.coreS k := rfl

@[simp] theorem begin_camS (t : Nat) : (s.begin t).camS c = s.camS c := rfl
@[simp] theorem begin_coreS (t k : Nat) : (s.begin t).coreS k = s.coreS k := rfl

end Cam

theorem camS_of_cam {s u : State} (h : u.cams.cam = s.cams.cam) (c : Nat) : u.camS c = s.camS c := by
  simp only [State.camS, h]

theorem camS_of_cams {s u : State} (h : u.cams = s.cams) (c : Nat) : u.camS c = s.camS c :=
  camS_of_cam (congrArg CamerasS.cam h) c

theorem coreS_of_core {s u : State} (h : u.cams.core = s.cams.core) (k : Nat) : u.coreS k = s.coreS k := by
  simp only [State.coreS, h]

/-! ### An event of a camera (R354) -/

/-- With room in the window an event that is not late moves DEPTH_MAX alone. -/
theorem arrive_held_regs (s : State) (e : Event) (hd : s.now ≤ e.due) (h : s.mirror.window.length < 4096) :
    RegsExact [R.MIRROR_STAT_DEPTH_MAX] s (s.arrive e) := by
  unfold State.arrive
  dsimp only
  rw [if_neg (Nat.not_lt.mpr hd)]
  unfold State.hold
  dsimp only
  rw [if_pos h, if_pos h]
  exact .raise' _ _ (by simp) (.of_reg rfl)

theorem log_regs_of_room {s : State} (h : s.mirror.window.length < 4096) (code : Nat) (payload : List Int)
    (island : Nat) (esc fault : Bool) (input : Option Int) :
    RegsExact [R.MIRROR_STAT_DEPTH_MAX] s (s.log code payload island esc fault input) := by
  unfold State.log State.ownEvent
  dsimp only
  split
  · exact arrive_held_regs (s.answer _ _ _) _ (Nat.le_add_right _ _) h
  · exact arrive_held_regs s _ (Nat.le_add_right _ _) h

section Log

variable {s : State}

@[simp] theorem camLog_cams (s : State) (code c : Nat) (payload : List Int) : (s.camLog code c payload).cams = s.cams :=
  (State.camLog_follows s code c payload).frame .cams (by decide)

@[simp] theorem camLog_camS (s : State) (code c d : Nat) (payload : List Int) :
    (s.camLog code c payload).camS d = s.camS d := camS_of_cams (camLog_cams ..) d

theorem camLog_sessionNums (s : State) (code c : Nat) (payload : List Int) :
    (s.camLog code c payload).sessionNums = s.sessionNums := by
  unfold State.camLog State.logOnce
  split
  · exact log_sessionNums ..
  · rfl

theorem camLog_rd (s : State) (code c : Nat) (payload : List Int) {k : Nat} (h : k ∉ streamRegs) :
    (s.camLog code c payload).rd k = s.rd k := logOnce_rd _ _ _ _ _ _ _ _ h

theorem camLog_regs_of_room (h : s.mirror.window.length < 4096) (code c : Nat) (payload : List Int) :
    RegsExact [R.MIRROR_STAT_DEPTH_MAX] s (s.camLog code c payload) := by
  unfold State.camLog State.logOnce
  split
  · exact log_regs_of_room (s := { s with mirror := { s.mirror with
      holdoffs := ins s.mirror.holdoffs (code * 2 ^ 40 + c) s.now } }) h _ _ _ _ _ _
  · exact .rfl' _ _

theorem RegsKept.camLog {l : List Nat} {u : State} (code c : Nat) (payload : List Int) (h : RegsKept l s u) :
    RegsKept l s (u.camLog code c payload) := .logOnce' _ _ _ _ _ _ h

/-- What a command may log as it begins is logged while no other event has been. -/
theorem camLog_logged {t code c : Nat} {v : State} {payload : List Int} (hmirror : v.mirror = s.mirror)
    (hnow : v.now = max s.now t) (hmay : (s.begin t).mayLog code c 1000000000 = true) (hroom : Room s) :
    Logged s (v.camLog code c payload) code payload := by
  refine logOnce_logged _ _ _ ?_ (by rw [hmirror]; omega) (by rw [hmirror])
  unfold State.mayLog at hmay ⊢
  rw [hmirror, hnow]
  exact hmay

end Log

theorem setCamState_cams (s : State) (c st : Nat) : (s.setCamState c st).cams = s.cams :=
  (State.setCamState_follows s c st).frame .cams (by decide)

/-! ### A core's own state (Table 9.5) -/

section Core

variable (s : State) (k : Nat) (x : CoreS)

/-- The registers that show a core's state. -/
abbrev coreRegs (k : Nat) : List Nat := [R.ISP_C_STAT_LOAD k, R.ISP_C_STAT_CAM k, R.ISP_C_STAT_SWITCHES k]

theorem setCore_coreS_same : (s.setCore k x).coreS k =
    { x with busy := x.busy.filter (fun p => s.now - 1000000000 < p.2),
             switches := x.switches.filter (fun n => s.now < n + 1000000000) } := by
  unfold State.setCore
  exact congrArg (fun o => Option.getD o ({} : CoreS)) (look_ins_same ..)

theorem setCore_coreS_ne {k j : Nat} (h : k ≠ j) : (s.setCore k x).coreS j = s.coreS j := by
  unfold State.setCore
  exact congrArg (fun o => Option.getD o ({} : CoreS)) (look_ins_ne _ _ h)

@[simp] theorem setCore_camS (c : Nat) : (s.setCore k x).camS c = s.camS c := rfl

theorem setCore_regs : RegsExact (coreRegs k) s (s.setCore k x) := .wrs _ (by simp) (.of_reg rfl)

theorem setCore_shows {x : CoreS} {y : Nat × Nat} (h : x.cur = some y) :
    (s.setCore k x).rd (R.ISP_C_STAT_CAM k) = y.1 := by
  unfold State.setCore
  refine (rd_wrs_cons ..).trans ((rd_wrs_head _ (by simp)).trans ?_)
  simp only [h]

theorem setCore_shows_idle {x : CoreS} (h : x.cur = none) : (s.setCore k x).rd (R.ISP_C_STAT_CAM k) = 0 := by
  unfold State.setCore
  refine (rd_wrs_cons ..).trans ((rd_wrs_head _ (by simp)).trans ?_)
  simp only [h]

end Core

end Sys2Proof.Machine
end

section
/-! PROOF. The refutation of O38. -/

namespace Sys2Proof.Machine

-- One theorem after the other, so that the threads keep within the memory limit.
set_option Elab.async false

/-- Discarding a camera's frames leaves the TENSOR streams that wait for their network. -/
theorem dropFrames_tensor (s : State) (c : Nat) : ((s.dropFrames c).camS c).tensor = (s.camS c).tensor := by
  unfold State.dropFrames
  dsimp only
  rw [camS_setCam_same]

/-- A link that loses lock leaves them too. -/
theorem loseLink_tensor (s : State) (c : Nat) : ((s.loseLink c).camS c).tensor = (s.camS c).tensor := by
  unfold State.loseLink State.logLink
  split
  · rfl
  · rw [camS_of_cams ((State.log_follows ..).frame .cams (by decide)), camS_setCam_same]
    exact (dropFrames_tensor ..).trans (congrArg CamS.tensor (camS_of_cams (setCamState_cams ..) c))

/-- CAM03 runs with a locked link, and a complete TENSOR stream of it waits for its network. -/
def tensorWaits : State :=
  { State.reset.wrs [(R.CAM_CFG_PURPOSE 3, 2), (R.CAM_STAT_STATE 3, Cam.RUNNING)] with
    cams := { cam := [(3, { locked := true, tensor := [{ trig := 40, stamp := 50, fno := 9, at_ := 0 }] })] } }

/-- Refutes O38, by its part on a link that loses lock: it asks that the camera's TENSOR streams are gone too. R325 has the
frames not yet delivered to all their streams discarded; a complete TENSOR stream is none of them, and it still waits for
its network after the loss. -/
theorem not_ingressComplete : ¬ Obligations.IngressComplete := by
  unfold Obligations.IngressComplete
  rintro ⟨-, -, -, -, hlost, -, -⟩
  obtain ⟨u, hu, -, -, hgone, -⟩ := hlost 0 3 tensorWaits (by decide) (by decide) (by decide +kernel)
    (by decide) (by decide)
  have hu' : (tensorWaits.begin 0).loseLink 3 = u := Host.Outcome.next.inj hu
  have hwaits : ((tensorWaits.begin 0).camS 3).tensor ≠ [] := by decide
  exact hwaits ((loseLink_tensor ..).symm.trans (hu' ▸ hgone))

end Sys2Proof.Machine
end

section
/-! SUPPORT. Chapter 09, the ISP cores: a unit stored, started, done and aborted. -/

namespace Sys2Proof.Machine

-- One theorem after the other, so that the threads keep within the memory limit.
set_option Elab.async false

/-! ### A frame dropped (R332, R349) -/

section Drop

variable (s : State) (c : Nat)

/-- What is noted as gone of a pair leaves the frames as they are. -/
theorem pairGone_frames (trig : Int) : ((s.pairGone c trig).camS c).frames = (s.camS c).frames := by
  unfold State.pairGone
  split
  · rfl
  · rw [camS_setCam_same]

/-- The newest instant stays among the last 32. -/
theorem mem_pairGone {s : State} {c : Nat} (h : s.rd (R.CAM_CFG_PAIR c) ≠ 0) (trig : Int) :
    trig ∈ ((s.pairGone c trig).camS c).gone := by
  unfold State.pairGone
  dsimp only
  rw [if_neg h, camS_setCam_same, List.drop_append_of_le_length (Nat.sub_le _ _)]
  exact List.mem_append_right _ (List.mem_singleton_self _)

/-- The camera's one frame is dropped: none is left. -/
theorem dropFrame_frames {s : State} {c : Nat} {f : CamFrame} (h : (s.camS c).frames = [f]) :
    ((s.dropFrame c f).camS c).frames = [] := by
  unfold State.dropFrame
  rw [pairGone_frames, camS_setCam_same, h]
  simp

theorem dropFrame_regs (l : List Nat) (f : CamFrame) : RegsExact l s (s.dropFrame c f) :=
  .of_reg ((State.dropFrame_follows s c f).frame .reg (by decide))

theorem pairGone_coreS (trig : Int) (k : Nat) : (s.pairGone c trig).coreS k = s.coreS k := by
  unfold State.pairGone
  split
  · rfl
  · rfl

theorem dropFrame_coreS (f : CamFrame) (k : Nat) : (s.dropFrame c f).coreS k = s.coreS k := pairGone_coreS _ _ _ _

end Drop

/-! ### A unit stored (R332, R334) -/

/-- A frame with one unit more stored. -/
def CamFrame.stored (f : CamFrame) (now : Nat) : CamFrame :=
  { f with ready := f.ready + 1, readyAt := f.readyAt ++ [now] }

section Stored

variable {s : State} {c : Nat} {f : CamFrame}

/-- Lines without an error, each of them there and of the right length, and as many as GEOM says. -/
theorem frameFault_none {hi : Nat} (hbad : f.bad.filter (fun (n : Nat) => n < hi) = []) (hlines : hi ≤ f.raw.length)
    (hwidth : (f.raw.take hi).all (fun (row : List Nat) => row.length = s.rd (R.CAM_GEOM_WIDTH c)) = true)
    (hheight : f.ready + 1 ≠ f.total ∨ f.raw.length = s.rd (R.CAM_GEOM_HEIGHT c)) : s.frameFault c f hi = none := by
  have hrow : ¬(f.raw.take hi).any (fun row => row.length ≠ s.rd (R.CAM_GEOM_WIDTH c)) = true := by
    simpa using hwidth
  unfold State.frameFault
  dsimp only
  rw [hbad, if_neg (not_not_intro List.length_nil), if_neg]
  rintro (hshort | hrow' | ⟨hlast, htall⟩)
  · omega
  · exact hrow hrow'
  · exact hheight.elim (· hlast) htall

/-- A line in error is counted and logged, and drops the frame. -/
theorem frameFault_error {hi n : Nat} (hn : n = (f.bad.filter (fun (k : Nat) => k < hi)).length) (hne : n ≠ 0) :
    s.frameFault c f hi = some (((s.bump (R.CAM_CNT_CRC c) 255).camLog 0x6003 c
      [(c : Int), ((f.fno % 2 ^ 32 : Nat) : Int), (n : Int)]).dropFrame c f) := by
  subst hn
  exact if_pos hne

variable (hnext : (s.camS c).frames.find? (fun (x : CamFrame) => x.ready < x.total) = some f)
  (hdue : f.startAt + (s.unitLines c f.ready).2.2.2 * s.rd (R.CAM_SENS_LINE_NS c) ≤ s.now)
include hnext hdue

theorem unitStored_fault {u : State} (hfault : s.frameFault c f (s.unitLines c f.ready).2.2.2 = some u) :
    s.unitStored c = u := by
  unfold State.unitStored
  simp only [hnext, if_neg (Nat.not_lt.mpr hdue), hfault]

/-- A unit whose lines are in order is stored; a missing camera's state changes only with its last one. -/
theorem unitStored_ready (hfine : s.frameFault c f (s.unitLines c f.ready).2.2.2 = none)
    (hstate : s.rd (R.CAM_STAT_STATE c) ≠ 4 ∨ f.ready + 1 ≠ f.total) :
    s.unitStored c = s.setCam c { s.camS c with
      frames := (s.camS c).frames.map (fun x => if x.fno = f.fno then f.stored s.now else x) } := by
  unfold State.unitStored
  simp only [hnext, if_neg (Nat.not_lt.mpr hdue), hfine]
  exact if_neg fun ⟨hlast, hmissing⟩ => hstate.elim (· hmissing) (· hlast)

end Stored

/-! ### The arbiter's decision (R342) -/

section Decide

variable {s : State} {k c : Nat}

/-- A core at work takes nothing. -/
theorem decideCore_busy (h : (s.coreS k).cur.isSome = true) : s.decideCore k = s := by
  unfold State.decideCore
  exact if_pos (by rw [h, Bool.true_or])

theorem readyFrame_of_noFrames (h : (s.camS c).frames = []) : s.readyFrame c = none := by
  unfold State.readyFrame
  simp only [h]

/-- A frame all of whose stored units are done asks for nothing. -/
theorem readyFrame_of_done {f : CamFrame} {rest : List CamFrame} (h : (s.camS c).frames = f :: rest)
    (hdone : f.ready ≤ f.done) : s.readyFrame c = none := by
  unfold State.readyFrame
  simp only [h, decide_eq_false (Nat.not_lt.mpr hdone), Bool.and_false]
  rfl

/-- With no core at work on the camera its frame in front asks for its next unit. -/
theorem readyFrame_of_ready {f : CamFrame} {rest : List CamFrame} (h : (s.camS c).frames = f :: rest)
    (hready : f.done < f.ready) (hfree : ∀ k ∈ [0, 1], ∀ x, (s.coreS k).cur = some x → x.1 ≠ c) :
    s.readyFrame c = some f := by
  unfold State.readyFrame
  simp only [h]
  rw [if_pos]
  rw [Bool.and_eq_true, Bool.not_eq_true', List.any_eq_false]
  refine ⟨fun k hk => ?_, decide_eq_true hready⟩
  split
  · next x hx => simpa using hfree k hk x hx
  · exact Bool.false_ne_true

theorem readyFrame_congr {u : State} (hcam : u.cams.cam = s.cams.cam) (hcore : u.cams.core = s.cams.core) (c : Nat) :
    u.readyFrame c = s.readyFrame c := by
  simp only [State.readyFrame, camS_of_cam hcam, coreS_of_core hcore]

/-- No camera but this one has a frame. -/
def OnlyCam (c : Nat) (s : State) : Prop := ∀ d, d ≠ c → (s.camS d).frames = []

namespace OnlyCam

theorem of_single {v : CamS} (h : s.cams.cam = [(c, v)]) : OnlyCam c s := fun d hd => by
  simp only [State.camS, h, look, if_neg (Ne.symm hd)]
  rfl

theorem of_cam {u : State} (hs : OnlyCam c s) (h : u.cams.cam = s.cams.cam) : OnlyCam c u := fun d hd => by
  rw [camS_of_cam h]
  exact hs d hd

theorem setCam (hs : OnlyCam c s) (v : CamS) : OnlyCam c (s.setCam c v) := fun d hd => by
  rw [camS_setCam_ne _ _ (Ne.symm hd)]
  exact hs d hd

theorem pairGone (hs : OnlyCam c s) (trig : Int) : OnlyCam c (s.pairGone c trig) := by
  unfold State.pairGone
  split
  · exact hs
  · exact setCam hs _

theorem dropFrame (hs : OnlyCam c s) (f : CamFrame) : OnlyCam c (s.dropFrame c f) := pairGone (setCam hs _) _

/-- The cameras that ask: this one, or none. -/
theorem asking (hs : OnlyCam c s) (hlow : 1 ≤ c) (hhigh : c ≤ 16) :
    ∀ q, q ∈ (List.range 16).filter (fun q => (s.readyFrame (q + 1)).isSome) ↔ q = c - 1 ∧ (s.readyFrame c).isSome := by
  intro q
  rw [List.mem_filter, List.mem_range]
  by_cases hq : q + 1 = c
  · subst hq
    exact ⟨fun h => ⟨rfl, h.2⟩, fun h => ⟨by omega, h.2⟩⟩
  · rw [readyFrame_of_noFrames (hs _ hq)]
    simp only [Option.isSome_none, Bool.false_eq_true, and_false, false_iff, not_and]
    omega

/-- A core stays idle while no unit is ready. -/
theorem decideCore_idle (hs : OnlyCam c s) (hlow : 1 ≤ c) (hhigh : c ≤ 16) (hnone : s.readyFrame c = none) (k : Nat) :
    s.decideCore k = s := by
  have hempty : (List.range 16).filter (fun q => (s.readyFrame (q + 1)).isSome) = [] :=
    List.eq_nil_iff_forall_not_mem.mpr fun q hq => by simpa [hnone] using ((hs.asking hlow hhigh q).mp hq).2
  unfold State.decideCore
  exact if_pos (by rw [hempty, List.isEmpty_nil, Bool.or_true])

end OnlyCam

/-- The arbiter has granted a camera, forced or not. -/
def State.granted (s : State) (c : Nat) (arb : ArbS) (forced : Bool) : State :=
  let v := { s with cams := { s.cams with arb } }
  if forced then v.bump (R.ISP_ASTAT_FORCED c) 0xFFFF else v

section Granted

variable (s : State) (c : Nat) (arb : ArbS) (forced : Bool)

theorem granted_cam : (s.granted c arb forced).cams.cam = s.cams.cam := by
  unfold State.granted
  split <;> rfl

theorem granted_core : (s.granted c arb forced).cams.core = s.cams.core := by
  unfold State.granted
  split <;> rfl

theorem granted_now : (s.granted c arb forced).now = s.now := by
  unfold State.granted
  split <;> rfl

theorem granted_rd {c k : Nat} (h : R.ISP_ASTAT_FORCED c ≠ k) : (s.granted c arb forced).rd k = s.rd k := by
  unfold State.granted
  split
  · exact rd_wr_ne _ _ h
  · rfl

end Granted

/-- The one camera that asks wins, and the core starts its unit. -/
theorem OnlyCam.decideCore_starts (hs : OnlyCam c s) (hlow : 1 ≤ c) (hhigh : c ≤ 16) {f : CamFrame}
    (hidle : (s.coreS k).cur = none) (hready : s.readyFrame c = some f) :
    ∃ arb forced, s.decideCore k = (s.granted c arb forced).startUnitOn k c f := by
  obtain ⟨asking, hasking⟩ : ∃ l, l = (List.range 16).filter (fun q => (s.readyFrame (q + 1)).isSome) := ⟨_, rfl⟩
  have hmem : ∀ q, q ∈ asking ↔ q = c - 1 := fun q => by
    rw [hasking, hs.asking hlow hhigh, hready]
    simp
  have hne : asking ≠ [] := List.ne_nil_of_mem ((hmem _).mpr rfl)
  obtain ⟨w, hw, forced, hwin, -⟩ := ArbS.winner_spec (ArbS.present { s.cams.arb with parked := (s.coreS k).last }
    (fun q => s.rd (R.ISP_ARB_WAITLIM (q + 1))) asking) (fun q => s.rd (R.ISP_ARB_WAITLIM (q + 1)))
    (fun q => s.rd (R.ISP_ARB_PRIO (q + 1))) hne
  obtain ⟨arb, harb⟩ : ∃ arb, arb = ArbS.grant (ArbS.present { s.cams.arb with parked := (s.coreS k).last }
    (fun q => s.rd (R.ISP_ARB_WAITLIM (q + 1))) asking) (some w) := ⟨_, rfl⟩
  have hcam : w + 1 = c := by
    have := (hmem w).mp hw
    omega
  refine ⟨arb, forced, ?_⟩
  have hgranted : (s.granted c arb forced).readyFrame c = some f := by
    rw [readyFrame_congr (granted_cam ..) (granted_core ..), hready]
  have hgo : ((s.coreS k).cur.isSome || asking.isEmpty) = false := by
    rw [hidle, Option.isSome_none, Bool.false_or, List.isEmpty_eq_false_iff]
    exact hne
  unfold State.decideCore
  simp only [← hasking, hgo, Bool.false_eq_true, if_false, hwin, Option.map_some, ← harb, hcam]
  show (match (s.granted c arb forced).readyFrame c with
    | some f => (s.granted c arb forced).startUnitOn k c f
    | none => s.granted c arb forced) = _
  rw [hgranted]

end Decide

/-! ### A unit started (R335, R337) -/

section Start

variable {s : State} {k c : Nat}

/-- A frame whose first unit starts, with the crops of that instant. -/
def CamFrame.begun (f : CamFrame) (crops : List (List Nat)) : CamFrame :=
  { f with readyAt := f.readyAt.drop 1, crops }

theorem raise_cams (s : State) (k v : Nat) : (s.raise k v).cams = s.cams :=
  (State.raise_follows s k v).frame .cams (by decide)

/-- A started unit: the frame in front has begun, and the core is on it. -/
theorem startUnitOn_spec (s : State) (k c : Nat) (f : CamFrame) :
    ∃ (v : State) (x : CoreS), s.startUnitOn k c f = v.setCore k x ∧
    x.cur = some (c, f.fno) ∧ x.since = s.now ∧ x.last = some (c - 1) ∧ v.cams.core = s.cams.core ∧
    (f.done = 0 → (v.camS c).frames = f.begun (s.cropsFor c f.trig) :: (s.camS c).frames.drop 1) := by
  unfold State.startUnitOn
  extract_lets cam f' u v x same ns
  have hcams : v.cams = u.cams := raise_cams ..
  refine ⟨v, _, rfl, rfl, (State.raise_follows ..).frame .now (by decide), rfl,
    (congrArg CamerasS.core hcams).trans rfl, fun h => ?_⟩
  rw [camS_of_cams hcams]
  unfold u f'
  rw [camS_setCam_same, if_pos h, if_pos h]
  rfl

section

variable (s : State) (f : CamFrame)

/-- The core a started unit is on. -/
theorem startUnitOn_core : ((s.startUnitOn k c f).coreS k).cur = some (c, f.fno) ∧
    ((s.startUnitOn k c f).coreS k).since = s.now ∧ ((s.startUnitOn k c f).coreS k).last = some (c - 1) ∧
    (s.startUnitOn k c f).rd (R.ISP_C_STAT_CAM k) = c := by
  obtain ⟨v, x, hstart, hcur, hsince, hlast, -⟩ := startUnitOn_spec s k c f
  rw [hstart, setCore_coreS_same]
  exact ⟨hcur, hsince, hlast, setCore_shows _ _ hcur⟩

/-- The other core goes on. -/
theorem startUnitOn_other {j : Nat} (h : k ≠ j) : (s.startUnitOn k c f).coreS j = s.coreS j := by
  obtain ⟨v, x, hstart, -, -, -, hcore, -⟩ := startUnitOn_spec s k c f
  rw [hstart, setCore_coreS_ne _ _ h, coreS_of_core hcore]

/-- The frame in front has begun. -/
theorem startUnitOn_frames {f : CamFrame} (hfirst : f.done = 0) : ((s.startUnitOn k c f).camS c).frames =
    f.begun (s.cropsFor c f.trig) :: (s.camS c).frames.drop 1 := by
  obtain ⟨v, x, hstart, -, -, -, -, hframes⟩ := startUnitOn_spec s k c f
  rw [hstart, setCore_camS]
  exact hframes hfirst

end

/-- The crops of an instant follow from the crops kept and the registers. -/
theorem cropsFor_congr {u : State} (hcam : (u.camS c).cropLog = (s.camS c).cropLog)
    (hrd : ∀ j < 4, ∀ i < 4, u.rd (cropKey c j i) = s.rd (cropKey c j i)) (trig : Int) :
    u.cropsFor c trig = s.cropsFor c trig := by
  have hnow : u.cropsNow c = s.cropsNow c := by simp [State.cropsNow, hrd]
  simp only [State.cropsFor, hcam, hnow]

end Start

end Sys2Proof.Machine
end

section
/-! PROOF. O39, the ISP cores: units stored, units done and units aborted. -/

namespace Sys2Proof.Machine

-- One theorem after the other, so that the threads keep within the memory limit.
set_option Elab.async false

/-! ### UNIT_READY (R330, R332, R334, R342) -/

section UnitReady

variable {t c : Nat} {f : CamFrame} {s : State}

theorem exec_unitReady (t c : Nat) (s : State) :
    exec (.unitReady t [c]) s = .next ((((s.begin t).unitStored c).decideCore 0).decideCore 1) := rfl

/-- With both cores at work nothing is started. -/
theorem decideCores_busy {u : State} (h0 : (u.coreS 0).cur.isSome = true) (h1 : (u.coreS 1).cur.isSome = true) :
    (u.decideCore 0).decideCore 1 = u := by
  rw [decideCore_busy h0, decideCore_busy h1]

/-- The frame in front has a unit to come, and its lines stand. -/
structure UnitDue (t c : Nat) (f : CamFrame) (s : State) : Prop where
  coming : f.ready < f.total
  due : f.startAt + (s.unitLines c f.ready).2.2.2 * s.rd (R.CAM_SENS_LINE_NS c) ≤ max s.now t

/-- Its lines are as GEOM says, and none is in error. -/
structure LinesFine (c : Nat) (f : CamFrame) (s : State) : Prop where
  bad : f.bad.filter (fun (n : Nat) => n < (s.unitLines c f.ready).2.2.2) = []
  lines : (s.unitLines c f.ready).2.2.2 ≤ f.raw.length
  width : (f.raw.take (s.unitLines c f.ready).2.2.2).all
    (fun (row : List Nat) => row.length = s.rd (R.CAM_GEOM_WIDTH c)) = true
  height : f.ready + 1 ≠ f.total ∨ f.raw.length = s.rd (R.CAM_GEOM_HEIGHT c)

theorem UnitDue.next (h : UnitDue t c f s) {rest : List CamFrame} (hframes : (s.camS c).frames = f :: rest) :
    ((s.begin t).camS c).frames.find? (fun (x : CamFrame) => x.ready < x.total) = some f := by
  rw [begin_camS, hframes]
  exact List.find?_cons_of_pos (decide_eq_true h.coming)

theorem UnitDue.stored (h : UnitDue t c f s) (hfine : LinesFine c f s) {rest : List CamFrame}
    (hframes : (s.camS c).frames = f :: rest) (hstate : s.rd (R.CAM_STAT_STATE c) ≠ 4 ∨ f.ready + 1 ≠ f.total) :
    (s.begin t).unitStored c = (s.begin t).setCam c { s.camS c with
      frames := (f :: rest).map (fun x => if x.fno = f.fno then f.stored (max s.now t) else x) } := by
  rw [unitStored_ready (h.next hframes) h.due (frameFault_none hfine.bad hfine.lines hfine.width hfine.height) hstate,
    begin_camS, hframes]
  rfl

/-- A unit stored becomes ready; while both cores work it waits. -/
theorem unitReady_waits {rest : List CamFrame} (hdue : UnitDue t c f s) (hfine : LinesFine c f s)
    (hframes : (s.camS c).frames = f :: rest) (h0 : (s.coreS 0).cur.isSome = true)
    (h1 : (s.coreS 1).cur.isSome = true) (hstate : s.rd (R.CAM_STAT_STATE c) ≠ 4 ∨ f.ready + 1 ≠ f.total)
    (hothers : rest.all (fun x => x.fno ≠ f.fno) = true) :
    ∃ u, exec (.unitReady t [c]) s = .next u ∧
    (u.camS c).frames = { f with ready := f.ready + 1, readyAt := f.readyAt ++ [max s.now t] } :: rest ∧
    u.cams.core = s.cams.core ∧
    RegsExact [] s u := by
  have hexec := exec_unitReady t c s
  rw [hdue.stored hfine hframes hstate] at hexec
  rw [decideCores_busy (by simpa using h0) (by simpa using h1)] at hexec
  refine ⟨_, hexec, ?_, rfl, .of_reg rfl⟩
  have hrest : rest.map (fun x => if x.fno = f.fno then f.stored (max s.now t) else x) = rest := by
    refine (List.map_congr_left fun x hx => if_neg ?_).trans rest.map_id
    simpa using List.all_eq_true.mp hothers x hx
  rw [camS_setCam_same]
  simp only [List.map_cons, if_true, hrest]
  rfl

/-- A line in error drops the frame, counted and logged. -/
theorem unitReady_drops {n : Nat} (hdue : UnitDue t c f s) (hframes : (s.camS c).frames = [f])
    (h0 : (s.coreS 0).cur.isSome = true) (h1 : (s.coreS 1).cur.isSome = true)
    (hn : n = (f.bad.filter (fun (k : Nat) => k < (s.unitLines c f.ready).2.2.2)).length) (hne : n ≠ 0)
    (hmay : (s.begin t).mayLog 0x6003 c 1000000000 = true) (hroom : Room s) :
    ∃ u, exec (.unitReady t [c]) s = .next u ∧
    (u.camS c).frames = [] ∧
    u.rd (R.CAM_CNT_CRC c) = satInc 255 (s.rd (R.CAM_CNT_CRC c)) ∧
    Logged s u 0x6003 [(c : Int), ((f.fno % 2 ^ 32 : Nat) : Int), (n : Int)] ∧
    (s.rd (R.CAM_CFG_PAIR c) ≠ 0 → f.trig ∈ (u.camS c).gone) ∧
    RegsKept [R.CAM_CNT_CRC c] s u := by
  have hexec := exec_unitReady t c s
  rw [unitStored_fault (hdue.next hframes) hdue.due (frameFault_error hn hne)] at hexec
  obtain ⟨v, hv⟩ : ∃ v, v = ((s.begin t).bump (R.CAM_CNT_CRC c) 255).camLog 0x6003 c
    [(c : Int), ((f.fno % 2 ^ 32 : Nat) : Int), (n : Int)] := ⟨_, rfl⟩
  have hcams : v.cams = s.cams := hv ▸ camLog_cams ..
  have hcores : ∀ k, (v.dropFrame c f).coreS k = s.coreS k := fun k =>
    (dropFrame_coreS ..).trans (coreS_of_core (congrArg CamerasS.core hcams) k)
  have hkept : RegsKept [R.CAM_CNT_CRC c] s v := hv ▸ .camLog _ _ _ (.bump' _ _ (by simp) (begin_regsKept _ s t))
  have hrd : ∀ k, k ≠ R.MIRROR_STAT_DEPTH_MAX → v.rd k = ((s.begin t).bump (R.CAM_CNT_CRC c) 255).rd k := fun k hk => by
    rw [hv]
    exact camLog_regs_of_room (s := (s.begin t).bump (R.CAM_CNT_CRC c) 255) (hroom.begin_lt t) _ _ _ k (by simpa using hk)
  have hcount : v.rd (R.CAM_CNT_CRC c) = satInc 255 (s.rd (R.CAM_CNT_CRC c)) := by
    rw [hrd _ (by simp only [R.CAM_CNT_CRC, R.MIRROR_STAT_DEPTH_MAX]; omega), rd_bump, if_pos rfl]
    rfl
  have hpair : v.rd (R.CAM_CFG_PAIR c) = s.rd (R.CAM_CFG_PAIR c) := by
    rw [hrd _ (by simp only [R.CAM_CFG_PAIR, R.MIRROR_STAT_DEPTH_MAX]; omega), rd_bump, if_neg (by simp)]
    rfl
  rw [← hv, decideCores_busy (by rw [hcores, h0]) (by rw [hcores, h1])] at hexec
  refine ⟨_, hexec, dropFrame_frames (by rw [camS_of_cams hcams, hframes]), ?count, ?logged, fun hne => ?gone, ?regs⟩
  case count => rw [dropFrame_regs v c [] f _ (by simp), hcount]
  case logged =>
    refine Logged.of_mirror (t := v) ?_ ((State.dropFrame_follows v c f).frame .mirror (by decide))
    rw [hv]
    exact camLog_logged rfl rfl hmay hroom
  case gone => exact mem_pairGone (by rwa [setCam_rd, hpair]) _
  case regs => exact hkept.trans (.of_exact (dropFrame_regs v c _ f))

/-- A camera's first unit goes to the idle core, with the crops of that instant. -/
theorem unitReady_starts (hlow : 1 ≤ c) (hhigh : c ≤ 16) (hdue : UnitDue t c f s) (hfine : LinesFine c f s)
    (hframes : (s.camS c).frames = [f]) (hready : f.ready = 0) (hdone : f.done = 0) (htotal : 1 < f.total)
    (h0 : (s.coreS 0).cur = none) (hcam : s.cams.cam = [(c, s.camS c)])
    (h1 : (s.coreS 1).cur.map (fun x => decide (x.1 = c)) = some false) :
    ∃ u, exec (.unitReady t [c]) s = .next u ∧
    (u.coreS 0).cur = some (c, f.fno) ∧
    (u.coreS 0).since = max s.now t ∧
    (u.coreS 0).last = some (c - 1) ∧
    (u.coreS 1).cur = (s.coreS 1).cur ∧
    (u.camS c).frames.map (fun x => (x.fno, x.ready, x.done, x.crops)) = [(f.fno, 1, 0, s.cropsFor c f.trig)] ∧
    u.rd (R.ISP_C_STAT_CAM 0) = c := by
  obtain ⟨x, hx, hother⟩ := Option.map_eq_some_iff.mp h1
  have hfree : ∀ k ∈ [0, 1], ∀ y, (s.coreS k).cur = some y → y.1 ≠ c := by
    simp only [List.mem_cons, List.not_mem_nil, or_false, forall_eq_or_imp, forall_eq, h0, hx]
    exact ⟨nofun, fun y hy => Option.some.inj hy ▸ of_decide_eq_false hother⟩
  have hexec := exec_unitReady t c s
  rw [hdue.stored hfine hframes (.inr (by omega))] at hexec
  obtain ⟨v, hv⟩ : ∃ v, v = (s.begin t).setCam c { s.camS c with
    frames := [f].map (fun x => if x.fno = f.fno then f.stored (max s.now t) else x) } := ⟨_, rfl⟩
  rw [← hv] at hexec
  have hcores : ∀ k, v.coreS k = s.coreS k := fun k => hv ▸ setCam_coreS _ _ _ k
  have hvframes : (v.camS c).frames = [f.stored (max s.now t)] := by
    rw [hv, camS_setCam_same]
    simp
  have hasks : v.readyFrame c = some (f.stored (max s.now t)) :=
    readyFrame_of_ready hvframes (show f.done < f.ready + 1 by omega) (by simpa only [hcores] using hfree)
  have honly : OnlyCam c v := hv ▸ ((OnlyCam.of_single hcam).of_cam rfl).setCam _
  obtain ⟨arb, forced, hstart⟩ := honly.decideCore_starts hlow hhigh (k := 0) (by rw [hcores, h0]) hasks
  obtain ⟨hcur, hsince, hlast, hshown⟩ :=
    startUnitOn_core (k := 0) (c := c) (v.granted c arb forced) (f.stored (max s.now t))
  have hbusy : (((v.granted c arb forced).startUnitOn 0 c (f.stored (max s.now t))).coreS 1).cur = (s.coreS 1).cur := by
    rw [startUnitOn_other _ _ Nat.zero_ne_one, coreS_of_core (granted_core ..), hcores]
  rw [hstart, decideCore_busy (k := 1) (by rw [hbusy, hx]; rfl)] at hexec
  refine ⟨_, hexec, hcur, ?since, hlast, hbusy, ?frames, hshown⟩
  case since =>
    rw [hsince, granted_now, hv]
    rfl
  case frames =>
    have hcrops : (v.granted c arb forced).cropsFor c f.trig = s.cropsFor c f.trig := by
      refine cropsFor_congr ?_ (fun j hj i hi => ?_) _
      · rw [camS_of_cam (granted_cam ..), hv, camS_setCam_same]
      · rw [granted_rd _ _ _ (by simp only [R.ISP_ASTAT_FORCED, cropKey, R.ISP_OUT_CROP_X0]; omega), hv]
        rfl
    rw [startUnitOn_frames (f := f.stored (max s.now t)) _ hdone, camS_of_cam (granted_cam ..), hvframes]
    simp only [List.map_cons, List.drop_succ_cons, List.drop_nil, List.map_nil]
    show [(f.fno, f.ready + 1, f.done, (v.granted c arb forced).cropsFor c f.trig)] = _
    rw [hcrops, hready, hdone]

end UnitReady

/-! ### A core gives up its unit -/

section Idle

variable (s : State) (k c : Nat)

@[simp] theorem idleCore_camS : (s.idleCore k).camS c = s.camS c := rfl

theorem idleCore_regs : RegsExact (coreRegs k) s (s.idleCore k) := setCore_regs _ _ _

/-- The core is free, and shows it. -/
theorem idleCore_idle : ((s.idleCore k).coreS k).cur = none ∧ (s.idleCore k).rd (R.ISP_C_STAT_CAM k) = 0 := by
  unfold State.idleCore
  dsimp only
  rw [setCore_coreS_same]
  exact ⟨rfl, setCore_shows_idle _ _ rfl⟩

/-- The registers below the cores' stay as they are. -/
theorem idleCore_rd {j : Nat} (h : j < 0x6180 * 256) : (s.idleCore k).rd j = s.rd j := by
  refine idleCore_regs s k j ?_
  simp only [coreRegs, R.ISP_C_STAT_LOAD, R.ISP_C_STAT_CAM, R.ISP_C_STAT_SWITCHES, List.mem_cons, List.not_mem_nil,
    or_false, not_or]
  omega

end Idle

/-! ### ISP_UNIT_DONE (R333 to R346) -/

section UnitDone

variable {t k c n : Nat} {f : CamFrame} {ae : Option (Nat × Nat)} {s : State}

/-- What a unit passes rests on its camera's registers, its parameters and its white balance. -/
theorem processUnit_congr {u : State} (hrd : ∀ sub < 256, u.rd ((0x6000 + c) * 256 + sub) = s.rd ((0x6000 + c) * 256 + sub))
    (hpar : u.cams.par = s.cams.par) (hcam : u.camS c = s.camS c) (f : CamFrame) :
    u.processUnit c f = s.processUnit c f := by
  have hlines : ∀ j, u.unitLines c j = s.unitLines c j := fun j => by
    simp only [State.unitLines, State.flag, R.CAM_CFG_STRIPE, R.CAM_CFG_STRIPE_LINES, R.CAM_GEOM_HEIGHT,
      hrd 4 (by decide), hrd 5 (by decide), hrd 16 (by decide)]
  have henv : ∀ j, u.ispEnv c f j = s.ispEnv c f j := fun j => by
    simp only [State.ispEnv, State.ispParOf, R.CAM_CFG_DEPTH, R.CAM_CFG_CFA, R.CAM_GEOM_WIDTH, R.CAM_GEOM_HEIGHT, hpar,
      hcam, hrd 8 (by decide), hrd 9 (by decide), hrd 15 (by decide), hrd 16 (by decide)]
  simp only [State.processUnit, hlines, henv]

/-- A camera's frame with one unit more done: kept while units are to come, else delivered. -/
def State.unitPassed (s : State) (c : Nat) (f : CamFrame) (ae : Option (Nat × Nat)) : State :=
  if f.done < f.total then s.setCam c { s.camS c with frames := [f] } else s.frameDone c f ae

/-- A unit due on a core, of the one frame of its camera. -/
structure UnitEnds (t k c n : Nat) (f : CamFrame) (s : State) : Prop where
  cur : (s.coreS k).cur = some (c, n)
  due : (s.coreS k).due ≤ max s.now t
  frames : (s.camS c).frames = [f]
  fno : f.fno = n

theorem find_fno (h : f.fno = n) : [f].find? (fun (x : CamFrame) => x.fno = n) = some f :=
  List.find?_cons_of_pos (decide_eq_true h)

theorem exec_ispUnitDone (h : UnitEnds t k c n f s) (hhigh : c ≤ 16) (ae : Option (Nat × Nat)) :
    exec (.ispUnitDone t k ae) s =
      .next ((((s.begin t).idleCore k).unitPassed c (s.processUnit c f) ae).decideCore k) := by
  have hcur : ((s.begin t).coreS k).cur = some (c, n) := h.cur
  have hdue : ¬(s.begin t).now < ((s.begin t).coreS k).due := Nat.not_lt.mpr h.due
  have hunit : ((s.begin t).idleCore k).processUnit c f = s.processUnit c f :=
    processUnit_congr (fun sub hsub => idleCore_rd _ _ (by omega)) rfl rfl f
  show execIspUnitDone t k ae s = _
  simp only [execIspUnitDone, hcur, if_neg hdue, idleCore_camS, begin_camS, h.frames, find_fno h.fno, hunit,
    List.map_cons, List.map_nil, if_pos h.fno]
  rfl

/-- A unit that is not its frame's last gives its core back. -/
theorem ispUnitDone_goesOn (hlow : 1 ≤ c) (hhigh : c ≤ 16) (h : UnitEnds t k c n f s) (hmore : f.done + 1 < f.total)
    (hready : f.ready = f.done + 1) (hcam : s.cams.cam = [(c, s.camS c)]) :
    ∃ u, exec (.ispUnitDone t k ae) s = .next u ∧
    (u.coreS k).cur = none ∧
    (u.camS c).frames = [s.processUnit c f] ∧
    (s.processUnit c f).done = f.done + 1 ∧
    u.rd (R.ISP_C_STAT_CAM k) = 0 ∧
    RegsExact (coreRegs k) s u := by
  have hexec := exec_ispUnitDone h hhigh ae
  obtain ⟨v, hv⟩ : ∃ v, v = ((s.begin t).idleCore k).setCam c
    { ((s.begin t).idleCore k).camS c with frames := [s.processUnit c f] } := ⟨_, rfl⟩
  have hpassed : ((s.begin t).idleCore k).unitPassed c (s.processUnit c f) ae = v := hv ▸ if_pos hmore
  have hframes : (v.camS c).frames = [s.processUnit c f] := by rw [hv, camS_setCam_same]
  have honly : OnlyCam c v := hv ▸ ((OnlyCam.of_single hcam).of_cam rfl).setCam _
  rw [hpassed, honly.decideCore_idle hlow hhigh (readyFrame_of_done hframes hready.le)] at hexec
  obtain ⟨hidle, hshown⟩ := idleCore_idle (s.begin t) k
  refine ⟨_, hexec, ?_, hframes, rfl, ?_, ?_⟩
  · rw [hv]
    exact hidle
  · rw [hv]
    exact hshown
  · rw [hv]
    exact idleCore_regs (s.begin t) k

end UnitDone

/-! ### A frame's last unit (R336 to R338, R341) -/

section FrameDone

variable {s : State} {c : Nat} {f : CamFrame}

/-- The statistics use a free value and leave the zone averages; every register stays. -/
theorem publishStats_leaves (s : State) (c : Nat) (f : CamFrame) : ∃ zones,
    (s.publishStats c f).cams = (s.setCam c { s.camS c with zones }).cams ∧ (s.publishStats c f).free = s.free + 1 ∧
    (s.publishStats c f).reg = s.reg ∧ (s.publishStats c f).now = s.now :=
  ⟨_, rfl, rfl, rfl, rfl⟩

/-- The stream of a processed frame as its registers have it made (R336). -/
def State.streamOf (s : State) (c : Nat) (f : CamFrame) (k : Nat) : List Nat :=
  streamBytes f.pic (s.rd (R.ISP_OUT_FMT c k)) (s.rd (R.ISP_OUT_SCALE c k)) (f.crops.getD k [])

/-- The TENSOR stream of a frame whose stream 0 goes to the network. -/
def State.tensorMade (s : State) (c : Nat) (f : CamFrame) : TensorS :=
  { trig := f.trig, stamp := f.stamp, fno := f.fno, at_ := s.now, pic := s.streamOf c f 0 }

/-- The SNAPSHOT stream of a frame's stream 1. -/
def State.snapshotMade (s : State) (c : Nat) (f : CamFrame) : Int × Nat × List Nat × List Nat :=
  (f.stamp, f.fno % 2 ^ 32, f.crops.getD 1 [], s.streamOf c f 1)

/-- With stream 0 to the network, stream 1 to sessions and the others unused, both are made. -/
theorem deliver_made (h0 : s.rd (R.ISP_OUT_DEST c 0) = 1) (h1 : s.rd (R.ISP_OUT_DEST c 1) = 2)
    (h2 : s.rd (R.ISP_OUT_DEST c 2) = 0) (h3 : s.rd (R.ISP_OUT_DEST c 3) = 0) (hquiet : f.quiet = false) :
    s.deliver c f = s.setCam c { s.camS c with
      tensor := (s.camS c).tensor ++ [s.tensorMade c f], snap := ins (s.camS c).snap 1 (s.snapshotMade c f) } := by
  unfold State.deliver
  simp only [List.foldl_cons, List.foldl_nil, setCam_rd, h0, h1, h2, h3, hquiet, Nat.reduceLeDiff, decide_false,
    Bool.false_and, Bool.false_eq_true, if_false, ite_self, camS_setCam_same, setCam_setCam]
  rfl

/-- A camera with a TENSOR stream, a SNAPSHOT stream and a proposed setting more. -/
def CamS.provided (v : CamS) (x : TensorS) (y : Int × Nat × List Nat × List Nat) (p : Nat × Nat) : CamS :=
  { v with tensor := v.tensor ++ [x], snap := ins v.snap 1 y, prop := some p }

/-- Automatic exposure then proposes within EXP_MAX (R338). -/
theorem deliver_propose_made {e g : Nat} (h0 : s.rd (R.ISP_OUT_DEST c 0) = 1) (h1 : s.rd (R.ISP_OUT_DEST c 1) = 2)
    (h2 : s.rd (R.ISP_OUT_DEST c 2) = 0) (h3 : s.rd (R.ISP_OUT_DEST c 3) = 0) (hquiet : f.quiet = false)
    (hae : s.rd (R.CAM_CFG_AE c) = 1) (hroom : (s.camS c).flight.length < 4) :
    (s.deliver c f).propose c (some (e, g)) = s.setCam c ((s.camS c).provided (s.tensorMade c f) (s.snapshotMade c f)
      (min e (s.rd (R.CAM_EXP_EXP_MAX c)), g)) := by
  rw [deliver_made h0 h1 h2 h3 hquiet]
  unfold State.propose
  simp only [setCam_rd, camS_setCam_same, setCam_setCam]
  exact if_pos ⟨hae, hroom⟩

/-- RATE is worked out again. -/
theorem showRate_leaves (s : State) (c : Nat) : ∃ processed,
    (s.showRate c).cams = (s.setCam c { s.camS c with processed }).cams ∧ RegsExact [R.CAM_STAT_RATE c] s (s.showRate c) :=
  ⟨_, rfl, .wr _ _ (by simp) (.of_reg rfl)⟩

/-- A frame's last unit leaves its camera with the buffer free, the TENSOR and SNAPSHOT streams and the setting proposed;
its statistics take one free value. -/
theorem frameDone_made {e g : Nat} (h0 : s.rd (R.ISP_OUT_DEST c 0) = 1) (h1 : s.rd (R.ISP_OUT_DEST c 1) = 2)
    (h2 : s.rd (R.ISP_OUT_DEST c 2) = 0) (h3 : s.rd (R.ISP_OUT_DEST c 3) = 0) (hquiet : f.quiet = false)
    (hae : s.rd (R.CAM_CFG_AE c) = 1) (hroom : (s.camS c).flight.length < 4) :
    ∃ zones processed, (s.frameDone c f (some (e, g))).cams = (s.setCam c { (s.camS c).provided (s.tensorMade c f)
        (s.snapshotMade c f) (min e (s.rd (R.CAM_EXP_EXP_MAX c)), g) with
          frames := (s.camS c).frames.filter (fun (x : CamFrame) => x.fno ≠ f.fno), zones, processed }).cams ∧
      (s.frameDone c f (some (e, g))).free = s.free + 1 ∧
      RegsExact [R.CAM_STAT_RATE c] s (s.frameDone c f (some (e, g))) := by
  unfold State.frameDone
  extract_lets cam v
  obtain ⟨zones, hpub, hfree, hreg, hnow⟩ := publishStats_leaves v c f
  generalize v.publishStats c f = w at hpub hfree hreg hnow ⊢
  have hrd : ∀ k, w.rd k = s.rd k := rd_of_reg hreg
  have hcam : w.camS c = { v.camS c with zones } := (camS_of_cams hpub c).trans (camS_setCam_same ..)
  have hvcam : v.camS c = { cam with
      frames := cam.frames.filter (fun (x : CamFrame) => x.fno ≠ f.fno), processed := cam.processed ++ [s.now] } :=
    camS_setCam_same ..
  have hvnow : v.now = s.now := rfl
  have hmade : w.tensorMade c f = s.tensorMade c f ∧ w.snapshotMade c f = s.snapshotMade c f := by
    simp only [State.tensorMade, State.snapshotMade, State.streamOf, hrd, hnow, hvnow, and_self]
  rw [deliver_propose_made (by rw [hrd, h0]) (by rw [hrd, h1]) (by rw [hrd, h2]) (by rw [hrd, h3]) hquiet
    (by rw [hrd, hae]) (by rw [hcam, hvcam]; exact hroom), hmade.1, hmade.2, hrd, hcam, hvcam]
  obtain ⟨processed, hrate, hregs⟩ := showRate_leaves (w.setCam c _) c
  refine ⟨zones, processed, hrate.trans ?_, hfree, .trans (.of_reg hreg) hregs⟩
  rw [setCam_setCam, camS_setCam_same]
  exact setCam_cams_congr s (hpub.trans (congrArg State.cams (setCam_setCam s c _ _))) _

end FrameDone

/-! ### A frame's last unit done, and a unit aborted (R345) -/

section FrameEnds

variable {t k c n : Nat} {f : CamFrame} {s : State}

/-- A frame's last unit gives back its core and its buffer, with the streams made and the setting proposed. -/
theorem ispUnitDone_delivers {e g : Nat} (hlow : 1 ≤ c) (hhigh : c ≤ 16) (h : UnitEnds t k c n f s)
    (hlast : f.done + 1 = f.total) (hquiet : f.quiet = false) (hcam : s.cams.cam = [(c, s.camS c)])
    (h0 : s.rd (R.ISP_OUT_DEST c 0) = 1) (h1 : s.rd (R.ISP_OUT_DEST c 1) = 2) (h2 : s.rd (R.ISP_OUT_DEST c 2) = 0)
    (h3 : s.rd (R.ISP_OUT_DEST c 3) = 0) (hae : s.rd (R.CAM_CFG_AE c) = 1) (hroom : (s.camS c).flight.length < 4) :
    ∃ u, exec (.ispUnitDone t k (some (e, g))) s = .next u ∧
    (u.coreS k).cur = none ∧
    (u.camS c).frames = [] ∧
    (u.camS c).tensor = (s.camS c).tensor ++ [(s.begin t).tensorMade c (s.processUnit c f)] ∧
    look (u.camS c).snap 1 = some (s.snapshotMade c (s.processUnit c f)) ∧
    (u.camS c).prop = some (min e (s.rd (R.CAM_EXP_EXP_MAX c)), g) ∧
    u.free = s.free + 1 ∧
    RegsExact (coreRegs k ++ [R.CAM_STAT_RATE c]) s u := by
  have hexec := exec_ispUnitDone h hhigh (some (e, g))
  obtain ⟨v, hv⟩ : ∃ v, v = (s.begin t).idleCore k := ⟨_, rfl⟩
  have hrd : ∀ j, j < 0x6180 * 256 → v.rd j = s.rd j := fun j hj => hv ▸ idleCore_rd (s.begin t) k hj
  have hae' : v.rd (R.CAM_CFG_AE c) = s.rd (R.CAM_CFG_AE c) := hrd _ (by simp only [R.CAM_CFG_AE]; omega)
  have hmax : v.rd (R.CAM_EXP_EXP_MAX c) = s.rd (R.CAM_EXP_EXP_MAX c) := hrd _ (by simp only [R.CAM_EXP_EXP_MAX]; omega)
  have hdest : ∀ j < 4, v.rd (R.ISP_OUT_DEST c j) = s.rd (R.ISP_OUT_DEST c j) := fun j hj =>
    hrd _ (by simp only [R.ISP_OUT_DEST]; omega)
  have hvcam : v.camS c = s.camS c := hv ▸ idleCore_camS ..
  have hpassed : v.unitPassed c (s.processUnit c f) (some (e, g)) = v.frameDone c (s.processUnit c f) (some (e, g)) :=
    if_neg (show ¬f.done + 1 < f.total by omega)
  obtain ⟨zones, processed, hcams, hfree, hregs⟩ := frameDone_made (s := v) (c := c) (f := s.processUnit c f) (e := e)
    (g := g) (by rw [hdest 0 (by decide), h0]) (by rw [hdest 1 (by decide), h1]) (by rw [hdest 2 (by decide), h2])
    (by rw [hdest 3 (by decide), h3]) hquiet (hae'.trans hae) (by rwa [hvcam])
  rw [← hv, hpassed] at hexec
  generalize v.frameDone c (s.processUnit c f) (some (e, g)) = u at hexec hcams hfree hregs
  have hu := (camS_of_cams hcams c).trans (camS_setCam_same ..)
  have hframes : (u.camS c).frames = [] := by
    rw [hu, hvcam, h.frames]
    exact List.filter_eq_nil_iff.mpr fun x hx => by
      rw [List.mem_singleton.mp hx]
      exact fun h => of_decide_eq_true h rfl
  have honly : OnlyCam c u := (((OnlyCam.of_single hcam).of_cam (u := v) (hv ▸ rfl)).setCam _).of_cam
    (congrArg CamerasS.cam hcams)
  rw [honly.decideCore_idle hlow hhigh (readyFrame_of_noFrames hframes)] at hexec
  have hcore : u.coreS k = v.coreS k := coreS_of_core (congrArg CamerasS.core hcams) k
  have hstream : ∀ j < 2, v.streamOf c (s.processUnit c f) j = s.streamOf c (s.processUnit c f) j := fun j hj => by
    simp only [State.streamOf]
    rw [hrd (R.ISP_OUT_FMT c j) (by simp only [R.ISP_OUT_FMT]; omega),
      hrd (R.ISP_OUT_SCALE c j) (by simp only [R.ISP_OUT_SCALE]; omega)]
  refine ⟨u, hexec, ?core, hframes, ?tensor, ?snap, ?prop, ?free, ?regs⟩
  case core =>
    rw [hcore, hv]
    exact (idleCore_idle (s.begin t) k).1
  case tensor =>
    have hnow : v.now = (s.begin t).now := hv ▸ rfl
    rw [hu, hvcam]
    simp only [CamS.provided, State.tensorMade, hstream 0 (by decide), hnow]
    rfl
  case snap =>
    rw [hu]
    simp only [CamS.provided, State.snapshotMade, hstream 1 (by decide)]
    exact look_ins_same ..
  case prop =>
    rw [hu, ← hmax]
    rfl
  case free =>
    rw [hfree, hv]
    rfl
  case regs =>
    intro j hj
    rw [List.mem_append, not_or] at hj
    rw [hregs j hj.2, hv]
    exact idleCore_regs (s.begin t) k j hj.1

theorem exec_ispAbort (hcur : (s.coreS k).cur = some (c, n)) (hframes : (s.camS c).frames = [f]) (hfno : f.fno = n)
    (t : Nat) : exec (.ispAbort t k) s = .next (((((s.begin t).idleCore k).camLog 0x6010 c
      [(k : Int), (c : Int), ((n % 2 ^ 32 : Nat) : Int)]).dropFrame c f).decideCore k) := by
  show execIspAbort t k s = _
  simp only [execIspAbort, begin_coreS, hcur, camLog_camS, idleCore_camS, begin_camS, hframes, find_fno hfno]

/-- An abort drops the frame of the unit in progress and frees the core. -/
theorem ispAbort_drops (hlow : 1 ≤ c) (hhigh : c ≤ 16) (hcur : (s.coreS k).cur = some (c, n))
    (hframes : (s.camS c).frames = [f]) (hfno : f.fno = n) (hcam : s.cams.cam = [(c, s.camS c)])
    (hmay : (s.begin t).mayLog 0x6010 c 1000000000 = true) (hroom : Room s) :
    ∃ u, exec (.ispAbort t k) s = .next u ∧
    (u.coreS k).cur = none ∧
    (u.camS c).frames = [] ∧
    Logged s u 0x6010 [(k : Int), (c : Int), ((n % 2 ^ 32 : Nat) : Int)] ∧
    RegsKept (coreRegs k) s u := by
  have hexec := exec_ispAbort hcur hframes hfno t
  obtain ⟨v, hv⟩ : ∃ v, v = ((s.begin t).idleCore k).camLog 0x6010 c
    [(k : Int), (c : Int), ((n % 2 ^ 32 : Nat) : Int)] := ⟨_, rfl⟩
  have hcams : v.cams = ((s.begin t).idleCore k).cams := hv ▸ camLog_cams ..
  have hdropped : ((v.dropFrame c f).camS c).frames = [] :=
    dropFrame_frames (by rw [camS_of_cams hcams, idleCore_camS, begin_camS, hframes])
  have honly : OnlyCam c (v.dropFrame c f) :=
    ((OnlyCam.of_single hcam).of_cam ((congrArg CamerasS.cam hcams).trans rfl)).dropFrame f
  rw [← hv, honly.decideCore_idle hlow hhigh (readyFrame_of_noFrames hdropped)] at hexec
  refine ⟨_, hexec, ?core, hdropped, ?logged, ?regs⟩
  case core =>
    rw [dropFrame_coreS, coreS_of_core (congrArg CamerasS.core hcams)]
    exact (idleCore_idle (s.begin t) k).1
  case logged =>
    refine Logged.of_mirror (t := v) ?_ ((State.dropFrame_follows v c f).frame .mirror (by decide))
    rw [hv]
    exact camLog_logged rfl rfl hmay hroom
  case regs =>
    have hkept : RegsKept (coreRegs k) s v :=
      hv ▸ .camLog _ _ _ ((begin_regsKept _ s t).trans (.of_exact (idleCore_regs (s.begin t) k)))
    exact hkept.trans (.of_exact (dropFrame_regs v c _ f))

end FrameEnds

end Sys2Proof.Machine
end

section
/-! PROOF. O39, the settings, the vision networks and the live writes. -/

namespace Sys2Proof.Machine

-- One theorem after the other, so that the threads keep within the memory limit.
set_option Elab.async false

/-! ### SETTING_WRITE (R339, R341) -/

section Setting

variable {t c e g : Nat} {s : State}

/-- A proposed setting written in its window is in flight, and the sensor has it. -/
theorem settingWrite_written (hprop : (s.camS c).prop = some (e, g)) (hlocked : (s.camS c).locked = true)
    (hwindow : max s.now t ≤ (s.camS c).startAt + s.rd (R.CAM_SENS_WIN_US c) * 1000) :
    ∃ u, exec (.settingWrite t c true) s = .next u ∧
    (u.camS c).flight = (s.camS c).flight ++ [((s.camS c).last, e, g)] ∧
    (u.camS c).prop = none ∧
    Sent u (.camera c) 0x11 [(e : Int), (g : Int)] ∧
    RegsExact [] s u := by
  have hgo : (true && (s.camS c).locked && decide ((s.begin t).now ≤ (s.camS c).startAt +
      (s.begin t).rd (R.CAM_SENS_WIN_US c) * 1000)) = true := by
    rw [hlocked, Bool.and_self, Bool.true_and]
    exact decide_eq_true hwindow
  have hexec : exec (.settingWrite t c true) s = .next (((s.begin t).setCam c { s.camS c with
      flight := (s.camS c).flight ++ [((s.camS c).last, e, g)], prop := none }).answer (.camera c) 0x11
        [(e : Int), (g : Int)]) := by
    show execSettingWrite t c true s = _
    simp only [execSettingWrite, begin_camS, hprop]
    exact congrArg _ (if_pos hgo)
  have hcam := camS_setCam_same (s.begin t) c { s.camS c with
      flight := (s.camS c).flight ++ [((s.camS c).last, e, g)], prop := none }
  exact ⟨_, hexec, congrArg CamS.flight hcam, congrArg CamS.prop hcam, answer_sent .., .of_reg rfl⟩

/-- One not written is left for the next frame's window. -/
theorem settingWrite_abandoned (t c : Nat) (s : State) :
    ∃ u, exec (.settingWrite t c false) s = .next u ∧ u.cams = s.cams ∧ RegsExact [] s u := by
  have hexec : exec (.settingWrite t c false) s = .next (s.begin t) := by
    show execSettingWrite t c false s = _
    unfold execSettingWrite
    dsimp only
    split
    · rfl
    · rfl
  exact ⟨_, hexec, rfl, .of_reg rfl⟩

end Setting

/-! ### The vision networks (R347 to R349) -/

section Vision

variable {t c d : Nat} {x : TensorS} {s : State}

/-- What is given back of an instant. -/
theorem releaseTensor_camS_same (s : State) (c : Nat) (trig : Int) : (s.releaseTensor c trig).camS c = { s.camS c with
    tensor := (s.camS c).tensor.filter (fun y => y.trig ≠ trig), gone := (s.camS c).gone.filter (· ≠ trig) } :=
  camS_setCam_same ..

theorem releaseTensor_camS_ne (s : State) {c d : Nat} (trig : Int) (h : c ≠ d) :
    (s.releaseTensor c trig).camS d = s.camS d := camS_setCam_ne _ _ h

/-- A camera alone gives back its own input. -/
theorem endRun_unpaired (h : s.rd (R.CAM_CFG_PAIR c) = 0) (x : TensorS) : s.endRun c x = s.releaseTensor c x.trig :=
  if_pos h

/-- The state in which a network's record is kept. -/
def State.visionKept (s : State) (c : Nat) (x : TensorS) (values : List Nat) : State :=
  { s with cams := { s.cams with
      vis := ins s.cams.vis (s.netOf c) { stamp := x.stamp, fno := x.fno % 2 ^ 32, cam := c, values } } }

/-- A vision record as it is sent (Table 9.8). -/
def State.visionRecord (s : State) (c : Nat) (x : TensorS) (values : List Nat) : List Int :=
  [x.stamp, ((x.fno % 2 ^ 32 : Nat) : Int), (c : Int), (s.netOf c : Int), (values.length : Int)] ++ values.map Int.ofNat

/-- A record published is kept, moves no register, and a worker sends it to its manager. -/
theorem publishVision_spec (s : State) (c : Nat) (x : TensorS) (values : List Nat) :
    (s.publishVision c x values).cams = (s.visionKept c x values).cams ∧
    (s.publishVision c x values).reg = s.reg ∧
    (s.isWorker = true → Sent (s.publishVision c x values) (.trunk 0) 0x47 (s.visionRecord c x values)) := by
  unfold State.publishVision
  extract_lets net r cams kept data published noted
  have hnoted : Frame [.ses, .ym] kept noted := by
    have hpublished : Frame [.ses, .ym] kept published := (State.publish_follows ..).frame.mono (by decide)
    unfold noted
    split
    · exact hpublished.trans ((State.noteStereo_follows ..).frame.mono (by decide))
    · exact hpublished
  have hworker : noted.isWorker = s.isWorker := by
    have hrole : noted.role = s.role := (hnoted .role (by decide)).trans rfl
    simp only [State.isWorker, hrole]
  have hcams : noted.cams = kept.cams := hnoted .cams (by decide)
  have hreg : noted.reg = s.reg := (hnoted .reg (by decide)).trans rfl
  rw [hworker]
  split
  · exact ⟨hcams, hreg, fun _ => answer_sent ..⟩
  · next hmanager => exact ⟨hcams, hreg, fun h => absurd h hmanager⟩

/-- A run in time publishes its record and gives back its input. -/
theorem visionRun_publishes {values : List Nat} (hnext : s.nextRun c = some (d, x)) (hd : d = c)
    (hpair : s.rd (R.CAM_CFG_PAIR c) = 0) (htime : (s.begin t).runLate c x (s.paced (netTime (s.netOf c))) = false) :
    ∃ u, exec (.visionRun t c values) s = .next u ∧
    look u.cams.vis (s.netOf c) = some { stamp := x.stamp, fno := x.fno % 2 ^ 32, cam := c, values } ∧
    (u.camS c).tensor = (s.camS c).tensor.filter (fun y => y.trig ≠ x.trig) ∧
    (s.isWorker = true → Sent u (.trunk 0) 0x47 (s.visionRecord c x values)) ∧
    RegsExact [] s u := by
  subst hd
  have hnext' : (s.begin t).nextRun d = some (d, x) := hnext
  have htime' : (s.begin t).runLate d x ((s.begin t).paced (netTime ((s.begin t).netOf d))) = false := htime
  have hexec : exec (.visionRun t d values) s =
      .next (((s.begin t).releaseTensor d x.trig).publishVision d x values) := by
    show execVisionRun t d values s = _
    simp only [execVisionRun, hnext', htime', Bool.false_eq_true, if_false]
    rw [endRun_unpaired (s := s.begin t) hpair]
  obtain ⟨hcams, hreg, hsent⟩ := publishVision_spec ((s.begin t).releaseTensor d x.trig) d x values
  refine ⟨_, hexec, ?_, ?_, hsent, .of_reg hreg⟩
  · rw [hcams]
    exact look_ins_same ..
  · rw [camS_of_cams hcams]
    exact congrArg CamS.tensor (releaseTensor_camS_same ..)

/-- A run too late to start is dropped, and logged. -/
theorem visDrop_drops (hnext : s.nextRun c = some (d, x)) (hd : d = c) (hpair : s.rd (R.CAM_CFG_PAIR c) = 0)
    (hlate : (s.begin t).runLate c x 0 = true) (hmay : (s.begin t).mayLog 0x6020 c 1000000000 = true) (hroom : Room s) :
    ∃ u, exec (.visDrop t c) s = .next u ∧
    (u.camS c).tensor = (s.camS c).tensor.filter (fun y => y.trig ≠ x.trig) ∧
    u.cams.vis = s.cams.vis ∧
    Logged s u 0x6020 [(c : Int), (s.netOf c : Int), x.stamp] ∧
    RegsKept [] s u := by
  subst hd
  have hnext' : (s.begin t).nextRun d = some (d, x) := hnext
  have hexec : exec (.visDrop t d) s = .next (((s.begin t).releaseTensor d x.trig).camLog 0x6020 d
      [(d : Int), (s.netOf d : Int), x.stamp]) := by
    show execVisDrop t d s = _
    simp only [execVisDrop, hnext', hlate, if_true, State.dropRun]
    rw [endRun_unpaired (s := s.begin t) hpair]
    rfl
  refine ⟨_, hexec, ?_, ?_, camLog_logged rfl rfl hmay hroom, .camLog _ _ _ (.of_reg rfl)⟩
  · rw [camLog_camS]
    exact congrArg CamS.tensor (releaseTensor_camS_same ..)
  · rw [camLog_cams]
    rfl

/-- The stamp of a pair's instant: its waiting frame's, or the trigger with the lower camera's latency (R349). -/
def State.pairStamp (s : State) (c p : Nat) (g : Int) : Int :=
  ((s.tensorOf p g).map (fun x => x.stamp)).getD (g + s.rd (R.CAM_TIME_TRIG_LAT (min c p)))

theorem exec_visPair {p : Nat} {g : Int} {rest : List Int} (hp : p = s.rd (R.CAM_CFG_PAIR c)) (hne : p ≠ 0)
    (hgone : (s.camS c).gone = g :: rest) (t : Nat) : exec (.visPair t c) s =
      .next ((((((s.begin t).releaseTensor c g).releaseTensor p g).bump (R.CAM_CNT_PAIRMISS c) 255).bump
        (R.CAM_CNT_PAIRMISS p) 255).camLog 0x6021 c [((min c p : Nat) : Int), s.pairStamp c p g, (c : Int)]) := by
  have hinstant : (s.begin t).pairInstant c = some g := by
    unfold State.pairInstant
    simp only [begin_camS, hgone]
  have htensor : (s.begin t).tensorOf p g = s.tensorOf p g := rfl
  show execVisPair t c s = _
  unfold State.pairStamp
  simp only [execVisPair, rd_begin, ← hp, if_neg hne, hinstant, htensor, Nat.cast_min]
  cases s.tensorOf p g with
  | none => rfl
  | some x => rfl

/-- The missing frame of an instant is counted for both cameras of the pair, and logged. -/
theorem visPair_counts {p : Nat} {g : Int} {rest : List Int} (hp : p = s.rd (R.CAM_CFG_PAIR c)) (hne : p ≠ 0)
    (hother : p ≠ c) (hgone : (s.camS c).gone = g :: rest)
    (hmay : (s.begin t).mayLog 0x6021 c 1000000000 = true) (hroom : Room s) :
    ∃ u, exec (.visPair t c) s = .next u ∧
    u.rd (R.CAM_CNT_PAIRMISS c) = satInc 255 (s.rd (R.CAM_CNT_PAIRMISS c)) ∧
    u.rd (R.CAM_CNT_PAIRMISS p) = satInc 255 (s.rd (R.CAM_CNT_PAIRMISS p)) ∧
    (u.camS c).gone = (s.camS c).gone.filter (· ≠ g) ∧
    (u.camS p).tensor = (s.camS p).tensor.filter (fun x => x.trig ≠ g) ∧
    Logged s u 0x6021 [((min c p : Nat) : Int), s.pairStamp c p g, (c : Int)] ∧
    RegsKept [R.CAM_CNT_PAIRMISS c, R.CAM_CNT_PAIRMISS p] s u := by
  have hkeys : R.CAM_CNT_PAIRMISS c ≠ R.CAM_CNT_PAIRMISS p := by
    simp only [R.CAM_CNT_PAIRMISS]
    omega
  have hstream : ∀ d, R.CAM_CNT_PAIRMISS d ∉ streamRegs := fun d hd => by
    have hfirst : ∀ k ∈ streamRegs, k % 256 < 8 := by decide
    have := hfirst _ hd
    simp only [R.CAM_CNT_PAIRMISS] at this
    omega
  refine ⟨_, exec_visPair hp hne hgone t, ?countC, ?countP, ?gone, ?tensor, camLog_logged rfl rfl hmay hroom, ?regs⟩
  case countC =>
    rw [camLog_rd _ _ _ _ (hstream c), rd_bump, if_neg hkeys.symm, rd_bump, if_pos rfl]
    rfl
  case countP =>
    rw [camLog_rd _ _ _ _ (hstream p), rd_bump, if_pos rfl, rd_bump, if_neg hkeys]
    rfl
  case gone =>
    rw [camLog_camS]
    refine (congrArg CamS.gone (releaseTensor_camS_ne _ g hother)).trans ?_
    exact congrArg CamS.gone (releaseTensor_camS_same ..)
  case tensor =>
    rw [camLog_camS]
    refine (congrArg CamS.tensor (releaseTensor_camS_same _ p g)).trans ?_
    rw [releaseTensor_camS_ne _ _ hother.symm]
    rfl
  case regs =>
    exact .camLog _ _ _ (.bump' _ _ (by simp) (.bump' _ _ (by simp) (.of_reg rfl)))

end Vision

/-! ### Live writes (R337, R342, R486) -/

section Live

variable {t n c o v : Nat} {s : State}

/-- An ISP register is no function's field and not ENTRIES of the amendment list. -/
theorem ispKey_plain {key : Nat} (hlow : 0x6101 * 256 ≤ key) (hhigh : key < 0x6180 * 256) :
    0x34FF < key / 256 ∧ key ≠ R.HMP_LIST_ENTRIES := by
  simp only [R.HMP_LIST_ENTRIES]
  omega

theorem liveApply_cams (s : State) (key v : Nat) : (s.liveApply key v).cams = s.cams :=
  (State.liveApply_follows s key v).frame .cams (by decide)

/-- A live write of an ISP register with room in the list, and its answer: the field shows it, its entry stands, and
nothing else moves. -/
theorem ispLive_applied {key : Nat} {u : State} (hlow : 0x6101 * 256 ≤ key) (hhigh : key < 0x6180 * 256) (hn : n ≠ 0)
    (hopen : u.ses.open_.any (fun p => p.2.num = n) = true) (hroom : u.amend.length < 256) :
    ((u.liveApply key v).reply n Res.OK).rd key = v ∧
    ({ unit := u.role.unit, kind := 1, key, value := v } : AmendS) ∈ ((u.liveApply key v).reply n Res.OK).amend ∧
    Sent ((u.liveApply key v).reply n Res.OK) (.session n) Res.OK [] ∧
    RegsExact [key, R.HMP_LIST_ENTRIES] u ((u.liveApply key v).reply n Res.OK) := by
  obtain ⟨hfn, hentries⟩ := ispKey_plain hlow hhigh
  have hreply := (State.reply_follows (u.liveApply key v) n Res.OK []).frame
  obtain ⟨hrd, hamend⟩ := liveApply_stands hroom hentries (hreply.mono (by decide))
  exact ⟨hrd, hamend, reply_sent _ _ _ _ hn (by rwa [liveApply_ses]),
    .reply' _ _ _ (liveApply_regs hroom (.inr hfn))⟩

/-- With no pair the crops so far are kept for the frames begun, and the field is written. -/
theorem cropWrite_applied {u : State} (hmay : u.mayLive n (cropKey c o 0) = true) (hserved : u.served = true)
    (hpair : u.rd (R.CAM_CFG_PAIR c) = 0) (hok : u.cropRefusal c o 0 v = 0) :
    u.cropWrite n c o 0 v = ((u.keepCrops c (u.lastStarted c 0)).liveApply (cropKey c o 0) v).reply n Res.OK := by
  simp [State.cropWrite, hmay, hserved, served_not_walkHome hserved, hpair, hok]

theorem cropWrite_refused {u : State} {f : Nat} (hmay : u.mayLive n (cropKey c o f) = true) (hserved : u.served = true)
    (hbad : u.cropRefusal c o f v ≠ 0) : u.cropWrite n c o f v =
      (u.camLog 0x6006 c [(c : Int), (o : Int), (u.cropRefusal c o f v : Int)]).reply n Res.VALUE := by
  simp [State.cropWrite, hmay, hserved, served_not_walkHome hserved, hbad]

/-- A crop write in its turn takes effect and enters the list. -/
theorem cropWrite_writes (hn : n ≠ 0) (hopen : s.ses.open_.any (fun p => p.2.num = n) = true)
    (hturn : s.turn n (.live (cropKey c o 0)) = true) (hmay : s.mayLive n (cropKey c o 0) = true) (hlow : 1 ≤ c)
    (hhigh : c ≤ 16) (hout : o < 4) (hserved : s.served = true) (hpair : s.rd (R.CAM_CFG_PAIR c) = 0)
    (hok : s.cropRefusal c o 0 v = 0) (hroom : s.amend.length < 256) :
    ∃ u, exec (.cropWrite t n c o 0 v) s = .next u ∧
    u.rd (R.ISP_OUT_CROP_X0 c o) = v ∧
    ({ unit := s.role.unit, kind := 1, key := R.ISP_OUT_CROP_X0 c o, value := v } : AmendS) ∈ u.amend ∧
    Sent u (.session n) Res.OK [] ∧
    RegsExact [R.ISP_OUT_CROP_X0 c o, R.HMP_LIST_ENTRIES] s u := by
  obtain ⟨x, hx, hses, hact⟩ := gated_inTurn hn hturn t (fun x => x.cropWrite n c o 0 v)
  have hrefusal : x.cropRefusal c o 0 v = 0 := by
    unfold State.cropRefusal at hok ⊢
    rwa [hx.rd_eq]
  rw [cropWrite_applied ((hx.mayLive _).trans hmay) (hx.served.trans hserved) ((hx.rd _).trans hpair) hrefusal] at hact
  have hkept := (State.keepCrops_follows x c (x.lastStarted c 0)).frame
  generalize x.keepCrops c (x.lastStarted c 0) = y at hact hkept
  have hyrole : y.role = s.role := (hkept .role (by decide)).trans hx.role
  have hyamend : y.amend = s.amend := (hkept .amend (by decide)).trans hx.amend
  have hyopen : y.ses.open_.any (fun p => p.2.num = n) = true := by
    rw [hkept .ses (by decide), hses]
    exact hopen
  obtain ⟨hrd, hamend, hsent, hregs⟩ := ispLive_applied (v := v) (u := y) (key := cropKey c o 0)
    (by simp only [cropKey, R.ISP_OUT_CROP_X0]; omega) (by simp only [cropKey, R.ISP_OUT_CROP_X0]; omega) hn hyopen
    (by rwa [hyamend])
  have hkey : cropKey c o 0 = R.ISP_OUT_CROP_X0 c o := Nat.add_zero _
  generalize (y.liveApply (cropKey c o 0) v).reply n Res.OK = u at hact hrd hamend hsent hregs
  rw [hkey] at hrd hamend hregs
  refine ⟨u, congrArg Host.Outcome.next hact, hrd, hyrole ▸ hamend, hsent, ?_⟩
  exact ((hx.regsExact _).trans (.of_reg (hkept .reg (by decide)))).trans hregs

/-- One that breaks a rule is answered VALUE and logged. -/
theorem cropWrite_refuses {f : Nat} (hn : n ≠ 0) (hopen : s.ses.open_.any (fun p => p.2.num = n) = true)
    (hturn : s.turn n (.live (cropKey c o f)) = true) (hmay : s.mayLive n (cropKey c o f) = true)
    (hserved : s.served = true) (hbad : s.cropRefusal c o f v ≠ 0)
    (hlog : (s.begin t).mayLog 0x6006 c 1000000000 = true) (hroom : Room s) :
    ∃ u, exec (.cropWrite t n c o f v) s = .next u ∧
    u.amend = s.amend ∧
    Sent u (.session n) Res.VALUE [] ∧
    Logged s u 0x6006 [(c : Int), (o : Int), (s.cropRefusal c o f v : Int)] ∧
    RegsKept [] s u := by
  have hact : exec (.cropWrite t n c o f v) s = .next (((s.inTurn t n (.live (cropKey c o f))).camLog 0x6006 c
      [(c : Int), (o : Int), (s.cropRefusal c o f v : Int)]).reply n Res.VALUE) :=
    congrArg Host.Outcome.next ((gated_of_turn hn hturn t _).trans (cropWrite_refused hmay hserved hbad))
  obtain ⟨y, hy⟩ : ∃ y, y = (s.inTurn t n (.live (cropKey c o f))).camLog 0x6006 c
      [(c : Int), (o : Int), (s.cropRefusal c o f v : Int)] := ⟨_, rfl⟩
  have hamend : y.amend = s.amend := by
    rw [hy, (State.camLog_follows ..).frame .amend (by decide)]
    rfl
  have hyopen : y.ses.open_.any (fun p => p.2.num = n) = true := by
    rw [← mem_sessionNums, hy, camLog_sessionNums, mem_sessionNums]
    exact hopen
  have hlogged : Logged s y 0x6006 [(c : Int), (o : Int), (s.cropRefusal c o f v : Int)] :=
    hy ▸ camLog_logged rfl rfl hlog hroom
  rw [← hy] at hact
  have hreply := (State.reply_follows y n Res.VALUE []).frame
  exact ⟨_, hact, (hreply .amend (by decide)).trans hamend, reply_sent _ _ _ _ hn hyopen,
    hlogged.of_mirror (hreply .mirror (by decide)), .reply' _ _ _ (hy ▸ .camLog _ _ _ (.of_reg rfl))⟩

/-- A write of PRIO in its turn, up to 15, takes effect and enters the list; the arbiter goes on as it was. -/
theorem ispPrioWrite_writes (hn : n ≠ 0) (hopen : s.ses.open_.any (fun p => p.2.num = n) = true)
    (hturn : s.turn n (.live (R.ISP_ARB_PRIO c)) = true) (hmay : s.mayLive n (R.ISP_ARB_PRIO c) = true) (hlow : 1 ≤ c)
    (hhigh : c ≤ 16) (hserved : s.served = true) (hvalue : v ≤ 15) (hroom : s.amend.length < 256) :
    ∃ u, exec (.ispPrioWrite t n c v) s = .next u ∧
    u.rd (R.ISP_ARB_PRIO c) = v ∧
    ({ unit := s.role.unit, kind := 1, key := R.ISP_ARB_PRIO c, value := v } : AmendS) ∈ u.amend ∧
    u.cams = s.cams ∧
    Sent u (.session n) Res.OK [] ∧
    RegsExact [R.ISP_ARB_PRIO c, R.HMP_LIST_ENTRIES] s u := by
  obtain ⟨x, hx, hses, hact⟩ := gated_inTurn hn hturn t (fun x => x.liveWrite n (R.ISP_ARB_PRIO c) v (v ≤ 15))
  have hwrite : x.liveWrite n (R.ISP_ARB_PRIO c) v (v ≤ 15) = (x.liveApply (R.ISP_ARB_PRIO c) v).reply n Res.OK := by
    rw [decide_eq_true hvalue, liveWrite_applied ((hx.mayLive _).trans hmay) (hx.served.trans hserved)]
  obtain ⟨hrd, hamend, hsent, hregs⟩ := ispLive_applied (v := v) (u := x) (key := R.ISP_ARB_PRIO c)
    (by simp only [R.ISP_ARB_PRIO]; omega) (by simp only [R.ISP_ARB_PRIO]; omega) hn (by rw [hses]; exact hopen)
    (by rwa [hx.amend])
  refine ⟨_, congrArg Host.Outcome.next (hact.trans hwrite), hrd, hx.role ▸ hamend, ?_, hsent, (hx.regsExact _).trans hregs⟩
  rw [(State.reply_follows ..).frame .cams (by decide), liveApply_cams, hx.frame .cams (by decide)]

/-- One above 15 is answered VALUE. -/
theorem ispPrioWrite_refuses (hn : n ≠ 0) (hopen : s.ses.open_.any (fun p => p.2.num = n) = true)
    (hturn : s.turn n (.live (R.ISP_ARB_PRIO c)) = true) (hmay : s.mayLive n (R.ISP_ARB_PRIO c) = true)
    (hserved : s.served = true) (hvalue : 15 < v) :
    ∃ u, exec (.ispPrioWrite t n c v) s = .next u ∧
    Sent u (.session n) Res.VALUE [] ∧
    u.amend = s.amend ∧
    RegsExact [] s u := by
  obtain ⟨x, hx, hses, hact⟩ := gated_inTurn hn hturn t (fun x => x.liveWrite n (R.ISP_ARB_PRIO c) v (v ≤ 15))
  have hwrite : x.liveWrite n (R.ISP_ARB_PRIO c) v (v ≤ 15) = x.reply n Res.VALUE := by
    rw [decide_eq_false (Nat.not_le.mpr hvalue), liveWrite_value ((hx.mayLive _).trans hmay) (hx.served.trans hserved)]
  exact ⟨_, congrArg Host.Outcome.next (hact.trans hwrite), reply_sent _ _ _ _ hn (by rw [hses]; exact hopen),
    ((State.reply_follows ..).frame .amend (by decide)).trans hx.amend, .reply' _ _ _ (hx.regsExact _)⟩

end Live

/-! ### The statement -/

/-- Settles O39: each command of the ISP cores, the settings, the vision networks and the live writes. -/
theorem coresAndVisionComplete : Obligations.CoresAndVisionComplete := by
  unfold Obligations.CoresAndVisionComplete
  refine ⟨?waits, ?drops, ?starts, ?goesOn, ?delivers, ?aborts, ?written, ?abandoned, ?publishes, ?late, ?pair, ?crop,
    ?cropRefused, ?prio, ?prioRefused⟩
  case waits =>
    rintro t c hi f rest s hframes hcoming h0 h1 hstate hothers rfl hdue hbad hlines hwidth hheight
    exact unitReady_waits ⟨hcoming, hdue⟩ ⟨hbad, hlines, hwidth, hheight⟩ hframes h0 h1 hstate hothers
  case drops =>
    rintro t c hi n f s hframes hcoming h0 h1 rfl hdue hn hne hmay hroom
    exact unitReady_drops ⟨hcoming, hdue⟩ hframes h0 h1 hn hne hmay hroom
  case starts =>
    rintro t c hi f s hlow hhigh hframes hready hdone htotal - h0 hcam h1 rfl hdue hbad hlines hwidth hheight
    exact unitReady_starts hlow hhigh ⟨by omega, hdue⟩ ⟨hbad, hlines, hwidth, hheight⟩ hframes hready hdone htotal h0
      hcam h1
  case goesOn =>
    intro t k c n f ae s _ hlow hhigh hcur hdue hframes hfno hmore hready hcam
    exact ispUnitDone_goesOn hlow hhigh ⟨hcur, hdue, hframes, hfno⟩ hmore hready hcam
  case delivers =>
    intro t k c n f e g s _ hlow hhigh hcur hdue hframes hfno hlast hquiet hcam h0 h1 h2 h3 hae hroom
    exact ispUnitDone_delivers hlow hhigh ⟨hcur, hdue, hframes, hfno⟩ hlast hquiet hcam h0 h1 h2 h3 hae hroom
  case aborts =>
    intro t k c n f s _ hlow hhigh hcur hframes hfno hcam _ hmay hroom
    exact ispAbort_drops hlow hhigh hcur hframes hfno hcam hmay hroom
  case written =>
    intro t c e g s hprop hlocked hwindow
    exact settingWrite_written hprop hlocked hwindow
  case abandoned =>
    intro t c s
    exact settingWrite_abandoned t c s
  case publishes =>
    intro t c d values x s _ _ hnext hd hpair htime
    exact visionRun_publishes hnext hd hpair htime
  case late =>
    intro t c d x s _ _ hnext hd hpair hlate hmay hroom
    exact visDrop_drops hnext hd hpair hlate hmay hroom
  case pair =>
    intro t c p g rest s hp hne _ _ hother hgone hmay hroom
    exact visPair_counts hp hne hother hgone hmay hroom
  case crop =>
    intro t n c o v s hn hopen hturn hmay hlow hhigh hout hserved hpair hok hroom
    exact cropWrite_writes hn hopen hturn hmay hlow hhigh hout hserved hpair hok hroom
  case cropRefused =>
    intro t n c o f v s hn hopen hturn hmay _ _ _ _ hserved hbad hlog hroom
    exact cropWrite_refuses hn hopen hturn hmay hserved hbad hlog hroom
  case prio =>
    intro t n c v s hn hopen hturn hmay hlow hhigh hserved hvalue hroom
    exact ispPrioWrite_writes hn hopen hturn hmay hlow hhigh hserved hvalue hroom
  case prioRefused =>
    intro t n c v s hn hopen hturn hmay _ _ hserved hvalue
    exact ispPrioWrite_refuses hn hopen hturn hmay hserved hvalue

end Sys2Proof.Machine
end
